-- ==== Sys2Proof/Word.lean ====
section
/-!
DEFINITION. The word types of the device: bytes, 16-bit halves, 32-bit register words (R3) and 64-bit pairs.
-/

set_option Elab.async false

namespace Sys2Proof

/-- A byte of memory. -/
abbrev Byte := BitVec 8

/-- A 32-bit word: a register, an image word, a core register (R3, R99). -/
abbrev Word := BitVec 32

/-- A sparse table with keys rising strictly and no entry equal to its default: equal tables are equal data. -/
abbrev Tbl (α : Type) := List (Nat × α)

end Sys2Proof
end

