-- ==== Sys2Proof/Syntax.lean ====
section
/-!
DEFINITION. The commands of the block: `Instr` has one constructor per row of spec/opcode_table.json.
Before it stand the types of the commands' operands: who writes a register, what an image holds, what a
frame carries. What the outside world decides (a measured temperature, a check's outcome, a received frame)
is an operand of the command that brings it.
-/

set_option Elab.async false

namespace Sys2Proof

/-- Who performs a register write or sends a command (R4, R148, R581): a core in system privilege, a host
session, or the companion bus. -/
inductive Origin where
  | core (c : Fin 8)
  | host (session : Fin 8)
  | cbus
deriving DecidableEq, Repr

/-- Width of a fabric access in bytes (R3). -/
inductive Width where
  | b1
  | b2
  | b4
deriving DecidableEq, Repr

/-- The kinds of task (R149). -/
inductive TaskKind where
  | cyclic
  | event
  | error
  | init
deriving DecidableEq, Repr

/-- A task descriptor of a program image (R149). PERIOD, PHASE in µs; EXEC_MAX in units of 10 µs. `code`
stands for the task's code: two images hold the same code for a task if and only if the numbers agree. -/
structure TaskDesc where
  num : Nat
  kind : TaskKind := .cyclic
  prio : Nat := 0
  period : Nat := 1000
  phase : Nat := 0
  events : List Nat := []
  errTask : Option Nat := none
  execMax : Nat := 0
  ovrErr : Bool := false
  excSafe : Bool := false
  recipe : Bool := false
  warmInit : Bool := false
  exchInit : Bool := false
  entry : Nat := 0
  code : Nat := 0
deriving DecidableEq, Repr

/-- The instance types of R115. -/
inductive InstType where
  | edge
  | timer
  | counter
deriving DecidableEq, Repr

/-- An instance declared by a program (R115): ID, type, type field of a timer, canvas address, preset, declared PREV,
tasks using it. -/
structure InstDesc where
  id : Nat
  ty : InstType := .edge
  timer : Nat := 1
  addr : Nat := 0
  preset : Word := 0
  prev : Bool := false
  tasks : List Nat := []
deriving DecidableEq, Repr

/-- A variable declared by a program (R184): ID, type, canvas address, initial words, retained or not (R69). -/
structure VarDesc where
  id : Nat
  ty : Nat := 0
  addr : Nat := 0
  init : List Word := []
  retained : Bool := false
deriving DecidableEq, Repr

/-- An owned part of an image word (R147): image word index, bits, owner task. -/
structure OwnDesc where
  word : Nat
  mask : Word := 0xFFFFFFFF
  task : Nat := 0
deriving DecidableEq, Repr

/-- A program image as SEC hands it over once verified (R181, R192). Its byte layout is not part of the
manual (assumption 7). -/
structure Program where
  hash : Nat := 0
  svn : Nat := 0
  ctr : Nat := 1
  signer : Nat := 0
  tasks : List TaskDesc := []
  defaultErr : Option Nat := none
  insts : List InstDesc := []
  vars : List VarDesc := []
  owns : List OwnDesc := []
  /-- Image words written by HOST and CBUS (R147), and by CAN receive objects. -/
  hostInputs : List Nat := []
  canInputs : List Nat := []
  retainBytes : Nat := 0
  /-- Level-5 assignments (R166): pin (channel, 128 + channel for its AOUT, 256 + channel for its axis, 1024 + handle for
  a remote output) and writer (sequencer n, 32 + slot, 544 + axis). -/
  level5 : List (Nat × Nat) := []
  /-- Slots, and 512 + axis, whose set-points or targets a sequencer may write, with the sequencer (R311). -/
  uses : List (Nat × Nat) := []
  /-- Code and constants: canvas address and word. -/
  canvas : List (Nat × Word) := []
  /-- Loop-engine memories: address and word. -/
  engine : List (Nat × Word) := []
  /-- Engines and the bundle at which their copy of the standard loop form begins (assumption 12). -/
  stdForm : List (Nat × Nat) := []
  /-- Event descriptors and group words (R192, R193). -/
  events : List (Nat × Word × Word) := []
  groups : List (Nat × Word) := []
  /-- LPDDR contents the image brings (recipe tables, directory): address and word. -/
  lpddr : List (Nat × Word) := []
  /-- Substitutes of words taken from the leader's channels (R90): image word, 1 zero or 2 the value; others hold. -/
  subst : List (Nat × Nat × Word) := []
deriving DecidableEq, Repr

/-- A firmware image in a bank (R93, R548). -/
structure FwImage where
  hash : Nat := 0
  svn : Nat := 0
  ctr : Nat := 0
  signer : Nat := 0
  verified : Bool := false
  /-- It declares the running journal-format and dispatcher-interface versions compatible. -/
  compat : Bool := false
  format : Nat := 0
  /-- Older journal formats that it accepts (R82, R93), and the format version of each setup record it knows (R65). -/
  accepts : List Nat := []
  recFmt : Tbl Nat := []
deriving DecidableEq, Repr

/-- A running ramp (R316, R325): slot, FIELD, index of its action, ends A and B, duration in µs, TBC count of its start
instant. -/
structure Ramp where
  slot : Nat
  field : Nat
  act : Nat
  a : Int
  b : Int
  d : Nat
  t0 : Int
  /-- A is still to be read from the field at the start instant (FROM_CUR). -/
  cur : Bool := false
deriving DecidableEq, Repr

/-- What the journal keeps of an axis (R69): position, remaining distance, STATE, STOP_CAUSE, POS_LOST, whether
it moves. -/
structure AxisRec where
  act : Int := 0
  rem : Int := 0
  posLost : Bool := false
  st : Nat := 0
  cause : Nat := 0
  moving : Bool := false
deriving DecidableEq, Repr

/-- What it keeps of a fault source (R524). -/
structure SrcRec where
  recov : Nat := 0
  raises : Nat := 0
  esc : Bool := false
  clears : List Nat := []
deriving DecidableEq, Repr

/-- What a delta brings a follower beside words (R71, R87): the program hash of the leader's journal header, sequencers with STATE,
STEP, ACT and elapsed time, ramps by sequencer, retained slot words, axes, fault sources, drop counters. -/
structure PlnkDelta where
  hash : Nat := 0
  seqs : List (Nat × Nat × Nat × Nat × Nat) := []
  ramps : List (Nat × List Ramp) := []
  halves : List (Nat × Nat) := []
  axes : List (Nat × AxisRec) := []
  srcs : List (Nat × SrcRec) := []
  drops : List (Nat × Nat) := []
deriving DecidableEq, Repr

/-- A word that a loop engine has fetched (R97). -/
structure LeFetch where
  e : Fin 8
  w : Word
deriving DecidableEq, Repr

/-- What the environment decides of the steps of DAWN (R60, R61). -/
structure DawnEnv where
  refSrc : Bool := false
  serLocks : Nat := 15
  visoAbsent : List Nat := []
  vfldAbsent : List Nat := []
  selftestFails : Bool := false
  /-- Seal slots whose signature does not verify: die, and 0 for slot A or 1 for slot B (R238). -/
  sealFails : List (Nat × Nat) := []
  calImageFails : Bool := false
  /-- The program slots' images fail, A and B. -/
  programAFails : Bool := false
  programBFails : Bool := false
  fwAFails : Bool := false
  fwBFails : Bool := false
  jnlSizes : Nat × Nat := (64, 64)
  jnlOk : Nat := 3
  /-- Deltas of which a device reads back no right commit word or CRC: device and cycle (R72). -/
  jnlBad : List (Nat × Nat) := []
  /-- Copies of setup records whose CHECK does not hold, cut short by the power loss or damaged: record, and 0 for area A or
  1 for area B (R65, R66). -/
  recBad : List (Nat × Nat) := []
  /-- Event-log slots whose CHECK fails on both devices (R536). -/
  evlBad : List Nat := []
  /-- The stored identity key fails its integrity check (R553). -/
  keyFails : Bool := false
  delays : List Nat := [0, 0, 0, 0]
  /-- NET ports whose link comes up, one bit each. -/
  netUp : Nat := 3
deriving DecidableEq, Repr

/-- STATUS that a station writes into a record that names it (R460). -/
structure GxStatus where
  epoch : Nat := 0
  cyc : Nat := 0
  state : Nat := 15
  sigOk : Bool := false
  inValid : Bool := false
  outReject : Bool := false
  wd : Bool := false
  cfgSig : Nat := 0
deriving DecidableEq, Repr

/-- A record of a Galxis frame (R459): KIND 0 OUT, 1 IN, 2 MBX, 3 MEASURE, 4 IDENT. -/
structure GxRecord where
  station : Nat
  kind : Nat
  go : Bool := false
  data : List Byte := []
  status : GxStatus := {}
deriving DecidableEq, Repr

/-- A Galxis frame (R458): TYPE 0 CYCLIC, 1 MAILBOX, 2 MEASURE, 3 DISCOVER. -/
structure GxFrame where
  type : Nat := 0
  reflected : Bool := false
  fromB : Bool := false
  epoch : Nat := 0
  cycle : Nat := 0
  frag : Nat := 0
  nfrag : Nat := 1
  link : Nat := 0
  cdly : Nat := 0
  txot : Nat := 0
  sampleOt : Nat := 0
  commitOt : Nat := 0
  records : List GxRecord := []
deriving DecidableEq, Repr

/-- The S bit, operands and moves of an LA bundle (R125). -/
structure LaBundle where
  s : Bool := false
  ad : BitVec 2 := 0
  xs : BitVec 3 := 0
  ys : BitVec 2 := 0
  cen : Bool := false
  cd : BitVec 2 := 0
  cix : BitVec 2 := 0
  cinc : Bool := false
  sk : BitVec 2 := 0
  sd : BitVec 3 := 0
  six : BitVec 2 := 0
  sinc : Bool := false
  pen : Bool := false
  pd : Bool := false
deriving DecidableEq, Repr

/-- New factors of a calibration: channel of the cluster, range, gain, offset. -/
abbrev CalFactor := Nat × Nat × Word × Word

/-- An image that LOAD_IMAGE brings, once its last segment has arrived (R474, R547): what SEC's check of it finds
(VRES, 0 passed) and its content by KIND. -/
inductive ImageBody where
  | firmware (image : FwImage)
  | program (image : Program)
  /-- Setup records by number, with their offset and value pairs. -/
  | config (records : List (Nat × List (Nat × Word))) (hash : Nat)
  /-- User factors: channel, range index, offset, gain. -/
  | calibration (factors : List (Nat × Nat × Word × Word)) (hash : Nat)
  /-- Owner slot to program (R550). -/
  | keyRequest (slot : Nat)
deriving DecidableEq, Repr

/-- What SEC finds when it verifies an image (R548): VRES, signer, counter and SVN. -/
structure Verdict where
  vres : Nat := 0
  signer : Nat := 0
  ctr : Nat := 0
  svn : Nat := 0
deriving DecidableEq, Repr

/-- A CAN frame as a controller receives it (R488): identifier, IDE, RTR, DLC, FDF, BRS, ESI, data, and the TBC count of
its SOF edge. -/
structure CanFrame where
  id : Nat := 0
  ide : Bool := false
  rtr : Bool := false
  dlc : Nat := 0
  fdf : Bool := false
  brs : Bool := false
  esi : Bool := false
  data : List Byte := []
  sof : Nat := 0
deriving DecidableEq, Repr

/-- A request of a host session (R474). -/
inductive HostReq where
  | read (handles : List Nat)
  | write (pairs : List (Nat × Word))
  | subscribe (id period : Nat) (handles : List Nat)
  | load (kind offset total len : Nat) (body : Option ImageBody)
  | mode (code : Nat)
  | trace (unit op seq : Nat)
  | regRead (addrs : List Nat)
  | regWrite (pairs : List (Nat × Word))
deriving DecidableEq, Repr

/-- The commands: one constructor per row of spec/opcode_table.json, in its order. An `o` is who sends it. -/
inductive Instr where
  /-- REGISTER_WRITE (R4). -/
  | registerWrite (o : Origin) (off : BitVec 24) (width : Width) (v : Word) (bad : Fin 5)
  /-- EXPERT_EN_WRITE (R7). -/
  | expertEnWrite (o : Origin) (off : BitVec 24) (v : Word)
  /-- LPDDR_RANGE_ACCESS (R2). -/
  | lpddrRangeAccess (write : Bool) (a : BitVec 40)
  /-- UNMAPPED_ACCESS (R49). -/
  | unmappedAccess (write : Bool) (a : BitVec 40)
  /-- FD_WINDOW_ACCESS_COMPLETE (R51). -/
  | fdWindowAccessComplete (o : Origin) (d : Fin 4) (off : BitVec 18) (write : Bool) (v : Word)
  /-- UPSTREAM_SAMPLE_BLOCK (R15). -/
  | upstreamSampleBlock (n : Fin 128) (crcOk : Bool)
  /-- UPSTREAM_SENSE_BLOCK (R15). -/
  | upstreamSenseBlock (n : Fin 128) (crcOk : Bool)
  /-- UPSTREAM_STATUS_BLOCK (R588). -/
  | upstreamStatusBlock (n : Fin 128) (crcOk : Bool)
  /-- DOWNSTREAM_STEP_BLOCK (R347). -/
  | downstreamStepBlock (n : Fin 128) (crcOk : Bool)
  /-- DOWNSTREAM_OUTPUT_BLOCK (R15). -/
  | downstreamOutputBlock (n : Fin 128) (crcOk : Bool)
  /-- UPSTREAM_ESCAPE (R14). -/
  | upstreamEscape (n : Fin 128) (codeOk : Bool)
  /-- DOWNSTREAM_ESCAPE (R14). -/
  | downstreamEscape (n : Fin 128) (codeOk : Bool)
  /-- COUPLER_CLOCK_LOSS (R16). -/
  | couplerClockLoss (d : Fin 4)
  /-- DIE_RESTART (R16). -/
  | dieRestart (o : Origin) (d : Fin 4) (key : Byte)
  /-- DIE_TEMP_MEASURE (R231). -/
  | dieTempMeasure (d : Fin 4) (temp : Int)
  /-- MAIN_PLL_UNLOCK (R35). -/
  | mainPllUnlock
  /-- SERDES_PLL_UNLOCK (R35). -/
  | serdesPllUnlock (pll : Fin 4)
  /-- CLOCK_CROSSCHECK (R35). -/
  | clockCrosscheck (n : Fin 1048576)
  /-- CONVERSION (R210). -/
  | conversion (n : Fin 128) (raw sns : Int) (recovered : Bool)
  /-- SAMPLE_DELIVERY (R28). -/
  | sampleDelivery
  /-- LG_CTRL_WRITE (R41). -/
  | lgCtrlWrite (o : Origin) (g : Fin 32) (v : Word)
  /-- LOCK_GROUP_TICK (R43). -/
  | lockGroupTick (g : Fin 32)
  /-- LOCK_GROUP_TRIGGER (R44). -/
  | lockGroupTrigger (g : Fin 32)
  /-- CH_LG_WRITE (R46). -/
  | chLgWrite (o : Origin) (n : Fin 128) (v : Word)
  /-- SUPPLIES_VALID (R60). -/
  | suppliesValid (env : DawnEnv)
  /-- DAWN_COMPLETE (R60). -/
  | dawnComplete (found : List (Nat × Nat × Nat × Nat)) (copies selftest : Bool)
  /-- SETUP_RECORD_REPAIR (R65). -/
  | setupRecordRepair (id : Fin 55) (ok : Bool)
  /-- RUN (R53). -/
  | run (o : Origin) (key : Byte)
  /-- HOLD (R53). -/
  | hold (o : Origin) (key : Byte)
  /-- ENGINEER (R53). -/
  | engineer (o : Origin) (key : Byte)
  /-- IDLE (R53). -/
  | idle (o : Origin) (key : Byte)
  /-- FOLLOW (R53). -/
  | follow (o : Origin) (key : Byte)
  /-- RESTART_WARM (R83). -/
  | restartWarm (o : Origin) (key : Byte)
  /-- RESTART_COLD (R83). -/
  | restartCold (o : Origin) (key : Byte)
  /-- FW_EXCHANGE (R93). -/
  | fwExchange (o : Origin) (key : Byte)
  /-- FW_CORE_REJOIN (R94). -/
  | fwCoreRejoin (ok : Bool)
  /-- FW_COMMIT (R96). -/
  | fwCommit (o : Origin) (key : Byte)
  /-- FW_ABORT (R95). -/
  | fwAbort (o : Origin) (key : Byte)
  /-- JOURNAL_CYCLE (R70). -/
  | journalCycle
  /-- JOURNAL_DEVICE_FAIL (R75). -/
  | journalDeviceFail (d : Fin 2)
  /-- JOURNAL_DEVICE_RETURN (R75). -/
  | journalDeviceReturn (d : Fin 2)
  /-- JOURNAL_REBUILD_COMPLETE (R75). -/
  | journalRebuildComplete
  /-- JNL_EN_WRITE (R584). -/
  | jnlEnWrite (o : Origin) (v : Word)
  /-- PFAIL_ASSERT (R77). -/
  | pfailAssert
  /-- SUPPLY_FAIL (R566). -/
  | supplyFail
  /-- DUSK_TASK_DEADLINE (R77). -/
  | duskTaskDeadline
  /-- DUSK_FINAL_DELTA (R78). -/
  | duskFinalDelta (held : Bool)
  /-- DUSK_POWER_FAIL_STATE (R77). -/
  | duskPowerFailState
  /-- VAULT_ENTRY (R77). -/
  | vaultEntry
  /-- HEARTBEAT_SEND (R89). -/
  | heartbeatSend
  /-- HEARTBEAT_TIMEOUT (R89). -/
  | heartbeatTimeout
  /-- DUSK (R81). -/
  | dusk
  /-- PLNK_DELTA_RECEIVE (R88). -/
  | plnkDeltaReceive (cycle leader : Nat) (words : List (Nat × Word)) (more : PlnkDelta)
  /-- PLNK_SNAPSHOT_RECEIVE (R87). -/
  | plnkSnapshotReceive (task : Fin 64) (words : List (Nat × Word))
  /-- EPOCH_YIELD (R91). -/
  | epochYield (epoch : BitVec 16)
  /-- ADD (R104). -/
  | add (c : Fin 8) (rd ra rb : BitVec 5)
  /-- SUB (R104). -/
  | sub (c : Fin 8) (rd ra rb : BitVec 5)
  /-- AND (R104). -/
  | and (c : Fin 8) (rd ra rb : BitVec 5)
  /-- OR (R104). -/
  | or (c : Fin 8) (rd ra rb : BitVec 5)
  /-- XOR (R104). -/
  | xor (c : Fin 8) (rd ra rb : BitVec 5)
  /-- SHL (R104). -/
  | shl (c : Fin 8) (rd ra rb : BitVec 5)
  /-- SHR (R104). -/
  | shr (c : Fin 8) (rd ra rb : BitVec 5)
  /-- SRA (R104). -/
  | sra (c : Fin 8) (rd ra rb : BitVec 5)
  /-- SLT (R104). -/
  | slt (c : Fin 8) (rd ra rb : BitVec 5)
  /-- SLTU (R104). -/
  | sltu (c : Fin 8) (rd ra rb : BitVec 5)
  /-- MIN (R104). -/
  | min (c : Fin 8) (rd ra rb : BitVec 5)
  /-- MAX (R104). -/
  | max (c : Fin 8) (rd ra rb : BitVec 5)
  /-- ADDS (R104). -/
  | adds (c : Fin 8) (rd ra rb : BitVec 5)
  /-- SUBS (R104). -/
  | subs (c : Fin 8) (rd ra rb : BitVec 5)
  /-- CMP (R104). -/
  | cmp (c : Fin 8) (ra rb : BitVec 5)
  /-- TST (R104). -/
  | tst (c : Fin 8) (ra rb : BitVec 5)
  /-- MUL (R104). -/
  | mul (c : Fin 8) (rd ra rb : BitVec 5)
  /-- MULH (R104). -/
  | mulh (c : Fin 8) (rd ra rb : BitVec 5)
  /-- MULHU (R104). -/
  | mulhu (c : Fin 8) (rd ra rb : BitVec 5)
  /-- DIV (R105). -/
  | div (c : Fin 8) (rd ra rb : BitVec 5)
  /-- DIVU (R105). -/
  | divu (c : Fin 8) (rd ra rb : BitVec 5)
  /-- REM (R105). -/
  | rem (c : Fin 8) (rd ra rb : BitVec 5)
  /-- REMU (R105). -/
  | remu (c : Fin 8) (rd ra rb : BitVec 5)
  /-- MAC (R104). -/
  | mac (c : Fin 8) (rd ra rb : BitVec 5)
  /-- MACS (R104). -/
  | macs (c : Fin 8) (rd ra rb : BitVec 5)
  /-- MSU (R104). -/
  | msu (c : Fin 8) (rd ra rb : BitVec 5)
  /-- MSUS (R104). -/
  | msus (c : Fin 8) (rd ra rb : BitVec 5)
  /-- RND (R128). -/
  | rnd (c : Fin 8) (rd ra rb : BitVec 5)
  /-- RNDS (R128). -/
  | rnds (c : Fin 8) (rd ra rb : BitVec 5)
  /-- ADD_D (R104). -/
  | addD (c : Fin 8) (rd ra rb : BitVec 5)
  /-- SUB_D (R104). -/
  | subD (c : Fin 8) (rd ra rb : BitVec 5)
  /-- CMP_D (R104). -/
  | cmpD (c : Fin 8) (ra rb : BitVec 5)
  /-- ADDI (R106). -/
  | addi (c : Fin 8) (rd ra : BitVec 5) (imm : BitVec 16)
  /-- ANDI (R106). -/
  | andi (c : Fin 8) (rd ra : BitVec 5) (imm : BitVec 16)
  /-- ORI (R106). -/
  | ori (c : Fin 8) (rd ra : BitVec 5) (imm : BitVec 16)
  /-- XORI (R106). -/
  | xori (c : Fin 8) (rd ra : BitVec 5) (imm : BitVec 16)
  /-- LUI (R106). -/
  | lui (c : Fin 8) (rd : BitVec 5) (imm : BitVec 16)
  /-- CMPI (R106). -/
  | cmpi (c : Fin 8) (ra : BitVec 5) (imm : BitVec 16)
  /-- SHLI (R106). -/
  | shli (c : Fin 8) (rd ra n : BitVec 5)
  /-- SHRI (R106). -/
  | shri (c : Fin 8) (rd ra n : BitVec 5)
  /-- SRAI (R106). -/
  | srai (c : Fin 8) (rd ra n : BitVec 5)
  /-- SAT (R106). -/
  | sat (c : Fin 8) (rd ra : BitVec 5) (n : BitVec 6)
  /-- MFS (R101). -/
  | mfs (c : Fin 8) (rd : BitVec 5) (n : BitVec 16)
  /-- MTS (R101). -/
  | mts (c : Fin 8) (rd : BitVec 5) (n : BitVec 16)
  /-- LD (R107). -/
  | ld (c : Fin 8) (rd base : BitVec 5) (size : BitVec 2) (disp : BitVec 14) (seg : BitVec 8)
  /-- LDU (R107). -/
  | ldu (c : Fin 8) (rd base : BitVec 5) (size : BitVec 2) (disp : BitVec 14) (seg : BitVec 8)
  /-- ST (R107). -/
  | st (c : Fin 8) (rs base : BitVec 5) (size : BitVec 2) (disp : BitVec 14) (seg : BitVec 8)
  /-- B (R109). -/
  | b (c : Fin 8) (cond : BitVec 4) (disp : BitVec 21)
  /-- BL (R109). -/
  | bl (c : Fin 8) (disp : BitVec 21)
  /-- BZ (R109). -/
  | bz (c : Fin 8) (r : BitVec 5) (disp : BitVec 21)
  /-- BNZ (R109). -/
  | bnz (c : Fin 8) (r : BitVec 5) (disp : BitVec 21)
  /-- LDI (R110). -/
  | ldi (c : Fin 8) (rd : BitVec 5) (kind : Bool) (index : BitVec 20)
  /-- STO (R159). -/
  | sto (c : Fin 8) (rs : BitVec 5) (kind : Bool) (index : BitVec 20)
  /-- SETF (R110). -/
  | setf (c : Fin 8) (rs : BitVec 5) (index : BitVec 20)
  /-- CLRF (R110). -/
  | clrf (c : Fin 8) (rs : BitVec 5) (index : BitVec 20)
  /-- EDGR (R117). -/
  | edgr (c : Fin 8) (rd ra rb : BitVec 5)
  /-- EDGF (R117). -/
  | edgf (c : Fin 8) (rd ra rb : BitVec 5)
  /-- TON (R118). -/
  | ton (c : Fin 8) (rd ra rb : BitVec 5)
  /-- TOF (R118). -/
  | tof (c : Fin 8) (rd ra rb : BitVec 5)
  /-- TP (R118). -/
  | tp (c : Fin 8) (rd ra rb : BitVec 5)
  /-- CTU (R120). -/
  | ctu (c : Fin 8) (rd ra rb : BitVec 5)
  /-- CTD (R120). -/
  | ctd (c : Fin 8) (rd ra rb : BitVec 5)
  /-- EVT (R112). -/
  | evt (c : Fin 8) (rd ra rb : BitVec 5)
  /-- WFT (R113). -/
  | wft (c : Fin 8) (rd ra rb : BitVec 5)
  /-- WFT_RETURN (R113). -/
  | wftReturn (c : Fin 8)
  /-- CAS (R114). -/
  | cas (c : Fin 8) (rd ra rb : BitVec 5) (seg : BitVec 8)
  /-- AMOADD (R114). -/
  | amoadd (c : Fin 8) (rd ra rb : BitVec 5) (seg : BitVec 8)
  /-- FENCE (R108). -/
  | fence (c : Fin 8)
  /-- FENCE_I (R108). -/
  | fenceI (c : Fin 8)
  /-- JR (R111). -/
  | jr (c : Fin 8) (ra : BitVec 5)
  /-- JALR (R111). -/
  | jalr (c : Fin 8) (rd ra : BitVec 5)
  /-- TRAP (R111). -/
  | trap (c : Fin 8) (n : BitVec 5)
  /-- BKPT (R180). -/
  | bkpt (c : Fin 8)
  /-- ERET (R111). -/
  | eret (c : Fin 8)
  /-- L_NOP (R126). -/
  | lNop (e : Fin 8) (b : LaBundle)
  /-- L_MAC (R129). -/
  | lMac (e : Fin 8) (b : LaBundle)
  /-- L_MSU (R129). -/
  | lMsu (e : Fin 8) (b : LaBundle)
  /-- L_MPY (R129). -/
  | lMpy (e : Fin 8) (b : LaBundle)
  /-- L_ADD (R126). -/
  | lAdd (e : Fin 8) (b : LaBundle)
  /-- L_SUB (R126). -/
  | lSub (e : Fin 8) (b : LaBundle)
  /-- L_LDA (R126). -/
  | lLda (e : Fin 8) (b : LaBundle)
  /-- L_RND (R128). -/
  | lRnd (e : Fin 8) (b : LaBundle)
  /-- L_SHL (R126). -/
  | lShl (e : Fin 8) (b : LaBundle)
  /-- L_SHR (R126). -/
  | lShr (e : Fin 8) (b : LaBundle)
  /-- L_CLIP (R126). -/
  | lClip (e : Fin 8) (b : LaBundle)
  /-- L_ABS (R126). -/
  | lAbs (e : Fin 8) (b : LaBundle)
  /-- L_NEG (R126). -/
  | lNeg (e : Fin 8) (b : LaBundle)
  /-- L_ACC (R126). -/
  | lAcc (e : Fin 8) (b : LaBundle)
  /-- L_SUM (R126). -/
  | lSum (e : Fin 8) (b : LaBundle)
  /-- L_MOVD (R126). -/
  | lMovd (e : Fin 8) (b : LaBundle)
  /-- L_REP (R131). -/
  | lRep (e : Fin 8) (src : Bool) (count : BitVec 10) (len : BitVec 5)
  /-- L_BRL (R130). -/
  | lBrl (e : Fin 8) (cond : BitVec 3) (ad : BitVec 2) (disp : BitVec 14)
  /-- L_ACT (R133). -/
  | lAct (e : Fin 8)
  /-- L_LDX (R130). -/
  | lLdx (e : Fin 8) (ix : BitVec 3) (v : BitVec 16)
  /-- L_CFX (R124). -/
  | lCfx (e : Fin 8) (ix : BitVec 3) (bc : Bool) (mode : BitVec 2) (step : BitVec 8) (len : BitVec 10)
  /-- L_LDLC (R130). -/
  | lLdlc (e : Fin 8) (v : BitVec 16)
  /-- L_SETLM (R122). -/
  | lSetlm (e : Fin 8) (m : BitVec 4)
  /-- L_LDMP (R130). -/
  | lLdmp (e : Fin 8) (v : BitVec 8)
  /-- L_MOVI (R130). -/
  | lMovi (e : Fin 8) (d : BitVec 3) (v : BitVec 16)
  /-- L_CLRA (R130). -/
  | lClra (e : Fin 8) (ad : BitVec 2)
  /-- L_CLRS (R130). -/
  | lClrs (e : Fin 8)
  /-- DISPATCHER_TICK (R198). -/
  | dispatcherTick
  /-- CORE_CLAIM (R203). -/
  | coreClaim
  /-- AFFINITY_WAIT_EXPIRY (R202). -/
  | affinityWaitExpiry
  /-- SCHED_GRPACK (R197). -/
  | schedGrpack (o : Origin) (v : Word)
  /-- TASK_END (R160). -/
  | taskEnd (c : Fin 8)
  /-- WATCHDOG (R153). -/
  | watchdog (c : Fin 8)
  /-- SET_IN (R170). -/
  | setIn (o : Origin) (key : Byte) (kind : BitVec 4)
  /-- SET_OUT (R172). -/
  | setOut (o : Origin) (key : Byte) (kind : BitVec 4)
  /-- CLEAR_IN (R170). -/
  | clearIn (o : Origin) (key : Byte) (kind : BitVec 4)
  /-- CLEAR_OUT (R172). -/
  | clearOut (o : Origin) (key : Byte) (kind : BitVec 4)
  /-- CLEAR_ALL (R174). -/
  | clearAll (o : Origin) (key : Byte)
  /-- TASK_RESUME (R180). -/
  | taskResume (o : Origin) (key : Byte) (t : Fin 64)
  /-- TASK_DISABLE (R190). -/
  | taskDisable (o : Origin) (key : Byte) (t : Fin 64)
  /-- TASK_ENABLE (R190). -/
  | taskEnable (o : Origin) (key : Byte) (t : Fin 64)
  /-- LOAD_IMAGE (R476). -/
  | loadImage (i : Fin 8) (seq : Nat) (tagOk : Bool) (kind offset total len : Nat) (body : Option ImageBody)
  /-- VERIFICATION_COMPLETE (R548). -/
  | verificationComplete (v : Verdict)
  /-- ARM (R182). -/
  | arm (o : Origin) (key : Byte)
  /-- EXCHANGE_SWITCH (R183). -/
  | exchangeSwitch
  /-- EXCHANGE_RELEASE (R183). -/
  | exchangeRelease
  /-- EXCHANGE_TIMEOUT (R183). -/
  | exchangeTimeout
  /-- COMMIT (R188). -/
  | commit (o : Origin) (key : Byte)
  /-- REVERT (R188). -/
  | revert (o : Origin) (key : Byte)
  /-- DISCARD (R188). -/
  | discard (o : Origin) (key : Byte)
  /-- RANGE_CHANGE (R211). -/
  | rangeChange (o : Origin) (n : Fin 128) (v : Word)
  /-- RANGE_SETTLED (R211). -/
  | rangeSettled (n : Fin 128)
  /-- REFSEL_WRITE (R217). -/
  | refselWrite (o : Origin) (k : Fin 16) (v : Word)
  /-- REF_SETTLED (R217). -/
  | refSettled (k : Fin 16)
  /-- REF_MONITOR (R218). -/
  | refMonitor (k : Fin 16) (uV : Nat)
  /-- CAL (R228). -/
  | cal (o : Origin) (k : Fin 16) (v : Word)
  /-- CALIBRATION_START (R228). -/
  | calibrationStart (k : Fin 16)
  /-- ROLL_CALIBRATION_START (R232). -/
  | rollCalibrationStart (d : Fin 4)
  /-- CALIBRATION_COMPLETE (R228). -/
  | calibrationComplete (k : Fin 16) (factors : List CalFactor)
  /-- AOUT_RANGE_CHANGE (R233). -/
  | aoutRangeChange (o : Origin) (n : Fin 128) (v : Word)
  /-- AOUT_RANGE_SETTLED (R233). -/
  | aoutRangeSettled (n : Fin 128)
  /-- AOUT_UPDATE (R236). -/
  | aoutUpdate (n : Fin 128)
  /-- AOUT_DIAGNOSIS (R234). -/
  | aoutDiagnosis (n : Fin 128) (opened : Bool)
  /-- CERT_BEGIN (R239). -/
  | certBegin (o : Origin) (d : Fin 4) (key : Byte)
  /-- CERT_POINT (R239). -/
  | certPoint (o : Origin) (d : Fin 4) (key : Byte)
  /-- CERT_POINT_COMPLETE (R239). -/
  | certPointComplete (d : Fin 4) (measured : Int)
  /-- CERT_END (R239). -/
  | certEnd (o : Origin) (d : Fin 4) (key : Byte)
  /-- CERT_ABORT (R240). -/
  | certAbort (o : Origin) (d : Fin 4) (key : Byte)
  /-- ACTIVATION_READY (R257). -/
  | activationReady (g : Fin 512)
  /-- ACTIVATION_START (R257). -/
  | activationStart (e : Fin 8)
  /-- ACTIVATION_END (R258). -/
  | activationEnd (e : Fin 8)
  /-- SCRUB_READ (R245). -/
  | scrubRead (e : Fin 8) (off : Fin 1048576)
  /-- LE_FABRIC_WRITE (R244). -/
  | leFabricWrite (o : Origin) (e : Fin 8) (off : Fin 1048576) (size : Fin 3) (v : BitVec 64)
  /-- SLOT_ENABLE (R269). -/
  | slotEnable (o : Origin) (g : Fin 512) (v : Word)
  /-- SLOT_DISABLE (R269). -/
  | slotDisable (o : Origin) (g : Fin 512) (v : Word)
  /-- LE_IMPCFG_WRITE (R251). -/
  | leImpcfgWrite (o : Origin) (e : Fin 8) (k : Fin 64) (v : Word)
  /-- LE_PALREQ_WRITE (R288). -/
  | lePalreqWrite (o : Origin) (e : Fin 8) (m : Fin 2) (v : Word)
  /-- LE_PALGRP_WRITE (R289). -/
  | lePalgrpWrite (o : Origin) (e : Fin 8) (v : Word)
  /-- LEARN_START (R299). -/
  | learnStart (o : Origin) (g : Fin 512) (cogging : Bool)
  /-- LEARN_END (R300). -/
  | learnEnd (o : Origin) (g : Fin 512)
  /-- LEARN_ABORT (R300). -/
  | learnAbort (o : Origin) (g : Fin 512)
  /-- RESTORE (R302). -/
  | restore (o : Origin) (g : Fin 512)
  /-- CLR_STICKY (R304). -/
  | clrSticky (o : Origin) (g : Fin 512)
  /-- RCP_PREPARE (R306). -/
  | rcpPrepare (n : Fin 32)
  /-- RCP_TICK (R319). -/
  | rcpTick (n : Fin 32)
  /-- RCP_START (R322). -/
  | rcpStart (o : Origin) (n : Fin 32) (key : BitVec 8)
  /-- RCP_STOP (R322). -/
  | rcpStop (o : Origin) (n : Fin 32) (key : BitVec 8)
  /-- PAUSE (R322). -/
  | pause (o : Origin) (n : Fin 32) (key : BitVec 8)
  /-- RELEASE (R322). -/
  | release (o : Origin) (n : Fin 32) (key : BitVec 8)
  /-- JUMP (R322). -/
  | jump (o : Origin) (n : Fin 32) (key : BitVec 8)
  /-- PLANNER_UPDATE (R332). -/
  | plannerUpdate
  /-- GO (R334). -/
  | go (o : Origin) (n : Fin 128) (key : BitVec 8)
  /-- GO_REL (R358). -/
  | goRel (o : Origin) (n : Fin 128) (key : BitVec 8)
  /-- AX_STOP (R340). -/
  | axStop (o : Origin) (n : Fin 128) (key : BitVec 8)
  /-- ESTOP (R340). -/
  | estop (o : Origin) (n : Fin 128) (key : BitVec 8)
  /-- AX_RESUME (R340). -/
  | axResume (o : Origin) (n : Fin 128) (key : BitVec 8)
  /-- SETPOS (R358). -/
  | setpos (o : Origin) (n : Fin 128) (key : BitVec 8)
  /-- AX_CLEAR (R340). -/
  | axClear (o : Origin) (n : Fin 128) (key : BitVec 8)
  /-- AXIS_ENABLE (R330). -/
  | axisEnable (o : Origin) (n : Fin 128) (v : Word)
  /-- AXIS_DISABLE (R331). -/
  | axisDisable (o : Origin) (n : Fin 128) (v : Word)
  /-- STEP_MISMATCH (R348). -/
  | stepMismatch (n : Fin 128) (pad : BitVec 4)
  /-- STALL_ESTIMATE (R350). -/
  | stallEstimate (n : Fin 128)
  /-- QENC_EN_WRITE (R356). -/
  | qencEnWrite (o : Origin) (n : Fin 128) (v : Word)
  /-- QERR (R356). -/
  | qerr (n : Fin 128)
  /-- FIO_DIR_WRITE (R359). -/
  | fioDirWrite (o : Origin) (n : Fin 128) (v : Word)
  /-- DEB_WRITE (R361). -/
  | debWrite (o : Origin) (n : Fin 128) (v : Word)
  /-- DEBOUNCE_EXPIRY (R361). -/
  | debounceExpiry (n : Fin 128)
  /-- MAXACT_WRITE (R363). -/
  | maxactWrite (o : Origin) (n : Fin 128) (v : Word)
  /-- MAXACT_EXPIRY (R363). -/
  | maxactExpiry (n : Fin 128)
  /-- SWITCH_THERMAL_TRIP (R366). -/
  | switchThermalTrip (n : Fin 128)
  /-- SWITCH_COOLED (R366). -/
  | switchCooled (n : Fin 128)
  /-- OVERCURRENT_QUALIFIED (R367). -/
  | overcurrentQualified (n : Fin 128) (present : Bool)
  /-- VFLD_MISSING (R368). -/
  | vfldMissing (r : Fin 8)
  /-- VFLD_PRESENT (R368). -/
  | vfldPresent (r : Fin 8)
  /-- ISUM_MEASURE (R369). -/
  | isumMeasure (r : Fin 8) (sum : Fin 4096)
  /-- REGION_RESTART (R370). -/
  | regionRestart (o : Origin) (r : Fin 8) (v : Word)
  /-- ILM_INPUT_CHANGE (R378). -/
  | ilmInputChange (i : Fin 288) (level : Bool)
  /-- ILM_FILTER_EXPIRY (R380). -/
  | ilmFilterExpiry (i : Fin 288)
  /-- ILM_TERM_WRITE (R384). -/
  | ilmTermWrite (o : Origin) (set : Bool) (t : Fin 512) (w : Fin 4) (v : Word)
  /-- LOAD (R381). -/
  | load (o : Origin) (key : Byte)
  /-- SWAP (R384). -/
  | swap (o : Origin) (key : Byte)
  /-- SWAP_APPLY (R384). -/
  | swapApply
  /-- SWAP_OVERLAP_END (R384). -/
  | swapOverlapEnd
  /-- CLEAR_LATCH (R385). -/
  | clearLatch (o : Origin) (key : Byte)
  /-- ILM_CLEAR_ALL (R385). -/
  | ilmClearAll (o : Origin) (key : Byte)
  /-- CB_READ (R389). -/
  | cbRead (a : BitVec 24)
  /-- CB_WRITE (R392). -/
  | cbWrite (a : BitVec 24) (v : Word) (idle : Bool)
  /-- CB_FIFO_APPLY (R392). -/
  | cbFifoApply
  /-- STREAM_ENABLE (R397). -/
  | streamEnable (o : Origin) (m : Fin 1024) (v : Word)
  /-- BLOCK_CLOSE (R399). -/
  | blockClose (m : Fin 1024)
  /-- PAGE_CLOSE (R399). -/
  | pageClose (u : Fin 16)
  /-- STREAM_RESUME (R410). -/
  | streamResume
  /-- DECIMATION_STEP (R409). -/
  | decimationStep
  /-- DECIMATION_UNDO (R409). -/
  | decimationUndo
  /-- NVME_BRINGUP (R405). -/
  | nvmeBringup (linkUp gen4 speedOk : Bool) (lanes : Fin 5) (drive : Option Bool)
  /-- NVME_WRITE_COMPLETE (R406). -/
  | nvmeWriteComplete (u : Fin 16) (ok : Bool)
  /-- NVME_FLUSH (R406). -/
  | nvmeFlush (u : Fin 16)
  /-- RETRY (R406). -/
  | retry (o : Origin) (key : BitVec 8)
  /-- UNIT_ARM (R411). -/
  | unitArm (o : Origin) (u : Fin 16) (key : BitVec 8)
  /-- UNIT_STOP (R411). -/
  | unitStop (o : Origin) (u : Fin 16) (key : BitVec 8)
  /-- FORCE (R412). -/
  | force (o : Origin) (u : Fin 16) (key : BitVec 8)
  /-- UNIT_CLEAR (R411). -/
  | unitClear (o : Origin) (u : Fin 16) (key : BitVec 8)
  /-- TRIGGER_EVALUATION (R413). -/
  | triggerEvaluation (u : Fin 16) (edges : List (Nat × Bool × Nat × Nat × Nat))
  /-- AUTO_TIMEOUT (R415). -/
  | autoTimeout (u : Fin 16)
  /-- RECORD_COPY_COMPLETE (R415). -/
  | recordCopyComplete (u : Fin 16)
  /-- HOLDOFF_EXPIRY (R415). -/
  | holdoffExpiry (u : Fin 16)
  /-- TRIGGER_OUTPUT_END (R412). -/
  | triggerOutputEnd (u : Fin 16)
  /-- DOMAIN_UPDATE (R427). -/
  | domainUpdate (o : Origin) (d : Fin 3) (v : Word)
  /-- DOMAIN_UPDATE_COMMIT (R427). -/
  | domainUpdateCommit (d : Fin 3)
  /-- SYNC (R431). -/
  | sync (d : Fin 2) (master seq : Nat) (log : Int) (twoStep : Bool) (t1 corr : Int) (frac : Byte)
  /-- ANNOUNCE (R430). -/
  | announce (d : Fin 2) (master rank timeout : Nat) (utcOfs : BitVec 11)
  /-- PDELAY_REQ (R430). -/
  | pdelayReq (d : Fin 2) (seq : Nat)
  /-- DELAY_REQ_SEND (R430). -/
  | delayReqSend (d : Fin 2)
  /-- SYNC_TIMEOUT (R428). -/
  | syncTimeout (d : Fin 2)
  /-- HOLDOVER_EXPIRY (R428). -/
  | holdoverExpiry (d : Fin 2)
  /-- REVERT_EXPIRY (R435). -/
  | revertExpiry
  /-- SNAP (R444). -/
  | snap (o : Origin) (key : Byte)
  /-- SELECT (R435). -/
  | select (o : Origin) (key : Byte) (d : Fin 4)
  /-- ACCEPT (R438). -/
  | accept (o : Origin) (key : Byte) (d : Fin 4)
  /-- DISMISS (R438). -/
  | dismiss (o : Origin) (key : Byte) (d : Fin 4)
  /-- TDC_CALIBRATION (R424). -/
  | tdcCalibration
  /-- TSO_ENABLE (R442). -/
  | tsoEnable (o : Origin) (t : Fin 8) (v : Word)
  /-- TSO_PULSE (R443). -/
  | tsoPulse (t : Fin 8)
  /-- TSO_PULSE_END (R441). -/
  | tsoPulseEnd (t : Fin 8)
  /-- LINK_START (R457). -/
  | linkStart (o : Origin) (n : Fin 16) (v : Word)
  /-- MEASURE_COMPLETE (R462). -/
  | measureComplete (n : Fin 16) (tx rx : Int) (times : List (Nat × Nat × Nat × Nat))
  /-- OUTPUT_IMAGE_TAKE (R455). -/
  | outputImageTake (n : Fin 16)
  /-- FRAME_TRANSMIT (R455). -/
  | frameTransmit (n : Fin 16)
  /-- FRAME_RECEIVE (R461). -/
  | frameReceive (port : Fin 16) (fcsOk : Bool) (f : GxFrame)
  /-- INPUT_PUBLISH (R455). -/
  | inputPublish (n : Fin 16)
  /-- MAILBOX_REQUEST (R468). -/
  | mailboxRequest (o : Origin) (n : Fin 16) (v : Word)
  /-- MAILBOX_COMPLETE (R468). -/
  | mailboxComplete (n : Fin 16)
  /-- READ (R474). -/
  | read (i : Fin 8) (seq : Nat) (tagOk : Bool) (handles : List Nat)
  /-- WRITE (R475). -/
  | write (i : Fin 8) (seq : Nat) (tagOk : Bool) (pairs : List (Nat × Word))
  /-- SUBSCRIBE (R474). -/
  | subscribe (i : Fin 8) (seq : Nat) (tagOk : Bool) (id period : Nat) (handles : List Nat)
  /-- NOTIFY (R478). -/
  | notify (i : Fin 8) (id : Fin 4)
  /-- MODE (R476). -/
  | mode (i : Fin 8) (seq : Nat) (tagOk : Bool) (code : Byte)
  /-- TRACE_START (R479). -/
  | traceStart (i : Fin 8) (seq : Nat) (tagOk : Bool) (u : Fin 16)
  /-- TRACE_STOP (R479). -/
  | traceStop (i : Fin 8) (seq : Nat) (tagOk : Bool) (u : Fin 16)
  /-- TRACE_ACK (R479). -/
  | traceAck (i : Fin 8) (seq : Nat) (tagOk : Bool) (u : Fin 16) (page : Nat)
  /-- TRACE_RETRANSMIT (R479). -/
  | traceRetransmit (u : Fin 16)
  /-- REG_READ (R477). -/
  | regRead (i : Fin 8) (seq : Nat) (tagOk : Bool) (addrs : List Nat)
  /-- REG_WRITE (R477). -/
  | regWrite (i : Fin 8) (seq : Nat) (tagOk : Bool) (pairs : List (Nat × Word))
  /-- HELLO (R555). -/
  | hello (role : Fin 3)
  /-- FINISH (R556). -/
  | finish (i : Fin 8) (table : Option (Fin 3)) (sigOk tagOk : Bool)
  /-- HANDSHAKE_LAPSE (R556). -/
  | handshakeLapse (i : Fin 8)
  /-- SESSION_IDLE_CLOSE (R471). -/
  | sessionIdleClose (i : Fin 8)
  /-- GAPCLOSE (R473). -/
  | gapclose (i : Fin 8)
  /-- CAN_FRAME_RECEIVE (R487). -/
  | canFrameReceive (n : Fin 8) (f : CanFrame)
  /-- CAN_PERIODIC (R489). -/
  | canPeriodic (n : Fin 8) (m : Fin 256)
  /-- TXREQ (R489). -/
  | txreq (o : Origin) (n : Fin 8) (m : Fin 256) (v : Word)
  /-- CAN_TX_COMPLETE (R490). -/
  | canTxComplete (n : Fin 8) (code : Fin 9)
  /-- BOR (R494). -/
  | bor (o : Origin) (n : Fin 8) (key : Byte)
  /-- BOR_COMPLETE (R494). -/
  | borComplete (n : Fin 8)
  /-- CANSUP_RECOVERY (R495). -/
  | cansupRecovery (n : Fin 8)
  /-- ABD_START (R496). -/
  | abdStart (o : Origin) (n : Fin 8) (key : Byte)
  /-- ABD_STOP (R496). -/
  | abdStop (o : Origin) (n : Fin 8) (key : Byte)
  /-- ABD_TIMEOUT (R496). -/
  | abdTimeout (n : Fin 8)
  /-- OPMODE_WRITE (R484). -/
  | opmodeWrite (o : Origin) (n : Fin 8) (v : Word)
  /-- POP (R492). -/
  | pop (o : Origin) (n : Fin 8) (v : Word)
  /-- FIFO_RD_WRITE (R491). -/
  | fifoRdWrite (o : Origin) (n : Fin 8) (v : Word)
  /-- SENTINEL_EVALUATION (R499). -/
  | sentinelEvaluation (sinA sinB : BitVec 8)
  /-- DISCREPANCY_EXPIRY (R501). -/
  | discrepancyExpiry (n : Fin 8)
  /-- READBACK_MISMATCH (R504). -/
  | readbackMismatch (n : Fin 8)
  /-- TEST_PULSE (R505). -/
  | testPulse (n : Fin 8)
  /-- TEST_PULSE_END (R505). -/
  | testPulseEnd (p l back : Bool)
  /-- SAFE_REQ_WRITE (R500). -/
  | safeReqWrite (o : Origin) (v : Word)
  /-- CORE_REPORT (R500). -/
  | coreReport (padP padN : BitVec 8)
  /-- CORE_SILENT (R500). -/
  | coreSilent
  /-- DELIBERATE_RESET (R508). -/
  | deliberateReset (skew held release : BitVec 32) (selftest : Bool)
  /-- PENDING_AREA_WRITE (R511). -/
  | pendingAreaWrite (o : Origin) (w : Fin 512) (v : Word)
  /-- SAFE_CONFIRM (R511). -/
  | safeConfirm (o : Origin) (v : Word)
  /-- CONFIRM_WINDOW_EXPIRY (R511). -/
  | confirmWindowExpiry
  /-- BHT_START (R513). -/
  | bhtStart (o : Origin) (key : BitVec 8) (n : Fin 8)
  /-- BHT_PHASE_END (R514). -/
  | bhtPhaseEnd
  /-- BHT_ABORT (R514). -/
  | bhtAbort (o : Origin) (key : BitVec 8) (n : Fin 8)
  /-- PEND_CLEAR (R515). -/
  | pendClear (o : Origin) (key : BitVec 8) (n : Fin 8)
  /-- BHT_DUE_EXPIRY (R514). -/
  | bhtDueExpiry (n : Fin 8)
  /-- BHT_GRACE_EXPIRY (R514). -/
  | bhtGraceExpiry (n : Fin 8)
  /-- VSEN_FAULT (R568). -/
  | vsenFault
  /-- FAULT_RAISE (R519). -/
  | faultRaise (src : Fin 512) (unit : Fin 4096) (named : Fin 6) (cond : Bool)
  /-- QUIET_EXPIRY (R522). -/
  | quietExpiry (n : Fin 512)
  /-- SEV_WRITE (R520). -/
  | sevWrite (o : Origin) (n : Fin 512) (v : Word)
  /-- FLT_CLEAR (R522). -/
  | fltClear (o : Origin) (key : Byte)
  /-- FLT_CLEAR_ALL (R522). -/
  | fltClearAll (o : Origin) (key : Byte)
  /-- RAISE (R521). -/
  | raise (o : Origin) (key : Byte)
  /-- INJECT (R531). -/
  | inject (o : Origin) (key : Byte)
  /-- INJECTION_LAPSE (R531). -/
  | injectionLapse
  /-- LOCKSTEP_MISMATCH (R525). -/
  | lockstepMismatch (c : Fin 8)
  /-- CORE_REJOIN (R525). -/
  | coreRejoin (c : Fin 8) (ok : Bool)
  /-- TOKEN_REFILL (R538). -/
  | tokenRefill (c : Fin 4096)
  /-- EVL_WRITE (R546). -/
  | evlWrite (o : Origin) (key : Byte) (wcode : Fin 4096)
  /-- CLEAR_LOG (R541). -/
  | clearLog (o : Origin) (key : Byte)
  /-- EVL_RDSEL_WRITE (R546). -/
  | evlRdselWrite (o : Origin) (v : Word)
  /-- EVL_CODE_WRITE (R546). -/
  | evlCodeWrite (o : Origin) (c : Fin 4096) (v : Word)
  /-- CLEAR_TAMP (R543). -/
  | clearTamp (o : Origin) (key : Byte)
  /-- VBAT_LOST (R543). -/
  | vbatLost
  /-- XTAL_STOP (R543). -/
  | xtalStop
  /-- CASE_OPEN (R543). -/
  | caseOpen (low : Bool)
  /-- ATTEST (R554). -/
  | attest (o : Origin) (key : Byte)
  /-- REVOKE (R551). -/
  | revoke (o : Origin) (key : Byte) (n : Fin 8)
  /-- VISO5_FAIL (R567). -/
  | viso5Fail (d : Fin 4)
  /-- VISO5_RETURN (R567). -/
  | viso5Return (d : Fin 4) (lo hi : Bool)
  /-- CORE_OVERTEMP (R579). -/
  | coreOvertemp
  /-- COUPLER_CLOCK_RETURN (R16). -/
  | couplerClockReturn (d : Fin 4)
  /-- STEP_GENERATOR_CROSSING (R344). -/
  | stepGeneratorCrossing (n : Fin 128)
  /-- CAN_BUS_ERROR (R482). -/
  | canBusError (n : Fin 8) (code : Fin 7) (eight : Bool)
  /-- CAN_BUS_INTEGRATION (R484). -/
  | canBusIntegration (n : Fin 8)
  /-- NET_LINK_LOSS (R516). -/
  | netLinkLoss (p : Fin 2)
  /-- PLNK_LINK_LOSS (R91). -/
  | plnkLinkLoss
  /-- HEARTBEAT_RECEIVE (R87). -/
  | heartbeatReceive (epoch : BitVec 16) (image : Option Nat)
  /-- FOLLOW_UP (R431). -/
  | followUp (d : Fin 2) (master seq : Nat) (t1 corr : Int)
  /-- DELAY_RESP (R431). -/
  | delayResp (d : Fin 2) (master seq : Nat) (t4 corr : Int)
  /-- PDELAY_RESP (R430). -/
  | pdelayResp (d : Fin 2) (seq : Nat) (turn : Int) (frac : Byte)
  /-- ARP_REQUEST (R471). -/
  | arpRequest (p : Fin 2) (ip : Word)
  /-- ICMP_ECHO_REQUEST (R471). -/
  | icmpEchoRequest (p : Fin 2) (ip : Word)
  /-- CORE_COOLED (R579). -/
  | coreCooled (env : DawnEnv)
  /-- MEMORY_SCRUB_READ (R516). -/
  | memoryScrubRead (a : BitVec 40)
  /-- ILLEGAL_ENCODING (R98). -/
  | illegalEncoding (c : Fin 8) (w : Word)
  /-- UNDEF_BUNDLE (R145). -/
  | undefBundle (f : LeFetch)
deriving DecidableEq, Repr

end Sys2Proof
end

