-- ==== Sys2Proof/Decode.lean ====
section
/-!
DEFINITION. Reading a command from a word of spec/opcode_table.json: no row of that table gives bits.
-/

set_option Elab.async false

namespace Sys2Proof

/-- The command that a word spells: none, since no row gives bits (assumption 6). -/
def decodeTableWord (_nbits _w : Nat) : Option Instr := none

end Sys2Proof
end

