-- ==== Sys2Proof/Machine/Flags.lean ====
section
/-!
DEFINITION. The flags word FL of a control core (R100) and every computation of a flag (R100, R104, R106).
-/

set_option Elab.async false

namespace Sys2Proof.Machine

/-- FL with Z, N, C and V replaced; SAT, P and the reserved bits stay. -/
def flSet (fl : Word) (z n c v : Bool) : Word :=
  (fl &&& 0xFFFFFFF0) ||| (if z then 1 else 0) ||| (if n then 2 else 0) ||| (if c then 4 else 0) |||
    (if v then 8 else 0)

def flZ (fl : Word) : Bool := fl.getLsbD 0
def flN (fl : Word) : Bool := fl.getLsbD 1
def flC (fl : Word) : Bool := fl.getLsbD 2
def flV (fl : Word) : Bool := fl.getLsbD 3
def flSat (fl : Word) : Bool := fl.getLsbD 4
/-- P: 1 system, 0 task. -/
def flP (fl : Word) : Bool := fl.getLsbD 8

/-- FL after a saturating instruction: SAT set if it clamped, else kept (sticky). -/
def flMark (fl : Word) (clamped : Bool) : Word := if clamped then fl ||| 0x10 else fl

/-- Z, N, C, V of the difference a − b in `w` bits: C is no borrow, V signed overflow (R100). -/
def flCompare {w : Nat} (fl : Word) (a b : BitVec w) : Word :=
  let d := a - b
  flSet fl (d == 0) d.msb (b.toNat ≤ a.toNat) (a.msb != b.msb && d.msb != a.msb)

/-- Z and N of a conjunction, C and V cleared (TST). -/
def flTest (fl a b : Word) : Word := flSet fl (a &&& b == 0) (a &&& b).msb false false

/-- The condition codes of B (R109). -/
def flCond (fl : Word) (c : BitVec 4) : Bool :=
  match c.toNat with
  | 0 => flZ fl
  | 1 => !flZ fl
  | 2 => flN fl != flV fl
  | 3 => flN fl == flV fl
  | 4 => flZ fl || flN fl != flV fl
  | 5 => !flZ fl && flN fl == flV fl
  | 6 => !flC fl
  | 7 => flC fl
  | 8 => !flC fl || flZ fl
  | 9 => flC fl && !flZ fl
  | 10 => flN fl
  | 11 => !flN fl
  | 12 => flV fl
  | 13 => !flV fl
  | 14 => flSat fl
  | _ => true

/-- An integer held to the signed range of `w` bits, and whether that changed it. -/
def satSigned (w : Nat) (i : Int) : Int × Bool :=
  let hi : Int := 2 ^ (w - 1) - 1
  let lo : Int := -(2 ^ (w - 1))
  if hi < i then (hi, true) else if i < lo then (lo, true) else (i, false)

/-- rnd without saturation: half up to Q15, wrapped to 16 bits; true if it wrapped (R128). -/
def rndWrap (a : Int) : Int × Bool :=
  let t := (a + 32768) / 65536
  if 32767 < t ∨ t < -32768 then (t - 65536 * ((t + 32768) / 65536), true) else (t, false)

/-- rnd with saturation to 16 bits (R128). -/
def rndSat (a : Int) : Int × Bool := satSigned 16 ((a + 32768) / 65536)

end Sys2Proof.Machine
end

