-- ==== Sys2Proof/Config.lean ====
section
/-!
DEFINITION. What the manual leaves open: constants with no value that a proof could see. A statement that
mentions one holds for every value of it.
-/

set_option Elab.async false

namespace Sys2Proof.Config

/-- A value the manual leaves undefined or does not state; `n` counts the values drawn so far
(assumption 1). -/
opaque freeValue : Nat → BitVec 64

/-- Place of an event-log code within its range; the assignment is the firmware's (R537, assumption 2). -/
opaque evlCode : Nat → Nat

/-- The module's UID (R547, R554, assumption 14). -/
opaque moduleUid : Nat

/-- SHA-384 of the conversion firmware of a field die (R237, R238, assumption 14). -/
opaque dieFwHash : Nat → Nat

end Sys2Proof.Config
end

