-- ==== Sys2Proof/Machine/RegBase.lean ====
section
/-!
DEFINITION. The vocabulary of the register map: where a field stands (`Loc`), what type it has (R4) and
how one row of the map is written down (`RegRow`).
-/

set_option Elab.async false

namespace Sys2Proof.Machine

/-- A field of a register: the register's address, the field's lowest bit and its width. -/
structure Loc where
  addr : Nat
  lo : Nat
  width : Nat
deriving DecidableEq, Repr

/-- The field types of R4. -/
inductive FieldType where
  /-- RW: a write sets the value. -/
  | rw
  /-- RO: a write is ignored. -/
  | ro
  /-- W1C: a written 1 clears the bit. -/
  | w1c
  /-- W1S: a written 1 sets the bit. -/
  | w1s
  /-- WO: reads 0; a write acts. -/
  | wo
  /-- RWS: as RW, and kept by a warm restart. -/
  | rws
deriving DecidableEq, Repr

/-- One field of a register row: its bits, type, reset value and whether it is of the expert level (R7). -/
structure FieldDef where
  hi : Nat
  lo : Nat
  ty : FieldType
  reset : Nat
  expert : Bool
deriving DecidableEq, Repr

/-- One register, or an array of registers: base address, index dimensions (count, stride) and fields. -/
structure RegRow where
  base : Nat
  dims : List (Nat × Nat)
  fields : List FieldDef
deriving DecidableEq, Repr

/-- The mask of the bits `hi` down to `lo`. -/
def fieldMask (hi lo : Nat) : Nat := (2 ^ (hi + 1 - lo) - 1) * 2 ^ lo

/-- Does the offset `off` name an element of an array with these dimensions? The strides are met one after
the other, and nothing may be left over. -/
def dimsHit : List (Nat × Nat) → Nat → Bool
  | [], off => off == 0
  | (count, stride) :: ds, off => off / stride < count && dimsHit ds (off % stride)

/-- Is `a` an address of the row? -/
def RegRow.hit (r : RegRow) (a : Nat) : Bool := r.base ≤ a && dimsHit r.dims (a - r.base)

/-- The reset value of a row: its fields' reset values put together. -/
def RegRow.resetValue (r : RegRow) : Nat :=
  r.fields.foldl (fun acc f => acc + f.reset % 2 ^ (f.hi + 1 - f.lo) * 2 ^ f.lo) 0

end Sys2Proof.Machine
end

