-- ==== Sys2Proof/Machine/Fields.lean ====
section
/-!
DEFINITION. Where every field of every register stands: one `Loc` (register address, lowest bit, width)
per field of the register tables of spec/ (R36 to R557), named REGISTER_FIELD as the manual names them.
Indices: `n` a channel, `k` a cluster, `r` a region, `s` a loop slot are device-wide numbers (R17).
-/

set_option Elab.async false

namespace Sys2Proof.Machine.F


/-! ### Block SYS -/

/-- SYS_CTRL.EXPERT_EN, bits 31..31 (R56). -/
def SYS_CTRL_EXPERT_EN : Loc := ⟨0xF0000000, 31, 1⟩
/-- SYS_MODE.MODE_SEQ, bits 15..8 (R56). -/
def SYS_MODE_MODE_SEQ : Loc := ⟨0xF0000004, 8, 8⟩
/-- SYS_MODE.PREV, bits 6..4 (R56). -/
def SYS_MODE_PREV : Loc := ⟨0xF0000004, 4, 3⟩
/-- SYS_MODE.MODE, bits 2..0 (R56). -/
def SYS_MODE_MODE : Loc := ⟨0xF0000004, 0, 3⟩
/-- SYS_CMD.KEY, bits 31..24 (R57). -/
def SYS_CMD_KEY : Loc := ⟨0xF0000008, 24, 8⟩
/-- SYS_CMD.CODE, bits 7..0 (R57). -/
def SYS_CMD_CODE : Loc := ⟨0xF0000008, 0, 8⟩
/-- SYS_CMDSTAT.CODE, bits 31..24 (R56). -/
def SYS_CMDSTAT_CODE : Loc := ⟨0xF000000C, 24, 8⟩
/-- SYS_CMDSTAT.RESULT, bits 3..0 (R56). -/
def SYS_CMDSTAT_RESULT : Loc := ⟨0xF000000C, 0, 4⟩
/-- SYS_RSTPOL.WARM_MAX, bits 23..8 (R58). -/
def SYS_RSTPOL_WARM_MAX : Loc := ⟨0xF0000010, 8, 16⟩
/-- SYS_RSTPOL.DAWN_CAL, bits 2..2 (R58). -/
def SYS_RSTPOL_DAWN_CAL : Loc := ⟨0xF0000010, 2, 1⟩
/-- SYS_RSTPOL.AUTO_RESUME, bits 1..1 (R58). -/
def SYS_RSTPOL_AUTO_RESUME : Loc := ⟨0xF0000010, 1, 1⟩
/-- SYS_RSTPOL.WARM_EN, bits 0..0 (R58). -/
def SYS_RSTPOL_WARM_EN : Loc := ⟨0xF0000010, 0, 1⟩
/-- SYS_RESTART.DISCARDED, bits 31..16 (R59). -/
def SYS_RESTART_DISCARDED : Loc := ⟨0xF0000014, 16, 16⟩
/-- SYS_RESTART.COLD_REASON, bits 7..4 (R59). -/
def SYS_RESTART_COLD_REASON : Loc := ⟨0xF0000014, 4, 4⟩
/-- SYS_RESTART.KIND, bits 1..0 (R59). -/
def SYS_RESTART_KIND : Loc := ⟨0xF0000014, 0, 2⟩
/-- SYS_OUTAGE_LO.TICKS_LO, bits 31..0 (R59). -/
def SYS_OUTAGE_LO_TICKS_LO : Loc := ⟨0xF0000018, 0, 32⟩
/-- SYS_OUTAGE_HI.TICKS_HI, bits 7..0 (R59). -/
def SYS_OUTAGE_HI_TICKS_HI : Loc := ⟨0xF000001C, 0, 8⟩
/-- SYS_DAWN_TIME.DAWN_US, bits 31..0 (R59). -/
def SYS_DAWN_TIME_DAWN_US : Loc := ⟨0xF0000020, 0, 32⟩
/-- SYS_MEMSIZE.MIB, bits 15..0 (R56). -/
def SYS_MEMSIZE_MIB : Loc := ⟨0xF0000024, 0, 16⟩
/-- SYS_CFGSTAT.BITS, bits 31..0 (R67). -/
def SYS_CFGSTAT_BITS (k : Nat) : Loc := ⟨0xF0000030 + 0x4 * (k % 2), 0, 32⟩
/-- SYS_CFGWARN.BITS, bits 31..0 (R65). -/
def SYS_CFGWARN_BITS (k : Nat) : Loc := ⟨0xF0000038 + 0x4 * (k % 2), 0, 32⟩
/-- SYS_FWSTAT.BOOT, bits 31..31 (R96). -/
def SYS_FWSTAT_BOOT : Loc := ⟨0xF0000040, 31, 1⟩
/-- SYS_FWSTAT.STATE, bits 15..8 (R96). -/
def SYS_FWSTAT_STATE : Loc := ⟨0xF0000040, 8, 8⟩
/-- SYS_FWSTAT.BANKS, bits 7..0 (R96). -/
def SYS_FWSTAT_BANKS : Loc := ⟨0xF0000040, 0, 8⟩
/-- SCAN_STAT.TCMD_RESULT, bits 21..18 (R190). -/
def SCAN_STAT_TCMD_RESULT : Loc := ⟨0xF0000100, 18, 4⟩
/-- SCAN_STAT.HALTED, bits 17..14 (R190). -/
def SCAN_STAT_HALTED : Loc := ⟨0xF0000100, 14, 4⟩
/-- SCAN_STAT.FORCE_ACT, bits 13..13 (R190). -/
def SCAN_STAT_FORCE_ACT : Loc := ⟨0xF0000100, 13, 1⟩
/-- SCAN_STAT.FORCE_COUNT, bits 12..0 (R190). -/
def SCAN_STAT_FORCE_COUNT : Loc := ⟨0xF0000100, 0, 13⟩
/-- FORCE_CMD.KEY, bits 31..24 (R190). -/
def FORCE_CMD_KEY : Loc := ⟨0xF0000104, 24, 8⟩
/-- FORCE_CMD.KIND, bits 11..8 (R190). -/
def FORCE_CMD_KIND : Loc := ⟨0xF0000104, 8, 4⟩
/-- FORCE_CMD.CODE, bits 7..0 (R190). -/
def FORCE_CMD_CODE : Loc := ⟨0xF0000104, 0, 8⟩
/-- FORCE_KEY.KEY, bits 31..0 (R190). -/
def FORCE_KEY_KEY : Loc := ⟨0xF0000108, 0, 32⟩
/-- FORCE_VAL.VALUE, bits 31..0 (R190). -/
def FORCE_VAL_VALUE : Loc := ⟨0xF000010C, 0, 32⟩
/-- FORCE_MASK.MASK, bits 31..0 (R190). -/
def FORCE_MASK_MASK : Loc := ⟨0xF0000110, 0, 32⟩
/-- FORCE_STAT.CODE, bits 31..24 (R190). -/
def FORCE_STAT_CODE : Loc := ⟨0xF0000114, 24, 8⟩
/-- FORCE_STAT.INDEX, bits 15..4 (R190). -/
def FORCE_STAT_INDEX : Loc := ⟨0xF0000114, 4, 12⟩
/-- FORCE_STAT.RESULT, bits 3..0 (R190). -/
def FORCE_STAT_RESULT : Loc := ⟨0xF0000114, 0, 4⟩
/-- EXCH_CMD.KEY, bits 31..24 (R190). -/
def EXCH_CMD_KEY : Loc := ⟨0xF0000120, 24, 8⟩
/-- EXCH_CMD.CODE, bits 7..0 (R190). -/
def EXCH_CMD_CODE : Loc := ⟨0xF0000120, 0, 8⟩
/-- EXCH_STAT.CODE, bits 31..24 (R190). -/
def EXCH_STAT_CODE : Loc := ⟨0xF0000124, 24, 8⟩
/-- EXCH_STAT.AFFECTED, bits 23..16 (R190). -/
def EXCH_STAT_AFFECTED : Loc := ⟨0xF0000124, 16, 8⟩
/-- EXCH_STAT.STATE, bits 7..4 (R190). -/
def EXCH_STAT_STATE : Loc := ⟨0xF0000124, 4, 4⟩
/-- EXCH_STAT.RESULT, bits 3..0 (R190). -/
def EXCH_STAT_RESULT : Loc := ⟨0xF0000124, 0, 4⟩
/-- EXCH_CFG.WAIT, bits 15..0 (R190). -/
def EXCH_CFG_WAIT : Loc := ⟨0xF0000128, 0, 16⟩
/-- TASK_CMD.KEY, bits 31..24 (R190). -/
def TASK_CMD_KEY : Loc := ⟨0xF0000130, 24, 8⟩
/-- TASK_CMD.TASK, bits 13..8 (R190). -/
def TASK_CMD_TASK : Loc := ⟨0xF0000130, 8, 6⟩
/-- TASK_CMD.CODE, bits 7..0 (R190). -/
def TASK_CMD_CODE : Loc := ⟨0xF0000130, 0, 8⟩
/-- TASK_STAT.OVERRUNS, bits 31..16 (R190). -/
def TASK_STAT_OVERRUNS (n : Nat) : Loc := ⟨0xF0000200 + 0x4 * (n % 64), 16, 16⟩
/-- TASK_STAT.SKIPS, bits 15..8 (R190). -/
def TASK_STAT_SKIPS (n : Nat) : Loc := ⟨0xF0000200 + 0x4 * (n % 64), 8, 8⟩
/-- TASK_STAT.OWNV, bits 4..4 (R190). -/
def TASK_STAT_OWNV (n : Nat) : Loc := ⟨0xF0000200 + 0x4 * (n % 64), 4, 1⟩
/-- TASK_STAT.STATE, bits 3..0 (R190). -/
def TASK_STAT_STATE (n : Nat) : Loc := ⟨0xF0000200 + 0x4 * (n % 64), 0, 4⟩
/-- TASK_TIME.MAX, bits 31..16 (R190). -/
def TASK_TIME_MAX (n : Nat) : Loc := ⟨0xF0000300 + 0x4 * (n % 64), 16, 16⟩
/-- TASK_TIME.LAST, bits 15..0 (R190). -/
def TASK_TIME_LAST (n : Nat) : Loc := ⟨0xF0000300 + 0x4 * (n % 64), 0, 16⟩

/-! ### Block CLK -/

/-- CLK_CTRL.EXPERT_EN, bits 31..31 (R36). -/
def CLK_CTRL_EXPERT_EN : Loc := ⟨0xF0010000, 31, 1⟩
/-- CLK_CTRL.PCIE_REFOUT, bits 1..1 (R36). -/
def CLK_CTRL_PCIE_REFOUT : Loc := ⟨0xF0010000, 1, 1⟩
/-- CLK_CTRL.REF_SRC, bits 0..0 (R36). -/
def CLK_CTRL_REF_SRC : Loc := ⟨0xF0010000, 0, 1⟩
/-- CLK_STAT.FD_CLK_OK, bits 11..8 (R37). -/
def CLK_STAT_FD_CLK_OK : Loc := ⟨0xF0010004, 8, 4⟩
/-- CLK_STAT.XCHK_OK, bits 5..5 (R37). -/
def CLK_STAT_XCHK_OK : Loc := ⟨0xF0010004, 5, 1⟩
/-- CLK_STAT.SER_LOCK_PCIE, bits 4..4 (R37). -/
def CLK_STAT_SER_LOCK_PCIE : Loc := ⟨0xF0010004, 4, 1⟩
/-- CLK_STAT.SER_LOCK_PLNK, bits 3..3 (R37). -/
def CLK_STAT_SER_LOCK_PLNK : Loc := ⟨0xF0010004, 3, 1⟩
/-- CLK_STAT.SER_LOCK_SL, bits 2..2 (R37). -/
def CLK_STAT_SER_LOCK_SL : Loc := ⟨0xF0010004, 2, 1⟩
/-- CLK_STAT.SER_LOCK_NET, bits 1..1 (R37). -/
def CLK_STAT_SER_LOCK_NET : Loc := ⟨0xF0010004, 1, 1⟩
/-- CLK_STAT.MAIN_LOCK, bits 0..0 (R37). -/
def CLK_STAT_MAIN_LOCK : Loc := ⟨0xF0010004, 0, 1⟩
/-- CLK_FLT.FD_CLK_LOSS, bits 7..4 (R38). -/
def CLK_FLT_FD_CLK_LOSS : Loc := ⟨0xF0010008, 4, 4⟩
/-- CLK_FLT.XCHK_FAIL, bits 2..2 (R38). -/
def CLK_FLT_XCHK_FAIL : Loc := ⟨0xF0010008, 2, 1⟩
/-- CLK_FLT.SER_UNLOCK, bits 1..1 (R38). -/
def CLK_FLT_SER_UNLOCK : Loc := ⟨0xF0010008, 1, 1⟩
/-- CLK_FLT.MAIN_UNLOCK, bits 0..0 (R38). -/
def CLK_FLT_MAIN_UNLOCK : Loc := ⟨0xF0010008, 0, 1⟩
/-- CLK_XCHK.FAB_COUNT, bits 19..0 (R38). -/
def CLK_XCHK_FAB_COUNT : Loc := ⟨0xF001000C, 0, 20⟩
/-- CLK_FDDLY.DLY, bits 7..0 (R38). -/
def CLK_FDDLY_DLY (d : Nat) : Loc := ⟨0xF0010010 + 0x4 * (d % 4), 0, 8⟩
/-- LG_CTRL.EN, bits 31..31 (R40). -/
def LG_CTRL_EN (n : Nat) : Loc := ⟨0xF0010100 + 0x4 * (n % 32), 31, 1⟩
/-- LG_CTRL.TRIG, bits 30..28 (R40). -/
def LG_CTRL_TRIG (n : Nat) : Loc := ⟨0xF0010100 + 0x4 * (n % 32), 28, 3⟩
/-- LG_CTRL.TSRC, bits 26..20 (R40). -/
def LG_CTRL_TSRC (n : Nat) : Loc := ⟨0xF0010100 + 0x4 * (n % 32), 20, 7⟩
/-- LG_CTRL.EDGE_POL, bits 19..19 (R40). -/
def LG_CTRL_EDGE_POL (n : Nat) : Loc := ⟨0xF0010100 + 0x4 * (n % 32), 19, 1⟩
/-- LG_CTRL.PERIOD, bits 15..0 (R40). -/
def LG_CTRL_PERIOD (n : Nat) : Loc := ⟨0xF0010100 + 0x4 * (n % 32), 0, 16⟩
/-- LG_STAT.RETRIG_DROP, bits 31..16 (R42). -/
def LG_STAT_RETRIG_DROP (n : Nat) : Loc := ⟨0xF0010200 + 0x4 * (n % 32), 16, 16⟩
/-- LG_STAT.ACTIVE, bits 8..8 (R42). -/
def LG_STAT_ACTIVE (n : Nat) : Loc := ⟨0xF0010200 + 0x4 * (n % 32), 8, 1⟩
/-- LG_STAT.MEMBERS, bits 7..0 (R42). -/
def LG_STAT_MEMBERS (n : Nat) : Loc := ⟨0xF0010200 + 0x4 * (n % 32), 0, 8⟩
/-- CH_LG.MEMB, bits 5..5 (R39). -/
def CH_LG_MEMB (n : Nat) : Loc := ⟨0xF0010400 + 0x4 * (n % 128), 5, 1⟩
/-- CH_LG.GROUP, bits 4..0 (R39). -/
def CH_LG_GROUP (n : Nat) : Loc := ⟨0xF0010400 + 0x4 * (n % 128), 0, 5⟩

/-! ### Block JNL -/

/-- JNL_CTRL.EXPERT_EN, bits 31..31 (R76). -/
def JNL_CTRL_EXPERT_EN : Loc := ⟨0xF0060000, 31, 1⟩
/-- JNL_CTRL.EN, bits 0..0 (R76). -/
def JNL_CTRL_EN : Loc := ⟨0xF0060000, 0, 1⟩
/-- JNL_STAT.CKPT_OK, bits 4..4 (R76). -/
def JNL_STAT_CKPT_OK : Loc := ⟨0xF0060004, 4, 1⟩
/-- JNL_STAT.CHAIN_OK, bits 3..3 (R76). -/
def JNL_STAT_CHAIN_OK : Loc := ⟨0xF0060004, 3, 1⟩
/-- JNL_STAT.DEGRADED, bits 2..2 (R76). -/
def JNL_STAT_DEGRADED : Loc := ⟨0xF0060004, 2, 1⟩
/-- JNL_STAT.DEV_OK, bits 1..0 (R76). -/
def JNL_STAT_DEV_OK : Loc := ⟨0xF0060004, 0, 2⟩
/-- JNL_CYCLE.CYCLE, bits 31..0 (R76). -/
def JNL_CYCLE_CYCLE (k : Nat) : Loc := ⟨0xF0060008 + 0x4 * (k % 2), 0, 32⟩
/-- JNL_DSIZE.BYTES, bits 16..0 (R76). -/
def JNL_DSIZE_BYTES : Loc := ⟨0xF0060010, 0, 17⟩
/-- JNL_MERGE.COUNT, bits 31..0 (R76). -/
def JNL_MERGE_COUNT : Loc := ⟨0xF0060014, 0, 32⟩
/-- JNL_RETAIN.BYTES, bits 19..0 (R76). -/
def JNL_RETAIN_BYTES : Loc := ⟨0xF0060018, 0, 20⟩
/-- JNL_DEVSIZE.SIZE1, bits 31..16 (R76). -/
def JNL_DEVSIZE_SIZE1 : Loc := ⟨0xF006001C, 16, 16⟩
/-- JNL_DEVSIZE.SIZE0, bits 15..0 (R76). -/
def JNL_DEVSIZE_SIZE0 : Loc := ⟨0xF006001C, 0, 16⟩

/-! ### Block PART -/

/-- PART_CTRL.EXPERT_EN, bits 31..31 (R92). -/
def PART_CTRL_EXPERT_EN : Loc := ⟨0xF00A0000, 31, 1⟩
/-- PART_CTRL.TAKEOVER_EN, bits 2..2 (R92). -/
def PART_CTRL_TAKEOVER_EN : Loc := ⟨0xF00A0000, 2, 1⟩
/-- PART_CTRL.ROLE, bits 1..0 (R92). -/
def PART_CTRL_ROLE : Loc := ⟨0xF00A0000, 0, 2⟩
/-- PART_STAT.EPOCH, bits 31..16 (R92). -/
def PART_STAT_EPOCH : Loc := ⟨0xF00A0004, 16, 16⟩
/-- PART_STAT.LAG, bits 15..8 (R92). -/
def PART_STAT_LAG : Loc := ⟨0xF00A0004, 8, 8⟩
/-- PART_STAT.YIELDED, bits 4..4 (R92). -/
def PART_STAT_YIELDED : Loc := ⟨0xF00A0004, 4, 1⟩
/-- PART_STAT.TOOK_OVER, bits 3..3 (R92). -/
def PART_STAT_TOOK_OVER : Loc := ⟨0xF00A0004, 3, 1⟩
/-- PART_STAT.PARTNER, bits 2..2 (R92). -/
def PART_STAT_PARTNER : Loc := ⟨0xF00A0004, 2, 1⟩
/-- PART_STAT.SYNC, bits 1..1 (R92). -/
def PART_STAT_SYNC : Loc := ⟨0xF00A0004, 1, 1⟩
/-- PART_STAT.LINK_UP, bits 0..0 (R92). -/
def PART_STAT_LINK_UP : Loc := ⟨0xF00A0004, 0, 1⟩
/-- PART_HBMISS.COUNT, bits 31..0 (R92). -/
def PART_HBMISS_COUNT : Loc := ⟨0xF00A0008, 0, 32⟩

/-! ### Block SCHED -/

/-- SCHED_CTRL.EXPERT_EN, bits 31..31 (R206). -/
def SCHED_CTRL_EXPERT_EN : Loc := ⟨0xF0050000, 31, 1⟩
/-- SCHED_CTRL.HW_RSV, bits 19..4 (R206). -/
def SCHED_CTRL_HW_RSV : Loc := ⟨0xF0050000, 4, 16⟩
/-- SCHED_CTRL.AFF_WAIT, bits 3..0 (R206). -/
def SCHED_CTRL_AFF_WAIT : Loc := ⟨0xF0050000, 0, 4⟩
/-- SCHED_TBLBASE.BASE, bits 13..0 (R206). -/
def SCHED_TBLBASE_BASE : Loc := ⟨0xF0050004, 0, 14⟩
/-- SCHED_STAT.AVAIL, bits 15..8 (R206). -/
def SCHED_STAT_AVAIL : Loc := ⟨0xF0050008, 8, 8⟩
/-- SCHED_STAT.IDLE, bits 7..0 (R206). -/
def SCHED_STAT_IDLE : Loc := ⟨0xF0050008, 0, 8⟩
/-- SCHED_USED.USED, bits 18..0 (R206). -/
def SCHED_USED_USED : Loc := ⟨0xF005000C, 0, 19⟩
/-- SCHED_LOSS.NOENTRY, bits 31..16 (R206). -/
def SCHED_LOSS_NOENTRY : Loc := ⟨0xF0050010, 16, 16⟩
/-- SCHED_LOSS.DISABLED, bits 15..0 (R206). -/
def SCHED_LOSS_DISABLED : Loc := ⟨0xF0050010, 0, 16⟩
/-- SCHED_FLUSH.COUNT, bits 31..0 (R206). -/
def SCHED_FLUSH_COUNT : Loc := ⟨0xF0050014, 0, 32⟩
/-- SCHED_GRPACK.KEY, bits 31..24 (R206). -/
def SCHED_GRPACK_KEY : Loc := ⟨0xF0050018, 24, 8⟩
/-- SCHED_GRPACK.GROUP, bits 15..0 (R206). -/
def SCHED_GRPACK_GROUP : Loc := ⟨0xF0050018, 0, 16⟩
/-- SCHED_GRPSTAT.FROZEN, bits 31..16 (R206). -/
def SCHED_GRPSTAT_FROZEN : Loc := ⟨0xF005001C, 16, 16⟩
/-- SCHED_GRPSTAT.LAST, bits 15..0 (R206). -/
def SCHED_GRPSTAT_LAST : Loc := ⟨0xF005001C, 0, 16⟩
/-- SCHED_MIG.COUNT, bits 31..0 (R206). -/
def SCHED_MIG_COUNT (c : Nat) : Loc := ⟨0xF0050020 + 0x4 * (c % 8), 0, 32⟩
/-- SCHED_DLY.USED, bits 14..0 (R206). -/
def SCHED_DLY_USED (k : Nat) : Loc := ⟨0xF0050040 + 0x4 * (k % 8), 0, 15⟩

/-! ### Block FD -/

/-- CH_CFG.DIV, bits 23..8 (R241). -/
def CH_CFG_DIV (n : Nat) : Loc := ⟨0xF0600000 + 0x40000 * (n / 32 % 4) + 0x800 * (n % 32), 8, 16⟩
/-- CH_CFG.SNS_EN, bits 7..7 (R241). -/
def CH_CFG_SNS_EN (n : Nat) : Loc := ⟨0xF0600000 + 0x40000 * (n / 32 % 4) + 0x800 * (n % 32), 7, 1⟩
/-- CH_CFG.AIN_EN, bits 6..6 (R241). -/
def CH_CFG_AIN_EN (n : Nat) : Loc := ⟨0xF0600000 + 0x40000 * (n / 32 % 4) + 0x800 * (n % 32), 6, 1⟩
/-- CH_CFG.AVG_N, bits 5..2 (R241). -/
def CH_CFG_AVG_N (n : Nat) : Loc := ⟨0xF0600000 + 0x40000 * (n / 32 % 4) + 0x800 * (n % 32), 2, 4⟩
/-- CH_CFG.RANGE, bits 1..0 (R241). -/
def CH_CFG_RANGE (n : Nat) : Loc := ⟨0xF0600000 + 0x40000 * (n / 32 % 4) + 0x800 * (n % 32), 0, 2⟩
/-- CH_STAT.TAG, bits 16..8 (R241). -/
def CH_STAT_TAG (n : Nat) : Loc := ⟨0xF0600004 + 0x40000 * (n / 32 % 4) + 0x800 * (n % 32), 8, 9⟩
/-- CH_STAT.OVR_SEEN, bits 7..7 (R241). -/
def CH_STAT_OVR_SEEN (n : Nat) : Loc := ⟨0xF0600004 + 0x40000 * (n / 32 % 4) + 0x800 * (n % 32), 7, 1⟩
/-- CH_STAT.REF_UNSETTLED, bits 6..6 (R241). -/
def CH_STAT_REF_UNSETTLED (n : Nat) : Loc := ⟨0xF0600004 + 0x40000 * (n / 32 % 4) + 0x800 * (n % 32), 6, 1⟩
/-- CH_STAT.WIN_OUT, bits 5..5 (R241). -/
def CH_STAT_WIN_OUT (n : Nat) : Loc := ⟨0xF0600004 + 0x40000 * (n / 32 % 4) + 0x800 * (n % 32), 5, 1⟩
/-- CH_STAT.UNAV_REASON, bits 4..2 (R241). -/
def CH_STAT_UNAV_REASON (n : Nat) : Loc := ⟨0xF0600004 + 0x40000 * (n / 32 % 4) + 0x800 * (n % 32), 2, 3⟩
/-- CH_STAT.AVAIL, bits 0..0 (R241). -/
def CH_STAT_AVAIL (n : Nat) : Loc := ⟨0xF0600004 + 0x40000 * (n / 32 % 4) + 0x800 * (n % 32), 0, 1⟩
/-- WIN_LO.LIMIT, bits 17..0 (R241). -/
def WIN_LO_LIMIT (n : Nat) : Loc := ⟨0xF0600008 + 0x40000 * (n / 32 % 4) + 0x800 * (n % 32), 0, 18⟩
/-- WIN_HI.LIMIT, bits 17..0 (R241). -/
def WIN_HI_LIMIT (n : Nat) : Loc := ⟨0xF060000C + 0x40000 * (n / 32 % 4) + 0x800 * (n % 32), 0, 18⟩
/-- WIN_CFG.EN, bits 31..31 (R241). -/
def WIN_CFG_EN (n : Nat) : Loc := ⟨0xF0600010 + 0x40000 * (n / 32 % 4) + 0x800 * (n % 32), 31, 1⟩
/-- WIN_CFG.REENTRY_EVT, bits 30..30 (R241). -/
def WIN_CFG_REENTRY_EVT (n : Nat) : Loc := ⟨0xF0600010 + 0x40000 * (n / 32 % 4) + 0x800 * (n % 32), 30, 1⟩
/-- WIN_CFG.UNAV_OUT, bits 29..29 (R241). -/
def WIN_CFG_UNAV_OUT (n : Nat) : Loc := ⟨0xF0600010 + 0x40000 * (n / 32 % 4) + 0x800 * (n % 32), 29, 1⟩
/-- WIN_CFG.FLT_EN, bits 28..28 (R241). -/
def WIN_CFG_FLT_EN (n : Nat) : Loc := ⟨0xF0600010 + 0x40000 * (n / 32 % 4) + 0x800 * (n % 32), 28, 1⟩
/-- WIN_CFG.HYST, bits 15..0 (R241). -/
def WIN_CFG_HYST (n : Nat) : Loc := ⟨0xF0600010 + 0x40000 * (n / 32 % 4) + 0x800 * (n % 32), 0, 16⟩
/-- WIN_EVT.EN, bits 31..31 (R241). -/
def WIN_EVT_EN (n : Nat) : Loc := ⟨0xF0600014 + 0x40000 * (n / 32 % 4) + 0x800 * (n % 32), 31, 1⟩
/-- WIN_EVT.EVENT, bits 15..0 (R241). -/
def WIN_EVT_EVENT (n : Nat) : Loc := ⟨0xF0600014 + 0x40000 * (n / 32 % 4) + 0x800 * (n % 32), 0, 16⟩
/-- AOUT_CFG.EN, bits 2..2 (R241). -/
def AOUT_CFG_EN (n : Nat) : Loc := ⟨0xF06000A0 + 0x40000 * (n / 32 % 4) + 0x800 * (n % 32), 2, 1⟩
/-- AOUT_CFG.RANGE, bits 1..0 (R241). -/
def AOUT_CFG_RANGE (n : Nat) : Loc := ⟨0xF06000A0 + 0x40000 * (n / 32 % 4) + 0x800 * (n % 32), 0, 2⟩
/-- AOUT_SAFE.PFAIL, bits 31..16 (R241). -/
def AOUT_SAFE_PFAIL (n : Nat) : Loc := ⟨0xF06000A4 + 0x40000 * (n / 32 % 4) + 0x800 * (n % 32), 16, 16⟩
/-- AOUT_SAFE.SAFE, bits 15..0 (R241). -/
def AOUT_SAFE_SAFE (n : Nat) : Loc := ⟨0xF06000A4 + 0x40000 * (n / 32 % 4) + 0x800 * (n % 32), 0, 16⟩
/-- AOUT_STAT.APPLIED, bits 31..16 (R241). -/
def AOUT_STAT_APPLIED (n : Nat) : Loc := ⟨0xF06000A8 + 0x40000 * (n / 32 % 4) + 0x800 * (n % 32), 16, 16⟩
/-- AOUT_STAT.LEVEL, bits 14..12 (R241). -/
def AOUT_STAT_LEVEL (n : Nat) : Loc := ⟨0xF06000A8 + 0x40000 * (n / 32 % 4) + 0x800 * (n % 32), 12, 3⟩
/-- AOUT_STAT.OPEN, bits 1..1 (R241). -/
def AOUT_STAT_OPEN (n : Nat) : Loc := ⟨0xF06000A8 + 0x40000 * (n / 32 % 4) + 0x800 * (n % 32), 1, 1⟩
/-- AOUT_STAT.OVC, bits 0..0 (R241). -/
def AOUT_STAT_OVC (n : Nat) : Loc := ⟨0xF06000A8 + 0x40000 * (n / 32 % 4) + 0x800 * (n % 32), 0, 1⟩
/-- FIO_CFG.DIR, bits 29..29 (R373). -/
def FIO_CFG_DIR (n : Nat) : Loc := ⟨0xF0600100 + 0x40000 * (n / 32 % 4) + 0x800 * (n % 32), 29, 1⟩
/-- FIO_CFG.ITYPE, bits 28..27 (R373). -/
def FIO_CFG_ITYPE (n : Nat) : Loc := ⟨0xF0600100 + 0x40000 * (n / 32 % 4) + 0x800 * (n % 32), 27, 2⟩
/-- FIO_CFG.SAFE, bits 26..26 (R373). -/
def FIO_CFG_SAFE (n : Nat) : Loc := ⟨0xF0600100 + 0x40000 * (n / 32 % 4) + 0x800 * (n % 32), 26, 1⟩
/-- FIO_CFG.PFAIL, bits 25..25 (R373). -/
def FIO_CFG_PFAIL (n : Nat) : Loc := ⟨0xF0600100 + 0x40000 * (n / 32 % 4) + 0x800 * (n % 32), 25, 1⟩
/-- FIO_CFG.ILIM_T, bits 23..16 (R373). -/
def FIO_CFG_ILIM_T (n : Nat) : Loc := ⟨0xF0600100 + 0x40000 * (n / 32 % 4) + 0x800 * (n % 32), 16, 8⟩
/-- FIO_CFG.DEB, bits 15..0 (R373). -/
def FIO_CFG_DEB (n : Nat) : Loc := ⟨0xF0600100 + 0x40000 * (n / 32 % 4) + 0x800 * (n % 32), 0, 16⟩
/-- FIO_MAXACT.MAXACT, bits 15..0 (R373). -/
def FIO_MAXACT_MAXACT (n : Nat) : Loc := ⟨0xF0600104 + 0x40000 * (n / 32 % 4) + 0x800 * (n % 32), 0, 16⟩
/-- FIO_STAT.LEVEL, bits 7..5 (R373). -/
def FIO_STAT_LEVEL (n : Nat) : Loc := ⟨0xF0600108 + 0x40000 * (n / 32 % 4) + 0x800 * (n % 32), 5, 3⟩
/-- FIO_STAT.APPLIED, bits 2..2 (R373). -/
def FIO_STAT_APPLIED (n : Nat) : Loc := ⟨0xF0600108 + 0x40000 * (n / 32 % 4) + 0x800 * (n % 32), 2, 1⟩
/-- FIO_STAT.RAW, bits 1..1 (R373). -/
def FIO_STAT_RAW (n : Nat) : Loc := ⟨0xF0600108 + 0x40000 * (n / 32 % 4) + 0x800 * (n % 32), 1, 1⟩
/-- FIO_STAT.IN, bits 0..0 (R373). -/
def FIO_STAT_IN (n : Nat) : Loc := ⟨0xF0600108 + 0x40000 * (n / 32 % 4) + 0x800 * (n % 32), 0, 1⟩
/-- FIO_EVT.EN, bits 31..31 (R373). -/
def FIO_EVT_EN (n : Nat) : Loc := ⟨0xF060010C + 0x40000 * (n / 32 % 4) + 0x800 * (n % 32), 31, 1⟩
/-- FIO_EVT.EDGE, bits 30..29 (R373). -/
def FIO_EVT_EDGE (n : Nat) : Loc := ⟨0xF060010C + 0x40000 * (n / 32 % 4) + 0x800 * (n % 32), 29, 2⟩
/-- FIO_EVT.EVENT, bits 15..0 (R373). -/
def FIO_EVT_EVENT (n : Nat) : Loc := ⟨0xF060010C + 0x40000 * (n / 32 % 4) + 0x800 * (n % 32), 0, 16⟩
/-- CAL_OFS.OFS, bits 31..0 (R241). -/
def CAL_OFS_OFS (n r : Nat) : Loc := ⟨0xF0600020 + 0x40000 * (n / 32 % 4) + 0x800 * (n % 32) + 4 * (r % 5), 0, 32⟩
/-- CAL_GAIN.GAIN, bits 31..0 (R241). -/
def CAL_GAIN_GAIN (n r : Nat) : Loc := ⟨0xF0600040 + 0x40000 * (n / 32 % 4) + 0x800 * (n % 32) + 4 * (r % 5), 0, 32⟩
/-- USR_OFS.OFS, bits 31..0 (R241). -/
def USR_OFS_OFS (n r : Nat) : Loc := ⟨0xF0600060 + 0x40000 * (n / 32 % 4) + 0x800 * (n % 32) + 4 * (r % 5), 0, 32⟩
/-- USR_GAIN.GAIN, bits 31..0 (R241). -/
def USR_GAIN_GAIN (n r : Nat) : Loc := ⟨0xF0600080 + 0x40000 * (n / 32 % 4) + 0x800 * (n % 32) + 4 * (r % 5), 0, 32⟩
/-- DIE_CTRL.EXPERT_EN, bits 31..31 (R242). -/
def DIE_CTRL_EXPERT_EN (d : Nat) : Loc := ⟨0xF0610000 + 0x40000 * (d % 4), 31, 1⟩
/-- DIE_CTRL.STALE_TH, bits 7..0 (R242). -/
def DIE_CTRL_STALE_TH (d : Nat) : Loc := ⟨0xF0610000 + 0x40000 * (d % 4), 0, 8⟩
/-- DIE_STAT.TEMP, bits 31..16 (R242). -/
def DIE_STAT_TEMP (d : Nat) : Loc := ⟨0xF0610004 + 0x40000 * (d % 4), 16, 16⟩
/-- DIE_STAT.SEAL_OK, bits 3..3 (R242). -/
def DIE_STAT_SEAL_OK (d : Nat) : Loc := ⟨0xF0610004 + 0x40000 * (d % 4), 3, 1⟩
/-- DIE_STAT.CALIMG_OK, bits 2..2 (R242). -/
def DIE_STAT_CALIMG_OK (d : Nat) : Loc := ⟨0xF0610004 + 0x40000 * (d % 4), 2, 1⟩
/-- DIE_STAT.THERM_SD, bits 1..1 (R242). -/
def DIE_STAT_THERM_SD (d : Nat) : Loc := ⟨0xF0610004 + 0x40000 * (d % 4), 1, 1⟩
/-- DIE_STAT.ISOLATED, bits 0..0 (R242). -/
def DIE_STAT_ISOLATED (d : Nat) : Loc := ⟨0xF0610004 + 0x40000 * (d % 4), 0, 1⟩
/-- DIE_CMD.KEY, bits 31..24 (R242). -/
def DIE_CMD_KEY (d : Nat) : Loc := ⟨0xF0610008 + 0x40000 * (d % 4), 24, 8⟩
/-- DIE_CMD.CODE, bits 7..0 (R242). -/
def DIE_CMD_CODE (d : Nat) : Loc := ⟨0xF0610008 + 0x40000 * (d % 4), 0, 8⟩
/-- DIE_CMDSTAT.CODE, bits 31..24 (R242). -/
def DIE_CMDSTAT_CODE (d : Nat) : Loc := ⟨0xF061000C + 0x40000 * (d % 4), 24, 8⟩
/-- DIE_CMDSTAT.RESULT, bits 3..0 (R242). -/
def DIE_CMDSTAT_RESULT (d : Nat) : Loc := ⟨0xF061000C + 0x40000 * (d % 4), 0, 4⟩
/-- CERT_ARG.POINT, bits 8..8 (R242). -/
def CERT_ARG_POINT (d : Nat) : Loc := ⟨0xF0610040 + 0x40000 * (d % 4), 8, 1⟩
/-- CERT_ARG.RANGE_IDX, bits 7..5 (R242). -/
def CERT_ARG_RANGE_IDX (d : Nat) : Loc := ⟨0xF0610040 + 0x40000 * (d % 4), 5, 3⟩
/-- CERT_ARG.CHANNEL, bits 4..0 (R242). -/
def CERT_ARG_CHANNEL (d : Nat) : Loc := ⟨0xF0610040 + 0x40000 * (d % 4), 0, 5⟩
/-- CERT_VAL.VALUE, bits 31..0 (R242). -/
def CERT_VAL_VALUE (d : Nat) : Loc := ⟨0xF0610044 + 0x40000 * (d % 4), 0, 32⟩
/-- CERT_STAT.POINTS, bits 11..0 (R242). -/
def CERT_STAT_POINTS (d : Nat) : Loc := ⟨0xF0610048 + 0x40000 * (d % 4), 0, 12⟩
/-- SEAL_STAT.FUSE_CNT, bits 31..24 (R242). -/
def SEAL_STAT_FUSE_CNT (d : Nat) : Loc := ⟨0xF0610080 + 0x40000 * (d % 4), 24, 8⟩
/-- SEAL_STAT.SEAL_CNT, bits 23..16 (R242). -/
def SEAL_STAT_SEAL_CNT (d : Nat) : Loc := ⟨0xF0610080 + 0x40000 * (d % 4), 16, 8⟩
/-- SEAL_STAT.FAIL, bits 7..4 (R242). -/
def SEAL_STAT_FAIL (d : Nat) : Loc := ⟨0xF0610080 + 0x40000 * (d % 4), 4, 4⟩
/-- SEAL_STAT.SIGNER, bits 0..0 (R242). -/
def SEAL_STAT_SIGNER (d : Nat) : Loc := ⟨0xF0610080 + 0x40000 * (d % 4), 0, 1⟩
/-- CL_CTRL.CAL, bits 8..8 (R242). -/
def CL_CTRL_CAL (k : Nat) : Loc := ⟨0xF0610020 + 0x40000 * (k / 4 % 4) + 4 * (k % 4), 8, 1⟩
/-- CL_CTRL.ROLL, bits 3..3 (R242). -/
def CL_CTRL_ROLL (k : Nat) : Loc := ⟨0xF0610020 + 0x40000 * (k / 4 % 4) + 4 * (k % 4), 3, 1⟩
/-- CL_CTRL.INT_ON, bits 2..2 (R242). -/
def CL_CTRL_INT_ON (k : Nat) : Loc := ⟨0xF0610020 + 0x40000 * (k / 4 % 4) + 4 * (k % 4), 2, 1⟩
/-- CL_CTRL.REFSEL, bits 1..0 (R242). -/
def CL_CTRL_REFSEL (k : Nat) : Loc := ⟨0xF0610020 + 0x40000 * (k / 4 % 4) + 4 * (k % 4), 0, 2⟩
/-- CL_STAT.CAL_TEMP, bits 31..16 (R242). -/
def CL_STAT_CAL_TEMP (k : Nat) : Loc := ⟨0xF0610030 + 0x40000 * (k / 4 % 4) + 4 * (k % 4), 16, 16⟩
/-- CL_STAT.CAL_REF, bits 15..14 (R242). -/
def CL_STAT_CAL_REF (k : Nat) : Loc := ⟨0xF0610030 + 0x40000 * (k / 4 % 4) + 4 * (k % 4), 14, 2⟩
/-- CL_STAT.CAL_LIMIT, bits 7..7 (R242). -/
def CL_STAT_CAL_LIMIT (k : Nat) : Loc := ⟨0xF0610030 + 0x40000 * (k / 4 % 4) + 4 * (k % 4), 7, 1⟩
/-- CL_STAT.STALE, bits 6..6 (R242). -/
def CL_STAT_STALE (k : Nat) : Loc := ⟨0xF0610030 + 0x40000 * (k / 4 % 4) + 4 * (k % 4), 6, 1⟩
/-- CL_STAT.CAL_BUSY, bits 5..5 (R242). -/
def CL_STAT_CAL_BUSY (k : Nat) : Loc := ⟨0xF0610030 + 0x40000 * (k / 4 % 4) + 4 * (k % 4), 5, 1⟩
/-- CL_STAT.REF_FAULT, bits 4..4 (R242). -/
def CL_STAT_REF_FAULT (k : Nat) : Loc := ⟨0xF0610030 + 0x40000 * (k / 4 % 4) + 4 * (k % 4), 4, 1⟩
/-- CL_STAT.REF_SETTLED, bits 3..3 (R242). -/
def CL_STAT_REF_SETTLED (k : Nat) : Loc := ⟨0xF0610030 + 0x40000 * (k / 4 % 4) + 4 * (k % 4), 3, 1⟩
/-- CERT_STD.BYTES, bits 31..0 (R242). -/
def CERT_STD_BYTES (d m : Nat) : Loc := ⟨0xF0610050 + 0x40000 * (d % 4) + 4 * (m % 4), 0, 32⟩
/-- RG_CTRL.RESTART, bits 0..0 (R374). -/
def RG_CTRL_RESTART (r : Nat) : Loc := ⟨0xF06100C0 + 0x40000 * (r / 2 % 4) + 4 * (r % 2), 0, 1⟩
/-- RG_STAT.ISUM, bits 31..20 (R374). -/
def RG_STAT_ISUM (r : Nat) : Loc := ⟨0xF06100C8 + 0x40000 * (r / 2 % 4) + 4 * (r % 2), 20, 12⟩
/-- RG_STAT.TRIPS, bits 15..8 (R374). -/
def RG_STAT_TRIPS (r : Nat) : Loc := ⟨0xF06100C8 + 0x40000 * (r / 2 % 4) + 4 * (r % 2), 8, 8⟩
/-- RG_STAT.TRIPPED, bits 2..2 (R374). -/
def RG_STAT_TRIPPED (r : Nat) : Loc := ⟨0xF06100C8 + 0x40000 * (r / 2 % 4) + 4 * (r % 2), 2, 1⟩
/-- RG_STAT.FAULT_SEEN, bits 1..1 (R374). -/
def RG_STAT_FAULT_SEEN (r : Nat) : Loc := ⟨0xF06100C8 + 0x40000 * (r / 2 % 4) + 4 * (r % 2), 1, 1⟩
/-- RG_STAT.FAULT, bits 0..0 (R374). -/
def RG_STAT_FAULT (r : Nat) : Loc := ⟨0xF06100C8 + 0x40000 * (r / 2 % 4) + 4 * (r % 2), 0, 1⟩

/-! ### Block LE -/

/-- LE_CTRL.EXPERT_EN, bits 31..31 (R270). -/
def LE_CTRL_EXPERT_EN (n : Nat) : Loc := ⟨0xF0400000 + 0x10000 * (n % 8), 31, 1⟩
/-- LE_CTRL.SCRUB_EN, bits 1..1 (R270). -/
def LE_CTRL_SCRUB_EN (n : Nat) : Loc := ⟨0xF0400000 + 0x10000 * (n % 8), 1, 1⟩
/-- LE_CTRL.PREEMPT_EN, bits 0..0 (R270). -/
def LE_CTRL_PREEMPT_EN (n : Nat) : Loc := ⟨0xF0400000 + 0x10000 * (n % 8), 0, 1⟩
/-- LE_STAT.READY, bits 24..18 (R270). -/
def LE_STAT_READY (n : Nat) : Loc := ⟨0xF0400004 + 0x10000 * (n % 8), 18, 7⟩
/-- LE_STAT.DEPTH, bits 17..16 (R270). -/
def LE_STAT_DEPTH (n : Nat) : Loc := ⟨0xF0400004 + 0x10000 * (n % 8), 16, 2⟩
/-- LE_STAT.SLOT, bits 13..8 (R270). -/
def LE_STAT_SLOT (n : Nat) : Loc := ⟨0xF0400004 + 0x10000 * (n % 8), 8, 6⟩
/-- LE_STAT.SET, bits 1..0 (R270). -/
def LE_STAT_SET (n : Nat) : Loc := ⟨0xF0400004 + 0x10000 * (n % 8), 0, 2⟩
/-- LE_LOAD.MAX, bits 31..16 (R270). -/
def LE_LOAD_MAX (n : Nat) : Loc := ⟨0xF0400008 + 0x10000 * (n % 8), 16, 16⟩
/-- LE_LOAD.BUSY, bits 15..0 (R270). -/
def LE_LOAD_BUSY (n : Nat) : Loc := ⟨0xF0400008 + 0x10000 * (n % 8), 0, 16⟩
/-- LE_ECC.CORR, bits 31..16 (R270). -/
def LE_ECC_CORR (n : Nat) : Loc := ⟨0xF040000C + 0x10000 * (n % 8), 16, 16⟩
/-- LE_ECC.UNCORR, bits 15..0 (R270). -/
def LE_ECC_UNCORR (n : Nat) : Loc := ⟨0xF040000C + 0x10000 * (n % 8), 0, 16⟩
/-- LE_EXC.SLOT, bits 31..26 (R270). -/
def LE_EXC_SLOT (n : Nat) : Loc := ⟨0xF0400010 + 0x10000 * (n % 8), 26, 6⟩
/-- LE_EXC.SET, bits 25..24 (R270). -/
def LE_EXC_SET (n : Nat) : Loc := ⟨0xF0400010 + 0x10000 * (n % 8), 24, 2⟩
/-- LE_EXC.CODE, bits 23..20 (R270). -/
def LE_EXC_CODE (n : Nat) : Loc := ⟨0xF0400010 + 0x10000 * (n % 8), 20, 4⟩
/-- LE_EXC.PC, bits 12..0 (R270). -/
def LE_EXC_PC (n : Nat) : Loc := ⟨0xF0400010 + 0x10000 * (n % 8), 0, 13⟩
/-- LE_PALGRP.KEY, bits 31..24 (R303). -/
def LE_PALGRP_KEY (n : Nat) : Loc := ⟨0xF0400020 + 0x10000 * (n % 8), 24, 8⟩
/-- LE_PALGRP.SEL, bits 8..8 (R303). -/
def LE_PALGRP_SEL (n : Nat) : Loc := ⟨0xF0400020 + 0x10000 * (n % 8), 8, 1⟩
/-- LE_PALGRP.GROUP, bits 4..0 (R303). -/
def LE_PALGRP_GROUP (n : Nat) : Loc := ⟨0xF0400020 + 0x10000 * (n % 8), 0, 5⟩
/-- LE_SLOTCFG.EN, bits 31..31 (R271). -/
def LE_SLOTCFG_EN (s : Nat) : Loc := ⟨0xF0400100 + 0x10000 * (s / 64 % 8) + 4 * (s % 64), 31, 1⟩
/-- LE_SLOTCFG.OVR_MODE, bits 30..30 (R271). -/
def LE_SLOTCFG_OVR_MODE (s : Nat) : Loc := ⟨0xF0400100 + 0x10000 * (s / 64 % 8) + 4 * (s % 64), 30, 1⟩
/-- LE_SLOTCFG.PRIO, bits 29..27 (R271). -/
def LE_SLOTCFG_PRIO (s : Nat) : Loc := ⟨0xF0400100 + 0x10000 * (s / 64 % 8) + 4 * (s % 64), 27, 3⟩
/-- LE_SLOTCFG.OV_FLT, bits 26..26 (R271). -/
def LE_SLOTCFG_OV_FLT (s : Nat) : Loc := ⟨0xF0400100 + 0x10000 * (s / 64 % 8) + 4 * (s % 64), 26, 1⟩
/-- LE_SLOTCFG.ENTRY, bits 12..0 (R271). -/
def LE_SLOTCFG_ENTRY (s : Nat) : Loc := ⟨0xF0400100 + 0x10000 * (s / 64 % 8) + 4 * (s % 64), 0, 13⟩
/-- LE_SLOTSTAT.DLMISS, bits 31..16 (R272). -/
def LE_SLOTSTAT_DLMISS (s : Nat) : Loc := ⟨0xF0400200 + 0x10000 * (s / 64 % 8) + 4 * (s % 64), 16, 16⟩
/-- LE_SLOTSTAT.OVERRUNS, bits 15..8 (R272). -/
def LE_SLOTSTAT_OVERRUNS (s : Nat) : Loc := ⟨0xF0400200 + 0x10000 * (s / 64 % 8) + 4 * (s % 64), 8, 8⟩
/-- LE_SLOTSTAT.RUNAWAY, bits 6..6 (R272). -/
def LE_SLOTSTAT_RUNAWAY (s : Nat) : Loc := ⟨0xF0400200 + 0x10000 * (s / 64 % 8) + 4 * (s % 64), 6, 1⟩
/-- LE_SLOTSTAT.EXC, bits 5..5 (R272). -/
def LE_SLOTSTAT_EXC (s : Nat) : Loc := ⟨0xF0400200 + 0x10000 * (s / 64 % 8) + 4 * (s % 64), 5, 1⟩
/-- LE_SLOTSTAT.OWNV, bits 4..4 (R272). -/
def LE_SLOTSTAT_OWNV (s : Nat) : Loc := ⟨0xF0400200 + 0x10000 * (s / 64 % 8) + 4 * (s % 64), 4, 1⟩
/-- LE_SLOTSTAT.OV, bits 3..3 (R272). -/
def LE_SLOTSTAT_OV (s : Nat) : Loc := ⟨0xF0400200 + 0x10000 * (s / 64 % 8) + 4 * (s % 64), 3, 1⟩
/-- LE_SLOTSTAT.SV, bits 2..2 (R272). -/
def LE_SLOTSTAT_SV (s : Nat) : Loc := ⟨0xF0400200 + 0x10000 * (s / 64 % 8) + 4 * (s % 64), 2, 1⟩
/-- LE_SLOTSTAT.PENDING, bits 1..1 (R272). -/
def LE_SLOTSTAT_PENDING (s : Nat) : Loc := ⟨0xF0400200 + 0x10000 * (s / 64 % 8) + 4 * (s % 64), 1, 1⟩
/-- LE_SLOTSTAT.ACTIVE, bits 0..0 (R272). -/
def LE_SLOTSTAT_ACTIVE (s : Nat) : Loc := ⟨0xF0400200 + 0x10000 * (s / 64 % 8) + 4 * (s % 64), 0, 1⟩
/-- LE_SLOTTIME.MAX, bits 31..16 (R272). -/
def LE_SLOTTIME_MAX (s : Nat) : Loc := ⟨0xF0400300 + 0x10000 * (s / 64 % 8) + 4 * (s % 64), 16, 16⟩
/-- LE_SLOTTIME.LAST, bits 15..0 (R272). -/
def LE_SLOTTIME_LAST (s : Nat) : Loc := ⟨0xF0400300 + 0x10000 * (s / 64 % 8) + 4 * (s % 64), 0, 16⟩
/-- LE_IMPSRC.HANDLE, bits 31..0 (R271). -/
def LE_IMPSRC_HANDLE (n k : Nat) : Loc := ⟨0xF0400400 + 0x10000 * (n % 8) + 0x8 * (k % 64), 0, 32⟩
/-- LE_IMPCFG.EN, bits 31..31 (R271). -/
def LE_IMPCFG_EN (n k : Nat) : Loc := ⟨0xF0400404 + 0x10000 * (n % 8) + 0x8 * (k % 64), 31, 1⟩
/-- LE_PALREQ.REQ, bits 31..0 (R303). -/
def LE_PALREQ_REQ (n m : Nat) : Loc := ⟨0xF0400700 + 0x10000 * (n % 8) + 0x4 * (m % 2), 0, 32⟩
/-- LE_PALACT.ACT, bits 31..0 (R303). -/
def LE_PALACT_ACT (n m : Nat) : Loc := ⟨0xF0400708 + 0x10000 * (n % 8) + 0x4 * (m % 2), 0, 32⟩
/-- LE_SLOTFLG.SEQ, bits 31..16 (R304). -/
def LE_SLOTFLG_SEQ (s : Nat) : Loc := ⟨0xF0400600 + 0x10000 * (s / 64 % 8) + 4 * (s % 64), 16, 16⟩
/-- LE_SLOTFLG.LRN_ERR, bits 15..12 (R304). -/
def LE_SLOTFLG_LRN_ERR (s : Nat) : Loc := ⟨0xF0400600 + 0x10000 * (s / 64 % 8) + 4 * (s % 64), 12, 4⟩
/-- LE_SLOTFLG.PAL, bits 11..11 (R304). -/
def LE_SLOTFLG_PAL (s : Nat) : Loc := ⟨0xF0400600 + 0x10000 * (s / 64 % 8) + 4 * (s % 64), 11, 1⟩
/-- LE_SLOTFLG.LRN_FIN, bits 9..9 (R304). -/
def LE_SLOTFLG_LRN_FIN (s : Nat) : Loc := ⟨0xF0400600 + 0x10000 * (s / 64 % 8) + 4 * (s % 64), 9, 1⟩
/-- LE_SLOTFLG.LRN_ACT, bits 8..8 (R304). -/
def LE_SLOTFLG_LRN_ACT (s : Nat) : Loc := ⟨0xF0400600 + 0x10000 * (s / 64 % 8) + 4 * (s % 64), 8, 1⟩
/-- LE_SLOTFLG.LRN_DONE, bits 7..7 (R304). -/
def LE_SLOTFLG_LRN_DONE (s : Nat) : Loc := ⟨0xF0400600 + 0x10000 * (s / 64 % 8) + 4 * (s % 64), 7, 1⟩
/-- LE_SLOTFLG.UNAV_ACT, bits 6..6 (R304). -/
def LE_SLOTFLG_UNAV_ACT (s : Nat) : Loc := ⟨0xF0400600 + 0x10000 * (s / 64 % 8) + 4 * (s % 64), 6, 1⟩
/-- LE_SLOTFLG.RATE_LIM, bits 5..5 (R304). -/
def LE_SLOTFLG_RATE_LIM (s : Nat) : Loc := ⟨0xF0400600 + 0x10000 * (s / 64 % 8) + 4 * (s % 64), 5, 1⟩
/-- LE_SLOTFLG.U_LIM, bits 4..4 (R304). -/
def LE_SLOTFLG_U_LIM (s : Nat) : Loc := ⟨0xF0400600 + 0x10000 * (s / 64 % 8) + 4 * (s % 64), 4, 1⟩
/-- LE_SLOTFLG.I_HELD, bits 3..3 (R304). -/
def LE_SLOTFLG_I_HELD (s : Nat) : Loc := ⟨0xF0400600 + 0x10000 * (s / 64 % 8) + 4 * (s % 64), 3, 1⟩
/-- LE_SLOTFLG.INT_CLAMP_SWAP, bits 2..2 (R304). -/
def LE_SLOTFLG_INT_CLAMP_SWAP (s : Nat) : Loc := ⟨0xF0400600 + 0x10000 * (s / 64 % 8) + 4 * (s % 64), 2, 1⟩
/-- LE_SLOTFLG.LOAD_OUT, bits 1..1 (R304). -/
def LE_SLOTFLG_LOAD_OUT (s : Nat) : Loc := ⟨0xF0400600 + 0x10000 * (s / 64 % 8) + 4 * (s % 64), 1, 1⟩
/-- LE_SLOTFLG.TBL_OFFLOAD, bits 0..0 (R304). -/
def LE_SLOTFLG_TBL_OFFLOAD (s : Nat) : Loc := ⟨0xF0400600 + 0x10000 * (s / 64 % 8) + 4 * (s % 64), 0, 1⟩

/-! ### Block RCP -/

/-- RCP_CTRL.EXPERT_EN, bits 31..31 (R328). -/
def RCP_CTRL_EXPERT_EN : Loc := ⟨0xF00D0000, 31, 1⟩
/-- RCP_CTRL.ACT_BUDGET, bits 5..0 (R328). -/
def RCP_CTRL_ACT_BUDGET : Loc := ⟨0xF00D0000, 0, 6⟩
/-- RCP_ACTIVE.ACTIVE, bits 31..0 (R328). -/
def RCP_ACTIVE_ACTIVE : Loc := ⟨0xF00D0004, 0, 32⟩
/-- RCP_SUSP.SUSP, bits 31..0 (R328). -/
def RCP_SUSP_SUSP : Loc := ⟨0xF00D0008, 0, 32⟩
/-- RS_CFG.BIND, bits 31..31 (R328). -/
def RS_CFG_BIND (n : Nat) : Loc := ⟨0xF00D0100 + 0x40 * (n % 32), 31, 1⟩
/-- RS_CFG.GROUP, bits 28..24 (R328). -/
def RS_CFG_GROUP (n : Nat) : Loc := ⟨0xF00D0100 + 0x40 * (n % 32), 24, 5⟩
/-- RS_CFG.TBL, bits 17..0 (R328). -/
def RS_CFG_TBL (n : Nat) : Loc := ⟨0xF00D0100 + 0x40 * (n % 32), 0, 18⟩
/-- RS_CMD.KEY, bits 31..24 (R328). -/
def RS_CMD_KEY (n : Nat) : Loc := ⟨0xF00D0104 + 0x40 * (n % 32), 24, 8⟩
/-- RS_CMD.CODE, bits 7..0 (R328). -/
def RS_CMD_CODE (n : Nat) : Loc := ⟨0xF00D0104 + 0x40 * (n % 32), 0, 8⟩
/-- RS_ARG.STEP, bits 11..0 (R328). -/
def RS_ARG_STEP (n : Nat) : Loc := ⟨0xF00D0108 + 0x40 * (n % 32), 0, 12⟩
/-- RS_STAT.STATE, bits 31..28 (R328). -/
def RS_STAT_STATE (n : Nat) : Loc := ⟨0xF00D010C + 0x40 * (n % 32), 28, 4⟩
/-- RS_STAT.RESULT, bits 27..24 (R328). -/
def RS_STAT_RESULT (n : Nat) : Loc := ⟨0xF00D010C + 0x40 * (n % 32), 24, 4⟩
/-- RS_STAT.CODE, bits 23..16 (R328). -/
def RS_STAT_CODE (n : Nat) : Loc := ⟨0xF00D010C + 0x40 * (n % 32), 16, 8⟩
/-- RS_STAT.END_CAUSE, bits 15..12 (R328). -/
def RS_STAT_END_CAUSE (n : Nat) : Loc := ⟨0xF00D010C + 0x40 * (n % 32), 12, 4⟩
/-- RS_STAT.POLICY, bits 11..10 (R328). -/
def RS_STAT_POLICY (n : Nat) : Loc := ⟨0xF00D010C + 0x40 * (n % 32), 10, 2⟩
/-- RS_STAT.BAND, bits 9..8 (R328). -/
def RS_STAT_BAND (n : Nat) : Loc := ⟨0xF00D010C + 0x40 * (n % 32), 8, 2⟩
/-- RS_STAT.CUT, bits 4..4 (R328). -/
def RS_STAT_CUT (n : Nat) : Loc := ⟨0xF00D010C + 0x40 * (n % 32), 4, 1⟩
/-- RS_STAT.RAMP_ACT, bits 3..3 (R328). -/
def RS_STAT_RAMP_ACT (n : Nat) : Loc := ⟨0xF00D010C + 0x40 * (n % 32), 3, 1⟩
/-- RS_STAT.WAIT_ACT, bits 2..2 (R328). -/
def RS_STAT_WAIT_ACT (n : Nat) : Loc := ⟨0xF00D010C + 0x40 * (n % 32), 2, 1⟩
/-- RS_STAT.EXC, bits 0..0 (R328). -/
def RS_STAT_EXC (n : Nat) : Loc := ⟨0xF00D010C + 0x40 * (n % 32), 0, 1⟩
/-- RS_STEP.ACT, bits 31..24 (R328). -/
def RS_STEP_ACT (n : Nat) : Loc := ⟨0xF00D0110 + 0x40 * (n % 32), 24, 8⟩
/-- RS_STEP.PREV, bits 23..12 (R328). -/
def RS_STEP_PREV (n : Nat) : Loc := ⟨0xF00D0110 + 0x40 * (n % 32), 12, 12⟩
/-- RS_STEP.STEP, bits 11..0 (R328). -/
def RS_STEP_STEP (n : Nat) : Loc := ⟨0xF00D0110 + 0x40 * (n % 32), 0, 12⟩
/-- RS_ELAP.ELAP, bits 31..0 (R328). -/
def RS_ELAP_ELAP (n : Nat) : Loc := ⟨0xF00D0114 + 0x40 * (n % 32), 0, 32⟩
/-- RS_INTR.MS, bits 31..0 (R328). -/
def RS_INTR_MS (n : Nat) : Loc := ⟨0xF00D0118 + 0x40 * (n % 32), 0, 32⟩
/-- RS_CNT.EXC_CNT, bits 31..16 (R328). -/
def RS_CNT_EXC_CNT (n : Nat) : Loc := ⟨0xF00D011C + 0x40 * (n % 32), 16, 16⟩
/-- RS_CNT.TRANS, bits 15..0 (R328). -/
def RS_CNT_TRANS (n : Nat) : Loc := ⟨0xF00D011C + 0x40 * (n % 32), 0, 16⟩
/-- RS_ERR.STEP, bits 23..12 (R328). -/
def RS_ERR_STEP (n : Nat) : Loc := ⟨0xF00D0120 + 0x40 * (n % 32), 12, 12⟩
/-- RS_ERR.ERR, bits 7..0 (R328). -/
def RS_ERR_ERR (n : Nat) : Loc := ⟨0xF00D0120 + 0x40 * (n % 32), 0, 8⟩

/-! ### Block PP -/

/-- PP_CTRL.EXPERT_EN, bits 31..31 (R357). -/
def PP_CTRL_EXPERT_EN : Loc := ⟨0xF0500000, 31, 1⟩
/-- PP_STAT.REPLANS, bits 31..0 (R357). -/
def PP_STAT_REPLANS : Loc := ⟨0xF0500004, 0, 32⟩
/-- PP_MOVING.MOVING, bits 31..0 (R357). -/
def PP_MOVING_MOVING (m : Nat) : Loc := ⟨0xF0500008 + 0x4 * (m % 4), 0, 32⟩

/-! ### Block MOT -/

/-- AX_CFG.EN, bits 31..31 (R358). -/
def AX_CFG_EN (n : Nat) : Loc := ⟨0xF0510000 + 0x100 * (n % 128), 31, 1⟩
/-- AX_CFG.MODE, bits 27..26 (R358). -/
def AX_CFG_MODE (n : Nat) : Loc := ⟨0xF0510000 + 0x100 * (n % 128), 26, 2⟩
/-- AX_CFG.SOFT_EN, bits 25..25 (R358). -/
def AX_CFG_SOFT_EN (n : Nat) : Loc := ⟨0xF0510000 + 0x100 * (n % 128), 25, 1⟩
/-- AX_CFG.SAFE_ACT, bits 24..24 (R358). -/
def AX_CFG_SAFE_ACT (n : Nat) : Loc := ⟨0xF0510000 + 0x100 * (n % 128), 24, 1⟩
/-- AX_CFG.AUTO_RES, bits 23..23 (R358). -/
def AX_CFG_AUTO_RES (n : Nat) : Loc := ⟨0xF0510000 + 0x100 * (n % 128), 23, 1⟩
/-- AX_CFG.STALL_EN, bits 22..22 (R358). -/
def AX_CFG_STALL_EN (n : Nat) : Loc := ⟨0xF0510000 + 0x100 * (n % 128), 22, 1⟩
/-- AX_CFG.STALL_ACT, bits 21..21 (R358). -/
def AX_CFG_STALL_ACT (n : Nat) : Loc := ⟨0xF0510000 + 0x100 * (n % 128), 21, 1⟩
/-- AX_CFG.DIR_INV, bits 20..20 (R358). -/
def AX_CFG_DIR_INV (n : Nat) : Loc := ⟨0xF0510000 + 0x100 * (n % 128), 20, 1⟩
/-- AX_CFG.FB_KIND, bits 19..18 (R358). -/
def AX_CFG_FB_KIND (n : Nat) : Loc := ⟨0xF0510000 + 0x100 * (n % 128), 18, 2⟩
/-- AX_CFG.QENC_EN, bits 17..17 (R358). -/
def AX_CFG_QENC_EN (n : Nat) : Loc := ⟨0xF0510000 + 0x100 * (n % 128), 17, 1⟩
/-- AX_CFG.QDIR_INV, bits 16..16 (R358). -/
def AX_CFG_QDIR_INV (n : Nat) : Loc := ⟨0xF0510000 + 0x100 * (n % 128), 16, 1⟩
/-- AX_TIM.DIR_SU, bits 15..8 (R358). -/
def AX_TIM_DIR_SU (n : Nat) : Loc := ⟨0xF0510004 + 0x100 * (n % 128), 8, 8⟩
/-- AX_TIM.PULSE_W, bits 7..0 (R358). -/
def AX_TIM_PULSE_W (n : Nat) : Loc := ⟨0xF0510004 + 0x100 * (n % 128), 0, 8⟩
/-- VMAX.VMAX, bits 31..0 (R358). -/
def VMAX (n : Nat) : Loc := ⟨0xF0510008 + 0x100 * (n % 128), 0, 32⟩
/-- AMAX.LIMIT, bits 31..0 (R358). -/
def AMAX_LIMIT (n : Nat) : Loc := ⟨0xF051000C + 0x100 * (n % 128), 0, 32⟩
/-- DMAX.LIMIT, bits 31..0 (R358). -/
def DMAX_LIMIT (n : Nat) : Loc := ⟨0xF0510010 + 0x100 * (n % 128), 0, 32⟩
/-- JMAX.JMAX, bits 31..0 (R358). -/
def JMAX (n : Nat) : Loc := ⟨0xF0510014 + 0x100 * (n % 128), 0, 32⟩
/-- EDMAX.LIMIT, bits 31..0 (R358). -/
def EDMAX_LIMIT (n : Nat) : Loc := ⟨0xF0510018 + 0x100 * (n % 128), 0, 32⟩
/-- SOFT_LO_L.V, bits 31..0 (R358). -/
def SOFT_LO_L (n : Nat) : Loc := ⟨0xF0510020 + 0x100 * (n % 128), 0, 32⟩
/-- SOFT_LO_H.V, bits 15..0 (R358). -/
def SOFT_LO_H (n : Nat) : Loc := ⟨0xF0510024 + 0x100 * (n % 128), 0, 16⟩
/-- SOFT_HI_L.V, bits 31..0 (R358). -/
def SOFT_HI_L (n : Nat) : Loc := ⟨0xF0510028 + 0x100 * (n % 128), 0, 32⟩
/-- SOFT_HI_H.V, bits 15..0 (R358). -/
def SOFT_HI_H (n : Nat) : Loc := ⟨0xF051002C + 0x100 * (n % 128), 0, 16⟩
/-- TGT_L.V, bits 31..0 (R358). -/
def TGT_L (n : Nat) : Loc := ⟨0xF0510030 + 0x100 * (n % 128), 0, 32⟩
/-- TGT_H.V, bits 15..0 (R358). -/
def TGT_H (n : Nat) : Loc := ⟨0xF0510034 + 0x100 * (n % 128), 0, 16⟩
/-- AX_CMD.KEY, bits 31..24 (R358). -/
def AX_CMD_KEY (n : Nat) : Loc := ⟨0xF0510038 + 0x100 * (n % 128), 24, 8⟩
/-- AX_CMD.CODE, bits 7..0 (R358). -/
def AX_CMD_CODE (n : Nat) : Loc := ⟨0xF0510038 + 0x100 * (n % 128), 0, 8⟩
/-- AX_STAT.STATE, bits 31..28 (R358). -/
def AX_STAT_STATE (n : Nat) : Loc := ⟨0xF051003C + 0x100 * (n % 128), 28, 4⟩
/-- AX_STAT.RESULT, bits 27..24 (R358). -/
def AX_STAT_RESULT (n : Nat) : Loc := ⟨0xF051003C + 0x100 * (n % 128), 24, 4⟩
/-- AX_STAT.CODE, bits 23..16 (R358). -/
def AX_STAT_CODE (n : Nat) : Loc := ⟨0xF051003C + 0x100 * (n % 128), 16, 8⟩
/-- AX_STAT.STOP_CAUSE, bits 14..12 (R358). -/
def AX_STAT_STOP_CAUSE (n : Nat) : Loc := ⟨0xF051003C + 0x100 * (n % 128), 12, 3⟩
/-- AX_STAT.IN_POS, bits 11..11 (R358). -/
def AX_STAT_IN_POS (n : Nat) : Loc := ⟨0xF051003C + 0x100 * (n % 128), 11, 1⟩
/-- AX_STAT.RATE_CLAMP, bits 10..10 (R358). -/
def AX_STAT_RATE_CLAMP (n : Nat) : Loc := ⟨0xF051003C + 0x100 * (n % 128), 10, 1⟩
/-- AX_STAT.TGT_REFUSED, bits 9..9 (R358). -/
def AX_STAT_TGT_REFUSED (n : Nat) : Loc := ⟨0xF051003C + 0x100 * (n % 128), 9, 1⟩
/-- AX_STAT.FB_LOST, bits 8..8 (R358). -/
def AX_STAT_FB_LOST (n : Nat) : Loc := ⟨0xF051003C + 0x100 * (n % 128), 8, 1⟩
/-- AX_STAT.FERR, bits 7..7 (R358). -/
def AX_STAT_FERR (n : Nat) : Loc := ⟨0xF051003C + 0x100 * (n % 128), 7, 1⟩
/-- AX_STAT.QERR, bits 6..6 (R358). -/
def AX_STAT_QERR (n : Nat) : Loc := ⟨0xF051003C + 0x100 * (n % 128), 6, 1⟩
/-- AX_STAT.STEP_MM, bits 5..5 (R358). -/
def AX_STAT_STEP_MM (n : Nat) : Loc := ⟨0xF051003C + 0x100 * (n % 128), 5, 1⟩
/-- AX_STAT.STALL, bits 4..4 (R358). -/
def AX_STAT_STALL (n : Nat) : Loc := ⟨0xF051003C + 0x100 * (n % 128), 4, 1⟩
/-- AX_STAT.LIMIT_FAULT, bits 3..3 (R358). -/
def AX_STAT_LIMIT_FAULT (n : Nat) : Loc := ⟨0xF051003C + 0x100 * (n % 128), 3, 1⟩
/-- AX_STAT.LIMIT_DECEL, bits 2..2 (R358). -/
def AX_STAT_LIMIT_DECEL (n : Nat) : Loc := ⟨0xF051003C + 0x100 * (n % 128), 2, 1⟩
/-- AX_STAT.POS_LOST, bits 1..1 (R358). -/
def AX_STAT_POS_LOST (n : Nat) : Loc := ⟨0xF051003C + 0x100 * (n % 128), 1, 1⟩
/-- POS_L.V, bits 31..0 (R358). -/
def POS_L (n : Nat) : Loc := ⟨0xF0510040 + 0x100 * (n % 128), 0, 32⟩
/-- POS_H.V, bits 15..0 (R358). -/
def POS_H (n : Nat) : Loc := ⟨0xF0510044 + 0x100 * (n % 128), 0, 16⟩
/-- ACT_L.V, bits 31..0 (R358). -/
def ACT_L (n : Nat) : Loc := ⟨0xF0510048 + 0x100 * (n % 128), 0, 32⟩
/-- ACT_H.V, bits 15..0 (R358). -/
def ACT_H (n : Nat) : Loc := ⟨0xF051004C + 0x100 * (n % 128), 0, 16⟩
/-- REM_L.V, bits 31..0 (R358). -/
def REM_L (n : Nat) : Loc := ⟨0xF0510050 + 0x100 * (n % 128), 0, 32⟩
/-- REM_H.V, bits 15..0 (R358). -/
def REM_H (n : Nat) : Loc := ⟨0xF0510054 + 0x100 * (n % 128), 0, 16⟩
/-- VEL.VEL, bits 31..0 (R358). -/
def VEL (n : Nat) : Loc := ⟨0xF0510058 + 0x100 * (n % 128), 0, 32⟩
/-- SRV_CFG.SLOT, bits 31..23 (R358). -/
def SRV_CFG_SLOT (n : Nat) : Loc := ⟨0xF051005C + 0x100 * (n % 128), 23, 9⟩
/-- SRV_CFG.ESH, bits 22..19 (R358). -/
def SRV_CFG_ESH (n : Nat) : Loc := ⟨0xF051005C + 0x100 * (n % 128), 19, 4⟩
/-- SRV_CFG.FB_CH, bits 18..15 (R358). -/
def SRV_CFG_FB_CH (n : Nat) : Loc := ⟨0xF051005C + 0x100 * (n % 128), 15, 4⟩
/-- SRV_CFG.INPOS, bits 14..0 (R358). -/
def SRV_CFG_INPOS (n : Nat) : Loc := ⟨0xF051005C + 0x100 * (n % 128), 0, 15⟩
/-- FB_EP.HANDLE, bits 31..0 (R358). -/
def FB_EP_HANDLE (n : Nat) : Loc := ⟨0xF0510060 + 0x100 * (n % 128), 0, 32⟩
/-- FERR_MAX.LIMIT, bits 31..0 (R358). -/
def FERR_MAX_LIMIT (n : Nat) : Loc := ⟨0xF0510064 + 0x100 * (n % 128), 0, 32⟩
/-- FERR.FERR, bits 31..0 (R358). -/
def FERR (n : Nat) : Loc := ⟨0xF0510068 + 0x100 * (n % 128), 0, 32⟩
/-- STALL_CFG.STALL_ANG, bits 31..24 (R358). -/
def STALL_CFG_STALL_ANG (n : Nat) : Loc := ⟨0xF051006C + 0x100 * (n % 128), 24, 8⟩
/-- STALL_CFG.STALL_N, bits 23..20 (R358). -/
def STALL_CFG_STALL_N (n : Nat) : Loc := ⟨0xF051006C + 0x100 * (n % 128), 20, 4⟩
/-- STALL_CFG.MICRO, bits 17..10 (R358). -/
def STALL_CFG_MICRO (n : Nat) : Loc := ⟨0xF051006C + 0x100 * (n % 128), 10, 8⟩
/-- STALL_CFG.PH0, bits 9..0 (R358). -/
def STALL_CFG_PH0 (n : Nat) : Loc := ⟨0xF051006C + 0x100 * (n % 128), 0, 10⟩
/-- STALL_K.KE, bits 31..16 (R358). -/
def STALL_K_KE (n : Nat) : Loc := ⟨0xF0510070 + 0x100 * (n % 128), 16, 16⟩
/-- STALL_K.LI, bits 15..0 (R358). -/
def STALL_K_LI (n : Nat) : Loc := ⟨0xF0510070 + 0x100 * (n % 128), 0, 16⟩
/-- STALL_LIM.EMIN, bits 31..16 (R358). -/
def STALL_LIM_EMIN (n : Nat) : Loc := ⟨0xF0510074 + 0x100 * (n % 128), 16, 16⟩
/-- STALL_LIM.RATED, bits 15..0 (R358). -/
def STALL_LIM_RATED (n : Nat) : Loc := ⟨0xF0510074 + 0x100 * (n % 128), 0, 16⟩
/-- STALL_STAT.ANGLE, bits 31..24 (R358). -/
def STALL_STAT_ANGLE (n : Nat) : Loc := ⟨0xF0510078 + 0x100 * (n % 128), 24, 8⟩
/-- STALL_STAT.COUNT, bits 23..20 (R358). -/
def STALL_STAT_COUNT (n : Nat) : Loc := ⟨0xF0510078 + 0x100 * (n % 128), 20, 4⟩
/-- STALL_STAT.E, bits 15..0 (R358). -/
def STALL_STAT_E (n : Nat) : Loc := ⟨0xF0510078 + 0x100 * (n % 128), 0, 16⟩
/-- MOT_CTRL.EXPERT_EN, bits 31..31 (R358). -/
def MOT_CTRL_EXPERT_EN : Loc := ⟨0xF05100FC, 31, 1⟩

/-! ### Block ILM -/

/-- ILM_CTRL.EXPERT_EN, bits 31..31 (R387). -/
def ILM_CTRL_EXPERT_EN : Loc := ⟨0xF0080000, 31, 1⟩
/-- ILM_CTRL.EVTBASE, bits 15..0 (R387). -/
def ILM_CTRL_EVTBASE : Loc := ⟨0xF0080000, 0, 16⟩
/-- ILM_CMD.KEY, bits 31..24 (R387). -/
def ILM_CMD_KEY : Loc := ⟨0xF0080004, 24, 8⟩
/-- ILM_CMD.CODE, bits 7..0 (R387). -/
def ILM_CMD_CODE : Loc := ⟨0xF0080004, 0, 8⟩
/-- ILM_ARG.SET, bits 9..9 (R387). -/
def ILM_ARG_SET : Loc := ⟨0xF0080008, 9, 1⟩
/-- ILM_ARG.TERM, bits 8..0 (R387). -/
def ILM_ARG_TERM : Loc := ⟨0xF0080008, 0, 9⟩
/-- ILM_STAT.ACTIVE, bits 31..31 (R387). -/
def ILM_STAT_ACTIVE : Loc := ⟨0xF008000C, 31, 1⟩
/-- ILM_STAT.LOADED, bits 30..30 (R387). -/
def ILM_STAT_LOADED : Loc := ⟨0xF008000C, 30, 1⟩
/-- ILM_STAT.SWAP_PEND, bits 29..29 (R387). -/
def ILM_STAT_SWAP_PEND : Loc := ⟨0xF008000C, 29, 1⟩
/-- ILM_STAT.GLOBAL, bits 23..16 (R387). -/
def ILM_STAT_GLOBAL : Loc := ⟨0xF008000C, 16, 8⟩
/-- ILM_STAT.DEMOTED, bits 15..8 (R387). -/
def ILM_STAT_DEMOTED : Loc := ⟨0xF008000C, 8, 8⟩
/-- ILM_STAT.RESULT, bits 3..0 (R387). -/
def ILM_STAT_RESULT : Loc := ⟨0xF008000C, 0, 4⟩
/-- ILM_ERR.ERR, bits 23..16 (R387). -/
def ILM_ERR_ERR : Loc := ⟨0xF0080010, 16, 8⟩
/-- ILM_ERR.TERM, bits 8..0 (R387). -/
def ILM_ERR_TERM : Loc := ⟨0xF0080010, 0, 9⟩
/-- ILM_LDSTAT.SET, bits 31..31 (R582). -/
def ILM_LDSTAT_SET : Loc := ⟨0xF0080014, 31, 1⟩
/-- ILM_LDSTAT.GLOBAL, bits 23..16 (R582). -/
def ILM_LDSTAT_GLOBAL : Loc := ⟨0xF0080014, 16, 8⟩
/-- ILM_LDSTAT.DEMOTED, bits 15..8 (R582). -/
def ILM_LDSTAT_DEMOTED : Loc := ⟨0xF0080014, 8, 8⟩
/-- ILM_HELD.BITS, bits 31..0 (R387). -/
def ILM_HELD_BITS (k : Nat) : Loc := ⟨0xF0080020 + 0x4 * (k % 13), 0, 32⟩
/-- ILM_LATA.BITS, bits 31..0 (R387). -/
def ILM_LATA_BITS (k : Nat) : Loc := ⟨0xF0080080 + 0x4 * (k % 16), 0, 32⟩
/-- ILM_LATB.BITS, bits 31..0 (R387). -/
def ILM_LATB_BITS (k : Nat) : Loc := ⟨0xF00800C0 + 0x4 * (k % 16), 0, 32⟩
/-- ILM_TRUE.BITS, bits 31..0 (R387). -/
def ILM_TRUE_BITS (k : Nat) : Loc := ⟨0xF0080100 + 0x4 * (k % 16), 0, 32⟩
/-- ILM_FFILT.FILT, bits 31..0 (R387). -/
def ILM_FFILT_FILT (k : Nat) : Loc := ⟨0xF0080200 + 0x4 * (k % 16), 0, 32⟩
/-- ILM_IFILT.FILT, bits 31..0 (R387). -/
def ILM_IFILT_FILT (m : Nat) : Loc := ⟨0xF0080240 + 0x4 * (m % 2), 0, 32⟩
/-- ILM_TERM.WORD, bits 31..0 (R377). -/
def ILM_TERM_WORD (set t w : Nat) : Loc := ⟨0xF0081000 + 0x2000 * (set % 2) + 0x10 * (t % 512) + 0x4 * (w % 4), 0, 32⟩

/-! ### Block CBUS -/

/-- CB_CTRL.EXPERT_EN, bits 31..31 (R394). -/
def CB_CTRL_EXPERT_EN : Loc := ⟨0xF0090000, 31, 1⟩
/-- CB_CTRL.EN, bits 0..0 (R394). -/
def CB_CTRL_EN : Loc := ⟨0xF0090000, 0, 1⟩
/-- CB_STAT.CB_OVF, bits 2..2 (R394). -/
def CB_STAT_CB_OVF : Loc := ⟨0xF0090004, 2, 1⟩
/-- CB_STAT.CB_TURN, bits 1..1 (R394). -/
def CB_STAT_CB_TURN : Loc := ⟨0xF0090004, 1, 1⟩
/-- CB_STAT.CB_UNMAPPED, bits 0..0 (R394). -/
def CB_STAT_CB_UNMAPPED : Loc := ⟨0xF0090004, 0, 1⟩
/-- CB_CNT.IGNORED, bits 31..16 (R394). -/
def CB_CNT_IGNORED : Loc := ⟨0xF0090008, 16, 16⟩
/-- CB_CNT.DROP, bits 15..0 (R394). -/
def CB_CNT_DROP : Loc := ⟨0xF0090008, 0, 16⟩
/-- CB_FAST.VALUE, bits 31..0 (R394). -/
def CB_FAST_VALUE (k : Nat) : Loc := ⟨0xF0090100 + 0x4 * (k % 64), 0, 32⟩
/-- CB_MIR.HANDLE, bits 31..0 (R394). -/
def CB_MIR_HANDLE (k : Nat) : Loc := ⟨0xF0094000 + 0x4 * (k % 4096), 0, 32⟩

/-! ### Block REC -/

/-- REC_CTRL.EXPERT_EN, bits 31..31 (R421). -/
def REC_CTRL_EXPERT_EN : Loc := ⟨0xF00C0000, 31, 1⟩
/-- REC_CTRL.FLUSH_MS, bits 15..0 (R421). -/
def REC_CTRL_FLUSH_MS : Loc := ⟨0xF00C0000, 0, 16⟩
/-- REC_SPILLBASE.BASE, bits 13..0 (R421). -/
def REC_SPILLBASE_BASE : Loc := ⟨0xF00C0004, 0, 14⟩
/-- REC_SPILLSIZE.SIZE, bits 5..0 (R421). -/
def REC_SPILLSIZE_SIZE : Loc := ⟨0xF00C0008, 0, 6⟩
/-- REC_PREBASE.BASE, bits 13..0 (R421). -/
def REC_PREBASE_BASE : Loc := ⟨0xF00C000C, 0, 14⟩
/-- REC_RATE.MBPS, bits 31..0 (R421). -/
def REC_RATE_MBPS : Loc := ⟨0xF00C0010, 0, 32⟩
/-- REC_OUTRATE.MBPS, bits 31..0 (R421). -/
def REC_OUTRATE_MBPS : Loc := ⟨0xF00C0014, 0, 32⟩
/-- REC_SPILLUSE.PCT, bits 6..0 (R421). -/
def REC_SPILLUSE_PCT : Loc := ⟨0xF00C0018, 0, 7⟩
/-- REC_LADDER.STEPS, bits 31..16 (R421). -/
def REC_LADDER_STEPS : Loc := ⟨0xF00C001C, 16, 16⟩
/-- REC_LADDER.SUSP_PRI, bits 7..4 (R421). -/
def REC_LADDER_SUSP_PRI : Loc := ⟨0xF00C001C, 4, 4⟩
/-- REC_LADDER.DEC_PRI, bits 3..0 (R421). -/
def REC_LADDER_DEC_PRI : Loc := ⟨0xF00C001C, 0, 4⟩
/-- REC_MODID.ID, bits 31..0 (R421). -/
def REC_MODID_ID : Loc := ⟨0xF00C0020, 0, 32⟩
/-- REC_CFGGEN.GEN, bits 31..0 (R421). -/
def REC_CFGGEN_GEN : Loc := ⟨0xF00C0024, 0, 32⟩
/-- UNIT_CFG.EN, bits 31..31 (R421). -/
def UNIT_CFG_EN (u : Nat) : Loc := ⟨0xF00C0100 + 0x100 * (u % 16), 31, 1⟩
/-- UNIT_CFG.MODE, bits 30..29 (R421). -/
def UNIT_CFG_MODE (u : Nat) : Loc := ⟨0xF00C0100 + 0x100 * (u % 16), 29, 2⟩
/-- UNIT_CFG.OUT, bits 28..27 (R421). -/
def UNIT_CFG_OUT (u : Nat) : Loc := ⟨0xF00C0100 + 0x100 * (u % 16), 27, 2⟩
/-- UNIT_CFG.RECOUT, bits 26..26 (R421). -/
def UNIT_CFG_RECOUT (u : Nat) : Loc := ⟨0xF00C0100 + 0x100 * (u % 16), 26, 1⟩
/-- UNIT_CFG.TOUT_EN, bits 25..25 (R421). -/
def UNIT_CFG_TOUT_EN (u : Nat) : Loc := ⟨0xF00C0100 + 0x100 * (u % 16), 25, 1⟩
/-- UNIT_CFG.TOUT_LINE, bits 24..22 (R421). -/
def UNIT_CFG_TOUT_LINE (u : Nat) : Loc := ⟨0xF00C0100 + 0x100 * (u % 16), 22, 3⟩
/-- UNIT_CFG.PRE_SIZE, bits 6..0 (R421). -/
def UNIT_CFG_PRE_SIZE (u : Nat) : Loc := ⟨0xF00C0100 + 0x100 * (u % 16), 0, 7⟩
/-- UNIT_CMD.KEY, bits 31..24 (R421). -/
def UNIT_CMD_KEY (u : Nat) : Loc := ⟨0xF00C0104 + 0x100 * (u % 16), 24, 8⟩
/-- UNIT_CMD.CODE, bits 7..0 (R421). -/
def UNIT_CMD_CODE (u : Nat) : Loc := ⟨0xF00C0104 + 0x100 * (u % 16), 0, 8⟩
/-- UNIT_STAT.STATE, bits 31..28 (R421). -/
def UNIT_STAT_STATE (u : Nat) : Loc := ⟨0xF00C0108 + 0x100 * (u % 16), 28, 4⟩
/-- UNIT_STAT.RESULT, bits 27..24 (R421). -/
def UNIT_STAT_RESULT (u : Nat) : Loc := ⟨0xF00C0108 + 0x100 * (u % 16), 24, 4⟩
/-- UNIT_STAT.CODE, bits 23..16 (R421). -/
def UNIT_STAT_CODE (u : Nat) : Loc := ⟨0xF00C0108 + 0x100 * (u % 16), 16, 8⟩
/-- PRE_TIME.US, bits 23..0 (R421). -/
def PRE_TIME_US (u : Nat) : Loc := ⟨0xF00C010C + 0x100 * (u % 16), 0, 24⟩
/-- POST_TIME.US, bits 23..0 (R421). -/
def POST_TIME_US (u : Nat) : Loc := ⟨0xF00C0110 + 0x100 * (u % 16), 0, 24⟩
/-- UNIT_TMO.AUTO_TO, bits 31..16 (R421). -/
def UNIT_TMO_AUTO_TO (u : Nat) : Loc := ⟨0xF00C0114 + 0x100 * (u % 16), 16, 16⟩
/-- UNIT_TMO.HOLDOFF, bits 15..0 (R421). -/
def UNIT_TMO_HOLDOFF (u : Nat) : Loc := ⟨0xF00C0114 + 0x100 * (u % 16), 0, 16⟩
/-- TRIG_EN.FIO_POL, bits 31..31 (R421). -/
def TRIG_EN_FIO_POL (u : Nat) : Loc := ⟨0xF00C0118 + 0x100 * (u % 16), 31, 1⟩
/-- TRIG_EN.FIO_CH, bits 30..24 (R421). -/
def TRIG_EN_FIO_CH (u : Nat) : Loc := ⟨0xF00C0118 + 0x100 * (u % 16), 24, 7⟩
/-- TRIG_EN.TRIGL_POL, bits 23..16 (R421). -/
def TRIG_EN_TRIGL_POL (u : Nat) : Loc := ⟨0xF00C0118 + 0x100 * (u % 16), 16, 8⟩
/-- TRIG_EN.SRC, bits 14..0 (R421). -/
def TRIG_EN_SRC (u : Nat) : Loc := ⟨0xF00C0118 + 0x100 * (u % 16), 0, 15⟩
/-- MASK_CFG.EN, bits 31..31 (R421). -/
def MASK_CFG_EN (u : Nat) : Loc := ⟨0xF00C0150 + 0x100 * (u % 16), 31, 1⟩
/-- MASK_CFG.STREAM, bits 24..15 (R421). -/
def MASK_CFG_STREAM (u : Nat) : Loc := ⟨0xF00C0150 + 0x100 * (u % 16), 15, 10⟩
/-- MASK_CFG.NPTS, bits 14..0 (R421). -/
def MASK_CFG_NPTS (u : Nat) : Loc := ⟨0xF00C0150 + 0x100 * (u % 16), 0, 15⟩
/-- MASK_OFS.VALUE, bits 31..0 (R421). -/
def MASK_OFS_VALUE (u : Nat) : Loc := ⟨0xF00C0154 + 0x100 * (u % 16), 0, 32⟩
/-- MASK_DT.VALUE, bits 31..0 (R421). -/
def MASK_DT_VALUE (u : Nat) : Loc := ⟨0xF00C0158 + 0x100 * (u % 16), 0, 32⟩
/-- MASK_BASE.BASE, bits 31..0 (R421). -/
def MASK_BASE_BASE (u : Nat) : Loc := ⟨0xF00C015C + 0x100 * (u % 16), 0, 32⟩
/-- UNIT_EVT.EVT, bits 15..0 (R421). -/
def UNIT_EVT_EVT (u : Nat) : Loc := ⟨0xF00C0160 + 0x100 * (u % 16), 0, 16⟩
/-- DBASE_L.V, bits 31..0 (R421). -/
def DBASE_L (u : Nat) : Loc := ⟨0xF00C0164 + 0x100 * (u % 16), 0, 32⟩
/-- DBASE_H.V, bits 15..0 (R421). -/
def DBASE_H (u : Nat) : Loc := ⟨0xF00C0168 + 0x100 * (u % 16), 0, 16⟩
/-- DLEN.PAGES, bits 31..0 (R421). -/
def DLEN_PAGES (u : Nat) : Loc := ⟨0xF00C016C + 0x100 * (u % 16), 0, 32⟩
/-- RBASE_L.V, bits 31..0 (R421). -/
def RBASE_L (u : Nat) : Loc := ⟨0xF00C0170 + 0x100 * (u % 16), 0, 32⟩
/-- RBASE_H.V, bits 15..0 (R421). -/
def RBASE_H (u : Nat) : Loc := ⟨0xF00C0174 + 0x100 * (u % 16), 0, 16⟩
/-- RLEN.PAGES, bits 31..0 (R421). -/
def RLEN_PAGES (u : Nat) : Loc := ⟨0xF00C0178 + 0x100 * (u % 16), 0, 32⟩
/-- MISSED_TRIG.COUNT, bits 31..0 (R421). -/
def MISSED_TRIG_COUNT (u : Nat) : Loc := ⟨0xF00C017C + 0x100 * (u % 16), 0, 32⟩
/-- RECORDS.COUNT, bits 31..0 (R421). -/
def RECORDS_COUNT (u : Nat) : Loc := ⟨0xF00C0180 + 0x100 * (u % 16), 0, 32⟩
/-- SEQ_L.SEQ, bits 31..0 (R421). -/
def SEQ_L_SEQ (u : Nat) : Loc := ⟨0xF00C0184 + 0x100 * (u % 16), 0, 32⟩
/-- SEQ_H.SEQ, bits 31..0 (R421). -/
def SEQ_H_SEQ (u : Nat) : Loc := ⟨0xF00C0188 + 0x100 * (u % 16), 0, 32⟩
/-- COND_C.EN, bits 31..31 (R421). -/
def COND_C_EN (u c : Nat) : Loc := ⟨0xF00C0120 + 0x100 * (u % 16) + 0xC * (c % 4), 31, 1⟩
/-- COND_C.KIND, bits 30..29 (R421). -/
def COND_C_KIND (u c : Nat) : Loc := ⟨0xF00C0120 + 0x100 * (u % 16) + 0xC * (c % 4), 29, 2⟩
/-- COND_C.SENSE, bits 28..27 (R421). -/
def COND_C_SENSE (u c : Nat) : Loc := ⟨0xF00C0120 + 0x100 * (u % 16) + 0xC * (c % 4), 27, 2⟩
/-- COND_C.STREAM, bits 9..0 (R421). -/
def COND_C_STREAM (u c : Nat) : Loc := ⟨0xF00C0120 + 0x100 * (u % 16) + 0xC * (c % 4), 0, 10⟩
/-- COND_L1.LIMIT, bits 31..0 (R421). -/
def COND_L1_LIMIT (u c : Nat) : Loc := ⟨0xF00C0124 + 0x100 * (u % 16) + 0xC * (c % 4), 0, 32⟩
/-- COND_L2.LIMIT, bits 31..0 (R421). -/
def COND_L2_LIMIT (u c : Nat) : Loc := ⟨0xF00C0128 + 0x100 * (u % 16) + 0xC * (c % 4), 0, 32⟩
/-- REC_SSRC.HANDLE, bits 31..0 (R421). -/
def REC_SSRC_HANDLE (m : Nat) : Loc := ⟨0xF00C2000 + 0x8 * (m % 1024), 0, 32⟩
/-- REC_SCFG.EN, bits 31..31 (R421). -/
def REC_SCFG_EN (m : Nat) : Loc := ⟨0xF00C2004 + 0x8 * (m % 1024), 31, 1⟩
/-- REC_SCFG.UNIT, bits 30..27 (R421). -/
def REC_SCFG_UNIT (m : Nat) : Loc := ⟨0xF00C2004 + 0x8 * (m % 1024), 27, 4⟩
/-- REC_SCFG.RPRI, bits 26..24 (R421). -/
def REC_SCFG_RPRI (m : Nat) : Loc := ⟨0xF00C2004 + 0x8 * (m % 1024), 24, 3⟩
/-- REC_SCFG.DMODE, bits 23..22 (R421). -/
def REC_SCFG_DMODE (m : Nat) : Loc := ⟨0xF00C2004 + 0x8 * (m % 1024), 22, 2⟩
/-- REC_SCFG.DEXP, bits 21..18 (R421). -/
def REC_SCFG_DEXP (m : Nat) : Loc := ⟨0xF00C2004 + 0x8 * (m % 1024), 18, 4⟩
/-- REC_SCFG.EFF_EXP, bits 17..14 (R421). -/
def REC_SCFG_EFF_EXP (m : Nat) : Loc := ⟨0xF00C2004 + 0x8 * (m % 1024), 14, 4⟩
/-- REC_SCFG.SUSP, bits 13..13 (R421). -/
def REC_SCFG_SUSP (m : Nat) : Loc := ⟨0xF00C2004 + 0x8 * (m % 1024), 13, 1⟩
/-- REC_SCFG.TASK, bits 12..7 (R421). -/
def REC_SCFG_TASK (m : Nat) : Loc := ⟨0xF00C2004 + 0x8 * (m % 1024), 7, 6⟩

/-! ### Block PCIE -/

/-- PCIE_CTRL.EXPERT_EN, bits 31..31 (R422). -/
def PCIE_CTRL_EXPERT_EN : Loc := ⟨0xF0120000, 31, 1⟩
/-- PCIE_CTRL.GEN4, bits 2..2 (R422). -/
def PCIE_CTRL_GEN4 : Loc := ⟨0xF0120000, 2, 1⟩
/-- PCIE_CTRL.EN, bits 0..0 (R422). -/
def PCIE_CTRL_EN : Loc := ⟨0xF0120000, 0, 1⟩
/-- PCIE_STAT.WIDTH, bits 11..8 (R422). -/
def PCIE_STAT_WIDTH : Loc := ⟨0xF0120004, 8, 4⟩
/-- PCIE_STAT.GEN, bits 4..4 (R422). -/
def PCIE_STAT_GEN : Loc := ⟨0xF0120004, 4, 1⟩
/-- PCIE_STAT.PAUSED, bits 3..3 (R422). -/
def PCIE_STAT_PAUSED : Loc := ⟨0xF0120004, 3, 1⟩
/-- PCIE_STAT.NVME_READY, bits 1..1 (R422). -/
def PCIE_STAT_NVME_READY : Loc := ⟨0xF0120004, 1, 1⟩
/-- PCIE_STAT.LINK_UP, bits 0..0 (R422). -/
def PCIE_STAT_LINK_UP : Loc := ⟨0xF0120004, 0, 1⟩
/-- PCIE_CMD.KEY, bits 31..24 (R422). -/
def PCIE_CMD_KEY : Loc := ⟨0xF0120008, 24, 8⟩
/-- PCIE_CMD.CODE, bits 7..0 (R422). -/
def PCIE_CMD_CODE : Loc := ⟨0xF0120008, 0, 8⟩
/-- NVME_NSID.NSID, bits 31..0 (R422). -/
def NVME_NSID_NSID : Loc := ⟨0xF012000C, 0, 32⟩
/-- NVME_CNT.RETRY, bits 31..16 (R422). -/
def NVME_CNT_RETRY : Loc := ⟨0xF0120010, 16, 16⟩
/-- NVME_CNT.NVME_FAIL, bits 15..0 (R422). -/
def NVME_CNT_NVME_FAIL : Loc := ⟨0xF0120010, 0, 16⟩

/-! ### Block TIME -/

/-- TIME_CTRL.EXPERT_EN, bits 31..31 (R444). -/
def TIME_CTRL_EXPERT_EN : Loc := ⟨0xF0070000, 31, 1⟩
/-- TIME_CTRL.JUMP_TH, bits 23..8 (R444). -/
def TIME_CTRL_JUMP_TH : Loc := ⟨0xF0070000, 8, 16⟩
/-- TIME_CTRL.SLEW, bits 7..2 (R444). -/
def TIME_CTRL_SLEW : Loc := ⟨0xF0070000, 2, 6⟩
/-- TIME_SEL.REVERT_S, bits 23..16 (R444). -/
def TIME_SEL_REVERT_S : Loc := ⟨0xF0070004, 16, 8⟩
/-- TIME_SEL.DL_TRACK, bits 3..3 (R444). -/
def TIME_SEL_DL_TRACK : Loc := ⟨0xF0070004, 3, 1⟩
/-- TIME_SEL.AUTO, bits 2..2 (R444). -/
def TIME_SEL_AUTO : Loc := ⟨0xF0070004, 2, 1⟩
/-- TIME_SEL.PREF, bits 1..0 (R444). -/
def TIME_SEL_PREF : Loc := ⟨0xF0070004, 0, 2⟩
/-- TIME_CMD.KEY, bits 31..24 (R444). -/
def TIME_CMD_KEY : Loc := ⟨0xF0070008, 24, 8⟩
/-- TIME_CMD.DOM, bits 9..8 (R444). -/
def TIME_CMD_DOM : Loc := ⟨0xF0070008, 8, 2⟩
/-- TIME_CMD.CODE, bits 7..0 (R444). -/
def TIME_CMD_CODE : Loc := ⟨0xF0070008, 0, 8⟩
/-- TIME_STAT.RESULT, bits 31..28 (R444). -/
def TIME_STAT_RESULT : Loc := ⟨0xF007000C, 28, 4⟩
/-- TIME_STAT.CODE, bits 27..20 (R444). -/
def TIME_STAT_CODE : Loc := ⟨0xF007000C, 20, 8⟩
/-- TIME_STAT.OT_DOM, bits 9..8 (R444). -/
def TIME_STAT_OT_DOM : Loc := ⟨0xF007000C, 8, 2⟩
/-- TIME_STAT.OT_VALID, bits 7..7 (R444). -/
def TIME_STAT_OT_VALID : Loc := ⟨0xF007000C, 7, 1⟩
/-- TIME_STAT.SLEWING, bits 6..6 (R444). -/
def TIME_STAT_SLEWING : Loc := ⟨0xF007000C, 6, 1⟩
/-- TIME_STAT.SW_REFUSED, bits 5..5 (R444). -/
def TIME_STAT_SW_REFUSED : Loc := ⟨0xF007000C, 5, 1⟩
/-- TIME_STAT.JEXCL, bits 4..2 (R444). -/
def TIME_STAT_JEXCL : Loc := ⟨0xF007000C, 2, 3⟩
/-- TIME_RES_L.VALUE, bits 31..0 (R444). -/
def TIME_RES_L_VALUE : Loc := ⟨0xF0070010, 0, 32⟩
/-- TIME_RES_H.VALUE, bits 31..0 (R444). -/
def TIME_RES_H_VALUE : Loc := ⟨0xF0070014, 0, 32⟩
/-- SNAP_TBC_L.VALUE, bits 31..0 (R444). -/
def SNAP_TBC_L_VALUE : Loc := ⟨0xF0070020, 0, 32⟩
/-- SNAP_TBC_H.VALUE, bits 31..0 (R444). -/
def SNAP_TBC_H_VALUE : Loc := ⟨0xF0070024, 0, 32⟩
/-- SNAP_OT_L.VALUE, bits 31..0 (R444). -/
def SNAP_OT_L_VALUE : Loc := ⟨0xF0070028, 0, 32⟩
/-- SNAP_OT_H.VALUE, bits 31..0 (R444). -/
def SNAP_OT_H_VALUE : Loc := ⟨0xF007002C, 0, 32⟩
/-- SNAP_D0_L.VALUE, bits 31..0 (R444). -/
def SNAP_D0_L_VALUE : Loc := ⟨0xF0070030, 0, 32⟩
/-- SNAP_D0_H.VALUE, bits 31..0 (R444). -/
def SNAP_D0_H_VALUE : Loc := ⟨0xF0070034, 0, 32⟩
/-- SNAP_D1_L.VALUE, bits 31..0 (R444). -/
def SNAP_D1_L_VALUE : Loc := ⟨0xF0070038, 0, 32⟩
/-- SNAP_D1_H.VALUE, bits 31..0 (R444). -/
def SNAP_D1_H_VALUE : Loc := ⟨0xF007003C, 0, 32⟩
/-- SNAP_DL_L.VALUE, bits 31..0 (R444). -/
def SNAP_DL_L_VALUE : Loc := ⟨0xF0070040, 0, 32⟩
/-- SNAP_DL_H.VALUE, bits 31..0 (R444). -/
def SNAP_DL_H_VALUE : Loc := ⟨0xF0070044, 0, 32⟩
/-- DOM_CFG.SRC, bits 31..30 (R444). -/
def DOM_CFG_SRC (d : Nat) : Loc := ⟨0xF0070100 + 0x40 * (d % 3), 30, 2⟩
/-- DOM_CFG.PORT, bits 29..29 (R444). -/
def DOM_CFG_PORT (d : Nat) : Loc := ⟨0xF0070100 + 0x40 * (d % 3), 29, 1⟩
/-- DOM_CFG.DOMNUM, bits 23..16 (R444). -/
def DOM_CFG_DOMNUM (d : Nat) : Loc := ⟨0xF0070100 + 0x40 * (d % 3), 16, 8⟩
/-- DOM_CFG.TRANSPORT, bits 15..14 (R444). -/
def DOM_CFG_TRANSPORT (d : Nat) : Loc := ⟨0xF0070100 + 0x40 * (d % 3), 14, 2⟩
/-- DOM_CFG.P2P, bits 13..13 (R444). -/
def DOM_CFG_P2P (d : Nat) : Loc := ⟨0xF0070100 + 0x40 * (d % 3), 13, 1⟩
/-- DOM_CFG.ONE_STEP, bits 12..12 (R444). -/
def DOM_CFG_ONE_STEP (d : Nat) : Loc := ⟨0xF0070100 + 0x40 * (d % 3), 12, 1⟩
/-- DOM_STAT.STATE, bits 31..28 (R444). -/
def DOM_STAT_STATE (d : Nat) : Loc := ⟨0xF0070104 + 0x40 * (d % 3), 28, 4⟩
/-- DOM_STAT.VALID, bits 27..27 (R444). -/
def DOM_STAT_VALID (d : Nat) : Loc := ⟨0xF0070104 + 0x40 * (d % 3), 27, 1⟩
/-- DOM_STAT.UTC_OFS, bits 26..16 (R444). -/
def DOM_STAT_UTC_OFS (d : Nat) : Loc := ⟨0xF0070104 + 0x40 * (d % 3), 16, 11⟩
/-- DOM_STAT.STEPS, bits 15..8 (R444). -/
def DOM_STAT_STEPS (d : Nat) : Loc := ⟨0xF0070104 + 0x40 * (d % 3), 8, 8⟩
/-- DOM_STAT.IGN, bits 7..0 (R444). -/
def DOM_STAT_IGN (d : Nat) : Loc := ⟨0xF0070104 + 0x40 * (d % 3), 0, 8⟩
/-- DOM_OFS_L.VALUE, bits 31..0 (R444). -/
def DOM_OFS_L_VALUE (d : Nat) : Loc := ⟨0xF0070108 + 0x40 * (d % 3), 0, 32⟩
/-- DOM_OFS_H.VALUE, bits 31..0 (R444). -/
def DOM_OFS_H_VALUE (d : Nat) : Loc := ⟨0xF007010C + 0x40 * (d % 3), 0, 32⟩
/-- DOM_OFSF.FRAC, bits 31..0 (R444). -/
def DOM_OFSF_FRAC (d : Nat) : Loc := ⟨0xF0070110 + 0x40 * (d % 3), 0, 32⟩
/-- DOM_ANC_L.VALUE, bits 31..0 (R444). -/
def DOM_ANC_L_VALUE (d : Nat) : Loc := ⟨0xF0070114 + 0x40 * (d % 3), 0, 32⟩
/-- DOM_ANC_H.VALUE, bits 31..0 (R444). -/
def DOM_ANC_H_VALUE (d : Nat) : Loc := ⟨0xF0070118 + 0x40 * (d % 3), 0, 32⟩
/-- DOM_RATE.RATE, bits 31..0 (R444). -/
def DOM_RATE_RATE (d : Nat) : Loc := ⟨0xF007011C + 0x40 * (d % 3), 0, 32⟩
/-- DOM_K_L.VALUE, bits 31..0 (R444). -/
def DOM_K_L_VALUE (d : Nat) : Loc := ⟨0xF0070120 + 0x40 * (d % 3), 0, 32⟩
/-- DOM_K_H.VALUE, bits 31..0 (R444). -/
def DOM_K_H_VALUE (d : Nat) : Loc := ⟨0xF0070124 + 0x40 * (d % 3), 0, 32⟩
/-- DOM_DELTA_L.VALUE, bits 31..0 (R444). -/
def DOM_DELTA_L_VALUE (d : Nat) : Loc := ⟨0xF0070128 + 0x40 * (d % 3), 0, 32⟩
/-- DOM_DELTA_H.VALUE, bits 31..0 (R444). -/
def DOM_DELTA_H_VALUE (d : Nat) : Loc := ⟨0xF007012C + 0x40 * (d % 3), 0, 32⟩
/-- DOM_UPD.CODE, bits 1..0 (R444). -/
def DOM_UPD_CODE (d : Nat) : Loc := ⟨0xF0070130 + 0x40 * (d % 3), 0, 2⟩
/-- DOM_JSTEP_L.VALUE, bits 31..0 (R444). -/
def DOM_JSTEP_L_VALUE (d : Nat) : Loc := ⟨0xF0070134 + 0x40 * (d % 3), 0, 32⟩
/-- DOM_JSTEP_H.VALUE, bits 31..0 (R444). -/
def DOM_JSTEP_H_VALUE (d : Nat) : Loc := ⟨0xF0070138 + 0x40 * (d % 3), 0, 32⟩
/-- DOM_LIM.HOLD_S, bits 31..22 (R444). -/
def DOM_LIM_HOLD_S (d : Nat) : Loc := ⟨0xF007013C + 0x40 * (d % 3), 22, 10⟩
/-- DOM_LIM.LOCK_NS, bits 21..12 (R444). -/
def DOM_LIM_LOCK_NS (d : Nat) : Loc := ⟨0xF007013C + 0x40 * (d % 3), 12, 10⟩
/-- DOM_LIM.STEP_US, bits 11..0 (R444). -/
def DOM_LIM_STEP_US (d : Nat) : Loc := ⟨0xF007013C + 0x40 * (d % 3), 0, 12⟩
/-- TS_TX.PS, bits 31..0 (R444). -/
def TS_TX_PS (p : Nat) : Loc := ⟨0xF0070300 + 0x10 * (p % 2), 0, 32⟩
/-- TS_RX.PS, bits 31..0 (R444). -/
def TS_RX_PS (p : Nat) : Loc := ⟨0xF0070304 + 0x10 * (p % 2), 0, 32⟩
/-- TS_ASYM.PS, bits 31..0 (R444). -/
def TS_ASYM_PS (p : Nat) : Loc := ⟨0xF0070308 + 0x10 * (p % 2), 0, 32⟩
/-- TSO_CFG.EN, bits 31..31 (R444). -/
def TSO_CFG_EN (t : Nat) : Loc := ⟨0xF0070400 + 0x20 * (t % 8), 31, 1⟩
/-- TSO_CFG.MODE, bits 30..30 (R444). -/
def TSO_CFG_MODE (t : Nat) : Loc := ⟨0xF0070400 + 0x20 * (t % 8), 30, 1⟩
/-- TSO_CFG.POL, bits 29..29 (R444). -/
def TSO_CFG_POL (t : Nat) : Loc := ⟨0xF0070400 + 0x20 * (t % 8), 29, 1⟩
/-- TSO_START_L.VALUE, bits 31..0 (R444). -/
def TSO_START_L_VALUE (t : Nat) : Loc := ⟨0xF0070404 + 0x20 * (t % 8), 0, 32⟩
/-- TSO_START_H.VALUE, bits 31..0 (R444). -/
def TSO_START_H_VALUE (t : Nat) : Loc := ⟨0xF0070408 + 0x20 * (t % 8), 0, 32⟩
/-- TSO_PER.NS, bits 31..0 (R444). -/
def TSO_PER_NS (t : Nat) : Loc := ⟨0xF007040C + 0x20 * (t % 8), 0, 32⟩
/-- TSO_WIDTH.NS, bits 31..0 (R444). -/
def TSO_WIDTH_NS (t : Nat) : Loc := ⟨0xF0070410 + 0x20 * (t % 8), 0, 32⟩
/-- TSO_IDX.COUNT, bits 31..0 (R444). -/
def TSO_IDX_COUNT (t : Nat) : Loc := ⟨0xF0070414 + 0x20 * (t % 8), 0, 32⟩
/-- TSO_MISS.COUNT, bits 31..0 (R444). -/
def TSO_MISS_COUNT (t : Nat) : Loc := ⟨0xF0070418 + 0x20 * (t % 8), 0, 32⟩

/-! ### Block SL -/

/-- SL_CTRL.EXPERT_EN, bits 31..31 (R480). -/
def SL_CTRL_EXPERT_EN (n : Nat) : Loc := ⟨0xF0300000 + 0x10000 * (n % 16), 31, 1⟩
/-- SL_CTRL.EN, bits 30..30 (R480). -/
def SL_CTRL_EN (n : Nat) : Loc := ⟨0xF0300000 + 0x10000 * (n % 16), 30, 1⟩
/-- SL_CTRL.TOPO, bits 29..28 (R480). -/
def SL_CTRL_TOPO (n : Nat) : Loc := ⟨0xF0300000 + 0x10000 * (n % 16), 28, 2⟩
/-- SL_CTRL.PHY, bits 27..27 (R480). -/
def SL_CTRL_PHY (n : Nat) : Loc := ⟨0xF0300000 + 0x10000 * (n % 16), 27, 1⟩
/-- SL_CYC.PERIOD, bits 17..0 (R480). -/
def SL_CYC_PERIOD (n : Nat) : Loc := ⟨0xF0300004 + 0x10000 * (n % 16), 0, 18⟩
/-- SL_PHASE.PHASE, bits 17..0 (R480). -/
def SL_PHASE_PHASE (n : Nat) : Loc := ⟨0xF0300008 + 0x10000 * (n % 16), 0, 18⟩
/-- SL_TIM.TX_OFS, bits 7..0 (R480). -/
def SL_TIM_TX_OFS (n : Nat) : Loc := ⟨0xF030000C + 0x10000 * (n % 16), 0, 8⟩
/-- SL_COMMIT.COMMIT_OFS, bits 17..0 (R480). -/
def SL_COMMIT_COMMIT_OFS (n : Nat) : Loc := ⟨0xF0300010 + 0x10000 * (n % 16), 0, 18⟩
/-- SL_RX.RX_CLOSE, bits 17..0 (R480). -/
def SL_RX_RX_CLOSE (n : Nat) : Loc := ⟨0xF0300014 + 0x10000 * (n % 16), 0, 18⟩
/-- SL_MISS.N_REJOIN, bits 15..8 (R480). -/
def SL_MISS_N_REJOIN (n : Nat) : Loc := ⟨0xF0300018 + 0x10000 * (n % 16), 8, 8⟩
/-- SL_MISS.N_MISS, bits 7..0 (R480). -/
def SL_MISS_N_MISS (n : Nat) : Loc := ⟨0xF0300018 + 0x10000 * (n % 16), 0, 8⟩
/-- SL_STBASE.NSTA, bits 31..23 (R480). -/
def SL_STBASE_NSTA (n : Nat) : Loc := ⟨0xF030001C + 0x10000 * (n % 16), 23, 9⟩
/-- SL_STBASE.BASE, bits 13..0 (R480). -/
def SL_STBASE_BASE (n : Nat) : Loc := ⟨0xF030001C + 0x10000 * (n % 16), 0, 14⟩
/-- SL_ETYPE.ETYPE, bits 15..0 (R480). -/
def SL_ETYPE_ETYPE (n : Nat) : Loc := ⟨0xF0300020 + 0x10000 * (n % 16), 0, 16⟩
/-- SL_STAT.STATE, bits 31..28 (R480). -/
def SL_STAT_STATE (n : Nat) : Loc := ⟨0xF0300024 + 0x10000 * (n % 16), 28, 4⟩
/-- SL_STAT.FOUND, bits 27..19 (R480). -/
def SL_STAT_FOUND (n : Nat) : Loc := ⟨0xF0300024 + 0x10000 * (n % 16), 19, 9⟩
/-- SL_STAT.ERR, bits 11..8 (R480). -/
def SL_STAT_ERR (n : Nat) : Loc := ⟨0xF0300024 + 0x10000 * (n % 16), 8, 4⟩
/-- SL_STAT.PROV, bits 3..3 (R480). -/
def SL_STAT_PROV (n : Nat) : Loc := ⟨0xF0300024 + 0x10000 * (n % 16), 3, 1⟩
/-- SL_STAT.RING_BROKEN, bits 2..2 (R480). -/
def SL_STAT_RING_BROKEN (n : Nat) : Loc := ⟨0xF0300024 + 0x10000 * (n % 16), 2, 1⟩
/-- SL_STAT.REFLECT, bits 1..1 (R480). -/
def SL_STAT_REFLECT (n : Nat) : Loc := ⟨0xF0300024 + 0x10000 * (n % 16), 1, 1⟩
/-- SL_STAT.TX_ACTIVE, bits 0..0 (R480). -/
def SL_STAT_TX_ACTIVE (n : Nat) : Loc := ⟨0xF0300024 + 0x10000 * (n % 16), 0, 1⟩
/-- SL_CNT.LOSTCYC, bits 31..16 (R480). -/
def SL_CNT_LOSTCYC (n : Nat) : Loc := ⟨0xF0300028 + 0x10000 * (n % 16), 16, 16⟩
/-- SL_CNT.BADFRM, bits 15..0 (R480). -/
def SL_CNT_BADFRM (n : Nat) : Loc := ⟨0xF0300028 + 0x10000 * (n % 16), 0, 16⟩
/-- SL_MBXBUF.SPACE, bits 31..31 (R480). -/
def SL_MBXBUF_SPACE (n : Nat) : Loc := ⟨0xF030002C + 0x10000 * (n % 16), 31, 1⟩
/-- SL_MBXBUF.ADDR, bits 25..0 (R480). -/
def SL_MBXBUF_ADDR (n : Nat) : Loc := ⟨0xF030002C + 0x10000 * (n % 16), 0, 26⟩
/-- SL_MBXREQ.OP, bits 31..31 (R480). -/
def SL_MBXREQ_OP (n : Nat) : Loc := ⟨0xF0300030 + 0x10000 * (n % 16), 31, 1⟩
/-- SL_MBXREQ.LEN, bits 30..23 (R480). -/
def SL_MBXREQ_LEN (n : Nat) : Loc := ⟨0xF0300030 + 0x10000 * (n % 16), 23, 8⟩
/-- SL_MBXREQ.STATION, bits 20..13 (R480). -/
def SL_MBXREQ_STATION (n : Nat) : Loc := ⟨0xF0300030 + 0x10000 * (n % 16), 13, 8⟩
/-- SL_MBXREQ.OBJECT, bits 12..0 (R480). -/
def SL_MBXREQ_OBJECT (n : Nat) : Loc := ⟨0xF0300030 + 0x10000 * (n % 16), 0, 13⟩
/-- SL_MBXSTAT.TAG, bits 31..24 (R480). -/
def SL_MBXSTAT_TAG (n : Nat) : Loc := ⟨0xF0300034 + 0x10000 * (n % 16), 24, 8⟩
/-- SL_MBXSTAT.DEPTH, bits 20..16 (R480). -/
def SL_MBXSTAT_DEPTH (n : Nat) : Loc := ⟨0xF0300034 + 0x10000 * (n % 16), 16, 5⟩
/-- SL_MBXSTAT.OVF, bits 0..0 (R480). -/
def SL_MBXSTAT_OVF (n : Nat) : Loc := ⟨0xF0300034 + 0x10000 * (n % 16), 0, 1⟩
/-- SL_MBXEVT.EN, bits 31..31 (R480). -/
def SL_MBXEVT_EN (n : Nat) : Loc := ⟨0xF0300038 + 0x10000 * (n % 16), 31, 1⟩
/-- SL_MBXEVT.EVENT, bits 15..0 (R480). -/
def SL_MBXEVT_EVENT (n : Nat) : Loc := ⟨0xF0300038 + 0x10000 * (n % 16), 0, 16⟩
/-- SL_ONLINE.ONLINE, bits 31..0 (R480). -/
def SL_ONLINE_ONLINE (n k : Nat) : Loc := ⟨0xF0300040 + 0x10000 * (n % 16) + 0x4 * (k % 8), 0, 32⟩
/-- SL_DIRBASE.BASE, bits 13..0 (R480). -/
def SL_DIRBASE_BASE : Loc := ⟨0xF0300060, 0, 14⟩

/-! ### Block HOST -/

/-- HOST_CTRL.EXPERT_EN, bits 31..31 (R481). -/
def HOST_CTRL_EXPERT_EN : Loc := ⟨0xF00E0000, 31, 1⟩
/-- HOST_CTRL.EN, bits 30..30 (R481). -/
def HOST_CTRL_EN : Loc := ⟨0xF00E0000, 30, 1⟩
/-- HOST_CTRL.NETSEL, bits 29..28 (R481). -/
def HOST_CTRL_NETSEL : Loc := ⟨0xF00E0000, 28, 2⟩
/-- HOST_CTRL.PORT, bits 15..0 (R481). -/
def HOST_CTRL_PORT : Loc := ⟨0xF00E0000, 0, 16⟩
/-- HOST_STAT.SESSIONS, bits 3..0 (R481). -/
def HOST_STAT_SESSIONS : Loc := ⟨0xF00E0004, 0, 4⟩
/-- HOST_CNT0.IGNORED, bits 31..16 (R481). -/
def HOST_CNT0_IGNORED : Loc := ⟨0xF00E0008, 16, 16⟩
/-- HOST_CNT0.BADTAG, bits 15..0 (R481). -/
def HOST_CNT0_BADTAG : Loc := ⟨0xF00E0008, 0, 16⟩
/-- HOST_CNT1.SEQREF, bits 31..16 (R481). -/
def HOST_CNT1_SEQREF : Loc := ⟨0xF00E000C, 16, 16⟩
/-- HOST_CNT1.GAPCLOSE, bits 15..0 (R481). -/
def HOST_CNT1_GAPCLOSE : Loc := ⟨0xF00E000C, 0, 16⟩
/-- HOST_TRACE.WIN, bits 15..8 (R481). -/
def HOST_TRACE_WIN : Loc := ⟨0xF00E0010, 8, 8⟩
/-- HOST_TRACE.RETX_MS, bits 7..0 (R481). -/
def HOST_TRACE_RETX_MS : Loc := ⟨0xF00E0010, 0, 8⟩

/-! ### Block NET -/

/-- NET_CTRL.EXPERT_EN, bits 31..31 (R481). -/
def NET_CTRL_EXPERT_EN (p : Nat) : Loc := ⟨0xF0100000 + 0x10000 * (p % 2), 31, 1⟩
/-- NET_CTRL.EN, bits 30..30 (R481). -/
def NET_CTRL_EN (p : Nat) : Loc := ⟨0xF0100000 + 0x10000 * (p % 2), 30, 1⟩
/-- NET_CTRL.MODE, bits 29..28 (R481). -/
def NET_CTRL_MODE (p : Nat) : Loc := ⟨0xF0100000 + 0x10000 * (p % 2), 28, 2⟩
/-- NET_CTRL.VLAN_EN, bits 12..12 (R481). -/
def NET_CTRL_VLAN_EN (p : Nat) : Loc := ⟨0xF0100000 + 0x10000 * (p % 2), 12, 1⟩
/-- NET_CTRL.VLAN_ID, bits 11..0 (R481). -/
def NET_CTRL_VLAN_ID (p : Nat) : Loc := ⟨0xF0100000 + 0x10000 * (p % 2), 0, 12⟩
/-- NET_STAT.SPEED10G, bits 1..1 (R481). -/
def NET_STAT_SPEED10G (p : Nat) : Loc := ⟨0xF0100004 + 0x10000 * (p % 2), 1, 1⟩
/-- NET_STAT.LINK_UP, bits 0..0 (R481). -/
def NET_STAT_LINK_UP (p : Nat) : Loc := ⟨0xF0100004 + 0x10000 * (p % 2), 0, 1⟩
/-- NET_MAC_L.MAC, bits 31..0 (R481). -/
def NET_MAC_L_MAC (p : Nat) : Loc := ⟨0xF0100008 + 0x10000 * (p % 2), 0, 32⟩
/-- NET_MAC_H.MAC, bits 15..0 (R481). -/
def NET_MAC_H_MAC (p : Nat) : Loc := ⟨0xF010000C + 0x10000 * (p % 2), 0, 16⟩
/-- NET_IP4.ADDR, bits 31..0 (R481). -/
def NET_IP4_ADDR (p : Nat) : Loc := ⟨0xF0100010 + 0x10000 * (p % 2), 0, 32⟩
/-- NET_IP4MASK.ADDR, bits 31..0 (R481). -/
def NET_IP4MASK_ADDR (p : Nat) : Loc := ⟨0xF0100014 + 0x10000 * (p % 2), 0, 32⟩
/-- NET_IP4GW.ADDR, bits 31..0 (R481). -/
def NET_IP4GW_ADDR (p : Nat) : Loc := ⟨0xF0100018 + 0x10000 * (p % 2), 0, 32⟩

/-! ### Block CAN -/

/-- CAN_CTRL.EXPERT_EN, bits 31..31 (R497). -/
def CAN_CTRL_EXPERT_EN (n : Nat) : Loc := ⟨0xF0200000 + 0x10000 * (n % 8), 31, 1⟩
/-- CAN_CTRL.OPMODE, bits 30..29 (R497). -/
def CAN_CTRL_OPMODE (n : Nat) : Loc := ⟨0xF0200000 + 0x10000 * (n % 8), 29, 2⟩
/-- CAN_CTRL.FD_EN, bits 28..28 (R497). -/
def CAN_CTRL_FD_EN (n : Nat) : Loc := ⟨0xF0200000 + 0x10000 * (n % 8), 28, 1⟩
/-- CAN_CTRL.ID_COLL_N, bits 23..16 (R497). -/
def CAN_CTRL_ID_COLL_N (n : Nat) : Loc := ⟨0xF0200000 + 0x10000 * (n % 8), 16, 8⟩
/-- CAN_CTRL.EVTBASE, bits 15..0 (R497). -/
def CAN_CTRL_EVTBASE (n : Nat) : Loc := ⟨0xF0200000 + 0x10000 * (n % 8), 0, 16⟩
/-- CAN_NBT.BRP − 1, bits 30..23 (R497). -/
def CAN_NBT_BRP (n : Nat) : Loc := ⟨0xF0200004 + 0x10000 * (n % 8), 23, 8⟩
/-- CAN_NBT.TSEG1 − 1, bits 22..15 (R497). -/
def CAN_NBT_TSEG1 (n : Nat) : Loc := ⟨0xF0200004 + 0x10000 * (n % 8), 15, 8⟩
/-- CAN_NBT.TSEG2 − 1, bits 14..8 (R497). -/
def CAN_NBT_TSEG2 (n : Nat) : Loc := ⟨0xF0200004 + 0x10000 * (n % 8), 8, 7⟩
/-- CAN_NBT.SJW − 1, bits 6..0 (R497). -/
def CAN_NBT_SJW (n : Nat) : Loc := ⟨0xF0200004 + 0x10000 * (n % 8), 0, 7⟩
/-- CAN_DBT.BRP − 1, bits 31..27 (R497). -/
def CAN_DBT_BRP (n : Nat) : Loc := ⟨0xF0200008 + 0x10000 * (n % 8), 27, 5⟩
/-- CAN_DBT.TSEG1 − 1, bits 26..22 (R497). -/
def CAN_DBT_TSEG1 (n : Nat) : Loc := ⟨0xF0200008 + 0x10000 * (n % 8), 22, 5⟩
/-- CAN_DBT.TSEG2 − 1, bits 21..18 (R497). -/
def CAN_DBT_TSEG2 (n : Nat) : Loc := ⟨0xF0200008 + 0x10000 * (n % 8), 18, 4⟩
/-- CAN_DBT.SJW − 1, bits 17..14 (R497). -/
def CAN_DBT_SJW (n : Nat) : Loc := ⟨0xF0200008 + 0x10000 * (n % 8), 14, 4⟩
/-- CAN_DBT.TDCO, bits 13..7 (R497). -/
def CAN_DBT_TDCO (n : Nat) : Loc := ⟨0xF0200008 + 0x10000 * (n % 8), 7, 7⟩
/-- CAN_STAT.STATE, bits 31..28 (R497). -/
def CAN_STAT_STATE (n : Nat) : Loc := ⟨0xF020000C + 0x10000 * (n % 8), 28, 4⟩
/-- CAN_STAT.LEC, bits 27..24 (R497). -/
def CAN_STAT_LEC (n : Nat) : Loc := ⟨0xF020000C + 0x10000 * (n % 8), 24, 4⟩
/-- CAN_STAT.REC, bits 23..16 (R497). -/
def CAN_STAT_REC (n : Nat) : Loc := ⟨0xF020000C + 0x10000 * (n % 8), 16, 8⟩
/-- CAN_STAT.TEC, bits 15..7 (R497). -/
def CAN_STAT_TEC (n : Nat) : Loc := ⟨0xF020000C + 0x10000 * (n % 8), 7, 9⟩
/-- CAN_CMD.KEY, bits 31..24 (R497). -/
def CAN_CMD_KEY (n : Nat) : Loc := ⟨0xF0200010 + 0x10000 * (n % 8), 24, 8⟩
/-- CAN_CMD.CODE, bits 7..0 (R497). -/
def CAN_CMD_CODE (n : Nat) : Loc := ⟨0xF0200010 + 0x10000 * (n % 8), 0, 8⟩
/-- CAN_CNT.BUSOFF_CNT, bits 31..16 (R497). -/
def CAN_CNT_BUSOFF_CNT (n : Nat) : Loc := ⟨0xF0200014 + 0x10000 * (n % 8), 16, 16⟩
/-- CAN_CNT.NOMATCH, bits 15..0 (R497). -/
def CAN_CNT_NOMATCH (n : Nat) : Loc := ⟨0xF0200014 + 0x10000 * (n % 8), 0, 16⟩
/-- CAN_CVBASE.BASE, bits 21..0 (R497). -/
def CAN_CVBASE_BASE (n : Nat) : Loc := ⟨0xF0200018 + 0x10000 * (n % 8), 0, 22⟩
/-- CAN_FIFOBASE.BASE, bits 31..0 (R497). -/
def CAN_FIFOBASE_BASE (n : Nat) : Loc := ⟨0xF020001C + 0x10000 * (n % 8), 0, 32⟩
/-- CAN_FIFOPTR.FULL, bits 25..25 (R497). -/
def CAN_FIFOPTR_FULL (n : Nat) : Loc := ⟨0xF0200020 + 0x10000 * (n % 8), 25, 1⟩
/-- CAN_FIFOPTR.FIFO_OVF, bits 24..24 (R497). -/
def CAN_FIFOPTR_FIFO_OVF (n : Nat) : Loc := ⟨0xF0200020 + 0x10000 * (n % 8), 24, 1⟩
/-- CAN_FIFOPTR.WR, bits 23..16 (R497). -/
def CAN_FIFOPTR_WR (n : Nat) : Loc := ⟨0xF0200020 + 0x10000 * (n % 8), 16, 8⟩
/-- CAN_FIFOPTR.RD, bits 7..0 (R497). -/
def CAN_FIFOPTR_RD (n : Nat) : Loc := ⟨0xF0200020 + 0x10000 * (n % 8), 0, 8⟩
/-- CAN_FIFOEVT.EN, bits 31..31 (R497). -/
def CAN_FIFOEVT_EN (n : Nat) : Loc := ⟨0xF0200024 + 0x10000 * (n % 8), 31, 1⟩
/-- CAN_FIFOEVT.EVENT, bits 15..0 (R497). -/
def CAN_FIFOEVT_EVENT (n : Nat) : Loc := ⟨0xF0200024 + 0x10000 * (n % 8), 0, 16⟩
/-- CAN_HPSTAT.EN, bits 31..31 (R497). -/
def CAN_HPSTAT_EN (n : Nat) : Loc := ⟨0xF0200028 + 0x10000 * (n % 8), 31, 1⟩
/-- CAN_HPSTAT.POP, bits 30..30 (R497). -/
def CAN_HPSTAT_POP (n : Nat) : Loc := ⟨0xF0200028 + 0x10000 * (n % 8), 30, 1⟩
/-- CAN_HPSTAT.HP_OVF, bits 29..29 (R497). -/
def CAN_HPSTAT_HP_OVF (n : Nat) : Loc := ⟨0xF0200028 + 0x10000 * (n % 8), 29, 1⟩
/-- CAN_HPSTAT.COUNT, bits 28..26 (R497). -/
def CAN_HPSTAT_COUNT (n : Nat) : Loc := ⟨0xF0200028 + 0x10000 * (n % 8), 26, 3⟩
/-- CAN_HPSTAT.RESULT, bits 19..16 (R497). -/
def CAN_HPSTAT_RESULT (n : Nat) : Loc := ⟨0xF0200028 + 0x10000 * (n % 8), 16, 4⟩
/-- CAN_HPSTAT.EVENT, bits 15..0 (R497). -/
def CAN_HPSTAT_EVENT (n : Nat) : Loc := ⟨0xF0200028 + 0x10000 * (n % 8), 0, 16⟩
/-- ABD_CFG.ABD_N, bits 19..16 (R497). -/
def ABD_CFG_ABD_N (n : Nat) : Loc := ⟨0xF0200030 + 0x10000 * (n % 8), 16, 4⟩
/-- ABD_CFG.ABD_TMO, bits 15..0 (R497). -/
def ABD_CFG_ABD_TMO (n : Nat) : Loc := ⟨0xF0200030 + 0x10000 * (n % 8), 0, 16⟩
/-- ABD_STAT.DONE, bits 31..31 (R497). -/
def ABD_STAT_DONE (n : Nat) : Loc := ⟨0xF0200034 + 0x10000 * (n % 8), 31, 1⟩
/-- ABD_STAT.CAND, bits 19..16 (R497). -/
def ABD_STAT_CAND (n : Nat) : Loc := ⟨0xF0200034 + 0x10000 * (n % 8), 16, 4⟩
/-- ABD_STAT.ABD_EVENT, bits 15..0 (R497). -/
def ABD_STAT_ABD_EVENT (n : Nat) : Loc := ⟨0xF0200034 + 0x10000 * (n % 8), 0, 16⟩
/-- HP_ENTRY.WORD, bits 31..0 (R492). -/
def HP_ENTRY_WORD (n w : Nat) : Loc := ⟨0xF0200100 + 0x10000 * (n % 8) + 0x4 * (w % 20), 0, 32⟩
/-- CAN_ABDN.EN, bits 31..31 (R497). -/
def CAN_ABDN_EN (n k : Nat) : Loc := ⟨0xF0200300 + 0x10000 * (n % 8) + 0x8 * (k % 16), 31, 1⟩
/-- CAN_ABDN.BRP − 1, bits 30..23 (R497). -/
def CAN_ABDN_BRP (n k : Nat) : Loc := ⟨0xF0200300 + 0x10000 * (n % 8) + 0x8 * (k % 16), 23, 8⟩
/-- CAN_ABDN.TSEG1 − 1, bits 22..15 (R497). -/
def CAN_ABDN_TSEG1 (n k : Nat) : Loc := ⟨0xF0200300 + 0x10000 * (n % 8) + 0x8 * (k % 16), 15, 8⟩
/-- CAN_ABDN.TSEG2 − 1, bits 14..8 (R497). -/
def CAN_ABDN_TSEG2 (n k : Nat) : Loc := ⟨0xF0200300 + 0x10000 * (n % 8) + 0x8 * (k % 16), 8, 7⟩
/-- CAN_ABDN.SJW − 1, bits 6..0 (R497). -/
def CAN_ABDN_SJW (n k : Nat) : Loc := ⟨0xF0200300 + 0x10000 * (n % 8) + 0x8 * (k % 16), 0, 7⟩
/-- CAN_ABDD.BRP − 1, bits 31..27 (R497). -/
def CAN_ABDD_BRP (n k : Nat) : Loc := ⟨0xF0200304 + 0x10000 * (n % 8) + 0x8 * (k % 16), 27, 5⟩
/-- CAN_ABDD.TSEG1 − 1, bits 26..22 (R497). -/
def CAN_ABDD_TSEG1 (n k : Nat) : Loc := ⟨0xF0200304 + 0x10000 * (n % 8) + 0x8 * (k % 16), 22, 5⟩
/-- CAN_ABDD.TSEG2 − 1, bits 21..18 (R497). -/
def CAN_ABDD_TSEG2 (n k : Nat) : Loc := ⟨0xF0200304 + 0x10000 * (n % 8) + 0x8 * (k % 16), 18, 4⟩
/-- CAN_ABDD.SJW − 1, bits 17..14 (R497). -/
def CAN_ABDD_SJW (n k : Nat) : Loc := ⟨0xF0200304 + 0x10000 * (n % 8) + 0x8 * (k % 16), 14, 4⟩
/-- CAN_ABDD.TDCO, bits 13..7 (R497). -/
def CAN_ABDD_TDCO (n k : Nat) : Loc := ⟨0xF0200304 + 0x10000 * (n % 8) + 0x8 * (k % 16), 7, 7⟩
/-- CANSUP_CTRL.AUTO, bits 31..24 (R497). -/
def CANSUP_CTRL_AUTO : Loc := ⟨0xF0200800, 24, 8⟩
/-- CANSUP_CTRL.BUDGET, bits 19..16 (R497). -/
def CANSUP_CTRL_BUDGET : Loc := ⟨0xF0200800, 16, 4⟩
/-- CANSUP_CTRL.WIN_S, bits 15..0 (R497). -/
def CANSUP_CTRL_WIN_S : Loc := ⟨0xF0200800, 0, 16⟩
/-- CANSUP_STAT.BUDGET_OUT, bits 7..0 (R497). -/
def CANSUP_STAT_BUDGET_OUT : Loc := ⟨0xF0200804, 0, 8⟩
/-- CANSUP_CNT.COUNT, bits 31..0 (R497). -/
def CANSUP_CNT_COUNT (c : Nat) : Loc := ⟨0xF0200810 + 0x4 * (c % 8), 0, 32⟩
/-- OBJ_CFG.EN, bits 31..31 (R497). -/
def OBJ_CFG_EN (n m : Nat) : Loc := ⟨0xF0201000 + 0x10000 * (n % 8) + 0x20 * (m % 256), 31, 1⟩
/-- OBJ_CFG.KIND, bits 30..29 (R497). -/
def OBJ_CFG_KIND (n m : Nat) : Loc := ⟨0xF0201000 + 0x10000 * (n % 8) + 0x20 * (m % 256), 29, 2⟩
/-- OBJ_CFG.TXMODE, bits 28..27 (R497). -/
def OBJ_CFG_TXMODE (n m : Nat) : Loc := ⟨0xF0201000 + 0x10000 * (n % 8) + 0x20 * (m % 256), 27, 2⟩
/-- OBJ_CFG.ONESHOT, bits 26..26 (R497). -/
def OBJ_CFG_ONESHOT (n m : Nat) : Loc := ⟨0xF0201000 + 0x10000 * (n % 8) + 0x20 * (m % 256), 26, 1⟩
/-- OBJ_CFG.EVT_EN, bits 25..25 (R497). -/
def OBJ_CFG_EVT_EN (n m : Nat) : Loc := ⟨0xF0201000 + 0x10000 * (n % 8) + 0x20 * (m % 256), 25, 1⟩
/-- OBJ_ID.IDE, bits 29..29 (R497). -/
def OBJ_ID_IDE (n m : Nat) : Loc := ⟨0xF0201004 + 0x10000 * (n % 8) + 0x20 * (m % 256), 29, 1⟩
/-- OBJ_ID.ID, bits 28..0 (R497). -/
def OBJ_ID_ID (n m : Nat) : Loc := ⟨0xF0201004 + 0x10000 * (n % 8) + 0x20 * (m % 256), 0, 29⟩
/-- OBJ_MASK.MASK, bits 28..0 (R497). -/
def OBJ_MASK_MASK (n m : Nat) : Loc := ⟨0xF0201008 + 0x10000 * (n % 8) + 0x20 * (m % 256), 0, 29⟩
/-- OBJ_AUX.PERIOD, bits 15..0 (R497). -/
def OBJ_AUX_PERIOD (n m : Nat) : Loc := ⟨0xF020100C + 0x10000 * (n % 8) + 0x20 * (m % 256), 0, 16⟩
/-- OBJ_STAT.COLL, bits 31..24 (R497). -/
def OBJ_STAT_COLL (n m : Nat) : Loc := ⟨0xF0201010 + 0x10000 * (n % 8) + 0x20 * (m % 256), 24, 8⟩
/-- OBJ_STAT.TXREQ, bits 7..7 (R497). -/
def OBJ_STAT_TXREQ (n m : Nat) : Loc := ⟨0xF0201010 + 0x10000 * (n % 8) + 0x20 * (m % 256), 7, 1⟩
/-- OBJ_STAT.COLLISION, bits 6..6 (R497). -/
def OBJ_STAT_COLLISION (n m : Nat) : Loc := ⟨0xF0201010 + 0x10000 * (n % 8) + 0x20 * (m % 256), 6, 1⟩
/-- OBJ_STAT.TXCODE, bits 3..0 (R497). -/
def OBJ_STAT_TXCODE (n m : Nat) : Loc := ⟨0xF0201010 + 0x10000 * (n % 8) + 0x20 * (m % 256), 0, 4⟩

/-! ### Block SAFE -/

/-- SAFE_CTRL.EXPERT_EN, bits 31..31 (R515). -/
def SAFE_CTRL_EXPERT_EN : Loc := ⟨0xF00B0000, 31, 1⟩
/-- SAFE_STAT.STATE, bits 31..30 (R515). -/
def SAFE_STAT_STATE : Loc := ⟨0xF00B0004, 30, 2⟩
/-- SAFE_STAT.REASON, bits 27..24 (R515). -/
def SAFE_STAT_REASON : Loc := ⟨0xF00B0004, 24, 4⟩
/-- SAFE_STAT.PAIR_CLOSED, bits 23..16 (R515). -/
def SAFE_STAT_PAIR_CLOSED : Loc := ⟨0xF00B0004, 16, 8⟩
/-- SAFE_STAT.PAIR_DISC, bits 15..8 (R515). -/
def SAFE_STAT_PAIR_DISC : Loc := ⟨0xF00B0004, 8, 8⟩
/-- SAFE_STAT.ARG, bits 6..4 (R515). -/
def SAFE_STAT_ARG : Loc := ⟨0xF00B0004, 4, 3⟩
/-- SAFE_STAT.CONF_OPEN, bits 2..2 (R515). -/
def SAFE_STAT_CONF_OPEN : Loc := ⟨0xF00B0004, 2, 1⟩
/-- SAFE_STAT.SOFF, bits 0..0 (R515). -/
def SAFE_STAT_SOFF : Loc := ⟨0xF00B0004, 0, 1⟩
/-- SAFE_REQ.REQ, bits 7..0 (R515). -/
def SAFE_REQ_REQ : Loc := ⟨0xF00B0008, 0, 8⟩
/-- SAFE_OUT.ENERG, bits 31..24 (R515). -/
def SAFE_OUT_ENERG : Loc := ⟨0xF00B000C, 24, 8⟩
/-- SAFE_OUT.P_HI, bits 23..16 (R515). -/
def SAFE_OUT_P_HI : Loc := ⟨0xF00B000C, 16, 8⟩
/-- SAFE_OUT.N_LO, bits 15..8 (R515). -/
def SAFE_OUT_N_LO : Loc := ⟨0xF00B000C, 8, 8⟩
/-- SAFE_OUT.HELD, bits 7..0 (R515). -/
def SAFE_OUT_HELD : Loc := ⟨0xF00B000C, 0, 8⟩
/-- SAFE_CHECK.CRC, bits 31..0 (R515). -/
def SAFE_CHECK_CRC : Loc := ⟨0xF00B0010, 0, 32⟩
/-- SAFE_ACTIVE.CRC, bits 31..0 (R515). -/
def SAFE_ACTIVE_CRC : Loc := ⟨0xF00B0014, 0, 32⟩
/-- SAFE_CONFIRM.VALUE, bits 31..0 (R515). -/
def SAFE_CONFIRM_VALUE : Loc := ⟨0xF00B0018, 0, 32⟩
/-- SAFE_CMD.KEY, bits 31..24 (R515). -/
def SAFE_CMD_KEY : Loc := ⟨0xF00B001C, 24, 8⟩
/-- SAFE_CMD.ARG, bits 10..8 (R515). -/
def SAFE_CMD_ARG : Loc := ⟨0xF00B001C, 8, 3⟩
/-- SAFE_CMD.CODE, bits 7..0 (R515). -/
def SAFE_CMD_CODE : Loc := ⟨0xF00B001C, 0, 8⟩
/-- SAFE_CMDSTAT.CODE, bits 31..24 (R515). -/
def SAFE_CMDSTAT_CODE : Loc := ⟨0xF00B0020, 24, 8⟩
/-- SAFE_CMDSTAT.BADOFS, bits 15..4 (R515). -/
def SAFE_CMDSTAT_BADOFS : Loc := ⟨0xF00B0020, 4, 12⟩
/-- SAFE_CMDSTAT.RESULT, bits 3..0 (R515). -/
def SAFE_CMDSTAT_RESULT : Loc := ⟨0xF00B0020, 0, 4⟩
/-- SAFE_RST.ACCEPTED, bits 31..16 (R515). -/
def SAFE_RST_ACCEPTED : Loc := ⟨0xF00B0024, 16, 16⟩
/-- SAFE_RST.REJECTS, bits 15..8 (R515). -/
def SAFE_RST_REJECTS : Loc := ⟨0xF00B0024, 8, 8⟩
/-- SAFE_RST.LAST_REJ, bits 3..0 (R515). -/
def SAFE_RST_LAST_REJ : Loc := ⟨0xF00B0024, 0, 4⟩
/-- SAFE_TEST.INCONCL, bits 31..24 (R515). -/
def SAFE_TEST_INCONCL : Loc := ⟨0xF00B0028, 24, 8⟩
/-- SAFE_TEST.PULSES, bits 15..0 (R515). -/
def SAFE_TEST_PULSES : Loc := ⟨0xF00B0028, 0, 16⟩
/-- SAFE_BHT.BRK_FAIL, bits 31..24 (R515). -/
def SAFE_BHT_BRK_FAIL : Loc := ⟨0xF00B002C, 24, 8⟩
/-- SAFE_BHT.BHT_DUE, bits 23..16 (R515). -/
def SAFE_BHT_BHT_DUE : Loc := ⟨0xF00B002C, 16, 8⟩
/-- SAFE_BHT.RUNNING, bits 12..12 (R515). -/
def SAFE_BHT_RUNNING : Loc := ⟨0xF00B002C, 12, 1⟩
/-- SAFE_BHT.SBC, bits 10..8 (R515). -/
def SAFE_BHT_SBC : Loc := ⟨0xF00B002C, 8, 3⟩
/-- SAFE_BHT.RESULT, bits 1..0 (R515). -/
def SAFE_BHT_RESULT : Loc := ⟨0xF00B002C, 0, 2⟩
/-- SAFE_BHTDEV.COUNTS, bits 31..0 (R515). -/
def SAFE_BHTDEV_COUNTS : Loc := ⟨0xF00B0030, 0, 32⟩
/-- SAFE_PEND.WORD, bits 31..0 (R511). -/
def SAFE_PEND_WORD (w : Nat) : Loc := ⟨0xF00B0800 + 0x4 * (w % 512), 0, 32⟩
/-- SAFE_BLOCK.WORD, bits 31..0 (R515). -/
def SAFE_BLOCK_WORD (w : Nat) : Loc := ⟨0xF00B1000 + 0x4 * (w % 512), 0, 32⟩

/-! ### Block FLT -/

/-- FLT_CTRL.EXPERT_EN, bits 31..31 (R533). -/
def FLT_CTRL_EXPERT_EN : Loc := ⟨0xF0030000, 31, 1⟩
/-- FLT_CTRL.ERR_MIN, bits 2..0 (R533). -/
def FLT_CTRL_ERR_MIN : Loc := ⟨0xF0030000, 0, 3⟩
/-- FLT_STAT.MAX_SEV, bits 31..29 (R533). -/
def FLT_STAT_MAX_SEV : Loc := ⟨0xF0030004, 29, 3⟩
/-- FLT_STAT.ERR_N, bits 28..28 (R533). -/
def FLT_STAT_ERR_N : Loc := ⟨0xF0030004, 28, 1⟩
/-- FLT_STAT.UNCLEARED, bits 9..0 (R533). -/
def FLT_STAT_UNCLEARED : Loc := ⟨0xF0030004, 0, 10⟩
/-- FLT_CMD.KEY, bits 31..24 (R533). -/
def FLT_CMD_KEY : Loc := ⟨0xF0030008, 24, 8⟩
/-- FLT_CMD.CODE, bits 7..0 (R533). -/
def FLT_CMD_CODE : Loc := ⟨0xF0030008, 0, 8⟩
/-- FLT_CMDSTAT.CODE, bits 31..24 (R533). -/
def FLT_CMDSTAT_CODE : Loc := ⟨0xF003000C, 24, 8⟩
/-- FLT_CMDSTAT.INJ_PEND, bits 4..4 (R533). -/
def FLT_CMDSTAT_INJ_PEND : Loc := ⟨0xF003000C, 4, 1⟩
/-- FLT_CMDSTAT.RESULT, bits 3..0 (R533). -/
def FLT_CMDSTAT_RESULT : Loc := ⟨0xF003000C, 0, 4⟩
/-- FLT_ARG.SOURCE, bits 8..0 (R533). -/
def FLT_ARG_SOURCE : Loc := ⟨0xF0030010, 0, 9⟩
/-- FLT_INJ.CHK, bits 31..29 (R533). -/
def FLT_INJ_CHK : Loc := ⟨0xF0030014, 29, 3⟩
/-- FLT_INJ.NBITS, bits 28..27 (R533). -/
def FLT_INJ_NBITS : Loc := ⟨0xF0030014, 27, 2⟩
/-- FLT_INJ.TARGET, bits 7..0 (R533). -/
def FLT_INJ_TARGET : Loc := ⟨0xF0030014, 0, 8⟩
/-- FLT_INJADDR_L.ADDR, bits 31..0 (R533). -/
def FLT_INJADDR_L_ADDR : Loc := ⟨0xF0030018, 0, 32⟩
/-- FLT_INJADDR_H.ADDR, bits 7..0 (R533). -/
def FLT_INJADDR_H_ADDR : Loc := ⟨0xF003001C, 0, 8⟩
/-- FLT_UNDO.UNDO_SKIP, bits 31..16 (R533). -/
def FLT_UNDO_UNDO_SKIP : Loc := ⟨0xF0030020, 16, 16⟩
/-- FLT_UNDO.OVERFLOWS, bits 15..0 (R533). -/
def FLT_UNDO_OVERFLOWS : Loc := ⟨0xF0030020, 0, 16⟩
/-- FLT_PEND.PEND, bits 31..0 (R533). -/
def FLT_PEND_PEND (k : Nat) : Loc := ⟨0xF0030040 + 0x4 * (k % 16), 0, 32⟩
/-- FLT_CFG0.ETASK_EN, bits 31..31 (R533). -/
def FLT_CFG0_ETASK_EN (s : Nat) : Loc := ⟨0xF0031000 + 0x10 * (s % 512), 31, 1⟩
/-- FLT_CFG0.ETASK, bits 30..25 (R533). -/
def FLT_CFG0_ETASK (s : Nat) : Loc := ⟨0xF0031000 + 0x10 * (s % 512), 25, 6⟩
/-- FLT_CFG0.ESC_LIM, bits 19..16 (R533). -/
def FLT_CFG0_ESC_LIM (s : Nat) : Loc := ⟨0xF0031000 + 0x10 * (s % 512), 16, 4⟩
/-- FLT_CFG0.MIN, bits 10..8 (R533). -/
def FLT_CFG0_MIN (s : Nat) : Loc := ⟨0xF0031000 + 0x10 * (s % 512), 8, 3⟩
/-- FLT_CFG0.SEV, bits 2..0 (R533). -/
def FLT_CFG0_SEV (s : Nat) : Loc := ⟨0xF0031000 + 0x10 * (s % 512), 0, 3⟩
/-- FLT_CFG1.ESC_WIN, bits 31..16 (R533). -/
def FLT_CFG1_ESC_WIN (s : Nat) : Loc := ⟨0xF0031004 + 0x10 * (s % 512), 16, 16⟩
/-- FLT_CFG1.QUIET, bits 15..0 (R533). -/
def FLT_CFG1_QUIET (s : Nat) : Loc := ⟨0xF0031004 + 0x10 * (s % 512), 0, 16⟩
/-- FLT_SSTAT.PENDING, bits 31..31 (R533). -/
def FLT_SSTAT_PENDING (s : Nat) : Loc := ⟨0xF0031008 + 0x10 * (s % 512), 31, 1⟩
/-- FLT_SSTAT.ACTIVE, bits 30..30 (R533). -/
def FLT_SSTAT_ACTIVE (s : Nat) : Loc := ⟨0xF0031008 + 0x10 * (s % 512), 30, 1⟩
/-- FLT_SSTAT.ESC, bits 29..29 (R533). -/
def FLT_SSTAT_ESC (s : Nat) : Loc := ⟨0xF0031008 + 0x10 * (s % 512), 29, 1⟩
/-- FLT_SSTAT.INJECTED, bits 28..28 (R533). -/
def FLT_SSTAT_INJECTED (s : Nat) : Loc := ⟨0xF0031008 + 0x10 * (s % 512), 28, 1⟩
/-- FLT_SSTAT.MULTI, bits 27..27 (R533). -/
def FLT_SSTAT_MULTI (s : Nat) : Loc := ⟨0xF0031008 + 0x10 * (s % 512), 27, 1⟩
/-- FLT_SSTAT.EFF_SEV, bits 26..24 (R533). -/
def FLT_SSTAT_EFF_SEV (s : Nat) : Loc := ⟨0xF0031008 + 0x10 * (s % 512), 24, 3⟩
/-- FLT_SSTAT.UNIT, bits 11..0 (R533). -/
def FLT_SSTAT_UNIT (s : Nat) : Loc := ⟨0xF0031008 + 0x10 * (s % 512), 0, 12⟩
/-- FLT_CNT.RECOV, bits 31..16 (R533). -/
def FLT_CNT_RECOV (s : Nat) : Loc := ⟨0xF003100C + 0x10 * (s % 512), 16, 16⟩
/-- FLT_CNT.RAISES, bits 15..0 (R533). -/
def FLT_CNT_RAISES (s : Nat) : Loc := ⟨0xF003100C + 0x10 * (s % 512), 0, 16⟩

/-! ### Block EVL -/

/-- EVL_CTRL.EXPERT_EN, bits 31..31 (R546). -/
def EVL_CTRL_EXPERT_EN : Loc := ⟨0xF0040000, 31, 1⟩
/-- EVL_STAT.COUNT, bits 13..0 (R546). -/
def EVL_STAT_COUNT : Loc := ⟨0xF0040004, 0, 14⟩
/-- EVL_SEQ.SEQ, bits 31..0 (R546). -/
def EVL_SEQ_SEQ : Loc := ⟨0xF0040008, 0, 32⟩
/-- EVL_CMD.KEY, bits 31..24 (R546). -/
def EVL_CMD_KEY : Loc := ⟨0xF0040018, 24, 8⟩
/-- EVL_CMD.WCODE, bits 19..8 (R546). -/
def EVL_CMD_WCODE : Loc := ⟨0xF0040018, 8, 12⟩
/-- EVL_CMD.CODE, bits 7..0 (R546). -/
def EVL_CMD_CODE : Loc := ⟨0xF0040018, 0, 8⟩
/-- EVL_CMDSTAT.CODE, bits 31..24 (R546). -/
def EVL_CMDSTAT_CODE : Loc := ⟨0xF004001C, 24, 8⟩
/-- EVL_CMDSTAT.RESULT, bits 3..0 (R546). -/
def EVL_CMDSTAT_RESULT : Loc := ⟨0xF004001C, 0, 4⟩
/-- EVL_WARG0.ARG0, bits 31..0 (R546). -/
def EVL_WARG0_ARG0 : Loc := ⟨0xF0040020, 0, 32⟩
/-- EVL_WARG1.ARG1, bits 15..0 (R546). -/
def EVL_WARG1_ARG1 : Loc := ⟨0xF0040024, 0, 16⟩
/-- EVL_RDSEL.SLOT, bits 12..0 (R546). -/
def EVL_RDSEL_SLOT : Loc := ⟨0xF0040030, 0, 13⟩
/-- VAULT_OPT_L.OPT, bits 31..0 (R546). -/
def VAULT_OPT_L_OPT : Loc := ⟨0xF0040100, 0, 32⟩
/-- VAULT_OPT_H.OPT, bits 7..0 (R546). -/
def VAULT_OPT_H_OPT : Loc := ⟨0xF0040104, 0, 8⟩
/-- VAULT_PCYC.PCYC, bits 23..0 (R546). -/
def VAULT_PCYC_PCYC : Loc := ⟨0xF0040108, 0, 24⟩
/-- VAULT_TAMP.FLAGS, bits 2..0 (R546). -/
def VAULT_TAMP_FLAGS : Loc := ⟨0xF004010C, 0, 3⟩
/-- VAULT_CMD.KEY, bits 31..24 (R546). -/
def VAULT_CMD_KEY : Loc := ⟨0xF0040110, 24, 8⟩
/-- VAULT_CMD.CODE, bits 7..0 (R546). -/
def VAULT_CMD_CODE : Loc := ⟨0xF0040110, 0, 8⟩
/-- EVL_DROP.DROP(2m+1), bits 31..16 (R546). -/
def EVL_DROP_ODD (m : Nat) : Loc := ⟨0xF004000C + 0x4 * (m % 3), 16, 16⟩
/-- EVL_DROP.DROP(2m), bits 15..0 (R546). -/
def EVL_DROP_EVEN (m : Nat) : Loc := ⟨0xF004000C + 0x4 * (m % 3), 0, 16⟩
/-- EVL_REC.WORD, bits 31..0 (R546). -/
def EVL_REC_WORD (k : Nat) : Loc := ⟨0xF0040040 + 0x4 * (k % 8), 0, 32⟩
/-- VAULT_RAM.DATA, bits 31..0 (R546). -/
def VAULT_RAM_DATA (k : Nat) : Loc := ⟨0xF0040180 + 0x4 * (k % 24), 0, 32⟩
/-- EVL_CODE.RL_EN, bits 31..31 (R546). -/
def EVL_CODE_RL_EN (c : Nat) : Loc := ⟨0xF0044000 + 0x4 * (c % 4096), 31, 1⟩
/-- EVL_CODE.SEV, bits 10..8 (R546). -/
def EVL_CODE_SEV (c : Nat) : Loc := ⟨0xF0044000 + 0x4 * (c % 4096), 8, 3⟩
/-- EVL_CODE.BURST, bits 7..4 (R546). -/
def EVL_CODE_BURST (c : Nat) : Loc := ⟨0xF0044000 + 0x4 * (c % 4096), 4, 4⟩
/-- EVL_CODE.K, bits 3..0 (R546). -/
def EVL_CODE_K (c : Nat) : Loc := ⟨0xF0044000 + 0x4 * (c % 4096), 0, 4⟩

/-! ### Block SEC -/

/-- SEC_CTRL.EXPERT_EN, bits 31..31 (R557). -/
def SEC_CTRL_EXPERT_EN : Loc := ⟨0xF0020000, 31, 1⟩
/-- SEC_STAT.VRES, bits 15..12 (R557). -/
def SEC_STAT_VRES : Loc := ⟨0xF0020004, 12, 4⟩
/-- SEC_STAT.REVOKED, bits 7..4 (R557). -/
def SEC_STAT_REVOKED : Loc := ⟨0xF0020004, 4, 4⟩
/-- SEC_STAT.PROGRAMMED, bits 3..0 (R557). -/
def SEC_STAT_PROGRAMMED : Loc := ⟨0xF0020004, 0, 4⟩
/-- SEC_CMD.KEY, bits 31..24 (R557). -/
def SEC_CMD_KEY : Loc := ⟨0xF0020008, 24, 8⟩
/-- SEC_CMD.ARG, bits 10..8 (R557). -/
def SEC_CMD_ARG : Loc := ⟨0xF0020008, 8, 3⟩
/-- SEC_CMD.CODE, bits 7..0 (R557). -/
def SEC_CMD_CODE : Loc := ⟨0xF0020008, 0, 8⟩
/-- SEC_CMDSTAT.CODE, bits 31..24 (R557). -/
def SEC_CMDSTAT_CODE : Loc := ⟨0xF002000C, 24, 8⟩
/-- SEC_CMDSTAT.RESULT, bits 3..0 (R557). -/
def SEC_CMDSTAT_RESULT : Loc := ⟨0xF002000C, 0, 4⟩
/-- SEC_NONCE.BYTES, bits 31..0 (R557). -/
def SEC_NONCE_BYTES (k : Nat) : Loc := ⟨0xF0020020 + 0x4 * (k % 8), 0, 32⟩
/-- SEC_ARB.VALUE, bits 6..0 (R557). -/
def SEC_ARB_VALUE (k : Nat) : Loc := ⟨0xF0020100 + 0x4 * (k % 64), 0, 7⟩
/-- SEC_REPORT.WORD, bits 31..0 (R554). -/
def SEC_REPORT_WORD (w : Nat) : Loc := ⟨0xF0020400 + 0x4 * (w % 152), 0, 32⟩
/-- SEC_CERT.WORD, bits 31..0 (R553). -/
def SEC_CERT_WORD (w : Nat) : Loc := ⟨0xF0020800 + 0x4 * (w % 128), 0, 32⟩

end Sys2Proof.Machine.F
end

