-- ==== Sys2Proof/Machine/RegTable.lean ====
section
/-!
DEFINITION. The register map: for every register of every block map of spec/ its address, its index
dimensions (count, stride) and its fields with type (R4), reset value and level (R7). Reserved bits are
not listed: they read 0 and ignore writes (R6). Where the manual gives a reset value by name only
(strap, fitted, factory, seal, vault, fuses), the value here is the model's (assumption 3).
-/

set_option Elab.async false

namespace Sys2Proof.Machine

/-- The registers of the SYS block(s). -/
def regsSYS : List RegRow := [
  -- SYS_CTRL
  ⟨0xF0000000, [], [⟨31, 31, .rw, 0x0, false⟩]⟩,
  -- SYS_MODE
  ⟨0xF0000004, [], [⟨15, 8, .ro, 0x0, false⟩,
    ⟨6, 4, .ro, 0x0, false⟩,
    ⟨2, 0, .ro, 0x1, false⟩]⟩,
  -- SYS_CMD
  ⟨0xF0000008, [], [⟨31, 24, .wo, 0x0, false⟩,
    ⟨7, 0, .wo, 0x0, false⟩]⟩,
  -- SYS_CMDSTAT
  ⟨0xF000000C, [], [⟨31, 24, .ro, 0x0, false⟩,
    ⟨3, 0, .ro, 0x0, false⟩]⟩,
  -- SYS_RSTPOL
  ⟨0xF0000010, [], [⟨23, 8, .rw, 0x0, false⟩,
    ⟨2, 2, .rw, 0x1, false⟩,
    ⟨1, 1, .rw, 0x1, false⟩,
    ⟨0, 0, .rw, 0x1, false⟩]⟩,
  -- SYS_RESTART
  ⟨0xF0000014, [], [⟨31, 16, .ro, 0x0, false⟩,
    ⟨7, 4, .ro, 0x0, false⟩,
    ⟨1, 0, .ro, 0x0, false⟩]⟩,
  -- SYS_OUTAGE_LO
  ⟨0xF0000018, [], [⟨31, 0, .ro, 0x0, false⟩]⟩,
  -- SYS_OUTAGE_HI
  ⟨0xF000001C, [], [⟨7, 0, .ro, 0x0, false⟩]⟩,
  -- SYS_DAWN_TIME
  ⟨0xF0000020, [], [⟨31, 0, .ro, 0x0, false⟩]⟩,
  -- SYS_MEMSIZE
  ⟨0xF0000024, [], [⟨15, 0, .ro, 0x1000, false⟩]⟩,
  -- SYS_CFGSTAT
  ⟨0xF0000030, [(2, 0x4)], [⟨31, 0, .ro, 0x0, false⟩]⟩,
  -- SYS_CFGWARN
  ⟨0xF0000038, [(2, 0x4)], [⟨31, 0, .ro, 0x0, false⟩]⟩,
  -- SYS_FWSTAT
  ⟨0xF0000040, [], [⟨31, 31, .ro, 0x0, false⟩,
    ⟨15, 8, .ro, 0x0, false⟩,
    ⟨7, 0, .ro, 0x0, false⟩]⟩,
  -- SCAN_STAT
  ⟨0xF0000100, [], [⟨21, 18, .ro, 0x0, false⟩,
    ⟨17, 14, .ro, 0x0, false⟩,
    ⟨13, 13, .ro, 0x0, false⟩,
    ⟨12, 0, .ro, 0x0, false⟩]⟩,
  -- FORCE_CMD
  ⟨0xF0000104, [], [⟨31, 24, .wo, 0x0, false⟩,
    ⟨11, 8, .wo, 0x0, false⟩,
    ⟨7, 0, .wo, 0x0, false⟩]⟩,
  -- FORCE_KEY
  ⟨0xF0000108, [], [⟨31, 0, .rw, 0x0, false⟩]⟩,
  -- FORCE_VAL
  ⟨0xF000010C, [], [⟨31, 0, .rw, 0x0, false⟩]⟩,
  -- FORCE_MASK
  ⟨0xF0000110, [], [⟨31, 0, .rw, 0xFFFFFFFF, false⟩]⟩,
  -- FORCE_STAT
  ⟨0xF0000114, [], [⟨31, 24, .ro, 0x0, false⟩,
    ⟨15, 4, .ro, 0x0, false⟩,
    ⟨3, 0, .ro, 0x0, false⟩]⟩,
  -- EXCH_CMD
  ⟨0xF0000120, [], [⟨31, 24, .wo, 0x0, false⟩,
    ⟨7, 0, .wo, 0x0, false⟩]⟩,
  -- EXCH_STAT
  ⟨0xF0000124, [], [⟨31, 24, .ro, 0x0, false⟩,
    ⟨23, 16, .ro, 0x0, false⟩,
    ⟨7, 4, .ro, 0x0, false⟩,
    ⟨3, 0, .ro, 0x0, false⟩]⟩,
  -- EXCH_CFG
  ⟨0xF0000128, [], [⟨15, 0, .rw, 0x32, true⟩]⟩,
  -- TASK_CMD
  ⟨0xF0000130, [], [⟨31, 24, .wo, 0x0, false⟩,
    ⟨13, 8, .wo, 0x0, false⟩,
    ⟨7, 0, .wo, 0x0, false⟩]⟩,
  -- TASK_STAT
  ⟨0xF0000200, [(64, 0x4)], [⟨31, 16, .ro, 0x0, false⟩,
    ⟨15, 8, .ro, 0x0, false⟩,
    ⟨4, 4, .w1c, 0x0, false⟩,
    ⟨3, 0, .ro, 0x0, false⟩]⟩,
  -- TASK_TIME
  ⟨0xF0000300, [(64, 0x4)], [⟨31, 16, .ro, 0x0, false⟩,
    ⟨15, 0, .ro, 0x0, false⟩]⟩]

/-- The registers of the CLK block(s). -/
def regsCLK : List RegRow := [
  -- CLK_CTRL
  ⟨0xF0010000, [], [⟨31, 31, .rw, 0x0, false⟩,
    ⟨1, 1, .rw, 0x1, false⟩,
    ⟨0, 0, .ro, 0x0, false⟩]⟩,
  -- CLK_STAT
  ⟨0xF0010004, [], [⟨11, 8, .ro, 0x0, false⟩,
    ⟨5, 5, .ro, 0x0, false⟩,
    ⟨4, 4, .ro, 0x0, false⟩,
    ⟨3, 3, .ro, 0x0, false⟩,
    ⟨2, 2, .ro, 0x0, false⟩,
    ⟨1, 1, .ro, 0x0, false⟩,
    ⟨0, 0, .ro, 0x0, false⟩]⟩,
  -- CLK_FLT
  ⟨0xF0010008, [], [⟨7, 4, .w1c, 0x0, false⟩,
    ⟨2, 2, .w1c, 0x0, false⟩,
    ⟨1, 1, .w1c, 0x0, false⟩,
    ⟨0, 0, .w1c, 0x0, false⟩]⟩,
  -- CLK_XCHK
  ⟨0xF001000C, [], [⟨19, 0, .ro, 0x0, false⟩]⟩,
  -- CLK_FDDLY
  ⟨0xF0010010, [(4, 0x4)], [⟨7, 0, .rw, 0x0, true⟩]⟩,
  -- LG_CTRL
  ⟨0xF0010100, [(32, 0x4)], [⟨31, 31, .rw, 0x0, false⟩,
    ⟨30, 28, .rw, 0x0, false⟩,
    ⟨26, 20, .rw, 0x0, false⟩,
    ⟨19, 19, .rw, 0x0, false⟩,
    ⟨15, 0, .rw, 0x0, false⟩]⟩,
  -- LG_STAT
  ⟨0xF0010200, [(32, 0x4)], [⟨31, 16, .ro, 0x0, false⟩,
    ⟨8, 8, .ro, 0x0, false⟩,
    ⟨7, 0, .ro, 0x0, false⟩]⟩,
  -- CH_LG
  ⟨0xF0010400, [(128, 0x4)], [⟨5, 5, .rw, 0x0, false⟩,
    ⟨4, 0, .rw, 0x0, false⟩]⟩]

/-- The registers of the JNL block(s). -/
def regsJNL : List RegRow := [
  -- JNL_CTRL
  ⟨0xF0060000, [], [⟨31, 31, .rw, 0x0, false⟩,
    ⟨0, 0, .rw, 0x1, false⟩]⟩,
  -- JNL_STAT
  ⟨0xF0060004, [], [⟨4, 4, .ro, 0x0, false⟩,
    ⟨3, 3, .ro, 0x0, false⟩,
    ⟨2, 2, .ro, 0x0, false⟩,
    ⟨1, 0, .ro, 0x0, false⟩]⟩,
  -- JNL_CYCLE
  ⟨0xF0060008, [(2, 0x4)], [⟨31, 0, .ro, 0x0, false⟩]⟩,
  -- JNL_DSIZE
  ⟨0xF0060010, [], [⟨16, 0, .ro, 0x0, false⟩]⟩,
  -- JNL_MERGE
  ⟨0xF0060014, [], [⟨31, 0, .ro, 0x0, false⟩]⟩,
  -- JNL_RETAIN
  ⟨0xF0060018, [], [⟨19, 0, .ro, 0x0, false⟩]⟩,
  -- JNL_DEVSIZE
  ⟨0xF006001C, [], [⟨31, 16, .ro, 0x0, false⟩,
    ⟨15, 0, .ro, 0x0, false⟩]⟩]

/-- The registers of the PART block(s). -/
def regsPART : List RegRow := [
  -- PART_CTRL
  ⟨0xF00A0000, [], [⟨31, 31, .rw, 0x0, false⟩,
    ⟨2, 2, .rw, 0x1, false⟩,
    ⟨1, 0, .rw, 0x0, false⟩]⟩,
  -- PART_STAT
  ⟨0xF00A0004, [], [⟨31, 16, .ro, 0x0, false⟩,
    ⟨15, 8, .ro, 0x0, false⟩,
    ⟨4, 4, .w1c, 0x0, false⟩,
    ⟨3, 3, .w1c, 0x0, false⟩,
    ⟨2, 2, .ro, 0x0, false⟩,
    ⟨1, 1, .ro, 0x0, false⟩,
    ⟨0, 0, .ro, 0x0, false⟩]⟩,
  -- PART_HBMISS
  ⟨0xF00A0008, [], [⟨31, 0, .ro, 0x0, false⟩]⟩]

/-- The registers of the SCHED block(s). -/
def regsSCHED : List RegRow := [
  -- SCHED_CTRL
  ⟨0xF0050000, [], [⟨31, 31, .rw, 0x0, false⟩,
    ⟨19, 4, .rw, 0x1000, true⟩,
    ⟨3, 0, .rw, 0x2, false⟩]⟩,
  -- SCHED_TBLBASE
  ⟨0xF0050004, [], [⟨13, 0, .rw, 0x0, false⟩]⟩,
  -- SCHED_STAT
  ⟨0xF0050008, [], [⟨15, 8, .ro, 0x0, false⟩,
    ⟨7, 0, .ro, 0x0, false⟩]⟩,
  -- SCHED_USED
  ⟨0xF005000C, [], [⟨18, 0, .ro, 0x0, false⟩]⟩,
  -- SCHED_LOSS
  ⟨0xF0050010, [], [⟨31, 16, .ro, 0x0, false⟩,
    ⟨15, 0, .ro, 0x0, false⟩]⟩,
  -- SCHED_FLUSH
  ⟨0xF0050014, [], [⟨31, 0, .ro, 0x0, false⟩]⟩,
  -- SCHED_GRPACK
  ⟨0xF0050018, [], [⟨31, 24, .wo, 0x0, false⟩,
    ⟨15, 0, .wo, 0x0, false⟩]⟩,
  -- SCHED_GRPSTAT
  ⟨0xF005001C, [], [⟨31, 16, .ro, 0x0, false⟩,
    ⟨15, 0, .ro, 0x0, false⟩]⟩,
  -- SCHED_MIG
  ⟨0xF0050020, [(8, 0x4)], [⟨31, 0, .ro, 0x0, false⟩]⟩,
  -- SCHED_DLY
  ⟨0xF0050040, [(8, 0x4)], [⟨14, 0, .ro, 0x0, false⟩]⟩]

/-- The registers of the FD block(s). -/
def regsFD : List RegRow := [
  -- CH_CFG
  ⟨0xF0600000, [(4, 0x40000), (32, 0x800)], [⟨23, 8, .rw, 0x0, false⟩,
    ⟨7, 7, .rw, 0x0, false⟩,
    ⟨6, 6, .rw, 0x0, false⟩,
    ⟨5, 2, .rw, 0x0, false⟩,
    ⟨1, 0, .rw, 0x0, false⟩]⟩,
  -- CH_STAT
  ⟨0xF0600004, [(4, 0x40000), (32, 0x800)], [⟨16, 8, .ro, 0x0, false⟩,
    ⟨7, 7, .w1c, 0x0, false⟩,
    ⟨6, 6, .ro, 0x0, false⟩,
    ⟨5, 5, .ro, 0x0, false⟩,
    ⟨4, 2, .ro, 0x0, false⟩,
    ⟨0, 0, .ro, 0x0, false⟩]⟩,
  -- WIN_LO
  ⟨0xF0600008, [(4, 0x40000), (32, 0x800)], [⟨17, 0, .rw, 0x20000, false⟩]⟩,
  -- WIN_HI
  ⟨0xF060000C, [(4, 0x40000), (32, 0x800)], [⟨17, 0, .rw, 0x1FFFF, false⟩]⟩,
  -- WIN_CFG
  ⟨0xF0600010, [(4, 0x40000), (32, 0x800)], [⟨31, 31, .rw, 0x0, false⟩,
    ⟨30, 30, .rw, 0x0, false⟩,
    ⟨29, 29, .rw, 0x1, false⟩,
    ⟨28, 28, .rw, 0x0, false⟩,
    ⟨15, 0, .rw, 0x0, false⟩]⟩,
  -- WIN_EVT
  ⟨0xF0600014, [(4, 0x40000), (32, 0x800)], [⟨31, 31, .rw, 0x0, false⟩,
    ⟨15, 0, .rw, 0x0, false⟩]⟩,
  -- AOUT_CFG
  ⟨0xF06000A0, [(4, 0x40000), (32, 0x800)], [⟨2, 2, .rw, 0x0, false⟩,
    ⟨1, 0, .rw, 0x0, false⟩]⟩,
  -- AOUT_SAFE
  ⟨0xF06000A4, [(4, 0x40000), (32, 0x800)], [⟨31, 16, .rw, 0x0, false⟩,
    ⟨15, 0, .rw, 0x0, false⟩]⟩,
  -- AOUT_STAT
  ⟨0xF06000A8, [(4, 0x40000), (32, 0x800)], [⟨31, 16, .ro, 0x0, false⟩,
    ⟨14, 12, .ro, 0x0, false⟩,
    ⟨1, 1, .w1c, 0x0, false⟩,
    ⟨0, 0, .w1c, 0x0, false⟩]⟩,
  -- FIO_CFG
  ⟨0xF0600100, [(4, 0x40000), (32, 0x800)], [⟨29, 29, .rw, 0x0, false⟩,
    ⟨28, 27, .rw, 0x0, false⟩,
    ⟨26, 26, .rw, 0x0, false⟩,
    ⟨25, 25, .rw, 0x0, false⟩,
    ⟨23, 16, .rw, 0xA, true⟩,
    ⟨15, 0, .rw, 0x0, false⟩]⟩,
  -- FIO_MAXACT
  ⟨0xF0600104, [(4, 0x40000), (32, 0x800)], [⟨15, 0, .rw, 0x0, true⟩]⟩,
  -- FIO_STAT
  ⟨0xF0600108, [(4, 0x40000), (32, 0x800)], [⟨7, 5, .ro, 0x0, false⟩,
    ⟨2, 2, .ro, 0x0, false⟩,
    ⟨1, 1, .ro, 0x0, false⟩,
    ⟨0, 0, .ro, 0x0, false⟩]⟩,
  -- FIO_EVT
  ⟨0xF060010C, [(4, 0x40000), (32, 0x800)], [⟨31, 31, .rw, 0x0, false⟩,
    ⟨30, 29, .rw, 0x0, false⟩,
    ⟨15, 0, .rw, 0x0, false⟩]⟩,
  -- CAL_OFS
  ⟨0xF0600020, [(4, 0x40000), (32, 0x800), (5, 0x4)], [⟨31, 0, .ro, 0x0, false⟩]⟩,
  -- CAL_GAIN
  ⟨0xF0600040, [(4, 0x40000), (32, 0x800), (5, 0x4)], [⟨31, 0, .ro, 0x40000000, false⟩]⟩,
  -- USR_OFS
  ⟨0xF0600060, [(4, 0x40000), (32, 0x800), (5, 0x4)], [⟨31, 0, .rw, 0x0, false⟩]⟩,
  -- USR_GAIN
  ⟨0xF0600080, [(4, 0x40000), (32, 0x800), (5, 0x4)], [⟨31, 0, .rw, 0x40000000, false⟩]⟩,
  -- DIE_CTRL
  ⟨0xF0610000, [(4, 0x40000)], [⟨31, 31, .rw, 0x0, false⟩,
    ⟨7, 0, .rw, 0x14, true⟩]⟩,
  -- DIE_STAT
  ⟨0xF0610004, [(4, 0x40000)], [⟨31, 16, .ro, 0x0, false⟩,
    ⟨3, 3, .ro, 0x0, false⟩,
    ⟨2, 2, .ro, 0x0, false⟩,
    ⟨1, 1, .ro, 0x0, false⟩,
    ⟨0, 0, .ro, 0x0, false⟩]⟩,
  -- DIE_CMD
  ⟨0xF0610008, [(4, 0x40000)], [⟨31, 24, .wo, 0x0, false⟩,
    ⟨7, 0, .wo, 0x0, false⟩]⟩,
  -- DIE_CMDSTAT
  ⟨0xF061000C, [(4, 0x40000)], [⟨31, 24, .ro, 0x0, false⟩,
    ⟨3, 0, .ro, 0x0, false⟩]⟩,
  -- CERT_ARG
  ⟨0xF0610040, [(4, 0x40000)], [⟨8, 8, .rw, 0x0, false⟩,
    ⟨7, 5, .rw, 0x0, false⟩,
    ⟨4, 0, .rw, 0x0, false⟩]⟩,
  -- CERT_VAL
  ⟨0xF0610044, [(4, 0x40000)], [⟨31, 0, .rw, 0x0, false⟩]⟩,
  -- CERT_STAT
  ⟨0xF0610048, [(4, 0x40000)], [⟨11, 0, .ro, 0x0, false⟩]⟩,
  -- SEAL_STAT
  ⟨0xF0610080, [(4, 0x40000)], [⟨31, 24, .ro, 0x0, false⟩,
    ⟨23, 16, .ro, 0x0, false⟩,
    ⟨7, 4, .ro, 0x0, false⟩,
    ⟨0, 0, .ro, 0x0, false⟩]⟩,
  -- CL_CTRL
  ⟨0xF0610020, [(4, 0x40000), (4, 0x4)], [⟨8, 8, .w1s, 0x0, false⟩,
    ⟨3, 3, .rw, 0x0, false⟩,
    ⟨2, 2, .rw, 0x1, false⟩,
    ⟨1, 0, .rw, 0x0, false⟩]⟩,
  -- CL_STAT
  ⟨0xF0610030, [(4, 0x40000), (4, 0x4)], [⟨31, 16, .ro, 0x0, false⟩,
    ⟨15, 14, .ro, 0x0, false⟩,
    ⟨7, 7, .w1c, 0x0, false⟩,
    ⟨6, 6, .ro, 0x0, false⟩,
    ⟨5, 5, .ro, 0x0, false⟩,
    ⟨4, 4, .w1c, 0x0, false⟩,
    ⟨3, 3, .ro, 0x0, false⟩]⟩,
  -- CERT_STD
  ⟨0xF0610050, [(4, 0x40000), (4, 0x4)], [⟨31, 0, .rw, 0x0, false⟩]⟩,
  -- RG_CTRL
  ⟨0xF06100C0, [(4, 0x40000), (2, 0x4)], [⟨0, 0, .w1s, 0x0, false⟩]⟩,
  -- RG_STAT
  ⟨0xF06100C8, [(4, 0x40000), (2, 0x4)], [⟨31, 20, .ro, 0x0, false⟩,
    ⟨15, 8, .ro, 0x0, false⟩,
    ⟨2, 2, .ro, 0x0, false⟩,
    ⟨1, 1, .w1c, 0x0, false⟩,
    ⟨0, 0, .ro, 0x0, false⟩]⟩]

/-- The registers of the LE block(s). -/
def regsLE : List RegRow := [
  -- LE_CTRL
  ⟨0xF0400000, [(8, 0x10000)], [⟨31, 31, .rw, 0x0, false⟩,
    ⟨1, 1, .rw, 0x1, true⟩,
    ⟨0, 0, .rw, 0x1, true⟩]⟩,
  -- LE_STAT
  ⟨0xF0400004, [(8, 0x10000)], [⟨24, 18, .ro, 0x0, false⟩,
    ⟨17, 16, .ro, 0x0, false⟩,
    ⟨13, 8, .ro, 0x0, false⟩,
    ⟨1, 0, .ro, 0x0, false⟩]⟩,
  -- LE_LOAD
  ⟨0xF0400008, [(8, 0x10000)], [⟨31, 16, .ro, 0x0, false⟩,
    ⟨15, 0, .ro, 0x0, false⟩]⟩,
  -- LE_ECC
  ⟨0xF040000C, [(8, 0x10000)], [⟨31, 16, .ro, 0x0, false⟩,
    ⟨15, 0, .ro, 0x0, false⟩]⟩,
  -- LE_EXC
  ⟨0xF0400010, [(8, 0x10000)], [⟨31, 26, .ro, 0x0, false⟩,
    ⟨25, 24, .ro, 0x0, false⟩,
    ⟨23, 20, .ro, 0x0, false⟩,
    ⟨12, 0, .ro, 0x0, false⟩]⟩,
  -- LE_PALGRP
  ⟨0xF0400020, [(8, 0x10000)], [⟨31, 24, .wo, 0x0, false⟩,
    ⟨8, 8, .wo, 0x0, false⟩,
    ⟨4, 0, .wo, 0x0, false⟩]⟩,
  -- LE_SLOTCFG
  ⟨0xF0400100, [(8, 0x10000), (64, 0x4)], [⟨31, 31, .rw, 0x0, false⟩,
    ⟨30, 30, .rw, 0x0, false⟩,
    ⟨29, 27, .rw, 0x7, false⟩,
    ⟨26, 26, .rw, 0x0, false⟩,
    ⟨12, 0, .rw, 0x0, false⟩]⟩,
  -- LE_SLOTSTAT
  ⟨0xF0400200, [(8, 0x10000), (64, 0x4)], [⟨31, 16, .ro, 0x0, false⟩,
    ⟨15, 8, .ro, 0x0, false⟩,
    ⟨6, 6, .w1c, 0x0, false⟩,
    ⟨5, 5, .w1c, 0x0, false⟩,
    ⟨4, 4, .w1c, 0x0, false⟩,
    ⟨3, 3, .w1c, 0x0, false⟩,
    ⟨2, 2, .w1c, 0x0, false⟩,
    ⟨1, 1, .ro, 0x0, false⟩,
    ⟨0, 0, .ro, 0x0, false⟩]⟩,
  -- LE_SLOTTIME
  ⟨0xF0400300, [(8, 0x10000), (64, 0x4)], [⟨31, 16, .ro, 0x0, false⟩,
    ⟨15, 0, .ro, 0x0, false⟩]⟩,
  -- LE_IMPSRC
  ⟨0xF0400400, [(8, 0x10000), (64, 0x8)], [⟨31, 0, .rw, 0x0, false⟩]⟩,
  -- LE_IMPCFG
  ⟨0xF0400404, [(8, 0x10000), (64, 0x8)], [⟨31, 31, .rw, 0x0, false⟩]⟩,
  -- LE_PALREQ
  ⟨0xF0400700, [(8, 0x10000), (2, 0x4)], [⟨31, 0, .rw, 0x0, false⟩]⟩,
  -- LE_PALACT
  ⟨0xF0400708, [(8, 0x10000), (2, 0x4)], [⟨31, 0, .ro, 0x0, false⟩]⟩,
  -- LE_SLOTFLG
  ⟨0xF0400600, [(8, 0x10000), (64, 0x4)], [⟨31, 16, .ro, 0x0, false⟩,
    ⟨15, 12, .ro, 0x0, false⟩,
    ⟨11, 11, .ro, 0x0, false⟩,
    ⟨9, 9, .ro, 0x0, false⟩,
    ⟨8, 8, .ro, 0x0, false⟩,
    ⟨7, 7, .ro, 0x0, false⟩,
    ⟨6, 6, .ro, 0x0, false⟩,
    ⟨5, 5, .ro, 0x0, false⟩,
    ⟨4, 4, .ro, 0x0, false⟩,
    ⟨3, 3, .ro, 0x0, false⟩,
    ⟨2, 2, .ro, 0x0, false⟩,
    ⟨1, 1, .ro, 0x0, false⟩,
    ⟨0, 0, .ro, 0x0, false⟩]⟩]

/-- The registers of the RCP block(s). -/
def regsRCP : List RegRow := [
  -- RCP_CTRL
  ⟨0xF00D0000, [], [⟨31, 31, .rw, 0x0, false⟩,
    ⟨5, 0, .rw, 0x20, true⟩]⟩,
  -- RCP_ACTIVE
  ⟨0xF00D0004, [], [⟨31, 0, .ro, 0x0, false⟩]⟩,
  -- RCP_SUSP
  ⟨0xF00D0008, [], [⟨31, 0, .ro, 0x0, false⟩]⟩,
  -- RS_CFG
  ⟨0xF00D0100, [(32, 0x40)], [⟨31, 31, .rw, 0x0, false⟩,
    ⟨28, 24, .rw, 0x0, false⟩,
    ⟨17, 0, .rw, 0x0, false⟩]⟩,
  -- RS_CMD
  ⟨0xF00D0104, [(32, 0x40)], [⟨31, 24, .wo, 0x0, false⟩,
    ⟨7, 0, .wo, 0x0, false⟩]⟩,
  -- RS_ARG
  ⟨0xF00D0108, [(32, 0x40)], [⟨11, 0, .rw, 0x0, false⟩]⟩,
  -- RS_STAT
  ⟨0xF00D010C, [(32, 0x40)], [⟨31, 28, .ro, 0x0, false⟩,
    ⟨27, 24, .ro, 0x0, false⟩,
    ⟨23, 16, .ro, 0x0, false⟩,
    ⟨15, 12, .ro, 0x0, false⟩,
    ⟨11, 10, .ro, 0x0, false⟩,
    ⟨9, 8, .ro, 0x0, false⟩,
    ⟨4, 4, .w1c, 0x0, false⟩,
    ⟨3, 3, .ro, 0x0, false⟩,
    ⟨2, 2, .ro, 0x0, false⟩,
    ⟨0, 0, .w1c, 0x0, false⟩]⟩,
  -- RS_STEP
  ⟨0xF00D0110, [(32, 0x40)], [⟨31, 24, .ro, 0x0, false⟩,
    ⟨23, 12, .ro, 0xFFF, false⟩,
    ⟨11, 0, .ro, 0xFFF, false⟩]⟩,
  -- RS_ELAP
  ⟨0xF00D0114, [(32, 0x40)], [⟨31, 0, .ro, 0x0, false⟩]⟩,
  -- RS_INTR
  ⟨0xF00D0118, [(32, 0x40)], [⟨31, 0, .ro, 0x0, false⟩]⟩,
  -- RS_CNT
  ⟨0xF00D011C, [(32, 0x40)], [⟨31, 16, .ro, 0x0, false⟩,
    ⟨15, 0, .ro, 0x0, false⟩]⟩,
  -- RS_ERR
  ⟨0xF00D0120, [(32, 0x40)], [⟨23, 12, .ro, 0x0, false⟩,
    ⟨7, 0, .ro, 0x0, false⟩]⟩]

/-- The registers of the PP block(s). -/
def regsPP : List RegRow := [
  -- PP_CTRL
  ⟨0xF0500000, [], [⟨31, 31, .rw, 0x0, false⟩]⟩,
  -- PP_STAT
  ⟨0xF0500004, [], [⟨31, 0, .ro, 0x0, false⟩]⟩,
  -- PP_MOVING
  ⟨0xF0500008, [(4, 0x4)], [⟨31, 0, .ro, 0x0, false⟩]⟩]

/-- The registers of the MOT block(s). -/
def regsMOT : List RegRow := [
  -- AX_CFG
  ⟨0xF0510000, [(128, 0x100)], [⟨31, 31, .rw, 0x0, false⟩,
    ⟨27, 26, .rw, 0x0, false⟩,
    ⟨25, 25, .rw, 0x0, false⟩,
    ⟨24, 24, .rw, 0x1, false⟩,
    ⟨23, 23, .rw, 0x1, false⟩,
    ⟨22, 22, .rw, 0x0, false⟩,
    ⟨21, 21, .rw, 0x0, false⟩,
    ⟨20, 20, .rw, 0x0, false⟩,
    ⟨19, 18, .rw, 0x0, false⟩,
    ⟨17, 17, .rw, 0x0, false⟩,
    ⟨16, 16, .rw, 0x0, false⟩]⟩,
  -- AX_TIM
  ⟨0xF0510004, [(128, 0x100)], [⟨15, 8, .rw, 0x32, false⟩,
    ⟨7, 0, .rw, 0x14, false⟩]⟩,
  -- VMAX
  ⟨0xF0510008, [(128, 0x100)], [⟨31, 0, .rw, 0x0, false⟩]⟩,
  -- AMAX
  ⟨0xF051000C, [(128, 0x100)], [⟨31, 0, .rw, 0x0, false⟩]⟩,
  -- DMAX
  ⟨0xF0510010, [(128, 0x100)], [⟨31, 0, .rw, 0x0, false⟩]⟩,
  -- JMAX
  ⟨0xF0510014, [(128, 0x100)], [⟨31, 0, .rw, 0x0, false⟩]⟩,
  -- EDMAX
  ⟨0xF0510018, [(128, 0x100)], [⟨31, 0, .rw, 0x0, false⟩]⟩,
  -- SOFT_LO_L
  ⟨0xF0510020, [(128, 0x100)], [⟨31, 0, .rw, 0x0, false⟩]⟩,
  -- SOFT_LO_H
  ⟨0xF0510024, [(128, 0x100)], [⟨15, 0, .rw, 0x0, false⟩]⟩,
  -- SOFT_HI_L
  ⟨0xF0510028, [(128, 0x100)], [⟨31, 0, .rw, 0x0, false⟩]⟩,
  -- SOFT_HI_H
  ⟨0xF051002C, [(128, 0x100)], [⟨15, 0, .rw, 0x0, false⟩]⟩,
  -- TGT_L
  ⟨0xF0510030, [(128, 0x100)], [⟨31, 0, .rw, 0x0, false⟩]⟩,
  -- TGT_H
  ⟨0xF0510034, [(128, 0x100)], [⟨15, 0, .rw, 0x0, false⟩]⟩,
  -- AX_CMD
  ⟨0xF0510038, [(128, 0x100)], [⟨31, 24, .wo, 0x0, false⟩,
    ⟨7, 0, .wo, 0x0, false⟩]⟩,
  -- AX_STAT
  ⟨0xF051003C, [(128, 0x100)], [⟨31, 28, .ro, 0x0, false⟩,
    ⟨27, 24, .ro, 0x0, false⟩,
    ⟨23, 16, .ro, 0x0, false⟩,
    ⟨14, 12, .ro, 0x0, false⟩,
    ⟨11, 11, .ro, 0x0, false⟩,
    ⟨10, 10, .w1c, 0x0, false⟩,
    ⟨9, 9, .w1c, 0x0, false⟩,
    ⟨8, 8, .ro, 0x0, false⟩,
    ⟨7, 7, .w1c, 0x0, false⟩,
    ⟨6, 6, .w1c, 0x0, false⟩,
    ⟨5, 5, .w1c, 0x0, false⟩,
    ⟨4, 4, .w1c, 0x0, false⟩,
    ⟨3, 3, .w1c, 0x0, false⟩,
    ⟨2, 2, .w1c, 0x0, false⟩,
    ⟨1, 1, .ro, 0x0, false⟩]⟩,
  -- POS_L
  ⟨0xF0510040, [(128, 0x100)], [⟨31, 0, .ro, 0x0, false⟩]⟩,
  -- POS_H
  ⟨0xF0510044, [(128, 0x100)], [⟨15, 0, .ro, 0x0, false⟩]⟩,
  -- ACT_L
  ⟨0xF0510048, [(128, 0x100)], [⟨31, 0, .ro, 0x0, false⟩]⟩,
  -- ACT_H
  ⟨0xF051004C, [(128, 0x100)], [⟨15, 0, .ro, 0x0, false⟩]⟩,
  -- REM_L
  ⟨0xF0510050, [(128, 0x100)], [⟨31, 0, .ro, 0x0, false⟩]⟩,
  -- REM_H
  ⟨0xF0510054, [(128, 0x100)], [⟨15, 0, .ro, 0x0, false⟩]⟩,
  -- VEL
  ⟨0xF0510058, [(128, 0x100)], [⟨31, 0, .ro, 0x0, false⟩]⟩,
  -- SRV_CFG
  ⟨0xF051005C, [(128, 0x100)], [⟨31, 23, .rw, 0x0, false⟩,
    ⟨22, 19, .rw, 0x0, false⟩,
    ⟨18, 15, .rw, 0x0, false⟩,
    ⟨14, 0, .rw, 0x0, false⟩]⟩,
  -- FB_EP
  ⟨0xF0510060, [(128, 0x100)], [⟨31, 0, .rw, 0x0, false⟩]⟩,
  -- FERR_MAX
  ⟨0xF0510064, [(128, 0x100)], [⟨31, 0, .rw, 0x0, false⟩]⟩,
  -- FERR
  ⟨0xF0510068, [(128, 0x100)], [⟨31, 0, .ro, 0x0, false⟩]⟩,
  -- STALL_CFG
  ⟨0xF051006C, [(128, 0x100)], [⟨31, 24, .rw, 0x50, true⟩,
    ⟨23, 20, .rw, 0x3, true⟩,
    ⟨17, 10, .rw, 0x0, false⟩,
    ⟨9, 0, .rw, 0x0, false⟩]⟩,
  -- STALL_K
  ⟨0xF0510070, [(128, 0x100)], [⟨31, 16, .rw, 0x0, false⟩,
    ⟨15, 0, .rw, 0x0, false⟩]⟩,
  -- STALL_LIM
  ⟨0xF0510074, [(128, 0x100)], [⟨31, 16, .rw, 0x0, false⟩,
    ⟨15, 0, .rw, 0x0, false⟩]⟩,
  -- STALL_STAT
  ⟨0xF0510078, [(128, 0x100)], [⟨31, 24, .ro, 0x0, false⟩,
    ⟨23, 20, .ro, 0x0, false⟩,
    ⟨15, 0, .ro, 0x0, false⟩]⟩,
  -- MOT_CTRL
  ⟨0xF05100FC, [], [⟨31, 31, .rw, 0x0, false⟩]⟩]

/-- The registers of the ILM block(s). -/
def regsILM : List RegRow := [
  -- ILM_CTRL
  ⟨0xF0080000, [], [⟨31, 31, .rw, 0x0, false⟩,
    ⟨15, 0, .rw, 0x0, false⟩]⟩,
  -- ILM_CMD
  ⟨0xF0080004, [], [⟨31, 24, .wo, 0x0, false⟩,
    ⟨7, 0, .wo, 0x0, false⟩]⟩,
  -- ILM_ARG
  ⟨0xF0080008, [], [⟨9, 9, .rw, 0x0, false⟩,
    ⟨8, 0, .rw, 0x0, false⟩]⟩,
  -- ILM_STAT
  ⟨0xF008000C, [], [⟨31, 31, .ro, 0x0, false⟩,
    ⟨30, 30, .ro, 0x0, false⟩,
    ⟨29, 29, .ro, 0x0, false⟩,
    ⟨23, 16, .ro, 0x0, false⟩,
    ⟨15, 8, .ro, 0x0, false⟩,
    ⟨3, 0, .ro, 0x0, false⟩]⟩,
  -- ILM_ERR
  ⟨0xF0080010, [], [⟨23, 16, .ro, 0x0, false⟩,
    ⟨8, 0, .ro, 0x0, false⟩]⟩,
  -- ILM_LDSTAT
  ⟨0xF0080014, [], [⟨31, 31, .ro, 0x0, false⟩,
    ⟨23, 16, .ro, 0x0, false⟩,
    ⟨15, 8, .ro, 0x0, false⟩]⟩,
  -- ILM_HELD
  ⟨0xF0080020, [(13, 0x4)], [⟨31, 0, .ro, 0x0, false⟩]⟩,
  -- ILM_LATA
  ⟨0xF0080080, [(16, 0x4)], [⟨31, 0, .ro, 0x0, false⟩]⟩,
  -- ILM_LATB
  ⟨0xF00800C0, [(16, 0x4)], [⟨31, 0, .ro, 0x0, false⟩]⟩,
  -- ILM_TRUE
  ⟨0xF0080100, [(16, 0x4)], [⟨31, 0, .ro, 0x0, false⟩]⟩,
  -- ILM_FFILT
  ⟨0xF0080200, [(16, 0x4)], [⟨31, 0, .rw, 0x0, true⟩]⟩,
  -- ILM_IFILT
  ⟨0xF0080240, [(2, 0x4)], [⟨31, 0, .rw, 0x0, true⟩]⟩,
  -- ILM_TERM word 0
  ⟨0xF0081000, [(2, 0x2000), (512, 0x10)], [⟨31, 29, .rw, 0x0, false⟩, ⟨8, 0, .rw, 0x0, false⟩]⟩,
  -- ILM_TERM word 1
  ⟨0xF0081004, [(2, 0x2000), (512, 0x10)], [⟨31, 22, .rw, 0x0, false⟩, ⟨20, 10, .rw, 0x0, false⟩, ⟨8, 0, .rw, 0x0, false⟩]⟩,
  -- ILM_TERM word 2
  ⟨0xF0081008, [(2, 0x2000), (512, 0x10)], [⟨31, 26, .rw, 0x0, false⟩, ⟨24, 14, .rw, 0x0, false⟩, ⟨12, 2, .rw, 0x0, false⟩, ⟨0, 0, .rw, 0x0, false⟩]⟩,
  -- ILM_TERM word 3
  ⟨0xF008100C, [(2, 0x2000), (512, 0x10)], [⟨31, 30, .rw, 0x0, false⟩, ⟨28, 18, .rw, 0x0, false⟩, ⟨16, 6, .rw, 0x0, false⟩, ⟨4, 0, .rw, 0x0, false⟩]⟩]

/-- The registers of the CBUS block(s). -/
def regsCBUS : List RegRow := [
  -- CB_CTRL
  ⟨0xF0090000, [], [⟨31, 31, .rw, 0x0, false⟩,
    ⟨0, 0, .rw, 0x0, false⟩]⟩,
  -- CB_STAT
  ⟨0xF0090004, [], [⟨2, 2, .w1c, 0x0, false⟩,
    ⟨1, 1, .w1c, 0x0, false⟩,
    ⟨0, 0, .w1c, 0x0, false⟩]⟩,
  -- CB_CNT
  ⟨0xF0090008, [], [⟨31, 16, .ro, 0x0, false⟩,
    ⟨15, 0, .ro, 0x0, false⟩]⟩,
  -- CB_FAST
  ⟨0xF0090100, [(64, 0x4)], [⟨31, 0, .rw, 0x0, false⟩]⟩,
  -- CB_MIR
  ⟨0xF0094000, [(4096, 0x4)], [⟨31, 0, .rw, 0xF0000000, false⟩]⟩]

/-- The registers of the REC block(s). -/
def regsREC : List RegRow := [
  -- REC_CTRL
  ⟨0xF00C0000, [], [⟨31, 31, .rw, 0x0, false⟩,
    ⟨15, 0, .rw, 0x64, true⟩]⟩,
  -- REC_SPILLBASE
  ⟨0xF00C0004, [], [⟨13, 0, .rw, 0x0, false⟩]⟩,
  -- REC_SPILLSIZE
  ⟨0xF00C0008, [], [⟨5, 0, .rw, 0x1, false⟩]⟩,
  -- REC_PREBASE
  ⟨0xF00C000C, [], [⟨13, 0, .rw, 0x0, false⟩]⟩,
  -- REC_RATE
  ⟨0xF00C0010, [], [⟨31, 0, .ro, 0x0, false⟩]⟩,
  -- REC_OUTRATE
  ⟨0xF00C0014, [], [⟨31, 0, .ro, 0x0, false⟩]⟩,
  -- REC_SPILLUSE
  ⟨0xF00C0018, [], [⟨6, 0, .ro, 0x0, false⟩]⟩,
  -- REC_LADDER
  ⟨0xF00C001C, [], [⟨31, 16, .ro, 0x0, false⟩,
    ⟨7, 4, .ro, 0x0, false⟩,
    ⟨3, 0, .ro, 0x0, false⟩]⟩,
  -- REC_MODID
  ⟨0xF00C0020, [], [⟨31, 0, .rw, 0x0, false⟩]⟩,
  -- REC_CFGGEN
  ⟨0xF00C0024, [], [⟨31, 0, .ro, 0x0, false⟩]⟩,
  -- UNIT_CFG
  ⟨0xF00C0100, [(16, 0x100)], [⟨31, 31, .rw, 0x0, false⟩,
    ⟨30, 29, .rw, 0x0, false⟩,
    ⟨28, 27, .rw, 0x0, false⟩,
    ⟨26, 26, .rw, 0x0, false⟩,
    ⟨25, 25, .rw, 0x0, false⟩,
    ⟨24, 22, .rw, 0x0, false⟩,
    ⟨6, 0, .rw, 0x0, false⟩]⟩,
  -- UNIT_CMD
  ⟨0xF00C0104, [(16, 0x100)], [⟨31, 24, .wo, 0x0, false⟩,
    ⟨7, 0, .wo, 0x0, false⟩]⟩,
  -- UNIT_STAT
  ⟨0xF00C0108, [(16, 0x100)], [⟨31, 28, .ro, 0x0, false⟩,
    ⟨27, 24, .ro, 0x0, false⟩,
    ⟨23, 16, .ro, 0x0, false⟩]⟩,
  -- PRE_TIME
  ⟨0xF00C010C, [(16, 0x100)], [⟨23, 0, .rw, 0x0, false⟩]⟩,
  -- POST_TIME
  ⟨0xF00C0110, [(16, 0x100)], [⟨23, 0, .rw, 0x0, false⟩]⟩,
  -- UNIT_TMO
  ⟨0xF00C0114, [(16, 0x100)], [⟨31, 16, .rw, 0x64, false⟩,
    ⟨15, 0, .rw, 0x0, false⟩]⟩,
  -- TRIG_EN
  ⟨0xF00C0118, [(16, 0x100)], [⟨31, 31, .rw, 0x0, false⟩,
    ⟨30, 24, .rw, 0x0, false⟩,
    ⟨23, 16, .rw, 0x0, false⟩,
    ⟨14, 0, .rw, 0x0, false⟩]⟩,
  -- MASK_CFG
  ⟨0xF00C0150, [(16, 0x100)], [⟨31, 31, .rw, 0x0, false⟩,
    ⟨24, 15, .rw, 0x0, false⟩,
    ⟨14, 0, .rw, 0x0, false⟩]⟩,
  -- MASK_OFS
  ⟨0xF00C0154, [(16, 0x100)], [⟨31, 0, .rw, 0x0, false⟩]⟩,
  -- MASK_DT
  ⟨0xF00C0158, [(16, 0x100)], [⟨31, 0, .rw, 0x0, false⟩]⟩,
  -- MASK_BASE
  ⟨0xF00C015C, [(16, 0x100)], [⟨31, 0, .rw, 0x0, false⟩]⟩,
  -- UNIT_EVT
  ⟨0xF00C0160, [(16, 0x100)], [⟨15, 0, .rw, 0x0, false⟩]⟩,
  -- DBASE_L
  ⟨0xF00C0164, [(16, 0x100)], [⟨31, 0, .rw, 0x0, false⟩]⟩,
  -- DBASE_H
  ⟨0xF00C0168, [(16, 0x100)], [⟨15, 0, .rw, 0x0, false⟩]⟩,
  -- DLEN
  ⟨0xF00C016C, [(16, 0x100)], [⟨31, 0, .rw, 0x0, false⟩]⟩,
  -- RBASE_L
  ⟨0xF00C0170, [(16, 0x100)], [⟨31, 0, .rw, 0x0, false⟩]⟩,
  -- RBASE_H
  ⟨0xF00C0174, [(16, 0x100)], [⟨15, 0, .rw, 0x0, false⟩]⟩,
  -- RLEN
  ⟨0xF00C0178, [(16, 0x100)], [⟨31, 0, .rw, 0x0, false⟩]⟩,
  -- MISSED_TRIG
  ⟨0xF00C017C, [(16, 0x100)], [⟨31, 0, .ro, 0x0, false⟩]⟩,
  -- RECORDS
  ⟨0xF00C0180, [(16, 0x100)], [⟨31, 0, .ro, 0x0, false⟩]⟩,
  -- SEQ_L
  ⟨0xF00C0184, [(16, 0x100)], [⟨31, 0, .ro, 0x0, false⟩]⟩,
  -- SEQ_H
  ⟨0xF00C0188, [(16, 0x100)], [⟨31, 0, .ro, 0x0, false⟩]⟩,
  -- COND_C
  ⟨0xF00C0120, [(16, 0x100), (4, 0xC)], [⟨31, 31, .rw, 0x0, false⟩,
    ⟨30, 29, .rw, 0x0, false⟩,
    ⟨28, 27, .rw, 0x0, false⟩,
    ⟨9, 0, .rw, 0x0, false⟩]⟩,
  -- COND_L1
  ⟨0xF00C0124, [(16, 0x100), (4, 0xC)], [⟨31, 0, .rw, 0x0, false⟩]⟩,
  -- COND_L2
  ⟨0xF00C0128, [(16, 0x100), (4, 0xC)], [⟨31, 0, .rw, 0x0, false⟩]⟩,
  -- REC_SSRC
  ⟨0xF00C2000, [(1024, 0x8)], [⟨31, 0, .rw, 0x0, false⟩]⟩,
  -- REC_SCFG
  ⟨0xF00C2004, [(1024, 0x8)], [⟨31, 31, .rw, 0x0, false⟩,
    ⟨30, 27, .rw, 0x0, false⟩,
    ⟨26, 24, .rw, 0x0, false⟩,
    ⟨23, 22, .rw, 0x0, false⟩,
    ⟨21, 18, .rw, 0x0, false⟩,
    ⟨17, 14, .ro, 0x0, false⟩,
    ⟨13, 13, .ro, 0x0, false⟩,
    ⟨12, 7, .rw, 0x0, false⟩]⟩]

/-- The registers of the PCIE block(s). -/
def regsPCIE : List RegRow := [
  -- PCIE_CTRL
  ⟨0xF0120000, [], [⟨31, 31, .rw, 0x0, false⟩,
    ⟨2, 2, .rw, 0x1, true⟩,
    ⟨0, 0, .rw, 0x1, false⟩]⟩,
  -- PCIE_STAT
  ⟨0xF0120004, [], [⟨11, 8, .ro, 0x0, false⟩,
    ⟨4, 4, .ro, 0x0, false⟩,
    ⟨3, 3, .ro, 0x0, false⟩,
    ⟨1, 1, .ro, 0x0, false⟩,
    ⟨0, 0, .ro, 0x0, false⟩]⟩,
  -- PCIE_CMD
  ⟨0xF0120008, [], [⟨31, 24, .wo, 0x0, false⟩,
    ⟨7, 0, .wo, 0x0, false⟩]⟩,
  -- NVME_NSID
  ⟨0xF012000C, [], [⟨31, 0, .rw, 0x1, false⟩]⟩,
  -- NVME_CNT
  ⟨0xF0120010, [], [⟨31, 16, .ro, 0x0, false⟩,
    ⟨15, 0, .ro, 0x0, false⟩]⟩]

/-- The registers of the TIME block(s). -/
def regsTIME : List RegRow := [
  -- TIME_CTRL
  ⟨0xF0070000, [], [⟨31, 31, .rw, 0x0, false⟩,
    ⟨23, 8, .rw, 0x3E8, true⟩,
    ⟨7, 2, .rw, 0x32, true⟩]⟩,
  -- TIME_SEL
  ⟨0xF0070004, [], [⟨23, 16, .rw, 0xA, false⟩,
    ⟨3, 3, .rw, 0x1, false⟩,
    ⟨2, 2, .rw, 0x1, false⟩,
    ⟨1, 0, .rw, 0x0, false⟩]⟩,
  -- TIME_CMD
  ⟨0xF0070008, [], [⟨31, 24, .wo, 0x0, false⟩,
    ⟨9, 8, .wo, 0x0, false⟩,
    ⟨7, 0, .wo, 0x0, false⟩]⟩,
  -- TIME_STAT
  ⟨0xF007000C, [], [⟨31, 28, .ro, 0x0, false⟩,
    ⟨27, 20, .ro, 0x0, false⟩,
    ⟨9, 8, .ro, 0x2, false⟩,
    ⟨7, 7, .ro, 0x0, false⟩,
    ⟨6, 6, .ro, 0x0, false⟩,
    ⟨5, 5, .w1c, 0x0, false⟩,
    ⟨4, 2, .ro, 0x0, false⟩]⟩,
  -- TIME_RES_L
  ⟨0xF0070010, [], [⟨31, 0, .ro, 0x0, false⟩]⟩,
  -- TIME_RES_H
  ⟨0xF0070014, [], [⟨31, 0, .ro, 0x0, false⟩]⟩,
  -- SNAP_TBC_L
  ⟨0xF0070020, [], [⟨31, 0, .ro, 0x0, false⟩]⟩,
  -- SNAP_TBC_H
  ⟨0xF0070024, [], [⟨31, 0, .ro, 0x0, false⟩]⟩,
  -- SNAP_OT_L
  ⟨0xF0070028, [], [⟨31, 0, .ro, 0x0, false⟩]⟩,
  -- SNAP_OT_H
  ⟨0xF007002C, [], [⟨31, 0, .ro, 0x0, false⟩]⟩,
  -- SNAP_D0_L
  ⟨0xF0070030, [], [⟨31, 0, .ro, 0x0, false⟩]⟩,
  -- SNAP_D0_H
  ⟨0xF0070034, [], [⟨31, 0, .ro, 0x0, false⟩]⟩,
  -- SNAP_D1_L
  ⟨0xF0070038, [], [⟨31, 0, .ro, 0x0, false⟩]⟩,
  -- SNAP_D1_H
  ⟨0xF007003C, [], [⟨31, 0, .ro, 0x0, false⟩]⟩,
  -- SNAP_DL_L
  ⟨0xF0070040, [], [⟨31, 0, .ro, 0x0, false⟩]⟩,
  -- SNAP_DL_H
  ⟨0xF0070044, [], [⟨31, 0, .ro, 0x0, false⟩]⟩,
  -- DOM_CFG
  ⟨0xF0070100, [(3, 0x40)], [⟨31, 30, .rw, 0x0, false⟩,
    ⟨29, 29, .rw, 0x0, false⟩,
    ⟨23, 16, .rw, 0x0, false⟩,
    ⟨15, 14, .rw, 0x0, false⟩,
    ⟨13, 13, .rw, 0x0, false⟩,
    ⟨12, 12, .rw, 0x0, false⟩]⟩,
  -- DOM_STAT
  ⟨0xF0070104, [(3, 0x40)], [⟨31, 28, .ro, 0x0, false⟩,
    ⟨27, 27, .ro, 0x0, false⟩,
    ⟨26, 16, .ro, 0x0, false⟩,
    ⟨15, 8, .ro, 0x0, false⟩,
    ⟨7, 0, .ro, 0x0, false⟩]⟩,
  -- DOM_OFS_L
  ⟨0xF0070108, [(3, 0x40)], [⟨31, 0, .rw, 0x0, false⟩]⟩,
  -- DOM_OFS_H
  ⟨0xF007010C, [(3, 0x40)], [⟨31, 0, .rw, 0x0, false⟩]⟩,
  -- DOM_OFSF
  ⟨0xF0070110, [(3, 0x40)], [⟨31, 0, .rw, 0x0, false⟩]⟩,
  -- DOM_ANC_L
  ⟨0xF0070114, [(3, 0x40)], [⟨31, 0, .rw, 0x0, false⟩]⟩,
  -- DOM_ANC_H
  ⟨0xF0070118, [(3, 0x40)], [⟨31, 0, .rw, 0x0, false⟩]⟩,
  -- DOM_RATE
  ⟨0xF007011C, [(3, 0x40)], [⟨31, 0, .rw, 0x0, false⟩]⟩,
  -- DOM_K_L
  ⟨0xF0070120, [(3, 0x40)], [⟨31, 0, .rw, 0x0, false⟩]⟩,
  -- DOM_K_H
  ⟨0xF0070124, [(3, 0x40)], [⟨31, 0, .rw, 0x0, false⟩]⟩,
  -- DOM_DELTA_L
  ⟨0xF0070128, [(3, 0x40)], [⟨31, 0, .rw, 0x0, false⟩]⟩,
  -- DOM_DELTA_H
  ⟨0xF007012C, [(3, 0x40)], [⟨31, 0, .rw, 0x0, false⟩]⟩,
  -- DOM_UPD
  ⟨0xF0070130, [(3, 0x40)], [⟨1, 0, .wo, 0x0, false⟩]⟩,
  -- DOM_JSTEP_L
  ⟨0xF0070134, [(3, 0x40)], [⟨31, 0, .ro, 0x0, false⟩]⟩,
  -- DOM_JSTEP_H
  ⟨0xF0070138, [(3, 0x40)], [⟨31, 0, .ro, 0x0, false⟩]⟩,
  -- DOM_LIM
  ⟨0xF007013C, [(3, 0x40)], [⟨31, 22, .rw, 0x3C, true⟩,
    ⟨21, 12, .rw, 0x64, true⟩,
    ⟨11, 0, .rw, 0x64, true⟩]⟩,
  -- TS_TX
  ⟨0xF0070300, [(2, 0x10)], [⟨31, 0, .rw, 0x0, false⟩]⟩,
  -- TS_RX
  ⟨0xF0070304, [(2, 0x10)], [⟨31, 0, .rw, 0x0, false⟩]⟩,
  -- TS_ASYM
  ⟨0xF0070308, [(2, 0x10)], [⟨31, 0, .rw, 0x0, false⟩]⟩,
  -- TSO_CFG
  ⟨0xF0070400, [(8, 0x20)], [⟨31, 31, .rw, 0x0, false⟩,
    ⟨30, 30, .rw, 0x0, false⟩,
    ⟨29, 29, .rw, 0x0, false⟩]⟩,
  -- TSO_START_L
  ⟨0xF0070404, [(8, 0x20)], [⟨31, 0, .rw, 0x0, false⟩]⟩,
  -- TSO_START_H
  ⟨0xF0070408, [(8, 0x20)], [⟨31, 0, .rw, 0x0, false⟩]⟩,
  -- TSO_PER
  ⟨0xF007040C, [(8, 0x20)], [⟨31, 0, .rw, 0x0, false⟩]⟩,
  -- TSO_WIDTH
  ⟨0xF0070410, [(8, 0x20)], [⟨31, 0, .rw, 0x0, false⟩]⟩,
  -- TSO_IDX
  ⟨0xF0070414, [(8, 0x20)], [⟨31, 0, .ro, 0x0, false⟩]⟩,
  -- TSO_MISS
  ⟨0xF0070418, [(8, 0x20)], [⟨31, 0, .ro, 0x0, false⟩]⟩]

/-- The registers of the SL block(s). -/
def regsSL : List RegRow := [
  -- SL_CTRL
  ⟨0xF0300000, [(16, 0x10000)], [⟨31, 31, .rw, 0x0, false⟩,
    ⟨30, 30, .rw, 0x0, false⟩,
    ⟨29, 28, .rw, 0x0, false⟩,
    ⟨27, 27, .rw, 0x0, false⟩]⟩,
  -- SL_CYC
  ⟨0xF0300004, [(16, 0x10000)], [⟨17, 0, .rw, 0x7D0, false⟩]⟩,
  -- SL_PHASE
  ⟨0xF0300008, [(16, 0x10000)], [⟨17, 0, .rw, 0x0, false⟩]⟩,
  -- SL_TIM
  ⟨0xF030000C, [(16, 0x10000)], [⟨7, 0, .rw, 0x5, true⟩]⟩,
  -- SL_COMMIT
  ⟨0xF0300010, [(16, 0x10000)], [⟨17, 0, .rw, 0x0, true⟩]⟩,
  -- SL_RX
  ⟨0xF0300014, [(16, 0x10000)], [⟨17, 0, .rw, 0x0, true⟩]⟩,
  -- SL_MISS
  ⟨0xF0300018, [(16, 0x10000)], [⟨15, 8, .rw, 0x8, false⟩,
    ⟨7, 0, .rw, 0x3, false⟩]⟩,
  -- SL_STBASE
  ⟨0xF030001C, [(16, 0x10000)], [⟨31, 23, .rw, 0x0, false⟩,
    ⟨13, 0, .rw, 0x0, false⟩]⟩,
  -- SL_ETYPE
  ⟨0xF0300020, [(16, 0x10000)], [⟨15, 0, .rw, 0x88B5, true⟩]⟩,
  -- SL_STAT
  ⟨0xF0300024, [(16, 0x10000)], [⟨31, 28, .ro, 0x0, false⟩,
    ⟨27, 19, .ro, 0x0, false⟩,
    ⟨11, 8, .ro, 0x0, false⟩,
    ⟨3, 3, .ro, 0x0, false⟩,
    ⟨2, 2, .ro, 0x0, false⟩,
    ⟨1, 1, .ro, 0x0, false⟩,
    ⟨0, 0, .ro, 0x0, false⟩]⟩,
  -- SL_CNT
  ⟨0xF0300028, [(16, 0x10000)], [⟨31, 16, .ro, 0x0, false⟩,
    ⟨15, 0, .ro, 0x0, false⟩]⟩,
  -- SL_MBXBUF
  ⟨0xF030002C, [(16, 0x10000)], [⟨31, 31, .rw, 0x0, false⟩,
    ⟨25, 0, .rw, 0x0, false⟩]⟩,
  -- SL_MBXREQ
  ⟨0xF0300030, [(16, 0x10000)], [⟨31, 31, .wo, 0x0, false⟩,
    ⟨30, 23, .wo, 0x0, false⟩,
    ⟨20, 13, .wo, 0x0, false⟩,
    ⟨12, 0, .wo, 0x0, false⟩]⟩,
  -- SL_MBXSTAT
  ⟨0xF0300034, [(16, 0x10000)], [⟨31, 24, .ro, 0x0, false⟩,
    ⟨20, 16, .ro, 0x0, false⟩,
    ⟨0, 0, .w1c, 0x0, false⟩]⟩,
  -- SL_MBXEVT
  ⟨0xF0300038, [(16, 0x10000)], [⟨31, 31, .rw, 0x0, false⟩,
    ⟨15, 0, .rw, 0x0, false⟩]⟩,
  -- SL_ONLINE
  ⟨0xF0300040, [(16, 0x10000), (8, 0x4)], [⟨31, 0, .ro, 0x0, false⟩]⟩,
  -- SL_DIRBASE
  ⟨0xF0300060, [], [⟨13, 0, .rw, 0x0, false⟩]⟩]

/-- The registers of the HOST block(s). -/
def regsHOST : List RegRow := [
  -- HOST_CTRL
  ⟨0xF00E0000, [], [⟨31, 31, .rw, 0x0, false⟩,
    ⟨30, 30, .rw, 0x1, false⟩,
    ⟨29, 28, .rw, 0x0, false⟩,
    ⟨15, 0, .rw, 0xB810, false⟩]⟩,
  -- HOST_STAT
  ⟨0xF00E0004, [], [⟨3, 0, .ro, 0x0, false⟩]⟩,
  -- HOST_CNT0
  ⟨0xF00E0008, [], [⟨31, 16, .ro, 0x0, false⟩,
    ⟨15, 0, .ro, 0x0, false⟩]⟩,
  -- HOST_CNT1
  ⟨0xF00E000C, [], [⟨31, 16, .ro, 0x0, false⟩,
    ⟨15, 0, .ro, 0x0, false⟩]⟩,
  -- HOST_TRACE
  ⟨0xF00E0010, [], [⟨15, 8, .rw, 0x10, true⟩,
    ⟨7, 0, .rw, 0x32, true⟩]⟩]

/-- The registers of the NET block(s). -/
def regsNET : List RegRow := [
  -- NET_CTRL
  ⟨0xF0100000, [(2, 0x10000)], [⟨31, 31, .rw, 0x0, false⟩,
    ⟨30, 30, .rw, 0x1, false⟩,
    ⟨29, 28, .rw, 0x0, false⟩,
    ⟨12, 12, .rw, 0x0, false⟩,
    ⟨11, 0, .rw, 0x0, false⟩]⟩,
  -- NET_STAT
  ⟨0xF0100004, [(2, 0x10000)], [⟨1, 1, .ro, 0x0, false⟩,
    ⟨0, 0, .ro, 0x0, false⟩]⟩,
  -- NET_MAC_L
  ⟨0xF0100008, [(2, 0x10000)], [⟨31, 0, .rw, 0x0, false⟩]⟩,
  -- NET_MAC_H
  ⟨0xF010000C, [(2, 0x10000)], [⟨15, 0, .rw, 0x0, false⟩]⟩,
  -- NET_IP4
  ⟨0xF0100010, [(2, 0x10000)], [⟨31, 0, .rw, 0x0, false⟩]⟩,
  -- NET_IP4MASK
  ⟨0xF0100014, [(2, 0x10000)], [⟨31, 0, .rw, 0x0, false⟩]⟩,
  -- NET_IP4GW
  ⟨0xF0100018, [(2, 0x10000)], [⟨31, 0, .rw, 0x0, false⟩]⟩]

/-- The registers of the CAN block(s). -/
def regsCAN : List RegRow := [
  -- CAN_CTRL
  ⟨0xF0200000, [(8, 0x10000)], [⟨31, 31, .rw, 0x0, false⟩,
    ⟨30, 29, .rw, 0x0, false⟩,
    ⟨28, 28, .rw, 0x0, false⟩,
    ⟨23, 16, .rw, 0x10, true⟩,
    ⟨15, 0, .rw, 0x0, false⟩]⟩,
  -- CAN_NBT
  ⟨0xF0200004, [(8, 0x10000)], [⟨30, 23, .rw, 0x0, false⟩,
    ⟨22, 15, .rw, 0x0, false⟩,
    ⟨14, 8, .rw, 0x0, false⟩,
    ⟨6, 0, .rw, 0x0, false⟩]⟩,
  -- CAN_DBT
  ⟨0xF0200008, [(8, 0x10000)], [⟨31, 27, .rw, 0x0, false⟩,
    ⟨26, 22, .rw, 0x0, false⟩,
    ⟨21, 18, .rw, 0x0, false⟩,
    ⟨17, 14, .rw, 0x0, false⟩,
    ⟨13, 7, .rw, 0x0, false⟩]⟩,
  -- CAN_STAT
  ⟨0xF020000C, [(8, 0x10000)], [⟨31, 28, .ro, 0x0, false⟩,
    ⟨27, 24, .ro, 0x0, false⟩,
    ⟨23, 16, .ro, 0x0, false⟩,
    ⟨15, 7, .ro, 0x0, false⟩]⟩,
  -- CAN_CMD
  ⟨0xF0200010, [(8, 0x10000)], [⟨31, 24, .wo, 0x0, false⟩,
    ⟨7, 0, .wo, 0x0, false⟩]⟩,
  -- CAN_CNT
  ⟨0xF0200014, [(8, 0x10000)], [⟨31, 16, .ro, 0x0, false⟩,
    ⟨15, 0, .ro, 0x0, false⟩]⟩,
  -- CAN_CVBASE
  ⟨0xF0200018, [(8, 0x10000)], [⟨21, 0, .rw, 0x0, false⟩]⟩,
  -- CAN_FIFOBASE
  ⟨0xF020001C, [(8, 0x10000)], [⟨31, 0, .rw, 0x0, false⟩]⟩,
  -- CAN_FIFOPTR
  ⟨0xF0200020, [(8, 0x10000)], [⟨25, 25, .ro, 0x0, false⟩,
    ⟨24, 24, .w1c, 0x0, false⟩,
    ⟨23, 16, .ro, 0x0, false⟩,
    ⟨7, 0, .rw, 0x0, false⟩]⟩,
  -- CAN_FIFOEVT
  ⟨0xF0200024, [(8, 0x10000)], [⟨31, 31, .rw, 0x0, false⟩,
    ⟨15, 0, .rw, 0x0, false⟩]⟩,
  -- CAN_HPSTAT
  ⟨0xF0200028, [(8, 0x10000)], [⟨31, 31, .rw, 0x0, false⟩,
    ⟨30, 30, .w1s, 0x0, false⟩,
    ⟨29, 29, .w1c, 0x0, false⟩,
    ⟨28, 26, .ro, 0x0, false⟩,
    ⟨19, 16, .ro, 0x0, false⟩,
    ⟨15, 0, .rw, 0x0, false⟩]⟩,
  -- ABD_CFG
  ⟨0xF0200030, [(8, 0x10000)], [⟨19, 16, .rw, 0x3, true⟩,
    ⟨15, 0, .rw, 0x3E8, true⟩]⟩,
  -- ABD_STAT
  ⟨0xF0200034, [(8, 0x10000)], [⟨31, 31, .ro, 0x0, false⟩,
    ⟨19, 16, .ro, 0x0, false⟩,
    ⟨15, 0, .rw, 0x0, false⟩]⟩,
  -- HP_ENTRY
  ⟨0xF0200100, [(8, 0x10000), (20, 0x4)], [⟨31, 0, .ro, 0x0, false⟩]⟩,
  -- CAN_ABDN
  ⟨0xF0200300, [(8, 0x10000), (16, 0x8)], [⟨31, 31, .rw, 0x0, false⟩,
    ⟨30, 23, .rw, 0x0, false⟩,
    ⟨22, 15, .rw, 0x0, false⟩,
    ⟨14, 8, .rw, 0x0, false⟩,
    ⟨6, 0, .rw, 0x0, false⟩]⟩,
  -- CAN_ABDD
  ⟨0xF0200304, [(8, 0x10000), (16, 0x8)], [⟨31, 27, .rw, 0x0, false⟩,
    ⟨26, 22, .rw, 0x0, false⟩,
    ⟨21, 18, .rw, 0x0, false⟩,
    ⟨17, 14, .rw, 0x0, false⟩,
    ⟨13, 7, .rw, 0x0, false⟩]⟩,
  -- CANSUP_CTRL
  ⟨0xF0200800, [], [⟨31, 24, .rw, 0x0, false⟩,
    ⟨19, 16, .rw, 0x4, false⟩,
    ⟨15, 0, .rw, 0x3C, false⟩]⟩,
  -- CANSUP_STAT
  ⟨0xF0200804, [], [⟨7, 0, .w1c, 0x0, false⟩]⟩,
  -- CANSUP_CNT
  ⟨0xF0200810, [(8, 0x4)], [⟨31, 0, .ro, 0x0, false⟩]⟩,
  -- OBJ_CFG
  ⟨0xF0201000, [(8, 0x10000), (256, 0x20)], [⟨31, 31, .rw, 0x0, false⟩,
    ⟨30, 29, .rw, 0x0, false⟩,
    ⟨28, 27, .rw, 0x0, false⟩,
    ⟨26, 26, .rw, 0x0, false⟩,
    ⟨25, 25, .rw, 0x0, false⟩]⟩,
  -- OBJ_ID
  ⟨0xF0201004, [(8, 0x10000), (256, 0x20)], [⟨29, 29, .rw, 0x0, false⟩,
    ⟨28, 0, .rw, 0x0, false⟩]⟩,
  -- OBJ_MASK
  ⟨0xF0201008, [(8, 0x10000), (256, 0x20)], [⟨28, 0, .rw, 0x1FFFFFFF, false⟩]⟩,
  -- OBJ_AUX
  ⟨0xF020100C, [(8, 0x10000), (256, 0x20)], [⟨15, 0, .rw, 0x0, false⟩]⟩,
  -- OBJ_STAT
  ⟨0xF0201010, [(8, 0x10000), (256, 0x20)], [⟨31, 24, .ro, 0x0, false⟩,
    ⟨7, 7, .w1s, 0x0, false⟩,
    ⟨6, 6, .w1c, 0x0, false⟩,
    ⟨3, 0, .ro, 0x0, false⟩]⟩]

/-- The registers of the SAFE block(s). -/
def regsSAFE : List RegRow := [
  -- SAFE_CTRL
  ⟨0xF00B0000, [], [⟨31, 31, .rw, 0x0, false⟩]⟩,
  -- SAFE_STAT
  ⟨0xF00B0004, [], [⟨31, 30, .ro, 0x0, false⟩,
    ⟨27, 24, .ro, 0x0, false⟩,
    ⟨23, 16, .ro, 0x0, false⟩,
    ⟨15, 8, .ro, 0x0, false⟩,
    ⟨6, 4, .ro, 0x0, false⟩,
    ⟨2, 2, .ro, 0x0, false⟩,
    ⟨0, 0, .ro, 0x0, false⟩]⟩,
  -- SAFE_REQ
  ⟨0xF00B0008, [], [⟨7, 0, .rw, 0x0, false⟩]⟩,
  -- SAFE_OUT
  ⟨0xF00B000C, [], [⟨31, 24, .ro, 0x0, false⟩,
    ⟨23, 16, .ro, 0x0, false⟩,
    ⟨15, 8, .ro, 0x0, false⟩,
    ⟨7, 0, .ro, 0x0, false⟩]⟩,
  -- SAFE_CHECK
  ⟨0xF00B0010, [], [⟨31, 0, .ro, 0x0, false⟩]⟩,
  -- SAFE_ACTIVE
  ⟨0xF00B0014, [], [⟨31, 0, .ro, 0x0, false⟩]⟩,
  -- SAFE_CONFIRM
  ⟨0xF00B0018, [], [⟨31, 0, .wo, 0x0, false⟩]⟩,
  -- SAFE_CMD
  ⟨0xF00B001C, [], [⟨31, 24, .wo, 0x0, false⟩,
    ⟨10, 8, .wo, 0x0, false⟩,
    ⟨7, 0, .wo, 0x0, false⟩]⟩,
  -- SAFE_CMDSTAT
  ⟨0xF00B0020, [], [⟨31, 24, .ro, 0x0, false⟩,
    ⟨15, 4, .ro, 0x0, false⟩,
    ⟨3, 0, .ro, 0x0, false⟩]⟩,
  -- SAFE_RST
  ⟨0xF00B0024, [], [⟨31, 16, .ro, 0x0, false⟩,
    ⟨15, 8, .ro, 0x0, false⟩,
    ⟨3, 0, .ro, 0x0, false⟩]⟩,
  -- SAFE_TEST
  ⟨0xF00B0028, [], [⟨31, 24, .w1c, 0x0, false⟩,
    ⟨15, 0, .ro, 0x0, false⟩]⟩,
  -- SAFE_BHT
  ⟨0xF00B002C, [], [⟨31, 24, .ro, 0x0, false⟩,
    ⟨23, 16, .ro, 0x0, false⟩,
    ⟨12, 12, .ro, 0x0, false⟩,
    ⟨10, 8, .ro, 0x0, false⟩,
    ⟨1, 0, .ro, 0x0, false⟩]⟩,
  -- SAFE_BHTDEV
  ⟨0xF00B0030, [], [⟨31, 0, .ro, 0x0, false⟩]⟩,
  -- SAFE_PEND
  ⟨0xF00B0800, [(512, 0x4)], [⟨31, 0, .rw, 0x0, false⟩]⟩,
  -- SAFE_BLOCK
  ⟨0xF00B1000, [(512, 0x4)], [⟨31, 0, .ro, 0x0, false⟩]⟩]

/-- The registers of the FLT block(s). -/
def regsFLT : List RegRow := [
  -- FLT_CTRL
  ⟨0xF0030000, [], [⟨31, 31, .rw, 0x0, false⟩,
    ⟨2, 0, .rw, 0x2, false⟩]⟩,
  -- FLT_STAT
  ⟨0xF0030004, [], [⟨31, 29, .ro, 0x0, false⟩,
    ⟨28, 28, .ro, 0x0, false⟩,
    ⟨9, 0, .ro, 0x0, false⟩]⟩,
  -- FLT_CMD
  ⟨0xF0030008, [], [⟨31, 24, .wo, 0x0, false⟩,
    ⟨7, 0, .wo, 0x0, false⟩]⟩,
  -- FLT_CMDSTAT
  ⟨0xF003000C, [], [⟨31, 24, .ro, 0x0, false⟩,
    ⟨4, 4, .ro, 0x0, false⟩,
    ⟨3, 0, .ro, 0x0, false⟩]⟩,
  -- FLT_ARG
  ⟨0xF0030010, [], [⟨8, 0, .rw, 0x0, false⟩]⟩,
  -- FLT_INJ
  ⟨0xF0030014, [], [⟨31, 29, .rw, 0x0, true⟩,
    ⟨28, 27, .rw, 0x1, true⟩,
    ⟨7, 0, .rw, 0x0, true⟩]⟩,
  -- FLT_INJADDR_L
  ⟨0xF0030018, [], [⟨31, 0, .rw, 0x0, true⟩]⟩,
  -- FLT_INJADDR_H
  ⟨0xF003001C, [], [⟨7, 0, .rw, 0x0, true⟩]⟩,
  -- FLT_UNDO
  ⟨0xF0030020, [], [⟨31, 16, .ro, 0x0, false⟩,
    ⟨15, 0, .ro, 0x0, false⟩]⟩,
  -- FLT_PEND
  ⟨0xF0030040, [(16, 0x4)], [⟨31, 0, .ro, 0x0, false⟩]⟩,
  -- FLT_CFG0
  ⟨0xF0031000, [(512, 0x10)], [⟨31, 31, .rw, 0x0, false⟩,
    ⟨30, 25, .rw, 0x0, false⟩,
    ⟨19, 16, .rw, 0x8, true⟩,
    ⟨10, 8, .ro, 0x0, false⟩,
    ⟨2, 0, .rw, 0x0, false⟩]⟩,
  -- FLT_CFG1
  ⟨0xF0031004, [(512, 0x10)], [⟨31, 16, .rw, 0x3C, true⟩,
    ⟨15, 0, .rw, 0xA, false⟩]⟩,
  -- FLT_SSTAT
  ⟨0xF0031008, [(512, 0x10)], [⟨31, 31, .ro, 0x0, false⟩,
    ⟨30, 30, .ro, 0x0, false⟩,
    ⟨29, 29, .ro, 0x0, false⟩,
    ⟨28, 28, .ro, 0x0, false⟩,
    ⟨27, 27, .ro, 0x0, false⟩,
    ⟨26, 24, .ro, 0x0, false⟩,
    ⟨11, 0, .ro, 0x0, false⟩]⟩,
  -- FLT_CNT
  ⟨0xF003100C, [(512, 0x10)], [⟨31, 16, .rws, 0x0, false⟩,
    ⟨15, 0, .rws, 0x0, false⟩]⟩]

/-- The registers of the EVL block(s). -/
def regsEVL : List RegRow := [
  -- EVL_CTRL
  ⟨0xF0040000, [], [⟨31, 31, .rw, 0x0, false⟩]⟩,
  -- EVL_STAT
  ⟨0xF0040004, [], [⟨13, 0, .ro, 0x0, false⟩]⟩,
  -- EVL_SEQ
  ⟨0xF0040008, [], [⟨31, 0, .ro, 0x0, false⟩]⟩,
  -- EVL_CMD
  ⟨0xF0040018, [], [⟨31, 24, .wo, 0x0, false⟩,
    ⟨19, 8, .wo, 0x0, false⟩,
    ⟨7, 0, .wo, 0x0, false⟩]⟩,
  -- EVL_CMDSTAT
  ⟨0xF004001C, [], [⟨31, 24, .ro, 0x0, false⟩,
    ⟨3, 0, .ro, 0x0, false⟩]⟩,
  -- EVL_WARG0
  ⟨0xF0040020, [], [⟨31, 0, .rw, 0x0, false⟩]⟩,
  -- EVL_WARG1
  ⟨0xF0040024, [], [⟨15, 0, .rw, 0x0, false⟩]⟩,
  -- EVL_RDSEL
  ⟨0xF0040030, [], [⟨12, 0, .rw, 0x0, false⟩]⟩,
  -- VAULT_OPT_L
  ⟨0xF0040100, [], [⟨31, 0, .ro, 0x0, false⟩]⟩,
  -- VAULT_OPT_H
  ⟨0xF0040104, [], [⟨7, 0, .ro, 0x0, false⟩]⟩,
  -- VAULT_PCYC
  ⟨0xF0040108, [], [⟨23, 0, .ro, 0x0, false⟩]⟩,
  -- VAULT_TAMP
  ⟨0xF004010C, [], [⟨2, 0, .ro, 0x0, false⟩]⟩,
  -- VAULT_CMD
  ⟨0xF0040110, [], [⟨31, 24, .wo, 0x0, false⟩,
    ⟨7, 0, .wo, 0x0, false⟩]⟩,
  -- EVL_DROP
  ⟨0xF004000C, [(3, 0x4)], [⟨31, 16, .rws, 0x0, false⟩,
    ⟨15, 0, .rws, 0x0, false⟩]⟩,
  -- EVL_REC
  ⟨0xF0040040, [(8, 0x4)], [⟨31, 0, .ro, 0x0, false⟩]⟩,
  -- VAULT_RAM
  ⟨0xF0040180, [(24, 0x4)], [⟨31, 0, .rw, 0x0, false⟩]⟩,
  -- EVL_CODE
  ⟨0xF0044000, [(4096, 0x4)], [⟨31, 31, .rw, 0x1, false⟩,
    ⟨10, 8, .rw, 0x1, false⟩,
    ⟨7, 4, .rw, 0xF, true⟩,
    ⟨3, 0, .rw, 0x0, true⟩]⟩]

/-- The registers of the SEC block(s). -/
def regsSEC : List RegRow := [
  -- SEC_CTRL
  ⟨0xF0020000, [], [⟨31, 31, .rw, 0x0, false⟩]⟩,
  -- SEC_STAT
  ⟨0xF0020004, [], [⟨15, 12, .ro, 0x0, false⟩,
    ⟨7, 4, .ro, 0x0, false⟩,
    ⟨3, 0, .ro, 0x0, false⟩]⟩,
  -- SEC_CMD
  ⟨0xF0020008, [], [⟨31, 24, .wo, 0x0, false⟩,
    ⟨10, 8, .wo, 0x0, false⟩,
    ⟨7, 0, .wo, 0x0, false⟩]⟩,
  -- SEC_CMDSTAT
  ⟨0xF002000C, [], [⟨31, 24, .ro, 0x0, false⟩,
    ⟨3, 0, .ro, 0x0, false⟩]⟩,
  -- SEC_NONCE
  ⟨0xF0020020, [(8, 0x4)], [⟨31, 0, .rw, 0x0, false⟩]⟩,
  -- SEC_ARB
  ⟨0xF0020100, [(64, 0x4)], [⟨6, 0, .ro, 0x0, false⟩]⟩,
  -- SEC_REPORT
  ⟨0xF0020400, [(152, 0x4)], [⟨31, 0, .ro, 0x0, false⟩]⟩,
  -- SEC_CERT
  ⟨0xF0020800, [(128, 0x4)], [⟨31, 0, .ro, 0x0, false⟩]⟩]

end Sys2Proof.Machine
end

