-- ==== Sys2Proof/Machine/State.lean ====
section
/-!
DEFINITION. The state of the block: the register file, the memories, and everything the manual gives the
device that no register shows, unit by unit. Plain data; tables keep one canonical form (`Tbl`).
-/

set_option Elab.async false

namespace Sys2Proof.Machine

/-- Reasons for which the machine stops. No command of this block stops it: every access has an effect (R6,
R49) and every refusal is a result code. -/
inductive Fault where
  /-- Never raised; kept so that the type is a closed name list. Safe. -/
  | none
deriving DecidableEq, Repr

/-- Commands without a meaning. -/
inductive Refusal where
  /-- Raised by `exec` alone, for a row that has no meaning yet. Safe. -/
  | notModelled (mnemonic : String)
deriving DecidableEq, Repr
/-! ### Time (14) -/

/-- A staged domain update on its way to its commit tick (R427). Offsets in 2^-32 ns, DELTA in ns. -/
structure DomUpdate where
  /-- 1 SET, 2 RATE, 3 STEP. -/
  kind : Nat := 0
  ofs : Int := 0
  anc : Nat := 0
  rate : Int := 0
  delta : Int := 0
  /-- TBC count of the commit tick. -/
  due : Nat := 0
deriving DecidableEq, Repr

/-- A domain D0, D1 or DL: the values its time is read with (R426), its pending updates, and what its PTP
instance remembers (R428, R430, R431). -/
structure Domain where
  /-- OFS in 2^-32 ns. -/
  ofs : Int := 0
  /-- ANC, a TBC count. -/
  anc : Nat := 0
  /-- RATE in 2^-40. -/
  rate : Int := 0
  /-- Updates written and not yet committed, oldest first. -/
  updates : List DomUpdate := []
  /-- Sync measurements in a row within LOCK_NS. -/
  locks : Nat := 0
  /-- TBC count of the last valid Sync. -/
  lastSync : Nat := 0
  /-- TBC count at which HOLDOVER was entered. -/
  holdSince : Nat := 0
  /-- TBC count since which the domain has been LOCKED without a break (R435). -/
  lockedSince : Nat := 0
  /-- DL only: software has committed a SET (R429). -/
  softSet : Bool := false
  /-- The selected master's identity, if any. -/
  master : Option Nat := none
  /-- The selected master's rank: the smaller is the better. -/
  rank : Nat := 0
  /-- logSyncInterval of the master. -/
  syncLog : Int := 0
  /-- TBC count of the last Announce of the selected master. -/
  lastAnnounce : Nat := 0
  /-- Announce receipt timeout in TBC counts. -/
  announceTmo : Nat := 0
  /-- A two-step Sync that waits for its Follow_Up: sequence, receive time (2^-32 ns), correction (2^-32 ns). -/
  syncWait : Option (Nat × Int × Int) := none
  /-- Time from the last Sync, for the end-to-end delay: t2 − t1 in 2^-32 ns. -/
  syncDiff : Int := 0
  /-- A Delay_Req or Pdelay_Req sent and not answered: sequence and transmit time (2^-32 ns). -/
  delayReq : Option (Nat × Int) := none
  /-- meanPathDelay in 2^-32 ns. -/
  pathDelay : Int := 0
  /-- Sequence number of the next request sent. -/
  reqSeq : Nat := 0
  /-- Refused steps taken into K since the exclusion, in ns (R440). -/
  absorbed : Int := 0
deriving DecidableEq, Repr

/-- A pulse output TSO t (R441 to R443). -/
structure Tso where
  /-- Index of the next pulse to fire, once chosen. -/
  next : Option Nat := none
  /-- TBC count at which the pulse in progress ends. -/
  endsAt : Option Nat := none
  /-- A pulse has fired since EN. -/
  fired : Bool := false
deriving DecidableEq, Repr

/-- The time engine beside its registers. -/
structure TimeU where
  doms : Tbl Domain := []
  tsos : Tbl Tso := []
  /-- RES at `resAt`, in 2^-32 ns (R433). -/
  res : Int := 0
  resAt : Nat := 0
  /-- OT left PREF and has not returned. -/
  leftPref : Bool := false
  /-- Commands of R435, R438 that take effect at a tick: code, domain, due TBC. -/
  cmds : List (Nat × Nat × Nat) := []
  /-- The domain named by the last SELECT with AUTO = 0, until it is left (R435). -/
  sel : Option Nat := none
  /-- TBC count of the last calibration of the TDC delay line (R424). -/
  tdcCal : Nat := 0
deriving DecidableEq, Repr

/-! ### Faults, event log, vault (18, 19) -/

/-- A fault source: FLT_SSTATs and FLT_CNTs show it, CLEAR times keep it (R516 to R523, R533). -/
structure FltSrc where
  /-- PENDING: uncleared. -/
  pending : Bool := false
  /-- ACTIVE (R517). -/
  active : Bool := false
  esc : Bool := false
  injected : Bool := false
  multi : Bool := false
  effSev : Nat := 0
  unit : Nat := 0
  recov : Nat := 0
  raises : Nat := 0
  /-- TBC count of the end of its last activity. -/
  lastActive : Nat := 0
  /-- Operating times of its last automatic clears, newest first (R523). -/
  clears : List Nat := []
  /-- Severity named by the raising rule of the last raise (R518). -/
  named : Nat := 0
  /-- Units with the condition present, for a source that covers several (R517). -/
  units : List Nat := []
deriving DecidableEq, Repr

/-- An armed fault injection (R531). -/
structure Injection where
  chk : Nat
  nbits : Nat
  target : Nat
  addr : Nat
  /-- TBC count at which it lapses. -/
  lapse : Nat
deriving DecidableEq, Repr

/-- The fault collector beside its registers. -/
structure FltU where
  srcs : Tbl FltSrc := []
  inj : Option Injection := none
  /-- Addresses at which a write stored inverted check bits, with how many (R531). -/
  badEcc : List (Nat × Nat) := []
  /-- Level-2 hold of a severity-4 or 5 reaction (R165, R520). -/
  hold2 : Bool := false
deriving DecidableEq, Repr

/-- One event-log record (R535); CHECK is computed when the record is read. -/
structure EvlRec where
  opt : Nat := 0
  pcyc : Nat := 0
  ot : Nat := 0
  otValid : Bool := false
  code : Nat := 0
  sev : Nat := 0
  supp : Nat := 0
  seq : Nat := 0
  arg0 : Nat := 0
  arg1 : Nat := 0
deriving DecidableEq, Repr

/-- The token bucket of an event code: tokens taken since the last refill to BURST, and the suppressed count. -/
structure Bucket where
  taken : Nat := 0
  supp : Nat := 0
deriving DecidableEq, Repr

/-- The event log beside its registers. -/
structure EvlU where
  /-- Slots that hold a valid record, by slot number (R534, R540). -/
  slots : Tbl EvlRec := []
  /-- EVL_SEQ: highest SEQ written. -/
  seq : Nat := 0
  /-- EVL_DROPm: dropped records by severity. -/
  drops : Tbl Nat := []
  buckets : Tbl Bucket := []
  /-- No record has been written since DAWN (R541). -/
  firstDone : Bool := false
  /-- From the final delta of a dusk sequence on: only the dusk slot takes a record (R536). -/
  closed : Bool := false
deriving DecidableEq, Repr

/-- The vault on the sentinel die (R542 to R544) beside its registers. -/
structure VaultU where
  /-- VAULT_OPT, VAULT_PCYC, VAULT_TAMP, VAULT_RAM (R542 to R544, R546). -/
  opt : Nat := 0
  pcyc : Nat := 0
  tamp : Nat := 0
  ram : Tbl Word := []
  /-- 1/1024 s phase of OPT, in 1/250,000,000 s. -/
  optPhase : Nat := 0
  /-- Outage clock in 32.768 kHz ticks, and its phase. -/
  outage : Nat := 0
  outagePhase : Nat := 0
  outageRun : Bool := false
  /-- The outage length cannot be known; the contents were lost (R543). -/
  outageUnknown : Bool := false
  lost : Bool := false
  /-- A new delta has been committed since the last DAWN (R80). -/
  deltaSince : Bool := false
  /-- Interlock latches of sets A and B kept over VAULT (R544). -/
  latA : Tbl Nat := []
  latB : Tbl Nat := []
  /-- Dusk slot (R536). -/
  duskSlot : Option EvlRec := none
  /-- Journal chain mark (R542). -/
  chainMark : Bool := false
  /-- Recorded restart command: 1 warm, 2 cold (R83). -/
  restartCmd : Nat := 0
  /-- TAMP_N read low at the last sample (R543). -/
  tampLow : Bool := false
deriving DecidableEq, Repr

/-! ### Dispatcher and scan (04, 05) -/

/-- A dispatcher queue entry (R191). -/
structure Entry where
  event : Nat := 0
  payload : Word := 0
  tbc : Nat := 0
  group : Nat := 0
  prio : Nat := 0
  task : Nat := 0
  seq : Nat := 0
  /-- Queued tick (R201). -/
  tick : Nat := 0
  /-- It cannot be read back, which no row of the table makes happen (R197). -/
  bad : Bool := false
deriving DecidableEq, Repr

/-- A pending LOST marker of a group (R197). -/
structure LostMark where
  group : Nat := 0
  count : Nat := 0
  tbc : Nat := 0
  task : Nat := 0
  prio : Nat := 0
  /-- Sequence number of the place it holds. -/
  seq : Nat := 0
deriving DecidableEq, Repr

/-- A cyclic start that is queued (R150, R200). -/
structure CycStart where
  task : Nat := 0
  prio : Nat := 0
  tick : Nat := 0
deriving DecidableEq, Repr

/-- A reason queued to an error task (R176 to R178). -/
structure Reason where
  code : Nat := 0
  source : Nat := 0
  detail : Nat := 0
  word3 : Nat := 0
  tbc : Nat := 0
  lost : Nat := 0
deriving DecidableEq, Repr

/-- The dispatcher beside its registers. -/
structure SchedU where
  /-- SCHED_LOSS, SCHED_FLUSH, SCHED_MIGc, SCHED_GRPSTAT.LAST (R206). -/
  noEntry : Nat := 0
  notEnabled : Nat := 0
  flush : Nat := 0
  mig : Tbl Nat := []
  lastFrozen : Nat := 0
  entries : List Entry := []
  /-- Delay lists: list number, due tick, entry. -/
  delayed : List (Nat × Nat × Entry) := []
  starts : List CycStart := []
  lost : List LostMark := []
  /-- Frozen groups, and groups whose previous execution has not ended (SERIAL). -/
  frozen : List Nat := []
  serial : List Nat := []
  /-- Next submission sequence number. -/
  seq : Nat := 0
  /-- Last tick handled. -/
  tick : Nat := 0
  /-- Next due tick of each cyclic task's recurring entry. -/
  next : Tbl Nat := []
  /-- Affine core + 1 of each task (R202). -/
  affine : Tbl Nat := []
  /-- Affinity waits by claimable item (`Cand.key`): when it began, whether it has expired (R202). -/
  waits : Tbl (Option (Nat × Bool)) := []
  /-- Tasks held by an exchange, and tasks disabled (R183, R190). -/
  held : List Nat := []
  disabled : List Nat := []
  /-- Error-task queues (R178), reasons delivered since DAWN. -/
  reasons : Tbl (List Reason) := []
  delivered : Tbl Nat := []
  /-- Init tasks still to run before the first cyclic start (R155). -/
  inits : List Nat := []
  /-- Cyclic starts run (they wait for the init tasks). -/
  cyclic : Bool := false
  /-- Cores drained for a firmware exchange (R94), stopped by lockstep (R525), not yet tested (R204). -/
  drained : List Nat := []
  stopped : List Nat := []
  tested : List Nat := []
deriving DecidableEq, Repr

/-- What started an execution. -/
inductive Cause where
  | cyclic
  | init
  | event (e : Entry)
  | lost (m : LostMark)
  | reason (r : Reason)
deriving DecidableEq, Repr

/-- A task execution in progress on a core (R151, R156, R159). -/
structure Exec where
  task : Nat := 0
  cause : Cause := .cyclic
  /-- Group whose SERIAL bit the execution holds. -/
  serial : Option Nat := none
  start : Nat := 0
  /-- The process image at the snapshot instant, input forces applied (R156, R171). -/
  snap : List Host.Cell := []
  /-- Image words that held an uncorrectable error at that instant (R142). -/
  snapBad : List Nat := []
  /-- Staged words: image word index, value, mask of the bits written (R159). -/
  staged : List (Nat × Word × Word) := []
  halted : Bool := false
  haltedFrom : Nat := 0
  /-- TBC counts spent halted (R153). -/
  haltedFor : Nat := 0
  /-- TASK_DT in µs (R102). -/
  dt : Nat := 0
deriving DecidableEq, Repr

/-- The scan system beside its registers and memory. -/
structure ScanU where
  /-- Executions in progress by core. -/
  execs : Tbl Exec := []
  program : Option Program := none
  /-- Previous start of each task, with the remainder of its TASK_DT in TBC counts (R102). -/
  prevStart : Tbl (Nat × Nat) := []
  /-- Exchange: the other image, old instances kept, affected tasks, ARM deadline (R181 to R188). -/
  other : Option Program := none
  oldInsts : List (Nat × List Word) := []
  affected : List Nat := []
  armDeadline : Option Nat := none
  /-- TBC count at which the switch's checkpoint commits, the owners that stand until then, and the init tasks with EXCH_INIT that
  the switch has added or changed (R184). -/
  releaseAt : Option Nat := none
  oldOwns : List OwnDesc := []
  exchInits : List Nat := []
  /-- New edge instances that have not executed since the switch (R185). -/
  newEdges : List Nat := []
  /-- Set commands since reset, for the force entries' SEQ (R169). -/
  forceSeq : Nat := 0
  /-- Output forces by table index not yet applied: index, TBC count of the set (R172). -/
  forceSet : Tbl (Nat × Option (Word × Word)) := []
  /-- Executions ended by each task since reset, for WFT (R113). -/
  lastEnd : Tbl Nat := []
  /-- Image words that took safe values after an abnormal end, until what follows a transfer has followed (R162). -/
  safeWords : List Nat := []
  /-- Boot flash slot of the running image: false A, true B (R181). -/
  runSlot : Bool := false
deriving DecidableEq, Repr

/-! ### Modes, boot flash, journal, partner, firmware (02) -/

/-- One copy of a setup record in boot flash (R63): its header, its offset and value pairs, and CHECK. LEN is the length of the
pairs. -/
structure RecCopy where
  magic : Nat := 0
  recId : Nat := 0
  fmt : Nat := 0
  gen : Nat := 0
  data : List (Nat × Word) := []
  check : Nat := 0
deriving DecidableEq, Repr

/-- Boot flash: setup records, program slots, firmware banks, calibration image. -/
structure BootU where
  recA : Tbl RecCopy := []
  recB : Tbl RecCopy := []
  /-- Generations applied at the last DAWN, and their CHECK, by record number; 0 for a record that fell back. -/
  applied : Tbl Nat := []
  checks : Tbl Nat := []
  slotA : Option Program := none
  slotB : Option Program := none
  /-- Boot program slot: false A, true B. -/
  bootSlot : Bool := false
  fwA : Option FwImage := some { verified := true, compat := true }
  fwB : Option FwImage := none
  /-- Boot firmware bank: false A, true B. A holds the factory's firmware (assumption 17). -/
  bootBank : Bool := false
  /-- User factors of the calibration image, if one is held (R226): channel, range, offset, gain. -/
  cal : Option (List (Nat × Nat × Word × Word)) := none
deriving DecidableEq, Repr

/-- Mode machine, dusk sequence and DAWN beside their registers. -/
structure SysU where
  /-- Dusk sequence in progress since this TBC count (R77), and its next step: 0 tasks end, 1 final delta, 2 power-fail
  state, 3 VAULT. -/
  dusk : Option Nat := none
  duskStep : Nat := 0
  /-- DAWN has begun (supplies valid) at this TBC count. -/
  dawn : Option Nat := none
  /-- DAWN step results (R61). -/
  dawnOk : DawnEnv := {}
  /-- This DAWN is the one that generated the identity key (R82). -/
  firstDawn : Bool := false
  /-- VSEN valid; all package supplies valid. -/
  vsen : Bool := false
  supplies : Bool := false
  /-- The device is in VAULT because of overtemperature and waits to cool (R579). -/
  overtemp : Bool := false
  /-- The last cause of a mode change: TBC count, rank (R54), and SYS_MODE as it stood before the causes of that count. -/
  causeAt : Option (Nat × Nat × Word) := none
  /-- Warm state kept but not applied (KIND 3). -/
  warmPending : Bool := false
  /-- A setup record fell back in this DAWN, or the ILM LOAD failed (R67, R386). -/
  fellBack : Bool := false
  /-- No firmware bank passed verification (R61). -/
  noFirmware : Bool := false
  /-- Firmware bank that the cores run but for those of an exchange: false A, true B (R61, R96). -/
  bank : Bool := false
  /-- The SYS command whose RESULT is PENDING (R57, R94). -/
  pendCmd : Option Nat := none
deriving DecidableEq, Repr

/-- Partner pair beside its registers. -/
structure PartU where
  /-- Heartbeats missed in a row. -/
  missRun : Nat := 0
  /-- TBC counts of the last heartbeat sent and received. -/
  sentAt : Nat := 0
  gotAt : Nat := 0
  /-- Deltas the leader has committed and the follower has not applied. -/
  lag : Nat := 0
  /-- Last applied cycle. -/
  applied : Nat := 0
  /-- A leader's snapshot words for the next starts: task, cells. -/
  snaps : List (Nat × List Host.Cell) := []
  /-- Hash of the image verified on the follower, as the leader knows it (R189). -/
  partnerImage : Option Nat := none
  /-- The leader's program hash is that of the program here, as of its last delta (R87). -/
  sameImage : Bool := true
  /-- Words last taken from the leader's channels, by image word, and after a takeover what stands in their place (R90). -/
  lastWords : Tbl Word := []
  subst : Tbl Word := []
  transmitting : Bool := true
deriving DecidableEq, Repr

/-- Firmware exchange (R93 to R96). -/
structure FwU where
  /-- Cores on the new bank. -/
  onNew : List Nat := []
  /-- Core being exchanged, or returned. -/
  current : Option Nat := none
  /-- 0 none, 1 exchanging, 2 every core exchanged, 3 returning. -/
  phase : Nat := 0
  /-- Executions that ended within the last second: TBC counts of start and end (R93). -/
  spans : List (Nat × Nat) := []
deriving DecidableEq, Repr

/-! ### Sentinel (17) -/

/-- A safe-input pair (R501). -/
structure Pair where
  /-- The filtered inputs, and since when (TBC) a pad has differed from its filtered value. -/
  a : Bool := false
  b : Bool := false
  sinceA : Option Nat := none
  sinceB : Option Nat := none
  closed : Bool := false
  /-- TBC count since which the pair has been discrepant. -/
  discSince : Option Nat := none
  /-- After a discrepancy: both must show open together first. -/
  mustOpen : Bool := false
deriving DecidableEq, Repr

/-- A safe brake output (R498, R504 to R506, R513, R514). -/
structure Sbc where
  /-- The two switches. -/
  high : Bool := false
  low : Bool := false
  /-- The pads as last read: SBCn_P high, SBCn_N low. -/
  padP : Bool := false
  padN : Bool := false
  /-- TBC count since which the readback has been wrong. -/
  mismatch : Option Nat := none
  /-- TBC count at which the output was last de-energised. -/
  deenergised : Nat := 0
  /-- Next test due (TBC), next on the low side, repeated 1 s after the output is next energised. -/
  testDue : Option Nat := none
  testLow : Bool := false
  retest : Bool := false
  /-- Last PASS of the brake holding test (OPT); the grace has passed. -/
  lastPass : Nat := 0
  graceOver : Bool := false
deriving DecidableEq, Repr

/-- A test pulse in progress. -/
structure Pulse where
  out : Nat
  low : Bool
  start : Nat
  demanded : Bool := false
deriving DecidableEq, Repr

/-- A brake holding test in progress: its output, axis and loop slot, phase and start of the phase, P_fb at the start,
the torque committed in place of the slot's output and the AOUT channels it went to. -/
structure Bht where
  out : Nat
  axis : Nat
  slot : Nat
  phase : Nat
  start : Nat
  base : Int
  torque : Int
  chans : List Nat := []
deriving DecidableEq, Repr

/-- The sentinel beside its registers; its state survives VAULT (R507). -/
structure SafeU where
  pairs : Tbl Pair := []
  sbcs : Tbl Sbc := []
  pulse : Option Pulse := none
  pulseEnd : Option Nat := none
  bht : Option Bht := none
  /-- TBC count of the last core report, and the request it carried. -/
  report : Nat := 0
  request : Nat := 0
  /-- Confirmation window opened at. -/
  window : Option Nat := none
  /-- The committed parameter words that are not 0, if a valid copy is stored (R511, R512). -/
  stored : Option (List (Nat × Word)) := none
  /-- READY at the dusk sequence; LOCKOUT's reason and argument kept through VAULT (R507, R62). -/
  wasReady : Bool := false
  kept : Nat × Nat := (0, 0)
  /-- A press must wait for 1 s of inactivity after STUCK until this TBC count. -/
  stuckUntil : Option Nat := none
  /-- The last cause that arrived in LOCKOUT: reason, argument, TBC count (R509). -/
  fresh : Option (Nat × Nat × Nat) := none
  /-- Clock cross-check windows outside ±6 % in a row (R35). -/
  xchkOut : Nat := 0
deriving DecidableEq, Repr
/-! ### Control cores (03) -/

/-- A WFT in progress (R113): awaited task, its end count at the start, deadline, destination register. -/
structure Wait where
  task : Nat
  ends : Nat
  deadline : Nat
  rd : Nat
deriving DecidableEq, Repr

/-- A control core (R99 to R101) and what recovery keeps for it (R525, R526). -/
structure Core where
  /-- W1 to W31 by number; W0 is not stored. -/
  w : Tbl Word := []
  pc : Word := 0
  /-- FL; P is 1 after reset. -/
  fl : Word := 0x100
  epc : Word := 0
  ecause : Word := 0
  eval : Word := 0
  estat : Word := 0
  vbase : Word := 0
  taskDt : Word := 0
  taskId : Word := 0
  tbcHi : Word := 0
  wait : Option Wait := none
  /-- Undo log, newest first: word address, old and new value (R526). -/
  undo : List (Nat × Word × Word) := []
  undoOver : Bool := false
  /-- Words that the execution has written outside its transfer, by address, as they stood before its first write (R70). -/
  olds : List (Nat × Word) := []
  /-- TBC count of the last lockstep mismatch, and of the stop in progress. -/
  mismatchAt : Option Nat := none
  stoppedAt : Option Nat := none
  /-- Stopped until the next DAWN (R525). -/
  dead : Bool := false
deriving DecidableEq, Repr
/-! ### Output stage (04, 06, 09, 11) -/

/-- What level 5 gives a pin, FIO or AOUT: which writer, its value, and whether it is active (R165 to R167). A
writer that has ended keeps its last value until the owner's next transfer. -/
structure Pin5 where
  writer : Nat := 0
  value : Int := 0
  active : Bool := false
deriving DecidableEq, Repr

/-- The output stage: level-5 values of FIO and AOUT by channel, and of remote outputs by endpoint handle. -/
structure OutU where
  fio : Tbl (Option Pin5) := []
  aout : Tbl (Option Pin5) := []
  ep : Tbl (Option Pin5) := []
  /-- AOUT codes of loop slots that wait for their tick, oldest first: code, the first TBC count whose tick may apply it,
  and whether a deadline miss has been counted for it (R28, R266). -/
  pend : Tbl (List (Int × Nat × Bool)) := []
  /-- Values of levels 5 and 6 that a transfer has replaced and the outputs still follow, oldest first, FIO by channel and
  AOUT from 128: the TBC count 200 ns after the transfer, value, level (R29, R161). -/
  prior : Tbl (List (Nat × Int × Nat)) := []
  /-- Power-fail state of the dusk sequence applied (R77). -/
  powerFail : Bool := false
deriving DecidableEq, Repr

/-! ### Station links (15) -/

/-- A descriptor's fields (R451). -/
structure Desc where
  valid : Bool
  mapped : Bool
  output : Bool
  subst : Nat
  bit : Nat
  type : Nat
  ofs : Nat
  value : Word
deriving DecidableEq, Repr

/-- A station of a link as the device knows it (R451, R452, R459 to R465, R469). -/
structure Station where
  olen : Nat := 0
  ilen : Nat := 0
  oofs : Nat := 0
  iofs : Nat := 0
  sig : Nat := 0
  wd : Nat := 0
  online : Bool := false
  go : Bool := false
  missed : Nat := 0
  good : Nat := 0
  /-- Inputs of its last valid cycle. -/
  inputs : List Byte := []
  /-- The mapped objects that fit its data, by handle, with their descriptors as read at the link's start or the last rejoin
  (R452). -/
  descs : List (Nat × Desc) := []
  delayA : Int := 0
  delayB : Int := 0
  /-- The station needs its configuration written again (R465). -/
  reconf : Bool := false
deriving DecidableEq, Repr

/-- A mailbox request (R468): who asked (0 SL_MBXREQ, 1 link configuration, 2 + session a host message). -/
structure MbxReq where
  station : Nat
  write : Bool
  object : Nat
  len : Nat
  tag : Nat
  data : List Byte := []
  tries : Nat := 0
  user : Nat := 0
  /-- The record has returned valid with this result and data. -/
  answer : Option (Nat × List Byte) := none
deriving DecidableEq, Repr

/-- A station link beside its registers. -/
structure Link where
  stations : Tbl Station := []
  /-- Cycle whose output image was taken, transmitted, published last; -1 for none. -/
  taken : Int := -1
  sent : Int := -1
  published : Int := -1
  image : List Host.Cell := []
  /-- Records received in the cycle: station, STATUS, data. -/
  got : List (Nat × GxStatus × List Byte) := []
  /-- The link's first frame came back reflected this cycle; frames received unreflected at the port itself and at its
  partner; cycles in a row with both copies unreflected. -/
  reflected : Bool := false
  copies : Nat := 0
  back : Nat := 0
  clean : Nat := 0
  /-- CYCLIC frames of the cycle. -/
  frames : Nat := 1
  /-- Frames go on both ports (R466). -/
  both : Bool := false
  mbx : List MbxReq := []
  tag : Nat := 0
  /-- PT offset taken from reflected frames, in ns (R456). -/
  ptOfs : Int := 0
  /-- Receive window automatic: RX_CLOSE set by MEASURE. -/
  autoRx : Bool := false
deriving DecidableEq, Repr
/-! ### Clock, lock groups, field dies, interlock matrix (01, 06, 11, 12) -/

/-- A lock group beside its registers (R40 to R47, R587). -/
structure LockGrp where
  /-- TBC count of the next tick while the group runs, and of the last. -/
  next : Option Nat := none
  last : Option Nat := none
  /-- Settings in force until the next tick, after a write while EN is 1 (R41). -/
  oldCfg : Option Word := none
  /-- TBC count of the write that set EN. -/
  since : Nat := 0
  /-- The next tick is a re-phased one (R44). -/
  rephased : Bool := false
  /-- Instants of triggers that have not acted yet, oldest first; due time of the last STEP trigger taken (R44). -/
  trigs : List Nat := []
  stepAt : Option Nat := none
deriving DecidableEq, Repr

/-- A channel beside its registers: converters, window, AOUT and FIO on the field die, its coupler, and its part on
the core die. -/
structure Chan where
  /-- Last conversion: grid point, corrected code, clamp flags, reference flag, its sample block still to come. -/
  convAt : Nat := 0
  code : Int := 0
  ovrHi : Bool := false
  ovrLo : Bool := false
  refUns : Bool := false
  sampleDue : Bool := false
  /-- Overload not yet recovered (R219). -/
  overHi : Bool := false
  overLo : Bool := false
  snsCode : Int := 0
  snsHi : Bool := false
  snsLo : Bool := false
  senseDue : Bool := false
  /-- WIN_OUT as the field die forms it (R221). -/
  win : Bool := false
  /-- Sample blocks failed in a row; unavailable for the coupler (R15). -/
  badSamples : Nat := 0
  couplerOut : Bool := false
  /-- The last status and sample block failed (R379). -/
  lostStatus : Bool := false
  lostSample : Bool := false
  /-- Core die: a word received and not delivered, a conversion due for delivery (grid point), SNS TAG. -/
  rx : Option Word := none
  due : Option Nat := none
  snsTag : Nat := 0
  /-- Averaging interval: sum, words, flags OVR, STALE, REF, REPEAT (R225). -/
  avgSum : Int := 0
  avgCnt : Nat := 0
  avgFlags : Nat := 0
  /-- RANGE until the grid point at which a written one takes effect, and end of the range change then begun (R211); TBC
  count of the last write of CH_CFG (R225). -/
  rangeOld : Option Nat := none
  rangeUntil : Option Nat := none
  avgFrom : Nat := 0
  /-- SNS word received and not delivered (R28). -/
  rxSns : Option Word := none
  /-- Lock-group membership in force, a leave that waits for a tick (R46). -/
  member : Option Nat := none
  leaving : Bool := false
  leftAt : Option Nat := none
  /-- The last group tick in which the channel took part. -/
  tickAt : Option Nat := none
  /-- FIO on the die: comparator, debounced IN, debounce start, IN = 1 since, maximum-active flag. -/
  raw : Bool := false
  inp : Bool := false
  /-- DIR until the grid point at which a change takes effect: 1 output (R359). -/
  dirOld : Option Bool := none
  debSince : Option Nat := none
  inSince : Nat := 0
  maxact : Bool := false
  /-- Output command and level on the die. -/
  fioCmd : Bool := false
  fioLevel : Nat := 2
  aCode : Int := 0
  aLevel : Nat := 2
  /-- Member of a running group: level-5 or 6 values as of its last tick, or as the group began to run (R45). -/
  tkFio : Option (Bool × Nat) := none
  tkAout : Option (Int × Nat) := none
  /-- Code at the DAC, TBC count of its last update, end of a range change's 0 V (R233, R236). -/
  dac : Int := 0
  dacAt : Option Nat := none
  aSettle : Option Nat := none
  /-- Global-term states as the die has them: FIO hold, AOUT clamp, MOT inhibit (R14). -/
  gHold : Bool := false
  gClamp : Bool := false
  gInh : Bool := false
  /-- Matrix filter: comparator state behind it, and since when the raw state differs (R380). -/
  filt : Bool := false
  filtSince : Option Nat := none
  /-- The core die's view of the filtered comparator and of WIN_OUT (R14). -/
  seenFio : Bool := false
  seenWin : Bool := false
  /-- TBC counts of the last escape in each direction (R14). -/
  escUp : Option Nat := none
  escDown : Option Nat := none
  /-- The frame whose CRC-8 an injection inverts: its direction, true upstream, and its slot (R531). -/
  badFrame : Option (Bool × Nat) := none
  /-- Quadrature decoder on an even channel (R356). -/
  quad : Nat := 0
  /-- STEP edges counted at the pad and as the last status block gave them, running step count received, steps waiting for
  their block and the same with their sign, steps that an inhibited pad has suppressed (R347, R348, R383). -/
  padSteps : Nat := 0
  padSeen : Nat := 0
  stepRx : Nat := 0
  stepPend : Nat := 0
  stepNet : Int := 0
  stepLost : Int := 0
deriving DecidableEq, Repr

/-- A cluster's reference and calibration beside its registers (R216 to R218, R228 to R232). -/
structure Cluster where
  /-- TBC count at which REF_SETTLED returns. -/
  settleAt : Option Nat := none
  /-- TBC count since which INT is on. -/
  intSince : Nat := 0
  /-- The reference is out of its limits; back within them since. -/
  refOut : Bool := false
  refBack : Option Nat := none
  /-- Calibration running since; a request that waits for the reference. -/
  calStart : Option Nat := none
  calWait : Bool := false
  /-- The factors of the calibration have been taken (R228). -/
  calDone : Bool := false
  /-- A written REFSEL or INT_ON takes effect at the next grid point (R217); what was in force before. -/
  selOld : Option (Nat × Bool) := none
  /-- A REFSEL or INT_ON write held until the calibration ends. -/
  held : Option Word := none
  /-- Ranges that failed their last calibration. -/
  failed : List Nat := []
  rolling : Bool := false
deriving DecidableEq, Repr

/-- A captured certification point (R239): channel, range index, span point or zero point, measured, standard. -/
structure CertPoint where
  ch : Nat
  idx : Nat
  span : Bool
  measured : Int
  value : Int
deriving DecidableEq, Repr

/-- A field die beside its registers. -/
structure Die where
  /-- VISO5_n present. -/
  viso : Bool := false
  /-- Varnish-seal record in use, by word; an unlisted word is that of `sealDefault` (assumption 10). -/
  sealW : Tbl Word := []
  /-- Slot in use, and the other slot's record. -/
  slotB : Bool := false
  other : Tbl Word := []
  sealOk : Bool := true
  /-- The die's calibration image has failed (R227). -/
  calFail : Bool := false
  /-- Above 145 °C, and not yet measured below 125 °C again (R231). -/
  hot : Bool := false
  /-- Certification in progress, its points, a point being acquired or an AOUT driven (R239). -/
  cert : Bool := false
  points : List CertPoint := []
  acquiring : Option (Nat × Nat × Bool × Nat) := none
  driven : Option (Nat × Nat × Bool) := none
  /-- CERT_END waits for the clusters' calibration. -/
  ending : Bool := false
  /-- Held since DAWN for a missing supply or a failed seal (R61). -/
  held : Bool := false
deriving DecidableEq, Repr

/-- A region beside its registers (R367 to R369). -/
structure RegionU where
  vfldMissing : Bool := false
  /-- An accepted RESTART takes effect at the next grid point (R370). -/
  restart : Bool := false
  over4 : Nat := 0
  over6 : Nat := 0
  /-- Switches in qualified current limit, in thermal shutdown. -/
  ovc : List Nat := []
  therm : List Nat := []
deriving DecidableEq, Repr

/-- The interlock matrix beside its registers. -/
structure IlmU where
  /-- ILK_IN pins, and the state behind their filters with its change pending since. -/
  ilk : Nat := 0
  ilkFilt : Nat := 0
  ilkSince : Tbl Nat := []
  /-- TRIGL lines at the pad: 1 while low. -/
  trigl : Nat := 0
  /-- Terms placed local, by set. -/
  localA : List Nat := []
  localB : List Nat := []
  /-- TBC count at which an accepted SWAP takes effect. -/
  swapAt : Option Nat := none
  /-- Overlap of both sets until this TBC count. -/
  overlap : Option Nat := none
  /-- Outputs held by local and by global terms or latches. -/
  heldLocal : List Nat := []
  heldGlobal : List Nat := []
  /-- Output that a term named when it last latched, by 512 × set + term (R385). -/
  latOut : Tbl Nat := []
deriving DecidableEq, Repr

/-! ### Motion (10) -/

/-- The limits in force on an axis (R333, R334), in register units. -/
structure Lim where
  vmax : Nat := 0
  amax : Nat := 0
  dmax : Nat := 0
  jmax : Nat := 0
  edmax : Nat := 0
  softLo : Int := 0
  softHi : Int := 0
deriving DecidableEq, Repr

/-- A part of a planned profile: length in 2^-16 TBC counts, and at its start position (2^-32 steps), velocity
(2^-32 steps/s), acceleration (2^-32 steps/s²); jerk (steps/s³) through it. -/
structure Seg where
  len : Nat
  pos : Int
  vel : Int
  acc : Int
  jerk : Int
deriving DecidableEq, Repr

/-- An axis beside its registers. -/
structure Axis where
  /-- Planned position (2^-32 steps), velocity (2^-32 steps/s), acceleration (2^-32 steps/s²). -/
  pos : Int := 0
  vel : Int := 0
  acc : Int := 0
  target : Int := 0
  lim : Lim := {}
  /-- Profile in force and the TBC count of its start. -/
  segs : List Seg := []
  segAt : Nat := 0
  /-- Commands and parameter writes not yet in effect: code, argument, TBC count of arrival (R334). -/
  cmds : List (Nat × Int × Nat) := []
  /-- Causes that inhibit: 1 interlock, 2 safe-off, 3 die, 4 mode or severity, 5 dusk, 6 EN written 0, 7 mismatch,
  8 stall, 9 feedback. -/
  inhibits : List Nat := []
  /-- ESTOP followed by an inhibit at rest (SAFE_ACT = 1). -/
  thenInhibit : Bool := false
  /-- Stopped only by HOLD. -/
  byHold : Bool := false
  /-- A stall brakes: STATE becomes STOPPED at rest. -/
  stalling : Bool := false
  /-- Step velocity V (2^-32 steps per cycle), accumulator ACC, TBC count up to which it has run. -/
  v : Int := 0
  acu : Nat := 0
  genAt : Nat := 0
  /-- Velocities waiting for their tick, oldest first: the first TBC count whose tick may apply it, velocity (R28, R332). -/
  vNext : List (Nat × Int) := []
  /-- A step was withheld at a soft limit (R338). -/
  limitHit : Bool := false
  /-- Emitted steps reported by the pad, and since when the counts differ. -/
  mmSince : Option Nat := none
  /-- Feedback: last raw reading and its extension, offset set by SETPOS. -/
  fbRaw : Nat := 0
  fb : Int := 0
  fbOfs : Int := 0
deriving DecidableEq, Repr
/-! ### Loop engines (03, 07, 08) -/

/-- A register write on its way (R135): issue cycle at which it becomes visible; kind 0 A, 1 D, 2 OV, 3 SV, 4 CLP;
lane; register; value. -/
structure LWrite where
  due : Nat
  kind : Nat
  lane : Nat
  idx : Nat
  val : Int
deriving DecidableEq, Repr

/-- The REP state of an activation (R131, R261): body start, length, iterations left, index in the body, fill cycles still to
come and the TBC count at which the fill began. -/
structure Rep where
  start : Nat
  len : Nat
  left : Nat
  idx : Nat
  fill : Nat := 0
  fillFrom : Nat := 0
deriving DecidableEq, Repr

/-- The repeat cache (R256): the set whose activation filled it, the body's first address and its bundles. -/
structure RepCache where
  set : Nat
  start : Nat
  body : List Nat
deriving DecidableEq, Repr

/-- An activation in the ready list (R257): slot, ready instant, and what applies from that instant on (R269, R287). -/
structure Ready where
  slot : Nat := 0
  at_ : Nat := 0
  bank : Bool := false
  prio : Nat := 7
  entry : Nat := 0
  /-- Ticks of its slot met since its ready instant (R268). -/
  ticks : Nat := 0
deriving DecidableEq, Repr

/-- An activation in progress with its register set (R121, R123, R261). -/
structure Act where
  slot : Nat := 0
  set : Nat := 0
  readyAt : Nat := 0
  prio : Nat := 7
  /-- Ticks of its slot met since its ready instant (R268). -/
  ticks : Nat := 0
  bank : Bool := false
  page : Tbl (BitVec 16) := []
  pc : Nat := 0
  /-- Issue cycles so far. -/
  cyc : Nat := 0
  a : Tbl Int := []
  d : Tbl (BitVec 16) := []
  ov : Nat := 0
  sv : Nat := 0
  clp : Nat := 0
  ix : Tbl Nat := []
  ixcfg : Tbl Nat := []
  lc : Nat := 0
  lm : Nat := 15
  mp : Nat := 0
  queue : List LWrite := []
  rep : Option Rep := none
  /-- A branch (its target) or an ACT (none) with its delay slots left. -/
  ctl : Option (Option Nat × Nat) := none
  /-- TBC count at which ACT issued; the second delay slot has issued. -/
  actAt : Option Nat := none
  ended : Bool := false
  /-- Staged output-window words: word of the window, value. -/
  staged : Tbl (Option (BitVec 16)) := []
  /-- It runs the standard loop form (assumption 12). -/
  std : Bool := false
  /-- Retained words of the slot as they stood when the activation was created: address and value (R70). -/
  kept : List (Nat × Nat) := []
  /-- Mailbox words of the page that cannot be corrected (R145). -/
  pageBad : List Nat := []
  /-- Program address of a bundle whose read met an uncorrectable word: its exception arises with the next TBC count, also if the
  activation is preempted by then (R145, R265). -/
  bad : Option Nat := none
deriving DecidableEq, Repr

/-- A learn of the standard form (R299, R300): phase 1 clearing, 2 accumulating, 3 finishing; sums and counts by
entry (table × 1,024 + entry). -/
structure Learn where
  phase : Nat := 0
  cogging : Bool := false
  cleared : Nat := 0
  next : Nat := 0
deriving DecidableEq, Repr

/-- A loop slot beside its registers and descriptor. -/
structure Slot where
  /-- PERIOD as it stood when EN was set (R276), TBC count of the enable. -/
  period : Nat := 0
  enabledAt : Nat := 0
  /-- TBC count of the last ready instant. -/
  lastReady : Option Nat := none
  /-- Earliest ready instant at which a palette request takes effect (R288, R289). -/
  palFrom : Nat := 0
  /-- Activations since the load comparison was restarted (R301). -/
  samples : Nat := 0
  /-- A restore of G runs (R302). -/
  restoring : Bool := false
  learn : Learn := {}
  /-- The measurement channel was unavailable in the last sample (R282). -/
  wasUnav : Bool := false
  /-- Bank of the last sample, and whether a swap's recompute waits (R291, R292). -/
  lastBank : Bool := false
  swapWait : Bool := false
  /-- A section of type 3 has been reported since the enable (R293). -/
  typeFault : Bool := false
deriving DecidableEq, Repr

/-- A loop engine beside its registers and memories. -/
structure Engine where
  /-- Mailbox page that is current; its words that cannot be corrected, which no row of the table makes; an import had a new
  value at the last grid point (R145, R252). -/
  page : Tbl (BitVec 16) := []
  pageBad : List Nat := []
  impNew : Bool := false
  cache : Option RepCache := none
  /-- TBC count of the last end of the running activation, until a bundle issues or an activation starts (R258). -/
  endAt : Option Nat := none
  /-- Ready list (R257). -/
  ready : List Ready := []
  /-- Activations in progress, the running one first. -/
  stack : List Act := []
  /-- Sets that become free at a TBC count (R260). -/
  freeing : List (Nat × Nat) := []
  /-- Committed output-window words (R247, R248). -/
  window : Tbl (BitVec 16) := []
  /-- Issue cycles counted in the present and in the last 1 ms window, and the number of the window (R270). -/
  busy : Nat := 0
  busyLast : Nat := 0
  busyWin : Nat := 0
deriving DecidableEq, Repr
/-! ### Recipe sequencers (09) -/

/-- Where a sequencer stands (R325). -/
structure SeqPos where
  /-- STATE of RS_STAT, current and previous step, next action. -/
  st : Nat := 0
  step : Nat := 0xFFF
  prev : Nat := 0xFFF
  act : Nat := 0
  /-- S, a TBC count (R318), and the elapsed time held while paused, frozen or suspended. -/
  s : Int := 0
  held : Nat := 0
  /-- Due instant of a COND end. -/
  cond : Option Nat := none
  /-- Tick from which the condition of the current WAIT has held without a break. -/
  holdFrom : Option Nat := none
  ramps : List Ramp := []
  /-- Paused when it was suspended (R324); TBC count of the suspension. -/
  wasPaused : Bool := false
  suspAt : Option Nat := none
  /-- A resume waits for the first tick prepared: interruption in ms for a policy, none to go on as it stood (R323,
  R326). -/
  resume : Option (Option Nat) := none
  /-- A JUMP that waits for a tick that is not frozen (R322). -/
  jump : Option Nat := none
deriving DecidableEq, Repr

/-- What a preparation lets happen at its tick (R306, R312). -/
inductive Eff where
  | fio (bank : Nat) (value mask : Word)
  | aout (ch : Nat) (code : Int)
  | ep (handle : Nat) (value mask : Word)
  | setp (slot : Nat) (words : List (Nat × Nat))
  | move (axis : Nat) (rel : Bool) (target : Int)
  | evt (event : Nat) (payload : Word)
  | mark (units : Nat) (trig : Bool) (code : Word) (step id : Nat)
  | fld (addr lo width v : Nat)
  | raise (src : Nat)
  | resumed (ms policy : Nat)
  | reapply
  | release
deriving DecidableEq, Repr

/-- A preparation: the tick it is for, the position after that tick, the command it carries out, what happens. -/
structure Prep where
  tick : Nat
  pos : SeqPos
  cmd : Option (Nat × Nat × Nat) := none
  effects : List Eff := []
deriving DecidableEq, Repr

/-- A sequencer beside its registers (R305 to R327). -/
structure Seq where
  pos : SeqPos := {}
  prep : Option Prep := none
  /-- TBC count of its last tick. -/
  last : Nat := 0
  /-- A command accepted and not yet in effect: code, step, TBC count of the write (R322). -/
  cmd : Option (Nat × Nat × Nat) := none
  /-- OUT record: FIO banks with the pins written, AOUT codes, endpoint words (R325). -/
  banks : Tbl (Word × Word) := []
  aouts : Tbl (Option Int) := []
  eps : Tbl (Option Word) := []
deriving DecidableEq, Repr

/-! ### Trace recorder (13) -/

/-- An entry of a page: a coded data block (stream, K, first time-stamp, DT, samples with their flags) or a special
entry (stream or none for a unit-wide one, K, CODE, ARG, TBC_A, TBC_B) (R399, R401). -/
inductive RecEntry where
  | block (stream k tbc dt : Nat) (w : Nat) (samples : List (Int × Nat))
  | special (stream : Option Nat) (k code arg : Nat) (a b : Nat)
deriving DecidableEq, Repr

/-- An entry of a STREAMS page (R404). -/
structure StrmDesc where
  stream : Nat
  w : Nat
  setting : Nat
  handle : Nat
  dt : Nat
  rpri : Nat
  flagSet : Nat
deriving DecidableEq, Repr

/-- A record in progress (R415, R416). Times in 1/256 TBC count. -/
structure Record where
  num : Nat := 0
  mask : Nat := 0
  primary : Nat := 0
  t : Nat := 0
  method : Nat := 2
  flags : Nat := 0
  late : Nat := 0
  actPre : Nat := 0
  ot : Nat := 0
  violAt : Nat := 0
  violPt : Nat := 0
  missed : Nat := 0
  first : Nat := 0
  last : Nat := 0
deriving DecidableEq, Repr

/-- A page (R398): what its header needs, its entries, and which outputs still have to take it. -/
structure Page where
  type : Nat := 0
  seq : Nat := 0
  first : Nat := 0
  last : Nat := 0
  otFirst : Nat := 0
  otLast : Nat := 0
  domain : Nat := 0
  gen : Nat := 0
  pcyc : Nat := 0
  used : Nat := 0
  entries : List RecEntry := []
  streams : List StrmDesc := []
  /-- REC_MODID when the page closed; of a RECORD page, its record. -/
  modId : Nat := 0
  rcd : Option Record := none
  nvme : Bool := false
  host : Bool := false
  /-- TBC count of its first entry. -/
  openAt : Nat := 0
deriving DecidableEq, Repr

/-- A stream beside its registers (R395, R396, R399). -/
structure Strm where
  /-- Last ingested sample and its instant. -/
  last : Int := 0
  lastAt : Option Nat := none
  /-- Open block: time-stamp of sample 0, DT once known, samples with flags, oldest first. -/
  t0 : Nat := 0
  dt : Option Nat := none
  samples : List (Int × Nat) := []
  /-- Running decimation: samples taken, sum, flags, first instant. -/
  runN : Nat := 0
  runSum : Int := 0
  runFlags : Nat := 0
  runAt : Nat := 0
  /-- Open gap: reason, first missing instant. -/
  gap : Option (Nat × Nat) := none
  /-- Exponent that the entries so far state. -/
  exp : Nat := 0
deriving DecidableEq, Repr

/-- An acquisition unit beside its registers. -/
structure Unit_ where
  cur : Option Page := none
  nextSeq : Nat := 0
  /-- Pages closed and not yet out, oldest first; pages kept back for want of space. -/
  spill : List Page := []
  kept : List Page := []
  /-- Pages of the pre-trigger ring, oldest first. -/
  ring : List Page := []
  armedAt : Nat := 0
  /-- Sources found true since the last evaluation: source, time, method. -/
  hits : List (Nat × Nat × Nat) := []
  /-- Hysteresis of C0 to C3: rising and falling crossings may fire. -/
  offRise : List Nat := []
  offFall : List Nat := []
  /-- Violation of the mask seen since the last evaluation: instant, point. -/
  viol : Option (Nat × Nat) := none
  rcd : Option Record := none
  /-- The copy is complete; TBC count at which REARM began; it ends in DONE, or in MASKSTOP. -/
  copied : Bool := false
  rearmAt : Nat := 0
  toDone : Bool := false
  toMask : Bool := false
  /-- End of the trigger output pulse. -/
  toutEnd : Option Nat := none
  paused : Bool := false
  retries : Nat := 0
  flushAt : Nat := 0
  /-- STREAMS page due before the next block; one is after DAWN. -/
  streamsDue : Bool := true
  records : Nat := 0
  /-- Writes in the unit's NVMe queue (R405); pages written to the record ring since DAWN. -/
  inq : Nat := 0
  recPos : Nat := 0
  /-- The session that the last TRACE START came from; pages in flight, oldest first: SEQ, TBC count of sending (R479). -/
  traceTo : Option Nat := none
  flight : List (Nat × Nat) := []
deriving DecidableEq, Repr

/-- The recorder beside its registers. -/
structure RecU where
  strms : Tbl Strm := []
  units : Tbl Unit_ := []
  /-- TBC counts of the last ladder step and resume, and since when occupancy has been below 50 %. -/
  stepAt : Nat := 0
  undoAt : Nat := 0
  resumeAt : Nat := 0
  lowSince : Option Nat := none
  /-- LBAs in a page: 8 of 512 bytes or one of 4,096 (R405, R406). -/
  lbas : Nat := 1
  /-- Ladder steps in force: RPRI of each, oldest first. -/
  steps : List Nat := []
  /-- RPRI levels suspended, lowest first. -/
  susp : List Nat := []
  /-- Page bytes closed in the present and the last second, and the number of the second (R421). -/
  outNow : Nat := 0
  outLast : Nat := 0
  outSec : Nat := 0
deriving DecidableEq, Repr
/-! ### The journal (02) -/

/-- The retain image (R69): memory words (retained variables, instances, force table) and retained slot words by address,
sequencers, axes, fault sources, drop counters; the slots that learn (R277). -/
structure Retain where
  words : List (Nat × Word) := []
  halves : List (Nat × Nat) := []
  seqs : Tbl Seq := []
  axes : Tbl AxisRec := []
  srcs : Tbl SrcRec := []
  drops : Tbl Nat := []
  learns : List Nat := []
deriving DecidableEq, Repr

/-- A delta of the ring (R71): cycle number, TBC count of its boundary, payload length, the retain image after it, its
commit word, and the devices that hold it, one bit each. -/
structure Delta where
  cycle : Nat := 0
  tbc : Nat := 0
  len : Nat := 0
  image : Retain := {}
  commit : BitVec 64 := 0
  devs : Nat := 0
deriving DecidableEq, Repr

/-- The journal beside its registers. -/
structure JnlU where
  /-- Retain image as of the last committed delta, and as of the last cycle boundary (R73). -/
  image : Option Retain := none
  seen : Retain := {}
  /-- Number of the running journal cycle (R71), and slices written of the generation being built (R74). -/
  cycle : Nat := 0
  slices : Nat := 0
  /-- The last complete generation: first cycle, devices that hold it, the image at that cycle; and the first cycle and image of
  the one being built (R74). The delta ring from the first cycle on, oldest first (R71). -/
  gen : Option (Nat × Nat × Retain) := none
  genNew : Nat × Retain := (0, {})
  deltas : List Delta := []
  /-- Devices that do not hold all the other one holds, one bit each (R75). -/
  stale : Nat := 0
  /-- Layout version of the header (R68). -/
  layout : Nat := 1
  /-- A complete generation with an unbroken chain exists (R74, R584). -/
  chainOk : Bool := false
  /-- A device that is being rebuilt, and slices written since it answered again (R75). -/
  rebuild : Option (Nat × Nat) := none
  /-- The controller did not start: a device is below 64 MiB (R68). -/
  off : Bool := false
  /-- Header: program hash, record generations, journal-format version, mode before the outage. -/
  hash : Nat := 0
  gens : Tbl Nat := []
  format : Nat := 0
  lastMode : Nat := 0
  /-- OPT and PCYC copies (R542). -/
  optCopy : Nat := 0
  pcycCopy : Nat := 0
  /-- Deltas of the last dusk sequence that were omitted or not committed (R73, R78). -/
  incomplete : Nat := 0
deriving DecidableEq, Repr

/-! ### CAN (16) -/

/-- A CAN controller beside its registers (R484 to R496). -/
structure CanU where
  /-- OPMODE in effect, and one that waits for the end of a frame or of bus-off (R484). -/
  mode : Nat := 0
  want : Option Nat := none
  /-- Objects that are pending; the object whose frame is offered, with the frame's words; it is triggered again. -/
  pend : List Nat := []
  cur : Option (Nat × List Word) := none
  again : Bool := false
  /-- Frames taken by object, by the FIFO; drops since its last entry, and since the last HP entry. -/
  seqs : Tbl Nat := []
  fifoSeq : Nat := 0
  fifoLost : Nat := 0
  hpLost : Nat := 0
  /-- HP entries, oldest first. -/
  hp : List (List Word) := []
  /-- Bit-rate detection runs: frames in a row, TBC count of the last frame or of the candidate's start. -/
  abd : Option (Nat × Nat) := none
  /-- TBC counts of the supervisor's recoveries, newest first; its budget was spent in this bus-off. -/
  recov : List Nat := []
  spent : Bool := false
deriving DecidableEq, Repr

/-! ### Companion bus (12) -/

/-- The companion bus beside its registers (R388 to R392). -/
structure CbusU where
  /-- Posted writes, oldest first: word address, value. -/
  fifo : List (Nat × Word) := []
  /-- Mirror words, and MSEQ. -/
  mirror : Tbl Word := []
  mseq : Nat := 0
  /-- The last edge sampled was a read. -/
  lastRead : Bool := false
deriving DecidableEq, Repr

/-! ### Host sessions and SEC (15, 20) -/

/-- A subscription of a session (R474, R478). -/
structure Sub where
  period : Nat
  handles : List Nat
deriving DecidableEq, Repr

/-- One entry of a READ or WRITE in work: answered with value, status and quality, or waiting for the request with this tag
on a link, whose data have this type and bit. -/
inductive HostItem where
  | done (value status quality : Nat)
  | mbx (link station tag type bit : Nat) (quality : Nat)
deriving DecidableEq, Repr

/-- A host session (R471 to R479, R555, R556). -/
structure Session where
  isOpen : Bool := false
  /-- A HELLO answered and no FINISH yet, since this TBC count; the role it asked for. -/
  half : Option Nat := none
  /-- 0 VIEW, 1 OPERATE, 2 ENGINEER. -/
  role : Nat := 0
  /-- TBC count of the last valid request. -/
  lastAt : Nat := 0
  /-- Highest executed SEQ; cached answers, newest first: SEQ, STATUS, body. -/
  executed : Nat := 0
  cache : List (Nat × Nat × List Nat) := []
  /-- Requests held for their predecessors. -/
  held : List (Nat × HostReq) := []
  gapSince : Option Nat := none
  subs : Tbl Sub := []
  /-- Own send counter. -/
  sent : Nat := 0
  /-- Image being loaded: kind, next OFFSET. -/
  load : Option (Nat × Nat) := none
  /-- The request being executed that waits for the mailbox: SEQ, is it a WRITE, its entries (R474). -/
  wait : Option (Nat × Bool × List HostItem) := none
deriving DecidableEq, Repr

/-- SEC beside its registers: what fuses and SEC's memory hold (R549 to R553), and verifications. -/
structure SecU where
  /-- A verification in progress: session, SEQ of the request, the image (R548). -/
  verifying : Option (Nat × Nat × ImageBody) := none
  /-- Fuses: owner slots programmed and revoked (bit n - 1 for slot n), counter values. -/
  programmed : Nat := 0
  revoked : Nat := 0
  arb : Tbl Nat := []
  /-- Signers of the boot firmware bank, the boot program and the configuration image in force; 0 vendor root (R551). -/
  fwSigner : Nat := 0
  cfgSigner : Nat := 0
  /-- Hashes of the configuration and calibration images (R554). -/
  cfgHash : Nat := 0
  calHash : Nat := 0
  /-- Counter and SVN to raise at the first entry into RUN with a program loaded without an exchange (R552). -/
  programSvn : Option (Nat × Nat) := none
  /-- Counter and SVN of the configuration image, raised when it is applied (R552). -/
  cfgSvn : Option (Nat × Nat) := none
  /-- Hash and signer of a configuration image that waits for the DAWN that applies it. -/
  cfgNext : Option (Nat × Nat) := none
  /-- The identity key exists (R553); it failed its integrity check at this DAWN. -/
  identity : Bool := false
  keyBad : Bool := false
deriving DecidableEq, Repr
/-! ### What leaves the block -/

/-- Frames, messages and edges that the block gives out. -/
inductive OutMsg where
  /-- A Galxis frame on the port of SLn, and its bytes; a bad FCS when an injection inverted it (R461, R531). -/
  | galxis (port : Nat) (frame : GxFrame) (fcsOk : Bool) (data : List Nat := [])
  /-- An answer or notification to a host session: MSG, STATUS, SEQ, body words. -/
  | host (session msg status seq : Nat) (body : List Nat)
  /-- Part 0 to 3 of a trace page with its 1,024 bytes (R479); part 4 stands for a page of a record's copy to the host (R415). -/
  | trace (session unit part page : Nat) (data : List Nat := [])
  /-- On PLNK: 0 a heartbeat, 1 DUSK, 2 a delta, 3 a snapshot, 4 a full checkpoint, 5 the switch to an image, 6 the journal cycle of
  its release (R81, R87, R89, R189). -/
  | partner (kind : Nat) (arg : Nat)
  /-- A CAN frame that enters arbitration, with its words (R489). -/
  | can (controller object : Nat) (words : List Word)
  /-- A PTP message: domain, kind (0 Delay_Req, 1 Pdelay_Req, 2 Pdelay_Resp), sequence. -/
  | ptp (domain kind seq : Nat)
  /-- An ARP reply or ICMP echo reply on a NET port. -/
  | net (port kind arg : Nat)
  /-- A TSO pulse edge: output, index, 1 leading or 0 trailing. -/
  | pulse (output index edge : Nat)
  /-- An NVMe command: 0 Write of a page, 1 Flush, 2 Write of a page of a record, with unit, page number, LBA and data (R406,
  R415). -/
  | nvme (kind unit page : Nat) (lba : Nat := 0) (data : List Nat := [])
deriving DecidableEq, Repr
/-! ### The whole state -/

/-- The state of the PV7128 as a block. -/
structure State where
  /-- Commands waiting, first in, first out. -/
  pending : List Instr := []
  /-- TBC (R423): counts of 4 ns since time 0 of DAWN. -/
  tbc : Nat := 0
  /-- The register file by physical address; an address not listed holds its reset value (R4). -/
  regs : Tbl Word := []
  /-- Canvas, LE memories and LPDDR by physical byte address; a byte not listed reads 0. -/
  mem : List Host.Cell := []
  /-- Free values drawn so far: the argument of `Config.freeValue`. -/
  free : Nat := 0
  /-- Data of the last read command. -/
  rdata : List Word := []
  time : TimeU := {}
  flt : FltU := {}
  evl : EvlU := {}
  vault : VaultU := {}
  sched : SchedU := {}
  scan : ScanU := {}
  boot : BootU := {}
  jnl : JnlU := {}
  sys : SysU := {}
  part : PartU := {}
  fw : FwU := {}
  safe : SafeU := {}
  cores : Tbl Core := []
  out : OutU := {}
  lgs : Tbl LockGrp := []
  chans : Tbl Chan := []
  clusters : Tbl Cluster := []
  dies : Tbl Die := []
  regions : Tbl RegionU := []
  ilm : IlmU := {}
  axes : Tbl Axis := []
  engines : Tbl Engine := []
  slots : Tbl Slot := []
  seqs : Tbl Seq := []
  recu : RecU := {}
  cans : Tbl CanU := []
  cbus : CbusU := {}
  sessions : Tbl Session := []
  secu : SecU := {}
  links : Tbl Link := []
  /-- Copies of registers beyond a die's edge that handles name, by address (R449). -/
  copies : Tbl (Option Word) := []
  /-- What has left the block, newest first. -/
  outbox : List OutMsg := []
deriving DecidableEq, Repr

/-- The machine right after reset: power-on reset released, MODE reads DAWN, DAWN not begun; every register
at its reset value, every memory byte 0, every queue empty. -/
def State.reset : State := {}

end Sys2Proof.Machine
end

