-- ==== Sys2Proof/Machine/Registers.lean ====
section
/-!
DEFINITION. Tables and the register file: reading and writing a field (`fld`, `setFld`), the reset values
(R4, R516), the expert level (R7) and what a plain write of a register does by field type (R4, R6).
-/

set_option Elab.async false

namespace Sys2Proof.Machine

/-! ### Tables -/

/-- The entry of `k`, if listed. -/
def tlook {α : Type} : Tbl α → Nat → Option α
  | [], _ => none
  | (j, v) :: t, k => if j = k then some v else tlook t k

/-- The entry of `k`, or the default of an unlisted key. -/
def tget {α : Type} (d : α) (t : Tbl α) (k : Nat) : α := (tlook t k).getD d

/-- Drops the entry of `k`. -/
def tdel {α : Type} (k : Nat) : Tbl α → Tbl α
  | [] => []
  | (j, w) :: t => if j = k then tdel k t else (j, w) :: tdel k t

/-- Puts an entry in at its place by key. -/
def tins {α : Type} (k : Nat) (v : α) : Tbl α → Tbl α
  | [] => [(k, v)]
  | (j, w) :: t => if j < k then (j, w) :: tins k v t else if j = k then (k, v) :: t else (k, v) :: (j, w) :: t

/-- Sets the entry of `k`, keeping the canonical form: a value equal to the default is not listed. -/
def tset {α : Type} [DecidableEq α] (d : α) (k : Nat) (v : α) (t : Tbl α) : Tbl α :=
  if v = d then tdel k t else tins k v t

/-- Applies `f` to the entry of `k`. -/
def tmod {α : Type} [DecidableEq α] (d : α) (k : Nat) (f : α → α) (t : Tbl α) : Tbl α :=
  tset d k (f (tget d t k)) t

/-- Applies `f` to every listed entry. -/
def tmap {α : Type} [DecidableEq α] (d : α) (f : Nat → α → α) (t : Tbl α) : Tbl α :=
  (t.map fun p => (p.1, f p.1 p.2)).filter fun p => !decide (p.2 = d)

/-- Applies `f` for each number below `n`, in ascending order. -/
def forN {σ : Type} (n : Nat) (f : Nat → σ → σ) (s : σ) : σ := (List.range n).foldl (fun t i => f i t) s

/-- Applies `f` for each number of a list, in order. -/
def forL {σ α : Type} (l : List α) (f : α → σ → σ) (s : σ) : σ := l.foldl (fun t i => f i t) s

/-- Applies `f` if the condition holds. -/
def when {σ : Type} (c : Bool) (f : σ → σ) (s : σ) : σ := if c then f s else s

/-! ### Numbers in fields -/

/-- The two's complement reading of the low `w` bits. -/
def toSigned (w n : Nat) : Int :=
  let m := n % 2 ^ w
  if m < 2 ^ (w - 1) then (m : Int) else (m : Int) - (2 ^ w : Nat)

/-- The low `w` bits of an integer in two's complement. -/
def ofSigned (w : Nat) (i : Int) : Nat := (i % (2 ^ w : Nat)).toNat

/-- Bit `i` of a number. -/
def bitOf (n i : Nat) : Bool := n / 2 ^ i % 2 == 1

/-- The number `n` with bit `i` set to `b`. -/
def withBit (n i : Nat) (b : Bool) : Nat :=
  if bitOf n i = b then n else if b then n + 2 ^ i else n - 2 ^ i

/-- An integer held to `lo..hi`. -/
def clampI (lo hi i : Int) : Int := if i < lo then lo else if hi < i then hi else i

/-- 1 for true. -/
def b2n (b : Bool) : Nat := if b then 1 else 0

/-- Bits `lo + width − 1 .. lo` of a word. -/
def bitsOf (v : Word) (lo width : Nat) : Nat := v.toNat / 2 ^ lo % 2 ^ width

/-! ### Reset values -/

/-- Fixed minimum severity and default severity of a fault source (R516). -/
def fltDefault (n : Nat) : Nat × Nat :=
  if n = 0 then (4, 4) else if n = 3 then (0, 2) else if n = 4 then (4, 4) else if n = 5 ∨ n = 6 then (0, 3)
  else if n = 7 then (0, 2) else if n = 8 then (2, 2)
  else if n = 9 ∨ n = 10 ∨ n = 11 ∨ n = 17 ∨ n = 18 ∨ n = 21 ∨ n = 22 ∨ n = 23 ∨ n = 42 then (0, 2)
  else if n = 1 ∨ n = 2 ∨ n = 12 ∨ n = 13 ∨ n = 14 ∨ n = 15 ∨ n = 16 ∨ n = 19 ∨ n = 20 ∨ n = 40 ∨ n = 41 then (0, 1)
  else if n < 24 then (0, 0) else if n < 32 then (4, 4) else if n < 40 then (0, 2)
  else if n < 64 then (0, 0)
  else if n < 120 then
    let k := (n - 64) / 8
    if k = 0 ∨ k = 3 ∨ k = 4 ∨ k = 6 then (0, 1) else (0, 2)
  else if n < 128 then (0, 0)
  else if n < 192 then (if (n - 128) / 16 < 2 then (0, 2) else (0, 1))
  else if n < 240 then (if (n - 192) / 8 < 3 then (0, 1) else (0, 2))
  else if n < 244 then (0, 3) else if n < 248 then (2, 2)
  else if n < 288 then
    let k := (n - 248) / 8
    if k = 0 then (0, 1) else if k = 3 then (0, 2) else (0, 3)
  else if n < 320 then (0, 1) else if n < 368 then (0, 2) else if n < 392 then (0, 1)
  else if n < 400 then (0, 2) else if n < 409 then (0, 1)
  else if n < 448 then (0, 0) else if n < 512 then (0, 1) else (0, 0)

/-- May the source be raised (R516)? -/
def fltExists (n : Nat) : Bool :=
  n < 43 || (64 ≤ n && n < 120) || (128 ≤ n && n < 409) || (448 ≤ n && n < 512)

/-- The rows of the register map that the block of address `a` has (R48). -/
def blockRows (a : Nat) : List RegRow :=
  if a < 0xF0000000 then [] else
  if a < 0xF0010000 then regsSYS else if a < 0xF0020000 then regsCLK else if a < 0xF0030000 then regsSEC else
  if a < 0xF0040000 then regsFLT else if a < 0xF0050000 then regsEVL else if a < 0xF0060000 then regsSCHED else
  if a < 0xF0070000 then regsJNL else if a < 0xF0080000 then regsTIME else if a < 0xF0090000 then regsILM else
  if a < 0xF00A0000 then regsCBUS else if a < 0xF00B0000 then regsPART else if a < 0xF00C0000 then regsSAFE else
  if a < 0xF00D0000 then regsREC else if a < 0xF00E0000 then regsRCP else if a < 0xF0100000 then regsHOST else
  if a < 0xF0120000 then regsNET else if a < 0xF0200000 then regsPCIE else if a < 0xF0300000 then regsCAN else
  if a < 0xF0400000 then regsSL else if a < 0xF0500000 then regsLE else if a < 0xF0510000 then regsPP else
  if a < 0xF0600000 then regsMOT else if a < 0xF0700000 then regsFD else []

/-- The register row of an address, if it carries a register. -/
def regRow (a : Nat) : Option RegRow := (blockRows a).find? (fun r => r.hit a)

/-- The reset value of the register at `a` (R4; SEV and MIN of a source from R516; DOM_CFG of DL reads SRC 2,
R444; the factory block of the safety parameters has MAGIC and FMT and is otherwise 0, R510: 0xF00B0010 and 0xF00B0014
read its CRC-32). -/
def regReset (a : Nat) : Word :=
  let base := match regRow a with
    | some r => r.resetValue
    | none => 0
  if 0xF0031000 ≤ a ∧ a < 0xF0033000 ∧ a % 16 = 0 then
    let (mn, df) := fltDefault ((a - 0xF0031000) / 16)
    BitVec.ofNat 32 (base + mn * 256 + df)
  else if a = 0xF00B0800 ∨ a = 0xF00B1000 then 0x53465053
  else if a = 0xF00B0804 ∨ a = 0xF00B1004 then 1
  else if a = 0xF00B0010 ∨ a = 0xF00B0014 then 0x1E1DB3EE
  else if a = (F.DOM_CFG_SRC 2).addr then BitVec.ofNat 32 (2 * 2 ^ 30)
  else BitVec.ofNat 32 base

/-! ### The register file -/

/-- The value a register holds. -/
def State.reg (s : State) (a : Nat) : Word := (tlook s.regs a).getD (regReset a)

/-- Sets a register, keeping the file canonical. -/
def State.setReg (s : State) (a : Nat) (v : Word) : State := { s with regs := tset (regReset a) a v s.regs }

/-- The value of a field. -/
def State.fld (s : State) (l : Loc) : Nat := bitsOf (s.reg l.addr) l.lo l.width

/-- The value of a signed field. -/
def State.sfld (s : State) (l : Loc) : Int := toSigned l.width (s.fld l)

/-- The value of a one-bit field. -/
def State.flag (s : State) (l : Loc) : Bool := s.fld l == 1

/-- A word with the field at `lo`, `width` replaced. -/
def putBits (w : Word) (lo width v : Nat) : Word :=
  BitVec.ofNat 32 (w.toNat - bitsOf w lo width * 2 ^ lo + v % 2 ^ width * 2 ^ lo)

/-- Sets a field, leaving the register's other bits. -/
def State.setFld (l : Loc) (v : Nat) (s : State) : State :=
  s.setReg l.addr (putBits (s.reg l.addr) l.lo l.width v)

/-- Sets a one-bit field. -/
def State.setFlag (l : Loc) (b : Bool) (s : State) : State := s.setFld l (b2n b)

/-- Sets a signed field. -/
def State.setSFld (l : Loc) (v : Int) (s : State) : State := s.setFld l (ofSigned l.width v)

/-- Adds `n` to a counter field that saturates. -/
def State.addSat (l : Loc) (n : Nat) (s : State) : State := s.setFld l (min (2 ^ l.width - 1) (s.fld l + n))

/-- Counts one up in a counter field that saturates. -/
def State.incSat (l : Loc) (s : State) : State := s.addSat l 1

/-- Counts one up in a counter field that wraps. -/
def State.incMod (l : Loc) (s : State) : State := s.setFld l (s.fld l + 1)

/-- A 64-bit register pair, low word first. -/
def State.fld2 (s : State) (lo hi : Loc) : Nat := s.fld lo + s.fld hi * 2 ^ 32

/-- Sets a 64-bit register pair. -/
def State.setFld2 (lo hi : Loc) (v : Nat) (s : State) : State := (s.setFld lo v).setFld hi (v / 2 ^ 32)

/-- Bit `i` of a multi-bit field. -/
def State.fbit (s : State) (l : Loc) (i : Nat) : Bool := bitOf (s.fld l) i

/-- Sets bit `i` of a multi-bit field. -/
def State.setFbit (l : Loc) (i : Nat) (b : Bool) (s : State) : State := s.setFld l (withBit (s.fld l) i b)

/-- A free value of `w` bits, and the state with the counter advanced (assumption 1). -/
def State.draw (w : Nat) (s : State) : BitVec w × State :=
  (BitVec.setWidth w (Config.freeValue s.free), { s with free := s.free + 1 })

/-! ### Types and levels -/

/-- The register that holds EXPERT_EN of the block of `a` (R7). -/
def expertReg (a : Nat) : Nat :=
  if a < 0xF0500000 then a / 0x10000 * 0x10000
  else if a < 0xF0510000 then 0xF0500000
  else if a < 0xF0600000 then 0xF05100FC
  else a / 0x40000 * 0x40000 + 0x10000

/-- Is the block's EXPERT_EN 1? -/
def State.expertOn (s : State) (a : Nat) : Bool := bitOf (s.reg (expertReg a)).toNat 31

/-- One field of a plain write (R4). A reserved bit is in no field and stays 0 (R6). -/
def applyField (expert : Bool) (new old : Word) (f : FieldDef) (acc : Word) : Word :=
  let w := f.hi + 1 - f.lo
  if f.expert && !expert then acc else
  match f.ty with
  | .rw => putBits acc f.lo w (bitsOf new f.lo w)
  | .rws => putBits acc f.lo w (bitsOf new f.lo w)
  | .w1c => putBits acc f.lo w (bitsOf (old &&& ~~~new) f.lo w)
  | .w1s => putBits acc f.lo w (bitsOf (old ||| new) f.lo w)
  | .ro => acc
  | .wo => acc

/-- A plain register write: every field by its type and level (R4, R6, R7). -/
def State.plainWrite (a : Nat) (v : Word) (s : State) : State :=
  match regRow a with
  | none => s
  | some r =>
    let old := s.reg a
    s.setReg a (r.fields.foldl (fun acc f => applyField (s.expertOn a) v old f acc) old)

/-- The expert fields of a register at their reset values. -/
def expertCleared (r : RegRow) (v : Word) : Word :=
  r.fields.foldl (fun acc f =>
    if f.expert then putBits acc f.lo (f.hi + 1 - f.lo) f.reset else acc) v

/-- Every expert field of the block whose EXPERT_EN is at `ctrl` at its reset value (R7). -/
def State.expertToReset (ctrl : Nat) (s : State) : State :=
  forL (s.regs.map Prod.fst) (fun a t =>
    if expertReg a = ctrl then
      match regRow a with
      | some r => t.setReg a (expertCleared r (t.reg a))
      | none => t
    else t) s

/-- EXPERT_EN at `ctrl` is cleared: the block's expert fields return to their reset values (R7), CLK_FDDLYd to the delay
DAWN measured (R34). -/
def State.clearExpert (ctrl : Nat) (s : State) : State :=
  if ctrl = 0xF0010000 then
    forN 4 (fun d t => t.setFld (F.CLK_FDDLY_DLY d) (s.sys.dawnOk.delays.getD d 0)) (s.expertToReset ctrl)
  else s.expertToReset ctrl

end Sys2Proof.Machine
end

