-- ==== Sys2Proof/Machine/Ops.lean ====
section
/-!
DEFINITION. The named operations over memory (R8, R48): bytes and little-endian words of canvas, LE memories
and LPDDR, in one canonical form; image words and bits (R110, R146); the mode codes (R52); TBC units.
-/

set_option Elab.async false

namespace Sys2Proof.Machine

/-! ### Memory -/

/-- The canonical form of memory: addresses strictly rising, and no listed byte equal to 0, what an unlisted
byte reads as (assumption 4). -/
def Memory.wf : List Host.Cell → Bool
  | [] => true
  | [(_, v)] => v != 0
  | (a, v) :: (b, w) :: t => v != 0 && a < b && Memory.wf ((b, w) :: t)

/-- The byte at an address. -/
def State.byte (s : State) (a : Nat) : Byte := tget 0 s.mem a

/-- Stores a byte, keeping the canonical form. -/
def State.setByte (a : Nat) (v : Byte) (s : State) : State := { s with mem := tset 0 a v s.mem }

/-- The little-endian number in `n` bytes from `a`. -/
def memNat (m : List Host.Cell) (a : Nat) : Nat → Nat
  | 0 => 0
  | n + 1 => (tget (0 : Byte) m a).toNat + 256 * memNat m (a + 1) n

/-- The 32-bit word at `a`. -/
def State.word (s : State) (a : Nat) : Word := BitVec.ofNat 32 (memNat s.mem a 4)

/-- Stores the low `n` bytes of a number, little-endian. -/
def State.setBytes (a : Nat) : Nat → Nat → State → State
  | 0, _, s => s
  | n + 1, v, s => State.setBytes (a + 1) n (v / 256) (s.setByte a (BitVec.ofNat 8 v))

/-- Stores a 32-bit word. -/
def State.setWord (a : Nat) (v : Word) (s : State) : State := s.setBytes a 4 v.toNat

/-- Stores a 64-bit number, low word first. -/
def State.setQuad (a : Nat) (v : Nat) (s : State) : State := s.setBytes a 8 v

/-- The 64-bit number at `a`. -/
def State.quad (s : State) (a : Nat) : Nat := memNat s.mem a 8

/-- Stores a list of words from `a` upward. -/
def State.setWords (a : Nat) : List Word → State → State
  | [], s => s
  | w :: ws, s => State.setWords (a + 4) ws (s.setWord a w)

/-- The 32-bit words from `a`, `n` of them. -/
def State.words (s : State) (a : Nat) : Nat → List Word
  | 0 => []
  | n + 1 => s.word a :: s.words (a + 4) n

/-- Size of the canvas, and of its process image (R146). -/
def canvasSize : Nat := 0x1000000
def imageSize : Nat := 0x400000

/-- First address of LPDDR (R48). -/
def lpddrBase : Nat := 0x1000000000

/-- Fitted LPDDR capacity in bytes (R2). -/
def State.fitted (s : State) : Nat := s.fld F.SYS_MEMSIZE_MIB * 0x100000

/-- Does a range lie in the LPDDR's space, but not within the fitted capacity (R2)? -/
def State.unfitted (s : State) (a n : Nat) : Bool := lpddrBase ≤ a && lpddrBase + s.fitted < a + n

/-- The kinds of place an address may name (R48, R49). -/
inductive Region where
  | canvas
  | leMem (e : Nat)
  | register
  | lpddr
  | aboveFitted
  | pcie
  | unmapped
deriving DecidableEq, Repr

/-- Is `a` in one of the register ranges that R48 lists? -/
def isRegister (a : Nat) : Bool :=
  (0xF0000000 ≤ a && a < 0xF00F0000) || (0xF0100000 ≤ a && a < 0xF0130000) ||
  (0xF0200000 ≤ a && a < 0xF0280000) || (0xF0300000 ≤ a && a < 0xF0400000) ||
  (0xF0400000 ≤ a && a < 0xF0480000) || (0xF0500000 ≤ a && a < 0xF0518000) ||
  (0xF0600000 ≤ a && a < 0xF0700000)

/-- Which range of R48 the address is in. -/
def State.region (s : State) (a : Nat) : Region :=
  if a < canvasSize then .canvas
  else if 0x10000000 ≤ a ∧ a < 0x10800000 then .leMem ((a - 0x10000000) / 0x100000)
  else if isRegister a then .register
  else if lpddrBase ≤ a ∧ a < lpddrBase + s.fitted then .lpddr
  else if lpddrBase ≤ a ∧ a < lpddrBase + 0x400000000 then .aboveFitted
  else if 0x4000000000 ≤ a ∧ a < 0x8000000000 then .pcie
  else .unmapped

/-- Does the LE memory window carry a memory byte at this offset (R48)? -/
def leMemOk (off : Nat) : Bool :=
  off < 0x8000 || (0x20000 ≤ off && off < 0x28000) || (0x40000 ≤ off && off < 0x50000)

/-! ### Image bits and words -/

/-- Image bit `i`: bit `i % 8` of canvas byte `i / 8`. -/
def imageBit (m : List Host.Cell) (i : Nat) : Bool := bitOf (tget (0 : Byte) m (i / 8)).toNat (i % 8)

/-- Image bit `i` of the canvas. -/
def State.bit (s : State) (i : Nat) : Bool := imageBit s.mem i

/-- Sets image bit `i`. -/
def State.setBit (i : Nat) (b : Bool) (s : State) : State :=
  s.setByte (i / 8) (BitVec.ofNat 8 (withBit (s.byte (i / 8)).toNat (i % 8) b))

/-- Replaces the masked bits of the word at `a`. -/
def State.maskWord (a : Nat) (v mask : Word) (s : State) : State :=
  s.setWord a ((s.word a &&& ~~~mask) ||| (v &&& mask))

/-- Address of channel word `w` of CHn (R146). -/
def chWord (n w : Nat) : Nat := 0x20000 + 16 * n + 4 * w

/-! ### Modes -/

namespace Mode
def vault : Nat := 0
def dawn : Nat := 1
def idle : Nat := 2
def run : Nat := 3
def hold : Nat := 4
def engineer : Nat := 5
def follow : Nat := 6
def lockout : Nat := 7
end Mode

/-- The mode (R52). -/
def State.mode (s : State) : Nat := s.fld F.SYS_MODE_MODE

/-- Is the mode one of the list? -/
def State.inMode (s : State) (l : List Nat) : Bool := l.contains s.mode

/-- Do scan tasks of every kind run (R52)? -/
def State.tasksRun (s : State) : Bool := s.inMode [Mode.run, Mode.hold, Mode.engineer, Mode.follow]

/-! ### Time units in TBC counts -/

def us (n : Nat) : Nat := 250 * n
def ms (n : Nat) : Nat := 250000 * n
def sec (n : Nat) : Nat := 250000000 * n

/-- Is TBC on the conversion grid (R33)? -/
def onGrid (t : Nat) : Bool := t % 125 == 0

/-- The first grid point at or after `t`. -/
def gridFrom (t : Nat) : Nat := (t + 124) / 125 * 125

/-- The first dispatcher tick at or after `t` (R198). -/
def tickFrom (t : Nat) : Nat := (t + 249) / 250 * 250

/-! Result codes of R56, R190, R242 and R515. -/
namespace Res
def ok : Nat := 0
def pending : Nat := 1
def refusedState : Nat := 2
def refusedFault : Nat := 3
def badKey : Nat := 4
def preempted : Nat := 5
def refusedLoad : Nat := 6
def refusedCompat : Nat := 7
def timeout : Nat := 8
def full : Nat := 9
def safe : Nat := 10
def notFound : Nat := 11
def badParam : Nat := 14
end Res

/-! ### Checks -/

/-- One byte into a CRC-16 with polynomial 0x1021 (R535). -/
def crc16Byte (c : Nat) (b : Nat) : Nat :=
  (List.range 8).foldl (fun c _ =>
    if c / 0x8000 % 2 = 1 then ((c * 2 % 0x10000) ^^^ 0x1021) else c * 2 % 0x10000) (c ^^^ (b * 256))

/-- The CRC-16 of R535. -/
def crc16 (l : List Nat) : Nat := l.foldl crc16Byte 0xFFFF

/-- One byte into a reflected CRC-32 with the reflected polynomial `p`. -/
def crc32Byte (p c b : Nat) : Nat :=
  (List.range 8).foldl (fun c _ => if c % 2 = 1 then (c / 2) ^^^ p else c / 2) (c ^^^ b)

/-- The CRC-32 of IEEE 802.3 (R510). -/
def crc32 (l : List Nat) : Nat := l.foldl (crc32Byte 0xEDB88320) 0xFFFFFFFF ^^^ 0xFFFFFFFF

/-- CRC-32C: the Castagnoli polynomial with the conventions of CRC-32 (R63, R71, assumption 47). -/
def crc32c (l : List Nat) : Nat := l.foldl (crc32Byte 0x82F63B78) 0xFFFFFFFF ^^^ 0xFFFFFFFF

/-- The little-endian bytes of a number, `n` of them. -/
def leBytes : Nat → Nat → List Nat
  | 0, _ => []
  | n + 1, v => v % 256 :: leBytes n (v / 256)

end Sys2Proof.Machine
end

