-- ==== Sys2Proof/Machine/TimeBase.lean ====
section
/-!
DEFINITION. Reading time: a domain at a TBC count (R426), the residue (R433), operating time OT (R433, R434).
Inside the model a domain's time is an integer of 2^-32 ns.
-/

set_option Elab.async false

namespace Sys2Proof.Machine

/-- 1 ns in the unit of domain times. -/
def nsU : Int := 4294967296

/-- The domain's state. -/
def State.dom (s : State) (d : Nat) : Domain := tget {} s.time.doms d

/-- Changes a domain's state. -/
def State.modDom (d : Nat) (f : Domain → Domain) (s : State) : State :=
  { s with time := { s.time with doms := tmod {} d f s.time.doms } }

/-- T_d at TBC count `c` (R426): OFS + (c − ANC) × 4 ns × (1 + RATE × 2^-40), truncated to 2^-32 ns. -/
def domTime (d : Domain) (c : Nat) : Int :=
  d.ofs + Int.tdiv (((c : Int) - d.anc) * 4 * (2 ^ 40 + d.rate)) 256

/-- K_d in ns, from DOM_K (R426). -/
def State.domK (s : State) (d : Nat) : Int := toSigned 64 (s.fld2 (F.DOM_K_L_VALUE d) (F.DOM_K_H_VALUE d))

/-- Sets K_d. -/
def State.setDomK (d : Nat) (k : Int) (s : State) : State :=
  s.setFld2 (F.DOM_K_L_VALUE d) (F.DOM_K_H_VALUE d) (ofSigned 64 k)

/-- SLEW in ppm: 0 acts as 1, above 50 as 50 (R444). -/
def State.slew (s : State) : Nat := max 1 (min 50 (s.fld F.TIME_CTRL_SLEW))

/-- RES at TBC count `c` in 2^-32 ns: moved towards 0 at SLEW ppm of the elapsed TBC time (R433). -/
def State.resAt (s : State) (c : Nat) : Int :=
  let moved : Int := ((c : Int) - s.time.resAt) * 4 * nsU * s.slew / 1000000
  if 0 ≤ s.time.res then max 0 (s.time.res - moved) else min 0 (s.time.res + moved)

/-- Sets RES at the present count. -/
def State.setRes (r : Int) (s : State) : State := { s with time := { s.time with res := r, resAt := s.tbc } }

/-- The domain OT follows. -/
def State.otDom (s : State) : Nat := s.fld F.TIME_STAT_OT_DOM

/-- OT at TBC count `c` in 2^-32 ns (R433). -/
def State.otAt (s : State) (c : Nat) : Int :=
  domTime (s.dom s.otDom) c + s.domK s.otDom * nsU + s.resAt c

/-- OT_VALID (R434). -/
def State.otValid (s : State) : Bool := s.flag F.TIME_STAT_OT_VALID

/-- OT in ns, 0 while it is not valid. -/
def State.otNs (s : State) : Nat := if s.otValid then (s.otAt s.tbc / nsU).toNat else 0

end Sys2Proof.Machine
end

