-- ==== Sys2Proof/Machine/Evl.lean ====
section
/-!
DEFINITION. Writing an event-log record (R534 to R541): the rate limit of its code, its place among the
slots, the dusk slot. Only the event log's own state changes.
-/

set_option Elab.async false

namespace Sys2Proof.Machine

/-- The happenings that have a code above the fault codes (R537). Their place within their range is the
firmware's (`Config.evlCode`). -/
inductive Happening where
  | modeChange
  | restartKind
  | discarded
  | cfgFallback
  | cfgRepair
  | fwExchange
  | tamper
  | logCleared
  | drops
  | overtemp
  | errTaskEnd
  | taskException
  | forceSet
  | forceClear
  | forceRemoved
  | recipeResume
  | exchangeItem
  | timeRefused
  | timeAccepted
  | linkDropout
  | linkRejoin
  | sealCert
  | safeCommit
deriving DecidableEq, Repr

/-- First code and size of the range of a happening (R537). -/
def Happening.range : Happening → Nat × Nat
  | .forceSet | .forceClear | .forceRemoved => (0x500, 0x100)
  | .recipeResume | .exchangeItem => (0x600, 0x100)
  | .timeRefused | .timeAccepted | .linkDropout | .linkRejoin | .sealCert | .safeCommit => (0x700, 0x100)
  | .modeChange | .restartKind | .discarded | .cfgFallback | .cfgRepair | .fwExchange | .tamper | .logCleared
  | .drops | .overtemp | .errTaskEnd | .taskException => (0x400, 0x100)

/-- A number for the happening, the argument of the firmware's assignment. -/
def Happening.index : Happening → Nat
  | .modeChange => 0 | .restartKind => 1 | .discarded => 2 | .cfgFallback => 3 | .cfgRepair => 4
  | .fwExchange => 5 | .tamper => 6 | .logCleared => 7 | .drops => 8 | .overtemp => 9 | .errTaskEnd => 10
  | .forceSet => 11 | .forceClear => 12 | .forceRemoved => 13 | .recipeResume => 14 | .exchangeItem => 15
  | .timeRefused => 16 | .timeAccepted => 17 | .linkDropout => 18 | .linkRejoin => 19 | .sealCert => 20
  | .safeCommit => 21 | .taskException => 22

/-- The event code of a happening. -/
def Happening.code (h : Happening) : Nat := h.range.1 + Config.evlCode h.index % h.range.2

/-- The lowest number from `i` on that is no key of a sorted table. -/
def lowestFree {α : Type} : Nat → Tbl α → Nat
  | i, [] => i
  | i, (k, _) :: t => if k = i then lowestFree (i + 1) t else i

/-- The slot of the record with the lowest SEQ among those of severity `sev` or lower (R540). -/
def victim (sev : Nat) (t : Tbl EvlRec) : Option Nat :=
  (t.foldl (fun best (k, r) =>
    if r.sev ≤ sev then
      match best with
      | some (_, q) => if r.seq < q then some (k, r.seq) else best
      | none => some (k, r.seq)
    else best) (none : Option (Nat × Nat))).map Prod.fst

/-- Counts a dropped record of severity `sev` (R540, R541). -/
def EvlU.drop (sev : Nat) (u : EvlU) : EvlU := { u with drops := tmod 0 sev (fun n => min 65535 (n + 1)) u.drops }

/-- Puts a record into its slot with the next SEQ, or drops it (R534, R540). -/
def EvlU.place (r : EvlRec) (u : EvlU) : EvlU :=
  let q := (u.seq + 1) % 2 ^ 32
  let free := lowestFree 0 u.slots
  if free < 8192 then { u with seq := q, slots := tins free { r with seq := q } u.slots }
  else match victim r.sev u.slots with
    | some k => { u with seq := q, slots := tins k { r with seq := q } u.slots }
    | none => u.drop r.sev

/-- BURST and RL_EN of a code (R538, R539); the force codes and 'log cleared' are never limited. -/
def State.evlBurst (s : State) (code : Nat) : Nat := max 1 (s.fld (F.EVL_CODE_BURST code))

/-- Is the code's rate limit in force? -/
def State.evlLimited (s : State) (code : Nat) : Bool :=
  s.flag (F.EVL_CODE_RL_EN code) && !(0x500 ≤ code && code < 0x600) && code != Happening.logCleared.code

/-- A record with the times of now (R535, R536). -/
def State.evlStamp (s : State) (code sev arg0 arg1 supp : Nat) : EvlRec :=
  { opt := s.vault.opt, pcyc := s.vault.pcyc, ot := s.otNs, otValid := s.otValid, code := code, sev := sev,
    supp := supp, seq := 0, arg0 := arg0 % 2 ^ 32, arg1 := arg1 % 2 ^ 16 }

/-- Severity of a code above the fault codes (R537). -/
def State.evlSev (s : State) (code : Nat) : Nat :=
  if 0x500 ≤ code ∧ code < 0x600 then 2 else min 5 (s.fld (F.EVL_CODE_SEV code))

/-- Writes a record that the rate limit has passed: into the dusk slot once the log is closed (R536), else
into a slot, the first after DAWN with a drop counter not 0 after a record 'drops' (R541). -/
def State.evlWrite (r : EvlRec) (s : State) : State :=
  if s.evl.closed then
    match s.vault.duskSlot with
    | none => { s with vault := { s.vault with duskSlot := some r } }
    | some _ => { s with evl := s.evl.drop r.sev }
  else
    let total := s.evl.drops.foldl (fun n p => n + p.2) 0
    let u := if !s.evl.firstDone && total != 0 then
        s.evl.place (s.evlStamp Happening.drops.code (s.evlSev Happening.drops.code) total 0 0)
      else s.evl
    { s with evl := { u.place r with firstDone := true } }

/-- A happening of a code: one token, or one more suppressed (R538). -/
def State.evlCode (code sev arg0 arg1 : Nat) (s : State) : State :=
  let b := tget {} s.evl.buckets code
  if s.evlLimited code && s.evlBurst code ≤ b.taken then
    { s with evl := { s.evl with buckets := tset {} code { b with supp := min 65535 (b.supp + 1) } s.evl.buckets } }
  else
    let b' : Bucket := { taken := if s.evlLimited code then b.taken + 1 else b.taken, supp := 0 }
    State.evlWrite (s.evlStamp code sev arg0 arg1 b.supp)
      { s with evl := { s.evl with buckets := tset {} code b' s.evl.buckets } }

/-- Logs a happening of a unit (R537). -/
def State.log (h : Happening) (arg0 arg1 : Nat) (s : State) : State :=
  s.evlCode h.code (s.evlSev h.code) arg0 arg1

/-- The bytes of a record (R535), CHECK last. -/
def EvlRec.bytes (r : EvlRec) : List Nat :=
  let b := leBytes 8 (r.opt % 2 ^ 40 + r.pcyc % 2 ^ 24 * 2 ^ 40) ++ leBytes 8 (if r.otValid then r.ot else 0) ++
    leBytes 2 (r.code % 4096 + r.sev % 8 * 4096 + b2n r.otValid * 32768) ++ leBytes 2 r.supp ++ leBytes 4 r.seq ++
    leBytes 4 r.arg0 ++ leBytes 2 r.arg1
  b ++ leBytes 2 (crc16 b)

end Sys2Proof.Machine
end

