-- ==== Sys2Proof/Machine/Sched.lean ====
section
/-!
DEFINITION. The dispatcher's inner operations: the running program's tasks, submission of an event (R191 to
R200), reasons to error tasks (R176 to R178), and what IDLE and LOCKOUT remove (R205). Only the dispatcher's
own state changes here; a lost event is told to the caller, which raises the loss source.
-/

set_option Elab.async false

namespace Sys2Proof.Machine

/-- The descriptor of a task of the running program. -/
def State.task (s : State) (t : Nat) : Option TaskDesc :=
  match s.scan.program with
  | some p => p.tasks.find? (fun d => d.num == t)
  | none => none

/-- Changes the dispatcher's state. -/
def State.modSched (f : SchedU → SchedU) (s : State) : State := { s with sched := f s.sched }

/-- Recurring entries: one for each cyclic task while cyclic starts run (R200). -/
def State.recurring (s : State) : Nat :=
  if !s.sched.cyclic then 0 else match s.scan.program with
  | some p => (p.tasks.filter (fun d => d.kind == .cyclic)).length
  | none => 0

/-- Entries in use (R191, SCHED_USED): events, delayed ones, queued cyclic starts and the recurring entries beside them. -/
def State.schedUsed (s : State) : Nat :=
  s.sched.entries.length + s.sched.delayed.length + s.sched.starts.length + s.recurring

/-- Entries on delay list `k` (R199, SCHED_DLYk). -/
def State.listUsed (s : State) (k : Nat) : Nat :=
  (s.sched.delayed.filter (fun d => d.1 == k)).length + (if k = 0 then s.recurring else 0)

/-- Address of the descriptor table (R192, R206). -/
def State.schedBase (s : State) : Nat := lpddrBase + s.fld F.SCHED_TBLBASE_BASE * 0x100000

/-- Words 0 and 1 of the descriptor of event `n` (R192). -/
def State.evDesc (s : State) (n : Nat) : Word × Word := (s.word (s.schedBase + 8 * n), s.word (s.schedBase + 8 * n + 4))

/-- The group word of group `g` (R193): SERIAL and ACK_REQ. -/
def State.groupSerial (s : State) (g : Nat) : Bool := bitsOf (s.word (s.schedBase + 0x80000 + 4 * g)) 31 1 == 1
def State.groupAck (s : State) (g : Nat) : Bool := bitsOf (s.word (s.schedBase + 0x80000 + 4 * g)) 30 1 == 1

/-- Is event `n` accepted: enabled, not the LOST number, its task an event task of the running program (R192),
and the mode not one that refuses events (R205)? -/
def State.evEnabled (s : State) (n : Nat) : Bool :=
  n != 0xFFFF && bitsOf (s.evDesc n).1 31 1 == 1 && !s.inMode [Mode.idle, Mode.lockout] &&
  (match s.task (bitsOf (s.evDesc n).1 16 6) with
   | some d => d.kind == .event
   | none => false)

/-- The entry a submission of event `n` makes (R191). -/
def State.mkEntry (s : State) (n : Nat) (payload : Word) : Entry :=
  let w := (s.evDesc n).1
  { event := n, payload := payload, tbc := s.tbc, group := bitsOf w 0 16, prio := bitsOf w 24 6,
    task := bitsOf w 16 6, seq := s.sched.seq, tick := s.tbc / 250 }

/-- Queues an entry: at once, or on its delay list (R199). `room` is how many free entries are needed.
Answers none when no entry is free or the list is full. -/
def State.submit (n : Nat) (payload : Word) (room : Nat) (s : State) : Option State :=
  let e := s.mkEntry n payload
  let w1 := (s.evDesc n).2
  let delay := bitsOf w1 0 24
  let list := bitsOf w1 29 3
  if 262144 - s.schedUsed < room then none
  else if delay = 0 then
    some (s.modSched fun u => { u with entries := u.entries ++ [e], seq := u.seq + 1 })
  else if 16384 ≤ s.listUsed list then none
  else
    let due := s.tbc / 250 + delay
    some (s.modSched fun u => { u with delayed := u.delayed ++ [(list, due, { e with tick := due })], seq := u.seq + 1 })

/-- Adds a lost event to its group's pending LOST marker (R197). -/
def addLost (e : Entry) (count : Nat) : List LostMark → List LostMark
  | [] => [{ group := e.group, count := count, tbc := e.tbc, task := e.task, prio := e.prio, seq := e.seq }]
  | m :: ms => if m.group = e.group then { m with count := m.count + count } :: ms else m :: addLost e count ms

/-- Places a LOST marker for an entry. -/
def State.loseEntry (e : Entry) (count : Nat) (s : State) : State :=
  s.modSched fun u => { u with lost := addLost e count u.lost }

/-- A hardware source submits an event (R197, R205). The flag says that the event was lost. -/
def State.hwSubmit (n : Nat) (payload : Word) (s : State) : State × Bool :=
  if !s.evEnabled n then (s.modSched fun u => { u with notEnabled := min 65535 (u.notEnabled + 1) }, false)
  else match s.submit n payload 1 with
    | some t => (t, false)
    | none =>
      let t := s.loseEntry (s.mkEntry n payload) 1
      (t.modSched fun u => { u with noEntry := min 65535 (u.noEntry + 1), seq := u.seq + 1 }, true)

/-! ### Reasons -/

/-- Queues a reason to an error task; a full queue merges it into the newest (R178). -/
def pushReason (r : Reason) (q : List Reason) : List Reason :=
  if q.length < 16 then q ++ [r]
  else match q.reverse with
    | [] => [r]
    | l :: rest => (({ l with lost := l.lost + 1 } : Reason) :: rest).reverse

/-- The program's default error task. -/
def State.defaultErr (s : State) : Option Nat := s.scan.program.bind Program.defaultErr

/-- Is `t` an error task of the running program? -/
def State.isErrTask (s : State) (t : Nat) : Bool :=
  match s.task t with
  | some d => d.kind == .error
  | none => false

/-- Sends a reason to an error task, if there is one (R177). -/
def State.reasonTo (t : Option Nat) (code source detail word3 : Nat) (s : State) : State :=
  match t with
  | none => s
  | some t =>
    let r : Reason := { code := code, source := source, detail := detail, word3 := word3, tbc := s.tbc }
    s.modSched fun u => { u with reasons := tmod [] t (pushReason r) u.reasons }

/-- The error task that receives a task's reasons (R149). -/
def State.errTaskOf (s : State) (t : Nat) : Option Nat :=
  match s.task t with
  | some d => (match d.errTask with
    | some e => if s.isErrTask e then some e else s.defaultErr
    | none => s.defaultErr)
  | none => s.defaultErr

/-! ### Modes -/

/-- What entering IDLE or LOCKOUT removes (R205): every queued, delayed and recurring entry, every queued cyclic start
and every pending LOST marker, each counted in SCHED_FLUSH; frozen groups are released. Init tasks still to run wait for the next
entry of a running mode. -/
def State.schedFlush (s : State) : State :=
  let recur := s.recurring
  s.modSched fun u =>
    { u with
      flush := min (2 ^ 32 - 1) (u.flush + u.entries.length + u.delayed.length + u.starts.length + u.lost.length + recur)
      entries := [], delayed := [], starts := [], lost := [], frozen := [], cyclic := false, waits := [] }

end Sys2Proof.Machine
end

