-- ==== Sys2Proof/Machine/SafeBase.lean ====
section
/-!
DEFINITION. The sentinel's outputs, their test pulses and the end of a brake holding test (R498 to R514), as every
demand finds them.
-/

set_option Elab.async false

namespace Sys2Proof.Machine

/-! ### Sentinel (R499 to R514) -/

/-- `k` bytes of the safety parameters in force at an offset, little-endian (R510). -/
def State.safeParam (s : State) (o k : Nat) : Nat :=
  (List.range k).foldl (fun v i => v + bitsOf (s.reg (F.SAFE_BLOCK_WORD ((o + i) / 4)).addr) (8 * ((o + i) % 4)) 8 * 2 ^ (8 * i)) 0

def State.sbc (s : State) (n : Nat) : Sbc := tget {} s.safe.sbcs n
def State.modSbc (n : Nat) (f : Sbc → Sbc) (s : State) : State :=
  { s with safe := { s.safe with sbcs := tmod {} n f s.safe.sbcs } }

/-- Does the test pulse in progress run on SBCn? -/
def State.pulsed (s : State) (n : Nat) : Bool :=
  match s.safe.pulse with
  | some p => p.out == n
  | none => false

/-- SAFE_OUT shows the pads (R515). -/
def State.sbcShow (n : Nat) (s : State) : State :=
  let b := s.sbc n
  ((s.setFbit F.SAFE_OUT_P_HI n b.padP).setFbit F.SAFE_OUT_N_LO n b.padN).setFbit F.SAFE_OUT_ENERG n (b.padP && b.padN)

/-- Sets the two switches of SBCn; the pads follow as R504 gives them. A de-energised output takes its tests from the
readback; energising it sets when the next one is due: 1 s later when one is to be repeated (R504 to R506). -/
def State.sbcSet (n : Nat) (high low : Bool) (s : State) : State :=
  let b := s.sbc n
  let s := s.modSbc n fun b => { b with high := high, low := low, padP := high, padN := low, mismatch := none }
  let per := sec (max 1 (s.safeParam (148 + 32 * n) 4))
  let was := b.high && b.low
  let s := if high && low && !was then
      s.modSbc n fun b =>
        { b with testDue := some (if b.retest then s.tbc + sec 1
                   else b.deenergised + ((s.tbc - b.deenergised) / per + 1) * per),
                 retest := false }
    else if was && !(high && low) then s.modSbc n fun b => { b with deenergised := s.tbc }
    else s
  s.sbcShow n

/-- SBCn is engaged: its low side turns off, and the high side too with `both`. A test pulse in progress on it is
inconclusive, and the other switch turns off at once (R506). -/
def State.sbcEngage (both : Bool) (n : Nat) (s : State) : State :=
  match s.safe.pulse with
  | some p =>
    if p.out = n then
      (if p.demanded then s
       else
         let s := { s with safe := { s.safe with pulse := some { p with demanded := true } } }
         ((s.setFbit F.SAFE_TEST_INCONCL n true).sbcSet n false false).modSbc n fun b =>
           { b with retest := true, deenergised := s.tbc })
    else s.sbcSet n ((s.sbc n).high && !both) false
  | none => s.sbcSet n ((s.sbc n).high && !both) false

/-- The torque of a brake holding test is 0 at once on the channels it went to (R514). -/
def State.bhtZero (b : Bht) (s : State) : State :=
  forL b.chans (fun c s => { s with out := { s.out with pend := tset [] c [(0, s.tbc, true)] s.out.pend } }) s

/-- A brake holding test ends with a result (R514): the torque is 0 at once. -/
def State.bhtEnd (result : Nat) (s : State) : State :=
  match s.safe.bht with
  | none => s
  | some b =>
    let s := ({ s with safe := { s.safe with bht := none } }).bhtZero b
    let s := (s.setFlag F.SAFE_BHT_RUNNING false).setFld F.SAFE_BHT_RESULT result
    if s.fld F.SAFE_CMDSTAT_RESULT = Res.pending then s.setFld F.SAFE_CMDSTAT_RESULT Res.ok else s

/-- A brake holding test in progress ends INCONCLUSIVE (R514). -/
def State.bhtInconclusive (s : State) : State := s.bhtEnd 3

/-- FB_LOST or an inhibit of axis `n` ends its brake holding test INCONCLUSIVE (R514). -/
def State.bhtLost (n : Nat) (s : State) : State :=
  match s.safe.bht with
  | some b => if b.axis = n then s.bhtInconclusive else s
  | none => s

/-- The staged words of a slot under a brake holding test: the torque stands in place of its output (R513). -/
def State.bhtStaged (s : State) (g : Nat) (l : Tbl (Option (BitVec 16))) : Tbl (Option (BitVec 16)) :=
  match s.safe.bht with
  | some b =>
    if b.slot = g then l.map fun p => if p.1 % 8 = 0 then (p.1, some (BitVec.ofInt 16 b.torque)) else p else l
  | none => l

/-- The channels that the torque went to. -/
def State.bhtCommitted (e g : Nat) (l : Tbl (Option (BitVec 16))) (s : State) : State :=
  match s.safe.bht with
  | some b =>
    if b.slot = g then
      let c := (l.filter fun p => p.1 % 8 == 0).map fun p => 16 * e + p.1 / 8
      { s with safe := { s.safe with bht := some { b with chans := c } } }
    else s
  | none => s

end Sys2Proof.Machine
end

