-- ==== Sys2Proof/Machine/MotionBase.lean ====
section
/-!
DEFINITION. Field-side bases that mode changes act on: channels' places (R17), axes with their step generator
(R344, R345), stopping and inhibiting an axis (R340, R341).
-/

set_option Elab.async false

namespace Sys2Proof.Machine

/-! ### Places (R17) -/

def chDie (n : Nat) : Nat := n / 32
def chRegion (n : Nat) : Nat := n / 16
def chCluster (n : Nat) : Nat := n / 8

/-- The state of a channel, a cluster, a die, a region, a lock group, an axis. -/
def State.chan (s : State) (n : Nat) : Chan := tget {} s.chans n
def State.cluster (s : State) (k : Nat) : Cluster := tget {} s.clusters k
def State.die (s : State) (d : Nat) : Die := tget {} s.dies d
def State.regionU (s : State) (r : Nat) : RegionU := tget {} s.regions r
def State.lg (s : State) (g : Nat) : LockGrp := tget {} s.lgs g
def State.axis (s : State) (n : Nat) : Axis := tget {} s.axes n

def State.modChan (n : Nat) (f : Chan → Chan) (s : State) : State := { s with chans := tmod {} n f s.chans }
def State.modCluster (k : Nat) (f : Cluster → Cluster) (s : State) : State :=
  { s with clusters := tmod {} k f s.clusters }
def State.modDie (d : Nat) (f : Die → Die) (s : State) : State := { s with dies := tmod {} d f s.dies }
def State.modRegion (r : Nat) (f : RegionU → RegionU) (s : State) : State :=
  { s with regions := tmod {} r f s.regions }
def State.modLg (g : Nat) (f : LockGrp → LockGrp) (s : State) : State := { s with lgs := tmod {} g f s.lgs }
def State.modAxis (n : Nat) (f : Axis → Axis) (s : State) : State := { s with axes := tmod {} n f s.axes }

/-- The running lock group a channel is a member of (R45, R46). -/
def State.runGroup (s : State) (n : Nat) : Option Nat :=
  match (s.chan n).member with
  | some g => if (s.lg g).next.isSome then some g else none
  | none => none

/-! ### 48-bit registers (R358) -/

def State.fld48 (s : State) (lo hi : Loc) : Int := toSigned 48 (s.fld lo + s.fld hi % 65536 * 2 ^ 32)

def State.setFld48 (lo hi : Loc) (v : Int) (s : State) : State :=
  let u := ofSigned 48 v
  (s.setFld lo (u % 2 ^ 32)).setFld hi (u / 2 ^ 32)

def State.act (s : State) (n : Nat) : Int := s.fld48 (F.ACT_L n) (F.ACT_H n)
def State.setAct (n : Nat) (v : Int) (s : State) : State := s.setFld48 (F.ACT_L n) (F.ACT_H n) v

/-- 1 step, and 1 step/s, in the units of planned quantities. -/
def stepU : Int := 4294967296

/-! ### Axis state -/

/-! States of AX_STAT. -/
namespace Ax
def off : Nat := 0
def rest : Nat := 1
def moving : Nat := 2
def stopping : Nat := 3
def stopped : Nat := 4
def inhibited : Nat := 5
def fault : Nat := 6
/-! Modes of AX_CFG. -/
def stepper : Nat := 1
def servo : Nat := 2
def rate : Nat := 3
end Ax

def State.axState (s : State) (n : Nat) : Nat := s.fld (F.AX_STAT_STATE n)
def State.axMode (s : State) (n : Nat) : Nat := s.fld (F.AX_CFG_MODE n)
def State.axOn (s : State) (n : Nat) : Bool := s.flag (F.AX_CFG_EN n)

/-- Sets STATE; PP_MOVING follows (R357). -/
def State.setAxState (v n : Nat) (s : State) : State :=
  (s.setFld (F.AX_STAT_STATE n) v).setFbit (F.PP_MOVING_MOVING (n / 32)) (n % 32) (v == Ax.moving || v == Ax.stopping)

/-- PULSE_W in CLK_FAB cycles: below 10 acts as 10. -/
def State.pulseW (s : State) (n : Nat) : Nat := max 10 (s.fld (F.AX_TIM_PULSE_W n))

/-- vlim (R345). -/
def State.vlim (s : State) (n : Nat) : Int := min 0x06666666 (2 ^ 32 / (2 * s.pulseW n) : Nat)

/-- Runs the step generator of axis `n` up to TBC count `t` (R344): every integer crossing is emitted and counted in
ACT, except one that would take ACT outside the soft limits of a RATE or SERVO axis (R338). In FOLLOW the steps are not
driven (R342). -/
def State.genRun (t n : Nat) (s : State) : State :=
  let x := s.axis n
  if x.v = 0 ∨ x.inhibits ≠ [] then s.modAxis n fun x => { x with genAt := t } else
  let lim := s.vlim n
  let s := if lim < x.v ∨ x.v < -lim then s.setFlag (F.AX_STAT_RATE_CLAMP n) true else s
  let v := clampI (-lim) lim x.v
  let total : Int := x.acu + v * ((t - x.genAt : Nat) : Int)
  let k := total / 4294967296 - (x.acu / 4294967296 : Nat)
  let a := s.act n
  let soft := s.flag (F.AX_CFG_SOFT_EN n) && s.axMode n != Ax.stepper
  let b := if soft then clampI (min a (s.fld48 (F.SOFT_LO_L n) (F.SOFT_LO_H n)))
      (max a (s.fld48 (F.SOFT_HI_L n) (F.SOFT_HI_H n))) (a + k) else a + k
  let s := s.modAxis n fun x =>
    { x with acu := ofSigned 56 total, genAt := t, limitHit := x.limitHit || b != a + k }
  let s := s.setAct n b
  if s.mode = Mode.follow then s
  else s.modChan n fun c => { c with stepPend := c.stepPend + (b - a).natAbs, stepNet := c.stepNet + (b - a) }

/-- Runs the step generator of axis `n` up to now; rates that waited for their tick take over there (R28). -/
def State.genAdvance (n : Nat) (s : State) : State :=
  if (s.runGroup n).isSome then s.genRun s.tbc n
  else
    let due := (s.axis n).vNext.filter fun p => p.1 ≤ s.tbc
    let s := forL due (fun p s =>
      (s.genRun (max p.1 (s.axis n).genAt) n).modAxis n fun x => { x with v := p.2, vNext := x.vNext.drop 1 }) s
    s.genRun s.tbc n

/-- Sets the step velocity, the generator having run up to now. -/
def State.setV (n : Nat) (v : Int) (s : State) : State :=
  let s := s.genAdvance n
  let s := if (s.axis n).v = 0 ∧ v ≠ 0 then s.setFld (F.STALL_STAT_COUNT n) 0 else s
  s.modAxis n fun x => { x with v := v, vNext := [] }

/-- A group tick applies the newest rate that is available (R45). -/
def State.tickV (n : Nat) (s : State) : State :=
  match ((s.axis n).vNext.filter fun p => p.1 ≤ s.tbc).getLast? with
  | some p =>
    let rest := (s.axis n).vNext.filter fun p => s.tbc < p.1
    (s.setV n p.2).modAxis n fun x => { x with vNext := rest }
  | none => s

/-- Shows the planned position, velocity and remaining distance in POS, VEL and REM (R333, R358). -/
def State.axShow (n : Nat) (s : State) : State :=
  let x := s.axis n
  let s := s.setFld48 (F.POS_L n) (F.POS_H n) (x.pos / stepU)
  s.setSFld (F.VEL n) (x.vel / 16777216)

/-- REM := target − position. -/
def State.axRem (n : Nat) (s : State) : State :=
  s.setFld48 (F.REM_L n) (F.REM_H n) ((s.axis n).target - (s.axis n).pos / stepU)

/-- Is the axis moving: a planned or a commanded velocity? -/
def State.axMoves (s : State) (n : Nat) : Bool := (s.axis n).vel != 0 || (s.axis n).v != 0

/-- Inhibits an enabled axis for a cause (R341): no step from now on, v and a 0, the planned position is ACT; REM
keeps what remains of a move, and POS_LOST sets, if it was moving. -/
def State.axInhibit (cause stopCause n : Nat) (s : State) : State :=
  if !s.axOn n then s else
  let s := s.bhtLost n
  let moved := s.axMoves n
  let first := (s.axis n).inhibits.isEmpty
  let s := s.setV n 0
  let a := s.act n
  let s := s.modAxis n fun x =>
    { x with inhibits := if x.inhibits.contains cause then x.inhibits else x.inhibits ++ [cause],
             vel := 0, acc := 0, pos := a * stepU, segs := [], thenInhibit := false, byHold := false,
             target := if s.axMode n = Ax.stepper || s.axMode n = Ax.servo then x.target else a }
  let s := if first ∧ s.axState n ≠ Ax.fault then s.setAxState Ax.inhibited n else s
  let s := if first then s.setFld (F.AX_STAT_STOP_CAUSE n) stopCause else s
  let s := if moved then (s.axRem n).setFlag (F.AX_STAT_POS_LOST n) true else s
  (s.axShow n).setFlag (F.AX_STAT_IN_POS n) false

/-- A cause of an inhibit releases; once every cause has, STATE becomes STOPPED (R341). -/
def State.axRelease (cause n : Nat) (s : State) : State :=
  let x := s.axis n
  if !x.inhibits.contains cause then s
  else
    let rest := x.inhibits.filter (· != cause)
    let s := s.modAxis n fun x => { x with inhibits := rest }
    if rest.isEmpty ∧ s.axState n = Ax.inhibited then s.setAxState Ax.stopped n else s

/-- Queues a command for the next update instant (R334). -/
def State.axQueue (code : Nat) (arg : Int) (n : Nat) (s : State) : State :=
  s.modAxis n fun x => { x with cmds := x.cmds ++ [(code, arg, s.tbc)] }

/-- SAFE_ACT of a severity-4 reaction, of IDLE or of LOCKOUT (R342): ESTOP and then an inhibit at rest, or an inhibit. -/
def State.axSafe (cause n : Nat) (s : State) : State :=
  if !s.axOn n then s
  else if s.flag (F.AX_CFG_SAFE_ACT n) && s.axMode n != Ax.rate && s.axMoves n && (s.axis n).inhibits.isEmpty then
    (s.axQueue 10 0 n).modAxis n fun x =>
      { x with thenInhibit := true, byHold := false, inhibits := x.inhibits }
  else s.axInhibit cause 4 n

/-- Entry into HOLD stops axis `n` when it moves, or when a move is queued that would start it (R52, R334, R342). -/
def State.axHold (n : Nat) (s : State) : State :=
  if s.axState n = Ax.moving ∨ (s.axis n).cmds.any (fun c => c.1 == 1 || c.1 == 11) then
    (s.axQueue 9 0 n).modAxis n fun x => { x with byHold := true }
  else s

/-- The return to RUN or ENGINEER: a stop that HOLD queued and that has not been made is dropped, the later change's effect
standing (R55); an axis stopped only by HOLD resumes when AUTO_RES is 1 (R342). -/
def State.axUnhold (n : Nat) (s : State) : State :=
  let x := s.axis n
  if x.cmds.any fun c => c.1 == 9 then
    s.modAxis n fun x => { x with cmds := x.cmds.filter fun c => c.1 != 9, byHold := false }
  else if x.byHold && s.flag (F.AX_CFG_AUTO_RES n) then (s.axQueue 13 0 n).modAxis n fun x => { x with byHold := false }
  else s

/-- The mode change's effects on axes (R55, R342). -/
def State.motMode (old new : Nat) (s : State) : State :=
  forN 128 (fun n s =>
    if !s.axOn n then s
    else if new = Mode.idle ∨ new = Mode.lockout then s.axSafe 4 n
    else
      let s := if new ≠ Mode.dawn ∧ new ≠ Mode.vault then s.axRelease 4 n else s
      if new = Mode.hold then s.axHold n
      else if old = Mode.hold ∧ (new = Mode.run ∨ new = Mode.engineer) then s.axUnhold n
      else s) s

end Sys2Proof.Machine
end

