-- ==== Sys2Proof/Machine/UnitMode.lean ====
section
/-!
DEFINITION. What a mode change does to the units: sequencers (R323, R324), CAN controllers (R485), calibration and
certification (R228, R240), the brake holding test (R514).
-/

set_option Elab.async false

namespace Sys2Proof.Machine

/-! ### Sequencers -/

/-! STATE values of RS_STAT. -/
namespace Rs
def idle : Nat := 0
def running : Nat := 1
def paused : Nat := 2
def frozen : Nat := 3
def suspended : Nat := 4
def done : Nat := 5
def faulted : Nat := 6
end Rs

def State.seq (s : State) (n : Nat) : Seq := tget {} s.seqs n
def State.modSeq (n : Nat) (f : Seq → Seq) (s : State) : State := { s with seqs := tmod {} n f s.seqs }
def State.modPos (n : Nat) (f : SeqPos → SeqPos) (s : State) : State := s.modSeq n fun q => { q with pos := f q.pos }

/-- Shows a sequencer's position in RS_STAT, RS_STEP, RCP_ACTIVE and RCP_SUSP (R328). -/
def State.seqShow (n : Nat) (s : State) : State :=
  let p := (s.seq n).pos
  let s := (s.setFld (F.RS_STAT_STATE n) p.st).setFlag (F.RS_STAT_RAMP_ACT n) (!p.ramps.isEmpty)
  let s := ((s.setFld (F.RS_STEP_STEP n) p.step).setFld (F.RS_STEP_PREV n) p.prev).setFld (F.RS_STEP_ACT n) p.act
  (s.setFbit F.RCP_ACTIVE_ACTIVE n (p.st == Rs.running || p.st == Rs.paused || p.st == Rs.frozen)).setFbit F.RCP_SUSP_SUSP n
    (p.st == Rs.suspended)

/-- A running position stands still at TBC count `t`: elapsed time and ramp times are held, hold counts restart (R323). -/
def SeqPos.freeze (st t : Nat) (p : SeqPos) : SeqPos :=
  if p.st = Rs.running then
    { p with st := st, held := ((t : Int) - p.s).toNat, holdFrom := none, ramps := p.ramps.map fun r => { r with t0 := r.t0 - t } }
  else { p with st := st, holdFrom := none }

/-- It goes on at the tick `t`: S and the ramps' starts are set back by what had elapsed. -/
def SeqPos.thaw (t : Nat) (p : SeqPos) : SeqPos :=
  { p with st := Rs.running, s := (t : Int) - p.held, ramps := p.ramps.map fun r => { r with t0 := r.t0 + t } }

/-- The mode change's effect on sequencer `n`: HOLD freezes, IDLE and LOCKOUT suspend, RUN and ENGINEER resume (R323,
R324). -/
def State.rcpModeOf (new n : Nat) (s : State) : State :=
  let p := (s.seq n).pos
  let s :=
    if new = Mode.hold then
      (if p.st = Rs.running then (s.modPos n (SeqPos.freeze Rs.frozen s.tbc)).modSeq n fun q => { q with prep := none } else s)
    else if new = Mode.idle ∨ new = Mode.lockout then
      (if p.st = Rs.running ∨ p.st = Rs.paused ∨ p.st = Rs.frozen then
        s.modSeq n fun q =>
          { q with prep := none,
                   pos := { q.pos.freeze Rs.suspended s.tbc with wasPaused := decide (p.st = Rs.paused), suspAt := some s.tbc } }
       else s)
    else if new = Mode.run ∨ new = Mode.engineer then
      (if p.st = Rs.frozen then s.modPos n fun p => { p with resume := some (p.resume.getD none) }
       else if p.st = Rs.suspended then
         let l := match p.suspAt with
           | some t => (s.tbc - t) / 250000
           | none => 0
         let l := (p.resume.getD none).getD 0 + l
         s.modPos n fun p =>
           { p with resume := some (some l), suspAt := none, st := if p.wasPaused then Rs.paused else Rs.suspended }
       else s)
    else s
  s.seqShow n

/-- The mode change's effect on every sequencer. -/
def State.rcpMode (_old new : Nat) (s : State) : State := forL (s.seqs.map Prod.fst) (State.rcpModeOf new) s

/-! ### CAN controllers (R485) -/

def State.can (s : State) (n : Nat) : CanU := tget {} s.cans n
def State.modCan (n : Nat) (f : CanU → CanU) (s : State) : State := { s with cans := tmod {} n f s.cans }

/-- Discards every pending frame of a controller with a TXCODE; the frame on the bus goes on when `all` is false. -/
def State.canDiscard (n code : Nat) (all : Bool) (s : State) : State :=
  let c := s.can n
  let cur := match c.cur with
    | some (m, _) => if all then none else some m
    | none => none
  let s := forL (c.pend.filter fun m => cur != some m) (fun m s =>
    (s.setFld (F.OBJ_STAT_TXCODE n m) code).setFlag (F.OBJ_STAT_TXREQ n m) false) s
  s.modCan n fun c =>
    { c with pend := c.pend.filter (fun m => cur == some m), cur := if all then none else c.cur, again := false }

/-- Controller `n` goes OFF (R484): not integrated, counters 0. -/
def State.canOff (n : Nat) (s : State) : State :=
  let s := (s.canDiscard n 10 true).modCan n fun c => { c with mode := 0, want := none, abd := none }
  (((s.setFld (F.CAN_CTRL_OPMODE n) 0).setFld (F.CAN_STAT_STATE n) 0).setFld (F.CAN_STAT_TEC n) 0).setFld (F.CAN_STAT_REC n) 0

/-- The mode change's effect on the controllers: OFF in DAWN and VAULT; in IDLE, LOCKOUT and FOLLOW no frame is started,
and pending triggers are discarded with NOT_SENT. -/
def State.canMode (_old new : Nat) (s : State) : State :=
  forL (s.cans.map Prod.fst) (fun n s =>
    if new = Mode.dawn ∨ new = Mode.vault then s.canOff n
    else if new = Mode.idle ∨ new = Mode.lockout ∨ new = Mode.follow then s.canDiscard n 10 false else s) s

/-- A calibration of cluster `k` is requested (R228): CAL reads 1; it runs at once when the reference is settled. -/
def State.calRequest (k : Nat) (s : State) : State :=
  if s.flag (F.CL_CTRL_CAL k) || (s.die (k / 4)).calFail then s
  else
    let s := s.setFlag (F.CL_CTRL_CAL k) true
    if s.flag (F.CL_STAT_REF_SETTLED k) then
      (s.setFlag (F.CL_STAT_CAL_BUSY k) true).modCluster k fun c => { c with calStart := some s.tbc, calWait := false, calDone := false }
    else s.modCluster k fun c => { c with calWait := true }

/-- A certification ends without a new record (R240): the points are discarded and the die's clusters calibrate. -/
def State.certDrop (d : Nat) (s : State) : State :=
  if (s.die d).cert then
    let s := s.modDie d fun x => { x with cert := false, points := [], acquiring := none, driven := none }
    forN 4 (fun i t => t.calRequest (4 * d + i)) (s.setFld (F.CERT_STAT_POINTS d) 0)
  else s

/-- The dusk sequence discards the captured points (R240). -/
def State.certForget (d : Nat) (s : State) : State :=
  if (s.die d).cert then
    (s.modDie d fun x => { x with cert := false, points := [], acquiring := none, driven := none }).setFld (F.CERT_STAT_POINTS d) 0
  else s

/-- Leaving IDLE ends a certification (R240). -/
def State.anaMode (old new : Nat) (s : State) : State :=
  if old = Mode.idle ∧ new ≠ Mode.idle then forN 4 State.certDrop s else s

end Sys2Proof.Machine
end

