-- ==== Sys2Proof/Machine/Modes.lean ====
section
/-!
DEFINITION. The mode machine's inner operations: the transitions that R53 allows, carrying out a mode change
(R54, R55), the sentinel's LOCKOUT (R507) and the fault collector's raise with its reaction (R516 to R523).
-/

set_option Elab.async false

namespace Sys2Proof.Machine

/-! ### Entering the running modes -/

/-- The first tick after tick `k` that is a start instant of a cyclic task (R150). -/
def nextTickOf (d : TaskDesc) (k : Nat) : Nat :=
  let p := max 1 d.period
  k + p - (k + p - d.phase % p) % p

/-- Sets the recurring entries of every cyclic task to the next start instant (R155, R200). -/
def State.startCyclic (s : State) : State :=
  match s.scan.program with
  | none => s.modSched fun u => { u with cyclic := true }
  | some p => s.modSched fun u =>
      { u with
        cyclic := true
        next := (p.tasks.filter (fun d => d.kind == .cyclic)).foldl
          (fun t d => tset 0 d.num (nextTickOf d (s.tbc / 250)) t) [] }

/-- The init tasks due at an entry of RUN, HOLD or ENGINEER from IDLE or DAWN (R155): after a cold restart all,
after a warm one those with WARM_INIT. In ascending task number. -/
def State.initTasks (s : State) : List Nat :=
  match s.scan.program with
  | none => []
  | some p =>
    let warm := s.fld F.SYS_RESTART_KIND == 2
    (List.range 64).filter fun t => p.tasks.any fun d => d.num == t && d.kind == .init && (!warm || d.warmInit)

/-- The init tasks that run at the entry: those of the restart, and those that were still to run before (R149). -/
def State.initsDue (s : State) : List Nat :=
  (List.range 64).filter fun t => s.initTasks.contains t ||
    (s.sched.inits.contains t && match s.task t with
      | some d => d.kind == .init
      | none => false)

/-- Task dispatch at the entry of a mode: init tasks first, cyclic starts after the last of them (R155); FOLLOW
runs the cyclic tasks at once (R52). TASK_DT starts again at 0 (R102). -/
def State.schedMode (old new : Nat) (s : State) : State :=
  if new = Mode.idle ∨ new = Mode.lockout then s.schedFlush
  else if old = Mode.idle ∨ old = Mode.dawn then
    let s := { s with scan := { s.scan with prevStart := [] } }
    if new = Mode.run ∨ new = Mode.hold ∨ new = Mode.engineer then
      match s.initsDue with
      | [] => s.startCyclic
      | l => s.modSched fun u => { u with inits := l, cyclic := false }
    else if new = Mode.follow then s.startCyclic
    else s
  else s

/-! ### Mode changes -/

/-- The transitions of R53. -/
def modeAllowed (old new : Nat) : Bool :=
  (old == 0 && new == 1) || (old != 0 && new == 0) ||
  (old == 1 && (new == 2 || new == 3 || new == 4 || new == 5 || new == 6 || new == 7)) ||
  (old == 2 && (new == 3 || new == 6)) ||
  ((old == 3 || old == 5) && new == 4) || (old == 4 && new == 3) || ((old == 3 || old == 4) && new == 5) ||
  (old == 5 && new == 3) || ((old == 3 || old == 4 || old == 5 || old == 6) && new == 2) ||
  (old == 6 && new == 3) || (old != 0 && old != 1 && old != 7 && new == 7) || (old == 7 && new == 2)

/-- Leaving ENGINEER resumes every halted execution (R55, R180): the core goes on, its halted time counted. -/
def State.releaseBreakpoints (s : State) : State :=
  { s with scan := { s.scan with execs := tmap {} (fun _ e =>
      if e.halted then { e with halted := false, haltedFor := e.haltedFor + (s.tbc - e.haltedFrom) } else e) s.scan.execs } }

/-- The sentinel parts of a mode change: SAFE_REQ is held at 0 in DAWN, IDLE, LOCKOUT and FOLLOW (R500), the
confirmation window closes on leaving ENGINEER (R511), a brake holding test ends INCONCLUSIVE outside RUN and
ENGINEER (R514). -/
def State.safeMode (old new : Nat) (s : State) : State :=
  let s := if new = Mode.idle ∨ new = Mode.lockout ∨ new = Mode.follow ∨ new = Mode.dawn then
      forL (s.safe.sbcs.map Prod.fst) (State.sbcEngage false) (s.setFld F.SAFE_REQ_REQ 0)
    else s
  let s := if old = Mode.engineer then
      { s.setFlag F.SAFE_STAT_CONF_OPEN false with safe := { s.safe with window := none } }
    else s
  if new = Mode.run ∨ new = Mode.engineer then s else s.bhtInconclusive

/-- SYS_MODE after a change from `was` to mode `new` (R56): PREV reads 0 after DAWN, which VAULT precedes (R52); back in the
mode of `was` it is as it was. -/
def modeWord (was : Word) (new : Nat) : Word :=
  let old := bitsOf was 0 3
  if old = new then was
  else BitVec.ofNat 32 (new % 8 + (if old = Mode.dawn then 0 else old * 16) + (bitsOf was 8 8 + 1) % 256 * 256)

/-- Task dispatch goes on in place of the flush of an entry of IDLE that a takeover of the same count discards (R54). -/
def State.schedAgain (old new : Nat) (s : State) : State :=
  if old = Mode.follow ∧ new = Mode.run ∧ !s.sched.cyclic then s.startCyclic else s

/-- Carries out a mode change (R55) from the mode of `was`, SYS_MODE before it: SYS_MODE reads the new mode at once and every
unit takes its effect. The level-2 hold of a severity-4 reaction is released on leaving IDLE once no source of severity 4 or 5
is uncleared (R520). -/
def State.setModeFrom (was : Word) (new : Nat) (s : State) : State :=
  let old := bitsOf was 0 3
  let s := s.setReg F.SYS_MODE_MODE.addr (modeWord was new)
  let s := if old = Mode.idle ∧ s.flt.srcs.all (fun p => !(p.2.pending && 4 ≤ p.2.effSev)) then
      { s with flt := { s.flt with hold2 := false } } else s
  let s := if old = Mode.engineer then s.releaseBreakpoints else s
  let s := (s.schedMode old new).schedAgain old new
  let s := s.rcpMode old new
  let s := s.motMode old new
  let s := s.anaMode old new
  let s := s.canMode old new
  let s := s.safeMode old new
  s.log .modeChange old new

/-- A mode change from the mode that holds. -/
def State.setMode (new : Nat) (s : State) : State := s.setModeFrom (s.reg F.SYS_MODE_MODE.addr) new

/-- A change of mode that R53 allows; any other is not made. -/
def State.changeMode (new : Nat) (s : State) : State :=
  if modeAllowed s.mode new then s.setMode new else s

/-! ### Causes that meet in one count (R54) -/

/-- Has a cause that ranks before `r` acted in this TBC count? -/
def State.preempted (s : State) (r : Nat) : Bool :=
  match s.sys.causeAt with
  | some (t, q, _) => t == s.tbc && q < r
  | none => false

/-- Has a cause that ranks after `r` acted in this TBC count, and which? -/
def State.beaten (s : State) (r : Nat) : Option Nat :=
  match s.sys.causeAt with
  | some (t, q, _) => if t = s.tbc ∧ r < q then some q else none
  | none => none

/-- SYS_MODE against which a cause of rank `r` is judged: as it stood before the causes of this count that `r` beats or that
beat `r`, else as it stands. -/
def State.modeBase (s : State) (r : Nat) : Word :=
  match s.sys.causeAt with
  | some (t, q, w) => if t = s.tbc ∧ r ≠ q then w else s.reg F.SYS_MODE_MODE.addr
  | none => s.reg F.SYS_MODE_MODE.addr

/-- The mode against which a cause of rank `r` is judged. -/
def State.modeAt (s : State) (r : Nat) : Nat := bitsOf (s.modeBase r) 0 3

/-- A cause of rank `r` wins in this count. What it beats is discarded: a command reports PREEMPTED, an accepted press becomes
a rejected one with LAST_REJ 4 (R54). -/
def State.cause (r : Nat) (s : State) : State :=
  let w := s.modeBase r
  let t := match s.beaten r with
    | some 7 => s.setFld F.SYS_CMDSTAT_RESULT Res.preempted
    | some 6 => ((s.setFld F.SAFE_RST_ACCEPTED (s.fld F.SAFE_RST_ACCEPTED - 1)).incSat F.SAFE_RST_REJECTS).setFld F.SAFE_RST_LAST_REJ 4
    | _ => s
  { t with sys := { t.sys with causeAt := some (s.tbc, r, w) } }

/-- A cause of rank `r` that R53 allows from the modes `froms` changes the mode, unless a better one has acted in this
count. -/
def State.causeMode (r : Nat) (froms : List Nat) (new : Nat) (s : State) : State :=
  if froms.contains (s.modeAt r) && !s.preempted r then (s.cause r).setModeFrom (s.modeBase r) new else s

/-! ### Sentinel LOCKOUT -/

/-- Level 1 of R165 acts: the sentinel holds safe-off. -/
def State.safeOff (s : State) : Bool := s.flag F.SAFE_STAT_SOFF

/-- A bit of a safety-parameter bitmap (R510). -/
def State.softParam (s : State) (base n : Nat) : Bool := bitOf (s.safeParam (base + n / 8) 1) (n % 8)

/-- Does sentinel safe-off act on the FIO output, the AOUT, the axis of channel `n` (R165, R510)? -/
def State.soffFio (s : State) (n : Nat) : Bool := s.safeOff && s.softParam 400 n
def State.soffAout (s : State) (n : Nat) : Bool := s.safeOff && s.softParam 416 n
def State.soffMot (s : State) (n : Nat) : Bool := s.safeOff && s.softParam 432 n

/-- The enabled axes that the safety parameters assign follow safe-off (R25, R342). -/
def State.soffAxes (s : State) : State :=
  forL (s.axes.map Prod.fst) (fun n s => if s.soffMot n then s.axInhibit 2 7 n else s.axRelease 2 n) s

/-- The sentinel enters LOCKOUT with its first reason (R507): every high-side switch off, low-side gates held off,
safe-off held also on the axes, a test pulse that meets the demand inconclusive (R506), a brake test INCONCLUSIVE (R514); the
device mode follows unless it is VAULT or DAWN (R53, R62). A further cause changes neither REASON nor ARG. -/
def State.lockout (reason arg : Nat) (s : State) : State :=
  if s.fld F.SAFE_STAT_STATE = 1 then { s with safe := { s.safe with fresh := some (reason, arg, s.tbc) } } else
  let s := s.bhtInconclusive
  let s := s.setFld F.SAFE_STAT_STATE 1
  let s := s.setFld F.SAFE_STAT_REASON reason
  let s := s.setFld F.SAFE_STAT_ARG arg
  let s := (s.setFlag F.SAFE_STAT_SOFF true).soffAxes
  let s := forL (s.safe.sbcs.map Prod.fst) (State.sbcEngage true) s
  s.causeMode 2 [Mode.idle, Mode.run, Mode.hold, Mode.engineer, Mode.follow, Mode.lockout] Mode.lockout

/-! ### Fault sources -/

/-- The state of a fault source. -/
def State.src (s : State) (n : Nat) : FltSrc := tget {} s.flt.srcs n

/-- Changes a fault source. -/
def State.modSrc (n : Nat) (f : FltSrc → FltSrc) (s : State) : State :=
  { s with flt := { s.flt with srcs := tmod {} n f s.flt.srcs } }

/-- SEV of a source with the named severity and the escalation applied, at most 5 (R518). -/
def State.effSev (s : State) (n named : Nat) : Nat :=
  min 5 (max (max (s.fld (F.FLT_CFG0_SEV n)) (s.fld (F.FLT_CFG0_MIN n))) named + b2n (s.src n).esc)

/-- The error task named for a source (R533). -/
def State.srcErrTask (s : State) (n : Nat) : Option Nat :=
  let t := s.fld (F.FLT_CFG0_ETASK n)
  if s.isErrTask t then some t else s.defaultErr

/-- Sends FAULT to the source's error task when ETASK_EN is 1 (R519, R177). -/
def State.faultReason (n sev : Nat) (s : State) : State :=
  if s.flag (F.FLT_CFG0_ETASK_EN n) then s.reasonTo (s.srcErrTask n) 0x08 n sev 0 else s

/-- The reaction of an effective severity (R519). -/
def State.react (n sev : Nat) (s : State) : State :=
  let s := if 1 ≤ sev then s.faultReason n sev else s
  if sev = 3 then s.causeMode 5 [Mode.run, Mode.engineer] Mode.hold
  else if sev = 4 then
    { s with flt := { s.flt with hold2 := true } }.causeMode 4 [Mode.run, Mode.hold, Mode.engineer, Mode.follow] Mode.idle
  else if 5 ≤ sev then { s with flt := { s.flt with hold2 := true } }.lockout 9 0
  else s

/-- A raise of source `n` by unit `unit` at a severity of at least `named` (R518, R519). -/
def State.raise (n unit : Nat) (named : Nat := 0) (injected : Bool := false) (s : State) : State :=
  if !fltExists n then s else
  let x := s.src n
  let sev := s.effSev n named
  let x := { x with raises := min 65535 (x.raises + 1), injected := injected, lastActive := s.tbc }
  if x.pending then s.modSrc n fun _ => { x with multi := x.multi || unit != x.unit }
  else
    let x := if sev = 0 then x else { x with pending := true, named := named, effSev := sev, unit := unit, multi := false }
    let s := s.modSrc n fun _ => x
    let s := s.evlCode n sev unit (b2n injected)
    s.react n sev

/-- A condition source becomes active for a unit (R517). -/
def State.raiseCond (n unit : Nat) (named : Nat := 0) (s : State) : State :=
  let s := s.modSrc n fun x => { x with active := true, units := if x.units.contains unit then x.units else x.units ++ [unit] }
  s.raise n unit named

/-- The condition of a unit ends; the source is inactive once no unit has it (R517, R522). -/
def State.endCond (n unit : Nat) (s : State) : State :=
  s.modSrc n fun x =>
    let us := x.units.filter (· != unit)
    { x with units := us, active := !us.isEmpty, lastActive := if x.active then s.tbc else x.lastActive }

/-- A hardware source submits an event; a loss raises the dispatcher's loss source (R197). -/
def State.hwEvent (n : Nat) (payload : Word) (s : State) : State :=
  let (t, lost) := s.hwSubmit n payload
  if lost then t.raise 10 0 else t

/-- A unit's access to `n` bytes at `a` of the LPDDR: above the fitted capacity nothing is accessed and MEM_RANGE is raised (R2). -/
def State.ifFitted (a n : Nat) (f : State → State) (s : State) : State := if s.unfitted a n then s.raise 3 0 else f s

/-- Is a source of severity `v` or more uncleared? -/
def State.sevPending (s : State) (v : Nat) : Bool := s.flt.srcs.any fun p => p.2.pending && v ≤ p.2.effSev

end Sys2Proof.Machine
end

