-- ==== Sys2Proof/Machine/Faults.lean ====
section
/-!
DEFINITION. The fault collector's commands and timers (R520 to R523, R531, R533), the event log's and the
vault's commands (R538, R541, R543, R546).
-/

set_option Elab.async false

namespace Sys2Proof.Machine

/-- What a command answers. -/
abbrev Out := Host.Outcome State Fault Refusal

/-! ### Fault collector -/

/-- Reports the result of an FLT command. -/
def State.fltResult (code res : Nat) (s : State) : State :=
  (s.setFld F.FLT_CMDSTAT_CODE code).setFld F.FLT_CMDSTAT_RESULT res

/-- Clears one inactive source: uncleared no longer, ESC and the clear times of an escalated one gone (R522, R523). -/
def State.clearSrc (n : Nat) (s : State) : State :=
  s.modSrc n fun x =>
    if x.active then x
    else { x with pending := false, effSev := 0, multi := false, esc := false, clears := if x.esc then [] else x.clears }

/-- Arms an injection, or refuses it (R531). -/
def State.inject (s : State) : State :=
  let chk := s.fld F.FLT_INJ_CHK
  if !s.inMode [Mode.idle, Mode.engineer] || chk == 0 || chk == 7 || s.flt.inj.isSome then s.fltResult 0x04 Res.refusedState
  else
    let nb := s.fld F.FLT_INJ_NBITS
    let i : Injection := { chk := chk, nbits := if nb = 2 then 2 else 1, target := s.fld F.FLT_INJ_TARGET,
                           addr := s.fld2 F.FLT_INJADDR_L_ADDR F.FLT_INJADDR_H_ADDR, lapse := s.tbc + sec 1 }
    ({ s with flt := { s.flt with inj := some i } }.setFlag F.FLT_CMDSTAT_INJ_PEND true).fltResult 0x04 Res.pending

/-- The armed injection, if it is of checker `chk`. -/
def State.injOf (s : State) (chk : Nat) : Option Injection :=
  match s.flt.inj with
  | some i => if i.chk = chk then some i else none
  | none => none

/-- The armed injection has acted: INJ_PEND clears, and RESULT reads OK where it still reads PENDING (R531). -/
def State.injDone (s : State) : State :=
  let r := s.fld F.FLT_CMDSTAT_RESULT
  ({ s with flt := { s.flt with inj := none } }.setFlag F.FLT_CMDSTAT_INJ_PEND false).setFld F.FLT_CMDSTAT_RESULT
    (if r = Res.pending then Res.ok else r)

/-- An FLT command with its KEY (R533): a wrong KEY is ignored but for BADKEY, DAWN refuses, else by code. -/
def State.fltCmd (key code : Nat) (s : State) : State :=
  if key ≠ 0xA5 then s.fltResult (s.fld F.FLT_CMDSTAT_CODE) Res.badKey
  else if s.mode = Mode.dawn then s.fltResult code Res.refusedState
  else if code = 0x01 then
    let n := s.fld F.FLT_ARG_SOURCE
    if (s.src n).active then s.fltResult code Res.refusedFault else (s.clearSrc n).fltResult code Res.ok
  else if code = 0x02 then
    (forL (s.flt.srcs.map Prod.fst) State.clearSrc s).fltResult code Res.ok
  else if code = 0x03 then
    let n := s.fld F.FLT_ARG_SOURCE
    if 448 ≤ n then (s.raise n 0).fltResult code Res.ok else s.fltResult code Res.refusedState
  else if code = 0x04 then s.inject
  else s.fltResult code Res.refusedState

/-- FLT_CLEAR: the command CLEAR for the source in FLT_ARG (R522). -/
def execFltClear (_o : Origin) (key : Byte) (s : State) : Out := .next (s.fltCmd key.toNat 0x01)

/-- FLT_CLEAR_ALL (R522). -/
def execFltClearAll (_o : Origin) (key : Byte) (s : State) : Out := .next (s.fltCmd key.toNat 0x02)

/-- RAISE: raises the software source in FLT_ARG (R521). -/
def execRaise (_o : Origin) (key : Byte) (s : State) : Out := .next (s.fltCmd key.toNat 0x03)

/-- INJECT (R531). -/
def execInject (_o : Origin) (key : Byte) (s : State) : Out := .next (s.fltCmd key.toNat 0x04)

/-- INJECTION_LAPSE: an injection that has not acted within 1 s lapses with TIMEOUT (R531). -/
def execInjectionLapse (s : State) : Out :=
  .next (match s.flt.inj with
    | some i => if i.lapse ≤ s.tbc then s.injDone.setFld F.FLT_CMDSTAT_RESULT Res.timeout else s
    | none => s)

/-- FAULT_RAISE: a checker raises a source as a happening or as a condition that begins (R517 to R519). -/
def execFaultRaise (src : Fin 512) (unit : Fin 4096) (named : Fin 6) (cond : Bool) (s : State) : Out :=
  .next (if cond then s.raiseCond src unit named else s.raise src unit named)

/-- Is an automatic clear now the one that makes ESC_LIM clears within ESC_WIN (R523)? -/
def escalates (lim win opt : Nat) (clears : List Nat) : Bool :=
  lim != 0 && (lim == 1 || match clears[lim - 2]? with
    | some t => opt - t ≤ win * 1024
    | none => false)

/-- QUIET_EXPIRY: an inactive, unescalated source of EFF_SEV 1 to 3 that has been quiet for QUIET ms clears, or
escalates by one level with its reaction, its reason and its record (R522, R523). -/
def execQuietExpiry (n : Fin 512) (s : State) : Out :=
  let x := s.src n
  let quiet := max 1 (s.fld (F.FLT_CFG1_QUIET n))
  if x.pending && !x.active && !x.esc && 1 ≤ x.effSev && x.effSev ≤ 3 && x.lastActive + ms quiet ≤ s.tbc then
    let lim := s.fld (F.FLT_CFG0_ESC_LIM n)
    if escalates lim (max 1 (s.fld (F.FLT_CFG1_ESC_WIN n))) s.vault.opt x.clears then
      let sev := x.effSev + 1
      let s := s.modSrc n fun x => { x with esc := true, effSev := sev }
      let s := s.evlCode (0x200 + n) sev x.recov sev
      .next (s.react n sev)
    else
      .next (s.modSrc n fun x =>
        { x with pending := false, effSev := 0, multi := false, recov := min 65535 (x.recov + 1),
                 clears := (s.vault.opt :: x.clears).take lim })
  else .next s

/-- A write of FLT_CFG0s (R518, R520): SEV never below Min; an uncleared source takes the new EFF_SEV at once. -/
def State.fltCfg0Write (n : Nat) (v : Word) (s : State) : State :=
  let s := s.plainWrite (F.FLT_CFG0_SEV n).addr v
  let mn := s.fld (F.FLT_CFG0_MIN n)
  let s := if s.fld (F.FLT_CFG0_SEV n) < mn then s.setFld (F.FLT_CFG0_SEV n) mn else s
  let x := s.src n
  if x.pending then
    let sev := s.effSev n x.named
    if x.effSev < sev then (s.modSrc n fun x => { x with effSev := sev }).react n sev
    else if sev = x.effSev then s
    else if sev = 0 then s.modSrc n fun x => { x with pending := false, effSev := 0, multi := false }
    else s.modSrc n fun x => { x with effSev := sev, lastActive := s.tbc }
  else s

/-- SEV_WRITE (R520). -/
def execSevWrite (_o : Origin) (n : Fin 512) (v : Word) (s : State) : Out := .next (s.fltCfg0Write n v)

/-- A write of FLT_CNTs: a field is written only to 0 (R533). -/
def State.fltCntWrite (n : Nat) (v : Word) (s : State) : State :=
  s.modSrc n fun x => { x with recov := if bitsOf v 16 16 = 0 then 0 else x.recov,
                               raises := if bitsOf v 0 16 = 0 then 0 else x.raises }

/-! ### Event log -/

/-- Reports the result of an EVL or vault command. -/
def State.evlResult (code res : Nat) (s : State) : State :=
  (s.setFld F.EVL_CMDSTAT_CODE code).setFld F.EVL_CMDSTAT_RESULT res

/-- An EVL command with its KEY (R546): WRITE of a software record, CLEAR_LOG in ENGINEER (R541). -/
def State.evlCmd (key code wcode : Nat) (s : State) : State :=
  if key ≠ 0xA5 then s.evlResult (s.fld F.EVL_CMDSTAT_CODE) Res.badKey
  else if code = 0x01 then
    if 0xC00 ≤ wcode then
      (s.evlCode wcode (s.evlSev wcode) (s.fld F.EVL_WARG0_ARG0) (s.fld F.EVL_WARG1_ARG1)).evlResult code Res.ok
    else s.evlResult code Res.refusedState
  else if code = 0x02 then
    if s.mode = Mode.engineer then
      let last := s.evl.seq
      ({ s with evl := { s.evl with slots := [] } }.log .logCleared last 0).evlResult code Res.ok
    else s.evlResult code Res.refusedState
  else s.evlResult code Res.refusedState

/-- EVL_WRITE: writes a software record of code WCODE (R546). -/
def execEvlWrite (_o : Origin) (key : Byte) (wcode : Fin 4096) (s : State) : Out :=
  .next (s.evlCmd key.toNat 0x01 wcode)

/-- CLEAR_LOG: empties every slot and writes 'log cleared' (R541). -/
def execClearLog (_o : Origin) (key : Byte) (s : State) : Out := .next (s.evlCmd key.toNat 0x02 0)

/-- A write of EVL_RDSEL copies the slot into EVL_REC0 to EVL_REC7 (R546); an empty slot reads as zeros. -/
def State.evlSelect (v : Word) (s : State) : State :=
  let s := s.plainWrite F.EVL_RDSEL_SLOT.addr v
  let bytes := match tlook s.evl.slots (s.fld F.EVL_RDSEL_SLOT) with
    | some r => r.bytes
    | none => []
  forN 8 (fun k t => t.setFld (F.EVL_REC_WORD k)
    ((List.range 4).foldl (fun a j => a + bytes.getD (4 * k + j) 0 * 256 ^ j) 0)) s

/-- EVL_RDSEL_WRITE (R546). -/
def execEvlRdselWrite (_o : Origin) (v : Word) (s : State) : Out := .next (s.evlSelect v)

/-- A write of EVL_CODEc (R538, R539, R546): RL_EN stays 0 for the codes that are never limited; a write of K and
BURST refills the bucket. -/
def State.evlCodeWrite (c : Nat) (v : Word) (s : State) : State :=
  let a := (F.EVL_CODE_RL_EN c).addr
  let s := s.plainWrite a v
  let s := if (0x500 ≤ c ∧ c < 0x600) ∨ c = Happening.logCleared.code then s.setFlag (F.EVL_CODE_RL_EN c) false else s
  if s.expertOn a then
    { s with evl := { s.evl with buckets := tmod {} c (fun b => { b with taken := 0 }) s.evl.buckets } }
  else s

/-- EVL_CODE_WRITE (R546). -/
def execEvlCodeWrite (_o : Origin) (c : Fin 4096) (v : Word) (s : State) : Out := .next (s.evlCodeWrite c v)

/-- TOKEN_REFILL: where the time since DAWN is a multiple of 2^K ms, one token is added to the code's bucket, up to
BURST (R538). -/
def execTokenRefill (c : Fin 4096) (s : State) : Out :=
  .next (if s.tbc % ms (2 ^ s.fld (F.EVL_CODE_K c)) = 0 then
    { s with evl := { s.evl with buckets := tmod {} c.val (fun b => { b with taken := b.taken - 1 }) s.evl.buckets } }
  else s)

/-- A write of EVL_DROPm: a counter is written only to 0 (R541). -/
def State.evlDropWrite (m : Nat) (v : Word) (s : State) : State :=
  let d := s.evl.drops
  let d := if bitsOf v 0 16 = 0 then tset 0 (2 * m) 0 d else d
  let d := if bitsOf v 16 16 = 0 then tset 0 (2 * m + 1) 0 d else d
  { s with evl := { s.evl with drops := d } }

/-! ### Vault -/

/-- A vault command with its KEY (R543, R546): CLEAR_TAMP in ENGINEER. -/
def State.vaultCmd (key code : Nat) (s : State) : State :=
  if key ≠ 0xA5 then s.evlResult (s.fld F.EVL_CMDSTAT_CODE) Res.badKey
  else if code = 0x01 ∧ s.mode = Mode.engineer then
    { s with vault := { s.vault with tamp := 0 } }.evlResult code Res.ok
  else s.evlResult code Res.refusedState

/-- CLEAR_TAMP (R543). -/
def execClearTamp (_o : Origin) (key : Byte) (s : State) : Out := .next (s.vaultCmd key.toNat 0x01)

/-- VBAT_LOST: VBAT below 2.0 V while VSEN is absent (R543): the flag sets and the vault's contents are lost. What
the chain mark reads afterwards is free (assumption 1); the user area is cleared (R544). -/
def execVbatLost (s : State) : Out :=
  if s.sys.vsen then .next s else
  let (b, s) := s.draw 1
  .next { s with vault :=
    { tamp := withBit s.vault.tamp 0 true, outageUnknown := true, lost := true, chainMark := b == 1 } }

/-- XTAL_STOP: the vault crystal stopped for 4 ms (R543). -/
def execXtalStop (s : State) : Out :=
  .next { s with vault := { s.vault with tamp := withBit s.vault.tamp 1 true, outageUnknown := true } }

/-- CASE_OPEN: one sample of TAMP_N; low at two in a row sets the flag (R543). -/
def execCaseOpen (low : Bool) (s : State) : Out :=
  .next { s with vault := { s.vault with
    tamp := if low && s.vault.tampLow then withBit s.vault.tamp 2 true else s.vault.tamp, tampLow := low } }

end Sys2Proof.Machine
end

