-- ==== Sys2Proof/Machine/Image.lean ====
section
/-!
DEFINITION. The process image where outputs leave it: the station directory and images (R446 to R451), typed values, what a
transfer does to level-5 writers (R167), and the safe values of owned outputs (R162).
-/

set_option Elab.async false

namespace Sys2Proof.Machine

/-! ### Directory -/

/-- Address of the descriptor of a remote handle (R450). -/
def State.descAddr (s : State) (h : Nat) : Nat := lpddrBase + s.fld F.SL_DIRBASE_BASE * 0x100000 + 16 * (h % 2 ^ 25)

/-- Reads the descriptor of a remote handle. -/
def State.desc (s : State) (h : Nat) : Desc :=
  let w := s.word (s.descAddr h)
  { valid := w.getLsbD 31, mapped := w.getLsbD 30, output := w.getLsbD 29, subst := bitsOf w 27 2, bit := bitsOf w 24 3,
    type := bitsOf w 20 4, ofs := bitsOf w 0 10, value := s.word (s.descAddr h + 4) }

/-- Link, station and object of a remote handle (R446). -/
def epLink (h : Nat) : Nat := h / 2 ^ 21 % 16
def epStation (h : Nat) : Nat := h / 2 ^ 13 % 256
def epObject (h : Nat) : Nat := h % 2 ^ 13

/-- Does the link's part of the directory lie within the fitted capacity (R447, R450)? -/
def State.dirFits (s : State) (n : Nat) : Bool := s.fld F.SL_DIRBASE_BASE * 0x100000 + (n + 1) * 0x2000000 ≤ s.fitted

/-- Size in bytes of an object type (R451). -/
def typeSize (t : Nat) : Nat := if t ≤ 2 then 1 else if t ≤ 4 then 2 else 4

/-- A value of an object type from its bytes, extended to 32 bits (R448). -/
def typeRead (t bit : Nat) (raw : Nat) : Word :=
  if t = 0 then BitVec.ofNat 32 (b2n (bitOf raw bit))
  else if t = 2 then BitVec.ofInt 32 (toSigned 8 raw)
  else if t = 4 then BitVec.ofInt 32 (toSigned 16 raw)
  else BitVec.ofNat 32 (raw % 256 ^ typeSize t)

/-- The remote handles of a link whose descriptor has VALID and MAPPED set. -/
def State.mappedOf (s : State) (n : Nat) : List Nat :=
  let base := s.descAddr (n * 2 ^ 21)
  (s.mem.filterMap fun c =>
    if base ≤ c.1 ∧ c.1 < base + 0x2000000 ∧ c.1 % 16 = 3 then some (n * 2 ^ 21 + (c.1 - base) / 16) else none).filter
      fun h => (s.desc h).valid && (s.desc h).mapped

/-! ### Station images -/

/-- The state of link `n`. -/
def State.link (s : State) (n : Nat) : Link := tget {} s.links n

/-- Changes the state of link `n`. -/
def State.modLink (n : Nat) (f : Link → Link) (s : State) : State := { s with links := tmod {} n f s.links }

/-- A station of a link. -/
def Link.st (l : Link) (i : Nat) : Station := tget {} l.stations i

/-- Changes a station of a link. -/
def Link.modSt (i : Nat) (f : Station → Station) (l : Link) : Link := { l with stations := tmod {} i f l.stations }

/-- Canvas addresses of a link's input and output image (R146). -/
def slInBase (n : Nat) : Nat := 0x100000 + n * 0x6000
def slOutBase (n : Nat) : Nat := 0x180000 + n * 0x6000

/-- Writes a typed value at an address. -/
def State.putTyped (a type bit : Nat) (v : Word) (s : State) : State :=
  if type = 0 then s.setByte a (BitVec.ofNat 8 (withBit (s.byte a).toNat bit (v.getLsbD 0)))
  else s.setBytes a (typeSize type) v.toNat

/-- Canvas address of a mapped remote object in its link's input or output image (R448). -/
def State.remoteAddr (s : State) (h : Nat) : Nat :=
  let d := s.desc h
  let t := (s.link (epLink h)).st (epStation h)
  if d.output then slOutBase (epLink h) + t.oofs + d.ofs else slInBase (epLink h) + t.iofs + d.ofs

/-! ### Transfers -/

/-- When a transfer writes a pin whose level-5 writer has ended, the owner's value takes over (R167). -/
def releasePin (p : Option Pin5) : Option Pin5 :=
  match p with
  | some q => if q.active then p else none
  | none => none

/-- A transfer has written masked bits of image word `i`: pins and remote outputs of ended level-5 writers go back to
their owner (R167). -/
def State.releaseLevel5 (i : Nat) (m : Word) (s : State) : State :=
  if 4 ≤ i ∧ i < 8 then
    { s with out := { s.out with fio := tmap none (fun n p =>
        if n / 32 = i - 4 ∧ m.getLsbD (n % 32) then releasePin p else p) s.out.fio } }
  else if 0x8000 ≤ i ∧ i < 0x8200 ∧ i % 4 = 3 then
    { s with out := { s.out with aout := tmod none ((i - 0x8000) / 4) releasePin s.out.aout } }
  else s

/-- Level-5 values of remote outputs whose writer has ended go back to the owner when its transfer writes the word
(R167). -/
def State.releaseEp (i : Nat) (s : State) : State :=
  { s with out := { s.out with ep := tmap none (fun h p => if s.remoteAddr h / 4 = i then releasePin p else p) s.out.ep } }

/-! ### What levels 5 and 6 give a pin (R29, R161, R165) -/

/-- What levels 5 and 6 give output `k`, FIO by channel and AOUT from 128, once every transfer made has reached it. -/
def State.ownNow (s : State) (k : Nat) : Int × Nat :=
  match tget none (if k < 128 then s.out.fio else s.out.aout) (k % 128) with
  | some p => (p.value, 5)
  | none => (if k < 128 then b2n (s.bit (128 + k)) else toSigned 16 (s.word (chWord (k - 128) 3)).toNat, 6)

/-- What levels 5 and 6 give output `k` at TBC count `t`: a value transferred less than 200 ns before is not there yet, and
the one before it holds. -/
def State.ownAt (s : State) (k t : Nat) : Int × Nat :=
  let live := match tget none (if k < 128 then s.out.fio else s.out.aout) (k % 128) with
    | some p => p.active
    | none => false
  match (tget [] s.out.prior k).find? fun p => t < p.1 with
  | some p => if live then s.ownNow k else p.2
  | none => s.ownNow k

/-- Output `k` keeps what it had in state `b` for 200 ns after a transfer that gave it another value. -/
def State.keepPrior (b : State) (k : Nat) (s : State) : State :=
  let l := (tget [] s.out.prior k).filter (fun p => s.tbc < p.1) ++ [(s.tbc + 50, b.ownNow k)]
  if b.ownNow k = s.ownNow k then s else { s with out := { s.out with prior := tset [] k l s.out.prior } }

/-- The outputs whose owned value image word `i` holds in the bits of `m`. -/
def wordOutputs (i : Nat) (m : Word) : List Nat :=
  if 4 ≤ i ∧ i < 8 then ((List.range 32).filter m.getLsbD).map (32 * (i - 4) + ·)
  else if 0x8000 ≤ i ∧ i < 0x8200 ∧ i % 4 = 3 then [128 + (i - 0x8000) / 4] else []

/-- A transfer writes masked bits of an image word: ended level-5 writers give way to the owner, and the pins follow 200 ns
later (R29, R160, R161, R167). -/
def State.ownWrite (i : Nat) (v m : Word) (s : State) : State :=
  let t := ((s.maskWord (4 * i) v m).releaseLevel5 i m).releaseEp i
  forL (wordOutputs i m) s.keepPrior t

/-- The owned part of a word takes the configured safe values of its outputs: FIO_CFG.SAFE, AOUT_SAFE.SAFE, and SUBST_VAL of a
remote output (R235, R366, R451). Other words stay. -/
def State.safeOwn (o : OwnDesc) (s : State) : State :=
  let w := o.word
    if 4 ≤ w ∧ w < 8 then
      s.ownWrite w (BitVec.ofNat 32 ((List.range 32).foldl (fun a j => a + s.fld (F.FIO_CFG_SAFE (32 * (w - 4) + j)) * 2 ^ j) 0)) o.mask
    else if 0x8000 ≤ w ∧ w < 0x8200 ∧ w % 4 = 3 then
      s.ownWrite w (BitVec.ofNat 32 (s.fld (F.AOUT_SAFE_SAFE ((w - 0x8000) / 4)))) o.mask
    else if slOutBase 0 / 4 ≤ w ∧ w < slOutBase 16 / 4 then
      (forL (((List.range 16).flatMap s.mappedOf).filter fun h => (s.desc h).output && s.remoteAddr h / 4 == w) (fun h s =>
        let x := s.desc h
        s.putTyped (s.remoteAddr h) x.type x.bit x.value) s).releaseEp w
    else s

/-- The owned parts of the image: those of the running program, and from the switch of an exchange to its release those of the
image before (R147, R184). -/
def State.owns (s : State) : List OwnDesc :=
  match s.scan.releaseAt, s.scan.program with
  | some _, _ => s.scan.oldOwns
  | none, some p => p.owns
  | none, none => []

/-- The owned outputs of task `t` take their configured safe values, as one transfer (R162, EXC_OUT = SAFE). Mirror words and CAN
objects follow it at the next dispatcher tick. -/
def State.safeTransfer (t : Nat) (s : State) : State :=
  let os := s.owns.filter fun o => o.task == t
  let s := forL os State.safeOwn s
  { s with scan := { s.scan with safeWords := s.scan.safeWords ++ os.map OwnDesc.word } }

end Sys2Proof.Machine
end

