-- ==== Sys2Proof/Machine/Operands.lean ====
section
/-!
DEFINITION. The operand forms of the control cores: registers and pairs (R99), the encodings of R103 (used for
EVAL), memory with its checked bits, taking an exception and returning from one (R142, R111), and ending a task
execution, normally or not (R160, R162).
-/

set_option Elab.async false

namespace Sys2Proof.Machine

/-! ### Registers -/

/-- The state of core `c`. -/
def State.core (s : State) (c : Nat) : Core := tget {} s.cores c

/-- Changes the state of core `c`. -/
def State.modCore (c : Nat) (f : Core → Core) (s : State) : State := { s with cores := tmod {} c f s.cores }

/-- Register Wn: W0 reads as 0 (R99). -/
def Core.reg (k : Core) (n : Nat) : Word := if n = 0 then 0 else tget 0 k.w n

/-- Writes Wn: a write to W0 is discarded (R99). -/
def Core.setReg (n : Nat) (v : Word) (k : Core) : Core := if n = 0 then k else { k with w := tset 0 n v k.w }

/-- Reads the pair Wn:Wn+1 (R99): the even register holds bits 31..0. -/
def Core.pair (k : Core) (n : Nat) : BitVec 64 := (k.reg (n + 1)) ++ (k.reg n)

/-- Writes the pair Wn:Wn+1. -/
def Core.setPair (n : Nat) (v : BitVec 64) (k : Core) : Core :=
  (k.setReg n (v.setWidth 32)).setReg (n + 1) ((v >>> 32).setWidth 32)

/-- May the register name a pair: even and not W0 (R99)? -/
def pairOk (n : BitVec 5) : Bool := n.toNat % 2 == 0 && n.toNat != 0

/-! ### Encodings (R103) -/

def encRRR (major : Nat) (rd ra rb : BitVec 5) (func : Nat) : Word :=
  BitVec.ofNat 32 (major * 2 ^ 26 + rd.toNat * 2 ^ 21 + ra.toNat * 2 ^ 16 + rb.toNat * 2 ^ 11 + func)

def encRRI (major : Nat) (rd ra : BitVec 5) (imm : BitVec 16) : Word :=
  BitVec.ofNat 32 (major * 2 ^ 26 + rd.toNat * 2 ^ 21 + ra.toNat * 2 ^ 16 + imm.toNat)

def encMEM (major : Nat) (rd base : BitVec 5) (size : BitVec 2) (disp : BitVec 14) : Word :=
  BitVec.ofNat 32 (major * 2 ^ 26 + rd.toNat * 2 ^ 21 + base.toNat * 2 ^ 16 + size.toNat * 2 ^ 14 + disp.toNat)

/-- Is the address in the register space, which needs system privilege (R50)? -/
def inRegSpace (a : Nat) : Bool := 0xF0000000 ≤ a && a < 0xF1000000

/-! ### Memory with check bits -/

/-- Does the byte range meet an address whose check bits make it uncorrectable (R531)? -/
def State.eccBad (s : State) (a n : Nat) : Bool :=
  s.flt.badEcc.any fun p => 2 ≤ p.2 && a < p.1 + 4 && p.1 < a + n

/-- A write of a range renews its check bits; an armed SRAM or LPDDR injection on it stores them inverted (R531). -/
def State.eccWrite (a n : Nat) (s : State) : State :=
  let s := if s.flt.badEcc.isEmpty then s else
    { s with flt := { s.flt with badEcc := s.flt.badEcc.filter fun p => !(a < p.1 + 4 && p.1 < a + n) } }
  match s.flt.inj with
  | none => s
  | some i =>
    if (i.chk = 1 ∨ i.chk = 2) ∧ a ≤ i.addr ∧ i.addr < a + n then
      { s with flt := { s.flt with badEcc := s.flt.badEcc ++ [(i.addr / 4 * 4, i.nbits)] } }.injDone
    else s

/-- Stores `n` bytes into a memory, with fresh check bits. -/
def State.store (a n v : Nat) (s : State) : State := (s.setBytes a n v).eccWrite a n

/-- Every byte of a range becomes 0, with fresh check bits. -/
def State.clearRange (a n : Nat) (s : State) : State :=
  { s with mem := s.mem.filter (fun c => !(a ≤ c.1 && c.1 < a + n)),
           flt := { s.flt with badEcc := s.flt.badEcc.filter fun p => !(a < p.1 + 4 && p.1 < a + n) } }

/-! Exception causes (R142). -/
namespace Exc
def illegal : Nat := 1
def privilege : Nat := 2
def align : Nat := 3
def access : Nat := 4
def inst : Nat := 5
def divzero : Nat := 6
def ecc : Nat := 7
def trap : Nat := 8
def ifetch : Nat := 10
end Exc

/-! ### Ending an execution -/

/-- The number of executions of task `t` that have ended. -/
def State.endCount (s : State) (t : Nat) : Nat := tget 0 s.scan.lastEnd t

/-- An execution from `start` to `now` counts to the dispatcher's measured load of the last second (R93). -/
def FwU.use (start now : Nat) (u : FwU) : FwU :=
  { u with spans := u.spans.filter (fun p => now < p.2 + 250000000) ++ [(start, now)] }

/-- Book-keeping at the end of the execution on core `c`: its time (TASK_TIME, saturating, halted time not
counted), its end for WFT, its group's SERIAL bit, the next init task or the first cyclic starts (R155, R195). -/
def State.endExec (c : Nat) (s : State) : State :=
  match tlook s.scan.execs c with
  | none => s
  | some e =>
    let t := e.task
    let dur := min 65535 ((s.tbc - e.start - e.haltedFor) / 250)
    let s := s.setFld (F.TASK_TIME_LAST t) dur
    let s := s.setFld (F.TASK_TIME_MAX t) (max dur (s.fld (F.TASK_TIME_MAX t)))
    let s := { s with
      scan := { s.scan with execs := tdel c s.scan.execs, lastEnd := tmod 0 t (· + 1) s.scan.lastEnd }
      fw := s.fw.use e.start s.tbc }
    let s := s.modCore c fun k => { k with undo := [], undoOver := false, olds := [], wait := none }
    let s := match e.serial with
      | some g => s.modSched fun u => { u with serial := u.serial.filter (· != g) }
      | none => s
    if e.cause = .init then
      let rest := s.sched.inits.filter (· != t)
      let s := s.modSched fun u => { u with inits := rest }
      if rest.isEmpty && !s.sched.cyclic && s.tasksRun then s.startCyclic else s
    else s

/-- Ends the execution on core `c` abnormally (R162): nothing is transferred, the error task gets the reason, the
owned outputs hold or take their safe values. The execution fault source of the task is raised for an init task at
severity 4 (R155) and for an error task (R179), whose reason goes to the event log instead. -/
def State.abnormalEnd (c code detail word3 : Nat) (s : State) : State :=
  match tlook s.scan.execs c with
  | none => s
  | some e =>
    let t := e.task
    let d := s.task t
    let s := s.endExec c
    match d with
    | none => s
    | some d =>
      let s := if d.excSafe && d.kind != .error then s.safeTransfer t else s
      let inj := code == 0x01 && detail == Exc.ecc
      match d.kind with
      | .error => (s.raise 42 t 0 inj).log .errTaskEnd code t
      | .init => (s.reasonTo (s.errTaskOf t) code t detail word3).raise 42 t 4 inj
      | _ => s.reasonTo (s.errTaskOf t) code t detail word3

/-! ### Exceptions -/

/-- Exception entry (R142): ESTAT := FL, P := 1, EPC, ECAUSE and EVAL written, execution continues at
VBASE + 0x40 × ECAUSE. A task execution in progress on the core ends by every cause but TRAP (R144), with EPC in an event-log
record (R177). -/
def State.exception (c cause : Nat) (epc eval : Word) (s : State) : State :=
  let ended := cause != Exc.trap && (tlook s.scan.execs c).isSome
  let s := if ended then s.log .taskException epc.toNat (((tlook s.scan.execs c).map Exec.task).getD 0) else s
  let s := s.modCore c fun k =>
    { k with estat := k.fl, fl := k.fl ||| 0x100, epc := epc, ecause := BitVec.ofNat 32 cause, eval := eval,
             pc := k.vbase + BitVec.ofNat 32 (0x40 * cause) }
  if ended then s.abnormalEnd c 0x01 cause eval.toNat else s

/-- May core `c` execute an instruction: it neither waits in WFT, nor is halted at a breakpoint, nor is stopped? -/
def State.coreRuns (s : State) (c : Nat) : Bool :=
  (s.core c).wait.isNone && (s.core c).stoppedAt.isNone && !(s.core c).dead &&
  (match tlook s.scan.execs c with
   | some e => !e.halted
   | none => true)

/-- One instruction on core `c`: nothing while the core does not run; IFETCH on an uncorrectable word (R142); else
the instruction's effect with the core as it stands. -/
def State.instr (c : Nat) (f : Core → State → State) (s : State) : State :=
  if !s.coreRuns c then s
  else
    let k := s.core c
    if s.eccBad k.pc.toNat 4 then s.exception c Exc.ifetch k.pc k.pc else f k s

/-- An instruction whose whole effect is on its core: `f` gives the core, and PC goes to the next word. -/
def State.simple (c : Nat) (f : Core → Core) (s : State) : State :=
  s.instr c fun _ s => s.modCore c fun k => { f k with pc := k.pc + 4 }

/-- As `simple`, for an encoding that names pairs: ILLEGAL if one is not allowed (R99). -/
def State.pairInstr (c : Nat) (ok : Bool) (w : Word) (f : Core → Core) (s : State) : State :=
  s.instr c fun k s =>
    if ok then s.modCore c fun k => { f k with pc := k.pc + 4 } else s.exception c Exc.illegal k.pc w

end Sys2Proof.Machine
end

