-- ==== Sys2Proof/Machine/Calhorn.lean ====
section
/-!
DEFINITION. The C-profile instructions that act on their core alone (R104 to R106, R108, R109, R111): arithmetic,
immediates, branches, jumps, system registers, traps. `c` is the core that executes the instruction.
-/

set_option Elab.async false

namespace Sys2Proof.Machine

/-- An instruction that writes rd from ra and rb. -/
def State.alu (c : Fin 8) (rd ra rb : BitVec 5) (f : Word → Word → Word) (s : State) : State :=
  s.simple c fun k => k.setReg rd.toNat (f (k.reg ra.toNat) (k.reg rb.toNat))

/-- A saturating instruction with a 32-bit result: the exact result clamped, SAT set if it clamps (R104). -/
def State.aluSat (c : Fin 8) (rd ra rb : BitVec 5) (f : Int → Int → Int) (s : State) : State :=
  s.simple c fun k =>
    let (v, cl) := satSigned 32 (f (k.reg ra.toNat).toInt (k.reg rb.toNat).toInt)
    { k.setReg rd.toNat (BitVec.ofInt 32 v) with fl := flMark k.fl cl }

/-- A division: DIVZERO with rd unwritten where rb is 0 (R105). -/
def State.aluDiv (c : Fin 8) (rd ra rb : BitVec 5) (func : Nat) (f : Word → Word → Word) (s : State) : State :=
  s.instr c fun k s =>
    if k.reg rb.toNat = 0 then s.exception c Exc.divzero k.pc (encRRR 0 rd ra rb func)
    else s.modCore c fun k => { k.setReg rd.toNat (f (k.reg ra.toNat) (k.reg rb.toNat)) with pc := k.pc + 4 }

/-- A multiply-accumulate into the pair rd (R104): exact, then modulo 2^64 or clamped. -/
def State.aluMac (c : Fin 8) (rd ra rb : BitVec 5) (func : Nat) (sub sat : Bool) (s : State) : State :=
  s.pairInstr c (pairOk rd) (encRRR 0 rd ra rb func) fun k =>
    let p := (k.reg ra.toNat).toInt * (k.reg rb.toNat).toInt
    let r := (k.pair rd.toNat).toInt + (if sub then -p else p)
    let (v, cl) := if sat then satSigned 64 r else (r, false)
    { k.setPair rd.toNat (BitVec.ofInt 64 v) with fl := flMark k.fl cl }

/-- rnd of the pair ra into rd, sign-extended from 16 bits (R128). -/
def State.aluRnd (c : Fin 8) (rd ra rb : BitVec 5) (func : Nat) (sat : Bool) (s : State) : State :=
  s.pairInstr c (pairOk ra) (encRRR 0 rd ra rb func) fun k =>
    let a := (k.pair ra.toNat).toInt
    let (v, cl) := if sat then rndSat a else ((rndWrap a).1, false)
    { k.setReg rd.toNat (BitVec.ofInt 32 v) with fl := flMark k.fl cl }

/-- ADD: rd := ra + rb modulo 2^32 (R104). -/
def execAdd (c : Fin 8) (rd ra rb : BitVec 5) (s : State) : Out :=
  .next (s.alu c rd ra rb fun a b => a + b)

/-- SUB: rd := ra − rb modulo 2^32 (R104). -/
def execSub (c : Fin 8) (rd ra rb : BitVec 5) (s : State) : Out :=
  .next (s.alu c rd ra rb fun a b => a - b)

/-- AND: rd := ra and rb (R104). -/
def execAnd (c : Fin 8) (rd ra rb : BitVec 5) (s : State) : Out :=
  .next (s.alu c rd ra rb fun a b => a &&& b)

/-- OR: rd := ra or rb (R104). -/
def execOr (c : Fin 8) (rd ra rb : BitVec 5) (s : State) : Out :=
  .next (s.alu c rd ra rb fun a b => a ||| b)

/-- XOR: rd := ra xor rb (R104). -/
def execXor (c : Fin 8) (rd ra rb : BitVec 5) (s : State) : Out :=
  .next (s.alu c rd ra rb fun a b => a ^^^ b)

/-- SHL: rd := ra shifted left by rb bits 4..0 (R104). -/
def execShl (c : Fin 8) (rd ra rb : BitVec 5) (s : State) : Out :=
  .next (s.alu c rd ra rb fun a b => a <<< (b.toNat % 32))

/-- SHR: logical shift right (R104). -/
def execShr (c : Fin 8) (rd ra rb : BitVec 5) (s : State) : Out :=
  .next (s.alu c rd ra rb fun a b => a >>> (b.toNat % 32))

/-- SRA: arithmetic shift right (R104). -/
def execSra (c : Fin 8) (rd ra rb : BitVec 5) (s : State) : Out :=
  .next (s.alu c rd ra rb fun a b => a.sshiftRight (b.toNat % 32))

/-- SLT: rd := 1 if ra < rb signed (R104). -/
def execSlt (c : Fin 8) (rd ra rb : BitVec 5) (s : State) : Out :=
  .next (s.alu c rd ra rb fun a b => if a.toInt < b.toInt then 1 else 0)

/-- SLTU: rd := 1 if ra < rb unsigned (R104). -/
def execSltu (c : Fin 8) (rd ra rb : BitVec 5) (s : State) : Out :=
  .next (s.alu c rd ra rb fun a b => if a.toNat < b.toNat then 1 else 0)

/-- MIN: signed minimum (R104). -/
def execMin (c : Fin 8) (rd ra rb : BitVec 5) (s : State) : Out :=
  .next (s.alu c rd ra rb fun a b => if a.toInt ≤ b.toInt then a else b)

/-- MAX: signed maximum (R104). -/
def execMax (c : Fin 8) (rd ra rb : BitVec 5) (s : State) : Out :=
  .next (s.alu c rd ra rb fun a b => if a.toInt ≤ b.toInt then b else a)

/-- ADDS: saturating add (R104). -/
def execAdds (c : Fin 8) (rd ra rb : BitVec 5) (s : State) : Out :=
  .next (s.aluSat c rd ra rb (· + ·))

/-- SUBS: saturating subtract (R104). -/
def execSubs (c : Fin 8) (rd ra rb : BitVec 5) (s : State) : Out :=
  .next (s.aluSat c rd ra rb (· - ·))

/-- CMP: Z, N, C, V from ra − rb (R104). -/
def execCmp (c : Fin 8) (ra rb : BitVec 5) (s : State) : Out :=
  .next (s.simple c fun k => { k with fl := flCompare k.fl (k.reg ra.toNat) (k.reg rb.toNat) })

/-- TST: Z, N from ra and rb; C and V cleared (R104). -/
def execTst (c : Fin 8) (ra rb : BitVec 5) (s : State) : Out :=
  .next (s.simple c fun k => { k with fl := flTest k.fl (k.reg ra.toNat) (k.reg rb.toNat) })

/-- MUL: low 32 bits of the product (R104). -/
def execMul (c : Fin 8) (rd ra rb : BitVec 5) (s : State) : Out :=
  .next (s.alu c rd ra rb fun a b => a * b)

/-- MULH: high 32 bits of the signed product (R104). -/
def execMulh (c : Fin 8) (rd ra rb : BitVec 5) (s : State) : Out :=
  .next (s.alu c rd ra rb fun a b => BitVec.ofInt 32 (a.toInt * b.toInt / 2 ^ 32))

/-- MULHU: high 32 bits of the unsigned product (R104). -/
def execMulhu (c : Fin 8) (rd ra rb : BitVec 5) (s : State) : Out :=
  .next (s.alu c rd ra rb fun a b => BitVec.ofNat 32 (a.toNat * b.toNat / 2 ^ 32))

/-- DIV: signed division towards zero; the most negative by −1 gives itself (R105). -/
def execDiv (c : Fin 8) (rd ra rb : BitVec 5) (s : State) : Out :=
  .next (s.aluDiv c rd ra rb 0x013 fun a b => BitVec.ofInt 32 (a.toInt.tdiv b.toInt))

/-- DIVU: unsigned division (R104, R105). -/
def execDivu (c : Fin 8) (rd ra rb : BitVec 5) (s : State) : Out :=
  .next (s.aluDiv c rd ra rb 0x014 fun a b => a / b)

/-- REM: signed remainder, sign of ra (R104, R105). -/
def execRem (c : Fin 8) (rd ra rb : BitVec 5) (s : State) : Out :=
  .next (s.aluDiv c rd ra rb 0x015 fun a b => BitVec.ofInt 32 (a.toInt.tmod b.toInt))

/-- REMU: unsigned remainder (R104, R105). -/
def execRemu (c : Fin 8) (rd ra rb : BitVec 5) (s : State) : Out :=
  .next (s.aluDiv c rd ra rb 0x016 fun a b => a % b)

/-- MAC: pair rd += ra × rb modulo 2^64 (R104). -/
def execMac (c : Fin 8) (rd ra rb : BitVec 5) (s : State) : Out :=
  .next (s.aluMac c rd ra rb 0x018 false false)

/-- MACS: as MAC, clamped (R104). -/
def execMacs (c : Fin 8) (rd ra rb : BitVec 5) (s : State) : Out :=
  .next (s.aluMac c rd ra rb 0x019 false true)

/-- MSU: pair rd −= ra × rb modulo 2^64 (R104). -/
def execMsu (c : Fin 8) (rd ra rb : BitVec 5) (s : State) : Out :=
  .next (s.aluMac c rd ra rb 0x01A true false)

/-- MSUS: as MSU, clamped (R104). -/
def execMsus (c : Fin 8) (rd ra rb : BitVec 5) (s : State) : Out :=
  .next (s.aluMac c rd ra rb 0x01B true true)

/-- RND: rnd of an acc40 pair without saturation (R128). -/
def execRnd (c : Fin 8) (rd ra rb : BitVec 5) (s : State) : Out :=
  .next (s.aluRnd c rd ra rb 0x01C false)

/-- RNDS: rnd of an acc40 pair with saturation (R128). -/
def execRnds (c : Fin 8) (rd ra rb : BitVec 5) (s : State) : Out :=
  .next (s.aluRnd c rd ra rb 0x01D true)

/-- ADD_D: pair addition modulo 2^64 (R104). -/
def execAddD (c : Fin 8) (rd ra rb : BitVec 5) (s : State) : Out :=
  .next (s.pairInstr c (pairOk rd && pairOk ra && pairOk rb) (encRRR 0 rd ra rb 0x020) fun k =>
    k.setPair rd.toNat (k.pair ra.toNat + k.pair rb.toNat))

/-- SUB_D: pair subtraction modulo 2^64 (R104). -/
def execSubD (c : Fin 8) (rd ra rb : BitVec 5) (s : State) : Out :=
  .next (s.pairInstr c (pairOk rd && pairOk ra && pairOk rb) (encRRR 0 rd ra rb 0x021) fun k =>
    k.setPair rd.toNat (k.pair ra.toNat - k.pair rb.toNat))

/-- CMP_D: flags from the 64-bit difference (R104). -/
def execCmpD (c : Fin 8) (ra rb : BitVec 5) (s : State) : Out :=
  .next (s.pairInstr c (pairOk ra && pairOk rb) (encRRR 0 0 ra rb 0x022) fun k =>
    { k with fl := flCompare k.fl (k.pair ra.toNat) (k.pair rb.toNat) })

/-! ### Immediates (R106) -/

/-- An instruction that writes rd from ra. -/
def State.alui (c : Fin 8) (rd ra : BitVec 5) (f : Word → Word) (s : State) : State :=
  s.simple c fun k => k.setReg rd.toNat (f (k.reg ra.toNat))

/-- ADDI: rd := ra + the sign-extended immediate. -/
def execAddi (c : Fin 8) (rd ra : BitVec 5) (imm : BitVec 16) (s : State) : Out :=
  .next (s.alui c rd ra fun a => a + imm.signExtend 32)

/-- ANDI: rd := ra and the zero-extended immediate. -/
def execAndi (c : Fin 8) (rd ra : BitVec 5) (imm : BitVec 16) (s : State) : Out :=
  .next (s.alui c rd ra fun a => a &&& imm.setWidth 32)

/-- ORI: rd := ra or the zero-extended immediate. -/
def execOri (c : Fin 8) (rd ra : BitVec 5) (imm : BitVec 16) (s : State) : Out :=
  .next (s.alui c rd ra fun a => a ||| imm.setWidth 32)

/-- XORI: rd := ra xor the zero-extended immediate. -/
def execXori (c : Fin 8) (rd ra : BitVec 5) (imm : BitVec 16) (s : State) : Out :=
  .next (s.alui c rd ra fun a => a ^^^ imm.setWidth 32)

/-- LUI: rd := imm × 2^16. -/
def execLui (c : Fin 8) (rd : BitVec 5) (imm : BitVec 16) (s : State) : Out :=
  .next (s.alui c rd 0 fun _ => imm.setWidth 32 <<< 16)

/-- CMPI: flags from ra − the sign-extended immediate. -/
def execCmpi (c : Fin 8) (ra : BitVec 5) (imm : BitVec 16) (s : State) : Out :=
  .next (s.simple c fun k => { k with fl := flCompare k.fl (k.reg ra.toNat) (imm.signExtend 32) })

/-- SHLI: shift left by an immediate count. -/
def execShli (c : Fin 8) (rd ra n : BitVec 5) (s : State) : Out :=
  .next (s.alui c rd ra fun a => a <<< n.toNat)

/-- SHRI: logical shift right by an immediate count. -/
def execShri (c : Fin 8) (rd ra n : BitVec 5) (s : State) : Out :=
  .next (s.alui c rd ra fun a => a >>> n.toNat)

/-- SRAI: arithmetic shift right by an immediate count. -/
def execSrai (c : Fin 8) (rd ra n : BitVec 5) (s : State) : Out :=
  .next (s.alui c rd ra fun a => a.sshiftRight n.toNat)

/-- SAT: ra clamped to n signed bits, SAT set if it clamps; n outside 1 to 32 raises ILLEGAL. -/
def execSat (c : Fin 8) (rd ra : BitVec 5) (n : BitVec 6) (s : State) : Out :=
  .next (s.pairInstr c (1 ≤ n.toNat && n.toNat ≤ 32) (encRRI 0x0B rd ra (n.setWidth 16)) fun k =>
    let (v, cl) := satSigned n.toNat (k.reg ra.toNat).toInt
    { k.setReg rd.toNat (BitVec.ofInt 32 v) with fl := flMark k.fl cl })

/-! ### System registers (R101) -/

/-- Does a system register of this number exist? -/
def sysRegOk (n : Nat) : Bool := n ≤ 0x005 || (0x010 ≤ n && n ≤ 0x014)

/-- The value of a system register. -/
def State.sysReg (s : State) (c n : Nat) : Word :=
  let k := s.core c
  if n = 0x000 then k.fl else if n = 0x001 then k.taskDt else if n = 0x002 then k.taskId
  else if n = 0x003 then BitVec.ofNat 32 (c % 8) else if n = 0x004 then BitVec.ofNat 32 s.tbc
  else if n = 0x005 then k.tbcHi else if n = 0x010 then k.epc else if n = 0x011 then k.ecause
  else if n = 0x012 then k.eval else if n = 0x013 then k.estat else if n = 0x014 then k.vbase else 0

/-- Writes a system register: FL but for P and the reserved bits; the read-only ones ignore it; VBASE bits 11..0
read 0. -/
def Core.setSys (n : Nat) (v : Word) (k : Core) : Core :=
  if n = 0x000 then { k with fl := (k.fl &&& 0x100) ||| (v &&& 0x1F) }
  else if n = 0x010 then { k with epc := v } else if n = 0x011 then { k with ecause := v }
  else if n = 0x012 then { k with eval := v } else if n = 0x013 then { k with estat := v }
  else if n = 0x014 then { k with vbase := v &&& 0xFFFFF000 } else k

/-- The checks of MFS and MTS: ILLEGAL for an unlisted number before PRIVILEGE for 0x010 upward in task privilege
(R101, R143). -/
def State.sysAccess (c : Fin 8) (n : BitVec 16) (w : Word) (f : Core → State → State) (s : State) : State :=
  s.instr c fun k s =>
    if !sysRegOk n.toNat then s.exception c Exc.illegal k.pc w
    else if 0x010 ≤ n.toNat ∧ flP k.fl = false then s.exception c Exc.privilege k.pc w
    else f k s

/-- MFS: rd := system register; reading TBC_LO latches TBC_HI. -/
def execMfs (c : Fin 8) (rd : BitVec 5) (n : BitVec 16) (s : State) : Out :=
  .next (s.sysAccess c n (encRRI 0x0C rd 0 n) fun _ s =>
    let v := s.sysReg c n.toNat
    let hi := BitVec.ofNat 32 (s.tbc / 2 ^ 32)
    s.modCore c fun k => { k.setReg rd.toNat v with
      pc := k.pc + 4, tbcHi := if n.toNat = 0x004 then hi else k.tbcHi })

/-- MTS: system register := rd. -/
def execMts (c : Fin 8) (rd : BitVec 5) (n : BitVec 16) (s : State) : Out :=
  .next (s.sysAccess c n (encRRI 0x0D rd 0 n) fun _ s =>
    s.modCore c fun k => { k.setSys n.toNat (k.reg rd.toNat) with pc := k.pc + 4 })

/-! ### Branches and jumps (R109, R111) -/

/-- The target of a BR instruction: PC + DISP21 × 4. -/
def brTarget (pc : Word) (disp : BitVec 21) : Word := pc + (disp.signExtend 32 <<< 2)

/-- A branch on core `c`: to its target if the condition holds. -/
def State.branch (c : Fin 8) (disp : BitVec 21) (cond : Core → Bool) (s : State) : State :=
  s.instr c fun _ s => s.modCore c fun k => { k with pc := if cond k then brTarget k.pc disp else k.pc + 4 }

/-- B: branch if the condition holds. -/
def execB (c : Fin 8) (cond : BitVec 4) (disp : BitVec 21) (s : State) : Out :=
  .next (s.branch c disp fun k => flCond k.fl cond)

/-- BL: W31 := PC + 4; branch. -/
def execBl (c : Fin 8) (disp : BitVec 21) (s : State) : Out :=
  .next (s.instr c fun _ s => s.modCore c fun k =>
    { k.setReg 31 (k.pc + 4) with pc := brTarget k.pc disp })

/-- BZ: branch if the register is 0. -/
def execBz (c : Fin 8) (r : BitVec 5) (disp : BitVec 21) (s : State) : Out :=
  .next (s.branch c disp fun k => k.reg r.toNat == 0)

/-- BNZ: branch if the register is not 0. -/
def execBnz (c : Fin 8) (r : BitVec 5) (disp : BitVec 21) (s : State) : Out :=
  .next (s.branch c disp fun k => k.reg r.toNat != 0)

/-- FENCE: every earlier access is ordered before every later one (R108); this model makes accesses one at a time,
so the instruction only advances PC. -/
def execFence (c : Fin 8) (s : State) : Out := .next (s.simple c id)

/-- FENCE_I: as FENCE, and the core's instruction cache is invalidated (R108); the model holds no stale copy. -/
def execFenceI (c : Fin 8) (s : State) : Out := .next (s.simple c id)

/-- JR: PC := ra, also where that is no multiple of 4, for which no rule names an exception (assumption 28). -/
def execJr (c : Fin 8) (ra : BitVec 5) (s : State) : Out :=
  .next (s.instr c fun _ s => s.modCore c fun k => { k with pc := k.reg ra.toNat })

/-- JALR: rd := PC + 4; PC := ra, as it stood before. -/
def execJalr (c : Fin 8) (rd ra : BitVec 5) (s : State) : Out :=
  .next (s.instr c fun _ s => s.modCore c fun k => { k.setReg rd.toNat (k.pc + 4) with pc := k.reg ra.toNat })

/-- TRAP: raises TRAP with EVAL the rb field and EPC the next instruction (R142). -/
def execTrap (c : Fin 8) (n : BitVec 5) (s : State) : Out :=
  .next (s.instr c fun k s => s.exception c Exc.trap (k.pc + 4) (n.setWidth 32))

/-- ERET: PRIVILEGE in task privilege; else FL := ESTAT and PC := EPC (R111). -/
def execEret (c : Fin 8) (s : State) : Out :=
  .next (s.instr c fun k s =>
    if flP k.fl then s.modCore c fun k => { k with fl := k.estat &&& 0x11F, pc := k.epc }
    else s.exception c Exc.privilege k.pc (encRRR 0x01 0 0 0 0x01A))

/-- BKPT: in ENGINEER halts the execution unless it is an init, error or recipe task or four are halted already
(R180); otherwise a no-operation. PC stands at the next instruction, where RESUME continues. -/
def execBkpt (c : Fin 8) (s : State) : Out :=
  .next (s.instr c fun _ s =>
    let s := s.modCore c fun k => { k with pc := k.pc + 4 }
    match tlook s.scan.execs c with
    | none => s
    | some e =>
      let stops := match s.task e.task with
        | some d => d.kind != .init && d.kind != .error && !d.recipe
        | none => false
      if s.mode == Mode.engineer && stops && decide ((s.scan.execs.filter fun p => p.2.halted).length < 4) then
        { s with scan := { s.scan with execs := tins c { e with halted := true, haltedFrom := s.tbc } s.scan.execs } }
      else s)

/-- Does the word belong to the L profile (R97)? -/
def isLProfile (w : Word) : Bool := bitsOf w 29 3 == 7

/-! Fields of the five formats (R103): RRR has rd, ra, rb and func; RRI rd, ra and imm16; MEM rd, base, SIZE and DISP; BR X and
DISP21; PIO rd, KIND and INDEX. -/
def fMajor (w : Word) : Nat := bitsOf w 26 6
def fRd (w : Word) : Nat := bitsOf w 21 5
def fRa (w : Word) : Nat := bitsOf w 16 5
def fRb (w : Word) : Nat := bitsOf w 11 5
def fFunc (w : Word) : Nat := bitsOf w 0 11
def fImm (w : Word) : BitVec 16 := w.setWidth 16
def fSize (w : Word) : Nat := bitsOf w 14 2
def fDisp (w : Word) : BitVec 14 := w.setWidth 14
def fDisp21 (w : Word) : BitVec 21 := w.setWidth 21
def fKind (w : Word) : Bool := w.getLsbD 20
def fIndex (w : Word) : BitVec 20 := w.setWidth 20

/-- Is the word an encoding that R104 to R111 list, with every reserved field 0 and every pair allowed (R98, R99)? A field that
the tables do not name may hold any value: rb of RND, RNDS and JALR, rd and ra of TRAP, rd, ra and rb of BKPT and ERET
(assumption 62). -/
def listedC (w : Word) : Bool :=
  let pr (n : Nat) : Bool := n % 2 == 0 && n != 0
  let fn := fFunc w
  match fMajor w with
  | 0x00 =>
    fn ≤ 0x00D || ((fn == 0x00E || fn == 0x00F) && fRd w == 0) || (0x010 ≤ fn && fn ≤ 0x016) ||
    (0x018 ≤ fn && fn ≤ 0x01B && pr (fRd w)) || ((fn == 0x01C || fn == 0x01D) && pr (fRa w)) ||
    ((fn == 0x020 || fn == 0x021) && pr (fRd w) && pr (fRa w) && pr (fRb w)) ||
    (fn == 0x022 && fRd w == 0 && pr (fRa w) && pr (fRb w))
  | 0x01 =>
    fn ≤ 0x006 || (0x008 ≤ fn && fn ≤ 0x00B) ||
    ((fn == 0x00C || fn == 0x00D) && fRd w == 0 && fRa w == 0 && fRb w == 0) ||
    (fn == 0x010 && fRd w == 0 && fRb w == 0) || fn == 0x011 || (0x018 ≤ fn && fn ≤ 0x01A)
  | 0x02 | 0x03 | 0x04 | 0x05 => true
  | 0x06 => fRa w == 0
  | 0x07 => fRd w == 0
  | 0x08 | 0x09 | 0x0A => (fImm w).toNat / 32 == 0
  | 0x0B => 1 ≤ (fImm w).toNat && (fImm w).toNat ≤ 32
  | 0x0C | 0x0D => fRa w == 0 && sysRegOk (fImm w).toNat
  | 0x10 | 0x12 => fSize w != 3 || pr (fRd w)
  | 0x11 => fSize w < 2
  | 0x18 => fRd w < 16
  | 0x19 => fRd w == 0
  | 0x1A | 0x1B | 0x20 | 0x21 => true
  | 0x22 | 0x23 => fKind w
  | _ => false

/-- ILLEGAL_ENCODING: a word with no listed encoding, or an L-profile word, raises ILLEGAL (R97, R98). A listed word
is no such word: its own row is its meaning, and this one then does nothing. -/
def execIllegalEncoding (c : Fin 8) (w : Word) (s : State) : Out :=
  .next (if listedC w then s else s.instr c fun k s => s.exception c Exc.illegal k.pc w)

end Sys2Proof.Machine
end

