-- ==== Sys2Proof/Machine/Scan.lean ====
section
/-!
DEFINITION. The scan system's inner operations: who owns an image word (R147, R148), staging and reading through
the snapshot (R156, R158, R159), instances (R115 to R120), the undo log (R526); and the instructions EDGR to CTD,
LDI, STO, SETF, CLRF, EVT, WFT.
-/

set_option Elab.async false

namespace Sys2Proof.Machine

/-! ### Ownership -/

/-- Bits of image word `i` that hardware writes whatever the program is: FIO input bits, ILK_IN and TRIGL, channel words 0 to 2,
station input images (R146, R147). -/
def fixedInput (i : Nat) : Word :=
  if i < 4 then 0xFFFFFFFF
  else if i = 8 then 0x00FFFFFF
  else if 0x8000 ≤ i ∧ i < 0x8200 then (if i % 4 < 3 then 0xFFFFFFFF else 0)
  else if 0x40000 ≤ i ∧ i < 0x58000 then 0xFFFFFFFF
  else 0

/-- Bits of image word `i` that hardware or declared inputs write (R146, R147). -/
def State.inputMask (s : State) (i : Nat) : Word :=
  let own : Word := match s.scan.program with
    | some p => if p.hostInputs.contains i || p.canInputs.contains i then 0xFFFFFFFF else 0
    | none => 0
  if fixedInput i = 0 then own else fixedInput i

/-- Bits of image word `i` that task `t` owns. -/
def State.ownMask (s : State) (t i : Nat) : Word :=
  s.owns.foldl (fun m o => if o.word = i ∧ o.task = t then m ||| o.mask else m) 0

/-- The bits of image word `i` in a list of owned parts. -/
def ownedIn (l : List OwnDesc) (i : Nat) : Word := l.foldl (fun m o => if o.word = i then m ||| o.mask else m) 0

/-- Bits of image word `i` that some task owns. -/
def State.ownedMask (s : State) (i : Nat) : Word := ownedIn s.owns i

/-- Is the word in the event-record, error-record or force-table area, where no master writes (R148)? -/
def protectedArea (a : Nat) : Bool := 0xFEF400 ≤ a && a < 0x1000000

/-- A write is discarded under R148 or R159: OWNV of the task, and its ownership fault source. -/
def State.ownViolation (t : Nat) (s : State) : State := (s.setFlag (F.TASK_STAT_OWNV t) true).raise 41 t

/-- The task whose execution runs on core `c`. -/
def State.taskOn (s : State) (c : Nat) : Option Nat := (tlook s.scan.execs c).map Exec.task

/-! ### Undo log and stores of a core -/

/-- The execution on core `c` writes the word at `a` outside its staged transfer: what it was before the first write is kept until
the execution ends (R70, R77). -/
def State.keepOld (c a : Nat) (old : Word) (s : State) : State :=
  if (tlook s.scan.execs c).isNone || (s.core c).olds.any fun p => p.1 == a then s
  else s.modCore c fun k => { k with olds := k.olds ++ [(a, old)] }

/-- Every word that the execution on core `c` has written outside its transfer goes back to what it was (R77). -/
def State.takeBack (c : Nat) (s : State) : State :=
  forL (s.core c).olds (fun p t => t.store p.1 4 p.2.toNat) s

/-- Logs a write that the execution on core `c` makes outside its staged transfer (R526). The 4,097th write stops
the log for the execution and counts it. -/
def State.logUndo (c a : Nat) (old new : Word) (s : State) : State :=
  let s := s.keepOld c a old
  if (tlook s.scan.execs c).isNone || (s.core c).undoOver then s
  else if 4096 ≤ (s.core c).undo.length then
    (s.modCore c fun k => { k with undo := [], undoOver := true }).incSat F.FLT_UNDO_OVERFLOWS
  else s.modCore c fun k => { k with undo := (a, old, new) :: k.undo }

/-- Stores the masked bits of a canvas or LPDDR word for core `c`, under R148: in the image, input and owned bits
are not changed and the storing task's OWNV sets; the protected areas ignore it. -/
def State.coreStoreWord (c a : Nat) (v mask : Word) (s : State) : State :=
  if a < canvasSize ∧ protectedArea a then s
  else
    let shut := if a < imageSize then s.inputMask (a / 4) ||| s.ownedMask (a / 4) else 0
    let bad := mask &&& shut
    let m := mask &&& ~~~shut
    let s := if bad = 0 then s else match s.taskOn c with
      | some t => s.ownViolation t
      | none => s
    if m = 0 then s
    else
      let old := s.word a
      let new := (old &&& ~~~m) ||| (v &&& m)
      (s.logUndo c a old new).store a 4 new.toNat

/-- Plays the undo log of core `c` back (R526): a word whose value is still the execution's last returns to what it
was before the first write; any other is left and counted. -/
def State.undoPlayback (c : Nat) (s : State) : State :=
  let log := (s.core c).undo
  let addrs := (log.map fun e => e.1).eraseDups
  forL addrs (fun a t =>
    let es := log.filter fun e => e.1 == a
    match es.head?, es.getLast? with
    | some newest, some oldest =>
      if t.word a = newest.2.2 then t.store a 4 oldest.2.1.toNat else t.incSat F.FLT_UNDO_UNDO_SKIP
    | _, _ => t) s

/-! ### Image access (R110, R159) -/

/-- The image word `i` as the execution sees it: snapshot, overlaid by its own staged bits; without an execution
the canvas. -/
def State.imageWord (s : State) (c i : Nat) : Word :=
  match tlook s.scan.execs c with
  | none => s.word (4 * i)
  | some e =>
    let base := BitVec.ofNat 32 (memNat e.snap (4 * i) 4)
    match e.staged.find? fun p => p.1 == i with
    | some (_, v, m) => (base &&& ~~~m) ||| (v &&& m)
    | none => base

/-- Does LDI of word `i` meet an uncorrectable word (R142): in the snapshot and not wholly staged, or in the canvas without an
execution? -/
def State.imageBad (s : State) (c i : Nat) : Bool :=
  match tlook s.scan.execs c with
  | none => s.eccBad (4 * i) 4
  | some e => e.snapBad.contains i && !(e.staged.any fun p => p.1 == i && p.2.2 == 0xFFFFFFFF)

/-- Image words with an uncorrectable error. -/
def State.imageBadWords (s : State) : List Nat :=
  (s.flt.badEcc.filter fun p => 2 ≤ p.2 && p.1 < imageSize).map fun p => p.1 / 4

/-- Adds masked bits of word `i` to a staging list. -/
def stageIn (i : Nat) (v m : Word) : List (Nat × Word × Word) → List (Nat × Word × Word)
  | [] => [(i, v &&& m, m)]
  | (j, w, n) :: t =>
    if j = i then (j, (w &&& ~~~m) ||| (v &&& m), n ||| m) :: t else (j, w, n) :: stageIn i v m t

/-- Stages the masked bits of image word `i` for the execution on core `c` (R159). Bits that the task does not own
are not staged; if it owns none of them the write is discarded. One word too many ends the execution; the EPC that STAGE_FULL
reports is PC, which has gone past the storing instruction (R177, assumption 63). -/
def State.stage (c i : Nat) (v m : Word) (s : State) : State :=
  match tlook s.scan.execs c with
  | none => s
  | some e =>
    let m' := m &&& s.ownMask e.task i
    if m' = 0 then s.ownViolation e.task
    else if (e.staged.any fun p => p.1 == i) = false ∧ 8192 ≤ e.staged.length then
      s.abnormalEnd c 0x04 8192 (s.core c).pc.toNat
    else
      { s with scan := { s.scan with execs := tins c { e with staged := stageIn i v m' e.staged } s.scan.execs } }

/-- LDI: rd := image word, or image bit as 0 or 1, through the snapshot (R110). -/
def execLdi (c : Fin 8) (rd : BitVec 5) (kind : Bool) (index : BitVec 20) (s : State) : Out :=
  .next (s.instr c fun k s =>
    let i := index.toNat
    let w := if kind then i / 32 else i
    let v : Word := if kind then BitVec.ofNat 32 (bitsOf (s.imageWord c w) (i % 32) 1) else s.imageWord c w
    if s.imageBad c w then s.exception c Exc.ecc k.pc (BitVec.ofNat 32 (4 * w))
    else s.modCore c fun k => { k.setReg rd.toNat v with pc := k.pc + 4 })

/-- The bit `b` of the image as a word's mask. -/
def bitMask (b : Nat) : Word := 1#32 <<< (b % 32)

/-- STO: image word := rs, or image bit := rs bit 0 (R110, R159). -/
def execSto (c : Fin 8) (rs : BitVec 5) (kind : Bool) (index : BitVec 20) (s : State) : Out :=
  .next (s.instr c fun k s =>
    let i := index.toNat
    let v := k.reg rs.toNat
    let s := s.modCore c fun k => { k with pc := k.pc + 4 }
    if kind then s.stage c (i / 32) (if v.getLsbD 0 then bitMask i else 0) (bitMask i)
    else s.stage c i v 0xFFFFFFFF)

/-- SETF: if rs bit 0 is 1, image bit := 1 (R110). -/
def execSetf (c : Fin 8) (rs : BitVec 5) (index : BitVec 20) (s : State) : Out :=
  .next (s.instr c fun k s =>
    let s := s.modCore c fun k => { k with pc := k.pc + 4 }
    if (k.reg rs.toNat).getLsbD 0 then s.stage c (index.toNat / 32) (bitMask index.toNat) (bitMask index.toNat) else s)

/-- CLRF: if rs bit 0 is 1, image bit := 0 (R110). -/
def execClrf (c : Fin 8) (rs : BitVec 5) (index : BitVec 20) (s : State) : Out :=
  .next (s.instr c fun k s =>
    let s := s.modCore c fun k => { k with pc := k.pc + 4 }
    if (k.reg rs.toNat).getLsbD 0 then s.stage c (index.toNat / 32) 0 (bitMask index.toNat) else s)

/-! ### Instances (R115 to R120) -/

/-- An instance instruction: PRIVILEGE, ALIGN, ACCESS or INSTANCE with the instance unchanged (R50, R116, R143); else `f` gives
the instance's new words and the result for rd. `size` is the alignment, `ty` the timer type looked for. -/
def State.instanceOp (c : Fin 8) (rd ra rb : BitVec 5) (size : Nat) (ty : Nat)
    (f : Core → Word → List Word → List (Nat × Word) × Bool) (s : State) : State :=
  s.instr c fun k s =>
    let a := (k.reg rb.toNat).toNat
    if inRegSpace a && !flP k.fl then s.exception c Exc.privilege k.pc (k.reg rb.toNat)
    else if a % size ≠ 0 then s.exception c Exc.align k.pc (k.reg rb.toNat)
    else if canvasSize ≤ a then s.exception c Exc.access k.pc (k.reg rb.toNat)
    else if ty ≠ 0 ∧ bitsOf (s.word (a + 8)) 8 8 ≠ ty then s.exception c Exc.inst k.pc (k.reg rb.toNat)
    else if s.eccBad a size then s.exception c Exc.ecc k.pc (k.reg rb.toNat)
    else
      let (ws, q) := f k (k.reg ra.toNat) (s.words a (size / 4))
      let s := forL ws (fun (p : Nat × Word) t => t.coreStoreWord c (a + 4 * p.1) p.2 0xFFFFFFFF) s
      let s := { s with scan := { s.scan with newEdges := s.scan.newEdges.filter (· != a) } }
      s.modCore c fun k => { k.setReg rd.toNat (BitVec.ofNat 32 (b2n q)) with pc := k.pc + 4 }

/-- PREV of an edge instance for this execution: a new one after a switch takes its input (R185). -/
def State.edgePrev (s : State) (a : Nat) (cur : Bool) (w : Word) : Bool :=
  if s.scan.newEdges.contains a then cur else w.getLsbD 0

/-- EDGR and EDGF on the instance at rb. -/
def State.edgeOp (c : Fin 8) (rd ra rb : BitVec 5) (falling : Bool) (s : State) : State :=
  s.instanceOp c rd ra rb 8 0 (fun k x ws =>
    let cur := x.getLsbD 0
    let prev := s.edgePrev (k.reg rb.toNat).toNat cur (ws.getD 0 0)
    ([(0, if cur then 1 else 0)], if falling then prev && !cur else cur && !prev))

/-- EDGR: rising edge of ra bit 0 at the edge instance [rb] (R117). -/
def execEdgr (c : Fin 8) (rd ra rb : BitVec 5) (s : State) : Out := .next (s.edgeOp c rd ra rb false)

/-- EDGF: falling edge (R117). -/
def execEdgf (c : Fin 8) (rd ra rb : BitVec 5) (s : State) : Out := .next (s.edgeOp c rd ra rb true)

/-- A timer instance: preset, elapsed, IN_PREV, Q, RUNNING. -/
structure Timer where
  preset : Nat
  elapsed : Nat
  inPrev : Bool
  q : Bool
  running : Bool
deriving DecidableEq, Repr

/-- The timer in an instance's words. -/
def Timer.ofWords (ws : List Word) : Timer :=
  { preset := (ws.getD 0 0).toNat, elapsed := (ws.getD 1 0).toNat, inPrev := (ws.getD 2 0).getLsbD 0,
    q := (ws.getD 2 0).getLsbD 1, running := (ws.getD 2 0).getLsbD 2 }

/-- The words a timer instruction writes: elapsed, and the flags with the type; reserved bits 0. -/
def Timer.toWords (t : Timer) (ty : Nat) : List (Nat × Word) :=
  [(1, BitVec.ofNat 32 t.elapsed),
   (2, BitVec.ofNat 32 (b2n t.inPrev + 2 * b2n t.q + 4 * b2n t.running + 256 * ty))]

/-- min(x + d, p) without overflow (R118). -/
def satAdd (x d p : Nat) : Nat := min (x + d) p

/-- A running timer that has reached its preset completes with Q as given. -/
def Timer.complete (t : Timer) (q : Bool) : Timer :=
  if t.running && t.preset ≤ t.elapsed then { t with q := q, running := false } else t

/-- TON and TOF: `go` is the input value that times, `q` what Q becomes at the end (R118). -/
def Timer.delay (t : Timer) (inp go : Bool) (dt : Nat) : Timer :=
  let t := if inp != go then { t with elapsed := 0, running := false, q := !go }
    else if t.inPrev != go then ({ t with elapsed := 0, running := true } : Timer).complete go
    else if t.running then ({ t with elapsed := satAdd t.elapsed dt t.preset } : Timer).complete go
    else t
  { t with inPrev := inp }

/-- TP, not retriggerable (R118). -/
def Timer.pulse (t : Timer) (inp : Bool) (dt : Nat) : Timer :=
  let t := if t.running then ({ t with elapsed := satAdd t.elapsed dt t.preset } : Timer).complete false
    else if inp && !t.inPrev then
      (if t.preset = 0 then { t with elapsed := 0, running := false, q := false }
       else { t with elapsed := 0, running := true, q := true })
    else if !inp then { t with elapsed := 0 } else t
  { t with inPrev := inp }

/-- A timer instruction of type `ty` on the instance at rb. -/
def State.timerOp (c : Fin 8) (rd ra rb : BitVec 5) (ty : Nat) (f : Timer → Bool → Nat → Timer) (s : State) : State :=
  s.instanceOp c rd ra rb 16 ty fun k x ws =>
    let t := f (Timer.ofWords ws) (x.getLsbD 0) k.taskDt.toNat
    (t.toWords ty, t.q)

/-- TON: on-delay timer of type 0x01 (R118). -/
def execTon (c : Fin 8) (rd ra rb : BitVec 5) (s : State) : Out :=
  .next (s.timerOp c rd ra rb 0x01 fun t i dt => t.delay i true dt)

/-- TOF: off-delay timer of type 0x02 (R118). -/
def execTof (c : Fin 8) (rd ra rb : BitVec 5) (s : State) : Out :=
  .next (s.timerOp c rd ra rb 0x02 fun t i dt => t.delay i false dt)

/-- TP: pulse timer of type 0x03 (R118). -/
def execTp (c : Fin 8) (rd ra rb : BitVec 5) (s : State) : Out :=
  .next (s.timerOp c rd ra rb 0x03 fun t i dt => t.pulse i dt)

/-- CTU: up-counter at rb; ra bit 0 CU, bit 1 R (R120). -/
def execCtu (c : Fin 8) (rd ra rb : BitVec 5) (s : State) : Out :=
  .next (s.instanceOp c rd ra rb 16 0 fun _ x ws =>
    let cnt := (ws.getD 0 0).toInt
    let fl := ws.getD 2 0
    let cu := x.getLsbD 0
    let cnt := if x.getLsbD 1 then 0 else if cu && !fl.getLsbD 0 && decide (cnt < 0x7FFFFFFF) then cnt + 1 else cnt
    let q := decide ((ws.getD 1 0).toInt ≤ cnt)
    ([(0, BitVec.ofInt 32 cnt), (2, BitVec.ofNat 32 (b2n cu + 2 * b2n (fl.getLsbD 1) + 4 * b2n q))], q))

/-- CTD: down-counter at rb; ra bit 0 CD, bit 1 LD (R120). -/
def execCtd (c : Fin 8) (rd ra rb : BitVec 5) (s : State) : Out :=
  .next (s.instanceOp c rd ra rb 16 0 fun _ x ws =>
    let cnt := (ws.getD 0 0).toInt
    let fl := ws.getD 2 0
    let cd := x.getLsbD 0
    let cnt := if x.getLsbD 1 then (ws.getD 1 0).toInt
      else if cd && !fl.getLsbD 1 && decide (-0x80000000 < cnt) then cnt - 1 else cnt
    let q := decide (cnt ≤ 0)
    ([(0, BitVec.ofInt 32 cnt), (2, BitVec.ofNat 32 (b2n (fl.getLsbD 0) + 2 * b2n cd + 4 * b2n q))], q))

/-! ### Events and waiting (R112, R113) -/

/-- EVT: submits the event in ra bits 15..0 with payload rb; rd := 0 accepted, 1 queue full, 2 not enabled. -/
def execEvt (c : Fin 8) (rd ra rb : BitVec 5) (s : State) : Out :=
  .next (s.instr c fun k s =>
    let n := bitsOf (k.reg ra.toNat) 0 16
    let done (v : Word) (s : State) : State := s.modCore c fun k => { k.setReg rd.toNat v with pc := k.pc + 4 }
    if !s.evEnabled n then done 2 s
    else match s.submit n (k.reg rb.toNat) (s.fld F.SCHED_CTRL_HW_RSV + 1) with
      | some t => done 0 t
      | none => done 1 s)

/-- Is an execution of task `t` running or queued? -/
def State.taskBusy (s : State) (t : Nat) : Bool :=
  s.scan.execs.any (fun p => p.2.task == t) || s.sched.entries.any (fun e => e.task == t) ||
  s.sched.starts.any (fun e => e.task == t) || s.sched.inits.contains t ||
  !(tget [] s.sched.reasons t).isEmpty

/-- WFT: waits for the end of the execution of the task in ra bits 5..0 that runs or is queued, with a timeout of
rb µs; rd := 2 when there is none, 3 for the caller itself, 1 at once for a timeout of 0 (R113). -/
def execWft (c : Fin 8) (rd ra rb : BitVec 5) (s : State) : Out :=
  .next (s.instr c fun k s =>
    let t := bitsOf (k.reg ra.toNat) 0 6
    let done (v : Word) : State := s.modCore c fun k => { k.setReg rd.toNat v with pc := k.pc + 4 }
    if s.taskOn c = some t then done 3
    else if !s.taskBusy t then done 2
    else if k.reg rb.toNat = 0 then done 1
    else s.modCore c fun k =>
      { k with wait := some { task := t, ends := s.endCount t, deadline := s.tbc + us (k.reg rb.toNat).toNat, rd := rd.toNat } })

/-- WFT_RETURN: the wait of core `c` ends with rd = 0 once the awaited execution has ended, or with 1 once the
timeout has passed (R113); else it goes on. -/
def execWftReturn (c : Fin 8) (s : State) : Out :=
  .next (match (s.core c).wait with
    | none => s
    | some w =>
      let done (v : Word) : State :=
        s.modCore c fun k => { k.setReg w.rd v with pc := k.pc + 4, wait := none }
      if w.ends < s.endCount w.task then done 0 else if w.deadline ≤ s.tbc then done 1 else s)

end Sys2Proof.Machine
end

