-- ==== Sys2Proof/Machine/Outputs.lean ====
section
/-!
DEFINITION. The force table (R169 to R174), endpoint descriptors (R450, R451) and writer precedence as far as it
is common to all outputs (R27, R165).
-/

set_option Elab.async false

namespace Sys2Proof.Machine

/-! ### Force table -/

/-- Address of force entry `i`. -/
def forceAddr (i : Nat) : Nat := 0xFF0000 + 16 * i

/-- A force entry (R169). -/
structure Force where
  index : Nat
  kind : Nat
  output : Bool
  key : Nat
  value : Word
  mask : Word
deriving DecidableEq, Repr

/-- The entry at index `i`, if it is not free. -/
def State.forceAt (s : State) (i : Nat) : Option Force :=
  let w := s.word (forceAddr i)
  if bitsOf w 28 4 = 0 then none
  else some { index := i, kind := bitsOf w 28 4, output := w.getLsbD 27, key := (s.word (forceAddr i + 4)).toNat,
              value := s.word (forceAddr i + 8), mask := s.word (forceAddr i + 12) }

/-- The entries in use: a used entry has a byte of its word 0 listed in memory. -/
def State.forces (s : State) : List Force :=
  ((s.mem.filterMap fun c => if 0xFF0000 ≤ c.1 ∧ c.1 < 0x1000000 ∧ c.1 % 16 = 3 then some ((c.1 - 0xFF0000) / 16) else none).filterMap
    s.forceAt)

/-- The entry for a kind, key and direction. -/
def State.findForce (s : State) (kind key : Nat) (output : Bool) : Option Force :=
  s.forces.find? fun f => f.kind == kind && f.key == key && f.output == output

/-- FORCE_N and the counters of SCAN_STAT follow the table (R174). -/
def State.forceStat (s : State) : State :=
  let n := s.forces.length
  (s.setFld F.SCAN_STAT_FORCE_COUNT (min 4096 n)).setFlag F.SCAN_STAT_FORCE_ACT (n != 0)

/-- Does an input force of this key act on the scan path: is it an input's word and bits (R170)? Handles: words 0 to 2 and
the FIO state of a channel, a canvas word, the pins ILK_IN and TRIGL. The answer is the word, whether one bit of it is
meant, and that bit. -/
def handleWord (h : Nat) (output : Bool) : Option (Nat × Option Nat) :=
  let n := h % 128
  match h / 2 ^ 28 % 16 with
  | 1 =>
    let fn := h / 256 % 16
    if output then (if fn = 3 then some (chWord n 3 / 4, none) else none)
    else if fn < 3 then some (chWord n fn / 4, none)
    else if fn = 4 then some (n / 32, some (n % 32)) else none
  | 2 => some (h % 2 ^ 22, none)
  | 5 => if !output && bitOf h 24 && h % 256 < 24 then some (8, some (h % 256)) else none
  | _ => none

/-- The image word that a force acts on, with value and mask; none for a remote endpoint. -/
def Force.bits (f : Force) : Option (Nat × Word × Word) :=
  let one (i b : Nat) (m : Word) : Option (Nat × Word × Word) :=
    let k : Word := if m.getLsbD 0 then 1#32 <<< b else 0
    some (i, if f.value.getLsbD 0 then k else 0, k)
  if f.kind = 1 then one (f.key / 32) (f.key % 32) 1
  else if f.kind = 2 then some (f.key, f.value, f.mask)
  else match handleWord f.key f.output with
    | some (i, none) => some (i, f.value, f.mask)
    | some (i, some b) => one i b f.mask
    | none => none

/-- The force as a pin sees it: a set acts from the first grid point at least 200 ns after it, and until then the force
that it replaced, if any (R172). -/
def State.forceAtPin (s : State) (f : Force) : Option Force :=
  match tlook s.scan.forceSet f.index with
  | some (t, old) =>
    if s.tbc < gridFrom (t + 50) then old.map fun o => { f with value := o.1, mask := o.2 } else some f
  | none => some f

/-- What forces of a direction give bits of image word `i`: value and mask (R169). -/
def forceBits (fs : List Force) (output : Bool) (i : Nat) : Word × Word :=
  fs.foldl (fun (acc : Word × Word) f =>
    if f.output != output then acc
    else match f.bits with
      | some (j, v, m) => if j = i then ((acc.1 &&& ~~~m) ||| (v &&& m), acc.2 ||| m) else acc
      | none => acc) (0, 0)

/-- The forces of a direction on bits of image word `i`. -/
def State.forceOn (s : State) (output : Bool) (i : Nat) : Word × Word := forceBits s.forces output i

/-- The output force on a pin's bits of image word `i` (R172). -/
def State.wordForce (s : State) (i : Nat) : Word × Word := forceBits (s.forces.filterMap s.forceAtPin) true i

/-! ### Levels -/

/-- Level 2 of R165 acts: a severity-4 or 5 reaction, the output states of R52, or the power-fail state. -/
def State.level2 (s : State) : Bool :=
  s.flt.hold2 || s.inMode [Mode.vault, Mode.dawn, Mode.idle, Mode.follow, Mode.lockout] || s.out.powerFail

end Sys2Proof.Machine
end

