-- ==== Sys2Proof/Machine/Galxis.lean ====
section
/-!
DEFINITION. A Galxis frame byte by byte (R458 to R460): header, records, STATUS, and the Ethernet frame around them.
-/

set_option Elab.async false

namespace Sys2Proof.Machine

/-- The STATUS of a record: all ones as sent (R460). -/
def gxStatusBytes (g : GxStatus) : List Nat :=
  if g.state = 15 then List.replicate 8 255
  else leBytes 4 (g.epoch % 2 ^ 16 * 2 ^ 16 + g.cyc % 256 * 2 ^ 8 + g.state % 16 * 2 ^ 4 + b2n g.sigOk * 8 + b2n g.inValid * 4 +
    b2n g.outReject * 2 + b2n g.wd) ++ leBytes 4 g.cfgSig

/-- A record: its header, data padded to 4, STATUS (R459). -/
def gxRecordBytes (r : GxRecord) : List Nat :=
  [r.station % 256, r.kind % 256, b2n r.go, 0] ++ leBytes 2 r.data.length ++ [0, 0] ++ r.data.map BitVec.toNat ++
  List.replicate ((r.data.length + 3) / 4 * 4 - r.data.length) 0 ++ gxStatusBytes r.status

/-- The payload of a frame: the header and its records (R458). -/
def gxFrameBytes (f : GxFrame) : List Nat :=
  [16 + f.type % 16, b2n f.reflected + 2 * b2n f.fromB] ++ leBytes 2 f.epoch ++ leBytes 4 f.cycle ++
  [f.frag % 256, f.nfrag % 256, f.link % 256, 0] ++ leBytes 4 f.cdly ++ leBytes 8 f.txot ++ leBytes 8 f.sampleOt ++
  leBytes 8 f.commitOt ++ List.replicate 8 0 ++ f.records.flatMap gxRecordBytes

/-- SL_MAC of a station port: NET_MAC of NET0 with its last byte replaced (R481); a register's low byte is its first address
byte (assumption 9). -/
def State.slMac (s : State) (port : Nat) : List Nat :=
  leBytes 2 (s.fld (F.NET_MAC_H_MAC 0)) ++ leBytes 3 (s.fld (F.NET_MAC_L_MAC 0)) ++ [0x40 + port]

/-- The Ethernet frame on a port: destination, source, EtherType, payload, and the FCS, inverted where it is bad (R458, R461). -/
def State.gxWire (s : State) (port : Nat) (f : GxFrame) (fcsOk : Bool) : List Nat :=
  let e := s.fld (F.SL_ETYPE_ETYPE port)
  let l := List.replicate 6 255 ++ s.slMac port ++ [e / 256, e % 256] ++ gxFrameBytes f
  l ++ leBytes 4 (if fcsOk then crc32 l else crc32 l ^^^ 0xFFFFFFFF)

end Sys2Proof.Machine
end

