-- ==== Sys2Proof/Machine/Links.lean ====
section
/-!
DEFINITION. The Galxis station links (R450 to R470, R480): link start, the instants of a cycle, frames out and in,
publication with loss, dropout and rejoin, ring repair, and the mailbox.
-/

set_option Elab.async false

namespace Sys2Proof.Machine

/-- Puts a message into the outbox. -/
def State.emit (m : OutMsg) (s : State) : State := { s with outbox := m :: s.outbox }

/-! ### Configuration and instants (R455 to R457), in ns -/

def State.slPeriod (s : State) (n : Nat) : Int := s.fld (F.SL_CYC_PERIOD n) * 500
def State.slPhase (s : State) (n : Nat) : Int := s.fld (F.SL_PHASE_PHASE n) * 500
def State.slTxOfs (s : State) (n : Nat) : Int := (max 5 (s.fld (F.SL_TIM_TX_OFS n)) : Nat) * 1000
def State.slRxClose (s : State) (n : Nat) : Int := s.fld (F.SL_RX_RX_CLOSE n) * 500
def State.slCommit (s : State) (n : Nat) : Int :=
  if s.fld (F.SL_COMMIT_COMMIT_OFS n) = 0 then s.slPeriod n else s.fld (F.SL_COMMIT_COMMIT_OFS n) * 500
def State.slStations (s : State) (n : Nat) : Nat := min 256 (s.fld (F.SL_STBASE_NSTA n))
def State.slState (s : State) (n : Nat) : Nat := s.fld (F.SL_STAT_STATE n)

/-- The time a link takes its instants from: OT, or the provisional time PT = TBC × 4 ns (R456). -/
def State.slTime (s : State) (n : Nat) : Int :=
  if s.flag (F.SL_STAT_PROV n) then (s.tbc : Int) * 4 + (s.link n).ptOfs else s.otAt s.tbc / nsU

/-- The last cycle whose instant C_k + `ofs` has come. -/
def State.slCycle (s : State) (n : Nat) (ofs : Int) : Int :=
  if s.slPeriod n = 0 then -1 else (s.slTime n - s.slPhase n - ofs) / s.slPeriod n

/-- Does this module transmit the link: it is started, the mode is not FOLLOW and it has not yielded (R52, R91)? -/
def State.slTransmits (s : State) (n : Nat) : Bool :=
  1 ≤ s.slState n && s.slState n ≤ 4 && s.mode != Mode.follow && s.part.transmitting

/-- Does the port reflect (R454)? -/
def State.slReflects (s : State) (n : Nat) : Bool :=
  s.flag (F.SL_CTRL_EN n) && s.fld (F.SL_CTRL_TOPO n) == 2 && !s.slTransmits n

/-- Bytes of a record: header, data padded to 4, STATUS (R459). -/
def recBytes (len : Nat) : Nat := 16 + (len + 3) / 4 * 4

/-- The lengths of the records of a cycle, in order (R459). -/
def State.slRecLens (s : State) (n : Nat) : List Nat :=
  (List.range (s.slStations n)).flatMap fun i =>
    let t := (s.link n).st i
    (if t.olen = 0 then [] else [recBytes t.olen]) ++ (if t.ilen = 0 then [] else [recBytes t.ilen])

/-- The payloads of frames that hold records of these lengths, at most 1,500 bytes each with the 48-byte header. -/
def packFrames : Nat → List Nat → List Nat
  | cur, [] => [cur]
  | cur, l :: t => if cur + l ≤ 1500 then packFrames (cur + l) t else cur :: packFrames (48 + l) t

/-- T_wire in ns: frames of the cycle and one full mailbox frame at 1 Gbit/s, 20 bytes of preamble and gap and 18
of header and FCS per frame (R457). -/
def State.slWire (s : State) (n : Nat) : Int :=
  (((packFrames 48 (s.slRecLens n)).foldl (fun a p => a + max 46 p + 38) 0 + 1538) * 8 : Nat)

/-- The requirements of R457 for the delays given; RX_CLOSE is left out while it is automatic. -/
def State.slTimingOk (s : State) (n : Nat) (hOut hRt : Int) : Bool :=
  let t := s.slTxOfs n + s.slWire n + 2000
  let p := s.fld (F.SL_CYC_PERIOD n)
  125 ≤ p && p ≤ 200000 && s.fld (F.SL_PHASE_PHASE n) < p &&
  decide (t + hOut ≤ s.slCommit n) && decide (s.slCommit n ≤ s.slPeriod n) &&
  (s.fld (F.SL_RX_RX_CLOSE n) == 0 ||
   (decide (t + hRt ≤ s.slRxClose n) && decide (s.slRxClose n ≤ s.slPeriod n - 1000)))

/-! ### Station table and images -/

/-- Address of station `i`'s entry in the table. -/
def State.slEntry (s : State) (n i : Nat) : Nat := lpddrBase + s.fld (F.SL_STBASE_BASE n) * 0x100000 + 32 * i

/-- A number of `k` bytes in memory. -/
def State.num (s : State) (a k : Nat) : Nat := memNat s.mem a k

/-- Reads a station's table entry. -/
def State.slReadEntry (s : State) (n i : Nat) : Station :=
  let a := s.slEntry n i
  { olen := s.num a 2, ilen := s.num (a + 2) 2, oofs := s.num (a + 4) 2, iofs := s.num (a + 6) 2,
    sig := s.num (a + 8) 4, wd := s.num (a + 12) 1 }

/-- The bytes of memory from `a`, `k` of them. -/
def State.bytes (s : State) (a : Nat) : Nat → List Byte
  | 0 => []
  | k + 1 => s.byte a :: s.bytes (a + 1) k

/-- Stores a list of bytes. -/
def State.putBytes (a : Nat) : List Byte → State → State
  | [], s => s
  | b :: t, s => State.putBytes (a + 1) t (s.setByte a b)

/-- The mapped objects of a station that fit its data, with their descriptors as they stand (R452). -/
def State.slDescs (s : State) (n i : Nat) : List (Nat × Desc) :=
  let t := (s.link n).st i
  (((s.mappedOf n).filter fun h => epStation h == i).map fun h => (h, s.desc h)).filter fun p =>
    p.2.ofs + typeSize p.2.type ≤ (if p.2.output then t.olen else t.ilen)

/-- The substitute of a mapped input, over what the image holds. -/
def State.slSubstValue (s : State) (base : Nat) (d : Desc) : Word :=
  if d.subst = 1 then 0 else if d.subst = 2 then d.value
  else typeRead d.type d.bit (memNat s.mem (base + d.ofs) (typeSize d.type))

/-- A station's substitute image is published: every mapped input's substitute over the bytes as they stand, the higher object
winning; bytes that no mapped input covers keep their last value (R452, R464). -/
def State.slSubst (n i : Nat) (s : State) : State :=
  let t := (s.link n).st i
  let base := slInBase n + t.iofs
  forL ((t.descs.map Prod.snd).filter fun d => !d.output) (fun d u =>
    u.putTyped (base + d.ofs) d.type d.bit (s.slSubstValue base d)) s

/-- Do the images of the stations overlap or exceed 24 KiB (ERR 2)? -/
def slImagesBad (l : List Station) : Bool :=
  l.any (fun t => 0x6000 < t.oofs + t.olen || 0x6000 < t.iofs + t.ilen) ||
  (l.zipIdx.any fun (t, i) => l.zipIdx.any fun (u, j) => i != j &&
    ((t.oofs < u.oofs + u.olen && u.oofs < t.oofs + t.olen && t.olen != 0 && u.olen != 0) ||
     (t.iofs < u.iofs + u.ilen && u.iofs < t.iofs + t.ilen && t.ilen != 0 && u.ilen != 0)))

/-- Does a mapped object lie outside its station's data, or a dual-homed station have a WD below 2 (ERR 5)? -/
def State.slTableBad (s : State) (n : Nat) (l : List Station) (topo : Nat) : Bool :=
  (topo == 2 && l.any fun t => t.wd < 2) ||
  (s.mappedOf n).any fun h =>
    match l[epStation h]? with
    | some t => (if (s.desc h).output then t.olen else t.ilen) < (s.desc h).ofs + typeSize (s.desc h).type
    | none => false

/-! ### Mailbox queue -/

/-- Queues a mailbox request with the next tag. -/
def State.mbxPush (n : Nat) (r : MbxReq) (s : State) : State :=
  s.modLink n fun l => { l with mbx := l.mbx ++ [{ r with tag := (l.tag + 1) % 256 }], tag := (l.tag + 1) % 256 }

/-- The configuration set of a station: entries of object (2 bytes), length (2 bytes) and data (assumption 9). -/
def State.cfgSet (s : State) : Nat → Nat → Nat → List (Nat × List Byte)
  | 0, _, _ => []
  | fuel + 1, a, len =>
    if len < 4 then [] else
    let k := min (s.num (a + 2) 2) (len - 4)
    (s.num a 2, s.bytes (a + 4) k) :: s.cfgSet fuel (a + 4 + k) (len - 4 - k)

def toBytes (n v : Nat) : List Byte := (leBytes n v).map (BitVec.ofNat 8)

/-- Queues the objects that configure a station, in the order of R469, CFG_SIG last. -/
def State.slConfigure (n i : Nat) (s : State) : State :=
  let t := (s.link n).st i
  let a := s.slEntry n i
  let wr (o : Nat) (d : List Byte) : MbxReq := { station := i, write := true, object := o, len := d.length, tag := 0, data := d, user := 1 }
  let timing := toBytes 4 (s.slPeriod n).toNat ++ toBytes 4 (s.slPhase n).toNat ++ toBytes 4 (s.slTxOfs n).toNat ++
    toBytes 4 (s.slCommit n).toNat ++ toBytes 1 t.wd
  let set := (s.cfgSet (s.num (a + 24) 4 / 4) (s.num (a + 16) 5) (s.num (a + 24) 4)).map fun p => wr p.1 p.2
  forL ([wr 8188 (toBytes 2 t.olen ++ toBytes 2 t.ilen), wr 8189 timing,
         wr 8187 (toBytes 4 (ofSigned 32 (t.delayA * 16)) ++ toBytes 4 (ofSigned 32 (t.delayB * 16)))] ++ set ++
        [wr 8190 (toBytes 4 t.sig)]) (State.mbxPush n) (s.modLink n fun l => l.modSt i fun t => { t with reconf := true })

/-! ### Frames out -/

/-- Puts a frame on a port. -/
def State.slPut (port : Nat) (f : GxFrame) (fcsOk : Bool) (s : State) : State :=
  s.emit (.galxis port f fcsOk (s.gxWire port f fcsOk))

/-- Sends a frame on a port; an armed link injection inverts its FCS (R531). -/
def State.slSend (n port : Nat) (f : GxFrame) (s : State) : State :=
  match s.injOf 3 with
  | some i => if i.target % 16 = n then s.injDone.slPut port f false else s.slPut port f true
  | none => s.slPut port f true

/-- The frame header of cycle `k` (R458). -/
def State.slHeader (s : State) (n : Nat) (type : Nat) (k : Int) : GxFrame :=
  { type := type, link := n, epoch := if s.fld F.PART_CTRL_ROLE = 0 then 0 else s.fld F.PART_STAT_EPOCH,
    cycle := (k % 2 ^ 32).toNat, txot := (s.slTime n).toNat,
    sampleOt := (s.slPhase n + k * s.slPeriod n).toNat,
    commitOt := (s.slPhase n + k * s.slPeriod n + s.slCommit n).toNat }

/-- The records that stations answer in: one of 16 bytes for each station of the table that one frame holds (R459, R462,
assumption 9). -/
def State.slProbe (s : State) (n type kind : Nat) : GxFrame :=
  { s.slHeader n type 0 with
    records := (List.range (min 45 (s.slStations n))).map fun i => { station := i, kind := kind, data := List.replicate 16 0 } }

/-- Splits records into frames of at most 1,500 payload bytes (R458, R459). -/
def splitRecs : Nat → List GxRecord → List GxRecord → List (List GxRecord)
  | _, cur, [] => [cur.reverse]
  | used, cur, r :: t =>
    let b := recBytes r.data.length
    if used + b ≤ 1500 then splitRecs (used + b) (r :: cur) t else cur.reverse :: splitRecs (48 + b) [r] t

/-- The first queued request of each station, at most four (R468). -/
def mbxFirst : List MbxReq → List Nat → List MbxReq
  | [], _ => []
  | r :: t, seen =>
    if 4 ≤ seen.length then [] else
    if seen.contains r.station then mbxFirst t seen else
    if r.answer.isSome then mbxFirst t (r.station :: seen) else r :: mbxFirst t (r.station :: seen)

/-- The MBX record of a request (R468). -/
def mbxRecord (r : MbxReq) : GxRecord :=
  { station := r.station, kind := 2,
    data := toBytes 1 (b2n r.write) ++ toBytes 1 r.tag ++ toBytes 2 r.object ++ toBytes 2 r.len ++ [0, 0] ++
      (if r.write then r.data else List.replicate r.len 0) }

/-! ### Link start (R457, R480) -/

/-- A write of SL_CTRL: bits 29..27 only while EN is 0; EN = 1 checks the link and starts it or leaves EN at 0 with
its ERR; EN = 0 stops it. A follower and a leader that has yielded send no DISCOVER (R87, R91). -/
def State.slCtrlWrite (n : Nat) (v : Word) (s : State) : State :=
  let was := s.flag (F.SL_CTRL_EN n)
  let old := s.reg (F.SL_CTRL_EN n).addr
  let v' := if was then putBits v 27 3 (bitsOf old 27 3) else v
  let s := s.plainWrite (F.SL_CTRL_EN n).addr v'
  let en := s.flag (F.SL_CTRL_EN n)
  if !was && en then
    let topo := if s.fld (F.SL_CTRL_TOPO n) = 3 then 0 else s.fld (F.SL_CTRL_TOPO n)
    let l := (List.range (s.slStations n)).map (s.slReadEntry n)
    let t := s.modLink n fun _ => { stations := l.zipIdx.foldl (fun a p => tset {} p.2 p.1 a) [], tag := (s.link n).tag }
    let k := s.slStations n
    let err :=
      if !s.dirFits n then 4
      else if (topo = 1 ∧ (n % 2 = 1 ∨ s.flag (F.SL_CTRL_EN (n + 1)))) ∨
        (topo = 2 ∧ !(s.fld F.PART_CTRL_ROLE == 1 || s.fld F.PART_CTRL_ROLE == 2)) ∨
        (n % 2 = 1 ∧ s.flag (F.SL_CTRL_EN (n - 1)) ∧ s.fld (F.SL_CTRL_TOPO (n - 1)) = 1) then 3
      else if !t.slTimingOk n (k * 2000) (k * 4000) then 1
      else if slImagesBad l then 2
      else if s.slTableBad n l topo then 5 else 0
    if err ≠ 0 then
      let s := (s.setFlag (F.SL_CTRL_EN n) false).setFld (F.SL_STAT_ERR n) err
      s.raise (368 + n) n
    else
      let t := (t.setFld (F.SL_STAT_ERR n) 0).setFlag (F.SL_STAT_PROV n) (!t.otValid)
      let t := t.modLink n fun l => { l with stations := tmap {} (fun i x => { x with descs := t.slDescs n i }) l.stations }
      if t.mode = Mode.follow || !t.part.transmitting then t.setFld (F.SL_STAT_STATE n) 4
      else (t.setFld (F.SL_STAT_STATE n) 1).slSend n n (t.slProbe n 3 4)
  else if was && !en then
    let s := (s.setFld (F.SL_STAT_STATE n) 0).modLink n fun l => { tag := l.tag }
    let s := forN 8 (fun k t => t.setFld (F.SL_ONLINE_ONLINE n k) 0) s
    (s.setFlag (F.SL_STAT_PROV n) false).setFlag (F.SL_STAT_RING_BROKEN n) false
  else s

/-- The cable delays from the times the stations wrote into the MEASURE frame (R462): ns, 32-bit counters. -/
def cableDelays : Int → List (Nat × Nat × Nat × Nat) → List Int
  | _, [] => []
  | span, (t1, t2, t3, t4) :: rest =>
    (span - (ofSigned 32 ((t4 : Int) - t1) : Int)) / 2 :: cableDelays (ofSigned 32 ((t3 : Int) - t2)) rest

/-- MEASURE_COMPLETE: the MEASURE frame is back; `tx` and `rx` are the port's own time-stamps in ns, `times` the
stations' t1 to t4. The delays are set, an automatic RX_CLOSE takes the least value allowed, and the link goes on to
configuration or to FAULT with ERR 1 (R457, R462). -/
def execMeasureComplete (n : Fin 16) (tx rx : Int) (times : List (Nat × Nat × Nat × Nat)) (s : State) : Out :=
  if s.slState n ≠ 2 then .next s else
  let ds := cableDelays (rx - tx) times
  let s := forN (s.slStations n) (fun i t => t.modLink n fun l => l.modSt i fun x =>
    { x with delayA := ds.getD i 0, delayB := ds.getD (i + 1) 0 }) s
  let hOut := ds.foldl (· + ·) 0 +
    (times.dropLast).foldl (fun a (t : Nat × Nat × Nat × Nat) => a + (ofSigned 32 ((t.2.1 : Int) - t.1) : Int)) 0
  let hRt := rx - tx
  let s := if s.fld (F.SL_RX_RX_CLOSE n) = 0 then
      s.setFld (F.SL_RX_RX_CLOSE n) ((s.slTxOfs n + s.slWire n + hRt + 2000 + 499) / 500).toNat
    else s
  if s.slTimingOk n hOut hRt then
    let s := s.setFld (F.SL_STAT_STATE n) (if s.slStations n = 0 then 4 else 3)
    .next (forN (s.slStations n) (fun i t => t.slConfigure n i) s)
  else .next (((s.setFld (F.SL_STAT_STATE n) 5).setFld (F.SL_STAT_ERR n) 1).raise (352 + n) n)

/-! ### The cycle (R455) -/

/-- The value that writer precedence gives a mapped output at B_k, its owner's value being `own` (R165, R455). A force
replaces its masked bits of what levels 5 and 6 give (R172). -/
def State.slOutputValue (s : State) (h : Nat) (own : Word) : Word :=
  if s.level2 || s.safeOff then (s.desc h).value
  else
    let v := match tget none s.out.ep h with
      | some p => BitVec.ofInt 32 p.value
      | none => own
    match s.findForce 3 h true with
    | some f => (v &&& ~~~f.mask) ||| (f.value &&& f.mask)
    | none => v

/-- OUTPUT_IMAGE_TAKE: at B_k the link's output image is taken as one whole for cycle k. -/
def execOutputImageTake (n : Fin 16) (s : State) : Out :=
  let k := s.slCycle n (s.slTxOfs n - 2000)
  if 3 ≤ s.slState n ∧ s.slState n ≤ 4 ∧ (s.link n).taken < k ∧ s.slTransmits n then
    let t := forL ((List.range (s.slStations n)).flatMap fun i => ((s.link n).st i).descs.filter fun p => p.2.output) (fun p t =>
      let d := p.2
      let a := slOutBase n + ((s.link n).st (epStation p.1)).oofs + d.ofs
      t.putTyped a d.type d.bit (s.slOutputValue p.1 (typeRead d.type d.bit (memNat t.mem a (typeSize d.type))))) s
    let live := !(s.level2 || s.safeOff)
    let words := s.forces.filterMap fun f =>
      if f.output then f.bits.map Prod.fst else none
    let t := if live then forL (words.filter fun i => slOutBase n ≤ 4 * i && 4 * i < slOutBase n + 0x6000) (fun i t =>
        let (v, m) := s.forceOn true i
        t.maskWord (4 * i) v m) t else t
    let img := t.mem.filter fun c => slOutBase n ≤ c.1 && c.1 < slOutBase n + 0x6000
    .next (s.modLink n fun l => { l with taken := k, image := img })
  else .next s

/-- FRAME_TRANSMIT: at T_k the frames of cycle k leave the port, the MAILBOX frame last; on both ports of a broken
ring (R455, R458, R459, R466). -/
def execFrameTransmit (n : Fin 16) (s : State) : Out :=
  let l := s.link n
  let k := l.taken
  if s.slTransmits n ∧ l.sent < k ∧ s.slPhase n + k * s.slPeriod n + s.slTxOfs n ≤ s.slTime n then
    let recs := (List.range (s.slStations n)).flatMap fun i =>
      let t := l.st i
      let out := (List.range t.olen).map fun j => tget (0 : Byte) l.image (slOutBase n + t.oofs + j)
      (if t.olen = 0 then [] else [({ station := i, kind := 0, go := t.go, data := out } : GxRecord)]) ++
      (if t.ilen = 0 then [] else [{ station := i, kind := 1, data := List.replicate t.ilen 0 }])
    let groups := splitRecs 48 [] recs
    let frames := groups.zipIdx.map fun (g, i) => { s.slHeader n 0 k with frag := i, nfrag := groups.length, records := g }
    let mb := mbxFirst l.mbx []
    let frames := frames ++ (if mb.isEmpty then [] else [{ s.slHeader n 1 k with records := mb.map mbxRecord }])
    let ports := if l.both then [n.val, n.val + 1] else [n.val]
    let s := forL frames (fun f t => forL ports (fun p t => t.slSend n p { f with fromB := p != n.val }) t) s
    .next (s.modLink n fun l => { l with sent := k, got := [], reflected := false, copies := 0, back := 0, frames := groups.length })
  else .next s

/-- Takes a station's record into the cycle's list: the fresh copy, IN data before OUT (R466). -/
def takeRecord (r : GxRecord) (l : List (Nat × GxStatus × List Byte)) : List (Nat × GxStatus × List Byte) :=
  if r.status.state = 15 then l
  else match l.find? fun p => p.1 == r.station with
    | none => l ++ [(r.station, r.status, if r.kind = 1 then r.data else [])]
    | some _ => if r.kind = 1 then (l.filter fun p => p.1 != r.station) ++ [(r.station, r.status, r.data)] else l

/-- The answer a returned MBX record gives the oldest request of its station (R468). -/
def mbxAnswer (r : GxRecord) : List MbxReq → List MbxReq
  | [] => []
  | q :: t =>
    if q.station = r.station ∧ q.answer.isNone then
      (if (r.data.getD 1 0).toNat = q.tag then { q with answer := some ((r.data.getD 6 0).toNat, r.data.drop 8) } else q) :: t
    else q :: mbxAnswer r t

/-- A frame as a reflecting port of this module sends it back within 800 ns: CDLY grows by the cable delay of the port and
that residence time, in 1/16 ns (R454, R461). -/
def State.slReflected (s : State) (n : Nat) (f : GxFrame) : GxFrame :=
  { f with reflected := true,
           cdly := ofSigned 32 ((f.cdly : Int) + 16 * (((s.link n).st (s.slStations n - 1)).delayB + 800)) }

/-- The time that a received frame gives a station's clock (R461). -/
def State.slClock (s : State) (n : Nat) (f : GxFrame) : Int :=
  (f.txot : Int) + f.cdly / 16 + ((s.link n).st (s.slStations n - 1)).delayB

/-- FRAME_RECEIVE: a frame returns or is reflected at a port. A bad FCS is counted, the frame discarded (R461); a reflecting port
sends it back with REFLECTED, one with a bad FCS with its FCS inverted (R454, R461). -/
def execFrameReceive (port : Fin 16) (fcsOk : Bool) (f : GxFrame) (s : State) : Out :=
  let n := if port.val % 2 = 1 ∧ s.fld (F.SL_CTRL_TOPO (port - 1)) = 1 ∧ s.flag (F.SL_CTRL_EN (port - 1)) then port.val - 1 else port.val
  if s.slState n = 0 then .next s else
  if !fcsOk then
    .next ((if s.slReflects n then s.slPut port (s.slReflected n f) false else s).incSat (F.SL_CNT_BADFRM n)) else
  let s := if s.slReflects n then
      (s.slSend n port (s.slReflected n f)).modLink n fun l =>
        { l with ptOfs := if s.mode = Mode.follow then s.slClock n f - (s.tbc : Int) * 4 else l.ptOfs }
    else s
  match f.type with
  | 0 =>
    .next (s.modLink n fun l =>
      { l with got := f.records.foldl (fun a r => if r.kind ≤ 1 then takeRecord r a else a) l.got,
               reflected := l.reflected || (f.reflected && port.val == n),
               copies := if f.reflected || port.val != n then l.copies else l.copies + 1,
               back := if f.reflected || port.val == n then l.back else l.back + 1 })
  | 1 =>
    .next (s.modLink n fun l =>
      { l with mbx := f.records.foldl (fun q r =>
          if r.kind = 2 ∧ r.status.state ≠ 15 ∧ r.status.cyc = f.cycle % 256 then mbxAnswer r q else q) l.mbx })
  | 3 =>
    if s.slState n = 1 ∧ s.part.transmitting then
      let s := s.setFld (F.SL_STAT_FOUND n) (f.records.filter fun r => r.kind == 4).length
      .next ((s.setFld (F.SL_STAT_STATE n) 2).slSend n n (s.slProbe n 2 3))
    else .next s
  | _ => .next s

/-- Are a station's records of cycle `k` valid (R463)? -/
def slValid (t : Station) (k : Int) (g : GxStatus) : Bool :=
  (g.cyc : Int) == k % 256 && (g.state == 2 || g.state == 3) && g.sigOk && g.cfgSig == t.sig

/-- SOURCE word of a link reason: link in bits 12..8, station in bits 7..0 (R176). -/
def slSource (n i : Nat) : Nat := n * 256 + i

/-- A missed cycle of one station (R463, R464). -/
def State.slMissed (n i : Nat) (reconf : Bool) (s : State) : State :=
  let t := (s.link n).st i
  if t.online then
    if max 1 (s.fld (F.SL_MISS_N_MISS n)) ≤ t.missed + 1 then
      let s := s.modLink n fun l => l.modSt i fun t => { t with online := false, go := false, good := 0, missed := t.missed + 1 }
      let s := (s.slSubst n i).setFbit (F.SL_ONLINE_ONLINE n (i / 32)) (i % 32) false
      let s := s.reasonTo s.defaultErr 0x05 (slSource n i) (t.missed + 1) 0
      (s.log .linkDropout (n * 2 ^ 21 + i * 2 ^ 13) (slSource n i)).raise (352 + n) i
    else s.modLink n fun l => l.modSt i fun t => { t with missed := t.missed + 1 }
  else
    let s := s.modLink n fun l => l.modSt i fun t => { t with good := 0 }
    if reconf && !((s.link n).mbx.any fun q => q.user == 1 && q.station == i) then s.slConfigure n i else s

/-- One station at P_k (R463 to R465): publish, miss, drop out, count towards rejoin, rejoin. -/
def State.slStation (n : Nat) (k : Int) (i : Nat) (s : State) : State :=
  let l := s.link n
  let t := l.st i
  let g := l.got.find? fun p => p.1 == i
  let base := slInBase n + t.iofs
  let online (b : Bool) (s : State) : State := s.setFbit (F.SL_ONLINE_ONLINE n (i / 32)) (i % 32) b
  match g with
  | some (_, st, data) =>
    if slValid t k st then
      if t.online then (s.modLink n fun l => l.modSt i fun t => { t with missed := 0, inputs := data }).putBytes base data
      else if max 1 (s.fld (F.SL_MISS_N_REJOIN n)) ≤ t.good + 1 then
        let ds := s.slDescs n i
        let s := s.modLink n fun l => l.modSt i fun t =>
          { t with online := true, go := true, good := 0, missed := 0, inputs := data, descs := ds, reconf := false }
        let s := (online true (s.putBytes base data)).reasonTo s.defaultErr 0x06 (slSource n i) 0 0
        s.log .linkRejoin (n * 2 ^ 21 + i * 2 ^ 13) (slSource n i)
      else s.modLink n fun l => l.modSt i fun t => { t with good := t.good + 1 }
    else s.slMissed n i (st.state == 1 || st.cfgSig != t.sig)
  | none => s.slMissed n i false
/-- Ring repair at P_k (R466): a reflected cycle breaks the ring; 100 cycles in a row with both copies unreflected
restore it. -/
def State.slRing (n : Nat) (s : State) : State :=
  if s.fld (F.SL_CTRL_TOPO n) ≠ 1 then s else
  let l := s.link n
  if l.reflected && !l.both then
    ((s.setFlag (F.SL_STAT_RING_BROKEN n) true).modLink n fun l => { l with both := true, clean := 0 }).raise (352 + n) n
  else if l.both then
    if !l.reflected && l.frames ≤ l.copies && l.frames ≤ l.back then
      if 100 ≤ l.clean + 1 then
        (s.setFlag (F.SL_STAT_RING_BROKEN n) false).modLink n fun l => { l with both := false, clean := 0 }
      else s.modLink n fun l => { l with clean := l.clean + 1 }
    else s.modLink n fun l => { l with clean := 0 }
  else s

/-- The publication of the input image of cycle k at P_k, as one update (R455, R463 to R466). Mailbox requests whose
record has not returned count a try (R468). -/
def State.slPublish (n : Nat) (s : State) : State :=
  let k := s.slCycle n (s.slRxClose n)
  if 3 ≤ s.slState n ∧ s.slState n ≤ 4 ∧ (s.link n).published < k ∧ k ≤ (if s.slTransmits n then (s.link n).sent else k) then
    let l := s.link n
    let lost := (List.range (s.slStations n)).any fun i =>
      match l.got.find? fun p => p.1 == i with
      | some (_, st, _) => !slValid (l.st i) k st
      | none => true
    let s := forN (s.slStations n) (fun i t => t.slStation n k i) s
    let s := if lost then s.incSat (F.SL_CNT_LOSTCYC n) else s
    let s := s.slRing n
    let sent := (mbxFirst l.mbx []).map MbxReq.tag
    s.modLink n fun l => { l with
      published := k, got := [], mbx := l.mbx.map fun q =>
        if q.answer.isNone ∧ sent.contains q.tag then { q with tries := q.tries + 1 } else q }
  else s

/-! ### Mailbox (R468) -/

/-- Address of the mailbox buffer. -/
def State.mbxBuf (s : State) (n : Nat) : Nat :=
  (if s.flag (F.SL_MBXBUF_SPACE n) then lpddrBase else 0) + s.fld (F.SL_MBXBUF_ADDR n) * 256

/-- A write of SL_MBXREQ queues a request, or drops it when 16 are queued (R468, R480). -/
def State.mbxRequest (n : Nat) (v : Word) (s : State) : State :=
  if 16 ≤ (s.link n).mbx.length then s.setFlag (F.SL_MBXSTAT_OVF n) true
  else
    let len := bitsOf v 23 8 + 1
    let w := v.getLsbD 31
    let s := if w then s.ifFitted (s.mbxBuf n) len (fun t => t) else s
    let s := s.mbxPush n { station := bitsOf v 13 8, write := w, object := bitsOf v 0 13, len := len, tag := 0,
                           data := if !w then [] else if s.unfitted (s.mbxBuf n) len then List.replicate len 0
                             else s.bytes (s.mbxBuf n) len }
    s.setFld (F.SL_MBXSTAT_TAG n) (s.link n).tag

/-- MAILBOX_REQUEST. -/
def execMailboxRequest (_o : Origin) (n : Fin 16) (v : Word) (s : State) : Out := .next (s.mbxRequest n v)

/-- The first request that is at its end: answered, failed in its try and four retries, or its link not running. -/
def State.mbxDone (s : State) (n : Nat) : Option (MbxReq × Nat × List Byte) :=
  ((s.link n).mbx.find? fun q => q.answer.isSome || 5 ≤ q.tries || !(3 ≤ s.slState n && s.slState n ≤ 4)).map fun q =>
    match q.answer with
    | some (r, d) => (q, r, d)
    | none => (q, if 5 ≤ q.tries then 4 else 5, [])

/-- Takes a finished request out of the queue with its result: a READ's data go to the buffer, the completion event is
submitted, and the link runs once its configuration is written. -/
def State.mbxFinish (n : Nat) (q : MbxReq) (res : Nat) (d : List Byte) (s : State) : State :=
  let s := s.modLink n fun l => { l with mbx := l.mbx.filter fun x => x.tag != q.tag || x.station != q.station }
  if q.user = 0 then
    let s := if res = 0 ∧ !q.write then s.ifFitted (s.mbxBuf n) q.len (State.putBytes (s.mbxBuf n) (d.take q.len)) else s
    if s.flag (F.SL_MBXEVT_EN n) then
      s.hwEvent (s.fld (F.SL_MBXEVT_EVENT n)) (BitVec.ofNat 32 (res * 2 ^ 24 + q.tag * 2 ^ 16))
    else s
  else if s.slState n = 3 ∧ !((s.link n).mbx.any fun x => x.user == 1) then s.setFld (F.SL_STAT_STATE n) 4
  else s

end Sys2Proof.Machine
end

