-- ==== Sys2Proof/Machine/Ilm.lean ====
section
/-!
DEFINITION. The interlock matrix (R375 to R387, R582, R586): terms, their evaluation and latches, placement, LOAD
and SWAP.
-/

set_option Elab.async false

namespace Sys2Proof.Machine

/-! ### Inputs (R375, R379, R380) -/

/-- The die is in the state of R16: isolated or unpowered. -/
def State.dieDark (s : State) (d : Nat) : Bool := s.flag (F.DIE_STAT_ISOLATED d) || !(s.die d).viso

/-- A register write into the window of die `d`: ignored while the die is dark (R51). -/
def State.onDie (d : Nat) (f : State → State) (s : State) : State := if s.dieDark d then s else f s

/-- Is SBCn energised: both its switches on and both pads reading so (R504)? -/
def State.sbcOn (s : State) (n : Nat) : Bool :=
  let b := tget {} s.safe.sbcs n
  b.high && b.low && b.padP && b.padN

/-- The value of a matrix input for a local term or a global one; none when it is lost. A local term sees the die's
own state, a global one what escapes and blocks have brought. -/
def State.ilmInput (s : State) (loc : Bool) (i : Nat) : Option Bool :=
  if i < 128 then
    let c := s.chan i
    if s.dieDark (chDie i) || c.lostStatus then none else some (if loc then c.filt else c.seenFio)
  else if i < 256 then
    let c := s.chan (i - 128)
    if s.dieDark (chDie (i - 128)) || c.lostSample then none else some (if loc then c.win else c.seenWin)
  else if i < 272 then some (bitOf s.ilm.ilkFilt (i - 256))
  else if i < 280 then (if s.sys.vsen then some (s.sbcOn (i - 272)) else none)
  else some (bitOf s.ilm.trigl (i - 280))

/-! ### Terms (R377, R378) -/

/-- A literal of a term. -/
structure Literal where
  inv : Bool
  index : Nat
deriving DecidableEq, Repr

/-- A term in use. -/
structure Term where
  num : Nat
  latch : Bool
  evt : Bool
  out : Nat
  lits : List Literal
deriving DecidableEq, Repr

/-- Base address of a set's terms. -/
def ilmSetBase (set : Nat) : Nat := 0xF0081000 + 0x2000 * set

/-- Term `t` of a set, if EN is 1. -/
def State.ilmTerm (s : State) (set t : Nat) : Option Term :=
  let w (k : Nat) : Nat := s.fld (F.ILM_TERM_WORD set t k)
  let w0 := w 0
  if !bitOf w0 31 then none
  else
    let f := w 1 + w 2 * 2 ^ 32 + w 3 * 2 ^ 64
    some { num := t, latch := bitOf w0 30, evt := bitOf w0 29, out := w0 % 512,
           lits := (List.range 8).filterMap fun j =>
             let l := f / 2 ^ (12 * j) % 4096
             if bitOf l 11 then some { inv := bitOf l 10, index := l % 512 } else none }

/-- The terms of a set with EN = 1, in ascending order: a term in use has its word 0 listed in the register file. -/
def State.ilmTerms (s : State) (set : Nat) : List Term :=
  s.regs.filterMap fun p =>
    if ilmSetBase set ≤ p.1 ∧ p.1 < ilmSetBase set + 0x2000 ∧ p.1 % 16 = 0 then s.ilmTerm set ((p.1 - ilmSetBase set) / 16)
    else none

/-- The region a literal or an output belongs to, if any (R381). -/
def litRegion (i : Nat) : Option Nat := if i < 128 then some (i / 16) else if i < 256 then some ((i - 128) / 16) else none
def outRegion (o : Nat) : Option Nat :=
  if o < 128 then some (o / 16) else if o < 256 then some ((o - 128) / 16) else if o < 384 then some ((o - 256) / 16) else none

/-- The region all of a term's literals and its output belong to. -/
def Term.region (t : Term) : Option Nat :=
  match outRegion t.out with
  | none => none
  | some r => if t.lits.all fun l => litRegion l.index == some r then some r else none

/-- The terms placed local: 48 of each region in ascending order (R381). -/
def placeLocal (ts : List Term) : List Nat :=
  (ts.foldl (fun (acc : List (Nat × Nat)) t =>
    match t.region with
    | some r => if (acc.filter fun p => p.1 == r).length < 48 then acc ++ [(r, t.num)] else acc
    | none => acc) []).map Prod.snd

/-- The active set. -/
def State.ilmActive (s : State) : Nat := s.fld F.ILM_STAT_ACTIVE

/-- The terms of a set that are placed local. -/
def State.ilmLocal (s : State) (set : Nat) : List Nat := if set = 0 then s.ilm.localA else s.ilm.localB

/-- Is the term true (R378, R379)? -/
def State.termTrue (s : State) (set : Nat) (t : Term) : Bool :=
  let loc := (s.ilmLocal set).contains t.num
  t.lits.all fun l => match s.ilmInput loc l.index with
    | some b => b != l.inv
    | none => true

/-- Latch bit of a term. -/
def ilmLatLoc (set k : Nat) : Loc := if set = 0 then F.ILM_LATA_BITS k else F.ILM_LATB_BITS k
def State.latched (s : State) (set t : Nat) : Bool := s.fbit (ilmLatLoc set (t / 32)) (t % 32)

/-! ### Evaluation -/

/-- The outputs that a set holds, by truth (`live`) and by latch, with whether the term is local. A latch holds the output
that its term named when it latched, whatever is written to the set after a swap (R385). -/
def State.ilmHolds (s : State) (set : Nat) (live : Bool) : List (Bool × Nat) :=
  let loc (t : Nat) : Bool := (s.ilmLocal set).contains t
  (if live then ((s.ilmTerms set).filter (s.termTrue set)).map fun t => (loc t.num, t.out) else []) ++
  s.ilm.latOut.filterMap fun p => if p.1 / 512 = set ∧ s.latched set (p.1 % 512) then some (loc (p.1 % 512), p.2) else none

/-- Does a MOT inhibit block the STEP pad of channel `n` on its die (R383)? -/
def State.padHeld (s : State) (n : Nat) : Bool := s.ilm.heldLocal.contains (256 + n) || (s.chan n).gInh

/-- The steps that the blocked pad has not emitted leave ACT, which is then the pad's count (R383). -/
def State.padTake (n : Nat) (s : State) : State :=
  let s := s.genAdvance n
  let c := s.chan n
  (s.setAct n (s.act n - c.stepLost - c.stepNet)).modChan n fun c => { c with stepLost := 0, stepNet := 0, stepPend := 0 }

/-- The upstream frame reports the held MOT output: the core die inhibits the axis, or releases it (R341, R383). -/
def State.motIlm (n : Nat) (s : State) : State :=
  if !s.padHeld n then s.axRelease 1 n
  else if !s.axOn n || (s.axis n).inhibits.contains 1 then s else (s.padTake n).axInhibit 1 7 n

/-- The state driven on ILK_OUTk: high while not held; low in DAWN and in the dusk sequence, and unpowered in VAULT
(R27, R376). -/
def State.ilkOut (s : State) (k : Nat) : Bool :=
  !(s.inMode [Mode.vault, Mode.dawn] || s.sys.dusk.isSome ||
    s.ilm.heldLocal.contains (384 + k) || s.ilm.heldGlobal.contains (384 + k))

/-- Refreshes ILM_HELDk, and the holds of local terms, which act on the die at once. -/
def State.ilmRefresh (s : State) : State :=
  let set := s.ilmActive
  let both := s.ilm.overlap.isSome
  let hs := s.ilmHolds set true ++ s.ilmHolds (1 - set) both
  let loc := (hs.filter Prod.fst).map Prod.snd
  let glo := (hs.filter fun p => !p.1).map Prod.snd
  let s := { s with ilm := { s.ilm with heldLocal := loc, heldGlobal := glo } }
  forN 13 (fun k t => t.setFld (F.ILM_HELD_BITS k)
    ((List.range 32).foldl (fun a j => if loc.contains (32 * k + j) || glo.contains (32 * k + j) then a + 2 ^ j else a) 0)) s

/-- Term `t` of a set latches its output (R385). -/
def State.ilmLatch (set : Nat) (t : Term) (s : State) : State :=
  { s with ilm := { s.ilm with latOut := tins (512 * set + t.num) t.out s.ilm.latOut } }.setFbit
    (ilmLatLoc set (t.num / 32)) (t.num % 32) true

/-- The matrix evaluates (R378, R385): a term of the active set that becomes true latches and submits its event; then
the holds follow. -/
def State.ilmEval (s : State) : State :=
  let set := s.ilmActive
  let s := forL (s.ilmTerms set) (fun t s =>
    let now := s.termTrue set t
    let was := s.fbit (F.ILM_TRUE_BITS (t.num / 32)) (t.num % 32)
    let s := if now = was then s else s.setFbit (F.ILM_TRUE_BITS (t.num / 32)) (t.num % 32) now
    if now && !was then
      let s := if t.latch then s.ilmLatch set t else s
      if t.evt then
        s.hwEvent (min 65023 (s.fld F.ILM_CTRL_EVTBASE) + t.num) (BitVec.ofNat 32 (t.num + set * 512 + t.out * 65536))
      else s
    else s) s
  s.ilmRefresh

/-- The sentinel enters LOCKOUT, and the matrix sees the SBC outputs de-energised (R375, R507). -/
def State.trip (reason arg : Nat) (s : State) : State := (s.lockout reason arg).ilmEval

/-! ### LOAD and SWAP -/

/-- The first failing term of R381 with its ERR; of several, the one that the table names first. -/
def State.ilmCheck (s : State) (ts : List Term) (loc : List Nat) : Option (Nat × Nat) :=
  let bad (t : Term) : Option (Nat × Nat) :=
    if t.lits.any fun l => 288 ≤ l.index then some (1, t.num)
    else if 400 ≤ t.out then some (2, t.num)
    else if t.lits.isEmpty then some (3, t.num)
    else if t.out < 128 ∧ s.fld (F.FIO_CFG_DIR t.out) = 0 then some (5, t.num)
    else none
  let many := ((ts.filter fun t => !loc.contains t.num)[128]?).map Term.num
  match ts.findSome? bad, many with
  | some (e, t), some n => if t < n ∨ (t = n ∧ e < 4) then some (e, t) else some (4, n)
  | some x, none => some x
  | none, some n => some (4, n)
  | none, none => none

def State.ilmResult (res : Nat) (s : State) : State := s.setFld F.ILM_STAT_RESULT res

/-- Reports the placement of a set (R582). -/
def State.ilmPlaced (set glo dem : Nat) (s : State) : State :=
  ((s.setFld F.ILM_LDSTAT_SET set).setFld F.ILM_LDSTAT_GLOBAL glo).setFld F.ILM_LDSTAT_DEMOTED dem

/-- LOAD of a set: checks and places its terms, or names the first failing one (R381, R582). -/
def State.ilmLoad (set : Nat) (s : State) : State :=
  let ts := s.ilmTerms set
  let loc := placeLocal ts
  match s.ilmCheck ts loc with
  | some (e, t) =>
    ((((s.setFld F.ILM_ERR_ERR e).setFld F.ILM_ERR_TERM t).setReg F.ILM_LDSTAT_SET.addr 0).setFlag
      F.ILM_STAT_LOADED false).ilmResult Res.refusedLoad
  | none =>
    let glo := (ts.filter fun t => !loc.contains t.num).length
    let dem := (ts.filter fun t => t.region.isSome && !loc.contains t.num).length
    let s := { s with ilm := if set = 0 then { s.ilm with localA := loc } else { s.ilm with localB := loc } }
    let s := (s.setFld F.ILM_ERR_ERR 0).setFld F.ILM_ERR_TERM 0
    ((s.ilmPlaced set glo dem).setFlag F.ILM_STAT_LOADED true).ilmResult Res.ok

/-- Clears the latch of a term that is not true any more (R385). -/
def State.ilmClear (set t : Nat) (s : State) : State :=
  let still := match s.ilmTerm set t with
    | some x => s.termTrue set x
    | none => false
  if still || !s.latched set t then s else s.setFbit (ilmLatLoc set (t / 32)) (t % 32) false

/-- An ILM command with its KEY (R384 to R387, R586). -/
def State.ilmCmd (key code : Nat) (s : State) : State :=
  if key ≠ 0xA5 then s.ilmResult Res.badKey
  else if code = 0x01 then
    if s.flag F.ILM_STAT_SWAP_PEND || s.ilm.overlap.isSome then s.ilmResult Res.refusedState
    else s.ilmLoad (1 - s.ilmActive)
  else if code = 0x02 then
    if !s.flag F.ILM_STAT_LOADED || s.flag F.ILM_STAT_SWAP_PEND then s.ilmResult Res.refusedState
    else ({ s with ilm := { s.ilm with swapAt := some (gridFrom (s.tbc + 500)) } }.setFlag F.ILM_STAT_SWAP_PEND true).ilmResult Res.pending
  else if code = 0x03 then
    ((s.ilmClear (s.fld F.ILM_ARG_SET) (s.fld F.ILM_ARG_TERM)).ilmRefresh).ilmResult Res.ok
  else if code = 0x04 then
    ((forN 2 (fun set t => forN 512 (fun i t => if t.latched set i then t.ilmClear set i else t) t) s).ilmRefresh).ilmResult Res.ok
  else s.ilmResult Res.refusedState

/-- LOAD (R381). -/
def execLoad (_o : Origin) (key : Byte) (s : State) : Out := .next (s.ilmCmd key.toNat 0x01)

/-- SWAP (R384). -/
def execSwap (_o : Origin) (key : Byte) (s : State) : Out := .next (s.ilmCmd key.toNat 0x02)

/-- CLEAR_LATCH (R385). -/
def execClearLatch (_o : Origin) (key : Byte) (s : State) : Out := .next (s.ilmCmd key.toNat 0x03)

/-- ILM_CLEAR_ALL: clears the latches of both sets (R385). -/
def execIlmClearAll (_o : Origin) (key : Byte) (s : State) : Out := .next (s.ilmCmd key.toNat 0x04)

/-- SWAP_APPLY: at its grid point the accepted swap takes effect, and a RESULT that reads PENDING becomes OK; both sets hold
for 500 ns (R384, R387, R582). -/
def execSwapApply (s : State) : Out :=
  match s.ilm.swapAt with
  | some t =>
    if t ≤ s.tbc then
      let s := if s.fld F.ILM_STAT_RESULT = Res.pending then s.ilmResult Res.ok else s
      let s := { s with ilm := { s.ilm with swapAt := none, overlap := some (t + 125) } }
      let s := s.setFld F.ILM_STAT_ACTIVE (1 - s.ilmActive)
      let s := (s.setFlag F.ILM_STAT_SWAP_PEND false).setFlag F.ILM_STAT_LOADED false
      let s := (s.setFld F.ILM_STAT_GLOBAL (s.fld F.ILM_LDSTAT_GLOBAL)).setFld F.ILM_STAT_DEMOTED (s.fld F.ILM_LDSTAT_DEMOTED)
      .next (forN 16 (fun k t => t.setFld (F.ILM_TRUE_BITS k) 0) s).ilmEval
    else .next s
  | none => .next s

/-- SWAP_OVERLAP_END: after the 500 ns only the new set acts (R384). -/
def execSwapOverlapEnd (s : State) : Out :=
  match s.ilm.overlap with
  | some t =>
    if t ≤ s.tbc then .next { s with ilm := { s.ilm with overlap := none } }.ilmRefresh else .next s
  | none => .next s

/-- What word `w` of a term holds after a write: reserved bits stay 0 (R6, R377). -/
def termWord (w : Nat) (v : Word) : Word := v &&& [0xE00001FF, 0xFFDFFDFF, 0xFDFFDFFD, 0xDFFDFFDF].getD w 0

/-- A write to the terms of a set (R384, R586): ignored with ILM_CFG for the active set, and for the set that a
pending swap will make active; a write to the inactive set clears LOADED. -/
def State.ilmTermWrite (set t w : Nat) (v : Word) (s : State) : State :=
  if set = s.ilmActive || s.flag F.ILM_STAT_SWAP_PEND then s.raise 16 0
  else (s.setReg (F.ILM_TERM_WORD set t w).addr (termWord w v)).setFlag F.ILM_STAT_LOADED false

/-- ILM_TERM_WRITE. -/
def execIlmTermWrite (_o : Origin) (set : Bool) (t : Fin 512) (w : Fin 4) (v : Word) (s : State) : Out :=
  .next (s.ilmTermWrite (b2n set) t w v)

end Sys2Proof.Machine
end

