-- ==== Sys2Proof/Machine/FieldBase.lean ====
section
/-!
DEFINITION. Field channels: availability (R215), the window (R221 to R223), the debounced state on its way to the
canvas (R361, R364, R365), what level each output takes (R27, R165, R235, R366, R371), region fault bits (R367).
-/

set_option Elab.async false

namespace Sys2Proof.Machine

/-! ### Who may command (R477) -/

/-- Does the command come from a host session with the ENGINEER role? -/
def State.engineer (s : State) (o : Origin) : Bool :=
  match o with
  | .host i => (tget {} s.sessions i.val).isOpen && (tget {} s.sessions i.val).role == 2
  | _ => false

/-! ### Outputs of a die -/

/-- The die's outputs are off by its own state (R16, R24, R567). -/
def State.dieOff (s : State) (d : Nat) : Bool := s.dieDark d || s.flag (F.DIE_STAT_THERM_SD d)

/-- What levels 5 and 6 give an FIO output now: value and level. -/
def State.ownFio (s : State) (n : Nat) : Bool × Nat := let p := s.ownAt n s.tbc; (p.1 != 0, p.2)

/-- What levels 5 and 6 give an AOUT now. -/
def State.ownAout (s : State) (n : Nat) : Int × Nat := s.ownAt (128 + n) s.tbc

/-- Is the pin an output? A change of DIR takes effect at a grid point (R359). -/
def State.fioOut (s : State) (n : Nat) : Bool := (s.chan n).dirOld.getD (s.flag (F.FIO_CFG_DIR n))

/-- The command of levels 1, 2, 4, 5 and 6 for an FIO output, `own` being that of levels 5 and 6. Sentinel safe-off
and level 2 combine under R27. -/
def State.coreFio (s : State) (n : Nat) (own : Bool × Nat) : Bool × Nat :=
  if s.soffFio n then (false, 1)
  else if s.level2 then
    (if s.out.powerFail then s.flag (F.FIO_CFG_PFAIL n) else s.flag (F.FIO_CFG_SAFE n), 2)
  else
    let (v, m) := s.wordForce (4 + n / 32)
    if m.getLsbD (n % 32) then (v.getLsbD (n % 32), 4) else own

/-- The command of levels 1, 2, 4, 5 and 6 for an AOUT (R235). -/
def State.coreAout (s : State) (n : Nat) (own : Int × Nat) : Int × Nat :=
  if s.soffAout n then (0, 1)
  else if s.level2 then
    (if s.out.powerFail then s.sfld (F.AOUT_SAFE_PFAIL n) else s.sfld (F.AOUT_SAFE_SAFE n), 2)
  else
    let (v, m) := s.wordForce (0x8000 + 4 * n + 3)
    if m &&& 0xFFFF = 0 then own
    else (toSigned 16 ((BitVec.ofInt 32 own.1 &&& ~~~m) ||| (v &&& m)).toNat, 4)

/-- Does the interlock matrix hold the FIO output, clamp the AOUT, of channel `n` at the die? -/
def State.ilmFio (s : State) (n : Nat) : Bool := s.ilm.heldLocal.contains n || (s.chan n).gHold
def State.ilmAout (s : State) (n : Nat) : Bool := s.ilm.heldLocal.contains (128 + n) || (s.chan n).gClamp

/-- The applied state and level of an FIO output (R27, R366, R371): 0 for an input, 7 held off by die or region. -/
def State.fioApplied (s : State) (n : Nat) : Bool × Nat :=
  if !s.fioOut n then (false, 0)
  else if s.dieOff (chDie n) || (s.regionU (chRegion n)).vfldMissing || s.flag (F.RG_STAT_TRIPPED (chRegion n)) then (false, 7)
  else
    let c := s.chan n
    if s.ilmFio n then
      let h := s.flag (F.FIO_CFG_SAFE n)
      if 3 ≤ c.fioLevel then (h, 3)
      else if !c.fioCmd then (false, c.fioLevel)
      else if !h then (false, 3) else (true, c.fioLevel)
    else (c.fioCmd, c.fioLevel)

/-- The applied code and level of an AOUT; a negative code gives 0 in a range that begins at 0 (R27, R233 to R235). -/
def State.aoutApplied (s : State) (n : Nat) : Int × Nat :=
  let d := s.die (chDie n)
  if s.dieOff (chDie n) || (s.regionU (chRegion n)).vfldMissing then (0, 7)
  else if d.cert then
    (match d.driven with
     | some (ch, _, span) => if ch = n % 32 ∧ span then 30720 else 0
     | none => 0, if s.flag (F.AOUT_CFG_EN n) then (s.chan n).aLevel else 0)
  else if !s.flag (F.AOUT_CFG_EN n) then (0, 0)
  else
    let c := s.chan n
    let clamp := s.ilmAout n
    if clamp ∧ 3 ≤ c.aLevel then (0, 3)
    else if clamp ∧ c.dac ≠ 0 then (0, 3)
    else if c.aSettle.isSome then (0, c.aLevel)
    else (if s.fld (F.AOUT_CFG_RANGE n) = 0 then c.dac else max 0 c.dac, c.aLevel)

/-! ### Events of a channel -/

/-- The range in force: a written one from its grid point on (R211). -/
def State.rangeOf (s : State) (n : Nat) : Nat := (s.chan n).rangeOld.getD (s.fld (F.CH_CFG_RANGE n))

/-- Does a sample of range index `r` carry CAL_STALE (R231)? -/
def State.staleNow (s : State) (n r : Nat) : Bool :=
  let k := chCluster n
  s.flag (F.CL_STAT_STALE k) || (s.die (chDie n)).hot || (s.die (chDie n)).calFail ||
  (s.cluster k).failed.contains r

/-- The sample word that the last conversion makes with TAG `tag` (R212). -/
def State.sampleWord (s : State) (n tag : Nat) : Word :=
  let c := s.chan n
  BitVec.ofNat 32 (ofSigned 18 c.code * 2 ^ 14 + b2n c.ovrHi * 2 ^ 13 + b2n c.ovrLo * 2 ^ 12 + b2n c.win * 2 ^ 11 +
    b2n (s.staleNow n (s.rangeOf n)) * 2 ^ 10 + b2n c.refUns * 2 ^ 9 + tag % 512)

/-- WIN_OUT of channel `n` takes a value (R222, R223): the matrix sees it at once, and events and the window fault
follow a change. -/
def State.winChange (n : Nat) (v : Bool) (payload : Word) (s : State) : State :=
  if (s.chan n).win = v then s else
  let s := (s.modChan n fun c => { c with win := v }).setFlag (F.CH_STAT_WIN_OUT n) v
  let s := s.ilmEval
  let s := if s.flag (F.WIN_EVT_EN n) && (v || s.flag (F.WIN_CFG_REENTRY_EVT n)) then
      s.hwEvent (s.fld (F.WIN_EVT_EVENT n)) payload else s
  if v && s.flag (F.WIN_CFG_FLT_EN n) then s.raise (200 + chRegion n) n else s

/-- Why a channel is unavailable, the first cause in the order of R215; 0 when it is available. -/
def State.unavReason (s : State) (n : Nat) : Nat :=
  let c := s.chan n
  if s.dieOff (chDie n) || (s.die (chDie n)).held then 5
  else if c.couplerOut then 4
  else if (s.cluster (chCluster n)).calStart.isSome || (s.die (chDie n)).cert then 3
  else if c.rangeUntil.isSome then 2
  else if !s.flag (F.CH_CFG_AIN_EN n) then 1 else 0

/-- Refreshes CH_STAT.AVAIL and UNAV_REASON; becoming unavailable discards the averaging interval (R225), ends the
stall count (R351) and acts on the window (R223). -/
def State.chRefresh (n : Nat) (s : State) : State :=
  let was := s.flag (F.CH_STAT_AVAIL n)
  let r := s.unavReason n
  let s := (s.setFld (F.CH_STAT_UNAV_REASON n) r).setFlag (F.CH_STAT_AVAIL n) (r == 0)
  if was && r != 0 then
    let s := s.setFld (F.STALL_STAT_COUNT n) 0
    let s := s.modChan n fun c => { c with avgSum := 0, avgCnt := 0, avgFlags := 0 }
    if s.flag (F.WIN_CFG_EN n) && s.flag (F.WIN_CFG_UNAV_OUT n) then s.winChange n true 0xFFFFFFFF else s
  else s

/-- Refreshes the channels of a die, of a cluster. -/
def State.dieRefresh (d : Nat) (s : State) : State := forN 32 (fun i t => t.chRefresh (32 * d + i)) s
def State.clRefresh (k : Nat) (s : State) : State := forN 8 (fun i t => t.chRefresh (8 * k + i)) s

/-! ### FIO states towards the core -/

/-- Delivers the FIO state of channel `n` that its die holds: FIO_STAT, the canvas bit, and the edge event of a
change (R361, R364, R365, R588). -/
def State.deliverFio (n : Nat) (s : State) : State :=
  if s.dieDark (chDie n) || (s.chan n).lostStatus then s else
  let c := s.chan n
  let out := s.fioOut n
  let v := if out then (s.fioApplied n).1 else c.inp
  let raw := if out then v else c.raw
  let s := s.setFlag (F.FIO_STAT_RAW n) raw
  if s.flag (F.FIO_STAT_IN n) = v then s
  else
    let s := (s.setFlag (F.FIO_STAT_IN n) v).setBit n v
    let e := s.fld (F.FIO_EVT_EDGE n)
    if s.flag (F.FIO_EVT_EN n) && bitOf e (if v then 0 else 1) then
      s.hwEvent (s.fld (F.FIO_EVT_EVENT n)) (BitVec.ofNat 32 (n + b2n v * 2 ^ 31))
    else s

/-- Does the region's common fault bit have a cause (R367)? -/
def State.regionCause (s : State) (r : Nat) : Bool :=
  let u := s.regionU r
  !u.ovc.isEmpty || !u.therm.isEmpty || u.vfldMissing || s.flag (F.RG_STAT_TRIPPED r) ||
  (List.range 16).any fun i => (s.chan (16 * r + i)).maxact

/-- The region's fault bit follows its causes; FAULT_SEEN holds a rise; the source REGION is active with it. -/
def State.regionRefresh (r : Nat) (s : State) : State :=
  let was := s.flag (F.RG_STAT_FAULT r)
  let now := s.regionCause r
  if was = now then s
  else if now then
    ((s.setFlag (F.RG_STAT_FAULT r) true).setFlag (F.RG_STAT_FAULT_SEEN r) true).raiseCond (232 + r) r
  else (s.setFlag (F.RG_STAT_FAULT r) false).endCond (232 + r) r

/-- Settings of lock group `g` in force until its next tick (R41). -/
def State.lgCfg (s : State) (g : Nat) : Word := (s.lg g).oldCfg.getD (s.reg (F.LG_CTRL_EN g).addr)

/-- An edge of a trigger kind at its source, 2 a TRIGL line and 3 an FIO channel: it reaches the running groups that name
it (R44). -/
def State.lgEdge (kind src : Nat) (rising : Bool) (s : State) : State :=
  forL (s.lgs.map Prod.fst) (fun g s =>
    let cfg := s.lgCfg g
    if (s.lg g).next.isSome && bitsOf cfg 28 3 == kind && bitsOf cfg 20 7 == src && cfg.getLsbD 19 != rising then
      s.modLg g fun l => { l with trigs := l.trigs ++ [s.tbc] }
    else s) s

/-- IN of an input pin takes a value on the die (R44, R361, R363): the maximum-active flag clears when IN returns to 0. -/
def State.setIn (n : Nat) (v : Bool) (s : State) : State :=
  let s := if (s.chan n).inp = v then s else s.lgEdge 3 n v
  let s := s.modChan n fun c =>
    { c with inp := v, debSince := none, inSince := s.tbc, maxact := c.maxact && v }
  (s.regionRefresh (chRegion n)).deliverFio n

/-- The debounce starts, goes on or ends after a change of the comparator or of DEB (R361). -/
def State.debounce (n : Nat) (s : State) : State :=
  let c := s.chan n
  if c.raw = c.inp then s.modChan n fun c => { c with debSince := none }
  else if s.fld (F.FIO_CFG_DEB n) = 0 then s.setIn n c.raw
  else s.modChan n fun c => { c with debSince := some s.tbc }

end Sys2Proof.Machine
end

