-- ==== Sys2Proof/Machine/Channels.lean ====
section
/-!
DEFINITION. Analogue channels (R207 to R242, R585): conversion, blocks upstream, publication, ranges, references,
calibration, AOUT, certified recalibration and the varnish seal.
-/

set_option Elab.async false

namespace Sys2Proof.Machine

/-! ### Conversion (R207 to R210, R219, R221, R226) -/

/-- Corrects a raw result with the factors of range `r` (R226): half up. -/
def State.correct (s : State) (n r : Nat) (raw : Int) : Int :=
  let y := raw * s.fld (F.CAL_GAIN_GAIN n r) * 256 + s.sfld (F.CAL_OFS_OFS n r) * 2 ^ 30
  let z := y * s.fld (F.USR_GAIN_GAIN n r) + s.sfld (F.USR_OFS_OFS n r) * 2 ^ 60
  (z + 2 ^ 67) / 2 ^ 68

/-- The window state after a conversion; of a channel that is unavailable it stays (R221, R223). -/
def State.winNext (s : State) (n : Nat) : Bool :=
  let c := s.chan n
  if !s.flag (F.WIN_CFG_EN n) then false
  else if s.unavReason n ≠ 0 then c.win
  else if c.refUns then s.flag (F.WIN_CFG_UNAV_OUT n) || c.win
  else
    let lo := s.sfld (F.WIN_LO_LIMIT n)
    let hi := s.sfld (F.WIN_HI_LIMIT n)
    let h : Int := s.fld (F.WIN_CFG_HYST n)
    if hi < c.code ∨ c.code < lo then true
    else if lo + h ≤ c.code ∧ c.code ≤ hi - h then false else c.win

/-- Does channel `n` convert at this instant (R45, R210)? -/
def State.convDue (s : State) (n : Nat) : Bool :=
  (s.chan n).tickAt == some s.tbc ||
  ((s.runGroup n).isNone && s.tbc % (125 * (s.fld (F.CH_CFG_DIV n) + 1)) == 0)

/-- May the channel convert: enabled, its die powered and with a good seal, not calibrating, not settling (R24, R210)? -/
def State.convMay (s : State) (n : Nat) : Bool :=
  !s.dieDark (chDie n) && !(s.die (chDie n)).held && !(s.cluster (chCluster n)).calStart.isSome &&
  !(s.die (chDie n)).cert && !(s.chan n).rangeUntil.isSome && s.flag (F.CH_CFG_AIN_EN n)

/-- CONVERSION: at its instant the channel samples; `raw` and `sns` are the converters' results in LSB, `recovered`
says that the front end is out of overload (R210, R219, R226). -/
def execConversion (n : Fin 128) (raw sns : Int) (recovered : Bool) (s : State) : Out :=
  if !(s.convDue n && s.convMay n) then .next s else
  let r := s.rangeOf n
  let c := s.chan n
  let x := s.correct n r raw
  let lo : Int := if 2 ≤ r then -6553 else -131072
  let hiNow := decide (131071 < x) || (c.overHi && !recovered)
  let loNow := !hiNow && (decide (x < lo) || (c.overLo && !recovered))
  let code := if hiNow then 131071 else if loNow then -131072 else x
  let ref := !s.flag (F.CL_STAT_REF_SETTLED (chCluster n))
  let s := s.modChan n fun c =>
    { c with convAt := s.tbc, code := code, ovrHi := hiNow, ovrLo := loNow, overHi := hiNow, overLo := loNow,
             refUns := ref, sampleDue := true, due := some s.tbc }
  let s := s.setFlag (F.CH_STAT_REF_UNSETTLED n) ref
  let s := if hiNow || loNow then s.setFlag (F.CH_STAT_OVR_SEEN n) true else s
  let s := if s.flag (F.CH_CFG_SNS_EN n) && (s.tbc % 250 == 0 || (s.runGroup n).isSome) then
      let y := s.correct n 4 sns
      s.modChan n fun c => { c with snsCode := clampI (-2048) 2047 y, snsHi := decide (2047 < y),
                                    snsLo := decide (y < -2048), senseDue := true }
    else s
  let w := s.winNext n
  let pay : Word := if ref then 0xFFFFFFFF
    else (s.modChan n fun c => { c with win := w }).sampleWord n (s.fld (F.CH_STAT_TAG n) + 1)
  .next (s.winChange n w pay)

/-- A block of channel `n` on its coupler: none where its CRC passes, else whether an injection inverted it; and the state after
it. The injection inverts the CRC-8 of every block of the next frame in its direction, a frame being the blocks of one slot
(R15, R531). -/
def State.blockCrc (n : Nat) (up crcOk : Bool) (s : State) : Option Bool × State :=
  let slot := s.tbc / 125
  let plain : Option Bool := if crcOk then none else some false
  if (s.chan n).badFrame = some (up, slot) then (some true, s)
  else match s.injOf 4 with
    | some i =>
      if i.target % 128 = n ∧ bitOf i.target 7 = up then
        (some true, s.injDone.modChan n fun c => { c with badFrame := some (up, slot) })
      else (plain, s)
    | none => (plain, s)

/-! ### Upstream blocks (R13 to R15, R213, R214) -/

/-- UPSTREAM_SAMPLE_BLOCK: a good one brings the sample word with the next TAG and ends a loss; three bad ones in a
row make the channel unavailable (R15, R213, R379). -/
def execUpstreamSampleBlock (n : Fin 128) (crcOk : Bool) (s : State) : Out :=
  if s.dieDark (chDie n) then .next s else
  let (bad, s) := s.blockCrc n true crcOk
  if bad.isNone then
    let c := s.chan n
    let s := s.modChan n fun c => { c with badSamples := 0, couplerOut := false, lostSample := false, seenWin := c.win, sampleDue := false }
    let s := if c.sampleDue && s.unavReason n == 0 then
        let s := s.setFld (F.CH_STAT_TAG n) (s.fld (F.CH_STAT_TAG n) + 1)
        s.modChan n fun c => { c with rx := some (s.sampleWord n (s.fld (F.CH_STAT_TAG n))) }
      else s
    .next (s.chRefresh n).ilmEval
  else
    let s := s.modChan n fun c =>
      { c with badSamples := c.badSamples + 1, couplerOut := c.couplerOut || decide (2 ≤ c.badSamples), lostSample := true, sampleDue := false }
    .next (((s.chRefresh n).ilmEval).raise (208 + chRegion n) n 0 (bad == some true))

/-- UPSTREAM_STATUS_BLOCK: a good one delivers the FIO states, the pad's step count and the MOT output held, and ends their
loss; a bad one loses them (R15, R365, R379, R383, R588). -/
def execUpstreamStatusBlock (n : Fin 128) (crcOk : Bool) (s : State) : Out :=
  if s.dieDark (chDie n) then .next s else
  let (bad, s) := s.blockCrc n true crcOk
  if bad.isNone then
    let s := s.modChan n fun c => { c with lostStatus := false, seenFio := c.filt, padSeen := c.padSteps }
    .next ((s.ilmEval.deliverFio n).motIlm n)
  else .next (((s.modChan n fun c => { c with lostStatus := true }).ilmEval).raise (208 + chRegion n) n 0 (bad == some true))

/-- Is an escape due: 200 ns after the last one in its direction (R14)? -/
def State.escDue (s : State) (last : Option Nat) : Bool := last.all fun t => decide (t + 50 ≤ s.tbc)

/-- UPSTREAM_ESCAPE: a good one carries the filtered comparator state and WIN_OUT to the global terms (R14). -/
def execUpstreamEscape (n : Fin 128) (codeOk : Bool) (s : State) : Out :=
  if s.dieDark (chDie n) || !s.escDue (s.chan n).escUp then .next s
  else
    let s := s.modChan n fun c => { c with escUp := some s.tbc }
    .next (if codeOk then (s.modChan n fun c => { c with seenFio := c.filt, seenWin := c.win }).ilmEval else s)

/-! ### Downstream blocks (R13 to R15, R29, R45, R236) -/

/-- The DAC takes the code that waits, unless it updated less than 1 µs ago or the range is changing (R233, R236). -/
def State.dacUpdate (n : Nat) (s : State) : State :=
  let c := s.chan n
  if c.dac = c.aCode || c.aSettle.isSome then s
  else if (match c.dacAt with
    | some t => decide (t + 250 ≤ s.tbc)
    | none => true) then s.modChan n fun c => { c with dac := c.aCode, dacAt := some s.tbc }
  else s

/-- The die takes the global-term states of channel `n` (R14). -/
def State.takeGlobal (n : Nat) (s : State) : State :=
  let g := s.ilm.heldGlobal
  s.modChan n fun c => { c with gHold := g.contains n, gClamp := g.contains (128 + n), gInh := g.contains (256 + n) }

/-- The newest code of a loop slot whose tick has come becomes the value of level 5 (R28, R266). -/
def State.promoteAout (n : Nat) (s : State) : State :=
  let l := tget [] s.out.pend n
  match (l.filter fun p => p.2.1 ≤ s.tbc).getLast? with
  | some p =>
    { s with out := { s.out with pend := tset [] n (l.filter fun p => s.tbc < p.2.1) s.out.pend,
                                 aout := tmod none n (fun q => q.map fun q => { q with value := p.1 }) s.out.aout } }
  | none => s

/-- Codes that reached the output stage less than 250 ns before this group tick wait for the next one, and count as
deadline misses of their slot (R28, R266). -/
def State.tickMisses (n : Nat) (s : State) : State :=
  let l := tget [] s.out.pend n
  if l.all fun p => p.2.2 then s
  else
    let s := { s with out := { s.out with pend := tset [] n (l.map fun p => (p.1, p.2.1, true)) s.out.pend } }
    match tget none s.out.aout n with
    | some q => s.incSat (F.LE_SLOTSTAT_DLMISS (q.writer - 32))
    | none => s

/-- A group tick takes what levels 5 and 6 give its member now (R45). -/
def State.tickOutputs (n : Nat) (s : State) : State :=
  let s := (s.promoteAout n).tickMisses n
  s.modChan n fun c => { c with tkFio := some (s.ownFio n), tkAout := some (s.ownAout n) }

/-- DOWNSTREAM_OUTPUT_BLOCK, taken at the grid point whose slot it ends: a good one gives the die the DAC code, the FIO
command and the global-term states; a lost one leaves the last and is counted (R13, R15, R29). A member of a running
group has the values of levels 5 and 6 of its last tick, which may be this instant's (R45). -/
def execDownstreamOutputBlock (n : Fin 128) (crcOk : Bool) (s : State) : Out :=
  if !onGrid s.tbc || s.dieDark (chDie n) then .next s else
  let (bad, s) := s.blockCrc n false crcOk
  if bad.isSome then .next (s.raise (208 + chRegion n) n 0 (bad == some true))
  else
    let s := s.takeGlobal n
    let s := match s.runGroup n with
      | some g => if (s.lg g).next == some s.tbc then s.tickOutputs n else s
      | none => s.promoteAout n
    let run := (s.runGroup n).isSome
    let c := s.chan n
    let f := s.coreFio n (if run then c.tkFio.getD (s.ownFio n) else s.ownFio n)
    let a := s.coreAout n (if run then c.tkAout.getD (s.ownAout n) else s.ownAout n)
    .next ((s.modChan n fun c => { c with fioCmd := f.1, fioLevel := f.2, aCode := a.1, aLevel := a.2 }).dacUpdate n)

/-- DOWNSTREAM_STEP_BLOCK, taken at the grid point whose slot it ends: a good one brings every step up to the running
count; a lost one delays them and is counted (R13, R15, R346, R347). A MOT inhibit of the matrix blocks the pad (R383). -/
def execDownstreamStepBlock (n : Fin 128) (crcOk : Bool) (s : State) : Out :=
  if !onGrid s.tbc || s.dieDark (chDie n) then .next s else
  let (bad, s) := s.blockCrc n false crcOk
  if bad.isSome then .next (s.raise (208 + chRegion n) n 0 (bad == some true))
  else if s.padHeld n then
    .next (s.modChan n fun c => { c with stepRx := (c.stepRx + c.stepPend) % 256, stepLost := c.stepLost + c.stepNet,
                                         stepPend := 0, stepNet := 0 })
  else .next (s.modChan n fun c =>
    { c with padSteps := (c.padSteps + c.stepPend) % 65536, stepRx := (c.stepRx + c.stepPend) % 256, stepPend := 0, stepNet := 0 })

/-- DOWNSTREAM_ESCAPE: a good one carries the global-term states at once (R14). -/
def execDownstreamEscape (n : Fin 128) (codeOk : Bool) (s : State) : Out :=
  if s.dieDark (chDie n) || !s.escDue (s.chan n).escDown then .next s
  else
    let s := s.modChan n fun c => { c with escDown := some s.tbc }
    .next (if codeOk then s.takeGlobal n else s)

/-- AOUT_UPDATE: the waiting code reaches the DAC 1 µs after the last update (R236). -/
def execAoutUpdate (n : Fin 128) (s : State) : Out := .next (s.dacUpdate n)

/-! ### Publication on the core die (R212, R225) -/

/-- AVG_N; 11 to 15 act as 10. -/
def State.avgN (s : State) (n : Nat) : Nat := min 10 (s.fld (F.CH_CFG_AVG_N n))

/-- The word of grid point `g` enters the averaging interval, unless it was converted before the interval's start; the last
one writes canvas word 1. -/
def State.average (n g : Nat) (w : Word) (rep : Bool) (s : State) : State :=
  let k := s.avgN n
  let c := s.chan n
  if g < c.avgFrom then s else
  let sum := c.avgSum + toSigned 18 (bitsOf w 14 18)
  let f := c.avgFlags ||| (b2n (w.getLsbD 13 || w.getLsbD 12) * 128 + b2n (w.getLsbD 10) * 64 + b2n (w.getLsbD 9) * 32 + b2n rep * 16)
  if 2 ^ k ≤ c.avgCnt + 1 then
    let avg := (sum * 128 / 2 ^ k + 1) / 2
    (s.modChan n fun c => { c with avgSum := 0, avgCnt := 0, avgFlags := 0 }).setWord (chWord n 1)
      (BitVec.ofNat 32 (ofSigned 24 avg * 256 + f + k))
  else s.modChan n fun c => { c with avgSum := sum, avgCnt := c.avgCnt + 1, avgFlags := f }

/-- Publishes the conversion of channel `n` 500 ns after its grid point: the fresh word, or the previous one again
(R15, R28). True if it was due. -/
def State.publish (n : Nat) (s : State) : Bool × State :=
  let c := s.chan n
  match c.due with
  | some g =>
    if g + 125 ≤ s.tbc then
      let s := s.modChan n fun c => { c with due := none, rx := none }
      if s.unavReason n ≠ 0 then (false, s)
      else match c.rx with
        | some w => (true, (s.setWord (chWord n 0) w).average n g w false)
        | none => (true, s.average n g (s.word (chWord n 0)) true)
    else (false, s)
  | none => (false, s)

/-! ### Registers of a channel -/

/-- The grid point at which a written RANGE takes effect: the channel is unavailable for 10 µs (R211). -/
def State.rangeStart (n : Nat) (s : State) : State :=
  match (s.chan n).rangeOld with
  | none => s
  | some r =>
    let s := s.modChan n fun c => { c with rangeOld := none }
    if s.fld (F.CH_CFG_RANGE n) = r then s
    else (s.modChan n fun c => { c with rangeUntil := some (s.tbc + us 10), overHi := false, overLo := false }).chRefresh n

/-- A write of CH_CFG (R210, R211, R225): a new RANGE takes effect at the next grid point. -/
def State.chCfgWrite (n : Nat) (v : Word) (s : State) : State :=
  let old := s.rangeOf n
  let s := s.plainWrite (F.CH_CFG_RANGE n).addr v
  let s := s.modChan n fun c => { c with avgSum := 0, avgCnt := 0, avgFlags := 0, avgFrom := s.tbc, rangeOld := some old }
  (if onGrid s.tbc then s.rangeStart n else s).chRefresh n

/-- RANGE_CHANGE: a write of CH_CFG (R211). -/
def execRangeChange (_o : Origin) (n : Fin 128) (v : Word) (s : State) : Out := .next (s.onDie (n.val / 32) (State.chCfgWrite n v))

/-- RANGE_SETTLED: the front end has settled (R211). -/
def execRangeSettled (n : Fin 128) (s : State) : Out :=
  .next (match (s.chan n).rangeUntil with
    | some t => if t ≤ s.tbc then (s.modChan n fun c => { c with rangeUntil := none }).chRefresh n else s
    | none => s)

/-- A write of WIN_CFG (R221, R223). -/
def State.winCfgWrite (n : Nat) (v : Word) (s : State) : State :=
  let was := s.flag (F.WIN_CFG_EN n)
  let s := s.plainWrite (F.WIN_CFG_EN n).addr v
  if !s.flag (F.WIN_CFG_EN n) then
    ((s.modChan n fun c => { c with win := false }).setFlag (F.CH_STAT_WIN_OUT n) false).ilmEval
  else
    let lo := s.sfld (F.WIN_LO_LIMIT n)
    let hi := s.sfld (F.WIN_HI_LIMIT n)
    if !was && (decide (hi < lo) || decide ((hi - lo) / 2 < (s.fld (F.WIN_CFG_HYST n) : Int))) then
      (s.setFlag (F.WIN_CFG_EN n) false).raise (192 + chRegion n) n
    else if s.unavReason n ≠ 0 && s.flag (F.WIN_CFG_UNAV_OUT n) then s.winChange n true 0xFFFFFFFF else s

/-- A write of AOUT_CFG (R233). -/
def State.aoutCfgWrite (n : Nat) (v : Word) (s : State) : State :=
  let old := s.fld (F.AOUT_CFG_RANGE n)
  let bad := bitsOf v 0 2 = 3
  let v := if bad then putBits v 0 2 old else v
  let s := s.plainWrite (F.AOUT_CFG_RANGE n).addr v
  let s := if bad then s.raise (192 + chRegion n) n else s
  if s.fld (F.AOUT_CFG_RANGE n) ≠ old ∧ s.flag (F.AOUT_CFG_EN n) then
    s.modChan n fun c => { c with aSettle := some (s.tbc + us 20), dac := 0, dacAt := some s.tbc }
  else if s.flag (F.AOUT_CFG_EN n) then s
  else s.modChan n fun c => { c with aSettle := none }

/-- AOUT_RANGE_CHANGE: a write of AOUT_CFG (R233). -/
def execAoutRangeChange (_o : Origin) (n : Fin 128) (v : Word) (s : State) : Out := .next (s.onDie (n.val / 32) (State.aoutCfgWrite n v))

/-- AOUT_RANGE_SETTLED: after 20 µs the current code applies in the new range (R233). -/
def execAoutRangeSettled (n : Fin 128) (s : State) : Out :=
  .next (match (s.chan n).aSettle with
    | some t => if t ≤ s.tbc then (s.modChan n fun c => { c with aSettle := none, dacAt := none }).dacUpdate n else s
    | none => s)

/-- AOUT_DIAGNOSIS: an output held at its current limit, or one that cannot reach its code (R234). -/
def execAoutDiagnosis (n : Fin 128) (opened : Bool) (s : State) : Out :=
  .next ((s.setFlag (if opened then F.AOUT_STAT_OPEN n else F.AOUT_STAT_OVC n) true).raise (216 + chRegion n) n)

/-! ### References (R216 to R218) -/

/-- Settling time of a reference that is selected or back at grid point `g`. -/
def State.settleFrom (s : State) (k g : Nat) : Nat :=
  match s.fld (F.CL_CTRL_REFSEL k) with
  | 0 => max (g + us 50) ((s.cluster k).intSince + ms 2)
  | 1 => g + us 200
  | _ => g + us 50

/-- The reference begins to settle at the next grid point. -/
def State.settle (k : Nat) (s : State) : State :=
  let g := gridFrom s.tbc
  (s.setFlag (F.CL_STAT_REF_SETTLED k) false).modCluster k fun c => { c with settleAt := some (s.settleFrom k g) }

/-- STALE of a cluster follows temperature and reference (R231). -/
def State.staleEval (k : Nat) (s : State) : State :=
  let d := k / 4
  let th : Int := 16 * (max 1 (s.fld (F.DIE_CTRL_STALE_TH d)) : Nat)
  let dt := s.sfld (F.DIE_STAT_TEMP d) - s.sfld (F.CL_STAT_CAL_TEMP k)
  let sel := ((s.cluster k).selOld.map Prod.fst).getD (s.fld (F.CL_CTRL_REFSEL k))
  let now := decide (th < dt) || decide (dt < -th) || sel != s.fld (F.CL_STAT_CAL_REF k)
  let was := s.flag (F.CL_STAT_STALE k)
  if now = was then s
  else if now then (s.setFlag (F.CL_STAT_STALE k) true).raiseCond (160 + k) k
  else (s.setFlag (F.CL_STAT_STALE k) false).endCond (160 + k) k

/-- STALE of the die's clusters follows a change of STALE_TH (R231). -/
def State.staleDie (d : Nat) (s : State) : State := forN 4 (fun i t => t.staleEval (4 * d + i)) s

/-- The grid point at which a written REFSEL or INT_ON takes effect (R217). -/
def State.refStart (k : Nat) (s : State) : State :=
  match (s.cluster k).selOld with
  | none => s
  | some (sel, on) =>
    let s := s.modCluster k fun c => { c with selOld := none }
    let now := s.fld (F.CL_CTRL_REFSEL k)
    let up := s.flag (F.CL_CTRL_INT_ON k) && !on
    let s := if up then s.modCluster k fun c => { c with intSince := s.tbc } else s
    let s := if now ≠ sel || (now = 0 && up) then s.settle k else s
    s.staleEval k

/-- REFSEL and INT_ON of a write of CL_CTRLk are taken; they act from the next grid point (R216, R217). -/
def State.refApply (k : Nat) (v : Word) (s : State) : State :=
  let old := s.fld (F.CL_CTRL_REFSEL k)
  let sel := if bitsOf v 0 2 = 3 then old else bitsOf v 0 2
  let wasOn := s.flag (F.CL_CTRL_INT_ON k)
  let on := v.getLsbD 2 || sel == 0 && wasOn
  let s := if bitsOf v 0 2 = 3 then s.raise (176 + k) k else s
  let s := (s.setFld (F.CL_CTRL_REFSEL k) sel).setFlag (F.CL_CTRL_INT_ON k) on
  let s := s.modCluster k fun c => { c with selOld := some (c.selOld.getD (old, wasOn)) }
  if onGrid s.tbc then s.refStart k else s

/-- Starts the calibration of cluster `k` (R228): its channels become unavailable. -/
def State.calBegin (k : Nat) (s : State) : State :=
  ((s.setFlag (F.CL_STAT_CAL_BUSY k) true).modCluster k fun c => { c with calStart := some s.tbc, calWait := false, calDone := false }).clRefresh k

/-- A write of CL_CTRLk (R216, R217, R228, R232): REFSEL and INT_ON wait for a calibration in progress. -/
def State.clCtrlWrite (k : Nat) (v : Word) (s : State) : State :=
  let s := s.setFlag (F.CL_CTRL_ROLL k) (v.getLsbD 3)
  let s := if s.flag (F.CL_CTRL_CAL k) then s.modCluster k fun c => { c with held := some v } else s.refApply k v
  if v.getLsbD 8 then (s.calRequest k).clRefresh k else s

/-- CAL: a write of CL_CTRLk that requests calibration (R228). -/
def execCal (_o : Origin) (k : Fin 16) (v : Word) (s : State) : Out := .next (s.onDie (k.val / 4) (State.clCtrlWrite k v))

/-- REFSEL_WRITE: a write of CL_CTRLk (R217). -/
def execRefselWrite (_o : Origin) (k : Fin 16) (v : Word) (s : State) : Out := .next (s.onDie (k.val / 4) (State.clCtrlWrite k v))

/-- REF_SETTLED: the settling time has passed (R217). -/
def execRefSettled (k : Fin 16) (s : State) : Out :=
  .next (match (s.cluster k).settleAt with
    | some t =>
      if t ≤ s.tbc ∧ !(s.cluster k).refOut then
        (s.modCluster k fun c => { c with settleAt := none }).setFlag (F.CL_STAT_REF_SETTLED k) true
      else s
    | none => s)

/-- Is a reference of `uV` microvolts within the monitor limits (R216)? -/
def refInside (sel uV : Nat) : Bool :=
  if sel = 0 then 4055040 ≤ uV && uV ≤ 4136960
  else if sel = 1 then 4014080 ≤ uV && uV ≤ 4177920 else 4750000 ≤ uV && uV ≤ 5250000

/-- REF_MONITOR: the once-a-microsecond comparison finds the reference at `uV` microvolts (R218). -/
def execRefMonitor (k : Fin 16) (uV : Nat) (s : State) : Out :=
  let c := s.cluster k
  let inside := refInside (s.fld (F.CL_CTRL_REFSEL k)) uV
  if c.refOut then
    if !inside then .next (s.modCluster k fun c => { c with refBack := none })
    else match c.refBack with
      | none => .next (s.modCluster k fun c => { c with refBack := some s.tbc })
      | some t =>
        if t + ms 1 ≤ s.tbc then
          .next (((s.modCluster k fun c => { c with refOut := false, refBack := none }).settle k).endCond (128 + k) k)
        else .next s
  else if !inside && s.flag (F.CL_STAT_REF_SETTLED k) then
    let s := s.modCluster k fun c => { c with refOut := true, refBack := none, settleAt := none }
    let s := (s.setFlag (F.CL_STAT_REF_SETTLED k) false).setFlag (F.CL_STAT_REF_FAULT k) true
    .next (s.raiseCond (128 + k) k)
  else .next s

/-! ### Varnish seal (R237, R585) -/

/-- A word of a seal record that nothing has written (assumption 10): MAGIC, FMT and DIE, the module's UID, the hash of the
die's conversion firmware, gains of 1.0, else 0. -/
def sealDefault (d i : Nat) : Word :=
  if i = 0 then 0x56524E53
  else if i = 1 then BitVec.ofNat 32 (1 + d * 65536)
  else if 4 ≤ i ∧ i < 8 then BitVec.ofNat 32 (Config.moduleUid / 2 ^ (32 * (i - 4)))
  else if 14 ≤ i ∧ i < 26 then BitVec.ofNat 32 (Config.dieFwHash d / 2 ^ (32 * (i - 14)))
  else if 34 ≤ i ∧ i < 546 ∧ i % 2 = 0 then 0x40000000 else 0

/-- The checks of R238 on a record of die `d` whose fuse count is `fuse`, in the table's order: the first that fails, or 0. `sig`:
its signature verifies. A word that the record does not list is that of `sealDefault`. -/
def sealCheck (d fuse : Nat) (sig : Bool) (w : Tbl Word) : Nat :=
  let word (i : Nat) : Word := (tlook w i).getD (sealDefault d i)
  let same (lo hi : Nat) : Bool := w.all fun p => !(lo ≤ p.1 && p.1 < hi) || p.2 == sealDefault d p.1
  if word 0 ≠ 0x56524E53 ∨ bitsOf (word 1) 0 24 ≠ 1 + d * 65536 then 5
  else if !sig then 1
  else if !same 4 8 then 2
  else if (word 2).toNat ≠ fuse then 3
  else if !same 14 26 then 4 else 0

/-- Word `i` of the record in use. -/
def State.sealWord (s : State) (d i : Nat) : Word := (tlook (s.die d).sealW i).getD (sealDefault d i)

/-- Word of GAIN, and of OFS after it, of a channel of the die and a range index. -/
def sealGain (c i : Nat) : Nat := 34 + 16 * c + 2 * i

/-- CAL_OFS and CAL_GAIN of a die take the seal's values, CAL_TEMP the seal's and CAL_REF 0 (R585). -/
def State.sealFactors (d : Nat) (s : State) : State :=
  let s := forN 32 (fun c t => forN 5 (fun r t =>
    (t.setReg (F.CAL_GAIN_GAIN (32 * d + c) r).addr (t.sealWord d (sealGain c r))).setReg (F.CAL_OFS_OFS (32 * d + c) r).addr
      (t.sealWord d (sealGain c r + 1))) t) s
  forN 4 (fun k t => (t.setFld (F.CL_STAT_CAL_TEMP (4 * d + k)) (bitsOf (t.sealWord d 3) 0 16)).setFld
    (F.CL_STAT_CAL_REF (4 * d + k)) 0) s

/-! ### Self-calibration (R228 to R232) -/

/-- CALIBRATION_START: a request that waits starts once the reference is settled (R228). -/
def execCalibrationStart (k : Fin 16) (s : State) : Out :=
  if (s.cluster k).calWait && s.flag (F.CL_STAT_REF_SETTLED k) then .next (s.calBegin k) else .next s

/-- ROLL_CALIBRATION_START: the lowest stale cluster of the die with ROLL requests calibration, one at a time (R232). -/
def execRollCalibrationStart (d : Fin 4) (s : State) : Out :=
  if !s.inMode [Mode.idle, Mode.run, Mode.hold, Mode.engineer, Mode.follow] then .next s
  else if (List.range 4).any fun i => (s.cluster (4 * d + i)).rolling then .next s
  else match (List.range 4).find? fun i =>
      s.flag (F.CL_CTRL_ROLL (4 * d + i)) && s.flag (F.CL_STAT_STALE (4 * d + i)) && !s.flag (F.CL_CTRL_CAL (4 * d + i)) &&
      !(s.die d).calFail with
    | some i =>
      let s := s.modCluster (4 * d + i) fun c => { c with rolling := true }
      .next ((s.calRequest (4 * d + i)).clRefresh (4 * d + i))
    | none => .next s


/-- Is a factor within the bounds of R229 of the seal's? -/
def State.factorOk (s : State) (k : Nat) (f : CalFactor) : Bool :=
  let c := (8 * k + f.1) % 32
  let dg : Int := (f.2.2.1.toNat : Int) - (s.sealWord (k / 4) (sealGain c f.2.1)).toNat
  let dofs := f.2.2.2.toInt - (s.sealWord (k / 4) (sealGain c f.2.1 + 1)).toInt
  decide (-536870 ≤ dg) && decide (dg ≤ 536870) && decide (-16384 ≤ dofs) && decide (dofs ≤ 16384)

/-- The factors found are checked range by range and taken, or the range keeps its old ones with CAL_LIMIT; CAL_TEMP and
CAL_REF are recorded (R228, R229). -/
def State.calTake (k : Nat) (factors : List CalFactor) (s : State) : State :=
  let fs := factors.filter fun f => f.1 < 8 && f.2.1 < 5
  let bad := (List.range 5).filter fun r => fs.any fun f => f.2.1 == r && !s.factorOk k f
  let good := fs.filter fun f => !bad.contains f.2.1
  let s := forL good (fun (f : CalFactor) t =>
    (t.setReg (F.CAL_GAIN_GAIN (8 * k + f.1) f.2.1).addr f.2.2.1).setReg (F.CAL_OFS_OFS (8 * k + f.1) f.2.1).addr f.2.2.2) s
  let s := if bad.length = 5 then s else
    (s.setFld (F.CL_STAT_CAL_TEMP k) (s.fld (F.DIE_STAT_TEMP (k / 4)))).setFld (F.CL_STAT_CAL_REF k) (s.fld (F.CL_CTRL_REFSEL k))
  let s := s.modCluster k fun c => { c with calDone := true, failed := bad }
  (if bad.isEmpty then s else (s.setFlag (F.CL_STAT_CAL_LIMIT k) true).raise (144 + k) k).staleEval k

/-- The certification's last step: RESULT becomes OK once no cluster of the die calibrates (R239). -/
def State.certEnded (d : Nat) (s : State) : State :=
  if (s.die d).ending && (List.range 4).all fun i => !s.flag (F.CL_CTRL_CAL (4 * d + i)) then
    (s.modDie d fun x => { x with ending := false }).setFld (F.DIE_CMDSTAT_RESULT d) Res.ok
  else s

/-- The channels of cluster `k` come back, and held writes apply (R228). -/
def State.calEnd (k : Nat) (s : State) : State :=
  let held := (s.cluster k).held
  let s := s.modCluster k fun c => { c with calStart := none, calWait := false, calDone := false, held := none, rolling := false }
  let s := (s.setFlag (F.CL_CTRL_CAL k) false).setFlag (F.CL_STAT_CAL_BUSY k) false
  let s := match held with
    | some v => s.refApply k v
    | none => s
  (s.clRefresh k).certEnded (k / 4)

/-- CALIBRATION_COMPLETE: from 9.0 ms on the factors found are taken, once; at 12.5 ms the calibration ends (R228, R229,
R239). -/
def execCalibrationComplete (k : Fin 16) (factors : List CalFactor) (s : State) : Out :=
  match (s.cluster k).calStart with
  | none => .next s
  | some t =>
    if s.tbc < t + us 9000 then .next s else
    let s := if (s.cluster k).calDone then s else s.calTake k factors
    .next (if s.tbc < t + us 12500 then s else s.calEnd k)

/-! ### Die commands: restart and certification (R16, R24, R239, R240, R242) -/

def State.dieResult (d code res : Nat) (s : State) : State :=
  (s.setFld (F.DIE_CMDSTAT_CODE d) code).setFld (F.DIE_CMDSTAT_RESULT d) res

/-- RESTART of a die: refused while CLK, SYNC or VISO5 is missing or the die is not below 125 °C after a thermal
shutdown; else the die leaves the state of R16 and R24. -/
def State.dieRestart (d : Nat) (s : State) : State :=
  if !s.fbit F.CLK_STAT_FD_CLK_OK d || !(s.die d).viso ||
      (s.flag (F.DIE_STAT_THERM_SD d) && decide (2000 ≤ s.sfld (F.DIE_STAT_TEMP d))) then
    s.dieResult d 0x01 Res.refusedState
  else
    let s := (s.setFlag (F.DIE_STAT_ISOLATED d) false).setFlag (F.DIE_STAT_THERM_SD d) false
    let s := (s.endCond (244 + d) d).endCond (240 + d) d
    let s := forN 32 (fun i t => t.axRelease 3 (32 * d + i)) s
    ((s.dieRefresh d).ilmEval).dieResult d 0x01 Res.ok

/-- LSB of a range index in picovolts or femtoamperes (R207, R209, R233). -/
def lsbP (i : Nat) : Int :=
  if i = 0 ∨ i = 2 then 78125000 else if i = 1 then 39062500 else if i = 3 then 183105469
  else if i = 4 then 1220703125 else if i = 7 then 732421875 else 305175781

/-- GAIN and OFS of a pair of points (R239): the factors that map what was measured to the standard's values. Measured
codes are in 1/256 LSB, values in µV or nA (assumption 11). -/
def certFactors (i : Nat) (m0 v0 m1 v1 : Int) : Int × Int :=
  let t0 := v0 * 1000000 * 256 / lsbP i
  let t1 := v1 * 1000000 * 256 / lsbP i
  if m1 = m0 ∨ t1 = t0 then (0, 0)
  else if 5 ≤ i then
    let g := (m1 - m0) * 2 ^ 30 / (t1 - t0)
    (g, m0 - t0 * g / 2 ^ 30)
  else
    let g := (t1 - t0) * 2 ^ 30 / (m1 - m0)
    (g, t0 - m0 * g / 2 ^ 30)

/-- The pairs captured: channel, range index, GAIN, OFS. -/
def certPairs (ps : List CertPoint) : List (Nat × Nat × Int × Int) :=
  (ps.filter fun p => !p.span).filterMap fun z =>
    match ps.find? fun p => p.span && p.ch == z.ch && p.idx == z.idx with
    | some q => some (z.ch, z.idx, certFactors z.idx z.measured z.value q.measured q.value)
    | none => none

/-- Captures a point, replacing an earlier one of the same channel, index and place. -/
def State.certCapture (d : Nat) (p : CertPoint) (s : State) : State :=
  let s := s.modDie d fun x =>
    { x with points := (x.points.filter fun q => !(q.ch == p.ch && q.idx == p.idx && q.span == p.span)) ++ [p],
             acquiring := none, driven := none }
  s.setFld (F.CERT_STAT_POINTS d) (s.fld (F.CERT_STAT_POINTS d) + 1)

/-- Builds, signs and stores the new record, burns a fuse and calibrates the die (R239). SIG is a value the model
leaves free (assumption 1). -/
def State.certRecord (d : Nat) (s : State) : State :=
  let cnt := s.fld (F.SEAL_STAT_SEAL_CNT d) + 1
  let time := if s.otValid then s.otNs / 1000000000 else 0
  let w := (s.die d).sealW
  let put (i : Nat) (v : Word) (w : Tbl Word) : Tbl Word := tset (sealDefault d i) i v w
  let w := put 1 (BitVec.ofNat 32 (1 + d * 65536 + 2 ^ 24)) w
  let w := put 2 (BitVec.ofNat 32 cnt) w
  let w := put 3 (BitVec.ofNat 32 (s.fld (F.DIE_STAT_TEMP d))) w
  let w := put 8 (BitVec.ofNat 32 time) (put 9 (BitVec.ofNat 32 (time / 2 ^ 32)) w)
  let w := forN 4 (fun m w => put (10 + m) (s.reg (F.CERT_STD_BYTES d m).addr) w) w
  let w := forL (certPairs (s.die d).points) (fun p w =>
    put (sealGain p.1 p.2.1) (BitVec.ofInt 32 p.2.2.1) (put (sealGain p.1 p.2.1 + 1) (BitVec.ofInt 32 p.2.2.2) w)) w
  let (w, s) := forN 24 (fun i (p : Tbl Word × State) => let (v, t) := p.2.draw 32; (put (546 + i) v p.1, t)) (w, s)
  let s := s.modDie d fun x =>
    { x with other := x.sealW, sealW := w, slotB := !x.slotB, cert := false, points := [], acquiring := none, driven := none, ending := true }
  let s := ((s.setFld (F.SEAL_STAT_SEAL_CNT d) cnt).setFld (F.SEAL_STAT_FUSE_CNT d) (s.fld (F.SEAL_STAT_FUSE_CNT d) + 1)).setFld
    (F.SEAL_STAT_SIGNER d) 1
  let s := s.setFld (F.CERT_STAT_POINTS d) 0
  let s := forN 4 (fun i t => t.calRequest (4 * d + i)) s
  (((s.dieRefresh d).log .sealCert d cnt).dieResult d 0x12 Res.pending).certEnded d

/-- A die command with its KEY; while the die is in the state of R16 only RESTART is seen (R51, R239, R242,
R477). -/
def State.dieCmd (o : Origin) (d key code : Nat) (s : State) : State :=
  if s.dieDark d ∧ code ≠ 0x01 then s
  else if key ≠ 0xA5 then s.dieResult d (s.fld (F.DIE_CMDSTAT_CODE d)) Res.badKey
  else if code = 0x01 then s.dieRestart d
  else if code = 0x10 then
    if !s.engineer o || s.mode ≠ Mode.idle || (s.die d).cert then s.dieResult d code Res.refusedState
    else if s.fld (F.SEAL_STAT_FUSE_CNT d) = 255 then s.dieResult d code 13
    else ((s.modDie d fun x => { x with cert := true, points := [], ending := false }).dieRefresh d).dieResult d code Res.ok
  else if code = 0x11 then
    if !s.engineer o || !(s.die d).cert || (s.die d).acquiring.isSome then s.dieResult d code Res.refusedState
    else
      let c := s.fld (F.CERT_ARG_CHANNEL d)
      let i := s.fld (F.CERT_ARG_RANGE_IDX d)
      let p := s.flag (F.CERT_ARG_POINT d)
      if i < 5 then (s.modDie d fun x => { x with acquiring := some (c, i, p, s.tbc) }).dieResult d code Res.pending
      else if (s.die d).driven = some (c, i, p) then
        (s.certCapture d { ch := c, idx := i, span := p, measured := if p then 30720 * 256 else 0,
                           value := s.sfld (F.CERT_VAL_VALUE d) }).dieResult d code Res.ok
      else (s.modDie d fun x => { x with driven := some (c, i, p) }).dieResult d code Res.ok
  else if code = 0x12 then
    if !s.engineer o || !(s.die d).cert || s.secu.keyBad then s.dieResult d code Res.refusedState
    else if (certPairs (s.die d).points).any fun p => decide (p.2.2.1 < 1052266988) || decide (1095216660 < p.2.2.1) then
      ((s.certDrop d).dieRefresh d).dieResult d code 12
    else s.certRecord d
  else if code = 0x13 then
    if (s.die d).cert then ((s.certDrop d).dieRefresh d).dieResult d code Res.ok else s.dieResult d code Res.refusedState
  else s.dieResult d code Res.refusedState

/-- DIE_RESTART (R16, R24). -/
def execDieRestart (o : Origin) (d : Fin 4) (key : Byte) (s : State) : Out := .next (s.dieCmd o d key.toNat 0x01)

/-- CERT_BEGIN (R239). -/
def execCertBegin (o : Origin) (d : Fin 4) (key : Byte) (s : State) : Out := .next (s.dieCmd o d key.toNat 0x10)

/-- CERT_POINT (R239). -/
def execCertPoint (o : Origin) (d : Fin 4) (key : Byte) (s : State) : Out := .next (s.dieCmd o d key.toNat 0x11)

/-- CERT_POINT_COMPLETE: the average of 4,096 conversions, in 1/256 LSB, is captured with the standard's value (R239). -/
def execCertPointComplete (d : Fin 4) (measured : Int) (s : State) : Out :=
  .next (match (s.die d).acquiring with
    | some (c, i, p, _) =>
      (s.certCapture d { ch := c, idx := i, span := p, measured := measured, value := s.sfld (F.CERT_VAL_VALUE d) }).setFld
        (F.DIE_CMDSTAT_RESULT d) Res.ok
    | none => s)

/-- CERT_END (R239). -/
def execCertEnd (o : Origin) (d : Fin 4) (key : Byte) (s : State) : Out := .next (s.dieCmd o d key.toNat 0x12)

/-- CERT_ABORT (R240). -/
def execCertAbort (o : Origin) (d : Fin 4) (key : Byte) (s : State) : Out := .next (s.dieCmd o d key.toNat 0x13)

end Sys2Proof.Machine
end

