-- ==== Sys2Proof/Machine/FieldPins.lean ====
section
/-!
DEFINITION. 24 V field pins (R359 to R374, R588), the matrix inputs (R356, R375, R380), couplers and die states
(R16, R24, R231, R567), clock faults (R35) and lock groups (R39 to R47, R587).
-/

set_option Elab.async false

namespace Sys2Proof.Machine

/-! ### FIO registers -/

/-- The grid point at which a written DIR takes effect (R359). A change ends the maximum-active flag, which is an input's
(R363); the debounced state of a new input starts at 0. -/
def State.dirStart (n : Nat) (s : State) : State :=
  match (s.chan n).dirOld with
  | none => s
  | some was =>
    let now := s.flag (F.FIO_CFG_DIR n)
    let s := s.modChan n fun c => { c with dirOld := none }
    if now = was then s
    else ((s.modChan n fun c => { c with inp := c.inp && now, maxact := false }).regionRefresh (chRegion n)).debounce n

/-- A write of FIO_CFG (R359, R360, R361): DIR only in DAWN and IDLE and from the next grid point, ITYPE not 3; a written
DEB restarts the count. -/
def State.fioCfgWrite (n : Nat) (v : Word) (s : State) : State :=
  let a := (F.FIO_CFG_DIR n).addr
  let was := s.fioOut n
  let dir := s.fld (F.FIO_CFG_DIR n)
  let badDir := bitsOf v 29 1 != dir && !s.inMode [Mode.dawn, Mode.idle]
  let badTy := bitsOf v 27 2 == 3
  let v := if badDir then putBits v 29 1 dir else v
  let v := if badTy then putBits v 27 2 (s.fld (F.FIO_CFG_ITYPE n)) else v
  let s := s.plainWrite a v
  let s := if badDir || badTy then s.raise (192 + chRegion n) n else s
  let s := s.modChan n fun c => { c with dirOld := some was }
  (if onGrid s.tbc then s.dirStart n else s).debounce n

/-- FIO_DIR_WRITE: a write of FIO_CFG (R359). -/
def execFioDirWrite (_o : Origin) (n : Fin 128) (v : Word) (s : State) : Out := .next (s.onDie (n.val / 32) (State.fioCfgWrite n v))

/-- DEB_WRITE: a write of FIO_CFG (R361). -/
def execDebWrite (_o : Origin) (n : Fin 128) (v : Word) (s : State) : Out := .next (s.onDie (n.val / 32) (State.fioCfgWrite n v))

/-- DEBOUNCE_EXPIRY: the comparator has held for DEB µs (R361). -/
def execDebounceExpiry (n : Fin 128) (s : State) : Out :=
  .next (match (s.chan n).debSince with
    | some t => if t + us (s.fld (F.FIO_CFG_DEB n)) ≤ s.tbc then s.setIn n (s.chan n).raw else s
    | none => s)

/-- A write of FIO_MAXACT (R363): the flag clears, and the time of IN = 1 counts from the write. -/
def State.maxactWrite (n : Nat) (v : Word) (s : State) : State :=
  let a := (F.FIO_MAXACT_MAXACT n).addr
  let s := s.plainWrite a v
  if s.expertOn a then
    (s.modChan n fun c => { c with maxact := false, inSince := s.tbc }).regionRefresh (chRegion n)
  else s

/-- MAXACT_WRITE (R363). -/
def execMaxactWrite (_o : Origin) (n : Fin 128) (v : Word) (s : State) : Out := .next (s.onDie (n.val / 32) (State.maxactWrite n v))

/-- MAXACT_EXPIRY: IN has been 1 for MAXACT ms (R363). -/
def execMaxactExpiry (n : Fin 128) (s : State) : Out :=
  let m := s.fld (F.FIO_MAXACT_MAXACT n)
  let c := s.chan n
  .next (if m ≠ 0 ∧ c.inp ∧ !s.fioOut n ∧ c.inSince + ms m ≤ s.tbc then
    (s.modChan n fun c => { c with maxact := true }).regionRefresh (chRegion n)
  else s)

/-! ### Switch and region diagnosis (R366 to R371) -/

def addNat (n : Nat) (l : List Nat) : List Nat := if l.contains n then l else l ++ [n]

/-- SWITCH_THERMAL_TRIP: the switch of an output reaches 160 °C (R366, R367). -/
def execSwitchThermalTrip (n : Fin 128) (s : State) : Out :=
  .next ((s.modRegion (chRegion n) fun u => { u with therm := addNat n u.therm }).regionRefresh (chRegion n))

/-- SWITCH_COOLED: the switch has cooled by 15 K and turns on again if its applied state is on (R366). -/
def execSwitchCooled (n : Fin 128) (s : State) : Out :=
  .next ((s.modRegion (chRegion n) fun u => { u with therm := u.therm.filter (· != n.val) }).regionRefresh (chRegion n))

/-- OVERCURRENT_QUALIFIED: the switch has been in current limit without a break for ILIM_T, or leaves it (R367). -/
def execOvercurrentQualified (n : Fin 128) (present : Bool) (s : State) : Out :=
  .next ((s.modRegion (chRegion n) fun u =>
    { u with ovc := if present then addNat n u.ovc else u.ovc.filter (· != n.val) }).regionRefresh (chRegion n))

/-- VFLD_MISSING: VFLD_RGr has been below 18.0 V for 100 µs (R368). -/
def execVfldMissing (r : Fin 8) (s : State) : Out :=
  .next ((s.modRegion r fun u => { u with vfldMissing := true }).regionRefresh r)

/-- VFLD_PRESENT: VFLD_RGr has been above 19.2 V for 10 ms (R368). -/
def execVfldPresent (r : Fin 8) (s : State) : Out :=
  .next ((s.modRegion r fun u => { u with vfldMissing := false }).regionRefresh r)

/-- ISUM_MEASURE: every 10 µs the region's output current, here `sum` in 10 mA units, is measured; 1,000 in a row above
4.0 A or 20 above 6.0 A trip the region (R369). -/
def execIsumMeasure (r : Fin 8) (sum : Fin 4096) (s : State) : Out :=
  if s.tbc % us 10 ≠ 0 then .next s else
  let s := s.setFld (F.RG_STAT_ISUM r) sum
  let s := s.modRegion r fun u =>
    { u with over4 := if 400 < sum.val then u.over4 + 1 else 0, over6 := if 600 < sum.val then u.over6 + 1 else 0 }
  let u := s.regionU r
  if (1000 ≤ u.over4 ∨ 20 ≤ u.over6) ∧ !s.flag (F.RG_STAT_TRIPPED r) then
    let s := s.modRegion r fun u => { u with over4 := 0, over6 := 0 }
    .next (((s.setFlag (F.RG_STAT_TRIPPED r) true).incSat (F.RG_STAT_TRIPS r)).regionRefresh r)
  else .next s

/-- The grid point at which an accepted restart of a region takes effect (R370). -/
def State.rgStart (r : Nat) (s : State) : State :=
  if !(s.regionU r).restart then s
  else
    let s := s.modRegion r fun u => { u with restart := false }
    if (s.regionU r).vfldMissing then s
    else ((s.setFlag (F.RG_STAT_TRIPPED r) false).modRegion r fun u => { u with over4 := 0, over6 := 0 }).regionRefresh r

/-- A write of RG_CTRLr: RESTART ends a trip unless VFLD is missing, at the next grid point (R370). -/
def State.rgCtrlWrite (r : Nat) (v : Word) (s : State) : State :=
  if v.getLsbD 0 && !(s.regionU r).vfldMissing then
    let s := s.modRegion r fun u => { u with restart := true }
    if onGrid s.tbc then s.rgStart r else s
  else s

/-- REGION_RESTART (R370). -/
def execRegionRestart (_o : Origin) (r : Fin 8) (v : Word) (s : State) : Out := .next (s.onDie (r.val / 2) (State.rgCtrlWrite r v))

/-! ### Matrix inputs (R356, R375, R380) -/

/-- FILT of a filtered matrix input (0–127 FIO, 256–271 ILK_IN). -/
def State.ilmFilt (s : State) (i : Nat) : Nat :=
  if i < 128 then s.fld (F.ILM_FFILT_FILT (i / 8)) / 16 ^ (i % 8) % 16
  else s.fld (F.ILM_IFILT_FILT ((i - 256) / 8)) / 16 ^ ((i - 256) % 8) % 16

/-- Quadrature decoding of one accepted edge (R356): a leading B counts up. `a`, `b` are the levels after the edge, `edgeB`
says which line changed. -/
def quadStep (a b edgeB : Bool) : Int := if edgeB then (if a = b then -1 else 1) else (if a = b then 1 else -1)

/-- The edge of pin `n` reaches the decoder of its pair, if QENC_EN is set (R356). -/
def State.quadEdge (n : Nat) (s : State) : State :=
  let c := n / 2 * 2
  if s.flag (F.AX_CFG_QENC_EN c) then
    let d := quadStep (s.chan c).raw (s.chan (c + 1)).raw (n % 2 == 1)
    let d := if s.flag (F.AX_CFG_QDIR_INV c) then -d else d
    s.modChan c fun x => { x with quad := ofSigned 32 ((x.quad : Int) + d) }
  else s

/-- A new level on the pin of channel `i`: quadrature, debounce, and the terms at once or after the filter (R380). -/
def State.chanPin (i : Nat) (level : Bool) (s : State) : State :=
  let s := s.modChan i fun c => { c with raw := level }
  let s := (s.quadEdge i)
  let s := if s.ilmFilt i = 0 then (s.modChan i fun c => { c with filt := level, filtSince := none }).ilmEval
    else s.modChan i fun c => { c with filtSince := if c.filt = level then none else some s.tbc }
  if s.fioOut i then s else s.debounce i

/-- The terms follow interlock input `k` at once or after its filter (R380). -/
def State.ilkFilter (k : Nat) (level : Bool) (s : State) : State :=
  if s.ilmFilt (256 + k) = 0 then
    { s with ilm := { s.ilm with ilkFilt := withBit s.ilm.ilkFilt k level, ilkSince := tdel k s.ilm.ilkSince } }.ilmEval
  else { s with ilm := { s.ilm with
    ilkSince := if bitOf s.ilm.ilkFilt k = level then tdel k s.ilm.ilkSince else tins k s.tbc s.ilm.ilkSince } }

/-- A new level on interlock input `k`. -/
def State.ilkPin (k : Nat) (level : Bool) (s : State) : State :=
  ({ s with ilm := { s.ilm with ilk := withBit s.ilm.ilk k level } }.setBit (256 + k) level).ilkFilter k level

/-- ILM_INPUT_CHANGE: input `i` of the matrix (R375) changes to `level`: a comparator, ILK_IN or a TRIGL line (1 while
low). WIN_OUT and SBC readback are the device's own states; for them the terms are evaluated as they stand. -/
def execIlmInputChange (i : Fin 288) (level : Bool) (s : State) : Out :=
  let i := i.val
  .next (
    if i < 128 then (if (s.chan i).raw = level then s else s.chanPin i level)
    else if i < 256 then s.ilmEval
    else if i < 272 then s.ilkPin (i - 256) level
    else if i < 280 then s.ilmEval
    else
      let s := if bitOf s.ilm.trigl (i - 280) = level then s else s.lgEdge 2 (i - 280) (!level)
      ({ s with ilm := { s.ilm with trigl := withBit s.ilm.trigl (i - 280) level } }.setBit (272 + (i - 280)) level).ilmEval)

/-- ILM_FILTER_EXPIRY: a change of a filtered input has held for FILT × 10 ns and reaches the terms (R380). -/
def execIlmFilterExpiry (i : Fin 288) (s : State) : Out :=
  let i := i.val
  let wait := (s.ilmFilt i * 5 + 1) / 2
  if i < 128 then
    match (s.chan i).filtSince with
    | some t => if t + wait ≤ s.tbc then .next (s.modChan i fun c => { c with filt := c.raw, filtSince := none }).ilmEval else .next s
    | none => .next s
  else if 256 ≤ i ∧ i < 272 then
    match tlook s.ilm.ilkSince (i - 256) with
    | some t =>
      if t + wait ≤ s.tbc then
        .next { s with ilm := { s.ilm with ilkFilt := withBit s.ilm.ilkFilt (i - 256) (bitOf s.ilm.ilk (i - 256)),
                                           ilkSince := tdel (i - 256) s.ilm.ilkSince } }.ilmEval
      else .next s
    | none => .next s
  else .next s

/-- QERR: an accepted sample in which both lines change (R356). -/
def execQerr (n : Fin 128) (s : State) : Out :=
  let c := n.val / 2 * 2
  if s.flag (F.AX_CFG_QENC_EN c) then .next ((s.setFlag (F.AX_STAT_QERR c) true).raise (224 + chRegion c) c) else .next s

/-! ### Die states (R16, R24, R35, R231, R567) -/

/-- The die enters the state of R16: outputs off, channels unavailable, axes inhibited, its DIE source raised. -/
def State.dieIsolate (d : Nat) (s : State) : State :=
  let s := s.setFlag (F.DIE_STAT_ISOLATED d) true
  let s := forN 32 (fun i t => t.axInhibit 3 7 (32 * d + i)) s
  ((s.dieRefresh d).ilmEval).raiseCond (240 + d) d

/-- COUPLER_CLOCK_LOSS: CLK or SYNC of the die has been silent for 2 µs (R16, R35). -/
def execCouplerClockLoss (d : Fin 4) (s : State) : Out :=
  let s := (s.setFbit F.CLK_STAT_FD_CLK_OK d false).setFbit F.CLK_FLT_FD_CLK_LOSS d true
  .next (s.dieIsolate d)

/-- COUPLER_CLOCK_RETURN: CLK and SYNC of the die are valid again (R16). -/
def execCouplerClockReturn (d : Fin 4) (s : State) : Out := .next (s.setFbit F.CLK_STAT_FD_CLK_OK d true)

/-- VISO5_FAIL: the die loses power (R567). -/
def execViso5Fail (d : Fin 4) (s : State) : Out :=
  .next ((s.modDie d fun x => { x with viso := false }).dieIsolate d)

/-- VISO5_RETURN: the die starts again and stays in the state of R16; `lo`, `hi`: VFLD of its two regions is at or above
19.2 V (R368, R567). -/
def execViso5Return (d : Fin 4) (lo hi : Bool) (s : State) : Out :=
  let s := s.modDie d fun x => { x with viso := true }
  let s := (s.modRegion (2 * d) fun u => { u with vfldMissing := !lo }).regionRefresh (2 * d)
  .next ((s.modRegion (2 * d + 1) fun u => { u with vfldMissing := !hi }).regionRefresh (2 * d + 1))

/-- DIE_TEMP_MEASURE: once a millisecond the die's temperature, in 1/16 °C, is taken (R24, R231), also in the state of
R16 outside DAWN and VAULT. -/
def execDieTempMeasure (d : Fin 4) (temp : Int) (s : State) : Out :=
  if s.tbc % ms 1 ≠ 0 || (s.dieDark d && (!(s.die d).viso || s.inMode [Mode.vault, Mode.dawn])) then .next s else
  let s := s.modDie d fun x => { x with hot := decide (2320 < temp) || (x.hot && decide (2000 ≤ temp)) }
  let s := s.setSFld (F.DIE_STAT_TEMP d) temp
  let s := s.staleDie d
  if 2320 < temp ∧ !s.flag (F.DIE_STAT_THERM_SD d) then
    let s := s.setFlag (F.DIE_STAT_THERM_SD d) true
    let s := forN 32 (fun i t => t.axInhibit 3 7 (32 * d + i)) s
    .next ((s.dieRefresh d).raiseCond (244 + d) d 2)
  else .next s

/-- MAIN_PLL_UNLOCK (R35). -/
def execMainPllUnlock (s : State) : Out :=
  .next (((s.setFlag F.CLK_FLT_MAIN_UNLOCK true).setFlag F.CLK_STAT_MAIN_LOCK false).raise 0 0)

/-- SERDES_PLL_UNLOCK: a SerDes PLL loses lock: 0 NET, 1 SL, 2 PLNK, 3 PCIe; the source of each affected port is
raised (R35, R37). R516 names R35 for the station links and NET alone: for PLNK the model raises PARTNER, for PCIe source 18
(assumption 64). -/
def execSerdesPllUnlock (pll : Fin 4) (s : State) : Out :=
  let s := s.setFlag F.CLK_FLT_SER_UNLOCK true
  .next (match pll.val with
    | 0 => ((s.setFlag F.CLK_STAT_SER_LOCK_NET false).raise 408 0).raise 408 1
    | 1 => forN 16 (fun n t => t.raise (352 + n) n) (s.setFlag F.CLK_STAT_SER_LOCK_SL false)
    | 2 => (s.setFlag F.CLK_STAT_SER_LOCK_PLNK false).raise 9 0
    | _ => (s.setFlag F.CLK_STAT_SER_LOCK_PCIE false).raise 18 0)

/-- CLOCK_CROSSCHECK: the sentinel counted `n` CLK_FAB cycles in 16,000 of its own; two windows in a row outside ±6 %
fail (R35, R38, R507). -/
def execClockCrosscheck (n : Fin 1048576) (s : State) : Out :=
  let ok := 235000 ≤ n.val && n.val ≤ 265000
  let s := (s.setFld F.CLK_XCHK_FAB_COUNT n).setFlag F.CLK_STAT_XCHK_OK ok
  if ok then .next { s with safe := { s.safe with xchkOut := 0 } }
  else if 1 ≤ s.safe.xchkOut then .next ((s.setFlag F.CLK_FLT_XCHK_FAIL true).trip 6 0)
  else .next { s with safe := { s.safe with xchkOut := 1 } }

/-! ### Lock groups (R39 to R47, R587) -/

/-- Is a TRIG, TSRC and PERIOD allowed (R40)? -/
def lgValid (v : Word) : Bool :=
  let trig := bitsOf v 28 3
  let src := bitsOf v 20 7
  bitsOf v 0 16 != 0 && decide (trig ≤ 3) && (trig != 1 || decide (src < 32)) && (trig != 2 || decide (src < 8))

/-- The first instant at or after `t` at which TBC is a multiple of `p` µs. -/
def multFrom (p t : Nat) : Nat := let m := max 1 (250 * p); (t + m - 1) / m * m

/-- MEMBERS counts the channels whose membership is in force (R42, R46). -/
def State.lgCount (g : Nat) (s : State) : State :=
  s.setFld (F.LG_STAT_MEMBERS g) ((s.chans.filter fun p => p.2.member == some g).length)

/-- The group CH_LGn asks for. -/
def State.lgTarget (s : State) (n : Nat) : Option Nat :=
  if s.flag (F.CH_LG_MEMB n) then some (s.fld (F.CH_LG_GROUP n)) else none

/-- A channel leaves its group; a stopped target takes it at once. -/
def State.lgLeave (n : Nat) (s : State) : State :=
  let old := (s.chan n).member
  let s := s.modChan n fun c =>
    { c with member := none, leaving := false, leftAt := some s.tbc, tkFio := none, tkAout := none }
  let s := match old with
    | some g => s.lgCount g
    | none => s
  match s.lgTarget n with
  | some h => if (s.lg h).next.isNone then (s.modChan n fun c => { c with member := some h }).lgCount h else s
  | none => s

/-- A write of CH_LGn (R39, R46). -/
def State.chLgWrite (n : Nat) (v : Word) (s : State) : State :=
  let s := s.plainWrite (F.CH_LG_MEMB n).addr v
  let t := s.lgTarget n
  match (s.chan n).member with
  | some g =>
    if t = some g then s.modChan n fun c => { c with leaving := false }
    else if (s.lg g).next.isSome then s.modChan n fun c => { c with leaving := true }
    else s.lgLeave n
  | none =>
    match t with
    | some h => if (s.lg h).next.isNone then (s.modChan n fun c => { c with member := some h }).lgCount h else s
    | none => s

/-- CH_LG_WRITE (R39, R46). -/
def execChLgWrite (_o : Origin) (n : Fin 128) (v : Word) (s : State) : Out := .next (s.chLgWrite n v)

/-- Is a sequencer bound to the group RUNNING, PAUSED, FROZEN or SUSPENDED (R41)? -/
def State.lgBoundActive (s : State) (g : Nat) : Bool :=
  (List.range 32).any fun n => s.flag (F.RS_CFG_BIND n) && s.fld (F.RS_CFG_GROUP n) == g &&
    (let st := s.fld (F.RS_STAT_STATE n); 1 ≤ st && st ≤ 4)

/-- A write of LG_CTRLn (R40, R41, R47, R587). One that runs a group bound to an active sequencer at a PERIOD below 10 µs
is ignored, whatever EN was before. A write that clears EN is taken with whatever fields it carries, a reserved TRIG, a TSRC out of
range and a short PERIOD of a bound group among them, since no tick follows it (assumption 32). -/
def State.lgCtrlWrite (g : Nat) (v : Word) (s : State) : State :=
  let a := (F.LG_CTRL_EN g).addr
  let old := s.reg a
  let was := old.getLsbD 31
  let slow := 10 ≤ bitsOf v 0 16 || !s.lgBoundActive g
  if v.getLsbD 31 && lgValid v && !slow then s.raise 1 0
  else if !was then
    let s := s.plainWrite a v
    if v.getLsbD 31 then
      if lgValid v then
        let s := ((s.setFld (F.LG_STAT_RETRIG_DROP g) 0).setFlag (F.LG_STAT_ACTIVE g) true)
        let s := s.modLg g fun _ => { next := some (multFrom (bitsOf v 0 16) (s.tbc + 250)), since := s.tbc }
        forN 128 (fun n t => if (t.chan n).member = some g then
          t.modChan n fun c => { c with tkFio := some (t.ownFio n), tkAout := some (t.ownAout n) } else t) s
      else (s.setFlag (F.LG_CTRL_EN g) false).raise 1 0
    else s
  else if v.getLsbD 31 then
    if !lgValid v then s.raise 1 0
    else
      let s := s.plainWrite a v
      s.modLg g fun x => { x with oldCfg := some (x.oldCfg.getD old) }
  else
    let s := (s.plainWrite a v).setFlag (F.LG_STAT_ACTIVE g) false
    let s := s.modLg g fun _ => {}
    forN 128 (fun n t =>
      let c := t.chan n
      if c.member = some g then
        (if c.leaving then t.lgLeave n else t.modChan n fun c => { c with tkFio := none, tkAout := none })
      else if c.member.isNone ∧ t.lgTarget n = some g then (t.modChan n fun c => { c with member := some g }).lgCount g
      else t) s

/-- LG_CTRL_WRITE (R40, R41, R47). -/
def execLgCtrlWrite (_o : Origin) (g : Fin 32) (v : Word) (s : State) : Out := .next (s.lgCtrlWrite g v)

/-- LOCK_GROUP_TICK: the tick that is due: outputs and step-rate changes of the members apply, channels join and leave,
and the next tick is set (R41 to R46). Conversions, activations and bound sequencers follow in their own steps. -/
def execLockGroupTick (g : Fin 32) (s : State) : Out :=
  match (s.lg g).next with
  | none => .next s
  | some t =>
    if s.tbc < t then .next s else
    let l := s.lg g
    let cfg := s.reg (F.LG_CTRL_EN g).addr
    let p := bitsOf cfg 0 16
    let next := if bitsOf cfg 28 3 = 0 then multFrom p (s.tbc + 250) else s.tbc + 250 * p
    let s := s.modLg g fun _ => { next := some next, last := some s.tbc, since := l.since, trigs := l.trigs, stepAt := l.stepAt }
    .next (forN 128 (fun n s =>
      let c := s.chan n
      let s := if c.member.isNone ∧ s.lgTarget n = some g.val ∧ c.leftAt ≠ some s.tbc then
          (s.modChan n fun c => { c with member := some g.val }).lgCount g else s
      if (s.chan n).member = some g.val then
        let s := ((s.modChan n fun c => { c with tickAt := some s.tbc }).tickOutputs n).tickV n
        if c.leaving then s.lgLeave n else s
      else s) s)

/-! ### What falls on a grid point -/

/-- Changes that wait for the next grid point take effect there: RANGE, DIR, REFSEL and INT_ON, a region's restart (R211,
R217, R359, R370). -/
def State.gridDue (s : State) : State :=
  if !onGrid s.tbc then s
  else
    let s := forL ((s.chans.filter fun p => p.2.rangeOld.isSome).map Prod.fst) State.rangeStart s
    let s := forL ((s.chans.filter fun p => p.2.dirOld.isSome).map Prod.fst) State.dirStart s
    let s := forL ((s.clusters.filter fun p => p.2.selOld.isSome).map Prod.fst) State.refStart s
    forL ((s.regions.filter fun p => p.2.restart).map Prod.fst) State.rgStart s

end Sys2Proof.Machine
end

