-- ==== Sys2Proof/Machine/LoopBase.lean ====
section
/-!
DEFINITION. The datapath of a loop engine (R121 to R137, R243 to R265): its memories and pointers, a bundle's issue
and visibility, the loop-engine exceptions (R145), and the arithmetic of lanes.
-/

set_option Elab.async false

namespace Sys2Proof.Machine

/-! ### Memories (R243, R245) -/

def State.engine (s : State) (e : Nat) : Engine := tget {} s.engines e
def State.modEngine (e : Nat) (f : Engine → Engine) (s : State) : State := { s with engines := tmod {} e f s.engines }
def State.slot (s : State) (g : Nat) : Slot := tget {} s.slots g
def State.modSlot (g : Nat) (f : Slot → Slot) (s : State) : State := { s with slots := tmod {} g f s.slots }

/-- Fabric addresses of program bundle `p`, coefficient word `w`, state word `w` of engine `e`. -/
def leProg (e p : Nat) : Nat := 0x10000000 + 0x100000 * e + 4 * p
def leCoef (e w : Nat) : Nat := 0x10020000 + 0x100000 * e + 2 * w
def leState (e w : Nat) : Nat := 0x10040000 + 0x100000 * e + 2 * w

/-- The 16-bit word at a fabric address. -/
def State.half (s : State) (a : Nat) : BitVec 16 := BitVec.ofNat 16 (memNat s.mem a 2)

/-- Stores a 16-bit word. -/
def State.setHalf (a : Nat) (v : BitVec 16) (s : State) : State := s.store a 2 v.toNat

/-- Address of descriptor word `j` of loop slot `g`. -/
def descWord (g j : Nat) : Nat := leState (g / 64) (128 * (g % 64) + j)

/-- Descriptor word `j` of loop slot `g`, as a number and signed; a pair of words (R275). -/
def State.dsc (s : State) (g j : Nat) : Nat := (s.half (descWord g j)).toNat
def State.dscS (s : State) (g j : Nat) : Int := toSigned 16 (s.dsc g j)
def State.dsc2 (s : State) (g j : Nat) : Nat := s.dsc g j + s.dsc g (j + 1) * 65536
def State.setDsc (g j : Nat) (v : Int) (s : State) : State := s.setHalf (descWord g j) (BitVec.ofInt 16 v)
def State.setDsc2 (g j : Nat) (v : Int) (s : State) : State := (s.setDsc g j v).setDsc g (j + 1) (v / 65536)

/-- Does the range hold a line with one inverted check bit (R245, R531)? -/
def State.eccSoft (s : State) (a n : Nat) : Bool := s.flt.badEcc.any fun p => p.2 == 1 && a < p.1 + 4 && p.1 < a + n

/-- A read corrects a correctable line: it is counted and written back (R245). -/
def State.leCorrect (e a n : Nat) (s : State) : State :=
  if s.eccSoft a n then
    { s with flt := { s.flt with badEcc := s.flt.badEcc.filter fun p => !(p.2 == 1 && a < p.1 + 4 && p.1 < a + n) } }.incSat
      (F.LE_ECC_CORR e)
  else s

/-- The line of a coefficient or state word. -/
def lineOf (a : Nat) : Nat := a / 8 * 8

/-- The lines that an access of `n` bytes at `a` of an engine's memories reads (R243): bundles, or lines of four words. -/
def leSpan (a n : Nat) : Nat × Nat :=
  let g := if a % 0x100000 < 0x20000 then 4 else 8
  (a / g * g, (a % g + n + g - 1) / g * g)

/-- Byte `a` of engine `e`'s output window: its committed words (R247). -/
def State.winByte (s : State) (e a : Nat) : Nat :=
  (tget (0 : BitVec 16) (s.engine e).window (a % 0x200 / 2)).toNat / 2 ^ (8 * (a % 2)) % 256

/-- A fabric read of `n` bytes at `a` of engine `e`'s window: a memory with its correction, or the committed output words
(R245, R247). -/
def State.leRead (e a n : Nat) (s : State) : Nat × State :=
  let off := a % 0x100000
  if !leMemOk off then (0, s)
  else if 0x4FE00 ≤ off then ((List.range n).foldl (fun v i => v + s.winByte e (a + i) * 256 ^ i) 0, s)
  else (memNat s.mem a n, s.leCorrect e (leSpan a n).1 (leSpan a n).2)

/-! ### Registers of a set (R121) -/

/-- D`r` and A`r` of lane `k` as the bundle sees them (R135). -/
def Act.dv (a : Act) (k r : Nat) : Int := (tget (0 : BitVec 16) a.d (8 * k + r)).toInt
def Act.av (a : Act) (k r : Nat) : Int := tget 0 a.a (4 * k + r)

/-- Applies one register write. -/
def Act.put (a : Act) (w : LWrite) : Act :=
  if w.kind = 0 then { a with a := tset 0 (4 * w.lane + w.idx) w.val a.a }
  else if w.kind = 1 then { a with d := tset 0 (8 * w.lane + w.idx) (BitVec.ofInt 16 w.val) a.d }
  else if w.kind = 2 then { a with ov := withBit a.ov w.lane (w.val != 0) }
  else if w.kind = 3 then { a with sv := withBit a.sv w.lane (w.val != 0) }
  else { a with clp := withBit a.clp w.lane (w.val != 0) }

/-- Applies the writes that are visible to the bundle about to issue (R135, R263). -/
def Act.settle (a : Act) : Act :=
  (a.queue.filter fun w => w.due ≤ a.cyc).foldl Act.put { a with queue := a.queue.filter fun w => a.cyc < w.due }

/-- All writes on their way, applied (R133). -/
def Act.drain (a : Act) : Act := a.queue.foldl Act.put { a with queue := [] }

/-- Sends a result on its way: visible to the bundle issued 3 cycles later. -/
def Act.send (kind lane idx : Nat) (val : Int) (a : Act) : Act :=
  { a with queue := a.queue ++ [{ due := a.cyc + 3, kind := kind, lane := lane, idx := idx, val := val }] }

/-- The enabled lanes, in ascending order, and the lowest of them (R122). -/
def Act.lanes (a : Act) : List Nat := (List.range 4).filter fun k => bitOf a.lm k
def Act.low (a : Act) : Nat := a.lanes.headD 0

/-- Program address of the bundle about to issue. -/
def Act.here (a : Act) : Nat :=
  match a.rep with
  | some r => r.start + r.idx
  | none => a.pc

/-! ### Pointers (R124) -/

/-- Fields of a pointer configuration. -/
def cfgBc (c : Nat) : Bool := bitOf c 20
def cfgMode (c : Nat) : Nat := c / 2 ^ 18 % 4
def cfgStep (c : Nat) : Int := toSigned 8 (c / 2 ^ 10)
def cfgLen (c : Nat) : Nat := c % 1024 + 1

/-- The smallest exponent `m` with 2^m at or above `n`. -/
def ceilLog (n : Nat) : Nat := ((List.range 11).find? fun m => n ≤ 2 ^ m).getD 10

/-- The low `m` bits in reversed order. -/
def bitRev (m n : Nat) : Nat := (List.range m).foldl (fun acc i => acc + b2n (bitOf n i) * 2 ^ (m - 1 - i)) 0

def Act.ixv (a : Act) (n : Nat) : Nat := tget 0 a.ix n
def Act.cfg (a : Act) (n : Nat) : Nat := tget 0 a.ixcfg n

/-- Is the pointer's use a PTRCFG exception: bit-reversed with a LEN that is no power of two or for a vector, or MODE
0b11 (assumption 13)? -/
def Act.ptrBad (a : Act) (n : Nat) : Bool :=
  let c := a.cfg n
  cfgMode c == 3 || (cfgMode c == 2 && (!cfgBc c || 2 ^ ceilLog (cfgLen c) != cfgLen c))

/-- The word address that lane `k` uses through pointer `n`. -/
def Act.addr (a : Act) (n k : Nat) : Nat :=
  let c := a.cfg n
  let i := a.ixv n
  if cfgBc c then i
  else if cfgMode c = 1 then
    let p := 2 ^ ceilLog (cfgLen c)
    i / p * p + (i % p + k) % cfgLen c
  else i + k

/-- The post-update of pointer `n`. -/
def Act.bump (n : Nat) (a : Act) : Act :=
  let c := a.cfg n
  let i := a.ixv n
  let p := 2 ^ ceilLog (cfgLen c)
  let v :=
    if cfgMode c = 1 then i / p * p + ((((i % p : Nat) : Int) + cfgStep c) % (cfgLen c : Int)).toNat
    else if cfgMode c = 2 then
      let m := ceilLog (cfgLen c)
      i / p * p + bitRev m ((bitRev m i + bitRev m (ofSigned m (cfgStep c))) % p)
    else ofSigned 16 (i + cfgStep c)
  { a with ix := tset 0 n (v % 65536) a.ix }

/-! ### Buses (R247, R255, R278, R287) -/

/-- Where the C bus finds word `w` for an activation: palette words go to the bank of the activation, or of the other
slot as it is active now. -/
def State.coefWord (s : State) (e : Nat) (a : Act) (w : Nat) : Nat :=
  let w := w % 16384
  if 4096 ≤ w then w
  else
    let t := w / 64
    let b := if t = a.slot % 64 then a.bank else s.fbit (F.LE_PALACT_ACT e (t / 32)) (t % 32)
    64 * t + (w + if b then 32 else 0) % 64

/-- A word on the S bus: the output window reads 0, as does descriptor word 52 while EXPERT_EN is 0. -/
def State.busS (s : State) (e w : Nat) : BitVec 16 :=
  let w := w % 32768
  if 0x7F00 ≤ w then 0
  else if w < 8192 ∧ w % 128 = 52 ∧ !s.flag (F.LE_CTRL_EXPERT_EN e) then 0
  else s.half (leState e w)

/-! ### Exceptions (R145) -/

namespace LeExc
def undef : Nat := 1
def dupdest : Nat := 2
def reperr : Nat := 3
def placement : Nat := 4
def ldpout : Nat := 5
def ptrcfg : Nat := 6
def pcrange : Nat := 7
def ecc : Nat := 8
end LeExc

/-- The slot's level-5 writer has become inactive: its pins keep their values until the owner's next transfer (R167);
a bank request takes effect at once (R288); a pending activation is discarded (R269). -/
def State.slotOff (g : Nat) (s : State) : State :=
  let e := g / 64
  let j := g % 64
  let s := { s with out := { s.out with
    aout := tmap none (fun _ p => p.map fun (q : Pin5) => if q.writer = 32 + g then { q with active := false } else q) s.out.aout } }
  let s := s.setFlag (F.LE_SLOTSTAT_PENDING g) false
  s.setFbit (F.LE_PALACT_ACT e (j / 32)) (j % 32) (s.fbit (F.LE_PALREQ_REQ e (j / 32)) (j % 32))

/-- Takes an activation off the stack; its set becomes free 4 cycles later (R260). If it was the running one, this is an end,
after which the engine chooses again (R258). -/
def State.dropAct (e set : Nat) (s : State) : State :=
  s.modEngine e fun x =>
    { x with stack := x.stack.filter (fun a => a.set != set), freeing := x.freeing ++ [(set, s.tbc + 2)],
             endAt := if (x.stack.head?.map Act.set) == some set then some s.tbc else x.endAt }

/-- The sticky OV and SV of the slot and its arithmetic fault source, from the flags of an activation that ends (R272). -/
def State.stickyFlags (e : Nat) (a : Act) (s : State) : State :=
  let ov := a.lanes.any fun k => bitOf a.ov k
  let sv := a.lanes.any fun k => bitOf a.sv k
  let s := if ov then s.setFlag (F.LE_SLOTSTAT_OV a.slot) true else s
  let s := if sv then s.setFlag (F.LE_SLOTSTAT_SV a.slot) true else s
  if (ov || sv) && s.flag (F.LE_SLOTCFG_OV_FLT a.slot) then s.raise (88 + e) a.slot else s

/-- A loop-engine exception of activation `a`, at program address `pc`, wherever it stands in the stack: earlier bundles
complete into its set, it is recorded, the slot disabled, its execution fault source raised; it commits nothing (R145, R265). -/
def State.leExceptionAt (e : Nat) (a : Act) (code pc : Nat) (s : State) : State :=
  let s := (((s.setFld (F.LE_EXC_SLOT e) (a.slot % 64)).setFld (F.LE_EXC_SET e) a.set).setFld (F.LE_EXC_CODE e) code).setFld
    (F.LE_EXC_PC e) pc
  let s := if code = LeExc.ecc then s.incSat (F.LE_ECC_UNCORR e) else s
  let s := (s.setFlag (F.LE_SLOTCFG_EN a.slot) false).setFlag (F.LE_SLOTSTAT_EXC a.slot) true
  (((s.stickyFlags e a.drain).dropAct e a.set).slotOff a.slot).raise (72 + e) a.slot 0 (code == LeExc.ecc)

/-- The exception of the bundle that activation `a` is about to issue. -/
def State.leException (e : Nat) (a : Act) (code : Nat) (s : State) : State := s.leExceptionAt e a code a.here

/-- The exceptions of bundles in flight arise, two cycles after their issue; the activation may have been preempted by then
(R265). -/
def State.leFaults (s : State) : State :=
  forN 8 (fun e s => forL (s.engine e).stack (fun a s => match a.bad with
    | some pc => s.leExceptionAt e a LeExc.ecc pc
    | none => s) s) s

/-! ### Issue -/

/-- Counts issue cycles in the 1 ms window of LE_LOAD (R270). -/
def Engine.work (win n : Nat) (x : Engine) : Engine :=
  if x.busyWin = win then { x with busy := x.busy + n }
  else { x with busy := n, busyLast := if x.busyWin + 1 = win then x.busy else 0, busyWin := win }

/-- Replaces the running activation. -/
def State.setRunning (e : Nat) (a : Act) (s : State) : State :=
  s.modEngine e fun x => { x with stack := a :: x.stack.tail }

/-- The activation moves past an issued bundle: through a REP body, its delay slots, or to the next address (R131,
R133). -/
def Act.advance (a : Act) : Act :=
  let a := { a with cyc := a.cyc + 1 }
  let a := match a.rep with
    | some r =>
      if r.idx + 1 < r.len then { a with rep := some { r with idx := r.idx + 1 } }
      else if 1 < r.left then { a with rep := some { r with idx := 0, left := r.left - 1 } }
      else { a with rep := none, pc := r.start + r.len }
    | none => { a with pc := a.pc + 1 }
  match a.ctl with
  | some (t, k) =>
    if 1 < k then { a with ctl := some (t, k - 1) }
    else match t with
      | some p => { a with ctl := none, pc := p }
      | none => { a with ctl := none, ended := true }
  | none => a

/-- The fill cycles still to come pass as issue cycles (R135, R264). -/
def Act.filled (a : Act) : Act :=
  match a.rep with
  | some r => { a with cyc := a.cyc + r.fill, rep := some { r with fill := 0 } }
  | none => a

/-- The activation is switched out: the part of a fill whose cycles have passed is done (R261). A TBC count holds two cycles. -/
def Act.switchedOut (now : Nat) (a : Act) : Act :=
  match a.rep with
  | some r =>
    let n := min r.fill (2 * (now - r.fillFrom))
    { a with cyc := a.cyc + n, rep := some { r with fill := r.fill - n } }
  | none => a

/-- Has the body an uncorrectable bundle? -/
def State.bodyBad (s : State) (e : Nat) (r : Rep) : Bool := s.eccBad (leProg e r.start) (4 * r.len)

/-- The repeat cache of engine `e` takes the body, read from program memory, with the tag of set `k` (R131, R256). -/
def State.fillCache (e k : Nat) (r : Rep) (s : State) : State :=
  let s := forN r.len (fun i t => t.leCorrect e (leProg e (r.start + i)) 4) s
  let body := (List.range r.len).map fun i => memNat s.mem (leProg e (r.start + i)) 4
  s.modEngine e fun x => { x with cache := some { set := k, start := r.start, body := body } }

/-- The fetch of the bundle about to issue, with the cycles it takes that are no issue cycles: from program memory (R133,
R245), or from the repeat cache, which is refilled first if another activation has taken it over (R256, R264). -/
def State.fetch (e : Nat) (a : Act) (s : State) : Except Nat (Nat × State) :=
  match a.rep with
  | none =>
    if 8191 < a.pc then .error LeExc.pcrange
    else if s.eccBad (leProg e a.pc) 4 then .error LeExc.ecc
    else .ok (0, s.leCorrect e (leProg e a.pc) 4)
  | some r =>
    if ((s.engine e).cache.map RepCache.set) == some a.set then .ok (0, s)
    else if s.bodyBad e r then .error LeExc.ecc
    else .ok ((r.len + 3) / 4, s.fillCache e a.set r)

/-- A bundle of the running activation of engine `e`: the results that are due land, the bundle is fetched, and `f` acts or
names an exception. A word that cannot be corrected shows in the multiply stage: the bundle and the later ones take no effect,
and the exception arises with the next TBC count (R145, R253, R265). -/
def State.bundle (e : Nat) (f : Act → State → Except Nat (Act × State)) (s : State) : State :=
  match (s.engine e).stack with
  | [] => s
  | a0 :: _ =>
    if a0.ended || a0.std || a0.bad.isSome then s else
    let a := a0.filled.settle
    match s.fetch e a with
    | .error c => s.leException e a c
    | .ok (n, s) =>
      match f a s with
      | .error c => if c = LeExc.ecc then s.setRunning e { a with bad := some a.here } else s.leException e a c
      | .ok (a', s') =>
        ((s'.setRunning e a').modEngine e (Engine.work (s'.tbc / 250000) (a'.cyc - a0.cyc + n))).modEngine e fun x =>
          { x with endAt := none }

/-! ### Arithmetic (R122, R126 to R129) -/

/-- What an operation gives in one lane: new A[AD], new D[XS], a wrap, a clamp, CLP. -/
structure LaneOut where
  acc : Option Int := none
  d : Option Int := none
  ov : Bool := false
  sv : Bool := false
  clp : Option Bool := none
deriving DecidableEq, Repr

/-- An exact result brought into `w` bits: wrapped with OV, or clamped with SV under S (R127). -/
def fit (w : Nat) (sat : Bool) (r : Int) : Int × Bool × Bool :=
  let hi : Int := 2 ^ (w - 1) - 1
  let c := clampI (-hi - 1) hi r
  if c = r then (r, false, false)
  else if sat then (c, false, true) else (toSigned w (ofSigned w r), true, false)

/-- An accumulator result. -/
def accOut (sat : Bool) (r : Int) : LaneOut :=
  let (v, ov, sv) := fit 40 sat r
  { acc := some v, ov := ov, sv := sv }

/-- rnd of R128, before wrap or clamp: half up to 16 fraction bits fewer. -/
def rnd16 (a : Int) : Int := (a + 32768) / 65536

/-- Sends an operation's result in lane `k` on its way. -/
def Act.laneDone (b : LaBundle) (k : Nat) (o : LaneOut) (a : Act) : Act :=
  let a := match o.acc with
    | some v => a.send 0 k b.ad.toNat v
    | none => a
  let a := match o.d with
    | some v => a.send 1 k b.xs.toNat v
    | none => a
  let a := if o.ov then a.send 2 k 0 1 else a
  let a := if o.sv then a.send 3 k 0 1 else a
  match o.clp with
  | some c => a.send 4 k 0 (b2n c)
  | none => a

/-! ### Moves (R125, R132, R248, R249, R254) -/

/-- The D registers that a bundle writes; `arith`: its operation writes D[XS]. -/
def laDests (arith : Bool) (b : LaBundle) : List Nat :=
  (if arith then [b.xs.toNat] else []) ++ (if b.cen then [b.cd.toNat] else []) ++
  (if b.sk = 1 then [b.sd.toNat] else []) ++ (if b.pen then [6 + b2n b.pd] else [])

/-- Does a list name something twice? -/
def hasDup (l : List Nat) : Bool := decide (¬ l.Nodup)

/-- The pins a slot's descriptor and the program assign to the slot: channel numbers with 128 + n for an AOUT and
256 + n for a step rate (R21, R166). -/
def State.slotPins (s : State) (g : Nat) : List Nat :=
  let ch := 16 * (g / 64) + s.dsc g 32 % 16
  let k := s.dsc g 32 / 2 ^ 14
  let own := if k = 0 then [128 + ch] else if k = 1 then [256 + ch] else []
  let prog := match s.scan.program with
    | some p => (p.level5.filter fun (x : Nat × Nat) => x.2 == 32 + g).map Prod.fst
    | none => []
  own ++ prog.filter fun p => !own.contains p

/-- The retained state words of slot `g`, which RET_MASK of its descriptor marks: address and value (R277). -/
def State.slotRetained (s : State) (g : Nat) : List (Nat × Nat) :=
  let m := s.dsc2 g 60 + s.dsc2 g 62 * 2 ^ 32
  ((List.range 64).filter fun j => bitOf m j).map fun j =>
    let a := descWord g (if j < 4 then 24 + j else 60 + j)
    (a, (s.half a).toNat)

/-- A store to output-window word `i` (0 to 255) by the running slot: staged, or discarded when reserved; a store to an
output not assigned to the slot sets OWNV and raises the slot's configuration fault source (R247 to R249). -/
def State.storeWindow (e i : Nat) (v : BitVec 16) (p : Act × State) : Act × State :=
  let (a, s) := p
  if 0x80 ≤ i ∨ 4 ≤ i % 8 then (a, s)
  else
    let ch := 16 * e + i / 8
    if (s.slotPins a.slot).contains (if i % 8 = 0 then 128 + ch else 256 + ch) then
      ({ a with staged := tset none i (some v) a.staged }, s)
    else (a, (s.setFlag (F.LE_SLOTSTAT_OWNV a.slot) true).raise (64 + e) a.slot)

/-- A store on the S bus to word `w`. -/
def State.storeS (e w : Nat) (v : BitVec 16) (p : Act × State) : Act × State :=
  let w := w % 32768
  if 0x7F00 ≤ w then State.storeWindow e (w - 0x7F00) v p else (p.1, p.2.setHalf (leState e w) v)

/-- An uncorrectable line on the C or S bus under the addresses used. -/
def State.busBad (s : State) (l : List Nat) : Bool := l.any fun x => s.eccBad (lineOf x) 8

/-- Fabric addresses that an access through pointer `n` meets. -/
def Act.uses (a : Act) (n : Nat) : List Nat := if cfgBc (a.cfg n) then [a.addr n 0] else (List.range 4).map (a.addr n)

/-- The moves of an LA bundle: C bus, S bus, P bus, and the post-updates. Of several exceptions LDPOUT comes before PTRCFG, and that
before ECC, which only a later stage finds (assumption 13). -/
def State.moves (e : Nat) (b : LaBundle) (a0 : Act) (s0 : State) : Except Nat (Act × State) :=
  let ci := b.cix.toNat
  let si := 4 + b.six.toNat
  let cads := (a0.uses ci).map fun w => leCoef e (s0.coefWord e a0 w)
  let sads := ((a0.uses si).map (· % 32768)).filterMap fun w => if w < 0x7F00 then some (leState e w) else none
  if b.pen && a0.rep.isNone then .error LeExc.ldpout
  else if ((b.cen || b.cinc) && a0.ptrBad ci) || ((b.sk != 0 || b.sinc) && a0.ptrBad si) then .error LeExc.ptrcfg
  else if (b.cen && s0.busBad cads) || (b.sk == 1 && s0.busBad sads) || (b.pen && a0.pageBad.contains a0.mp) then
    .error LeExc.ecc
  else
    let s := if b.cen then forL cads (fun x t => t.leCorrect e (lineOf x) 8) s0 else s0
    let s := if b.sk = 1 then forL sads (fun x t => t.leCorrect e (lineOf x) 8) s else s
    let a := if b.cen then
        forL a0.lanes (fun k a => a.send 1 k b.cd.toNat (s0.half (leCoef e (s0.coefWord e a0 (a0.addr ci k)))).toInt) a0
      else a0
    let a := if b.sk = 1 then
        forL a0.lanes (fun k a => a.send 1 k b.sd.toNat (s0.busS e (a0.addr si k)).toInt) a
      else a
    let a := if b.pen then
        forL a0.lanes (fun k a => a.send 1 k (6 + b2n b.pd) (tget (0 : BitVec 16) a0.page a0.mp).toInt) a
      else a
    let a := if b.pen then { a with mp := (a.mp + 1) % 256 } else a
    let (a, s) := if b.sk = 2 then
        (if cfgBc (a0.cfg si) then State.storeS e (a0.addr si 0) (BitVec.ofInt 16 (a0.dv a0.low b.sd.toNat)) (a, s)
         else forL a0.lanes (fun k p => State.storeS e (a0.addr si k) (BitVec.ofInt 16 (a0.dv k b.sd.toNat)) p) (a, s))
      else (a, s)
    let a := if b.cinc then a.bump ci else a
    let a := if b.sinc then a.bump si else a
    .ok (a, s)

/-- An LA bundle whose operation is `f` in lane `k`; `arith`: it writes D[XS]. -/
def State.laBundle (e : Nat) (b : LaBundle) (arith : Bool) (f : Act → Nat → LaneOut) (s : State) : State :=
  s.bundle e fun a t =>
    if b.sk = 3 then .error LeExc.undef
    else if hasDup (laDests arith b) then .error LeExc.dupdest
    else match State.moves e b a t with
      | .error c => .error c
      | .ok (a', t') => .ok ((forL a.lanes (fun k x => x.laneDone b k (f a k)) a').advance, t')

/-- A control bundle that may stand anywhere (R130, R131). -/
def State.lcBundle (e : Nat) (f : Act → Except Nat Act) (s : State) : State :=
  s.bundle e fun a t => match f a with
    | .error c => .error c
    | .ok a' => .ok (a'.advance, t)

/-- A control bundle that may stand neither in a REP body nor in a delay slot (R131, R133). -/
def State.lcAlone (e : Nat) (f : Act → State → Except Nat (Act × State)) (s : State) : State :=
  s.bundle e fun a t =>
    if a.rep.isSome then .error LeExc.reperr
    else if a.ctl.isSome then .error LeExc.placement
    else f a t

end Sys2Proof.Machine
end

