-- ==== Sys2Proof/Machine/RcpBase.lean ====
section
/-!
DEFINITION. Ramps of recipe sequencers at slot ticks (R316).
-/

set_option Elab.async false

namespace Sys2Proof.Machine

/-- The value of a ramp at TBC count `c` (R316). -/
def rampValue (r : Ramp) (c : Nat) : Int :=
  let t : Int := (c : Int) - r.t0
  let d : Int := 250 * r.d
  if d ≤ t then r.b else r.a + (2 * (r.b - r.a) * t + d) / (2 * d)

/-- The ramps of slot `g` that run on sequencer `n` write their field for the slot tick `c`; a ramp ends with its last
write. -/
def State.rampWrite (g c n : Nat) (s : State) : State :=
  let p := (s.seq n).pos
  if p.st ≠ Rs.running then s
  else
    let mine (r : Ramp) : Bool := r.slot == g && !r.cur && decide (r.t0 ≤ (c : Int))
    let s := forL (p.ramps.filter mine) (fun (r : Ramp) t => t.setDsc g (24 + r.field) (rampValue r c)) s
    (s.modPos n fun p => { p with ramps := p.ramps.filter fun r => !(mine r && decide (r.t0 + 250 * r.d ≤ c)) }).seqShow n

/-- Ramp writes of every sequencer at a tick of slot `g`: for a period below 10 µs only on the 10 µs grid. -/
def State.rampWrites (g c period : Nat) (s : State) : State :=
  if period < 2500 ∧ c % 2500 ≠ 0 then s else forL (s.seqs.map Prod.fst) (State.rampWrite g c) s

end Sys2Proof.Machine
end

