-- ==== Sys2Proof/Machine/LoopBundles.lean ====
section
/-!
DEFINITION. The L profile (R125 to R133): each bundle as the running activation of engine `e` issues it.
-/

set_option Elab.async false

namespace Sys2Proof.Machine

/-! ### Arithmetic bundles (R126) -/

/-- L_NOP: no operation; the moves execute. -/
def execLNop (e : Fin 8) (b : LaBundle) (s : State) : Out := .next (s.laBundle e b false fun _ _ => {})

/-- The product of MAC, MSU and MPY (R129). -/
def Act.prod (a : Act) (b : LaBundle) (k : Nat) : Int := a.dv k b.xs.toNat * a.dv k (4 + b.ys.toNat) * 2

/-- L_MAC (R129): accumulates onto the accumulator as the bundle sees it (R135, assumption 13). -/
def execLMac (e : Fin 8) (b : LaBundle) (s : State) : Out :=
  .next (s.laBundle e b false fun a k => accOut b.s (a.av k b.ad.toNat + a.prod b k))

/-- L_MSU (R129): as L_MAC. -/
def execLMsu (e : Fin 8) (b : LaBundle) (s : State) : Out :=
  .next (s.laBundle e b false fun a k => accOut b.s (a.av k b.ad.toNat - a.prod b k))

/-- L_MPY (R129). -/
def execLMpy (e : Fin 8) (b : LaBundle) (s : State) : Out :=
  .next (s.laBundle e b false fun a k => accOut b.s (a.prod b k))

/-- L_ADD (R126). -/
def execLAdd (e : Fin 8) (b : LaBundle) (s : State) : Out :=
  .next (s.laBundle e b false fun a k => accOut b.s (a.av k b.ad.toNat + a.dv k b.xs.toNat * 65536))

/-- L_SUB (R126). -/
def execLSub (e : Fin 8) (b : LaBundle) (s : State) : Out :=
  .next (s.laBundle e b false fun a k => accOut b.s (a.av k b.ad.toNat - a.dv k b.xs.toNat * 65536))

/-- L_LDA (R126). -/
def execLLda (e : Fin 8) (b : LaBundle) (s : State) : Out :=
  .next (s.laBundle e b false fun a k => { acc := some (a.dv k b.xs.toNat * 65536) })

/-- L_RND (R128): half up into D[XS], with wrap or saturation. -/
def execLRnd (e : Fin 8) (b : LaBundle) (s : State) : Out :=
  .next (s.laBundle e b true fun a k =>
    let (v, ov, sv) := fit 16 b.s (rnd16 (a.av k b.ad.toNat))
    { d := some v, ov := ov, sv := sv })

/-- L_SHL (R126). -/
def execLShl (e : Fin 8) (b : LaBundle) (s : State) : Out :=
  .next (s.laBundle e b false fun a k => accOut b.s (a.av k b.ad.toNat * 2 ^ (b.xs.toNat + 1)))

/-- L_SHR (R126): floor. -/
def execLShr (e : Fin 8) (b : LaBundle) (s : State) : Out :=
  .next (s.laBundle e b false fun a k => { acc := some (a.av k b.ad.toNat / 2 ^ (b.xs.toNat + 1)) })

/-- L_CLIP (R126): between D[4+YS] and D[XS], the lower limit winning; CLP tells whether it changed. -/
def execLClip (e : Fin 8) (b : LaBundle) (s : State) : Out :=
  .next (s.laBundle e b false fun a k =>
    let v := a.av k b.ad.toNat
    let r := max (min v (a.dv k b.xs.toNat * 65536)) (a.dv k (4 + b.ys.toNat) * 65536)
    { acc := some r, clp := some (r != v) })

/-- L_ABS (R126). -/
def execLAbs (e : Fin 8) (b : LaBundle) (s : State) : Out :=
  .next (s.laBundle e b false fun a k => accOut b.s (a.av k b.ad.toNat).natAbs)

/-- L_NEG (R126). -/
def execLNeg (e : Fin 8) (b : LaBundle) (s : State) : Out :=
  .next (s.laBundle e b false fun a k => accOut b.s (-a.av k b.ad.toNat))

/-- L_ACC (R126): XS names the accumulator added; its bit 2 set is UNDEF (R145). -/
def execLAcc (e : Fin 8) (b : LaBundle) (s : State) : Out :=
  .next (if 4 ≤ b.xs.toNat then s.bundle e fun _ _ => .error LeExc.undef
    else s.laBundle e b false fun a k => accOut b.s (a.av k b.ad.toNat + a.av k b.xs.toNat))

/-- L_SUM (R126): the sum over the enabled lanes, into the lowest one. -/
def execLSum (e : Fin 8) (b : LaBundle) (s : State) : Out :=
  .next (s.laBundle e b false fun a k =>
    if k = a.low then accOut b.s (a.lanes.foldl (fun t j => t + a.av j b.ad.toNat) 0) else {})

/-- L_MOVD (R126). -/
def execLMovd (e : Fin 8) (b : LaBundle) (s : State) : Out :=
  .next (s.laBundle e b true fun a k => { d := some (a.dv k (4 + b.ys.toNat)) })

/-! ### Control bundles (R130) -/

/-- L_REP (R131): fills the repeat cache, taking over its tag, and repeats `len` + 1 bundles COUNT or LC times; 0 times skips the
body. The fill reads the body once (R256). -/
def execLRep (e : Fin 8) (src : Bool) (count : BitVec 10) (len : BitVec 5) (s : State) : Out :=
  .next (s.lcAlone e fun a t =>
    let n := if src then a.lc else count.toNat
    let l := len.toNat + 1
    let r : Rep := { start := a.pc + 1, len := l, left := n, idx := 0, fill := (l + 3) / 4, fillFrom := t.tbc }
    if 8191 < a.pc + l then .error LeExc.pcrange
    else if n = 0 then .ok ({ a with pc := a.pc + 1 + l, cyc := a.cyc + 1 }, t)
    else if t.bodyBad e r then .error LeExc.ecc
    else .ok ({ a with rep := some r, cyc := a.cyc + 1 }, t.fillCache e a.set r))

/-- Does the condition of BRL hold (R130)? The lowest enabled lane is tested. -/
def Act.cond (a : Act) (cond : BitVec 3) (ad : BitVec 2) : Bool :=
  let v := a.av a.low ad.toNat
  match cond.toNat with
  | 0 => true
  | 1 => a.lc != 0
  | 2 => v < 0
  | 3 => v == 0
  | 4 => bitOf a.clp a.low
  | 5 => bitOf a.ov a.low
  | _ => 0 ≤ v

/-- L_BRL (R130, R133): two delay slots, then the target or the next address; COND 0b001 counts LC down. DISP is signed, and a
target below bundle 0 raises PCRANGE as one beyond 8,191 does (assumption 13). -/
def execLBrl (e : Fin 8) (cond : BitVec 3) (ad : BitVec 2) (disp : BitVec 14) (s : State) : Out :=
  .next (if cond = 7 then s.bundle e fun _ _ => .error LeExc.undef
    else s.lcAlone e fun a t =>
      let p : Int := if a.cond cond ad then a.pc + disp.toInt else a.pc + 3
      if p < 0 ∨ 8191 < p then .error LeExc.pcrange
      else
        let a := if cond = 1 then { a with lc := (a.lc + 65535) % 65536 } else a
        .ok ({ a with ctl := some (some p.toNat, 2), pc := a.pc + 1, cyc := a.cyc + 1 }, t))

/-- L_ACT (R133): ends the activation after two delay slots; the time from ready to ACT is recorded (R272). -/
def execLAct (e : Fin 8) (s : State) : Out :=
  .next (s.lcAlone e fun a t =>
    if 8191 < a.pc + 2 then .error LeExc.pcrange
    else .ok ({ a with ctl := some (none, 2), actAt := some t.tbc, pc := a.pc + 1, cyc := a.cyc + 1 }, t))

/-- L_LDX (R130). -/
def execLLdx (e : Fin 8) (ix : BitVec 3) (v : BitVec 16) (s : State) : Out :=
  .next (s.lcBundle e fun a => .ok { a with ix := tset 0 ix.toNat v.toNat a.ix })

/-- L_CFX (R124, R130): MODE 0b11 is not allowed. -/
def execLCfx (e : Fin 8) (ix : BitVec 3) (bc : Bool) (mode : BitVec 2) (step : BitVec 8) (len : BitVec 10) (s : State) :
    Out :=
  .next (s.lcBundle e fun a =>
    let c := b2n bc * 2 ^ 20 + mode.toNat * 2 ^ 18 + step.toNat * 2 ^ 10 + len.toNat
    if mode = 3 then .error LeExc.undef else .ok { a with ixcfg := tset 0 ix.toNat c a.ixcfg })

/-- L_LDLC (R130). -/
def execLLdlc (e : Fin 8) (v : BitVec 16) (s : State) : Out := .next (s.lcBundle e fun a => .ok { a with lc := v.toNat })

/-- L_SETLM (R122): mask 0 is UNDEF. -/
def execLSetlm (e : Fin 8) (m : BitVec 4) (s : State) : Out :=
  .next (s.lcBundle e fun a => if m = 0 then .error LeExc.undef else .ok { a with lm := m.toNat })

/-- L_LDMP (R130). -/
def execLLdmp (e : Fin 8) (v : BitVec 8) (s : State) : Out := .next (s.lcBundle e fun a => .ok { a with mp := v.toNat })

/-- L_MOVI (R130): visible as an arithmetic result (R135). -/
def execLMovi (e : Fin 8) (d : BitVec 3) (v : BitVec 16) (s : State) : Out :=
  .next (s.lcBundle e fun a => .ok (forL a.lanes (fun k x => x.send 1 k d.toNat v.toInt) a))

/-- L_CLRA (R130). -/
def execLClra (e : Fin 8) (ad : BitVec 2) (s : State) : Out :=
  .next (s.lcBundle e fun a => .ok (forL a.lanes (fun k x => x.send 0 k ad.toNat 0) a))

/-- L_CLRS (R130). -/
def execLClrs (e : Fin 8) (s : State) : Out :=
  .next (s.lcBundle e fun a => .ok (forL a.lanes (fun k x => (x.send 2 k 0 0).send 3 k 0 0) a))

/-! ### Layouts (R125, R130) -/

/-- The fields of an arithmetic bundle (R125). -/
def laOf (w : Word) : LaBundle :=
  { s := w.getLsbD 23, ad := BitVec.ofNat 2 (bitsOf w 21 2), xs := BitVec.ofNat 3 (bitsOf w 18 3),
    ys := BitVec.ofNat 2 (bitsOf w 16 2), cen := w.getLsbD 15, cd := BitVec.ofNat 2 (bitsOf w 13 2),
    cix := BitVec.ofNat 2 (bitsOf w 11 2), cinc := w.getLsbD 10, sk := BitVec.ofNat 2 (bitsOf w 8 2),
    sd := BitVec.ofNat 3 (bitsOf w 5 3), six := BitVec.ofNat 2 (bitsOf w 3 2), sinc := w.getLsbD 2, pen := w.getLsbD 1,
    pd := w.getLsbD 0 }

/-- The word of an arithmetic bundle with operation `aop` (R125). -/
def encLA (aop : Nat) (b : LaBundle) : Word :=
  BitVec.ofNat 32 (0xE * 2 ^ 28 + aop * 2 ^ 24 + b2n b.s * 2 ^ 23 + b.ad.toNat * 2 ^ 21 + b.xs.toNat * 2 ^ 18 +
    b.ys.toNat * 2 ^ 16 + b2n b.cen * 2 ^ 15 + b.cd.toNat * 2 ^ 13 + b.cix.toNat * 2 ^ 11 + b2n b.cinc * 2 ^ 10 +
    b.sk.toNat * 2 ^ 8 + b.sd.toNat * 2 ^ 5 + b.six.toNat * 2 ^ 3 + b2n b.sinc * 2 ^ 2 + b2n b.pen * 2 + b2n b.pd)

/-- Is the arithmetic bundle one that R125 and R126 allow? ACC takes an accumulator as XS. -/
def listedLA (w : Word) : Bool := (laOf w).sk != 3 && (bitsOf w 24 4 != 0xD || (laOf w).xs.toNat < 4)

/-- Is the control bundle one that R122, R124 and R130 list, with its reserved bits 0? -/
def listedLC (w : Word) : Bool :=
  match bitsOf w 24 4 with
  | 0x0 => bitsOf w 0 8 == 0
  | 0x1 => bitsOf w 21 3 != 7 && bitsOf w 14 5 == 0
  | 0x2 | 0xA => bitsOf w 0 24 == 0
  | 0x3 | 0x8 => bitsOf w 16 5 == 0
  | 0x4 => bitsOf w 18 2 != 3
  | 0x5 => bitsOf w 16 8 == 0
  | 0x6 => bitsOf w 4 20 == 0 && bitsOf w 0 4 != 0
  | 0x7 => bitsOf w 8 16 == 0
  | 0x9 => bitsOf w 0 22 == 0
  | _ => false

/-- Is the word a listed bundle of the L profile (R97, R98)? -/
def listedL (w : Word) : Bool :=
  match bitsOf w 28 4 with
  | 0xE => listedLA w
  | 0xF => listedLC w
  | _ => false

/-- UNDEF_BUNDLE: a C-profile or unlisted word raises UNDEF (R97, R98, R145). A listed bundle is no such word: its own row is
its meaning, and this one then does nothing. -/
def execUndefBundle (f : LeFetch) (s : State) : Out :=
  .next (if listedL f.w then s else s.bundle f.e fun _ _ => .error LeExc.undef)

end Sys2Proof.Machine
end

