-- ==== Sys2Proof/Machine/StdForm.lean ====
section
/-!
DEFINITION. The standard loop form (R279 to R302): one sample of the law, its sections, compensation, learning and load
check. The sample acts as a whole when its activation starts (assumption 12). Quantities are fractions of full scale in
units of 2^-62 unless a name says otherwise.
-/

set_option Elab.async false

namespace Sys2Proof.Machine

/-- A Q15 code as a quantity, and back: rounded half up, not clamped (R128). -/
def q15 (v : Int) : Int := v * 2 ^ 47
def toQ15 (v : Int) : Int := (v + 2 ^ 46) / 2 ^ 47
def sat16 (v : Int) : Int := clampI (-32768) 32767 v

/-- Adds to a sum that saturates as acc40, remembering a saturation (R281). -/
def accAdd (p : Int × Bool) (x : Int) : Int × Bool :=
  let r := p.1 + x
  let c := clampI (-(2 ^ 70)) (2 ^ 70 - 2 ^ 31) r
  (c, p.2 || c != r)

def accSum (l : List Int) : Int × Bool := l.foldl accAdd (0, false)

/-- max(min(v, hi), lo): the lower limit wins (R126, R281). -/
def clip2 (v lo hi : Int) : Int := max (min v hi) lo

/-- Palette word `k` of the activation's bank, signed, and its shift fields (R279). -/
def State.pal (s : State) (e : Nat) (a : Act) (k : Nat) : Int :=
  (s.half (leCoef e (64 * (a.slot % 64) + (if a.bank then 32 else 0) + k))).toInt
def State.palSh (s : State) (e : Nat) (a : Act) (lo : Nat) : Nat := min 8 (ofSigned 16 (s.pal e a 9) / 2 ^ lo % 16)

/-- Stage bypass bit (R275). -/
def State.byp (s : State) (g i : Nat) : Bool := bitOf (s.dsc g 36) i

/-- I of the slot, 2^31 = 1.0, as a quantity. -/
def State.integ (s : State) (g : Nat) : Int := toSigned 32 (s.dsc2 g 66) * 2 ^ 31
def State.setInteg (g : Nat) (v : Int) (s : State) : State := s.setDsc2 g 66 (v / 2 ^ 31)

/-- A bit of STAT, descriptor word 64 (R304). -/
def State.setStat (g i : Nat) (b : Bool) (s : State) : State := s.setDsc g 64 (withBit (s.dsc g 64) i b)

/-- The mailbox word of the activation's page. -/
def Act.mail (a : Act) (w : Nat) : BitVec 16 := tget 0 a.page w

/-- One half of import `k`. -/
def Act.imp (a : Act) (k : Nat) (hi : Bool) : Int := (a.mail (128 + 2 * (k % 64) + b2n hi)).toInt

/-- The measurement before its sections, and whether its channel is unavailable (R282). -/
def State.stdMeas (s : State) (a : Act) : Int × Bool :=
  let w := s.dsc a.slot 28
  if bitOf w 15 then (a.imp (w % 64) (bitOf w 14), false)
  else ((a.mail (8 * (w % 16))).toInt, !(a.mail (8 * (w % 16) + 6)).getLsbD 1)

/-- The position x (R297). -/
def State.stdPos (s : State) (a : Act) : Int :=
  let w := s.dsc a.slot 29
  let i := if bitOf w 15 then 128 + 2 * (w % 64) else 8 * (w % 16) + 4
  toSigned 32 ((a.mail i).toNat + (a.mail (i + 1)).toNat * 65536)

/-! ### Compensation tables (R296 to R298) -/

def State.tsEntry (s : State) (e t i : Nat) : Int := (s.half (leState e (0x3F00 + 1024 * (t % 16) + i))).toInt

/-- Friction table `t` at x, clamped at the ends. -/
def State.fricAt (s : State) (e g t : Nat) (x : Int) : Int :=
  let sh := s.dsc g 42 / 256 % 16
  let dx := toSigned 32 (ofSigned 32 (x - s.dsc2 g 44))
  if dx ≤ 0 then s.tsEntry e t 0
  else if 1023 * 2 ^ sh ≤ dx then s.tsEntry e t 1023
  else
    let i := (dx / 2 ^ sh).toNat
    let f := dx % 2 ^ sh * 2 ^ (15 - sh)
    s.tsEntry e t i + (f * (s.tsEntry e t (i + 1) - s.tsEntry e t i) + 16384) / 32768

/-- The cogging table at x, periodic. -/
def State.cogAt (s : State) (e g : Nat) (x : Int) : Int :=
  let t := s.dsc g 43 % 16
  let sh := s.dsc g 43 / 256 % 16
  let q := (x - s.dsc2 g 46) % (1024 * 2 ^ sh)
  let i := (q / 2 ^ sh).toNat
  let f := q % 2 ^ sh * 2 ^ (15 - sh)
  s.tsEntry e t i + (f * (s.tsEntry e t ((i + 1) % 1024) - s.tsEntry e t i) + 16384) / 32768

/-- The friction table that v selects: 0 the positive one, 1 the negative one (R298). -/
def State.fricSide (s : State) (g : Nat) : Option Nat :=
  let v := s.dscS g 25
  let db := s.dscS g 48
  if db < v then some 0 else if v < -db then some 1 else none

/-- comp of R280: a bypassed or learning target contributes 0. -/
def State.stdComp (s : State) (e : Nat) (a : Act) : Int × Bool :=
  let g := a.slot
  let l := (s.slot g).learn
  let x := s.stdPos a
  let fr := if s.byp g 6 || (l.phase != 0 && !l.cogging) then 0 else
    match s.fricSide g with
    | some k => s.pal e a 14 * s.fricAt e g (s.dsc g 42 % 16 + k) x
    | none => 0
  let cg := if s.byp g 7 || (l.phase != 0 && l.cogging) then 0 else s.pal e a 15 * s.cogAt e g x
  let (t, sv) := accSum [fr * 2 ^ 32, cg * 2 ^ 32]
  (s.dscS g 71 * (t / 2 ^ 15), sv)

/-! ### Large form (R293, R294) -/

/-- Is section `j` active, and of which type? -/
def State.secType (s : State) (e g j : Nat) : Option Nat :=
  if s.byp g 9 || bitOf (s.dsc2 g 40) j then none
  else some ((s.half (leCoef e (4096 + 8 * (s.dsc g 38 % 2048 + j) + 7))).toNat % 4)

def State.secCoef (s : State) (e g j w : Nat) : Int := (s.half (leCoef e (4096 + 8 * (s.dsc g 38 % 2048 + j) + w))).toInt

/-- Address of state word `w` of section `j`. -/
def State.secAddr (s : State) (e g j w : Nat) : Nat := leState e (0x3800 + 4 * (s.dsc g 54 % 512 + j) + w)

/-- A biquad section on a Q15 value: the result, saturation, and the state block shifted. -/
def State.biquad (e g j : Nat) (x : Int) (s : State) : (Int × Bool) × State :=
  let c := s.secCoef e g j
  let st (w : Nat) : Int := (s.half (s.secAddr e g j w)).toInt
  let (t, sv) := accSum [c 0 * x * 2 ^ 33, c 1 * st 0 * 2 ^ 33, c 2 * st 1 * 2 ^ 33, -(c 3 * st 2 * 2 ^ 33), -(c 4 * st 3 * 2 ^ 33)]
  let y := sat16 (toQ15 t)
  ((y, sv), (((s.setHalf (s.secAddr e g j 1) (BitVec.ofInt 16 (st 0))).setHalf (s.secAddr e g j 0) (BitVec.ofInt 16 x)).setHalf
    (s.secAddr e g j 3) (BitVec.ofInt 16 (st 2))).setHalf (s.secAddr e g j 2) (BitVec.ofInt 16 y))

/-- The integration of R280 with its anti-windup: the new integrator before its clip, and whether it was held. -/
def integStep (i p dI : Int) (rest : List Int) (lo hi ke : Int) : Int × Bool × Bool :=
  let (c, sv1) := accSum [i, dI]
  let (t, sv2) := accSum (p :: c :: rest)
  if (hi < t ∧ 0 < ke) ∨ (t < lo ∧ ke < 0) then (i, true, sv1 || sv2) else (c, false, sv1 || sv2)

/-- An outer PI section on the set-point (R293). -/
def State.outerPi (e g j : Nat) (a : Act) (r : Int) (s : State) : (Int × Bool) × State :=
  let c := s.secCoef e g j
  let w4 := ofSigned 16 (c 4)
  let w5 := ofSigned 16 (c 5)
  let m := q15 (a.imp (w4 % 64) (bitOf w4 15))
  let hi := q15 (c 2)
  let lo := q15 (c 3)
  let i := toSigned 32 ((s.half (s.secAddr e g j 0)).toNat + (s.half (s.secAddr e g j 1)).toNat * 65536) * 2 ^ 31
  let eo := r - m
  let p := c 0 * 2 ^ min 8 (w5 / 16 % 16) * eo / 2 ^ 15
  let (ic, _, sv) := integStep i p (c 1 * 2 ^ min 8 (w5 % 16) * eo / 2 ^ 15) [] lo hi (c 1 * eo)
  let i' := clip2 (ic / 2 ^ 31 * 2 ^ 31) lo hi
  let (t, sv2) := accSum [p, i']
  let n := ofSigned 32 (i' / 2 ^ 31)
  ((clip2 (t / 2 ^ 31 * 2 ^ 31) lo hi, sv || sv2),
    (s.setHalf (s.secAddr e g j 0) (BitVec.ofNat 16 n)).setHalf (s.secAddr e g j 1) (BitVec.ofNat 16 (n / 65536)))

/-- Runs the active sections of type `ty` in index order: 2 outer PI, 1 measurement, 0 output. A section of type 3 sets
the slot's configuration fault source once per enable. -/
def State.sections (e : Nat) (a : Act) (ty : Nat) (v : Int) (s : State) : (Int × Bool) × State :=
  (List.range (min 32 (s.dsc a.slot 39 % 64))).foldl (fun (acc : (Int × Bool) × State) j =>
    let ((v, sv), s) := acc
    match s.secType e a.slot j with
    | some 3 =>
      if ty = 2 ∧ !(s.slot a.slot).typeFault then
        ((v, sv), (s.modSlot a.slot fun x => { x with typeFault := true }).raise (64 + e) a.slot)
      else ((v, sv), s)
    | some t =>
      if t ≠ ty then ((v, sv), s)
      else
        let ((v', sv'), s') := if ty = 2 then s.outerPi e a.slot j a v else s.biquad e a.slot j (sat16 v)
        ((v', sv || sv'), s')
    | none => ((v, sv), s)) ((v, false), s)

/-! ### Learning (R299, R300) -/

/-- A learn ends, without changing a table when `code` is not 0. -/
def State.learnStop (g code : Nat) (s : State) : State :=
  let s := (s.setStat g 8 false).setStat g 9 false
  let s := if code = 0 then s else s.setDsc g 64 (s.dsc g 64 % 4096 + 4096 * code)
  s.modSlot g fun x => { x with learn := {}, samples := 0 }

/-- 8 × 2^LD_SH, LD_SH being 4 to 15. -/
def State.ldSpan (s : State) (g : Nat) : Nat := 8 * 2 ^ max 4 (s.dsc g 49 % 16)

/-- The tables of a learn: entries are numbered 1,024 × table + entry. -/
def learnTables (l : Learn) : List Nat := if l.cogging then [0] else [0, 1]

/-- Address of word `w` of entry `i` in the learn buffer of engine `e`: the sum in words 0 and 1, the count in word 2; the spec
gives the buffer's area and the sizes, and no order (R273, R299, assumption 12). -/
def learnAddr (e i w : Nat) : Nat := leState e (0x2000 + 3 * i + w)

/-- Sum and count of an entry. -/
def State.learnSum (s : State) (e i : Nat) : Int :=
  toSigned 32 ((s.half (learnAddr e i 0)).toNat + (s.half (learnAddr e i 1)).toNat * 65536)
def State.learnCount (s : State) (e i : Nat) : Nat := (s.half (learnAddr e i 2)).toNat

/-- Carries out the commands in LCMD and writes 0 to it (R299). -/
def State.learnCmd (g : Nat) (s : State) : State :=
  let c := s.dsc g 53
  if c = 0 then s else
  let s := s.setDsc g 53 0
  let l := (s.slot g).learn
  let other := (List.range 64).any fun j => 64 * (g / 64) + j != g && (s.slot (64 * (g / 64) + j)).learn.phase != 0
  let s := if bitOf c 0 then
      (if other then s.setDsc g 64 (s.dsc g 64 % 4096 + 4096)
       else (s.modSlot g fun x => { x with learn := { phase := 1, cogging := c / 256 % 4 == 1 } }).setDsc g 73 0)
    else s
  let s := if bitOf c 1 ∧ (l.phase = 1 ∨ l.phase = 2) then
      (if s.dsc g 73 < s.ldSpan g then s.learnStop g 2
       else if (learnTables l).any fun t => (List.range 1024).all fun i => s.learnCount (g / 64) (1024 * t + i) == 0 then s.learnStop g 3
       else ((s.setStat g 8 false).setStat g 9 true).modSlot g fun x => { x with learn := { x.learn with phase := 3 } })
    else s
  let s := if bitOf c 2 ∧ l.phase ≠ 0 then s.learnStop g 5 else s
  let s := if bitOf c 3 then s.modSlot g fun x => { x with restoring := true } else s
  if bitOf c 4 then s.setDsc g 64 ((s.dsc g 64 % 4096 &&& 0xF7A : Nat) : Int) else s

/-- The clearing phase: 64 words of the learn buffer per activation. -/
def State.learnClear (e g : Nat) (s : State) : State :=
  let l := (s.slot g).learn
  if l.phase ≠ 1 then s else
  let s := forN 64 (fun i s => s.setHalf (leState e (0x2000 + l.cleared + i)) 0) s
  if l.cleared + 64 < 0x1800 then s.modSlot g fun x => { x with learn := { x.learn with cleared := l.cleared + 64 } }
  else (s.modSlot g fun x => { x with learn := { x.learn with phase := 2, cleared := 0x1800 } }).setStat g 8 true

/-- The entry nearest to the position, in the buffer of its table (R299). -/
def State.learnEntry (s : State) (g : Nat) (a : Act) : Option Nat :=
  let x := s.stdPos a
  if (s.slot g).learn.cogging then
    let sh := s.dsc g 43 / 256 % 16
    let q := (x - s.dsc2 g 46) % (1024 * 2 ^ sh)
    some (((2 * q + 2 ^ sh) / (2 * 2 ^ sh)).toNat % 1024)
  else
    let sh := s.dsc g 42 / 256 % 16
    let dx := toSigned 32 (ofSigned 32 (x - s.dsc2 g 44))
    (s.fricSide g).map fun k => 1024 * k + (clampI 0 1023 ((2 * dx + 2 ^ sh) / (2 * 2 ^ sh))).toNat

/-- Accumulates p + I + DST, as a Q15 code, into an entry; a count that is full ignores it. LRN_N counts the samples that an entry
takes (R275). -/
def State.learnAdd (e g : Nat) (a : Act) (v : Int) (s : State) : State :=
  match s.learnEntry g a with
  | none => s
  | some i =>
    let n := s.learnCount e i
    if 65535 ≤ n then s
    else
      let t := ofSigned 32 (s.learnSum e i + v)
      (((s.setHalf (learnAddr e i 0) (BitVec.ofNat 16 t)).setHalf (learnAddr e i 1) (BitVec.ofNat 16 (t / 65536))).setHalf
        (learnAddr e i 2) (BitVec.ofNat 16 (n + 1))).setDsc g 73 (min 65535 (s.dsc g 73 + 1) : Nat)

/-- The mean of a counted entry, rounded half up. -/
def State.learnMean (s : State) (e i : Nat) : Int :=
  let n : Int := (s.learnCount e i : Nat)
  if n = 0 then 0 else (2 * s.learnSum e i + n) / (2 * n)

/-- The value an entry of table `t` takes: its mean, or interpolation between the nearest counted entries, around the
ends for cogging and copied there for friction. -/
def State.learnValue (s : State) (e : Nat) (cogging : Bool) (t i : Nat) : Int :=
  let has (k : Nat) : Bool := s.learnCount e (1024 * t + k) != 0
  if has i then s.learnMean e (1024 * t + i) else
  let val (k : Nat) : Int := s.learnMean e (1024 * t + k)
  let down := (List.range 1024).find? fun d => if cogging then has ((i + 1024 - d) % 1024) else d ≤ i && has (i - d)
  let up := (List.range 1024).find? fun d => if cogging then has ((i + d) % 1024) else i + d < 1024 && has (i + d)
  match down, up with
  | some d, some u =>
    let lo := val ((i + 1024 - d) % 1024)
    let hi := val ((i + u) % 1024)
    lo + (2 * (d : Int) * (hi - lo) + (d + u : Nat)) / (2 * (d + u : Nat))
  | some d, none => val (i - d)
  | none, some u => val (i + u)
  | none, none => 0

/-- The finishing phase: 8 entries per activation; at its end LRN_LOAD, G and the flags, the compensation coming back with the next
activation (R299). -/
def State.learnFinish (e g : Nat) (s : State) : State :=
  let l := (s.slot g).learn
  if l.phase ≠ 3 then s else
  let base := if l.cogging then s.dsc g 43 % 16 else s.dsc g 42 % 16
  let total := 1024 * (learnTables l).length
  let s := forN 8 (fun k s =>
    let i := l.next + k
    s.setHalf (leState e (0x3F00 + 1024 * ((base + i / 1024) % 16) + i % 1024)) (BitVec.ofInt 16 (s.learnValue e l.cogging (i / 1024) (i % 1024)))) s
  if l.next + 8 < total then s.modSlot g fun x => { x with learn := { x.learn with next := l.next + 8 } }
  else
    let m := toSigned 32 (s.dsc2 g 74)
    (((s.setDsc g 72 (sat16 ((m + 32768) / 65536))).setDsc g 71 0x7FFF).learnStop g 0).setStat g 7 true

/-! ### Load deviation (R301, R302) -/

/-- ceil(32,767 ÷ FADE_N); word 52 reads 0 while EXPERT_EN is 0 (R278). -/
def State.fadeStep (s : State) (e g : Nat) : Bool × Int :=
  let w := if s.flag (F.LE_CTRL_EXPERT_EN e) then s.dsc g 52 else 0
  let n := max 1 (w % 32768)
  (bitOf w 15, ((32767 + n - 1) / n : Nat))

/-- LOAD_OUT, TBL_OFFLOAD, fading and the restore of G. -/
def State.loadCheck (e g : Nat) (s : State) : State :=
  let x := s.slot g
  let m : Int := toSigned 32 (s.dsc2 g 74)
  let l := s.dscS g 72 * 65536
  let lo : Int := s.dsc g 50
  let hi : Int := s.dsc g 51
  let out := decide (l ≠ 0 ∧ x.learn.phase = 0 ∧ s.ldSpan g ≤ x.samples ∧ lo < hi) && (decide (m * 256 < lo * l) || decide (hi * l < m * 256))
  let s := if out && !bitOf (s.dsc g 64) 1 then s.setStat g 0 true else s
  let s := s.setStat g 1 out
  let (fade, st) := s.fadeStep e g
  let gv := s.dscS g 71
  let s := if x.restoring then
      (let v := min 0x7FFF (gv + st)
       (s.setDsc g 71 v).modSlot g fun y => { y with restoring := v != 0x7FFF })
    else if fade && out then s.setDsc g 71 (max 0 (gv - st)) else s
  s.modSlot g fun y => { y with samples := y.samples + 1 }

/-! ### What the sample reads (R245) -/

/-- Entries of the tables that the compensation reads at the position: table and entry. -/
def State.tableReads (s : State) (g : Nat) (a : Act) : List (Nat × Nat) :=
  let x := s.stdPos a
  let fr := if s.byp g 6 then [] else match s.fricSide g with
    | none => []
    | some k =>
      let t := s.dsc g 42 % 16 + k
      let sh := s.dsc g 42 / 256 % 16
      let dx := toSigned 32 (ofSigned 32 (x - s.dsc2 g 44))
      if dx ≤ 0 then [(t, 0)]
      else if 1023 * 2 ^ sh ≤ dx then [(t, 1023)]
      else [(t, (dx / 2 ^ sh).toNat), (t, (dx / 2 ^ sh).toNat + 1)]
  let cg := if s.byp g 7 then [] else
    let sh := s.dsc g 43 / 256 % 16
    let i := ((x - s.dsc2 g 46) % (1024 * 2 ^ sh) / 2 ^ sh).toNat
    [(s.dsc g 43 % 16, i), (s.dsc g 43 % 16, (i + 1) % 1024)]
  fr ++ cg

/-- The lines that a sample of the standard form reads: descriptor, palette bank, coefficients and state of its sections, table
entries. -/
def State.stdReads (s : State) (e : Nat) (a : Act) : List Nat :=
  let g := a.slot
  let secs := if s.byp g 9 then [] else
    (List.range (min 32 (s.dsc g 39 % 64))).filter fun j => !bitOf (s.dsc2 g 40) j
  let desc := (List.range 32).map fun i => descWord g (4 * i)
  let pal := (List.range 8).map fun i => leCoef e (64 * (g % 64) + (if a.bank then 32 else 0) + 4 * i)
  let sec := secs.flatMap fun j =>
    let c := leCoef e (4096 + 8 * (s.dsc g 38 % 2048 + j))
    [c, c + 8, s.secAddr e g j 0]
  let tab := (s.tableReads g a).map fun p => leState e (0x3F00 + 1024 * (p.1 % 16) + p.2)
  ((desc ++ pal ++ sec ++ tab).map lineOf).eraseDups

/-- The mailbox words of the sample: measurement and position. -/
def State.stdMail (s : State) (a : Act) : List Nat :=
  let w := s.dsc a.slot 28
  let v := s.dsc a.slot 29
  let m := if bitOf w 15 then [128 + 2 * (w % 64) + b2n (bitOf w 14)] else [8 * (w % 16), 8 * (w % 16) + 6]
  let p := if bitOf v 15 then 128 + 2 * (v % 64) else 8 * (v % 16) + 4
  m ++ if s.byp a.slot 6 && s.byp a.slot 7 then [] else [p, p + 1]

/-! ### The sample -/

/-- Stages the output u (R283). -/
def State.stdOut (s : State) (u : Int) (a : Act) : Act :=
  let g := a.slot
  let ch := s.dsc g 32 % 16
  let k := s.dsc g 32 / 2 ^ 14
  let put (i : Nat) (v : Int) (a : Act) : Act := { a with staged := tset none (8 * ch + i) (some (BitVec.ofInt 16 v)) a.staged }
  if k = 0 then put 0 u a
  else if k = 1 then
    let r := u * (s.dsc2 g 33 % 2 ^ 31 : Nat) / 128
    put 1 r (put 2 (r / 65536) (put 3 (r / 2 ^ 32 % 256) a))
  else a

/-- A held or safe sample: the value clipped to the limits; a swap clamps I at once (R282, R292). -/
def State.stdHeld (e : Nat) (safe swap : Bool) (a : Act) (s : State) : Act × State :=
  let g := a.slot
  let hi := s.pal e a 10
  let lo := s.pal e a 11
  let v := if safe then s.dscS g 31 else s.dscS g 70
  let u := clip2 v lo hi
  let i := s.integ g
  let i' := clip2 i (q15 lo) (q15 hi)
  let s := if swap && i' != i then (s.setInteg g i').setStat g 2 true else s
  let s := s.modSlot g fun x => { x with swapWait := x.swapWait || (swap && bitOf (s.dsc g 37) 0) }
  let s := if safe then s.setDsc g 70 u else s
  let s := ((s.setStat g 3 false).setStat g 4 (u != v)).setStat g 5 false
  (s.stdOut u a, s)

/-- The terms of the law (R280): proportional, derivative, feed-forward, compensation, offset, the error, and whether a
sum saturated. -/
structure LawTerms where
  p : Int
  dt : Int
  ff : Int
  comp : Int
  ofs : Int
  err : Int
  sv : Bool

/-- The terms of the law on the filtered measurement `y` and set-point `r`, `v` and `af` being words 25 and 26, and the
new derivative words 68 and 69; `back`: the first available sample (R280 to R284). -/
def State.lawSums (s : State) (e : Nat) (y r v af : Int) (back : Bool) (a : Act) : LawTerms × Int × Int :=
  let g := a.slot
  let pal := s.pal e a
  let (pin, sv1) := accSum [pal 4 * r / 2 ^ 14, -y]
  let (d, sv2) := accSum [pal 5 * r / 2 ^ 14, -y]
  let dq := sat16 (toQ15 d)
  let prev := if back then dq else s.dscS g 69
  let (dst, sv3) := accSum [pal 3 * s.dscS g 68 * 2 ^ 32, pal 2 * 2 ^ s.palSh e a 4 * (d - q15 prev) / 2 ^ 15]
  let dstq := sat16 (toQ15 dst)
  let (ffs, sv4) := accSum [if s.byp g 3 then 0 else pal 6 * r / 2 ^ 15,
    if s.byp g 4 then 0 else pal 7 * v * 2 ^ 32, if s.byp g 5 then 0 else pal 8 * af * 2 ^ 32]
  let (comp, sv5) := s.stdComp e a
  ({ p := if s.byp g 0 then 0 else pal 0 * 2 ^ s.palSh e a 12 * pin / 2 ^ 15
     dt := if s.byp g 2 then 0 else q15 dstq
     ff := 2 ^ s.palSh e a 0 * ffs, comp := comp, ofs := q15 (pal 13), err := r - y
     sv := sv1 || sv2 || sv3 || sv4 || sv5 }, dstq, dq)

/-- The terms of the law for measurement `y0`: its sections, the outer PI sections on the set-point, the sums. -/
def State.lawTerms (e : Nat) (y0 : Int) (back : Bool) (a : Act) (s : State) : LawTerms × State :=
  let g := a.slot
  let v := s.dscS g 25
  let af := s.dscS g 26
  let ((yq, svY), s) := State.sections e a 1 y0 s
  let ((r, svR), s) := State.sections e a 2 (q15 (s.dscS g 24)) s
  let x := s.lawSums e (q15 yq) r v af back a
  ({ x.1 with sv := svY || svR || x.1.sv },
    (if s.byp g 2 then s else s.setDsc g 68 x.2.1).setDsc g 69 x.2.2)

/-- The integrator of the law: its term, whether it was held, and whether a sum saturated; `pal` gives the palette words as
of the sample's start, `swap` marks the first sample of a new bank (R280, R291, R292). -/
def State.lawInteg (pal : Nat → Int) (sh : Nat) (back swap : Bool) (a : Act) (x : LawTerms) (s : State) :
    (Int × Bool × Bool) × State :=
  let g := a.slot
  let hi := q15 (pal 10)
  let lo := q15 (pal 11)
  let iOn := !s.byp g 1
  let i0 := s.integ g
  let bump := (swap || back || (s.slot g).swapWait) && bitOf (s.dsc g 37) 0
  let (rest, sv8) := accSum [x.p, x.dt, x.ff, x.comp, x.ofs]
  let i1 := if bump then (q15 (s.dscS g 70) - rest) / 2 ^ 31 * 2 ^ 31 else i0
  let i2 := if swap || bump then clip2 i1 lo hi else i1
  let s := if (swap || (s.slot g).swapWait) && i2 != i1 then s.setStat g 2 true else s
  let (ic, held, sv9) := if bump then (i2, false, false)
    else integStep i2 x.p (pal 1 * 2 ^ sh * x.err / 2 ^ 15) [x.dt, x.ff, x.comp, x.ofs] lo hi (pal 1 * x.err)
  let i3 := clip2 (ic / 2 ^ 31 * 2 ^ 31) lo hi
  ((if iOn then i3 else 0, held && iOn, sv8 || sv9), if iOn then s.setInteg g i3 else s)

/-- What the law makes of the sum `us`: output sections, rate limit, output limits; the words and status bits that follow
(R280, R301). -/
def State.lawOutput (e : Nat) (pal : Nat → Int) (us : Int) (held : Bool) (a : Act) (s : State) : (Int × Bool × Bool) × State :=
  let g := a.slot
  let ((u1, sv11), s) := State.sections e a 0 (toQ15 us) s
  let up := s.dscS g 70
  let rate := pal 12
  let u2 := if rate ≠ 0 ∧ !s.byp g 8 then clip2 u1 (up - rate) (up + rate) else u1
  let u3 := clip2 u2 (pal 11) (pal 10)
  let s := s.setDsc g 70 u3
  let m := toSigned 32 (s.dsc2 g 74)
  let s := s.setDsc2 g 74 (m + ((u3.natAbs : Int) * 65536 - m) / 2 ^ max 4 (s.dsc g 49 % 16))
  let s := ((s.setStat g 3 held).setStat g 4 (u3 != u2)).setStat g 5 (u2 != u1)
  ((u3, u3 == u2, sv11), s.modSlot g fun x => { x with swapWait := false })

/-- The law of R280 on measurement y; `back`: the first available sample, `swap`: the first sample of a new bank. -/
def State.stdLaw (e : Nat) (y0 : Int) (back swap learnOk : Bool) (a : Act) (s : State) : Act × State :=
  let g := a.slot
  let pal := s.pal e a
  let (x, s) := s.lawTerms e y0 back a
  let ((it, held, svI), s) := s.lawInteg pal (s.palSh e a 8) back swap a x
  let (us, sv10) := accSum [x.p, it, x.dt, x.ff, x.comp, x.ofs]
  let ((u, free, svO), s) := s.lawOutput e pal us held a
  let s := if (s.slot g).learn.phase = 2 && learnOk && free then
      s.learnAdd e g a (sat16 (toQ15 (accSum [x.p, it, x.dt]).1)) else s
  (s.stdOut u { a with sv := if x.sv || svI || sv10 || svO then 1 else a.sv }, s)

/-- One sample of the standard form. -/
def State.stdSample (e : Nat) (a : Act) (s : State) : Act × State :=
  let g := a.slot
  let s := (s.learnCmd g).learnClear e g
  let swap := a.bank != (s.slot g).lastBank
  let s := if swap && (s.slot g).learn.phase != 0 then s.learnStop g 4 else s
  let (y, unav) := s.stdMeas a
  let back := (s.slot g).wasUnav && !unav
  let s := s.modSlot g fun x => { x with lastBank := a.bank, wasUnav := unav }
  let s := ((s.setStat g 11 a.bank).setStat g 6 unav).setStat g 10 false
  let pol := s.dsc g 30 % 4
  let (a, s) :=
    if unav ∧ pol ≠ 1 then s.stdHeld e (pol == 2) swap a
    else s.stdLaw e (if unav then s.dscS g 31 else y) back swap (!unav) a
  let s := (s.loadCheck e g).learnFinish e g
  (a, forN 20 (fun i s => s.setDsc g (76 + i) 0) s)

end Sys2Proof.Machine
end

