-- ==== Sys2Proof/Machine/LoopSlots.lean ====
section
/-!
DEFINITION. Loop slots: enabling (R269, R276), ready instants, palettes and overruns (R257, R267, R268, R287 to R289),
starting and ending activations (R258 to R260, R266), fabric writes and the scrubber (R244, R245), learn commands
(R299).
-/

set_option Elab.async false

namespace Sys2Proof.Machine

/-! ### Enabling a slot (R21, R45, R166, R269, R276) -/

/-- The lock group whose ticks a slot follows; while it is stopped the slot does not activate (R45, R47). -/
def State.slotGroup (s : State) (g : Nat) : Option Nat :=
  match s.slotPins g with
  | p :: _ => (s.chan (p % 128)).member
  | [] => none

/-- Is pin `p` assigned to a writer other than slot `g`: by the program, to an enabled slot, or as the output of an enabled
STEPPER axis (R166)? -/
def State.pinTaken (s : State) (g p : Nat) : Bool :=
  (match s.scan.program with
   | some q => q.level5.any fun x => x.1 == p && x.2 != 32 + g
   | none => false) ||
  (256 ≤ p && s.axOn (p - 256) && s.axMode (p - 256) == Ax.stepper) ||
  (List.range 64).any fun j =>
    let h := 64 * (g / 64) + j
    h != g && s.flag (F.LE_SLOTCFG_EN h) && (s.slotPins h).contains p

/-- Do the checks of R21, R45, R166 and R276 pass? -/
def State.slotOk (s : State) (g : Nat) : Bool :=
  let pins := s.slotPins g
  let grp := pins.map fun p => (s.chan (p % 128)).member
  pins.all (fun p => p % 128 / 16 == g / 64) && grp.all (fun m => m == grp.headD none) && !pins.any (s.pinTaken g) &&
  s.dsc g 35 != 0 && s.dsc g 32 / 2 ^ 14 != 3 && s.dsc2 g 33 < 2 ^ 31 &&
  s.dsc g 38 % 2048 + s.dsc g 39 % 64 ≤ 1536 && s.dsc g 54 % 512 + s.dsc g 39 % 64 ≤ 448 && s.dsc g 39 % 64 ≤ 32 &&
  s.dsc g 42 % 2 == 0

/-- A committed output-window word of engine `e`. -/
def State.winWord (s : State) (e i : Nat) : BitVec 16 := tget 0 (s.engine e).window i

/-- A write of LE_SLOTCFG (R269, R272). -/
def State.slotCfgWrite (g : Nat) (v : Word) (s : State) : State :=
  let was := s.flag (F.LE_SLOTCFG_EN g)
  let s := s.plainWrite (F.LE_SLOTCFG_EN g).addr v
  if !was && v.getLsbD 31 then
    if s.slotOk g then
      let s := ((s.setFld (F.LE_SLOTSTAT_DLMISS g) 0).setFld (F.LE_SLOTSTAT_OVERRUNS g) 0).setReg (F.LE_SLOTTIME_LAST g).addr 0
      let s := s.modSlot g fun x =>
        { x with period := s.dsc g 35, enabledAt := s.tbc, lastReady := none, samples := 0, typeFault := false }
      forL (s.slotPins g) (fun p s =>
        if 128 ≤ p ∧ p < 256 then
          let q : Pin5 := { writer := 32 + g, value := (s.winWord (g / 64) (8 * (p % 16))).toInt, active := true }
          { s with out := { s.out with aout := tset none (p - 128) (some q) s.out.aout } }
        else s) s
    else (s.setFlag (F.LE_SLOTCFG_EN g) false).raise (64 + g / 64) g
  else if was && !v.getLsbD 31 then
    let s := s.slotOff g
    if (s.slot g).learn.phase ≠ 0 then s.learnStop g 5 else s
  else s

/-- SLOT_ENABLE: a write of LE_SLOTCFG with EN = 1 (R269). -/
def execSlotEnable (_o : Origin) (g : Fin 512) (v : Word) (s : State) : Out := .next (s.slotCfgWrite g (v ||| 0x80000000))

/-- SLOT_DISABLE: a write of LE_SLOTCFG with EN = 0 (R269). -/
def execSlotDisable (_o : Origin) (g : Fin 512) (v : Word) (s : State) : Out := .next (s.slotCfgWrite g (v &&& 0x7FFFFFFF))

/-! ### Ready instants -/

/-- The length of the slot's tick in TBC counts. -/
def State.slotStep (s : State) (g : Nat) : Nat :=
  match s.slotGroup g with
  | some k => 250 * s.fld (F.LG_CTRL_PERIOD k)
  | none => 250 * max 1 (s.slot g).period

/-- The slot's last tick that is at least 500 ns old (R257, R276): the group tick in which its output channel last took
part (R46), or a later one of its own period once the channel is in no group. -/
def State.slotTick (s : State) (g : Nat) : Option Nat :=
  if s.tbc < 125 then none else
  let grp := match s.slotPins g with
    | p :: _ => (s.chan (p % 128)).tickAt.filter fun t => t + 125 ≤ s.tbc
    | [] => none
  let own := (s.tbc - 125) / s.slotStep g * s.slotStep g
  if (s.slotGroup g).isSome then grp
  else match grp with
    | some t => some (max t own)
    | none => some own

/-- The slot's first tick after count `t`. -/
def State.slotNext (s : State) (g t : Nat) : Nat :=
  match s.slotGroup g with
  | some k => match (s.lg k).last with
    | some l => if t < l then l else (s.lg k).next.getD l
    | none => (s.lg k).next.getD t
  | none => (t / s.slotStep g + 1) * s.slotStep g

/-- Is an activation of the slot ready or in progress? -/
def State.slotReady (s : State) (g : Nat) : Bool := (s.engine (g / 64)).ready.any fun r => r.slot == g
def State.slotAct (s : State) (g : Nat) : Option Act := (s.engine (g / 64)).stack.find? fun a => a.slot == g

/-- An activation becomes ready: a requested bank becomes active, and the entry joins the ready list with what applies
to it (R257, R269, R287, R288). -/
def State.makeReady (g : Nat) (s : State) : State :=
  let e := g / 64
  let j := g % 64
  let req := s.fbit (F.LE_PALREQ_REQ e (j / 32)) (j % 32)
  let s := if (s.slot g).palFrom ≤ s.tbc then s.setFbit (F.LE_PALACT_ACT e (j / 32)) (j % 32) req else s
  let r : Ready := { slot := g, at_ := s.tbc, bank := s.fbit (F.LE_PALACT_ACT e (j / 32)) (j % 32),
                     prio := s.fld (F.LE_SLOTCFG_PRIO g), entry := s.fld (F.LE_SLOTCFG_ENTRY g) }
  s.modEngine e fun x => { x with ready := x.ready ++ [r] }

/-- The tick of a slot whose earlier activation has not ended: an overrun, and a runaway at the second tick (R267,
R268). -/
def State.overrun (g : Nat) (s : State) : State :=
  let e := g / 64
  let s := (s.incSat (F.LE_SLOTSTAT_OVERRUNS g)).raise (80 + e) g
  let late (s : State) : State := if s.flag (F.LE_SLOTCFG_OVR_MODE g) then s.setFlag (F.LE_SLOTSTAT_PENDING g) true else s
  match s.slotAct g with
  | some a =>
    if 1 ≤ a.ticks then
      (((s.dropAct e a.set).setFlag (F.LE_SLOTSTAT_RUNAWAY g) true).setFlag (F.LE_SLOTSTAT_PENDING g) false).makeReady g
    else late (s.modEngine e fun x =>
        { x with stack := x.stack.map fun b => if b.slot = g then { b with ticks := b.ticks + 1 } else b })
  | none => late (s.modEngine e fun x =>
        { x with ready := x.ready.map fun r => if r.slot = g then { r with ticks := r.ticks + 1 } else r })

/-- ACTIVATION_READY: 500 ns after a tick of the slot, in a mode in which slots run (R52, R257, R269). -/
def execActivationReady (g : Fin 512) (s : State) : Out :=
  .next (match s.slotTick g with
    | none => s
    | some t =>
      if !s.flag (F.LE_SLOTCFG_EN g) || !s.tasksRun || t ≤ (s.slot g).enabledAt || (s.slot g).lastReady == some t then s
      else
        let s := (s.modSlot g fun x => { x with lastReady := some t }).rampWrites g t (s.slotStep g)
        if s.slotReady g || (s.slotAct g).isSome then s.overrun g else s.makeReady g)

/-! ### Starting and ending an activation -/

/-- The rank of the ready list (R257). -/
def Ready.before (x y : Ready) : Bool :=
  x.prio < y.prio || (x.prio == y.prio && (x.at_ < y.at_ || (x.at_ == y.at_ && x.slot < y.slot)))

/-- The first entry of the ready list. -/
def firstReady (l : List Ready) : Option Ready :=
  l.foldl (fun acc r => match acc with
    | none => some r
    | some b => if r.before b then some r else some b) none

/-- The lowest free register set (R260). -/
def Engine.freeSet (x : Engine) (t : Nat) : Option Nat :=
  (List.range 3).find? fun k => !(x.stack.any fun a => a.set == k) && !(x.freeing.any fun p => p.1 == k && t < p.2)

/-- The set as an activation starts with it (R123): pointers from the descriptor, the current mailbox page (R252). -/
def State.newAct (s : State) (e set : Nat) (r : Ready) : Act :=
  let d := s.dsc r.slot
  { slot := r.slot, set := set, readyAt := r.at_, prio := r.prio, ticks := r.ticks, bank := r.bank, page := (s.engine e).page,
    pageBad := (s.engine e).pageBad, pc := r.entry,
    ix := (List.range 8).foldl (fun t j => tset 0 j (d j) t) [],
    ixcfg := (List.range 8).foldl (fun t j => tset 0 j (s.dsc2 r.slot (8 + 2 * j) % 2 ^ 21) t) [],
    kept := s.slotRetained r.slot,
    std := match s.scan.program with
      | some p => p.stdForm.contains (e, r.entry)
      | none => false }

/-- May the first ready activation `r` start: on an idle engine, as a preemption of a running one of lower priority (R259), or
at an end in place of resuming one of lower priority (R258)? -/
def State.mayStart (s : State) (e : Nat) (r : Ready) : Bool :=
  let x := s.engine e
  match x.stack with
  | [] => true
  | a :: _ => (s.flag (F.LE_CTRL_PREEMPT_EN e) || x.endAt.any fun t => r.at_ ≤ t) && decide (r.prio < a.prio)

/-- The standard form's sample: the lines it reads are checked and corrected, and it acts as a whole (R245, assumption 12). -/
def State.stdRun (e : Nat) (a : Act) (s : State) : State :=
  let l := s.stdReads e a
  if s.eccBad (leProg e a.pc) 4 || (l.any fun x => s.eccBad x 8) || (s.stdMail a).any a.pageBad.contains then
    s.leException e a LeExc.ecc
  else
    let (b, t) := (forL l (fun x t => t.leCorrect e x 8) (s.leCorrect e (leProg e a.pc) 4)).stdSample e a
    t.setRunning e b

/-- ACTIVATION_START: the first ready activation starts if it may and a set is free (R257 to R260). -/
def execActivationStart (e : Fin 8) (s : State) : Out :=
  let x := s.engine e
  .next (match firstReady x.ready, x.freeSet s.tbc with
    | some r, some k =>
      if !s.mayStart e r then s
      else
        let a := s.newAct e k r
        let now := s.tbc
        let out := match x.stack with
          | b :: l => b.switchedOut now :: l
          | [] => []
        let s := s.modEngine e fun x =>
          { x with stack := a :: out, ready := x.ready.filter (fun q => q.slot != r.slot), endAt := none,
                   freeing := x.freeing.filter fun p => now < p.2 }
        if a.std then s.stdRun e a else s
    | _, _ => s)

/-- Commits the staged words of an activation for the first tick at or after `due`; `counted`: its deadline miss stands
(R248). -/
def State.commitWindow (e due : Nat) (counted : Bool) (a : Act) (s : State) : State :=
  let s := s.modEngine e fun x =>
    { x with window := a.staged.foldl (fun w p => match p.2 with
        | some v => tset 0 p.1 v w
        | none => w) x.window }
  forN 16 (fun r s =>
    let n := 16 * e + r
    let s := match tget none a.staged (8 * r) with
      | some v => { s with out := { s.out with pend := tmod [] n (fun l => l ++ [(v.toInt, due, counted)]) s.out.pend } }
      | none => s
    if (List.range 3).any (fun j => (tlook a.staged (8 * r + 1 + j)).isSome) && s.axOn n && 2 ≤ s.axMode n && s.axState n != Ax.fault then
      let w := (s.winWord e (8 * r + 1)).toNat + (s.winWord e (8 * r + 2)).toNat * 65536 +
        (s.winWord e (8 * r + 3)).toNat % 256 * 2 ^ 32
      (s.genAdvance n).modAxis n fun x => { x with vNext := x.vNext ++ [(due, toSigned 40 w)] }
    else s) s

/-- The bits of LE_SLOTFLG that hold something: bit 10 is reserved and reads 0 (R6). -/
def slotFlgMask : Word := ~~~0x400#32

/-- Copies STAT and SEQ to LE_SLOTFLG; LOAD_OUT rising raises the table-load source (R304). -/
def State.copyFlags (g : Nat) (s : State) : State :=
  let was := s.flag (F.LE_SLOTFLG_LOAD_OUT g)
  let s := s.setReg (F.LE_SLOTFLG_SEQ g).addr (BitVec.ofNat 32 (s.dsc g 64 + s.dsc g 65 * 65536) &&& slotFlgMask)
  if !was && s.flag (F.LE_SLOTFLG_LOAD_OUT g) then s.raise (96 + g / 64) g else s

/-- What an activation that has ended leaves: its outputs for their tick, a deadline miss, times and sticky flags (R248,
R266, R272). -/
def State.finishAct (e : Nat) (a : Act) (s : State) : State :=
  let g := a.slot
  let a := a.drain
  let a := { a with staged := s.bhtStaged g a.staged }
  let s := s.bhtCommitted e g a.staged
  let at_ := a.actAt.getD s.tbc
  let tick := s.slotNext g a.readyAt
  let still := (s.slotGroup g).any fun k => (s.lg k).next.isNone
  let met := still || 2 * at_ + 125 ≤ 2 * tick
  let due := if (s.slotGroup g).isSome then at_ + 63 else if met then tick else s.slotNext g (at_ + 62)
  let s := s.commitWindow e due (!met) a
  let s := if met then s else s.incSat (F.LE_SLOTSTAT_DLMISS g)
  let t := min 65535 (2 * (at_ - a.readyAt))
  let s := (s.setFld (F.LE_SLOTTIME_LAST g) t).setFld (F.LE_SLOTTIME_MAX g) (max t (s.fld (F.LE_SLOTTIME_MAX g)))
  let s := s.stickyFlags e a
  let s := if a.std then s.setDsc g 65 ((s.dsc g 65 + 1) % 65536 : Nat) else s
  s.copyFlags g

/-! ### Memories from the fabric (R244 to R246, R254) -/

/-- A fabric write of 2, 4 or 8 bytes on its natural alignment; the output window and addresses with no memory ignore
it. -/
def State.leWrite (a : Nat) (size : Nat) (v : Nat) (s : State) : State :=
  let off := a % 0x100000
  if a % size ≠ 0 ∨ !leMemOk off ∨ 0x4FE00 ≤ off then s else s.store a size v

/-- LE_FABRIC_WRITE: `size` 0, 1, 2 for 16, 32, 64 bits at `off` of engine `e`'s window (R244). -/
def execLeFabricWrite (_o : Origin) (e : Fin 8) (off : Fin 1048576) (size : Fin 3) (v : BitVec 64) (s : State) : Out :=
  .next (s.leWrite (0x10000000 + 0x100000 * e + off) (2 * 2 ^ size.val) v.toNat)

/-- SCRUB_READ: the scrubber reads the line at `off` of engine `e`'s memories (R245). -/
def execScrubRead (e : Fin 8) (off : Fin 1048576) (s : State) : Out :=
  let a := 0x10000000 + 0x100000 * e.val + lineOf off
  .next (if !s.flag (F.LE_CTRL_SCRUB_EN e) then s
    else if s.eccBad a 8 then (s.incSat (F.LE_ECC_UNCORR e)).raise (104 + e) e 0 true
    else s.leCorrect e a 8)

/-! ### Palettes (R288, R289, R303) -/

/-- A write of LE_PALREQ: each changed bit takes effect at the slot's first ready instant at least 100 ns later, at once
while the slot is disabled. -/
def State.palReqWrite (e m : Nat) (v : Word) (s : State) : State :=
  let old := s.reg (F.LE_PALREQ_REQ e m).addr
  let s := s.setReg (F.LE_PALREQ_REQ e m).addr v
  forN 32 (fun j s =>
    if old.getLsbD j = v.getLsbD j then s
    else
      let g := 64 * e + 32 * m + j
      if s.flag (F.LE_SLOTCFG_EN g) then s.modSlot g fun x => { x with palFrom := s.tbc + 25 }
      else s.setFbit (F.LE_PALACT_ACT e m) j (v.getLsbD j)) s

/-- LE_PALREQ_WRITE (R288). -/
def execLePalreqWrite (_o : Origin) (e : Fin 8) (m : Fin 2) (v : Word) (s : State) : Out := .next (s.palReqWrite e m v)

/-- A write of LE_PALGRP to any engine: every enabled slot of every engine whose output channel belongs to the group
requests the bank, from the first tick at least 1 µs later (R289). -/
def State.palGrpWrite (v : Word) (s : State) : State :=
  if bitsOf v 24 8 ≠ 0xA5 then s else
  forN 512 (fun g s =>
    if s.flag (F.LE_SLOTCFG_EN g) && (s.slotPins g).any (fun p => (s.chan (p % 128)).member == some (bitsOf v 0 5)) then
      (s.setFbit (F.LE_PALREQ_REQ (g / 64) (g % 64 / 32)) (g % 32) (v.getLsbD 8)).modSlot g fun x =>
        { x with palFrom := s.tbc + 375 }
    else s) s

/-- LE_PALGRP_WRITE (R289). -/
def execLePalgrpWrite (_o : Origin) (_e : Fin 8) (v : Word) (s : State) : Out := .next (s.palGrpWrite v)

/-! ### Learn and status commands (R299) -/

/-- A fabric write of LCMD. -/
def State.lcmd (g v : Nat) (s : State) : State := s.leWrite (descWord g 53) 2 v

/-- LEARN_START: TARGET 0 the friction pair, 1 cogging. -/
def execLearnStart (_o : Origin) (g : Fin 512) (cogging : Bool) (s : State) : Out := .next (s.lcmd g (1 + 256 * b2n cogging))

/-- LEARN_END. -/
def execLearnEnd (_o : Origin) (g : Fin 512) (s : State) : Out := .next (s.lcmd g 2)

/-- LEARN_ABORT. -/
def execLearnAbort (_o : Origin) (g : Fin 512) (s : State) : Out := .next (s.lcmd g 4)

/-- RESTORE (R302). -/
def execRestore (_o : Origin) (g : Fin 512) (s : State) : Out := .next (s.lcmd g 8)

/-- CLR_STICKY (R304). -/
def execClrSticky (_o : Origin) (g : Fin 512) (s : State) : Out := .next (s.lcmd g 16)

end Sys2Proof.Machine
end

