-- ==== Sys2Proof/Machine/RegRead.lean ====
section
/-!
DEFINITION. What a register reads as: the register file, with the registers that show a unit's state computed from it,
and the windows of field dies in the state of R16 reading 0 (R51).
-/

set_option Elab.async false

namespace Sys2Proof.Machine

/-- A register word made of fields: value and lowest bit of each. -/
def mkWord (l : List (Nat × Nat)) : Word := BitVec.ofNat 32 (l.foldl (fun t p => t + p.1 * 2 ^ p.2) 0)

/-- The low or the high word of a number in 64-bit two's complement. -/
def loWord (v : Int) : Word := BitVec.ofInt 32 v
def hiWord (v : Int) : Word := BitVec.ofInt 32 (v / 4294967296)

/-- Is core `c` available to the dispatcher (R204)? -/
def State.coreAvail (s : State) (c : Nat) : Bool :=
  s.sched.tested.contains c && !s.sched.drained.contains c && !s.sched.stopped.contains c && !(s.core c).dead

/-- Is core `c` idle: available, and running no execution? -/
def State.coreIdle (s : State) (c : Nat) : Bool := s.coreAvail c && (tlook s.scan.execs c).isNone

/-- A number whose bit `i` is `f i`. -/
def bitsFrom (n : Nat) (f : Nat → Bool) : Nat := (List.range n).foldl (fun t i => t + b2n (f i) * 2 ^ i) 0

/-- Highest EFF_SEV uncleared, and ERR_N driven low: until the end of DAWN, and while that severity is at or above
ERR_MIN (R530). -/
def State.maxSev (s : State) : Nat := s.flt.srcs.foldl (fun m p => if p.2.pending then max m p.2.effSev else m) 0
def State.errLow (s : State) : Bool :=
  s.mode == Mode.dawn || max 1 (min 5 (s.fld F.FLT_CTRL_ERR_MIN)) ≤ s.maxSev

/-- STATE of TASK_STAT (R190): 0 absent, 1 waiting, 2 queued, 3 running, 4 halted, 5 disabled. -/
def State.taskState (s : State) (t : Nat) : Nat :=
  if (s.task t).isNone then 0
  else if s.sched.disabled.contains t then 5
  else match s.scan.execs.find? fun p => p.2.task == t with
    | some (_, e) => if e.halted then 4 else 3
    | none =>
      if (s.sched.entries.any fun e => e.task == t) || (s.sched.starts.any fun e => e.task == t) ||
        (s.sched.lost.any fun m => m.task == t) || s.sched.inits.contains t || (tget [] s.sched.reasons t) != [] then 2 else 1

/-- Registers of FLT that show sources (R519, R533). -/
def State.readFlt (s : State) (a : Nat) (w : Word) : Word :=
  let off := a - 0xF0030000
  if off = 4 then
    mkWord [(s.maxSev, 29), (b2n s.errLow, 28), ((s.flt.srcs.filter fun p => p.2.pending).length, 0)]
  else if 0x40 ≤ off ∧ off < 0x80 then
    BitVec.ofNat 32 (bitsFrom 32 fun i => (s.src (32 * ((off - 0x40) / 4) + i)).pending)
  else if 0x1000 ≤ off ∧ off < 0x3000 then
    let x := s.src ((off - 0x1000) / 16)
    if off % 16 = 8 then
      mkWord [(b2n x.pending, 31), (b2n x.active, 30), (b2n x.esc, 29), (b2n x.injected, 28), (b2n x.multi, 27),
        (x.effSev, 24), (x.unit % 4096, 0)]
    else if off % 16 = 12 then mkWord [(x.recov, 16), (x.raises, 0)]
    else w
  else w

/-- Registers of EVL and of the vault (R534, R541 to R546). -/
def State.readEvl (s : State) (a : Nat) (w : Word) : Word :=
  let off := a - 0xF0040000
  if off = 4 then BitVec.ofNat 32 s.evl.slots.length
  else if off = 8 then BitVec.ofNat 32 s.evl.seq
  else if 0xC ≤ off ∧ off < 0x18 then
    let m := (off - 0xC) / 4
    mkWord [(tget 0 s.evl.drops (2 * m + 1), 16), (tget 0 s.evl.drops (2 * m), 0)]
  else if off = 0x100 then BitVec.ofNat 32 s.vault.opt
  else if off = 0x104 then BitVec.ofNat 32 (s.vault.opt / 2 ^ 32)
  else if off = 0x108 then BitVec.ofNat 32 s.vault.pcyc
  else if off = 0x10C then BitVec.ofNat 32 s.vault.tamp
  else if 0x180 ≤ off ∧ off < 0x280 then tget 0 s.vault.ram ((off - 0x180) / 4)
  else w

/-- Registers of the dispatcher (R206). -/
def State.readSched (s : State) (a : Nat) (w : Word) : Word :=
  let off := a - 0xF0050000
  if off = 8 then mkWord [(bitsFrom 8 s.coreAvail, 8), (bitsFrom 8 s.coreIdle, 0)]
  else if off = 0xC then BitVec.ofNat 32 (s.schedUsed)
  else if off = 0x10 then mkWord [(s.sched.noEntry, 16), (s.sched.notEnabled, 0)]
  else if off = 0x14 then BitVec.ofNat 32 s.sched.flush
  else if off = 0x1C then mkWord [(min 65535 s.sched.frozen.length, 16), (s.sched.lastFrozen, 0)]
  else if 0x20 ≤ off ∧ off < 0x40 then BitVec.ofNat 32 (tget 0 s.sched.mig ((off - 0x20) / 4))
  else if 0x40 ≤ off ∧ off < 0x60 then BitVec.ofNat 32 (s.listUsed ((off - 0x40) / 4))
  else w

/-- Registers of the scan system (R190). -/
def State.readScan (s : State) (a : Nat) (w : Word) : Word :=
  if a = 0xF0000100 then putBits w 14 4 (min 4 (s.scan.execs.filter fun p => p.2.halted).length)
  else if 0xF0000200 ≤ a ∧ a < 0xF0000300 then putBits w 0 4 (s.taskState ((a - 0xF0000200) / 4))
  else w

/-- TIME_RES and SLEWING (R433). -/
def State.readTime (s : State) (a : Nat) (w : Word) : Word :=
  if a = 0xF007000C then putBits w 6 1 (b2n (s.resAt s.tbc != 0))
  else if a = 0xF0070010 then loWord (s.resAt s.tbc / nsU)
  else if a = 0xF0070014 then hiWord (s.resAt s.tbc / nsU)
  else w

/-- Registers of loop engine `e` that show activations (R270, R272). -/
def State.readLe (s : State) (a : Nat) (w : Word) : Word :=
  let e := (a - 0xF0400000) / 0x10000
  let off := a % 0x10000
  let x := s.engine e
  let win := s.tbc / 250000
  if off = 4 then
    let (slot, set) := match x.stack with
      | b :: _ => (b.slot % 64, b.set)
      | [] => (0, 0)
    mkWord [(x.ready.length, 18), (x.stack.length, 16), (slot, 8), (set, 0)]
  else if off = 8 then
    let last := if x.busyWin = win then x.busyLast else if x.busyWin + 1 = win then x.busy else 0
    mkWord [(max (bitsOf w 16 16) (last / 8 % 65536), 16), (last / 8 % 65536, 0)]
  else if 0x200 ≤ off ∧ off < 0x300 then
    let g := 64 * e + (off - 0x200) / 4
    putBits w 0 1 (b2n (s.slotReady g || (s.slotAct g).isSome))
  else w

/-- The elapsed time of a sequencer's step in TBC counts (R318). -/
def State.seqElapsed (s : State) (n : Nat) : Nat :=
  let p := (tget ({} : Seq) s.seqs n).pos
  if p.st = 1 then ((s.tbc : Int) - p.s).toNat else p.held

/-- ACT of axis `n` now (R344). -/
def State.actNow (s : State) (n : Nat) : Int := (s.genAdvance n).act n

/-- A register of a field-die window (R51, R235, R365, R373). -/
def State.readDie (s : State) (a : Nat) (w : Word) : Word :=
  let d := (a - 0xF0600000) / 0x40000
  let off := (a - 0xF0600000) % 0x40000
  let n := 32 * d + off / 0x800
  if 0x11000 ≤ off ∧ off < 0x11000 + 4 * 570 then s.sealWord d ((off - 0x11000) / 4)
  else if s.dieDark d ∧ off ≠ 0x10004 ∧ off ≠ 0x1000C ∧ !(off < 0x10000 ∧ off % 0x800 = 4) then 0
  else if off < 0x10000 ∧ off % 0x800 = 0xA8 then
    let (v, l) := s.aoutApplied n
    putBits (putBits w 16 16 (ofSigned 16 v)) 12 3 l
  else if off < 0x10000 ∧ off % 0x800 = 0x108 then
    let (v, l) := s.fioApplied n
    putBits (putBits w 2 1 (b2n v)) 5 3 l
  else w

/-- Pages in the spill buffer, its capacity in pages, its occupancy in percent. -/
def State.spillUsed (s : State) : Nat := s.recu.units.foldl (fun n p => n + p.2.spill.length) 0
def State.spillCap (s : State) : Nat := max 1 (min 32 (s.fld F.REC_SPILLSIZE_SIZE)) * 16384
def State.spillPct (s : State) : Nat := s.spillUsed * 100 / s.spillCap

/-- Registers of the recorder that show its state (R421). -/
def State.readRec (s : State) (a : Nat) (w : Word) : Word :=
  let off := a - 0xF00C0000
  if off = 0x14 then
    let sec := s.tbc / 250000000
    let b := if s.recu.outSec = sec then s.recu.outLast else if s.recu.outSec + 1 = sec then s.recu.outNow else 0
    BitVec.ofNat 32 (b * 8 / 1000000)
  else if off = 0x18 then BitVec.ofNat 32 (min 100 s.spillPct)
  else w

/-- The register at `a`, as a read of it finds it. -/
def State.regRead (s : State) (a : Nat) : Word :=
  let w := s.reg a
  if a < 0xF0010000 then s.readScan a w
  else if 0xF0030000 ≤ a ∧ a < 0xF0040000 then s.readFlt a w
  else if 0xF0040000 ≤ a ∧ a < 0xF0050000 then s.readEvl a w
  else if 0xF0050000 ≤ a ∧ a < 0xF0060000 then s.readSched a w
  else if 0xF0070000 ≤ a ∧ a < 0xF0080000 then s.readTime a w
  else if 0xF00C0000 ≤ a ∧ a < 0xF00D0000 then s.readRec a w
  else if 0xF00D0000 ≤ a ∧ a < 0xF00E0000 ∧ 0x100 ≤ a % 0x10000 ∧ a % 0x40 = 0x14 then
    BitVec.ofNat 32 (s.seqElapsed ((a % 0x10000 - 0x100) / 0x40) / 2500)
  else if 0xF0300000 ≤ a ∧ a < 0xF0400000 ∧ a % 0x10000 = 0x34 then
    putBits w 16 5 (min 31 (tget ({} : Link) s.links ((a - 0xF0300000) / 0x10000)).mbx.length)
  else if 0xF0300000 ≤ a ∧ a < 0xF0400000 ∧ a % 0x10000 = 0x24 then
    let n := (a - 0xF0300000) / 0x10000
    putBits (putBits w 1 1 (b2n (s.slReflects n))) 0 1 (b2n (s.slTransmits n))
  else if 0xF0400000 ≤ a ∧ a < 0xF0500000 then s.readLe a w
  else if 0xF0510000 ≤ a ∧ a < 0xF0520000 ∧ (a % 0x100 = 0x48 ∨ a % 0x100 = 0x4C) then
    let v := s.actNow ((a - 0xF0510000) / 0x100)
    if a % 0x100 = 0x48 then loWord v else BitVec.ofNat 32 (ofSigned 48 v / 2 ^ 32)
  else if 0xF0600000 ≤ a ∧ a < 0xF0700000 then s.readDie a w
  else w

end Sys2Proof.Machine
end

