-- ==== Sys2Proof/Machine/Endpoints.lean ====
section
/-!
DEFINITION. Endpoints (R445 to R449): what a handle names and the value it reads, the copies of registers beyond a
die's edge, and the imports of loop engines (R250 to R252).
-/

set_option Elab.async false

namespace Sys2Proof.Machine

/-- CLASS of a handle (R445). -/
def epClass (h : Nat) : Nat := h / 2 ^ 28 % 16

/-- Address of the register that a system handle names (R446). -/
def epReg (h : Nat) : Nat := 0xF0000000 + 4 * (h % 2 ^ 22)

/-- Does the handle name a register of an FDn window or of the SAFE block, which is read through a copy (R449)? -/
def epCopied (h : Nat) : Bool :=
  epClass h == 5 && !bitOf h 24 && ((0xF00B0000 ≤ epReg h && epReg h < 0xF00C0000) || 0xF0600000 ≤ epReg h)

/-- Is the address a register that can be read (R449)? -/
def regReadable (a : Nat) : Bool :=
  match regRow a with
  | some r => r.fields.any fun f => f.ty != .wo
  | none => false

/-- The quadrature count of channel `n`: 0 when it is not configured (R250, R356). -/
def State.quadCount (s : State) (n : Nat) : Nat :=
  if n % 2 = 0 ∧ s.flag (F.AX_CFG_QENC_EN n) then (s.chan n).quad else 0

/-- Level of a device pin (R446): ILK_IN, TRIGL (1 while low), SBC state, ILK_OUT (low while held, in DAWN and from the
start of a dusk sequence, R376). -/
def State.pinValue (s : State) (p : Nat) : Bool :=
  if p < 16 then bitOf s.ilm.ilk p
  else if p < 24 then bitOf s.ilm.trigl (p - 16)
  else if p < 32 then s.sbcOn (p - 24)
  else
    let o := 384 + (p - 32)
    !(s.ilm.heldLocal.contains o || s.ilm.heldGlobal.contains o || s.inMode [Mode.vault, Mode.dawn] || s.sys.dusk.isSome)

/-- Does the handle name an endpoint (R445, R446, R447, R449)? An unmapped remote object is one. -/
def State.epExists (s : State) (h : Nat) : Bool :=
  h / 2 ^ 25 % 8 == 0 && h < 2 ^ 32 &&
  match epClass h with
  | 0 => s.dirFits (epLink h) && (s.desc h).valid
  | 1 => h % 2 ^ 25 / 2 ^ 12 == 0 && h / 256 % 16 < 8 && !bitOf h 7
  | 2 => h % 2 ^ 25 < 2 ^ 22
  | 3 => h % 2 ^ 25 < 2 ^ 17 && !(bitOf h 16 && h / 512 % 128 == 127)
  | 4 => h % 2 ^ 25 < 1024
  | 5 => if bitOf h 24 then h % 2 ^ 24 < 48 else h % 2 ^ 24 < 2 ^ 22 && regReadable (epReg h)
  | _ => false

/-- Does the handle name an endpoint for a consumer that reads at every sample or cycle (R447)? -/
def State.epMapped (s : State) (h : Nat) : Bool := s.epExists h && (epClass h != 0 || (s.desc h).mapped)

/-- The value of a system handle's register, from the copy where it has one (R449). -/
def State.epRegValue (s : State) (h : Nat) : Word :=
  match (if epCopied h then tget none s.copies (epReg h) else none) with
  | some w => w
  | none => s.regRead (epReg h)

/-- The value that an endpoint holds (R446, R448, R449); 0 for a handle that names none. -/
def State.epValue (s : State) (h : Nat) : Word :=
  match epClass h with
  | 0 =>
    let d := s.desc h
    typeRead d.type d.bit (memNat s.mem (s.remoteAddr h) (typeSize d.type))
  | 1 =>
    let n := h % 128
    match h / 256 % 16 with
    | 0 => s.word (chWord n 0)
    | 1 => s.word (chWord n 1)
    | 2 => s.word (chWord n 2)
    | 3 => BitVec.ofNat 32 (bitsOf (s.regRead (F.AOUT_STAT_APPLIED n).addr) 16 16)
    | 4 => BitVec.ofNat 32 (s.fld (F.FIO_STAT_IN n))
    | 5 => BitVec.ofNat 32 (s.fld (F.CH_STAT_WIN_OUT n))
    | 6 => BitVec.ofNat 32 (s.quadCount n)
    | _ => loWord (s.actNow n)
  | 2 => s.word (4 * (h % 2 ^ 22))
  | 3 =>
    let w := h / 512 % 128
    BitVec.ofNat 32 (if bitOf h 16 then s.dsc2 (h % 512) w else s.dsc (h % 512) w)
  | 4 => BitVec.ofInt 32 (tget ({} : Strm) s.recu.strms (h % 1024)).last
  | _ => if bitOf h 24 then BitVec.ofNat 32 (b2n (s.pinValue (h % 256))) else s.epRegValue h

/-- The quality of a remote endpoint: ONLINE of its station (R448); any other endpoint is good. -/
def State.epQuality (s : State) (h : Nat) : Bool :=
  epClass h != 0 || s.fbit (F.SL_ONLINE_ONLINE (epLink h) (epStation h / 32)) (epStation h % 32)

/-- A consumer names a handle: a register beyond the die's edge gets its copy (R449). -/
def State.epName (h : Nat) (s : State) : State :=
  if epCopied h && (tget none s.copies (epReg h)).isNone then
    { s with copies := tset none (epReg h) (some (s.regRead (epReg h))) s.copies }
  else s

/-- Every copy is refreshed, once per 10 µs (R449). -/
def State.refreshCopies (s : State) : State :=
  { s with copies := s.copies.map fun p => (p.1, some (s.regRead p.1)) }

/-! ### Loop-engine imports and the mailbox (R250 to R252) -/

/-- A write of LE_IMPCFGk of engine `e`: EN is set for a handle that names an endpoint, and raises the configuration
source for one that names none. -/
def State.impCfgWrite (e k : Nat) (v : Word) (s : State) : State :=
  let h := s.fld (F.LE_IMPSRC_HANDLE e k)
  if !v.getLsbD 31 then s.setFlag (F.LE_IMPCFG_EN e k) false
  else if s.epMapped h then (s.epName h).setFlag (F.LE_IMPCFG_EN e k) true
  else (s.setFlag (F.LE_IMPCFG_EN e k) false).raise (112 + e) e

/-- LE_IMPCFG_WRITE. -/
def execLeImpcfgWrite (_o : Origin) (e : Fin 8) (k : Fin 64) (v : Word) (s : State) : Out := .next (s.impCfgWrite e k v)

/-- The mailbox words of channel `r` of region `e` (R250): an unavailable channel keeps its words, with word 6 bit 1 clear
(R252). -/
def State.mbxWords (s : State) (e r : Nat) : List (Nat × Nat) :=
  let n := 16 * e + r
  if s.flag (F.CH_STAT_AVAIL n) then
    let w := (s.word (chWord n 0)).toNat
    let m := (s.word (chWord n 2)).toNat
    let q := s.quadCount n
    [(0, w / 65536), (1, w), (2, m / 2 ^ 20 * 16),
     (3, m / 2 ^ 19 % 2 * 2 ^ 15 + m / 2 ^ 18 % 2 * 2 ^ 14 + m / 2 ^ 17 % 2 * 2 ^ 13 + m / 2 ^ 16 % 2 * 2 ^ 12 + m % 512),
     (4, q), (5, q / 65536), (6, s.fld (F.FIO_STAT_IN n) + 2), (7, 0)].map fun p => (8 * r + p.1, p.2)
  else
    [(8 * r + 6, (tget (0 : BitVec 16) (s.engine e).page (8 * r + 6)).toNat % 2)]

/-- The import words of engine `e` (R250, R251): an import with EN = 0 reads 0. -/
def State.mbxImports (s : State) (e : Nat) : List (Nat × Nat) :=
  (List.range 64).flatMap fun k =>
    let v := if s.flag (F.LE_IMPCFG_EN e k) then (s.epValue (s.fld (F.LE_IMPSRC_HANDLE e k))).toNat else 0
    [(128 + 2 * k, v % 65536), (129 + 2 * k, v / 65536)]

/-- The grid point passes for engine `e`'s mailbox: a page is written if a channel of the region was delivered or an import had a
new value at the grid point 500 ns ago; then it is noted whether an import has one now (R252). The page held by an activation is
its own copy. -/
def State.mbxUpdate (e : Nat) (delivered : Bool) (s : State) : State :=
  let imps := s.mbxImports e
  let differs (page : Tbl (BitVec 16)) : Bool := imps.any fun p => (tget (0 : BitVec 16) page p.1).toNat != p.2
  let x := s.engine e
  if delivered || x.impNew then
    let ws := ((List.range 16).flatMap (s.mbxWords e)) ++ imps
    s.modEngine e fun x =>
      { x with page := ws.foldl (fun t p => tset 0 p.1 (BitVec.ofNat 16 p.2) t) x.page, pageBad := [], impNew := false }
  else if differs x.page then s.modEngine e fun x => { x with impNew := true }
  else s

end Sys2Proof.Machine
end

