-- ==== Sys2Proof/Machine/Can.lean ====
section
/-!
DEFINITION. The CAN FD controllers (R482 to R497): modes, receive objects, FIFO and HP buffer, send objects and arbitration,
error states, bus-off and its supervisor, bit-rate detection.
-/

set_option Elab.async false

namespace Sys2Proof.Machine

/-! STATE of CAN_STAT. -/
namespace CanSt
def off : Nat := 0
def integrating : Nat := 1
def active : Nat := 2
def passive : Nat := 3
def busOff : Nat := 4
def borWait : Nat := 5
end CanSt

def State.canState (s : State) (n : Nat) : Nat := s.fld (F.CAN_STAT_STATE n)

/-- Is the controller integrated and not in bus-off? -/
def State.canLive (s : State) (n : Nat) : Bool := s.canState n == CanSt.active || s.canState n == CanSt.passive

/-- Byte address of object `m`'s canvas area (R488). -/
def State.canArea (s : State) (n m : Nat) : Nat := 4 * s.fld (F.CAN_CVBASE_BASE n) + 80 * m

/-- Event number of object `m` (R497). -/
def State.canEvent (s : State) (n m : Nat) : Nat := min 65279 (s.fld (F.CAN_CTRL_EVTBASE n)) + m

/-- Is starting a frame barred by the device (R485)? -/
def State.canBarred (s : State) : Bool :=
  s.sys.dusk.isSome || s.inMode [Mode.vault, Mode.dawn, Mode.idle, Mode.lockout, Mode.follow]

/-! ### Sending (R489, R490) -/

/-- The send set of object `m` as it stands in the canvas, an output force applied (R172, R489). -/
def State.canSet (s : State) (n m : Nat) : List Word :=
  (List.range 20).map fun i =>
    let a := s.canArea n m + 4 * i
    let (v, k) := s.wordForce (a / 4)
    (s.word a &&& ~~~k) ||| (v &&& k)

/-- Rank of a frame in arbitration: the base identifier, then SRR/RTR and IDE, then the extended identifier (R490). -/
def arbRank (w : Word) : Nat :=
  let id := bitsOf w 0 29
  let rtr := b2n (w.getLsbD 30)
  if w.getLsbD 29 then (id / 2 ^ 18) * 2 ^ 21 + 2 ^ 20 + 2 ^ 19 + id % 2 ^ 18 * 2 + rtr else id % 2048 * 2 ^ 21 + rtr * 2 ^ 20

/-- Is the set's format one that is sent (R489)? -/
def State.canFormatOk (s : State) (n : Nat) (ws : List Word) : Bool :=
  let w0 := ws.getD 0 0
  let w1 := ws.getD 1 0
  !(w1.getLsbD 4 && (!s.flag (F.CAN_CTRL_FD_EN n) || w0.getLsbD 30))

/-- Object `m` stops pending with a TXCODE. -/
def State.canDrop (n m code : Nat) (s : State) : State :=
  ((s.setFld (F.OBJ_STAT_TXCODE n m) code).setFlag (F.OBJ_STAT_TXREQ n m) false).modCan n fun c =>
    { c with pend := c.pend.filter (· != m) }

/-- A free controller offers the pending frame with the lowest identifier, the lower object on a tie; sets of a wrong format
are dropped with FORMAT (R489, R490). -/
def State.canOffer (n : Nat) (s : State) : State :=
  if (s.can n).cur.isSome || !s.canLive n || (s.can n).mode != 1 || s.canBarred then s
  else
    let bad := (s.can n).pend.filter fun m => !s.canFormatOk n (s.canSet n m)
    let s := forL bad (fun m s => s.canDrop n m 11) s
    let best := (s.can n).pend.foldl (fun (acc : Option (Nat × Nat)) m =>
      let r := arbRank ((s.canSet n m).getD 0 0)
      match acc with
      | some (k, q) => if r < q ∨ (r = q ∧ m < k) then some (m, r) else acc
      | none => some (m, r)) none
    match best with
    | some (m, _) =>
      let ws := s.canSet n m
      (s.modCan n fun c => { c with cur := some (m, ws) }).emit (.can n m ws)
    | none => s

/-- A trigger of send object `m` (R484, R485, R489): it becomes pending, merges, or is discarded. -/
def State.canTrigger (n m : Nat) (s : State) : State :=
  if !(s.flag (F.OBJ_CFG_EN n m) && s.fld (F.OBJ_CFG_KIND n m) == 3) then s
  else if (s.can n).mode != 1 || s.canBarred then s.canDrop n m 10
  else if CanSt.busOff ≤ s.canState n then s.canDrop n m 9
  else if (match (s.can n).cur with
      | some (k, _) => k == m
      | none => false) then s.modCan n fun c => { c with again := true }
  else
    let s := s.modCan n fun c => { c with pend := c.pend.filter (· != m) ++ [m] }
    (s.setFlag (F.OBJ_STAT_TXREQ n m) true).canOffer n

/-- TXMODE: 3 acts as 0. -/
def State.canTxMode (s : State) (n m : Nat) : Nat := s.fld (F.OBJ_CFG_TXMODE n m) % 3

/-- A transfer has written image words: ON_TRANSFER objects whose set it touches trigger (R489). -/
def State.canTransfer (ws : List Nat) (s : State) : State :=
  forL (s.cans.map Prod.fst) (fun n s =>
    let base := s.fld (F.CAN_CVBASE_BASE n)
    let ms := (ws.filterMap fun i => if base ≤ i ∧ i < base + 5120 then some ((i - base) / 20) else none).eraseDups
    forL (ms.filter fun m => s.canTxMode n m == 0) (fun m s => s.canTrigger n m) s) s

/-- CAN_PERIODIC: a PERIODIC object triggers at TBC multiples of its period (R489). -/
def execCanPeriodic (n : Fin 8) (m : Fin 256) (s : State) : Out :=
  .next (if s.canTxMode n m = 1 ∧ s.tbc % ms (max 1 (s.fld (F.OBJ_AUX_PERIOD n m))) = 0 then s.canTrigger n m else s)

/-- A write of OBJ_STAT (R489, R493): COLLISION clears by 1; TXREQ triggers an object in REQUEST mode. -/
def State.objStatWrite (n m : Nat) (v : Word) (s : State) : State :=
  let s := if v.getLsbD 6 then s.setFlag (F.OBJ_STAT_COLLISION n m) false else s
  if v.getLsbD 7 ∧ s.canTxMode n m = 2 then s.canTrigger n m else s

/-- TXREQ: a write of OBJ_STAT. -/
def execTxreq (_o : Origin) (n : Fin 8) (m : Fin 256) (v : Word) (s : State) : Out := .next (s.objStatWrite n m v)

/-! ### Modes (R483, R484) -/

/-- Starts detection at the first enabled candidate from `k` on, cyclically (R496). -/
def State.abdFrom (n k : Nat) (s : State) : State :=
  match (List.range 16).find? fun i => s.flag (F.CAN_ABDN_EN n ((k + i) % 16)) with
  | some i => (s.setFld (F.ABD_STAT_CAND n) ((k + i) % 16)).modCan n fun c => { c with abd := some (0, s.tbc) }
  | none => s

/-- An OPMODE takes effect (R484): OFF at once, any other through bus integration. -/
def State.canEnter (n m : Nat) (s : State) : State :=
  if m = 0 then s.canOff n
  else
    let s := if m = 1 then s else s.canDiscard n 10 true
    let s := (s.modCan n fun c => { c with mode := m, want := none, abd := none }).setFld (F.CAN_STAT_STATE n) CanSt.integrating
    if m = 3 then (s.setFlag (F.ABD_STAT_DONE n) false).abdFrom n 0 else s

/-- A mode that waits takes effect once no frame is in progress and the controller is not in bus-off. -/
def State.canWant (n : Nat) (s : State) : State :=
  match (s.can n).want with
  | some m => if (s.can n).cur.isSome || CanSt.busOff ≤ s.canState n then s else s.canEnter n m
  | none => s

/-- Are the bit timings in range (R483)? The data phase counts when FD_EN is 1. -/
def State.canTimingOk (s : State) (n : Nat) : Bool :=
  let bit (brp t1 t2 : Nat) : Nat := (brp + 1) * (1 + (t1 + 1) + (t2 + 1))
  let nb := bit (s.fld (F.CAN_NBT_BRP n)) (s.fld (F.CAN_NBT_TSEG1 n)) (s.fld (F.CAN_NBT_TSEG2 n))
  let db := bit (s.fld (F.CAN_DBT_BRP n)) (s.fld (F.CAN_DBT_TSEG1 n)) (s.fld (F.CAN_DBT_TSEG2 n))
  decide (40 ≤ nb) && decide (nb ≤ 4000) && decide (1 ≤ s.fld (F.CAN_NBT_TSEG1 n)) &&
  decide (s.fld (F.CAN_NBT_SJW n) ≤ s.fld (F.CAN_NBT_TSEG2 n)) &&
  (!s.flag (F.CAN_CTRL_FD_EN n) || (decide (5 ≤ db) && decide (s.fld (F.CAN_DBT_SJW n) ≤ s.fld (F.CAN_DBT_TSEG2 n))))

/-- Has bit-rate detection an enabled candidate? -/
def State.abdAny (s : State) (n : Nat) : Bool := (List.range 16).any fun k => s.flag (F.CAN_ABDN_EN n k)

/-- OPMODE reads the new mode, which takes effect as R484 says. -/
def State.canWantMode (n m : Nat) (s : State) : State :=
  ((s.setFld (F.CAN_CTRL_OPMODE n) m).modCan n fun c => { c with want := some m }).canWant n

/-- A new OPMODE (R483, R484, R496): refused with the configuration source for a timing out of range; ABD is refused
without a candidate. -/
def State.canSetMode (n m : Nat) (s : State) : State :=
  let old := s.fld (F.CAN_CTRL_OPMODE n)
  if m = old then s
  else if m ≠ 0 ∧ !s.canTimingOk n then s.raise (400 + n) n
  else if m = 3 ∧ !s.abdAny n then s.setFld (F.CAN_HPSTAT_RESULT n) Res.refusedState
  else s.canWantMode n m

/-- A write of CAN_CTRL. -/
def State.canCtrlWrite (n : Nat) (v : Word) (s : State) : State :=
  let old := s.fld (F.CAN_CTRL_OPMODE n)
  (s.plainWrite (F.CAN_CTRL_OPMODE n).addr (putBits v 29 2 old)).canSetMode n (bitsOf v 29 2)

/-- CAN_BUS_INTEGRATION: 11 recessive bits (R484). -/
def execCanBusIntegration (n : Fin 8) (s : State) : Out :=
  .next (if s.canState n = CanSt.integrating then
    (s.setFld (F.CAN_STAT_STATE n)
      (if 128 ≤ s.fld (F.CAN_STAT_TEC n) ∨ 128 ≤ s.fld (F.CAN_STAT_REC n) then CanSt.passive else CanSt.active)).canOffer n
  else s)

/-! ### Receiving (R486 to R488, R491, R492) -/

/-- Bytes of a DLC. -/
def dlcLen (dlc : Nat) (fdf : Bool) : Nat :=
  if dlc ≤ 8 then dlc else if !fdf then 8 else [12, 16, 20, 24, 32, 48, 64].getD (dlc - 9) 64

/-- The receive word set of a frame (R488): bytes beyond the DLC's length are 0. -/
def canWords (f : CanFrame) (lost seq : Nat) : List Word :=
  let len := if f.rtr then 0 else dlcLen f.dlc f.fdf
  let byte (i : Nat) : Nat := if i < len then (f.data.getD i 0).toNat else 0
  [BitVec.ofNat 32 (f.id % 2 ^ 29 + b2n f.ide * 2 ^ 29 + b2n f.rtr * 2 ^ 30),
   BitVec.ofNat 32 (f.dlc % 16 + b2n f.fdf * 16 + b2n f.brs * 32 + b2n f.esi * 64 + lost * 256 + seq * 65536),
   BitVec.ofNat 32 f.sof, BitVec.ofNat 32 (f.sof / 2 ^ 32)] ++
  (List.range 16).map fun k => BitVec.ofNat 32 (byte (4 * k) + byte (4 * k + 1) * 256 + byte (4 * k + 2) * 65536 +
    byte (4 * k + 3) * 16777216)

/-- The first object that takes the frame (R487). -/
def State.canMatch (s : State) (n : Nat) (f : CanFrame) : Option Nat :=
  (List.range 256).find? fun m =>
    s.flag (F.OBJ_CFG_EN n m) && s.fld (F.OBJ_CFG_KIND n m) != 3 && s.flag (F.OBJ_ID_IDE n m) == f.ide &&
    (f.id ^^^ s.fld (F.OBJ_ID_ID n m)) &&& s.fld (F.OBJ_MASK_MASK n m) == 0

/-- Shows the HP buffer: its oldest entry and its count (R492). -/
def State.hpShow (n : Nat) (s : State) : State :=
  let c := s.can n
  let s := forN 20 (fun i s => s.setReg (F.HP_ENTRY_WORD n i).addr ((c.hp.headD []).getD i 0)) s
  s.setFld (F.CAN_HPSTAT_COUNT n) c.hp.length

/-- The object's own event, with SEQ and the object's number (R487). -/
def State.canRxEvent (n m seq : Nat) (s : State) : State :=
  if s.flag (F.OBJ_CFG_EVT_EN n m) then s.hwEvent (s.canEvent n m) (BitVec.ofNat 32 (seq * 65536 + m)) else s

/-- A frame goes to the object's word set. In FOLLOW no canvas word is written (R485). -/
def State.canTakeSet (n m : Nat) (f : CanFrame) (s : State) : State :=
  let q := (tget 0 (s.can n).seqs m + 1) % 65536
  let s := s.modCan n fun c => { c with seqs := tset 0 m q c.seqs }
  let s := if s.mode = Mode.follow then s else
    s.setWords (s.canArea n m) (canWords f 0 q)
  s.canRxEvent n m q

/-- A frame goes to the receive FIFO, or is dropped when it is full (R491). -/
def State.canTakeFifo (n m : Nat) (f : CanFrame) (s : State) : State :=
  if s.flag (F.CAN_FIFOPTR_FULL n) then
    (s.setFlag (F.CAN_FIFOPTR_FIFO_OVF n) true).modCan n fun c => { c with fifoLost := min 255 (c.fifoLost + 1) }
  else
    let c := s.can n
    let q := (c.fifoSeq + 1) % 65536
    let wr := s.fld (F.CAN_FIFOPTR_WR n)
    let a := lpddrBase + s.fld (F.CAN_FIFOBASE_BASE n) * 0x8000 + 80 * wr
    let s := s.ifFitted a 80 (State.setWords a (canWords f c.fifoLost q))
    let s := s.modCan n fun c => { c with fifoSeq := q, fifoLost := 0 }
    let s := s.setFld (F.CAN_FIFOPTR_WR n) (wr + 1)
    let s := s.setFlag (F.CAN_FIFOPTR_FULL n) (s.fld (F.CAN_FIFOPTR_WR n) == s.fld (F.CAN_FIFOPTR_RD n))
    let s := s.canRxEvent n m q
    if s.flag (F.CAN_FIFOEVT_EN n) then
      s.hwEvent (s.fld (F.CAN_FIFOEVT_EVENT n)) (BitVec.ofNat 32 (q * 65536 + m)) else s

/-- A frame goes to the HP buffer, or is dropped when it holds 4 (R492). -/
def State.canTakeHp (n m : Nat) (f : CanFrame) (s : State) : State :=
  if 4 ≤ (s.can n).hp.length then
    (s.setFlag (F.CAN_HPSTAT_HP_OVF n) true).modCan n fun c => { c with hpLost := min 255 (c.hpLost + 1) }
  else
    let q := (tget 0 (s.can n).seqs m + 1) % 65536
    let s := s.modCan n fun c =>
      { c with seqs := tset 0 m q c.seqs, hp := c.hp ++ [canWords f c.hpLost q], hpLost := 0 }
    let s := (s.hpShow n).canRxEvent n m q
    if s.flag (F.CAN_HPSTAT_EN n) then
      s.hwEvent (s.fld (F.CAN_HPSTAT_EVENT n)) (BitVec.ofNat 32 (q * 65536 + m)) else s

/-- A frame received in ABD counts; ABD_N in a row accept the candidate (R496). -/
def State.abdFrame (n : Nat) (s : State) : State :=
  match (s.can n).abd with
  | none => s
  | some (k, _) =>
    if max 1 (s.fld (F.ABD_CFG_ABD_N n)) ≤ k + 1 then
      let i := s.fld (F.ABD_STAT_CAND n)
      let s := s.setReg (F.CAN_NBT_BRP n).addr (s.reg (F.CAN_ABDN_EN n i).addr &&& 0x7FFFFFFF)
      let s := s.setReg (F.CAN_DBT_BRP n).addr (s.reg (F.CAN_ABDD_BRP n i).addr)
      let s := (s.setFlag (F.ABD_STAT_DONE n) true).hwEvent (s.fld (F.ABD_STAT_ABD_EVENT n)) (BitVec.ofNat 32 i)
      (s.setFld (F.CAN_CTRL_OPMODE n) 2).modCan n fun c => { c with mode := 2, want := none, abd := none }
    else s.modCan n fun c => { c with abd := some (k + 1, s.tbc) }

/-- CAN_FRAME_RECEIVE: a frame without error goes to the first object that matches it, or counts in NOMATCH (R487); REC
falls as ISO 11898-1 gives it. -/
def execCanFrameReceive (n : Fin 8) (f : CanFrame) (s : State) : Out :=
  if !s.canLive n || (f.fdf && !s.flag (F.CAN_CTRL_FD_EN n) && (s.can n).mode != 3) then .next s else
  let rec_ := s.fld (F.CAN_STAT_REC n)
  let s := if (s.can n).mode = 1 then s.setFld (F.CAN_STAT_REC n) (if 127 < rec_ then 127 else rec_ - 1) else s
  let s := s.setFld (F.CAN_STAT_STATE n)
    (if 128 ≤ s.fld (F.CAN_STAT_TEC n) ∨ 128 ≤ s.fld (F.CAN_STAT_REC n) then CanSt.passive else CanSt.active)
  let s := s.abdFrame n
  .next (match s.canMatch n f with
    | none => s.incSat (F.CAN_CNT_NOMATCH n)
    | some m => match s.fld (F.OBJ_CFG_KIND n m) with
      | 0 => s.canTakeSet n m f
      | 1 => s.canTakeFifo n m f
      | _ => s.canTakeHp n m f)

/-- A write of CAN_HPSTAT (R492, R497). -/
def State.hpstatWrite (n : Nat) (v : Word) (s : State) : State :=
  let s := s.plainWrite (F.CAN_HPSTAT_EN n).addr (v &&& 0xBFFFFFFF)
  if v.getLsbD 30 then (s.modCan n fun c => { c with hp := c.hp.tail }).hpShow n else s

/-- POP: a write of CAN_HPSTAT. -/
def execPop (_o : Origin) (n : Fin 8) (v : Word) (s : State) : Out := .next (s.hpstatWrite n v)

/-- A write of CAN_FIFOPTR (R491): FULL clears when RD advances. -/
def State.fifoPtrWrite (n : Nat) (v : Word) (s : State) : State :=
  let old := s.fld (F.CAN_FIFOPTR_RD n)
  let s := s.plainWrite (F.CAN_FIFOPTR_RD n).addr v
  if s.fld (F.CAN_FIFOPTR_RD n) = old then s else s.setFlag (F.CAN_FIFOPTR_FULL n) false

/-- FIFO_RD_WRITE. -/
def execFifoRdWrite (_o : Origin) (n : Fin 8) (v : Word) (s : State) : Out := .next (s.fifoPtrWrite n v)

/-! ### Errors, bus-off, recovery (R482, R490, R493 to R495) -/

/-- The error state that the counters give; TEC above 255 is bus-off (R494). -/
def State.canErrState (n : Nat) (s : State) : State :=
  if !s.canLive n then s
  else if 255 < s.fld (F.CAN_STAT_TEC n) then
    let s := (s.setFld (F.CAN_STAT_STATE n) CanSt.busOff).canDiscard n 9 true
    ((s.modCan n fun c => { c with spent := false }).incSat (F.CAN_CNT_BUSOFF_CNT n)).raise (392 + n) n
  else s.setFld (F.CAN_STAT_STATE n)
    (if 128 ≤ s.fld (F.CAN_STAT_TEC n) ∨ 128 ≤ s.fld (F.CAN_STAT_REC n) then CanSt.passive else CanSt.active)

/-- Object `m`'s attempt is over and it does not stay pending; a trigger during it makes it pending again. -/
def State.canDone (n m : Nat) (s : State) : State :=
  let again := (s.can n).again
  (s.setFlag (F.OBJ_STAT_TXREQ n m) again).modCan n fun c =>
    { c with cur := none, again := false, pend := if again then c.pend else c.pend.filter (· != m) }

/-- A failed attempt counts 8 in TEC, but not a missing ACK while error-passive. -/
def State.canTxErr (n code : Nat) (s : State) : State :=
  let s := s.setFld (F.CAN_STAT_LEC n) (if code = 8 then 4 else code)
  if code = 3 ∧ s.canState n = CanSt.passive then s else s.setFld (F.CAN_STAT_TEC n) (s.fld (F.CAN_STAT_TEC n) + 8)

/-- A collision error of object `m` (R493): at ID_COLL_N the frame is abandoned and the source raised. -/
def State.canColl (n m : Nat) (s : State) : State :=
  let s := s.incSat (F.OBJ_STAT_COLL n m)
  if max 1 (s.fld (F.CAN_CTRL_ID_COLL_N n)) ≤ s.fld (F.OBJ_STAT_COLL n m) then
    ((s.setFlag (F.OBJ_STAT_COLLISION n m) true).canDone n m).raise (384 + n) m
  else if s.flag (F.OBJ_CFG_ONESHOT n m) then s.canDone n m
  else s.modCan n fun c => { c with cur := none, again := false }

/-- CAN_TX_COMPLETE: the attempt of the offered frame ends with a TXCODE of 0 to 8 (R490, R493, R494); the next pending frame
is offered, unless an OPMODE waits. -/
def execCanTxComplete (n : Fin 8) (code : Fin 9) (s : State) : Out :=
  .next (match (s.can n).cur with
    | none => s
    | some (m, _) =>
      let s := s.setFld (F.OBJ_STAT_TXCODE n m) code
      let s :=
        if code.val = 0 then
          ((s.setFld (F.CAN_STAT_TEC n) (s.fld (F.CAN_STAT_TEC n) - 1)).setFld (F.OBJ_STAT_COLL n m) 0).canDone n m
        else
          let s := if code.val = 7 then s else s.canTxErr n code
          if code.val = 8 then s.canColl n m
          else if s.flag (F.OBJ_CFG_ONESHOT n m) then s.canDone n m
          else s.modCan n fun c => { c with cur := none, again := false }
      ((s.canErrState n).canWant n).canOffer n)

/-- CAN_BUS_ERROR: an error seen while not transmitting, of type `code` (0 a protocol exception); `eight` where the standard
counts 8. LISTEN and ABD send no error flag and keep their counters; ABD goes to its next candidate (R482, R496). -/
def execCanBusError (n : Fin 8) (code : Fin 7) (eight : Bool) (s : State) : Out :=
  .next (if !s.canLive n then s
    else if code.val = 0 then s.setFld (F.CAN_STAT_STATE n) CanSt.integrating
    else
      let s := s.setFld (F.CAN_STAT_LEC n) code
      if (s.can n).abd.isSome then s.abdFrom n (s.fld (F.ABD_STAT_CAND n) + 1)
      else if (s.can n).mode = 1 then
        (s.setFld (F.CAN_STAT_REC n) (min 128 (s.fld (F.CAN_STAT_REC n) + if eight then 8 else 1))).canErrState n
      else s)

/-- A CAN command with its KEY (R494 to R497). A BOR in the cycle of a supervisor's BOR is one recovery with it, software's and not
against the budget. ABD_START asks for no timing in CAN_NBT; ABD_STOP leads to LISTEN, or to OFF while R483 bars LISTEN
(assumption 40). -/
def State.canCmd (n key code : Nat) (s : State) : State :=
  let res (r : Nat) (s : State) : State := s.setFld (F.CAN_HPSTAT_RESULT n) r
  if key ≠ 0xA5 then res Res.badKey s
  else if code = 1 then
    if s.canState n = CanSt.busOff then res Res.ok (s.setFld (F.CAN_STAT_STATE n) CanSt.borWait)
    else if s.canState n = CanSt.borWait ∧ (s.can n).recov.head? = some s.tbc then
      res Res.ok ((s.modCan n fun c => { c with recov := c.recov.tail }).setFld (F.CANSUP_CNT_COUNT n) (s.fld (F.CANSUP_CNT_COUNT n) - 1))
    else res Res.refusedState s
  else if code = 2 then
    if s.abdAny n then
      (if (s.can n).abd.isSome then res Res.ok ((s.setFlag (F.ABD_STAT_DONE n) false).abdFrom n 0) else res Res.ok (s.canWantMode n 3))
    else res Res.refusedState s
  else if code = 3 then
    if s.fld (F.CAN_CTRL_OPMODE n) = 3 then res Res.ok (s.canWantMode n (if s.canTimingOk n then 2 else 0)) else res Res.refusedState s
  else res Res.refusedState s

/-- BOR (R494). -/
def execBor (_o : Origin) (n : Fin 8) (key : Byte) (s : State) : Out := .next (s.canCmd n key.toNat 1)

/-- ABD_START (R496). -/
def execAbdStart (_o : Origin) (n : Fin 8) (key : Byte) (s : State) : Out := .next (s.canCmd n key.toNat 2)

/-- ABD_STOP: detection ends, and the controller listens (R496). -/
def execAbdStop (_o : Origin) (n : Fin 8) (key : Byte) (s : State) : Out := .next (s.canCmd n key.toNat 3)

/-- ABD_TIMEOUT: no frame within ABD_TMO ms (R496). -/
def execAbdTimeout (n : Fin 8) (s : State) : Out :=
  .next (match (s.can n).abd with
    | some (_, t) =>
      if t + ms (max 1 (s.fld (F.ABD_CFG_ABD_TMO n))) ≤ s.tbc then s.abdFrom n (s.fld (F.ABD_STAT_CAND n) + 1) else s
    | none => s)

/-- BOR_COMPLETE: 128 occurrences of 11 recessive bits; error-active with TEC and REC 0; an OPMODE that waited takes effect
(R484, R494). -/
def execBorComplete (n : Fin 8) (s : State) : Out :=
  .next (if s.canState n = CanSt.borWait then
    ((((s.setFld (F.CAN_STAT_STATE n) CanSt.active).setFld (F.CAN_STAT_TEC n) 0).setFld (F.CAN_STAT_REC n) 0).canWant n).canOffer n
  else s)

/-- CANSUP_RECOVERY: the controller has counted 32 × 11 recessive bits in bus-off; the supervisor issues BOR within its
budget, or sets BUDGET_OUT (R495). -/
def execCansupRecovery (n : Fin 8) (s : State) : Out :=
  .next (if s.canState n = CanSt.busOff ∧ s.fbit F.CANSUP_CTRL_AUTO n ∧ !(s.can n).spent ∧ !s.fbit F.CANSUP_STAT_BUDGET_OUT n then
    let win := sec (max 1 (s.fld F.CANSUP_CTRL_WIN_S))
    let l := (s.can n).recov.filter fun t => s.tbc < t + win
    if l.length < max 1 (s.fld F.CANSUP_CTRL_BUDGET) then
      ((s.setFld (F.CAN_STAT_STATE n) CanSt.borWait).modCan n fun c => { c with recov := s.tbc :: l }).incSat (F.CANSUP_CNT_COUNT n)
    else ((s.setFbit F.CANSUP_STAT_BUDGET_OUT n true).modCan n fun c => { c with spent := true }).raise 23 n
  else s)

end Sys2Proof.Machine
end

