-- ==== Sys2Proof/Machine/Cbus.lean ====
section
/-!
DEFINITION. The companion bus (R388 to R394): mirror words, the read and the write of a bus edge, and the write FIFO.
-/

set_option Elab.async false

namespace Sys2Proof.Machine

/-- Changes the companion bus's own state. -/
def State.modCbus (f : CbusU → CbusU) (s : State) : State := { s with cbus := f s.cbus }

/-- Mirror words of one update: those whose handle is selected take their endpoints' values together, and MSEQ counts
(R391). -/
def State.mirrorUpdate (sel : Nat → Bool) (s : State) : State :=
  let ks := s.regs.filterMap fun p =>
    if 0xF0094000 ≤ p.1 ∧ p.1 < 0xF0098000 ∧ sel p.2.toNat ∧ s.epMapped p.2.toNat then some ((p.1 - 0xF0094000) / 4, p.2.toNat)
    else none
  if ks.isEmpty then s
  else s.modCbus fun c =>
    { c with mseq := (c.mseq + 1) % 2 ^ 32, mirror := ks.foldl (fun t k => tset 0 k.1 (s.epValue k.2) t) c.mirror }

/-- Is the bus served (R393, R394)? -/
def State.cbServed (s : State) : Bool := s.flag F.CB_CTRL_EN && !s.inMode [Mode.vault, Mode.dawn]

/-- CB_FULL_N is low: the FIFO holds 240 entries or more (R392). -/
def State.cbFull (s : State) : Bool := 240 ≤ s.cbus.fifo.length

/-- CB_READ: a rising edge samples a read of word address `a`; the data go out on CB_D (R388, R389). -/
def execCbRead (a : BitVec 24) (s : State) : Out :=
  if !s.cbServed then .next s else
  let s := s.modCbus fun c => { c with lastRead := true }
  let k := a.toNat
  let unmapped : State := { s.setFlag F.CB_STAT_CB_UNMAPPED true with rdata := [0] }
  .next (
    if k < 0x1000 then
      (if s.epMapped (s.fld (F.CB_MIR_HANDLE k)) then { s with rdata := [tget 0 s.cbus.mirror k] } else unmapped)
    else if k < 0x1040 then { s with rdata := [s.reg (F.CB_FAST_VALUE (k - 0x1000)).addr] }
    else if k = 0x1040 then { s with rdata := [BitVec.ofNat 32 s.cbus.mseq] }
    else unmapped)

/-- CB_WRITE: a rising edge samples a write; `idle` says that a cycle with CB_CS_N high came before it (R388, R390, R392,
R393). -/
def execCbWrite (a : BitVec 24) (v : Word) (idle : Bool) (s : State) : Out :=
  if !s.cbServed then .next s else
  let turn := s.cbus.lastRead && !idle
  let s := s.modCbus fun c => { c with lastRead := false }
  let k := a.toNat
  .next (
    if turn then (s.setFlag F.CB_STAT_CB_TURN true).incSat F.CB_CNT_IGNORED
    else if s.mode = Mode.follow then s.incSat F.CB_CNT_IGNORED
    else if !((0x1000 ≤ k && k < 0x1040) || (0x400000 ≤ k && k < 0x800000)) then s.incSat F.CB_CNT_IGNORED
    else if 256 ≤ s.cbus.fifo.length then
      ((s.incSat F.CB_CNT_DROP).setFlag F.CB_STAT_CB_OVF true).raise 17 0
    else s.modCbus fun c => { c with fifo := c.fifo ++ [(k, v)] })

/-- Is canvas word `i` one that the program declares as host input (R147)? -/
def State.hostInput (s : State) (i : Nat) : Bool :=
  match s.scan.program with
  | some p => p.hostInputs.contains i
  | none => false

/-- CB_FIFO_APPLY: the oldest write is applied: a fast register, or a host-input word; any other canvas word is ignored
(R148, R392). -/
def execCbFifoApply (s : State) : Out :=
  .next (match s.cbus.fifo with
    | [] => s
    | (k, v) :: rest =>
      let s := s.modCbus fun c => { c with fifo := rest }
      if k < 0x400000 then s.setReg (F.CB_FAST_VALUE (k - 0x1000)).addr v
      else
        let i := k - 0x400000
        if s.hostInput i && !protectedArea (4 * i) then s.setWord (4 * i) v else s.incSat F.CB_CNT_IGNORED)

end Sys2Proof.Machine
end

