-- ==== Sys2Proof/Machine/RecPage.lean ====
section
/-!
DEFINITION. What the recorder writes, byte by byte (R398 to R401, R404, R416): the coding of a block, its entry, the special
entries, the pages with their check, and the RECORD page of a record.
-/

set_option Elab.async false

namespace Sys2Proof.Machine

/-! ### Coding (R400) -/

/-- The unsigned code of a difference. -/
def zigzag (d : Int) : Nat := if 0 ≤ d then (2 * d).toNat else (-2 * d - 1).toNat

/-- Bits of the coding with parameter `k` of the values of width `w`. -/
def codeBits (w k : Nat) : List Int → Nat
  | [] => 0
  | [_] => w
  | x :: y :: rest =>
    let u := zigzag (y - x)
    (if u / 2 ^ k < 24 then u / 2 ^ k + 1 + k else 24 + w + 1) + codeBits w k (y :: rest)

/-- K of a block and the length of its data: the shortest coding, the lower K on a tie, 25 verbatim when that is
shorter. -/
def blockCode (w : Nat) (xs : List Int) : Nat × Nat :=
  let best := (List.range 25).foldl (fun (b : Nat × Nat) k =>
    let n := codeBits w k xs
    if n < b.2 then (k, n) else b) (0, codeBits w 0 xs)
  if xs.length * w < best.2 then (25, xs.length * w) else best

/-- The low `n` bits of a number, most significant first. -/
def bitsMsb (n v : Nat) : List Bool := (List.range n).map fun i => v.testBit (n - 1 - i)

/-- The differences of a coded block. -/
def codeRest (w k : Nat) : List Int → List Bool
  | x :: y :: rest =>
    let u := zigzag (y - x)
    (if u / 2 ^ k < 24 then List.replicate (u / 2 ^ k) true ++ false :: bitsMsb k u
     else List.replicate 24 true ++ bitsMsb (w + 1) u) ++ codeRest w k (y :: rest)
  | _ => []

/-- The coded data of a block: K = 25 verbatim, else the first value and the differences. -/
def codeData (w k : Nat) (xs : List Int) : List Bool :=
  if k = 25 then xs.flatMap fun x => bitsMsb w (ofSigned w x)
  else match xs with
    | [] => []
    | x :: _ => bitsMsb w (ofSigned w x) ++ codeRest w k xs

/-- Bits packed into `n` bytes, most significant first, 0 behind them. -/
def packBits (n : Nat) (l : List Bool) : List Nat :=
  (List.range n).map fun i => (List.range 8).foldl (fun b j => 2 * b + b2n (l.getD (8 * i + j) false)) 0

/-! ### Entries (R399, R401) -/

/-- Flag changes within a block's samples: the index of each sample that brings new flags, and those flags. -/
def flagEntries : Nat → List (Int × Nat) → List (Nat × Nat)
  | i, (_, f) :: (y, g) :: rest => (if f = g then [] else [(i, g)]) ++ flagEntries (i + 1) ((y, g) :: rest)
  | _, _ => []

/-- The number of flag changes. -/
def flagChanges (l : List (Int × Nat)) : Nat := (flagEntries 1 l).length

/-- A length padded to four bytes. -/
def pad4 (n : Nat) : Nat := (n + 3) / 4 * 4

/-- Bytes with zeros behind them up to a length. -/
def padBytes (n : Nat) (l : List Nat) : List Nat := l ++ List.replicate (n - l.length) 0

/-- Length of an entry in bytes. -/
def RecEntry.size : RecEntry → Nat
  | .block _ _ _ _ w samples =>
    20 + pad4 (2 * flagChanges samples) + pad4 (((blockCode w (samples.map Prod.fst)).2 + 7) / 8)
  | .special _ _ _ _ _ _ => 24

/-- Earliest and latest time-stamp of an entry; an OUTAGE gap counts with the instant of this power cycle (assumption 35). -/
def RecEntry.times : RecEntry → Nat × Nat
  | .block _ _ t dt _ samples => (t, t + dt * (samples.length - 1))
  | .special _ k code _ a b => (if k = 26 ∧ code = 6 then b else a, if k = 26 then b else a)

/-- The bytes of an entry. -/
def RecEntry.bytes : RecEntry → List Nat
  | .block m k t dt w samples =>
    let xs := samples.map Prod.fst
    let fl := flagEntries 1 samples
    let n := (blockCode w xs).2
    leBytes 4 (m % 1024 * 2 ^ 22 + k * 2 ^ 16 + (samples.length - 1) % 256 * 2 ^ 8 + fl.length % 16 * 2 ^ 4) ++
    leBytes 4 ((samples.head?.map Prod.snd).getD 0 % 256 * 2 ^ 24 + n % 2 ^ 16) ++ leBytes 8 t ++ leBytes 4 dt ++
    padBytes (pad4 (2 * fl.length)) (fl.flatMap fun p => leBytes 2 (p.1 * 256 + p.2 % 256)) ++
    packBits (pad4 ((n + 7) / 8)) (codeData w k xs)
  | .special m k code arg a b =>
    leBytes 4 ((match m with
      | some m => m % 1024 * 2 ^ 22
      | none => 2 ^ 21) + k * 2 ^ 16 + code % 2 ^ 16) ++ leBytes 4 arg ++ leBytes 8 a ++ leBytes 8 b

/-- The 16 bytes of a stream on a STREAMS page (R404). -/
def StrmDesc.bytes (d : StrmDesc) : List Nat :=
  leBytes 2 d.stream ++ [d.w % 256, d.setting % 256] ++ leBytes 4 d.handle ++ leBytes 4 d.dt ++
  [d.rpri % 256, d.flagSet % 256, 0, 0]

/-- The 64 bytes behind the header of a RECORD page (R416). -/
def Record.bytes (r : Record) : List Nat :=
  leBytes 4 r.num ++ leBytes 2 r.mask ++ [r.primary % 256, r.flags % 256] ++ leBytes 8 (r.t / 256) ++ [r.t % 256, r.method % 256] ++
  leBytes 2 r.late ++ leBytes 4 r.actPre ++ leBytes 8 r.ot ++ leBytes 8 r.violAt ++ leBytes 2 r.violPt ++ [0, 0] ++
  leBytes 4 r.missed ++ leBytes 8 r.first ++ leBytes 8 r.last

/-! ### Pages (R398) -/

/-- What stands behind a page's header. -/
def Page.body (p : Page) : List Nat :=
  match p.type with
  | 0 => p.entries.flatMap RecEntry.bytes
  | 1 => p.streams.flatMap StrmDesc.bytes
  | _ => (p.rcd.map Record.bytes).getD []

/-- The 4 KiB of a page of unit `u`: header, entries, zeros, and the CRC-32C over all of it. -/
def Page.bytes (u : Nat) (p : Page) : List Nat :=
  let l := padBytes 4092 (leBytes 4 0x56545250 ++ [p.type % 256, u % 256] ++ leBytes 2 1 ++ leBytes 8 p.seq ++
    leBytes 8 p.first ++ leBytes 8 p.last ++ leBytes 8 p.otFirst ++ leBytes 8 p.otLast ++ leBytes 4 p.modId ++
    leBytes 2 p.used ++ [p.domain % 256, 0] ++ leBytes 4 p.gen ++ leBytes 4 (p.pcyc % 2 ^ 24) ++ p.body)
  l ++ leBytes 4 (crc32c l)

/-- A part of a page as TRACE carries it: 1,024 bytes (R479). -/
def Page.part (u k : Nat) (p : Page) : List Nat := ((p.bytes u).drop (1024 * k)).take 1024

/-- The RECORD page that begins the copy of a record: it carries the number of the record's first page and the record's
trigger as its time (R416, assumption 35). -/
def Record.page (r : Record) (modId domain gen pcyc : Nat) : Page :=
  { type := 2, seq := r.first, first := r.t / 256, last := r.t / 256, otFirst := r.ot, otLast := r.ot, modId := modId,
    used := 64, domain := domain, gen := gen, pcyc := pcyc, rcd := some r }

end Sys2Proof.Machine
end

