-- ==== Sys2Proof/Machine/RecBase.lean ====
section
/-!
DEFINITION. The trace recorder's data path (R395 to R404, R409, R410): what a stream records, blocks and pages as they fill
and close, the spill buffer.
-/

set_option Elab.async false

namespace Sys2Proof.Machine

def State.strm (s : State) (m : Nat) : Strm := tget {} s.recu.strms m
def State.unit (s : State) (u : Nat) : Unit_ := tget {} s.recu.units u
def State.modRec (f : RecU → RecU) (s : State) : State := { s with recu := f s.recu }
def State.modStrm (m : Nat) (f : Strm → Strm) (s : State) : State := s.modRec fun r => { r with strms := tmod {} m f r.strms }
def State.modUnit (u : Nat) (f : Unit_ → Unit_) (s : State) : State := s.modRec fun r => { r with units := tmod {} u f r.units }

/-! ### Sources (R395) -/

/-- The kinds of source. -/
inductive SrcKind where
  | sample
  | sense
  | chanWord
  | pin
  | loop
  | program
  | remote
  | system
deriving DecidableEq, Repr

/-- The kind of a handle's source. A channel word that the table does not list is taken at each conversion, a recorder
stream as a system register. -/
def srcKind (h : Nat) : SrcKind :=
  match epClass h with
  | 0 => .remote
  | 1 =>
    let fn := h / 256 % 16
    if fn = 0 then .sample else if fn = 2 then .sense else if fn = 4 ∨ fn = 5 then .pin else .chanWord
  | 2 => .program
  | 3 => .loop
  | 5 => if bitOf h 24 then .pin else .system
  | _ => .system

/-- Stored width W and flag set of a handle (R395). -/
def srcWidth (h : Nat) : Nat :=
  match srcKind h with
  | .sample => 18
  | .sense => 12
  | .pin => 1
  | .loop => if bitOf h 16 then 32 else 16
  | _ => 32
def srcFlagSet (h : Nat) : Nat :=
  match srcKind h with
  | .sample => 1
  | .sense => 2
  | .remote => 3
  | _ => 0

/-- Value and flags of a sample of handle `h` now. Flags of sets 1 and 2: bit 4 OVR_HI, 3 OVR_LO, 2 WIN_OUT, 1 CAL_STALE,
0 REF_UNSETTLED. -/
def State.srcSample (s : State) (h : Nat) : Int × Nat :=
  let v := (s.epValue h).toNat
  match srcKind h with
  | .sample => (toSigned 18 (v / 2 ^ 14), v / 2 ^ 9 % 32)
  | .sense => (toSigned 12 (v / 2 ^ 20), b2n (bitOf v 19) * 16 + b2n (bitOf v 18) * 8 + b2n (bitOf v 16) * 2 + b2n (bitOf v 17))
  | .pin => ((v % 2 : Nat), 0)
  | .loop => (toSigned (srcWidth h) v, 0)
  | .remote => (toSigned 32 v, b2n (s.epQuality h))
  | _ => (toSigned 32 v, 0)

/-- A stream's handle, unit, and whether it records. -/
def State.strmHandle (s : State) (m : Nat) : Nat := s.fld (F.REC_SSRC_HANDLE m)
def State.strmUnit (s : State) (m : Nat) : Nat := s.fld (F.REC_SCFG_UNIT m)
def State.strmOn (s : State) (m : Nat) : Bool := s.flag (F.REC_SCFG_EN m)

/-- The enabled streams: an enabled stream has its REC_SCFG listed in the register file. -/
def State.strmsOn (s : State) : List Nat :=
  s.regs.filterMap fun p =>
    if 0xF00C2000 ≤ p.1 ∧ p.1 < 0xF00C4000 ∧ p.1 % 8 = 4 ∧ p.2.getLsbD 31 then some ((p.1 - 0xF00C2004) / 8) else none

/-- The enabled streams of a unit. -/
def State.unitStrms (s : State) (u : Nat) : List Nat := s.strmsOn.filter fun m => s.strmUnit m == u

/-- Nominal sample interval of a handle in TBC counts (R397, R404). -/
def State.nominalDt (s : State) (h task : Nat) : Nat :=
  max 1 (match srcKind h with
  | .sample | .sense | .chanWord =>
    let n := h % 128
    match s.runGroup n with
    | some g => 250 * s.fld (F.LG_CTRL_PERIOD g)
    | none => let d := 125 * (s.fld (F.CH_CFG_DIV n) + 1); if h / 256 % 16 = 2 then d * 2 / (if d % 250 = 0 then 2 else 1) else d
  | .pin => 125
  | .loop => s.slotStep (h % 512)
  | .program => 250 * ((s.task task).map TaskDesc.period).getD 1
  | .remote => (s.slPeriod (epLink h) / 4).toNat
  | .system => 2500)

/-! ### Decimation (R396, R409) -/

/-- DMODE of a stream; under a ladder step a stream that keeps every sample keeps every 2^EFF_EXP-th. -/
def State.strmMode (s : State) (m : Nat) : Nat :=
  match s.fld (F.REC_SCFG_DMODE m) with
  | 2 => 2
  | 1 => 1
  | _ => 0

/-- The stream's own exponent. -/
def State.strmExp (s : State) (m : Nat) : Nat := if s.strmMode m = 0 then 0 else min 10 (s.fld (F.REC_SCFG_DEXP m))

/-- Effective width. -/
def State.strmWidth (s : State) (m : Nat) : Nat := srcWidth (s.strmHandle m) + (if s.strmMode m = 2 then 6 else 0)

/-- REC_RATE in 2^-40 Mbit/s, with stream `m` taken as enabled (R397). -/
def State.recRate (s : State) (ms : List Nat) : Nat :=
  ms.foldl (fun t m =>
    t + s.strmWidth m * 250 * 2 ^ 40 / (s.nominalDt (s.strmHandle m) (s.fld (F.REC_SCFG_TASK m)) * 2 ^ s.strmExp m)) 0

/-! ### Spill buffer (R409, R410, R421) -/

/-- Notes since when the occupancy has been below 50 %. -/
def State.spillNote (s : State) : State :=
  if 2 * s.spillUsed < s.spillCap then
    (if s.recu.lowSince.isNone then s.modRec fun r => { r with lowSince := some s.tbc } else s)
  else s.modRec fun r => { r with lowSince := none }

/-- Shows the ladder in REC_LADDER (R409, R410). -/
def State.ladderShow (s : State) : State :=
  let top (l : List Nat) : Nat := match l.getLast? with
    | some p => p + 1
    | none => 0
  ((s.setFld F.REC_LADDER_STEPS s.recu.steps.length).setFld F.REC_LADDER_DEC_PRI (top s.recu.steps)).setFld
    F.REC_LADDER_SUSP_PRI (s.recu.susp.foldl (fun a p => max a (p + 1)) 0)

/-! ### Pages (R398, R404) -/

/-- OT in ns at a TBC count, as pages carry it. -/
def State.pageOt (s : State) (t : Nat) : Nat := if s.otValid then (s.otAt t / nsU).toNat else 0

/-- Sends the four parts of page `seq` of unit `u` to a session (R479). -/
def State.traceParts (i u seq : Nat) (s : State) : State :=
  let p := ((s.unit u).spill.find? fun p => p.seq == seq).getD {}
  { s with outbox := (List.range 4).foldl (fun o k => .trace i u k seq (p.part u k) :: o) s.outbox
           sessions := tmod {} i (fun x => { x with sent := x.sent + 4 }) s.sessions }

/-- After TRACE START the pages of the unit go to the host in SEQ order, at most WIN of them unacknowledged (R408, R479). -/
def State.traceSend (u : Nat) (s : State) : State :=
  match (s.unit u).traceTo with
  | none => s
  | some i =>
    let win := max 1 (min 64 (s.fld F.HOST_TRACE_WIN))
    let x := s.unit u
    let next := (x.spill.filter fun p => p.host && !(x.flight.any fun f => f.1 == p.seq)).take (win - x.flight.length)
    forL next (fun p s => (s.modUnit u fun x => { x with flight := x.flight ++ [(p.seq, s.tbc)] }).traceParts i u p.seq) s

/-- The LBA at which unit `u` writes page `seq` of its continuous ring (R406). -/
def State.nvmeLba (s : State) (u seq : Nat) : Nat :=
  s.fld (F.DBASE_L u) + s.fld (F.DBASE_H u) * 2 ^ 32 + seq % s.fld (F.DLEN_PAGES u) * s.recu.lbas

/-- The Write of a page. -/
def State.nvmePut (u : Nat) (p : Page) (s : State) : State :=
  { s with outbox := .nvme 0 u p.seq (s.nvmeLba u p.seq) (p.bytes u) :: s.outbox }

/-- The pages of the unit that wait for NVMe go to its queue, which is 32 entries deep (R405). -/
def State.nvmeSend (u : Nat) (s : State) : State :=
  let x := s.unit u
  if !s.flag F.PCIE_STAT_NVME_READY || x.paused then s
  else
    let ps := (x.spill.filter Page.nvme).take 32
    (forL (ps.drop x.inq) (State.nvmePut u) s).modUnit u fun x => { x with inq := max x.inq ps.length }

/-- Suspends the streams of a unit at its lowest RPRI still running (R410). Their open blocks close at 1 ms. -/
def State.suspendLow (u : Nat) (s : State) : State :=
  let run := (s.unitStrms u).filter fun m => !s.flag (F.REC_SCFG_SUSP m)
  match run.map (fun m => s.fld (F.REC_SCFG_RPRI m)) with
  | [] => s
  | p :: ps =>
    let lo := ps.foldl min p
    let s := forL (run.filter fun m => s.fld (F.REC_SCFG_RPRI m) == lo) (fun m s =>
      (s.modStrm m fun x =>
        { x with gap := some (x.gap.getD (5, s.tbc)), runN := 0, runSum := 0, runFlags := 0 }).setFlag (F.REC_SCFG_SUSP m) true) s
    ((s.modRec fun r => { r with susp := if r.susp.contains lo then r.susp else r.susp ++ [lo], resumeAt := s.tbc }).ladderShow).raise 21 u

/-- A closed page leaves for the outputs that OUT names: it waits in the spill buffer; when less than 1 MiB is free it is kept
back, and the unit suspends streams (R408, R410). -/
def State.pageOut (u : Nat) (p : Page) (s : State) : State :=
  let out := s.fld (F.UNIT_CFG_OUT u)
  let p := { p with nvme := bitOf out 0 && s.fld (F.DLEN_PAGES u) != 0, host := bitOf out 1 }
  if !p.nvme && !p.host then s
  else if s.spillCap < s.spillUsed + 256 then
    ((s.modUnit u fun x => { x with kept := x.kept ++ [p] }).spillNote).suspendLow u
  else (((s.modUnit u fun x => { x with spill := x.spill ++ [p] }).spillNote).traceSend u).nvmeSend u

/-- Counts a closed page for REC_OUTRATE (R421). -/
def State.countOut (s : State) : State :=
  let w := s.tbc / 250000000
  s.modRec fun r =>
    if r.outSec = w then { r with outNow := r.outNow + 4096 }
    else { r with outLast := if r.outSec + 1 = w then r.outNow else 0, outNow := 4096, outSec := w }

/-- A page gets its number, joins the ring of an acquisition in progress, and leaves (R398, R415). -/
def State.pagePush (u : Nat) (p : Page) (s : State) : State :=
  let x := s.unit u
  let seq := x.nextSeq
  let p := { p with seq := seq, otFirst := s.pageOt p.first, otLast := s.pageOt p.last,
                    domain := s.otDom + (if s.otValid then 0 else 128), modId := s.fld F.REC_MODID_ID, pcyc := s.vault.pcyc }
  let s := (s.setFld2 (F.SEQ_L_SEQ u) (F.SEQ_H_SEQ u) seq).countOut
  let st := s.fld (F.UNIT_STAT_STATE u)
  let cap := min 64 (s.fld (F.UNIT_CFG_PRE_SIZE u)) * 256
  let ring := if st = 1 ∨ st = 2 ∨ st = 6 then x.ring ++ [p] else x.ring
  let full := decide (cap < ring.length)
  -- a page of the record that would have to be overwritten ends the record early
  let hit := full && st == 2 && (match x.rcd, ring.head? with
    | some r, some o => decide (r.first ≤ o.seq)
    | _, _ => false)
  let s := s.modUnit u fun x =>
    { x with nextSeq := seq + 1,
             ring := if st = 2 then ring else ring.drop (ring.length - cap),
             rcd := if hit then x.rcd.map fun r => { r with flags := r.flags ||| 2 } else x.rcd }
  s.pageOut u p

/-- Closes the open page of a unit (R399). -/
def State.pageClose (u : Nat) (s : State) : State :=
  match (s.unit u).cur with
  | none => s
  | some p => (s.modUnit u fun x => { x with cur := none }).pagePush u p

/-- The STREAMS pages that are due (R404): 16 bytes for each stream of the unit, at most 251 on a page. -/
def State.streamsPages (u : Nat) (s : State) : State :=
  let ds := (s.unitStrms u).map fun m =>
    let h := s.strmHandle m
    ({ stream := m, w := s.strmWidth m, setting := s.strmMode m * 16 + s.fld (F.REC_SCFG_EFF_EXP m), handle := h,
       dt := s.nominalDt h (s.fld (F.REC_SCFG_TASK m)), rpri := s.fld (F.REC_SCFG_RPRI m), flagSet := srcFlagSet h } : StrmDesc)
  let s := s.setFld F.REC_CFGGEN_GEN (s.fld F.REC_CFGGEN_GEN + 1)
  let s := s.modUnit u fun x => { x with streamsDue := false }
  forN (ds.length / 251 + 1) (fun i s =>
    let l := (ds.drop (251 * i)).take 251
    if i ≠ 0 ∧ l = [] then s
    else s.pagePush u { type := 1, first := s.tbc, last := s.tbc, used := 16 * l.length, streams := l,
                        gen := s.fld F.REC_CFGGEN_GEN }) s

/-- Adds an entry to the unit's page; a page that cannot hold it closes first (R399). -/
def State.pageAdd (u : Nat) (e : RecEntry) (s : State) : State :=
  let n := e.size
  let (a, b) := e.times
  let s := match (s.unit u).cur with
    | some p => if p.used + n ≤ 4028 then s else s.pageClose u
    | none => s
  let s := if (s.unit u).streamsDue then (s.pageClose u).streamsPages u else s
  s.modUnit u fun x =>
    match x.cur with
    | some p => { x with cur := some { p with used := p.used + n, entries := p.entries ++ [e], first := min p.first a, last := max p.last b } }
    | none => { x with cur := some { used := n, entries := [e], first := a, last := b, openAt := s.tbc, gen := s.fld F.REC_CFGGEN_GEN } }

/-! ### Blocks (R399, R402, R403) -/

/-- Closes the open block of a stream. -/
def State.blockClose (m : Nat) (s : State) : State :=
  let x := s.strm m
  if x.samples.isEmpty then s
  else
    let w := s.strmWidth m
    let e : RecEntry := .block m (blockCode w (x.samples.map fun p => toSigned w (ofSigned w p.1))).1 x.t0 (x.dt.getD 0) w
      (x.samples.map fun p => (toSigned w (ofSigned w p.1), p.2))
    (s.modStrm m fun x => { x with samples := [], dt := none }).pageAdd (s.strmUnit m) e

/-- Closes every open block of a unit. -/
def State.unitBlocks (u : Nat) (s : State) : State := forL (s.unitStrms u) State.blockClose s

/-- A unit-wide entry follows every block that holds an earlier sample (R403). -/
def State.unitEntry (u k code arg a b : Nat) (s : State) : State :=
  (s.unitBlocks u).pageAdd u (.special none k code arg a b)

/-- A gap opens in a stream: its block closes, an unfinished run is discarded, and no crossing forms across it (R396, R402,
R414). -/
def State.gapOpen (m reason t : Nat) (s : State) : State :=
  if (s.strm m).gap.isSome then s
  else (s.blockClose m).modStrm m fun x =>
    { x with gap := some (reason, t), lastAt := none, runN := 0, runSum := 0, runFlags := 0 }

/-- Does the stream's unit record it: EN, and not suspended? -/
def State.strmKeeps (s : State) (m : Nat) : Bool := s.flag (F.UNIT_CFG_EN (s.strmUnit m)) && !s.flag (F.REC_SCFG_SUSP m)

/-- Writes the entry of a gap that ends at `t`. -/
def State.gapEnd (m t : Nat) (s : State) : State :=
  match (s.strm m).gap with
  | none => s
  | some (r, a) =>
    (s.modStrm m fun x => { x with gap := none }).pageAdd (s.strmUnit m) (.special (some m) 26 r 0 a t)

/-- A kept value joins the stream's block. -/
def State.blockAdd (m : Nat) (v : Int) (flags t : Nat) (s : State) : State :=
  let x := s.strm m
  let lastT := x.t0 + x.dt.getD 0 * (x.samples.length - 1)
  let fits := !x.samples.isEmpty &&
    (match x.dt with
     | none => true
     | some d => t == lastT + d) &&
    !((x.samples.getLast?.map Prod.snd) != some flags && flagChanges x.samples == 15)
  let s := if fits then s else s.blockClose m
  let s := if (s.strm m).samples.isEmpty then
      s.modStrm m fun x => { x with t0 := t, dt := none, samples := [(v, flags)] }
    else s.modStrm m fun x =>
      { x with dt := some (x.dt.getD (t - x.t0)), samples := x.samples ++ [(v, flags)] }
  if (s.strm m).samples.length = 256 then s.blockClose m else s

/-- At the first sample of a run a new effective exponent reaches the stream: its block closes, and a decimation entry marks
the setting from this instant on (R399, R401, R409). -/
def State.decimateFrom (m t : Nat) (s : State) : State :=
  let e := s.fld (F.REC_SCFG_EFF_EXP m)
  if (s.strm m).runN ≠ 0 ∨ e = (s.strm m).exp then s
  else ((s.blockClose m).pageAdd (s.strmUnit m) (.special (some m) 27 (s.strmMode m * 16 + e) 0 t 0)).modStrm m fun x =>
    { x with exp := e }

/-- A sample goes through the decimation into the block (R396). -/
def State.decimate (m : Nat) (v : Int) (flags t : Nat) (s : State) : State :=
  let s := s.decimateFrom m t
  let x := s.strm m
  let e := x.exp
  let n := x.runN + 1
  if s.strmMode m = 2 then
    let sum := x.runSum + v
    let f := x.runFlags ||| flags
    let at_ := if x.runN = 0 then t else x.runAt
    if 2 ^ e ≤ n then
      (s.modStrm m fun x => { x with runN := 0, runSum := 0, runFlags := 0 }).blockAdd m ((sum * 128 / 2 ^ e + 1) / 2) f at_
    else s.modStrm m fun x => { x with runN := n, runSum := sum, runFlags := f, runAt := at_ }
  else
    let s := if x.runN = 0 then s.blockAdd m v flags t else s
    s.modStrm m fun x => { x with runN := if 2 ^ e ≤ n then 0 else n }

/-! ### Conditions and masks at ingest (R414, R418) -/

/-- The time in 1/256 counts at which the line from (t0, x0) to (t1, x1) meets `l`. -/
def crossTime (t0 : Nat) (x0 : Int) (t1 : Nat) (x1 l : Int) : Nat :=
  (((t0 : Int) * 256 + (l - x0) * 256 * ((t1 : Int) - t0) / (x1 - x0))).toNat

/-- What condition `c` of unit `u` fires between two samples: a time in 1/256 counts and a method, and the hysteresis
afterwards (rising, falling disarmed). -/
def State.condFires (s : State) (u c : Nat) (x0 : Int) (t0 : Nat) (x1 : Int) (t1 : Nat) (offR offF : Bool) (wide : Bool) :
    Option (Nat × Nat) × Bool × Bool :=
  let l1 := s.sfld (F.COND_L1_LIMIT u c)
  let l2 := s.sfld (F.COND_L2_LIMIT u c)
  let sense := s.fld (F.COND_C_SENSE u c)
  let kind := s.fld (F.COND_C_KIND u c)
  if kind = 1 then
    let ins (x : Int) : Bool := decide (l1 ≤ x) && decide (x ≤ l2)
    let fire := (ins x0 && !ins x1 && sense != 1) || (!ins x0 && ins x1 && sense != 0)
    let out := if ins x0 then x1 else x0
    (if fire then some (crossTime t0 x0 t1 x1 (if out < l1 then l1 else l2), 1) else none, offR, offF)
  else if kind = 2 then
    let fire := if wide then x0 != x1
      else (decide (x0 < x1) && sense != 1) || (decide (x1 < x0) && sense != 0)
    (if fire then some (t1 * 256, 2) else none, offR, offF)
  else
    let offR := offR && !decide (x1 < l1 - l2) && !decide (x0 < l1 - l2)
    let offF := offF && !decide (l1 + l2 < x1) && !decide (l1 + l2 < x0)
    let up := decide (x0 < l1) && decide (l1 ≤ x1) && sense != 1 && !offR
    let down := decide (l1 < x0) && decide (x1 ≤ l1) && sense != 0 && !offF
    (if up || down then some (crossTime t0 x0 t1 x1 l1, 1) else none, offR || up, offF || down)

/-- The mask point of a sample at `t` of a record with trigger `trig` (1/256 counts), if it has one (R418). -/
def State.maskPoint (s : State) (u trig t : Nat) : Option Nat :=
  let start := trig + s.fld (F.MASK_OFS_VALUE u) * 125 * 256
  let dt := max 1 (s.fld (F.MASK_DT_VALUE u)) * 125 * 256
  if t * 256 < start then none
  else
    let j := (t * 256 - start) / dt
    if j < min 16384 (s.fld (F.MASK_CFG_NPTS u)) then some j else none

/-- Address of point `j` of the upper limit of unit `u`'s mask; the lower one lies 64 KiB above. -/
def State.maskAddr (s : State) (u j : Nat) : Nat := lpddrBase + s.fld (F.MASK_BASE_BASE u) * 0x20000 + 4 * j

/-- Does a value at mask point `j` lie outside the envelope? -/
def State.maskBad (s : State) (u j : Nat) (x : Int) : Bool :=
  let base := s.maskAddr u j
  let lim (a : Nat) : Int := if s.unfitted a 4 then 0 else (s.word a).toInt
  decide (lim base < x) || decide (x < lim (base + 0x10000))

/-- Tests a sample of the mask stream against the record in progress. -/
def State.maskTest (u : Nat) (x : Int) (t : Nat) (s : State) : State :=
  match (s.unit u).rcd with
  | none => s
  | some r =>
    match (if s.fld (F.UNIT_STAT_STATE u) = 2 then s.maskPoint u r.t t else none) with
    | some j =>
      let bad := s.maskBad u j x
      let s := s.ifFitted (s.maskAddr u j) 0x10004 fun t => t
      if bad && (s.unit u).viol.isNone then s.modUnit u fun y => { y with viol := some (t, j) } else s
    | none => s

/-- The units' conditions and masks see a sample (R396, R414, R418). -/
def State.recTests (m : Nat) (v : Int) (t : Nat) (s : State) : State :=
  let x := s.strm m
  let wide := srcWidth (s.strmHandle m) != 1
  forN 16 (fun u s =>
    let s := forN 4 (fun c s =>
      if s.flag (F.COND_C_EN u c) && s.fld (F.COND_C_STREAM u c) == m then
        match x.lastAt with
        | none => s
        | some t0 =>
          let y := s.unit u
          let (hit, r, f) := s.condFires u c x.last t0 v t (y.offRise.contains c) (y.offFall.contains c) wide
          s.modUnit u fun y =>
            { y with offRise := if r then (if y.offRise.contains c then y.offRise else y.offRise ++ [c]) else y.offRise.filter (· != c),
                     offFall := if f then (if y.offFall.contains c then y.offFall else y.offFall ++ [c]) else y.offFall.filter (· != c),
                     hits := match hit with
                       | some (ti, me) => y.hits ++ [(c, ti, me)]
                       | none => y.hits }
      else s) s
    if s.flag (F.MASK_CFG_EN u) && s.fld (F.MASK_CFG_STREAM u) == m then s.maskTest u v t else s) s

/-- A stream ingests a sample of instant `t` (R395): tests see it, then its unit keeps it; missing instants before it are
a gap. -/
def State.ingest (m : Nat) (v : Int) (flags t reason : Nat) (s : State) : State :=
  let x := s.strm m
  let dt := s.nominalDt (s.strmHandle m) (s.fld (F.REC_SCFG_TASK m))
  let s := match x.lastAt with
    | some l => if l + dt < t then s.gapOpen m reason (l + dt) else s
    | none => s
  let s := s.recTests m v t
  let s := if s.strmKeeps m then (s.gapEnd m t).decimate m v flags t else s
  (s.modStrm m fun x => { x with last := v, lastAt := some t }).mirrorUpdate fun h => epClass h == 4 && h % 2 ^ 25 == m

/-- Every enabled stream whose handle is selected ingests its source's value of now. -/
def State.ingestAll (sel : Nat → Bool) (t reason : Nat) (s : State) : State :=
  forL (s.strmsOn.filter fun m => sel (s.strmHandle m)) (fun m s =>
    let (v, f) := s.srcSample (s.strmHandle m)
    s.ingest m v f t reason) s

/-- Every enabled stream whose handle is selected misses its instant. -/
def State.missAll (sel : Nat → Bool) (t reason : Nat) (s : State) : State :=
  forL (s.strmsOn.filter fun m => sel (s.strmHandle m)) (fun m s => s.gapOpen m reason t) s

end Sys2Proof.Machine
end

