-- ==== Sys2Proof/Machine/Recorder.lean ====
section
/-!
DEFINITION. The trace recorder's commands (R397, R404 to R422): streams, pages, ladder, NVMe, acquisition units and their
triggers.
-/

set_option Elab.async false

namespace Sys2Proof.Machine

/-! ### Streams -/

/-- REC_RATE follows the enabled streams (R397). -/
def State.rateShow (s : State) : State := s.setFld F.REC_RATE_MBPS (s.recRate s.strmsOn / 2 ^ 40)

/-- The configuration of a unit's streams changes: a STREAMS page is due before its next block (R404). -/
def State.streamsChange (u : Nat) (s : State) : State :=
  (s.pageClose u).modUnit u fun x => { x with streamsDue := true }

/-- The stream's effective exponent is its own plus the ladder's steps at its RPRI (R409). -/
def State.effExp (s : State) (m : Nat) : Nat :=
  min 10 (s.strmExp m + (s.recu.steps.filter fun p => p == s.fld (F.REC_SCFG_RPRI m)).length)

/-- A write of REC_SCFGm (R397, R404, R421). -/
def State.scfgWrite (m : Nat) (v : Word) (s : State) : State :=
  let was := s.strmOn m
  let s := if was then (s.blockClose m).streamsChange (s.strmUnit m) else s
  let s := s.plainWrite (F.REC_SCFG_EN m).addr v
  let bad := s.strmOn m && (!s.epMapped (s.strmHandle m) || 8000 * 2 ^ 40 < s.recRate s.strmsOn)
  let s := if bad then (s.setFlag (F.REC_SCFG_EN m) false).raise 19 0 else s
  let s := s.setFld (F.REC_SCFG_EFF_EXP m) (s.effExp m)
  let s := if s.strmOn m then
      ((s.epName (s.strmHandle m)).streamsChange (s.strmUnit m)).modStrm m fun _ => { exp := s.fld (F.REC_SCFG_EFF_EXP m) }
    else s.modStrm m fun x => { last := x.last }
  s.rateShow

/-- STREAM_ENABLE: a write of REC_SCFGm (R397). -/
def execStreamEnable (_o : Origin) (m : Fin 1024) (v : Word) (s : State) : Out := .next (s.scfgWrite m (v ||| 0x80000000))

/-- A write of REC_SSRCm; on an enabled stream a change of configuration (R404). -/
def State.ssrcWrite (m : Nat) (v : Word) (s : State) : State :=
  if s.strmOn m then
    let u := s.strmUnit m
    let s := ((s.blockClose m).streamsChange u).setReg (F.REC_SSRC_HANDLE m).addr v
    let s := if s.epMapped v.toNat then s.epName v.toNat else (s.setFlag (F.REC_SCFG_EN m) false).raise 19 0
    (s.modStrm m fun x => { exp := x.exp }).rateShow
  else s.setReg (F.REC_SSRC_HANDLE m).addr v

/-- BLOCK_CLOSE: a block whose first sample is 1 ms old closes (R399). -/
def execBlockClose (m : Fin 1024) (s : State) : Out :=
  .next (if !(s.strm m).samples.isEmpty && decide ((s.strm m).t0 + ms 1 ≤ s.tbc) then s.blockClose m else s)

/-! ### Suspension (R410) -/

/-- PAGE_CLOSE: 2 ms after its first entry a page closes (R399). -/
def execPageClose (u : Fin 16) (s : State) : Out :=
  .next (match (s.unit u).cur with
    | some p => if p.openAt + ms 2 ≤ s.tbc then s.pageClose u else s
    | none => s)

/-- STREAM_RESUME: one RPRI level resumes per 100 ms while the occupancy is below 50 %, in reverse order (R410). -/
def execStreamResume (s : State) : Out :=
  .next (
    if s.recu.susp.isEmpty || !decide (2 * s.spillUsed < s.spillCap) || decide (s.tbc < s.recu.resumeAt + ms 100) then s
    else
      let hi := s.recu.susp.foldl max 0
      let s := forL (s.strmsOn.filter fun m => s.fld (F.REC_SCFG_RPRI m) == hi) (fun m s => s.setFlag (F.REC_SCFG_SUSP m) false) s
      (s.modRec fun r => { r with susp := r.susp.filter (· != hi), resumeAt := s.tbc }).ladderShow)

/-! ### Ladder (R409) -/

/-- Effective exponents follow the ladder; the decimation source is active while a step is in force. -/
def State.ladderApply (s : State) : State :=
  let s := forL s.strmsOn (fun m s => s.setFld (F.REC_SCFG_EFF_EXP m) (s.effExp m)) s
  (if s.recu.steps.isEmpty then s.endCond 20 0 else s.raiseCond 20 0).ladderShow

/-- DECIMATION_STEP: above 75 %, one step every 10 ms at the lowest RPRI that has a stream below exponent 10; RPRI 7
never. -/
def execDecimationStep (s : State) : Out :=
  .next (
    if 4 * s.spillUsed ≤ 3 * s.spillCap ∨ s.tbc < s.recu.stepAt + ms 10 ∧ s.recu.stepAt ≠ 0 then s
    else match (List.range 7).find? fun p =>
        s.strmsOn.any fun m => s.fld (F.REC_SCFG_RPRI m) == p && s.fld (F.REC_SCFG_EFF_EXP m) < 10 with
      | some p => (s.modRec fun r => { r with steps := r.steps ++ [p], stepAt := s.tbc }).ladderApply
      | none => s)

/-- DECIMATION_UNDO: below 50 % for 100 ms, one step is undone every 100 ms, highest RPRI first. -/
def execDecimationUndo (s : State) : Out :=
  .next (match s.recu.lowSince with
    | some t =>
      if s.recu.steps.isEmpty || decide (s.tbc < t + ms 100) || decide (s.tbc < s.recu.undoAt + ms 100) then s
      else
        let hi := s.recu.steps.foldl max 0
        (s.modRec fun r => { r with steps := r.steps.erase hi, undoAt := s.tbc }).ladderApply
    | none => s)

/-! ### NVMe (R405, R406) -/

/-- Pages kept back enter the spill buffer while there is room. -/
def State.unkeep (u : Nat) (s : State) : State :=
  let room := s.spillCap - s.spillUsed - 255
  let x := s.unit u
  let s := s.modUnit u fun y => { y with spill := y.spill ++ x.kept.take room, kept := x.kept.drop room }
  s.spillNote

/-- A page that every output has taken leaves the spill buffer (R408). -/
def State.spillDrop (u : Nat) (s : State) : State :=
  (((s.modUnit u fun x => { x with spill := x.spill.filter fun p => p.nvme || p.host }).unkeep u).traceSend u).nvmeSend u

/-- NVME_BRINGUP: after DAWN the link trains and the controller is identified (R405): `drive` is none for one that is not used,
else whether its LBAs hold 4,096 bytes. -/
def execNvmeBringup (linkUp gen4 speedOk : Bool) (lanes : Fin 5) (drive : Option Bool) (s : State) : Out :=
  .next (
    if !s.flag F.PCIE_CTRL_EN || s.inMode [Mode.vault, Mode.dawn] then s
    else
      let s := s.setFlag F.PCIE_STAT_LINK_UP linkUp
      if !linkUp then s.setFlag F.PCIE_STAT_NVME_READY false
      else
        let s := (s.setFld F.PCIE_STAT_WIDTH lanes).setFlag F.PCIE_STAT_GEN (gen4 && s.flag F.PCIE_CTRL_GEN4)
        match (if speedOk then drive else none) with
        | some b =>
          let s := s.modRec fun r => { r with lbas := if b then 1 else 8 }
          forN 16 (fun u s => (s.modUnit u fun x => { x with inq := 0 }).nvmeSend u) (s.setFlag F.PCIE_STAT_NVME_READY true)
        | none => (s.setFlag F.PCIE_STAT_NVME_READY false).raise 18 0)

/-- NVME_WRITE_COMPLETE: the oldest Write of a unit completes; an error is retried up to three times, then the unit's
output pauses (R406). -/
def execNvmeWriteComplete (u : Fin 16) (ok : Bool) (s : State) : Out :=
  .next (match (s.unit u).spill.find? Page.nvme with
    | none => s
    | some p =>
      if !s.flag F.PCIE_STAT_NVME_READY || (s.unit u).paused then s
      else if ok then
        (s.modUnit u fun x =>
          { x with retries := 0, inq := x.inq - 1, spill := x.spill.map fun q => if q.seq = p.seq ∧ q.type = p.type then { q with nvme := false } else q }).spillDrop u
      else if (s.unit u).retries < 3 then
        ((s.modUnit u fun x => { x with retries := x.retries + 1 }).incSat F.NVME_CNT_RETRY).nvmePut u p
      else
        (((s.modUnit u fun x => { x with retries := 0, inq := 0, paused := true }).incSat F.NVME_CNT_NVME_FAIL).setFlag F.PCIE_STAT_PAUSED
          true).raise 18 u)

/-- NVME_FLUSH: a Flush every FLUSH_MS, and at the start of the dusk sequence (R406). -/
def execNvmeFlush (u : Fin 16) (s : State) : Out :=
  let f := s.fld F.REC_CTRL_FLUSH_MS
  .next (if s.flag F.PCIE_STAT_NVME_READY && bitOf (s.fld (F.UNIT_CFG_OUT u)) 0 &&
      (s.sys.dusk.isSome || (f != 0 && decide ((s.unit u).flushAt + ms f ≤ s.tbc))) then
    { s.modUnit u (fun x => { x with flushAt := s.tbc }) with outbox := .nvme 1 u 0 :: s.outbox }
  else s)

/-- RETRY: a write of PCIE_CMD resumes the paused outputs at the next page (R406, R422). -/
def State.pcieCmd (key code : Nat) (s : State) : State :=
  if key ≠ 0xA5 ∨ code ≠ 1 then s
  else
    let s := s.setFlag F.PCIE_STAT_PAUSED false
    forN 16 (fun u s => if (s.unit u).paused then (s.modUnit u fun x => { x with paused := false }).nvmeSend u else s) s
def execRetry (_o : Origin) (key : BitVec 8) (s : State) : Out := .next (s.pcieCmd key.toNat 1)

/-! ### Units (R411, R415) -/

def State.unitState (s : State) (u : Nat) : Nat := s.fld (F.UNIT_STAT_STATE u)
def State.setUnitState (u v : Nat) (s : State) : State := s.setFld (F.UNIT_STAT_STATE u) v

/-- PRE_TIME, POST_TIME and the like in TBC counts; above 10 s acts as 10 s. -/
def State.preTime (s : State) (u : Nat) : Nat := us (min 10000000 (s.fld (F.PRE_TIME_US u)))
def State.postTime (s : State) (u : Nat) : Nat := us (min 10000000 (s.fld (F.POST_TIME_US u)))

/-- A write of UNIT_CFG: EN makes a STREAMS page due, and a gap that a stream is in counts from here (R403, R404); clearing EN
closes blocks and the page. -/
def State.unitCfgWrite (u : Nat) (v : Word) (s : State) : State :=
  let was := s.flag (F.UNIT_CFG_EN u)
  let s := if was && !v.getLsbD 31 then (s.unitBlocks u).pageClose u else s
  let s := s.plainWrite (F.UNIT_CFG_EN u).addr v
  if !was && v.getLsbD 31 then
    (forL (s.unitStrms u) (fun m s => s.modStrm m fun x =>
      { x with gap := x.gap.map fun g => (g.1, s.tbc), runN := 0, runSum := 0, runFlags := 0 }) s).modUnit u fun x =>
        { x with streamsDue := true }
  else s

/-- Begins acquisition with an empty ring. -/
def State.unitArm (u : Nat) (s : State) : State :=
  (s.modUnit u fun x =>
    { x with ring := [], armedAt := s.tbc, hits := [], viol := none, rcd := none, copied := false, toDone := false, toMask := false,
             offRise := [], offFall := [] }).setUnitState u (if s.fld (F.UNIT_CFG_MODE u) = 3 then 6 else 1)

/-- The pages of the ring that a record of a trigger at `t` begins with. -/
def State.prePages (s : State) (u t : Nat) : List Page :=
  (s.unit u).ring.filter fun p => t / 256 - s.preTime u ≤ p.last

/-- The record that a trigger at `t` starts. -/
def State.newRecord (s : State) (u mask primary t method : Nat) : Record :=
  let x := s.unit u
  let pages := s.prePages u t
  let first := match pages with
    | p :: _ => max x.armedAt p.first
    | [] => match x.cur with
      | some c => max x.armedAt (if x.ring.isEmpty then x.armedAt else c.first)
      | none => x.armedAt
  let act := t / 256 - first
  { num := x.records + 1, mask := mask, primary := primary, t := t, method := method, actPre := act,
    flags := b2n (decide (act < s.preTime u)) + 8 * b2n (bitOf mask 15),
    ot := s.pageOt (t / 256), missed := s.fld (F.MISSED_TRIG_COUNT u),
    first := match pages with
      | p :: _ => p.seq
      | [] => x.nextSeq }

/-- A sample already ingested is tested against the mask. -/
def State.maskLast (u : Nat) (s : State) : State :=
  if s.flag (F.MASK_CFG_EN u) then
    let x := s.strm (s.fld (F.MASK_CFG_STREAM u))
    match x.lastAt with
    | some l => s.maskTest u x.last l
    | none => s
  else s

/-- A record starts at trigger time `t` (R415, R416): its first page, ACT_PRE, the trigger entry; a sample already
ingested is tested against the mask. -/
def State.recordStart (u mask primary t method : Nat) (s : State) : State :=
  let r := s.newRecord u mask primary t method
  (((s.modUnit u fun x => { x with rcd := some r, ring := s.prePages u t, records := r.num }).unitEntry
    u 29 mask r.num (t / 256) (t % 256 + primary * 256)).setUnitState u 2).maskLast u

/-- The record ends with the page that closes now; it is copied out and HOLDOFF runs (R415). -/
def State.recordEnd (u flags : Nat) (s : State) : State :=
  let s := (s.unitBlocks u).pageClose u
  let s := s.modUnit u fun x =>
    { x with rearmAt := s.tbc, copied := false,
             rcd := x.rcd.map fun r => { r with flags := r.flags ||| flags, last := x.nextSeq - 1 } }
  s.setUnitState u 3

/-- REARM ends: the event, the count, and the next state (R415, R419). -/
def State.rearmEnd (u : Nat) (s : State) : State :=
  let x := s.unit u
  if s.unitState u ≠ 3 ∨ !x.copied ∨ s.tbc < x.rearmAt + us (s.fld (F.UNIT_TMO_HOLDOFF u)) then s
  else
    let num := (x.rcd.map Record.num).getD 0
    let s := (s.hwEvent (s.fld (F.UNIT_EVT_EVT u)) (BitVec.ofNat 32 num)).incSat (F.RECORDS_COUNT u)
    if x.toMask then s.setUnitState u 5
    else if x.toDone ∨ s.fld (F.UNIT_CFG_MODE u) = 2 then s.setUnitState u 4
    else s.unitArm u

/-- The result of a unit command. -/
def State.unitResult (u code res : Nat) (s : State) : State :=
  (s.setFld (F.UNIT_STAT_CODE u) code).setFld (F.UNIT_STAT_RESULT u) res

/-- A write of UNIT_CMD (R411). -/
def State.unitCmd (u key code : Nat) (s : State) : State :=
  let st := s.unitState u
  if key ≠ 0xA5 then s.setFld (F.UNIT_STAT_RESULT u) Res.badKey
  else if code = 1 ∧ (st = 0 ∨ st = 4 ∨ st = 5) then (s.unitArm u).unitResult u code Res.ok
  else if code = 2 ∧ st = 1 then (s.setUnitState u 4).unitResult u code Res.ok
  else if code = 2 ∧ st = 2 then
    ((s.recordEnd u 2).modUnit u fun x => { x with toDone := true }).unitResult u code Res.ok
  else if code = 2 ∧ st = 3 then (s.modUnit u fun x => { x with toDone := true }).unitResult u code Res.ok
  else if code = 2 ∧ st = 6 then
    (((s.recordStart u 0 0 (s.tbc * 256) 2).recordEnd u 0).modUnit u fun x => { x with toDone := true }).unitResult u code Res.ok
  else if code = 3 ∧ st = 1 then
    (s.modUnit u fun x => { x with hits := x.hits ++ [(14, 0, 2)] }).unitResult u code Res.ok
  else if code = 4 ∧ (st = 4 ∨ st = 5) then
    ((s.modUnit u fun x => { x with ring := [], rcd := none }).setUnitState u 0).unitResult u code Res.ok
  else s.unitResult u code Res.refusedState

/-- ARM, STOP, FORCE and CLEAR of a unit: writes of UNIT_CMD. -/
def execUnitArm (_o : Origin) (u : Fin 16) (key : BitVec 8) (s : State) : Out := .next (s.unitCmd u key.toNat 1)
def execUnitStop (_o : Origin) (u : Fin 16) (key : BitVec 8) (s : State) : Out := .next (s.unitCmd u key.toNat 2)
def execForce (_o : Origin) (u : Fin 16) (key : BitVec 8) (s : State) : Out := .next (s.unitCmd u key.toNat 3)
def execUnitClear (_o : Origin) (u : Fin 16) (key : BitVec 8) (s : State) : Out := .next (s.unitCmd u key.toNat 4)

/-! ### Triggers (R412, R413, R417, R419) -/

/-- Is a pin edge one that the unit's TRIG_EN names, and not of its own pulse's line? -/
def State.edgeWanted (s : State) (u src : Nat) (rising : Bool) (ch t : Nat) : Bool :=
  if 4 ≤ src ∧ src < 12 then
    s.fbit (F.TRIG_EN_TRIGL_POL u) (src - 4) == rising &&
    !(s.flag (F.UNIT_CFG_TOUT_EN u) && s.fld (F.UNIT_CFG_TOUT_LINE u) == src - 4 &&
      (match (s.unit u).toutEnd with
       | some e => decide (t ≤ e)
       | none => false))
  else src == 12 && s.fld (F.TRIG_EN_FIO_CH u) == ch && s.flag (F.TRIG_EN_FIO_POL u) == !rising

/-- The trigger output: TRIGL line TOUT_LINE goes low for 1 µs (R412). -/
def State.toutStart (u : Nat) (s : State) : State :=
  if s.flag (F.UNIT_CFG_TOUT_EN u) then
    let k := s.fld (F.UNIT_CFG_TOUT_LINE u)
    let s := s.modUnit u fun x => { x with toutEnd := some (s.tbc + 250) }
    { s with ilm := { s.ilm with trigl := withBit s.ilm.trigl k true } }.ilmEval
  else s

/-- TRIGGER_EVALUATION: at g + 500 ns unit `u` combines its true sources into one trigger and advances its record. `edges`
are the pin edges timed in (g − 500 ns, g]: source, rising, channel of source 12, TBC count and fraction. -/
def execTriggerEvaluation (u : Fin 16) (edges : List (Nat × Bool × Nat × Nat × Nat)) (s : State) : Out :=
  if !onGrid s.tbc || s.tbc < 125 || s.inMode [Mode.vault, Mode.dawn] then .next s else
  let g := s.tbc - 125
  let x := s.unit u
  let st := s.unitState u
  let pins := edges.filterMap fun e =>
    if s.edgeWanted u e.1 e.2.1 e.2.2.1 e.2.2.2.1 then some (e.1, e.2.2.2.1 * 256 + e.2.2.2.2 % 256, 0) else none
  let all := (x.hits.map fun h => if h.1 = 14 ∨ h.1 = 15 then (h.1, g * 256, 2) else h) ++ pins
  let real := all.filter fun h => h.1 != 15 && s.fbit (F.TRIG_EN_SRC u) h.1
  let used := if real.isEmpty then all.filter fun h => h.1 == 15 else real
  let s := s.modUnit u fun x => { x with hits := [] }
  -- a record in POST: a violation first, then the end of POST_TIME
  let s := if st = 2 then
      match (s.unit u).viol, (s.unit u).rcd with
      | some (t, j), some r =>
        let s := s.modUnit u fun x =>
          { x with toMask := true, rcd := some { r with violAt := t, violPt := j } }
        let s := s.recordEnd u 4
        (s.hwEvent (s.fld (F.UNIT_EVT_EVT u) + 1) (BitVec.ofNat 32 r.num)).raise 22 u
      | none, some r =>
        if r.t + s.postTime u * 256 ≤ g * 256 then s.recordEnd u 0
        else if bitOf r.flags 1 then s.recordEnd u 0 else s
      | _, none => s
    else s
  match used with
  | [] => .next s
  | h :: _ =>
    let mask := (List.range 16).foldl (fun m i => if used.any (fun e => e.1 == i) then m + 2 ^ i else m) 0
    let prim := used.foldl (fun p e => min p e.1) h.1
    let first := used.foldl (fun (b : Nat × Nat × Nat) e =>
      if e.2.1 < b.2.1 ∨ (e.2.1 = b.2.1 ∧ e.1 < b.1) then e else b) h
    .next (
      if st = 1 then (s.recordStart u mask prim first.2.1 first.2.2).toutStart u
      else if st = 2 then (s.modUnit u fun x =>
        { x with rcd := x.rcd.map fun r => { r with late := min 65535 (r.late + 1) } }).toutStart u
      else if st = 3 ∨ st = 4 ∨ st = 5 then s.incSat (F.MISSED_TRIG_COUNT u)
      else s)

/-- AUTO_TIMEOUT: AUTO_TO ms after ARMED began with no trigger, source 15 joins the next evaluation (R415). -/
def execAutoTimeout (u : Fin 16) (s : State) : Out :=
  let due := (s.unit u).armedAt + ms (max 1 (s.fld (F.UNIT_TMO_AUTO_TO u)))
  .next (if s.unitState u = 1 ∧ s.fld (F.UNIT_CFG_MODE u) = 1 ∧ due ≤ s.tbc ∧
      !(s.unit u).hits.any (fun h => h.1 == 15) then
    s.modUnit u fun x => { x with hits := x.hits ++ [(15, 0, 2)] } else s)

/-- The pages of a record's copy: the RECORD page, and the record's pages with their numbers (R415, R416). -/
def State.recordPages (s : State) (u : Nat) : List Page :=
  match (s.unit u).rcd with
  | some r =>
    r.page (s.fld F.REC_MODID_ID) (s.otDom + (if s.otValid then 0 else 128)) (s.fld F.REC_CFGGEN_GEN) s.vault.pcyc :: (s.unit u).ring
  | none => []

/-- A page of a record goes to the record ring on NVMe, where pages follow one another from its first LBA on (R415,
assumption 35). -/
def State.recordPut (u : Nat) (p : Page) (s : State) : State :=
  let x := s.unit u
  let lba := s.fld (F.RBASE_L u) + s.fld (F.RBASE_H u) * 2 ^ 32 + x.recPos % s.fld (F.RLEN_PAGES u) * s.recu.lbas
  { s.modUnit u (fun x => { x with recPos := x.recPos + 1 }) with outbox := .nvme 2 u p.seq lba (p.bytes u) :: s.outbox }

/-- The record is copied to the outputs that take it. -/
def State.recordCopy (u : Nat) (s : State) : State :=
  let ps := s.recordPages u
  let s := if s.flag (F.UNIT_CFG_RECOUT u) && s.fld (F.RLEN_PAGES u) != 0 then forL ps (State.recordPut u) s else s
  match (s.unit u).traceTo with
  | some i =>
    if bitOf (s.fld (F.UNIT_CFG_OUT u)) 1 then
      forL ps (fun p s => { s with outbox := .trace i u 4 p.seq (p.bytes u) :: s.outbox }) s
    else s
  | none => s

/-- RECORD_COPY_COMPLETE: the record's last page has been copied out; copies wait while the spill buffer is above 75 %
(R415). -/
def execRecordCopyComplete (u : Fin 16) (s : State) : Out :=
  .next (if s.unitState u = 3 ∧ !(s.unit u).copied ∧ 4 * s.spillUsed ≤ 3 * s.spillCap then
    ((s.modUnit u fun x => { x with copied := true }).recordCopy u).rearmEnd u
  else s)

/-- HOLDOFF_EXPIRY (R415). -/
def execHoldoffExpiry (u : Fin 16) (s : State) : Out := .next (s.rearmEnd u)

/-- TRIGGER_OUTPUT_END: the pulse on the TRIGL line ends after 1 µs (R412). -/
def execTriggerOutputEnd (u : Fin 16) (s : State) : Out :=
  .next (match (s.unit u).toutEnd with
    | some t =>
      if t ≤ s.tbc then
        let s := s.modUnit u fun x => { x with toutEnd := none }
        { s with ilm := { s.ilm with trigl := withBit s.ilm.trigl (s.fld (F.UNIT_CFG_TOUT_LINE u)) false } }.ilmEval
      else s
    | none => s)

/-! ### Markers, discontinuities, dusk, registers -/

/-- A MARK of sequencer `n` at tick `t` (R317, R401): a marker in every named unit, a trigger with TRIG. -/
def State.recMark (units : Nat) (trig : Bool) (code n step id t : Nat) (s : State) : State :=
  forN 16 (fun u s =>
    if bitOf units u then
      let s := if s.flag (F.UNIT_CFG_EN u) then s.unitEntry u 28 (code % 65536) (n + step * 65536) t id else s
      if trig then s.modUnit u fun x => { x with hits := x.hits ++ [(13, t * 256, 2)] } else s
    else s) s

/-- An accepted step of OT leaves a discontinuity in every unit that records (R401). -/
def State.recDiscontinuity (t : Nat) (step : Int) (s : State) : State :=
  forN 16 (fun u s => if s.flag (F.UNIT_CFG_EN u) then s.unitEntry u 30 0 0 t (ofSigned 64 step) else s) s

/-- The dusk sequence abandons acquisition (R411). -/
def State.recDusk (s : State) : State :=
  forN 16 (fun u s => if s.unitState u = 0 then s
    else (s.modUnit u fun x => { x with rcd := none, ring := [], hits := [], viol := none }).setUnitState u 0) s

/-- DAWN's recovery of the rings (R407): `found` gives for a unit the SEQ, last instant and PCYC of its highest valid
page. -/
def State.recRecover (found : List (Nat × Nat × Nat × Nat)) (s : State) : State :=
  forL found (fun f s =>
    let s := s.modUnit f.1 fun x => { x with nextSeq := f.2.1 + 1 }
    s.pageAdd f.1 (.special none 26 6 f.2.2.2 f.2.2.1 s.tbc)) s

/-- A write of a REC register that is neither a stream's nor UNIT_CFG nor UNIT_CMD (R421). -/
def State.recWrite (a : Nat) (v : Word) (s : State) : State :=
  let off := a - 0xF00C0000
  if off = 4 ∨ off = 8 ∨ off = 0xC then
    (if (List.range 16).any fun u => s.flag (F.UNIT_CFG_EN u) then s else s.plainWrite a v)
  else if 0x100 ≤ off ∧ off < 0x1100 then
    let o := off % 0x100
    let st := s.unitState (off / 0x100 - 1)
    if 0x18 ≤ o ∧ o < 0x60 ∧ st ≠ 0 ∧ st ≠ 4 ∧ st ≠ 5 then s else s.plainWrite a v
  else s.plainWrite a v

end Sys2Proof.Machine
end

