-- ==== Sys2Proof/Machine/Publish.lean ====
section
/-!
DEFINITION. Where a sample, an input image or an activation's result becomes visible: mailboxes, canvas, mirror words and
recorder ingest (R28, R224, R252, R258, R391, R395, R455).
-/

set_option Elab.async false

namespace Sys2Proof.Machine

/-! ### Samples (R28) -/

/-- Does the handle name channel `n` as a source of this kind? -/
def isChan (kinds : List SrcKind) (n h : Nat) : Bool := epClass h == 1 && h % 128 == n && kinds.contains (srcKind h)

/-- What the streams of channel `n` get of grid point `g` after its `publish` answered `ok`: the word, or a gap
(R395, R402). The list collects the channels delivered. -/
def State.deliverStreams (n g : Nat) (fresh ok : Bool) (l : List Nat) (t : State) : List Nat × State :=
  let kinds : List SrcKind := [.sample, .chanWord]
  if ok then (n :: l, if fresh then t.ingestAll (isChan kinds n) g 2 else t.missAll (isChan kinds n) g 2)
  else (l, if (t.chan n).due.isNone then t.missAll (isChan kinds n) g 1 else t)

/-- The SNS word of grid point `g`, if one came, enters the canvas and its streams with the sample (R28, R157). -/
def State.deliverSense (n g : Nat) (s : State) : State :=
  match (s.chan n).rxSns with
  | none => s
  | some w =>
    let s := s.modChan n fun c => { c with rxSns := none }
    if s.unavReason n ≠ 0 then s
    else (s.setWord (chWord n 2) w).ingestAll (isChan [.sense] n) g 2

/-- A channel delivered at this instant. -/
def State.deliver (n : Nat) (acc : List Nat × State) : List Nat × State :=
  match (acc.2.chan n).due with
  | none => acc
  | some g =>
    let r := acc.2.publish n
    let t := if (r.2.chan n).due.isNone then r.2.deliverSense n g else r.2
    t.deliverStreams n g (acc.2.chan n).rx.isSome r.1 acc.1

/-- 1-bit streams take the state of the grid point. -/
def State.pinStreams (s : State) : State :=
  forL (s.strmsOn.filter fun m => srcKind (s.strmHandle m) == .pin && (s.strm m).lastAt != some s.tbc) (fun m t =>
    let (v, f) := t.srcSample (t.strmHandle m)
    t.ingest m v f t.tbc 7) s

/-- The mailboxes and mirror words after the channels `done` were delivered (R252, R391). -/
def State.delivered (done : List Nat) (s : State) : State :=
  let s := forN 8 (fun e t => t.mbxUpdate e (done.any fun n => n / 16 == e)) s
  if done.isEmpty then s else s.mirrorUpdate fun h => epClass h == 1 && done.contains (h % 128)

/-- SAMPLE_DELIVERY: what was converted 500 ns ago reaches the canvas, the averages, the mailboxes, the mirror words and
the recorder (R28, R252, R391, R395). -/
def execSampleDelivery (s : State) : Out :=
  if !onGrid s.tbc then .next s else
  let r := (List.range 128).foldl (fun acc n => State.deliver n acc) (([] : List Nat), s)
  .next (r.2.delivered r.1).pinStreams

/-- The SNS word of the last conversion with TAG `tag` (R214). -/
def State.senseWord (s : State) (n tag : Nat) : Word :=
  let c := s.chan n
  BitVec.ofNat 32 (ofSigned 12 c.snsCode * 2 ^ 20 + b2n c.snsHi * 2 ^ 19 + b2n c.snsLo * 2 ^ 18 + b2n c.refUns * 2 ^ 17 +
    b2n (s.staleNow n 4) * 2 ^ 16 + tag)

/-- UPSTREAM_SENSE_BLOCK: a good one brings the SNS word, which is delivered with the sample of its grid point (R15, R28,
R214, R395). -/
def execUpstreamSenseBlock (n : Fin 128) (crcOk : Bool) (s : State) : Out :=
  if s.dieDark (chDie n) then .next s else
  let (bad, s) := s.blockCrc n true crcOk
  if bad.isNone then
    let c := s.chan n
    if c.senseDue && s.unavReason n == 0 then
      .next (s.modChan n fun c =>
        { c with senseDue := false, snsTag := (c.snsTag + 1) % 512, rxSns := some (s.senseWord n ((c.snsTag + 1) % 512)) })
    else .next (s.modChan n fun c => { c with senseDue := false })
  else
    let s := if (s.chan n).senseDue then s.missAll (isChan [.sense] n) (s.chan n).convAt 2 else s
    .next ((s.modChan n fun c => { c with senseDue := false }).raise (208 + chRegion n) n 0 (bad == some true))

/-! ### Input images (R455) -/

/-- INPUT_PUBLISH: at P_k the input image of cycle k is published; mirror words and streams of the link follow (R391, R395,
R455). -/
def execInputPublish (n : Fin 16) (s : State) : Out :=
  let t := s.slPublish n
  if (t.link n).published = (s.link n).published then .next t else
  let t := t.mirrorUpdate fun h => epClass h == 0 && epLink h == n
  let sample := t.slPhase n + (t.link n).published * t.slPeriod n
  .next (t.ingestAll (fun h => epClass h == 0 && epLink h == n) ((t.tbc : Int) - (t.slTime n - sample) / 4).toNat 4)

/-! ### Activations (R258) -/

/-- ACTIVATION_END: the running activation has issued the second delay slot of its ACT; the engine goes on with the
preempted one, a LATE activation becomes ready, and mirror words and streams of the slot take its results (R258, R267,
R391, R395). -/
def execActivationEnd (e : Fin 8) (s : State) : Out :=
  .next (match (s.engine e).stack with
    | [] => s
    | a :: _ =>
      if !a.ended && !a.std then s
      else
        let g := a.slot
        let tick := a.readyAt - 125
        let s := (s.finishAct e a).dropAct e a.set
        let s := if s.flag (F.LE_SLOTSTAT_PENDING g) then
            let s := s.setFlag (F.LE_SLOTSTAT_PENDING g) false
            if s.tasksRun && s.flag (F.LE_SLOTCFG_EN g) then s.makeReady g else s
          else s
        let mine (h : Nat) : Bool := epClass h == 3 && h % 512 == g
        (s.mirrorUpdate mine).ingestAll mine tick 3)

end Sys2Proof.Machine
end

