-- ==== Sys2Proof/Machine/Time.lean ====
section
/-!
DEFINITION. Time (R423 to R444): domain updates, the states of a domain and its PTP instance, which domain OT follows,
jumps, and the pulse outputs. Times are integers of 2^-32 ns.
-/

set_option Elab.async false

namespace Sys2Proof.Machine

/-- Changes the time engine's own state. -/
def State.modTime (f : TimeU → TimeU) (s : State) : State := { s with time := f s.time }

/-! Domain states (R428). -/
namespace Dom
def disabled : Nat := 0
def listening : Nat := 1
def uncalibrated : Nat := 2
def locked : Nat := 3
def holdover : Nat := 4
def invalid : Nat := 5
end Dom

def State.domState (s : State) (d : Nat) : Nat := s.fld (F.DOM_STAT_STATE d)
def State.domValid (s : State) (d : Nat) : Bool := s.flag (F.DOM_STAT_VALID d)
def State.domExcl (s : State) (d : Nat) : Bool := s.fbit F.TIME_STAT_JEXCL d
def State.domSrc (s : State) (d : Nat) : Nat := s.fld (F.DOM_CFG_SRC d)

/-- T_d + K_d at TBC count `c`. -/
def State.domSum (s : State) (d c : Nat) : Int := domTime (s.dom d) c + s.domK d * nsU

/-- PREF: 3 acts as 0 (R444). -/
def State.pref (s : State) : Nat := s.fld F.TIME_SEL_PREF % 3

/-! ### Pulse outputs (R441 to R443) -/

def State.tso (s : State) (t : Nat) : Tso := tget {} s.time.tsos t
def State.modTso (t : Nat) (f : Tso → Tso) (s : State) : State := s.modTime fun u => { u with tsos := tmod {} t f u.tsos }

/-- START and PER of output `t` in ns. -/
def State.tsoStart (s : State) (t : Nat) : Int := s.fld2 (F.TSO_START_L_VALUE t) (F.TSO_START_H_VALUE t)
def State.tsoPer (s : State) (t : Nat) : Int := s.fld (F.TSO_PER_NS t)

/-- The first index whose instant is at or after `from_` (2^-32 ns). -/
def State.tsoFirst (s : State) (t : Nat) (from_ : Int) : Nat :=
  if s.tsoPer t = 0 then 0 else (-((s.tsoStart t * nsU - from_) / (s.tsoPer t * nsU))).toNat

/-- Chooses the first pulse of an enabled output, once OT is valid: at least 2 µs after OT; a ONCE output whose START is
nearer gives none (R443). -/
def State.tsoArm (t : Nat) (s : State) : State :=
  if !s.flag (F.TSO_CFG_EN t) || !s.otValid then s
  else
    let lim := s.otAt s.tbc + 2000 * nsU
    if s.flag (F.TSO_CFG_MODE t) then s.modTso t fun x => { x with next := some (s.tsoFirst t lim), fired := false }
    else if s.tsoStart t * nsU < lim then
      (s.setFld (F.TSO_MISS_COUNT t) 1).setFlag (F.TSO_CFG_EN t) false
    else s.modTso t fun x => { x with next := some 0, fired := false }

/-- After an accepted step (R443): backward, the pulse after IDX; forward, the first at or after the new OT, the skipped
ones counted in MISS. -/
def State.tsoStep (t : Nat) (s : State) : State :=
  match (s.tso t).next with
  | none => s
  | some n =>
    let ot := s.otAt s.tbc
    if s.flag (F.TSO_CFG_MODE t) then
      let first := s.tsoFirst t ot
      if n < first then (s.addSat (F.TSO_MISS_COUNT t) (first - n)).modTso t fun x => { x with next := some first }
      else if (s.tso t).fired then s.modTso t fun x => { x with next := some (s.fld (F.TSO_IDX_COUNT t) + 1) }
      else s
    else if s.tsoStart t * nsU < ot then
      ((s.incSat (F.TSO_MISS_COUNT t)).setFlag (F.TSO_CFG_EN t) false).modTso t fun x => { x with next := none }
    else s

/-- A write of TSO_CFG (R442, R444): MODE only while EN is 0; EN = 1 is refused with the TIME configuration source when PER
or WIDTH is out of range. -/
def State.tsoCfgWrite (t : Nat) (v : Word) (s : State) : State :=
  let was := s.flag (F.TSO_CFG_EN t)
  let v := if was then putBits v 30 1 (s.fld (F.TSO_CFG_MODE t)) else v
  let s := s.plainWrite (F.TSO_CFG_EN t).addr v
  if was then
    (if s.flag (F.TSO_CFG_EN t) then s
    else
      let s := if (s.tso t).endsAt.isSome then s.emit (.pulse t (s.fld (F.TSO_IDX_COUNT t)) 0) else s
      s.modTso t fun x => { x with next := none, endsAt := none })
  else if !s.flag (F.TSO_CFG_EN t) then s
  else
    let per := s.tsoPer t
    let w : Int := s.fld (F.TSO_WIDTH_NS t)
    if (s.flag (F.TSO_CFG_MODE t) && decide (per < 1000)) || decide (w < 8) || decide (per - 8 < w) then
      (s.setFlag (F.TSO_CFG_EN t) false).raise 12 t
    else (s.modTso t fun _ => {}).tsoArm t

/-- TSO_ENABLE: a write of TSO_CFG (R442). -/
def execTsoEnable (_o : Origin) (t : Fin 8) (v : Word) (s : State) : Out := .next (s.tsoCfgWrite t v)

/-- TSO_PULSE: OT reaches t_n, and pulse n fires if n is greater than IDX (R441, R443). -/
def execTsoPulse (t : Fin 8) (s : State) : Out :=
  .next (match (s.tso t).next with
    | none => s
    | some n =>
      if s.flag (F.TSO_CFG_EN t) ∧ s.otValid ∧ !s.inMode [Mode.vault, Mode.dawn] ∧ (s.tso t).endsAt.isNone ∧
          (s.tsoStart t + n * s.tsoPer t) * nsU ≤ s.otAt s.tbc then
        let s := (s.setFld (F.TSO_IDX_COUNT t) n).emit (.pulse t n 1)
        s.modTso t fun x =>
          { x with next := if s.flag (F.TSO_CFG_MODE t) then some (n + 1) else none, fired := true,
                   endsAt := some (s.tbc + (s.fld (F.TSO_WIDTH_NS t) + 3) / 4) }
      else s)

/-- TSO_PULSE_END: WIDTH after its leading edge the pulse ends; in ONCE mode EN clears (R441, R443). -/
def execTsoPulseEnd (t : Fin 8) (s : State) : Out :=
  .next (match (s.tso t).endsAt with
    | none => s
    | some e =>
      if e ≤ s.tbc then
        let s := (s.modTso t fun x => { x with endsAt := none }).emit (.pulse t (s.fld (F.TSO_IDX_COUNT t)) 0)
        if s.flag (F.TSO_CFG_MODE t) then s else s.setFlag (F.TSO_CFG_EN t) false
      else s)

/-! ### OT (R433 to R436) -/

/-- A domain first becomes valid: OT starts on it, with RES = 0, and DL is valid with OT (R429, R434). -/
def State.otStart (d : Nat) (s : State) : State :=
  if s.otValid then s
  else
    let s := ((s.setFld F.TIME_STAT_OT_DOM d).setFlag F.TIME_STAT_OT_VALID true).setRes 0
    let s := if s.domValid 2 then s
      else ((s.setFld (F.DOM_STAT_STATE 2) Dom.locked).setFlag (F.DOM_STAT_VALID 2) true).raise 15 2
    forN 8 State.tsoArm s

/-- A domain changes its state (R428): a change into or out of a valid state raises its source. -/
def State.domSet (d st : Nat) (s : State) : State :=
  let was := s.domValid d
  let now := st == Dom.locked || st == Dom.holdover
  let s := if st = Dom.locked ∧ s.domState d ≠ Dom.locked then s.modDom d fun x => { x with lockedSince := s.tbc } else s
  let s := (s.setFld (F.DOM_STAT_STATE d) st).setFlag (F.DOM_STAT_VALID d) now
  let s := if was = now then s else s.raise (13 + d) d
  if now then s.otStart d else s

/-- With DL_TRACK = 1, DL takes OT's value `ot` at this tick and the followed domain's rate (R429). -/
def State.dlReanchor (ot : Int) (s : State) : State :=
  if s.flag F.TIME_SEL_DL_TRACK && s.otDom < 2 && s.otValid then
    let rate := (s.dom s.otDom).rate
    s.modDom 2 fun x => { x with ofs := ot, anc := s.tbc, rate := rate }
  else s

/-- Switches OT to domain `n`, OT reading `ot` at this tick: continuous, the difference a residue; none when that would
exceed 1 s (R436). A tracking DL takes OT's value first. -/
def State.otSwitch (ot : Int) (n : Nat) (s : State) : Option State :=
  let s := if n = 2 then s.dlReanchor ot else s
  let r := ot - s.domSum n s.tbc
  if 1000000000 * nsU < r ∨ r < -1000000000 * nsU then none
  else
    let left := if n = s.pref then false else s.time.leftPref || s.otDom == s.pref
    some (((s.setFld F.TIME_STAT_OT_DOM n).setRes r).modTime fun u => { u with leftPref := left })

/-- Tries the domains in order; each refused one sets SW_REFUSED (R436). -/
def State.otTry (ot : Int) (s : State) : List Nat → State
  | [] => s
  | n :: rest =>
    if n = s.otDom then s
    else match s.otSwitch ot n with
      | some t => t
      | none => (s.setFlag F.TIME_STAT_SW_REFUSED true).otTry ot rest

/-- The domains OT may follow, best first (R435): PREF, the others of D0 and D1, DL; a PREF that was left is not among
them until it has been locked for REVERT_S. -/
def State.otOrder (s : State) : List Nat :=
  let p := s.pref
  let l := if s.time.leftPref then [0, 1, 2].filter (· != p) else p :: [0, 1, 2].filter (· != p)
  l.filter fun n => s.domValid n && !s.domExcl n

/-- Chooses the domain OT follows (R435): with AUTO = 0 the one named by SELECT, until it is not valid or excluded. -/
def State.otSelect (ot : Int) (s : State) : State :=
  if !s.otValid then s
  else
    let s := match s.time.sel with
      | some n => if s.domValid n && !s.domExcl n then s else s.modTime fun u => { u with sel := none }
      | none => s
    let ordered : Bool := s.flag F.TIME_SEL_AUTO || s.time.sel.isNone
    if ordered then s.otTry ot s.otOrder else s.otTry ot s.time.sel.toList

/-! ### Updates and jumps (R427, R437 to R440) -/

/-- Applies one update at this tick: the new domain and its step. -/
def DomUpdate.apply (u : DomUpdate) (c : Nat) (x : Domain) : Domain × Int :=
  if u.kind = 1 then
    let y := { x with ofs := u.ofs, anc := u.anc, rate := u.rate }
    (y, domTime y c - domTime x c)
  else if u.kind = 2 then ({ x with ofs := domTime x c, anc := c, rate := u.rate }, 0)
  else ({ x with ofs := domTime x c + u.delta * nsU, anc := c }, u.delta * nsU)

/-- Adds to DOM_JSTEP, in ns. -/
def State.addJstep (d : Nat) (dn : Int) (s : State) : State :=
  let old := toSigned 64 (s.fld2 (F.DOM_JSTEP_L_VALUE d) (F.DOM_JSTEP_H_VALUE d))
  s.setFld2 (F.DOM_JSTEP_L_VALUE d) (F.DOM_JSTEP_H_VALUE d) (ofSigned 64 (old + dn))

/-- A step of `delta` of domain `d`, OT having read `ot` (R437, R439, R440). -/
def State.domStep (d : Nat) (delta ot : Int) (s : State) : State :=
  let big := decide (s.fld F.TIME_CTRL_JUMP_TH * nsU < delta) || decide (delta < -(s.fld F.TIME_CTRL_JUMP_TH * nsU))
  let dn := delta / nsU
  if !s.otValid then s
  else if d ≠ s.otDom then (if s.domExcl d && big then s.addJstep d dn else s)
  else
    let kept := s.setRes (s.resAt s.tbc - delta)
    if !big then kept
    else if !s.domValid d then kept.otSelect ot
    else
      let s := ((s.setFbit F.TIME_STAT_JEXCL d true).addJstep d dn).raise 11 d
      let s := (s.log .timeRefused d 0).otSelect ot
      if s.otDom ≠ d then s
      else
        let s := (s.setDomK d (s.domK d - dn)).modDom d fun x => { x with absorbed := x.absorbed + dn }
        s.setRes (s.resAt s.tbc - (delta - dn * nsU))

/-- Commits the due updates of domain `d` in issue order; their steps add (R427, R439). -/
def State.domCommit (d : Nat) (s : State) : State :=
  let x := s.dom d
  let now := x.updates.filter fun u => u.due ≤ s.tbc
  if now.isEmpty then s
  else
    let ot := s.otAt s.tbc
    let (y, delta, steps) := now.foldl (fun (acc : Domain × Int × Nat) u =>
      let (z, dl) := u.apply s.tbc acc.1
      (z, acc.2.1 + dl, acc.2.2 + b2n (dl != 0))) (x, 0, 0)
    let set := now.any fun u => u.kind == 1
    let s := s.modDom d fun _ =>
      { y with updates := x.updates.filter (fun u => s.tbc < u.due), softSet := y.softSet || (set && d == 2) }
    let s := s.addSat (F.DOM_STAT_STEPS d) steps
    let s := if delta = 0 then s else s.domStep d delta ot
    if set ∧ s.domSrc d = 2 ∧ s.domState d ≠ Dom.locked then s.domSet d Dom.locked else s

/-- Queues an update for the first tick at least 100 ns from now. -/
def State.domQueue (d : Nat) (u : DomUpdate) (s : State) : State :=
  s.modDom d fun x => { x with updates := x.updates ++ [{ u with due := tickFrom (s.tbc + 25) }] }

/-- A write of DOM_UPD (R427, R428): the staged values go on their way; a PTP domain ignores and counts it. -/
def State.domUpdWrite (d : Nat) (v : Word) (s : State) : State :=
  let k := bitsOf v 0 2
  if s.domSrc d = 1 then s.incSat (F.DOM_STAT_IGN d)
  else if k = 0 then s
  else s.domQueue d
    { kind := k, ofs := s.fld2 (F.DOM_OFS_L_VALUE d) (F.DOM_OFS_H_VALUE d) * nsU + s.fld (F.DOM_OFSF_FRAC d),
      anc := s.fld2 (F.DOM_ANC_L_VALUE d) (F.DOM_ANC_H_VALUE d), rate := s.sfld (F.DOM_RATE_RATE d),
      delta := toSigned 64 (s.fld2 (F.DOM_DELTA_L_VALUE d) (F.DOM_DELTA_H_VALUE d)) }

/-- DOMAIN_UPDATE: a write of DOM_UPD. -/
def execDomainUpdate (_o : Origin) (d : Fin 3) (v : Word) (s : State) : Out := .next (s.domUpdWrite d v)

/-- DOMAIN_UPDATE_COMMIT: at the commit tick the update takes effect and a step is handled. -/
def execDomainUpdateCommit (d : Fin 3) (s : State) : Out :=
  .next (if s.tbc % 250 = 0 then s.domCommit d else s)

/-- A write of a staging register (R428): ignored and counted for a PTP domain. A write of K keeps OT continuous; DL's K is
not written (R426, R438). -/
def State.domStage (d a : Nat) (v : Word) (s : State) : State :=
  let isK := a = (F.DOM_K_L_VALUE d).addr ∨ a = (F.DOM_K_H_VALUE d).addr
  if isK then
    (if d = 2 then s else
      let k := s.domK d
      let t := s.plainWrite a v
      if d = s.otDom ∧ s.otValid then t.setRes (s.resAt s.tbc - (t.domK d - k) * nsU) else t)
  else if s.domSrc d = 1 then s.incSat (F.DOM_STAT_IGN d)
  else s.plainWrite a v

/-- A write of DOM_CFG (R428): DL's SRC stays 2; a new SRC starts the domain's states again. -/
def State.domCfgWrite (d : Nat) (v : Word) (s : State) : State :=
  let old := s.domSrc d
  let s := s.plainWrite (F.DOM_CFG_SRC d).addr v
  if d = 2 then s.setFld (F.DOM_CFG_SRC 2) 2
  else
    let src := s.domSrc d
    if src = old then s
    else
      let s := s.modDom d fun x =>
        { x with locks := 0, master := none, syncWait := none, delayReq := none, updates := if src = 1 then [] else x.updates }
      s.domSet d (if src = 1 then Dom.listening else Dom.disabled)

/-- A write of TIME_CTRL: the residue slewed so far stays slewed (R433). -/
def State.timeCtrlWrite (v : Word) (s : State) : State := (s.setRes (s.resAt s.tbc)).plainWrite F.TIME_CTRL_SLEW.addr v

/-- A write of TIME_SEL: a new PREF has not been left yet. -/
def State.timeSelWrite (v : Word) (s : State) : State :=
  let old := s.pref
  let s := s.plainWrite F.TIME_SEL_PREF.addr v
  if s.pref = old then s else s.modTime fun u => { u with leftPref := false }

/-! ### TIME commands (R435, R438, R440, R444) -/

def State.timeResult (code res : Nat) (s : State) : State :=
  (s.setFld F.TIME_STAT_CODE code).setFld F.TIME_STAT_RESULT res

/-- Captures TBC, OT and every domain at one count. -/
def State.snapTake (s : State) : State :=
  let c := s.tbc
  ((((s.setFld2 F.SNAP_TBC_L_VALUE F.SNAP_TBC_H_VALUE c).setFld2
    F.SNAP_OT_L_VALUE F.SNAP_OT_H_VALUE (ofSigned 64 (s.otAt c / nsU))).setFld2
    F.SNAP_D0_L_VALUE F.SNAP_D0_H_VALUE (ofSigned 64 (domTime (s.dom 0) c / nsU))).setFld2
    F.SNAP_D1_L_VALUE F.SNAP_D1_H_VALUE (ofSigned 64 (domTime (s.dom 1) c / nsU))).setFld2
    F.SNAP_DL_L_VALUE F.SNAP_DL_H_VALUE (ofSigned 64 (domTime (s.dom 2) c / nsU))

/-- The exclusion of a domain ends. -/
def State.exclEnd (d : Nat) (s : State) : State :=
  ((s.setFbit F.TIME_STAT_JEXCL d false).setFld2 (F.DOM_JSTEP_L_VALUE d) (F.DOM_JSTEP_H_VALUE d) 0).modDom d fun x =>
    { x with absorbed := 0 }

/-- A TIME command with its KEY. SELECT and ACCEPT take effect at the next tick. -/
def State.timeCmd (key code d : Nat) (s : State) : State :=
  let later (s : State) : State :=
    (s.modTime fun u => { u with cmds := u.cmds ++ [(code, d, tickFrom (s.tbc + 1))] }).timeResult code Res.pending
  if key ≠ 0xA5 then s.timeResult (s.fld F.TIME_STAT_CODE) Res.badKey
  else if code = 1 then s.snapTake.timeResult code Res.ok
  else if d = 3 then s.timeResult code Res.refusedState
  else if code = 2 then
    if s.domExcl d || !s.domValid d then s.timeResult code Res.refusedState
    else later (if s.flag F.TIME_SEL_AUTO then
        (s.setFld F.TIME_SEL_PREF d).modTime fun u => { u with leftPref := false, sel := none }
      else s.modTime fun u => { u with sel := some d })
  else if code = 3 then
    if s.domExcl d && s.domValid d then later s else s.timeResult code Res.refusedState
  else if code = 4 then
    if s.domExcl d then (s.exclEnd d).timeResult code Res.ok else s.timeResult code Res.refusedState
  else s.timeResult code Res.refusedState

/-- ACCEPT takes effect (R438, R440): the only step of OT. -/
def State.accept (d : Nat) (s : State) : State :=
  if !s.domExcl d || !s.domValid d then s.setFld F.TIME_STAT_RESULT Res.refusedState
  else
    let old := s.otAt s.tbc
    let s := (s.setDomK d (s.domK d + (s.dom d).absorbed)).exclEnd d
    let left := if d = s.pref then false else s.time.leftPref || s.otDom == s.pref
    let auto : Bool := s.flag F.TIME_SEL_AUTO
    let s := ((s.setFld F.TIME_STAT_OT_DOM d).setRes 0).modTime fun u =>
      { u with leftPref := left, sel := if auto then u.sel else some d }
    let step := (s.otAt s.tbc - old) / nsU
    let s := (s.recDiscontinuity s.tbc step).log .timeAccepted d 0
    (forN 8 State.tsoStep s).setFld F.TIME_STAT_RESULT Res.ok

/-- What time does at a dispatcher tick: due updates, due commands, the choice of OT's domain, DL (R427, R429, R435 to
R439). -/
def State.timeTick (s : State) : State :=
  let s := forN 3 State.domCommit s
  let due := s.time.cmds.filter fun c => c.2.2 ≤ s.tbc
  let s := s.modTime fun u => { u with cmds := u.cmds.filter fun c => s.tbc < c.2.2 }
  let s := forL due (fun c s => if c.1 = 3 then s.accept c.2.1 else s.setFld F.TIME_STAT_RESULT Res.ok) s
  let s := s.otSelect (s.otAt s.tbc)
  s.dlReanchor (s.otAt s.tbc)

/-- SNAP (R444). -/
def execSnap (_o : Origin) (key : Byte) (s : State) : Out := .next (s.timeCmd key.toNat 1 0)

/-- SELECT (R435). -/
def execSelect (_o : Origin) (key : Byte) (d : Fin 4) (s : State) : Out := .next (s.timeCmd key.toNat 2 d)

/-- ACCEPT (R438). -/
def execAccept (_o : Origin) (key : Byte) (d : Fin 4) (s : State) : Out := .next (s.timeCmd key.toNat 3 d)

/-- DISMISS (R438). -/
def execDismiss (_o : Origin) (key : Byte) (d : Fin 4) (s : State) : Out := .next (s.timeCmd key.toNat 4 d)

/-- REVERT_EXPIRY: PREF has been LOCKED without a break for REVERT_S seconds, and OT may return to it (R435). -/
def execRevertExpiry (s : State) : Out :=
  let p := s.pref
  let r := s.fld F.TIME_SEL_REVERT_S
  .next (if s.time.leftPref ∧ r ≠ 0 ∧ s.domState p = Dom.locked ∧ (s.dom p).lockedSince + sec r ≤ s.tbc then
    s.modTime fun u => { u with leftPref := false }
  else s)

/-- TDC_CALIBRATION: every 1 ms the delay line is calibrated against CLK_FAB (R424). -/
def execTdcCalibration (s : State) : Out :=
  .next (if s.tbc % ms 1 = 0 then s.modTime fun u => { u with tdcCal := s.tbc } else s)

/-! ### PTP (R428, R430 to R432) -/

/-- Picoseconds in 2^-32 ns. -/
def psU (ps : Int) : Int := ps * nsU / 1000

/-- The latency of the port mode in ps: added to transmit, subtracted from receive time-stamps (R432). -/
def portLatency (mode : Nat) : Int × Int :=
  if mode = 1 then (88000, 152000) else if mode = 2 then (96000, 168000) else (41600, 59200)

def State.domPort (s : State) (d : Nat) : Nat := s.fld (F.DOM_CFG_PORT d)

/-- Domain time of an event message received now, `frac` in 1/256 count. -/
def State.rxStamp (s : State) (d : Nat) (frac : Nat) : Int :=
  let p := s.domPort d
  domTime (s.dom d) s.tbc + frac * nsU * 4 / 256 - psU ((portLatency (s.fld (F.NET_CTRL_MODE p))).2 + s.sfld (F.TS_RX_PS p))

/-- Domain time of an event message sent now. -/
def State.txStamp (s : State) (d : Nat) : Int :=
  let p := s.domPort d
  domTime (s.dom d) s.tbc + psU ((portLatency (s.fld (F.NET_CTRL_MODE p))).1 + s.sfld (F.TS_TX_PS p))

/-- An interval of 2^log seconds in TBC counts. -/
def logInterval (log : Int) : Nat := if 0 ≤ log then sec (2 ^ log.toNat) else sec 1 / 2 ^ (-log).toNat

/-- A measured offset from the master (R428, R431): a SET while uncalibrated, else a STEP above STEP_US, else a new rate,
which is the servo's and free (assumption 1); the lock criterion. -/
def State.domMeasure (d : Nat) (offset : Int) (s : State) : State :=
  let x := s.dom d
  let big (lim : Int) : Bool := decide (lim < offset) || decide (offset < -lim)
  let s :=
    if s.domState d = Dom.uncalibrated then
      s.domQueue d { kind := 1, ofs := domTime x s.tbc - offset, anc := s.tbc, rate := x.rate }
    else if big ((max 1 (s.fld (F.DOM_LIM_STEP_US d)) : Nat) * 1000 * nsU) then
      s.domQueue d { kind := 3, delta := -offset / nsU }
    else
      let (r, t) := s.draw 32
      t.domQueue d { kind := 2, rate := r.toInt }
  let n := if big ((max 1 (s.fld (F.DOM_LIM_LOCK_NS d)) : Nat) * nsU) then 0 else x.locks + 1
  let s := s.modDom d fun x => { x with locks := min 16 n }
  if 16 ≤ n ∧ s.domState d ≠ Dom.locked then s.domSet d Dom.locked else s

/-- Does the domain's PTP instance run? -/
def State.ptpOn (s : State) (d : Nat) : Bool := s.domSrc d == 1 && s.domState d != Dom.disabled

/-- The measurement of a Sync is complete: `diff` is t2 − t1 less corrections (R431). -/
def State.syncDone (d : Nat) (diff : Int) (s : State) : State :=
  let s := s.modDom d fun x => { x with syncDiff := diff, syncWait := none }
  s.domMeasure d (diff - (s.dom d).pathDelay)

/-- SYNC: a Sync from the selected master, `t1` and `corr` in 2^-32 ns; a two-step one waits for its Follow_Up (R430,
R431). -/
def execSync (d : Fin 2) (master seq : Nat) (log : Int) (twoStep : Bool) (t1 corr : Int) (frac : Byte) (s : State) : Out :=
  .next (if s.ptpOn d ∧ (s.dom d).master = some master ∧ -7 ≤ log ∧ log ≤ 4 then
    let t2 := s.rxStamp d frac.toNat
    let c := corr + psU (s.sfld (F.TS_ASYM_PS (s.domPort d)))
    let s := s.modDom d fun x => { x with lastSync := s.tbc, syncLog := log }
    if twoStep then s.modDom d fun x => { x with syncWait := some (seq, t2, c) } else s.syncDone d (t2 - t1 - c)
  else s)

/-- FOLLOW_UP: completes the two-step Sync of the same sequence (R431). -/
def execFollowUp (d : Fin 2) (master seq : Nat) (t1 corr : Int) (s : State) : Out :=
  .next (match (s.dom d).syncWait with
    | some (q, t2, c) =>
      if s.ptpOn d ∧ (s.dom d).master = some master ∧ q = seq then s.syncDone d (t2 - t1 - c - corr) else s
    | none => s)

/-- ANNOUNCE: the best master clock algorithm over the Announce messages received; `rank` orders the masters, the smaller
the better, and `timeout` is the announce receipt timeout in TBC counts. A change of master makes the domain UNCALIBRATED
(R428, R430). -/
def execAnnounce (d : Fin 2) (master rank : Nat) (timeout : Nat) (utcOfs : BitVec 11) (s : State) : Out :=
  if !s.ptpOn d then .next s else
  let x := s.dom d
  let gone := x.lastAnnounce + x.announceTmo ≤ s.tbc
  let same := x.master = some master
  let take : Bool := same || x.master.isNone || gone || decide (rank < x.rank)
  .next (if !take then s
  else
    let s := (s.modDom d fun x =>
      { x with master := some master, rank := rank, lastAnnounce := s.tbc, announceTmo := timeout,
               lastSync := if same then x.lastSync else s.tbc, locks := if same then x.locks else 0,
               syncWait := if same then x.syncWait else none }).setFld (F.DOM_STAT_UTC_OFS d) utcOfs.toNat
    if same then s else s.domSet d Dom.uncalibrated)

/-- PDELAY_REQ: a peer-to-peer instance answers the link partner (R430). -/
def execPdelayReq (d : Fin 2) (seq : Nat) (s : State) : Out :=
  .next (if s.ptpOn d && s.flag (F.DOM_CFG_P2P d) then s.emit (.ptp d 2 seq) else s)

/-- DELAY_REQ_SEND: the instance sends its Delay_Req, or its Pdelay_Req (R430). -/
def execDelayReqSend (d : Fin 2) (s : State) : Out :=
  let p2p := s.flag (F.DOM_CFG_P2P d)
  .next (if s.ptpOn d ∧ (p2p || (s.dom d).master.isSome) then
    let q := (s.dom d).reqSeq
    let t := s.txStamp d
    (s.modDom d fun x => { x with delayReq := some (q, t), reqSeq := (q + 1) % 65536 }).emit (.ptp d (b2n p2p) q)
  else s)

/-- DELAY_RESP: `t4` is when the master received the Delay_Req; meanPathDelay takes the mean of both directions (R431). -/
def execDelayResp (d : Fin 2) (master seq : Nat) (t4 corr : Int) (s : State) : Out :=
  .next (match (s.dom d).delayReq with
    | some (q, t3) =>
      if s.ptpOn d ∧ !s.flag (F.DOM_CFG_P2P d) ∧ (s.dom d).master = some master ∧ q = seq then
        let back := t4 - t3 - corr + psU (s.sfld (F.TS_ASYM_PS (s.domPort d)))
        s.modDom d fun x => { x with delayReq := none, pathDelay := (x.syncDiff + back) / 2 }
      else s
    | none => s)

/-- PDELAY_RESP: the link partner answers a Pdelay_Req; `turn` is its t3 − t2 with corrections (R430). -/
def execPdelayResp (d : Fin 2) (seq : Nat) (turn : Int) (frac : Byte) (s : State) : Out :=
  .next (match (s.dom d).delayReq with
    | some (q, t1) =>
      if s.ptpOn d ∧ s.flag (F.DOM_CFG_P2P d) ∧ q = seq then
        let t4 := s.rxStamp d frac.toNat
        s.modDom d fun x => { x with delayReq := none, pathDelay := (t4 - t1 - turn) / 2 }
      else s
    | none => s)

/-- SYNC_TIMEOUT: no valid Sync for 4 intervals, or an announce receipt timeout, moves a LOCKED domain to HOLDOVER; without
its master an uncalibrated or invalid one is LISTENING (R428). -/
def execSyncTimeout (d : Fin 2) (s : State) : Out :=
  let x := s.dom d
  let lost := x.announceTmo ≠ 0 ∧ x.lastAnnounce + x.announceTmo ≤ s.tbc
  let late := x.lastSync + 4 * logInterval x.syncLog ≤ s.tbc
  .next (if !s.ptpOn d then s
    else if s.domState d = Dom.locked ∧ (lost ∨ late) then
      (s.modDom d fun x => { x with holdSince := s.tbc, locks := 0 }).domSet d Dom.holdover
    else if (s.domState d = Dom.uncalibrated ∨ s.domState d = Dom.invalid) ∧ lost then
      (s.modDom d fun x => { x with master := none, locks := 0 }).domSet d Dom.listening
    else s)

/-- HOLDOVER_EXPIRY: HOLDOVER longer than HOLD_S makes the domain INVALID (R428); OT leaves it at the next tick. -/
def execHoldoverExpiry (d : Fin 2) (s : State) : Out :=
  .next (if s.domState d = Dom.holdover ∧ (s.dom d).holdSince + sec (max 1 (s.fld (F.DOM_LIM_HOLD_S d))) ≤ s.tbc then
    s.domSet d Dom.invalid else s)

end Sys2Proof.Machine
end

