-- ==== Sys2Proof/Machine/Dispatcher.lean ====
section
/-!
DEFINITION. The event dispatcher (R191 to R206) and the start and normal end of task executions (R149 to R161, R176,
R178): the tick, what may be claimed and in which order, the claim with its snapshot, the transfer, forces and task
commands (R169 to R174, R180, R190).
-/

set_option Elab.async false

namespace Sys2Proof.Machine

/-! ### What waits for a core -/

/-- Something a core may claim: an entry, a LOST marker, a cyclic start, an init task or a reason. -/
structure Cand where
  /-- Number that names it among all: kind in the low bits, then sequence or task number. -/
  key : Nat
  task : Nat
  prio : Nat
  tick : Nat
  /-- Group, if it has one, and sequence number in it. -/
  group : Option Nat
  seq : Nat
  cause : Cause
deriving DecidableEq, Repr

/-- The keys of R201: priority, queued tick, groups before the rest, group or task number, sequence number. -/
def Cand.rank (c : Cand) : List Nat :=
  [c.prio, c.tick, b2n c.group.isNone, c.group.getD c.task, c.seq]

/-- Order of two key lists. -/
def lexLt : List Nat → List Nat → Bool
  | a :: as, b :: bs => a < b || (a == b && lexLt as bs)
  | _, _ => false

/-- Does a core run an execution of the task? -/
def State.taskRunning (s : State) (t : Nat) : Bool := s.scan.execs.any fun p => p.2.task == t

/-- Is the task held by an exchange, or disabled (R183, R190)? -/
def State.taskHeld (s : State) (t : Nat) : Bool := s.sched.held.contains t || s.sched.disabled.contains t

/-- PRIO of a task. -/
def State.taskPrio (s : State) (t : Nat) : Nat := ((s.task t).map TaskDesc.prio).getD 63

/-- The sequence numbers of a group's undelivered entries, delayed ones and its marker among them (R195). -/
def State.groupSeqs (s : State) (g : Nat) : List Nat :=
  let u := s.sched
  (u.entries.filter fun e => e.group == g).map Entry.seq ++ (u.delayed.filter fun d => d.2.2.group == g).map (fun d => d.2.2.seq) ++
  (u.lost.filter fun m => m.group == g).map LostMark.seq

/-- Is the entry of group `g` with this sequence number its oldest, and the group neither frozen nor waiting for the end of
an execution (R195, R197)? -/
def State.groupHead (s : State) (g seq : Nat) : Bool :=
  !s.sched.frozen.contains g && !s.sched.serial.contains g && (s.groupSeqs g).all fun q => seq ≤ q

/-- Everything that is eligible and whose task is free (R155, R195, R196, R205): in IDLE and LOCKOUT error tasks only,
nothing in DAWN, in VAULT and from the dusk sequence on; init tasks come before cyclic and event tasks. -/
def State.cands (s : State) : List Cand :=
  let u := s.sched
  let free (c : Cand) : Bool := !s.taskRunning c.task && !s.taskHeld c.task
  let groups : List Cand :=
    (u.entries.filter fun e => s.groupHead e.group e.seq).map (fun e =>
      { key := 8 * e.seq, task := e.task, prio := e.prio, tick := e.tick, group := some e.group, seq := e.seq, cause := .event e }) ++
    (u.lost.filter fun m => s.groupHead m.group m.seq).map (fun m =>
      { key := 8 * m.seq + 1, task := m.task, prio := m.prio, tick := m.tbc / 250, group := some m.group, seq := m.seq, cause := .lost m }) ++
    u.starts.map (fun c =>
      { key := 8 * c.task + 2, task := c.task, prio := c.prio, tick := c.tick, group := none, seq := 0, cause := .cyclic })
  let inits : List Cand :=
    if s.scan.execs.any fun p => p.2.cause == .init then []
    else (u.inits.take 1).map fun t =>
      { key := 8 * t + 3, task := t, prio := s.taskPrio t, tick := 0, group := none, seq := 0, cause := .init }
  let reasons : List Cand := u.reasons.filterMap fun p => match p.2 with
    | r :: _ => some { key := 8 * p.1 + 4, task := p.1, prio := s.taskPrio p.1, tick := r.tbc / 250, group := none, seq := 0,
                       cause := .reason r }
    | [] => none
  if s.sys.dusk.isSome || s.inMode [Mode.vault, Mode.dawn] then []
  else (((if s.tasksRun && u.cyclic then groups else []) ++ (if s.tasksRun then inits else []) ++ reasons).filter free)

/-! ### Affinity (R202, R204) -/

/-- The affine core of a task. -/
def State.affineCore (s : State) (t : Nat) : Option Nat :=
  match tget 0 s.sched.affine t with
  | 0 => none
  | c + 1 => some c

/-- AFF_WAIT in µs: 11 to 15 act as 10. -/
def State.affWait (s : State) : Nat := min 10 (s.fld F.SCHED_CTRL_AFF_WAIT)

/-- May core `c` claim the candidate (R202)? -/
def State.mayClaim (s : State) (c : Nat) (x : Cand) : Bool :=
  match s.affineCore x.task with
  | none => true
  | some a => a == c || !s.coreAvail a || (match tget none s.sched.waits x.key with
    | some (_, expired) => expired
    | none => false)

/-- A wait begins for each candidate whose affine core is busy (R202). -/
def State.beginWaits (s : State) : State :=
  let zero := s.affWait == 0
  forL s.cands (fun x s =>
    match s.affineCore x.task with
    | some a =>
      if s.coreAvail a && !s.coreIdle a && (tget none s.sched.waits x.key).isNone then
        s.modSched fun u => { u with waits := tset none x.key (some (s.tbc, zero)) u.waits }
      else s
    | none => s) s

/-- AFFINITY_WAIT_EXPIRY: the waits that have lasted AFF_WAIT expire (R202). -/
def execAffinityWaitExpiry (s : State) : Out :=
  let s := s.beginWaits
  .next (s.modSched fun u =>
    { u with waits := tmap none (fun _ w => w.map fun p => (p.1, p.2 || decide (p.1 + us s.affWait ≤ s.tbc))) u.waits })

/-! ### The start of an execution -/

/-- TASK_DT at a start now: TBC counts since the previous start, with its remainder, by 250; and the new remainder (R102). -/
def State.taskDt (s : State) (t : Nat) : Nat × Nat :=
  match tlook s.scan.prevStart t with
  | none => (0, 0)
  | some (p, r) => (min (2 ^ 32 - 1) ((s.tbc - p + r) / 250), (s.tbc - p + r) % 250)

/-- The process image as the snapshot instant fixes it, input forces applied (R156, R171); in FOLLOW with the words the
leader sent for this start (R87), after a takeover with the substitutes of its channels (R90). A force of a remote input
changes its masked bits alone. -/
def State.snapshot (s : State) (t : Nat) : List Host.Cell :=
  let img : State := { s with mem := s.mem.filter fun c => c.1 < imageSize }
  let img := if s.mode = Mode.follow then
      match s.part.snaps.find? fun p => p.1 == t with
      | some (_, cells) => forL cells (fun (c : Host.Cell) u => u.setByte c.1 c.2) img
      | none => img
    else forL s.part.subst (fun p u => u.setWord (4 * p.1) p.2) img
  (forL (s.forces.filter fun f => !f.output) (fun f u =>
    match f.bits with
    | some (i, v, m) => u.maskWord (4 * i) v m
    | none =>
      if f.kind = 3 ∧ epClass f.key = 0 then
        let d := s.desc f.key
        let a := s.remoteAddr f.key
        let old := typeRead d.type d.bit (memNat u.mem a (typeSize d.type))
        u.putTyped a d.type d.bit ((old &&& ~~~f.mask) ||| (f.value &&& f.mask))
      else u) img).mem

/-- Writes what the cause puts into the canvas before the snapshot: event record (R154, R197), error record (R176). -/
def State.startRecord (t : Nat) (c : Cause) (s : State) : State :=
  let rec4 (ev pay tbc : Nat) : State :=
    s.setWords (0xFEF400 + 16 * t) [BitVec.ofNat 32 ev, BitVec.ofNat 32 pay, BitVec.ofNat 32 tbc, BitVec.ofNat 32 (tbc / 2 ^ 32)]
  match c with
  | .event e => rec4 e.event e.payload.toNat e.tbc
  | .lost m => rec4 0xFFFF m.count m.tbc
  | .reason r =>
    let n := tget 0 s.sched.delivered t + 1
    (s.modSched fun u => { u with delivered := tset 0 t n u.delivered }).setWords (0xFEF800 + 32 * t)
      [BitVec.ofNat 32 (n % 65536 * 65536 + r.code), BitVec.ofNat 32 r.source, BitVec.ofNat 32 r.detail, BitVec.ofNat 32 r.word3,
       BitVec.ofNat 32 r.tbc, BitVec.ofNat 32 (r.tbc / 2 ^ 32), BitVec.ofNat 32 r.lost, 0]
  | _ => s

/-- Drops the first of a task's snapshots. -/
def dropFirst (t : Nat) : List (Nat × List Host.Cell) → List (Nat × List Host.Cell)
  | [] => []
  | p :: l => if p.1 = t then l else p :: dropFirst t l

/-- Starts an execution on core `c`: records, snapshot, TASK_DT, TASK_ID, entry (R101, R102, R154, R156, R176). -/
def State.startExec (c t : Nat) (cause : Cause) (serial : Option Nat) (s : State) : State :=
  let s := s.startRecord t cause
  let (dt, r) := s.taskDt t
  let e : Exec := { task := t, cause := cause, serial := serial, start := s.tbc, snap := s.snapshot t,
                    snapBad := s.imageBadWords, dt := dt }
  let entry := ((s.task t).map TaskDesc.entry).getD 0
  let s := { s with
    scan := { s.scan with execs := tins c e s.scan.execs, prevStart := tins t (s.tbc, r) s.scan.prevStart }
    part := { s.part with snaps := dropFirst t s.part.snaps } }
  s.modCore c fun k =>
    { k with pc := BitVec.ofNat 32 entry, taskDt := BitVec.ofNat 32 dt, taskId := BitVec.ofNat 32 t, wait := none, undo := [],
             undoOver := false, olds := [] }

/-- Takes a candidate out of where it waits; a LOST marker of a group with ACK_REQ freezes the group (R197). -/
def State.takeCand (x : Cand) (s : State) : State :=
  let s := s.modSched fun u => { u with waits := tdel x.key u.waits }
  match x.cause with
  | .event e => s.modSched fun u => { u with entries := u.entries.filter fun y => y.seq != e.seq }
  | .lost m =>
    let s := s.modSched fun u => { u with lost := u.lost.filter fun y => y.group != m.group || y.seq != m.seq }
    if s.groupAck m.group then s.modSched fun u => { u with frozen := u.frozen ++ [m.group], lastFrozen := m.group } else s
  | .cyclic => s.modSched fun u => { u with starts := u.starts.filter fun y => y.task != x.task }
  | .reason _ => s.modSched fun u => { u with reasons := tmod [] x.task List.tail u.reasons }
  | .init => s

/-- Core `c` claims a candidate: its execution starts; a claim away from the affine core is a migration (R202 to R204). -/
def State.claim (c : Nat) (x : Cand) (s : State) : State :=
  let moved := match s.affineCore x.task with
    | some a => a != c
    | none => false
  let s := s.takeCand x
  let s := s.modSched fun u =>
    { u with affine := tset 0 x.task (c + 1) u.affine,
             mig := if moved then tmod 0 c (fun n => min (2 ^ 32 - 1) (n + 1)) u.mig else u.mig }
  let serial := x.group.filter s.groupSerial
  let s : State := match serial with
    | some g => s.modSched fun u => { u with serial := u.serial ++ [g] }
    | none => s
  let s : State := s.startExec c x.task x.cause serial
  if s.fld F.PART_CTRL_ROLE = 1 ∧ s.flag F.PART_STAT_PARTNER then s.emit (.partner 3 x.task) else s

/-- The first candidate in the order of R201 that core `c` may claim. -/
def State.firstFor (s : State) (c : Nat) : Option Cand :=
  (s.cands.filter (s.mayClaim c)).foldl (fun best x => match best with
    | none => some x
    | some b => if lexLt x.rank b.rank then some x else some b) none

/-- Entries that cannot be read back become LOST markers in their places, with the same record and policy (R197, R529). -/
def State.entryErrors (s : State) : State :=
  forL (s.sched.entries.filter Entry.bad) (fun e s =>
    (s.modSched fun u =>
      { u with entries := u.entries.filter (fun x => x.seq != e.seq),
               lost := u.lost ++ [{ group := e.group, count := 1, tbc := e.tbc, task := e.task, prio := e.prio, seq := e.seq }] }).raise 10 0) s

/-- What each idle core chooses in one cycle, from the same entries, in ascending core number (R203). -/
def State.choices (s : State) : List (Nat × Cand) :=
  (List.range 8).filterMap fun c => if s.coreIdle c then (s.firstFor c).map fun x => (c, x) else none

/-- CORE_CLAIM: one cycle in which each idle core claims the first entry in order that it may claim. Of two cores that choose the
same entry, or entries of one task, the lower-numbered wins and the other retries in the next cycle (R151, R203). -/
def execCoreClaim (s : State) : Out :=
  let s := s.entryErrors.beginWaits
  .next (s.choices.foldl (fun (acc : List Nat × State) x =>
    if acc.1.contains x.2.key || !(acc.2.cands.any fun y => y.key == x.2.key) then acc
    else (x.2.key :: acc.1, acc.2.claim x.1 x.2)) (([] : List Nat), s)).2.beginWaits

/-! ### Transfers (R160 to R162) -/

/-- What follows a transfer that has written image words: mirror words and CAN objects (R391, R489). -/
def State.transferred (ws : List Nat) (s : State) : State :=
  if ws.isEmpty then s
  else
    (s.mirrorUpdate fun h => epClass h == 2 && ws.contains (h % 2 ^ 22)).canTransfer ws

/-- The transfer of staged words as one update (R160). -/
def State.transfer (ws : List (Nat × Word × Word)) (s : State) : State :=
  (forL ws (fun (w : Nat × Word × Word) s => s.ownWrite w.1 w.2.1 w.2.2) s).transferred
    (ws.map Prod.fst)

/-- What follows the transfers of safe values (R162). -/
def State.safeFollow (s : State) : State :=
  { s with scan := { s.scan with safeWords := [] } }.transferred s.scan.safeWords

/-! ### The tick (R150, R152, R198 to R200) -/

/-- Counts a start that is not made for an exchange, a breakpoint or DISABLE. -/
def State.countSkip (t : Nat) (s : State) : State := s.incSat (F.TASK_STAT_SKIPS t)

/-- A start instant of cyclic task `d` falls due at tick `k` (R152, R180, R183, R190). -/
def State.cyclicDue (d : TaskDesc) (k : Nat) (s : State) : State :=
  let t := d.num
  let halted := s.scan.execs.any fun p => p.2.task == t && p.2.halted
  let s := if s.taskHeld t || halted then s.countSkip t
    else if s.taskRunning t || s.sched.starts.any (fun c => c.task == t) then
      let s := (s.incSat (F.TASK_STAT_OVERRUNS t)).raise 40 t
      if d.ovrErr then s.reasonTo (s.errTaskOf t) 0x02 t (s.fld (F.TASK_STAT_OVERRUNS t)) 0 else s
    else s.modSched fun u => { u with starts := u.starts ++ [{ task := t, prio := d.prio, tick := k }] }
  s.modSched fun u => { u with next := tset 0 t (nextTickOf d k) u.next }

/-- The cyclic tasks of the running program. -/
def State.cyclicTasks (s : State) : List TaskDesc :=
  match s.scan.program with
  | some p => p.tasks.filter fun d => d.kind == .cyclic
  | none => []

/-- Recurring entries that are due, and delayed entries that enter the queues (R199, R200). -/
def State.schedTick (k : Nat) (s : State) : State :=
  let s := s.modSched fun u =>
    { u with tick := k, delayed := u.delayed.filter (fun d => k < d.2.1),
             entries := u.entries ++ (u.delayed.filter fun d => d.2.1 ≤ k).map fun d => d.2.2 }
  if !(s.sched.cyclic && s.tasksRun) || s.sys.dusk.isSome then s
  else forL (s.cyclicTasks.filter fun d => tget 0 s.sched.next d.num ≤ k) (fun d s => s.cyclicDue d k) s

/-- Streams of program variables take the canvas value at the start instants of their task (R395). -/
def State.programStreams (k : Nat) (s : State) : State :=
  forL (s.cyclicTasks.filter fun d => k % max 1 d.period == d.phase % max 1 d.period) (fun d s =>
    forL (s.strmsOn.filter fun m => srcKind (s.strmHandle m) == .program && s.fld (F.REC_SCFG_TASK m) == d.num) (fun m s =>
      let (v, f) := s.srcSample (s.strmHandle m)
      s.ingest m v f s.tbc 7) s) s

/-- DISPATCHER_TICK: once per microsecond. Every 10 µs the copies of R449 are refreshed and system streams sampled. -/
def execDispatcherTick (s : State) : Out :=
  if s.tbc % 250 ≠ 0 ∨ s.mode = Mode.vault ∨ (s.sched.tick = s.tbc / 250 ∧ s.tbc ≠ 0) then .next s
  else
    let k := s.tbc / 250
    let ten := s.tbc % 2500 == 0
    let s := (s.safeFollow.timeTick.schedTick k).programStreams k
    let s := if ten then s.refreshCopies.ingestAll (fun h => srcKind h == .system) s.tbc 7 else s
    .next (s.mirrorUpdate fun h => epClass h == 5 && (ten || !epCopied h))

/-! ### The end of an execution (R159 to R162) -/

/-- TASK_END: the entry routine on core `c` has returned; its staged writes are transferred (R160). -/
def execTaskEnd (c : Fin 8) (s : State) : Out :=
  .next (match tlook s.scan.execs c with
    | none => s
    | some e => if s.coreRuns c then ((s.endExec c).transfer e.staged).beginWaits else s)

/-- WATCHDOG: an execution longer than EXEC_MAX, time at a breakpoint not counted, ends (R153, R162). -/
def execWatchdog (c : Fin 8) (s : State) : Out :=
  .next (match tlook s.scan.execs c with
    | none => s
    | some e =>
      let max := ((s.task e.task).map TaskDesc.execMax).getD 0
      let ran := (if e.halted then e.haltedFrom else s.tbc) - e.start - e.haltedFor
      if max ≠ 0 ∧ us (10 * max) < ran then s.abnormalEnd c 0x03 max (s.core c).pc.toNat else s)

/-- A write of SCHED_GRPACK (R197, R206). -/
def State.grpAck (v : Word) (s : State) : State :=
  if bitsOf v 24 8 ≠ 0xA5 then s
  else s.modSched fun u => { u with frozen := u.frozen.filter (· != bitsOf v 0 16) }

/-- SCHED_GRPACK. -/
def execSchedGrpack (_o : Origin) (v : Word) (s : State) : Out := .next (s.grpAck v)

/-! ### Forces (R169 to R174, R190) -/

/-- What a key names (R170): OK, SAFE or NOT_FOUND. -/
def State.forceKeyOk (s : State) (kind key : Nat) (output : Bool) : Nat :=
  let mine (i : Nat) : Word := if output then s.ownedMask i else s.inputMask i
  let sbc := kind = 3 ∧ epClass key = 5 ∧ bitOf key 24 ∧ 24 ≤ key % 256 ∧ key % 256 < 32
  let ok :=
    if kind = 1 then (mine (key / 32)).getLsbD (key % 32) && decide (key / 32 < imageSize / 4)
    else if kind = 2 then mine key != 0 && decide (key < imageSize / 4)
    else if kind = 3 then s.epMapped key &&
      (if epClass key = 0 then (s.desc key).output == output
       else match handleWord key output with
         | some (i, none) => decide (i < imageSize / 4) && (epClass key == 1 || mine i != 0)
         | some (_, some _) => true
         | none => false)
    else false
  if sbc then Res.safe else if ok then Res.ok else Res.notFound

/-- Does the key name an input or an owned signal, with the owned parts `l` (R186)? -/
def State.forceNames (s : State) (l : List OwnDesc) (f : Force) : Bool :=
  if f.kind = 3 ∧ f.output then
    if epClass f.key = 0 then ownedIn l (s.remoteAddr f.key / 4) != 0
    else if epClass f.key = 1 then ownedIn l (chWord (f.key % 128) 3 / 4) != 0
    else true
  else true

/-- Writes force entry `i`; `w0` 0 frees it. -/
def State.forcePut (i w0 key : Nat) (value mask : Word) (s : State) : State :=
  (s.setWords (forceAddr i) [BitVec.ofNat 32 w0, BitVec.ofNat 32 key, value, mask]).forceStat

/-- The lowest free entry. -/
def State.forceFree (s : State) : Option Nat :=
  let used := s.forces.map Force.index
  (List.range 4096).find? fun i => !used.contains i

def State.forceResult (code res i : Nat) (s : State) : State :=
  ((s.setFld F.FORCE_STAT_CODE code).setFld F.FORCE_STAT_RESULT res).setFld F.FORCE_STAT_INDEX i

/-- Sets a force (R170): in place of one of the same kind, key and direction, else in the lowest free entry. -/
def State.forceSetCmd (code kind : Nat) (output : Bool) (s : State) : State :=
  let key := s.fld F.FORCE_KEY_KEY
  let chk := s.forceKeyOk kind key output
  if s.mode ≠ Mode.engineer then s.forceResult code Res.refusedState 0
  else if chk ≠ Res.ok then s.forceResult code chk 0
  else
    match ((s.findForce kind key output).map Force.index).or s.forceFree with
    | none => s.forceResult code Res.full 0
    | some i =>
      let n := (s.scan.forceSeq + 1) % 65536
      let v := s.reg F.FORCE_VAL_VALUE.addr
      let old := (s.findForce kind key output).bind fun f => (s.forceAtPin f).map fun f => (f.value, f.mask)
      let s := s.forcePut i (kind * 2 ^ 28 + b2n output * 2 ^ 27 + n) key (if kind = 1 then v &&& 1 else v)
        (if kind = 1 then 1 else s.reg F.FORCE_MASK_MASK.addr)
      let set := if output then tins i (s.tbc, old) s.scan.forceSet else tdel i s.scan.forceSet
      let s := { s with scan := { s.scan with forceSeq := n, forceSet := set } }
      (s.log .forceSet key i).forceResult code Res.ok i

/-- Clears a force entry with its record (R174). -/
def State.forceClear (h : Happening) (f : Force) (s : State) : State :=
  let s := s.forcePut f.index 0 0 0 0
  { s with scan := { s.scan with forceSet := tdel f.index s.scan.forceSet } }.log h f.key f.index

/-- A force command with its KEY (R173, R190). -/
def State.forceCmd (key code kind : Nat) (s : State) : State :=
  let clear (output : Bool) : State :=
    if s.mode = Mode.follow then s.forceResult code Res.refusedState 0
    else match s.findForce kind (s.fld F.FORCE_KEY_KEY) output with
      | some f => (s.forceClear .forceClear f).forceResult code Res.ok f.index
      | none => s.forceResult code Res.notFound 0
  if key ≠ 0xA5 then s.forceResult (s.fld F.FORCE_STAT_CODE) Res.badKey (s.fld F.FORCE_STAT_INDEX)
  else if code = 1 then s.forceSetCmd code kind false
  else if code = 2 then s.forceSetCmd code kind true
  else if code = 3 then clear false
  else if code = 4 then clear true
  else if code = 5 then
    if s.mode = Mode.follow then s.forceResult code Res.refusedState 0
    else (forL s.forces (State.forceClear .forceClear) s).forceResult code Res.ok 0
  else s.forceResult code Res.refusedState 0

/-- SET_IN (R170). -/
def execSetIn (_o : Origin) (key : Byte) (kind : BitVec 4) (s : State) : Out := .next (s.forceCmd key.toNat 1 kind.toNat)

/-- SET_OUT (R170). -/
def execSetOut (_o : Origin) (key : Byte) (kind : BitVec 4) (s : State) : Out := .next (s.forceCmd key.toNat 2 kind.toNat)

/-- CLEAR_IN (R173). -/
def execClearIn (_o : Origin) (key : Byte) (kind : BitVec 4) (s : State) : Out := .next (s.forceCmd key.toNat 3 kind.toNat)

/-- CLEAR_OUT (R173). -/
def execClearOut (_o : Origin) (key : Byte) (kind : BitVec 4) (s : State) : Out := .next (s.forceCmd key.toNat 4 kind.toNat)

/-- CLEAR_ALL (R174). -/
def execClearAll (_o : Origin) (key : Byte) (s : State) : Out := .next (s.forceCmd key.toNat 5 0)

/-! ### Task commands (R180, R190) -/

/-- A TASK_CMD with its KEY; a task that is not of the running program is refused. -/
def State.taskCmd (key code t : Nat) (s : State) : State :=
  let res (r : Nat) (s : State) : State := s.setFld F.SCAN_STAT_TCMD_RESULT r
  if key ≠ 0xA5 then res Res.badKey s
  else if (s.task t).isNone then res Res.refusedState s
  else if code = 1 then
    match s.scan.execs.find? fun p => p.2.task == t && p.2.halted with
    | some (c, e) =>
      let x := { e with halted := false, haltedFor := e.haltedFor + (s.tbc - e.haltedFrom) }
      res Res.ok { s with scan := { s.scan with execs := tins c x s.scan.execs } }
    | none => res Res.refusedState s
  else if code = 2 then
    if s.mode = Mode.engineer then
      res Res.ok (s.modSched fun u => { u with disabled := u.disabled.filter (· != t) ++ [t] })
    else res Res.refusedState s
  else if code = 3 then res Res.ok (s.modSched fun u => { u with disabled := u.disabled.filter (· != t) })
  else res Res.refusedState s

/-- TASK_RESUME (R180). -/
def execTaskResume (_o : Origin) (key : Byte) (t : Fin 64) (s : State) : Out := .next (s.taskCmd key.toNat 1 t)

/-- TASK_DISABLE (R190). -/
def execTaskDisable (_o : Origin) (key : Byte) (t : Fin 64) (s : State) : Out := .next (s.taskCmd key.toNat 2 t)

/-- TASK_ENABLE (R190). -/
def execTaskEnable (_o : Origin) (key : Byte) (t : Fin 64) (s : State) : Out := .next (s.taskCmd key.toNat 3 t)

end Sys2Proof.Machine
end

