-- ==== Sys2Proof/Machine/Clock.lean ====
section
/-!
DEFINITION. What 4 ns do: TBC (R423), the operating time and the outage clock of the vault (R542), and the changes that
wait for a grid point.
-/

set_option Elab.async false

namespace Sys2Proof.Machine

/-- Adds `n` to a phase of `m`: the carries and the new phase. -/
def carry (m phase n : Nat) : Nat × Nat := ((phase + n) / m, (phase + n) % m)

/-- 4 ns pass. With the main supplies valid TBC counts, except in VAULT, and OPT counts 1/1024 s (R423, R542); the
outage clock counts its 32.768 kHz ticks while it runs (R80). -/
def State.clocks (s : State) : State :=
  let s := if s.vault.outageRun then
      let (k, p) := carry 250000000 s.vault.outagePhase 32768
      { s with vault := { s.vault with outage := min (2 ^ 40 - 1) (s.vault.outage + k), outagePhase := p } }
    else s
  if s.sys.supplies && s.mode != Mode.vault then
    let (k, p) := carry 250000000 s.vault.optPhase 1024
    { s with tbc := s.tbc + 1, vault := { s.vault with opt := min (2 ^ 40 - 1) (s.vault.opt + k), optPhase := p } }
  else s

/-- A step on an empty queue: the affinity waits of this count begin (R202), 4 ns pass, exceptions of loop-engine bundles in flight
arise (R265), and what waits for a grid point takes effect on it. -/
def State.tick (s : State) : State :=
  let s := s.beginWaits
  let t := s.clocks
  if t.tbc = s.tbc then t else t.leFaults.gridDue

end Sys2Proof.Machine
end

