-- ==== Sys2Proof/Machine/Profile.lean ====
section
/-!
DEFINITION. The arithmetic of motion profiles (R333, R335 to R337): positions in 2^-32 steps, velocities in 2^-32 steps/s,
accelerations in 2^-32 steps/s², jerks in steps/s³, times in 2^-16 TBC counts.
-/

set_option Elab.async false

namespace Sys2Proof.Machine

/-- Tries the bits `k − 1` down to 0 of a square root. -/
def isqrtGo : Nat → Nat → Nat → Nat
  | 0, _, r => r
  | k + 1, n, r => isqrtGo k n (if (r + 2 ^ k) * (r + 2 ^ k) ≤ n then r + 2 ^ k else r)

/-- The integer square root of a number below 2^256. -/
def isqrt (n : Nat) : Nat := isqrtGo 128 n 0

/-- Times per second. -/
def tau : Nat := 250000000 * 65536

/-- A phase of constant jerk: length, acceleration at its start, jerk. -/
abbrev Phase := Nat × Int × Int

/-- Velocity and position gained after time `t` of a phase that begins at velocity `v`. -/
def phaseVel (v a j : Int) (t : Nat) : Int := v + (a * t + j * 4294967296 * t * t / (2 * tau)) / tau
def phasePos (v a j : Int) (t : Nat) : Int :=
  (v * t + (a * t * t + j * 4294967296 * t * t * t / (3 * tau)) / (2 * tau)) / tau

/-- Strings phases together from a position and a velocity: the parts, and the position reached. -/
def chain : Int → Int → List Phase → List Seg × Int
  | p, _, [] => ([], p)
  | p, v, (t, a, j) :: rest =>
    let (l, q) := chain (p + phasePos v a j t) (phaseVel v a j t) rest
    ({ len := t, pos := p, vel := v, acc := a, jerk := j } :: l, q)

/-- The phases of the change from velocity `v` and acceleration `a` to velocity `w` and acceleration 0, both speeds in
the direction of motion: `la` limits speeding up, `ld` slowing down, `j` the jerk unless it is 0 (R335, R336). -/
def velPhases (v a w : Int) (la ld : Nat) (j : Nat) : List Phase :=
  if j = 0 then
    let l := if v ≤ w then la else ld
    if v = w ∨ l = 0 then []
    else [((w - v).natAbs * tau / (l * 4294967296), if v ≤ w then (l : Int) * 4294967296 else -(l : Int) * 4294967296, 0)]
  else
    let ju : Int := (j : Int) * 4294967296
    let up := decide (v + a * a.natAbs / (2 * ju) ≤ w)
    let sg : Int := if up then 1 else -1
    let l : Int := ((if up then la else ld) : Nat) * 4294967296
    let a' := sg * a
    let dv := sg * (w - v)
    let pk : Int := isqrt (ju * dv + a' * a' / 2).toNat
    let time (x : Int) : Nat := (x * tau / ju).toNat
    if pk ≤ l then [(time (pk - a'), a, sg * j), (time pk, sg * pk, -(sg * j))]
    else
      let first : Int := (l * l - a' * a').natAbs / (2 * ju)
      let hold := dv - (if a' ≤ l then first else -first) - l * l / (2 * ju)
      [((((l - a').natAbs : Int) * tau / ju).toNat, a, if a' ≤ l then sg * j else -(sg * j)),
       ((hold * tau / max 1 l).toNat, sg * l, 0), (time l, sg * l, -(sg * j))]

/-- The distance of a velocity change. -/
def velDist (v a w : Int) (la ld j : Nat) : Int := (chain 0 v (velPhases v a w la ld j)).2

/-- The stopping distance (R336). -/
def stopDist (v a : Int) (l : Lim) : Int := velDist v a 0 l.dmax l.dmax l.jmax

/-- 1/256 step/s in the unit of velocities. -/
def velU : Int := 16777216

/-- The distance of a move that changes to speed `c` (1/256 step/s), then to rest. -/
def moveDist (v a : Int) (l : Lim) (c : Nat) : Int :=
  velDist v a (c * velU) l.amax l.dmax l.jmax + velDist (c * velU) 0 0 l.amax l.dmax l.jmax

/-- The highest speed, to within 1/256 step/s, of a move over distance `d` (R335): bits `k − 1` down to 0. -/
def cruise (v a : Int) (l : Lim) (d : Int) (vmax : Nat) : Nat → Nat → Nat
  | 0, c => c
  | k + 1, c =>
    let c' := c + 2 ^ k
    cruise v a l d vmax k (if c' ≤ vmax && decide (moveDist v a l c' ≤ d) then c' else c)

/-- Turns a profile round. -/
def mirror (p : Int) (l : List Seg) : List Seg :=
  l.map fun g => { g with pos := 2 * p - g.pos, vel := -g.vel, acc := -g.acc, jerk := -g.jerk }

/-- The move to a target at distance `d` ≥ stopping distance ahead, from position `p` (R335, R337). -/
def moveAhead (p v a : Int) (l : Lim) (d : Int) (vmax : Nat) : List Seg :=
  let c := cruise v a l d vmax 31 0
  let w : Int := c * velU
  let (s1, p1) := chain p v (velPhases v a w l.amax l.dmax l.jmax)
  let left := d - moveDist v a l c
  let t := if w = 0 then 0 else (left * tau / w).toNat
  let p2 := p1 + (if w = 0 then 0 else left)
  s1 ++ (if t = 0 then [] else [{ len := t, pos := p1, vel := w, acc := 0, jerk := 0 }]) ++
    (chain p2 w (velPhases w 0 0 l.amax l.dmax l.jmax)).1

/-- A new move from rest (R335). -/
def moveFromRest (p target : Int) (l : Lim) (vmax : Nat) : List Seg :=
  if p ≤ target then moveAhead p 0 0 l (target - p) vmax else mirror p (moveAhead p 0 0 l (p - target) vmax)

/-- The direction of motion. -/
def dirOf (v a d : Int) : Int := if v ≠ 0 then v.sign else if a ≠ 0 then a.sign else if 0 ≤ d then 1 else -1

/-- Braking to rest at DMAX and JMAX: the parts and the stopping point (R336). -/
def brake (p v a : Int) (l : Lim) : List Seg × Int :=
  if dirOf v a 0 = 1 then chain p v (velPhases v a 0 l.dmax l.dmax l.jmax)
  else
    let (g, q) := chain p (-v) (velPhases (-v) (-a) 0 l.dmax l.dmax l.jmax)
    (mirror p g, 2 * p - q)

/-- Braking at EDMAX with no jerk limit (R339): the parts and the stopping point. -/
def hardBrake (p v : Int) (l : Lim) : List Seg × Int :=
  if 0 ≤ v then chain p v (velPhases v 0 0 l.edmax l.edmax 0)
  else
    let (g, q) := chain p (-v) (velPhases (-v) 0 0 l.edmax l.edmax 0)
    (mirror p g, 2 * p - q)

/-- The re-plan towards a target (R337): the parts and the stopping point of the planned braking. -/
def planTo (p v a target : Int) (l : Lim) (vmax : Nat) : List Seg × Int :=
  let sg := dirOf v a (target - p)
  let d := sg * (target - p)
  let stop := stopDist (sg * v) (sg * a) l
  if stop ≤ d then
    (if sg = 1 then moveAhead p v a l d vmax else mirror p (moveAhead p (-v) (-a) l d vmax), target)
  else
    let (g, q) := brake p v a l
    (g ++ moveFromRest q target l vmax, q)

/-- Length of a profile. -/
def segsLen (l : List Seg) : Nat := l.foldl (fun n g => n + g.len) 0

/-- Position, velocity and acceleration at time `t` of a profile; none past its end. -/
def segsAt : List Seg → Nat → Option (Int × Int × Int)
  | [], _ => none
  | g :: rest, t =>
    if t < g.len then
      some (g.pos + phasePos g.vel g.acc g.jerk t, phaseVel g.vel g.acc g.jerk t, g.acc + g.jerk * 4294967296 * t / tau)
    else segsAt rest (t - g.len)

/-- cos of 0 to 90 degrees, times 2^40 (R350). -/
def cosTable : List Nat :=
  [1099511627776, 1099344166829, 1098841835000, 1098004785303, 1096833272712, 1095327654081, 1093488388035, 1091316034834, 1088811256197, 1085974815103, 1082807575561, 1079310502342, 1075484660688] ++
  [1071331215988, 1066851433422, 1062046677574, 1056918412020, 1051468198879, 1045697698339, 1039608668150, 1033202963089, 1026482534398, 1019449429182, 1012105789795, 1004453853180, 996495950191] ++
  [988234504882, 979672033769, 970811145065, 961654537882, 952205001410, 942465414071, 932438742637, 922128041329, 911536450887, 900667197612, 889523592384, 878109029652, 866426986403] ++
  [854481021101, 842274772603, 829811959049, 817096376734, 804131898947, 790922474794, 777472127994, 763784955652, 749865127013, 735716882192, 721344530882, 706752451041, 691945087556] ++
  [676926950894, 661702615726, 646276719531, 630653961186, 614839099536, 598836951940, 582652392807, 566290352111, 549755813888, 533053814719, 516189442193, 499167833363, 481994173176] ++
  [464673692894, 447211668504, 429613419108, 411884305302, 394029727547, 376055124520, 357965971459, 339767778496, 321466088975, 303066477770, 284574549580, 265995937225, 247336299932] ++
  [228601321605, 209796709101, 190928190487, 172001513297, 153022442779, 133996760143, 114930260796, 95828752579, 76698053994, 57543992440, 38372402428, 19189123810, 0]

/-- The load angle in whole degrees whose cosine is `num / den`, a fraction dropped (R350). -/
def arccosDeg (num den : Nat) : Nat := (cosTable.filter fun c => num * 2 ^ 40 ≤ c * den).length - 1

end Sys2Proof.Machine
end

