-- ==== Sys2Proof/Machine/Motion.lean ====
section
/-!
DEFINITION. Axes (R329 to R358): the planner's update, commands, soft limits, stops, servo set-points, the step count
check and stall detection.
-/

set_option Elab.async false

namespace Sys2Proof.Machine

/-! ### Limits and targets -/

/-- The limits that the registers name (R333). -/
def State.limRegs (s : State) (n : Nat) : Lim :=
  { vmax := s.fld (F.VMAX n), amax := s.fld (F.AMAX_LIMIT n), dmax := s.fld (F.DMAX_LIMIT n), jmax := s.fld (F.JMAX n),
    edmax := s.fld (F.EDMAX_LIMIT n), softLo := s.fld48 (F.SOFT_LO_L n) (F.SOFT_LO_H n),
    softHi := s.fld48 (F.SOFT_HI_L n) (F.SOFT_HI_H n) }

/-- The speed limit of the planner in 1/256 step/s (R333, R345). -/
def State.axVmax (s : State) (n : Nat) : Nat :=
  let v := min 1600000000 (s.axis n).lim.vmax
  if s.axMode n = Ax.stepper then min v ((s.vlim n).toNat * 250000000 * 256 / 2 ^ 32) else v

/-- A parameter write takes effect: the changed limit (R334). -/
def Lim.put (l : Lim) (code : Nat) (v : Int) : Lim :=
  match code with
  | 20 => { l with vmax := v.toNat }
  | 21 => { l with amax := v.toNat }
  | 22 => { l with dmax := v.toNat }
  | 23 => { l with jmax := v.toNat }
  | 24 => { l with edmax := v.toNat }
  | 25 => { l with softLo := v }
  | _ => { l with softHi := v }

/-- JMAX in steps/s³ (R333). -/
def Lim.real (l : Lim) : Lim := { l with jmax := l.jmax * 65536 }

/-- A write of VMAX, AMAX, DMAX, JMAX, EDMAX or a soft limit: the register at once, the planner later (R334). -/
def State.axParamWrite (n off : Nat) (v : Word) (s : State) : State :=
  let s := s.plainWrite (0xF0510000 + 0x100 * n + off) v
  let l := s.limRegs n
  let p : Option (Nat × Int) :=
    if off = 0x08 then some (20, l.vmax) else if off = 0x0C then some (21, l.amax) else if off = 0x10 then some (22, l.dmax)
    else if off = 0x14 then some (23, l.jmax) else if off = 0x18 then some (24, l.edmax)
    else if off = 0x20 ∨ off = 0x24 then some (25, l.softLo) else if off = 0x28 ∨ off = 0x2C then some (26, l.softHi)
    else none
  match p with
  | some (c, a) => if s.axOn n then s.axQueue c a n else s
  | none => s

/-- The target that the commands accepted so far lead to. -/
def State.axPending (s : State) (n : Nat) : Int :=
  (s.axis n).cmds.foldl (fun t c => if c.1 = 1 ∨ c.1 = 11 then c.2.1 else t) (s.axis n).target

/-- Is a target refused for lying outside the soft limits (R338)? -/
def State.axOutside (s : State) (n : Nat) (t : Int) : Bool :=
  let l := s.limRegs n
  s.flag (F.AX_CFG_SOFT_EN n) && (decide (t < l.softLo) || decide (l.softHi < t))

/-- A target is refused: TGT_REFUSED sets and the previous target stays (R338). -/
def State.axRefuse (n : Nat) (s : State) : State := s.setFlag (F.AX_STAT_TGT_REFUSED n) true

/-- A MOVE target of a sequencer (R307, R334); a target outside the soft limits is refused as a GO's is (R338). -/
def State.axMove (n : Nat) (rel : Bool) (t : Int) (s : State) : State :=
  let t := if rel then toSigned 48 (ofSigned 48 (s.axPending n + t)) else t
  if !s.axOn n || s.axMode n == Ax.rate then s
  else if s.axOutside n t then (s.axRefuse n).setFld (F.AX_STAT_RESULT n) Res.refusedLoad else s.axQueue 11 t n

/-! ### Planning -/

/-- A limit fault (R339): STATE becomes FAULT, the target is kept as REM, the limit source is raised. -/
def State.axLimitFault (n : Nat) (s : State) : State :=
  let s := (s.setFlag (F.AX_STAT_LIMIT_FAULT n) true).setAxState Ax.fault n
  ((s.setFld (F.AX_STAT_STOP_CAUSE n) 6).axRem n).raise (256 + chRegion n) n

/-- The limit that a stopping point lies outside of, unless it is no further out than the present position (R338). -/
def State.axBeyond (s : State) (n : Nat) (stop : Int) : Bool :=
  let x := s.axis n
  s.flag (F.AX_CFG_SOFT_EN n) &&
  (decide (x.lim.softHi * stepU < stop ∧ x.pos < stop) || decide (stop < x.lim.softLo * stepU ∧ stop < x.pos))

/-- A profile takes over at this update instant; REPLANS counts. -/
def State.axTake (n : Nat) (segs : List Seg) (s : State) : State :=
  (s.modAxis n fun x => { x with segs := segs, segAt := s.tbc }).incSat F.PP_STAT_REPLANS

/-- Re-plans towards the target (R337), unless the stopping point lies outside a soft limit: then EDMAX brakes, within
the limit and on to the target, or beyond it into a fault (R339). -/
def State.axReplan (n : Nat) (s : State) : State :=
  let x := s.axis n
  let l := x.lim.real
  let vm := s.axVmax n
  let (segs, stop) := planTo x.pos x.vel x.acc (x.target * stepU) l vm
  if s.axBeyond n stop then
    let (hard, q) := hardBrake x.pos x.vel l
    if s.axBeyond n q then (s.axTake n hard).axLimitFault n
    else
      ((s.axTake n (hard ++ moveFromRest q (x.target * stepU) l vm)).setFlag (F.AX_STAT_LIMIT_DECEL n) true)
  else s.axTake n segs

/-- Begins or continues the move to the target: STATE MOVING; a start from rest restarts the stall estimates (R351). -/
def State.axGo (n : Nat) (s : State) : State :=
  let s := if s.axMoves n then s else s.setFld (F.STALL_STAT_COUNT n) 0
  let s := (s.setAxState Ax.moving n).setFld (F.AX_STAT_STOP_CAUSE n) 0
  (s.modAxis n fun x => { x with thenInhibit := false, byHold := false, stalling := false }).axReplan n

/-- Brakes to rest: at DMAX and JMAX, or at EDMAX (R340). -/
def State.axBrake (n : Nat) (hard : Bool) (cause : Nat) (s : State) : State :=
  let x := s.axis n
  let l := x.lim.real
  let (segs, stop) := if hard then hardBrake x.pos x.vel l else brake x.pos x.vel x.acc l
  let s := if s.axState n = Ax.fault then s else (s.setAxState Ax.stopping n).setFld (F.AX_STAT_STOP_CAUSE n) cause
  if !hard && s.axBeyond n stop then
    let (h, q) := hardBrake x.pos x.vel l
    if s.axBeyond n q then (s.axTake n h).axLimitFault n
    else (s.axTake n h).setFlag (F.AX_STAT_LIMIT_DECEL n) true
  else s.axTake n segs

/-- The axis has come to rest (R340 to R342, R352): in position, stopped, or inhibited after a SAFE_ACT stop. -/
def State.axArrive (n : Nat) (s : State) : State :=
  let x := s.axis n
  let st := s.axState n
  if st = Ax.moving then
    ((s.modAxis n fun x => { x with segs := [], pos := x.target * stepU, vel := 0, acc := 0 }).setAxState Ax.rest n)
  else
    let s := s.modAxis n fun x => { x with segs := [], vel := 0, acc := 0, stalling := false, thenInhibit := false }
    let s := s.axRem n
    let s := if st = Ax.stopping then s.setAxState Ax.stopped n else s
    if x.thenInhibit then
      let c := if s.flag (F.AX_STAT_FB_LOST n) then 9 else 4
      if c = 9 ∨ s.inMode [Mode.idle, Mode.lockout] ∨ s.flt.hold2 then
        (s.axInhibit c 4 n).setFld (F.AX_STAT_STOP_CAUSE n) 4 else s
    else s

/-- The planned state at this instant: the profile's, or rest at its end; a profile with no length has ended. -/
def State.axFollow (n : Nat) (s : State) : State :=
  let x := s.axis n
  if x.segs = [] then (if s.axState n = Ax.moving ∨ s.axState n = Ax.stopping then s.axArrive n else s)
  else match segsAt x.segs ((s.tbc - x.segAt) * 65536) with
    | some (p, v, a) => s.modAxis n fun x => { x with pos := p, vel := v, acc := a }
    | none =>
      let last := x.segs.getLast?.map fun g => g.pos + phasePos g.vel g.acc g.jerk g.len
      (s.modAxis n fun x => { x with pos := last.getD x.pos }).axArrive n

/-- The planned position at TBC count `t`. -/
def State.axPlanned (s : State) (n t : Nat) : Int :=
  let x := s.axis n
  if x.segs = [] then x.pos
  else match segsAt x.segs ((t - x.segAt) * 65536) with
    | some (p, _, _) => p
    | none =>
      if s.axState n = Ax.moving then x.target * stepU
      else (x.segs.getLast?.map fun g => g.pos + phasePos g.vel g.acc g.jerk g.len).getD x.pos

/-- The velocity that takes the emitted position to the profile's at the next application instant (R332): the next update
instant, or the group tick at or after it. -/
def State.axVelocity (n : Nat) (s : State) : State :=
  let s := s.genAdvance n
  let x := s.axis n
  let e := s.act n * stepU + (x.acu % 4294967296 : Nat)
  let ceil (d : Int) (k : Nat) : Int := (d + (k : Int) - 1) / ((max 1 k : Nat) : Int)
  match (s.runGroup n).bind fun g => (s.lg g).next.map fun t => (g, t) with
  | some (g, t) =>
    let p := s.fld (F.LG_CTRL_PERIOD g) * 250
    let goal := if p = 0 then t + 4000 else t + (max 4000 (t - s.tbc + 1) - (t - s.tbc) + p - 1) / p * p
    let e' := e + clampI (-(s.vlim n)) (s.vlim n) x.v * (t - s.tbc : Nat)
    s.modAxis n fun x => { x with vNext := [(s.tbc, ceil (s.axPlanned n goal - e') (goal - t))] }
  | none => s.setV n (ceil (s.axPlanned n (s.tbc + 4000) - e) 4000)

/-! ### Servo set-points (R354, R355) -/

/-- The raw 32-bit feedback reading, and whether it can be trusted. -/
def State.axFeedback (s : State) (n : Nat) : Option (Nat × Bool) :=
  let k := s.fld (F.AX_CFG_FB_KIND n)
  if k = 1 then
    let r := s.fld (F.SRV_CFG_FB_CH n)
    let w (j : Nat) : Nat := (tget (0 : BitVec 16) (s.engine (n / 16)).page (8 * r + j)).toNat
    some (w 4 + w 5 * 65536, true)
  else if k = 2 then
    let h := s.fld (F.FB_EP_HANDLE n)
    some ((s.epValue h).toNat, s.epMapped h && s.epQuality h)
  else none

/-- Clips to a 16-bit signed word. -/
def clip16 (x : Int) : Int := clampI (-32768) 32767 x

/-- The brake holding test compares P_fb with its value at the start; a deviation beyond BHT_TOL fails it: BRK_FAIL sets
and the brake source is raised (R513, R514). -/
def State.bhtWatch (n : Nat) (s : State) : State :=
  match s.safe.bht with
  | some b =>
    if b.axis = n then
      let d := ((s.axis n).fb + (s.axis n).fbOfs - b.base).natAbs
      let s := s.setFld F.SAFE_BHTDEV_COUNTS (max (min d (2 ^ 32 - 1)) (s.fld F.SAFE_BHTDEV_COUNTS))
      if s.safeParam (156 + 32 * b.out) 4 < d then
        ((s.bhtEnd 2).setFbit F.SAFE_BHT_BRK_FAIL b.out true).raise (24 + b.out) b.out
      else s
    else s
  | none => s

/-- A servo axis at an update instant: feedback, FB_LOST, following error and the 64-bit set-point word. -/
def State.axServo (n : Nat) (s : State) : State :=
  let s := match s.axFeedback n with
    | some (raw, ok) =>
      let s := s.modAxis n fun x => { x with fb := x.fb + toSigned 32 (raw + 2 ^ 32 - x.fbRaw), fbRaw := raw }
      let lost := s.flag (F.AX_STAT_FB_LOST n)
      if !ok && !lost then
        (((s.setFlag (F.AX_STAT_FB_LOST n) true).setFlag (F.AX_STAT_POS_LOST n) true).bhtLost n).axSafe 9 n
      else if ok && lost then (s.setFlag (F.AX_STAT_FB_LOST n) false).axRelease 9 n
      else s
    | none => s
  let s := s.bhtWatch n
  let x := s.axis n
  let p := x.pos / stepU
  let err := p - (x.fb + x.fbOfs)
  let g := s.fld (F.SRV_CFG_SLOT n)
  let s := if s.flag (F.AX_STAT_FB_LOST n) then s else s.setSFld (F.FERR n) (clampI (-(2 ^ 31)) (2 ^ 31 - 1) err)
  let mx := s.fld (F.FERR_MAX_LIMIT n)
  let s := if !s.flag (F.AX_STAT_FB_LOST n) && mx != 0 && decide (mx < err.natAbs) then
      (if s.flag (F.AX_STAT_FERR n) then s else (s.setFlag (F.AX_STAT_FERR n) true).raise (280 + chRegion n) n)
    else s
  let vff := 32767 * x.vel / (velU * ((max 1 x.lim.vmax : Nat) : Int))
  let aff := 32767 * x.acc / (4294967296 * ((max 1 (max x.lim.amax x.lim.dmax) : Nat) : Int))
  let s := s.setDsc g 24 (clip16 (err * 2 ^ s.fld (F.SRV_CFG_ESH n)))
  let s := (s.setDsc g 25 (clip16 vff)).setDsc g 26 (clip16 aff)
  s.setDsc g 27 0

/-- IN_POS (R343). -/
def State.axInPos (n : Nat) (s : State) : State :=
  let x := s.axis n
  s.setFlag (F.AX_STAT_IN_POS n) (s.axState n == Ax.rest && decide (x.pos = x.target * stepU) && x.vel == 0 && x.acc == 0 &&
    (s.axMode n != Ax.servo || decide ((s.sfld (F.FERR n)).natAbs ≤ s.fld (F.SRV_CFG_INPOS n))))

/-! ### The update (R332, R334) -/

/-- RESULT leaves PENDING once the last command has its effect. -/
def State.axDone (n : Nat) (s : State) : State :=
  if s.fld (F.AX_STAT_RESULT n) = Res.pending then s.setFld (F.AX_STAT_RESULT n) Res.ok else s

/-- SETPOS takes effect: planned and emitted position, and the feedback, are TGT; REM 0; POS_LOST clears (R354, R358). -/
def State.axSetPos (n : Nat) (t : Int) (s : State) : State :=
  let s := (s.genAdvance n).setAct n t
  let s := s.modAxis n fun x =>
    { x with pos := t * stepU, target := t, fbOfs := t - x.fb, acu := x.acu / 4294967296 * 4294967296 }
  (s.setFld48 (F.REM_L n) (F.REM_H n) 0).setFlag (F.AX_STAT_POS_LOST n) false

/-- The commands in effect at this update instant (R334), ranked. -/
def State.axCommands (n : Nat) (s : State) : State :=
  let x := s.axis n
  let isDue (c : Nat × Int × Nat) : Bool := c.1 == 10 || c.1 == 12 || decide (c.2.2 + 1000 ≤ s.tbc)
  let due := x.cmds.filter isDue
  if due = [] then s else
  let s := s.modAxis n fun x => { x with cmds := x.cmds.filter fun c => !isDue c }
  let has (k : Nat) : Bool := due.any fun c => c.1 == k
  let params := due.filter fun c => 20 ≤ c.1
  let s := s.modAxis n fun x => { x with lim := params.foldl (fun l c => l.put c.1 c.2.1) x.lim }
  let moves := due.any fun c => c.1 == 1 || c.1 == 11
  let target (s : State) : State := s.modAxis n fun x =>
    { x with target := due.foldl (fun t c => if c.1 = 1 ∨ c.1 = 11 then c.2.1 else t) x.target }
  let moving (s : State) : Bool := s.axState n == Ax.moving || s.axState n == Ax.stopping
  let s := if s.axState n = Ax.inhibited ∨ s.axState n = Ax.fault then s
    else if has 12 then s.axBrake n true 5
    else if has 3 ∨ has 10 then (if s.axMoves n || s.axState n == Ax.moving then s.axBrake n true (if has 10 then 4 else 2) else s)
    else if has 2 ∨ has 9 then
      let s := target s
      let c := if has 2 then 1 else 3
      if s.axState n = Ax.moving then s.axBrake n false c
      else if moves ∧ s.axState n = Ax.rest then ((s.setAxState Ax.stopped n).setFld (F.AX_STAT_STOP_CAUSE n) c).axRem n
      else if moves ∧ s.axState n = Ax.stopped then s.axRem n else s
    else if moves then (if x.thenInhibit then target s else (target s).axGo n)
    else if has 4 ∨ has 13 then
      (if s.axState n = Ax.stopped ∨ (has 13 ∧ s.axState n = Ax.stopping) then s.axGo n else s)
    else if !params.isEmpty then
      (if s.axState n = Ax.moving then s.axReplan n
       else if moving s then s.axBrake n false (s.fld (F.AX_STAT_STOP_CAUSE n)) else s.incSat F.PP_STAT_REPLANS)
    else s
  let s := match (due.filter fun c => c.1 == 5).getLast? with
    | some c => if s.axMoves n then s else s.axSetPos n c.2.1
    | none => s
  let s := if has 6 ∧ s.axState n = Ax.fault then s.setAxState (if s.axMoves n then Ax.stopping else Ax.stopped) n else s
  s.axDone n

/-- One axis at an update instant. -/
def State.axUpdate (n : Nat) (s : State) : State :=
  if !s.axOn n ∧ (s.axis n).cmds = [] then s
  else if s.axMode n = Ax.rate then (s.genAdvance n).axCommands n
  else
    let s := (s.axFollow n).axCommands n
    let s := if s.axOn n ∧ s.axMode n = Ax.stepper ∧ (s.axis n).inhibits.isEmpty then s.axVelocity n else s
    let s := if s.axOn n ∧ s.axMode n = Ax.servo then s.axServo n else s
    (s.axShow n).axInPos n

/-- PLANNER_UPDATE: every 16 µs the planners update all axes. -/
def execPlannerUpdate (s : State) : Out := .next (if s.tbc % 4000 = 0 then forN 128 State.axUpdate s else s)

/-- STEP_GENERATOR_CROSSING: the generator runs up to now; a step withheld at a soft limit is a limit fault (R338, R344). -/
def execStepGeneratorCrossing (n : Fin 128) (s : State) : Out :=
  let s := s.genAdvance n
  .next (if (s.axis n).limitHit then
    ((s.modAxis n fun x => { x with limitHit := false, v := 0, vNext := [] }).axLimitFault n) else s)

/-! ### Commands (R340, R358) -/

/-- Records the last command and its result. -/
def State.axResult (n code res : Nat) (s : State) : State :=
  (s.setFld (F.AX_STAT_CODE n) code).setFld (F.AX_STAT_RESULT n) res

/-- TGT. -/
def State.axTgt (s : State) (n : Nat) : Int := s.fld48 (F.TGT_L n) (F.TGT_H n)

/-- A GO or GO_REL (R338, R340, R358). -/
def State.axGoCmd (n code : Nat) (s : State) : State :=
  let st := s.axState n
  let ok := s.axOn n && s.axMode n != Ax.rate && s.inMode [Mode.run, Mode.engineer, Mode.follow] &&
    (st == Ax.rest || st == Ax.moving || st == Ax.stopping || st == Ax.stopped)
  if !ok then s.axResult n code Res.refusedState
  else
    let t := if code = 7 then toSigned 48 (ofSigned 48 (s.axPending n + s.axTgt n)) else s.axTgt n
    if s.axOutside n t then (s.axRefuse n).axResult n code Res.refusedLoad
    else (s.axQueue 1 t n).axResult n code Res.pending

/-- A STOP or ESTOP. -/
def State.axStopCmd (n code : Nat) (s : State) : State :=
  if s.axOn n && s.axMode n != Ax.rate then
    ((s.axQueue code 0 n).modAxis n fun x => { x with byHold := false }).axResult n code Res.pending
  else s.axResult n code Res.refusedState

/-- RESUME: in STOPPED with the position not lost. -/
def State.axResumeCmd (n : Nat) (s : State) : State :=
  if s.axOn n && s.axMode n != Ax.rate && s.inMode [Mode.run, Mode.engineer, Mode.follow] && s.axState n == Ax.stopped &&
      !s.flag (F.AX_STAT_POS_LOST n) then (s.axQueue 4 0 n).axResult n 4 Res.pending
  else s.axResult n 4 Res.refusedState

/-- SETPOS: at rest only. -/
def State.axSetPosCmd (n : Nat) (s : State) : State :=
  if s.axMoves n || s.axState n == Ax.moving || s.axState n == Ax.stopping then s.axResult n 5 Res.refusedState
  else (s.axQueue 5 (s.axTgt n) n).axResult n 5 Res.pending

/-- CLEAR: in FAULT. -/
def State.axClearCmd (n : Nat) (s : State) : State :=
  if s.axState n = Ax.fault then (s.axQueue 6 0 n).axResult n 6 Res.pending else s.axResult n 6 Res.refusedState

/-- A write of AX_CMD. -/
def State.axCmd (n key code : Nat) (s : State) : State :=
  if key ≠ 0xA5 then s.setFld (F.AX_STAT_RESULT n) Res.badKey
  else if code = 1 ∨ code = 7 then s.axGoCmd n code
  else if code = 2 ∨ code = 3 then s.axStopCmd n code
  else if code = 4 then s.axResumeCmd n
  else if code = 5 then s.axSetPosCmd n
  else if code = 6 then s.axClearCmd n
  else s.axResult n code Res.refusedState

/-- GO, GO_REL, STOP, ESTOP, RESUME, SETPOS and CLEAR: writes of AX_CMD with their code. -/
def execGo (_o : Origin) (n : Fin 128) (key : BitVec 8) (s : State) : Out := .next (s.axCmd n key.toNat 1)
def execGoRel (_o : Origin) (n : Fin 128) (key : BitVec 8) (s : State) : Out := .next (s.axCmd n key.toNat 7)
def execAxStop (_o : Origin) (n : Fin 128) (key : BitVec 8) (s : State) : Out := .next (s.axCmd n key.toNat 2)
def execEstop (_o : Origin) (n : Fin 128) (key : BitVec 8) (s : State) : Out := .next (s.axCmd n key.toNat 3)
def execAxResume (_o : Origin) (n : Fin 128) (key : BitVec 8) (s : State) : Out := .next (s.axCmd n key.toNat 4)
def execSetpos (_o : Origin) (n : Fin 128) (key : BitVec 8) (s : State) : Out := .next (s.axCmd n key.toNat 5)
def execAxClear (_o : Origin) (n : Fin 128) (key : BitVec 8) (s : State) : Out := .next (s.axCmd n key.toNat 6)

/-! ### Enabling (R329 to R331, R349, R353, R356) -/

/-- Does SNS convert every microsecond, as stall detection needs (R349)? -/
def State.stallOk (s : State) (n : Nat) : Bool :=
  (s.axMode n == Ax.stepper || s.axMode n == Ax.rate) && s.flag (F.CH_CFG_AIN_EN n) && s.flag (F.CH_CFG_SNS_EN n) &&
  match s.runGroup n with
  | some g => s.fld (F.LG_CTRL_PERIOD g) == 1
  | none => s.fld (F.CH_CFG_DIV n) == 1

/-- Does the descriptor of the servo slot meet R353? -/
def State.servoOk (s : State) (n : Nat) : Bool :=
  let g := s.fld (F.SRV_CFG_SLOT n)
  let y := s.dsc g 28
  g / 64 == n / 16 && s.flag (F.LE_SLOTCFG_EN g) && s.dsc g 32 / 2 ^ 14 < 2 && s.dsc g 32 % 16 == n % 16 &&
  y / 2 ^ 15 == 1 && !s.flag (F.LE_IMPCFG_EN (n / 16) (y % 64))

/-- Is there an enabled slot that gives axis `n` its step rate (R330)? -/
def State.rateOk (s : State) (n : Nat) : Bool :=
  (List.range 64).any fun j =>
    let g := 64 * (n / 16) + j
    s.flag (F.LE_SLOTCFG_EN g) && s.dsc g 32 / 2 ^ 14 == 1 && s.dsc g 32 % 16 == n % 16

/-- Is axis `n`'s STEP and DIR assigned to another level-5 writer (R166)? In RATE and SERVO the slot that drives it is the
axis's own. -/
def State.axTaken (s : State) (n : Nat) : Bool :=
  (match s.scan.program with
   | some q => q.level5.any fun x => x.1 == 256 + n && x.2 != 544 + n &&
       !(s.axMode n != Ax.stepper && 32 ≤ x.2 && x.2 < 544)
   | none => false) ||
  (s.axMode n == Ax.stepper && (List.range 64).any fun j =>
    let g := 64 * (n / 16) + j
    s.flag (F.LE_SLOTCFG_EN g) && (s.slotPins g).contains (256 + n))

/-- May the axis be enabled (R330)? -/
def State.axOk (s : State) (n : Nat) : Bool :=
  let l := s.limRegs n
  l.vmax != 0 && l.amax != 0 && l.dmax != 0 && l.edmax != 0 && l.dmax ≤ l.edmax &&
  (s.axMode n != Ax.servo || s.servoOk n) && (s.axMode n != Ax.rate || s.rateOk n) &&
  (!s.flag (F.AX_CFG_STALL_EN n) || s.stallOk n) && !s.axTaken n

/-- The causes of an inhibit that hold now (R341, R342). -/
def State.axCauses (s : State) (n : Nat) : List Nat :=
  (if s.padHeld n then [1] else []) ++
  (if s.soffMot n then [2] else []) ++ (if s.dieOff (chDie n) then [3] else []) ++
  (if s.inMode [Mode.idle, Mode.lockout, Mode.dawn, Mode.vault] || s.flt.hold2 then [4] else []) ++
  (if s.sys.dusk.isSome then [5] else [])

/-- EN is set: the axis stands at its planned position, at rest or inhibited. -/
def State.axStart (n : Nat) (s : State) : State :=
  let cs := s.axCauses n
  let s := s.modAxis n fun x =>
    { x with inhibits := cs, lim := s.limRegs n, segs := [], vel := 0, acc := 0, cmds := [], v := 0, vNext := [],
             genAt := s.tbc, pos := s.act n * stepU, target := s.act n, thenInhibit := false, byHold := false,
             stalling := false, mmSince := none }
  let s := match s.axFeedback n with
    | some (raw, _) => s.modAxis n fun x => { x with fbRaw := raw, fb := toSigned 32 raw, fbOfs := 0 }
    | none => s
  let s := s.setAxState (if cs.isEmpty then Ax.rest else Ax.inhibited) n
  (s.setFld (F.AX_STAT_STOP_CAUSE n) (if cs.isEmpty then 0 else 7)).axShow n

/-- EN is cleared: the axis is inhibited and, standing still, OFF (R331). -/
def State.axEnd (n : Nat) (s : State) : State :=
  let s := s.axInhibit 6 7 n
  let s := (s.setFlag (F.AX_CFG_EN n) false).setAxState Ax.off n
  s.modAxis n fun x => { x with inhibits := [], cmds := [] }

/-- May QENC_EN be set (R356)? -/
def State.qencOk (s : State) (n : Nat) : Bool :=
  n % 2 == 0 && s.fld (F.FIO_CFG_DIR n) == 0 && s.fld (F.FIO_CFG_DIR (n + 1)) == 0

/-- A write of AX_CFG (R329 to R331, R349, R356). -/
def State.axCfgWrite (n : Nat) (v : Word) (s : State) : State :=
  let on := s.axOn n
  let old := s.reg (F.AX_CFG_EN n).addr
  let w := if on then putBits (putBits (putBits v 26 2 (bitsOf old 26 2)) 18 2 (bitsOf old 18 2)) 17 1 (bitsOf old 17 1) else v
  let s := s.plainWrite (F.AX_CFG_EN n).addr (putBits w 31 1 (b2n on))
  let s := if !on && s.flag (F.AX_CFG_QENC_EN n) && !s.qencOk n then
      (s.setFlag (F.AX_CFG_QENC_EN n) false).raise (248 + chRegion n) n else s
  let badStall := s.flag (F.AX_CFG_STALL_EN n) && !s.stallOk n
  let s :=
    if on && !v.getLsbD 31 then s.axEnd n
    else if !on && v.getLsbD 31 then
      (if s.axOk n then (s.setFlag (F.AX_CFG_EN n) true).axStart n else s.raise (248 + chRegion n) n)
    else s
  if badStall then s.setFlag (F.AX_CFG_STALL_EN n) false else s

/-- AXIS_ENABLE: a write of AX_CFG with EN = 1 (R330). -/
def execAxisEnable (_o : Origin) (n : Fin 128) (v : Word) (s : State) : Out := .next (s.axCfgWrite n (v ||| 0x80000000))

/-- AXIS_DISABLE: a write of AX_CFG with EN = 0 (R331). -/
def execAxisDisable (_o : Origin) (n : Fin 128) (v : Word) (s : State) : Out := .next (s.axCfgWrite n (v &&& 0x7FFFFFFF))

/-- QENC_EN_WRITE: a write of AX_CFG with QENC_EN = 1 (R356). -/
def execQencEnWrite (_o : Origin) (n : Fin 128) (v : Word) (s : State) : Out := .next (s.axCfgWrite n (v ||| 0x00020000))

/-- A write of SRV_CFG: SRV_SLOT only while EN is 0 (R329). -/
def State.axSrvWrite (n : Nat) (v : Word) (s : State) : State :=
  let a := (F.SRV_CFG_SLOT n).addr
  s.plainWrite a (if s.axOn n then putBits v 23 9 (s.fld (F.SRV_CFG_SLOT n)) else v)

/-- A write of AX_STAT: the flags that clear; clearing STEP_MM releases its inhibit. -/
def State.axStatWrite (n : Nat) (v : Word) (s : State) : State :=
  let s := s.plainWrite (F.AX_STAT_STATE n).addr v
  if v.getLsbD 5 then s.axRelease 7 n else s

/-! ### Step count check and stall (R348 to R352) -/

/-- STEP_MISMATCH: the pad count that the field die returned; a difference for 2 µs is a mismatch. The check is not made
with QENC_EN, nor under a MOT inhibit of the matrix (R348, R383). -/
def execStepMismatch (n : Fin 128) (pad : BitVec 4) (s : State) : Out :=
  .next (
    if s.flag (F.AX_CFG_QENC_EN n) || (s.axis n).inhibits.contains 1 || !s.axOn n then s.modAxis n fun x => { x with mmSince := none }
    else if pad.toNat = (s.chan n).padSteps % 16 then s.modAxis n fun x => { x with mmSince := none }
    else match (s.axis n).mmSince with
      | none => s.modAxis n fun x => { x with mmSince := some s.tbc }
      | some t =>
        if s.tbc < t + 500 then s
        else
          let s := s.modAxis n fun x => { x with mmSince := none }
          let s := (s.setFlag (F.AX_STAT_STEP_MM n) true).setFlag (F.AX_STAT_POS_LOST n) true
          (s.axInhibit 7 7 n).raise (264 + chRegion n) n)

/-- A stall (R352). -/
def State.axStall (n : Nat) (s : State) : State :=
  let s := (s.setFlag (F.AX_STAT_STALL n) true).setFlag (F.AX_STAT_POS_LOST n) true
  let s := if s.flag (F.AX_CFG_STALL_ACT n) && s.axMode n == Ax.stepper then
      (s.axQueue 12 0 n).modAxis n fun x => { x with stalling := true }
    else ((s.axInhibit 8 5 n).axRelease 8 n).axRem n
  s.raise (272 + chRegion n) n

/-- The estimate of R351 in units of 1/(1000 × den) LSB, den being 2^32 × (MICRO + 1), and the speed as num/den. -/
structure StallSample where
  num : Nat
  den : Nat
  e : Nat
  full : Nat

def State.stallSample (s : State) (n micro : Nat) : StallSample :=
  let num := (clampI (-(s.vlim n)) (s.vlim n) (s.axis n).v).natAbs * 250000000
  let den := 2 ^ 32 * micro
  { num := num, den := den, e := (s.chan n).snsCode.natAbs * 1000 * den - s.fld (F.STALL_K_LI n) * num,
    full := s.fld (F.STALL_K_KE n) * num }

/-- The load angle (R351): open where K_E is 0. -/
def State.stallAngle (x : StallSample) (s : State) : Nat × State :=
  if x.full = 0 then
    let (v, t) := s.draw 7
    (v.toNat % 91, t)
  else (arccosDeg (min x.e x.full) x.full, s)

/-- COUNT after a sample with load angle `ang`. -/
def State.stallCount (s : State) (n : Nat) (x : StallSample) (ang : Nat) : Nat :=
  let lim := max 1 (s.fld (F.STALL_CFG_STALL_ANG n))
  let above := if x.full = 0 then decide (lim < ang)
    else decide (lim ≤ 90 ∧ min x.e x.full * 2 ^ 40 < cosTable.getD lim 0 * x.full)
  if above || decide (x.e < s.fld (F.STALL_LIM_EMIN n) * 1000 * x.den) then min 15 (s.fld (F.STALL_STAT_COUNT n) + 1) else 0

/-- The estimator's words after a sample, and the stall after STALL_N such samples in a row (R351). -/
def State.stallTake (n : Nat) (x : StallSample) (s : State) : State :=
  let (ang, s) := s.stallAngle x
  let cnt := s.stallCount n x ang
  let s := ((s.setFld (F.STALL_STAT_ANGLE n) ang).setFld (F.STALL_STAT_E n) (x.e / (1000 * x.den))).setFld (F.STALL_STAT_COUNT n) cnt
  if max 1 (s.fld (F.STALL_CFG_STALL_N n)) ≤ cnt then (s.setFld (F.STALL_STAT_COUNT n) 0).axStall n else s

/-- STALL_ESTIMATE: at a STEP edge at a zero crossing of the phase-A current, with the SNS conversion nearest to it (R350,
R351). -/
def execStallEstimate (n : Fin 128) (s : State) : Out :=
  let s := s.genAdvance n
  let micro := s.fld (F.STALL_CFG_MICRO n) + 1
  let ph := (s.act n - s.fld (F.STALL_CFG_PH0 n)) % (4 * micro : Nat)
  let c := s.chan n
  let x := s.stallSample n micro
  .next (
    if !s.flag (F.AX_CFG_STALL_EN n) || !s.axOn n || !(ph = micro ∨ ph = 3 * micro) then s
    else if !s.flag (F.CH_STAT_AVAIL n) then s.setFld (F.STALL_STAT_COUNT n) 0
    else if c.snsHi || c.snsLo || c.refUns then s
    else if x.num * 10 < s.fld (F.STALL_LIM_RATED n) * x.den then s.setFld (F.STALL_STAT_COUNT n) 0
    else s.stallTake n x)

end Sys2Proof.Machine
end

