-- ==== Sys2Proof/Machine/RcpTable.lean ====
section
/-!
DEFINITION. Recipe step tables (R308 to R312) and the checks of R311.
-/

set_option Elab.async false

namespace Sys2Proof.Machine

/-! ### Reading a table -/

/-- The base of sequencer `n`'s table, its number of steps and RECIPE_ID (R308). -/
def State.rcpBase (s : State) (n : Nat) : Nat := 64 * s.fld (F.RS_CFG_TBL n)
def State.rcpSteps (s : State) (n : Nat) : Nat := s.num (s.rcpBase n + 4) 2
def State.rcpId (s : State) (n : Nat) : Nat := s.num (s.rcpBase n + 8) 4

/-- Address of step `k`. -/
def State.stepAddr (s : State) (n k : Nat) : Nat := s.rcpBase n + s.num (s.rcpBase n + 16 + 4 * k) 4

/-- A step header (R309). -/
structure StepHdr where
  nact : Nat
  endKind : Nat
  excFlt : Bool
  duration : Nat
  maxtime : Nat
  next : Nat
  exc : Nat
  tShort : Nat
  tLong : Nat
  pol : Nat
  goto : List Nat
deriving DecidableEq, Repr

def State.stepHdr (s : State) (n k : Nat) : StepHdr :=
  let a := s.stepAddr n k
  let f := s.num (a + 3) 1
  { nact := s.num (a + 2) 1, endKind := f % 4, excFlt := bitOf f 2, duration := s.num (a + 4) 4, maxtime := s.num (a + 8) 4,
    next := s.num (a + 12) 2, exc := s.num (a + 14) 2, tShort := s.num (a + 16) 4, tLong := s.num (a + 20) 4,
    pol := s.num (a + 24) 1, goto := [s.num (a + 28) 2, s.num (a + 30) 2, s.num (a + 32) 2] }

/-- Word `w` of action `i` of step `k`. -/
def State.actWord (s : State) (n k i w : Nat) : Nat := (s.word (s.stepAddr n k + 64 + 16 * i + 4 * w)).toNat

/-! ### Checks -/

/-- Does the table's program assign item `x` of `uses` to sequencer `n`? -/
def State.usesItem (s : State) (n x : Nat) : Bool :=
  match s.scan.program with
  | some p => p.uses.contains (x, n)
  | none => false

/-- Is a level-5 pin assigned to sequencer `n`? -/
def State.seqPin (s : State) (n x : Nat) : Bool :=
  match s.scan.program with
  | some p => p.level5.contains (x, n)
  | none => false

/-- A reserved opcode or field of an action that is not 0 (ERR 7). -/
def badAction (w0 w1 w2 w3 : Nat) : Bool :=
  let op := w0 / 2 ^ 28
  let low := w0 % 2 ^ 28
  match op with
  | 0 => low != 0 || w1 != 0 || w2 != 0 || w3 != 0
  | 1 => low / 2 ^ 11 != 0 || w1 != 0 || w3 / 2 ^ 16 != 0
  | 2 => low / 2 ^ 12 != 0 || w1 != 0 || low / 2 ^ 9 % 4 == 3 || w3 == 0
  | 3 => match low % 4 with
    | 0 => low / 16 != 0 || w1 != 0
    | 1 => low / 4 % 4 != 0 || low / 2 ^ 11 != 0 || w1 != 0 || w3 != 0xFFFF
    | 2 => low / 4 != 0
    | _ => true
  | 4 => low / 2 ^ 8 != 0 || w1 != 0 || w3 / 2 ^ 16 != 0
  | 5 => low / 4 % 4 != 0 || (low % 4 == 3 && w1 / 128 != 0)
  | 6 => low / 2 ^ 16 != 0 || w1 != 0 || w3 != 0
  | 7 => low / 2 ^ 17 != 0 || w1 != 0 || w3 != 0
  | _ => true

/-- An action that names something not assigned to the sequencer (ERR 8). -/
def State.foreign (s : State) (n w0 w1 w3 : Nat) : Bool :=
  let low := w0 % 2 ^ 28
  match w0 / 2 ^ 28 with
  | 1 | 2 =>
    !s.usesItem n (low % 512) ||
    (List.range 128).any fun a => s.axOn a && s.axMode a == Ax.servo && s.fld (F.SRV_CFG_SLOT a) == low % 512
  | 3 => match low % 4 with
    | 0 => (List.range 32).any fun j => bitOf w3 j && !s.seqPin n (32 * (low / 4 % 4) + j)
    | 1 => !s.seqPin n (128 + low / 16 % 128)
    | _ => !s.seqPin n (1024 + w1)
  | 4 => !s.usesItem n (512 + low % 128)
  | _ => false

/-- The slots that SETP and RAMP actions of a step name. -/
def State.stepSlots (s : State) (n k : Nat) : List Nat :=
  (List.range (s.stepHdr n k).nact).filterMap fun i =>
    let w0 := s.actWord n k i 0
    if w0 / 2 ^ 28 = 1 ∨ w0 / 2 ^ 28 = 2 then some (w0 % 512) else none

/-- The slots named by the whole table of a sequencer. -/
def State.tableSlots (s : State) (n : Nat) : List Nat := (List.range (s.rcpSteps n)).flatMap (s.stepSlots n)

/-- Is a slot named by the table of another sequencer that is not IDLE, DONE or FAULTED (ERR 10)? -/
def State.slotShared (s : State) (n g : Nat) : Bool :=
  (List.range 32).any fun m =>
    let st := (s.seq m).pos.st
    m != n && st != Rs.idle && st != Rs.done && st != Rs.faulted && (s.tableSlots m).contains g

/-- The failures of a step, lowest ERR first; 0 for none (R310, R311). -/
def State.stepErr (s : State) (n k : Nat) : Nat :=
  let base := s.rcpBase n
  let cnt := s.rcpSteps n
  let off := s.num (base + 16 + 4 * k) 4
  let a := base + off
  if cnt ≤ k then 5
  else if off % 16 ≠ 0 ∨ canvasSize < a + 64 then 3
  else
    let h := s.stepHdr n k
    if canvasSize < a + 64 + 16 * h.nact then 3
    else if s.num a 2 ≠ k then 4
    else
      let names (x : Nat) : Bool := x < cnt
      let pols := [h.pol % 4, h.pol / 4 % 4, h.pol / 16 % 4]
      if (h.next ≠ 0xFFFF ∧ !names h.next) ∨ (h.exc ≠ 0xFFFF ∧ !names h.exc) ∨
          (pols.zip h.goto).any (fun p => p.1 == 2 && !names p.2) then 5
      else if (h.endKind = 0 ∧ h.maxtime ≠ 0) ∨ (2 ≤ h.endKind ∧ h.maxtime ≠ 0 ∧ h.maxtime < h.duration) ∨ pols.contains 3 then 6
      else
        let acts := (List.range h.nact).map fun i =>
          (s.actWord n k i 0, s.actWord n k i 1, s.actWord n k i 2, s.actWord n k i 3)
        if s.num (a + 3) 1 / 8 ≠ 0 ∨ h.pol / 64 ≠ 0 ∨ s.num (a + 25) 3 ≠ 0 ∨ s.num (a + 34) 6 ≠ 0 ∨ s.num (a + 48) 16 ≠ 0 ∨
            acts.any (fun w => badAction w.1 w.2.1 w.2.2.1 w.2.2.2) ∨ 8 < (acts.filter fun w => w.1 / 2 ^ 28 == 2).length then 7
        else if acts.any fun w => s.foreign n w.1 w.2.1 w.2.2.2 then 8
        else if (s.stepSlots n k).any (s.slotShared n) then 10
        else 0

/-- The first failure of the whole table, ERR and step (R305, R311). -/
def State.tableErr (s : State) (n : Nat) : Option (Nat × Nat) :=
  let base := s.rcpBase n
  let cnt := s.rcpSteps n
  if s.num base 4 ≠ 0x52435054 then some (1, 0)
  else if cnt = 0 ∨ 4095 < cnt then some (2, 0)
  else if canvasSize < base + 16 + 4 * cnt then some (3, 0)
  else if s.num (base + 6) 2 ≠ 0 ∨ s.num (base + 12) 4 ≠ 0 then some (7, 0)
  else match (List.range cnt).find? fun k => s.stepErr n k != 0 with
    | some k => some (s.stepErr n k, k)
    | none =>
      if s.flag (F.RS_CFG_BIND n) && decide (s.fld (F.LG_CTRL_PERIOD (s.fld (F.RS_CFG_GROUP n))) < 10) then some (9, 0) else none

/-- Records a failure in RS_ERR. -/
def State.rcpErr (n : Nat) (e : Nat × Nat) (s : State) : State := (s.setFld (F.RS_ERR_ERR n) e.1).setFld (F.RS_ERR_STEP n) e.2

end Sys2Proof.Machine
end

