-- ==== Sys2Proof/Machine/Recipes.lean ====
section
/-!
DEFINITION. Recipe sequencers (R305 to R328): preparation, ticks, commands.
-/

set_option Elab.async false

namespace Sys2Proof.Machine

/-! ### Ticks (R305, R306) -/

/-- The last tick of a sequencer and its next, if it has ticks. -/
def State.rcpTicks (s : State) (n : Nat) : Option (Nat × Nat) :=
  if s.flag (F.RS_CFG_BIND n) then
    let g := s.lg (s.fld (F.RS_CFG_GROUP n))
    match g.last, g.next with
    | some l, some t => some (l, t)
    | _, _ => none
  else some (s.tbc / 2500 * 2500, s.tbc / 2500 * 2500 + 2500)

/-- Is there a tick of the sequencer at this instant? -/
def State.rcpTickNow (s : State) (n : Nat) : Bool :=
  if s.flag (F.RS_CFG_BIND n) then (s.lg (s.fld (F.RS_CFG_GROUP n))).last == some s.tbc else s.tbc % 2500 == 0

/-! ### Running a list (R312 to R315) -/

/-- A register field set at the tick. -/
def Eff.reg (l : Loc) (v : Nat) : Eff := .fld l.addr l.lo l.width v

/-- The value that a WAIT tests (R315): CODE of a sample word, else the endpoint's. -/
def State.waitValue (s : State) (h : Nat) : Int :=
  let v := s.epValue h
  if srcKind h = .sample then toSigned 18 (v.toNat / 2 ^ 14) else v.toInt

/-- Does a WAIT's condition hold with the inputs of now? -/
def State.waitHolds (s : State) (w0 w1 w2 w3 : Nat) : Bool :=
  if w0 % 4 = 3 then s.flag (F.AX_STAT_IN_POS (w1 % 128))
  else if !s.epMapped w1 then false
  else
    let v := s.waitValue w1
    let ins := decide (toSigned 32 w2 ≤ v) && decide (v ≤ toSigned 32 w3)
    if w0 % 4 = 0 then ins else !ins

/-- An OUT action's effect (R314). -/
def outEff (w0 w1 w2 w3 : Nat) : Eff :=
  match w0 % 4 with
  | 0 => .fio (w0 / 4 % 4) (BitVec.ofNat 32 w2) (BitVec.ofNat 32 w3)
  | 1 => .aout (w0 / 16 % 128) (toSigned 16 w2)
  | _ => .ep w1 (BitVec.ofNat 32 w2) (BitVec.ofNat 32 w3)

/-- The descriptor words a SETP writes. -/
def setpWords (field w2 w3 : Nat) : List (Nat × Nat) :=
  if field = 3 then [(24, w2 % 65536), (25, w2 / 65536), (26, w3 % 65536), (27, 0)] else [(24 + field, w2 % 65536)]

/-- Do two set-point fields overlap? -/
def fieldMeets (f g : Nat) : Bool := f == 3 || f == g

/-- One action other than WAIT at the tick `tick`: its effect, and the ramps afterwards. -/
def State.action (s : State) (n step i tick : Nat) (w0 w1 w2 w3 : Nat) (rs : List Ramp) : List Eff × List Ramp :=
  let slot := w0 % 512
  let field := w0 / 512 % 4
  match w0 / 2 ^ 28 with
  | 1 => ([.setp slot (setpWords field w2 w3)], rs.filter fun r => !(r.slot == slot && fieldMeets field r.field))
  | 2 => ([], rs.filter (fun r => !(r.slot == slot && fieldMeets field r.field)) ++
      [{ slot := slot, field := field, act := i, a := toSigned 16 w2, b := toSigned 16 (w2 / 65536), d := 10 * w3, t0 := tick,
         cur := bitOf w0 11 }])
  | 3 => ([outEff w0 w1 w2 w3], rs)
  | 4 => ([.move (w0 % 128) (bitOf w0 7) (toSigned 48 (w2 + w3 % 65536 * 2 ^ 32))], rs)
  | 6 => ([.evt (w0 % 65536) (BitVec.ofNat 32 w2)], rs)
  | 7 => ([.mark (w0 % 65536) (bitOf w0 16) (BitVec.ofNat 32 w2) step (s.rcpId n)], rs)
  | _ => ([], rs)

/-- Runs the list from ACT with at most `budget` actions, up to the first WAIT that is not satisfied: inputs of tick `l`,
effects at `tick`. The flag says that a WAIT is unsatisfied. -/
def State.runList (s : State) (n l tick : Nat) : Nat → SeqPos → List Eff → SeqPos × List Eff × Nat × Bool
  | 0, p, es => (p, es, 0, false)
  | b + 1, p, es =>
    let h := s.stepHdr n p.step
    if h.nact ≤ p.act then (p, es, b + 1, false)
    else
      let w (j : Nat) : Nat := s.actWord n p.step p.act j
      if w 0 / 2 ^ 28 = 5 then
        if w 0 % 4 = 2 then
          if p.s + 2500 * (w 2 : Nat) ≤ (tick : Int) then s.runList n l tick b { p with act := p.act + 1, holdFrom := none } es
          else (p, es, b + 1, true)
        else if s.waitHolds (w 0) (w 1) (w 2) (w 3) then
          let from_ := p.holdFrom.getD l
          if from_ + 2500 * (w 0 / 16 % 2 ^ 24) ≤ l then
            s.runList n l tick b { p with act := p.act + 1, holdFrom := none } es
          else ({ p with holdFrom := some from_ }, es, b + 1, true)
        else ({ p with holdFrom := none }, es, b + 1, true)
      else
        let (e, rs) := s.action n p.step p.act tick (w 0) (w 1) (w 2) (w 3) p.ramps
        s.runList n l tick b { p with act := p.act + 1, ramps := rs } (es ++ e)

/-! ### Steps (R318 to R321) -/

/-- ACT_BUDGET; 0 acts as 1. -/
def State.rcpBudget (s : State) : Nat := max 1 (s.fld F.RCP_CTRL_ACT_BUDGET)

/-- The recipe ends: IDLE, DONE or FAULTED; ramps stop and pins pass to their owners (R321, R322). -/
def SeqPos.finish (st : Nat) (p : SeqPos) : SeqPos :=
  { st := st, step := 0xFFF, prev := if p.step = 0xFFF then p.prev else p.step }

/-- Enters step `k` with start instant `at_` (R311, R319): the check again, then the new list runs in what is left of the
budget. A list that runs through completes at the step's first tick. -/
def State.enterStep (s : State) (n l tick k prev budget : Nat) (at_ : Int) (p : SeqPos) (es : List Eff) : SeqPos × List Eff :=
  let err := s.stepErr n k
  if err ≠ 0 then
    (p.finish Rs.faulted, es ++ [.reg (F.RS_ERR_ERR n) err, .reg (F.RS_ERR_STEP n) k, .release, .raise (320 + n),
      .reg (F.RS_STAT_WAIT_ACT n) 0])
  else
    let p : SeqPos := { st := Rs.running, step := k, prev := prev, s := at_ }
    let (p, es, _, waiting) := s.runList n l tick budget p es
    let done := (s.stepHdr n k).nact ≤ p.act
    ({ p with cond := if done then some (tick + 250) else none }, es ++ [.reg (F.RS_STAT_WAIT_ACT n) (b2n waiting)])

/-- What the count of transitions and END_CAUSE become. -/
def State.transEffs (s : State) (n cause : Nat) : List Eff :=
  [.reg (F.RS_STAT_END_CAUSE n) cause, .reg (F.RS_CNT_TRANS n) (s.fld (F.RS_CNT_TRANS n) + 1)]

/-- The end of a step that is due by `tick`: its due instant and cause (1 TIME, 2 COND, 3 MAXTIME) (R310, R318, R320). -/
def stepEnd (h : StepHdr) (s0 : Int) (cond : Option Nat) (tick : Nat) : Option (Int × Nat) :=
  let time := s0 + 2500 * (h.duration : Int)
  let normal : Option (Int × Nat) :=
    match h.endKind, cond with
    | 0, _ => some (time, 1)
    | 1, some c => some (c, 2)
    | 1, none => none
    | 2, some c => some (if time ≤ (c : Int) then (time, 1) else (c, 2))
    | 2, none => some (time, 1)
    | _, some c => some (if (c : Int) ≤ time then (time, 1) else (c, 2))
    | _, none => none
  let maxt := s0 + 2500 * (h.maxtime : Int)
  let n := normal.filter fun e => decide (e.1 ≤ (tick : Int))
  let m : Option (Int × Nat) := if h.maxtime ≠ 0 ∧ maxt ≤ (tick : Int) then some (maxt, 3) else none
  match n, m with
  | some a, some b => if a.1 ≤ b.1 then some a else some b
  | some a, none => some a
  | none, b => b

/-- A running sequencer prepares `tick` with the inputs of tick `l`: its list goes on, and an end that is due takes it to
the next step. -/
def State.runSeq (s : State) (n l tick : Nat) (p : SeqPos) (es0 : List Eff) : SeqPos × List Eff :=
  let h := s.stepHdr n p.step
  let (p1, es1, left, waiting) := s.runList n l tick s.rcpBudget p []
  let done := h.nact ≤ p1.act
  let cond := match p.cond with
    | some c => some c
    | none => if done then some (l + 250) else none
  match stepEnd h p.s cond tick with
  | none => ({ p1 with cond := cond }, es0 ++ es1 ++ [.reg (F.RS_STAT_WAIT_ACT n) (b2n waiting)])
  | some (due, cause) =>
    let keep := cause == 2 || (h.endKind == 3 && cause == 1)
    let es := es0 ++ (if keep then es1 else [])
    let left := if keep then left else s.rcpBudget
    let cut := !keep && cause == 1 && p.act < h.nact
    let es := if cut then es ++ [.reg (F.RS_STAT_CUT n) 1] else es
    let es := if cause = 3 then
        es ++ [.reg (F.RS_STAT_EXC n) 1, .reg (F.RS_CNT_EXC_CNT n) (min 65535 (s.fld (F.RS_CNT_EXC_CNT n) + 1))] ++
          (if h.excFlt then [.raise (288 + n)] else [])
      else es
    let dst := if cause = 3 then h.exc else h.next
    if dst = 0xFFFF then
      (p.finish (if cause = 3 then Rs.faulted else Rs.done), es ++ [.release, .reg (F.RS_STAT_WAIT_ACT n) 0])
    else s.enterStep n l tick dst p.step left (if cause = 2 then tick else due) p (es ++ s.transEffs n cause)

/-- A resume through the step's policy (R326, R327): re-apply, then CONTINUE, RESTART_STEP or GOTO. -/
def State.resumeSeq (s : State) (n l tick ms : Nat) (p : SeqPos) : SeqPos × List Eff :=
  let h := s.stepHdr n p.step
  let band := if ms ≤ h.tShort then 0 else if ms ≤ h.tLong then 1 else 2
  let pol := h.pol / 4 ^ band % 4
  let es : List Eff := [.reapply, .reg (F.RS_STAT_BAND n) band, .reg (F.RS_STAT_POLICY n) pol,
    .reg (F.RS_INTR_MS n) (min (2 ^ 32 - 1) ms), .resumed ms pol] ++ s.transEffs n 5
  if pol = 0 then
    let p := { p.thaw tick with resume := none, wasPaused := false, suspAt := none, cond := none }
    let (p, es, _, waiting) := s.runList n l tick s.rcpBudget p es
    ({ p with cond := if h.nact ≤ p.act then some (tick + 250) else none }, es ++ [.reg (F.RS_STAT_WAIT_ACT n) (b2n waiting)])
  else
    let k := if pol = 1 then p.step else h.goto.getD band 0
    s.enterStep n l tick k (if pol = 1 then p.prev else p.step) s.rcpBudget tick p es

/-- A frozen or paused sequencer goes on at `tick`: through a policy, into a step that a JUMP named, or as it stood. -/
def State.goOn (s : State) (n l tick : Nat) (p : SeqPos) : SeqPos × List Eff :=
  match p.jump with
  | some k => s.enterStep n l tick k p.step s.rcpBudget tick { p with jump := none } (s.transEffs n 4)
  | none =>
    match p.resume with
    | some (some ms) => s.resumeSeq n l tick ms p
    | _ => s.runSeq n l tick { p.thaw tick with resume := none } []

/-! ### Preparation (R306, R320, R322) -/

/-- What sequencer `n` prepares for `tick` with the inputs of tick `l`. -/
def State.prepare (s : State) (n l tick : Nat) : Prep :=
  let q := s.seq n
  let p := q.pos
  let go := s.inMode [Mode.run, Mode.engineer, Mode.follow]
  let cmd := q.cmd.filter fun c => decide (c.2.2 ≤ l + 125)
  let ok (r : SeqPos × List Eff) : Prep :=
    { tick := tick, pos := r.1, cmd := cmd, effects := r.2 ++ [.reg (F.RS_STAT_RESULT n) Res.ok] }
  let plain (r : SeqPos × List Eff) : Prep := { tick := tick, pos := r.1, effects := r.2 }
  let idle : SeqPos × List Eff :=
    if p.st = Rs.running then s.runSeq n l tick p []
    else if go && p.resume.isSome && (p.st == Rs.frozen || p.st == Rs.suspended) then s.goOn n l tick p
    else (p, [])
  match cmd with
  | none => plain idle
  | some (code, arg, _) =>
    match code with
    | 1 =>
      if go && (p.st == Rs.idle || p.st == Rs.done || p.st == Rs.faulted) then
        ok (s.enterStep n l tick arg 0xFFF s.rcpBudget tick {} [])
      else plain idle
    | 2 => ok (p.finish Rs.idle, [.release, .reg (F.RS_STAT_WAIT_ACT n) 0])
    | 3 =>
      if p.st = Rs.running then ok (p.freeze Rs.paused tick, [])
      else if p.st = Rs.frozen then ok ({ p with st := Rs.paused }, [])
      else ok idle
    | 4 => if !go then plain idle else if p.st = Rs.paused then ok (s.goOn n l tick p) else ok idle
    | _ =>
      if p.st = Rs.running then
        ok (s.enterStep n l tick arg p.step s.rcpBudget tick p (s.transEffs n 4))
      else if p.st = Rs.paused ∨ p.st = Rs.frozen ∨ p.st = Rs.suspended then ok ({ p with jump := some arg }, [])
      else ok idle

/-- RCP_PREPARE: from 500 ns after the last tick on, what takes effect at the next tick is prepared (R306). -/
def execRcpPrepare (n : Fin 32) (s : State) : Out :=
  .next (match s.rcpTicks n with
    | none => s
    | some (l, t) =>
      if s.tbc < l + 125 ∨ t ≤ s.tbc ∨ ((s.seq n).prep.map Prep.tick) = some t then s
      else
        let p := s.prepare n l t
        s.modSeq n fun q => { q with prep := some p, last := l })

/-! ### Effects (R307, R314, R317, R327) -/

/-- Level-5 values of a sequencer pass to the pins' owners (R167, R321). -/
def State.rcpRelease (n : Nat) (s : State) : State :=
  let off (p : Option Pin5) : Option Pin5 := p.map fun (q : Pin5) => if q.writer = n then { q with active := false } else q
  let s := { s with out := { s.out with fio := tmap none (fun _ p => off p) s.out.fio, aout := tmap none (fun _ p => off p) s.out.aout,
                                        ep := tmap none (fun _ p => off p) s.out.ep } }
  s.modSeq n fun q => { q with banks := [], aouts := [], eps := [] }

/-- OUT to a bank of FIO pins. -/
def State.outBank (n b : Nat) (v m : Word) (s : State) : State :=
  let s := forN 32 (fun j s =>
    if m.getLsbD j then
      { s with out := { s.out with fio := tset none (32 * b + j) (some { writer := n, value := b2n (v.getLsbD j), active := true }) s.out.fio } }
    else s) s
  s.modSeq n fun q =>
    let old := tget ((0, 0) : Word × Word) q.banks b
    { q with banks := tset (0, 0) b ((old.1 &&& ~~~m) ||| (v &&& m), old.2 ||| m) q.banks }

/-- OUT to an AOUT code. -/
def State.outAout (n ch : Nat) (v : Int) (s : State) : State :=
  let s := { s with out := { s.out with aout := tset none ch (some { writer := n, value := v, active := true }) s.out.aout } }
  s.modSeq n fun q => { q with aouts := tset none ch (some v) q.aouts }

/-- OUT to an endpoint word: the first one keeps the bits outside MASK as the output had them. -/
def State.outEp (n h : Nat) (v m : Word) (s : State) : State :=
  let old : Word := match tget none (s.seq n).eps h with
    | some w => w
    | none => match tget none s.out.ep h with
      | some q => BitVec.ofInt 32 q.value
      | none => s.epValue h
  let w := (old &&& ~~~m) ||| (v &&& m)
  let s := { s with out := { s.out with ep := tset none h (some { writer := n, value := w.toNat, active := true }) s.out.ep } }
  s.modSeq n fun q => { q with eps := tset none h (some w) q.eps }

/-- The OUT values of the record again (R327). -/
def State.outAgain (n : Nat) (s : State) : State :=
  let q := s.seq n
  let s := forL q.banks (fun b s => s.outBank n b.1 b.2.1 b.2.2) s
  let s := forL q.aouts (fun a s => match a.2 with
    | some v => s.outAout n a.1 v
    | none => s) s
  forL q.eps (fun e s => match e.2 with
    | some w => s.outEp n e.1 w 0xFFFFFFFF
    | none => s) s

/-- One prepared effect at the tick. -/
def State.applyEff (n : Nat) (e : Eff) (s : State) : State :=
  match e with
  | .fio b v m => s.outBank n b v m
  | .aout ch v => s.outAout n ch v
  | .ep h v m => s.outEp n h v m
  | .setp g ws => forL ws (fun w s => s.setDsc g w.1 w.2) s
  | .move a rel t => s.axMove a rel t
  | .evt e p => s.hwEvent e p
  | .mark u trig code step id => s.recMark u trig code.toNat n step id s.tbc
  | .fld a lo w v => s.setFld ⟨a, lo, w⟩ v
  | .raise src => s.raise src n
  | .resumed ms pol => s.log .recipeResume ms (n + pol * 256 + (s.seq n).pos.step % 64 * 1024)
  | .reapply => s.outAgain n
  | .release => s.rcpRelease n

/-- A ramp with FROM_CUR takes the field's value at its start instant (R316). -/
def State.rampFrom (s : State) (r : Ramp) : Ramp := if r.cur then { r with a := s.dscS r.slot (24 + r.field), cur := false } else r

/-- Is this instant a tick of the slot? -/
def State.slotTickNow (s : State) (g : Nat) : Bool :=
  s.flag (F.LE_SLOTCFG_EN g) &&
  match s.slotGroup g with
  | some k => (s.lg k).last == some s.tbc
  | none => s.tbc % s.slotStep g == 0

/-- RCP_TICK: at the tick the prepared work takes effect; a tick that was re-phased takes what is due by it (R44, R307,
R319). Ramps write where a slot ticks. -/
def execRcpTick (n : Fin 32) (s : State) : Out :=
  .next (match (s.seq n).prep with
    | none => s
    | some p0 =>
      if !s.rcpTickNow n then s
      else
        let p := if p0.tick = s.tbc then p0 else s.prepare n (s.seq n).last s.tbc
        let s := s.modSeq n fun q =>
          { q with prep := none, pos := p.pos, cmd := if p.cmd.isSome ∧ q.cmd = p.cmd then none else q.cmd }
        let s := forL p.effects (State.applyEff n) s
        let s := if (s.seq n).cmd.isSome then s.setFld (F.RS_STAT_RESULT n) Res.pending else s
        let rs := (s.seq n).pos.ramps.map s.rampFrom
        let s := s.modPos n fun p => { p with ramps := rs }
        let slots := (rs.map Ramp.slot).eraseDups
        let s := forL (slots.filter s.slotTickNow) (fun g s =>
          if s.slotStep g < 2500 ∧ s.tbc % 2500 ≠ 0 then s else s.rampWrite g s.tbc n) s
        s.seqShow n)

/-! ### Commands (R322) -/

/-- Records the last command and its result. -/
def State.rcpResult (n code res : Nat) (s : State) : State := (s.setFld (F.RS_STAT_CODE n) code).setFld (F.RS_STAT_RESULT n) res

/-- Accepts a command: it takes effect at a tick. -/
def State.rcpAccept (n code arg : Nat) (s : State) : State :=
  (s.modSeq n fun q => { q with cmd := some (code, arg, s.tbc) }).rcpResult n code Res.pending

/-- A write of RS_CMD. -/
def State.rcpCmd (n key code : Nat) (s : State) : State :=
  let st := (s.seq n).pos.st
  let arg := s.fld (F.RS_ARG_STEP n)
  let go := s.inMode [Mode.run, Mode.engineer]
  if key ≠ 0xA5 then s.setFld (F.RS_STAT_RESULT n) Res.badKey
  else if code = 1 then
    if !(go && (st == Rs.idle || st == Rs.done || st == Rs.faulted)) then s.rcpResult n code Res.refusedState
    else match s.tableErr n with
      | some e => (s.rcpErr n e).rcpResult n code Res.refusedLoad
      | none =>
        if s.rcpSteps n ≤ arg then (s.rcpErr n (5, arg)).rcpResult n code Res.refusedLoad
        else (s.rcpErr n (0, 0)).rcpAccept n code arg
  else if code = 2 then (if s.mode = Mode.dawn then s.rcpResult n code Res.refusedState else s.rcpAccept n code 0)
  else if code = 3 then (if st = Rs.running then s.rcpAccept n code 0 else s.rcpResult n code Res.refusedState)
  else if code = 4 then (if go && st == Rs.paused then s.rcpAccept n code 0 else s.rcpResult n code Res.refusedState)
  else if code = 5 then
    if !(st == Rs.running || st == Rs.paused) then s.rcpResult n code Res.refusedState
    else if s.rcpSteps n ≤ arg then (s.rcpErr n (5, arg)).rcpResult n code Res.refusedLoad
    else s.rcpAccept n code arg
  else s.rcpResult n code Res.refusedState

/-- START, STOP, PAUSE, RELEASE and JUMP of sequencer `n`: writes of RS_CMD. -/
def execRcpStart (_o : Origin) (n : Fin 32) (key : BitVec 8) (s : State) : Out := .next (s.rcpCmd n key.toNat 1)
def execRcpStop (_o : Origin) (n : Fin 32) (key : BitVec 8) (s : State) : Out := .next (s.rcpCmd n key.toNat 2)
def execPause (_o : Origin) (n : Fin 32) (key : BitVec 8) (s : State) : Out := .next (s.rcpCmd n key.toNat 3)
def execRelease (_o : Origin) (n : Fin 32) (key : BitVec 8) (s : State) : Out := .next (s.rcpCmd n key.toNat 4)
def execJump (_o : Origin) (n : Fin 32) (key : BitVec 8) (s : State) : Out := .next (s.rcpCmd n key.toNat 5)

/-- A write of RS_CFG: only in IDLE, DONE or FAULTED (R328). -/
def State.rsCfgWrite (n : Nat) (v : Word) (s : State) : State :=
  let st := (s.seq n).pos.st
  if st = Rs.idle ∨ st = Rs.done ∨ st = Rs.faulted then s.plainWrite (F.RS_CFG_TBL n).addr v else s

/-! ### Lock groups (R44) -/

/-- The trigger instant that lock group `g` has not acted on yet, with the mark that it is taken: the due time of the
transition of sequencer TSRC, or the oldest edge of the line or channel TSRC. -/
def State.lgTrig (s : State) (g : Nat) : Option (Nat × (LockGrp → LockGrp)) :=
  let cfg := s.lgCfg g
  let l := s.lg g
  let n := bitsOf cfg 20 7
  if bitsOf cfg 28 3 = 1 then
    let p := (s.seq n).pos
    if p.st ≠ Rs.running then none
    else match stepEnd (s.stepHdr n p.step) p.s p.cond s.tbc with
      | some (due, _) => if l.stepAt = some due.toNat then none
          else some (due.toNat, fun l => { l with stepAt := some due.toNat })
      | none => none
  else match l.trigs with
    | t :: rest => some (t, fun l => { l with trigs := rest })
    | [] => none

/-- LOCK_GROUP_TRIGGER: the trigger takes effect on a running group: the next tick is re-phased, or the trigger is dropped
while a re-phased tick is still to come. With no trigger nothing happens. -/
def execLockGroupTrigger (g : Fin 32) (s : State) : Out :=
  .next (match (s.lg g).next, s.lgTrig g with
    | some _, some (t, f) =>
      let s := s.modLg g f
      let l := s.lg g
      if l.rephased then s.incSat (F.LG_STAT_RETRIG_DROP g)
      else s.modLg g fun x => { x with next := some (gridFrom (max (t + 25) (l.last.getD l.since + 250))), rephased := true }
    | _, _ => s)

end Sys2Proof.Machine
end

