-- ==== Sys2Proof/Machine/Journal.lean ====
section
/-!
DEFINITION. The journal (R68 to R76, R583, R584): the retain image, the delta of a cycle, checkpoint generations, the
two devices.
-/

set_option Elab.async false

namespace Sys2Proof.Machine

/-! ### The retain image (R69, R70) -/

/-- The words of an instance as at a cold restart (R84, R115). -/
def instCold (d : InstDesc) : List Word :=
  match d.ty with
  | .edge => [BitVec.ofNat 32 (b2n d.prev), BitVec.ofNat 32 d.id]
  | .timer => [d.preset, 0, BitVec.ofNat 32 (256 * d.timer), BitVec.ofNat 32 d.id]
  | .counter => [0, d.preset, 0, BitVec.ofNat 32 d.id]

/-- Words of an instance. -/
def instSize (d : InstDesc) : Nat := if d.ty = .edge then 2 else 4

/-- The word at `a` as it stood before what a running execution has written outside its transfer (R70). -/
def State.settledWord (s : State) (a : Nat) : Word :=
  let olds := s.scan.execs.flatMap fun p => ((s.core p.1).olds.filter fun e => e.1 == a).map Prod.snd
  olds.getLast?.getD (s.word a)

/-- Addresses of the retained words: instances, retained variables, the force table (R69). -/
def State.retainAddrs (s : State) : List Nat :=
  let prog := match s.scan.program with
    | some p => (p.insts.flatMap fun d => (List.range (instSize d)).map fun i => d.addr + 4 * i) ++
        ((p.vars.filter VarDesc.retained).flatMap fun v => (List.range v.init.length).map fun i => v.addr + 4 * i)
    | none => []
  prog ++ s.forces.flatMap fun f => (List.range 4).map fun i => forceAddr f.index + 4 * i

/-- The retained state words of the enabled loop slots. While a slot has an activation in progress they are those with which it
began, the slot's last sample boundary (R70). -/
def State.retainHalves (s : State) : List (Nat × Nat) :=
  ((List.range 512).filter fun g => s.flag (F.LE_SLOTCFG_EN g)).flatMap fun g =>
    match (s.engine (g / 64)).stack.find? fun a => a.slot == g with
    | some a => a.kept
    | none => s.slotRetained g

/-- What the journal keeps of axis `n` (R69); the remaining distance of one that moves is that of now. -/
def State.axRetained (s : State) (n : Nat) : AxisRec :=
  let a := s.actNow n
  { act := a, rem := if s.axMoves n && s.axMode n == Ax.stepper then (s.axis n).target - a else s.fld48 (F.REM_L n) (F.REM_H n),
    posLost := s.flag (F.AX_STAT_POS_LOST n), st := s.axState n, cause := s.fld (F.AX_STAT_STOP_CAUSE n), moving := s.axMoves n }

/-- A sequencer as the journal keeps it at count `now`, its last tick being `t`: the time it has run up to that tick is its
elapsed time (R70, R325). -/
def Seq.retained (t now : Nat) (q : Seq) : Seq :=
  let p := q.pos
  let held := if p.st = Rs.running then ((t : Int) - p.s).toNat else p.held
  let ramps := if p.st = Rs.running then p.ramps.map fun r => { r with t0 := r.t0 - t } else p.ramps
  { q with prep := none, cmd := none, last := 0,
           pos := { p with held := held, ramps := ramps, s := 0, holdFrom := none, jump := none,
                           suspAt := p.suspAt.map fun u => now - u } }

/-- The retain image as it stands now. -/
def State.retain (s : State) : Retain :=
  { words := s.retainAddrs.map fun a => (a, s.settledWord a)
    halves := s.retainHalves
    seqs := s.seqs.map fun p => (p.1, p.2.retained (((s.rcpTicks p.1).map Prod.fst).getD s.tbc) s.tbc)
    axes := ((List.range 128).map fun n => (n, s.axRetained n)).filter fun p => p.2 != {}
    srcs := (s.flt.srcs.map fun p => (p.1, { recov := p.2.recov, raises := p.2.raises, esc := p.2.esc, clears := p.2.clears })).filter
      fun (p : Nat × SrcRec) => p.2 != {}
    drops := s.evl.drops
    learns := (List.range 512).filter fun g => (s.slot g).learn.phase != 0 }

/-- Bytes of the words of `new` that `old` does not hold the same: 4 for each word and `h` for each run of words. -/
def wordBytes (h : Nat) (old : List (Nat × Word)) : Option Nat → List (Nat × Word) → Nat
  | _, [] => 0
  | prev, (a, v) :: t =>
    if old.contains (a, v) then wordBytes h old none t
    else (if prev = some a then 4 else 4 + h) + wordBytes h old (some (a + 4)) t

/-- Bytes of the entries of a table that have changed, each of `n` bytes and the head. -/
def tableBytes {α : Type} [DecidableEq α] (h n : Nat) (old new : Tbl α) : Nat :=
  ((new.filter fun p => !old.contains p).length) * (h + n)

/-- Bytes from `old` to `new` with heads of `h` bytes (a sequencer's record is 320 bytes, R325). -/
def bytesBetween (h : Nat) (old new : Retain) : Nat :=
  wordBytes h old.words none new.words + tableBytes h 4 old.halves new.halves + tableBytes h 320 old.seqs new.seqs +
  tableBytes h 24 old.axes new.axes + tableBytes h 76 old.srcs new.srcs + tableBytes h 2 old.drops new.drops

/-- The bytes that change (R73). -/
def changedBytes (old new : Retain) : Nat := bytesBetween 0 old new

/-- Payload bytes of the delta: an entry's offset and word count take 8 bytes (R71). -/
def deltaBytes (old new : Retain) : Nat := bytesBetween 8 old new

/-! ### Cycles (R70 to R74, R584) -/

/-- LAG and SYNC follow the follower's lag (R88); leaving synchronism raises the partner source. -/
def State.setLag (n : Nat) (s : State) : State :=
  let was := s.flag F.PART_STAT_SYNC
  let s := { s with part := { s.part with lag := n } }
  let s := (s.setFld F.PART_STAT_LAG (min 255 n)).setFlag F.PART_STAT_SYNC (decide (n ≤ 2))
  if was && decide (2 < n) then s.raise 9 0 else s

/-- Does a device answer? -/
def State.jnlUp (s : State) : Bool := s.fld F.JNL_STAT_DEV_OK != 0

/-- Does the journal write deltas? -/
def State.jnlOn (s : State) : Bool := s.flag F.JNL_CTRL_EN && s.jnlUp && !s.jnl.off && !s.sys.warmPending

/-- CKPT_OK and CHAIN_OK (R76). -/
def State.setChain (b : Bool) (s : State) : State :=
  ({ s with jnl := { s.jnl with chainOk := b } }.setFlag F.JNL_STAT_CKPT_OK b).setFlag F.JNL_STAT_CHAIN_OK b

/-- Copies of OPT and PCYC in the header (R542). -/
def State.headerCopies (s : State) : State := { s with jnl := { s.jnl with optCopy := s.vault.opt, pcycCopy := s.vault.pcyc } }

/-- The areas of a device of `size` MiB (R68): header, two checkpoint generations, event log, delta ring, each with its offset and
its size in bytes. -/
def jnlAreas (size : Nat) : List (Nat × Nat) :=
  [(0, 65536), (65536, 524288), (589824, 524288), (1114112, 262144), (1376256, size * 1048576 - 1376256)]

/-- The generation that began at cycle `c` with image `r` is complete on the devices that answer: the ring keeps the deltas from
that cycle on, CKPT_OK and CHAIN_OK read 1, and the chain mark clears (R74, R584, R542). -/
def State.generation (c : Nat) (r : Retain) (s : State) : State :=
  let s := { s with jnl := { s.jnl with gen := some (c, s.fld F.JNL_STAT_DEV_OK, r),
                                        deltas := s.jnl.deltas.filter fun (d : Delta) => c ≤ d.cycle } }
  ({ s with vault := { s.vault with chainMark := false } }.setChain true).headerCopies

/-- A slice of the running generation is written; with the 256th the generation is complete (R74). -/
def State.slice (s : State) : State :=
  let n := s.jnl.slices + 1
  let start := if n = 1 then (s.jnl.cycle, s.jnl.image.getD {}) else s.jnl.genNew
  let s := { s with jnl := { s.jnl with slices := n % 256, genNew := start, rebuild := s.jnl.rebuild.map fun p => (p.1, p.2 + 1) } }
  if n % 256 = 0 then s.generation start.1 start.2 else s

/-- A whole generation is written at once, with the image as of the last delta (R87, R183). -/
def State.checkpoint (s : State) : State :=
  { s with jnl := { s.jnl with slices := 0 } }.generation s.jnl.cycle (s.jnl.image.getD {})

/-- The image takes the retained words `r`, with the mode and the program of this moment. -/
def State.imageTake (r : Retain) (s : State) : State :=
  { s with
    jnl := { s.jnl with image := some r, seen := r, gens := s.boot.applied, lastMode := s.mode,
                        hash := (s.scan.program.map Program.hash).getD 0 }
    vault := { s.vault with deltaSince := true } }

/-- The delta to the image `r` as the devices that answer hold it, with its commit word (R71). -/
def State.delta (s : State) (n : Nat) (r : Retain) : Delta :=
  { cycle := s.jnl.cycle, tbc := s.tbc, len := min 65536 n, image := r, commit := ~~~(BitVec.ofNat 64 s.jnl.cycle),
    devs := s.fld F.JNL_STAT_DEV_OK }

/-- Is the delta committed: its commit word and CRC correct on one of the devices `up`, `bad` naming those that read back
otherwise (R72)? -/
def Delta.committed (up : Nat) (bad : List (Nat × Nat)) (d : Delta) : Bool :=
  d.commit == ~~~(BitVec.ofNat 64 d.cycle) &&
  (List.range 2).any fun i => bitOf up i && bitOf d.devs i && !bad.contains (i, d.cycle)

/-- The delta to image `r`, of `n` bytes, joins the chain. -/
def State.deltaPut (n : Nat) (r : Retain) (s : State) : State :=
  let t := s.imageTake r
  { t with jnl := { t.jnl with deltas := t.jnl.deltas ++ [s.delta n r] } }

/-- The delta to the image as it stands now commits: its size and cycle are shown, and a leader sends it. -/
def State.deltaCommit (r : Retain) (s : State) : State :=
  let n := deltaBytes (s.jnl.image.getD {}) r
  let s := s.deltaPut n r
  let s := (s.setFld2 (F.JNL_CYCLE_CYCLE 0) (F.JNL_CYCLE_CYCLE 1) s.jnl.cycle).setFld F.JNL_DSIZE_BYTES (min 65536 n)
  if s.fld F.PART_CTRL_ROLE = 1 ∧ s.flag F.PART_STAT_PARTNER then
    ({ s with part := { s.part with lag := s.part.lag + 1 } }).emit (.partner 2 s.jnl.cycle)
  else s

/-- JOURNAL_CYCLE where TBC is a multiple of 250,000: the delta of the cycle commits and a slice is written; more than
65,536 changed bytes wait for the next cycle (R73). Between the switch of an exchange and its checkpoint no delta counts
(R187). -/
def execJournalCycle (s : State) : Out :=
  .next (
    if s.tbc % 250000 ≠ 0 ∨ s.inMode [Mode.vault, Mode.dawn] ∨ s.sys.dusk.isSome then s
    else
      let s := { s with jnl := { s.jnl with cycle := s.jnl.cycle + 1 } }
      let s := if s.mode = Mode.follow then s.setLag (s.part.lag + 1) else s
      if !s.jnlOn then s
      else
        let r := s.retain
        if s.scan.releaseAt.isSome then { s with jnl := { s.jnl with seen := r } }.slice
        else if 65536 < changedBytes s.jnl.seen r then
          (({ s with jnl := { s.jnl with seen := r } }.incSat F.JNL_MERGE_COUNT).raise 8 0).slice
        else (s.deltaCommit r).slice)

/-- DUSK_FINAL_DELTA: once the tasks have ended, the changes of the last cycle commit, if every package supply has stayed
in its window (`held`); more than 65,536 bytes are omitted (R73, R77, R78). In DAWN, where the warm state is not in force yet, no
delta is written (R80). From here on the event log is closed (R536). -/
def execDuskFinalDelta (held : Bool) (s : State) : Out :=
  .next (
    if s.sys.dusk.isNone ∨ 2 ≤ s.sys.duskStep ∨ !(s.sys.duskStep = 1 ∨ s.scan.execs = []) then s
    else
      let s := { s with sys := { s.sys with duskStep := 2 } }
      let m := s.jnl.lastMode
      let s :=
        if !s.jnlOn || s.mode == Mode.dawn then s
        else if !held || s.scan.releaseAt.isSome then { s with jnl := { s.jnl with incomplete := s.jnl.incomplete + 1 } }
        else
          let r := s.retain
          let s := { s with jnl := { s.jnl with cycle := s.jnl.cycle + 1 } }
          if 65536 < changedBytes (s.jnl.image.getD {}) r then
            { s with jnl := { s.jnl with incomplete := s.jnl.incomplete + 1 } }.incSat F.JNL_MERGE_COUNT
          else s.deltaCommit r
      let s := { s with jnl := { s.jnl with lastMode := if s.mode = Mode.dawn then m else s.mode } }.headerCopies
      { s with evl := { s.evl with closed := true } })

/-! ### Devices (R75, R583, R584) -/

/-- JOURNAL_DEVICE_FAIL: device `d` fails a write or a read-back. -/
def execJournalDeviceFail (d : Fin 2) (s : State) : Out :=
  .next (
    if !s.fbit F.JNL_STAT_DEV_OK d || s.mode = Mode.vault then s
    else
      let s := s.setFbit F.JNL_STAT_DEV_OK d false
      let s := { s with jnl := { s.jnl with stale := withBit s.jnl.stale d true, rebuild := if s.jnl.rebuild.any (fun (p : Nat × Nat) => p.1 == d.val) then none else s.jnl.rebuild } }
      if s.jnlUp then (s.setFlag F.JNL_STAT_DEGRADED true).raise 8 d 2
      else
        let s := ({ s with vault := { s.vault with chainMark := true } }.setChain false).setFlag F.JNL_STAT_DEGRADED false
        s.raise 8 d 4)

/-- A new chain begins (R583, R584): a generation is built slice by slice. -/
def State.newChain (s : State) : State :=
  { s with jnl := { s.jnl with slices := 0, gen := none, deltas := [] }, vault := { s.vault with chainMark := true } }.setChain false

/-- JOURNAL_DEVICE_RETURN: device `d` answers again: it is rebuilt, or with both gone starts a new chain. -/
def execJournalDeviceReturn (d : Fin 2) (s : State) : Out :=
  .next (
    if s.fbit F.JNL_STAT_DEV_OK d || s.mode = Mode.vault || s.jnl.off then s
    else
      let alone := !s.jnlUp
      let s := (s.setFbit F.JNL_STAT_DEV_OK d true).setFlag F.JNL_STAT_DEGRADED true
      if alone then { s with jnl := { s.jnl with stale := withBit s.jnl.stale d false } }.newChain
      else { s with jnl := { s.jnl with rebuild := some (d, 0), slices := 0 } })

/-- JOURNAL_REBUILD_COMPLETE: the returned device holds a new generation and the log: DEGRADED clears (R75, R534). -/
def execJournalRebuildComplete (s : State) : Out :=
  .next (match s.jnl.rebuild with
    | some (_, n) =>
      if 256 ≤ n then { s with jnl := { s.jnl with rebuild := none, stale := 0 } }.setFlag F.JNL_STAT_DEGRADED false else s
    | none => s)

/-- A write of JNL_CTRL (R584). -/
def State.jnlCtrlWrite (v : Word) (s : State) : State :=
  let was := s.flag F.JNL_CTRL_EN
  let s := s.plainWrite F.JNL_CTRL_EN.addr v
  let now := s.flag F.JNL_CTRL_EN
  if was && !now then { s with vault := { s.vault with chainMark := true } }.setChain false
  else if !was && now then s.newChain else s

end Sys2Proof.Machine
end

