-- ==== Sys2Proof/Machine/Exchange.lean ====
section
/-!
DEFINITION. Program images (R149, R166, R181, R192) and the online exchange of one (R181 to R189): checks, the tables an
image brings, affected tasks, migration, switch, release.
-/

set_option Elab.async false

namespace Sys2Proof.Machine

/-! ### Checks of an image (R69, R149, R166, R181) -/

/-- Has a list no element twice? -/
def noTwice {α : Type} [DecidableEq α] : List α → Bool
  | [] => true
  | a :: l => !l.contains a && noTwice l

/-- Is every owned bit named once, by a task of the image, and on no input; and outside the bit area the whole word (R147)? -/
def programOwnsOk (p : Program) : Bool :=
  (p.owns.all fun o => p.tasks.any (fun d => d.num == o.task) && o.word < imageSize / 4 && (o.word < 0x8000 || o.mask == 0xFFFFFFFF)) &&
  (p.owns.zipIdx.all fun (o, i) => p.owns.zipIdx.all fun (q, j) => i == j || o.word != q.word || o.mask &&& q.mask == 0) &&
  (p.owns.all fun o => o.mask &&& fixedInput o.word == 0 && !p.hostInputs.contains o.word && !p.canInputs.contains o.word)

/-- Does an image with a cyclic, event or init task name its default error task (R149)? -/
def programErrOk (p : Program) : Bool :=
  (p.tasks.all fun d => d.kind == .error) ||
  (match p.defaultErr with
   | some t => p.tasks.any fun d => d.num == t && d.kind == .error
   | none => false)

/-- The writer of the second assignment of a pin that has two (R166). -/
def programPinClash (p : Program) : Option Nat :=
  (p.level5.zipIdx.find? fun (x, i) => p.level5.zipIdx.any fun (y, j) => j < i && x.1 == y.1 && x.2 != y.2).map fun x => x.1.2

/-- The checks of R181 beside the level-5 assignments. -/
def programOk (p : Program) : Bool :=
  p.retainBytes ≤ 0x80000 && noTwice (p.insts.map InstDesc.id) && programOwnsOk p && programErrOk p && noTwice (p.tasks.map TaskDesc.num) &&
  p.tasks.all fun d => d.num < 64

/-- The configuration source of a level-5 writer (R166, R516): sequencer, slot or axis. -/
def writerSource (w : Nat) : Nat :=
  if w < 32 then 320 + w else if w < 544 then 64 + (w - 32) / 64 else 248 + (w - 544) / 16

/-- Checks an image; a pin given to two writers raises the later one's source. -/
def State.programCheck (p : Program) (s : State) : Bool × State :=
  match programPinClash p with
  | some w => (false, s.raise (writerSource w) w)
  | none => (programOk p, s)

/-! ### What an image brings -/

/-- Writes both tables whole, 768 KiB: the event descriptors and group words of the image, and 0 for those it does not name
(R192). -/
def State.putTables (p : Program) (s : State) : State :=
  s.ifFitted s.schedBase 0xC0000 (fun s =>
    let s := s.clearRange s.schedBase 0xC0000
    let s := forL p.events (fun e s => (s.setWord (s.schedBase + 8 * e.1) e.2.1).setWord (s.schedBase + 8 * e.1 + 4) e.2.2) s
    forL p.groups (fun g s => s.setWord (s.schedBase + 0x80000 + 4 * g.1) g.2) s)

/-- Writes words that another image does not already hold the same. -/
def State.putWords (ws old : List (Nat × Word)) (s : State) : State :=
  forL (ws.filter fun w => !old.contains w) (fun w s => s.setWord w.1 w.2) s

/-- Code, constants, engine memories, LPDDR words and tables of an image (R60, R192). -/
def State.putImage (p : Program) (s : State) : State :=
  (((s.putWords p.canvas []).putWords p.engine []).putWords p.lpddr []).putTables p

/-- Every instance, variable and owned output as at a cold restart (R84). -/
def State.initData (p : Program) (s : State) : State :=
  let s := forL p.insts (fun d s => s.setWords d.addr (instCold d)) s
  forL p.vars (fun v s => s.setWords v.addr v.init) s

/-! ### Migration (R184 to R186) -/

/-- The words that an instance of the new image takes (R184): kept, with its new preset; kept from before the last switch;
or as at a cold restart. -/
def State.migrated (s : State) (old : Program) (d : InstDesc) : List Word :=
  match old.insts.find? fun x => x.id == d.id with
  | some x =>
    if x.ty = d.ty ∧ (d.ty = .timer → x.timer = d.timer) then
      match s.words x.addr (instSize x), d.ty with
      | [_, e, f, i], .timer => [d.preset, e, f, i]
      | [c, _, f, i], .counter => [c, d.preset, f, i]
      | ws, _ => ws
    else (instCold d)
  | none => match s.scan.oldInsts.find? fun x => x.1 == d.id with
    | some x => if x.2.length = (instSize d) then x.2 else (instCold d)
    | none => (instCold d)

/-- Is an instance of the new image new to it: neither in the old image nor kept from before the last switch? -/
def State.isNewInst (s : State) (old : Program) (d : InstDesc) : Bool :=
  !(old.insts.any fun x => x.id == d.id) && !(s.scan.oldInsts.any fun x => x.1 == d.id)

/-- The words of a variable of the new image (R184). -/
def State.varWords (s : State) (old : Program) (v : VarDesc) : List Word :=
  match old.vars.find? fun x => x.id == v.id && x.ty == v.ty && x.init.length == v.init.length with
  | some x => s.words x.addr x.init.length
  | none => v.init

/-- The tasks that one image has as the other does not: added, removed, or with another descriptor, code or instances (R182). -/
def changedTasks (a b : Program) : List Nat :=
  (List.range 64).filter fun t =>
    a.tasks.find? (fun d => d.num == t) != b.tasks.find? (fun d => d.num == t) ||
    a.insts.filter (fun d => d.tasks.contains t) != b.insts.filter (fun d => d.tasks.contains t)

/-- Carries state over from the running image to the new one (R184 to R186). -/
def State.migrate (old new : Program) (s : State) : State :=
  let insts := new.insts.map fun d => (d.addr, s.migrated old d)
  let vars := new.vars.map fun v => (v.addr, s.varWords old v)
  let edges := (new.insts.filter fun d => d.ty == .edge && s.isNewInst old d).map InstDesc.addr
  let gone := (old.insts.filter fun d => !(new.insts.any fun x => x.id == d.id)).map fun d => (d.id, s.words d.addr (instSize d))
  let changed := new.insts.filter fun d => old.insts.any fun x => x.id == d.id && (x.ty != d.ty || (d.ty == .timer && x.timer != d.timer))
  let orphan := old.owns.filter fun o => o.mask &&& ~~~(ownedIn new.owns o.word) != 0
  let s := forL (insts ++ vars) (fun x s => s.setWords x.1 x.2) s
  let s := (((s.putWords new.canvas old.canvas).putWords new.engine old.engine).putWords new.lpddr old.lpddr).putTables new
  let s := { s with scan := { s.scan with oldInsts := gone, newEdges := edges, program := some new, other := some old,
                                          runSlot := !s.scan.runSlot } }
  let s := forL changed (fun d s => s.log .exchangeItem d.id 0) s
  let s := forL orphan (fun o s => s.log .exchangeItem o.word 1) s
  forL (s.forces.filter fun f => s.forceKeyOk f.kind f.key f.output != Res.ok ||
    (s.forceNames old.owns f && !s.forceNames new.owns f)) (State.forceClear .forceRemoved) s

/-! ### The exchange (R181 to R183, R187 to R189) -/

/-! STATE of EXCH_STAT. -/
namespace Exch
def none_ : Nat := 0
def loaded : Nat := 1
def armed : Nat := 2
def switched : Nat := 3
def revertArmed : Nat := 4
end Exch

def State.exchState (s : State) : Nat := s.fld F.EXCH_STAT_STATE

def State.exchResult (code res : Nat) (s : State) : State :=
  (s.setFld F.EXCH_STAT_CODE code).setFld F.EXCH_STAT_RESULT res

/-- The tasks whose code, descriptor or instances differ, those added or removed, and those that share an instance with one
of them (R182). -/
def affectedTasks (a b : Program) : List Nat :=
  let direct := changedTasks a b
  (List.range 64).filter fun t => direct.contains t ||
    (a.insts ++ b.insts).any fun d => d.tasks.contains t && d.tasks.any fun u => direct.contains u

/-- Is `t` an event task that the other image does not have? Its queued events are still delivered (R183). -/
def State.removedEvent (s : State) (t : Nat) : Bool :=
  (match s.task t with
   | some d => d.kind == .event
   | none => false) &&
  !(match s.scan.other with
    | some p => p.tasks.any fun d => d.num == t && d.kind == .event
    | none => false)

/-- Arms an exchange with the other image (R182, R183): affected tasks are held, their queued starts skipped. -/
def State.exchArm (code st : Nat) (s : State) : State :=
  match s.scan.other with
  | none => s.exchResult code Res.refusedState
  | some q =>
    let p := s.scan.program.getD {}
    if s.fld F.PART_CTRL_ROLE = 1 ∧ s.part.partnerImage ≠ some q.hash then s.exchResult code Res.refusedCompat
    else
      let l := affectedTasks p q
      let s := forL (s.sched.starts.filter fun c => l.contains c.task) (fun c s => s.countSkip c.task) s
      let s := s.modSched fun u =>
        { u with held := l.filter (fun t => !s.removedEvent t), starts := u.starts.filter (fun c => !l.contains c.task),
                 waits := u.waits.filter fun p => !(p.1 % 8 == 2 && l.contains (p.1 / 8)) }
      let s := { s with scan := { s.scan with affected := l, armDeadline := some (s.tbc + ms (max 1 (s.fld F.EXCH_CFG_WAIT))) } }
      ((s.setFld F.EXCH_STAT_STATE st).setFld F.EXCH_STAT_AFFECTED l.length).exchResult code Res.pending

/-- The fuses of counter `ctr` that are burnt after `svn` was accepted. -/
def State.burnt (s : State) (ctr svn : Nat) : Nat := max (tget 0 s.secu.arb ctr) (min 64 svn)

/-- Burns fuses of an anti-rollback counter up to `svn` (R552). -/
def State.burn (ctr svn : Nat) (s : State) : State :=
  { s with secu := { s.secu with arb := tset 0 ctr (s.burnt ctr svn) s.secu.arb } }.setFld
    (F.SEC_ARB_VALUE (ctr % 64)) (s.burnt ctr svn)

/-- An exchange command with its KEY (R182, R188, R190); REVERT follows the rules of ARM, and COMMIT raises the image's
anti-rollback counter (R552). -/
def State.exchCmd (key code : Nat) (s : State) : State :=
  let st := s.exchState
  let may := s.inMode [Mode.idle, Mode.run, Mode.hold, Mode.engineer]
  let drop (s : State) : State :=
    (({ s with
        scan := { s.scan with other := none, oldInsts := [], affected := if s.scan.releaseAt.isSome then s.scan.affected else [] }
        boot := if s.scan.runSlot then { s.boot with slotA := none } else { s.boot with slotB := none } }).setFld
      F.EXCH_STAT_STATE Exch.none_).exchResult code Res.ok
  if key ≠ 0xA5 then s.exchResult (s.fld F.EXCH_STAT_CODE) Res.badKey
  else if code = 1 ∧ st = Exch.loaded ∧ may then s.exchArm code Exch.armed
  else if code = 2 ∧ st = Exch.switched then
    let s := match s.scan.program with
      | some p => s.burn p.ctr p.svn
      | none => s
    drop { s with boot := { s.boot with bootSlot := s.scan.runSlot } }
  else if code = 3 ∧ st = Exch.switched ∧ may then s.exchArm code Exch.revertArmed
  else if code = 4 ∧ st = Exch.loaded then drop s
  else s.exchResult code Res.refusedState

/-- ARM (R182). -/
def execArm (_o : Origin) (key : Byte) (s : State) : Out := .next (s.exchCmd key.toNat 1)

/-- COMMIT (R188). -/
def execCommit (_o : Origin) (key : Byte) (s : State) : Out := .next (s.exchCmd key.toNat 2)

/-- REVERT (R188). -/
def execRevert (_o : Origin) (key : Byte) (s : State) : Out := .next (s.exchCmd key.toNat 3)

/-- DISCARD (R188). -/
def execDiscard (_o : Origin) (key : Byte) (s : State) : Out := .next (s.exchCmd key.toNat 4)

/-- Have the executions of affected tasks ended, and the queues of removed event tasks emptied (R183)? -/
def State.exchQuiet (s : State) : Bool :=
  let l := s.scan.affected
  let u := s.sched
  (s.scan.execs.all fun p => !l.contains p.2.task) &&
  (l.all fun t => !s.removedEvent t ||
    (!(u.entries.any fun e => e.task == t) && !(u.delayed.any fun d => d.2.2.task == t) && !(u.lost.any fun m => m.task == t)))

def State.exchWaits (s : State) : Bool := s.exchState == Exch.armed || s.exchState == Exch.revertArmed

/-- The switch to the image `new` (R183, R184): state is migrated, and the default error task receives EXCHANGE. Owners and the
init tasks with EXCH_INIT wait for the release. -/
def State.exchSwitch (new : Program) (s : State) : State :=
  let old := s.scan.program.getD {}
  let inits := (changedTasks old new).filter fun t => new.tasks.any fun d => d.num == t && d.kind == .init && d.exchInit
  let s := s.migrate old new
  let s := { s with scan := { s.scan with armDeadline := none, oldOwns := old.owns, exchInits := inits } }
  ((s.setFld F.EXCH_STAT_STATE Exch.switched).setFld F.EXCH_STAT_RESULT Res.ok).reasonTo s.defaultErr 0x09 0 Exch.switched 0

/-- The release (R183, R184, R190): affected tasks and held events go on, unless a REVERT holds them again; their counters clear,
init tasks with EXCH_INIT that the switch added or changed run once, cyclic tasks start at their next instants. -/
def State.exchRelease (s : State) : State :=
  let l := s.scan.affected
  let again := s.exchWaits
  let s := forL l (fun t s =>
    (((s.setFld (F.TASK_STAT_OVERRUNS t) 0).setFld (F.TASK_STAT_SKIPS t) 0).setFld (F.TASK_TIME_MAX t) 0).setFld
      (F.TASK_TIME_LAST t) 0) s
  let k := s.tbc / 250
  let due := s.scan.exchInits
  let s := s.modSched fun u =>
    { u with held := if again then u.held else [], inits := (List.range 64).filter fun t => u.inits.contains t || due.contains t,
             next := (s.cyclicTasks.filter fun d => l.contains d.num).foldl (fun n d => tset 0 d.num (nextTickOf d k) n) u.next }
  { s with scan := { s.scan with releaseAt := none, oldOwns := [], exchInits := [], affected := if again then l else [] } }.beginWaits

/-- A leader tells its follower the image and the journal cycle of the release, which is the second from now (R189). -/
def State.exchTell (new : Program) (s : State) : State :=
  if s.fld F.PART_CTRL_ROLE = 1 then (s.emit (.partner 5 new.hash)).emit (.partner 6 (s.jnl.cycle + 2)) else s

/-- EXCHANGE_SWITCH: the new image runs; the journal names the old image until the release (R183, R187), 2 ms later. -/
def execExchangeSwitch (s : State) : Out :=
  .next (match s.scan.other with
    | some new =>
      if s.exchWaits && s.exchQuiet && s.scan.armDeadline.isSome && s.scan.releaseAt.isNone then
        let s := s.exchSwitch new
        { s with scan := { s.scan with releaseAt := some (s.tbc + ms 2) } }.exchTell new
      else s
    | none => s)

/-- EXCHANGE_RELEASE: 2 ms after the switch a full checkpoint generation in the new layout commits, which names the new image, and
the affected tasks are released (R74, R183, R187). -/
def execExchangeRelease (s : State) : Out :=
  .next (match s.scan.releaseAt with
    | none => s
    | some t => if s.tbc < t then s else (if s.jnlOn then (s.imageTake s.retain).checkpoint else s).exchRelease)

/-- A follower switches to the image that the leader's delta names, if it holds that image: switch and release in one (R189). -/
def State.followSwitch (hash : Nat) (s : State) : State :=
  match s.scan.other with
  | some q =>
    if hash = q.hash ∧ s.exchState = Exch.loaded then
      let l := affectedTasks (s.scan.program.getD {}) q
      let s := { s with scan := { s.scan with affected := l } }.setFld F.EXCH_STAT_AFFECTED l.length
      let s := s.exchSwitch q
      (if s.jnlOn then (s.imageTake s.retain).checkpoint else s).exchRelease
    else s
  | none => s

/-- EXCHANGE_TIMEOUT: EXCH_WAIT has passed and something still runs or waits: the ARM ends with TIMEOUT and the starts
resume (R183). -/
def execExchangeTimeout (s : State) : Out :=
  .next (match s.scan.armDeadline with
    | none => s
    | some t =>
      if s.exchWaits && decide (t ≤ s.tbc) && !s.exchQuiet then
        let s := { s with scan := { s.scan with armDeadline := none } }.modSched fun u =>
          { u with held := if s.scan.releaseAt.isSome then u.held else [] }
        let back := if s.exchState = Exch.armed then Exch.loaded else Exch.switched
        (s.setFld F.EXCH_STAT_STATE back).setFld F.EXCH_STAT_RESULT Res.timeout
      else s)

end Sys2Proof.Machine
end

