-- ==== Sys2Proof/Machine/Sentinel.lean ====
section
/-!
DEFINITION. The sentinel (R498 to R515): its evaluation, discrepancies, readback, test pulses, the core die's requests
and reports, LOCKOUT's causes, the deliberate reset, the safety parameters and the brake holding test.
-/

set_option Elab.async false

namespace Sys2Proof.Machine

def State.pair (s : State) (n : Nat) : Pair := tget {} s.safe.pairs n
def State.modPair (n : Nat) (f : Pair → Pair) (s : State) : State :=
  { s with safe := { s.safe with pairs := tmod {} n f s.safe.pairs } }

/-- Fields of the parameters in force (R510). -/
def State.pairMode (s : State) (n : Nat) : Nat := s.safeParam (16 + 16 * n) 1
def State.pairStop (s : State) (n : Nat) : Bool := s.safeParam (17 + 16 * n) 1 == 1
def State.sbcParam (s : State) (n o k : Nat) : Nat := s.safeParam (144 + 32 * n + o) k

/-- The sentinel is READY. -/
def State.sentReady (s : State) : Bool := s.fld F.SAFE_STAT_STATE == 2

/-! ### Safe inputs (R501, R502) -/

/-- One filtered input: it follows the pad once the pad has differed from it for FILT. -/
def filterPad (filt now : Nat) (pad old : Bool) (since : Option Nat) : Bool × Option Nat :=
  if pad = old then (old, none)
  else
    let t := since.getD now
    if filt ≤ now - t then (pad, none) else (old, some t)

/-- Pair `n` at an evaluation: filters, discrepancy, closed; a STOP pair that opens, or stands open while READY, is a
cause of LOCKOUT. -/
def State.pairEval (padA padB : Bool) (n : Nat) (s : State) : State :=
  let m := s.pairMode n
  if m = 0 then
    ((s.modPair n fun _ => {}).setFbit F.SAFE_STAT_PAIR_CLOSED n false).setFbit F.SAFE_STAT_PAIR_DISC n false
  else
    let x := s.pair n
    let f := ms (max 1 (s.safeParam (18 + 16 * n) 1))
    let (a, sa) := filterPad f s.tbc padA x.a x.sinceA
    let (b, sb) := filterPad f s.tbc padB x.b x.sinceB
    let ca := a
    let cb := if m = 2 then !b else b
    let mo := x.mustOpen && (ca || cb)
    let closed := ca && cb && !mo
    let s := s.modPair n fun _ =>
      { a := a, b := b, sinceA := sa, sinceB := sb, closed := closed,
        discSince := if ca != cb then some (x.discSince.getD s.tbc) else none, mustOpen := mo }
    let s := (s.setFbit F.SAFE_STAT_PAIR_CLOSED n closed).setFbit F.SAFE_STAT_PAIR_DISC n (ca != cb)
    if s.pairStop n && !closed && (x.closed || s.sentReady) then s.lockout 3 n else s

/-! ### The high-side switches (R499, R506, R514) -/

/-- A condition of the brake holding test that holds SBCn off: a test on it, a FAIL, the grace passed since it was
last engaged. -/
def State.bhtHolds (s : State) (n : Nat) : Bool :=
  (match s.safe.bht with
   | some b => b.out == n
   | none => false) ||
  s.fbit F.SAFE_BHT_BRK_FAIL n || ((s.sbc n).graceOver && !((s.sbc n).high && (s.sbc n).low) && !s.pulsed n)

/-- May the sentinel switch SBCn on (R499), test pulses apart? A pair that is OFF is not used (R501). -/
def State.sbcMay (s : State) (n : Nat) : Bool :=
  s.sentReady && bitOf (s.sbcParam n 0 1) 0 &&
  (List.range 8).all (fun k => !bitOf (s.sbcParam n 1 1) k || s.pairMode k == 0 || s.pairStop k || (s.pair k).closed) && !s.bhtHolds n

/-- SBCn at an evaluation: the high side follows its conditions and the request last reported. -/
def State.sbcEval (n : Nat) (s : State) : State :=
  let may := s.sbcMay n
  let s := s.setFbit F.SAFE_OUT_HELD n (!may)
  if s.pulsed n then (if may then s else s.sbcEngage true n)
  else s.sbcSet n (may && bitOf s.safe.request n) (s.sbc n).low

/-- SENTINEL_EVALUATION every 250 µs, with the levels at the safe inputs; the matrix sees the SBC outputs as they then are
(R504). -/
def execSentinelEvaluation (sinA sinB : BitVec 8) (s : State) : Out :=
  .next (if s.tbc % 62500 = 0 ∧ s.mode ≠ Mode.vault ∧ s.sys.vsen = true then
    let s := forN 8 (fun n => State.pairEval (sinA.getLsbD n) (sinB.getLsbD n) n) s
    (forN 8 State.sbcEval s).ilmEval
  else s)

/-- DISCREPANCY_EXPIRY: pair `n` has been discrepant for longer than DISC (R501). -/
def execDiscrepancyExpiry (n : Fin 8) (s : State) : Out :=
  .next (match (s.pair n).discSince with
    | some t =>
      if t + ms (s.safeParam (20 + 16 * n) 2) < s.tbc ∧ !(s.pair n).mustOpen then
        ((s.modPair n fun x => { x with mustOpen := true, closed := false }).setFbit F.SAFE_STAT_PAIR_CLOSED n false).trip 4 n
      else s
    | none => s)

/-! ### Readback and reports (R500, R504) -/

/-- SBCn as the readback of a report finds it: the pads, and since when they have been wrong. An output with one switch
on is not judged. -/
def State.sbcRead (n : Nat) (p l : Bool) (s : State) : State :=
  let b := s.sbc n
  let wrong := b.high == b.low && !s.pulsed n && (p != b.high || l != b.low)
  let s := s.modSbc n fun b =>
    { b with padP := p, padN := l, mismatch := if wrong then some (b.mismatch.getD s.tbc) else none }
  s.sbcShow n

/-- CORE_REPORT every 100 µs: the request and the readback of both pads, `padP` SBCn_P high, `padN` SBCn_N low. -/
def execCoreReport (padP padN : BitVec 8) (s : State) : Out :=
  .next (if s.tbc % 25000 = 0 ∧ s.mode ≠ Mode.vault then
    let s := { s with safe := { s.safe with report := s.tbc, request := s.fld F.SAFE_REQ_REQ } }
    (forN 8 (fun n => State.sbcRead n (padP.getLsbD n) (padN.getLsbD n)) s).ilmEval
  else s)

/-- CORE_SILENT: no report for 1 ms. -/
def execCoreSilent (s : State) : Out :=
  .next (if s.safe.report + ms 1 ≤ s.tbc ∧ s.fld F.SAFE_STAT_STATE ≠ 0 then s.trip 7 0 else s)

/-- READBACK_MISMATCH: the readback of SBCn has been wrong for 1 ms. -/
def execReadbackMismatch (n : Fin 8) (s : State) : Out :=
  .next (match (s.sbc n).mismatch with
    | some t => if t + ms 1 ≤ s.tbc then s.trip 5 n else s
    | none => s)

/-- A write of SAFE_REQ (R500): ignored in DAWN, IDLE, LOCKOUT and FOLLOW and from time 0 of the dusk sequence. A
request that returns during a test pulse waits for its end (R506). -/
def State.safeReqWrite (v : Nat) (s : State) : State :=
  if s.inMode [Mode.vault, Mode.dawn, Mode.idle, Mode.lockout, Mode.follow] || s.sys.dusk.isSome then s
  else
    forN 8 (fun n s =>
      if bitOf v n then
        (if s.pulsed n || s.fld F.SAFE_STAT_STATE == 1 then s else s.sbcSet n (s.sbc n).high true)
      else if (s.sbc n).low || s.pulsed n then s.sbcEngage false n else s) (s.setFld F.SAFE_REQ_REQ v) |>.ilmEval

def execSafeReqWrite (_o : Origin) (v : Word) (s : State) : Out := .next (s.safeReqWrite v.toNat)

/-! ### Test pulses (R505, R506) -/

/-- TEST_PULSE: a test of SBCn is due, no pulse runs and the last ended 1 ms ago or more. -/
def execTestPulse (n : Fin 8) (s : State) : Out :=
  .next (
    let b := s.sbc n
    let gap : Bool := match s.safe.pulseEnd with
      | some t => decide (t + ms 1 ≤ s.tbc)
      | none => true
    match b.testDue with
    | some d =>
      if d ≤ s.tbc ∧ gap ∧ s.safe.pulse = none ∧ b.high ∧ b.low then
        let per := sec (max 1 (s.sbcParam n 4 4))
        let s := { s with safe := { s.safe with pulse := some { out := n, low := b.testLow, start := s.tbc } } }
        let s := s.modSbc n fun b =>
          { b with high := b.testLow, low := !b.testLow, padP := b.testLow, padN := !b.testLow,
                   mismatch := none, testDue := some (d + per) }
        ((s.sbcShow n).incSat F.SAFE_TEST_PULSES).ilmEval
      else s
    | none => s)

/-- TEST_PULSE_END: `p` and `l` are the readback (P high, N low) in the pulse's last 20 µs; `back`: the energised
readback returned within 100 µs. An inconclusive test judges neither; its output is energised if it may and is
requested. -/
def execTestPulseEnd (p l back : Bool) (s : State) : Out :=
  .next (match s.safe.pulse with
    | some q =>
      if q.start + us (max 100 (min 400 (s.sbcParam q.out 2 2))) ≤ s.tbc then
        let s := { s with safe := { s.safe with pulse := none, pulseEnd := some s.tbc } }
        let req := s.fbit F.SAFE_REQ_REQ q.out
        if q.demanded then (s.sbcSet q.out (req && s.sbcMay q.out) (req && s.fld F.SAFE_STAT_STATE != 1)).ilmEval
        else
          let s := s.modSbc q.out fun b => { b with high := true, low := true, padP := true, padN := true, testLow := !q.low }
          let s := (s.sbcShow q.out).ilmEval
          if p = q.low && l = !q.low && back then s else s.trip 5 q.out
      else s
    | none => s)

/-! ### VSEN (R568) -/

/-- VSEN_FAULT: VSEN has been outside 3.0 to 3.6 V for 100 µs. An outage without PFAIL_N is counted from here (R80). -/
def execVsenFault (s : State) : Out :=
  .next (
    let v := s.vault
    let run := v.outageRun || s.sys.dusk.isSome || s.mode == Mode.vault
    let s := { s with sys := { s.sys with vsen := false }, vault := { v with outageRun := run } }
    if s.mode = Mode.vault then s else s.trip 10 0)

/-! ### Deliberate reset (R508, R509) -/

/-- LAST_REJ of a press, 0 when it is accepted. -/
def State.pressJudge (skew held release : Nat) (selftest : Bool) (s : State) : Nat :=
  if 3000000 < held then 2
  else if 100000 < skew ∨ 100000 < release then 3
  else if held < 200000 then 1
  else if s.mode ≠ Mode.lockout then 6
  else if (List.range 8).any (fun n => s.pairMode n != 0 && ((s.pairStop n && !(s.pair n).closed) || (s.pair n).discSince.isSome)) ||
    !selftest || s.preempted 6 then 4
  else if s.sevPending 5 then 5 else 0

/-- DELIBERATE_RESET: a press judged when both inputs are inactive again. `skew` and `release` are how far apart the two
inputs went active and inactive, `held` how long both were active, in µs; `selftest`: the sentinel's self-test
passes. After a STUCK rejection a press counts only once both inputs have been inactive for 1 s. A cause that
arose in this 250 µs evaluation wins over an accepted press. -/
def execDeliberateReset (skew held release : BitVec 32) (selftest : Bool) (s : State) : Out :=
  .next (
    if s.mode = Mode.vault then s else
    let start := s.tbc - us (skew.toNat + held.toNat + release.toNat)
    let early := match s.safe.stuckUntil with
      | some t => decide (start < t)
      | none => false
    if early then { s with safe := { s.safe with stuckUntil := some (s.tbc + sec 1) } }
    else
      let s := { s with safe := { s.safe with stuckUntil := none } }
      let r := s.pressJudge skew.toNat held.toNat release.toNat selftest
      if r ≠ 0 then
        let s := (s.incSat F.SAFE_RST_REJECTS).setFld F.SAFE_RST_LAST_REJ r
        if r = 2 then { s with safe := { s.safe with stuckUntil := some (s.tbc + sec 1) } } else s
      else
        let s := s.incSat F.SAFE_RST_ACCEPTED
        let won := match s.safe.fresh with
          | some (c, a, t) => if t / 62500 = s.tbc / 62500 then some (c, a) else none
          | none => none
        match won with
        | some (c, a) => (s.setFld F.SAFE_STAT_REASON c).setFld F.SAFE_STAT_ARG a
        | none => (((s.setFld F.SAFE_STAT_STATE 2).setFlag F.SAFE_STAT_SOFF false).soffAxes).causeMode 6
            [Mode.lockout] Mode.idle)

/-! ### Safety parameters (R510 to R512) -/

/-- The words of the pending area. -/
def State.pendWord (s : State) (w : Nat) : Word := s.reg (F.SAFE_PEND_WORD w).addr

/-- The CRC-32 of the pending area. -/
def State.pendCrc (s : State) : Nat := crc32 ((List.range 512).flatMap fun w => leBytes 4 (s.pendWord w).toNat)

/-- Closes a confirmation window. -/
def State.confClose (s : State) : State :=
  ({ s with safe := { s.safe with window := none } }).setFlag F.SAFE_STAT_CONF_OPEN false

/-- A write of word `w` of the pending area: in ENGINEER only; SAFE_CHECK shows the new CRC, and an open window closes. -/
def State.pendWrite (w : Nat) (v : Word) (s : State) : State :=
  if s.mode ≠ Mode.engineer then s
  else
    let s := (s.setReg (F.SAFE_PEND_WORD w).addr v).confClose
    s.setFld F.SAFE_CHECK_CRC s.pendCrc

def execPendingAreaWrite (_o : Origin) (w : Fin 512) (v : Word) (s : State) : Out := .next (s.pendWrite w v)

/-- `k` bytes of the pending area at an offset, little-endian. -/
def State.pendBytes (s : State) (o k : Nat) : Nat :=
  (List.range k).foldl (fun v i => v + bitsOf (s.pendWord ((o + i) / 4)) (8 * ((o + i) % 4)) 8 * 2 ^ (8 * i)) 0

/-- A field of the parameter block: offset, size, least and largest value, another allowed value, and the byte that
must not be 0 for its range to apply. -/
structure ParamRange where
  off : Nat
  size : Nat
  lo : Nat
  hi : Nat
  also : Option Nat := none
  gate : Option Nat := none
deriving DecidableEq, Repr

/-- Reserved bytes are 0. -/
def zeroBytes (o k : Nat) : List ParamRange := (List.range k).map fun i => { off := o + i, size := 1, lo := 0, hi := 0 }

/-- The ranges of R510 in the order of their offsets. A pair that is OFF and an output with EN 0 have no FILT, DISC,
PULSE_US and TEST_S to check. -/
def paramRanges : List ParamRange :=
  [{ off := 0, size := 4, lo := 0x53465053, hi := 0x53465053 }, { off := 4, size := 2, lo := 1, hi := 1 }] ++
  zeroBytes 6 2 ++ zeroBytes 12 4 ++
  (List.range 8).flatMap (fun n =>
    let o := 16 + 16 * n
    [{ off := o, size := 1, lo := 0, hi := 2 }, { off := o + 1, size := 1, lo := 0, hi := 1 },
     { off := o + 2, size := 1, lo := 1, hi := 50, gate := some o }, { off := o + 3, size := 1, lo := 0, hi := 0 },
     { off := o + 4, size := 2, lo := 10, hi := 2000, gate := some o }] ++ zeroBytes (o + 6) 10) ++
  (List.range 8).flatMap (fun n =>
    let o := 144 + 32 * n
    [{ off := o, size := 1, lo := 0, hi := 1 }, { off := o + 2, size := 2, lo := 100, hi := 400, gate := some o },
     { off := o + 4, size := 4, lo := 1, hi := 86400, gate := some o },
     { off := o + 8, size := 1, lo := 0, hi := 127, also := some 255 }, { off := o + 9, size := 1, lo := 0, hi := 1 },
     { off := o + 16, size := 2, lo := 0, hi := 8760 }] ++ zeroBytes (o + 20) 12) ++
  zeroBytes 448 1600

/-- First byte offset that fails its range. -/
def State.paramBad (s : State) : Option Nat :=
  (paramRanges.find? fun r =>
    let v := s.pendBytes r.off r.size
    let on := match r.gate with
      | some g => s.pendBytes g 1 != 0
      | none => true
    on && !(decide (r.lo ≤ v ∧ v ≤ r.hi) || r.also == some v)).map ParamRange.off

/-- Puts the words of a block in force. -/
def State.blockLoad (f : Nat → Word) (s : State) : State :=
  forN 512 (fun w s => s.setReg (F.SAFE_BLOCK_WORD w).addr (f w)) s

/-- The pending words become the stored parameter block. -/
def State.pendStore (s : State) : State :=
  { s with safe := { s.safe with
      stored := some (((List.range 512).map fun w => (w, s.pendWord w)).filter fun p => p.2 != 0) } }

/-- The pending words come into force. -/
def State.pendTake (s : State) : State :=
  (s.pendStore.blockLoad s.pendWord).setFld F.SAFE_ACTIVE_CRC (s.fld F.SAFE_CHECK_CRC)

/-- A commit answers BAD_PARAM with the offset of the first value out of its range, or takes the pending area: both
copies, LOCKOUT with PARAM_CHANGED, and a record of both CRCs. -/
def State.commitResult (bad : Option Nat) (s : State) : State :=
  match bad with
  | some o => ((s.setFld F.SAFE_CMDSTAT_CODE 255).setFld F.SAFE_CMDSTAT_BADOFS o).setFld F.SAFE_CMDSTAT_RESULT Res.badParam
  | none =>
    (((s.pendTake.setFld F.SAFE_CMDSTAT_CODE 255).setFld F.SAFE_CMDSTAT_BADOFS 0).setFld F.SAFE_CMDSTAT_RESULT Res.ok
      |>.log .safeCommit (s.fld F.SAFE_ACTIVE_CRC) (s.fld F.SAFE_CHECK_CRC)).trip 2 0

/-- Commits the pending area (R511). -/
def State.safeCommit (s : State) : State := s.confClose.commitResult s.confClose.paramBad

/-- A write of SAFE_CONFIRM: in ENGINEER the value of SAFE_CHECK opens the 10 s window, and the second time within it
commits; another value closes it. -/
def State.safeConfirm (v : Nat) (s : State) : State :=
  if s.mode ≠ Mode.engineer then s
  else if v ≠ s.fld F.SAFE_CHECK_CRC then s.confClose
  else match s.safe.window with
    | some t =>
      if s.tbc ≤ t + sec 10 then s.safeCommit
      else ({ s with safe := { s.safe with window := some s.tbc } }).setFlag F.SAFE_STAT_CONF_OPEN true
    | none => ({ s with safe := { s.safe with window := some s.tbc } }).setFlag F.SAFE_STAT_CONF_OPEN true

def execSafeConfirm (_o : Origin) (v : Word) (s : State) : Out := .next (s.safeConfirm v.toNat)

/-- CONFIRM_WINDOW_EXPIRY: 10 s have passed since the first write. -/
def execConfirmWindowExpiry (s : State) : Out :=
  .next (match s.safe.window with
    | some t => if t + sec 10 < s.tbc then s.confClose else s
    | none => s)

/-- The stored parameter block is loaded into the active words. -/
def State.storedLoad (s : State) : State :=
  let l := s.safe.stored.getD []
  (s.blockLoad fun w => tget 0 l w).setFld F.SAFE_ACTIVE_CRC
    (crc32 ((List.range 512).flatMap fun w => leBytes 4 (tget (0 : Word) l w).toNat))

/-- What runs in the sentinel is dropped; the records of the brakes' tests stay. -/
def State.sentinelClear (s : State) : State :=
  { s with safe := { s.safe with
      pairs := [], pulse := none, pulseEnd := none, bht := none, request := 0, report := s.tbc, fresh := none,
      window := none, stuckUntil := none, xchkOut := 0,
      sbcs := tmap {} (fun _ b => { deenergised := s.tbc, lastPass := b.lastPass, graceOver := b.graceOver,
                                    testLow := b.testLow, retest := b.retest }) s.safe.sbcs } }

/-- The sentinel at its start-up (R507, R512): the stored parameters or the factory block in force; READY only if it
left READY at the dusk sequence, else LOCKOUT with the reason it kept. `copies`: a stored copy matches its CRC;
`selftest`: the sentinel's own test passes. -/
def State.sentinelStart (copies selftest : Bool) (s : State) : State :=
  let ok := copies && s.safe.stored.isSome
  let s := (if ok then s.storedLoad else s).sentinelClear
  if s.fld F.SAFE_STAT_STATE = 1 then s
  else if s.safe.wasReady then
    (if !selftest then s.lockout 8 0 else if !ok then s.lockout 1 0 else s.setFld F.SAFE_STAT_STATE 2)
  else s.lockout (if s.safe.kept.1 = 0 then 1 else s.safe.kept.1) s.safe.kept.2

/-! ### SAFE commands (R513 to R515) -/

/-- P_fb of axis `n`. -/
def State.axPfb (s : State) (n : Nat) : Int := (s.axis n).fb + (s.axis n).fbOfs

/-- May a brake holding test of SBCn start (R513)? -/
def State.bhtMay (s : State) (n : Nat) : Bool :=
  let ax := s.sbcParam n 8 1
  s.inMode [Mode.run, Mode.engineer] && s.sentReady && s.safe.bht.isNone && !s.pulsed n &&
  !((s.sbc n).high && (s.sbc n).low) && decide ((s.sbc n).deenergised + ms 200 ≤ s.tbc) &&
  decide (ax < 128) && s.axOn ax && s.axMode ax == Ax.servo && s.axState ax == Ax.rest

/-- BHT_START: the high side of SBCn is held off; the loop engine commits BHT_TORQUE in place of the slot's output. -/
def State.bhtStart (n : Nat) (s : State) : State :=
  let ax := s.sbcParam n 8 1
  let b : Bht := { out := n, axis := ax, slot := s.fld (F.SRV_CFG_SLOT ax), phase := 0, start := s.tbc,
                   base := s.axPfb ax, torque := toSigned 16 (s.sbcParam n 10 2) }
  let s := { s with safe := { s.safe with bht := some b } }
  let s := ((s.setFlag F.SAFE_BHT_RUNNING true).setFld F.SAFE_BHT_SBC n).setFld F.SAFE_BHT_RESULT 0
  ((s.setFld F.SAFE_BHTDEV_COUNTS 0).sbcSet n false (s.sbc n).low).setFbit F.SAFE_OUT_HELD n true

/-- PEND_CLEAR: the active block is copied into the pending area; a write of that area, so in ENGINEER only. -/
def State.pendClear (s : State) : State :=
  (forN 512 (fun w t => t.setReg (F.SAFE_PEND_WORD w).addr (s.reg (F.SAFE_BLOCK_WORD w).addr)) s.confClose).setFld
    F.SAFE_CHECK_CRC (s.fld F.SAFE_ACTIVE_CRC)

/-- Shows a command's code and result. -/
def State.safeResult (code res : Nat) (s : State) : State :=
  (s.setFld F.SAFE_CMDSTAT_CODE code).setFld F.SAFE_CMDSTAT_RESULT res

/-- A write of SAFE_CMD. -/
def State.safeCmd (key code n : Nat) (s : State) : State :=
  if key ≠ 0xA5 then s.setFld F.SAFE_CMDSTAT_RESULT Res.badKey
  else if code = 1 then
    (if s.bhtMay n then (s.bhtStart n).safeResult code Res.pending else s.safeResult code Res.refusedState)
  else if code = 2 then
    (if s.safe.bht.isSome then s.bhtInconclusive.safeResult code Res.ok else s.safeResult code Res.refusedState)
  else if code = 3 then
    (if s.mode = Mode.engineer then s.pendClear.safeResult code Res.ok else s.safeResult code Res.refusedState)
  else s.safeResult code Res.refusedState

def execBhtStart (_o : Origin) (key : BitVec 8) (n : Fin 8) (s : State) : Out := .next (s.safeCmd key.toNat 1 n)
def execBhtAbort (_o : Origin) (key : BitVec 8) (n : Fin 8) (s : State) : Out := .next (s.safeCmd key.toNat 2 n)
def execPendClear (_o : Origin) (key : BitVec 8) (n : Fin 8) (s : State) : Out := .next (s.safeCmd key.toNat 3 n)

/-- BHT_PHASE_END: 500 ms of torque have passed; with BOTH the second phase commits the negative torque, else the test
ends with PASS (R513, R514). -/
def execBhtPhaseEnd (s : State) : Out :=
  .next (match s.safe.bht with
    | some b =>
      if b.start + ms 500 ≤ s.tbc then
        if b.phase = 0 ∧ bitOf (s.sbcParam b.out 9 1) 0 then
          { s with safe := { s.safe with bht := some { b with phase := 1, start := s.tbc, torque := -b.torque } } }
        else
          let s := s.bhtEnd 1
          let s := (s.setFbit F.SAFE_BHT_BRK_FAIL b.out false).setFbit F.SAFE_BHT_BHT_DUE b.out false
          (s.endCond (32 + b.out) b.out).modSbc b.out fun x => { x with lastPass := s.vault.opt, graceOver := false }
      else s
    | none => s)

/-- Hours in units of the operating-time counter. -/
def hoursOpt (h : Nat) : Nat := h * 3600 * 1024

/-- BHT_DUE_EXPIRY: BHT_H hours without a PASS of SBCn. -/
def execBhtDueExpiry (n : Fin 8) (s : State) : Out :=
  .next (
    let h := s.sbcParam n 16 2
    if h ≠ 0 ∧ (s.sbc n).lastPass + hoursOpt h ≤ s.vault.opt ∧ !s.fbit F.SAFE_BHT_BHT_DUE n ∧ s.mode ≠ Mode.vault then
      (s.setFbit F.SAFE_BHT_BHT_DUE n true).raiseCond (32 + n) n
    else s)

/-- BHT_GRACE_EXPIRY: BHT_GRACE hours more; SBCn is not released again until a PASS. -/
def execBhtGraceExpiry (n : Fin 8) (s : State) : Out :=
  .next (
    let h := s.sbcParam n 16 2
    if s.fbit F.SAFE_BHT_BHT_DUE n ∧ (s.sbc n).lastPass + hoursOpt (h + s.sbcParam n 18 2) ≤ s.vault.opt then
      s.modSbc n fun b => { b with graceOver := true }
    else s)

end Sys2Proof.Machine
end

