-- ==== Sys2Proof/Machine/Power.lean ====
section
/-!
DEFINITION. The mode machine's commands (R53, R54, R57), the dusk sequence (R77 to R81, R566, R579), the online firmware
exchange (R93 to R96), the partner pair (R87 to R91), and a core stopped by its lockstep checker (R525, R526).
-/

set_option Elab.async false

namespace Sys2Proof.Machine

/-! ### The dusk sequence (R77 to R81) -/

/-- Time 0 of the dusk sequence: the outage clock starts, except that a loss during DAWN goes on counting; sequencers
freeze; SAFE_REQ is held at 0; acquisition is abandoned; a leader sends DUSK (R77, R80, R81, R411, R500, R507). -/
def State.duskStart (clock : Bool) (s : State) : State :=
  if s.sys.dusk.isSome || s.mode = Mode.vault || (s.mode = Mode.dawn && s.sys.dawn.isNone) then s
  else
    let s := (s.cause 1).setReg F.SYS_MODE_MODE.addr (s.modeBase 1)
    let again := s.mode = Mode.dawn && !s.vault.deltaSince
    let s := { s with
      sys := { s.sys with dusk := some s.tbc, duskStep := 0, pendCmd := none }
      vault := { s.vault with
        outageRun := clock, outage := if again then s.vault.outage else 0, outagePhase := if again then s.vault.outagePhase else 0,
        outageUnknown := again && s.vault.outageUnknown }
      safe := { s.safe with wasReady := s.sentReady, kept := (s.fld F.SAFE_STAT_REASON, s.fld F.SAFE_STAT_ARG) } }
    let s := forL (s.seqs.map Prod.fst) (fun n s =>
      if (s.seq n).pos.st = Rs.running then
        ((s.modPos n (SeqPos.freeze Rs.frozen s.tbc)).modSeq n fun q => { q with prep := none }).seqShow n
      else s) s
    let s := forL (s.safe.sbcs.map Prod.fst) (State.sbcEngage false) (s.setFld F.SAFE_REQ_REQ 0)
    let s := (forN 4 State.certForget s).recDusk
    if s.fld F.PART_CTRL_ROLE = 1 then s.emit (.partner 1 0) else s

/-- PFAIL_ASSERT: PFAIL_N has been low for 2 µs. -/
def execPfailAssert (s : State) : Out := .next (s.duskStart true)

/-- SUPPLY_FAIL: a package supply has been outside its window for 2 µs (R564, R566). Without PFAIL_N the outage clock starts
when the sentinel sees VSEN fall (R80). -/
def execSupplyFail (s : State) : Out := .next (s.duskStart (!s.sys.vsen))

/-- CORE_OVERTEMP: the core die's junction is above 120 °C at its measurement every 1 ms (R579). -/
def execCoreOvertemp (s : State) : Out :=
  .next (if s.tbc % 250000 = 0 ∧ s.sys.dusk.isNone ∧ s.mode ≠ Mode.vault then
    ({ s with sys := { s.sys with overtemp := true } }.log .overtemp 0 0).duskStart true
  else s)

/-- DUSK_TASK_DEADLINE: a task still running at 1.0 ms is stopped; nothing of it is transferred, and its writes outside the
transfer are taken back, so that the journal holds none of them. -/
def execDuskTaskDeadline (s : State) : Out :=
  .next (match s.sys.dusk with
    | some t =>
      if t + ms 1 ≤ s.tbc ∧ s.sys.duskStep = 0 then
        let s := forL (s.scan.execs.map Prod.fst) (fun c s =>
          ({ s.takeBack c with scan := { s.scan with execs := tdel c s.scan.execs } }).modCore c fun k =>
            { k with undo := [], undoOver := false, olds := [], wait := none }) s
        { s with sys := { s.sys with duskStep := 1 } }
      else s
    | none => s)

/-- DUSK_POWER_FAIL_STATE: every output takes its power-fail value, MOT is inhibited, SBC0–SBC7 turn off. -/
def execDuskPowerFailState (s : State) : Out :=
  .next (if s.sys.dusk.isSome ∧ s.sys.duskStep = 2 then
    let s := { s with sys := { s.sys with duskStep := 3 }, out := { s.out with powerFail := true } }
    let s := forN 128 (State.axInhibit 5 7) s
    let s := forL (s.safe.sbcs.map Prod.fst) (State.sbcEngage true) s
    forN 4 State.dieRefresh s
  else s)

/-- What outlives the loss of the supplies: the vault, boot flash, journal, event log, SEC, varnish seals, the sentinel's
stored parameters and what it holds about brakes, and the levels at the pads. Everything else is as after reset. -/
def State.powerless (s : State) : State :=
  { pending := s.pending, free := s.free, rdata := s.rdata, outbox := s.outbox
    vault := s.vault, boot := s.boot, jnl := s.jnl
    evl := { slots := s.evl.slots, seq := s.evl.seq }
    sys := { overtemp := s.sys.overtemp, vsen := s.sys.vsen }
    safe := { stored := s.safe.stored, wasReady := s.safe.wasReady, kept := s.safe.kept, sbcs := s.safe.sbcs }
    secu := { s.secu with verifying := none, programSvn := none }
    dies := tmap {} (fun _ d => { sealW := d.sealW, slotB := d.slotB, other := d.other, sealOk := d.sealOk }) s.dies
    chans := tmap {} (fun _ c => { raw := c.raw }) s.chans
    ilm := { ilk := s.ilm.ilk, trigl := s.ilm.trigl, latOut := s.ilm.latOut } }

/-- LOCKOUT held by the sentinel is kept through VAULT and DAWN, with its reason and its safe-off (R62, R507). -/
def State.keepLockout (b s : State) : State :=
  if b.fld F.SAFE_STAT_STATE = 1 then
    (((s.setFld F.SAFE_STAT_STATE 1).setFlag F.SAFE_STAT_SOFF true).setFld F.SAFE_STAT_REASON (b.fld F.SAFE_STAT_REASON)).setFld
      F.SAFE_STAT_ARG (b.fld F.SAFE_STAT_ARG)
  else s

/-- The supplies are lost: of the registers, BRK_FAIL, the varnish seals' words and a held LOCKOUT keep their values. -/
def State.unpowered (s : State) : State :=
  s.keepLockout <| forN 4 (fun d t => t.setReg (F.SEAL_STAT_SIGNER d).addr (s.reg (F.SEAL_STAT_SIGNER d).addr &&& 0xFFFF0001))
    (s.powerless.setReg F.SAFE_BHT_BRK_FAIL.addr (s.reg F.SAFE_BHT_BRK_FAIL.addr &&& 0xFFFF0000))

/-- VAULT_ENTRY: the package enters VAULT; the interlock latches go to the retained SRAM (R386, R544). -/
def execVaultEntry (s : State) : Out :=
  .next (if s.sys.dusk.isSome ∧ s.sys.duskStep = 3 then
    let lat (set : Nat) : Tbl Nat := (List.range 16).foldl (fun t k => tset 0 k (s.fld (ilmLatLoc set k)) t) []
    let s := { s with vault := { s.vault with latA := lat 0, latB := lat 1 } }
    let t := s.unpowered
    t.setFld F.SYS_MODE_MODE Mode.vault
  else s)

/-! ### Commands (R53, R54, R57) -/

/-- every core of a firmware exchange returns to the old bank, one at a time (R95). -/
def State.fwReturn (cores : List Nat) (s : State) : State :=
  let l := cores.foldl (fun l c => addNat c l) []
  match l.head? with
  | none => { s with fw := { s.fw with onNew := [], current := none, phase := 0 } }
  | some c =>
    { s with fw := { s.fw with onNew := l, current := some c, phase := 3 },
             sched := { s.sched with drained := [c] } }

/-- SYS_FWSTAT: the boot bank, the bank of each core, the state of the exchange (R96). The spec places none of them and gives the
state no codes: BOOT in bit 31, BANKS in bits 15..8, STATE in bits 7..0 with the codes of `FwU.phase` (assumption 3). -/
def State.fwShow (s : State) : State :=
  let bank (c : Nat) : Bool := s.sys.bank != s.fw.onNew.contains c
  ((s.setFlag F.SYS_FWSTAT_BOOT s.boot.bootBank).setFld F.SYS_FWSTAT_STATE s.fw.phase).setFld F.SYS_FWSTAT_BANKS (bitsFrom 8 bank)

/-- The image in the bank that the cores do not run. -/
def State.otherBank (s : State) : Option FwImage := if s.sys.bank then s.boot.fwA else s.boot.fwB

/-- The dispatcher's load over the last second in TBC counts, of 8 cores: executions that ended in it and those that run. -/
def State.measuredLoad (s : State) : Nat :=
  let from_ := s.tbc - 250000000
  let part (p : Nat × Nat) : Nat := p.2 - max p.1 from_
  (s.fw.spans.foldl (fun n p => n + part p) 0) + s.scan.execs.foldl (fun n p => n + part (p.2.start, s.tbc)) 0

/-- FW_EXCHANGE (R93): the result, and the state with CC7 drained when it starts. The spec gives no result for a bank without an
image that passed, nor for an exchange that runs or waits for FW_COMMIT: the model answers REFUSED_STATE (assumption 66). -/
def State.fwExchange (s : State) : Nat × State :=
  if !s.inMode [Mode.run, Mode.hold, Mode.engineer, Mode.follow] || s.fw.phase != 0 then (Res.refusedState, s)
  else match s.otherBank with
    | none => (Res.refusedState, s)
    | some f =>
      if !f.verified || f.svn < tget 0 s.secu.arb f.ctr then (Res.refusedState, s)
      else if !f.compat then (Res.refusedCompat, s)
      else if 7 * 250000000 < s.measuredLoad then (Res.refusedLoad, s)
      else (Res.pending,
        { s with fw := { s.fw with phase := 1, current := some 7, onNew := [] },
                 sys := { s.sys with pendCmd := some 0x20 },
                 sched := { s.sched with drained := [7] } }.log .fwExchange 0x20 0)

/-- FW_COMMIT (R96, R552): the new bank is the boot bank, and its firmware goes on with the journal in its own format. -/
def State.fwCommit (s : State) : Nat × State :=
  if s.fw.phase ≠ 2 then (Res.refusedState, s)
  else
    let f := s.otherBank.getD {}
    let s := { s with boot := { s.boot with bootBank := !s.sys.bank }, fw := { s.fw with onNew := [], phase := 0 },
                      sys := { s.sys with bank := !s.sys.bank },
                      jnl := { s.jnl with format := f.format }, secu := { s.secu with fwSigner := f.signer } }
    (Res.ok, (s.burn f.ctr f.svn).log .fwExchange 0x21 0)

/-- FW_ABORT (R95): the cores that run the new bank return; one that only drains goes on. -/
def State.fwAbort (s : State) : Nat × State :=
  if s.fw.phase = 1 ∨ s.fw.phase = 2 then
    (Res.refusedLoad, (({ s with sys := { s.sys with pendCmd := none } }.modSched fun u => { u with drained := [] }).fwReturn
      s.fw.onNew.reverse).log .fwExchange 0x22 0)
  else (Res.refusedState, s)

/-- May RUN be entered from mode `m` (R53)? The result of the command. -/
def State.runResult (m : Nat) (s : State) : Nat :=
  if m = Mode.engineer then Res.ok
  else if m = Mode.idle ∧ s.scan.program.isNone then Res.refusedState
  else if m = Mode.idle ∨ m = Mode.hold then (if s.sevPending 3 then Res.refusedFault else Res.ok)
  else Res.refusedState

/-- The result that R53 gives a mode command from mode `m`. -/
def State.modeResult (o : Origin) (code m : Nat) (s : State) : Nat :=
  let may (ok : Bool) : Nat := if ok then Res.ok else Res.refusedState
  if code = 0x01 then s.runResult m
  else if code = 0x02 then may ([Mode.run, Mode.engineer].contains m)
  else if code = 0x03 then may ([Mode.run, Mode.hold].contains m && s.engineer o)
  else if code = 0x04 then may ([Mode.run, Mode.hold, Mode.engineer, Mode.follow].contains m)
  else may (m == Mode.idle && s.fld F.PART_CTRL_ROLE == 2 && s.flag F.PART_STAT_PARTNER)

/-- The mode that a mode command enters. -/
def modeTarget (code : Nat) : Nat :=
  if code = 0x02 then Mode.hold else if code = 0x03 then Mode.engineer else if code = 0x04 then Mode.idle else Mode.follow

/-- RUN is entered: a program loaded without an exchange raises its counter at its first RUN (R552), and a warm state that
was kept is given up. -/
def State.enterRun (s : State) : State :=
  let s := match s.secu.programSvn with
    | some (c, v) => { s with secu := { s.secu with programSvn := none } }.burn c v
    | none => s
  ({ s with sys := { s.sys with warmPending := false } }.cause 7).setMode Mode.run

/-- A mode command: its result, and the mode it enters. After a better cause of the same count a command that R53
allowed before it is PREEMPTED; one that it did not allow took no part in the ranking and reports its own refusal (R54). -/
def State.modeCommand (o : Origin) (code : Nat) (s : State) : Nat × State :=
  let r := s.modeResult o code (s.modeAt 7)
  if r ≠ Res.ok then (r, s)
  else if s.preempted 7 then (Res.preempted, s)
  else (r, if code = 0x01 then s.enterRun else (s.cause 7).setMode (modeTarget code))

/-- May a restart be commanded (R83): in these modes, from a core or from an ENGINEER session? -/
def State.mayRestart (o : Origin) (s : State) : Bool :=
  s.inMode [Mode.idle, Mode.run, Mode.hold, Mode.engineer, Mode.follow, Mode.lockout] &&
  (match o with
   | .core _ => true
   | .host _ => s.engineer o
   | .cbus => false)

/-- What a SYS command does, with its result: from time 0 of the dusk sequence REFUSED_STATE for every code (R57). -/
def State.sysRun (o : Origin) (code : Nat) (s : State) : Nat × State :=
  if s.sys.dusk.isSome then (Res.refusedState, s)
  else if s.sys.pendCmd.isSome && code != 0x22 then (Res.refusedState, s)
  else if 1 ≤ code ∧ code ≤ 5 then s.modeCommand o code
  else if code = 0x10 ∨ code = 0x11 then
    (if s.mayRestart o then
       (Res.ok, { s with vault := { s.vault with restartCmd := if code = 0x10 then 1 else 2 } }.duskStart true)
     else (Res.refusedState, s))
  else if code = 0x20 then s.fwExchange
  else if code = 0x21 then s.fwCommit
  else if code = 0x22 then s.fwAbort
  else (Res.refusedState, s)

/-- A write of SYS_CMD (R57). -/
def State.sysCmd (o : Origin) (key code : Nat) (s : State) : State :=
  if key ≠ 0xA5 then s.setFld F.SYS_CMDSTAT_RESULT Res.badKey
  else
    let (res, t) := s.sysRun o code
    ((t.setFld F.SYS_CMDSTAT_CODE code).setFld F.SYS_CMDSTAT_RESULT res).fwShow

def execRun (o : Origin) (key : Byte) (s : State) : Out := .next (s.sysCmd o key.toNat 0x01)
def execHold (o : Origin) (key : Byte) (s : State) : Out := .next (s.sysCmd o key.toNat 0x02)
def execEngineer (o : Origin) (key : Byte) (s : State) : Out := .next (s.sysCmd o key.toNat 0x03)
def execIdle (o : Origin) (key : Byte) (s : State) : Out := .next (s.sysCmd o key.toNat 0x04)
def execFollow (o : Origin) (key : Byte) (s : State) : Out := .next (s.sysCmd o key.toNat 0x05)
def execRestartWarm (o : Origin) (key : Byte) (s : State) : Out := .next (s.sysCmd o key.toNat 0x10)
def execRestartCold (o : Origin) (key : Byte) (s : State) : Out := .next (s.sysCmd o key.toNat 0x11)
def execFwExchange (o : Origin) (key : Byte) (s : State) : Out := .next (s.sysCmd o key.toNat 0x20)
def execFwCommit (o : Origin) (key : Byte) (s : State) : Out := .next (s.sysCmd o key.toNat 0x21)
def execFwAbort (o : Origin) (key : Byte) (s : State) : Out := .next (s.sysCmd o key.toNat 0x22)

/-- FW_CORE_REJOIN: the drained core has finished its tasks and restarted on the other bank; `ok`: its self-test passes.
It rejoins dispatch and the next lower core follows; a failure returns every exchanged core (R94, R95). The spec does not say
what a core does that fails its self-test on its return to the old bank: it rejoins all the same (assumption 66). -/
def execFwCoreRejoin (ok : Bool) (s : State) : Out :=
  .next (match s.fw.current with
    | none => s
    | some c =>
      if (tlook s.scan.execs c).isSome || s.sys.dusk.isSome then s
      else
        let s := s.modSched fun u => { u with drained := [] }
        (if s.fw.phase = 1 then
          if !ok then
            (({ s with sys := { s.sys with pendCmd := none } }.fwReturn (c :: s.fw.onNew.reverse)).setFld
              F.SYS_CMDSTAT_RESULT Res.refusedLoad).log .fwExchange 0x22 c
          else
            let s := { s with fw := { s.fw with onNew := s.fw.onNew ++ [c] } }
            match c with
            | 0 =>
              ({ s with fw := { s.fw with current := none, phase := 2 }, sys := { s.sys with pendCmd := none } }.setFld
                F.SYS_CMDSTAT_CODE 0x20).setFld F.SYS_CMDSTAT_RESULT Res.ok
            | k + 1 => { s with fw := { s.fw with current := some k } }.modSched fun u => { u with drained := [k] }
        else s.fwReturn (s.fw.onNew.filter (· != c))).fwShow)

/-! ### A core stopped by its lockstep checker (R525, R526, R529) -/

/-- Puts back what an execution was started for, ahead of everything that came after it (R529): a marker without the freeze that
its delivery began (R197). In IDLE and LOCKOUT only an error task's reason goes back, and the rest is removed as at the entry of the
mode (R205). -/
def State.redispatch (e : Exec) (past : Bool) (s : State) : State :=
  let shut := s.inMode [Mode.idle, Mode.lockout]
  let flush (s : State) : State := s.modSched fun u => { u with flush := min (2 ^ 32 - 1) (u.flush + 1) }
  match e.cause with
  | .event x =>
    if shut then flush s
    else if past then
      s.modSched fun u => { u with lost := { group := x.group, count := 1, tbc := s.tbc, task := x.task, prio := x.prio, seq := x.seq } :: u.lost }
    else s.modSched fun u => { u with entries := x :: u.entries }
  | .lost m =>
    if shut then flush s
    else s.modSched fun u => { u with lost := m :: u.lost, frozen := u.frozen.filter (· != m.group) }
  | .cyclic =>
    if shut then flush s else if past then s else s.modSched fun u => { u with starts := { task := e.task, prio := s.taskPrio e.task, tick := e.start / 250 } :: u.starts }
  | .reason r => if past then s else s.modSched fun u => { u with reasons := tmod [] e.task (fun l => r :: l) u.reasons }
  | .init => if past then s.modSched fun u => { u with inits := u.inits.filter (· != e.task) } else s

/-- LOCKSTEP_MISMATCH on core `c`: the execution ends with nothing transferred, its logged writes are taken back, its entry
is dispatched again; a second mismatch within 1 s keeps the core stopped until DAWN. An armed injection for the core acts
here (R531). -/
def execLockstepMismatch (c : Fin 8) (s : State) : Out :=
  .next (
    if s.inMode [Mode.vault, Mode.dawn] || s.sched.stopped.contains c.val then s
    else
      let inj := match s.injOf 6 with
        | some i => i.target % 8 == c.val
        | none => false
      let s := if inj then s.injDone else s
      let dead := match (s.core c).mismatchAt with
        | some t => decide (s.tbc < t + sec 1)
        | none => false
      let s := s.modSched fun u => { u with stopped := u.stopped ++ [c.val] }
      let s := match tlook s.scan.execs c with
        | some e =>
          let past := (s.core c).undoOver
          let s := if past then s else s.undoPlayback c
          let s := { s with scan := { s.scan with execs := tdel c s.scan.execs } }
          let s : State := match e.serial with
            | some g => s.modSched fun u => { u with serial := u.serial.filter (· != g) }
            | none => s
          s.redispatch e past
        | none => s
      let s := s.modCore c fun k =>
        { k with undo := [], undoOver := false, olds := [], wait := none, mismatchAt := some s.tbc, stoppedAt := some s.tbc, dead := dead }
      s.raise 7 c 0 inj)

/-- CORE_REJOIN: the stopped core's self-test passes (`ok`) and it rejoins dispatch. -/
def execCoreRejoin (c : Fin 8) (ok : Bool) (s : State) : Out :=
  .next (if ok && s.sched.stopped.contains c.val && !(s.core c).dead then
    (s.modSched fun u => { u with stopped := u.stopped.filter (· != c.val) }).modCore c fun k => { k with stoppedAt := none }
  else s)

/-! ### Partner pair (R87 to R91) -/

/-- Is the image word one that the leader's local channels gave: the FIO inputs, words 0 to 2 of a channel, the level words
(R90, R146)? -/
def leaderWord (i : Nat) : Bool := i < 4 || i == 8 || (0x8000 ≤ i && i < 0x8200 && i % 4 != 3)

/-- What stands in the place of a word last taken from the leader: it holds, or is zero, or the program's value. Its
quality bit is clear: that it stands in `PartU.subst` (R90, assumption 48). -/
def State.substWord (s : State) (i : Nat) (v : Word) : Word :=
  match (s.scan.program.map Program.subst).bind fun l => l.find? fun p => p.1 == i with
    | some (_, 1, _) => 0
    | some (_, 2, x) => x
    | _ => v

/-- The values taken from the leader's local channels fall to their substitutes (R90). -/
def State.substitute (s : State) : State :=
  { s with part := { s.part with snaps := [], subst := s.part.lastWords.map fun p => (p.1, s.substWord p.1 p.2) } }

/-- The follower takes over (R88 to R90): epoch, transmission, substitutes, RUN, TAKEOVER to the default error task; without
SYNC every sequencer takes its resume policy for an outage of the lag. -/
def State.takeover (s : State) : State :=
  let sync := s.flag F.PART_STAT_SYNC
  let lag := s.part.lag
  let was := s.modeBase 3
  let s := s.cause 3
  let s := s.setFld F.PART_STAT_EPOCH (s.fld F.PART_STAT_EPOCH + 1)
  let s := { s.substitute with part := { s.substitute.part with transmitting := true } }.setFlag F.PART_STAT_TOOK_OVER true
  let s := if sync then s else
    forL (s.seqs.map Prod.fst) (fun n s =>
      if (s.seq n).pos.st = Rs.running then
        (s.modPos n (SeqPos.freeze Rs.suspended s.tbc)).modPos n fun p => { p with resume := some (some lag) }
      else s) s
  (s.setModeFrom was Mode.run).reasonTo s.defaultErr 0x07 0 (s.fld F.PART_STAT_EPOCH) 0

/-- May the follower take over: in FOLLOW, also when a cause that a takeover beats has left it in this count (R54)? -/
def State.mayTakeOver (s : State) : Bool :=
  s.modeAt 3 == Mode.follow && !s.preempted 3 && s.flag F.PART_CTRL_TAKEOVER_EN && s.sys.dusk.isNone

/-- HEARTBEAT_SEND every 10 µs: a leader in RUN, HOLD or ENGINEER, a follower in FOLLOW (R87, R89). -/
def execHeartbeatSend (s : State) : Out :=
  .next (
    let may := (s.fld F.PART_CTRL_ROLE == 1 && s.inMode [Mode.run, Mode.hold, Mode.engineer]) ||
      (s.fld F.PART_CTRL_ROLE == 2 && s.mode == Mode.follow)
    if s.tbc % 2500 = 0 ∧ may ∧ s.sys.dusk.isNone then s.emit (.partner 0 (s.fld F.PART_STAT_EPOCH)) else s)

/-- The partner answers. -/
def State.heartbeatTaken (image : Option Nat) (s : State) : State :=
  ({ s with part := { s.part with missRun := 0, gotAt := s.tbc, partnerImage := image } }.setFlag
    F.PART_STAT_PARTNER true).setFlag F.PART_STAT_LINK_UP true

/-- What follows: a follower takes the epoch, a leader that first sees its follower sends a full checkpoint. -/
def State.heartbeatAnswer (epoch : Nat) (first : Bool) (s : State) : State :=
  if s.fld F.PART_CTRL_ROLE = 2 then s.setFld F.PART_STAT_EPOCH epoch
  else if s.fld F.PART_CTRL_ROLE = 1 ∧ first then s.emit (.partner 4 0) else s

/-- HEARTBEAT_RECEIVE: the partner's heartbeat with its epoch and the hash of the other verified image it holds. A leader
that first sees its follower sends a full checkpoint generation (R87, R89, R189). -/
def execHeartbeatReceive (epoch : BitVec 16) (image : Option Nat) (s : State) : Out :=
  .next (
    if s.mode = Mode.vault then s else
    s.heartbeatTaken image |>.heartbeatAnswer epoch.toNat (!s.flag F.PART_STAT_PARTNER))

/-- HEARTBEAT_TIMEOUT: heartbeats due since the last one are counted as missed, in FOLLOW also once PLNK is lost; with three in a
row the partner does not answer, and a follower takes over, at once or when TAKEOVER_EN is set later (R89, R92). -/
def execHeartbeatTimeout (s : State) : Out :=
  .next (
    let n := (s.tbc - s.part.gotAt) / 2500
    if (s.flag F.PART_STAT_PARTNER || s.mode == Mode.follow) ∧ s.part.missRun < n ∧ s.mode ≠ Mode.vault then
      let s := s.addSat F.PART_HBMISS_COUNT (n - s.part.missRun)
      let s := { s with part := { s.part with missRun := n } }
      if n < 3 then s
      else
        let s := s.setFlag F.PART_STAT_PARTNER false
        if s.mayTakeOver then s.takeover else s
    else s)

/-- DUSK: the leader's DUSK message (R81, R89). -/
def execDusk (s : State) : Out := .next (if s.mayTakeOver then s.takeover else s)

/-- A follower's axis takes what the leader's delta says of it; one whose simulated move goes on keeps its planned position. -/
def State.axDelta (n : Nat) (a : AxisRec) (s : State) : State :=
  let s := if s.axMoves n then s
    else ((s.setAct n a.act).modAxis n fun x => { x with pos := a.act * stepU, target := a.act + a.rem }).setFld48 (F.REM_L n) (F.REM_H n) a.rem
  (s.setFlag (F.AX_STAT_POS_LOST n) a.posLost).setFld (F.AX_STAT_STOP_CAUSE n) a.cause

/-- The parts of a delta beside words and sequencers' positions: ramps, whose starts it counts from its own instant, slot words,
axes, fault sources, drop counters (R69, R87). -/
def State.deltaMore (x : PlnkDelta) (s : State) : State :=
  let s := forL x.ramps (fun r s =>
    (s.modPos r.1 fun p => { p with ramps := r.2.map fun y => { y with t0 := y.t0 + s.tbc } }).seqShow r.1) s
  let s := forL x.halves (fun h s => s.setHalf h.1 (BitVec.ofNat 16 h.2)) s
  let s := forL x.axes (fun a s => s.axDelta a.1 a.2) s
  let s := forL x.srcs (fun r s => s.modSrc r.1 fun y =>
    { y with recov := r.2.recov, raises := r.2.raises, esc := r.2.esc, clears := r.2.clears }) s
  { s with evl := { s.evl with drops := forL x.drops (fun d t => tset 0 d.1 d.2 t) s.evl.drops } }

/-- Does the leader run the program that runs here (R87)? With no hash in the header there is no program to compare. -/
def State.sameImage (s : State) (hash : Nat) : Bool := hash == (s.scan.program.map Program.hash).getD 0

/-- The words and sequencers' positions of a delta. -/
def State.deltaApply (words : List (Nat × Word)) (seqs : List (Nat × Nat × Nat × Nat × Nat)) (s : State) : State :=
  let s := forL words (fun w s => s.setWord w.1 w.2) s
  forL seqs (fun q s =>
    (s.modPos q.1 fun p => { p with st := q.2.1, step := q.2.2.1, act := q.2.2.2.1, s := (s.tbc : Int) - q.2.2.2.2, held := q.2.2.2.2 }).seqShow q.1) s

/-- PLNK_DELTA_RECEIVE: the leader's committed delta of journal cycle `cycle`, the leader being at `leader`: words by
address, sequencers with STATE, STEP, ACT and elapsed time, and the rest of the retain image. Deltas apply in cycle order (R87,
R88, O6), with the force table what FORCE_N and the force counters follow (R174). A delta that names the image which the follower has
loaded makes it switch (R189). A follower that runs another program applies none, and lags (assumption 48). -/
def execPlnkDeltaReceive (cycle leader : Nat) (words : List (Nat × Word)) (more : PlnkDelta) (s : State) : Out :=
  .next (
    if s.mode ≠ Mode.follow ∨ cycle ≤ s.part.applied then s
    else
      let s := s.followSwitch more.hash
      let same := s.sameImage more.hash
      let s := { s with part := { s.part with sameImage := same } }
      if !same then s.setLag (leader - s.part.applied)
      else
        let s := ((s.deltaApply words more.seqs).deltaMore more).forceStat
        { s with part := { s.part with applied := cycle } }.setLag (leader - cycle))

/-- PLNK_SNAPSHOT_RECEIVE: the words not from station links that the leader's snapshot for a task start holds (R87). -/
def execPlnkSnapshotReceive (task : Fin 64) (words : List (Nat × Word)) (s : State) : Out :=
  .next (
    if s.mode ≠ Mode.follow then s
    else
      let cells : List Host.Cell := words.flatMap fun w => (List.range 4).map fun i => (w.1 + i, BitVec.ofNat 8 (w.2.toNat / 256 ^ i))
      let last := forL (words.filter fun w => leaderWord (w.1 / 4)) (fun w t => tset 0 (w.1 / 4) w.2 t) s.part.lastWords
      { s with part := { s.part with snaps := s.part.snaps ++ [(task.val, cells)], lastWords := last } })

/-- PLNK_LINK_LOSS: PLNK loses synchronisation; a leader keeps running (R91), and a follower's lag grows from here on with every
journal cycle (R88). -/
def execPlnkLinkLoss (s : State) : Out :=
  .next (if s.mode = Mode.vault then s
    else ((s.setFlag F.PART_STAT_LINK_UP false).setFlag F.PART_STAT_PARTNER false).raise 9 0)

/-- EPOCH_YIELD: a leader sees a station frame with epoch `epoch`; a higher one makes it stop transmitting and enter IDLE
(R91, R467). R53 gives LOCKOUT and DAWN no such transition: there the mode stays (assumption 48). -/
def execEpochYield (epoch : BitVec 16) (s : State) : Out :=
  .next (
    let d := (epoch.toNat + 65536 - s.fld F.PART_STAT_EPOCH) % 65536
    if s.fld F.PART_CTRL_ROLE = 1 ∧ 1 ≤ d ∧ d ≤ 32767 ∧ s.part.transmitting then
      ({ s with part := { s.part with transmitting := false } }.setFlag F.PART_STAT_YIELDED true).causeMode 4
        [Mode.run, Mode.hold, Mode.engineer, Mode.follow] Mode.idle
    else s)

end Sys2Proof.Machine
end

