-- ==== Sys2Proof/Machine/Sec.lean ====
section
/-!
DEFINITION. SEC (R547 to R557): images that verification accepts, keys, revocation, anti-rollback and attestation.
-/

set_option Elab.async false

namespace Sys2Proof.Machine

/-! ### Keys (R549 to R551) -/

/-- Is owner slot `n` (1 to 4) programmed, revoked? -/
def State.ownerProgrammed (s : State) (n : Nat) : Bool := bitOf s.secu.programmed (n - 1)
def State.ownerRevoked (s : State) (n : Nat) : Bool := bitOf s.secu.revoked (n - 1)

/-- SEC_STAT and SEC_ARBk show the fuses. -/
def State.fuseShow (s : State) : State :=
  let s := (s.setFld F.SEC_STAT_PROGRAMMED s.secu.programmed).setFld F.SEC_STAT_REVOKED s.secu.revoked
  forL s.secu.arb (fun p s => s.setFld (F.SEC_ARB_VALUE (p.1 % 64)) p.2) s

/-- The program in the boot slot. -/
def State.bootProgram (s : State) : Option Program := if s.boot.bootSlot then s.boot.slotB else s.boot.slotA

/-- May owner slot `n` be revoked (R551)? -/
def State.mayRevoke (s : State) (n : Nat) : Bool :=
  let left := (List.range 4).any fun i => i + 1 != n && s.ownerProgrammed (i + 1) && !s.ownerRevoked (i + 1)
  let program := match s.bootProgram with
    | some p => p.signer
    | none => 0
  decide (1 ≤ n ∧ n ≤ 4) && s.secu.fwSigner != n && program != n && s.secu.cfgSigner != n && (left || s.secu.programmed == 0)

/-! ### Attestation (R554) -/

/-- The bytes of a number, highest first, `n` of them. -/
def beBytes (n v : Nat) : List Nat := (leBytes n v).reverse

/-- Bytes 0 to 511 of the report. -/
def State.reportBytes (s : State) : List Nat :=
  let fw := match (if s.boot.bootBank then s.boot.fwB else s.boot.fwA) with
    | some f => f.hash
    | none => 0
  let program := match s.scan.program with
    | some p => p.hash
    | none => 0
  leBytes 4 0x4B5A4154 ++ leBytes 2 1 ++ [s.mode, s.vault.tamp % 256] ++
  ((List.range 8).flatMap fun k => leBytes 4 (s.fld (F.SEC_NONCE_BYTES k))) ++ leBytes 16 Config.moduleUid ++
  leBytes 8 s.vault.opt ++ leBytes 4 s.vault.pcyc ++ ((List.range 4).map fun d => s.fld (F.SEAL_STAT_SEAL_CNT d)) ++
  beBytes 48 fw ++ beBytes 48 program ++ beBytes 48 s.secu.cfgHash ++ beBytes 48 s.secu.calHash ++
  leBytes 4 (s.fld (F.SYS_CFGSTAT_BITS 0)) ++ leBytes 4 (s.fld (F.SYS_CFGSTAT_BITS 1)) ++
  leBytes 4 (s.fld F.SAFE_ACTIVE_CRC) ++ ((List.range 4).map fun k => tget 0 s.secu.arb k) ++
  ((List.range 55).flatMap fun n => leBytes 4 (tget 0 s.boot.checks n)) ++ leBytes 12 0

/-- The little-endian word `w` of a list of bytes. -/
def bytesWord (l : List Nat) (w : Nat) : Nat := (List.range 4).foldl (fun v i => v + l.getD (4 * w + i) 0 * 256 ^ i) 0

/-- Fills SEC_REPORT; the signature of the identity key is free (assumption 1). -/
def State.attest (s : State) : State :=
  let l := s.reportBytes
  let s := forN 128 (fun w t => t.setFld (F.SEC_REPORT_WORD w) (bytesWord l w)) s
  forN 24 (fun i t =>
    let (v, t) := t.draw 32
    t.setFld (F.SEC_REPORT_WORD (128 + i)) v.toNat) s

/-! ### Commands (R557) -/

def State.secResult (code res : Nat) (s : State) : State :=
  (s.setFld F.SEC_CMDSTAT_CODE code).setFld F.SEC_CMDSTAT_RESULT res

/-- Blows the revocation fuse of an owner key slot. -/
def State.fuseRevoke (n : Nat) (s : State) : State :=
  { s with secu := { s.secu with revoked := withBit s.secu.revoked n true } }

/-- Blows the fuse that programs an owner key slot. -/
def State.fuseProgram (n : Nat) (s : State) : State :=
  { s with secu := { s.secu with programmed := withBit s.secu.programmed n true } }

/-- A write of SEC_CMD: ATTEST, and REVOKE from an ENGINEER session in IDLE (R551, R554, R477). -/
def State.secCmd (o : Origin) (key code n : Nat) (s : State) : State :=
  if key ≠ 0xA5 then s.setFld F.SEC_CMDSTAT_RESULT Res.badKey
  else if code = 1 then
    (if s.secu.identity && !s.secu.keyBad then s.attest.secResult code Res.ok else s.secResult code Res.refusedState)
  else if code = 2 then
    (if s.mode == Mode.idle && s.engineer o && s.mayRevoke n then
       ((s.fuseRevoke (n - 1)).fuseShow).secResult code Res.ok
     else s.secResult code Res.refusedState)
  else s.secResult code Res.refusedState

/-- ATTEST (R554). -/
def execAttest (o : Origin) (key : Byte) (s : State) : Out := .next (s.secCmd o key.toNat 1 0)

/-- REVOKE of owner slot `n` (R551). -/
def execRevoke (o : Origin) (key : Byte) (n : Fin 8) (s : State) : Out := .next (s.secCmd o key.toNat 2 n)

/-! ### Images (R547, R548, R550) -/

/-- Bytes 0 to 15 + LEN of a copy: offset and value of a pair take 4 bytes each (R63, assumption 47). -/
def RecCopy.bytes (c : RecCopy) : List Nat :=
  leBytes 4 c.magic ++ leBytes 2 c.recId ++ leBytes 2 c.fmt ++ leBytes 4 c.gen ++ leBytes 4 (8 * c.data.length) ++
  c.data.flatMap fun p => leBytes 4 p.1 ++ leBytes 4 p.2.toNat

/-- The copy with a CHECK that does not hold. -/
def RecCopy.spoil (c : RecCopy) : RecCopy := { c with check := (crc32c c.bytes + 1) % 2 ^ 32 }

/-- The image of the firmware bank that the cores run. -/
def State.runningFw (s : State) : Option FwImage := if s.sys.bank then s.boot.fwB else s.boot.fwA

/-- Format version of record `id` that the firmware knows. -/
def State.recFmt (s : State) (id : Nat) : Nat := tget 0 ((s.runningFw.map FwImage.recFmt).getD []) id

/-- Is the copy valid: MAGIC, REC_ID, FMT and CHECK correct (R65)? -/
def State.copyOk (s : State) (id : Nat) (c : RecCopy) : Bool :=
  c.magic == 0x4B5A5352 && c.recId == id && c.fmt == s.recFmt id && c.check == crc32c c.bytes

/-- Writes a new generation of setup record `id` into the area that does not hold the newest valid copy. CHECK is written last: a
power loss before it leaves a copy that DAWN finds invalid (R63, R66). -/
def State.recordWrite (id : Nat) (data : List (Nat × Word)) (s : State) : State :=
  let a := tget {} s.boot.recA id
  let b := tget {} s.boot.recB id
  let okA := s.copyOk id a
  let okB := s.copyOk id b
  let newestA := okA && (!okB || decide (b.gen ≤ a.gen))
  let gen := max (if okA then a.gen else 0) (if okB then b.gen else 0) + 1
  let c : RecCopy := { magic := 0x4B5A5352, recId := id, fmt := s.recFmt id, gen := gen, data := data }
  let c := { c with check := crc32c c.bytes }
  { s with boot := if newestA then { s.boot with recB := tset {} id c s.boot.recB } else { s.boot with recA := tset {} id c s.boot.recA } }

/-- User factors of a calibration image take effect; CALIMG_OK reads 1 on every die (R226, R227). -/
def State.calApply (l : List (Nat × Nat × Word × Word)) (s : State) : State :=
  let s := forL l (fun f s =>
    if f.1 < 128 ∧ f.2.1 < 5 then
      (s.setReg (F.USR_OFS_OFS f.1 f.2.1).addr f.2.2.1).setReg (F.USR_GAIN_GAIN f.1 f.2.1).addr f.2.2.2
    else s) s
  forN 4 (fun d s => (s.modDie d fun x => { x with calFail := false }).setFlag (F.DIE_STAT_CALIMG_OK d) true) s

/-- The KIND of an image. -/
def imageKind : ImageBody → Nat
  | .firmware _ => 0
  | .program _ => 1
  | .config _ _ => 2
  | .calibration _ _ => 3
  | .keyRequest _ => 4

/-- VRES: the first check that fails, with those of the signer's slot and of the counter as the fuses have them (R548,
R549). -/
def State.vresOf (s : State) (body : ImageBody) (v : Verdict) : Nat :=
  let fails := (if v.vres = 0 then [] else [v.vres]) ++
    (if 4 < v.signer || (imageKind body == 0 && v.signer != 0) then [2] else []) ++
    (if v.signer != 0 && (!s.ownerProgrammed v.signer || s.ownerRevoked v.signer) then [3] else []) ++
    (if v.svn < tget 0 s.secu.arb v.ctr then [7] else [])
  match fails with
  | [] => 0
  | x :: l => l.foldl min x

/-- Takes an image that has passed into its place: whether it is accepted, and the state. -/
def State.imageAccept (body : ImageBody) (v : Verdict) (s : State) : Bool × State :=
  match body with
  | .firmware f =>
    if s.fw.phase ≠ 0 then (false, s)
    else
      let f := { f with verified := true, svn := v.svn, ctr := v.ctr, signer := v.signer }
      (true, { s with boot := if s.sys.bank then { s.boot with fwA := some f } else { s.boot with fwB := some f } })
  | .program p =>
    let p := { p with svn := v.svn, ctr := v.ctr, signer := v.signer }
    if s.exchState ≠ Exch.none_ ∧ s.exchState ≠ Exch.loaded then (false, s.setFld F.EXCH_STAT_RESULT Res.refusedLoad)
    else
      let (ok, s) := s.programCheck p
      if !ok then (false, s.setFld F.EXCH_STAT_RESULT Res.refusedLoad)
      else
        (true, ({ s with
          scan := { s.scan with other := some p }
          boot := if s.scan.runSlot then { s.boot with slotA := some p } else { s.boot with slotB := some p } }).setFld
            F.EXCH_STAT_STATE Exch.loaded)
  | .config l h =>
    (true, forL l (fun r s => if r.1 < 55 then s.recordWrite r.1 r.2 else s)
      { s with secu := { s.secu with cfgNext := some (h, v.signer), cfgSvn := some (v.ctr, v.svn) } })
  | .calibration l h =>
    (true, ({ s with boot := { s.boot with cal := some l }, secu := { s.secu with calHash := h } }.calApply l).burn v.ctr v.svn)
  | .keyRequest n =>
    if s.mode = Mode.idle ∧ 1 ≤ n ∧ n ≤ 4 ∧ !s.ownerProgrammed n then
      (true, (s.fuseProgram (n - 1)).fuseShow)
    else (false, s)

end Sys2Proof.Machine
end

