-- ==== Sys2Proof/Machine/Bus.lean ====
section
/-!
DEFINITION. The fabric's view of the register space (R3 to R7, R48 to R51, R532): which operation a write of a register
performs, block by block, and what a read or a write outside the registers does.
-/

set_option Elab.async false

namespace Sys2Proof.Machine

/-! ### The blocks -/

/-- KEY and CODE of a command register. -/
def keyOf (v : Word) : Nat := bitsOf v 24 8
def codeOf (v : Word) : Nat := bitsOf v 0 8

/-- SYS and the scan system (R57, R173, R181, R190). -/
def State.writeSys (o : Origin) (a : Nat) (v : Word) (s : State) : State :=
  if a = F.SYS_CMD_KEY.addr then s.sysCmd o (keyOf v) (codeOf v)
  else if a = F.FORCE_CMD_KEY.addr then s.forceCmd (keyOf v) (codeOf v) (bitsOf v 8 4)
  else if a = F.EXCH_CMD_KEY.addr then s.exchCmd (keyOf v) (codeOf v)
  else if a = F.TASK_CMD_KEY.addr then s.taskCmd (keyOf v) (codeOf v) (bitsOf v 8 6)
  else s.plainWrite a v

/-- CLK: the lock groups (R40, R41, R46). -/
def State.writeClk (a : Nat) (v : Word) (s : State) : State :=
  let off := a - 0xF0010000
  if 0x100 ≤ off ∧ off < 0x180 then s.lgCtrlWrite ((off - 0x100) / 4) v
  else if 0x400 ≤ off ∧ off < 0x600 then s.chLgWrite ((off - 0x400) / 4) v
  else s.plainWrite a v

/-- FLT (R519, R520, R533). -/
def State.writeFlt (a : Nat) (v : Word) (s : State) : State :=
  let off := a - 0xF0030000
  if a = F.FLT_CMD_KEY.addr then s.fltCmd (keyOf v) (codeOf v)
  else if 0x1000 ≤ off ∧ off < 0x3000 ∧ off % 16 = 0 then s.fltCfg0Write ((off - 0x1000) / 16) v
  else if 0x1000 ≤ off ∧ off < 0x3000 ∧ off % 16 = 12 then s.fltCntWrite ((off - 0x1000) / 16) v
  else s.plainWrite a v

/-- EVL and the vault (R534 to R546). -/
def State.writeEvl (a : Nat) (v : Word) (s : State) : State :=
  let off := a - 0xF0040000
  if a = F.EVL_CMD_KEY.addr then s.evlCmd (keyOf v) (codeOf v) (bitsOf v 8 12)
  else if a = F.EVL_RDSEL_SLOT.addr then s.evlSelect v
  else if 0xC ≤ off ∧ off < 0x18 then s.evlDropWrite ((off - 0xC) / 4) v
  else if a = F.VAULT_CMD_KEY.addr then s.vaultCmd (keyOf v) (codeOf v)
  else if 0x180 ≤ off ∧ off < 0x1E0 then
    { s with vault := { s.vault with ram := tset 0 ((off - 0x180) / 4) v s.vault.ram } }
  else if 0x4000 ≤ off ∧ off < 0x8000 then s.evlCodeWrite ((off - 0x4000) / 4) v
  else s.plainWrite a v

/-- SCHED (R206): TBLBASE only in DAWN and IDLE. -/
def State.writeSched (a : Nat) (v : Word) (s : State) : State :=
  if a = F.SCHED_GRPACK_KEY.addr then s.grpAck v
  else if a = F.SCHED_TBLBASE_BASE.addr ∧ !s.inMode [Mode.dawn, Mode.idle] then s
  else s.plainWrite a v

/-- TIME (R433 to R444). START, PER and WIDTH of a TSO accept writes only while its EN is 0 (R442). -/
def State.writeTime (a : Nat) (v : Word) (s : State) : State :=
  let off := a - 0xF0070000
  let d := (off - 0x100) / 0x40
  let t := (off - 0x400) / 0x20
  if off = 0 then s.timeCtrlWrite v
  else if off = 4 then s.timeSelWrite v
  else if off = 8 then s.timeCmd (keyOf v) (codeOf v) (bitsOf v 8 2)
  else if 0x100 ≤ off ∧ off < 0x1C0 then
    (if off % 0x40 = 0 then s.domCfgWrite d v
    else if 8 ≤ off % 0x40 ∧ off % 0x40 < 0x30 then s.domStage d a v
    else if off % 0x40 = 0x30 then s.domUpdWrite d v
    else s.plainWrite a v)
  else if 0x400 ≤ off ∧ off < 0x500 then
    (if off % 0x20 = 0 then s.tsoCfgWrite t v
    else if s.flag (F.TSO_CFG_EN t) then s
    else s.plainWrite a v)
  else s.plainWrite a v

/-- ILM (R384, R387). -/
def State.writeIlm (a : Nat) (v : Word) (s : State) : State :=
  let off := a - 0xF0081000
  if a = F.ILM_CMD_KEY.addr then s.ilmCmd (keyOf v) (codeOf v)
  else if 0xF0081000 ≤ a ∧ off < 0x4000 then s.ilmTermWrite (off / 0x2000) (off % 0x2000 / 16) (off % 16 / 4) v
  else s.plainWrite a v

/-- SAFE (R506 to R515). -/
def State.writeSafe (a : Nat) (v : Word) (s : State) : State :=
  if a = F.SAFE_REQ_REQ.addr then s.safeReqWrite v.toNat
  else if a = F.SAFE_CONFIRM_VALUE.addr then s.safeConfirm v.toNat
  else if a = F.SAFE_CMD_KEY.addr then s.safeCmd (keyOf v) (codeOf v) (bitsOf v 8 3)
  else if 0xF00B0800 ≤ a ∧ a < 0xF00B1000 then s.pendWrite ((a - 0xF00B0800) / 4) v
  else s.plainWrite a v

/-- REC (R404, R421). -/
def State.writeRec (a : Nat) (v : Word) (s : State) : State :=
  let off := a - 0xF00C0000
  if 0x100 ≤ off ∧ off < 0x1100 ∧ off % 0x100 = 0 then s.unitCfgWrite (off / 0x100 - 1) v
  else if 0x100 ≤ off ∧ off < 0x1100 ∧ off % 0x100 = 4 then s.unitCmd (off / 0x100 - 1) (keyOf v) (codeOf v)
  else if 0x2000 ≤ off ∧ off < 0x4000 then
    (if off % 8 = 0 then s.ssrcWrite ((off - 0x2000) / 8) v else s.scfgWrite ((off - 0x2000) / 8) v)
  else s.recWrite a v

/-- RCP (R317, R328). -/
def State.writeRcp (a : Nat) (v : Word) (s : State) : State :=
  let off := a - 0xF00D0100
  if 0xF00D0100 ≤ a ∧ off < 0x800 ∧ off % 0x40 = 0 then s.rsCfgWrite (off / 0x40) v
  else if 0xF00D0100 ≤ a ∧ off < 0x800 ∧ off % 0x40 = 4 then s.rcpCmd (off / 0x40) (keyOf v) (codeOf v)
  else s.plainWrite a v

/-- CANn (R485 to R497): the timing, base and object registers only while OPMODE is OFF. -/
def State.writeCan (a : Nat) (v : Word) (s : State) : State :=
  let n := (a - 0xF0200000) / 0x10000
  let off := a % 0x10000
  let shut := s.fld (F.CAN_CTRL_OPMODE n) ≠ 0
  if off = 0 then s.canCtrlWrite n v
  else if off = 0x10 then s.canCmd n (keyOf v) (codeOf v)
  else if off = 0x20 then s.fifoPtrWrite n v
  else if off = 0x28 then s.hpstatWrite n v
  else if 0x1000 ≤ off ∧ off < 0x3000 ∧ off % 0x20 = 0x10 then s.objStatWrite n ((off - 0x1000) / 0x20) v
  else if shut ∧ (off = 4 ∨ off = 8 ∨ off = 0x18 ∨ off = 0x1C ∨ (0x1000 ≤ off ∧ off < 0x3000 ∧ off % 0x20 = 0)) then s
  else s.plainWrite a v

/-- SLn (R450, R480): the cycle registers and the station table only while EN is 0, the directory base only while every
link's EN is 0. -/
def State.writeSl (a : Nat) (v : Word) (s : State) : State :=
  let n := (a - 0xF0300000) / 0x10000
  let off := a % 0x10000
  if off = 0 then s.slCtrlWrite n v
  else if off = 0x30 then s.mbxRequest n v
  else if ((4 ≤ off ∧ off ≤ 0x14) ∨ off = 0x1C) ∧ s.flag (F.SL_CTRL_EN n) then s
  else if a = F.SL_DIRBASE_BASE.addr ∧ (List.range 16).any (fun j => s.flag (F.SL_CTRL_EN j)) then s
  else s.plainWrite a v

/-- LEn control (R251, R269, R288, R289). -/
def State.writeLe (a : Nat) (v : Word) (s : State) : State :=
  let e := (a - 0xF0400000) / 0x10000
  let off := a % 0x10000
  if off = 0x20 then s.palGrpWrite v
  else if 0x100 ≤ off ∧ off < 0x200 then s.slotCfgWrite (64 * e + (off - 0x100) / 4) v
  else if 0x400 ≤ off ∧ off < 0x600 ∧ off % 8 = 4 then s.impCfgWrite e ((off - 0x400) / 8) v
  else if 0x700 ≤ off ∧ off < 0x708 then s.palReqWrite e ((off - 0x700) / 4) v
  else s.plainWrite a v

/-- MOT (R330, R331, R340). -/
def State.writeMot (a : Nat) (v : Word) (s : State) : State :=
  let n := (a - 0xF0510000) / 0x100
  let off := a % 0x100
  if off = 0 then s.axCfgWrite n v
  else if 8 ≤ off ∧ off ≤ 0x2C then s.axParamWrite n off v
  else if off = 0x38 then s.axCmd n (keyOf v) (codeOf v)
  else if off = 0x3C then s.axStatWrite n v
  else if off = 0x5C then s.axSrvWrite n v
  else s.plainWrite a v

/-- The window of a field die (R51): while the die is dark nothing but DIE_CMD and CH_STAT is written. -/
def State.writeDie (o : Origin) (a : Nat) (v : Word) (s : State) : State :=
  let d := (a - 0xF0600000) / 0x40000
  let off := (a - 0xF0600000) % 0x40000
  let n := 32 * d + off / 0x800
  let sub := off % 0x800
  if off = 0x10008 then s.dieCmd o d (keyOf v) (codeOf v)
  else if s.dieDark d && !(off < 0x10000 && sub == 4) then s
  else if off < 0x10000 then
    (if sub = 0 then s.chCfgWrite n v
    else if sub = 0x10 then s.winCfgWrite n v
    else if sub = 0xA0 then s.aoutCfgWrite n v
    else if sub = 0x100 then s.fioCfgWrite n v
    else if sub = 0x104 then s.maxactWrite n v
    else s.plainWrite a v)
  else if off = 0x10000 then (s.plainWrite a v).staleDie d
  else if 0x10020 ≤ off ∧ off < 0x10030 then s.clCtrlWrite (4 * d + (off - 0x10020) / 4) v
  else if 0x100C0 ≤ off ∧ off < 0x100C8 then s.rgCtrlWrite (2 * d + (off - 0x100C0) / 4) v
  else s.plainWrite a v

/-- The write of the register at `a`, by its block. -/
def State.writeBlock (o : Origin) (a : Nat) (v : Word) (s : State) : State :=
  if a < 0xF0010000 then s.writeSys o a v
  else if a < 0xF0020000 then s.writeClk a v
  else if a < 0xF0030000 then
    (if a = F.SEC_CMD_KEY.addr then s.secCmd o (keyOf v) (codeOf v) (bitsOf v 8 3) else s.plainWrite a v)
  else if a < 0xF0040000 then s.writeFlt a v
  else if a < 0xF0050000 then s.writeEvl a v
  else if a < 0xF0060000 then s.writeSched a v
  else if a < 0xF0070000 then (if a = F.JNL_CTRL_EN.addr then s.jnlCtrlWrite v else s.plainWrite a v)
  else if a < 0xF0080000 then s.writeTime a v
  else if a < 0xF0090000 then s.writeIlm a v
  else if a < 0xF00B0000 then s.plainWrite a v
  else if a < 0xF00C0000 then s.writeSafe a v
  else if a < 0xF00D0000 then s.writeRec a v
  else if a < 0xF00E0000 then s.writeRcp a v
  else if a < 0xF0200000 then
    (if a = F.PCIE_CMD_KEY.addr then s.pcieCmd (keyOf v) (codeOf v) else s.plainWrite a v)
  else if a < 0xF0300000 then s.writeCan a v
  else if a < 0xF0400000 then s.writeSl a v
  else if a < 0xF0500000 then s.writeLe a v
  else if a < 0xF0510000 then s.plainWrite a v
  else if a < 0xF0600000 then s.writeMot a v
  else s.writeDie o a v

/-! ### One write -/

/-- What follows the reset values of a die's expert fields (R7): MAXACT ends what a longer time had raised (R363), and STALE
follows STALE_TH (R231). -/
def State.dieCleared (a : Nat) (s : State) : State :=
  if a < 0xF0600000 then s
  else
    let d := (a - 0xF0600000) / 0x40000
    (forN 32 (fun i s =>
      let n := 32 * d + i
      if (s.chan n).maxact then (s.modChan n fun c => { c with maxact := false }).regionRefresh (chRegion n) else s) s).staleDie d

/-- Is the write one of EXPERT_EN (R7) that acts: none does in the window of a dark die (R51)? -/
def State.expertWrite (s : State) (a : Nat) : Bool :=
  a == expertReg a && !(0xF0600000 ≤ a && s.dieDark ((a - 0xF0600000) / 0x40000))

/-- Runs a write that may carry EXPERT_EN (R7): set before the register's other fields, so that they take the written
values; cleared after them, with every expert field of the block back at its reset value. -/
def State.withExpert (a : Nat) (v : Word) (f : State → State) (s : State) : State :=
  if !s.expertWrite a then f s
  else
    let was := bitOf (s.reg a).toNat 31
    let on := bitOf v.toNat 31
    let s := if on then s.setReg a (s.reg a ||| 0x80000000) else s
    let s := f s
    if was && !on then (s.setReg a (s.reg a &&& 0x7FFFFFFF)).clearExpert a |>.dieCleared a else s

/-- A 32-bit write of the register space that the fabric delivers: nothing in VAULT, nothing where no register is (R6,
R49), except the vault's own words. -/
def State.regWrite (o : Origin) (a : Nat) (v : Word) (s : State) : State :=
  if s.mode = Mode.vault then s
  else if !isRegister a then s.raise 2 0
  else if (regRow a).isNone then s
  else s.withExpert a v (State.writeBlock o a v)

/-- A 32-bit write whose bus parity failed `bad` times (R532): four failures drop it. An armed bus-parity injection at
the address acts on it (R531). -/
def State.busWrite (o : Origin) (a : Nat) (v : Word) (bad : Nat) (s : State) : State :=
  match s.injOf 5 with
  | some i =>
    if i.addr = a then
      (if 2 ≤ i.nbits then s.injDone.raise 2 0 0 true else s.injDone.regWrite o a v)
    else if 4 ≤ bad then s.raise 2 0 else s.regWrite o a v
  | none => if 4 ≤ bad then s.raise 2 0 else s.regWrite o a v

/-- What a 32-bit read finds anywhere on the fabric, and the state after it (R2, R48, R49): an uncorrectable word of the
canvas or of LPDDR raises its source. -/
def State.busRead (a : Nat) (s : State) : Word × State :=
  match s.region a with
  | .register => (if s.mode = Mode.vault then 0 else s.regRead (a / 4 * 4), s)
  | .canvas => if s.eccBad a 4 then (0, s.raise 5 0 0 true) else (s.word a, s)
  | .leMem e => let (v, s) := s.leRead e a 4; (BitVec.ofNat 32 v, s)
  | .lpddr => if s.eccBad a 4 then (0, s.raise 6 0 0 true) else (s.word a, s)
  | .aboveFitted => (0, s.raise 3 0)
  | .pcie => let (v, s) := s.draw 32; (v, s)
  | .unmapped => (0, s.raise 2 0)

/-- Address of an offset into the register space. -/
def regAddr (off : BitVec 24) : Nat := 0xF0000000 + off.toNat

/-! ### Rows -/

/-- REGISTER_WRITE: a write at offset `off` of the register space; narrow ones are ignored with BUS_ACCESS (R3, R4, R6,
R532). -/
def execRegisterWrite (o : Origin) (off : BitVec 24) (width : Width) (v : Word) (bad : Fin 5) (s : State) : Out :=
  .next (if s.mode = Mode.vault then s
    else match width with
      | .b4 => s.busWrite o (regAddr off / 4 * 4) v bad
      | _ => s.raise 2 0)

/-- EXPERT_EN_WRITE: a write of the register that holds EXPERT_EN of the block at `off` (R7). -/
def execExpertEnWrite (o : Origin) (off : BitVec 24) (v : Word) (s : State) : Out :=
  .next (s.busWrite o (expertReg (regAddr off)) v 0)

/-- LINK_START: a write of SL_CTRL (R7, R457). -/
def execLinkStart (_o : Origin) (n : Fin 16) (v : Word) (s : State) : Out :=
  .next (s.withExpert (F.SL_CTRL_EN n).addr v (State.slCtrlWrite n v))

/-- OPMODE_WRITE: a write of CAN_CTRL (R7, R485). -/
def execOpmodeWrite (_o : Origin) (n : Fin 8) (v : Word) (s : State) : Out :=
  .next (s.withExpert (F.CAN_CTRL_OPMODE n).addr v (State.canCtrlWrite n v))

/-- JNL_EN_WRITE: a write of JNL_CTRL (R7, R68, R76). -/
def execJnlEnWrite (_o : Origin) (v : Word) (s : State) : Out := .next (s.withExpert F.JNL_CTRL_EN.addr v (State.jnlCtrlWrite v))

/-- LPDDR_RANGE_ACCESS: above the fitted capacity a read gives 0, a write is ignored, and MEM_RANGE is raised (R2). -/
def execLpddrRangeAccess (write : Bool) (a : BitVec 40) (s : State) : Out :=
  .next (if s.region a.toNat = .aboveFitted then
      (let s := s.raise 3 0; if write then s else { s with rdata := [0] })
    else s)

/-- UNMAPPED_ACCESS: outside every listed range a read gives 0, a write is ignored, and BUS_ACCESS is raised (R49). -/
def execUnmappedAccess (write : Bool) (a : BitVec 40) (s : State) : Out :=
  .next (if s.region a.toNat = .unmapped then
      (let s := s.raise 2 0; if write then s else { s with rdata := [0] })
    else s)

/-- FD_WINDOW_ACCESS_COMPLETE: an access of the window of die `d` has crossed the CFG coupler (R51). -/
def execFdWindowAccessComplete (o : Origin) (d : Fin 4) (off : BitVec 18) (write : Bool) (v : Word) (s : State) : Out :=
  let a := 0xF0600000 + 0x40000 * d.val + off.toNat / 4 * 4
  .next (if write then s.busWrite o a v 0 else
    let (w, s) := s.busRead a
    { s with rdata := [w] })

end Sys2Proof.Machine
end

