-- ==== Sys2Proof/Machine/CoreMem.lean ====
section
/-!
DEFINITION. Loads, stores and atomics of the control cores (R107, R108, R114, R142 to R144, R148, R244), and the scrubber
of canvas and LPDDR (R516). A core forms a 32-bit address; `seg` gives bits 39..32 of the physical one (assumption 15).
-/

set_option Elab.async false

namespace Sys2Proof.Machine

/-! ### Addresses -/

/-- base + DISP × size, in 32 bits. -/
def memAddr (k : Core) (base : BitVec 5) (disp : BitVec 14) (size : Nat) : Word :=
  k.reg base.toNat + BitVec.ofInt 32 (disp.toInt * size)

/-- The physical address. -/
def physAddr (seg : BitVec 8) (a : Word) : Nat := seg.toNat * 2 ^ 32 + a.toNat

/-! ### Reads -/

/-- A read corrects a correctable error of the range. -/
def State.eccFix (a n : Nat) (s : State) : State :=
  if s.eccSoft a n then
    { s with flt := { s.flt with badEcc := s.flt.badEcc.filter fun p => !(p.2 == 1 && a < p.1 + 4 && p.1 < a + n) } }
  else s

/-- The `n` bytes at `a` (at most 4, inside one word) as a core reads them, and the state after; a register gives its
addressed bytes (R3). -/
def State.coreRead (a n : Nat) (s : State) : Nat × State :=
  match s.region a with
  | .canvas => (memNat s.mem a n, s.eccFix a n)
  | .lpddr => (memNat s.mem a n, s.eccFix a n)
  | .leMem e => s.leRead e a n
  | _ =>
    let (w, s) := s.busRead a
    (w.toNat / 2 ^ (8 * (a % 4)) % 2 ^ (8 * n), s)

/-- Is the range memory with an uncorrectable error, which a load meets as ECC (R142)? In an engine's memories the whole
lines read count (R243). -/
def State.loadBad (s : State) (a n : Nat) : Bool :=
  match s.region a with
  | .canvas | .lpddr => s.eccBad a n
  | .leMem _ => s.eccBad (leSpan a n).1 (leSpan a n).2
  | _ => false

/-! ### Writes -/

/-- Core `c` writes `n` bytes at `a`, inside one word: R148 in canvas, R244 in an engine's memories, the register's own
effect in the register space (R3: 32 bits only). -/
def State.coreWrite (c : Fin 8) (a n v : Nat) (s : State) : State :=
  let w := a / 4 * 4
  let sh := 8 * (a % 4)
  match s.region a with
  | .canvas => s.coreStoreWord c w (BitVec.ofNat 32 (v % 2 ^ (8 * n) * 2 ^ sh)) (BitVec.ofNat 32 ((2 ^ (8 * n) - 1) * 2 ^ sh))
  | .lpddr => s.coreStoreWord c w (BitVec.ofNat 32 (v % 2 ^ (8 * n) * 2 ^ sh)) (BitVec.ofNat 32 ((2 ^ (8 * n) - 1) * 2 ^ sh))
  | .leMem _ =>
    if n = 1 then s
    else
      let t := s.leWrite a n v
      if t.word w = s.word w then t else t.logUndo c w (s.word w) (t.word w)
  | .register => if n = 4 then s.busWrite (.core c) a (BitVec.ofNat 32 v) 0 else s.raise 2 0
  | .aboveFitted => s.raise 3 0
  | .pcie => s
  | .unmapped => s.raise 2 0

/-! ### Loads and stores -/

/-- Checks of a memory instruction, lowest cause first (R143): ILLEGAL, PRIVILEGE, ALIGN. None when it may proceed. -/
def memCheck (k : Core) (ok : Bool) (w : Word) (a : Nat) (size : Nat) : Option (Nat × Word) :=
  if !ok then some (Exc.illegal, w)
  else if inRegSpace a && !flP k.fl then some (Exc.privilege, BitVec.ofNat 32 a)
  else if a % size ≠ 0 then some (Exc.align, BitVec.ofNat 32 a)
  else none

/-- One load or store: the exception a check gives, or the access, with PC at the next word. `zero` is what the core takes
from a read that the missing privilege answers with 0 (R50). -/
def State.memInstr (c : Fin 8) (w : Word) (ok : Bool) (size : Nat) (base : BitVec 5) (disp : BitVec 14) (seg : BitVec 8)
    (zero : Core → Core) (f : Core → Nat → State → State) (s : State) : State :=
  s.instr c fun k s =>
    let a := physAddr seg (memAddr k base disp size)
    match memCheck k ok w a size with
    | some (cause, eval) => (if cause = Exc.privilege then s.modCore c zero else s).exception c cause k.pc eval
    | none => f k a s

/-- PC goes to the next word. -/
def State.nextPc (c : Nat) (s : State) : State := s.modCore c fun k => { k with pc := k.pc + 4 }

/-- LD (R107): a byte or half sign-extended, a word, or a pair, which is two accesses: outside every range each raises its source
(R2, R49, assumption 21). -/
def execLd (c : Fin 8) (rd base : BitVec 5) (size : BitVec 2) (disp : BitVec 14) (seg : BitVec 8) (s : State) : Out :=
  let n := 2 ^ size.toNat
  .next (s.memInstr c (encMEM 0x10 rd base size disp) (n != 8 || pairOk rd) n base disp seg
      (fun k => if n = 8 then k.setPair rd.toNat 0 else k.setReg rd.toNat 0) fun k a s =>
    if s.loadBad a n then s.exception c Exc.ecc k.pc (BitVec.ofNat 32 a)
    else
      let (lo, s) := s.coreRead a (min n 4)
      if n = 8 then
        let (hi, s) := s.coreRead (a + 4) 4
        (s.modCore c fun k => (k.setReg rd.toNat (BitVec.ofNat 32 lo)).setReg (rd.toNat + 1) (BitVec.ofNat 32 hi)).nextPc c
      else (s.modCore c fun k => k.setReg rd.toNat (BitVec.ofInt 32 (toSigned (8 * n) lo))).nextPc c)

/-- LDU (R107): a byte or half zero-extended; the other sizes are ILLEGAL. -/
def execLdu (c : Fin 8) (rd base : BitVec 5) (size : BitVec 2) (disp : BitVec 14) (seg : BitVec 8) (s : State) : Out :=
  let n := 2 ^ size.toNat
  .next (s.memInstr c (encMEM 0x11 rd base size disp) (decide (n ≤ 2)) n base disp seg (Core.setReg rd.toNat 0) fun k a s =>
    if s.loadBad a n then s.exception c Exc.ecc k.pc (BitVec.ofNat 32 a)
    else
      let (v, s) := s.coreRead a n
      (s.modCore c fun k => k.setReg rd.toNat (BitVec.ofNat 32 v)).nextPc c)

/-- ST (R107): stores a byte, half, word or pair under R148; a pair is two accesses, as for LD. -/
def execSt (c : Fin 8) (rs base : BitVec 5) (size : BitVec 2) (disp : BitVec 14) (seg : BitVec 8) (s : State) : Out :=
  let n := 2 ^ size.toNat
  .next (s.memInstr c (encMEM 0x12 rs base size disp) (n != 8 || pairOk rs) n base disp seg id fun k a s =>
    let s := s.nextPc c
    let s := s.coreWrite c a (min n 4) (k.reg rs.toNat).toNat
    if n = 8 then s.coreWrite c (a + 4) 4 (k.reg (rs.toNat + 1)).toNat else s)

/-! ### Atomics (R114) -/

/-- An atomic on the word at rb: ALIGN, ACCESS outside canvas and LPDDR, ECC on an uncorrectable word; else `f` gives
from the old word the new one, if one is written; rd takes the old word. -/
def State.atomic (c : Fin 8) (rd rb : BitVec 5) (seg : BitVec 8) (f : Core → Word → Option Word) (s : State) : State :=
  s.instr c fun k s =>
    let a := physAddr seg (k.reg rb.toNat)
    let ev := BitVec.ofNat 32 a
    if inRegSpace a && !flP k.fl then (s.modCore c (Core.setReg rd.toNat 0)).exception c Exc.privilege k.pc ev
    else if a % 4 ≠ 0 then s.exception c Exc.align k.pc ev
    else if s.region a ≠ .canvas ∧ s.region a ≠ .lpddr then s.exception c Exc.access k.pc ev
    else if s.eccBad a 4 then s.exception c Exc.ecc k.pc ev
    else
      let old := s.word a
      let s := (s.eccFix a 4).nextPc c
      let s := match f k old with
        | some new => s.coreStoreWord c a new 0xFFFFFFFF
        | none => s
      s.modCore c fun k => k.setReg rd.toNat old

/-- CAS: old := [rb]; if old = rd then [rb] := ra; rd := old (R104, R114). -/
def execCas (c : Fin 8) (rd ra rb : BitVec 5) (seg : BitVec 8) (s : State) : Out :=
  .next (s.atomic c rd rb seg fun k old => if old = k.reg rd.toNat then some (k.reg ra.toNat) else none)

/-- AMOADD: old := [rb]; [rb] := old + ra; rd := old (R104, R114). -/
def execAmoadd (c : Fin 8) (rd ra rb : BitVec 5) (seg : BitVec 8) (s : State) : Out :=
  .next (s.atomic c rd rb seg fun k old => some (old + k.reg ra.toNat))

/-! ### Scrubbing (R516) -/

/-- MEMORY_SCRUB_READ: the scrubber reads the line at `a` of canvas or LPDDR: a single-bit error is corrected, an
uncorrectable one raises SRAM_UNCORR or LPDDR_UNCORR. -/
def execMemoryScrubRead (a : BitVec 40) (s : State) : Out :=
  let a := lineOf a.toNat
  .next (match s.region a with
    | .canvas => if s.eccBad a 8 then s.raise 5 0 0 true else s.eccFix a 8
    | .lpddr => if s.eccBad a 8 then s.raise 6 0 0 true else s.eccFix a 8
    | _ => s)

end Sys2Proof.Machine
end

