-- ==== Sys2Proof/Machine/Host.lean ====
section
/-!
DEFINITION. The host channel (R471 to R479, R555, R556): sessions, the order of their requests, the messages, images that
arrive, trace pages, and what else a NET port answers. A session is named by its slot, 0 to 7.
-/

set_option Elab.async false

namespace Sys2Proof.Machine

/-! ### Sessions -/

def State.session (s : State) (i : Nat) : Session := tget {} s.sessions i
def State.modSession (i : Nat) (f : Session → Session) (s : State) : State := { s with sessions := tmod {} i f s.sessions }

/-! Statuses of R472. -/
namespace St
def ok : Nat := 0
def noEndpoint : Nat := 1
def notPermitted : Nat := 2
def substitute : Nat := 3
def timeout : Nat := 4
def busy : Nat := 5
def refused : Nat := 6
def badFormat : Nat := 7
end St

/-- HOST_STAT.SESSIONS shows the open sessions. -/
def State.sessionsShow (s : State) : State :=
  s.setFld F.HOST_STAT_SESSIONS ((List.range 8).filter fun i => (s.session i).isOpen).length

/-- Does NETSEL select port `p`? -/
def State.netSel (s : State) (p : Nat) : Bool :=
  match s.fld F.HOST_CTRL_NETSEL with
  | 0 => p == 0
  | 1 => p == 1
  | _ => true

/-- Does a port serve the host channel: running, selected, with an address (R471, R481)? -/
def State.hostServed (s : State) : Bool :=
  s.flag F.HOST_CTRL_EN && s.mode != Mode.vault && (s.mode != Mode.dawn || s.sys.noFirmware) &&
  (List.range 2).any fun p => s.netSel p && s.flag (F.NET_CTRL_EN p) && s.fld (F.NET_IP4_ADDR p) != 0

/-- Sends an answer or notification. -/
def State.answer (i msg status seq : Nat) (body : List Nat) (s : State) : State :=
  { s with outbox := .host i msg status seq body :: s.outbox }

/-- Closes a session: its requests, subscriptions and traces end. -/
def State.sessionClose (i : Nat) (s : State) : State :=
  let s := { s with
    sessions := tset {} i {} s.sessions
    secu := { s.secu with verifying := s.secu.verifying.map fun (v : Nat × Nat × ImageBody) => if v.1 = i then (8, v.2) else v } }
  let s := forN 16 (fun u s =>
    if (s.unit u).traceTo = some i then s.modUnit u fun x => { x with traceTo := none, flight := [] } else s) s
  s.sessionsShow

/-! ### Endpoint messages (R474, R475) -/

/-- Queues a host's mailbox request; BUSY when 16 are queued. -/
def State.hostMbx (i h : Nat) (write : Bool) (v : Nat) (s : State) : HostItem × State :=
  let n := epLink h
  let d := s.desc h
  let len := typeSize d.type
  let q := b2n (s.epQuality h)
  if 16 ≤ (s.link n).mbx.length then (.done 0 St.busy q, s)
  else
    let s := s.mbxPush n { station := epStation h, write := write, object := epObject h, len := len, tag := 0, user := 2 + i,
                           data := if write then toBytes len v else [] }
    (.mbx n (epStation h) (s.link n).tag d.type d.bit q, s)

/-- One handle of a READ (R447, R448). -/
def State.readItem (i h : Nat) (s : State) : HostItem × State :=
  if !s.epExists h then (.done 0 St.noEndpoint 0, s)
  else if s.epMapped h then
    let q := s.epQuality h
    (.done (s.epValue h).toNat (if q || epClass h != 0 || (s.desc h).output then St.ok else St.substitute) (b2n q), s)
  else s.hostMbx i h false 0

/-- One pair of a WRITE (R148, R285, R475). -/
def State.writeItem (i h : Nat) (v : Word) (s : State) : HostItem × State :=
  let no (s : State) : HostItem × State := (.done 0 St.notPermitted 0, s.incSat F.HOST_CNT0_IGNORED)
  if !s.epExists h then (.done 0 St.noEndpoint 0, s)
  else match epClass h with
    | 0 => if (s.desc h).mapped || !(s.desc h).output then no s else s.hostMbx i h true v.toNat
    | 2 =>
      let a := 4 * (h % 2 ^ 22)
      if s.hostInput (a / 4) && !protectedArea a then (.done 0 St.ok 1, s.setWord a v) else no s
    | 3 =>
      let w := h / 512 % 128
      let wide := bitOf h 16
      if 24 ≤ w ∧ w + b2n wide ≤ 26 then
        (.done 0 St.ok 1, if wide then s.setDsc2 (h % 512) w v.toNat else s.setDsc (h % 512) w v.toNat)
      else no s
    | _ => no s

/-- Runs a list of entries in order. -/
def runItems {α : Type} (f : α → State → HostItem × State) : List α → State → List HostItem × State
  | [], s => ([], s)
  | x :: xs, s =>
    let (y, s) := f x s
    let (ys, s) := runItems f xs s
    (y :: ys, s)

/-- The body that answered entries make: value, status and quality of a READ, the status alone of a WRITE. -/
def itemsBody (write : Bool) (l : List HostItem) : List Nat :=
  l.flatMap fun x => match x with
    | .done v st q => if write then [st] else [v, st, q]
    | .mbx .. => []

/-- Does an entry still wait? -/
def HostItem.waits : HostItem → Bool
  | .mbx .. => true
  | .done .. => false

/-! ### Register messages (R477) -/

/-- May the register messages reach the address? -/
def regMsgOk (a : Nat) : Bool := 0xF0000000 ≤ a && a < 0xF1000000 && a % 4 == 0

def State.regReads : List Nat → State → List Nat × State
  | [], s => ([], s)
  | a :: as, s =>
    let a := a % 2 ^ 40
    let (r, s) := if regMsgOk a then
        let (v, s) := s.busRead a
        ([v.toNat, St.ok], s)
      else ([0, St.notPermitted], s)
    let (rs, s) := State.regReads as s
    (r ++ rs, s)

def State.regWrites (i : Fin 8) : List (Nat × Word) → State → List Nat × State
  | [], s => ([], s)
  | (a, v) :: as, s =>
    let a := a % 2 ^ 40
    let (r, s) := if regMsgOk a then (St.ok, s.busWrite (.host i) a v 0) else (St.notPermitted, s)
    let (rs, s) := State.regWrites i as s
    (r :: rs, s)

/-! ### Execution of a request -/

/-- MSG of a request (R474). -/
def reqMsg : HostReq → Nat
  | .read _ => 1
  | .write _ => 2
  | .subscribe .. => 3
  | .load .. => 4
  | .mode _ => 5
  | .trace .. => 6
  | .regRead _ => 7
  | .regWrite _ => 8

/-- The lowest role that a request needs (R476). -/
def reqRole : HostReq → Nat
  | .read _ | .subscribe .. | .trace .. | .regRead _ => 0
  | .write _ => 1
  | .mode c => if c = 1 ∨ c = 2 ∨ c = 4 ∨ c = 5 then 1 else 2
  | .load .. | .regWrite _ => 2

/-- TRACE (R408, R479): START, STOP, ACK. -/
def State.traceOp (i u op seq : Nat) (s : State) : State :=
  match op with
  | 0 => (s.modUnit u fun x => { x with traceTo := some i, flight := [] }).traceSend u
  | 1 => s.modUnit u fun x => { x with traceTo := none, flight := [] }
  | _ =>
    (s.modUnit u fun x => { x with
      flight := x.flight.filter fun f => seq < f.1
      spill := x.spill.map fun p => if p.seq ≤ seq then { p with host := false } else p }).spillDrop u

/-- SEC begins to check the image that request `seq` of session `i` completed. -/
def State.verifyStart (i seq : Nat) (b : ImageBody) (s : State) : State :=
  { s with secu := { s.secu with verifying := some (i, seq, b) } }

/-- LOAD_IMAGE (R476, R548): segments in OFFSET order; the last one starts the verification, whose end answers it. The
content of the image comes with the last segment (assumption 16). -/
def State.loadOp (i seq kind offset total len : Nat) (body : Option ImageBody) (s : State) : Option (Nat × List Nat) × State :=
  let x := s.session i
  let next := match x.load with
    | some (k, n) => if k = kind then n else 0
    | none => 0
  if 1024 < len ∨ 4 < kind ∨ total < offset + len ∨ (offset ≠ 0 ∧ offset ≠ next) then (some (St.badFormat, []), s)
  else if offset + len < total then (some (St.ok, []), s.modSession i fun x => { x with load := some (kind, offset + len) })
  else if s.secu.verifying.isSome then
    (some (St.busy, []), s.modSession i fun x => { x with load := some (kind, offset) })
  else match body with
    | none => (some (St.badFormat, []), s.modSession i fun x => { x with load := none })
    | some b =>
      (none, (s.modSession i fun x => { x with load := none }).verifyStart i seq b)

/-- READ and WRITE answer at once, or wait while an entry goes through a mailbox. -/
def hostItems (i : Fin 8) (seq : Nat) (write : Bool) (p : List HostItem × State) : Option (Nat × List Nat) × State :=
  if p.1.any HostItem.waits then (none, p.2.modSession i fun x => { x with wait := some (seq, write, p.1) })
  else (some (St.ok, itemsBody write p.1), p.2)

/-- Sets or ends a subscription; its endpoints get their names checked. -/
def State.hostSubscribe (i : Fin 8) (id period : Nat) (hs : List Nat) (s : State) : State :=
  (forL hs State.epName s).modSession i fun x =>
    { x with subs := if hs = [] then tdel id x.subs else tins id { period := period, handles := hs } x.subs }

/-- Executes one request of session `i`: status and body of its answer, or none while it waits. -/
def State.hostExec (i : Fin 8) (seq : Nat) (r : HostReq) (s : State) : Option (Nat × List Nat) × State :=
  if (s.session i).role < reqRole r then (some (St.notPermitted, []), s)
  else match r with
    | .read hs =>
      if hs.length < 1 ∨ 64 < hs.length then (some (St.badFormat, []), s)
      else hostItems i seq false (runItems (State.readItem i) hs s)
    | .write ps =>
      if ps.length < 1 ∨ 64 < ps.length then (some (St.badFormat, []), s)
      else hostItems i seq true (runItems (fun (p : Nat × Word) => State.writeItem i p.1 p.2) ps s)
    | .subscribe id period hs =>
      if 3 < id ∨ 160 < hs.length ∨ period < 1 ∨ 10000 < period then (some (St.badFormat, []), s)
      else (some (St.ok, []), s.hostSubscribe i id period hs)
    | .load kind offset total len body => s.loadOp i seq kind offset total len body
    | .mode c =>
      (some (St.ok, [(s.sysCmd (.host i) 0xA5 (c % 256)).fld F.SYS_CMDSTAT_RESULT]), s.sysCmd (.host i) 0xA5 (c % 256))
    | .trace u op n => if 15 < u ∨ 2 < op then (some (St.badFormat, []), s) else (some (St.ok, []), s.traceOp i u op n)
    | .regRead as =>
      if as.length < 1 ∨ 64 < as.length then (some (St.badFormat, []), s)
      else (some (St.ok, (s.regReads as).1), (s.regReads as).2)
    | .regWrite ps =>
      if ps.length < 1 ∨ 32 < ps.length then (some (St.badFormat, []), s)
      else (some (St.ok, (s.regWrites i ps).1), (s.regWrites i ps).2)

/-! ### The order of requests (R473) -/

/-- A request has completed: its answer goes out and is kept with the last 32. -/
def State.hostDone (i seq msg status : Nat) (body : List Nat) (s : State) : State :=
  (s.modSession i fun x => { x with executed := max x.executed seq, cache := ((seq, status, body) :: x.cache).take 32 }).answer
    i msg status seq body

/-- Is a request of session `i` being executed? -/
def State.hostBusy (s : State) (i : Nat) : Bool :=
  (s.session i).wait.isSome || (match s.secu.verifying with
    | some (j, n, _) => j == i && decide ((s.session i).executed < n)
    | none => false)

/-- Executes held requests in SEQ order, as long as the next one is there; `fuel` bounds their number. A gap is timed from
when it shows. -/
def State.hostDrain (i : Fin 8) : Nat → State → State
  | 0, s => s
  | fuel + 1, s =>
    let x := s.session i
    if !x.isOpen || s.hostBusy i then s
    else match x.held.find? fun p => p.1 == x.executed + 1 with
      | some (seq, r) =>
        let s := s.modSession i fun x => { x with held := x.held.filter fun p => p.1 != seq, gapSince := none }
        (match s.hostExec i seq r with
        | (some (st, body), s) => (s.hostDone i seq (reqMsg r) st body).hostDrain i fuel
        | (none, s) => s)
      | none =>
        if x.held = [] then s.modSession i fun x => { x with gapSince := none }
        else s.modSession i fun x => { x with gapSince := some (x.gapSince.getD s.tbc) }

/-- A request arrives for session `i` (R472, R473). -/
def State.hostRequest (i : Fin 8) (seq : Nat) (tagOk : Bool) (r : HostReq) (s : State) : State :=
  let x := s.session i
  if !s.hostServed || !x.isOpen then s
  else if s.mode = Mode.dawn ∧ reqMsg r ≠ 4 then s
  else if !tagOk then s.incSat F.HOST_CNT0_BADTAG
  else if seq ≤ x.executed then
    match x.cache.find? fun p => p.1 == seq with
    | some (_, st, body) => (s.modSession i fun x => { x with lastAt := s.tbc }).answer i (reqMsg r) st seq body
    | none => s.incSat F.HOST_CNT1_SEQREF
  else if x.executed + 64 < seq then s.incSat F.HOST_CNT1_SEQREF
  else
    (s.modSession i fun x => { x with
      lastAt := s.tbc
      held := if x.held.any fun p => p.1 == seq then x.held else x.held ++ [(seq, r)] }).hostDrain i 65

/-! ### Rows: requests -/

def execRead (i : Fin 8) (seq : Nat) (tagOk : Bool) (handles : List Nat) (s : State) : Out :=
  .next (s.hostRequest i seq tagOk (.read handles))
def execWrite (i : Fin 8) (seq : Nat) (tagOk : Bool) (pairs : List (Nat × Word)) (s : State) : Out :=
  .next (s.hostRequest i seq tagOk (.write pairs))
def execSubscribe (i : Fin 8) (seq : Nat) (tagOk : Bool) (id period : Nat) (handles : List Nat) (s : State) : Out :=
  .next (s.hostRequest i seq tagOk (.subscribe id period handles))
def execLoadImage (i : Fin 8) (seq : Nat) (tagOk : Bool) (kind offset total len : Nat) (body : Option ImageBody) (s : State) : Out :=
  .next (s.hostRequest i seq tagOk (.load kind offset total len body))
def execMode (i : Fin 8) (seq : Nat) (tagOk : Bool) (code : Byte) (s : State) : Out :=
  .next (s.hostRequest i seq tagOk (.mode code.toNat))
def execTraceStart (i : Fin 8) (seq : Nat) (tagOk : Bool) (u : Fin 16) (s : State) : Out :=
  .next (s.hostRequest i seq tagOk (.trace u 0 0))
def execTraceStop (i : Fin 8) (seq : Nat) (tagOk : Bool) (u : Fin 16) (s : State) : Out :=
  .next (s.hostRequest i seq tagOk (.trace u 1 0))
def execTraceAck (i : Fin 8) (seq : Nat) (tagOk : Bool) (u : Fin 16) (page : Nat) (s : State) : Out :=
  .next (s.hostRequest i seq tagOk (.trace u 2 page))
def execRegRead (i : Fin 8) (seq : Nat) (tagOk : Bool) (addrs : List Nat) (s : State) : Out :=
  .next (s.hostRequest i seq tagOk (.regRead addrs))
def execRegWrite (i : Fin 8) (seq : Nat) (tagOk : Bool) (pairs : List (Nat × Word)) (s : State) : Out :=
  .next (s.hostRequest i seq tagOk (.regWrite pairs))

/-! ### Rows: sessions (R471, R473, R555, R556) -/

/-- HELLO: a free session slot becomes half open with the role asked for; without one the answer is BUSY. An identity key
that failed its check signs no answer (R553). -/
def execHello (role : Fin 3) (s : State) : Out :=
  .next (if !s.hostServed || s.secu.keyBad then s
    else match (List.range 8).find? fun i => !(s.session i).isOpen && (s.session i).half.isNone with
      | some i => (s.modSession i fun _ => { half := some s.tbc, role := role }).answer i 0x10 St.ok 0 [i]
      | none => s.answer 0 0x10 St.busy 0 [])

/-- FINISH: with its key in the table, its signature and its TAG right, the session opens with the lower role; `table` is
the table's role for the key. Any failure closes the exchange. -/
def execFinish (i : Fin 8) (table : Option (Fin 3)) (sigOk tagOk : Bool) (s : State) : Out :=
  .next (if !s.hostServed || (s.session i).half.isNone then s
    else match table with
      | some r =>
        if sigOk && tagOk then
          (s.modSession i fun x => { isOpen := true, role := min x.role r.val, lastAt := s.tbc }).sessionsShow.answer i 0x11 St.ok 0 []
        else (s.sessionClose i).incSat F.HOST_CNT0_BADTAG
      | none => (s.sessionClose i).incSat F.HOST_CNT0_BADTAG)

/-- HANDSHAKE_LAPSE: a half-open exchange lapses after 5 s. -/
def execHandshakeLapse (i : Fin 8) (s : State) : Out :=
  .next (match (s.session i).half with
    | some t => if t + sec 5 ≤ s.tbc then s.sessionClose i else s
    | none => s)

/-- SESSION_IDLE_CLOSE: no valid request for 60 s. -/
def execSessionIdleClose (i : Fin 8) (s : State) : Out :=
  .next (if (s.session i).isOpen ∧ (s.session i).lastAt + sec 60 ≤ s.tbc then s.sessionClose i else s)

/-- GAPCLOSE: a gap not filled within 1 s closes the session; held requests are discarded. -/
def execGapclose (i : Fin 8) (s : State) : Out :=
  .next (match (s.session i).gapSince with
    | some t => if t + sec 1 ≤ s.tbc then (s.sessionClose i).incSat F.HOST_CNT1_GAPCLOSE else s
    | none => s)

/-- NOTIFY: subscription `id` of a session is due at a multiple of its period in TBC (R478). An unmapped remote object has
no value at that instant. -/
def execNotify (i : Fin 8) (id : Fin 4) (s : State) : Out :=
  .next (match tlook (s.session i).subs id with
    | some b =>
      if (s.session i).isOpen && s.hostServed && b.period != 0 && s.tbc % ms b.period == 0 then
        let body := b.handles.flatMap fun h =>
          if s.epMapped h then
            let q := s.epQuality h
            [(s.epValue h).toNat, if q || (s.desc h).output then St.ok else St.substitute, b2n q]
          else [0, St.noEndpoint, 0]
        (s.modSession i fun x => { x with sent := x.sent + 1 }).answer i 3 St.ok ((s.session i).sent + 1) (id.val :: body)
      else s
    | none => s)

/-- TRACE_RETRANSMIT: the oldest unacknowledged page of a unit goes out again after RETX_MS (R479). -/
def execTraceRetransmit (u : Fin 16) (s : State) : Out :=
  .next (match (s.unit u).traceTo, (s.unit u).flight with
    | some i, (seq, t) :: rest =>
      if t + ms (max 1 (s.fld F.HOST_TRACE_RETX_MS)) ≤ s.tbc then
        (s.modUnit u fun x => { x with flight := (seq, s.tbc) :: rest }).traceParts i u seq
      else s
    | _, _ => s)

/-! ### Rows: what completes a request -/

/-- An accepted firmware image ends the wait for firmware of DAWN: its bank runs, and the boot bank stays (R61, R96). -/
def State.bootAccepted (s : State) : State :=
  { s with sys := { s.sys with noFirmware := false, bank := !s.sys.bank } }

/-- The verification of `body` has given VRES `r`: accepted, and the state with what follows (R548). -/
def State.verified (body : ImageBody) (v : Verdict) (r : Nat) (s : State) : Bool × State :=
  let s := { s with secu := { s.secu with verifying := none } }.setFld F.SEC_STAT_VRES r
  let p := if r = 0 then State.imageAccept body v s
    else (false, if imageKind body = 1 then s.setFld F.EXCH_STAT_RESULT Res.refusedLoad else s)
  (p.1, if p.1 ∧ p.2.sys.noFirmware ∧ imageKind body = 0 then p.2.bootAccepted else p.2)

/-- VERIFICATION_COMPLETE: SEC has checked the image (R548); the waiting LOAD_IMAGE is answered with VRES. -/
def execVerificationComplete (v : Verdict) (s : State) : Out :=
  .next (match s.secu.verifying with
    | none => s
    | some (i, seq, body) =>
      let r := s.vresOf body v
      let p := s.verified body v r
      if h : i < 8 then
        if (p.2.session i).isOpen ∧ (p.2.session i).executed + 1 = seq then
          (p.2.hostDone i seq 4 (if p.1 then St.ok else St.refused) [r]).hostDrain ⟨i, h⟩ 65
        else p.2
      else s)

/-- The entry that a mailbox answer fills. -/
def HostItem.fill (n : Nat) (q : MbxReq) (res : Nat) (d : List Byte) : HostItem → HostItem
  | .done v st ql => .done v st ql
  | .mbx link station tag type bit ql =>
    if link = n ∧ station = q.station ∧ tag = q.tag then
      let v := (typeRead type bit (d.foldr (fun b t => b.toNat + 256 * t) 0)).toNat
      .done (if res = 0 ∧ !q.write then v else 0)
        (if res = 0 then St.ok else if res = 2 then St.noEndpoint else if res = 3 then St.notPermitted else St.timeout) ql
    else .mbx link station tag type bit ql

/-- A host's mailbox request has ended: its entry is filled, and the request is answered when none waits (R474). -/
def State.hostMbxDone (i : Fin 8) (n : Nat) (q : MbxReq) (res : Nat) (d : List Byte) (s : State) : State :=
  match (s.session i).wait with
  | none => s
  | some (seq, write, l) =>
    let l := l.map (HostItem.fill n q res d)
    if l.any HostItem.waits then s.modSession i fun x => { x with wait := some (seq, write, l) }
    else
      let s := s.modSession i fun x => { x with wait := none }
      (s.hostDone i seq (if write then 2 else 1) St.ok (itemsBody write l)).hostDrain i 65

/-- MAILBOX_COMPLETE: the first request of SLn that is at its end completes with its result (R468). -/
def execMailboxComplete (n : Fin 16) (s : State) : Out :=
  .next (match s.mbxDone n with
    | none => s
    | some (q, res, d) =>
      let s := s.mbxFinish n q res d
      if h : q.user - 2 < 8 then (if 2 ≤ q.user then s.hostMbxDone ⟨q.user - 2, h⟩ n q res d else s) else s)

/-! ### Rows: NET ports (R471, R516) -/

/-- NET_LINK_LOSS: the port's link is gone; the NET source is raised, naming the port. -/
def execNetLinkLoss (p : Fin 2) (s : State) : Out :=
  .next (if s.flag (F.NET_STAT_LINK_UP p) then
    ((s.setFlag (F.NET_STAT_LINK_UP p) false).setFlag (F.NET_STAT_SPEED10G p) false).raise 408 p
  else s)

/-- Does port `p` answer for the address: running, and its own, which is not 0? -/
def State.netAnswers (s : State) (p : Nat) (ip : Word) : Bool :=
  s.mode != Mode.vault && s.flag (F.NET_CTRL_EN p) && s.fld (F.NET_IP4_ADDR p) != 0 && s.fld (F.NET_IP4_ADDR p) == ip.toNat

/-- ARP_REQUEST for an address: answered for NET_IP4. -/
def execArpRequest (p : Fin 2) (ip : Word) (s : State) : Out :=
  .next (if s.netAnswers p ip then { s with outbox := .net p 0 ip.toNat :: s.outbox } else s)

/-- ICMP_ECHO_REQUEST to an address: answered for NET_IP4. -/
def execIcmpEchoRequest (p : Fin 2) (ip : Word) (s : State) : Out :=
  .next (if s.netAnswers p ip then { s with outbox := .net p 1 ip.toNat :: s.outbox } else s)

end Sys2Proof.Machine
end

