-- ==== Sys2Proof/Machine/Dawn.lean ====
section
/-!
DEFINITION. DAWN (R60 to R67, R79, R82 to R86): what the supplies start, the selection and repair of setup records, the
program that is loaded, the restart decision and the warm state.
-/

set_option Elab.async false

namespace Sys2Proof.Machine

/-! ### Setup records (R63 to R67) -/

/-- Base address of the block of a setup record (R48, R64). -/
def recordBase (id : Nat) : Nat :=
  if id ≤ 10 then 0xF0000000 + 0x10000 * id
  else if id = 11 then 0xF00C0000 else if id = 12 then 0xF00D0000 else if id = 13 then 0xF00E0000
  else if id = 14 then 0xF0100000 else if id = 15 then 0xF0110000 else if id = 16 then 0xF0120000
  else if id < 25 then 0xF0200000 + 0x10000 * (id - 17)
  else if id < 41 then 0xF0300000 + 0x10000 * (id - 25)
  else if id < 49 then 0xF0400000 + 0x10000 * (id - 41)
  else if id = 49 then 0xF0500000 else if id = 50 then 0xF0510000
  else 0xF0600000 + 0x40000 * (id - 51)

/-- The copy that DAWN applies, and is exactly one of the two valid, as `ok` finds them (R65)? -/
def selectCopy (ok : RecCopy → Bool) (a b : RecCopy) : Option RecCopy × Bool :=
  match ok a, ok b with
  | true, true => if a.gen < b.gen then (some b, false) else (some a, a.gen == b.gen && decide (a ≠ b))
  | true, false => (some a, true)
  | false, true => (some b, true)
  | false, false => (none, false)

/-- One offset and value pair: a register write of the block; a word of set A goes in as DAWN loads it (R386). -/
def State.recordPair (id : Nat) (p : Nat × Word) (s : State) : State :=
  let a := recordBase id + p.1
  if id = 8 ∧ 0x1000 ≤ p.1 ∧ p.1 < 0x3000 then s.setReg (a / 4 * 4) (termWord (p.1 % 16 / 4) p.2)
  else s.regWrite (.core 0) (a / 4 * 4) p.2

/-- Applies record `id`, or notes that it fell back (R65, R67). -/
def State.recordApply (id : Nat) (s : State) : State :=
  match selectCopy (s.copyOk id) (tget {} s.boot.recA id) (tget {} s.boot.recB id) with
  | (some c, warn) =>
    let s := s.setFbit (F.SYS_CFGWARN_BITS (id / 32)) (id % 32) warn
    let s := s.setFbit (F.SYS_CFGSTAT_BITS (id / 32)) (id % 32) false
    let s := { s with boot := { s.boot with applied := tset 0 id c.gen s.boot.applied, checks := tset 0 id c.check s.boot.checks } }
    forL c.data (State.recordPair id) s
  | (none, _) =>
    let s := s.setFbit (F.SYS_CFGSTAT_BITS (id / 32)) (id % 32) true
    let s := { s with boot := { s.boot with applied := tset 0 id 0 s.boot.applied, checks := tset 0 id 0 s.boot.checks }
                      sys := { s.sys with fellBack := true } }
    s.log .cfgFallback id 0

/-- SETUP_RECORD_REPAIR: after DAWN the applied copy goes over the other; `ok`: it reads back valid (R65). -/
def execSetupRecordRepair (id : Fin 55) (ok : Bool) (s : State) : Out :=
  .next (if s.inMode [Mode.vault, Mode.dawn] || !s.fbit (F.SYS_CFGWARN_BITS (id / 32)) (id % 32) then s
    else
      let a := tget {} s.boot.recA id
      let b := tget {} s.boot.recB id
      match selectCopy (s.copyOk id) a b with
      | (some c, _) =>
        let overB := decide (c = a)
        let x := if ok then c else c.spoil
        let s := { s with boot := if overB then { s.boot with recB := tset {} id x s.boot.recB } else { s.boot with recA := tset {} id x s.boot.recA } }
        let s := s.log .cfgRepair id (b2n ok)
        if ok then s.setFbit (F.SYS_CFGWARN_BITS (id / 32)) (id % 32) false else s
      | (none, _) => s)

/-! ### The steps of DAWN (R60, R61) -/

/-- CLK at DAWN: locks, the reference's source, the measured delays (R34, R36). -/
def State.dawnClk (env : DawnEnv) (s : State) : State :=
  let s := (s.setFlag F.CLK_CTRL_REF_SRC env.refSrc).setFlag F.CLK_STAT_MAIN_LOCK true
  let s := (s.setFlag F.CLK_STAT_SER_LOCK_NET (bitOf env.serLocks 0)).setFlag F.CLK_STAT_SER_LOCK_SL (bitOf env.serLocks 1)
  let s := (s.setFlag F.CLK_STAT_SER_LOCK_PLNK (bitOf env.serLocks 2)).setFlag F.CLK_STAT_SER_LOCK_PCIE (bitOf env.serLocks 3)
  let s := s.setFlag F.CLK_STAT_XCHK_OK true
  forN 4 (fun d s =>
    (s.setFbit F.CLK_STAT_FD_CLK_OK d (!env.visoAbsent.contains d)).setReg (F.CLK_FDDLY_DLY d).addr
      (BitVec.ofNat 32 (env.delays.getD d 0 % 256))) s

/-- SEC holds an identity key. -/
def State.identify (s : State) : State :=
  { s with sys := { s.sys with firstDawn := !s.secu.identity }, secu := { s.secu with identity := true } }

/-- SEC at DAWN: the fuses load; without an identity key it generates one, and a stored one that fails its integrity check raises
SELFTEST and signs nothing (R60, R553). -/
def State.dawnSec (keyFails : Bool) (s : State) : State :=
  let bad := s.secu.identity && keyFails
  let t := s.identify.fuseShow
  let t := { t with secu := { t.secu with keyBad := bad } }
  if bad then t.raise 4 0 4 else t

/-- A configuration image whose records DAWN applies is the one in force; its counter rises (R551, R552, R554). -/
def State.dawnConfig (s : State) : State :=
  let s := match s.secu.cfgNext with
    | some (h, k) => { s with secu := { s.secu with cfgNext := none, cfgHash := h, cfgSigner := k } }
    | none => s
  match s.secu.cfgSvn with
  | some (c, v) => { s with secu := { s.secu with cfgSvn := none } }.burn c v
  | none => s

/-- The seal record of die `d` that DAWN accepts: that of the slot in use, else the other one's, which then is in use; with
neither, the check that failed on the slot in use (R238). -/
def State.dawnSeal (env : DawnEnv) (d : Nat) (s : State) : State :=
  let x := s.die d
  let fuse := s.fld (F.SEAL_STAT_FUSE_CNT d)
  let check (b : Bool) (w : Tbl Word) : Nat := sealCheck d fuse (!env.sealFails.contains (d, b2n b)) w
  let use := check x.slotB x.sealW
  let swap := use != 0 && check (!x.slotB) x.other == 0
  let fail := if swap then 0 else use
  let s := if swap then s.modDie d fun x => { x with sealW := x.other, other := x.sealW, slotB := !x.slotB } else s
  let s := s.modDie d fun x => { x with sealOk := fail == 0, held := fail != 0 }
  let s := (s.setFld (F.SEAL_STAT_FAIL d) fail).setFlag (F.DIE_STAT_SEAL_OK d) (fail == 0)
  (s.setFld (F.SEAL_STAT_SEAL_CNT d) (s.sealWord d 2).toNat).setFld (F.SEAL_STAT_SIGNER d) (bitsOf (s.sealWord d 1) 24 8)

/-- The field dies at DAWN: the seal's factors, the calibration image, missing supplies (R61, R226, R227, R238). -/
def State.dawnDie (env : DawnEnv) (d : Nat) (s : State) : State :=
  let viso := !env.visoAbsent.contains d
  let s := (s.dawnSeal env d).modDie d fun x => { x with viso := viso, calFail := env.calImageFails }
  let s := (s.sealFactors d).setFlag (F.DIE_STAT_CALIMG_OK d) (!env.calImageFails)
  let s := if viso && (s.die d).sealOk then s else s.raiseCond (240 + d) d
  forN 2 (fun j s => s.modRegion (2 * d + j) fun u => { u with vfldMissing := env.vfldAbsent.contains (2 * d + j) }) s

/-- The firmware bank that boots: the boot bank, or the other one when it fails, which leaves the boot bank as it is (R61, R96).
A bank that fails holds no image that has passed verification (R93). -/
def State.dawnFirmware (env : DawnEnv) (s : State) : State :=
  let judge (fails : Bool) (f : FwImage) : FwImage := { f with verified := f.verified && !fails }
  let s := { s with boot := { s.boot with fwA := s.boot.fwA.map (judge env.fwAFails), fwB := s.boot.fwB.map (judge env.fwBFails) } }
  let held (b : Bool) : Option FwImage := if b then s.boot.fwB else s.boot.fwA
  let ok (b : Bool) : Bool := (held b).any FwImage.verified
  let bank : Bool := if ok s.boot.bootBank then s.boot.bootBank else !s.boot.bootBank
  let image := held bank
  { s with
    sys := { s.sys with noFirmware := !ok bank, bank := if ok bank then bank else s.boot.bootBank }
    secu := { s.secu with fwSigner := (image.map FwImage.signer).getD 0 } }.fwShow

/-- The chain that the devices `up` hold: the image of its last delta, the deltas that are committed up to the first one that is
not, and how many of the ring are incomplete (R72, R74). None without a complete generation on one of them. -/
def JnlU.chain (up : Nat) (bad : List (Nat × Nat)) (j : JnlU) : Option (Retain × List Delta × Nat) :=
  match j.gen with
  | none => none
  | some (_, devs, base) =>
    if up &&& devs = 0 then none
    else
      let good := j.deltas.takeWhile (Delta.committed up bad)
      some ((good.getLast?.map Delta.image).getD base, good, (j.deltas.filter fun d => !d.committed up bad).length)

/-- The chain found goes on: the image, the ring up to its end, and the deltas found incomplete (R72, R78). -/
def JnlU.found (c : Option (Retain × List Delta × Nat)) (j : JnlU) : JnlU :=
  match c with
  | some (r, l, n) => if n = 0 then j else { j with image := some r, deltas := l, incomplete := j.incomplete + n }
  | none => j

/-- The devices at DAWN: one that does not answer leaves the journal on the other, and one that is not whole yet is rebuilt; none
leaves no chain (R75, R583). -/
def State.dawnDevices (up : Nat) (s : State) : State :=
  let stale := if up = 3 then s.jnl.stale else 3 - up
  let again := up == 3 && stale != 0
  let rebuild := if again then some (if bitOf stale 1 then 1 else 0, 0) else none
  let slices := if again then 0 else s.jnl.slices
  let s := { s with jnl := { s.jnl with stale := stale, rebuild := rebuild, slices := slices } }
  let s := s.setFlag F.JNL_STAT_DEGRADED (up != 0 && stale != 0)
  if up = 0 then { s with vault := { s.vault with chainMark := true } }.raise 8 0 4
  else if up = 3 then s else s.raise 8 (2 - up) 2

/-- The journal controller at DAWN: sizes, the devices that answer, the chain it finds; one that answers with less than 64 MiB
keeps the controller from starting (R68, R72, R75, R76, R542, R583). -/
def State.dawnJournal (env : DawnEnv) (s : State) : State :=
  let (a, b) := env.jnlSizes
  let up := env.jnlOk % 4
  let small := (bitOf up 0 && decide (a < 64)) || (bitOf up 1 && decide (b < 64))
  let s := ((s.setFld F.JNL_DEVSIZE_SIZE0 a).setFld F.JNL_DEVSIZE_SIZE1 b).setFld F.JNL_STAT_DEV_OK up
  let chain := s.jnl.chain up env.jnlBad
  let s := { s with jnl := { s.jnl.found chain with off := small } }
  let ok := s.jnl.chainOk && chain.isSome && !s.vault.chainMark && !small
  let s := ((s.setFlag F.JNL_STAT_CKPT_OK ok).setFlag F.JNL_STAT_CHAIN_OK ok).dawnDevices up
  if small then s.raise 8 0 4 else s

/-- The program that DAWN loads: the slot that the journal header names, or else the boot slot (R60, R187). -/
def State.dawnProgram (env : DawnEnv) (s : State) : State :=
  let good (b : Bool) : Option Program := if b then (if env.programBFails then none else s.boot.slotB)
    else if env.programAFails then none else s.boot.slotA
  let named (b : Bool) : Bool := s.jnl.hash != 0 && (good b).any fun (p : Program) => p.hash == s.jnl.hash
  let slot := if named s.boot.bootSlot then s.boot.bootSlot else if named (!s.boot.bootSlot) then !s.boot.bootSlot else s.boot.bootSlot
  match good slot with
  | none => s
  | some p =>
    let s := { s with scan := { s.scan with program := some p, runSlot := slot }
                      secu := { s.secu with programSvn := some (p.ctr, p.svn) } }
    ((s.putImage p).initData p).setFld F.JNL_RETAIN_BYTES p.retainBytes

/-- Set A of the interlock matrix is loaded and becomes active; a LOAD that fails leaves no term in use and counts as a
record that fell back (R386). -/
def State.dawnIlm (s : State) : State :=
  let s := s.ilmLoad 0
  let s' := s.setFlag F.ILM_STAT_LOADED false
  if s.fld F.ILM_STAT_RESULT = Res.ok then
    ((s'.setFld F.ILM_STAT_GLOBAL (s.fld F.ILM_LDSTAT_GLOBAL)).setFld F.ILM_STAT_DEMOTED (s.fld F.ILM_LDSTAT_DEMOTED)).ilmEval
  else
    let t := forL (s'.regs.map Prod.fst) (fun a t => if 0xF0081000 ≤ a ∧ a < 0xF0083000 then t.setReg a 0 else t) s'
    let t := { t with sys := { t.sys with fellBack := true } }.setFbit (F.SYS_CFGSTAT_BITS 0) 8 true
    t.raise 16 0 4

/-- A restored vault: OPT and PCYC from the journal header when its contents were lost (R543); PCYC counts this DAWN
(R542); the outage ends and shows in SYS_OUTAGE (R59, R80); the dusk slot's record is written to the log (R536). -/
def State.dawnVault (s : State) : State :=
  let v := if s.vault.lost then { s.vault with opt := s.jnl.optCopy, pcyc := s.jnl.pcycCopy, lost := false } else s.vault
  let out := if v.outageUnknown then 2 ^ 40 - 1 else v.outage
  let v := { v with pcyc := min 16777215 (v.pcyc + 1), outageRun := false, deltaSince := false }
  let s := { s with vault := { v with duskSlot := none } }.setFld2 F.SYS_OUTAGE_LO_TICKS_LO F.SYS_OUTAGE_HI_TICKS_HI out
  match v.duskSlot with
  | some r => s.evlWrite r
  | none => s

/-- The setup-record copies that a power loss cut short, or that are damaged: their CHECK does not hold (R65, R66). -/
def State.spoilRecords (l : List (Nat × Nat)) (s : State) : State :=
  forL l (fun p s =>
    if p.2 = 0 then { s with boot := { s.boot with recA := tmod {} p.1 RecCopy.spoil s.boot.recA } }
    else { s with boot := { s.boot with recB := tmod {} p.1 RecCopy.spoil s.boot.recB } }) s

/-- Event-log slots whose CHECK fails on both devices count as empty; SEQ goes on from the highest valid record (R534, R536). -/
def State.dropSlots (l : List Nat) (s : State) : State :=
  if l.isEmpty then s
  else
    let t := s.evl.slots.filter fun p => !l.contains p.1
    { s with evl := { s.evl with slots := t, seq := t.foldl (fun q p => max q p.2.seq) 0 } }

/-- DAWN from its begin to the start of the program (R60): TBC counts from 0. Records of loop engines are applied once the
program is in their memories (assumption 18). -/
def State.dawnBegin (env : DawnEnv) (s : State) : State :=
  let s := (s.unpowered.spoilRecords env.recBad).dropSlots env.evlBad
  let s := { s with sys := { s.sys with dawn := some 0, dawnOk := env, supplies := true, vsen := true, overtemp := false } }
  let s := ((s.dawnVault.dawnClk env).dawnSec env.keyFails).dawnFirmware env
  let s := forN 4 (State.dawnDie env) s
  let s := match s.boot.cal with
    | some l => if env.calImageFails then s else s.calApply l
    | none => s
  let s := forN 2 (fun p s => s.setFlag (F.NET_STAT_LINK_UP p) (bitOf env.netUp p)) s
  let s := s.dawnJournal env
  let s := if env.selftestFails then s.raise 4 0 4 else s
  let s := forL ((List.range 55).filter fun id => id < 41 || 48 < id) State.recordApply s
  let s := s.dawnProgram env
  let s := forL ((List.range 8).map (41 + ·)) State.recordApply s
  let s := s.dawnConfig
  let s := forN 2 (fun p s => s.setFlag (F.NET_STAT_SPEED10G p) (bitOf env.netUp p && (s.fld (F.NET_CTRL_MODE p) % 3 == 0))) s
  let s := s.dawnIlm
  let s := forN 16 (fun k s => (s.setFlag (F.CL_STAT_REF_SETTLED k) false).modCluster k fun c => { c with settleAt := some (ms 6) }) s
  let s := if s.flag F.SYS_RSTPOL_DAWN_CAL && !env.calImageFails then
      forN 16 (fun k s => if s.dieDark (k / 4) then s else s.calRequest k) s else s
  forN 8 State.regionRefresh (forN 4 State.dieRefresh s)

/-- SUPPLIES_VALID: every package supply and VSEN are valid: DAWN begins (R60, R79). -/
def execSuppliesValid (env : DawnEnv) (s : State) : Out :=
  .next (if (s.mode = Mode.vault ∨ (s.mode = Mode.dawn ∧ s.sys.dawn.isNone)) ∧ !s.sys.overtemp then s.dawnBegin env else s)

/-- CORE_COOLED: after an overtemperature dusk the core die is below 100 °C with the supplies valid (R579). -/
def execCoreCooled (env : DawnEnv) (s : State) : Out :=
  .next (if s.mode = Mode.vault ∧ s.sys.overtemp then s.dawnBegin env else s)

/-! ### The restart decision (R82) -/

/-- Format version of the booted firmware, and the versions it accepts beside it. -/
def State.fwFormat (s : State) : Nat := (s.runningFw.map FwImage.format).getD 0
def State.fwAccepts (s : State) : List Nat := (s.runningFw.map FwImage.accepts).getD []

/-- The outage of this DAWN in vault ticks. -/
def State.outageTicks (s : State) : Nat := s.fld2 F.SYS_OUTAGE_LO_TICKS_LO F.SYS_OUTAGE_HI_TICKS_HI

/-- COLD_REASON of the first condition that fails, in the order of R82; none for a warm restart. -/
def State.coldReason (s : State) : Option Nat :=
  let max_ := s.fld F.SYS_RSTPOL_WARM_MAX
  if s.sys.firstDawn then some 7
  else if s.vault.restartCmd = 2 then some 0
  else if !s.flag F.SYS_RSTPOL_WARM_EN then some 1
  else if !s.flag F.JNL_STAT_CKPT_OK || !s.flag F.JNL_STAT_CHAIN_OK || s.vault.chainMark || s.jnl.image.isNone then some 2
  else if s.scan.program.map Program.hash ≠ some s.jnl.hash then some 3
  else if s.sys.fellBack then some 6
  else if (List.range 55).any (fun n => tget 0 s.jnl.gens n != tget 0 s.boot.applied n) then some 4
  else if max_ ≠ 0 ∧ max_ * 32768 < s.outageTicks then some 5
  else if s.jnl.format ≠ s.fwFormat ∧ !s.fwAccepts.contains s.jnl.format then some 8
  else none

/-! ### The warm state (R84 to R86) -/

/-- A journaled sequencer after an outage of `l` ms: what ran is resumed by its policy at the next entry of RUN or ENGINEER;
what was paused, or frozen in HOLD, stays so, its policy due when it goes on (R86, R323, R324). `later`: the device stays in
IDLE first, which the interruption counts. -/
def Seq.restored (l : Nat) (hold later : Bool) (q : Seq) : Seq :=
  let p := q.pos
  if p.st = Rs.running ∨ (p.st = Rs.frozen ∧ !hold) then
    { q with pos := { p with st := Rs.suspended, wasPaused := false, suspAt := if later then some 0 else none, resume := some (some l) } }
  else if p.st = Rs.frozen ∨ p.st = Rs.paused then { q with pos := { p with resume := some (some l) } }
  else if p.st = Rs.suspended then
    { q with pos := { p with suspAt := if later then some 0 else none, resume := some (some (l + (p.suspAt.getD 0) / 250000)) } }
  else q

/-- An axis takes its journaled position, remaining distance and stop state, whether or not it is enabled again yet; one that was
moving has lost its position. An enabled axis that was in FAULT is in FAULT again. -/
def State.axRestore (n : Nat) (a : AxisRec) (s : State) : State :=
  let s := (s.setAct n a.act).modAxis n fun x => { x with pos := a.act * stepU, target := a.act + a.rem }
  let s := (s.setFld48 (F.REM_L n) (F.REM_H n) a.rem).setFlag (F.AX_STAT_POS_LOST n) (a.posLost || a.moving)
  let s := s.setFld (F.AX_STAT_STOP_CAUSE n) a.cause
  (if s.axOn n && a.st == Ax.fault then s.setAxState Ax.fault n else s).axShow n

/-- The warm state goes into canvas, engine memories, sequencers, axes, fault sources and the interlock latches (R84, R85,
R386). -/
def State.warmApply (later : Bool) (s : State) : State :=
  let r := s.jnl.image.getD {}
  let l := s.outageTicks * 1000 / 32768
  let s := forL r.words (fun w s => s.setWord w.1 w.2) s
  let s := forL r.halves (fun h s => s.setHalf h.1 (BitVec.ofNat 16 h.2)) s
  let s := forL r.learns (fun g s => s.learnStop g 6) s
  let s := { s with seqs := tmap {} (fun _ q => q.restored l (s.jnl.lastMode == Mode.hold) later) r.seqs }
  let s := forL (s.seqs.map Prod.fst) State.seqShow s
  let s := forL r.axes (fun a s => s.axRestore a.1 a.2) s
  let s := forL r.srcs (fun x s => s.modSrc x.1 fun y =>
    { y with recov := x.2.recov, raises := x.2.raises, esc := x.2.esc, clears := x.2.clears }) s
  let s := { s with evl := { s.evl with drops := r.drops } }
  let s := forN 16 (fun k s => (s.setFld (ilmLatLoc 0 k) (tget 0 s.vault.latA k)).setFld (ilmLatLoc 1 k) (tget 0 s.vault.latB k)) s
  ({ s with jnl := { s.jnl with seen := r } }.forceStat).ilmEval

/-! ### The end of DAWN -/

/-- The mode that follows DAWN (R53, R61, R62, R67, R82, R519): LOCKOUT; IDLE after a failed self-test, without a program, when a
record fell back, or with a source of severity 3 or more uncleared; FOLLOW; the mode before the outage; or IDLE. -/
def State.dawnMode (s : State) (warm : Bool) : Nat :=
  let last := s.jnl.lastMode
  if s.fld F.SAFE_STAT_STATE = 1 then Mode.lockout
  else if s.sys.dawnOk.selftestFails || s.scan.program.isNone || s.sys.fellBack || s.sevPending 3 then Mode.idle
  else if s.fld F.PART_CTRL_ROLE = 2 ∧ s.flag F.PART_STAT_PARTNER then Mode.follow
  else if warm && s.flag F.SYS_RSTPOL_AUTO_RESUME && (last == Mode.run || last == Mode.hold || last == Mode.engineer) then last
  else Mode.idle

/-- KIND of SYS_RESTART (R59, R67): 2 warm, 1 cold, 3 a warm state kept while a record fell back, whichever condition failed
first. -/
def State.restartKind (s : State) (cold : Option Nat) : Nat :=
  match cold with
  | none => 2
  | some _ => if s.sys.fellBack && s.flag F.JNL_STAT_CHAIN_OK && s.jnl.image.isSome then 3 else 1

/-- SYS_RESTART takes the decision (R59, R82), and the log its records. -/
def State.restartShow (kind : Nat) (cold : Option Nat) (s : State) : State :=
  let s := (s.setFld F.SYS_RESTART_KIND kind).setFld F.SYS_RESTART_COLD_REASON (cold.getD 0)
  let s := (s.setFld F.SYS_RESTART_DISCARDED (min 65535 s.jnl.incomplete)).log .restartKind kind (cold.getD 0)
  if s.jnl.incomplete = 0 then s else s.log .discarded s.jnl.incomplete 0

/-- The journal goes on from the decision: a cold restart begins a new chain (R84, R583). -/
def State.restartJournal (kind : Nat) (s : State) : State :=
  let s := { s with jnl := { s.jnl with incomplete := 0, format := s.fwFormat }, sys := { s.sys with warmPending := kind == 3 } }
  if kind == 1 && s.flag F.JNL_CTRL_EN then s.newChain else s

/-- The restart decision takes effect. -/
def State.dawnDecide (cold : Option Nat) (s : State) : State :=
  (s.restartShow (s.restartKind cold) cold).restartJournal (s.restartKind cold)

/-- The end of DAWN: tamper flags are logged (R543), the recorder's rings go on (R407), the mode follows. -/
def State.dawnLeave (found : List (Nat × Nat × Nat × Nat)) (m : Nat) (s : State) : State :=
  let s := forL ((List.range 3).filter fun i => bitOf s.vault.tamp i) (fun i s => s.log .tamper i 0) s
  let s := s.recRecover found
  let s := s.setFld F.SYS_DAWN_TIME_DAWN_US (s.tbc / 250)
  let s := { s with vault := { s.vault with restartCmd := 0 } }
  let s := { s with sys := { s.sys with dawn := none } }
  s.changeMode m

/-- DAWN_COMPLETE: the restart is decided and applied, the sentinel starts, the device leaves DAWN (R60, R62, R82, R85,
R407). `found`: the last valid page of each recorder ring; `copies`, `selftest`: of the sentinel (R507, R512). -/
def execDawnComplete (found : List (Nat × Nat × Nat × Nat)) (copies selftest : Bool) (s : State) : Out :=
  .next (if s.mode ≠ Mode.dawn ∨ s.sys.dawn.isNone ∨ s.sys.noFirmware ∨ s.sys.dusk.isSome then s
    else
      let cold := s.coldReason
      let s := (s.dawnDecide cold).modSched fun u => { u with tested := if s.sys.dawnOk.selftestFails then [] else List.range 8 }
      let s := s.sentinelStart copies selftest
      let m := s.dawnMode cold.isNone
      let s := if cold.isNone then s.warmApply (m == Mode.idle) else s
      s.dawnLeave found m)

end Sys2Proof.Machine
end

