-- ==== Sys2Proof/Machine/Dispatch.lean ====
section
/-!
DEFINITION. The dispatch of a command to its meaning: one arm per row of spec/opcode_table.json.
-/

namespace Sys2Proof.Machine

/-- The effect of a command on everything but the queue of waiting commands. -/
def exec (i : Instr) (s : State) : Host.Outcome State Fault Refusal :=
  match i with
  | .registerWrite o off width v bad => Sys2Proof.Machine.execRegisterWrite o off width v bad s
  | .expertEnWrite o off v => Sys2Proof.Machine.execExpertEnWrite o off v s
  | .lpddrRangeAccess write a => Sys2Proof.Machine.execLpddrRangeAccess write a s
  | .unmappedAccess write a => Sys2Proof.Machine.execUnmappedAccess write a s
  | .fdWindowAccessComplete o d off write v => Sys2Proof.Machine.execFdWindowAccessComplete o d off write v s
  | .upstreamSampleBlock n crcOk => Sys2Proof.Machine.execUpstreamSampleBlock n crcOk s
  | .upstreamSenseBlock n crcOk => Sys2Proof.Machine.execUpstreamSenseBlock n crcOk s
  | .upstreamStatusBlock n crcOk => Sys2Proof.Machine.execUpstreamStatusBlock n crcOk s
  | .downstreamStepBlock n crcOk => Sys2Proof.Machine.execDownstreamStepBlock n crcOk s
  | .downstreamOutputBlock n crcOk => Sys2Proof.Machine.execDownstreamOutputBlock n crcOk s
  | .upstreamEscape n codeOk => Sys2Proof.Machine.execUpstreamEscape n codeOk s
  | .downstreamEscape n codeOk => Sys2Proof.Machine.execDownstreamEscape n codeOk s
  | .couplerClockLoss d => Sys2Proof.Machine.execCouplerClockLoss d s
  | .dieRestart o d key => Sys2Proof.Machine.execDieRestart o d key s
  | .dieTempMeasure d temp => Sys2Proof.Machine.execDieTempMeasure d temp s
  | .mainPllUnlock => Sys2Proof.Machine.execMainPllUnlock s
  | .serdesPllUnlock pll => Sys2Proof.Machine.execSerdesPllUnlock pll s
  | .clockCrosscheck n => Sys2Proof.Machine.execClockCrosscheck n s
  | .conversion n raw sns recovered => Sys2Proof.Machine.execConversion n raw sns recovered s
  | .sampleDelivery => Sys2Proof.Machine.execSampleDelivery s
  | .lgCtrlWrite o g v => Sys2Proof.Machine.execLgCtrlWrite o g v s
  | .lockGroupTick g => Sys2Proof.Machine.execLockGroupTick g s
  | .lockGroupTrigger g => Sys2Proof.Machine.execLockGroupTrigger g s
  | .chLgWrite o n v => Sys2Proof.Machine.execChLgWrite o n v s
  | .suppliesValid env => Sys2Proof.Machine.execSuppliesValid env s
  | .dawnComplete found copies selftest => Sys2Proof.Machine.execDawnComplete found copies selftest s
  | .setupRecordRepair id ok => Sys2Proof.Machine.execSetupRecordRepair id ok s
  | .run o key => Sys2Proof.Machine.execRun o key s
  | .hold o key => Sys2Proof.Machine.execHold o key s
  | .engineer o key => Sys2Proof.Machine.execEngineer o key s
  | .idle o key => Sys2Proof.Machine.execIdle o key s
  | .follow o key => Sys2Proof.Machine.execFollow o key s
  | .restartWarm o key => Sys2Proof.Machine.execRestartWarm o key s
  | .restartCold o key => Sys2Proof.Machine.execRestartCold o key s
  | .fwExchange o key => Sys2Proof.Machine.execFwExchange o key s
  | .fwCoreRejoin ok => Sys2Proof.Machine.execFwCoreRejoin ok s
  | .fwCommit o key => Sys2Proof.Machine.execFwCommit o key s
  | .fwAbort o key => Sys2Proof.Machine.execFwAbort o key s
  | .journalCycle => Sys2Proof.Machine.execJournalCycle s
  | .journalDeviceFail d => Sys2Proof.Machine.execJournalDeviceFail d s
  | .journalDeviceReturn d => Sys2Proof.Machine.execJournalDeviceReturn d s
  | .journalRebuildComplete => Sys2Proof.Machine.execJournalRebuildComplete s
  | .jnlEnWrite o v => Sys2Proof.Machine.execJnlEnWrite o v s
  | .pfailAssert => Sys2Proof.Machine.execPfailAssert s
  | .supplyFail => Sys2Proof.Machine.execSupplyFail s
  | .duskTaskDeadline => Sys2Proof.Machine.execDuskTaskDeadline s
  | .duskFinalDelta held => Sys2Proof.Machine.execDuskFinalDelta held s
  | .duskPowerFailState => Sys2Proof.Machine.execDuskPowerFailState s
  | .vaultEntry => Sys2Proof.Machine.execVaultEntry s
  | .heartbeatSend => Sys2Proof.Machine.execHeartbeatSend s
  | .heartbeatTimeout => Sys2Proof.Machine.execHeartbeatTimeout s
  | .dusk => Sys2Proof.Machine.execDusk s
  | .plnkDeltaReceive cycle leader words more => Sys2Proof.Machine.execPlnkDeltaReceive cycle leader words more s
  | .plnkSnapshotReceive task words => Sys2Proof.Machine.execPlnkSnapshotReceive task words s
  | .epochYield epoch => Sys2Proof.Machine.execEpochYield epoch s
  | .add c rd ra rb => Sys2Proof.Machine.execAdd c rd ra rb s
  | .sub c rd ra rb => Sys2Proof.Machine.execSub c rd ra rb s
  | .and c rd ra rb => Sys2Proof.Machine.execAnd c rd ra rb s
  | .or c rd ra rb => Sys2Proof.Machine.execOr c rd ra rb s
  | .xor c rd ra rb => Sys2Proof.Machine.execXor c rd ra rb s
  | .shl c rd ra rb => Sys2Proof.Machine.execShl c rd ra rb s
  | .shr c rd ra rb => Sys2Proof.Machine.execShr c rd ra rb s
  | .sra c rd ra rb => Sys2Proof.Machine.execSra c rd ra rb s
  | .slt c rd ra rb => Sys2Proof.Machine.execSlt c rd ra rb s
  | .sltu c rd ra rb => Sys2Proof.Machine.execSltu c rd ra rb s
  | .min c rd ra rb => Sys2Proof.Machine.execMin c rd ra rb s
  | .max c rd ra rb => Sys2Proof.Machine.execMax c rd ra rb s
  | .adds c rd ra rb => Sys2Proof.Machine.execAdds c rd ra rb s
  | .subs c rd ra rb => Sys2Proof.Machine.execSubs c rd ra rb s
  | .cmp c ra rb => Sys2Proof.Machine.execCmp c ra rb s
  | .tst c ra rb => Sys2Proof.Machine.execTst c ra rb s
  | .mul c rd ra rb => Sys2Proof.Machine.execMul c rd ra rb s
  | .mulh c rd ra rb => Sys2Proof.Machine.execMulh c rd ra rb s
  | .mulhu c rd ra rb => Sys2Proof.Machine.execMulhu c rd ra rb s
  | .div c rd ra rb => Sys2Proof.Machine.execDiv c rd ra rb s
  | .divu c rd ra rb => Sys2Proof.Machine.execDivu c rd ra rb s
  | .rem c rd ra rb => Sys2Proof.Machine.execRem c rd ra rb s
  | .remu c rd ra rb => Sys2Proof.Machine.execRemu c rd ra rb s
  | .mac c rd ra rb => Sys2Proof.Machine.execMac c rd ra rb s
  | .macs c rd ra rb => Sys2Proof.Machine.execMacs c rd ra rb s
  | .msu c rd ra rb => Sys2Proof.Machine.execMsu c rd ra rb s
  | .msus c rd ra rb => Sys2Proof.Machine.execMsus c rd ra rb s
  | .rnd c rd ra rb => Sys2Proof.Machine.execRnd c rd ra rb s
  | .rnds c rd ra rb => Sys2Proof.Machine.execRnds c rd ra rb s
  | .addD c rd ra rb => Sys2Proof.Machine.execAddD c rd ra rb s
  | .subD c rd ra rb => Sys2Proof.Machine.execSubD c rd ra rb s
  | .cmpD c ra rb => Sys2Proof.Machine.execCmpD c ra rb s
  | .addi c rd ra imm => Sys2Proof.Machine.execAddi c rd ra imm s
  | .andi c rd ra imm => Sys2Proof.Machine.execAndi c rd ra imm s
  | .ori c rd ra imm => Sys2Proof.Machine.execOri c rd ra imm s
  | .xori c rd ra imm => Sys2Proof.Machine.execXori c rd ra imm s
  | .lui c rd imm => Sys2Proof.Machine.execLui c rd imm s
  | .cmpi c ra imm => Sys2Proof.Machine.execCmpi c ra imm s
  | .shli c rd ra n => Sys2Proof.Machine.execShli c rd ra n s
  | .shri c rd ra n => Sys2Proof.Machine.execShri c rd ra n s
  | .srai c rd ra n => Sys2Proof.Machine.execSrai c rd ra n s
  | .sat c rd ra n => Sys2Proof.Machine.execSat c rd ra n s
  | .mfs c rd n => Sys2Proof.Machine.execMfs c rd n s
  | .mts c rd n => Sys2Proof.Machine.execMts c rd n s
  | .ld c rd base size disp seg => Sys2Proof.Machine.execLd c rd base size disp seg s
  | .ldu c rd base size disp seg => Sys2Proof.Machine.execLdu c rd base size disp seg s
  | .st c rs base size disp seg => Sys2Proof.Machine.execSt c rs base size disp seg s
  | .b c cond disp => Sys2Proof.Machine.execB c cond disp s
  | .bl c disp => Sys2Proof.Machine.execBl c disp s
  | .bz c r disp => Sys2Proof.Machine.execBz c r disp s
  | .bnz c r disp => Sys2Proof.Machine.execBnz c r disp s
  | .ldi c rd kind index => Sys2Proof.Machine.execLdi c rd kind index s
  | .sto c rs kind index => Sys2Proof.Machine.execSto c rs kind index s
  | .setf c rs index => Sys2Proof.Machine.execSetf c rs index s
  | .clrf c rs index => Sys2Proof.Machine.execClrf c rs index s
  | .edgr c rd ra rb => Sys2Proof.Machine.execEdgr c rd ra rb s
  | .edgf c rd ra rb => Sys2Proof.Machine.execEdgf c rd ra rb s
  | .ton c rd ra rb => Sys2Proof.Machine.execTon c rd ra rb s
  | .tof c rd ra rb => Sys2Proof.Machine.execTof c rd ra rb s
  | .tp c rd ra rb => Sys2Proof.Machine.execTp c rd ra rb s
  | .ctu c rd ra rb => Sys2Proof.Machine.execCtu c rd ra rb s
  | .ctd c rd ra rb => Sys2Proof.Machine.execCtd c rd ra rb s
  | .evt c rd ra rb => Sys2Proof.Machine.execEvt c rd ra rb s
  | .wft c rd ra rb => Sys2Proof.Machine.execWft c rd ra rb s
  | .wftReturn c => Sys2Proof.Machine.execWftReturn c s
  | .cas c rd ra rb seg => Sys2Proof.Machine.execCas c rd ra rb seg s
  | .amoadd c rd ra rb seg => Sys2Proof.Machine.execAmoadd c rd ra rb seg s
  | .fence c => Sys2Proof.Machine.execFence c s
  | .fenceI c => Sys2Proof.Machine.execFenceI c s
  | .jr c ra => Sys2Proof.Machine.execJr c ra s
  | .jalr c rd ra => Sys2Proof.Machine.execJalr c rd ra s
  | .trap c n => Sys2Proof.Machine.execTrap c n s
  | .bkpt c => Sys2Proof.Machine.execBkpt c s
  | .eret c => Sys2Proof.Machine.execEret c s
  | .lNop e b => Sys2Proof.Machine.execLNop e b s
  | .lMac e b => Sys2Proof.Machine.execLMac e b s
  | .lMsu e b => Sys2Proof.Machine.execLMsu e b s
  | .lMpy e b => Sys2Proof.Machine.execLMpy e b s
  | .lAdd e b => Sys2Proof.Machine.execLAdd e b s
  | .lSub e b => Sys2Proof.Machine.execLSub e b s
  | .lLda e b => Sys2Proof.Machine.execLLda e b s
  | .lRnd e b => Sys2Proof.Machine.execLRnd e b s
  | .lShl e b => Sys2Proof.Machine.execLShl e b s
  | .lShr e b => Sys2Proof.Machine.execLShr e b s
  | .lClip e b => Sys2Proof.Machine.execLClip e b s
  | .lAbs e b => Sys2Proof.Machine.execLAbs e b s
  | .lNeg e b => Sys2Proof.Machine.execLNeg e b s
  | .lAcc e b => Sys2Proof.Machine.execLAcc e b s
  | .lSum e b => Sys2Proof.Machine.execLSum e b s
  | .lMovd e b => Sys2Proof.Machine.execLMovd e b s
  | .lRep e src count len => Sys2Proof.Machine.execLRep e src count len s
  | .lBrl e cond ad disp => Sys2Proof.Machine.execLBrl e cond ad disp s
  | .lAct e => Sys2Proof.Machine.execLAct e s
  | .lLdx e ix v => Sys2Proof.Machine.execLLdx e ix v s
  | .lCfx e ix bc mode step len => Sys2Proof.Machine.execLCfx e ix bc mode step len s
  | .lLdlc e v => Sys2Proof.Machine.execLLdlc e v s
  | .lSetlm e m => Sys2Proof.Machine.execLSetlm e m s
  | .lLdmp e v => Sys2Proof.Machine.execLLdmp e v s
  | .lMovi e d v => Sys2Proof.Machine.execLMovi e d v s
  | .lClra e ad => Sys2Proof.Machine.execLClra e ad s
  | .lClrs e => Sys2Proof.Machine.execLClrs e s
  | .dispatcherTick => Sys2Proof.Machine.execDispatcherTick s
  | .coreClaim => Sys2Proof.Machine.execCoreClaim s
  | .affinityWaitExpiry => Sys2Proof.Machine.execAffinityWaitExpiry s
  | .schedGrpack o v => Sys2Proof.Machine.execSchedGrpack o v s
  | .taskEnd c => Sys2Proof.Machine.execTaskEnd c s
  | .watchdog c => Sys2Proof.Machine.execWatchdog c s
  | .setIn o key kind => Sys2Proof.Machine.execSetIn o key kind s
  | .setOut o key kind => Sys2Proof.Machine.execSetOut o key kind s
  | .clearIn o key kind => Sys2Proof.Machine.execClearIn o key kind s
  | .clearOut o key kind => Sys2Proof.Machine.execClearOut o key kind s
  | .clearAll o key => Sys2Proof.Machine.execClearAll o key s
  | .taskResume o key t => Sys2Proof.Machine.execTaskResume o key t s
  | .taskDisable o key t => Sys2Proof.Machine.execTaskDisable o key t s
  | .taskEnable o key t => Sys2Proof.Machine.execTaskEnable o key t s
  | .loadImage i1 seq tagOk kind offset total len body => Sys2Proof.Machine.execLoadImage i1 seq tagOk kind offset total len body s
  | .verificationComplete v => Sys2Proof.Machine.execVerificationComplete v s
  | .arm o key => Sys2Proof.Machine.execArm o key s
  | .exchangeSwitch => Sys2Proof.Machine.execExchangeSwitch s
  | .exchangeRelease => Sys2Proof.Machine.execExchangeRelease s
  | .exchangeTimeout => Sys2Proof.Machine.execExchangeTimeout s
  | .commit o key => Sys2Proof.Machine.execCommit o key s
  | .revert o key => Sys2Proof.Machine.execRevert o key s
  | .discard o key => Sys2Proof.Machine.execDiscard o key s
  | .rangeChange o n v => Sys2Proof.Machine.execRangeChange o n v s
  | .rangeSettled n => Sys2Proof.Machine.execRangeSettled n s
  | .refselWrite o k v => Sys2Proof.Machine.execRefselWrite o k v s
  | .refSettled k => Sys2Proof.Machine.execRefSettled k s
  | .refMonitor k uV => Sys2Proof.Machine.execRefMonitor k uV s
  | .cal o k v => Sys2Proof.Machine.execCal o k v s
  | .calibrationStart k => Sys2Proof.Machine.execCalibrationStart k s
  | .rollCalibrationStart d => Sys2Proof.Machine.execRollCalibrationStart d s
  | .calibrationComplete k factors => Sys2Proof.Machine.execCalibrationComplete k factors s
  | .aoutRangeChange o n v => Sys2Proof.Machine.execAoutRangeChange o n v s
  | .aoutRangeSettled n => Sys2Proof.Machine.execAoutRangeSettled n s
  | .aoutUpdate n => Sys2Proof.Machine.execAoutUpdate n s
  | .aoutDiagnosis n opened => Sys2Proof.Machine.execAoutDiagnosis n opened s
  | .certBegin o d key => Sys2Proof.Machine.execCertBegin o d key s
  | .certPoint o d key => Sys2Proof.Machine.execCertPoint o d key s
  | .certPointComplete d measured => Sys2Proof.Machine.execCertPointComplete d measured s
  | .certEnd o d key => Sys2Proof.Machine.execCertEnd o d key s
  | .certAbort o d key => Sys2Proof.Machine.execCertAbort o d key s
  | .activationReady g => Sys2Proof.Machine.execActivationReady g s
  | .activationStart e => Sys2Proof.Machine.execActivationStart e s
  | .activationEnd e => Sys2Proof.Machine.execActivationEnd e s
  | .scrubRead e off => Sys2Proof.Machine.execScrubRead e off s
  | .leFabricWrite o e off size v => Sys2Proof.Machine.execLeFabricWrite o e off size v s
  | .slotEnable o g v => Sys2Proof.Machine.execSlotEnable o g v s
  | .slotDisable o g v => Sys2Proof.Machine.execSlotDisable o g v s
  | .leImpcfgWrite o e k v => Sys2Proof.Machine.execLeImpcfgWrite o e k v s
  | .lePalreqWrite o e m v => Sys2Proof.Machine.execLePalreqWrite o e m v s
  | .lePalgrpWrite o e v => Sys2Proof.Machine.execLePalgrpWrite o e v s
  | .learnStart o g cogging => Sys2Proof.Machine.execLearnStart o g cogging s
  | .learnEnd o g => Sys2Proof.Machine.execLearnEnd o g s
  | .learnAbort o g => Sys2Proof.Machine.execLearnAbort o g s
  | .restore o g => Sys2Proof.Machine.execRestore o g s
  | .clrSticky o g => Sys2Proof.Machine.execClrSticky o g s
  | .rcpPrepare n => Sys2Proof.Machine.execRcpPrepare n s
  | .rcpTick n => Sys2Proof.Machine.execRcpTick n s
  | .rcpStart o n key => Sys2Proof.Machine.execRcpStart o n key s
  | .rcpStop o n key => Sys2Proof.Machine.execRcpStop o n key s
  | .pause o n key => Sys2Proof.Machine.execPause o n key s
  | .release o n key => Sys2Proof.Machine.execRelease o n key s
  | .jump o n key => Sys2Proof.Machine.execJump o n key s
  | .plannerUpdate => Sys2Proof.Machine.execPlannerUpdate s
  | .go o n key => Sys2Proof.Machine.execGo o n key s
  | .goRel o n key => Sys2Proof.Machine.execGoRel o n key s
  | .axStop o n key => Sys2Proof.Machine.execAxStop o n key s
  | .estop o n key => Sys2Proof.Machine.execEstop o n key s
  | .axResume o n key => Sys2Proof.Machine.execAxResume o n key s
  | .setpos o n key => Sys2Proof.Machine.execSetpos o n key s
  | .axClear o n key => Sys2Proof.Machine.execAxClear o n key s
  | .axisEnable o n v => Sys2Proof.Machine.execAxisEnable o n v s
  | .axisDisable o n v => Sys2Proof.Machine.execAxisDisable o n v s
  | .stepMismatch n pad => Sys2Proof.Machine.execStepMismatch n pad s
  | .stallEstimate n => Sys2Proof.Machine.execStallEstimate n s
  | .qencEnWrite o n v => Sys2Proof.Machine.execQencEnWrite o n v s
  | .qerr n => Sys2Proof.Machine.execQerr n s
  | .fioDirWrite o n v => Sys2Proof.Machine.execFioDirWrite o n v s
  | .debWrite o n v => Sys2Proof.Machine.execDebWrite o n v s
  | .debounceExpiry n => Sys2Proof.Machine.execDebounceExpiry n s
  | .maxactWrite o n v => Sys2Proof.Machine.execMaxactWrite o n v s
  | .maxactExpiry n => Sys2Proof.Machine.execMaxactExpiry n s
  | .switchThermalTrip n => Sys2Proof.Machine.execSwitchThermalTrip n s
  | .switchCooled n => Sys2Proof.Machine.execSwitchCooled n s
  | .overcurrentQualified n present => Sys2Proof.Machine.execOvercurrentQualified n present s
  | .vfldMissing r => Sys2Proof.Machine.execVfldMissing r s
  | .vfldPresent r => Sys2Proof.Machine.execVfldPresent r s
  | .isumMeasure r sum => Sys2Proof.Machine.execIsumMeasure r sum s
  | .regionRestart o r v => Sys2Proof.Machine.execRegionRestart o r v s
  | .ilmInputChange i1 level => Sys2Proof.Machine.execIlmInputChange i1 level s
  | .ilmFilterExpiry i1 => Sys2Proof.Machine.execIlmFilterExpiry i1 s
  | .ilmTermWrite o set t w v => Sys2Proof.Machine.execIlmTermWrite o set t w v s
  | .load o key => Sys2Proof.Machine.execLoad o key s
  | .swap o key => Sys2Proof.Machine.execSwap o key s
  | .swapApply => Sys2Proof.Machine.execSwapApply s
  | .swapOverlapEnd => Sys2Proof.Machine.execSwapOverlapEnd s
  | .clearLatch o key => Sys2Proof.Machine.execClearLatch o key s
  | .ilmClearAll o key => Sys2Proof.Machine.execIlmClearAll o key s
  | .cbRead a => Sys2Proof.Machine.execCbRead a s
  | .cbWrite a v idle => Sys2Proof.Machine.execCbWrite a v idle s
  | .cbFifoApply => Sys2Proof.Machine.execCbFifoApply s
  | .streamEnable o m v => Sys2Proof.Machine.execStreamEnable o m v s
  | .blockClose m => Sys2Proof.Machine.execBlockClose m s
  | .pageClose u => Sys2Proof.Machine.execPageClose u s
  | .streamResume => Sys2Proof.Machine.execStreamResume s
  | .decimationStep => Sys2Proof.Machine.execDecimationStep s
  | .decimationUndo => Sys2Proof.Machine.execDecimationUndo s
  | .nvmeBringup linkUp gen4 speedOk lanes drive => Sys2Proof.Machine.execNvmeBringup linkUp gen4 speedOk lanes drive s
  | .nvmeWriteComplete u ok => Sys2Proof.Machine.execNvmeWriteComplete u ok s
  | .nvmeFlush u => Sys2Proof.Machine.execNvmeFlush u s
  | .retry o key => Sys2Proof.Machine.execRetry o key s
  | .unitArm o u key => Sys2Proof.Machine.execUnitArm o u key s
  | .unitStop o u key => Sys2Proof.Machine.execUnitStop o u key s
  | .force o u key => Sys2Proof.Machine.execForce o u key s
  | .unitClear o u key => Sys2Proof.Machine.execUnitClear o u key s
  | .triggerEvaluation u edges => Sys2Proof.Machine.execTriggerEvaluation u edges s
  | .autoTimeout u => Sys2Proof.Machine.execAutoTimeout u s
  | .recordCopyComplete u => Sys2Proof.Machine.execRecordCopyComplete u s
  | .holdoffExpiry u => Sys2Proof.Machine.execHoldoffExpiry u s
  | .triggerOutputEnd u => Sys2Proof.Machine.execTriggerOutputEnd u s
  | .domainUpdate o d v => Sys2Proof.Machine.execDomainUpdate o d v s
  | .domainUpdateCommit d => Sys2Proof.Machine.execDomainUpdateCommit d s
  | .sync d master seq log twoStep t1 corr frac => Sys2Proof.Machine.execSync d master seq log twoStep t1 corr frac s
  | .announce d master rank timeout utcOfs => Sys2Proof.Machine.execAnnounce d master rank timeout utcOfs s
  | .pdelayReq d seq => Sys2Proof.Machine.execPdelayReq d seq s
  | .delayReqSend d => Sys2Proof.Machine.execDelayReqSend d s
  | .syncTimeout d => Sys2Proof.Machine.execSyncTimeout d s
  | .holdoverExpiry d => Sys2Proof.Machine.execHoldoverExpiry d s
  | .revertExpiry => Sys2Proof.Machine.execRevertExpiry s
  | .snap o key => Sys2Proof.Machine.execSnap o key s
  | .select o key d => Sys2Proof.Machine.execSelect o key d s
  | .accept o key d => Sys2Proof.Machine.execAccept o key d s
  | .dismiss o key d => Sys2Proof.Machine.execDismiss o key d s
  | .tdcCalibration => Sys2Proof.Machine.execTdcCalibration s
  | .tsoEnable o t v => Sys2Proof.Machine.execTsoEnable o t v s
  | .tsoPulse t => Sys2Proof.Machine.execTsoPulse t s
  | .tsoPulseEnd t => Sys2Proof.Machine.execTsoPulseEnd t s
  | .linkStart o n v => Sys2Proof.Machine.execLinkStart o n v s
  | .measureComplete n tx rx times => Sys2Proof.Machine.execMeasureComplete n tx rx times s
  | .outputImageTake n => Sys2Proof.Machine.execOutputImageTake n s
  | .frameTransmit n => Sys2Proof.Machine.execFrameTransmit n s
  | .frameReceive port fcsOk f => Sys2Proof.Machine.execFrameReceive port fcsOk f s
  | .inputPublish n => Sys2Proof.Machine.execInputPublish n s
  | .mailboxRequest o n v => Sys2Proof.Machine.execMailboxRequest o n v s
  | .mailboxComplete n => Sys2Proof.Machine.execMailboxComplete n s
  | .read i1 seq tagOk handles => Sys2Proof.Machine.execRead i1 seq tagOk handles s
  | .write i1 seq tagOk pairs => Sys2Proof.Machine.execWrite i1 seq tagOk pairs s
  | .subscribe i1 seq tagOk id period handles => Sys2Proof.Machine.execSubscribe i1 seq tagOk id period handles s
  | .notify i1 id => Sys2Proof.Machine.execNotify i1 id s
  | .mode i1 seq tagOk code => Sys2Proof.Machine.execMode i1 seq tagOk code s
  | .traceStart i1 seq tagOk u => Sys2Proof.Machine.execTraceStart i1 seq tagOk u s
  | .traceStop i1 seq tagOk u => Sys2Proof.Machine.execTraceStop i1 seq tagOk u s
  | .traceAck i1 seq tagOk u page => Sys2Proof.Machine.execTraceAck i1 seq tagOk u page s
  | .traceRetransmit u => Sys2Proof.Machine.execTraceRetransmit u s
  | .regRead i1 seq tagOk addrs => Sys2Proof.Machine.execRegRead i1 seq tagOk addrs s
  | .regWrite i1 seq tagOk pairs => Sys2Proof.Machine.execRegWrite i1 seq tagOk pairs s
  | .hello role => Sys2Proof.Machine.execHello role s
  | .finish i1 table sigOk tagOk => Sys2Proof.Machine.execFinish i1 table sigOk tagOk s
  | .handshakeLapse i1 => Sys2Proof.Machine.execHandshakeLapse i1 s
  | .sessionIdleClose i1 => Sys2Proof.Machine.execSessionIdleClose i1 s
  | .gapclose i1 => Sys2Proof.Machine.execGapclose i1 s
  | .canFrameReceive n f => Sys2Proof.Machine.execCanFrameReceive n f s
  | .canPeriodic n m => Sys2Proof.Machine.execCanPeriodic n m s
  | .txreq o n m v => Sys2Proof.Machine.execTxreq o n m v s
  | .canTxComplete n code => Sys2Proof.Machine.execCanTxComplete n code s
  | .bor o n key => Sys2Proof.Machine.execBor o n key s
  | .borComplete n => Sys2Proof.Machine.execBorComplete n s
  | .cansupRecovery n => Sys2Proof.Machine.execCansupRecovery n s
  | .abdStart o n key => Sys2Proof.Machine.execAbdStart o n key s
  | .abdStop o n key => Sys2Proof.Machine.execAbdStop o n key s
  | .abdTimeout n => Sys2Proof.Machine.execAbdTimeout n s
  | .opmodeWrite o n v => Sys2Proof.Machine.execOpmodeWrite o n v s
  | .pop o n v => Sys2Proof.Machine.execPop o n v s
  | .fifoRdWrite o n v => Sys2Proof.Machine.execFifoRdWrite o n v s
  | .sentinelEvaluation sinA sinB => Sys2Proof.Machine.execSentinelEvaluation sinA sinB s
  | .discrepancyExpiry n => Sys2Proof.Machine.execDiscrepancyExpiry n s
  | .readbackMismatch n => Sys2Proof.Machine.execReadbackMismatch n s
  | .testPulse n => Sys2Proof.Machine.execTestPulse n s
  | .testPulseEnd p l back => Sys2Proof.Machine.execTestPulseEnd p l back s
  | .safeReqWrite o v => Sys2Proof.Machine.execSafeReqWrite o v s
  | .coreReport padP padN => Sys2Proof.Machine.execCoreReport padP padN s
  | .coreSilent => Sys2Proof.Machine.execCoreSilent s
  | .deliberateReset skew held release selftest => Sys2Proof.Machine.execDeliberateReset skew held release selftest s
  | .pendingAreaWrite o w v => Sys2Proof.Machine.execPendingAreaWrite o w v s
  | .safeConfirm o v => Sys2Proof.Machine.execSafeConfirm o v s
  | .confirmWindowExpiry => Sys2Proof.Machine.execConfirmWindowExpiry s
  | .bhtStart o key n => Sys2Proof.Machine.execBhtStart o key n s
  | .bhtPhaseEnd => Sys2Proof.Machine.execBhtPhaseEnd s
  | .bhtAbort o key n => Sys2Proof.Machine.execBhtAbort o key n s
  | .pendClear o key n => Sys2Proof.Machine.execPendClear o key n s
  | .bhtDueExpiry n => Sys2Proof.Machine.execBhtDueExpiry n s
  | .bhtGraceExpiry n => Sys2Proof.Machine.execBhtGraceExpiry n s
  | .vsenFault => Sys2Proof.Machine.execVsenFault s
  | .faultRaise src unit named cond => Sys2Proof.Machine.execFaultRaise src unit named cond s
  | .quietExpiry n => Sys2Proof.Machine.execQuietExpiry n s
  | .sevWrite o n v => Sys2Proof.Machine.execSevWrite o n v s
  | .fltClear o key => Sys2Proof.Machine.execFltClear o key s
  | .fltClearAll o key => Sys2Proof.Machine.execFltClearAll o key s
  | .raise o key => Sys2Proof.Machine.execRaise o key s
  | .inject o key => Sys2Proof.Machine.execInject o key s
  | .injectionLapse => Sys2Proof.Machine.execInjectionLapse s
  | .lockstepMismatch c => Sys2Proof.Machine.execLockstepMismatch c s
  | .coreRejoin c ok => Sys2Proof.Machine.execCoreRejoin c ok s
  | .tokenRefill c => Sys2Proof.Machine.execTokenRefill c s
  | .evlWrite o key wcode => Sys2Proof.Machine.execEvlWrite o key wcode s
  | .clearLog o key => Sys2Proof.Machine.execClearLog o key s
  | .evlRdselWrite o v => Sys2Proof.Machine.execEvlRdselWrite o v s
  | .evlCodeWrite o c v => Sys2Proof.Machine.execEvlCodeWrite o c v s
  | .clearTamp o key => Sys2Proof.Machine.execClearTamp o key s
  | .vbatLost => Sys2Proof.Machine.execVbatLost s
  | .xtalStop => Sys2Proof.Machine.execXtalStop s
  | .caseOpen low => Sys2Proof.Machine.execCaseOpen low s
  | .attest o key => Sys2Proof.Machine.execAttest o key s
  | .revoke o key n => Sys2Proof.Machine.execRevoke o key n s
  | .viso5Fail d => Sys2Proof.Machine.execViso5Fail d s
  | .viso5Return d lo hi => Sys2Proof.Machine.execViso5Return d lo hi s
  | .coreOvertemp => Sys2Proof.Machine.execCoreOvertemp s
  | .couplerClockReturn d => Sys2Proof.Machine.execCouplerClockReturn d s
  | .stepGeneratorCrossing n => Sys2Proof.Machine.execStepGeneratorCrossing n s
  | .canBusError n code eight => Sys2Proof.Machine.execCanBusError n code eight s
  | .canBusIntegration n => Sys2Proof.Machine.execCanBusIntegration n s
  | .netLinkLoss p => Sys2Proof.Machine.execNetLinkLoss p s
  | .plnkLinkLoss => Sys2Proof.Machine.execPlnkLinkLoss s
  | .heartbeatReceive epoch image => Sys2Proof.Machine.execHeartbeatReceive epoch image s
  | .followUp d master seq t1 corr => Sys2Proof.Machine.execFollowUp d master seq t1 corr s
  | .delayResp d master seq t4 corr => Sys2Proof.Machine.execDelayResp d master seq t4 corr s
  | .pdelayResp d seq turn frac => Sys2Proof.Machine.execPdelayResp d seq turn frac s
  | .arpRequest p ip => Sys2Proof.Machine.execArpRequest p ip s
  | .icmpEchoRequest p ip => Sys2Proof.Machine.execIcmpEchoRequest p ip s
  | .coreCooled env => Sys2Proof.Machine.execCoreCooled env s
  | .memoryScrubRead a => Sys2Proof.Machine.execMemoryScrubRead a s
  | .illegalEncoding c w => Sys2Proof.Machine.execIllegalEncoding c w s
  | .undefBundle f => Sys2Proof.Machine.execUndefBundle f s

end Sys2Proof.Machine
end

