-- ==== Sys2Proof/Machine/Step.lean ====
section
/-!
DEFINITION. One step of the block: the command at the front of the queue, or one TBC count on an empty queue.
-/

set_option Elab.async false

namespace Sys2Proof.Machine

/-- The state with its front command replaced by the rest of the queue. -/
def State.withPending (q : List Instr) (s : State) : State := { s with pending := q }

/-- A step: the front command acts on the state that holds the queue's rest; on an empty queue 4 ns pass
(assumption 5). -/
def step (s : State) : Host.Outcome State Fault Refusal :=
  match s.pending with
  | [] => .next s.tick
  | c :: q => exec c (s.withPending q)

/-- The state with the command that a word spells put in front of the queue. No row of spec/opcode_table.json gives
bits, so no word spells a command (assumption 6). -/
def State.withFetchWord (s : State) (nbits w : Nat) : State :=
  match Sys2Proof.decodeTableWord nbits w with
  | some c => s.withPending (c :: s.pending)
  | none => s

end Sys2Proof.Machine
end

