-- ==== Sys2Proof/Safety.lean ====
section
/-!
DEFINITION. What counts as a good state and as an untouched part of it, in the terms that statements use: the
parts of the state, what it means that a command leaves a part as it was, the canonical form of the register file, and
what fuses never lose.
-/

set_option Elab.async false

namespace Sys2Proof.Machine

/-- The blocks of the register map (R48); `none` for an address that no block holds. -/
inductive Block where
  | sys
  | clk
  | sec
  | flt
  | evl
  | sched
  | jnl
  | time
  | ilm
  | cbus
  | part
  | safe
  | recorder
  | rcp
  | host
  | net
  | pcie
  | can
  | sl
  | le
  | pp
  | mot
  | fd
  | none
deriving DecidableEq, Repr

/-- The block whose range an address is in (R48). -/
def blockOf (a : Nat) : Block :=
  if a < 0xF0000000 then .none
  else if a < 0xF0010000 then .sys
  else if a < 0xF0020000 then .clk
  else if a < 0xF0030000 then .sec
  else if a < 0xF0040000 then .flt
  else if a < 0xF0050000 then .evl
  else if a < 0xF0060000 then .sched
  else if a < 0xF0070000 then .jnl
  else if a < 0xF0080000 then .time
  else if a < 0xF0090000 then .ilm
  else if a < 0xF00A0000 then .cbus
  else if a < 0xF00B0000 then .part
  else if a < 0xF00C0000 then .safe
  else if a < 0xF00D0000 then .recorder
  else if a < 0xF00E0000 then .rcp
  else if a < 0xF0100000 then .host
  else if a < 0xF0120000 then .net
  else if a < 0xF0200000 then .pcie
  else if a < 0xF0300000 then .can
  else if a < 0xF0400000 then .sl
  else if a < 0xF0500000 then .le
  else if a < 0xF0510000 then .pp
  else if a < 0xF0600000 then .mot
  else if a < 0xF0700000 then .fd
  else .none

/-- The parts of the state: its components by name, and the registers of one block. -/
inductive Part where
  | pending
  | tbc
  | mem
  | free
  | rdata
  | time
  | flt
  | evl
  | vault
  | sched
  | scan
  | boot
  | jnl
  | sys
  | part
  | fw
  | safe
  | cores
  | out
  | lgs
  | chans
  | clusters
  | dies
  | regions
  | ilm
  | axes
  | engines
  | slots
  | seqs
  | recu
  | cans
  | cbus
  | sessions
  | secu
  | links
  | copies
  | outbox
  | regs (b : Block)
deriving DecidableEq, Repr

/-- The part is the same in `t` as in `s`. Memory is compared byte by byte, a block register by register. -/
def Part.same (s t : State) : Part → Prop
  | .pending => t.pending = s.pending
  | .tbc => t.tbc = s.tbc
  | .mem => ∀ a, t.byte a = s.byte a
  | .free => t.free = s.free
  | .rdata => t.rdata = s.rdata
  | .time => t.time = s.time
  | .flt => t.flt = s.flt
  | .evl => t.evl = s.evl
  | .vault => t.vault = s.vault
  | .sched => t.sched = s.sched
  | .scan => t.scan = s.scan
  | .boot => t.boot = s.boot
  | .jnl => t.jnl = s.jnl
  | .sys => t.sys = s.sys
  | .part => t.part = s.part
  | .fw => t.fw = s.fw
  | .safe => t.safe = s.safe
  | .cores => t.cores = s.cores
  | .out => t.out = s.out
  | .lgs => t.lgs = s.lgs
  | .chans => t.chans = s.chans
  | .clusters => t.clusters = s.clusters
  | .dies => t.dies = s.dies
  | .regions => t.regions = s.regions
  | .ilm => t.ilm = s.ilm
  | .axes => t.axes = s.axes
  | .engines => t.engines = s.engines
  | .slots => t.slots = s.slots
  | .seqs => t.seqs = s.seqs
  | .recu => t.recu = s.recu
  | .cans => t.cans = s.cans
  | .cbus => t.cbus = s.cbus
  | .sessions => t.sessions = s.sessions
  | .secu => t.secu = s.secu
  | .links => t.links = s.links
  | .copies => t.copies = s.copies
  | .outbox => t.outbox = s.outbox
  | .regs b => ∀ a, blockOf a = b → t.reg a = s.reg a

/-- Every part but those listed is the same in `t` as in `s`. -/
def SameBut (l : List Part) (s t : State) : Prop := ∀ p : Part, p ∉ l → p.same s t

/-- The canonical form of the register file: addresses strictly rising, no entry equal to its reset value. -/
def Registers.wf : Tbl Word → Bool
  | [] => true
  | [(a, v)] => v != regReset a
  | (a, v) :: (b, w) :: t => v != regReset a && a < b && Registers.wf ((b, w) :: t)

/-- Memory and register file are in canonical form: equal contents are equal data. -/
def State.Canonical (s : State) : Prop := Memory.wf s.mem = true ∧ Registers.wf s.regs = true

/-- What fuses never lose (R549 to R553): a programmed slot stays programmed, a revoked one revoked, an anti-rollback
counter never falls, the identity key stays. -/
def FusesKept (s t : State) : Prop :=
  (∀ n, bitOf s.secu.programmed n = true → bitOf t.secu.programmed n = true) ∧
  (∀ n, bitOf s.secu.revoked n = true → bitOf t.secu.revoked n = true) ∧
  (∀ c, tget 0 s.secu.arb c ≤ tget 0 t.secu.arb c) ∧
  (s.secu.identity = true → t.secu.identity = true)

/-! ### The form of the statements -/

/-- The command answers a next state, and that state satisfies `P`. -/
def Completes (i : Instr) (s : State) (P : State → Prop) : Prop :=
  ∃ t, Sys2Proof.Machine.exec i s = .next t ∧ P t

/-- Core `c` executes its next instruction: nothing holds it, and the word at PC has no uncorrectable error. -/
def CoreReady (s : State) (c : Fin 8) : Prop :=
  s.coreRuns c = true ∧ s.eccBad (s.core c).pc.toNat 4 = false

/-- What an instruction that acts on its core alone leaves: each register holds what `w` gives for it, or what it held
(W0 reads 0), FL and PC are `fl` and `pc`, and nothing else of the core, no other core and no other part has changed. -/
def CoreDone (c : Fin 8) (w : BitVec 5 → Option Word) (fl pc : Word) (s t : State) : Prop :=
  (∀ r : BitVec 5, (t.core c).reg r.toNat = if r = 0 then 0 else (w r).getD ((s.core c).reg r.toNat)) ∧
  t.core c = { s.core c with w := (t.core c).w, fl := fl, pc := pc } ∧
  (∀ d : Nat, d ≠ c.val → t.core d = s.core d) ∧
  SameBut [.cores] s t

/-- No register is written. -/
def noReg : BitVec 5 → Option Word := fun _ => none

/-- Register `rd` is written. -/
def oneReg (rd : BitVec 5) (v : Word) : BitVec 5 → Option Word := fun r => if r = rd then some v else none

/-- The pair `rd`, `rd` + 1 is written: the even register holds bits 31..0. -/
def pairReg (rd : BitVec 5) (v : BitVec 64) : BitVec 5 → Option Word := fun r =>
  if r = rd then some (v.setWidth 32) else if r = rd + 1 then some ((v >>> 32).setWidth 32) else none

/-- The value of register `r` of core `c`. -/
def State.wreg (s : State) (c : Fin 8) (r : BitVec 5) : Word := (s.core c).reg r.toNat

/-- The value of the pair at `r`. -/
def State.wpair (s : State) (c : Fin 8) (r : BitVec 5) : BitVec 64 := (s.core c).pair r.toNat

/-- Z, N, C and V of FL are those of the difference a − b: zero, sign, no borrow, signed overflow; the other bits are
those of `fl`. -/
def ComparedFlags {w : Nat} (fl fl' : Word) (a b : BitVec w) : Prop :=
  fl' &&& 0xFFFFFFF0 = fl &&& 0xFFFFFFF0 ∧
  fl'.getLsbD 0 = decide (a = b) ∧ fl'.getLsbD 1 = (a - b).msb ∧ fl'.getLsbD 2 = decide (b.toNat ≤ a.toNat) ∧
  fl'.getLsbD 3 = decide ((a - b).toInt ≠ a.toInt - b.toInt)

/-- The integer of `w` signed bits nearest to `i`. -/
def nearest (w : Nat) (i : Int) : Int := max (-(2 ^ (w - 1))) (min (2 ^ (w - 1) - 1) i)

/-- FL after a saturating instruction with exact result `i`: SAT set if `w` signed bits do not hold it. -/
def satFlags (fl : Word) (w : Nat) (i : Int) : Word := if nearest w i = i then fl else fl ||| 0x10

/-- What exception entry leaves on core `c` (R142): ESTAT, P, EPC, ECAUSE, EVAL and PC. -/
def Entered (c : Fin 8) (cause : Nat) (epc eval : Word) (s t : State) : Prop :=
  t.core c = { s.core c with
    estat := (s.core c).fl, fl := (s.core c).fl ||| 0x100, epc := epc, ecause := BitVec.ofNat 32 cause, eval := eval,
    pc := (s.core c).vbase + BitVec.ofNat 32 (0x40 * cause) } ∧
  (∀ d : Nat, d ≠ c.val → t.core d = s.core d) ∧ SameBut [.cores] s t

/-- A range of `n` bytes at `a` that no rule keeps from a core's store: canvas above the process image and below the records,
or fitted LPDDR. -/
def State.Plain (s : State) (a n : Nat) : Prop :=
  (imageSize ≤ a ∧ a + n ≤ 0xFEF400) ∨ (lpddrBase ≤ a ∧ a + n ≤ lpddrBase + s.fitted)

/-- Memory after a store of the low `n` bytes of `v` at `a`: those bytes, little-endian, and no other. -/
def Stored (a n v : Nat) (s t : State) : Prop :=
  ∀ b, t.byte b = if a ≤ b ∧ b < a + n then BitVec.ofNat 8 (v / 256 ^ (b - a)) else s.byte b

/-- The instance at `a` can be used by core `c`: aligned, in the canvas above the image, without error, not new. -/
def InstanceReady (s : State) (c : Fin 8) (a size : Nat) : Prop :=
  CoreReady s c ∧ a % size = 0 ∧ imageSize ≤ a ∧ a + size ≤ 0xFEF400 ∧ s.eccBad a size = false ∧
  s.scan.newEdges.contains a = false

/-- What an instance instruction leaves: the instance's words, rd with Q, PC at the next word; no other byte of memory. -/
def InstanceDone (c : Fin 8) (rd : BitVec 5) (a size : Nat) (ws : List Word) (q : Bool) (s t : State) : Prop :=
  t.words a (size / 4) = ws ∧ (∀ b, b < a ∨ a + size ≤ b → t.byte b = s.byte b) ∧
  (∀ r : BitVec 5, t.wreg c r = if r = 0 then 0 else if r = rd then (if q then 1 else 0) else s.wreg c r) ∧
  (t.core c).pc = (s.core c).pc + 4 ∧ (t.core c).fl = (s.core c).fl ∧
  SameBut [.cores, .mem, .flt, .scan, .regs .flt] s t

/-- The running activation of engine `e`. -/
def State.run (s : State) (e : Nat) : Act := (s.engine e).stack.head?.getD {}

/-- The running activation of engine `e` as the bundle about to issue sees it: fill cycles have passed, due results have
landed. -/
def State.seen (s : State) (e : Nat) : Act := (s.run e).filled.settle

/-- Engine `e` issues the bundle of its running activation: it has one that has not ended, runs no built-in form and has no
exception on its way, and the bundle can be fetched: outside a REP body from a program address that is there, without
uncorrectable error; in one from the repeat cache, or from a body without uncorrectable error. -/
def LoopReady (s : State) (e : Fin 8) : Prop :=
  (s.engine e).stack ≠ [] ∧ (s.run e).ended = false ∧ (s.run e).std = false ∧ (s.run e).bad = none ∧
  ((s.run e).rep = none → (s.run e).pc ≤ 8191 ∧ s.eccBad (leProg e (s.run e).pc) 4 = false) ∧
  ((s.run e).rep.all fun r => ((s.engine e).cache.map RepCache.set) == some (s.run e).set || !s.bodyBad e r) = true

/-- After a bundle the running activation is as `P` says, and no other activation, engine or part has changed, but for a
corrected line of memory. -/
def LoopDone (e : Fin 8) (P : Act → Prop) (s t : State) : Prop :=
  P (t.run e) ∧ (t.engine e).stack ≠ [] ∧ (t.engine e).stack.tail = (s.engine e).stack.tail ∧
  (∀ d : Nat, d ≠ e.val → t.engine d = s.engine d) ∧ SameBut [.engines, .flt, .regs .le] s t

/-- The bundle makes no move and no post-update. -/
def stillBundle (b : LaBundle) : Prop :=
  b.cen = false ∧ b.sk = 0 ∧ b.pen = false ∧ b.cinc = false ∧ b.sinc = false

/-- The activation `a` (with what was due landed) goes on behind a bundle outside REP bodies and delay slots. -/
def Act.Onward (a a' : Act) : Prop := a'.pc = a.pc + 1 ∧ a'.cyc = a.cyc + 1

/-- The exact accumulator result `x` of each enabled lane is on its way to A`r`: wrapped to 40 bits with OV, or under `sat`
held to them with SV. Nothing is visible yet; nothing else is on its way. -/
def Act.Sends (a a' : Act) (sat : Bool) (r : Nat) (x : Nat → Int) : Prop :=
  (∀ k < 4, ∀ j < 4, a'.av k j = a.av k j) ∧
  (∀ k < 4, ∀ j < 4, a'.drain.av k j = if bitOf a.lm k ∧ j = r then
      (if sat then nearest 40 (x k) else (BitVec.ofInt 40 (x k)).toInt) else a.drain.av k j) ∧
  (∀ k < 4, bitOf a'.drain.ov k = (bitOf a.drain.ov k || (bitOf a.lm k && !sat && nearest 40 (x k) != x k))) ∧
  (∀ k < 4, bitOf a'.drain.sv k = (bitOf a.drain.sv k || (bitOf a.lm k && sat && nearest 40 (x k) != x k))) ∧
  (∀ k < 4, ∀ j < 8, a'.drain.dv k j = a.drain.dv k j)


/-- What a raise of source `n` by unit `u` leaves in every case (R518, R533): it is counted, and it is uncleared if its
effective severity is not 0. -/
def Raised (n : Nat) (s t : State) : Prop :=
  (t.src n).raises = min 65535 ((s.src n).raises + 1) ∧
  ((s.src n).pending = true ∨ 1 ≤ s.effSev n 0 → (t.src n).pending = true)

/-- The fields of row `r` after a write of `v` to a register that held `old` (R4, R7): RW and RWS take the written bits, W1C
bits fall where 1 is written, W1S bits rise, RO fields and expert fields without EXPERT_EN stay. -/
def Written (r : RegRow) (expert : Bool) (v old new : Word) : Prop :=
  ∀ f ∈ r.fields, f.ty ≠ .wo →
    let w := f.hi + 1 - f.lo
    bitsOf new f.lo w = if f.expert && !expert then bitsOf old f.lo w else match f.ty with
      | .rw | .rws => bitsOf v f.lo w
      | .w1c => bitsOf (old &&& ~~~v) f.lo w
      | .w1s => bitsOf (old ||| v) f.lo w
      | _ => bitsOf old f.lo w

/-- The blocks without a register whose write starts an operation: CBUS, PART, HOST, NET, the power and process ports. -/
def quietBlock (a : Nat) : Bool :=
  (0xF0090000 ≤ a && a < 0xF00B0000) || (0xF00E0000 ≤ a && a < 0xF0120000) || (0xF0500000 ≤ a && a < 0xF0510000)

/-- A record of `code`, severity `sev`, arguments `a0`, `a1` and suppressed count `supp` is written (R535, R540): the open log
takes it as its record of highest SEQ with the times of now. -/
def Recorded (code sev a0 a1 supp : Nat) (s t : State) : Prop :=
  ∃ k, tlook t.evl.slots k = some
    { opt := s.vault.opt, pcyc := s.vault.pcyc, ot := s.otNs, otValid := s.otValid, code := code, sev := sev, supp := supp,
      seq := t.evl.seq, arg0 := a0 % 2 ^ 32, arg1 := a1 % 2 ^ 16 }

/-- The control core's registers after a start of an execution of task `n` (R101, R102, R142). -/
def Started (c : Fin 8) (n : Nat) (s t : State) : Prop :=
  (t.core c).pc = BitVec.ofNat 32 (((s.task n).map TaskDesc.entry).getD 0) ∧ (t.core c).taskId = BitVec.ofNat 32 n ∧
  (t.core c).fl = (s.core c).fl ∧ (∀ r : BitVec 5, t.wreg c r = s.wreg c r) ∧ (∀ d : Nat, d ≠ c.val → t.core d = s.core d)

/-- The cyclic tasks due at the tick of now (R150, R200). -/
def State.dueTasks (s : State) : List TaskDesc :=
  if s.sched.cyclic && s.tasksRun && s.sys.dusk.isNone
  then s.cyclicTasks.filter fun d => tget 0 s.sched.next d.num ≤ s.tbc / 250 else []

/-- The dispatcher has a tick to handle (R198) at which time has no update or command to commit and no stream is on. -/
def TickReady (s : State) : Prop :=
  s.tbc % 250 = 0 ∧ s.tbc % 2500 ≠ 0 ∧ s.mode ≠ Mode.vault ∧ s.sched.tick ≠ s.tbc / 250 ∧ s.time.cmds = [] ∧
  (∀ p ∈ s.time.doms, p.2.updates = []) ∧ s.strmsOn = [] ∧ s.scan.safeWords = []

/-- Session `i` may have request `seq` executed at once (R472, R473): the channel is served, the session open with at least `role`,
nothing of it waits or is held, and the request is the next. -/
def HostReady (i : Fin 8) (seq role : Nat) (s : State) : Prop :=
  s.hostServed = true ∧ (s.session i).isOpen = true ∧ s.mode ≠ Mode.dawn ∧ s.hostBusy i = false ∧ (s.session i).held = [] ∧
  seq = (s.session i).executed + 1 ∧ role ≤ (s.session i).role

/-- The last thing that left the block is the answer to request `seq` of session `i`, and the request counts as executed. -/
def Answered (i : Fin 8) (msg status seq : Nat) (body : List Nat) (t : State) : Prop :=
  t.outbox.head? = some (.host i msg status seq body) ∧ (t.session i).executed = seq ∧
  (t.session i).cache.head? = some (seq, status, body)
end Sys2Proof.Machine
end

