-- ==== Sys2Proof/Certificates/Slice0/Obligations.lean ====
section
/-!
DEFINITION. What the provers are asked to prove of the model: rules of the spec, command by command, and what every step
keeps.
-/

set_option Elab.async false

open Sys2Proof Sys2Proof.Machine

/-- On a core that executes, each of ADD, SUB, AND, OR, XOR, SHL, SHR, SRA, SLT, SLTU, MIN, MAX, MUL, MULH and MULHU writes
rd with the result R104 gives (a write to W0 is discarded), moves PC to the next word, and changes nothing else: no flag,
no other register, no memory.
ADDI, ANDI, ORI, XORI, LUI, SHLI, SHRI and SRAI write rd with the result of R106, move PC to the next word, and change
nothing else. -/
def Obligations.AluResults : Prop :=
  (∀ (c : Fin 8) (rd ra rb : BitVec 5) (s : State), CoreReady s c → ∀ p ∈ ([(.add, fun a b => a + b), (.sub, fun a b => a - b), (.and, fun a b => a &&& b), (.or, fun a b => a ||| b),
       (.xor, fun a b => a ^^^ b), (.shl, fun a b => a <<< (b &&& 31)), (.shr, fun a b => a >>> (b &&& 31)),
       (.sra, fun a b => BitVec.ofInt 32 (a.toInt / 2 ^ (b &&& 31).toNat)), (.slt, fun a b => if a.slt b then 1 else 0),
       (.sltu, fun a b => if a < b then 1 else 0), (.min, fun a b => BitVec.ofInt 32 (min a.toInt b.toInt)),
       (.max, fun a b => BitVec.ofInt 32 (max a.toInt b.toInt)), (.mul, fun a b => BitVec.ofInt 32 (a.toInt * b.toInt)),
       (.mulh, fun a b => BitVec.ofInt 32 (a.toInt * b.toInt / 2 ^ 32)),
       (.mulhu, fun a b => BitVec.ofNat 32 (a.toNat * b.toNat / 2 ^ 32))] :
       List ((Fin 8 → BitVec 5 → BitVec 5 → BitVec 5 → Instr) × (Word → Word → Word))),
     Completes (p.1 c rd ra rb) s (CoreDone c (oneReg rd (p.2 (s.wreg c ra) (s.wreg c rb))) (s.core c).fl ((s.core c).pc + 4) s)) ∧
  (∀ (c : Fin 8) (rd ra n : BitVec 5) (imm : BitVec 16) (s : State), CoreReady s c →
   (∀ p ∈ ([(.addi, fun a i => a + i.signExtend 32), (.andi, fun a i => a &&& i.setWidth 32),
         (.ori, fun a i => a ||| i.setWidth 32), (.xori, fun a i => a ^^^ i.setWidth 32),
         (fun c rd _ i => .lui c rd i, fun _ i => BitVec.ofNat 32 (i.toNat * 2 ^ 16))] :
         List ((Fin 8 → BitVec 5 → BitVec 5 → BitVec 16 → Instr) × (Word → BitVec 16 → Word))),
       Completes (p.1 c rd ra imm) s (CoreDone c (oneReg rd (p.2 (s.wreg c ra) imm)) (s.core c).fl ((s.core c).pc + 4) s)) ∧
   (∀ p ∈ ([(.shli, fun a n => a <<< n), (.shri, fun a n => a >>> n),
         (.srai, fun a n => BitVec.ofInt 32 (a.toInt / 2 ^ n.toNat))] :
         List ((Fin 8 → BitVec 5 → BitVec 5 → BitVec 5 → Instr) × (Word → BitVec 5 → Word))),
       Completes (p.1 c rd ra n) s (CoreDone c (oneReg rd (p.2 (s.wreg c ra) n)) (s.core c).fl ((s.core c).pc + 4) s)))

/-- CMP, CMPI and CMP.D set Z, N, C and V of the difference, C meaning no borrow; TST sets Z and N of the conjunction and
clears C and V. SAT, P, every register and everything outside the core stay as they were. -/
def Obligations.CompareFlags : Prop :=
  ∀ (c : Fin 8) (ra rb : BitVec 5) (imm : BitVec 16) (s : State), CoreReady s c →
    (Completes (.cmp c ra rb) s fun t => ComparedFlags (s.core c).fl (t.core c).fl (s.wreg c ra) (s.wreg c rb) ∧
      CoreDone c noReg (t.core c).fl ((s.core c).pc + 4) s t) ∧
    (Completes (.cmpi c ra imm) s fun t => ComparedFlags (s.core c).fl (t.core c).fl (s.wreg c ra) (imm.signExtend 32) ∧
      CoreDone c noReg (t.core c).fl ((s.core c).pc + 4) s t) ∧
    (pairOk ra = true → pairOk rb = true →
      Completes (.cmpD c ra rb) s fun t => ComparedFlags (s.core c).fl (t.core c).fl (s.wpair c ra) (s.wpair c rb) ∧
        CoreDone c noReg (t.core c).fl ((s.core c).pc + 4) s t) ∧
    (Completes (.tst c ra rb) s fun t =>
      (t.core c).fl &&& 0xFFFFFFF0 = (s.core c).fl &&& 0xFFFFFFF0 ∧
      (t.core c).fl.getLsbD 0 = (s.wreg c ra &&& s.wreg c rb == 0) ∧
      (t.core c).fl.getLsbD 1 = (s.wreg c ra &&& s.wreg c rb).msb ∧
      (t.core c).fl.getLsbD 2 = false ∧ (t.core c).fl.getLsbD 3 = false ∧
      CoreDone c noReg (t.core c).fl ((s.core c).pc + 4) s t)

/-- ADDS, SUBS, MACS, MSUS, SAT and RNDS give the exact result held to its range and set SAT, which nothing else of FL
follows, only if the range does not hold it; MAC, MSU, ADD.D and SUB.D give it modulo 2^64; RND wraps to 16 bits. Pairs are
even and not W0, n of SAT is 1 to 32. PC moves to the next word and nothing else changes. -/
def Obligations.SaturatingResults : Prop :=
  ∀ (c : Fin 8) (rd ra rb : BitVec 5) (n : BitVec 6) (s : State), CoreReady s c →
    let fl := (s.core c).fl
    let pc := (s.core c).pc + 4
    let a := (s.wreg c ra).toInt
    let b := (s.wreg c rb).toInt
    let p := (s.wpair c rd).toInt
    let h := ((s.wpair c ra).toInt + 32768) / 65536
    (∀ q ∈ ([(.adds, a + b), (.subs, a - b)] : List ((Fin 8 → BitVec 5 → BitVec 5 → BitVec 5 → Instr) × Int)),
      Completes (q.1 c rd ra rb) s (CoreDone c (oneReg rd (BitVec.ofInt 32 (nearest 32 q.2))) (satFlags fl 32 q.2) pc s)) ∧
    (1 ≤ n.toNat → n.toNat ≤ 32 →
      Completes (.sat c rd ra n) s (CoreDone c (oneReg rd (BitVec.ofInt 32 (nearest n.toNat a))) (satFlags fl n.toNat a) pc s)) ∧
    (pairOk rd = true →
      (∀ q ∈ ([(.mac, p + a * b), (.msu, p - a * b)] : List ((Fin 8 → BitVec 5 → BitVec 5 → BitVec 5 → Instr) × Int)),
        Completes (q.1 c rd ra rb) s (CoreDone c (pairReg rd (BitVec.ofInt 64 q.2)) fl pc s)) ∧
      (∀ q ∈ ([(.macs, p + a * b), (.msus, p - a * b)] : List ((Fin 8 → BitVec 5 → BitVec 5 → BitVec 5 → Instr) × Int)),
        Completes (q.1 c rd ra rb) s
          (CoreDone c (pairReg rd (BitVec.ofInt 64 (nearest 64 q.2))) (satFlags fl 64 q.2) pc s)) ∧
      (pairOk ra = true → pairOk rb = true →
        Completes (.addD c rd ra rb) s (CoreDone c (pairReg rd (s.wpair c ra + s.wpair c rb)) fl pc s) ∧
        Completes (.subD c rd ra rb) s (CoreDone c (pairReg rd (s.wpair c ra - s.wpair c rb)) fl pc s))) ∧
    (pairOk ra = true →
      Completes (.rnd c rd ra rb) s (CoreDone c (oneReg rd ((BitVec.ofInt 16 h).signExtend 32)) fl pc s) ∧
      Completes (.rnds c rd ra rb) s
        (CoreDone c (oneReg rd (BitVec.ofInt 32 (nearest 16 h))) (satFlags fl 16 h) pc s))

/-- DIV, DIVU, REM and REMU: with rb = 0 each raises DIVZERO (ECAUSE 6) and writes no register; else it writes rd with the
quotient or remainder, DIV of 0x80000000 by 0xFFFFFFFF giving 0x80000000 and the matching REM 0, and raises nothing. -/
def Obligations.DivisionCorners : Prop :=
  ∀ (c : Fin 8) (rd ra rb : BitVec 5) (s : State), CoreReady s c → ∀ p ∈ ([(.div, fun a b => BitVec.ofInt 32 (a.toInt.tdiv b.toInt)), (.divu, fun a b => BitVec.ofNat 32 (a.toNat / b.toNat)),
      (.rem, fun a b => BitVec.ofInt 32 (a.toInt.tmod b.toInt)), (.remu, fun a b => BitVec.ofNat 32 (a.toNat % b.toNat))] :
      List ((Fin 8 → BitVec 5 → BitVec 5 → BitVec 5 → Instr) × (Word → Word → Word))),
      (s.wreg c rb = 0 → Completes (p.1 c rd ra rb) s fun t =>
        (t.core c).ecause = 6 ∧ (t.core c).epc = (s.core c).pc ∧ (∀ r, t.wreg c r = s.wreg c r)) ∧
      (s.wreg c rb ≠ 0 → Completes (p.1 c rd ra rb) s
        (CoreDone c (oneReg rd (p.2 (s.wreg c ra) (s.wreg c rb))) (s.core c).fl ((s.core c).pc + 4) s)) ∧
      (s.wreg c ra = 0x80000000 → s.wreg c rb = 0xFFFFFFFF → rd ≠ 0 →
        (Completes (.div c rd ra rb) s fun t => t.wreg c rd = 0x80000000) ∧
        (Completes (.rem c rd ra rb) s fun t => t.wreg c rd = 0))

/-- B, BZ and BNZ go to PC + 4 × DISP if their condition holds and to the next word if not; BL and JALR also write the
return address; JR and JALR go to ra as it stood before; FENCE and FENCE.I only advance PC. Nothing else changes. -/
def Obligations.BranchesAndJumps : Prop :=
  ∀ (c : Fin 8) (cond : BitVec 4) (rd ra : BitVec 5) (disp : BitVec 21) (s : State), CoreReady s c →
    let fl := (s.core c).fl
    let pc := (s.core c).pc
    let target := BitVec.ofInt 32 (pc.toNat + 4 * disp.toInt)
    let z := fl.getLsbD 0
    let n := fl.getLsbD 1
    let cy := fl.getLsbD 2
    let v := fl.getLsbD 3
    let holds := [z, !z, n != v, n == v, z || n != v, !z && n == v, !cy, cy, !cy || z, cy && !z, n, !n, v, !v,
      fl.getLsbD 4, true].getD cond.toNat true
    Completes (.b c cond disp) s (CoreDone c noReg fl (if holds then target else pc + 4) s) ∧
    Completes (.bz c ra disp) s (CoreDone c noReg fl (if s.wreg c ra = 0 then target else pc + 4) s) ∧
    Completes (.bnz c ra disp) s (CoreDone c noReg fl (if s.wreg c ra = 0 then pc + 4 else target) s) ∧
    Completes (.bl c disp) s (CoreDone c (oneReg 31 (pc + 4)) fl target s) ∧
    Completes (.jr c ra) s (CoreDone c noReg fl (s.wreg c ra) s) ∧
    Completes (.jalr c rd ra) s (CoreDone c (oneReg rd (pc + 4)) fl (s.wreg c ra) s) ∧
    Completes (.fence c) s (CoreDone c noReg fl (pc + 4) s) ∧
    Completes (.fenceI c) s (CoreDone c noReg fl (pc + 4) s)

/-- MFS reads FL, TASK_DT, TASK_ID, the core number, TBC_LO (latching TBC_HI), TBC_HI, EPC, ECAUSE, EVAL, ESTAT and VBASE,
and MTS writes FL but for P and its reserved bits, EPC, ECAUSE, EVAL, ESTAT and VBASE, and leaves the read-only ones; in
task privilege those from 0x010 up, and ERET, raise PRIVILEGE. TRAP enters its handler with EPC the next instruction and EVAL its
number; ERET restores FL from ESTAT and PC from EPC; an encoding that R104 to R111 do not list enters ILLEGAL. The core
runs no task execution, so that an exception ends none.
BKPT halts the execution on its core in mode ENGINEER, unless it is an init, error or recipe task or four executions are
halted already; everywhere else it only advances PC. -/
def Obligations.SystemRegisters : Prop :=
  (∀ (c : Fin 8) (rd k : BitVec 5) (n : BitVec 16) (w : Word) (s : State), CoreReady s c → tlook s.scan.execs c = none →
     let x := s.core c
     (∀ q ∈ ([(0x000, x.fl), (0x001, x.taskDt), (0x002, x.taskId), (0x003, BitVec.ofNat 32 c.val),
         (0x004, BitVec.ofNat 32 s.tbc), (0x005, x.tbcHi), (0x010, x.epc), (0x011, x.ecause), (0x012, x.eval),
         (0x013, x.estat), (0x014, x.vbase)] : List (BitVec 16 × Word)), (0x010 ≤ q.1 → flP x.fl = true) →
       Completes (.mfs c rd q.1) s fun t =>
         (∀ r : BitVec 5, t.wreg c r = if r = 0 then 0 else if r = rd then q.2 else s.wreg c r) ∧
         (t.core c).pc = x.pc + 4 ∧ (t.core c).fl = x.fl ∧
         (t.core c).tbcHi = (if q.1 = 0x004 then BitVec.ofNat 32 (s.tbc / 2 ^ 32) else x.tbcHi) ∧ SameBut [.cores] s t) ∧
     (Completes (.mts c rd 0x000) s (CoreDone c noReg ((x.fl &&& 0x100) ||| (s.wreg c rd &&& 0x1F)) (x.pc + 4) s)) ∧
     (∀ m ∈ ([0x001, 0x002, 0x003, 0x004, 0x005] : List (BitVec 16)),
       Completes (.mts c rd m) s (CoreDone c noReg x.fl (x.pc + 4) s)) ∧
     (flP x.fl = true →
       (∀ q ∈ ([(0x010, fun v k => { k with epc := v }), (0x011, fun v k => { k with ecause := v }),
           (0x012, fun v k => { k with eval := v }), (0x013, fun v k => { k with estat := v }),
           (0x014, fun v k => { k with vbase := v &&& 0xFFFFF000 })] : List (BitVec 16 × (Word → Core → Core))),
         Completes (.mts c rd q.1) s fun t =>
           t.core c = { q.2 (s.wreg c rd) x with pc := x.pc + 4 } ∧ SameBut [.cores] s t) ∧
       (Completes (.eret c) s (CoreDone c noReg (x.estat &&& 0x11F) x.epc s))) ∧
     (flP x.fl = false → sysRegOk n.toNat = true → 0x010 ≤ n.toNat →
       Completes (.mfs c rd n) s (Entered c 2 x.pc (encRRI 0x0C rd 0 n) s) ∧
       Completes (.mts c rd n) s (Entered c 2 x.pc (encRRI 0x0D rd 0 n) s) ∧
       Completes (.eret c) s (Entered c 2 x.pc (encRRR 0x01 0 0 0 0x01A) s)) ∧
     (Completes (.trap c k) s (Entered c 8 (x.pc + 4) (k.setWidth 32) s)) ∧
     (listedC w = false → Completes (.illegalEncoding c w) s (Entered c 1 x.pc w s))) ∧
  (∀ (c : Fin 8) (e : Exec) (d : TaskDesc) (s : State), CoreReady s c →
     (tlook s.scan.execs c = none → Completes (.bkpt c) s (CoreDone c noReg (s.core c).fl ((s.core c).pc + 4) s)) ∧
     (tlook s.scan.execs c = some e → s.task e.task = some d → s.mode = Mode.engineer →
       d.kind ≠ .init → d.kind ≠ .error → d.recipe = false → (s.scan.execs.filter fun p => p.2.halted).length < 4 →
       Completes (.bkpt c) s fun t => (t.core c).pc = (s.core c).pc + 4 ∧
         tlook t.scan.execs c = some { e with halted := true, haltedFrom := s.tbc } ∧ t.coreRuns c = false ∧
         SameBut [.cores, .scan] s t) ∧
     (tlook s.scan.execs c = some e → s.mode ≠ Mode.engineer →
       Completes (.bkpt c) s (CoreDone c noReg (s.core c).fl ((s.core c).pc + 4) s)))

/-- LD of a byte or half writes rd sign-extended, of a word as it stands, of a pair into Wrd and Wrd+1; LDU zero-extends a
byte or half. So it is for canvas and fitted LPDDR at an aligned address without an uncorrectable error; no memory byte
changes. A misaligned address in the canvas enters ALIGN with EVAL the address. -/
def Obligations.CoreLoads : Prop :=
  ∀ (c : Fin 8) (rd base : BitVec 5) (size : BitVec 2) (disp : BitVec 14) (seg : BitVec 8) (s : State),
    let n := 2 ^ size.toNat
    let a := physAddr seg (memAddr (s.core c) base disp n)
    CoreReady s c → (s.region a = .canvas ∨ s.region a = .lpddr) →
    (a % n = 0 → s.eccBad a n = false →
      (n ≤ 4 → Completes (.ld c rd base size disp seg) s fun t =>
        (∀ r : BitVec 5, t.wreg c r = if r = 0 then 0 else if r = rd then BitVec.ofInt 32 (toSigned (8 * n) (memNat s.mem a n))
          else s.wreg c r) ∧ (t.core c).pc = (s.core c).pc + 4 ∧ (t.core c).fl = (s.core c).fl ∧ SameBut [.cores, .flt] s t) ∧
      (n = 8 → pairOk rd = true → Completes (.ld c rd base size disp seg) s fun t =>
        t.wpair c rd = BitVec.ofNat 64 (memNat s.mem a 8) ∧ (t.core c).pc = (s.core c).pc + 4 ∧ SameBut [.cores, .flt] s t) ∧
      (n ≤ 2 → Completes (.ldu c rd base size disp seg) s fun t =>
        (∀ r : BitVec 5, t.wreg c r = if r = 0 then 0 else if r = rd then BitVec.ofNat 32 (memNat s.mem a n) else s.wreg c r) ∧
        (t.core c).pc = (s.core c).pc + 4 ∧ (t.core c).fl = (s.core c).fl ∧ SameBut [.cores, .flt] s t)) ∧
    (a % n ≠ 0 → n ≤ 4 → tlook s.scan.execs c = none →
      Completes (.ld c rd base size disp seg) s (Entered c 3 (s.core c).pc (BitVec.ofNat 32 a) s))

/-- ST stores the low byte, half or word of rs, or the pair, little-endian, at an aligned address of plain canvas or fitted
LPDDR, and no other byte changes; CAS stores ra where the word equals rd, AMOADD the sum, and both give rd the old word. -/
def Obligations.CoreStores : Prop :=
  ∀ (c : Fin 8) (rd ra rb : BitVec 5) (size : BitVec 2) (disp : BitVec 14) (seg : BitVec 8) (s : State), CoreReady s c →
    (let n := 2 ^ size.toNat
     let a := physAddr seg (memAddr (s.core c) rb disp n)
     a % n = 0 → s.Plain a n →
      (n ≤ 4 → Completes (.st c rd rb size disp seg) s fun t =>
        Stored a n (s.wreg c rd).toNat s t ∧ (t.core c).pc = (s.core c).pc + 4 ∧ (∀ r, t.wreg c r = s.wreg c r) ∧
        SameBut [.cores, .mem, .flt, .regs .flt] s t) ∧
      (n = 8 → pairOk rd = true → Completes (.st c rd rb size disp seg) s fun t =>
        Stored a 8 (s.wpair c rd).toNat s t ∧ (t.core c).pc = (s.core c).pc + 4 ∧
        SameBut [.cores, .mem, .flt, .regs .flt] s t)) ∧
    (let a := physAddr seg (s.wreg c rb)
     a % 4 = 0 → s.Plain a 4 → s.eccBad a 4 = false →
      (Completes (.cas c rd ra rb seg) s fun t =>
        (if s.word a = s.wreg c rd then Stored a 4 (s.wreg c ra).toNat s t else ∀ b, t.byte b = s.byte b) ∧
        (∀ r, t.wreg c r = if r = 0 then 0 else if r = rd then s.word a else s.wreg c r) ∧
        (t.core c).pc = (s.core c).pc + 4 ∧ SameBut [.cores, .mem, .flt, .regs .flt] s t) ∧
      (Completes (.amoadd c rd ra rb seg) s fun t =>
        Stored a 4 (s.word a + s.wreg c ra).toNat s t ∧
        (∀ r, t.wreg c r = if r = 0 then 0 else if r = rd then s.word a else s.wreg c r) ∧
        (t.core c).pc = (s.core c).pc + 4 ∧ SameBut [.cores, .mem, .flt, .regs .flt] s t))

/-- EDGR and EDGF give the rising and the falling edge of ra bit 0 against PREV, which takes it; CTU and CTD count at the
rising edge of ra bit 0, saturating, with reset or load by bit 1, and Q tells whether the count has reached its end. -/
def Obligations.EdgesAndCounters : Prop :=
  ∀ (c : Fin 8) (rd ra rb : BitVec 5) (s : State),
    let a := (s.wreg c rb).toNat
    let x := s.wreg c ra
    let i := x.getLsbD 0
    let one (b : Bool) : Nat := if b then 1 else 0
    (InstanceReady s c a 8 →
      let prev := (s.word a).getLsbD 0
      Completes (.edgr c rd ra rb) s (InstanceDone c rd a 8 [if i then 1 else 0, s.word (a + 4)] (i && !prev) s) ∧
      Completes (.edgf c rd ra rb) s (InstanceDone c rd a 8 [if i then 1 else 0, s.word (a + 4)] (prev && !i) s)) ∧
    (InstanceReady s c a 16 →
      let cnt := (s.word a).toInt
      let pre := (s.word (a + 4)).toInt
      let f := s.word (a + 8)
      let up := if x.getLsbD 1 then 0 else if i && !f.getLsbD 0 && decide (cnt < 0x7FFFFFFF) then cnt + 1 else cnt
      let dn := if x.getLsbD 1 then pre else if i && !f.getLsbD 1 && decide (-0x80000000 < cnt) then cnt - 1 else cnt
      Completes (.ctu c rd ra rb) s (InstanceDone c rd a 16
        [BitVec.ofInt 32 up, s.word (a + 4), BitVec.ofNat 32 (one i + 2 * one (f.getLsbD 1) + 4 * one (decide (pre ≤ up))),
          s.word (a + 12)] (decide (pre ≤ up)) s) ∧
      Completes (.ctd c rd ra rb) s (InstanceDone c rd a 16
        [BitVec.ofInt 32 dn, s.word (a + 4), BitVec.ofNat 32 (one (f.getLsbD 0) + 2 * one i + 4 * one (decide (dn ≤ 0))),
          s.word (a + 12)] (decide (dn ≤ 0)) s))

/-- TON, TOF and TP do on their instance what the code of R118 says, with dt = TASK_DT, and give Q to rd; an instance of
another type enters INSTANCE and stays as it is. -/
def Obligations.Timers : Prop :=
  ∀ (c : Fin 8) (rd ra rb : BitVec 5) (s : State),
    let a := (s.wreg c rb).toNat
    let i := (s.wreg c ra).getLsbD 0
    let p := (s.word a).toNat
    let e := (s.word (a + 4)).toNat
    let f := s.word (a + 8)
    let ip := f.getLsbD 0
    let q := f.getLsbD 1
    let r := f.getLsbD 2
    let more := min (e + (s.core c).taskDt.toNat) p
    let ty := bitsOf f 8 8
    let one (b : Bool) : Nat := if b then 1 else 0
    let after (n e' : Nat) (q' r' : Bool) : State → Prop := InstanceDone c rd a 16
      [s.word a, BitVec.ofNat 32 e', BitVec.ofNat 32 (one i + 2 * one q' + 4 * one r' + 256 * n), s.word (a + 12)] q' s
    InstanceReady s c a 16 →
    (ty = 1 →
      let e' := if !i || !ip then 0 else if r then more else e
      let run := i && (!ip || r)
      let fin := run && decide (p ≤ e')
      Completes (.ton c rd ra rb) s (after 1 e' (i && (q || fin)) (run && !fin))) ∧
    (ty = 2 →
      let e' := if i || ip then 0 else if r then more else e
      let run := !i && (ip || r)
      let fin := run && decide (p ≤ e')
      Completes (.tof c rd ra rb) s (after 2 e' (i || (q && !fin)) (run && !fin))) ∧
    (ty = 3 →
      let go := !r && i && !ip
      let e' := if r then more else if go || !i then 0 else e
      let fin := (r || go) && decide (p ≤ e')
      Completes (.tp c rd ra rb) s (after 3 e' ((q || go) && !fin) ((r || go) && !fin))) ∧
    (tlook s.scan.execs c = none →
      ∀ k ∈ ([(1, .ton), (2, .tof), (3, .tp)] : List (Nat × (Fin 8 → BitVec 5 → BitVec 5 → BitVec 5 → Instr))), ty ≠ k.1 →
        Completes (k.2 c rd ra rb) s (Entered c 5 (s.core c).pc (s.wreg c rb) s))

/-- LDI gives rd an image word or bit of the execution's snapshot that has no uncorrectable error, overlaid by what it has itself staged; STO, SETF and CLRF
stage a word or bit the task owns, so that the execution reads it back, and change no memory. -/
def Obligations.ImageAccess : Prop :=
  ∀ (c : Fin 8) (r : BitVec 5) (kind : Bool) (index : BitVec 20) (e : Exec) (s : State), CoreReady s c →
    tlook s.scan.execs c = some e →
    let i := index.toNat
    let done (k : Word → Word) (w : Nat) (t : State) : Prop := t.imageWord c w = k (s.imageWord c w) ∧
      (∀ j, j ≠ w → t.imageWord c j = s.imageWord c j) ∧ (t.core c).pc = (s.core c).pc + 4 ∧ SameBut [.cores, .scan] s t
    (s.imageBad c (if kind then i / 32 else i) = false → Completes (.ldi c r kind index) s (CoreDone c (oneReg r (if kind then
      (if (s.imageWord c (i / 32)).getLsbD (i % 32) then 1 else 0) else s.imageWord c i)) (s.core c).fl ((s.core c).pc + 4) s)) ∧
    (e.staged.length < 8192 →
      (s.ownMask e.task i = 0xFFFFFFFF → Completes (.sto c r false index) s (done (fun _ => s.wreg c r) i)) ∧
      ((s.ownMask e.task (i / 32)).getLsbD (i % 32) = true →
        Completes (.sto c r true index) s (done (fun w => if (s.wreg c r).getLsbD 0 then w ||| bitMask i else w &&& ~~~bitMask i) (i / 32)) ∧
        Completes (.setf c r index) s (done (fun w => if (s.wreg c r).getLsbD 0 then w ||| bitMask i else w) (i / 32)) ∧
        Completes (.clrf c r index) s (done (fun w => if (s.wreg c r).getLsbD 0 then w &&& ~~~bitMask i else w) (i / 32)))) ∧
    (s.ownMask e.task i = 0 → Completes (.sto c r false index) s fun t =>
      (∀ j, t.imageWord c j = s.imageWord c j) ∧ t.flag (F.TASK_STAT_OWNV e.task) = true)

/-- EVT of an enabled event without delay, with an entry free beyond the hardware's reserve, queues it as the newest with the
payload of rb and gives 0; a descriptor not enabled gives 2 and queues nothing. WFT of no such task gives 2, of the caller
itself 3; of a task that runs or is queued the core waits, and WFT's return gives 0 once that execution has ended and 1
once the timeout has passed.
A core that waits in WFT goes on behind it with rd = 0 once the awaited execution has ended, with rd = 1 once the timeout
has passed, and waits on before. -/
def Obligations.EventsAndWaits : Prop :=
  (∀ (c : Fin 8) (rd ra rb : BitVec 5) (s : State), CoreReady s c →
     let n := (s.wreg c ra).toNat % 65536
     let t := (s.wreg c ra).toNat % 64
     let next (v : Word) (u : State) : Prop := (u.core c).pc = (s.core c).pc + 4 ∧
       (∀ r : BitVec 5, u.wreg c r = if r = 0 then 0 else if r = rd then v else s.wreg c r)
     (s.evEnabled n = true → bitsOf (s.evDesc n).2 0 24 = 0 →
       s.schedUsed + s.fld F.SCHED_CTRL_HW_RSV + 1 ≤ 262144 → Completes (.evt c rd ra rb) s fun u =>
         next 0 u ∧ u.sched.entries = s.sched.entries ++ [s.mkEntry n (s.wreg c rb)] ∧ SameBut [.cores, .sched] s u) ∧
     (s.evEnabled n = false → Completes (.evt c rd ra rb) s fun u => next 2 u ∧ SameBut [.cores] s u) ∧
     (s.taskOn c = some t → Completes (.wft c rd ra rb) s fun u => next 3 u ∧ SameBut [.cores] s u) ∧
     (s.taskOn c ≠ some t → s.taskBusy t = false → Completes (.wft c rd ra rb) s fun u => next 2 u ∧ SameBut [.cores] s u) ∧
     (s.taskOn c ≠ some t → s.taskBusy t = true → s.wreg c rb ≠ 0 → Completes (.wft c rd ra rb) s fun u =>
       u.coreRuns c = false ∧ (u.core c).wait = some
         { task := t, ends := s.endCount t, deadline := s.tbc + 250 * (s.wreg c rb).toNat, rd := rd.toNat } ∧
       (u.core c).pc = (s.core c).pc ∧ SameBut [.cores] s u)) ∧
  (∀ (c : Fin 8) (w : Wait) (s : State), (s.core c).wait = some w →
     let next (v : Word) (u : State) : Prop := (u.core c).wait = none ∧ (u.core c).pc = (s.core c).pc + 4 ∧
       u.core c = { (s.core c).setReg w.rd v with pc := (s.core c).pc + 4, wait := none } ∧ SameBut [.cores] s u
     (w.ends < s.endCount w.task → Completes (.wftReturn c) s (next 0)) ∧
     (s.endCount w.task ≤ w.ends → w.deadline ≤ s.tbc → Completes (.wftReturn c) s (next 1)) ∧
     (s.endCount w.task ≤ w.ends → s.tbc < w.deadline → Completes (.wftReturn c) s fun u => u = s))

/-- MAC, MSU, MPY, ADD, SUB, SHL, ABS, NEG, ACC and SUM send the exact result of R126 and R129, of the registers as the bundle sees
them (row 1 of R135), to A[AD] of each enabled lane (SUM: the lowest), wrapped with OV or under S clamped with SV, visible 3
cycles later; LDA, SHR and CLIP send theirs, CLP telling whether CLIP changed it. Nothing else changes. ACC with XS above
3, which names no accumulator, raises UNDEF. -/
def Obligations.LoopAccumulators : Prop :=
  ∀ (e : Fin 8) (b : LaBundle) (s : State), LoopReady s e → stillBundle b → (s.run e).rep = none → (s.run e).ctl = none →
    let a := s.seen e
    let r := b.ad.toNat
    let x (k : Nat) : Int := a.dv k b.xs.toNat
    let y (k : Nat) : Int := a.dv k (4 + b.ys.toNat)
    let clip (k : Nat) : Int := max (min (a.av k r) (x k * 65536)) (y k * 65536)
    let low : Nat := if bitOf a.lm 0 then 0 else if bitOf a.lm 1 then 1 else if bitOf a.lm 2 then 2 else 3
    let sum : Int := (if bitOf a.lm 0 then a.av 0 r else 0) + (if bitOf a.lm 1 then a.av 1 r else 0) +
      (if bitOf a.lm 2 then a.av 2 r else 0) + (if bitOf a.lm 3 then a.av 3 r else 0)
    let sends (v : Nat → Int) : State → Prop := LoopDone e (fun a' => a.Onward a' ∧ a.Sends a' b.s r v) s
    let exact (v : Nat → Int) (clp : Nat → Bool) : State → Prop := LoopDone e (fun a' => a.Onward a' ∧
      (∀ k < 4, ∀ j < 4, a'.drain.av k j = if bitOf a.lm k ∧ j = r then v k else a.drain.av k j) ∧
      a'.drain.ov = a.drain.ov ∧ a'.drain.sv = a.drain.sv ∧
      ∀ k < 4, bitOf a'.drain.clp k = if bitOf a.lm k then clp k else bitOf a.drain.clp k) s
    (Completes (.lMac e b) s (sends fun k => a.av k r + 2 * x k * y k)) ∧
    (Completes (.lMsu e b) s (sends fun k => a.av k r - 2 * x k * y k)) ∧
    (Completes (.lMpy e b) s (sends fun k => 2 * x k * y k)) ∧
    (Completes (.lAdd e b) s (sends fun k => a.av k r + x k * 65536)) ∧
    (Completes (.lSub e b) s (sends fun k => a.av k r - x k * 65536)) ∧
    (Completes (.lShl e b) s (sends fun k => a.av k r * 2 ^ (b.xs.toNat + 1))) ∧
    (Completes (.lAbs e b) s (sends fun k => max (a.av k r) (-a.av k r))) ∧
    (Completes (.lNeg e b) s (sends fun k => -a.av k r)) ∧
    (b.xs.toNat < 4 → Completes (.lAcc e b) s (sends fun k => a.av k r + a.av k b.xs.toNat)) ∧
    (4 ≤ b.xs.toNat → Completes (.lAcc e b) s fun t => t.fld (F.LE_EXC_CODE e) = 1) ∧
    (a.lm % 16 ≠ 0 → Completes (.lSum e b) s (LoopDone e (fun a' => a.Onward a' ∧
      a'.drain.av low r = (if b.s then nearest 40 sum else (BitVec.ofInt 40 sum).toInt) ∧
      ∀ k < 4, ∀ j < 4, k ≠ low ∨ j ≠ r → a'.drain.av k j = a.drain.av k j) s)) ∧
    (Completes (.lLda e b) s (exact (fun k => x k * 65536) fun k => bitOf a.drain.clp k)) ∧
    (Completes (.lShr e b) s (exact (fun k => a.av k r / 2 ^ (b.xs.toNat + 1)) fun k => bitOf a.drain.clp k)) ∧
    (Completes (.lClip e b) s (exact clip fun k => clip k != a.av k r))

/-- RND rounds A[AD] half up to 16 bits into D[XS], wrapped with OV or under S clamped with SV; MOVD copies D[4+YS]. The moves of
a bundle, here those of NOP, load D[CD] from the C bus, D[SD] from the S bus, D6 or D7 from the mailbox page (in a REP
body only, MP goes on; elsewhere LDPOUT), each for every enabled lane, or store D[SD] to state memory; CINC and SINC post-update
their pointer, also without a move. -/
def Obligations.LoopDataResults : Prop :=
  ∀ (e : Fin 8) (b : LaBundle) (s : State), LoopReady s e → (s.run e).ctl = none →
    let a := s.seen e
    let h (k : Nat) : Int := (a.av k b.ad.toNat + 32768) / 65536
    let gives (f : Nat → Nat → Option Int) (a' : Act) : Prop := a.Onward a' ∧
      (∀ k < 4, ∀ j < 8, a'.drain.dv k j = if bitOf a.lm k then (f k j).getD (a.drain.dv k j) else a.drain.dv k j) ∧
      (∀ k < 4, ∀ j < 4, a'.drain.av k j = a.drain.av k j)
    ((s.run e).rep = none → stillBundle b →
      (Completes (.lRnd e b) s (LoopDone e (fun a' => gives (fun k j => if j = b.xs.toNat then
          some (if b.s then nearest 16 (h k) else (BitVec.ofInt 16 (h k)).toInt) else none) a' ∧
        (∀ k < 4, bitOf a'.drain.ov k = (bitOf a.drain.ov k || (bitOf a.lm k && !b.s && nearest 16 (h k) != h k))) ∧
        (∀ k < 4, bitOf a'.drain.sv k = (bitOf a.drain.sv k || (bitOf a.lm k && b.s && nearest 16 (h k) != h k)))) s)) ∧
      (Completes (.lMovd e b) s (LoopDone e
        (gives fun k j => if j = b.xs.toNat then some (a.dv k (4 + b.ys.toNat)) else none) s)) ∧
      (Completes (.lNop e b) s (LoopDone e (gives fun _ _ => none) s))) ∧
    ((s.run e).rep = none → s.flt.badEcc = [] →
      (b.cen = true → b.sk = 0 → b.pen = false → b.sinc = false → a.ptrBad b.cix.toNat = false →
        Completes (.lNop e b) s (LoopDone e (fun a' => gives (fun k j => if j = b.cd.toNat then
            some (s.half (leCoef e (s.coefWord e a (a.addr b.cix.toNat k)))).toInt else none) a' ∧
          a'.ix = if b.cinc then (a.bump b.cix.toNat).ix else a.ix) s)) ∧
      (b.cen = false → b.cinc = false → b.sk = 1 → b.pen = false → a.ptrBad (4 + b.six.toNat) = false →
        Completes (.lNop e b) s (LoopDone e (fun a' => gives (fun k j => if j = b.sd.toNat then
            some (s.busS e (a.addr (4 + b.six.toNat) k)).toInt else none) a' ∧
          a'.ix = if b.sinc then (a.bump (4 + b.six.toNat)).ix else a.ix) s)) ∧
      (b.cen = false → b.cinc = false → b.sk = 0 → b.sinc = true → b.pen = false → a.ptrBad (4 + b.six.toNat) = false →
        Completes (.lNop e b) s (LoopDone e (fun a' => gives (fun _ _ => none) a' ∧ a'.ix = (a.bump (4 + b.six.toNat)).ix) s)) ∧
      (b.cen = false → b.cinc = false → b.sk = 2 → b.pen = false → a.ptrBad (4 + b.six.toNat) = false → s.flt.inj = none →
        cfgBc (a.cfg (4 + b.six.toNat)) = true → a.addr (4 + b.six.toNat) 0 % 32768 < 0x7F00 → a.lm % 16 = 1 →
        Completes (.lNop e b) s fun t => Stored (leState e (a.addr (4 + b.six.toNat) 0 % 32768)) 2
            (BitVec.ofInt 16 (a.dv 0 b.sd.toNat)).toNat s t ∧ SameBut [.engines, .mem, .regs .le] s t)) ∧
    (b.cen = false → b.sk = 0 → b.pen = true → b.cinc = false → b.sinc = false →
      ((s.run e).rep ≠ none → a.pageBad.contains a.mp = false → Completes (.lNop e b) s (LoopDone e (fun a' => a'.mp = (a.mp + 1) % 256 ∧
        ∀ k < 4, ∀ j < 8, a'.drain.dv k j = if bitOf a.lm k ∧ j = (if b.pd then 7 else 6) then
          (tget (0 : BitVec 16) a.page a.mp).toInt else a.drain.dv k j) s)) ∧
      ((s.run e).rep = none → Completes (.lNop e b) s fun t => t.fld (F.LE_EXC_CODE e) = 5))

/-- REP begins COUNT or LC passes through the bundles behind it, which the repeat cache takes with the tag of its set, or skips
them for 0; BRL goes to its target, or to the bundle
behind its two delay slots, if its condition on the lowest enabled lane holds or not, COND 1 counting LC down; ACT ends the
activation after two delay slots; LDX, CFX, LDLC, SETLM and LDMP set their register; MOVI, CLRA and CLRS send their values
to the enabled lanes. -/
def Obligations.LoopControl : Prop :=
  ∀ (e : Fin 8) (src : Bool) (count : BitVec 10) (len : BitVec 5) (cond : BitVec 3) (ad : BitVec 2) (disp : BitVec 14)
    (ix : BitVec 3) (v : BitVec 16) (bc : Bool) (mode : BitVec 2) (step : BitVec 8) (ln : BitVec 10) (m : BitVec 4) (s : State),
    LoopReady s e → (s.run e).rep = none → (s.run e).ctl = none →
    let a := s.seen e
    let n := if src then a.lc else count.toNat
    let low : Nat := if bitOf a.lm 0 then 0 else if bitOf a.lm 1 then 1 else if bitOf a.lm 2 then 2 else 3
    let w := a.av low ad.toNat
    let holds := [true, a.lc != 0, decide (w < 0), w == 0, bitOf a.clp low, bitOf a.ov low, decide (0 ≤ w)].getD cond.toNat false
    let target : Int := if holds then a.pc + disp.toInt else a.pc + 3
    let plain (P : Act → Prop) (t : State) : Prop := LoopDone e (fun a' => a.Onward a' ∧ P a') s t
    (a.pc + len.toNat + 1 ≤ 8191 → n = 0 → Completes (.lRep e src count len) s (LoopDone e (fun a' =>
      a'.rep = none ∧ a'.pc = a.pc + 2 + len.toNat) s)) ∧
    (a.pc + len.toNat + 1 ≤ 8191 → n ≠ 0 → s.eccBad (leProg e (a.pc + 1)) (4 * (len.toNat + 1)) = false →
      Completes (.lRep e src count len) s fun t =>
        LoopDone e (fun a' => a'.rep = some { start := a.pc + 1, len := len.toNat + 1, left := n, idx := 0, fill := (len.toNat + 4) / 4, fillFrom := s.tbc }) s t ∧
        (t.engine e).cache.map RepCache.set = some a.set) ∧
    (cond ≠ 7 → a.lm % 16 ≠ 0 → 0 ≤ target → target ≤ 8191 → Completes (.lBrl e cond ad disp) s (plain (fun a' =>
      a'.ctl = some (some target.toNat, 2) ∧ a'.lc = if cond = 1 then (a.lc + 65535) % 65536 else a.lc))) ∧
    (a.pc + 2 ≤ 8191 → Completes (.lAct e) s (plain (fun a' => a'.ctl = some (none, 2) ∧ a'.actAt = some s.tbc))) ∧
    (Completes (.lLdx e ix v) s (plain (fun a' => ∀ j < 8, a'.ixv j = if j = ix.toNat then v.toNat else a.ixv j))) ∧
    (mode ≠ 3 → Completes (.lCfx e ix bc mode step ln) s (plain (fun a' => cfgBc (a'.cfg ix.toNat) = bc ∧
      cfgMode (a'.cfg ix.toNat) = mode.toNat ∧ cfgStep (a'.cfg ix.toNat) = step.toInt ∧ cfgLen (a'.cfg ix.toNat) = ln.toNat + 1 ∧
      ∀ j < 8, j ≠ ix.toNat → a'.cfg j = a.cfg j))) ∧
    (Completes (.lLdlc e v) s (plain (fun a' => a'.lc = v.toNat))) ∧
    (m ≠ 0 → Completes (.lSetlm e m) s (plain (fun a' => a'.lm = m.toNat))) ∧
    (Completes (.lLdmp e step) s (plain (fun a' => a'.mp = step.toNat))) ∧
    (Completes (.lMovi e ix v) s (plain (fun a' => (∀ k < 4, ∀ j < 8, a'.dv k j = a.dv k j) ∧
      ∀ k < 4, ∀ j < 8, a'.drain.dv k j = if bitOf a.lm k ∧ j = ix.toNat then v.toInt else a.drain.dv k j))) ∧
    (Completes (.lClra e ad) s (plain (fun a' =>
      ∀ k < 4, ∀ j < 4, a'.drain.av k j = if bitOf a.lm k ∧ j = ad.toNat then 0 else a.drain.av k j))) ∧
    (Completes (.lClrs e) s (plain (fun a' => ∀ k < 4,
      bitOf a'.drain.ov k = (bitOf a.drain.ov k && !bitOf a.lm k) ∧ bitOf a'.drain.sv k = (bitOf a.drain.sv k && !bitOf a.lm k))))

/-- A C-profile or unlisted word, BRL with COND 7, SETLM with mask 0 and CFX with MODE 3 raise UNDEF: SLOT, SET, CODE and PC of the
exception register name it, the slot is disabled with EXC set, and the activation is taken off the engine; so do REP and BRL
in a delay slot with PLACEMENT. -/
def Obligations.LoopExceptions : Prop :=
  ∀ (e : Fin 8) (ad : BitVec 2) (disp : BitVec 14) (ix : BitVec 3) (step : BitVec 8) (ln : BitVec 10) (w : Word) (s : State), LoopReady s e →
    let a := s.seen e
    let raised (code : Nat) (t : State) : Prop :=
      t.fld (F.LE_EXC_SLOT e) = a.slot % 64 ∧ t.fld (F.LE_EXC_SET e) = a.set % 4 ∧ t.fld (F.LE_EXC_CODE e) = code ∧
      t.fld (F.LE_EXC_PC e) = a.here ∧ t.flag (F.LE_SLOTCFG_EN a.slot) = false ∧ t.flag (F.LE_SLOTSTAT_EXC a.slot) = true ∧
      (t.engine e).stack = (s.engine e).stack.filter fun x => x.set != a.set
    (listedL w = false → Completes (.undefBundle ⟨e, w⟩) s (raised 1)) ∧
    (Completes (.lBrl e 7 ad disp) s (raised 1)) ∧
    (Completes (.lSetlm e 0) s (raised 1)) ∧
    (Completes (.lCfx e ix true 3 step ln) s (raised 1)) ∧
    (a.rep = none → a.ctl ≠ none → Completes (.lRep e false 1 0) s (raised 4) ∧ Completes (.lBrl e 0 ad disp) s (raised 4))

/-- Outside VAULT and with no injection armed: a 32-bit write of a register of CBUS, PART, HOST, NET or PP gives each
field what its type and level say and changes no other register and no other part; one to an offset of a listed range
that carries no register changes nothing; a narrow write, one that failed parity four times and one outside the listed
ranges raise BUS_ACCESS (source 2). In VAULT nothing changes.
A write of the register with EXPERT_EN, outside VAULT and to no die that is dark: in CBUS, PART, HOST, NET and PP
EXPERT_EN reads what was written; and in every block a write that clears it leaves every expert field of the block at
its reset value, CLK_FDDLYd at the delay that DAWN measured. -/
def Obligations.RegisterWrites : Prop :=
  (∀ (o : Origin) (off : BitVec 24) (w : Width) (v : Word) (bad : Fin 5) (r : RegRow) (s : State),
     let a := 0xF0000000 + off.toNat / 4 * 4
     (s.mode = 0 → Completes (.registerWrite o off w v bad) s (SameBut [] s)) ∧
     (s.mode ≠ 0 → s.flt.inj = none →
       (w ≠ .b4 → Completes (.registerWrite o off w v bad) s (Raised 2 s)) ∧
       (bad = 4 → Completes (.registerWrite o off w v bad) s (Raised 2 s)) ∧
       (isRegister a = false → Completes (.registerWrite o off w v bad) s (Raised 2 s)) ∧
       (bad < 4 → isRegister a = true →
         (regRow a = none → Completes (.registerWrite o off .b4 v bad) s (SameBut [] s)) ∧
         (regRow a = some r → quietBlock a = true → a ≠ expertReg a →
           Completes (.registerWrite o off .b4 v bad) s fun t =>
             Written r (s.expertOn a) v (s.reg a) (t.reg a) ∧ (∀ b, b ≠ a → t.reg b = s.reg b) ∧
             SameBut [.regs (blockOf a)] s t)))) ∧
  (∀ (o : Origin) (off : BitVec 24) (v : Word) (b : Nat) (r : RegRow) (f : FieldDef) (s : State),
     let a := expertReg (0xF0000000 + off.toNat)
     s.mode ≠ 0 → s.flt.inj = none → isRegister a = true → (regRow a).isSome = true →
     (0xF0600000 ≤ a → s.dieDark ((a - 0xF0600000) / 0x40000) = false) →
     (quietBlock a = true → Completes (.expertEnWrite o off v) s fun t => t.expertOn a = v.getLsbD 31) ∧
     (s.expertOn a = true → v.getLsbD 31 = false → expertReg b = a → regRow b = some r → f ∈ r.fields → f.expert = true →
       Completes (.expertEnWrite o off v) s fun t =>
         bitsOf (t.reg b) f.lo (f.hi + 1 - f.lo) =
           if 0xF0010010 ≤ b ∧ b < 0xF0010020 then s.sys.dawnOk.delays.getD ((b - 0xF0010010) / 4) 0 % 256
           else f.reset % 2 ^ (f.hi + 1 - f.lo)))

/-- An access of the LPDDR range above the fitted capacity raises MEM_RANGE (source 3), one outside every listed range
raises BUS_ACCESS (source 2); a read gives 0, and neither changes memory. -/
def Obligations.OutsideAccesses : Prop :=
  ∀ (write : Bool) (a : BitVec 40) (s : State),
    let done (n : Nat) (t : State) := Raised n s t ∧ (∀ b, t.byte b = s.byte b) ∧ (t.rdata = if write then s.rdata else [0])
    (0x1000000000 + s.fld F.SYS_MEMSIZE_MIB * 0x100000 ≤ a.toNat → a.toNat < 0x1400000000 →
      0x1000000000 ≤ a.toNat → Completes (.lpddrRangeAccess write a) s (done 3)) ∧
    (0x1000000 ≤ a.toNat → a.toNat < 0x10000000 → Completes (.unmappedAccess write a) s (done 2)) ∧
    (0x10800000 ≤ a.toNat → a.toNat < 0xF0000000 → Completes (.unmappedAccess write a) s (done 2)) ∧
    (0x1400000000 ≤ a.toNat → a.toNat < 0x4000000000 → Completes (.unmappedAccess write a) s (done 2)) ∧
    (0x8000000000 ≤ a.toNat → Completes (.unmappedAccess write a) s (done 2))

/-- Outside VAULT, with no injection armed. In the window of a dark die a write of anything but DIE_CMD changes nothing,
and a read of anything but DIE_STAT, DIE_CMDSTAT, a CH_STAT and the varnish-seal area gives 0. In that of a lit die a read gives the
register, AOUT_STAT and FIO_STAT apart, and a write of a register that starts no operation gives each field what its
type and level say, and changes nothing else. -/
def Obligations.DieWindow : Prop :=
  ∀ (o : Origin) (d : Fin 4) (off : BitVec 18) (v : Word) (r : RegRow) (s : State),
    let x := off.toNat / 4 * 4
    let a := 0xF0600000 + 0x40000 * d.val + x
    s.mode ≠ 0 → s.flt.inj = none →
    (s.dieDark d = true → x ≠ 0x10008 → Completes (.fdWindowAccessComplete o d off true v) s (SameBut [] s)) ∧
    (s.dieDark d = true → x ≠ 0x10004 → x ≠ 0x1000C → (x < 0x10000 → x % 0x800 ≠ 4) → (x < 0x11000 ∨ 0x118E8 ≤ x) →
      Completes (.fdWindowAccessComplete o d off false v) s fun t => t.rdata = [0] ∧ SameBut [.rdata] s t) ∧
    (s.dieDark d = false → (x < 0x11000 ∨ 0x118E8 ≤ x) → (x < 0x10000 → x % 0x800 ≠ 0xA8 ∧ x % 0x800 ≠ 0x108) →
      Completes (.fdWindowAccessComplete o d off false v) s fun t => t.rdata = [s.reg a] ∧ SameBut [.rdata] s t) ∧
    (s.dieDark d = false → regRow a = some r →
      (if x < 0x10000 then x % 0x800 ∉ [0, 0x10, 0xA0, 0x100, 0x104] else x ∉ [0x10000, 0x10008] ∧
        ¬ (0x10020 ≤ x ∧ x < 0x10030) ∧ ¬ (0x100C0 ≤ x ∧ x < 0x100C8)) →
      Completes (.fdWindowAccessComplete o d off true v) s fun t =>
        Written r (s.expertOn a) v (s.reg a) (t.reg a) ∧ (∀ b, b ≠ a → t.reg b = s.reg b) ∧ SameBut [.regs .fd] s t)

/-- FAULT_RAISE of a source that exists, in a count in which no cause of a mode change has acted yet, counts in RAISES. While the source is uncleared it changes nothing else but MULTI,
for another unit. Else severity 0 leaves it cleared, and any higher one leaves it uncleared at that EFF_SEV with its
unit; 3 takes RUN and ENGINEER to HOLD, 4 takes RUN, HOLD, ENGINEER and FOLLOW to IDLE, 5 puts the sentinel into LOCKOUT
and the device with it, but in VAULT and DAWN. A condition is active from then on. -/
def Obligations.FaultRaises : Prop :=
  ∀ (n : Fin 512) (unit : Fin 4096) (named : Fin 6) (cond : Bool) (s : State), fltExists n = true →
    (s.sys.causeAt.all fun c => c.1 != s.tbc) = true →
    let x := s.src n
    let sev := min 5 (max (max (s.fld (F.FLT_CFG0_SEV n)) (s.fld (F.FLT_CFG0_MIN n))) named.val + (if x.esc then 1 else 0))
    let m := s.fld F.SYS_MODE_MODE
    Completes (.faultRaise n unit named cond) s fun t =>
      (t.src n).raises = min 65535 (x.raises + 1) ∧ (t.src n).active = (x.active || cond) ∧
      (∀ k, k ≠ n.val → t.src k = s.src k) ∧
      (x.pending = true → (t.src n).pending = true ∧ (t.src n).effSev = x.effSev ∧ (t.src n).unit = x.unit ∧
        (t.src n).multi = (x.multi || decide (unit.val ≠ x.unit)) ∧ SameBut [.flt] s t) ∧
      (x.pending = false → sev = 0 → (t.src n).pending = false ∧ SameBut [.flt, .evl, .vault] s t) ∧
      (x.pending = false → 1 ≤ sev →
        (t.src n).pending = true ∧ (t.src n).effSev = sev ∧ (t.src n).unit = unit.val ∧ (t.src n).multi = false ∧
        t.fld F.SYS_MODE_MODE =
          (if sev = 3 ∧ (m = 3 ∨ m = 5) then 4 else if sev = 4 ∧ (3 ≤ m ∧ m ≤ 6) then 2
           else if sev = 5 ∧ s.fld F.SAFE_STAT_STATE ≠ 1 ∧ 2 ≤ m ∧ m ≤ 6 then 7 else m) ∧
        (sev = 5 → t.fld F.SAFE_STAT_STATE = 1 ∧
          (s.fld F.SAFE_STAT_STATE ≠ 1 → t.fld F.SAFE_STAT_REASON = 9)))

/-- FLT_CLEAR, FLT_CLEAR_ALL, RAISE and INJECT report their CODE. Without the key they report BADKEY (4) and CODE stays, in DAWN
REFUSED_STATE (2), and do nothing. FLT_CLEAR clears an inactive source, and reports REFUSED_FAULT (3) of an active one;
FLT_CLEAR_ALL clears every inactive source; RAISE raises a software source (448 up); INJECT, in IDLE or ENGINEER with a
checker 1 to 6 named and none armed, arms an injection, which lapses with TIMEOUT (8) after 1 s.
QUIET_EXPIRY of an inactive, unescalated source of EFF_SEV 1 to 3, QUIET ms after its last activity, clears it and
counts in RECOV; or, if ESC_LIM automatic clears would fall within ESC_WIN seconds, leaves it uncleared with ESC and
EFF_SEV one higher. SEV_WRITE leaves SEV not below Min and an uncleared source at the severity that follows; at 0 it clears, and RECOV
does not count. -/
def Obligations.FaultCommandsAndQuiet : Prop :=
  (∀ (o : Origin) (key : Byte) (i : Injection) (s : State),
     let n := s.fld F.FLT_ARG_SOURCE
     let m := s.fld F.SYS_MODE_MODE
     let reports (c r : Nat) (t : State) := t.fld F.FLT_CMDSTAT_CODE = c ∧ t.fld F.FLT_CMDSTAT_RESULT = r
     let cleared (x y : FltSrc) := y.pending = false ∧ y.effSev = 0 ∧ y.esc = false ∧ y.multi = false ∧ y.raises = x.raises
     (∀ p ∈ ([(1, .fltClear), (2, .fltClearAll), (3, .raise), (4, .inject)] : List (Nat × (Origin → Byte → Instr))),
       (key ≠ 0xA5 → Completes (p.2 o key) s fun t => reports (s.fld F.FLT_CMDSTAT_CODE) 4 t ∧ SameBut [.regs .flt] s t) ∧
       (key = 0xA5 → m = 1 → Completes (p.2 o key) s fun t => reports p.1 2 t ∧ SameBut [.regs .flt] s t)) ∧
     (m ≠ 1 →
       ((s.src n).active = true → Completes (.fltClear o 0xA5) s fun t => reports 1 3 t ∧ SameBut [.regs .flt] s t) ∧
       ((s.src n).active = false → Completes (.fltClear o 0xA5) s fun t =>
         reports 1 0 t ∧ cleared (s.src n) (t.src n) ∧ (∀ k, k ≠ n → t.src k = s.src k) ∧ SameBut [.flt, .regs .flt] s t) ∧
       (Completes (.fltClearAll o 0xA5) s fun t =>
         reports 2 0 t ∧ (∀ k, if (s.src k).active then t.src k = s.src k else cleared (s.src k) (t.src k)) ∧
         SameBut [.flt, .regs .flt] s t) ∧
       (448 ≤ n → Completes (.raise o 0xA5) s fun t => reports 3 0 t ∧ Raised n s t) ∧
       (n < 448 → Completes (.raise o 0xA5) s fun t => reports 3 2 t ∧ SameBut [.regs .flt] s t) ∧
       (m = 2 ∨ m = 5 → 1 ≤ s.fld F.FLT_INJ_CHK → s.fld F.FLT_INJ_CHK ≤ 6 → s.flt.inj = none →
         Completes (.inject o 0xA5) s fun t => reports 4 1 t ∧ t.fld F.FLT_CMDSTAT_INJ_PEND = 1 ∧
           t.flt.inj = some ⟨s.fld F.FLT_INJ_CHK, if s.fld F.FLT_INJ_NBITS = 2 then 2 else 1, s.fld F.FLT_INJ_TARGET,
             s.fld F.FLT_INJADDR_L_ADDR + 2 ^ 32 * s.fld F.FLT_INJADDR_H_ADDR, s.tbc + 250000000⟩ ∧
           SameBut [.flt, .regs .flt] s t) ∧
       ((m ≠ 2 ∧ m ≠ 5) ∨ s.flt.inj ≠ none → Completes (.inject o 0xA5) s fun t => reports 4 2 t ∧ SameBut [.regs .flt] s t)) ∧
     (s.flt.inj = some i → i.lapse ≤ s.tbc → Completes .injectionLapse s fun t =>
       t.flt.inj = none ∧ t.fld F.FLT_CMDSTAT_INJ_PEND = 0 ∧ t.fld F.FLT_CMDSTAT_RESULT = 8 ∧ SameBut [.flt, .regs .flt] s t)) ∧
  (∀ (o : Origin) (n : Fin 512) (v : Word) (s : State),
     let x := s.src n
     let lim := s.fld (F.FLT_CFG0_ESC_LIM n)
     let win := max 1 (s.fld (F.FLT_CFG1_ESC_WIN n))
     let full := lim = 1 ∨ (2 ≤ lim ∧ ∃ c, x.clears[lim - 2]? = some c ∧ s.vault.opt - c ≤ win * 1024)
     let set := max (v.toNat % 8) (s.fld (F.FLT_CFG0_MIN n))
     let sev := min 5 (max set x.named + (if x.esc then 1 else 0))
     (x.pending = true → x.active = false → x.esc = false → 1 ≤ x.effSev → x.effSev ≤ 3 →
       x.lastActive + 250000 * max 1 (s.fld (F.FLT_CFG1_QUIET n)) ≤ s.tbc →
       (full → Completes (.quietExpiry n) s fun t =>
         (t.src n).pending = true ∧ (t.src n).esc = true ∧ (t.src n).effSev = x.effSev + 1 ∧ (t.src n).recov = x.recov) ∧
       (¬ full → Completes (.quietExpiry n) s fun t =>
         (t.src n).pending = false ∧ (t.src n).effSev = 0 ∧ (t.src n).recov = min 65535 (x.recov + 1) ∧
         (t.src n).clears = (s.vault.opt :: x.clears).take lim ∧ (∀ k, k ≠ n.val → t.src k = s.src k) ∧ SameBut [.flt] s t)) ∧
     (Completes (.sevWrite o n v) s fun t =>
       t.fld (F.FLT_CFG0_SEV n) = set ∧ (t.src n).recov = x.recov ∧ (t.src n).raises = x.raises ∧
       (x.pending = true → if sev = 0 then (t.src n).pending = false
         else (t.src n).pending = true ∧ ((t.src n).effSev = sev)) ∧
       (x.pending = false → (t.src n).pending = false ∧ SameBut [.regs .flt] s t)))

/-- EVL_WRITE and CLEAR_LOG report their CODE, and without the key BADKEY (4) with CODE as it was. While the log is open, has a free slot and
has written since DAWN: EVL_WRITE of a code 0xC00 up whose rate limit leaves a token writes its record with the next SEQ
and the arguments of EVL_WARG, and takes one token; with no token left it counts one more suppressed and writes nothing; a lower
code is refused (2). CLEAR_LOG in ENGINEER leaves one record, 'log cleared'; else it is refused.
A write of EVL_RDSEL shows the record of the slot it names, byte for byte, in EVL_REC0 to EVL_REC7, zeros for an empty one; a
write of EVL_CODEc sets its severity, but RL_EN stays 0 for the force codes; and TOKEN_REFILL, where the time since DAWN is a multiple of
2^K ms, gives the code one token back. -/
def Obligations.EventLog : Prop :=
  (∀ (o : Origin) (key : Byte) (c : Fin 4096) (s : State),
     let reports (n r : Nat) (t : State) := t.fld F.EVL_CMDSTAT_CODE = n ∧ t.fld F.EVL_CMDSTAT_RESULT = r
     let b := tget {} s.evl.buckets c
     let limited := s.fld (F.EVL_CODE_RL_EN c) = 1 ∧ c.val ≠ Happening.logCleared.code
     let spent := limited ∧ max 1 (s.fld (F.EVL_CODE_BURST c)) ≤ b.taken
     (key ≠ 0xA5 →
       (Completes (.evlWrite o key c) s fun t => reports (s.fld F.EVL_CMDSTAT_CODE) 4 t ∧ SameBut [.regs .evl] s t) ∧
       (Completes (.clearLog o key) s fun t => reports (s.fld F.EVL_CMDSTAT_CODE) 4 t ∧ SameBut [.regs .evl] s t)) ∧
     (c.val < 0xC00 → Completes (.evlWrite o 0xA5 c) s fun t => reports 1 2 t ∧ SameBut [.regs .evl] s t) ∧
     (s.evl.closed = false → s.evl.firstDone = true →
       (0xC00 ≤ c.val →
         (spent → Completes (.evlWrite o 0xA5 c) s fun t => reports 1 0 t ∧ t.evl.slots = s.evl.slots ∧
           tget {} t.evl.buckets c = { b with supp := min 65535 (b.supp + 1) } ∧ SameBut [.evl, .regs .evl] s t) ∧
         (¬ spent → lowestFree 0 s.evl.slots < 8192 → Completes (.evlWrite o 0xA5 c) s fun t => reports 1 0 t ∧
           t.evl.seq = (s.evl.seq + 1) % 2 ^ 32 ∧
           Recorded c (min 5 (s.fld (F.EVL_CODE_SEV c))) (s.fld F.EVL_WARG0_ARG0) (s.fld F.EVL_WARG1_ARG1) b.supp s t ∧
           tget {} t.evl.buckets c = { taken := if limited then b.taken + 1 else b.taken, supp := 0 } ∧
           SameBut [.evl, .regs .evl] s t)) ∧
       (s.fld F.SYS_MODE_MODE = 5 → Completes (.clearLog o 0xA5) s fun t => reports 2 0 t ∧
         t.evl.slots.map (fun p => (p.1, p.2.code, p.2.arg0, p.2.seq)) =
           [(0, Happening.logCleared.code, s.evl.seq % 2 ^ 32, (s.evl.seq + 1) % 2 ^ 32)] ∧ SameBut [.evl, .regs .evl] s t)) ∧
     (s.fld F.SYS_MODE_MODE ≠ 5 → Completes (.clearLog o 0xA5) s fun t => reports 2 2 t ∧ SameBut [.regs .evl] s t)) ∧
  (∀ (o : Origin) (c : Fin 4096) (k : Fin 8) (v : Word) (s : State),
     let b := tget {} s.evl.buckets c
     let bytes := ((tlook s.evl.slots (v.toNat % 8192)).map EvlRec.bytes).getD []
     (Completes (.evlRdselWrite o v) s fun t =>
       t.fld (F.EVL_REC_WORD k) = bytes.getD (4 * k) 0 + 2 ^ 8 * bytes.getD (4 * k + 1) 0 + 2 ^ 16 * bytes.getD (4 * k + 2) 0 +
         2 ^ 24 * bytes.getD (4 * k + 3) 0 ∧
       SameBut [.regs .evl] s t) ∧
     (Completes (.evlCodeWrite o c v) s fun t =>
       t.fld (F.EVL_CODE_SEV c) = bitsOf v (F.EVL_CODE_SEV c).lo 3 ∧
       (0x500 ≤ c.val → c.val < 0x600 → t.fld (F.EVL_CODE_RL_EN c) = 0) ∧
       (c.val < 0x500 ∨ 0x600 ≤ c.val → c.val ≠ Happening.logCleared.code →
         t.fld (F.EVL_CODE_RL_EN c) = bitsOf v (F.EVL_CODE_RL_EN c).lo 1) ∧
       tget {} t.evl.buckets c = (if s.fld F.EVL_CTRL_EXPERT_EN = 1 then { b with taken := 0 } else b) ∧
       SameBut [.evl, .regs .evl] s t) ∧
     (s.tbc % (250000 * 2 ^ s.fld (F.EVL_CODE_K c)) = 0 → Completes (.tokenRefill c) s fun t =>
       tget {} t.evl.buckets c = { b with taken := b.taken - 1 } ∧
       (∀ d, d ≠ c.val → tget {} t.evl.buckets d = tget {} s.evl.buckets d) ∧ SameBut [.evl] s t))

/-- CLEAR_TAMP in ENGINEER clears VAULT_TAMP, elsewhere it is refused (2), and without the key it reports BADKEY (4).
VBAT_LOST while VSEN is absent sets bit 0 and loses the clocks, the counters, the latches and the user area; XTAL_STOP sets bit 1 and leaves the
outage length unknown; the second CASE_OPEN sample in a row that is low sets bit 2. -/
def Obligations.VaultEvents : Prop :=
  ∀ (o : Origin) (key : Byte) (low : Bool) (s : State),
    let reports (r : Nat) (t : State) := t.fld F.EVL_CMDSTAT_CODE = 1 ∧ t.fld F.EVL_CMDSTAT_RESULT = r
    (key ≠ 0xA5 → Completes (.clearTamp o key) s fun t => t.fld F.EVL_CMDSTAT_CODE = s.fld F.EVL_CMDSTAT_CODE ∧ t.fld F.EVL_CMDSTAT_RESULT = 4 ∧ SameBut [.regs .evl] s t) ∧
    (s.fld F.SYS_MODE_MODE = 5 → Completes (.clearTamp o 0xA5) s fun t =>
      reports 0 t ∧ t.vault = { s.vault with tamp := 0 } ∧ SameBut [.vault, .regs .evl] s t) ∧
    (s.fld F.SYS_MODE_MODE ≠ 5 → Completes (.clearTamp o 0xA5) s fun t => reports 2 t ∧ SameBut [.regs .evl] s t) ∧
    (s.sys.vsen = false → Completes .vbatLost s fun t =>
      t.vault.tamp = withBit s.vault.tamp 0 true ∧ t.vault.lost = true ∧ t.vault.outageUnknown = true ∧
      t.vault.opt = 0 ∧ t.vault.pcyc = 0 ∧ t.vault.ram = [] ∧ t.vault.latA = [] ∧ t.vault.latB = [] ∧
      t.vault.duskSlot = none ∧ SameBut [.vault, .free] s t) ∧
    (Completes .xtalStop s fun t =>
      t.vault = { s.vault with tamp := withBit s.vault.tamp 1 true, outageUnknown := true } ∧ SameBut [.vault] s t) ∧
    (Completes (.caseOpen low) s fun t =>
      t.vault.tampLow = low ∧
      t.vault.tamp = (if low = true ∧ s.vault.tampLow = true then withBit s.vault.tamp 2 true else s.vault.tamp) ∧
      { t.vault with tamp := s.vault.tamp, tampLow := s.vault.tampLow } = s.vault ∧
      SameBut [.vault] s t)

/-- At a tick with no time command or update to commit and no stream on: delayed entries whose tick has come are queued in their order; a
cyclic task alone due is started as a queued start, or counted in SKIPS if it is held, disabled or halted, or counted in
OVERRUNS with its source (40) raised if it runs or is queued; its next start is one of its start instants. CORE_CLAIM, with no entry that cannot be read: where `c` is the only
idle core and every candidate is without affine core or affine to `c`, or `c` is the lowest of the idle cores and no candidate has an
affine core, so that all of them choose the same, `c` starts the first in the order of R201, and no other core starts anything. An affinity wait expires AFF_WAIT µs after
it began. -/
def Obligations.Dispatching : Prop :=
  ∀ (c : Fin 8) (d : TaskDesc) (x : Cand) (key since : Nat) (gone : Bool) (s : State),
    let k := s.tbc / 250
    let halted := s.scan.execs.any fun p => p.2.task == d.num && p.2.halted
    let busy := s.taskRunning d.num || s.sched.starts.any fun y => y.task == d.num
    (TickReady s → s.dueTasks = [] → Completes .dispatcherTick s fun t =>
      t.sched.tick = k ∧ t.sched.delayed = s.sched.delayed.filter (fun y => k < y.2.1) ∧
      t.sched.entries = s.sched.entries ++ (s.sched.delayed.filter fun y => y.2.1 ≤ k).map (fun y => y.2.2) ∧
      t.sched.starts = s.sched.starts ∧ SameBut [.sched, .time, .cbus, .regs .time] s t) ∧
    (TickReady s → s.dueTasks = [d] →
      (s.taskHeld d.num = true ∨ halted = true → Completes .dispatcherTick s fun t =>
        t.fld (F.TASK_STAT_SKIPS d.num) = min (2 ^ (F.TASK_STAT_SKIPS d.num).width - 1) (s.fld (F.TASK_STAT_SKIPS d.num) + 1) ∧
        t.sched.starts = s.sched.starts ∧ tget 0 t.sched.next d.num = nextTickOf d k) ∧
      (s.taskHeld d.num = false → halted = false → busy = true → Completes .dispatcherTick s fun t =>
        t.fld (F.TASK_STAT_OVERRUNS d.num) =
          min (2 ^ (F.TASK_STAT_OVERRUNS d.num).width - 1) (s.fld (F.TASK_STAT_OVERRUNS d.num) + 1) ∧ Raised 40 s t) ∧
      (s.taskHeld d.num = false → halted = false → busy = false → Completes .dispatcherTick s fun t =>
        t.sched.starts = s.sched.starts ++ [{ task := d.num, prio := d.prio, tick := k }] ∧
        tget 0 t.sched.next d.num = nextTickOf d k ∧ SameBut [.sched, .time, .cbus, .regs .time] s t)) ∧
    (s.coreIdle c = true → (∀ b : Fin 8, b < c → s.coreIdle b = false) → (∀ y ∈ s.sched.entries, y.bad = false) →
      ((∀ b : Fin 8, b ≠ c → s.coreIdle b = false) ∧
          (∀ y ∈ s.cands, s.affineCore y.task = none ∨ s.affineCore y.task = some c.val) ∨
        (∀ y ∈ s.cands, s.affineCore y.task = none)) → x ∈ s.cands →
      (∀ y ∈ s.cands, y ≠ x → lexLt x.rank y.rank = true) → Completes .coreClaim s fun t =>
        (tlook t.scan.execs c).map (fun e => (e.task, e.cause, e.start, e.halted)) = some (x.task, x.cause, s.tbc, false) ∧
        Started c x.task s t ∧ t.affineCore x.task = some c.val ∧ SameBut [.mem, .sched, .scan, .part, .cores, .outbox] s t) ∧
    (tlook s.sched.waits key = some (some (since, gone)) → Completes .affinityWaitExpiry s fun t =>
      tlook t.sched.waits key = some (some (since, gone || decide (since + 250 * min 10 (s.fld F.SCHED_CTRL_AFF_WAIT) ≤ s.tbc))) ∧
      SameBut [.sched] s t)

/-- TASK_END ends the execution on a core that runs: each staged word takes its masked bits, no other byte changes, and the execution is counted as
ended. WATCHDOG ends one that has run longer than EXEC_MAX, its halted time not counted: the staged words are dropped,
memory is as before unless the task asks for safe values, and its error task gets reason 3 with EXEC_MAX and PC. SCHED_GRPACK with its key releases
the frozen group, without it does nothing. -/
def Obligations.EndsOfExecutions : Prop :=
  ∀ (o : Origin) (c : Fin 8) (e : Exec) (d : TaskDesc) (n : Nat) (v : Word) (s : State),
    let ran := (if e.halted then e.haltedFrom else s.tbc) - e.start - e.haltedFor
    (tlook s.scan.execs c = some e → s.coreRuns c = true → (e.staged.map Prod.fst).Nodup → Completes (.taskEnd c) s fun t =>
      tlook t.scan.execs c = none ∧ t.endCount e.task = s.endCount e.task + 1 ∧
      (∀ p ∈ e.staged, t.word (4 * p.1) = (s.word (4 * p.1) &&& ~~~p.2.2) ||| (p.2.1 &&& p.2.2)) ∧
      (∀ b, b / 4 ∉ e.staged.map Prod.fst → t.byte b = s.byte b) ∧
      SameBut [.mem, .sched, .scan, .fw, .cores, .out, .cbus, .cans, .outbox, .regs .sys, .regs .can] s t) ∧
    (tlook s.scan.execs c = some e → s.task e.task = some d → d.execMax ≠ 0 → 2500 * d.execMax < ran →
      (d.kind = .cyclic ∨ d.kind = .event) → s.errTaskOf e.task = some n → Completes (.watchdog c) s fun t =>
        tlook t.scan.execs c = none ∧
        tget [] t.sched.reasons n = pushReason ⟨3, e.task, d.execMax, (s.core c).pc.toNat, s.tbc, 0⟩ (tget [] s.sched.reasons n) ∧
        (d.excSafe = false → ∀ b, t.byte b = s.byte b) ∧ SameBut [.mem, .sched, .scan, .fw, .cores, .out, .regs .sys] s t) ∧
    (Completes (.schedGrpack o v) s fun t =>
      t.sched = (if v.toNat / 2 ^ 24 = 0xA5
        then { s.sched with frozen := s.sched.frozen.filter fun g => g != v.toNat % 65536 } else s.sched) ∧ SameBut [.sched] s t)

/-- SET_IN and SET_OUT in ENGINEER, of a key they may name, write the force entry of that kind, key and direction, else the lowest free one;
outside ENGINEER they are refused (2). CLEAR_IN and CLEAR_OUT free the entry they name, or find none (11); CLEAR_ALL frees every entry; in FOLLOW they are refused. TASK_RESUME
lets a halted execution go on, its halted time counted; TASK_DISABLE in ENGINEER and TASK_ENABLE hold and free the task. Without the key each reports BADKEY (4). -/
def Obligations.ForceAndTaskCommands : Prop :=
  ∀ (o : Origin) (key : Byte) (kind : BitVec 4) (out : Bool) (n : Fin 64) (i : Nat) (f : Force) (c : Fin 8) (e : Exec) (s : State),
    let m := s.fld F.SYS_MODE_MODE
    let fk := s.fld F.FORCE_KEY_KEY
    let reports (code r : Nat) (t : State) := t.fld F.FORCE_STAT_CODE = code ∧ t.fld F.FORCE_STAT_RESULT = r
    let set := if out then Instr.setOut else Instr.setIn
    let clear := if out then Instr.clearOut else Instr.clearIn
    let b := if out then 1 else 0
    let answers (r : Nat) (t : State) := t.fld F.SCAN_STAT_TCMD_RESULT = r
    (key ≠ 0xA5 →
      (∀ p ∈ ([(1, fun o k => .setIn o k kind), (2, fun o k => .setOut o k kind), (3, fun o k => .clearIn o k kind),
          (4, fun o k => .clearOut o k kind), (5, .clearAll)] : List (Nat × (Origin → Byte → Instr))),
        Completes (p.2 o key) s fun t => reports (s.fld F.FORCE_STAT_CODE) 4 t ∧ SameBut [.regs .sys] s t) ∧
      (∀ p ∈ ([.taskResume, .taskDisable, .taskEnable] : List (Origin → Byte → Fin 64 → Instr)),
        Completes (p o key n) s fun t => answers 4 t ∧ SameBut [.regs .sys] s t)) ∧
    (m ≠ 5 → Completes (set o 0xA5 kind) s fun t => reports (1 + b) 2 t ∧ SameBut [.regs .sys] s t) ∧
    (m = 5 → s.forceKeyOk kind.toNat fk out = 0 →
      ((s.findForce kind.toNat fk out).map Force.index).or s.forceFree = some i → Completes (set o 0xA5 kind) s fun t =>
        reports (1 + b) 0 t ∧ t.fld F.FORCE_STAT_INDEX = i % 4096 ∧
        t.words (0xFF0000 + 16 * i) 4 = [BitVec.ofNat 32 (kind.toNat * 2 ^ 28 + b * 2 ^ 27 + (s.scan.forceSeq + 1) % 65536),
          BitVec.ofNat 32 fk, if kind = 1 then s.reg F.FORCE_VAL_VALUE.addr &&& 1 else s.reg F.FORCE_VAL_VALUE.addr,
          if kind = 1 then 1 else s.reg F.FORCE_MASK_MASK.addr] ∧
        (∀ a, a < 0xFF0000 + 16 * i ∨ 0xFF0010 + 16 * i ≤ a → t.byte a = s.byte a) ∧
        SameBut [.mem, .scan, .evl, .vault, .regs .sys] s t) ∧
    (m ≠ 6 → s.findForce kind.toNat fk out = some f → Completes (clear o 0xA5 kind) s fun t =>
      reports (3 + b) 0 t ∧ t.words (0xFF0000 + 16 * f.index) 4 = [0, 0, 0, 0] ∧
      (∀ a, a < 0xFF0000 + 16 * f.index ∨ 0xFF0010 + 16 * f.index ≤ a → t.byte a = s.byte a) ∧
      SameBut [.mem, .scan, .evl, .vault, .regs .sys] s t) ∧
    (m ≠ 6 → s.findForce kind.toNat fk out = none → Completes (clear o 0xA5 kind) s fun t =>
      reports (3 + b) 11 t ∧ SameBut [.regs .sys] s t) ∧
    (m = 6 → (Completes (clear o 0xA5 kind) s fun t => reports (3 + b) 2 t ∧ SameBut [.regs .sys] s t) ∧
      (Completes (.clearAll o 0xA5) s fun t => reports 5 2 t ∧ SameBut [.regs .sys] s t)) ∧
    (m ≠ 6 → Completes (.clearAll o 0xA5) s fun t =>
      reports 5 0 t ∧ (∀ j < 4096, t.forceAt j = none) ∧ (∀ a, a < 0xFF0000 → t.byte a = s.byte a) ∧
      SameBut [.mem, .scan, .evl, .vault, .regs .sys] s t) ∧
    ((s.task n).isSome = true →
      (s.scan.execs.find? (fun p => p.2.task == n.val && p.2.halted) = some (c.val, e) → Completes (.taskResume o 0xA5 n) s fun t =>
        answers 0 t ∧ tlook t.scan.execs c = some { e with halted := false, haltedFor := e.haltedFor + (s.tbc - e.haltedFrom) } ∧
        SameBut [.scan, .regs .sys] s t) ∧
      (m = 5 → Completes (.taskDisable o 0xA5 n) s fun t =>
        answers 0 t ∧ n.val ∈ t.sched.disabled ∧ SameBut [.sched, .regs .sys] s t) ∧
      (m ≠ 5 → Completes (.taskDisable o 0xA5 n) s fun t => answers 2 t ∧ SameBut [.regs .sys] s t) ∧
      (Completes (.taskEnable o 0xA5 n) s fun t =>
        answers 0 t ∧ n.val ∉ t.sched.disabled ∧ SameBut [.sched, .regs .sys] s t))

/-- RUN, HOLD, ENGINEER, IDLE and FOLLOW, with the key, no dusk sequence, no command pending and no cause but commands in this count, make the
transitions that R53 accepts and report OK (0): SYS_MODE reads the new mode, the old one as PREV, and counts in MODE_SEQ. Elsewhere they report REFUSED_STATE (2), or
REFUSED_FAULT (3) for RUN with a source of severity 3 up uncleared, and change nothing else; after a better cause of the same count, before which
SYS_MODE read `u`, one that was allowed then reports PREEMPTED (5) and any other its own refusal, and without the key every SYS command BADKEY (4). -/
def Obligations.ModeCommands : Prop :=
  ∀ (o : Origin) (key : Byte) (q : Nat) (u : Word) (s : State),
    let m := s.fld F.SYS_MODE_MODE
    let reports (c r : Nat) (t : State) := t.fld F.SYS_CMDSTAT_CODE = c ∧ t.fld F.SYS_CMDSTAT_RESULT = r
    let entered (c n : Nat) (t : State) := reports c 0 t ∧ t.fld F.SYS_MODE_MODE = n ∧ t.fld F.SYS_MODE_PREV = m ∧
      t.fld F.SYS_MODE_MODE_SEQ = (s.fld F.SYS_MODE_MODE_SEQ + 1) % 256 ∧ ∀ b, t.byte b = s.byte b
    let refused (c r : Nat) (t : State) := reports c r t ∧ t.fld F.SYS_MODE_MODE = m ∧ SameBut [.regs .sys] s t
    let loaded := s.scan.program.isSome = true
    let faulty := ∃ p ∈ s.flt.srcs, p.2.pending = true ∧ 3 ≤ p.2.effSev
    let w := bitsOf u 0 3
    let better := s.sys.causeAt = some (s.tbc, q, u) ∧ q < 7
    let free := (s.sys.causeAt.all fun c => c.1 != s.tbc || c.2.1 == 7) = true
    (key ≠ 0xA5 → ∀ f ∈ ([.run, .hold, .engineer, .idle, .follow, .restartWarm, .restartCold, .fwExchange, .fwCommit, .fwAbort] :
        List (Origin → Byte → Instr)), Completes (f o key) s fun t => t.fld F.SYS_CMDSTAT_RESULT = 4 ∧ SameBut [.regs .sys] s t) ∧
    (s.sys.dusk = none → s.sys.pendCmd = none →
      (better →
        (w = 5 ∨ ((w = 4 ∨ (w = 2 ∧ loaded)) ∧ ¬ faulty) → Completes (.run o 0xA5) s (refused 1 5)) ∧
        (Completes (.hold o 0xA5) s (refused 2 (if w = 3 ∨ w = 5 then 5 else 2))) ∧
        (Completes (.engineer o 0xA5) s (refused 3 (if (w = 3 ∨ w = 4) ∧ s.engineer o = true then 5 else 2))) ∧
        (Completes (.idle o 0xA5) s (refused 4 (if 3 ≤ w ∧ w ≤ 6 then 5 else 2))) ∧
        (Completes (.follow o 0xA5) s
          (refused 5 (if w = 2 ∧ s.fld F.PART_CTRL_ROLE = 2 ∧ s.fld F.PART_STAT_PARTNER = 1 then 5 else 2)))) ∧
      (free →
        (m = 5 ∨ ((m = 4 ∨ (m = 2 ∧ loaded)) ∧ ¬ faulty) → Completes (.run o 0xA5) s (entered 1 3)) ∧
        ((m = 4 ∨ (m = 2 ∧ loaded)) ∧ faulty → Completes (.run o 0xA5) s (refused 1 3)) ∧
        ((m = 2 ∧ ¬ loaded) ∨ m ∉ [2, 4, 5] → Completes (.run o 0xA5) s (refused 1 2)) ∧
        (if m = 3 ∨ m = 5 then Completes (.hold o 0xA5) s (entered 2 4) else Completes (.hold o 0xA5) s (refused 2 2)) ∧
        (if (m = 3 ∨ m = 4) ∧ s.engineer o = true then Completes (.engineer o 0xA5) s (entered 3 5)
          else Completes (.engineer o 0xA5) s (refused 3 2)) ∧
        (if 3 ≤ m ∧ m ≤ 6 then Completes (.idle o 0xA5) s (entered 4 2) else Completes (.idle o 0xA5) s (refused 4 2)) ∧
        (if m = 2 ∧ s.fld F.PART_CTRL_ROLE = 2 ∧ s.fld F.PART_STAT_PARTNER = 1 then Completes (.follow o 0xA5) s (entered 5 6)
          else Completes (.follow o 0xA5) s (refused 5 2))))

/-- With no dusk sequence and no command pending: RESTART_WARM and RESTART_COLD, from a core or an ENGINEER session outside VAULT and
DAWN, record themselves in the vault and begin a dusk sequence. FW_EXCHANGE in RUN, HOLD, ENGINEER and FOLLOW with a fit image in the other bank drains CC7 and stays pending;
FW_CORE_REJOIN of a core that passes puts it on the new bank and drains the next lower one, and after CC0 every core is exchanged; of one that fails, all return. FW_COMMIT
then makes the bank that every core runs the boot bank; FW_ABORT returns every core that runs it. -/
def Obligations.RestartsAndFirmware : Prop :=
  ∀ (o : Origin) (f : FwImage) (c : Nat) (s : State),
    let m := s.fld F.SYS_MODE_MODE
    let reports (n r : Nat) (t : State) := t.fld F.SYS_CMDSTAT_CODE = n ∧ t.fld F.SYS_CMDSTAT_RESULT = r
    let may := 2 ≤ m ∧ m ≤ 7 ∧ o ≠ .cbus ∧ ((∃ n, o = .core n) ∨ s.engineer o = true)
    (s.sys.dusk = none → s.sys.pendCmd = none →
      (∀ p ∈ ([(0x10, 1, .restartWarm), (0x11, 2, .restartCold)] : List (Nat × Nat × (Origin → Byte → Instr))),
        (may → Completes (p.2.2 o 0xA5) s fun t => reports p.1 0 t ∧ t.vault.restartCmd = p.2.1 ∧ t.sys.dusk = some s.tbc ∧
          t.sys.duskStep = 0 ∧ t.vault.outageRun = true ∧ t.fld F.SAFE_REQ_REQ = 0 ∧
          ((s.sys.causeAt.all fun c => c.1 != s.tbc) = true → t.fld F.SYS_MODE_MODE = m)) ∧
        (¬ may → Completes (p.2.2 o 0xA5) s fun t => reports p.1 2 t ∧ SameBut [.regs .sys] s t)) ∧
      (3 ≤ m → m ≤ 6 → s.fw.phase = 0 → s.otherBank = some f →
        (f.verified = true → tget 0 s.secu.arb f.ctr ≤ f.svn → f.compat = true → s.measuredLoad ≤ 7 * 250000000 →
          Completes (.fwExchange o 0xA5) s fun t => reports 0x20 1 t ∧ t.fw.phase = 1 ∧ t.fw.current = some 7 ∧ t.fw.onNew = [] ∧
            t.sched.drained = [7] ∧ t.sys.pendCmd = some 0x20 ∧ SameBut [.fw, .sys, .sched, .evl, .vault, .regs .sys] s t) ∧
        (f.verified = true → tget 0 s.secu.arb f.ctr ≤ f.svn → f.compat = false →
          Completes (.fwExchange o 0xA5) s fun t => reports 0x20 7 t ∧ SameBut [.regs .sys] s t) ∧
        (f.verified = true → tget 0 s.secu.arb f.ctr ≤ f.svn → f.compat = true → 7 * 250000000 < s.measuredLoad →
          Completes (.fwExchange o 0xA5) s fun t => reports 0x20 6 t ∧ SameBut [.regs .sys] s t)) ∧
      (s.fw.phase = 2 → Completes (.fwCommit o 0xA5) s fun t =>
        reports 0x21 0 t ∧ t.boot.bootBank = (!s.sys.bank) ∧ t.sys.bank = (!s.sys.bank) ∧ t.fw.phase = 0 ∧ t.fw.onNew = []) ∧
      (s.fw.phase ≠ 2 → Completes (.fwCommit o 0xA5) s fun t => reports 0x21 2 t ∧ SameBut [.regs .sys] s t)) ∧
    (s.sys.dusk = none → s.fw.phase = 1 ∨ s.fw.phase = 2 → Completes (.fwAbort o 0xA5) s fun t =>
      reports 0x22 6 t ∧ t.sys.pendCmd = none ∧
      (if s.fw.onNew = [] then t.fw.phase = 0 ∧ t.fw.current = none else t.fw.phase = 3)) ∧
    (s.fw.current = some c → tlook s.scan.execs c = none → s.sys.dusk = none → s.fw.phase = 1 →
      (c ≠ 0 → Completes (.fwCoreRejoin true) s fun t =>
        t.fw.onNew = s.fw.onNew ++ [c] ∧ t.fw.current = some (c - 1) ∧ t.sched.drained = [c - 1] ∧ t.fw.phase = 1 ∧
        SameBut [.fw, .sched, .regs .sys] s t) ∧
      (c = 0 → Completes (.fwCoreRejoin true) s fun t =>
        t.fw.onNew = s.fw.onNew ++ [0] ∧ t.fw.current = none ∧ t.fw.phase = 2 ∧ t.sys.pendCmd = none ∧ reports 0x20 0 t ∧
        t.sched.drained = [] ∧ SameBut [.fw, .sys, .sched, .regs .sys] s t) ∧
      (Completes (.fwCoreRejoin false) s fun t => t.fw.phase = 3 ∧ t.fw.current = some c ∧ t.sched.drained = [c] ∧
        t.fld F.SYS_CMDSTAT_RESULT = 6 ∧ t.sys.pendCmd = none))

/-- PFAIL_ASSERT, SUPPLY_FAIL and CORE_OVERTEMP (at its measurement), outside VAULT and a running dusk sequence, begin one: the outage clock starts (at SUPPLY_FAIL
only where VSEN has fallen, R80), sequencers that run are frozen,
SAFE_REQ is 0. DUSK_TASK_DEADLINE after 1.0 ms stops every execution. DUSK_POWER_FAIL_STATE after the final delta puts the outputs into their power-fail values. VAULT_ENTRY
then enters VAULT: vault, boot flash, journal, event-log records and fuses stay, the interlock latches go to the vault, a held LOCKOUT is kept with its reason, memory is lost. -/
def Obligations.DuskSequence : Prop :=
  ∀ (n : Nat) (w : Fin 16) (t0 : Nat) (s : State),
    let m := s.fld F.SYS_MODE_MODE
    let begun (clock : Bool) (t : State) := t.sys.dusk = some s.tbc ∧ t.sys.duskStep = 0 ∧ t.sys.pendCmd = none ∧ t.vault.outageRun = clock ∧
      (m ≠ 1 ∨ s.vault.deltaSince = true → t.vault.outage = 0 ∧ t.vault.outageUnknown = false) ∧
      t.fld F.SAFE_REQ_REQ = 0 ∧ ((s.sys.causeAt.all fun c => c.1 != s.tbc) = true → t.fld F.SYS_MODE_MODE = m) ∧ ((s.seq n).pos.st = 1 → (t.seq n).pos.st = 3) ∧
      (∀ b, t.byte b = s.byte b)
    (s.sys.dusk = none → m ≠ 0 → (m = 1 → s.sys.dawn ≠ none) →
      Completes .pfailAssert s (begun true) ∧ Completes .supplyFail s (begun (!s.sys.vsen)) ∧
      (s.tbc % 250000 = 0 → Completes .coreOvertemp s fun t => begun true t ∧ t.sys.overtemp = true)) ∧
    (s.sys.dusk = some t0 → t0 + 250000 ≤ s.tbc → s.sys.duskStep = 0 → Completes .duskTaskDeadline s fun t =>
      t.scan.execs = [] ∧ t.sys.duskStep = 1 ∧ SameBut [.mem, .scan, .flt, .sys, .cores, .regs .flt] s t) ∧
    (s.sys.dusk = some t0 → s.sys.duskStep = 2 → Completes .duskPowerFailState s fun t =>
      t.sys.duskStep = 3 ∧ t.out.powerFail = true ∧ (∀ b, t.byte b = s.byte b)) ∧
    (s.sys.dusk = some t0 → s.sys.duskStep = 3 → Completes .vaultEntry s fun t =>
      t.fld F.SYS_MODE_MODE = 0 ∧ t.mem = [] ∧ t.cores = [] ∧ t.sys.dusk = none ∧ t.boot = s.boot ∧ t.jnl = s.jnl ∧
      (s.fld F.SAFE_STAT_STATE = 1 → t.fld F.SAFE_STAT_STATE = 1 ∧ t.fld F.SAFE_STAT_REASON = s.fld F.SAFE_STAT_REASON) ∧
      t.evl.slots = s.evl.slots ∧ t.evl.seq = s.evl.seq ∧ t.vault.opt = s.vault.opt ∧ t.vault.outage = s.vault.outage ∧
      tget 0 t.vault.latA w = s.fld (ilmLatLoc 0 w) ∧ tget 0 t.vault.latB w = s.fld (ilmLatLoc 1 w) ∧
      t.secu.programmed = s.secu.programmed ∧ t.secu.revoked = s.secu.revoked ∧ t.secu.arb = s.secu.arb ∧ t.pending = s.pending)

/-- JOURNAL_CYCLE every 1 ms outside VAULT, DAWN, FOLLOW and a dusk sequence, the journal writing: the retain image as it stands commits under the cycle's number, as a delta
with TBC, commit word and the devices that answer, and a slice is written; the 256th completes the generation,
and CKPT_OK and CHAIN_OK read 1. Above 65,536 bytes nothing commits, and MERGE counts. DUSK_FINAL_DELTA commits the last cycle if the supplies held, none in DAWN, and closes the event log. JOURNAL_DEVICE_FAIL of the last device breaks the
chain; JOURNAL_DEVICE_RETURN begins a rebuild, or a new chain when both were gone; JOURNAL_REBUILD_COMPLETE after 256 slices ends DEGRADED. JNL_CTRL.EN written 0 breaks the chain, written 1 begins a new one. -/
def Obligations.JournalCycles : Prop :=
  ∀ (o : Origin) (d : Fin 2) (v : Word) (b k : Nat) (s : State),
    let m := s.fld F.SYS_MODE_MODE
    let chain (x : Nat) (t : State) := t.fld F.JNL_STAT_CKPT_OK = x ∧ t.fld F.JNL_STAT_CHAIN_OK = x
    let up := s.fld F.JNL_STAT_DEV_OK
    let committed (r : Retain) (t : State) := t.jnl.image = some r ∧ t.fld2 (F.JNL_CYCLE_CYCLE 0) (F.JNL_CYCLE_CYCLE 1) = (s.jnl.cycle + 1) % 2 ^ 64
    let writes := s.jnlOn = true
    (s.tbc % 250000 = 0 → m ≠ 0 → m ≠ 1 → m ≠ 6 → s.sys.dusk = none → writes → s.scan.releaseAt = none →
      (changedBytes s.jnl.seen s.retain ≤ 65536 → Completes .journalCycle s fun t =>
        committed s.retain t ∧ t.jnl.slices = (s.jnl.slices + 1) % 256 ∧ t.jnl.cycle = s.jnl.cycle + 1 ∧
        ((s.jnl.slices + 1) % 256 = 0 → chain 1 t ∧ t.vault.chainMark = false) ∧
        ((s.jnl.slices + 1) % 256 ≠ 0 → t.jnl.deltas.dropLast = s.jnl.deltas ∧
          t.jnl.deltas.getLast?.map (fun d => (d.cycle, d.tbc, d.image, d.commit, d.devs)) =
            some (s.jnl.cycle + 1, s.tbc, s.retain, ~~~(BitVec.ofNat 64 (s.jnl.cycle + 1)), up)) ∧
        SameBut [.jnl, .vault, .part, .outbox, .regs .jnl] s t) ∧
      (65536 < changedBytes s.jnl.seen s.retain → Completes .journalCycle s fun t =>
        t.jnl.image = s.jnl.image ∧ t.jnl.seen = s.retain ∧ t.jnl.cycle = s.jnl.cycle + 1 ∧
        t.fld F.JNL_MERGE_COUNT = min (2 ^ F.JNL_MERGE_COUNT.width - 1) (s.fld F.JNL_MERGE_COUNT + 1) ∧ Raised 8 s t)) ∧
    (s.sys.dusk.isSome = true → s.sys.duskStep = 1 →
      (m = 1 → Completes (.duskFinalDelta true) s fun t =>
        t.jnl.image = s.jnl.image ∧ t.jnl.deltas = s.jnl.deltas ∧ t.sys.duskStep = 2 ∧ t.evl.closed = true) ∧
      (m ≠ 1 → writes → s.scan.releaseAt = none → changedBytes (s.jnl.image.getD {}) s.retain ≤ 65536 → Completes (.duskFinalDelta true) s fun t =>
        t.jnl.image = some s.retain ∧ t.jnl.incomplete = s.jnl.incomplete ∧ t.sys.duskStep = 2 ∧ t.evl.closed = true ∧
        t.jnl.optCopy = s.vault.opt ∧ t.jnl.lastMode = m) ∧
      (m ≠ 1 → writes → Completes (.duskFinalDelta false) s fun t =>
        t.jnl.image = s.jnl.image ∧ t.jnl.incomplete = s.jnl.incomplete + 1 ∧ t.sys.duskStep = 2 ∧ t.evl.closed = true)) ∧
    (m ≠ 0 → bitOf up d = true →
      (up = 2 ^ d.val → Completes (.journalDeviceFail d) s fun t =>
        t.fld F.JNL_STAT_DEV_OK = 0 ∧ chain 0 t ∧ t.vault.chainMark = true ∧ t.fld F.JNL_STAT_DEGRADED = 0 ∧ Raised 8 s t) ∧
      (up ≠ 2 ^ d.val → Completes (.journalDeviceFail d) s fun t =>
        t.fld F.JNL_STAT_DEV_OK = up - 2 ^ d.val ∧ t.fld F.JNL_STAT_DEGRADED = 1 ∧ Raised 8 s t)) ∧
    (m ≠ 0 → bitOf up d = false → s.jnl.off = false →
      (up = 0 → Completes (.journalDeviceReturn d) s fun t =>
        t.fld F.JNL_STAT_DEV_OK = 2 ^ d.val ∧ chain 0 t ∧ t.vault.chainMark = true ∧ t.jnl.slices = 0 ∧ t.jnl.deltas = [] ∧
        t.fld F.JNL_STAT_DEGRADED = 1 ∧ SameBut [.jnl, .vault, .regs .jnl] s t) ∧
      (up ≠ 0 → Completes (.journalDeviceReturn d) s fun t =>
        t.fld F.JNL_STAT_DEV_OK = up + 2 ^ d.val ∧ t.jnl.rebuild = some (d.val, 0) ∧ t.fld F.JNL_STAT_DEGRADED = 1 ∧
        SameBut [.jnl, .regs .jnl] s t)) ∧
    (s.jnl.rebuild = some (b, k) → 256 ≤ k → Completes .journalRebuildComplete s fun t =>
      t.jnl.rebuild = none ∧ t.fld F.JNL_STAT_DEGRADED = 0 ∧ SameBut [.jnl, .regs .jnl] s t) ∧
    (Completes (.jnlEnWrite o v) s fun t =>
      t.fld F.JNL_CTRL_EN = bitsOf v F.JNL_CTRL_EN.lo 1 ∧
      (bitsOf v F.JNL_CTRL_EN.lo 1 ≠ s.fld F.JNL_CTRL_EN → chain 0 t ∧ t.vault.chainMark = true) ∧
      SameBut [.jnl, .vault, .regs .jnl] s t)

/-- SUPPLIES_VALID in VAULT or before DAWN has begun, or CORE_COOLED after an overtemperature: DAWN begins at TBC 0; PCYC counts it, SYS_OUTAGE shows the outage, the boot slot's program is
loaded where the journal names none, and, on the firmware of bank A, CFGSTAT marks every record without a valid copy (no record has pairs here: each pair is a write of its
register). DAWN_COMPLETE with firmware: the first condition of R82 that fails makes the restart cold and is its COLD_REASON, none makes it warm; a
sentinel in LOCKOUT takes the device there, else a failed self-test, no program or a record that fell back leave it in IDLE, else a follower whose leader answers goes to FOLLOW, a warm restart with AUTO_RESUME back to the RUN, HOLD or ENGINEER it left, any other to
IDLE. SETUP_RECORD_REPAIR writes the applied copy over the other. -/
def Obligations.DawnSteps : Prop :=
  ∀ (env : DawnEnv) (id : Fin 55) (ok : Bool) (c : RecCopy) (found : List (Nat × Nat × Nat × Nat)) (copies selftest : Bool) (s : State),
    let m := s.fld F.SYS_MODE_MODE
    let v := s.vault
    let a : State := { s with sys := { s.sys with bank := false } }
    let valid (i : Nat) := a.copyOk i (tget {} s.boot.recA i) || a.copyOk i (tget {} s.boot.recB i)
    let begun (t : State) := t.tbc = 0 ∧ t.fld F.SYS_MODE_MODE = 1 ∧ t.sys.dawn = some 0 ∧ t.sys.supplies = true ∧ t.sys.vsen = true ∧
      t.vault.pcyc = min 16777215 ((if v.lost then s.jnl.pcycCopy else v.pcyc) + 1) ∧ t.vault.outageRun = false ∧
      t.fld2 F.SYS_OUTAGE_LO_TICKS_LO F.SYS_OUTAGE_HI_TICKS_HI = (if v.outageUnknown then 2 ^ 40 - 1 else v.outage % 2 ^ 40) ∧
      (s.jnl.hash = 0 → s.boot.bootSlot = false → env.programAFails = false → t.scan.program = s.boot.slotA) ∧
      (id.val ≠ 8 → env.recBad = [] → env.fwAFails = false → s.boot.bootBank = false → s.boot.fwA.any FwImage.verified = true → t.fbit (F.SYS_CFGSTAT_BITS (id / 32)) (id % 32) = !valid id)
    let noPairs := (∀ p ∈ s.boot.recA, p.2.data = []) ∧ (∀ p ∈ s.boot.recB, p.2.data = [])
    let conds : List (Bool × Nat) := [(s.sys.firstDawn, 7), (v.restartCmd == 2, 0), (!s.flag F.SYS_RSTPOL_WARM_EN, 1),
      (!s.flag F.JNL_STAT_CKPT_OK || !s.flag F.JNL_STAT_CHAIN_OK || v.chainMark || s.jnl.image.isNone, 2),
      (s.scan.program.map Program.hash != some s.jnl.hash, 3), (s.sys.fellBack, 6),
      ((List.range 55).any fun n => tget 0 s.jnl.gens n != tget 0 s.boot.applied n, 4),
      (s.fld F.SYS_RSTPOL_WARM_MAX != 0 &&
        decide (s.fld F.SYS_RSTPOL_WARM_MAX * 32768 < s.fld2 F.SYS_OUTAGE_LO_TICKS_LO F.SYS_OUTAGE_HI_TICKS_HI), 5),
      (s.jnl.format != s.fwFormat && !s.fwAccepts.contains s.jnl.format, 8)]
    let cold := (conds.find? Prod.fst).map Prod.snd
    let kept := s.flag F.JNL_STAT_CHAIN_OK && s.jnl.image.isSome
    let quiet := ∀ p ∈ s.flt.srcs, p.2.pending = true → p.2.effSev < 3
    (m = 0 ∨ (m = 1 ∧ s.sys.dawn = none) → s.sys.overtemp = false → noPairs → Completes (.suppliesValid env) s begun) ∧
    (m = 0 → s.sys.overtemp = true → noPairs → Completes (.coreCooled env) s begun) ∧
    (m = 1 → s.sys.dawn.isSome = true → s.sys.noFirmware = false → s.sys.dusk = none → quiet →
      Completes (.dawnComplete found copies selftest) s fun t =>
        t.fld F.SYS_RESTART_COLD_REASON = cold.getD 0 ∧
        t.fld F.SYS_RESTART_KIND = (if cold = none then 2 else if s.sys.fellBack = true ∧ kept then 3 else 1) ∧
        t.sys.dawn = none ∧ t.vault.restartCmd = 0 ∧
        t.fld F.SYS_MODE_MODE =
          (if t.fld F.SAFE_STAT_STATE = 1 then 7
           else if s.sys.dawnOk.selftestFails = true ∨ s.scan.program = none ∨ s.sys.fellBack = true then 2
           else if s.fld F.PART_CTRL_ROLE = 2 ∧ s.fld F.PART_STAT_PARTNER = 1 then 6
           else if cold = none ∧ s.fld F.SYS_RSTPOL_AUTO_RESUME = 1 ∧ s.jnl.lastMode ∈ [3, 4, 5]
             then s.jnl.lastMode else 2)) ∧
    (m ≠ 0 → m ≠ 1 → s.fbit (F.SYS_CFGWARN_BITS (id / 32)) (id % 32) = true →
      (selectCopy (s.copyOk id) (tget {} s.boot.recA id) (tget {} s.boot.recB id)).1 = some c → Completes (.setupRecordRepair id ok) s fun t =>
        (tget {} t.boot.recA id = (if ok then c else c.spoil) ∨ tget {} t.boot.recB id = (if ok then c else c.spoil)) ∧
        (tget {} t.boot.recA id = tget {} s.boot.recA id ∨ tget {} t.boot.recB id = tget {} s.boot.recB id) ∧
        (ok = true → t.fbit (F.SYS_CFGWARN_BITS (id / 32)) (id % 32) = false) ∧ SameBut [.boot, .evl, .vault, .regs .sys] s t)

/-- ATTEST with a sound identity key fills the report's first 512 bytes with what R554 lists, and the rest with the signature, whose value no rule gives; without one it is refused (2). REVOKE from an
ENGINEER session in IDLE, of an owner slot that R551 lets go, blows that slot's fuse and no other; else it is refused. Without the key both report BADKEY (4). -/
def Obligations.KeysAndAttestation : Prop :=
  ∀ (o : Origin) (key : Byte) (n : Fin 8) (k : Fin 128) (s : State),
    let reports (c r : Nat) (t : State) := t.fld F.SEC_CMDSTAT_CODE = c ∧ t.fld F.SEC_CMDSTAT_RESULT = r
    let left := ∃ i : Fin 4, i.val + 1 ≠ n.val ∧ bitOf s.secu.programmed i = true ∧ bitOf s.secu.revoked i = false
    let used := s.secu.fwSigner = n.val ∨ s.secu.cfgSigner = n.val ∨ (s.bootProgram.map Program.signer).getD 0 = n.val
    let may := s.fld F.SYS_MODE_MODE = 2 ∧ s.engineer o = true ∧ 1 ≤ n.val ∧ n.val ≤ 4 ∧ ¬ used ∧ (left ∨ s.secu.programmed = 0)
    (key ≠ 0xA5 → (Completes (.attest o key) s fun t => t.fld F.SEC_CMDSTAT_RESULT = 4 ∧ SameBut [.regs .sec] s t) ∧
      Completes (.revoke o key n) s fun t => t.fld F.SEC_CMDSTAT_RESULT = 4 ∧ SameBut [.regs .sec] s t) ∧
    (s.secu.identity = true → s.secu.keyBad = false → Completes (.attest o 0xA5) s fun t =>
      reports 1 0 t ∧ t.fld (F.SEC_REPORT_WORD k) = s.reportBytes.getD (4 * k) 0 + 2 ^ 8 * s.reportBytes.getD (4 * k + 1) 0 +
        2 ^ 16 * s.reportBytes.getD (4 * k + 2) 0 + 2 ^ 24 * s.reportBytes.getD (4 * k + 3) 0 ∧
      SameBut [.free, .regs .sec] s t) ∧
    (s.secu.identity = false ∨ s.secu.keyBad = true → Completes (.attest o 0xA5) s fun t => reports 1 2 t ∧ SameBut [.regs .sec] s t) ∧
    (may → Completes (.revoke o 0xA5 n) s fun t => reports 2 0 t ∧
      t.secu = { s.secu with revoked := withBit s.secu.revoked (n - 1) true } ∧ SameBut [.secu, .regs .sec] s t) ∧
    (¬ may → Completes (.revoke o 0xA5 n) s fun t => reports 2 2 t ∧ SameBut [.regs .sec] s t)

/-- ARM of a loaded image and REVERT of a switched one, in IDLE, RUN, HOLD or ENGINEER, hold the affected tasks and stay pending for EXCH_WAIT ms; a leader needs the same image on its follower.
COMMIT of a switched image makes its slot the boot slot; DISCARD drops a loaded one; elsewhere each is refused (2). EXCHANGE_SWITCH once nothing affected runs and no release is due: the other image runs and instances migrate;
EXCHANGE_RELEASE at its instant lets the affected tasks go on, unless a REVERT holds them again, their counters cleared, and writes a checkpoint that names the new image; EXCHANGE_TIMEOUT ends the ARM with TIMEOUT (8). -/
def Obligations.ProgramExchange : Prop :=
  ∀ (o : Origin) (key : Byte) (q : Program) (d : InstDesc) (t0 n : Nat) (s : State),
    let m := s.fld F.SYS_MODE_MODE
    let st := s.fld F.EXCH_STAT_STATE
    let p := s.scan.program.getD {}
    let reports (c r : Nat) (t : State) := t.fld F.EXCH_STAT_CODE = c ∧ t.fld F.EXCH_STAT_RESULT = r
    let rows : List (Nat × (Origin → Byte → Instr)) := [(1, .arm), (2, .commit), (3, .revert), (4, .discard)]
    let follows := s.fld F.PART_CTRL_ROLE = 1 → s.part.partnerImage = some q.hash
    let armed (c new : Nat) (t : State) := reports c 1 t ∧ t.fld F.EXCH_STAT_STATE = new ∧
      t.scan.affected = affectedTasks p q ∧ t.sched.held = (affectedTasks p q).filter (fun i => !s.removedEvent i) ∧
      t.scan.armDeadline = some (s.tbc + 250000 * max 1 (s.fld F.EXCH_CFG_WAIT)) ∧ t.scan.program = s.scan.program ∧
      SameBut [.scan, .sched, .regs .sys] s t
    (key ≠ 0xA5 → ∀ r ∈ rows, Completes (r.2 o key) s fun t => reports (s.fld F.EXCH_STAT_CODE) 4 t ∧ SameBut [.regs .sys] s t) ∧
    (st = 1 → 2 ≤ m → m ≤ 5 → s.scan.other = some q → follows → Completes (.arm o 0xA5) s (armed 1 2)) ∧
    (st = 1 → 2 ≤ m → m ≤ 5 → s.scan.other = some q → ¬ follows →
      Completes (.arm o 0xA5) s fun t => reports 1 7 t ∧ SameBut [.regs .sys] s t) ∧
    (st ≠ 1 → ∀ r ∈ ([(1, .arm), (4, .discard)] : List (Nat × (Origin → Byte → Instr))),
      Completes (r.2 o 0xA5) s fun t => reports r.1 2 t ∧ SameBut [.regs .sys] s t) ∧
    (st ≠ 3 → ∀ r ∈ ([(2, .commit), (3, .revert)] : List (Nat × (Origin → Byte → Instr))),
      Completes (r.2 o 0xA5) s fun t => reports r.1 2 t ∧ SameBut [.regs .sys] s t) ∧
    (st = 3 →
      (Completes (.commit o 0xA5) s fun t => reports 2 0 t ∧ t.fld F.EXCH_STAT_STATE = 0 ∧ t.scan.other = none ∧
        t.boot.bootSlot = s.scan.runSlot ∧ t.scan.program = s.scan.program ∧
        SameBut [.scan, .boot, .secu, .regs .sys, .regs .sec] s t) ∧
      (2 ≤ m → m ≤ 5 → s.scan.other = some q → follows → Completes (.revert o 0xA5) s (armed 3 4)) ∧
      (m < 2 ∨ 5 < m → Completes (.revert o 0xA5) s fun t => reports 3 2 t ∧ SameBut [.regs .sys] s t)) ∧
    (st = 1 → Completes (.discard o 0xA5) s fun t => reports 4 0 t ∧ t.fld F.EXCH_STAT_STATE = 0 ∧ t.scan.other = none ∧
      (if s.scan.runSlot then t.boot.slotA = none else t.boot.slotB = none) ∧ SameBut [.scan, .boot, .regs .sys] s t) ∧
    (s.scan.other = some q → st = 2 ∨ st = 4 → s.exchQuiet = true → s.scan.armDeadline.isSome = true → s.scan.releaseAt = none → Completes .exchangeSwitch s fun t =>
      t.scan.program = some q ∧ t.scan.other = some p ∧ t.scan.runSlot = (!s.scan.runSlot) ∧ t.fld F.EXCH_STAT_STATE = 3 ∧
      t.fld F.EXCH_STAT_RESULT = 0 ∧ t.scan.releaseAt = some (s.tbc + 500000) ∧ t.scan.armDeadline = none ∧
      (q.insts = [d] → q.vars = [] → q.canvas = p.canvas → q.engine = p.engine → q.lpddr = p.lpddr → q.events = [] →
        q.groups = [] → s.forces = [] → d.addr + 16 ≤ 0xFF0000 → t.words d.addr (instSize d) = s.migrated p d)) ∧
    (s.scan.releaseAt = some t0 → t0 ≤ s.tbc → Completes .exchangeRelease s fun t =>
      t.scan.releaseAt = none ∧ t.sched.held = (if st = 2 ∨ st = 4 then s.sched.held else []) ∧
      (s.jnlOn = true → t.fld F.JNL_STAT_CHAIN_OK = 1 ∧ t.jnl.hash = (s.scan.program.map Program.hash).getD 0 ∧
        t.jnl.image = some s.retain) ∧
      (n ∈ s.scan.affected → t.fld (F.TASK_STAT_OVERRUNS n) = 0 ∧ t.fld (F.TASK_STAT_SKIPS n) = 0 ∧ t.fld (F.TASK_TIME_MAX n) = 0)) ∧
    (s.scan.armDeadline = some t0 → t0 ≤ s.tbc → st = 2 ∨ st = 4 → s.exchQuiet = false → Completes .exchangeTimeout s fun t =>
      t.fld F.EXCH_STAT_STATE = (if st = 2 then 1 else 3) ∧ t.fld F.EXCH_STAT_RESULT = 8 ∧ (s.scan.releaseAt = none → t.sched.held = []) ∧
      t.scan.armDeadline = none ∧ SameBut [.scan, .sched, .regs .sys] s t)

/-- VERIFICATION_COMPLETE shows VRES, the first check that fails, and answers the waiting LOAD_IMAGE. A refused image goes nowhere, and of a program EXCH_STAT reports REFUSED_LOAD. An accepted firmware image goes into the bank that the cores do not run, a program that passes R181 with no
exchange armed into the slot that does not run, where it counts as loaded; a calibration image is applied and raises its counter; in IDLE a key request programs its slot. -/
def Obligations.VerifiedImages : Prop :=
  ∀ (v : Verdict) (i : Fin 8) (seq : Nat) (body : ImageBody) (f : FwImage) (p : Program) (n : Nat)
    (l : List (Nat × Nat × Word × Word)) (h : Nat) (s : State),
    let r := s.vresOf body v
    let answers (st : Nat) (t : State) := Answered i 4 st seq [r] t ∧ t.secu.verifying = none ∧ t.fld F.SEC_STAT_VRES = r % 16
    s.secu.verifying = some (i.val, seq, body) → (s.session i).isOpen = true → (s.session i).executed + 1 = seq →
    (s.session i).held = [] → s.sys.noFirmware = false →
    (r ≠ 0 → Completes (.verificationComplete v) s fun t => answers 6 t ∧
      (imageKind body = 1 → t.fld F.EXCH_STAT_RESULT = 6) ∧ SameBut [.secu, .sessions, .outbox, .regs .sec, .regs .sys] s t) ∧
    (r = 0 →
      (body = .firmware f → s.fw.phase = 0 → Completes (.verificationComplete v) s fun t => answers 0 t ∧
        (if s.sys.bank then t.boot.fwA else t.boot.fwB) =
          some { f with verified := true, svn := v.svn, ctr := v.ctr, signer := v.signer } ∧
        t.boot.bootBank = s.boot.bootBank ∧ SameBut [.boot, .secu, .sessions, .outbox, .regs .sec] s t) ∧
      (body = .program p → s.fld F.EXCH_STAT_STATE ≤ 1 → programPinClash p = none → programOk p = true →
        Completes (.verificationComplete v) s fun t => answers 0 t ∧ t.fld F.EXCH_STAT_STATE = 1 ∧
          t.scan.other = some { p with svn := v.svn, ctr := v.ctr, signer := v.signer } ∧ t.scan.program = s.scan.program ∧
          SameBut [.scan, .boot, .secu, .sessions, .outbox, .regs .sec, .regs .sys] s t) ∧
      (body = .program p → s.fld F.EXCH_STAT_STATE ≤ 1 → programPinClash p = none → programOk p = false →
        Completes (.verificationComplete v) s fun t => answers 6 t ∧ t.fld F.EXCH_STAT_RESULT = 6 ∧
          SameBut [.secu, .sessions, .outbox, .regs .sec, .regs .sys] s t) ∧
      (body = .calibration l h → v.ctr < 64 → Completes (.verificationComplete v) s fun t => answers 0 t ∧ t.boot.cal = some l ∧
        t.secu.calHash = h ∧ tget 0 t.secu.arb v.ctr = max (tget 0 s.secu.arb v.ctr) (min 64 v.svn)) ∧
      (body = .keyRequest n → 1 ≤ n → n ≤ 4 → s.ownerProgrammed n = false → s.fld F.SYS_MODE_MODE = 2 →
        Completes (.verificationComplete v) s fun t => answers 0 t ∧
          t.secu.programmed = withBit s.secu.programmed (n - 1) true ∧ SameBut [.secu, .sessions, .outbox, .regs .sec] s t))

/-- With a command in front of the queue, a step is that command's effect on the state that holds the rest of the queue, and every command answers a next state in every state: the model has no fault and no refusal.
On an empty queue a step lets one CLK_FAB cycle pass (the model's choice, assumption 5): TBC counts with the supplies in every mode but VAULT and the vault's clocks go on; nothing else changes where no entry begins to wait for its core, no loop engine has an uncorrectable word to report
and no written setting waits for the grid point that the count reaches. -/
def Obligations.StepsOfTheQueue : Prop :=
  ∀ (c : Instr) (rest : List Instr) (s : State),
    step (s.withPending (c :: rest)) = exec c (s.withPending rest) ∧
    (Completes c s fun _ => True) ∧
    (s.pending = [] → ∃ t, step s = .next t ∧ t.tbc = s.tbc + (if s.sys.supplies && s.mode != Mode.vault then 1 else 0) ∧
      (s.vault.outageRun = false → t.vault.outage = s.vault.outage) ∧
      (s.cands = [] → (∀ e : Fin 8, ∀ a ∈ (s.engine e).stack, a.bad = none) →
        (s.tbc + 1) % 125 ≠ 0 ∨ ((∀ p ∈ s.chans, p.2.rangeOld = none ∧ p.2.dirOld = none) ∧ (∀ p ∈ s.clusters, p.2.selOld = none) ∧
          ∀ p ∈ s.regions, p.2.restart = false) → SameBut [.tbc, .vault] s t))

/-- No command changes the queue of waiting commands; none but the supplies' return, the release after a thermal shutdown and the entry into VAULT writes TBC; the free-value counter never falls. -/
def Obligations.CommandsLeaveTheQueue : Prop :=
  ∀ (c : Instr) (s t : State), exec c s = .next t →
    t.pending = s.pending ∧ s.free ≤ t.free ∧
    ((∀ env, c ≠ .suppliesValid env) → c ≠ .vaultEntry → (∀ env, c ≠ .coreCooled env) → t.tbc = s.tbc)

/-- At reset memory and register file are canonical with nothing listed, no command waits, TBC is 0, the mode is DAWN, ERR_N is low, every register reads its reset value,
eight sources have the minimum and the default severity of R516, and no key slot is programmed or revoked. That fuses, flash and vault are as delivered is the model's choice (assumptions 3 and 4). -/
def Obligations.ResetState : Prop :=
  let s := State.reset
  s.Canonical ∧ s.mem = [] ∧ s.pending = [] ∧ s.tbc = 0 ∧ s.mode = Mode.dawn ∧ s.errLow = true ∧
  (∀ a, s.reg a = regReset a) ∧ s.fld F.FLT_CTRL_ERR_MIN = 2 ∧
  (∀ p ∈ ([(0, 4, 4), (3, 0, 2), (5, 0, 3), (8, 2, 2), (24, 4, 4), (64, 0, 1), (240, 0, 3), (244, 2, 2)] : List (Nat × Nat × Nat)),
    s.fld (F.FLT_CFG0_MIN p.1) = p.2.1 ∧ s.fld (F.FLT_CFG0_SEV p.1) = p.2.2) ∧
  s.secu.programmed = 0 ∧ s.secu.revoked = 0

/-- From every state, reached or not, whose memory and register file are in canonical form (addresses rising, nothing listed at the value an unlisted address reads as), every step, of any of the commands or of the empty queue, leaves both in that form: equal contents stay equal data. -/
def Obligations.CanonicalFormKept : Prop :=
  ∀ s t : State, s.Canonical → step s = .next t → t.Canonical

/-- No step, of any of the commands in any state, loses a fuse: a programmed key slot stays programmed and a revoked one revoked, no anti-rollback counter falls, and the identity key stays. -/
def Obligations.FusesKeptByEveryStep : Prop :=
  ∀ s t : State, step s = .next t → FusesKept s t

/-- A leader in RUN, HOLD or ENGINEER and a follower in FOLLOW send a heartbeat with the epoch every 10 µs, no one else does. A heartbeat received sets PARTNER and LINK_UP; a follower takes its epoch, a leader
that first sees its follower sends a full checkpoint. Heartbeats missed are counted; at three in a row PARTNER clears, and a follower in FOLLOW with TAKEOVER_EN takes over, as it does on DUSK:
epoch one higher, it transmits, what it last had from the leader's local channels stands as substitutes, RUN is entered, the default error task gets TAKEOVER, and without SYNC a running sequencer is suspended with an outage of the lag. Deltas of a leader with the same image and its snapshots reach a follower in cycle order; a delta that names the image the follower has loaded makes it switch;
SYNC is a lag of at most 2. PLNK_LINK_LOSS clears LINK_UP and PARTNER and raises PARTNER; a leader that sees a later epoch yields: it stops transmitting and enters IDLE. -/
def Obligations.PartnerPair : Prop :=
  ∀ (ep : BitVec 16) (img : Option Nat) (cy ld a n st step act e et : Nat) (w : Word) (task : Fin 64) (x : PlnkDelta) (q : Program) (s : State),
    let m := s.fld F.SYS_MODE_MODE
    let alone := (s.sys.causeAt.all fun c => c.1 != s.tbc) = true
    let role := s.fld F.PART_CTRL_ROLE
    let epoch := s.fld F.PART_STAT_EPOCH
    let sends := role = 1 ∧ 3 ≤ m ∧ m ≤ 5 ∨ role = 2 ∧ m = 6
    let may := m = 6 ∧ s.fld F.PART_CTRL_TAKEOVER_EN = 1 ∧ s.sys.dusk = none
    let image := (s.scan.program.map Program.hash).getD 0
    let missed := (s.tbc - s.part.gotAt) / 2500
    let taken (t : State) := t.fld F.SYS_MODE_MODE = 3 ∧ t.fld F.PART_STAT_EPOCH = (epoch + 1) % 65536 ∧ t.part.transmitting = true ∧
      t.fld F.PART_STAT_TOOK_OVER = 1 ∧ t.part.snaps = [] ∧ t.part.subst.map Prod.fst = s.part.lastWords.map Prod.fst ∧
      (s.defaultErr = some et → ((tget [] t.sched.reasons et).getLast?.map fun r => (r.code, r.detail)) = some (7, (epoch + 1) % 65536)) ∧
      (s.fld F.PART_STAT_SYNC = 0 → (tlook s.seqs n).isSome = true → (s.seq n).pos.st = 1 →
        (t.seq n).pos.st = 4 ∧ (t.seq n).pos.resume = some (some s.part.lag))
    (s.tbc % 2500 = 0 → s.sys.dusk = none → Completes .heartbeatSend s fun t =>
      t.outbox = (if sends then .partner 0 epoch :: s.outbox else s.outbox) ∧ SameBut [.outbox] s t) ∧
    (m ≠ 0 → Completes (.heartbeatReceive ep img) s fun t => t.fld F.PART_STAT_PARTNER = 1 ∧ t.fld F.PART_STAT_LINK_UP = 1 ∧
      t.part.missRun = 0 ∧ t.part.gotAt = s.tbc ∧ t.part.partnerImage = img ∧
      t.fld F.PART_STAT_EPOCH = (if role = 2 then ep.toNat else epoch) ∧
      t.outbox = (if role = 1 ∧ s.fld F.PART_STAT_PARTNER = 0 then .partner 4 0 :: s.outbox else s.outbox) ∧
      SameBut [.part, .outbox, .regs .part] s t) ∧
    (s.fld F.PART_STAT_PARTNER = 1 ∨ m = 6 → s.part.missRun < missed → m ≠ 0 → alone →
      (missed < 3 → Completes .heartbeatTimeout s fun t => t.fld F.PART_STAT_PARTNER = s.fld F.PART_STAT_PARTNER ∧ t.part.missRun = missed ∧
        t.fld F.PART_HBMISS_COUNT = min (2 ^ F.PART_HBMISS_COUNT.width - 1) (s.fld F.PART_HBMISS_COUNT + (missed - s.part.missRun)) ∧
        SameBut [.part, .regs .part] s t) ∧
      (3 ≤ missed → ¬ may → Completes .heartbeatTimeout s fun t => t.fld F.PART_STAT_PARTNER = 0 ∧ t.fld F.SYS_MODE_MODE = m ∧
        SameBut [.part, .regs .part] s t) ∧
      (3 ≤ missed → may → Completes .heartbeatTimeout s fun t => t.fld F.PART_STAT_PARTNER = 0 ∧ taken t)) ∧
    (alone → may → Completes .dusk s taken) ∧
    (alone → ¬ may → Completes .dusk s (SameBut [] s)) ∧
    (m = 6 → s.part.applied < cy → (∀ p, s.scan.other = some p → x.hash ≠ p.hash) →
      (x.hash = image → cy ≤ ld → a + 4 ≤ 0xFF0000 → n < 128 → e ≤ s.tbc → x.halves = [] → x.srcs = [] →
        Completes (.plnkDeltaReceive cy ld [(a, w)] { x with seqs := [(n, st, step, act, e)] }) s fun t =>
          t.word a = w ∧ (t.seq n).pos.st = st ∧ (t.seq n).pos.step = step ∧ (t.seq n).pos.act = act ∧ (t.seq n).pos.s = s.tbc - e ∧
          t.part.applied = cy ∧ t.part.lag = ld - cy ∧ t.fld F.PART_STAT_LAG = min 255 (ld - cy) ∧
          (t.fld F.PART_STAT_SYNC = 1 ↔ ld - cy ≤ 2) ∧
          (s.fld F.PART_STAT_SYNC = 1 → 2 < ld - cy → (t.src 9).raises = min 65535 ((s.src 9).raises + 1))) ∧
      (x.hash ≠ image → Completes (.plnkDeltaReceive cy ld [(a, w)] x) s fun t =>
        (∀ b, t.byte b = s.byte b) ∧ t.part.applied = s.part.applied ∧ t.part.lag = ld - s.part.applied)) ∧
    (m = 6 → s.part.applied < cy → s.scan.other = some q → x.hash = q.hash → s.fld F.EXCH_STAT_STATE = 1 →
      Completes (.plnkDeltaReceive cy ld [] x) s fun t =>
        t.scan.program = some q ∧ t.scan.releaseAt = none ∧ t.fld F.EXCH_STAT_STATE = 3 ∧ t.part.applied = cy) ∧
    (m = 6 → cy ≤ s.part.applied → Completes (.plnkDeltaReceive cy ld [(a, w)] x) s (SameBut [] s)) ∧
    (m = 6 → Completes (.plnkSnapshotReceive task [(a, w)]) s fun t =>
      (t.part.snaps.getLast?.map fun p => (p.1, p.2.length)) = some (task.val, 4) ∧ SameBut [.part] s t) ∧
    (m ≠ 0 → Completes .plnkLinkLoss s fun t => t.fld F.PART_STAT_LINK_UP = 0 ∧ t.fld F.PART_STAT_PARTNER = 0 ∧ Raised 9 s t) ∧
    (role = 1 → s.part.transmitting = true → epoch < ep.toNat → ep.toNat ≤ epoch + 32767 → 3 ≤ m → m ≤ 5 → alone →
      Completes (.epochYield ep) s fun t => t.part.transmitting = false ∧ t.fld F.PART_STAT_YIELDED = 1 ∧ t.fld F.SYS_MODE_MODE = 2) ∧
    (role = 1 → ep.toNat ≤ epoch → epoch < ep.toNat + 32768 → Completes (.epochYield ep) s (SameBut [] s))

/-- LOCKSTEP_MISMATCH stops the core and raises source 7 of it: its execution ends, transfers nothing, an event it was started for, outside IDLE and LOCKOUT and where the source leads to neither, goes back ahead of all others, and a word it stored returns to what it held before; an undo log that
overflowed puts a LOST marker in the entry's place. A second mismatch within 1 s keeps the core stopped; else CORE_REJOIN with a good self-test lets it take work again. -/
def Obligations.LockstepStops : Prop :=
  ∀ (c : Fin 8) (e : Exec) (x : Entry) (a : Nat) (old new : Word) (t0 : Nat) (s : State),
    let m := s.fld F.SYS_MODE_MODE
    let can := m ≠ 2 ∧ m ≠ 7 ∧ s.effSev 7 0 ≤ 3
    (2 ≤ m → c.val ∉ s.sched.stopped → tlook s.scan.execs c = some e → e.serial = none → Completes (.lockstepMismatch c) s fun t =>
      c.val ∈ t.sched.stopped ∧ tlook t.scan.execs c = none ∧ (t.core c).undo = [] ∧ (t.core c).stoppedAt = some s.tbc ∧
      (t.src 7).raises = min 65535 ((s.src 7).raises + 1) ∧
      ((s.core c).mismatchAt = none → (t.core c).dead = false) ∧
      ((s.core c).mismatchAt = some t0 → ((t.core c).dead = true ↔ s.tbc < t0 + 250000000)) ∧
      (e.cause = .event x → (s.core c).undoOver = false → can → t.sched.entries = x :: s.sched.entries) ∧
      (e.cause = .event x → (s.core c).undoOver = true → can → (t.sched.lost.head?.map fun l => (l.group, l.count, l.seq)) = some (x.group, 1, x.seq)) ∧
      ((s.core c).undoOver = false → a % 4 = 0 → 0x400000 ≤ a → a < 0xFF0000 - 4 → (s.core c).undo = [(a, old, new)] →
        t.word a = (if s.word a = new then old else s.word a) ∧
        t.fld F.FLT_UNDO_UNDO_SKIP = (if s.word a = new then s.fld F.FLT_UNDO_UNDO_SKIP else min 65535 (s.fld F.FLT_UNDO_UNDO_SKIP + 1)))) ∧
    (c.val ∈ s.sched.stopped → (s.core c).dead = false → Completes (.coreRejoin c true) s fun t =>
      c.val ∉ t.sched.stopped ∧ (∀ d ∈ s.sched.stopped, d ≠ c.val → d ∈ t.sched.stopped) ∧ SameBut [.sched, .cores] s t) ∧
    ((s.core c).dead = true → Completes (.coreRejoin c true) s (SameBut [] s))

/-- The next request of an open session is executed at once. READ answers value, status and quality of the handle at one instant; WRITE stores a host-input word of the canvas and permits no other; SUBSCRIBE sets or ends a subscription;
TRACE starts, stops or acknowledges a unit; MODE is the SYS_CMD command and answers its RESULT; REG_READ and REG_WRITE reach the register space; LOAD_IMAGE takes a segment in OFFSET order, and the last one waits for SEC unanswered.
A count out of range is BAD_FORMAT, a role too low NOT_PERMITTED, and neither has another effect. -/
def Obligations.HostRequests : Prop :=
  ∀ (i : Fin 8) (u : Fin 16) (code : Byte) (seq h a v n : Nat) (hs : List Nat) (body : ImageBody) (s : State),
    let x := s.session i
    let w := BitVec.ofNat 32 v
    let trace (op : Nat) : Instr := if op = 0 then .traceStart i seq true u else if op = 1 then .traceStop i seq true u else .traceAck i seq true u n
    (HostReady i seq 0 s →
      (s.epMapped h = true → s.epQuality h = true → Completes (.read i seq true [h]) s fun t =>
        Answered i 1 0 seq [(s.epValue h).toNat, 0, 1] t ∧ SameBut [.sessions, .outbox] s t) ∧
      (s.epExists h = false → Completes (.read i seq true [h]) s fun t => Answered i 1 0 seq [0, 1, 0] t ∧ SameBut [.sessions, .outbox] s t) ∧
      (hs.length = 0 ∨ 64 < hs.length → Completes (.read i seq true hs) s fun t =>
        Answered i 1 7 seq [] t ∧ SameBut [.sessions, .outbox] s t) ∧
      (1 ≤ n → n ≤ 10000 → v ≤ 3 → hs.length ≤ 160 → (∀ g ∈ hs, epCopied g = false) → Completes (.subscribe i seq true v n hs) s fun t =>
        Answered i 3 0 seq [] t ∧ SameBut [.sessions, .outbox] s t ∧
        tlook (t.session i).subs v = (if hs = [] then none else some { period := n, handles := hs })) ∧
      (n = 0 ∨ 10000 < n ∨ 3 < v ∨ 160 < hs.length → Completes (.subscribe i seq true v n hs) s fun t =>
        Answered i 3 7 seq [] t ∧ (t.session i).subs = x.subs ∧ SameBut [.sessions, .outbox] s t) ∧
      (Completes (trace 1) s fun t => Answered i 6 0 seq [] t ∧ (t.unit u).traceTo = none ∧ (t.unit u).flight = [] ∧
        SameBut [.sessions, .outbox, .recu] s t) ∧
      ((s.unit u).spill = [] → Completes (trace 0) s fun t => Answered i 6 0 seq [] t ∧ (t.unit u).traceTo = some i.val ∧
        SameBut [.sessions, .outbox, .recu, .regs .recorder] s t) ∧
      ((s.unit u).spill = [] → Completes (trace 2) s fun t => Answered i 6 0 seq [] t ∧
        (t.unit u).flight = (s.unit u).flight.filter (fun f => n < f.1) ∧ (t.unit u).traceTo = (s.unit u).traceTo) ∧
      (regMsgOk a = true → a < 2 ^ 40 → Completes (.regRead i seq true [a]) s fun t => Answered i 7 0 seq [(s.busRead a).1.toNat, 0] t) ∧
      (regMsgOk (a % 2 ^ 40) = false → Completes (.regRead i seq true [a]) s fun t =>
        Answered i 7 0 seq [0, 2] t ∧ SameBut [.sessions, .outbox] s t)) ∧
    (HostReady i seq 1 s →
      (epClass h = 2 → s.epExists h = true → s.hostInput (h % 2 ^ 22) = true → protectedArea (4 * (h % 2 ^ 22)) = false →
        Completes (.write i seq true [(h, w)]) s fun t => Answered i 2 0 seq [0] t ∧ t.word (4 * (h % 2 ^ 22)) = w ∧
          (∀ b, b < 4 * (h % 2 ^ 22) ∨ 4 * (h % 2 ^ 22) + 4 ≤ b → t.byte b = s.byte b) ∧ SameBut [.mem, .sessions, .outbox] s t) ∧
      (epClass h = 2 → s.epExists h = true → s.hostInput (h % 2 ^ 22) = false → Completes (.write i seq true [(h, w)]) s fun t =>
        Answered i 2 0 seq [2] t ∧ SameBut [.sessions, .outbox, .regs .host] s t) ∧
      (1 ≤ code.toNat → code.toNat ≤ 5 → code.toNat ≠ 3 → Completes (.mode i seq true code) s fun t =>
        Answered i 5 0 seq [t.fld F.SYS_CMDSTAT_RESULT] t ∧ t.fld F.SYS_CMDSTAT_CODE = code.toNat ∧
        (code = 4 → s.fld F.SYS_MODE_MODE = 3 → s.sys.causeAt = none → s.sys.dusk = none → s.sys.pendCmd = none →
          t.fld F.SYS_MODE_MODE = 2 ∧ t.fld F.SYS_CMDSTAT_RESULT = 0))) ∧
    (HostReady i seq 2 s →
      (regMsgOk a = true → a < 2 ^ 40 → Completes (.regWrite i seq true [(a, w)]) s fun t => Answered i 8 0 seq [0] t ∧
        (∀ b, t.reg b = (s.busWrite (.host i) a w 0).reg b) ∧ t.mem = (s.busWrite (.host i) a w 0).mem) ∧
      (v < n → 0 < v → v ≤ 1024 → h ≤ 4 → Completes (.loadImage i seq true h 0 n v none) s fun t => Answered i 4 0 seq [] t ∧
        (t.session i).load = some (h, v) ∧ t.secu = s.secu ∧ SameBut [.sessions, .outbox] s t) ∧
      (x.load = some (h, a) → n ≤ 1024 → h ≤ 4 → s.secu.verifying = none →
        Completes (.loadImage i seq true h a (a + n) n (some body)) s fun t =>
          t.outbox = s.outbox ∧ t.secu.verifying = some (i.val, seq, body) ∧ (t.session i).load = none ∧ (t.session i).executed = x.executed ∧
          SameBut [.sessions, .secu] s t) ∧
      (x.load = none → a ≠ 0 → Completes (.loadImage i seq true h a (a + n) n none) s fun t => Answered i 4 7 seq [] t ∧
        SameBut [.sessions, .outbox] s t)) ∧
    (HostReady i seq 0 s → x.role = 0 → ∀ r ∈ ([(2, .write i seq true [(h, w)]), (4, .loadImage i seq true 1 0 n v none), (5, .mode i seq true code),
        (8, .regWrite i seq true [(a, w)])] : List (Nat × Instr)),
      Completes r.2 s fun t => Answered i r.1 2 seq [] t ∧ SameBut [.sessions, .outbox] s t)

/-- A request with a wrong TAG is dropped and counted. One at or below the highest executed SEQ is answered again from the cache and has no other effect, or is dropped and counted in SEQREF, as is one more than 64 above.
One above the next is held unexecuted and the gap is timed; when its predecessor arrives both execute in order. GAPCLOSE after 1 s closes the session.
HELLO takes the lowest free session, half open; with none free it answers BUSY. FINISH with a listed key and good signatures opens it with the lower role, else it closes and BADTAG counts.
HANDSHAKE_LAPSE after 5 s and SESSION_IDLE_CLOSE after 60 s close it. NOTIFY at a multiple of its period sends the values. TRACE_RETRANSMIT sends the oldest page in flight again. NET_LINK_LOSS raises source 408;
ARP and ICMP echo requests to the port's address are answered. -/
def Obligations.HostSessions : Prop :=
  (∀ (i : Fin 8) (seq st t0 : Nat) (body hs : List Nat) (s : State),
     let x := s.session i
     s.hostServed = true → x.isOpen = true → s.fld F.SYS_MODE_MODE ≠ 1 →
     (Completes (.read i seq false hs) s fun t => t.outbox = s.outbox ∧ t.sessions = s.sessions ∧ t.fld F.HOST_CNT0_BADTAG = min 65535 (s.fld F.HOST_CNT0_BADTAG + 1) ∧
       SameBut [.regs .host] s t) ∧
     (seq ≤ x.executed → x.cache = [(seq, st, body)] → Completes (.read i seq true hs) s fun t =>
       t.outbox = .host i 1 st seq body :: s.outbox ∧ (t.session i).executed = x.executed ∧ SameBut [.sessions, .outbox] s t) ∧
     (seq ≤ x.executed ∧ x.cache = [] ∨ x.executed + 64 < seq → Completes (.read i seq true hs) s fun t =>
       t.outbox = s.outbox ∧ t.fld F.HOST_CNT1_SEQREF = min 65535 (s.fld F.HOST_CNT1_SEQREF + 1) ∧ SameBut [.regs .host] s t) ∧
     (x.executed + 1 < seq → seq ≤ x.executed + 64 → x.held = [] → s.hostBusy i = false → Completes (.read i seq true hs) s fun t =>
       t.outbox = s.outbox ∧ (t.session i).held = [(seq, .read hs)] ∧ (t.session i).gapSince = some (x.gapSince.getD s.tbc) ∧
       (t.session i).executed = x.executed ∧ SameBut [.sessions] s t) ∧
     (seq = x.executed + 1 → x.held = [(seq + 1, .read [])] → s.hostBusy i = false → Completes (.read i seq true []) s fun t =>
       t.outbox = .host i 1 7 (seq + 1) [] :: .host i 1 7 seq [] :: s.outbox ∧ (t.session i).executed = seq + 1 ∧ (t.session i).held = []) ∧
     (x.gapSince = some t0 → t0 + 250000000 ≤ s.tbc → Completes (.gapclose i) s fun t => (t.session i).isOpen = false ∧ (t.session i).held = [] ∧
       t.outbox = s.outbox ∧ t.fld F.HOST_CNT1_GAPCLOSE = min 65535 (s.fld F.HOST_CNT1_GAPCLOSE + 1))) ∧
  (∀ (i : Fin 8) (id : Fin 4) (u : Fin 16) (p : Fin 2) (role r : Fin 3) (ip : Word) (h t0 n : Nat) (rest : List (Nat × Nat)) (s : State),
     let x := s.session i
     let closed (t : State) := t.session i = {} ∧ t.fld F.HOST_STAT_SESSIONS = ((List.range 8).filter fun j => j ≠ i.val ∧ (s.session j).isOpen = true).length
     (s.hostServed = true → s.secu.keyBad = false → x.isOpen = false → x.half = none → (∀ j : Fin 8, j < i → (s.session j).isOpen = true) → Completes (.hello role) s fun t =>
       (t.session i).half = some s.tbc ∧ (t.session i).role = role.val ∧ (t.session i).isOpen = false ∧
       t.outbox = .host i 0x10 0 0 [i.val] :: s.outbox ∧ SameBut [.sessions, .outbox] s t) ∧
     (s.secu.keyBad = true → Completes (.hello role) s (SameBut [] s)) ∧
     (s.hostServed = true → s.secu.keyBad = false → (∀ j : Fin 8, (s.session j).isOpen = true) → Completes (.hello role) s fun t =>
       t.outbox = .host 0 0x10 5 0 [] :: s.outbox ∧ SameBut [.outbox] s t) ∧
     (s.hostServed = true → x.half = some t0 →
       (Completes (.finish i (some r) true true) s fun t => (t.session i).isOpen = true ∧ (t.session i).role = min x.role r.val ∧
         t.outbox = .host i 0x11 0 0 [] :: s.outbox ∧ SameBut [.sessions, .outbox, .regs .host] s t) ∧
       (Completes (.finish i none true true) s fun t => closed t ∧ t.outbox = s.outbox) ∧
       (Completes (.finish i (some r) false true) s fun t => closed t ∧ t.outbox = s.outbox ∧
         t.fld F.HOST_CNT0_BADTAG = min 65535 (s.fld F.HOST_CNT0_BADTAG + 1))) ∧
     (x.half = some t0 → t0 + 1250000000 ≤ s.tbc → Completes (.handshakeLapse i) s closed) ∧
     (x.isOpen = true → x.lastAt + 15000000000 ≤ s.tbc → Completes (.sessionIdleClose i) s closed) ∧
     (s.hostServed = true → x.isOpen = true → tlook x.subs id = some { period := n, handles := [h] } → 1 ≤ n → s.tbc % (250000 * n) = 0 → s.epMapped h = true →
       s.epQuality h = true → Completes (.notify i id) s fun t =>
         t.outbox = .host i 3 0 (x.sent + 1) [id.val, (s.epValue h).toNat, 0, 1] :: s.outbox ∧ (t.session i).sent = x.sent + 1 ∧
         SameBut [.sessions, .outbox] s t) ∧
     ((s.unit u).traceTo = some h → (s.unit u).flight = (n, t0) :: rest → t0 + 250000 * max 1 (s.fld F.HOST_TRACE_RETX_MS) ≤ s.tbc →
       Completes (.traceRetransmit u) s fun t => (t.unit u).flight = (n, s.tbc) :: rest ∧ SameBut [.sessions, .outbox, .recu] s t) ∧
     (s.fld (F.NET_STAT_LINK_UP p) = 1 → Completes (.netLinkLoss p) s fun t => t.fld (F.NET_STAT_LINK_UP p) = 0 ∧ Raised 408 s t) ∧
     (s.fld F.SYS_MODE_MODE ≠ 0 → s.fld (F.NET_CTRL_EN p) = 1 → s.fld (F.NET_IP4_ADDR p) = ip.toNat → ip ≠ 0 →
       (Completes (.arpRequest p ip) s fun t => t.outbox = .net p 0 ip.toNat :: s.outbox ∧ SameBut [.outbox] s t) ∧
       (Completes (.icmpEchoRequest p ip) s fun t => t.outbox = .net p 1 ip.toNat :: s.outbox ∧ SameBut [.outbox] s t)) ∧
     (s.fld (F.NET_IP4_ADDR p) ≠ ip.toNat →
       Completes (.arpRequest p ip) s (SameBut [] s) ∧ Completes (.icmpEchoRequest p ip) s (SameBut [] s)))

/-- CONVERSION at its instant gives the code that the factors of R226 make of the raw result, held to 18 bits with OVR, and WIN_OUT when it leaves the window. A good sample block brings it to the core die with the next TAG, a good sense block the SNS word,
and SAMPLE_DELIVERY writes both to the canvas 500 ns after the grid point; three bad sample blocks in a row make the channel unavailable. Status and escape blocks bring their part, an escape at most every 200 ns; a bad block loses it and raises source 208 of the region, also one whose CRC an injection inverts. -/
def Obligations.AnalogueInputs : Prop :=
  ∀ (n : Fin 128) (raw sns : Int) (v w : Word) (g : Nat) (i : Injection) (s : State),
    let c := s.chan n
    let x := s.correct n (s.rangeOf n) raw
    let lost (t : State) := Raised (208 + chRegion n) s t
    let tag := s.fld (F.CH_STAT_TAG n)
    (s.convDue n = true → s.convMay n = true → s.rangeOf n < 2 → c.overHi = false → c.overLo = false → c.win = false →
      s.fld (F.CL_STAT_REF_SETTLED (chCluster n)) = 1 → s.fld (F.CH_CFG_SNS_EN n) = 0 →
      (s.fld (F.WIN_CFG_EN n) = 0 → Completes (.conversion n raw sns true) s fun t =>
        (t.chan n).code = max (-131072) (min 131071 x) ∧ ((t.chan n).ovrHi = true ↔ 131071 < x) ∧ ((t.chan n).ovrLo = true ↔ x < -131072) ∧
        (t.chan n).convAt = s.tbc ∧ (t.chan n).due = some s.tbc ∧ (t.chan n).sampleDue = true ∧ (t.chan n).win = false ∧
        (131071 < x ∨ x < -131072 → t.fld (F.CH_STAT_OVR_SEEN n) = 1) ∧ SameBut [.chans, .regs .fd] s t) ∧
      (s.fld (F.WIN_CFG_EN n) = 1 → c.couplerOut = false → s.sfld (F.WIN_HI_LIMIT n) < min 131071 x → Completes (.conversion n raw sns true) s fun t =>
        (t.chan n).win = true ∧ t.fld (F.CH_STAT_WIN_OUT n) = 1)) ∧
    (s.convDue n = false ∨ s.convMay n = false → Completes (.conversion n raw sns true) s (SameBut [] s)) ∧
    (s.dieDark (chDie n) = false → (s.blockCrc n true true).1 = none →
      (Completes (.upstreamSampleBlock n true) s fun t => (t.chan n).badSamples = 0 ∧ (t.chan n).couplerOut = false ∧ (t.chan n).seenWin = c.win ∧
        (c.sampleDue = true → s.unavReason n = 0 → t.fld (F.CH_STAT_TAG n) = (tag + 1) % 512 ∧ (t.chan n).rx = some (s.sampleWord n ((tag + 1) % 512))) ∧
        (c.sampleDue = false ∨ 1 ≤ s.unavReason n ∧ s.unavReason n ≤ 3 → t.fld (F.CH_STAT_TAG n) = tag ∧ (t.chan n).rx = c.rx)) ∧
      (Completes (.upstreamSampleBlock n false) s fun t => lost t ∧ (t.chan n).badSamples = c.badSamples + 1 ∧
        ((t.chan n).couplerOut = true ↔ c.couplerOut = true ∨ 2 ≤ c.badSamples) ∧
        (2 ≤ c.badSamples → s.dieOff (chDie n) = false → (s.die (chDie n)).held = false →
          t.fld (F.CH_STAT_AVAIL n) = 0 ∧ t.fld (F.CH_STAT_UNAV_REASON n) = 4)) ∧
      (Completes (.upstreamStatusBlock n true) s fun t => (t.chan n).lostStatus = false ∧ (t.chan n).seenFio = c.filt ∧
        (s.fioOut n = false → t.fld (F.FIO_STAT_IN n) = (if c.inp then 1 else 0) ∧ t.fld (F.FIO_STAT_RAW n) = (if c.raw then 1 else 0))) ∧
      (Completes (.upstreamStatusBlock n false) s fun t => (t.chan n).lostStatus = true ∧ lost t) ∧
      (s.escDue c.escUp = true → Completes (.upstreamEscape n true) s fun t => (t.chan n).seenFio = c.filt ∧ (t.chan n).seenWin = c.win ∧
        (t.chan n).escUp = some s.tbc) ∧
      (s.escDue c.escUp = true → Completes (.upstreamEscape n false) s (SameBut [.chans] s)) ∧
      (s.escDue c.escUp = false → Completes (.upstreamEscape n true) s (SameBut [] s)) ∧
      (c.senseDue = true → s.unavReason n = 0 → Completes (.upstreamSenseBlock n true) s fun t =>
        (t.chan n).snsTag = (c.snsTag + 1) % 512 ∧ (t.chan n).rxSns = some (s.senseWord n ((c.snsTag + 1) % 512)) ∧ (t.chan n).senseDue = false ∧
        SameBut [.chans] s t) ∧
      (s.strmsOn = [] → Completes (.upstreamSenseBlock n false) s fun t => (t.chan n).senseDue = false ∧ lost t)) ∧
    (s.dieDark (chDie n) = false → s.strmsOn = [] → s.injOf 4 = some i → i.target = 128 + n → ∀ b ∈ ([.upstreamSampleBlock n true, .upstreamSenseBlock n true,
      .upstreamStatusBlock n true] : List Instr), Completes b s fun t => lost t ∧ (t.src (208 + chRegion n)).injected = true ∧ t.flt.inj = none ∧
        (t.chan n).badFrame = some (true, s.tbc / 125)) ∧
    (s.tbc % 125 = 0 → s.strmsOn = [] → c.due = some g → g + 125 ≤ s.tbc → s.unavReason n = 0 →
      (c.rx = some w → Completes .sampleDelivery s fun t => t.word (chWord n 0) = w ∧ (t.chan n).due = none ∧ (t.chan n).rx = none) ∧
      (c.rxSns = some v → Completes .sampleDelivery s fun t => t.word (chWord n 2) = v ∧ (t.chan n).rxSns = none)) ∧
    (s.tbc % 125 ≠ 0 → Completes .sampleDelivery s (SameBut [] s))

/-- RANGE_CHANGE and REFSEL_WRITE set the field at once and, at a grid point, take the channel or the reference away until RANGE_SETTLED, REF_SETTLED; between grid points they wait for the next. REF_MONITOR raises a reference outside its limits.
CAL requests a calibration, which CALIBRATION_START begins once the reference has settled, ROLL_CALIBRATION_START by itself; CALIBRATION_COMPLETE takes the factors within the bounds of R229 after 9 ms, keeps the old ones with CAL_LIMIT otherwise, and ends it after 12.5 ms. -/
def Obligations.ReferencesAndCalibration : Prop :=
  ∀ (o : Origin) (n : Fin 128) (k : Fin 16) (d : Fin 4) (v : Word) (uV t0 : Nat) (f : CalFactor) (s : State),
    let c := s.chan n
    let kc := s.cluster k
    let grid := s.tbc % 125 = 0
    let gain (t : State) : Word := t.reg (F.CAL_GAIN_GAIN (8 * k + f.1) f.2.1).addr
    let sel := s.fld (F.CL_CTRL_REFSEL k)
    (s.dieDark (chDie n) = false → v.toNat % 4 ≠ s.fld (F.CH_CFG_RANGE n) → c.rangeOld = none →
      (grid → Completes (.rangeChange o n v) s fun t => t.fld (F.CH_CFG_RANGE n) = v.toNat % 4 ∧
        (t.chan n).rangeUntil = some (s.tbc + 2500) ∧ t.fld (F.CH_STAT_AVAIL n) = 0) ∧
      (¬ grid → Completes (.rangeChange o n v) s fun t => t.fld (F.CH_CFG_RANGE n) = v.toNat % 4 ∧ t.rangeOf n = s.rangeOf n ∧
        (t.chan n).rangeUntil = c.rangeUntil)) ∧
    (c.rangeUntil = some t0 → t0 ≤ s.tbc → Completes (.rangeSettled n) s fun t => (t.chan n).rangeUntil = none) ∧
    (s.dieDark (k.val / 4) = false →
      (s.fld (F.CL_CTRL_CAL k) = 0 → v.toNat / 256 % 2 = 0 → kc.selOld = none →
        (v.toNat % 4 < 3 → v.toNat % 4 ≠ sel → Completes (.refselWrite o k v) s fun t => t.fld (F.CL_CTRL_REFSEL k) = v.toNat % 4 ∧
          (grid → t.fld (F.CL_STAT_REF_SETTLED k) = 0 ∧ (t.cluster k).settleAt.isSome = true) ∧
          (¬ grid → t.fld (F.CL_STAT_REF_SETTLED k) = s.fld (F.CL_STAT_REF_SETTLED k) ∧ (t.cluster k).selOld = some (sel, s.flag (F.CL_CTRL_INT_ON k)))) ∧
        (v.toNat % 4 = 3 → Completes (.refselWrite o k v) s fun t => t.fld (F.CL_CTRL_REFSEL k) = sel ∧
          (t.src (176 + k)).raises = min 65535 ((s.src (176 + k)).raises + 1))) ∧
      (v.toNat / 256 % 2 = 1 → s.fld (F.CL_CTRL_CAL k) = 0 → (s.die (k.val / 4)).calFail = false → kc.selOld = none → v.toNat % 4 = sel →
        v.toNat / 4 % 2 = s.fld (F.CL_CTRL_INT_ON k) →
        (s.fld (F.CL_STAT_REF_SETTLED k) = 1 → Completes (.cal o k v) s fun t => t.fld (F.CL_CTRL_CAL k) = 1 ∧ t.fld (F.CL_STAT_CAL_BUSY k) = 1 ∧
          (t.cluster k).calStart = some s.tbc) ∧
        (s.fld (F.CL_STAT_REF_SETTLED k) = 0 → Completes (.cal o k v) s fun t => t.fld (F.CL_CTRL_CAL k) = 1 ∧ (t.cluster k).calWait = true ∧
          (t.cluster k).calStart = kc.calStart)) ∧
      (s.fld (F.CL_CTRL_CAL k) = 1 → Completes (.cal o k v) s fun t => t.fld (F.CL_CTRL_CAL k) = 1 ∧ t.fld (F.CL_CTRL_REFSEL k) = sel ∧
        (t.cluster k).held = some v ∧ (t.cluster k).calStart = kc.calStart)) ∧
    (kc.settleAt = some t0 → t0 ≤ s.tbc → kc.refOut = false → Completes (.refSettled k) s fun t =>
      t.fld (F.CL_STAT_REF_SETTLED k) = 1 ∧ (t.cluster k).settleAt = none ∧ SameBut [.clusters, .regs .fd] s t) ∧
    (kc.refOut = false → s.fld (F.CL_STAT_REF_SETTLED k) = 1 →
      (refInside sel uV = false → Completes (.refMonitor k uV) s fun t => (t.cluster k).refOut = true ∧
        t.fld (F.CL_STAT_REF_SETTLED k) = 0 ∧ t.fld (F.CL_STAT_REF_FAULT k) = 1 ∧ (t.src (128 + k)).raises = min 65535 ((s.src (128 + k)).raises + 1)) ∧
      (refInside sel uV = true → Completes (.refMonitor k uV) s (SameBut [] s))) ∧
    (kc.calWait = true → s.fld (F.CL_STAT_REF_SETTLED k) = 1 → Completes (.calibrationStart k) s fun t =>
      t.fld (F.CL_STAT_CAL_BUSY k) = 1 ∧ (t.cluster k).calStart = some s.tbc ∧ (t.cluster k).calWait = false) ∧
    (2 ≤ s.mode → s.mode ≠ 7 → (∀ i : Fin 4, (s.cluster (4 * d + i)).rolling = false) → s.fld (F.CL_CTRL_ROLL (4 * d)) = 1 →
      s.fld (F.CL_STAT_STALE (4 * d)) = 1 → s.fld (F.CL_CTRL_CAL (4 * d)) = 0 → (s.die d).calFail = false →
      Completes (.rollCalibrationStart d) s fun t => t.fld (F.CL_CTRL_CAL (4 * d)) = 1 ∧ (t.cluster (4 * d)).rolling = true) ∧
    (kc.calStart = some t0 → kc.calDone = false → f.1 < 8 → f.2.1 < 5 →
      (t0 + 2250000 ≤ s.tbc → (t0 + 3125000 ≤ s.tbc → kc.held = none) → Completes (.calibrationComplete k [f]) s fun t =>
        (s.factorOk k f = true → gain t = f.2.2.1 ∧ (t.cluster k).failed = []) ∧
        (s.factorOk k f = false → gain t = gain s ∧ t.fld (F.CL_STAT_CAL_LIMIT k) = 1 ∧ (t.cluster k).failed = [f.2.1]) ∧
        (s.tbc < t0 + 3125000 → (t.cluster k).calStart = some t0 ∧ (t.cluster k).calDone = true) ∧
        (t0 + 3125000 ≤ s.tbc → t.fld (F.CL_STAT_CAL_BUSY k) = 0 ∧ t.fld (F.CL_CTRL_CAL k) = 0 ∧ (t.cluster k).calStart = none)) ∧
      (s.tbc < t0 + 2250000 → Completes (.calibrationComplete k [f]) s (SameBut [] s)))

/-- At its grid point a good output block gives the die the DAC code and FIO command of the highest level, of a running group's member those of its tick; a step block brings every step still owed, which a held pad loses; an escape, at most every 200 ns, the global-term states.
A bad block changes none of these and raises source 208 of the region; a dark die takes none. The DAC follows its code not sooner than 1 µs after its last update;
AOUT_CFG holds a changed range for 20 µs. COUPLER_CLOCK_LOSS and VISO5_FAIL isolate a die until DIE_RESTART, which is refused while its clocks or supply are missing; a die above 145 °C shuts down. PLL and cross-check faults are flagged and raised.
CERT_BEGIN, CERT_POINT, CERT_POINT_COMPLETE, CERT_END and CERT_ABORT collect points of a die in IDLE for an ENGINEER session, and end with a new record or with none. -/
def Obligations.OutputsAndDies : Prop :=
  ∀ (o : Origin) (n : Fin 128) (d pll : Fin 4) (v : Word) (key : Byte) (temp meas : Int) (t0 g : Nat) (cnt : Fin 1048576) (p : CertPoint) (fv : Bool × Nat) (av : Int × Nat) (i : Injection) (s : State),
    let c := s.chan n
    let up := s.dieDark (chDie n) = false
    let res (code r : Nat) (t : State) := t.fld (F.DIE_CMDSTAT_CODE d) = code ∧ t.fld (F.DIE_CMDSTAT_RESULT d) = r
    let x := s.die d
    let lit := s.dieDark d = false
    let eng := s.engineer o = true
    let u := s.takeGlobal n
    let grid := s.tbc % 125 = 0
    let sound := (s.blockCrc n false true).1 = none
    let takes (f : Bool × Nat) (a : Int × Nat) (t : State) := ((t.chan n).fioCmd, (t.chan n).fioLevel) = u.coreFio n f ∧
      ((t.chan n).aCode, (t.chan n).aLevel) = u.coreAout n a ∧ (c.aSettle = none → c.dacAt = none → (t.chan n).dac = (u.coreAout n a).1)
    (up → grid → sound → tget [] s.out.pend n = [] →
      (s.runGroup n = none → Completes (.downstreamOutputBlock n true) s (takes (s.ownFio n) (s.ownAout n))) ∧
      (s.runGroup n = some g → (s.lg g).next = some s.tbc → Completes (.downstreamOutputBlock n true) s fun t =>
        takes (s.ownFio n) (s.ownAout n) t ∧ (t.chan n).tkFio = some (s.ownFio n) ∧ (t.chan n).tkAout = some (s.ownAout n)) ∧
      (s.runGroup n = some g → (s.lg g).next ≠ some s.tbc → c.tkFio = some fv → c.tkAout = some av →
        Completes (.downstreamOutputBlock n true) s (takes fv av))) ∧
    (up → grid → sound → s.padHeld n = false → Completes (.downstreamStepBlock n true) s fun t => (t.chan n).stepPend = 0 ∧ (t.chan n).stepNet = 0 ∧
      (t.chan n).padSteps = (c.padSteps + c.stepPend) % 65536 ∧ (t.chan n).stepLost = c.stepLost ∧ SameBut [.chans] s t) ∧
    (up → grid → sound → s.padHeld n = true → Completes (.downstreamStepBlock n true) s fun t => (t.chan n).stepPend = 0 ∧ (t.chan n).stepNet = 0 ∧
      (t.chan n).padSteps = c.padSteps ∧ (t.chan n).stepLost = c.stepLost + c.stepNet ∧ SameBut [.chans] s t) ∧
    (up → grid → s.injOf 4 = some i → i.target = n → ∀ b ∈ ([.downstreamOutputBlock n true, .downstreamStepBlock n true] : List Instr), Completes b s fun t =>
      Raised (208 + chRegion n) s t ∧ (t.src (208 + chRegion n)).injected = true ∧ t.flt.inj = none ∧ (t.chan n).aCode = c.aCode ∧ (t.chan n).padSteps = c.padSteps) ∧
    (up → grid → sound → (Completes (.downstreamOutputBlock n false) s fun t => Raised (208 + chRegion n) s t ∧ (t.chan n).aCode = c.aCode ∧
        (t.chan n).fioCmd = c.fioCmd) ∧
      (Completes (.downstreamStepBlock n false) s fun t => Raised (208 + chRegion n) s t ∧ (t.chan n).padSteps = c.padSteps)) ∧
    (up → s.escDue c.escDown = true → (Completes (.downstreamEscape n true) s fun t => (t.chan n).gHold = s.ilm.heldGlobal.contains n.val ∧
        (t.chan n).gClamp = s.ilm.heldGlobal.contains (128 + n.val) ∧ (t.chan n).gInh = s.ilm.heldGlobal.contains (256 + n.val) ∧ SameBut [.chans] s t) ∧
      Completes (.downstreamEscape n false) s fun t => (t.chan n).gHold = c.gHold ∧ (t.chan n).gClamp = c.gClamp ∧ (t.chan n).gInh = c.gInh ∧
        SameBut [.chans] s t) ∧
    (¬ up ∨ ¬ grid → ∀ k, Completes (.downstreamOutputBlock n k) s (SameBut [] s) ∧ Completes (.downstreamStepBlock n k) s (SameBut [] s)) ∧
    (¬ up ∨ s.escDue c.escDown = false → ∀ k, Completes (.downstreamEscape n k) s (SameBut [] s)) ∧
    (c.aSettle = none → c.aCode ≠ c.dac →
      (c.dacAt = some t0 → t0 + 250 ≤ s.tbc → Completes (.aoutUpdate n) s fun t => (t.chan n).dac = c.aCode ∧ (t.chan n).dacAt = some s.tbc ∧ SameBut [.chans] s t) ∧
      (c.dacAt = some t0 → s.tbc < t0 + 250 → Completes (.aoutUpdate n) s (SameBut [] s))) ∧
    (up → v.toNat % 4 < 3 → v.toNat % 4 ≠ s.fld (F.AOUT_CFG_RANGE n) → v.toNat / 4 % 2 = 1 → Completes (.aoutRangeChange o n v) s fun t =>
      t.fld (F.AOUT_CFG_RANGE n) = v.toNat % 4 ∧ (t.chan n).aSettle = some (s.tbc + 5000) ∧ (t.chan n).dac = 0) ∧
    (up → v.toNat % 4 = 3 → Completes (.aoutRangeChange o n v) s fun t => t.fld (F.AOUT_CFG_RANGE n) = s.fld (F.AOUT_CFG_RANGE n) ∧
      (t.src (192 + chRegion n)).raises = min 65535 ((s.src (192 + chRegion n)).raises + 1)) ∧
    (c.aSettle = some t0 → t0 ≤ s.tbc → Completes (.aoutRangeSettled n) s fun t => (t.chan n).aSettle = none ∧ (t.chan n).dac = c.aCode ∧ SameBut [.chans] s t) ∧
    (Completes (.aoutDiagnosis n true) s fun t => t.fld (F.AOUT_STAT_OPEN n) = 1 ∧ Raised (216 + chRegion n) s t) ∧
    (Completes (.aoutDiagnosis n false) s fun t => t.fld (F.AOUT_STAT_OVC n) = 1 ∧ Raised (216 + chRegion n) s t) ∧
    (∀ i ∈ ([.couplerClockLoss d, .viso5Fail d] : List Instr), Completes i s fun t => t.dieDark d = true ∧ t.fld (F.DIE_STAT_ISOLATED d) = 1 ∧
      t.fld (F.CH_STAT_UNAV_REASON (32 * d.val)) = 5 ∧ t.fld (F.CH_STAT_AVAIL (32 * d.val)) = 0 ∧
      (t.src (240 + d)).raises = min 65535 ((s.src (240 + d)).raises + 1)) ∧
    (Completes (.couplerClockReturn d) s fun t => t.fbit F.CLK_STAT_FD_CLK_OK d = true ∧ t.fld (F.DIE_STAT_ISOLATED d) = s.fld (F.DIE_STAT_ISOLATED d) ∧
      SameBut [.regs .clk] s t) ∧
    (Completes (.viso5Return d true false) s fun t => (t.die d).viso = true ∧ (t.regionU (2 * d)).vfldMissing = false ∧
      (t.regionU (2 * d + 1)).vfldMissing = true ∧ t.fld (F.DIE_STAT_ISOLATED d) = s.fld (F.DIE_STAT_ISOLATED d)) ∧
    (s.tbc % 250000 = 0 → lit → 2320 < temp → temp < 32768 → s.fld (F.DIE_STAT_THERM_SD d) = 0 → Completes (.dieTempMeasure d temp) s fun t =>
      t.sfld (F.DIE_STAT_TEMP d) = temp ∧ t.fld (F.DIE_STAT_THERM_SD d) = 1 ∧ (t.src (244 + d)).raises = min 65535 ((s.src (244 + d)).raises + 1)) ∧
    (s.tbc % 250000 = 0 → lit → -1000 < temp → temp ≤ 2320 → Completes (.dieTempMeasure d temp) s fun t => t.sfld (F.DIE_STAT_TEMP d) = temp ∧
      t.fld (F.DIE_STAT_THERM_SD d) = s.fld (F.DIE_STAT_THERM_SD d)) ∧
    (key ≠ 0xA5 → Completes (.dieRestart o d key) s fun t => res (s.fld (F.DIE_CMDSTAT_CODE d)) 4 t ∧ SameBut [.regs .fd] s t) ∧
    (s.fbit F.CLK_STAT_FD_CLK_OK d = false ∨ x.viso = false → Completes (.dieRestart o d 0xA5) s fun t => res 1 2 t ∧ SameBut [.regs .fd] s t) ∧
    (s.fbit F.CLK_STAT_FD_CLK_OK d = true → x.viso = true → s.fld (F.DIE_STAT_THERM_SD d) = 0 →
      Completes (.dieRestart o d 0xA5) s fun t => res 1 0 t ∧ t.dieDark d = false ∧ t.fld (F.DIE_STAT_ISOLATED d) = 0) ∧
    (Completes .mainPllUnlock s fun t => t.fld F.CLK_FLT_MAIN_UNLOCK = 1 ∧ t.fld F.CLK_STAT_MAIN_LOCK = 0 ∧ Raised 0 s t) ∧
    (Completes (.serdesPllUnlock pll) s fun t => t.fld F.CLK_FLT_SER_UNLOCK = 1 ∧
      (pll = 0 → t.fld F.CLK_STAT_SER_LOCK_NET = 0) ∧ (pll = 1 → t.fld F.CLK_STAT_SER_LOCK_SL = 0) ∧
      (pll = 2 → t.fld F.CLK_STAT_SER_LOCK_PLNK = 0 ∧ Raised 9 s t) ∧ (pll = 3 → t.fld F.CLK_STAT_SER_LOCK_PCIE = 0 ∧ Raised 18 s t)) ∧
    (235000 ≤ cnt.val → cnt.val ≤ 265000 → Completes (.clockCrosscheck cnt) s fun t => t.fld F.CLK_STAT_XCHK_OK = 1 ∧ t.fld F.CLK_XCHK_FAB_COUNT = cnt.val ∧
      t.safe.xchkOut = 0 ∧ SameBut [.safe, .regs .clk] s t) ∧
    (cnt.val < 235000 ∨ 265000 < cnt.val → Completes (.clockCrosscheck cnt) s fun t => t.fld F.CLK_STAT_XCHK_OK = 0 ∧
      (s.safe.xchkOut = 0 → t.safe.xchkOut = 1 ∧ t.fld F.CLK_FLT_XCHK_FAIL = s.fld F.CLK_FLT_XCHK_FAIL) ∧
      (1 ≤ s.safe.xchkOut → t.fld F.CLK_FLT_XCHK_FAIL = 1)) ∧
    (lit → ∀ r ∈ ([(0x10, .certBegin o d), (0x11, .certPoint o d), (0x12, .certEnd o d), (0x13, .certAbort o d)] : List (Nat × (Byte → Instr))),
      (key ≠ 0xA5 → Completes (r.2 key) s fun t => res (s.fld (F.DIE_CMDSTAT_CODE d)) 4 t ∧ SameBut [.regs .fd] s t) ∧
      (r.1 ≠ 0x10 → x.cert = false → Completes (r.2 0xA5) s fun t => res r.1 2 t ∧ SameBut [.regs .fd] s t) ∧
      (r.1 ≠ 0x13 → ¬ eng → Completes (r.2 0xA5) s fun t => res r.1 2 t ∧ SameBut [.regs .fd] s t)) ∧
    (lit → eng → s.fld F.SYS_MODE_MODE = 2 → x.cert = false → s.fld (F.SEAL_STAT_FUSE_CNT d) < 255 → Completes (.certBegin o d 0xA5) s fun t =>
      res 0x10 0 t ∧ (t.die d).cert = true ∧ (t.die d).points = [] ∧ t.fld (F.CH_STAT_AVAIL (32 * d.val)) = 0) ∧
    (lit → eng → x.cert = true → x.acquiring = none → s.fld (F.CERT_ARG_RANGE_IDX d) < 5 → Completes (.certPoint o d 0xA5) s fun t => res 0x11 1 t ∧
      (t.die d).acquiring = some (s.fld (F.CERT_ARG_CHANNEL d), s.fld (F.CERT_ARG_RANGE_IDX d), s.flag (F.CERT_ARG_POINT d), s.tbc) ∧
      SameBut [.dies, .regs .fd] s t) ∧
    (lit → eng → x.cert = true → x.acquiring = none → 5 ≤ s.fld (F.CERT_ARG_RANGE_IDX d) → x.driven = none → Completes (.certPoint o d 0xA5) s fun t => res 0x11 0 t ∧
      (t.die d).driven = some (s.fld (F.CERT_ARG_CHANNEL d), s.fld (F.CERT_ARG_RANGE_IDX d), s.flag (F.CERT_ARG_POINT d)) ∧
      SameBut [.dies, .regs .fd] s t) ∧
    (x.acquiring = some (p.ch, p.idx, p.span, t0) → x.points = [] → Completes (.certPointComplete d meas) s fun t =>
      (t.die d).points = [{ ch := p.ch, idx := p.idx, span := p.span, measured := meas, value := s.sfld (F.CERT_VAL_VALUE d) }] ∧
      (t.die d).acquiring = none ∧ t.fld (F.DIE_CMDSTAT_RESULT d) = 0 ∧ SameBut [.dies, .regs .fd] s t) ∧
    (lit → x.cert = true → s.secu.keyBad = true → Completes (.certEnd o d 0xA5) s fun t => res 0x12 2 t ∧ SameBut [.regs .fd] s t) ∧
    (lit → eng → x.cert = true → s.secu.keyBad = false → x.points = [] → x.calFail = false → Completes (.certEnd o d 0xA5) s fun t => res 0x12 1 t ∧ (t.die d).cert = false ∧
      t.fld (F.SEAL_STAT_FUSE_CNT d) = (s.fld (F.SEAL_STAT_FUSE_CNT d) + 1) % 256 ∧ (t.die d).slotB = (!x.slotB)) ∧
    (lit → x.cert = true → Completes (.certAbort o d 0xA5) s fun t => res 0x13 0 t ∧ (t.die d).cert = false ∧ (t.die d).points = [] ∧
      t.fld (F.SEAL_STAT_FUSE_CNT d) = s.fld (F.SEAL_STAT_FUSE_CNT d))

/-- FIO_CFG takes DIR only in DAWN and IDLE, to act from the next grid point; an input settles after DEB; MAXACT flags one that stays 1. Thermal trips, overcurrent, missing VFLD and a trip after 1,000 measurements above 4.0 A or 20 above 6.0 A set the region's common fault until they end or REGION_RESTART.
LG_CTRL starts a group with a valid setting only and is ignored for a PERIOD below 10 µs with an active sequencer bound to the group; its tick converts nothing itself but sets the next tick and takes members in, a trigger that waits re-phases it once per tick and is counted after; CH_LG moves a channel of stopped groups at once.
A matrix input acts at once or after its filter; QERR flags and raises its pair. -/
def Obligations.PinsGroupsInterlock : Prop :=
  ∀ (o : Origin) (n : Fin 128) (r : Fin 8) (g h : Fin 32) (i : Fin 288) (v : Word) (lvl : Bool) (sum : Fin 4096) (t0 t1 : Nat) (s : State),
    let c := s.chan n
    let m := s.fld F.SYS_MODE_MODE
    let up := s.dieDark (chDie n) = false
    let grid := s.tbc % 125 = 0
    let dir := s.fld (F.FIO_CFG_DIR n)
    let rn := chRegion n
    let u := s.regionU r
    let faulted (k : Nat) (t : State) := t.fld (F.RG_STAT_FAULT k) = 1 ∧ (s.fld (F.RG_STAT_FAULT k) = 0 → t.fld (F.RG_STAT_FAULT_SEEN k) = 1 ∧
      (t.src (232 + k)).raises = min 65535 ((s.src (232 + k)).raises + 1))
    let l := s.lg g
    let cfg := (s.reg (F.LG_CTRL_EN g).addr).toNat
    let period := v.toNat % 65536
    (up → v.toNat / 2 ^ 29 % 2 ≠ dir → 3 ≤ m → Completes (.fioDirWrite o n v) s fun t => t.fld (F.FIO_CFG_DIR n) = dir ∧
      (t.src (192 + rn)).raises = min 65535 ((s.src (192 + rn)).raises + 1)) ∧
    (up → v.toNat / 2 ^ 27 % 4 ≠ 3 → m = 2 → Completes (.fioDirWrite o n v) s fun t =>
      t.fld (F.FIO_CFG_DIR n) = v.toNat / 2 ^ 29 % 2 ∧ t.fioOut n = (if grid then v.getLsbD 29 else s.fioOut n)) ∧
    (up → c.dirOld = none → v.toNat / 2 ^ 29 % 2 = dir → v.toNat / 2 ^ 27 % 4 ≠ 3 → c.raw ≠ c.inp → v.toNat % 65536 ≠ 0 → dir = 0 → Completes (.debWrite o n v) s fun t =>
      t.fld (F.FIO_CFG_DEB n) = v.toNat % 65536 ∧ (t.chan n).debSince = some s.tbc ∧ (t.chan n).inp = c.inp) ∧
    (c.debSince = some t0 → t0 + 250 * s.fld (F.FIO_CFG_DEB n) ≤ s.tbc → Completes (.debounceExpiry n) s fun t =>
      (t.chan n).inp = c.raw ∧ (t.chan n).debSince = none ∧
      (up → c.lostStatus = false → s.fioOut n = false → t.fld (F.FIO_STAT_IN n) = (if c.raw then 1 else 0))) ∧
    (c.debSince = some t0 → s.tbc < t0 + 250 * s.fld (F.FIO_CFG_DEB n) → Completes (.debounceExpiry n) s (SameBut [] s)) ∧
    (up → s.expertOn (F.FIO_MAXACT_MAXACT n).addr = true → Completes (.maxactWrite o n v) s fun t =>
      t.fld (F.FIO_MAXACT_MAXACT n) = v.toNat % 2 ^ (F.FIO_MAXACT_MAXACT n).width ∧ (t.chan n).maxact = false ∧ (t.chan n).inSince = s.tbc) ∧
    (0 < s.fld (F.FIO_MAXACT_MAXACT n) → c.inp = true → s.fioOut n = false → c.inSince + 250000 * s.fld (F.FIO_MAXACT_MAXACT n) ≤ s.tbc →
      Completes (.maxactExpiry n) s fun t => (t.chan n).maxact = true ∧ faulted rn t) ∧
    (Completes (.switchThermalTrip n) s fun t => n.val ∈ (t.regionU rn).therm ∧ faulted rn t) ∧
    (Completes (.overcurrentQualified n true) s fun t => n.val ∈ (t.regionU rn).ovc ∧ faulted rn t) ∧
    (Completes (.vfldMissing r) s fun t => (t.regionU r).vfldMissing = true ∧ faulted r t) ∧
    (Completes (.switchCooled n) s fun t => n.val ∉ (t.regionU rn).therm) ∧
    (Completes (.overcurrentQualified n false) s fun t => n.val ∉ (t.regionU rn).ovc) ∧
    (u = { vfldMissing := true } → s.fld (F.RG_STAT_TRIPPED r) = 0 → (∀ j : Fin 16, (s.chan (16 * r + j)).maxact = false) →
      Completes (.vfldPresent r) s fun t => (t.regionU r).vfldMissing = false ∧ t.fld (F.RG_STAT_FAULT r) = 0) ∧
    (s.tbc % 2500 = 0 →
      Completes (.isumMeasure r sum) s fun t => t.fld (F.RG_STAT_ISUM r) = sum.val ∧
        (s.fld (F.RG_STAT_TRIPPED r) = 0 → u.over4 < 999 → u.over6 < 19 → (t.regionU r).over4 = (if 400 < sum.val then u.over4 + 1 else 0) ∧
          (t.regionU r).over6 = (if 600 < sum.val then u.over6 + 1 else 0) ∧ t.fld (F.RG_STAT_TRIPPED r) = 0) ∧
        (s.fld (F.RG_STAT_TRIPPED r) = 0 → (999 ≤ u.over4 ∧ 400 < sum.val) ∨ (19 ≤ u.over6 ∧ 600 < sum.val) →
          t.fld (F.RG_STAT_TRIPPED r) = 1 ∧ t.fld (F.RG_STAT_FAULT r) = 1)) ∧
    (s.dieDark (r.val / 2) = false → v.getLsbD 0 = true → u.vfldMissing = false →
      (grid → Completes (.regionRestart o r v) s fun t => t.fld (F.RG_STAT_TRIPPED r) = 0 ∧ (t.regionU r).over4 = 0 ∧ (t.regionU r).over6 = 0) ∧
      (¬ grid → Completes (.regionRestart o r v) s fun t => (t.regionU r).restart = true ∧ SameBut [.regions] s t)) ∧
    (s.dieDark (r.val / 2) = false → v.getLsbD 0 = false ∨ u.vfldMissing = true → Completes (.regionRestart o r v) s (SameBut [] s)) ∧
    (2 ^ 31 ≤ v.toNat → lgValid v = true → period < 10 → s.lgBoundActive g = true → Completes (.lgCtrlWrite o g v) s fun t =>
      (t.reg (F.LG_CTRL_EN g).addr).toNat = cfg ∧ (t.lg g).next = l.next ∧ Raised 1 s t) ∧
    (2 ^ 31 ≤ v.toNat → lgValid v = true → 10 ≤ period ∨ s.lgBoundActive g = false →
      (cfg < 2 ^ 31 → Completes (.lgCtrlWrite o g v) s fun t => t.fld (F.LG_STAT_ACTIVE g) = 1 ∧ (t.lg g).next = some (multFrom period (s.tbc + 250)) ∧
        t.fld (F.LG_STAT_RETRIG_DROP g) = 0 ∧ (c.member = some g.val → (t.chan n).tkFio = some (s.ownFio n) ∧ (t.chan n).tkAout = some (s.ownAout n)) ∧
        SameBut [.lgs, .chans, .regs .clk] s t) ∧
      (2 ^ 31 ≤ cfg → Completes (.lgCtrlWrite o g v) s fun t => (t.lg g).oldCfg = some (l.oldCfg.getD (s.reg (F.LG_CTRL_EN g).addr)) ∧
        (t.lg g).next = l.next ∧ t.fld (F.LG_CTRL_PERIOD g) = period ∧ SameBut [.lgs, .regs .clk] s t)) ∧
    (cfg < 2 ^ 31 → 2 ^ 31 ≤ v.toNat → lgValid v = false → Completes (.lgCtrlWrite o g v) s fun t => t.fld (F.LG_CTRL_EN g) = 0 ∧ (t.lg g).next = l.next ∧ Raised 1 s t) ∧
    (2 ^ 31 ≤ cfg → v.toNat < 2 ^ 31 → Completes (.lgCtrlWrite o g v) s fun t => t.fld (F.LG_STAT_ACTIVE g) = 0 ∧ (t.lg g).next = none) ∧
    (l.next = some t0 → t0 ≤ s.tbc → 0 < cfg % 65536 → Completes (.lockGroupTick g) s fun t => (t.lg g).last = some s.tbc ∧ (t.lg g).rephased = false ∧
      (cfg / 2 ^ 28 % 8 = 0 → (t.lg g).next = some (multFrom (cfg % 65536) (s.tbc + 250))) ∧
      (cfg / 2 ^ 28 % 8 ≠ 0 → (t.lg g).next = some (s.tbc + 250 * (cfg % 65536))) ∧
      (c.member = none → c.leaving = false → s.lgTarget n = some g.val → c.leftAt = none → (t.chan n).member = some g.val) ∧
      (c.member = some g.val → (t.chan n).tickAt = some s.tbc ∧ (c.leaving = true → (t.chan n).leftAt = some s.tbc))) ∧
    (l.next = some t0 → (s.lgTrig g).map Prod.fst = some t1 →
      (Completes (.lockGroupTrigger g) s fun t => (bitsOf (s.lgCfg g) 28 3 = 1 → (t.lg g).stepAt = some t1) ∧
        (bitsOf (s.lgCfg g) 28 3 ≠ 1 → l.trigs = t1 :: (t.lg g).trigs)) ∧
      (l.rephased = false → Completes (.lockGroupTrigger g) s fun t => (t.lg g).rephased = true ∧
        (t.lg g).next = some (gridFrom (max (t1 + 25) (l.last.getD l.since + 250))) ∧ SameBut [.lgs] s t) ∧
      (l.rephased = true → Completes (.lockGroupTrigger g) s fun t => (t.lg g).next = l.next ∧ t.fld (F.LG_STAT_RETRIG_DROP g) =
        min (2 ^ (F.LG_STAT_RETRIG_DROP g).width - 1) (s.fld (F.LG_STAT_RETRIG_DROP g) + 1) ∧ SameBut [.lgs, .regs .clk] s t)) ∧
    ((s.lgTrig g).map Prod.fst = none → Completes (.lockGroupTrigger g) s (SameBut [] s)) ∧
    (c.member = none → (s.lg h).next = none → v = BitVec.ofNat 32 (32 + h) → Completes (.chLgWrite o n v) s fun t => (t.chan n).member = some h.val) ∧
    (c.member = some g.val → l.next.isSome = true → v = BitVec.ofNat 32 (32 + h) → h ≠ g → Completes (.chLgWrite o n v) s fun t =>
      (t.chan n).member = some g.val ∧ (t.chan n).leaving = true) ∧
    (i.val < 128 → (s.chan i).raw ≠ lvl → Completes (.ilmInputChange i lvl) s fun t => (t.chan i).raw = lvl ∧
      (s.ilmFilt i = 0 → (t.chan i).filt = lvl) ∧
      (0 < s.ilmFilt i → (t.chan i).filt = (s.chan i).filt ∧ (t.chan i).filtSince = if (s.chan i).filt = lvl then none else some s.tbc)) ∧
    (256 ≤ i.val → i.val < 272 → Completes (.ilmInputChange i lvl) s fun t => bitOf t.ilm.ilk (i.val - 256) = lvl ∧
      (s.ilmFilt i = 0 → bitOf t.ilm.ilkFilt (i.val - 256) = lvl)) ∧
    (280 ≤ i.val → Completes (.ilmInputChange i lvl) s fun t => bitOf t.ilm.trigl (i.val - 280) = lvl ∧ t.bit (272 + (i.val - 280)) = lvl) ∧
    (i.val < 128 → (s.chan i).filtSince = some t0 → t0 + (s.ilmFilt i * 5 + 1) / 2 ≤ s.tbc → Completes (.ilmFilterExpiry i) s fun t =>
      (t.chan i).filt = (s.chan i).raw ∧ (t.chan i).filtSince = none) ∧
    (s.fld (F.AX_CFG_QENC_EN (n / 2 * 2)) = 1 → Completes (.qerr n) s fun t => t.fld (F.AX_STAT_QERR (n / 2 * 2)) = 1 ∧
      Raised (224 + chRegion (n / 2 * 2)) s t) ∧
    (s.fld (F.AX_CFG_QENC_EN (n / 2 * 2)) = 0 → Completes (.qerr n) s (SameBut [] s))

/-- A write to the inactive set takes effect and clears LOADED; one to the active set, or while a swap is pending, is ignored and raised. LOAD of a set without a fault places it and sets LOADED, and names the first term that fails otherwise; SWAP of a loaded set
reports PENDING and becomes effective at SWAP_APPLY, both sets holding until SWAP_OVERLAP_END. CLEAR_LATCH and ILM_CLEAR_ALL clear latches of terms that are not true. A wrong KEY is BAD_KEY. -/
def Obligations.InterlockSets : Prop :=
  ∀ (o : Origin) (key : Byte) (set : Bool) (tn : Fin 512) (w : Fin 4) (v : Word) (t0 e x : Nat) (s : State),
    let active := s.fld F.ILM_STAT_ACTIVE
    let pend := s.fld F.ILM_STAT_SWAP_PEND = 1
    let res (r : Nat) (t : State) := t.fld F.ILM_STAT_RESULT = r
    let other := 1 - active
    let lit := s.ilmTerms other
    (b2n set ≠ active → ¬ pend → Completes (.ilmTermWrite o set tn w v) s fun t => t.reg (F.ILM_TERM_WORD (b2n set) tn w).addr = termWord w v ∧
      t.fld F.ILM_STAT_LOADED = 0 ∧ SameBut [.regs .ilm] s t) ∧
    (b2n set = active ∨ pend → Completes (.ilmTermWrite o set tn w v) s fun t =>
      t.reg (F.ILM_TERM_WORD (b2n set) tn w).addr = s.reg (F.ILM_TERM_WORD (b2n set) tn w).addr ∧ Raised 16 s t) ∧
    (key ≠ 0xA5 → ∀ i ∈ ([.load o key, .swap o key, .clearLatch o key, .ilmClearAll o key] : List Instr), Completes i s fun t => res 4 t ∧ SameBut [.regs .ilm] s t) ∧
    (¬ pend → s.ilm.overlap = none →
      (s.ilmCheck lit (placeLocal lit) = none → Completes (.load o 0xA5) s fun t => res 0 t ∧ t.fld F.ILM_STAT_LOADED = 1 ∧ t.fld F.ILM_ERR_ERR = 0 ∧
        t.ilmLocal other = placeLocal lit ∧ SameBut [.ilm, .regs .ilm] s t) ∧
      (s.ilmCheck lit (placeLocal lit) = some (e, x) → e < 8 → x < 512 → Completes (.load o 0xA5) s fun t => res 6 t ∧ t.fld F.ILM_STAT_LOADED = 0 ∧
        t.fld F.ILM_ERR_ERR = e ∧ t.fld F.ILM_ERR_TERM = x ∧ SameBut [.regs .ilm] s t)) ∧
    (pend ∨ s.ilm.overlap ≠ none → Completes (.load o 0xA5) s fun t => res 2 t ∧ SameBut [.regs .ilm] s t) ∧
    (s.fld F.ILM_STAT_LOADED = 1 → ¬ pend → Completes (.swap o 0xA5) s fun t => res 1 t ∧ t.ilm.swapAt = some (gridFrom (s.tbc + 500)) ∧
      t.fld F.ILM_STAT_SWAP_PEND = 1 ∧ t.fld F.ILM_STAT_ACTIVE = active ∧ SameBut [.ilm, .regs .ilm] s t) ∧
    (s.fld F.ILM_STAT_LOADED = 0 ∨ pend → Completes (.swap o 0xA5) s fun t => res 2 t ∧ SameBut [.regs .ilm] s t) ∧
    (s.ilm.swapAt = some t0 → t0 ≤ s.tbc → active < 2 → Completes .swapApply s fun t => t.fld F.ILM_STAT_ACTIVE = 1 - active ∧ t.ilm.swapAt = none ∧
      t.ilm.overlap = some (t0 + 125) ∧ t.fld F.ILM_STAT_SWAP_PEND = 0 ∧ t.fld F.ILM_STAT_LOADED = 0 ∧ (res 1 s → res 0 t)) ∧
    (s.ilm.overlap = some t0 → t0 ≤ s.tbc → Completes .swapOverlapEnd s fun t => t.ilm.overlap = none ∧ t.fld F.ILM_STAT_ACTIVE = active) ∧
    (let a := s.fld F.ILM_ARG_SET
     let k := s.fld F.ILM_ARG_TERM
     (s.ilmTerm a k = none → a < 2 → Completes (.clearLatch o 0xA5) s fun t => t.latched a k = false ∧ res 0 t) ∧
     (s.ilmTerm a k = none → a < 2 → Completes (.ilmClearAll o 0xA5) s fun t => t.latched a k = false ∧ res 0 t))

/-- SLOT_ENABLE sets EN only of a slot that passes its checks, else it raises the engine's configuration source; SLOT_DISABLE clears it. 500 ns after a tick the slot's activation becomes ready once, taking the bank asked for; one not yet ended is an overrun.
ACTIVATION_START takes the first ready one into a free set of an idle engine, or over a running one of lower priority where preemption is enabled or the one above it has just ended; ACTIVATION_END drops it and counts its times. A fabric write stores in the engine's memories on natural alignment;
the scrubber corrects and counts a wrong bit and counts a line it cannot read. Palette requests act from 100 ns on, at once on a disabled slot, those of a group from 1 µs on with KEY; learn and status commands write LCMD; an import needs an endpoint. -/
def Obligations.LoopSlotsRun : Prop :=
  ∀ (o : Origin) (g : Fin 512) (e : Fin 8) (k : Fin 64) (m : Fin 2) (v : Word) (b : BitVec 64) (off : Fin 1048576) (j t0 : Nat) (r : Ready) (a : Act) (rest : List Act) (s : State),
    let x := s.engine e
    let en := s.fld (F.LE_SLOTCFG_EN g)
    let eg : Nat := g.val / 64
    let cmd (i : Instr) (n : Nat) : Prop := Completes i s fun t => t.dsc g 53 = n ∧ (∀ c, c < descWord g 53 ∨ descWord g 53 + 2 ≤ c → t.byte c = s.byte c) ∧
      SameBut [.mem, .flt] s t
    (en = 0 → s.slotOk g = true → Completes (.slotEnable o g v) s fun t => t.fld (F.LE_SLOTCFG_EN g) = 1 ∧ t.fld (F.LE_SLOTCFG_PRIO g) = v.toNat / 2 ^ 27 % 8 ∧
      t.fld (F.LE_SLOTCFG_ENTRY g) = v.toNat % 8192 ∧ (t.slot g).enabledAt = s.tbc ∧ t.fld (F.LE_SLOTSTAT_OVERRUNS g) = 0 ∧ SameBut [.slots, .out, .regs .le] s t) ∧
    (en = 0 → s.slotOk g = false → Completes (.slotEnable o g v) s fun t => t.fld (F.LE_SLOTCFG_EN g) = 0 ∧
      (t.src (64 + eg)).raises = min 65535 ((s.src (64 + eg)).raises + 1)) ∧
    (en = 1 → Completes (.slotDisable o g v) s fun t => t.fld (F.LE_SLOTCFG_EN g) = 0 ∧ t.fld (F.LE_SLOTSTAT_PENDING g) = 0 ∧
      (t.engine eg).stack = (s.engine eg).stack) ∧
    (en = 1 → s.tasksRun = true → s.slotTick g = some t0 → (s.slot g).enabledAt < t0 → (s.slot g).lastReady ≠ some t0 → s.seqs = [] →
      (s.slotReady g = false → s.slotAct g = none → Completes (.activationReady g) s fun t => (t.slot g).lastReady = some t0 ∧
        (t.engine eg).ready = (s.engine eg).ready ++ [{ slot := g, at_ := s.tbc, prio := s.fld (F.LE_SLOTCFG_PRIO g), entry := s.fld (F.LE_SLOTCFG_ENTRY g), bank := if (s.slot g).palFrom ≤ s.tbc then s.fbit (F.LE_PALREQ_REQ eg (g % 64 / 32)) (g % 64 % 32) else s.fbit (F.LE_PALACT_ACT eg (g % 64 / 32)) (g % 64 % 32) }]) ∧
      (s.slotAct g = some a → a.ticks = 0 → Completes (.activationReady g) s fun t =>
        t.fld (F.LE_SLOTSTAT_OVERRUNS g) = min 65535 (s.fld (F.LE_SLOTSTAT_OVERRUNS g) + 1) ∧ Raised (80 + eg) s t ∧
        t.fld (F.LE_SLOTSTAT_PENDING g) = max (s.fld (F.LE_SLOTSTAT_PENDING g)) (s.fld (F.LE_SLOTCFG_OVR_MODE g)) ∧ (t.engine eg).ready = (s.engine eg).ready) ∧
      (s.slotAct g = some a → 1 ≤ a.ticks → Completes (.activationReady g) s fun t => t.fld (F.LE_SLOTSTAT_RUNAWAY g) = 1 ∧ Raised (80 + eg) s t ∧
        (∀ y ∈ (t.engine eg).stack, y.set ≠ a.set) ∧ (t.engine eg).ready.length = (s.engine eg).ready.length + 1)) ∧
    (en = 0 → Completes (.activationReady g) s (SameBut [] s)) ∧
    (x.ready = [r] → x.freeing = [] → (s.newAct e (x.stack.length) r).std = false →
      (x.stack = [] → Completes (.activationStart e) s fun t => ((t.engine e).stack.map fun y => (y.slot, y.set, y.pc, y.bank)) = [(r.slot, 0, r.entry, r.bank)] ∧
        (t.engine e).ready = [] ∧ SameBut [.engines] s t) ∧
      (x.stack = [a] → a.set = 0 → r.prio < a.prio → s.fld (F.LE_CTRL_PREEMPT_EN e) = 1 → Completes (.activationStart e) s fun t =>
        ((t.engine e).stack.map fun y => (y.slot, y.set)) = [(r.slot, 1), (a.slot, 0)] ∧ SameBut [.engines] s t) ∧
      (x.stack = [a] → a.set = 0 → r.prio < a.prio → x.endAt = some t0 → r.at_ ≤ t0 → Completes (.activationStart e) s fun t =>
        ((t.engine e).stack.map fun y => (y.slot, y.set)) = [(r.slot, 1), (a.slot, 0)] ∧ SameBut [.engines] s t) ∧
      (x.stack = [a] → a.prio ≤ r.prio ∨ (s.fld (F.LE_CTRL_PREEMPT_EN e) = 0 ∧ x.endAt = none) → Completes (.activationStart e) s (SameBut [] s))) ∧
    (x.stack = a :: rest → a.ended = true → s.fld (F.LE_SLOTSTAT_PENDING a.slot) = 0 → s.strmsOn = [] → Completes (.activationEnd e) s fun t =>
      (t.engine e).stack = (a :: rest).filter (fun y => y.set ≠ a.set) ∧
      t.fld (F.LE_SLOTTIME_LAST a.slot) = min 65535 (2 * (a.actAt.getD s.tbc - a.readyAt))) ∧
    (x.stack = a :: rest → a.ended = false → a.std = false → Completes (.activationEnd e) s (SameBut [] s)) ∧
    (leMemOk off = true → off.val < 0x4FE00 →
      (off.val % 2 = 0 → Completes (.leFabricWrite o e off 0 b) s fun t => (t.half (0x10000000 + 0x100000 * e + off)).toNat = b.toNat % 65536 ∧
        (∀ c, c < 0x10000000 + 0x100000 * e.val + off ∨ 0x10000000 + 0x100000 * e.val + off + 2 ≤ c → t.byte c = s.byte c) ∧ SameBut [.mem, .flt] s t) ∧
      (off.val % 4 = 0 → Completes (.leFabricWrite o e off 1 b) s fun t => (t.word (0x10000000 + 0x100000 * e + off)).toNat = b.toNat % 2 ^ 32 ∧ SameBut [.mem, .flt] s t) ∧
      (off.val % 4 = 2 → Completes (.leFabricWrite o e off 1 b) s (SameBut [] s))) ∧
    (s.fld (F.LE_CTRL_SCRUB_EN e) = 1 → s.eccBad (0x10000000 + 0x100000 * e.val + off.val / 8 * 8) 8 = true → Completes (.scrubRead e off) s fun t =>
      t.fld (F.LE_ECC_UNCORR e) = min (2 ^ (F.LE_ECC_UNCORR e).width - 1) (s.fld (F.LE_ECC_UNCORR e) + 1) ∧ Raised (104 + e) s t) ∧
    (s.fld (F.LE_CTRL_SCRUB_EN e) = 1 → s.eccBad (0x10000000 + 0x100000 * e.val + off.val / 8 * 8) 8 = false →
      s.eccSoft (0x10000000 + 0x100000 * e.val + off.val / 8 * 8) 8 = true → Completes (.scrubRead e off) s fun t =>
        t.fld (F.LE_ECC_CORR e) = min (2 ^ (F.LE_ECC_CORR e).width - 1) (s.fld (F.LE_ECC_CORR e) + 1) ∧ SameBut [.flt, .regs .le] s t) ∧
    (s.fld (F.LE_CTRL_SCRUB_EN e) = 1 → s.flt.badEcc = [] → Completes (.scrubRead e off) s (SameBut [] s)) ∧
    (let old := s.reg (F.LE_PALREQ_REQ e m).addr
     Completes (.lePalreqWrite o e m v) s fun t => t.reg (F.LE_PALREQ_REQ e m).addr = v ∧
      (j < 32 → old.getLsbD j ≠ v.getLsbD j → s.fld (F.LE_SLOTCFG_EN (64 * e + 32 * m + j)) = 0 → t.fbit (F.LE_PALACT_ACT e m) j = v.getLsbD j) ∧
      (j < 32 → old.getLsbD j ≠ v.getLsbD j → s.fld (F.LE_SLOTCFG_EN (64 * e + 32 * m + j)) = 1 →
        (t.slot (64 * e + 32 * m + j)).palFrom = s.tbc + 25 ∧ t.fbit (F.LE_PALACT_ACT e m) j = s.fbit (F.LE_PALACT_ACT e m) j)) ∧
    (v.toNat / 2 ^ 24 = 0xA5 → en = 1 → s.slotPins g = [j] → (s.chan (j % 128)).member = some (v.toNat % 32) → Completes (.lePalgrpWrite o e v) s fun t =>
      t.fbit (F.LE_PALREQ_REQ eg (g % 64 / 32)) (g % 32) = v.getLsbD 8 ∧ (t.slot g).palFrom = s.tbc + 375) ∧
    (v.toNat / 2 ^ 24 ≠ 0xA5 → Completes (.lePalgrpWrite o e v) s (SameBut [] s)) ∧
    cmd (.learnStart o g false) 1 ∧ cmd (.learnStart o g true) 257 ∧ cmd (.learnEnd o g) 2 ∧ cmd (.learnAbort o g) 4 ∧ cmd (.restore o g) 8 ∧ cmd (.clrSticky o g) 16 ∧
    (v.getLsbD 31 = true → s.epMapped (s.fld (F.LE_IMPSRC_HANDLE e k)) = true → Completes (.leImpcfgWrite o e k v) s fun t => t.fld (F.LE_IMPCFG_EN e k) = 1) ∧
    (v.getLsbD 31 = true → s.epMapped (s.fld (F.LE_IMPSRC_HANDLE e k)) = false → Completes (.leImpcfgWrite o e k v) s fun t =>
      t.fld (F.LE_IMPCFG_EN e k) = 0 ∧ Raised (112 + e) s t) ∧
    (v.getLsbD 31 = false → Completes (.leImpcfgWrite o e k v) s fun t => t.fld (F.LE_IMPCFG_EN e k) = 0 ∧ SameBut [.regs .le] s t)

/-- A command with KEY is taken when its state allows it and then reads PENDING until a tick: START of an idle sequencer with a sound table (REFUSED_LOAD and the first failure otherwise), STOP, PAUSE of a running one, RELEASE of a paused one, JUMP to a step that exists.
RCP_PREPARE from 500 ns after a tick prepares the next tick once: a running sequencer whose list has run goes to the step NEXT names exactly when DURATION has passed, which starts at that instant, or ends; PAUSE, STOP and START replace it.
RCP_TICK at the tick puts the prepared position, and each effect, in force. -/
def Obligations.RecipeSequencers : Prop :=
  ∀ (o : Origin) (n : Fin 32) (key : Byte) (p0 : Prep) (t0 e st slot : Nat) (w : Word) (s : State),
    let q := s.seq n
    let p := q.pos
    let m := s.fld F.SYS_MODE_MODE
    let arg := s.fld (F.RS_ARG_STEP n)
    let shows (c r : Nat) (t : State) := t.fld (F.RS_STAT_CODE n) = c ∧ t.fld (F.RS_STAT_RESULT n) = r
    let taken (c a : Nat) (t : State) := shows c 1 t ∧ (t.seq n).cmd = some (c, a, s.tbc) ∧ (t.seq n).pos = p ∧ SameBut [.seqs, .regs .rcp] s t
    let refused (c r : Nat) (t : State) := shows c r t ∧ t.seqs = s.seqs ∧ SameBut [.regs .rcp] s t
    let go := m = 3 ∨ m = 5
    let rest := p.st = 0 ∨ p.st = 5 ∨ p.st = 6
    let tick := s.tbc / 2500 * 2500 + 2500
    let h := s.stepHdr n p.step
    let prepared (P : Prep → Prop) : Prop := Completes (.rcpPrepare n) s fun t => ((t.seq n).prep.map Prep.tick) = some tick ∧
      (∀ y ∈ ((t.seq n).prep).toList, P y) ∧ (t.seq n).pos = p ∧ SameBut [.seqs] s t
    let free := s.fld (F.RS_CFG_BIND n) = 0 ∧ 125 ≤ s.tbc % 2500 ∧ (q.prep.map Prep.tick) ≠ some tick
    (key ≠ 0xA5 → ∀ i ∈ ([.rcpStart o n key, .rcpStop o n key, .pause o n key, .release o n key, .jump o n key] : List Instr),
      Completes i s fun t => t.fld (F.RS_STAT_RESULT n) = 4 ∧ t.seqs = s.seqs ∧ SameBut [.regs .rcp] s t) ∧
    (go → rest → s.tableErr n = none → arg < s.rcpSteps n → Completes (.rcpStart o n 0xA5) s (taken 1 arg)) ∧
    (go → rest → s.tableErr n = some (e, st) → e < 16 → st < 4096 → Completes (.rcpStart o n 0xA5) s fun t => refused 1 6 t ∧
      t.fld (F.RS_ERR_ERR n) = e ∧ t.fld (F.RS_ERR_STEP n) = st) ∧
    (¬ (go ∧ rest) → Completes (.rcpStart o n 0xA5) s (refused 1 2)) ∧
    (m ≠ 1 → Completes (.rcpStop o n 0xA5) s (taken 2 0)) ∧
    (p.st = 1 → Completes (.pause o n 0xA5) s (taken 3 0)) ∧
    (p.st ≠ 1 → Completes (.pause o n 0xA5) s (refused 3 2)) ∧
    (go → p.st = 2 → Completes (.release o n 0xA5) s (taken 4 0)) ∧
    (p.st ≠ 2 → Completes (.release o n 0xA5) s (refused 4 2)) ∧
    (p.st = 1 ∨ p.st = 2 → arg < s.rcpSteps n → Completes (.jump o n 0xA5) s (taken 5 arg)) ∧
    (p.st = 1 ∨ p.st = 2 → s.rcpSteps n ≤ arg → Completes (.jump o n 0xA5) s (refused 5 6)) ∧
    (¬ (p.st = 1 ∨ p.st = 2) → Completes (.jump o n 0xA5) s (refused 5 2)) ∧
    (s.fld (F.RS_CFG_BIND n) = 0 → s.tbc % 2500 < 125 → Completes (.rcpPrepare n) s (SameBut [] s)) ∧
    (free → p.st = 1 → q.cmd = none → h.nact ≤ p.act → h.endKind = 0 → h.maxtime = 0 →
      ((tick : Int) < p.s + 2500 * (h.duration : Int) → prepared fun y => y.pos.step = p.step ∧ y.pos.s = p.s ∧ y.pos.st = 1) ∧
      (p.s + 2500 * (h.duration : Int) ≤ (tick : Int) → h.next ≠ 0xFFFF → s.stepErr n h.next = 0 → (s.stepHdr n h.next).nact = 0 →
        prepared fun y => y.pos.st = 1 ∧ y.pos.step = h.next ∧ y.pos.prev = p.step ∧ y.pos.s = p.s + 2500 * (h.duration : Int)) ∧
      (p.s + 2500 * (h.duration : Int) ≤ (tick : Int) → h.next = 0xFFFF → prepared fun y => y.pos.st = 5 ∧ y.pos.step = 0xFFF ∧ y.pos.prev = p.step)) ∧
    (free → p.st = 1 → q.cmd = some (3, 0, t0) → t0 ≤ tick - 2375 → prepared fun y => y.pos.st = 2 ∧ y.pos.step = p.step ∧ y.pos.held = ((tick : Int) - p.s).toNat) ∧
    (free → q.cmd = some (2, 0, t0) → t0 ≤ tick - 2375 → prepared fun y => y.pos.st = 0 ∧ y.pos.step = 0xFFF ∧ y.pos.ramps = []) ∧
    (free → go → rest → q.cmd = some (1, st, t0) → t0 ≤ tick - 2375 → s.stepErr n st = 0 → (s.stepHdr n st).nact = 0 →
      prepared fun y => y.pos.st = 1 ∧ y.pos.step = st ∧ y.pos.s = tick) ∧
    (q.prep = some p0 → p0.tick = s.tbc → s.tbc % 2500 = 0 → s.fld (F.RS_CFG_BIND n) = 0 → p0.pos.ramps = [] →
      (p0.effects = [] → Completes (.rcpTick n) s fun t => (t.seq n).pos = p0.pos ∧ (t.seq n).prep = none ∧ (q.cmd = p0.cmd → (t.seq n).cmd = none) ∧
        t.fld (F.RS_STAT_STATE n) = p0.pos.st % 8 ∧ t.fld (F.RS_STEP_STEP n) = p0.pos.step % 4096 ∧ SameBut [.seqs, .regs .rcp] s t) ∧
      (p0.effects = [.setp slot [(24, w.toNat % 65536)]] → slot < 512 → Completes (.rcpTick n) s fun t => (t.seq n).pos = p0.pos ∧
        t.dsc slot 24 = w.toNat % 65536) ∧
      (p0.effects = [.aout (slot % 128) e] → Completes (.rcpTick n) s fun t => (t.seq n).pos = p0.pos ∧
        tlook t.out.aout (slot % 128) = some (some { writer := n, value := e, active := true })))

/-- A command with KEY is queued and reads PENDING when its mode, state and target allow it; a target outside the soft limits is REFUSED_LOAD with TGT_REFUSED, everything else REFUSED_STATE. AXIS_ENABLE enables an axis whose limits and writers are sound, at rest at ACT or inhibited; AXIS_DISABLE turns it OFF.
PLANNER_UPDATE every 16 µs puts queued commands in force: a GO makes the axis MOVING to its target, a SETPOS sets ACT. The step generator emits the integer crossings of its accumulator and counts them in ACT, none beyond a soft limit of a RATE axis, which is a limit fault.
A pad count that differs for 2 µs is STEP_MM; the stall estimator counts samples; QENC_EN needs an even pair of inputs. -/
def Obligations.Axes : Prop :=
  ∀ (o : Origin) (n : Fin 128) (key : Byte) (v : Word) (pad : BitVec 4) (t0 : Nat) (tg : Int) (s : State),
    let x := s.axis n
    let st := s.fld (F.AX_STAT_STATE n)
    let md := s.fld (F.AX_CFG_MODE n)
    let on := s.fld (F.AX_CFG_EN n) = 1
    let m := s.fld F.SYS_MODE_MODE
    let go := m = 3 ∨ m = 5 ∨ m = 6
    let rn : Nat := n.val / 16
    let shows (c r : Nat) (t : State) := t.fld (F.AX_STAT_CODE n) = c ∧ t.fld (F.AX_STAT_RESULT n) = r
    let queued (c q : Nat) (a : Int) (t : State) := shows c 1 t ∧ (t.axis n).cmds = x.cmds ++ [(q, a, s.tbc)] ∧ SameBut [.axes, .regs .mot] s t
    let refused (c r : Nat) (t : State) := shows c r t ∧ t.axes = s.axes ∧ SameBut [.regs .mot] s t
    let tgt := s.axTgt n
    let rel := toSigned 48 (ofSigned 48 (s.axPending n + tgt))
    let free := on ∧ md ≠ 3 ∧ go ∧ 1 ≤ st ∧ st ≤ 4
    let w := s.plainWrite (F.AX_CFG_EN n).addr (putBits v 31 1 0)
    let k := (x.acu + x.v * ((s.tbc - x.genAt : Nat) : Int)) / 4294967296 - (x.acu / 4294967296 : Nat)
    let u := s.genAdvance n
    let micro := s.fld (F.STALL_CFG_MICRO n) + 1
    (key ≠ 0xA5 → ∀ i ∈ ([.go o n key, .goRel o n key, .axStop o n key, .estop o n key, .axResume o n key, .setpos o n key, .axClear o n key] : List Instr),
      Completes i s fun t => t.fld (F.AX_STAT_RESULT n) = 4 ∧ t.axes = s.axes ∧ SameBut [.regs .mot] s t) ∧
    (free →
      (s.axOutside n tgt = false → Completes (.go o n 0xA5) s (queued 1 1 tgt)) ∧
      (s.axOutside n tgt = true → Completes (.go o n 0xA5) s fun t => refused 1 6 t ∧ t.fld (F.AX_STAT_TGT_REFUSED n) = 1) ∧
      (s.axOutside n rel = false → Completes (.goRel o n 0xA5) s (queued 7 1 rel)) ∧
      (s.axOutside n rel = true → Completes (.goRel o n 0xA5) s fun t => refused 7 6 t ∧ t.fld (F.AX_STAT_TGT_REFUSED n) = 1)) ∧
    (¬ free → Completes (.go o n 0xA5) s (refused 1 2) ∧ Completes (.goRel o n 0xA5) s (refused 7 2)) ∧
    (on → md ≠ 3 → Completes (.axStop o n 0xA5) s (queued 2 2 0) ∧ Completes (.estop o n 0xA5) s (queued 3 3 0)) ∧
    (¬ on ∨ md = 3 → Completes (.axStop o n 0xA5) s (refused 2 2) ∧ Completes (.estop o n 0xA5) s (refused 3 2)) ∧
    (on → md ≠ 3 → go → st = 4 → s.fld (F.AX_STAT_POS_LOST n) = 0 → Completes (.axResume o n 0xA5) s (queued 4 4 0)) ∧
    (st ≠ 4 ∨ s.fld (F.AX_STAT_POS_LOST n) = 1 → Completes (.axResume o n 0xA5) s (refused 4 2)) ∧
    (st < 2 ∨ 3 < st → s.axMoves n = false → Completes (.setpos o n 0xA5) s (queued 5 5 tgt)) ∧
    (st = 2 ∨ st = 3 → Completes (.setpos o n 0xA5) s (refused 5 2)) ∧
    (st = 6 → Completes (.axClear o n 0xA5) s (queued 6 6 0)) ∧
    (st ≠ 6 → Completes (.axClear o n 0xA5) s (refused 6 2)) ∧
    (¬ on → v.toNat / 2 ^ 17 % 2 = 0 → w.fld (F.AX_CFG_STALL_EN n) = 0 →
      (w.axOk n = true → Completes (.axisEnable o n v) s fun t => t.fld (F.AX_CFG_EN n) = 1 ∧ (t.axis n).target = s.act n ∧ (t.axis n).v = 0 ∧
        (t.axis n).cmds = [] ∧ t.fld (F.AX_STAT_STATE n) = (if w.axCauses n = [] then 1 else 5)) ∧
      (w.axOk n = false → Completes (.axisEnable o n v) s fun t => t.fld (F.AX_CFG_EN n) = 0 ∧ (t.src (248 + rn)).raises = min 65535 ((s.src (248 + rn)).raises + 1))) ∧
    (on → Completes (.axisDisable o n v) s fun t => t.fld (F.AX_CFG_EN n) = 0 ∧ t.fld (F.AX_STAT_STATE n) = 0 ∧ (t.axis n).inhibits = [] ∧ (t.axis n).v = 0) ∧
    (¬ on → n.val % 2 = 0 → v.toNat / 2 ^ 31 = 0 → v.toNat / 2 ^ 18 % 4 = 0 → w.fld (F.AX_CFG_STALL_EN n) = 0 → s.fld (F.FIO_CFG_DIR n) = 0 → s.fld (F.FIO_CFG_DIR (n.val + 1)) = 0 →
      Completes (.qencEnWrite o n v) s fun t => t.fld (F.AX_CFG_QENC_EN n) = 1) ∧
    (¬ on → n.val % 2 = 1 → v.toNat / 2 ^ 31 = 0 → Completes (.qencEnWrite o n v) s fun t => t.fld (F.AX_CFG_QENC_EN n) = 0 ∧ Raised (248 + rn) s t) ∧
    (s.tbc % 4000 ≠ 0 → Completes .plannerUpdate s (SameBut [] s)) ∧
    (s.tbc % 4000 = 0 → on → md = 1 → x.segs = [] → s.axes = [(n.val, x)] → s.fld (F.AX_CFG_SOFT_EN n) = 0 → s.safe.bht = none →
      (x.cmds = [(1, tg, t0)] → t0 + 1000 ≤ s.tbc → st = 1 → x.thenInhibit = false → Completes .plannerUpdate s fun t => t.fld (F.AX_STAT_STATE n) = 2 ∧ (t.axis n).target = tg ∧
        (t.axis n).cmds = [] ∧ (s.fld (F.AX_STAT_RESULT n) = 1 → t.fld (F.AX_STAT_RESULT n) = 0)) ∧
      (x.cmds = [(1, tg, t0)] → s.tbc < t0 + 1000 → Completes .plannerUpdate s fun t => (t.axis n).cmds = x.cmds ∧ (t.axis n).target = x.target) ∧
      (x.cmds = [(5, tg, t0)] → t0 + 1000 ≤ s.tbc → x.vel = 0 → x.v = 0 → x.vNext = [] → -140737488355328 ≤ tg → tg < 140737488355328 → st = 5 → x.inhibits ≠ [] →
        Completes .plannerUpdate s fun t => t.act n = tg ∧ (t.axis n).target = tg ∧ t.fld (F.AX_STAT_POS_LOST n) = 0)) ∧
    (x.inhibits = [] → x.vNext = [] → x.limitHit = false → -(s.vlim n) ≤ x.v → x.v ≤ s.vlim n → x.v ≠ 0 → m ≠ 6 →
      (s.fld (F.AX_CFG_SOFT_EN n) = 0 → Completes (.stepGeneratorCrossing n) s fun t => t.act n = toSigned 48 (ofSigned 48 (s.act n + k)) ∧
        (t.axis n).genAt = s.tbc ∧ (t.chan n).stepPend = (s.chan n).stepPend + (s.act n + k - s.act n).natAbs ∧ SameBut [.axes, .chans, .regs .mot] s t) ∧
      (s.fld (F.AX_CFG_SOFT_EN n) = 1 → md = 3 → s.act n = s.fld48 (F.SOFT_HI_L n) (F.SOFT_HI_H n) → s.fld48 (F.SOFT_LO_L n) (F.SOFT_LO_H n) ≤ s.act n → 0 < k →
        Completes (.stepGeneratorCrossing n) s fun t => t.act n = s.act n ∧ t.fld (F.AX_STAT_STATE n) = 6 ∧ t.fld (F.AX_STAT_LIMIT_FAULT n) = 1 ∧
          (t.axis n).v = 0 ∧ (t.src (256 + rn)).raises = min 65535 ((s.src (256 + rn)).raises + 1))) ∧
    (s.fld (F.AX_CFG_QENC_EN n) = 0 → on → 1 ∉ x.inhibits → pad.toNat ≠ (s.chan n).padSteps % 16 →
      (x.mmSince = none → Completes (.stepMismatch n pad) s fun t => (t.axis n).mmSince = some s.tbc ∧ SameBut [.axes] s t) ∧
      (x.mmSince = some t0 → t0 + 500 ≤ s.tbc → s.safe.bht = none → Completes (.stepMismatch n pad) s fun t => t.fld (F.AX_STAT_STEP_MM n) = 1 ∧ t.fld (F.AX_STAT_POS_LOST n) = 1 ∧
        7 ∈ (t.axis n).inhibits ∧ (t.axis n).v = 0 ∧ (t.src (264 + rn)).raises = min 65535 ((s.src (264 + rn)).raises + 1))) ∧
    (s.fld (F.AX_CFG_QENC_EN n) = 0 → on → 1 ∉ x.inhibits → pad.toNat = (s.chan n).padSteps % 16 → Completes (.stepMismatch n pad) s fun t =>
      (t.axis n).mmSince = none ∧ SameBut [.axes] s t) ∧
    (s.fld (F.AX_CFG_STALL_EN n) = 1 → on → (u.act n - u.fld (F.STALL_CFG_PH0 n)) % (4 * micro : Nat) = micro → s.fld (F.CH_STAT_AVAIL n) = 1 →
      (s.chan n).snsHi = false → (s.chan n).snsLo = false → (s.chan n).refUns = false →
      ((u.stallSample n micro).num * 10 < s.fld (F.STALL_LIM_RATED n) * (u.stallSample n micro).den → Completes (.stallEstimate n) s fun t => t.fld (F.STALL_STAT_COUNT n) = 0) ∧
      (s.fld (F.STALL_LIM_RATED n) * (u.stallSample n micro).den ≤ (u.stallSample n micro).num * 10 → (u.stallSample n micro).full ≠ 0 →
        (let y := u.stallSample n micro
         let a := arccosDeg (min y.e y.full) y.full
         u.stallCount n y a < s.fld (F.STALL_CFG_STALL_N n) → Completes (.stallEstimate n) s fun t => t.fld (F.STALL_STAT_ANGLE n) = a % 2 ^ (F.STALL_STAT_ANGLE n).width ∧
          t.fld (F.STALL_STAT_COUNT n) = u.stallCount n y a ∧ t.fld (F.AX_STAT_STALL n) = s.fld (F.AX_STAT_STALL n))))

/-- STREAM_ENABLE sets EN only of a stream whose handle names an endpoint and whose rate fits in 8 Gbit/s, else it raises source 19; blocks close after 1 ms, pages after 2 ms with the next SEQ. Above 75 % occupancy DECIMATION_STEP adds a step at the lowest RPRI, DECIMATION_UNDO and STREAM_RESUME take back below 50 %.
NVMe comes up with a link and a drive, completes, retries three times and then pauses until RETRY. Unit commands with KEY act in the states of R411 only. TRIGGER_EVALUATION starts a record of an armed unit at a trigger, ends it after POST_TIME, counts a missed one; AUTO_TIMEOUT triggers, the copy and HOLDOFF re-arm. -/
def Obligations.TraceRecorder : Prop :=
  ∀ (o : Origin) (m : Fin 1024) (u : Fin 16) (v : Word) (key : Byte) (lanes : Fin 5) (g4 b4k : Bool) (dr : Option Bool) (lo t0 : Nat) (p : Page) (r : Record) (s : State),
    let x := s.unit u
    let st := s.fld (F.UNIT_STAT_STATE u)
    let y := s.strm m
    let yu := s.strmUnit m
    let w := s.plainWrite (F.REC_SCFG_EN m).addr (v ||| 0x80000000)
    let full := 3 * s.spillCap < 4 * s.spillUsed
    let low := 2 * s.spillUsed < s.spillCap
    let ready := s.fld F.PCIE_STAT_NVME_READY = 1
    let shows (c q : Nat) (t : State) := t.fld (F.UNIT_STAT_CODE u) = c ∧ t.fld (F.UNIT_STAT_RESULT u) = q
    let wins (c : Nat) (i : Instr) (n : Nat) : Prop := Completes i s fun t => shows c 0 t ∧ t.fld (F.UNIT_STAT_STATE u) = n
    let loses (c : Nat) (i : Instr) : Prop := Completes i s fun t => shows c 2 t ∧ t.recu = s.recu ∧ SameBut [.regs .recorder] s t
    (s.strmOn m = false →
      (w.epMapped (w.strmHandle m) = true → w.recRate w.strmsOn ≤ 8000 * 2 ^ 40 → Completes (.streamEnable o m v) s fun t => t.fld (F.REC_SCFG_EN m) = 1 ∧
        (t.unit (t.strmUnit m)).streamsDue = true ∧ (t.strm m).samples = []) ∧
      (w.epMapped (w.strmHandle m) = false ∨ 8000 * 2 ^ 40 < w.recRate w.strmsOn → Completes (.streamEnable o m v) s fun t => t.fld (F.REC_SCFG_EN m) = 0 ∧
        (t.src 19).raises = min 65535 ((s.src 19).raises + 1))) ∧
    (y.samples ≠ [] → y.t0 + 250000 ≤ s.tbc → (s.unit yu).cur = none → (s.unit yu).streamsDue = false → Completes (.blockClose m) s fun t => (t.strm m).samples = [] ∧
      ((t.unit yu).cur.map fun c => (c.entries.length, c.openAt)) = some (1, s.tbc) ∧ SameBut [.recu] s t) ∧
    (s.tbc < y.t0 + 250000 → Completes (.blockClose m) s (SameBut [] s)) ∧
    (x.cur = some p → p.openAt + 500000 ≤ s.tbc → x.kept = [] → s.fld (F.UNIT_CFG_OUT u) = 0 → Completes (.pageClose u) s fun t => (t.unit u).cur = none ∧
      (t.unit u).nextSeq = x.nextSeq + 1 ∧ t.fld (F.SEQ_L_SEQ u) = x.nextSeq % 2 ^ 32 ∧ SameBut [.recu, .regs .recorder] s t) ∧
    (x.cur = some p → s.tbc < p.openAt + 500000 → Completes (.pageClose u) s (SameBut [] s)) ∧
    (s.recu.susp = [lo] → low → s.recu.resumeAt + 25000000 ≤ s.tbc → Completes .streamResume s fun t => t.recu.susp = [] ∧ t.recu.resumeAt = s.tbc ∧
      (m.val ∈ s.strmsOn → s.fld (F.REC_SCFG_RPRI m) = lo → t.fld (F.REC_SCFG_SUSP m) = 0)) ∧
    (s.recu.susp = [] ∨ ¬ low → Completes .streamResume s (SameBut [] s)) ∧
    (full → s.recu.stepAt + 2500000 ≤ s.tbc →
      ((List.range 7).find? fun q => s.strmsOn.any fun n => s.fld (F.REC_SCFG_RPRI n) == q && s.fld (F.REC_SCFG_EFF_EXP n) < 10) = some lo → Completes .decimationStep s fun t =>
        t.recu.steps = s.recu.steps ++ [lo] ∧ t.recu.stepAt = s.tbc ∧ t.fld F.REC_LADDER_STEPS = (s.recu.steps.length + 1) % 2 ^ F.REC_LADDER_STEPS.width) ∧
    (¬ full → Completes .decimationStep s (SameBut [] s)) ∧
    (s.recu.lowSince = some t0 → s.recu.steps = [lo] → t0 + 25000000 ≤ s.tbc → s.recu.undoAt + 25000000 ≤ s.tbc → Completes .decimationUndo s fun t => t.recu.steps = [] ∧
      t.fld F.REC_LADDER_STEPS = 0) ∧
    (s.fld F.PCIE_CTRL_EN = 1 → 2 ≤ s.mode →
      (Completes (.nvmeBringup false g4 true lanes dr) s fun t => t.fld F.PCIE_STAT_LINK_UP = 0 ∧ t.fld F.PCIE_STAT_NVME_READY = 0 ∧ SameBut [.regs .pcie] s t) ∧
      (Completes (.nvmeBringup true g4 true lanes (some b4k)) s fun t => t.fld F.PCIE_STAT_LINK_UP = 1 ∧ t.fld F.PCIE_STAT_NVME_READY = 1 ∧ t.fld F.PCIE_STAT_WIDTH = lanes.val ∧
        t.recu.lbas = (if b4k then 1 else 8) ∧ SameBut [.recu, .outbox, .regs .pcie] s t) ∧
      (Completes (.nvmeBringup true g4 true lanes none) s fun t => t.fld F.PCIE_STAT_LINK_UP = 1 ∧ t.fld F.PCIE_STAT_NVME_READY = 0 ∧ Raised 18 s t)) ∧
    (ready → x.paused = false → x.spill = [p] → p.nvme = true → x.kept = [] →
      (p.host = false → x.traceTo = none → Completes (.nvmeWriteComplete u true) s fun t => (t.unit u).spill = [] ∧ (t.unit u).retries = 0 ∧ SameBut [.recu] s t) ∧
      (x.retries < 3 → Completes (.nvmeWriteComplete u false) s fun t => (t.unit u).retries = x.retries + 1 ∧ t.outbox = .nvme 0 u p.seq (s.nvmeLba u p.seq) (p.bytes u) :: s.outbox ∧ (t.unit u).spill = [p] ∧
        SameBut [.recu, .outbox, .regs .pcie] s t) ∧
      (3 ≤ x.retries → Completes (.nvmeWriteComplete u false) s fun t => (t.unit u).paused = true ∧ t.fld F.PCIE_STAT_PAUSED = 1 ∧ (t.unit u).spill = [p] ∧ Raised 18 s t)) ∧
    (ready → s.fld (F.UNIT_CFG_OUT u) % 2 = 1 → 1 ≤ s.fld F.REC_CTRL_FLUSH_MS → x.flushAt + 250000 * s.fld F.REC_CTRL_FLUSH_MS ≤ s.tbc → Completes (.nvmeFlush u) s fun t =>
      t.outbox = .nvme 1 u 0 :: s.outbox ∧ (t.unit u).flushAt = s.tbc ∧ SameBut [.recu, .outbox] s t) ∧
    (Completes (.retry o 0xA5) s fun t => t.fld F.PCIE_STAT_PAUSED = 0 ∧ (t.unit u).paused = false ∧ SameBut [.recu, .outbox, .regs .pcie] s t) ∧
    (key ≠ 0xA5 → Completes (.retry o key) s (SameBut [] s) ∧ ∀ i ∈ ([.unitArm o u key, .unitStop o u key, .force o u key, .unitClear o u key] : List Instr),
      Completes i s fun t => t.fld (F.UNIT_STAT_RESULT u) = 4 ∧ SameBut [.regs .recorder] s t) ∧
    (st = 0 ∨ st = 4 ∨ st = 5 → wins 1 (.unitArm o u 0xA5) (if s.fld (F.UNIT_CFG_MODE u) = 3 then 6 else 1)) ∧
    (¬ (st = 0 ∨ st = 4 ∨ st = 5) → loses 1 (.unitArm o u 0xA5)) ∧
    (st = 1 → wins 2 (.unitStop o u 0xA5) 4) ∧
    (st = 2 ∨ st = 3 ∨ st = 6 → wins 2 (.unitStop o u 0xA5) 3) ∧
    (st = 0 ∨ st = 4 ∨ st = 5 → loses 2 (.unitStop o u 0xA5)) ∧
    (st = 1 → wins 3 (.force o u 0xA5) 1 ∧ Completes (.force o u 0xA5) s fun t => (t.unit u).hits = x.hits ++ [(14, 0, 2)]) ∧
    (st ≠ 1 → loses 3 (.force o u 0xA5)) ∧
    (st = 4 ∨ st = 5 → wins 4 (.unitClear o u 0xA5) 0) ∧
    (¬ (st = 4 ∨ st = 5) → loses 4 (.unitClear o u 0xA5)) ∧
    (s.tbc % 125 = 0 → 125 ≤ s.tbc → 2 ≤ s.mode →
      (st = 1 → x.hits = [] → Completes (.triggerEvaluation u []) s fun t => t.fld (F.UNIT_STAT_STATE u) = 1 ∧ (t.unit u).rcd = x.rcd ∧ SameBut [.recu] s t) ∧
      (st = 1 → x.hits = [(14, 0, 2)] → s.fbit (F.TRIG_EN_SRC u) 14 = false → Completes (.triggerEvaluation u []) s fun t => t.fld (F.UNIT_STAT_STATE u) = 1 ∧ (t.unit u).hits = [] ∧ SameBut [.recu] s t) ∧
      (st = 1 → x.hits = [(14, 0, 2)] → s.fbit (F.TRIG_EN_SRC u) 14 = true → s.fld (F.MASK_CFG_EN u) = 0 → s.fld (F.UNIT_CFG_TOUT_EN u) = 0 → s.strmsOn = [] → Completes (.triggerEvaluation u []) s fun t =>
        t.fld (F.UNIT_STAT_STATE u) = 2 ∧ (t.unit u).hits = [] ∧ (t.unit u).records = x.records + 1 ∧
        ((t.unit u).rcd.map fun z => (z.num, z.mask, z.primary, z.t)) = some (x.records + 1, 2 ^ 14, 14, (s.tbc - 125) * 256)) ∧
      (st = 2 → x.rcd = some r → x.viol = none → x.hits = [] → r.t + s.postTime u * 256 ≤ (s.tbc - 125) * 256 → Completes (.triggerEvaluation u []) s fun t =>
        t.fld (F.UNIT_STAT_STATE u) = 3 ∧ (t.unit u).copied = false) ∧
      (st = 3 ∨ st = 4 ∨ st = 5 → x.hits = [(14, 0, 2)] → s.fbit (F.TRIG_EN_SRC u) 14 = true → Completes (.triggerEvaluation u []) s fun t => (t.unit u).hits = [] ∧
        t.fld (F.MISSED_TRIG_COUNT u) = min (2 ^ (F.MISSED_TRIG_COUNT u).width - 1) (s.fld (F.MISSED_TRIG_COUNT u) + 1) ∧ t.fld (F.UNIT_STAT_STATE u) = st)) ∧
    (st = 1 → s.fld (F.UNIT_CFG_MODE u) = 1 → x.armedAt + 250000 * max 1 (s.fld (F.UNIT_TMO_AUTO_TO u)) ≤ s.tbc → x.hits = [] → Completes (.autoTimeout u) s fun t =>
      (t.unit u).hits = [(15, 0, 2)] ∧ SameBut [.recu] s t) ∧
    (st = 3 → x.copied = false → ¬ full → s.tbc < x.rearmAt + 250 * s.fld (F.UNIT_TMO_HOLDOFF u) → Completes (.recordCopyComplete u) s fun t => (t.unit u).copied = true ∧
      t.fld (F.UNIT_STAT_STATE u) = 3) ∧
    (st = 3 → x.copied = true → x.rearmAt + 250 * s.fld (F.UNIT_TMO_HOLDOFF u) ≤ s.tbc → Completes (.holdoffExpiry u) s fun t =>
      t.fld (F.RECORDS_COUNT u) = min (2 ^ (F.RECORDS_COUNT u).width - 1) (s.fld (F.RECORDS_COUNT u) + 1) ∧
      t.fld (F.UNIT_STAT_STATE u) = (if x.toMask then 5 else if x.toDone ∨ s.fld (F.UNIT_CFG_MODE u) = 2 then 4 else if s.fld (F.UNIT_CFG_MODE u) = 3 then 6 else 1)) ∧
    (x.toutEnd = some t0 → t0 ≤ s.tbc → Completes (.triggerOutputEnd u) s fun t => (t.unit u).toutEnd = none ∧ bitOf t.ilm.trigl (s.fld (F.UNIT_CFG_TOUT_LINE u)) = false)

/-- A press is accepted in LOCKOUT. A cause that arises within the press's 250 µs evaluation keeps the sentinel and the
device in LOCKOUT, with the new REASON and ARG, whether it arises before the press is judged or after; the press counts as
accepted, unless the cause arises after it in its very TBC count. -/
def Obligations.CauseWinsOverReset : Prop :=
  ∀ (skew held release : BitVec 32) (reason : Fin 16) (arg c : Nat) (s : State),
    s.fld F.SAFE_STAT_STATE = 1 → s.mode = 7 → s.safe.stuckUntil = none → c / 62500 = s.tbc / 62500 → s.tbc ≤ c →
    let u := {s.lockout reason arg with tbc := c}
    let accepted (x : State) : Prop := x.pressJudge skew.toNat held.toNat release.toNat true = 0
    let wins (t : State) : Prop := t.fld F.SAFE_STAT_STATE = 1 ∧ t.fld F.SAFE_STAT_REASON = reason.val ∧ t.fld F.SAFE_STAT_ARG = arg % 2 ^ F.SAFE_STAT_ARG.width ∧ t.fld F.SYS_MODE_MODE = 7
    let counted (t : State) : Prop := t.fld F.SAFE_RST_ACCEPTED = min (2 ^ F.SAFE_RST_ACCEPTED.width - 1) (s.fld F.SAFE_RST_ACCEPTED + 1)
    (accepted u → Completes (.deliberateReset skew held release true) u fun t => wins t ∧ counted t) ∧
    (accepted s → (s.safe.fresh.all fun f => f.2.2 / 62500 != s.tbc / 62500) = true →
      Completes (.deliberateReset skew held release true) s fun t =>
        let x := {t with tbc := c}.lockout reason arg
        wins x ∧ (s.tbc < c → counted x))

/-- At an evaluation (every 250 µs) each safe input passes its filter, a pair closes with both channels active, and an output's
high side is on only while the sentinel is READY, its pairs are closed and it is requested. A discrepancy longer than DISC, a readback
wrong for 1 ms, 1 ms without a report, a VSEN fault put the sentinel into LOCKOUT. A deliberate reset held 0.2 s to 3 s leads
to READY and IDLE; any other is rejected, counted, its reason in LAST_REJ. -/
def Obligations.SentinelInputsAndReset : Prop :=
  ∀ (o : Origin) (a b : Byte) (n : Fin 8) (t0 : Nat) (v : Word) (skew held release : BitVec 32) (ok : Bool) (q : Pair) (s : State),
    let st := s.fld F.SAFE_STAT_STATE
    let x := s.pair n
    let quiet := s.ilmTerms s.ilmActive = []
    let locks (i : Instr) (reason arg : Nat) : Prop := Completes i s fun t => t.fld F.SAFE_STAT_STATE = 1 ∧
      (st = 1 → quiet → t.safe.fresh = some (reason, arg, s.tbc)) ∧ (st ≠ 1 → t.fld F.SAFE_STAT_REASON = reason ∧ t.fld F.SAFE_STAT_ARG = arg ∧ t.fld F.SAFE_STAT_SOFF = 1 ∧
        ((s.sys.causeAt.all fun c => c.1 != s.tbc) = true → t.mode = (if s.mode = 0 ∨ s.mode = 1 then s.mode else 7)) ∧ SameBut [.flt, .evl, .vault, .sched, .scan, .sys, .safe, .out, .chans, .clusters, .dies, .ilm, .axes, .seqs, .cans, .regs .sys, .regs .ilm, .regs .safe, .regs .rcp, .regs .can, .regs .pp, .regs .mot, .regs .fd] s t)
    let press := Instr.deliberateReset skew held release ok
    (s.tbc % 62500 = 0 → s.mode ≠ 0 → s.sys.vsen = true →
      let filt := ms (max 1 (s.safeParam (18 + 16 * n) 1))
      (s.pairMode n ≠ 0 → Completes (.sentinelEvaluation a b) s fun t =>
        (t.pair n).a = (if a.getLsbD n = x.a ∨ (filt ≤ s.tbc - x.sinceA.getD s.tbc) then a.getLsbD n else x.a) ∧
        (t.pair n).b = (if b.getLsbD n = x.b ∨ (filt ≤ s.tbc - x.sinceB.getD s.tbc) then b.getLsbD n else x.b) ∧
        (x.mustOpen = false → (t.pair n).closed = ((t.pair n).a && ((t.pair n).b != decide (s.pairMode n = 2))))) ∧
      (s.pairMode n = 0 → Completes (.sentinelEvaluation a b) s fun t => t.pair n = {}) ∧
      (st ≠ 2 → s.safe.pulse = none → Completes (.sentinelEvaluation a b) s fun t => (t.sbc n).high = false ∧ t.fbit F.SAFE_OUT_HELD n = true) ∧
      (st = 2 → quiet → s.safe.pulse = none → s.safe.bht = none → (∀ k, k < 8 → s.pairMode k = 0) → s.sbcParam n 0 1 = 1 → s.sbcParam n 1 1 = 0 → s.fbit F.SAFE_BHT_BRK_FAIL n = false →
        (s.sbc n).graceOver = false → Completes (.sentinelEvaluation a b) s fun t => (t.sbc n).high = bitOf s.safe.request n ∧ t.fbit F.SAFE_OUT_HELD n = false)) ∧
    (s.tbc % 62500 ≠ 0 → Completes (.sentinelEvaluation a b) s (SameBut [] s)) ∧
    (x = q → q.discSince = some t0 → q.mustOpen = false → t0 + ms (s.safeParam (20 + 16 * n) 2) < s.tbc → locks (.discrepancyExpiry n) 4 n ∧
      Completes (.discrepancyExpiry n) s fun t => (t.pair n).mustOpen = true ∧ (t.pair n).closed = false) ∧
    (x.discSince = none → Completes (.discrepancyExpiry n) s (SameBut [] s)) ∧
    (s.tbc % 25000 = 0 → s.mode ≠ 0 → quiet → Completes (.coreReport a b) s fun t => t.safe.report = s.tbc ∧ t.safe.request = s.fld F.SAFE_REQ_REQ ∧
      (t.sbc n).padP = a.getLsbD n ∧ (t.sbc n).padN = b.getLsbD n ∧ t.fbit F.SAFE_OUT_P_HI n = a.getLsbD n ∧ SameBut [.safe, .ilm, .regs .ilm, .regs .safe] s t) ∧
    (s.safe.report + 250000 ≤ s.tbc → st ≠ 0 → locks .coreSilent 7 0) ∧
    (s.tbc < s.safe.report + 250000 → Completes .coreSilent s (SameBut [] s)) ∧
    ((s.sbc n).mismatch = some t0 → t0 + 250000 ≤ s.tbc → locks (.readbackMismatch n) 5 n) ∧
    ((s.sbc n).mismatch = none → Completes (.readbackMismatch n) s (SameBut [] s)) ∧
    (s.mode ≠ 0 → locks .vsenFault 10 0 ∧ Completes .vsenFault s fun t => t.sys.vsen = false) ∧
    (s.mode = 0 ∨ s.mode = 1 ∨ s.mode = 2 ∨ s.mode = 6 ∨ s.mode = 7 → Completes (.safeReqWrite o v) s (SameBut [] s)) ∧
    (3 ≤ s.mode → s.mode ≤ 5 → s.sys.dusk = none → s.safe.pulse = none → quiet → Completes (.safeReqWrite o v) s fun t => t.fld F.SAFE_REQ_REQ = v.toNat % 256 ∧
      (v.getLsbD n = true → st ≠ 1 → (t.sbc n).low = true ∧ (t.sbc n).high = (s.sbc n).high) ∧ (v.getLsbD n = false → (t.sbc n).low = false) ∧
      SameBut [.safe, .out, .ilm, .regs .ilm, .regs .safe] s t) ∧
    (s.mode = 7 → st = 1 → s.safe.stuckUntil = none →
      let rejects (r : Nat) : Prop := Completes press s fun t => t.fld F.SAFE_RST_LAST_REJ = r ∧ t.fld F.SAFE_RST_REJECTS = min (2 ^ F.SAFE_RST_REJECTS.width - 1) (s.fld F.SAFE_RST_REJECTS + 1) ∧
        t.fld F.SAFE_STAT_STATE = 1 ∧ t.mode = 7 ∧ SameBut [.safe, .regs .safe] s t
      (3000000 < held.toNat → rejects 2) ∧
      (held.toNat ≤ 3000000 → 100000 < skew.toNat ∨ 100000 < release.toNat → rejects 3) ∧
      (held.toNat < 200000 → skew.toNat ≤ 100000 → release.toNat ≤ 100000 → rejects 1) ∧
      (200000 ≤ held.toNat → held.toNat ≤ 3000000 → skew.toNat ≤ 100000 → release.toNat ≤ 100000 →
        (ok = false → rejects 4) ∧
        (ok = true → s.sys.causeAt = none → (∀ k, k < 8 → s.pairMode k = 0) → s.sevPending 5 = true → rejects 5) ∧
        (ok = true → s.sys.causeAt = none → (∀ k, k < 8 → s.pairMode k = 0) → s.sevPending 5 = false → s.safe.fresh = none → Completes press s fun t => t.fld F.SAFE_STAT_STATE = 2 ∧
          t.fld F.SAFE_STAT_SOFF = 0 ∧ t.mode = 2 ∧ t.fld F.SAFE_RST_ACCEPTED = min (2 ^ F.SAFE_RST_ACCEPTED.width - 1) (s.fld F.SAFE_RST_ACCEPTED + 1))))

/-- A due test turns one switch of an energised output off for PULSE_US; a right readback turns it on again and alternates the
switch, a wrong one is LOCKOUT with READBACK. The pending area is written in ENGINEER only, closes the window and shows its
CRC; SAFE_CONFIRM opens the window with the value of SAFE_CHECK and within 10 s commits. SAFE commands need KEY; a brake
holding test ends PASS, INCONCLUSIVE; hours without a PASS set BHT_DUE, and the grace holds the output. -/
def Obligations.SentinelTestsAndParameters : Prop :=
  ∀ (o : Origin) (n : Fin 8) (w : Fin 512) (v : Word) (key : Byte) (p l back : Bool) (d : Nat) (q : Pulse) (b : Bht) (s : State),
    let x := s.sbc n
    let due := s.sbcParam n 16 2
    let crc := s.fld F.SAFE_CHECK_CRC
    let quiet := s.ilmTerms s.ilmActive = []
    let shows (c r : Nat) (t : State) : Prop := t.fld F.SAFE_CMDSTAT_CODE = c ∧ t.fld F.SAFE_CMDSTAT_RESULT = r
    (x.testDue = some d → d ≤ s.tbc → s.safe.pulseEnd = none → s.safe.pulse = none → x.high = true → x.low = true → quiet → Completes (.testPulse n) s fun t =>
      t.safe.pulse = some {out := n, low := x.testLow, start := s.tbc} ∧ (t.sbc n).high = x.testLow ∧ (t.sbc n).low = !x.testLow ∧
      t.fld F.SAFE_TEST_PULSES = min (2 ^ F.SAFE_TEST_PULSES.width - 1) (s.fld F.SAFE_TEST_PULSES + 1) ∧ SameBut [.safe, .ilm, .regs .ilm, .regs .safe] s t) ∧
    (x.testDue = none ∨ s.safe.pulse ≠ none ∨ x.high = false ∨ x.low = false → Completes (.testPulse n) s (SameBut [] s)) ∧
    (s.safe.pulse = some q → q.out = n → q.start + us (max 100 (min 400 (s.sbcParam n 2 2))) ≤ s.tbc → q.demanded = false → quiet → Completes (.testPulseEnd p l back) s fun t =>
      t.safe.pulse = none ∧ t.safe.pulseEnd = some s.tbc ∧ (t.sbc n).testLow = (!q.low) ∧
      (p = q.low → l = !q.low → back = true → (t.sbc n).high = true ∧ (t.sbc n).low = true ∧ SameBut [.safe, .ilm, .regs .ilm, .regs .safe] s t) ∧
      (p = !q.low ∨ l = q.low ∨ back = false → t.fld F.SAFE_STAT_STATE = 1 ∧ (s.fld F.SAFE_STAT_STATE ≠ 1 → t.fld F.SAFE_STAT_REASON = 5 ∧ t.fld F.SAFE_STAT_ARG = n.val))) ∧
    (s.safe.pulse = none → Completes (.testPulseEnd p l back) s (SameBut [] s)) ∧
    (s.mode = 5 →
      (Completes (.pendingAreaWrite o w v) s fun t => t.reg (F.SAFE_PEND_WORD w).addr = v ∧ t.safe.window = none ∧ t.fld F.SAFE_STAT_CONF_OPEN = 0 ∧
        t.fld F.SAFE_CHECK_CRC = t.pendCrc % 2 ^ 32 ∧ SameBut [.safe, .regs .safe] s t) ∧
      (v.toNat ≠ crc → Completes (.safeConfirm o v) s fun t => t.safe.window = none ∧ t.fld F.SAFE_STAT_CONF_OPEN = 0 ∧ SameBut [.safe, .regs .safe] s t) ∧
      (v.toNat = crc → s.safe.window = none → Completes (.safeConfirm o v) s fun t => t.safe.window = some s.tbc ∧ t.fld F.SAFE_STAT_CONF_OPEN = 1 ∧ SameBut [.safe, .regs .safe] s t) ∧
      (v.toNat = crc → s.safe.window = some d → s.tbc ≤ d + sec 10 → s.pendWord 0 ≠ 0x53465053 → Completes (.safeConfirm o v) s fun t => t.safe.window = none ∧ shows 255 14 t ∧
        t.fld F.SAFE_CMDSTAT_BADOFS = 0 ∧ SameBut [.safe, .regs .safe] s t) ∧
      (v.toNat = crc → s.safe.window = some d → s.tbc ≤ d + sec 10 → s.confClose.paramBad = none → Completes (.safeConfirm o v) s fun t => t.safe.window = none ∧ shows 255 0 t ∧
        t.reg (F.SAFE_BLOCK_WORD w).addr = s.pendWord w ∧ t.fld F.SAFE_ACTIVE_CRC = crc ∧ t.fld F.SAFE_STAT_STATE = 1 ∧ (s.fld F.SAFE_STAT_STATE ≠ 1 → t.fld F.SAFE_STAT_REASON = 2))) ∧
    (s.mode ≠ 5 → Completes (.pendingAreaWrite o w v) s (SameBut [] s) ∧ Completes (.safeConfirm o v) s (SameBut [] s)) ∧
    (s.safe.window = some d → d + sec 10 < s.tbc → Completes .confirmWindowExpiry s fun t => t.safe.window = none ∧ t.fld F.SAFE_STAT_CONF_OPEN = 0 ∧ SameBut [.safe, .regs .safe] s t) ∧
    (s.safe.window = none → Completes .confirmWindowExpiry s (SameBut [] s)) ∧
    (key ≠ 0xA5 → ∀ i ∈ ([.bhtStart o key n, .bhtAbort o key n, .pendClear o key n] : List Instr), Completes i s fun t => t.fld F.SAFE_CMDSTAT_RESULT = 4 ∧ SameBut [.regs .safe] s t) ∧
    (s.bhtMay n = true → Completes (.bhtStart o 0xA5 n) s fun t => shows 1 1 t ∧ t.fld F.SAFE_BHT_RUNNING = 1 ∧ t.fld F.SAFE_BHT_SBC = n.val ∧ t.fld F.SAFE_BHT_RESULT = 0 ∧
      (t.safe.bht.map fun y => (y.out, y.phase, y.start, y.torque)) = some (n.val, 0, s.tbc, toSigned 16 (s.sbcParam n 10 2)) ∧ (t.sbc n).high = false ∧ SameBut [.safe, .regs .safe] s t) ∧
    (s.fld F.SAFE_STAT_STATE ≠ 2 → Completes (.bhtStart o 0xA5 n) s fun t => shows 1 2 t ∧ SameBut [.regs .safe] s t) ∧
    (s.safe.bht = none → Completes (.bhtAbort o 0xA5 n) s fun t => shows 2 2 t ∧ SameBut [.regs .safe] s t) ∧
    (s.safe.bht = some b → Completes (.bhtAbort o 0xA5 n) s fun t => shows 2 0 t ∧ t.safe.bht = none ∧ t.fld F.SAFE_BHT_RESULT = 3 ∧ t.fld F.SAFE_BHT_RUNNING = 0 ∧
      SameBut [.safe, .out, .regs .safe] s t) ∧
    (s.mode = 5 → Completes (.pendClear o 0xA5 n) s fun t => shows 3 0 t ∧ t.reg (F.SAFE_PEND_WORD w).addr = s.reg (F.SAFE_BLOCK_WORD w).addr ∧
      t.fld F.SAFE_CHECK_CRC = s.fld F.SAFE_ACTIVE_CRC ∧ SameBut [.safe, .regs .safe] s t) ∧
    (s.mode ≠ 5 → Completes (.pendClear o 0xA5 n) s fun t => shows 3 2 t ∧ SameBut [.regs .safe] s t) ∧
    (s.safe.bht = some b → s.tbc < b.start + ms 500 → Completes .bhtPhaseEnd s (SameBut [] s)) ∧
    (s.safe.bht = some b → b.start + ms 500 ≤ s.tbc →
      (b.phase = 0 → bitOf (s.sbcParam b.out 9 1) 0 = true → Completes .bhtPhaseEnd s fun t => t.safe.bht = some {b with phase := 1, start := s.tbc, torque := -b.torque} ∧ SameBut [.safe] s t) ∧
      (b.out = n → b.phase = 1 ∨ bitOf (s.sbcParam n 9 1) 0 = false → Completes .bhtPhaseEnd s fun t => t.safe.bht = none ∧ t.fld F.SAFE_BHT_RESULT = 1 ∧ t.fld F.SAFE_BHT_RUNNING = 0 ∧
        t.fbit F.SAFE_BHT_BRK_FAIL n = false ∧ t.fbit F.SAFE_BHT_BHT_DUE n = false ∧ (t.sbc n).lastPass = s.vault.opt ∧ (t.sbc n).graceOver = false)) ∧
    (due ≠ 0 → x.lastPass + due * 3686400 ≤ s.vault.opt → s.fbit F.SAFE_BHT_BHT_DUE n = false → s.mode ≠ 0 → Completes (.bhtDueExpiry n) s fun t => t.fbit F.SAFE_BHT_BHT_DUE n = true ∧
      Raised (32 + n) (s.setFbit F.SAFE_BHT_BHT_DUE n true) t) ∧
    (due = 0 ∨ s.vault.opt < x.lastPass + due * 3686400 → Completes (.bhtDueExpiry n) s (SameBut [] s)) ∧
    (s.fbit F.SAFE_BHT_BHT_DUE n = true → x.lastPass + (due + s.sbcParam n 18 2) * 3686400 ≤ s.vault.opt → Completes (.bhtGraceExpiry n) s fun t => (t.sbc n).graceOver = true ∧ SameBut [.safe] s t) ∧
    (s.fbit F.SAFE_BHT_BHT_DUE n = false → Completes (.bhtGraceExpiry n) s (SameBut [] s))

/-- A write of DOM_UPD queues a SET, RATE or STEP for the first tick at least 100 ns later, and a PTP domain counts it in IGN. At
its tick the update takes effect and a step that is not above JUMP_TH leaves OT as it was; a larger one of the domain that OT
follows excludes it with source 11. TIME commands need KEY: SNAP captures TBC, OT and the domains; SELECT of a valid domain
and ACCEPT of an excluded one wait for the next tick; DISMISS ends the exclusion. OT steps to an accepted domain alone.
REVERT_EXPIRY lets OT return to PREF after REVERT_S; TDC_CALIBRATION runs every 1 ms. -/
def Obligations.TimeDomains : Prop :=
  ∀ (o : Origin) (d : Fin 3) (d4 : Fin 4) (v : Word) (key : Byte) (u : DomUpdate) (s : State),
    let x := s.dom d
    let kind := v.toNat % 4
    let y := (u.apply s.tbc x).1
    let delta := domTime y s.tbc - domTime x s.tbc
    let big := s.fld F.TIME_CTRL_JUMP_TH * nsU < delta ∨ delta < -(s.fld F.TIME_CTRL_JUMP_TH * nsU)
    let shows (c r : Nat) (t : State) : Prop := t.fld F.TIME_STAT_CODE = c ∧ t.fld F.TIME_STAT_RESULT = r
    let due := tickFrom (s.tbc + 1)
    let waits (c : Nat) (t : State) : Prop := shows c 1 t ∧ t.time.cmds = s.time.cmds ++ [(c, d.val, due)] ∧ s.tbc < due ∧ due ≤ s.tbc + 250 ∧ due % 250 = 0
    let sum := s.domK d + x.absorbed
    (s.domSrc d = 1 → Completes (.domainUpdate o d v) s fun t => t.fld (F.DOM_STAT_IGN d) = min 255 (s.fld (F.DOM_STAT_IGN d) + 1) ∧ SameBut [.regs .time] s t) ∧
    (s.domSrc d ≠ 1 → kind ≠ 0 → Completes (.domainUpdate o d v) s fun t => ((t.dom d).updates.map fun z => z.kind) = (x.updates.map fun z => z.kind) ++ [kind] ∧
      ((t.dom d).updates.getLast?.map fun z => (z.rate, z.anc, z.delta)) = some (s.sfld (F.DOM_RATE_RATE d), s.fld2 (F.DOM_ANC_L_VALUE d) (F.DOM_ANC_H_VALUE d),
        toSigned 64 (s.fld2 (F.DOM_DELTA_L_VALUE d) (F.DOM_DELTA_H_VALUE d))) ∧
      ((t.dom d).updates.getLast?.any fun z => decide (s.tbc + 25 ≤ z.due ∧ z.due < s.tbc + 275 ∧ z.due % 250 = 0)) = true ∧ SameBut [.time] s t) ∧
    (s.domSrc d ≠ 1 → kind = 0 → Completes (.domainUpdate o d v) s (SameBut [] s)) ∧
    (s.tbc % 250 = 0 → x.updates = [u] → u.due ≤ s.tbc →
      (d.val ≠ s.otDom ∨ ¬ big → Completes (.domainUpdateCommit d) s fun t => (t.dom d).updates = [] ∧ (t.dom d).rate = y.rate ∧ (t.dom d).ofs = y.ofs ∧
        (s.otValid = true → t.otAt t.tbc = s.otAt s.tbc) ∧ t.domK d = s.domK d) ∧
      (d.val = s.otDom → big → s.otValid = true → s.domValid d = true → s.domSrc d ≠ 2 → Completes (.domainUpdateCommit d) s fun t => t.domExcl d = true ∧ Raised 11 s t)) ∧
    (x.updates = [] ∨ s.tbc % 250 ≠ 0 → Completes (.domainUpdateCommit d) s (SameBut [] s)) ∧
    (key ≠ 0xA5 → ∀ p ∈ ([(1, .snap o key), (2, .select o key d4), (3, .accept o key d4), (4, .dismiss o key d4)] : List (Nat × Instr)), Completes p.2 s fun t => shows (s.fld F.TIME_STAT_CODE) 4 t ∧ SameBut [.regs .time] s t) ∧
    (Completes (.snap o 0xA5) s fun t => shows 1 0 t ∧ t.fld2 F.SNAP_TBC_L_VALUE F.SNAP_TBC_H_VALUE = s.tbc % 2 ^ 64 ∧
      t.fld2 F.SNAP_OT_L_VALUE F.SNAP_OT_H_VALUE = ofSigned 64 (s.otAt s.tbc / nsU) ∧
      t.fld2 F.SNAP_D0_L_VALUE F.SNAP_D0_H_VALUE = ofSigned 64 (domTime (s.dom 0) s.tbc / nsU) ∧ t.fld2 F.SNAP_DL_L_VALUE F.SNAP_DL_H_VALUE = ofSigned 64 (domTime (s.dom 2) s.tbc / nsU) ∧
      SameBut [.regs .time] s t) ∧
    (∀ p ∈ ([(2, .select o 0xA5 3), (3, .accept o 0xA5 3), (4, .dismiss o 0xA5 3)] : List (Nat × Instr)), Completes p.2 s fun t => shows p.1 2 t ∧ SameBut [.regs .time] s t) ∧
    (d4.val = d.val →
      (s.domValid d = true → s.domExcl d = false → Completes (.select o 0xA5 d4) s fun t => waits 2 t ∧ (s.flag F.TIME_SEL_AUTO = true → t.fld F.TIME_SEL_PREF = d.val ∧ t.time.leftPref = false) ∧
        (s.flag F.TIME_SEL_AUTO = false → t.time.sel = some d.val) ∧ SameBut [.time, .regs .time] s t) ∧
      (s.domValid d = false ∨ s.domExcl d = true → Completes (.select o 0xA5 d4) s fun t => shows 2 2 t ∧ SameBut [.regs .time] s t) ∧
      (s.domValid d = true → s.domExcl d = true → Completes (.accept o 0xA5 d4) s fun t => waits 3 t ∧ SameBut [.time, .regs .time] s t) ∧
      (s.domExcl d = false → (Completes (.accept o 0xA5 d4) s fun t => shows 3 2 t ∧ SameBut [.regs .time] s t) ∧ Completes (.dismiss o 0xA5 d4) s fun t => shows 4 2 t ∧ SameBut [.regs .time] s t) ∧
      (s.domExcl d = true → Completes (.dismiss o 0xA5 d4) s fun t => shows 4 0 t ∧ t.domExcl d = false ∧ (t.dom d).absorbed = 0 ∧
        t.fld2 (F.DOM_JSTEP_L_VALUE d) (F.DOM_JSTEP_H_VALUE d) = 0 ∧ SameBut [.time, .regs .time] s t)) ∧
    (s.domValid d = true → s.domExcl d = true → -2 ^ 63 ≤ sum → sum < 2 ^ 63 → (s.accept d).otDom = d.val ∧ (s.accept d).otAt s.tbc = domTime x s.tbc + sum * nsU ∧ (s.accept d).domExcl d = false) ∧
    (s.time.leftPref = true → s.fld F.TIME_SEL_REVERT_S ≠ 0 → s.domState s.pref = 3 → (s.dom s.pref).lockedSince + sec (s.fld F.TIME_SEL_REVERT_S) ≤ s.tbc →
      Completes .revertExpiry s fun t => t.time.leftPref = false ∧ SameBut [.time] s t) ∧
    (s.time.leftPref = false ∨ s.fld F.TIME_SEL_REVERT_S = 0 ∨ s.domState s.pref ≠ 3 → Completes .revertExpiry s (SameBut [] s)) ∧
    (s.tbc % 250000 = 0 → Completes .tdcCalibration s fun t => t.time.tdcCal = s.tbc ∧ SameBut [.time] s t) ∧
    (s.tbc % 250000 ≠ 0 → Completes .tdcCalibration s (SameBut [] s))

/-- A PTP instance follows the best master announced and becomes UNCALIBRATED with a new one. A complete Sync measures its offset: a
SET while uncalibrated, a STEP above STEP_US, else a rate; 16 in a row within LOCK_NS lock it. A late Sync
puts it into HOLDOVER, HOLD_S later into INVALID. Delays are half the measured round trip. A pulse output is enabled with PER
and WIDTH in range, fires at t_n of OT, at least 2 µs ahead, and ends after WIDTH; a ONCE output then clears EN. -/
def Obligations.PtpAndPulseOutputs : Prop :=
  ∀ (o : Origin) (d : Fin 2) (n : Fin 8) (master rank q tmo e : Nat) (log : Int) (t1 corr t3 t2 c turn : Int) (frac : Byte) (utc : BitVec 11) (v : Word) (s : State),
    let x := s.dom d
    let on := s.ptpOn d
    let st := s.domState d
    let asym := psU (s.sfld (F.TS_ASYM_PS (s.domPort d)))
    let rx := s.rxStamp d frac.toNat
    let p2p := s.flag (F.DOM_CFG_P2P d)
    let due := tickFrom (s.tbc + 25)
    let lock := (max 1 (s.fld (F.DOM_LIM_LOCK_NS d)) : Nat) * nsU
    let step := (max 1 (s.fld (F.DOM_LIM_STEP_US d)) : Nat) * 1000 * nsU
    let measured (off : Int) (t : State) : Prop :=
      (t.dom d).updates = x.updates ++ [if st = 2 then {kind := 1, ofs := domTime x s.tbc - off, anc := s.tbc, rate := x.rate, due := due}
        else if step < off ∨ off < -step then {kind := 3, delta := -off / nsU, due := due} else {kind := 2, rate := (BitVec.setWidth 32 (Config.freeValue s.free)).toInt, due := due}] ∧
      (t.dom d).locks = (if lock < off ∨ off < -lock then 0 else min 16 (x.locks + 1)) ∧ (t.dom d).syncWait = none ∧
      ((lock < off ∨ off < -lock) ∨ x.locks < 15 → t.domState d = st) ∧ (-lock ≤ off → off ≤ lock → 15 ≤ x.locks → t.domState d = 3 ∧ t.domValid d = true)
    let moves (i : Instr) (to_ : Nat) : Prop := Completes i s fun t => t.domState d = to_ ∧ t.domValid d = decide (to_ = 4) ∧ (s.domValid d = !decide (to_ = 4) → Raised (13 + d) s t)
    let z := s.tso n
    let per := s.tsoPer n
    let wid : Int := s.fld (F.TSO_WIDTH_NS n)
    let ok := 8 ≤ wid ∧ wid ≤ per - 8 ∧ (v.getLsbD 30 = true → 1000 ≤ per)
    let lim := s.otAt s.tbc + 2000 * nsU
    (on = false → ∀ i ∈ ([.sync d master q log true t1 corr frac, .announce d master rank tmo utc, .pdelayReq d q, .delayReqSend d, .syncTimeout d] : List Instr), Completes i s (SameBut [] s)) ∧
    (on = true → x.master = some master → -7 ≤ log → log ≤ 4 →
      (Completes (.sync d master q log true t1 corr frac) s fun t => (t.dom d).syncWait = some (q, rx, corr + asym) ∧ (t.dom d).lastSync = s.tbc ∧ (t.dom d).syncLog = log ∧ SameBut [.time] s t) ∧
      (Completes (.sync d master q log false t1 corr frac) s fun t => measured (rx - t1 - corr - asym - x.pathDelay) t ∧ (t.dom d).syncDiff = rx - t1 - corr - asym) ∧
      (x.syncWait = some (q, t2, c) → Completes (.followUp d master q t1 corr) s (measured (t2 - t1 - c - corr - x.pathDelay)))) ∧
    (x.syncWait = none → Completes (.followUp d master q t1 corr) s (SameBut [] s)) ∧
    (x.master ≠ some master → Completes (.sync d master q log true t1 corr frac) s (SameBut [] s)) ∧
    (on = true →
      (x.master = none ∨ x.lastAnnounce + x.announceTmo ≤ s.tbc ∨ rank < x.rank → x.master ≠ some master → Completes (.announce d master rank tmo utc) s fun t => (t.dom d).master = some master ∧
        (t.dom d).rank = rank ∧ (t.dom d).locks = 0 ∧ (t.dom d).lastAnnounce = s.tbc ∧ t.fld (F.DOM_STAT_UTC_OFS d) = utc.toNat ∧ t.domState d = 2 ∧ t.domValid d = false) ∧
      (x.master = some master → Completes (.announce d master rank tmo utc) s fun t => (t.dom d).rank = rank ∧ (t.dom d).announceTmo = tmo ∧ (t.dom d).lastAnnounce = s.tbc ∧
        (t.dom d).locks = x.locks ∧ t.domState d = st ∧ SameBut [.time, .regs .time] s t) ∧
      (p2p = true → Completes (.pdelayReq d q) s fun t => t.outbox = .ptp d 2 q :: s.outbox ∧ SameBut [.outbox] s t) ∧
      (p2p = true ∨ x.master = some master → Completes (.delayReqSend d) s fun t => t.outbox = .ptp d (if p2p then 1 else 0) x.reqSeq :: s.outbox ∧ (t.dom d).delayReq = some (x.reqSeq, s.txStamp d) ∧
        (t.dom d).reqSeq = (x.reqSeq + 1) % 65536 ∧ SameBut [.time, .outbox] s t) ∧
      (x.delayReq = some (q, t3) →
        (p2p = false → x.master = some master → Completes (.delayResp d master q t1 corr) s fun t => (t.dom d).delayReq = none ∧ (t.dom d).pathDelay = (x.syncDiff + (t1 - t3 - corr + asym)) / 2 ∧ SameBut [.time] s t) ∧
        (p2p = true → Completes (.pdelayResp d q turn frac) s fun t => (t.dom d).delayReq = none ∧ (t.dom d).pathDelay = (rx - t3 - turn) / 2 ∧ SameBut [.time] s t)) ∧
      (st = 3 → x.lastSync + 4 * logInterval x.syncLog ≤ s.tbc ∨ (x.announceTmo ≠ 0 ∧ x.lastAnnounce + x.announceTmo ≤ s.tbc) → moves (.syncTimeout d) 4 ∧ Completes (.syncTimeout d) s fun t => (t.dom d).holdSince = s.tbc) ∧
      (st = 2 ∨ st = 5 → x.announceTmo ≠ 0 → x.lastAnnounce + x.announceTmo ≤ s.tbc → moves (.syncTimeout d) 1)) ∧
    (x.delayReq = none → Completes (.delayResp d master q t1 corr) s (SameBut [] s) ∧ Completes (.pdelayResp d q turn frac) s (SameBut [] s)) ∧
    (st = 4 → x.holdSince + sec (max 1 (s.fld (F.DOM_LIM_HOLD_S d))) ≤ s.tbc → moves (.holdoverExpiry d) 5) ∧
    (st ≠ 4 → Completes (.holdoverExpiry d) s (SameBut [] s)) ∧
    (s.flag (F.TSO_CFG_EN n) = false → v.getLsbD 31 = true →
      (¬ ok → Completes (.tsoEnable o n v) s fun t => t.flag (F.TSO_CFG_EN n) = false ∧ Raised 12 s t) ∧
      (ok → s.otValid = true → v.getLsbD 30 = true → Completes (.tsoEnable o n v) s fun t => t.flag (F.TSO_CFG_EN n) = true ∧ SameBut [.time, .regs .time] s t ∧ ((t.tso n).next.any fun k =>
        decide (lim ≤ (s.tsoStart n + k * per) * nsU) && (k == 0 || decide ((s.tsoStart n + ((k : Int) - 1) * per) * nsU < lim))) = true) ∧
      (ok → s.otValid = true → v.getLsbD 30 = false → Completes (.tsoEnable o n v) s fun t => (t.flag (F.TSO_CFG_EN n) = decide (lim ≤ s.tsoStart n * nsU)) ∧ SameBut [.time, .regs .time] s t ∧
        (t.tso n).next = (if lim ≤ s.tsoStart n * nsU then some 0 else none)) ∧
      (ok → s.otValid = false → Completes (.tsoEnable o n v) s fun t => t.flag (F.TSO_CFG_EN n) = true ∧ (t.tso n).next = none ∧ SameBut [.time, .regs .time] s t)) ∧
    (s.flag (F.TSO_CFG_EN n) = true → v.getLsbD 31 = false → Completes (.tsoEnable o n v) s fun t => t.flag (F.TSO_CFG_EN n) = false ∧ (t.tso n).next = none ∧ (t.tso n).endsAt = none ∧
      SameBut [.time, .regs .time] s t) ∧
    (z.next = some q → s.flag (F.TSO_CFG_EN n) = true → s.otValid = true → 2 ≤ s.mode → z.endsAt = none → (s.tsoStart n + q * per) * nsU ≤ s.otAt s.tbc → Completes (.tsoPulse n) s fun t =>
      t.fld (F.TSO_IDX_COUNT n) = q % 2 ^ 32 ∧ t.outbox = .pulse n q 1 :: s.outbox ∧ (t.tso n).endsAt = some (s.tbc + (wid.toNat + 3) / 4) ∧
      (t.tso n).next = (if s.flag (F.TSO_CFG_MODE n) then some (q + 1) else none) ∧ SameBut [.time, .outbox, .regs .time] s t) ∧
    (z.next = none ∨ s.flag (F.TSO_CFG_EN n) = false ∨ s.otValid = false → Completes (.tsoPulse n) s (SameBut [] s)) ∧
    (z.endsAt = some e → e ≤ s.tbc → Completes (.tsoPulseEnd n) s fun t => (t.tso n).endsAt = none ∧ t.outbox = .pulse n (s.fld (F.TSO_IDX_COUNT n)) 0 :: s.outbox ∧
      t.flag (F.TSO_CFG_EN n) = (s.flag (F.TSO_CFG_EN n) && s.flag (F.TSO_CFG_MODE n)) ∧ SameBut [.time, .outbox, .regs .time] s t) ∧
    (z.endsAt = none → Completes (.tsoPulseEnd n) s (SameBut [] s))

/-- A write of SL_CTRL with EN starts a link that passes the checks, else leaves ERR and EN 0; EN = 0 stops it. MEASURE completes to
configuration or RUN, or to FAULT with ERR 1. In each cycle the output image is taken as a whole at B_k, its frames leave
at T_k, and at P_k the valid input records are published; N_MISS missed cycles drop a station out with its substitute, REJOIN
valid ones bring it back. A bad FCS counts. A mailbox request queues, 16 at most, and completes with its result. -/
def Obligations.StationLinks : Prop :=
  ∀ (o : Origin) (n : Fin 16) (v : Word) (tx rx : Int) (f : GxFrame) (g : GxStatus) (data : List Byte) (q : MbxReq) (d : List Byte) (res : Nat) (a : BitVec 40) (s : State),
    let l := s.link n
    let st := s.slState n
    let len := v.toNat / 2 ^ 23 % 256 + 1
    let sts := (List.range (s.slStations n)).map (s.slReadEntry n)
    let stn := l.st 0
    let w := s.plainWrite (F.SL_CTRL_EN n).addr v
    let kB := s.slCycle n (s.slTxOfs n - 2000)
    let kP := s.slCycle n (s.slRxClose n)
    let line := lineOf a.toNat
    let runs := st = 3 ∨ st = 4
    let failed (e : Nat) (t : State) : Prop := t.flag (F.SL_CTRL_EN n) = false ∧ t.fld (F.SL_STAT_ERR n) = e ∧ t.slState n = st ∧ Raised (368 + n) w t
    (s.flag (F.SL_CTRL_EN n) = false → v.getLsbD 30 = true → s.flag (F.SL_CTRL_EN (n - 1)) = false →
      (s.dirFits n = false → Completes (.linkStart o n v) s (failed 4)) ∧
      (s.dirFits n = true → v.toNat / 2 ^ 28 % 4 = 0 →
        (s.slTimingOk n (sts.length * 2000) (sts.length * 4000) = false → Completes (.linkStart o n v) s (failed 1)) ∧
        (s.slTimingOk n (sts.length * 2000) (sts.length * 4000) = true → slImagesBad sts = true → Completes (.linkStart o n v) s (failed 2)) ∧
        (s.slTimingOk n (sts.length * 2000) (sts.length * 4000) = true → slImagesBad sts = false → s.slTableBad n sts 0 = true → Completes (.linkStart o n v) s (failed 5)) ∧
        (s.slTimingOk n (sts.length * 2000) (sts.length * 4000) = true → slImagesBad sts = false → s.slTableBad n sts 0 = false → s.flt.inj = none → Completes (.linkStart o n v) s fun t =>
          t.flag (F.SL_CTRL_EN n) = true ∧ t.fld (F.SL_STAT_ERR n) = 0 ∧ t.flag (F.SL_STAT_PROV n) = (!s.otValid) ∧ t.slState n = (if s.mode = 6 ∨ s.part.transmitting = false then 4 else 1) ∧
          (s.mode ≠ 6 → s.part.transmitting = true → t.outbox = .galxis n (t.slProbe n 3 4) true (t.gxWire n (t.slProbe n 3 4) true) :: s.outbox) ∧ SameBut [.links, .outbox, .regs .sl] s t))) ∧
    (s.flag (F.SL_CTRL_EN n) = true → v.getLsbD 30 = false → Completes (.linkStart o n v) s fun t => t.slState n = 0 ∧ (t.link n).stations = [] ∧ (t.link n).mbx = [] ∧
      t.fld (F.SL_ONLINE_ONLINE n 0) = 0 ∧ SameBut [.links, .regs .sl] s t) ∧
    (st = 2 → s.fld (F.SL_RX_RX_CLOSE n) ≠ 0 → s.slStations n = 0 →
      (s.slTimingOk n (rx - tx) (rx - tx) = true → Completes (.measureComplete n tx rx []) s fun t => t.slState n = 4 ∧ SameBut [.links, .regs .sl] s t) ∧
      (s.slTimingOk n 0 (rx - tx) = false → Completes (.measureComplete n tx rx []) s fun t => t.slState n = 5 ∧ t.fld (F.SL_STAT_ERR n) = 1 ∧ (t.src (352 + n)).raises = min 65535 ((s.src (352 + n)).raises + 1))) ∧
    (st ≠ 2 → Completes (.measureComplete n tx rx []) s (SameBut [] s)) ∧
    (runs → s.slTransmits n = true → l.taken < kB → Completes (.outputImageTake n) s fun t => (t.link n).taken = kB ∧ SameBut [.links] s t ∧
      (s.forces = [] → (∀ i, (l.st i).descs = []) → ∀ i, i < 0x6000 → tget (0 : Byte) (t.link n).image (slOutBase n + i) = s.byte (slOutBase n + i))) ∧
    (s.slTransmits n = false ∨ kB ≤ l.taken → Completes (.outputImageTake n) s (SameBut [] s)) ∧
    (s.slTransmits n = true → l.sent < l.taken → s.slPhase n + l.taken * s.slPeriod n + s.slTxOfs n ≤ s.slTime n → Completes (.frameTransmit n) s fun t => (t.link n).sent = l.taken ∧
      (t.link n).got = [] ∧ SameBut [.links, .outbox, .flt, .regs .flt] s t ∧
      (s.flt.inj = none → l.both = false → l.mbx = [] → s.slStations n = 1 → stn.olen = 0 → 0 < stn.ilen → stn.ilen ≤ 1400 →
        let fr : GxFrame := {s.slHeader n 0 l.taken with records := [{station := 0, kind := 1, data := List.replicate stn.ilen 0}]}
        t.outbox = .galxis n fr true (s.gxWire n fr true) :: s.outbox)) ∧
    (s.slTransmits n = false ∨ l.taken ≤ l.sent → Completes (.frameTransmit n) s (SameBut [] s)) ∧
    (n.val % 2 = 0 →
      (st = 0 → Completes (.frameReceive n true f) s (SameBut [] s)) ∧
      (st ≠ 0 → Completes (.frameReceive n false f) s fun t => t.fld (F.SL_CNT_BADFRM n) = min 65535 (s.fld (F.SL_CNT_BADFRM n) + 1) ∧
        (s.slReflects n = false → SameBut [.regs .sl] s t) ∧
        (s.slReflects n = true → t.outbox = .galxis n (s.slReflected n f) false (s.gxWire n (s.slReflected n f) false) :: s.outbox ∧ SameBut [.outbox, .regs .sl] s t)) ∧
      (st ≠ 0 → s.slReflects n = false →
        (f.type = 0 → f.records = [{station := 0, kind := 1, data := data, status := g}] → l.got = [] → g.state ≠ 15 → Completes (.frameReceive n true f) s fun t => (t.link n).got = [(0, g, data)] ∧ SameBut [.links] s t) ∧
        (f.type = 1 → l.mbx = [q] → q.station = 0 → q.answer = none → g.state ≠ 15 → g.cyc = f.cycle % 256 →
          f.records = [{station := 0, kind := 2, data := [0, BitVec.ofNat 8 q.tag, 0, 0, 0, 0, 7, 0] ++ data, status := g}] → q.tag < 256 → Completes (.frameReceive n true f) s fun t =>
            (t.link n).mbx = [{q with answer := some (7, data)}] ∧ SameBut [.links] s t) ∧
        (f.type = 3 → st = 1 → s.part.transmitting = true → s.flt.inj = none → Completes (.frameReceive n true f) s fun t => t.fld (F.SL_STAT_FOUND n) = (f.records.filter fun r => r.kind = 4).length % 512 ∧ t.slState n = 2 ∧
          t.outbox = .galxis n (s.slProbe n 2 3) true (t.gxWire n (s.slProbe n 2 3) true) :: s.outbox ∧ SameBut [.outbox, .regs .sl] s t) ∧
        (f.type = 3 → st ≠ 1 ∨ s.part.transmitting = false → Completes (.frameReceive n true f) s (SameBut [] s)))) ∧
    (runs → l.published < kP → kP ≤ l.sent → s.slStations n = 1 → s.fld (F.SL_CTRL_TOPO n) = 0 →
      (l.got = [(0, g, data)] → slValid stn kP g = true → data.length = stn.ilen → stn.iofs + stn.ilen ≤ 0x6000 →
        (stn.online = true ∨ max 1 (s.fld (F.SL_MISS_N_REJOIN n)) ≤ stn.good + 1 → Completes (.inputPublish n) s fun t => (t.link n).published = kP ∧ ((t.link n).st 0).online = true ∧ ((t.link n).st 0).missed = 0 ∧
          t.bytes (slInBase n + stn.iofs) stn.ilen = data ∧ (∀ i, ¬ (slInBase n + stn.iofs ≤ i ∧ i < slInBase n + stn.iofs + stn.ilen) → t.byte i = s.byte i) ∧ t.fld (F.SL_CNT_LOSTCYC n) = s.fld (F.SL_CNT_LOSTCYC n) ∧
          (stn.online = false → t.fbit (F.SL_ONLINE_ONLINE n 0) 0 = true)) ∧
        (stn.online = false → stn.good + 1 < max 1 (s.fld (F.SL_MISS_N_REJOIN n)) → Completes (.inputPublish n) s fun t => ((t.link n).st 0).online = false ∧ ((t.link n).st 0).good = stn.good + 1 ∧
          (∀ i, t.byte i = s.byte i))) ∧
      (l.got = [] → stn.online = true →
        (stn.missed + 1 < max 1 (s.fld (F.SL_MISS_N_MISS n)) → Completes (.inputPublish n) s fun t => ((t.link n).st 0).online = true ∧ ((t.link n).st 0).missed = stn.missed + 1 ∧
          t.fld (F.SL_CNT_LOSTCYC n) = min 65535 (s.fld (F.SL_CNT_LOSTCYC n) + 1) ∧ (∀ i, t.byte i = s.byte i)) ∧
        (max 1 (s.fld (F.SL_MISS_N_MISS n)) ≤ stn.missed + 1 → stn.iofs + stn.ilen ≤ 0x6000 → Completes (.inputPublish n) s fun t => ((t.link n).st 0).online = false ∧
          t.fbit (F.SL_ONLINE_ONLINE n 0) 0 = false ∧ t.bytes (slInBase n + stn.iofs) stn.ilen = (s.slSubst n 0).bytes (slInBase n + stn.iofs) stn.ilen ∧ (t.src (352 + n)).raises = min 65535 ((s.src (352 + n)).raises + 1)))) ∧
    (¬ runs ∨ kP ≤ l.published → Completes (.inputPublish n) s (SameBut [] s)) ∧
    (16 ≤ l.mbx.length → Completes (.mailboxRequest o n v) s fun t => t.flag (F.SL_MBXSTAT_OVF n) = true ∧ SameBut [.regs .sl] s t) ∧
    (l.mbx.length < 16 → v.getLsbD 31 = true → s.unfitted (s.mbxBuf n) len = true → Completes (.mailboxRequest o n v) s fun t => Raised 3 s t ∧
      t.fld (F.SL_MBXSTAT_TAG n) = (l.tag + 1) % 256 ∧ (t.link n).mbx.length = l.mbx.length + 1) ∧
    (l.mbx.length < 16 → v.getLsbD 31 = false ∨ s.unfitted (s.mbxBuf n) len = false → Completes (.mailboxRequest o n v) s fun t => t.fld (F.SL_MBXSTAT_TAG n) = (l.tag + 1) % 256 ∧ SameBut [.links, .regs .sl] s t ∧
      (t.link n).mbx = l.mbx ++ [{station := v.toNat / 2 ^ 13 % 256, write := v.getLsbD 31, object := v.toNat % 2 ^ 13, len := len, tag := (l.tag + 1) % 256, data := if v.getLsbD 31 then s.bytes (s.mbxBuf n) len else []}]) ∧
    (s.mbxDone n = none → Completes (.mailboxComplete n) s (SameBut [] s)) ∧
    (s.mbxDone n = some (q, res, d) → q.user = 0 → l.mbx = [q] → Completes (.mailboxComplete n) s fun t => (t.link n).mbx = [] ∧ t.slState n = st ∧
      (res ≠ 0 ∨ q.write = true → s.flag (F.SL_MBXEVT_EN n) = false → SameBut [.links] s t) ∧
      (res = 0 → q.write = false → d.length = q.len → s.mbxBuf n + q.len ≤ 0x400000 → t.bytes (s.mbxBuf n) q.len = d)) ∧
    (s.region line = .canvas → s.eccBad line 8 = true → Completes (.memoryScrubRead a) s (Raised 5 s)) ∧
    (s.region line = .lpddr → s.eccBad line 8 = true → Completes (.memoryScrubRead a) s (Raised 6 s)) ∧
    (s.eccBad line 8 = false → Completes (.memoryScrubRead a) s (SameBut [.flt] s))

/-- While EN is 0, and in VAULT and DAWN, the bus is not served. A read gives a mirror word, a fast register or MSEQ, else 0 with
CB_UNMAPPED. A write without the idle cycle after a read sets CB_TURN; that, a write in FOLLOW and a write outside its windows
count in IGNORED; 256 pending writes drop it with CB_OVF and source 17; else the FIFO takes it, and applies it in order: to a fast
register, or to a canvas word that the program declares as host input. -/
def Obligations.CompanionBus : Prop :=
  ∀ (a : BitVec 24) (v : Word) (idle : Bool) (k : Nat) (rest : List (Nat × Word)) (s : State),
    let c := s.cbus
    let i := a.toNat
    let window := (0x1000 ≤ i ∧ i < 0x1040) ∨ (0x400000 ≤ i ∧ i < 0x800000)
    let ignored (t : State) : Prop := t.fld F.CB_CNT_IGNORED = min 65535 (s.fld F.CB_CNT_IGNORED + 1) ∧ t.cbus.fifo = s.cbus.fifo ∧ SameBut [.cbus, .regs .cbus] s t
    (s.flag F.CB_CTRL_EN = false ∨ s.mode ≤ 1 → Completes (.cbRead a) s (SameBut [] s) ∧ Completes (.cbWrite a v idle) s (SameBut [] s)) ∧
    (s.flag F.CB_CTRL_EN = true → 2 ≤ s.mode →
      (i < 0x1000 → s.epMapped (s.fld (F.CB_MIR_HANDLE i)) = true → Completes (.cbRead a) s fun t => t.rdata = [tget 0 c.mirror i] ∧ t.cbus.lastRead = true ∧ SameBut [.rdata, .cbus] s t) ∧
      (0x1000 ≤ i → i < 0x1040 → Completes (.cbRead a) s fun t => t.rdata = [s.reg (F.CB_FAST_VALUE (i - 0x1000)).addr] ∧ SameBut [.rdata, .cbus] s t) ∧
      (i = 0x1040 → Completes (.cbRead a) s fun t => t.rdata = [BitVec.ofNat 32 c.mseq] ∧ SameBut [.rdata, .cbus] s t) ∧
      (0x1040 < i ∨ (i < 0x1000 ∧ s.epMapped (s.fld (F.CB_MIR_HANDLE i)) = false) → Completes (.cbRead a) s fun t => t.rdata = [0] ∧ t.flag F.CB_STAT_CB_UNMAPPED = true ∧
        SameBut [.rdata, .cbus, .regs .cbus] s t) ∧
      (c.lastRead = true → Completes (.cbWrite a v false) s fun t => ignored t ∧ t.flag F.CB_STAT_CB_TURN = true ∧ t.cbus.lastRead = false) ∧
      (c.lastRead = false ∨ idle = true → s.mode = 6 ∨ ¬ window → Completes (.cbWrite a v idle) s ignored) ∧
      (c.lastRead = false ∨ idle = true → s.mode ≠ 6 → window → 256 ≤ c.fifo.length → Completes (.cbWrite a v idle) s fun t => t.flag F.CB_STAT_CB_OVF = true ∧
        t.fld F.CB_CNT_DROP = min 65535 (s.fld F.CB_CNT_DROP + 1) ∧ t.cbus.fifo = c.fifo ∧ Raised 17 s t) ∧
      (c.lastRead = false ∨ idle = true → s.mode ≠ 6 → window → c.fifo.length < 256 → Completes (.cbWrite a v idle) s fun t => t.cbus.fifo = c.fifo ++ [(i, v)] ∧ SameBut [.cbus] s t)) ∧
    (c.fifo = [] → Completes .cbFifoApply s (SameBut [] s)) ∧
    (c.fifo = (k, v) :: rest →
      (0x1000 ≤ k → k < 0x1040 → Completes .cbFifoApply s fun t => t.cbus.fifo = rest ∧ t.reg (F.CB_FAST_VALUE (k - 0x1000)).addr = v ∧ SameBut [.cbus, .regs .cbus] s t) ∧
      (0x400000 ≤ k → k < 0x500000 → s.hostInput (k - 0x400000) = true → protectedArea (4 * (k - 0x400000)) = false → Completes .cbFifoApply s fun t => t.cbus.fifo = rest ∧ t.word (4 * (k - 0x400000)) = v ∧
        (∀ b, ¬ (4 * (k - 0x400000) ≤ b ∧ b < 4 * (k - 0x400000) + 4) → t.byte b = s.byte b)) ∧
      (0x400000 ≤ k → s.hostInput (k - 0x400000) = false → Completes .cbFifoApply s fun t => t.cbus.fifo = rest ∧ t.fld F.CB_CNT_IGNORED = min 65535 (s.fld F.CB_CNT_IGNORED + 1) ∧
        SameBut [.cbus, .regs .cbus] s t))

/-- A new OPMODE with timing in range starts bus integration, after which the state follows TEC and REC. A received frame goes to the first
object that matches, its word set, the FIFO or the HP buffer, else counts in NOMATCH. A trigger makes a send object pending and
offers its set; a good attempt lowers TEC by 1 and a failed one adds 8, above 255 the controller is bus-off. BOR with
KEY, and the supervisor within its budget, wait for 128 × 11 recessive bits, then error-active; the two in one cycle are one recovery, software's. ABD steps through its
candidates and takes the one that ABD_N frames accept. -/
def Obligations.CanControllers : Prop :=
  ∀ (o : Origin) (n : Fin 8) (m : Fin 256) (v : Word) (key : Byte) (f : CanFrame) (ws : List Word) (code : Fin 9) (e : Fin 7) (eight : Bool) (k t0 : Nat) (s : State),
    let c := s.can n
    let st := s.canState n
    let tec := s.fld (F.CAN_STAT_TEC n)
    let rec_ := s.fld (F.CAN_STAT_REC n)
    let live := st = 2 ∨ st = 3
    let op := s.fld (F.CAN_CTRL_OPMODE n)
    let new := v.toNat / 2 ^ 29 % 4
    let kindIs (q : Nat) : Prop := s.canMatch n f = some m.val ∧ s.fld (F.OBJ_CFG_KIND n m) = q
    let q := (tget 0 c.seqs m + 1) % 65536
    let wr := s.fld (F.CAN_FIFOPTR_WR n)
    let slot := lpddrBase + s.fld (F.CAN_FIFOBASE_BASE n) * 0x8000 + 80 * wr
    let quiet := s.flag (F.OBJ_CFG_EVT_EN n m) = false
    let sends := s.flag (F.OBJ_CFG_EN n m) = true ∧ s.fld (F.OBJ_CFG_KIND n m) = 3
    let free := c.cur = none ∧ live ∧ c.mode = 1 ∧ s.mode = 3 ∧ s.sys.dusk = none ∧ c.pend = []
    let set := s.canSet n m
    let offered (t : State) : Prop := (t.can n).cur = some (m.val, set) ∧ t.outbox = .can n m set :: s.outbox ∧ t.flag (F.OBJ_STAT_TXREQ n m) = true ∧ (t.can n).pend = [m.val] ∧ SameBut [.cans, .outbox, .regs .can] s t
    let dropped (r : Nat) (t : State) : Prop := t.fld (F.OBJ_STAT_TXCODE n m) = r ∧ t.flag (F.OBJ_STAT_TXREQ n m) = false ∧ (t.can n).cur = c.cur ∧ SameBut [.cans, .regs .can] s t
    let result (r : Nat) (t : State) : Prop := t.fld (F.CAN_HPSTAT_RESULT n) = r
    let trig (i : Instr) : Prop :=
      (sends → free → s.canFormatOk n set = true → Completes i s offered) ∧ (sends → free → s.canFormatOk n set = false → Completes i s (dropped 11)) ∧
      (sends → c.mode ≠ 1 ∨ s.mode = 2 → Completes i s (dropped 10)) ∧ (sends → c.mode = 1 → s.mode = 3 → s.sys.dusk = none → 4 ≤ st → Completes i s (dropped 9)) ∧
      (¬ sends → Completes i s (SameBut [] s))
    (new ≠ op →
      (new ≠ 0 → s.canTimingOk n = false → s.fld (F.CAN_CTRL_FD_EN n) = v.toNat / 2 ^ (F.CAN_CTRL_FD_EN n).lo % 2 → Completes (.opmodeWrite o n v) s fun t => t.fld (F.CAN_CTRL_OPMODE n) = op ∧ t.canState n = st ∧
        (t.src (400 + n)).raises = min 65535 ((s.src (400 + n)).raises + 1)) ∧
      (new = 1 ∨ new = 2 → s.canTimingOk n = true → s.fld (F.CAN_CTRL_FD_EN n) = v.toNat / 2 ^ (F.CAN_CTRL_FD_EN n).lo % 2 → c.cur = none → st < 4 → Completes (.opmodeWrite o n v) s fun t =>
        t.fld (F.CAN_CTRL_OPMODE n) = new ∧ (t.can n).mode = new ∧ t.canState n = 1 ∧ SameBut [.cans, .regs .can] s t) ∧
      (new = 0 → c.cur = none → st < 4 → Completes (.opmodeWrite o n v) s fun t => (t.can n).mode = 0 ∧ t.canState n = 0 ∧ t.fld (F.CAN_STAT_TEC n) = 0 ∧ t.fld (F.CAN_STAT_REC n) = 0 ∧ (t.can n).pend = [] ∧
        SameBut [.cans, .regs .can] s t)) ∧
    (st = 1 → c.pend = [] → Completes (.canBusIntegration n) s fun t => t.canState n = (if 128 ≤ tec ∨ 128 ≤ rec_ then 3 else 2) ∧ SameBut [.regs .can] s t) ∧
    (st ≠ 1 → Completes (.canBusIntegration n) s (SameBut [] s)) ∧
    (¬ live → Completes (.canFrameReceive n f) s (SameBut [] s) ∧ Completes (.canBusError n e eight) s (SameBut [] s)) ∧
    (live → f.fdf = false ∨ s.flag (F.CAN_CTRL_FD_EN n) = true → c.mode = 1 → c.abd = none →
      (s.canMatch n f = none → Completes (.canFrameReceive n f) s fun t => t.fld (F.CAN_CNT_NOMATCH n) = min (2 ^ (F.CAN_CNT_NOMATCH n).width - 1) (s.fld (F.CAN_CNT_NOMATCH n) + 1) ∧
        t.fld (F.CAN_STAT_REC n) = (if 127 < rec_ then 127 else rec_ - 1) ∧ SameBut [.regs .can] s t) ∧
      (kindIs 0 → quiet → s.mode ≠ 6 → Completes (.canFrameReceive n f) s fun t => tget 0 (t.can n).seqs m = q ∧ (List.range 20).map (fun i => t.word (s.canArea n m + 4 * i)) = canWords f 0 q ∧
        (∀ a, ¬ (s.canArea n m ≤ a ∧ a < s.canArea n m + 80) → t.byte a = s.byte a)) ∧
      (kindIs 1 → quiet → s.flag (F.CAN_FIFOPTR_FULL n) = false → s.flag (F.CAN_FIFOEVT_EN n) = false → Completes (.canFrameReceive n f) s fun t => (t.can n).fifoSeq = (c.fifoSeq + 1) % 65536 ∧ (t.can n).fifoLost = 0 ∧
        t.fld (F.CAN_FIFOPTR_WR n) = (wr + 1) % 2 ^ (F.CAN_FIFOPTR_WR n).width ∧ t.flag (F.CAN_FIFOPTR_FULL n) = decide (t.fld (F.CAN_FIFOPTR_WR n) = s.fld (F.CAN_FIFOPTR_RD n)) ∧
        (s.unfitted slot 80 = false → t.word slot = (canWords f c.fifoLost ((c.fifoSeq + 1) % 65536)).headD 0) ∧ (s.unfitted slot 80 = true → Raised 3 s t)) ∧
      (kindIs 1 → s.flag (F.CAN_FIFOPTR_FULL n) = true → Completes (.canFrameReceive n f) s fun t => t.flag (F.CAN_FIFOPTR_FIFO_OVF n) = true ∧ (t.can n).fifoLost = min 255 (c.fifoLost + 1) ∧ SameBut [.cans, .regs .can] s t) ∧
      (kindIs 2 → quiet → c.hp.length < 4 → s.flag (F.CAN_HPSTAT_EN n) = false → Completes (.canFrameReceive n f) s fun t => (t.can n).hp = c.hp ++ [canWords f c.hpLost q] ∧ t.fld (F.CAN_HPSTAT_COUNT n) = c.hp.length + 1 ∧
        SameBut [.cans, .regs .can] s t) ∧
      (kindIs 2 → 4 ≤ c.hp.length → Completes (.canFrameReceive n f) s fun t => t.flag (F.CAN_HPSTAT_HP_OVF n) = true ∧ (t.can n).hp = c.hp ∧ SameBut [.cans, .regs .can] s t)) ∧
    (v.getLsbD 30 = true → Completes (.pop o n v) s fun t => (t.can n).hp = c.hp.tail ∧ t.fld (F.CAN_HPSTAT_COUNT n) = c.hp.tail.length % 2 ^ (F.CAN_HPSTAT_COUNT n).width ∧ SameBut [.cans, .regs .can] s t) ∧
    (v.getLsbD 30 = false → Completes (.pop o n v) s fun t => (t.can n).hp = c.hp ∧ SameBut [.regs .can] s t) ∧
    (Completes (.fifoRdWrite o n v) s fun t => SameBut [.regs .can] s t ∧ (t.fld (F.CAN_FIFOPTR_RD n) ≠ s.fld (F.CAN_FIFOPTR_RD n) → t.flag (F.CAN_FIFOPTR_FULL n) = false) ∧
      t.fld (F.CAN_FIFOPTR_RD n) = v.toNat / 2 ^ (F.CAN_FIFOPTR_RD n).lo % 2 ^ (F.CAN_FIFOPTR_RD n).width) ∧
    (s.canTxMode n m = 1 → s.tbc % ms (max 1 (s.fld (F.OBJ_AUX_PERIOD n m))) = 0 → trig (.canPeriodic n m)) ∧
    (s.canTxMode n m ≠ 1 → Completes (.canPeriodic n m) s (SameBut [] s)) ∧
    (s.canTxMode n m = 2 → v.getLsbD 7 = true → v.getLsbD 6 = false → trig (.txreq o n m v)) ∧
    (v.getLsbD 7 = false → v.getLsbD 6 = true → Completes (.txreq o n m v) s fun t => t.flag (F.OBJ_STAT_COLLISION n m) = false ∧ SameBut [.regs .can] s t) ∧
    (c.cur = none → Completes (.canTxComplete n code) s (SameBut [] s)) ∧
    (c.cur = some (m.val, ws) → live → c.pend = [m.val] → c.again = false → c.want = none → c.mode = 1 → s.mode = 3 →
      (Completes (.canTxComplete n 0) s fun t => t.fld (F.OBJ_STAT_TXCODE n m) = 0 ∧ t.fld (F.CAN_STAT_TEC n) = tec - 1 ∧ t.flag (F.OBJ_STAT_TXREQ n m) = false ∧ (t.can n).cur = none ∧ (t.can n).pend = [] ∧ (tec ≤ 255 → SameBut [.cans, .regs .can] s t)) ∧
      (0 < code.val → code.val < 7 → tec ≤ 247 → s.flag (F.OBJ_CFG_ONESHOT n m) = true → Completes (.canTxComplete n code) s fun t => t.fld (F.OBJ_STAT_TXCODE n m) = code.val ∧ t.fld (F.CAN_STAT_LEC n) = code.val ∧
        t.fld (F.CAN_STAT_TEC n) = (if code.val = 3 ∧ st = 3 then tec else tec + 8) ∧ (t.can n).cur = none ∧ t.flag (F.OBJ_STAT_TXREQ n m) = false ∧ SameBut [.cans, .regs .can] s t) ∧
      (0 < code.val → code.val < 7 → code.val ≠ 3 → 248 ≤ tec → tec ≤ 255 → s.flag (F.OBJ_CFG_ONESHOT n m) = true → Completes (.canTxComplete n code) s fun t => t.canState n = 4 ∧ (t.can n).pend = [] ∧
        (t.src (392 + n)).raises = min 65535 ((s.src (392 + n)).raises + 1)) ∧
      (s.flag (F.OBJ_CFG_ONESHOT n m) = false → s.sys.dusk = none → s.canFormatOk n set = true → tec ≤ 255 → Completes (.canTxComplete n 7) s fun t => t.fld (F.CAN_STAT_TEC n) = tec ∧ (t.can n).cur = some (m.val, set) ∧
        t.outbox = .can n m set :: s.outbox)) ∧
    (live → e.val = 0 → Completes (.canBusError n e eight) s fun t => t.canState n = 1 ∧ SameBut [.regs .can] s t) ∧
    (live → e.val ≠ 0 → c.abd = none →
      (c.mode = 1 → tec ≤ 255 → Completes (.canBusError n e eight) s fun t => t.fld (F.CAN_STAT_LEC n) = e.val ∧ t.fld (F.CAN_STAT_REC n) = min 128 (rec_ + if eight then 8 else 1) ∧ SameBut [.regs .can] s t) ∧
      (c.mode ≠ 1 → Completes (.canBusError n e eight) s fun t => t.fld (F.CAN_STAT_LEC n) = e.val ∧ t.fld (F.CAN_STAT_REC n) = rec_ ∧ SameBut [.regs .can] s t)) ∧
    (key ≠ 0xA5 → ∀ i ∈ ([.bor o n key, .abdStart o n key, .abdStop o n key] : List Instr), Completes i s fun t => result 4 t ∧ SameBut [.regs .can] s t) ∧
    (st = 4 → Completes (.bor o n 0xA5) s fun t => result 0 t ∧ t.canState n = 5 ∧ SameBut [.regs .can] s t) ∧
    (st = 5 → c.recov.head? = some s.tbc → Completes (.bor o n 0xA5) s fun t => result 0 t ∧ t.canState n = 5 ∧ (t.can n).recov = c.recov.tail ∧
      t.fld (F.CANSUP_CNT_COUNT n) = s.fld (F.CANSUP_CNT_COUNT n) - 1 ∧ SameBut [.cans, .regs .can] s t) ∧
    (st ≠ 4 → st ≠ 5 ∨ c.recov.head? ≠ some s.tbc → Completes (.bor o n 0xA5) s fun t => result 2 t ∧ SameBut [.regs .can] s t) ∧
    (st = 5 → c.want = none → c.pend = [] → Completes (.borComplete n) s fun t => t.canState n = 2 ∧ t.fld (F.CAN_STAT_TEC n) = 0 ∧ t.fld (F.CAN_STAT_REC n) = 0 ∧ SameBut [.regs .can] s t) ∧
    (st ≠ 5 → Completes (.borComplete n) s (SameBut [] s)) ∧
    (st = 4 → s.fbit F.CANSUP_CTRL_AUTO n = true → c.spent = false → s.fbit F.CANSUP_STAT_BUDGET_OUT n = false →
      let used := (c.recov.filter fun t => s.tbc < t + sec (max 1 (s.fld F.CANSUP_CTRL_WIN_S))).length
      (used < max 1 (s.fld F.CANSUP_CTRL_BUDGET) → Completes (.cansupRecovery n) s fun t => t.canState n = 5 ∧ (t.can n).recov.head? = some s.tbc ∧
        t.fld (F.CANSUP_CNT_COUNT n) = min (2 ^ (F.CANSUP_CNT_COUNT n).width - 1) (s.fld (F.CANSUP_CNT_COUNT n) + 1) ∧ SameBut [.cans, .regs .can] s t) ∧
      (max 1 (s.fld F.CANSUP_CTRL_BUDGET) ≤ used → Completes (.cansupRecovery n) s fun t => t.fbit F.CANSUP_STAT_BUDGET_OUT n = true ∧ t.canState n = 4 ∧ (t.src 23).raises = min 65535 ((s.src 23).raises + 1))) ∧
    (st ≠ 4 ∨ s.fbit F.CANSUP_CTRL_AUTO n = false → Completes (.cansupRecovery n) s (SameBut [] s)) ∧
    (s.abdAny n = false → Completes (.abdStart o n 0xA5) s fun t => result 2 t ∧ SameBut [.regs .can] s t) ∧
    (s.flag (F.CAN_ABDN_EN n 0) = true → c.abd ≠ none ∨ (c.cur = none ∧ st < 4) → Completes (.abdStart o n 0xA5) s fun t => result 0 t ∧ (t.can n).abd = some (0, s.tbc) ∧ t.fld (F.ABD_STAT_CAND n) = 0 ∧
      t.flag (F.ABD_STAT_DONE n) = false ∧ SameBut [.cans, .regs .can] s t) ∧
    (op = 3 → s.canTimingOk n = true → c.cur = none → st < 4 → Completes (.abdStop o n 0xA5) s fun t => result 0 t ∧ t.fld (F.CAN_CTRL_OPMODE n) = 2 ∧ (t.can n).mode = 2 ∧ (t.can n).abd = none ∧ t.canState n = 1 ∧
      SameBut [.cans, .regs .can] s t) ∧
    (op = 3 → s.canTimingOk n = false → c.cur = none → st < 4 → Completes (.abdStop o n 0xA5) s fun t => result 0 t ∧ t.fld (F.CAN_CTRL_OPMODE n) = 0 ∧ t.canState n = 0 ∧
      SameBut [.cans, .regs .can] s t) ∧
    (op ≠ 3 → Completes (.abdStop o n 0xA5) s fun t => result 2 t ∧ SameBut [.regs .can] s t) ∧
    (c.abd = some (k, t0) → t0 + ms (max 1 (s.fld (F.ABD_CFG_ABD_TMO n))) ≤ s.tbc → s.fld (F.ABD_STAT_CAND n) = 15 → s.flag (F.CAN_ABDN_EN n 0) = true → Completes (.abdTimeout n) s fun t => t.fld (F.ABD_STAT_CAND n) = 0 ∧
      (t.can n).abd = some (0, s.tbc) ∧ SameBut [.cans, .regs .can] s t) ∧
    (c.abd = none → Completes (.abdTimeout n) s (SameBut [] s))
end

