-- ==== Sys2Proof/Laws/Tables.lean ====
section
/-!
SUPPORT. Laws of sparse tables: what a lookup finds after an update, and that updates keep the canonical form.
-/

set_option Elab.async false

namespace Sys2Proof.Machine

/-! ### Lookups after updates -/

theorem tlook_tins {α : Type} (k j : Nat) (v : α) (t : Tbl α) :
    tlook (tins k v t) j = if k = j then some v else tlook t j := by
  induction t with
  | nil => simp [tins, tlook]
  | cons p t ih =>
    obtain ⟨i, w⟩ := p
    simp only [tins]
    split
    · rename_i h
      simp only [tlook, ih]
      split
      · subst_vars; rw [if_neg (by omega)]
      · rfl
    · split
      · subst_vars; simp only [tlook]; split <;> rfl
      · simp only [tlook]

theorem tlook_tdel {α : Type} (k j : Nat) (t : Tbl α) :
    tlook (tdel k t) j = if k = j then none else tlook t j := by
  induction t with
  | nil => simp [tdel, tlook]
  | cons p t ih =>
    obtain ⟨i, w⟩ := p
    simp only [tdel]
    split
    · subst_vars; rw [ih]; split
      · rfl
      · rename_i h; simp only [tlook]; rw [if_neg h]
    · rename_i h
      simp only [tlook, ih]
      split
      · subst_vars; rw [if_neg (fun e => h e.symm)]
      · rfl

@[simp] theorem tget_tset {α : Type} [DecidableEq α] (d : α) (k j : Nat) (v : α) (t : Tbl α) :
    tget d (tset d k v t) j = if k = j then v else tget d t j := by
  unfold tget tset
  split
  · rw [tlook_tdel]; split
    · simp_all
    · rfl
  · rw [tlook_tins]; split <;> rfl

theorem tget_tset_self {α : Type} [DecidableEq α] (d : α) (k : Nat) (v : α) (t : Tbl α) :
    tget d (tset d k v t) k = v := by simp

theorem tget_tset_ne {α : Type} [DecidableEq α] (d : α) {k j : Nat} (h : k ≠ j) (v : α) (t : Tbl α) :
    tget d (tset d k v t) j = tget d t j := by simp [h]

@[simp] theorem tget_tmod {α : Type} [DecidableEq α] (d : α) (k j : Nat) (f : α → α) (t : Tbl α) :
    tget d (tmod d k f t) j = if k = j then f (tget d t k) else tget d t j := by
  unfold tmod; rw [tget_tset]

@[simp] theorem tget_nil {α : Type} (d : α) (k : Nat) : tget d [] k = d := rfl

/-! ### The canonical form -/

/-- Keys rise strictly and no entry equals its default. -/
def Canon {α : Type} (d : Nat → α) (t : Tbl α) : Prop :=
  t.Pairwise (fun p q => p.1 < q.1) ∧ ∀ p ∈ t, p.2 ≠ d p.1

theorem Canon.nil {α : Type} (d : Nat → α) : Canon d [] := ⟨.nil, by simp⟩

theorem mem_tins {α : Type} {k : Nat} {v : α} {t : Tbl α} {p : Nat × α} (h : p ∈ tins k v t) : p = (k, v) ∨ p ∈ t := by
  induction t with
  | nil => exact .inl (by simpa [tins] using h)
  | cons q t ih =>
    obtain ⟨i, w⟩ := q
    simp only [tins] at h
    split at h
    · rcases List.mem_cons.1 h with h | h
      · exact .inr (by simp [h])
      · rcases ih h with h | h
        · exact .inl h
        · exact .inr (by simp [h])
    · split at h
      · rcases List.mem_cons.1 h with h | h
        · exact .inl h
        · exact .inr (by simp [h])
      · rcases List.mem_cons.1 h with h | h
        · exact .inl h
        · exact .inr h

theorem tdel_sublist {α : Type} (k : Nat) (t : Tbl α) : (tdel k t).Sublist t := by
  induction t with
  | nil => exact .slnil
  | cons q t ih =>
    obtain ⟨i, w⟩ := q
    simp only [tdel]
    split
    · exact .cons _ ih
    · exact .cons_cons _ ih

theorem sorted_tins {α : Type} (k : Nat) (v : α) (t : Tbl α) (h : t.Pairwise (fun p q => p.1 < q.1)) :
    (tins k v t).Pairwise (fun p q => p.1 < q.1) := by
  induction t with
  | nil => simp [tins]
  | cons q t ih =>
    obtain ⟨i, w⟩ := q
    have ⟨h1, h2⟩ := List.pairwise_cons.1 h
    simp only [tins]
    split
    · refine List.pairwise_cons.2 ⟨fun p hp => ?_, ih h2⟩
      rcases mem_tins hp with e | e
      · subst e; assumption
      · exact h1 p e
    · split
      · subst_vars; exact List.pairwise_cons.2 ⟨h1, h2⟩
      · refine List.pairwise_cons.2 ⟨fun p hp => ?_, h⟩
        rcases List.mem_cons.1 hp with e | e
        · subst e; simp only; omega
        · have := h1 p e; simp only at this ⊢; omega

theorem Canon.tset {α : Type} [DecidableEq α] {d : Nat → α} {t : Tbl α} (h : Canon d t) (k : Nat) (v : α) :
    Canon d (tset (d k) k v t) := by
  unfold Sys2Proof.Machine.tset
  split
  · exact ⟨h.1.sublist (tdel_sublist k t), fun p hp => h.2 p ((tdel_sublist k t).subset hp)⟩
  · refine ⟨sorted_tins k v t h.1, fun p hp => ?_⟩
    rcases mem_tins hp with e | e
    · subst e; assumption
    · exact h.2 p e

theorem Canon.filter {α : Type} {d : Nat → α} {t : Tbl α} (h : Canon d t) (f : Nat × α → Bool) : Canon d (t.filter f) :=
  ⟨h.1.sublist List.filter_sublist, fun p hp => h.2 p (List.mem_filter.1 hp).1⟩

/-! ### Loops -/

theorem forL_ind {σ α : Type} {P : σ → Prop} {f : α → σ → σ} (hf : ∀ a t, P t → P (f a t)) (l : List α) :
    ∀ s, P s → P (forL l f s) := by
  induction l with
  | nil => intro s h; exact h
  | cons a l ih => intro s h; exact ih _ (hf a s h)

theorem forN_ind {σ : Type} {P : σ → Prop} {f : Nat → σ → σ} (n : Nat) (hf : ∀ i t, P t → P (f i t)) (s : σ) (h : P s) :
    P (forN n f s) := forL_ind (f := f) hf (List.range n) s h

end Sys2Proof.Machine
end

