-- ==== Sys2Proof/Laws/Memory.lean ====
section
/-!
SUPPORT. Laws of memory: a byte read after a store, and that every memory operation keeps the canonical form.
-/

set_option Elab.async false

namespace Sys2Proof.Machine

theorem memWf_iff (m : List Host.Cell) : Memory.wf m = true ↔ Canon (fun _ => (0 : Byte)) m := by
  induction m with
  | nil => simp [Memory.wf, Canon]
  | cons p t ih =>
    obtain ⟨a, v⟩ := p
    cases t with
    | nil => simp [Memory.wf, Canon]
    | cons q t =>
      obtain ⟨b, w⟩ := q
      simp only [Memory.wf, Bool.and_eq_true, bne_iff_ne, ne_eq, decide_eq_true_eq, ih, Canon, List.pairwise_cons,
        List.mem_cons, forall_eq_or_imp]
      constructor
      · rintro ⟨⟨h1, h2⟩, ⟨h3, h4⟩, h5, h6⟩
        exact ⟨⟨⟨h2, fun p hp => Nat.lt_trans h2 (h3 p hp)⟩, h3, h4⟩, h1, h5, h6⟩
      · rintro ⟨⟨⟨h2, _⟩, h3, h4⟩, h1, h5, h6⟩
        exact ⟨⟨h1, h2⟩, ⟨h3, h4⟩, h5, h6⟩

theorem setByte_wf (a : Nat) (v : Byte) (s : State) (h : Memory.wf s.mem = true) :
    Memory.wf (s.setByte a v).mem = true := by
  rw [memWf_iff] at h ⊢
  exact h.tset a v

theorem clearRange_wf (a n : Nat) (s : State) (h : Memory.wf s.mem = true) : Memory.wf (s.clearRange a n).mem = true := by
  rw [memWf_iff] at h ⊢
  exact h.filter _

@[simp] theorem byte_setByte (a b : Nat) (v : Byte) (s : State) :
    (s.setByte a v).byte b = if a = b then v else s.byte b := tget_tset 0 a b v s.mem

theorem setBytes_wf (n : Nat) : ∀ (a v : Nat) (s : State), Memory.wf s.mem = true →
    Memory.wf (s.setBytes a n v).mem = true := by
  induction n with
  | zero => intro a v s h; exact h
  | succ n ih => intro a v s h; exact ih _ _ _ (setByte_wf _ _ _ h)

/-- What `setBytes` can do: byte `b` of the stored ones takes its part of the number, every other byte is as before. -/
theorem byte_setBytes (n : Nat) : ∀ (a v : Nat) (s : State) (b : Nat),
    (s.setBytes a n v).byte b = if a ≤ b ∧ b < a + n then BitVec.ofNat 8 (v / 256 ^ (b - a)) else s.byte b := by
  induction n with
  | zero => intro a v s b; rw [if_neg (by omega)]; rfl
  | succ n ih =>
    intro a v s b
    rw [State.setBytes, ih, byte_setByte]
    by_cases h : a = b
    · subst h; rw [if_neg (by omega), if_pos rfl, if_pos (by omega), Nat.sub_self, Nat.pow_zero, Nat.div_one]
    · rw [if_neg h]
      by_cases h1 : a + 1 ≤ b ∧ b < a + 1 + n
      · rw [if_pos h1, if_pos (by omega), Nat.div_div_eq_div_mul]
        have e : b - a = (b - (a + 1)) + 1 := by omega
        rw [e, Nat.pow_succ, Nat.mul_comm]
      · rw [if_neg h1, if_neg (by omega)]

theorem byte_setBytes_out {n a v : Nat} {s : State} {b : Nat} (h : b < a ∨ a + n ≤ b) :
    (s.setBytes a n v).byte b = s.byte b := by
  rw [byte_setBytes, if_neg (by omega)]

theorem memNat_eq (m : List Host.Cell) (n : Nat) : ∀ a, memNat m a n < 256 ^ n := by
  induction n with
  | zero => intro a; simp [memNat]
  | succ n ih =>
    intro a
    have h1 := (tget (0 : Byte) m a).isLt
    have h2 := ih (a + 1)
    simp only [memNat, Nat.pow_succ]
    omega

/-- Reading back the bytes that were stored. -/
theorem memNat_setBytes (n : Nat) : ∀ (a v : Nat) (s : State), memNat (s.setBytes a n v).mem a n = v % 256 ^ n := by
  suffices H : ∀ n a v (s : State), (∀ b, a ≤ b → b < a + n → s.byte b = BitVec.ofNat 8 (v / 256 ^ (b - a))) →
      memNat s.mem a n = v % 256 ^ n by
    intro a v s
    exact H n a v _ fun b h1 h2 => by rw [byte_setBytes, if_pos ⟨h1, h2⟩]
  intro n
  induction n with
  | zero => intro a v s _; simp [memNat, Nat.mod_one]
  | succ n ih =>
    intro a v s h
    have h0 := h a (by omega) (by omega)
    have h1 := ih (a + 1) (v / 256) s fun b hb1 hb2 => by
      rw [h b (by omega) (by omega), Nat.div_div_eq_div_mul]
      have e : b - a = (b - (a + 1)) + 1 := by omega
      rw [e, Nat.pow_succ, Nat.mul_comm]
    simp only [State.byte, Nat.sub_self, Nat.pow_zero, Nat.div_one] at h0
    have e : 256 ^ (n + 1) = 256 * 256 ^ n := by rw [Nat.pow_succ, Nat.mul_comm]
    rw [e, Nat.mod_mul]
    simp only [memNat, h0, h1, BitVec.toNat_ofNat]

theorem word_setWord (a : Nat) (v : Word) (s : State) : (s.setWord a v).word a = v := by
  have h := memNat_setBytes 4 a v.toNat s
  unfold State.word State.setWord
  rw [h]
  apply BitVec.eq_of_toNat_eq
  have := v.isLt
  simp only [BitVec.toNat_ofNat]
  omega

theorem byte_setWord_out {a : Nat} {v : Word} {s : State} {b : Nat} (h : b < a ∨ a + 4 ≤ b) :
    (s.setWord a v).byte b = s.byte b := byte_setBytes_out h

end Sys2Proof.Machine
end

