-- ==== Sys2Proof/Laws/Registers.lean ====
section
/-!
SUPPORT. Laws of the register file: what a register or a field reads after another was written.
-/

set_option Elab.async false

namespace Sys2Proof.Machine

@[simp] theorem reg_setReg (s : State) (a b : Nat) (v : Word) :
    (s.setReg a v).reg b = if a = b then v else s.reg b := by
  show tget (regReset b) (tset (regReset a) a v s.regs) b = _
  by_cases h : a = b
  · subst h; simp
  · rw [if_neg h]
    unfold tget tset
    split
    · rw [tlook_tdel, if_neg h]; rfl
    · rw [tlook_tins, if_neg h]; rfl

theorem reg_setReg_self (s : State) (a : Nat) (v : Word) : (s.setReg a v).reg a = v := by simp

theorem reg_setReg_ne {s : State} {a b : Nat} {v : Word} (h : a ≠ b) : (s.setReg a v).reg b = s.reg b := by simp [h]

/-- A word is its part below a field, the field, and its part above it. -/
theorem split_field (n lo w : Nat) :
    n = n % 2 ^ lo + n / 2 ^ lo % 2 ^ w * 2 ^ lo + n / 2 ^ (lo + w) * 2 ^ (lo + w) := by
  have h1 := Nat.div_add_mod n (2 ^ lo)
  have h2 := Nat.div_add_mod (n / 2 ^ lo) (2 ^ w)
  have e : n / 2 ^ (lo + w) = n / 2 ^ lo / 2 ^ w := by rw [Nat.pow_add, Nat.div_div_eq_div_mul]
  rw [e]
  calc n = 2 ^ lo * (n / 2 ^ lo) + n % 2 ^ lo := h1.symm
    _ = 2 ^ lo * (2 ^ w * (n / 2 ^ lo / 2 ^ w) + n / 2 ^ lo % 2 ^ w) + n % 2 ^ lo := by rw [h2]
    _ = _ := by rw [Nat.pow_add]; grind

/-- The number of a word after a field of it was replaced. -/
theorem putBits_toNat {x : Word} {lo w v : Nat} (h : lo + w ≤ 32) :
    (putBits x lo w v).toNat =
      x.toNat % 2 ^ lo + v % 2 ^ w * 2 ^ lo + x.toNat / 2 ^ (lo + w) * 2 ^ (lo + w) := by
  have hs := split_field x.toNat lo w
  have hb : x.toNat - bitsOf x lo w * 2 ^ lo + v % 2 ^ w * 2 ^ lo =
      x.toNat % 2 ^ lo + v % 2 ^ w * 2 ^ lo + x.toNat / 2 ^ (lo + w) * 2 ^ (lo + w) := by
    unfold bitsOf; omega
  have hlt : x.toNat % 2 ^ lo + v % 2 ^ w * 2 ^ lo + x.toNat / 2 ^ (lo + w) * 2 ^ (lo + w) < 2 ^ 32 := by
    have h1 : x.toNat % 2 ^ lo < 2 ^ lo := Nat.mod_lt _ (Nat.two_pow_pos _)
    have h2 : v % 2 ^ w + 1 ≤ 2 ^ w := Nat.mod_lt _ (Nat.two_pow_pos _)
    have h3 : (v % 2 ^ w + 1) * 2 ^ lo ≤ 2 ^ w * 2 ^ lo := Nat.mul_le_mul_right _ h2
    have h4 : x.toNat / 2 ^ (lo + w) < 2 ^ (32 - (lo + w)) := by
      rw [Nat.div_lt_iff_lt_mul (Nat.two_pow_pos _), ← Nat.pow_add]
      have : 32 - (lo + w) + (lo + w) = 32 := by omega
      rw [this]; exact x.isLt
    have h5 : (x.toNat / 2 ^ (lo + w) + 1) * 2 ^ (lo + w) ≤ 2 ^ (32 - (lo + w)) * 2 ^ (lo + w) :=
      Nat.mul_le_mul_right _ h4
    have h6 : 2 ^ (32 - (lo + w)) * 2 ^ (lo + w) = 2 ^ 32 := by rw [← Nat.pow_add]; congr 1; omega
    have h7 : 2 ^ w * 2 ^ lo = 2 ^ (lo + w) := by rw [← Nat.pow_add, Nat.add_comm]
    rw [Nat.add_mul, Nat.one_mul] at h3 h5
    omega
  unfold putBits
  rw [BitVec.toNat_ofNat, hb, Nat.mod_eq_of_lt hlt]

theorem bitsOf_putBits {x : Word} {lo w v : Nat} (h : lo + w ≤ 32) : bitsOf (putBits x lo w v) lo w = v % 2 ^ w := by
  unfold bitsOf
  rw [putBits_toNat h]
  have e : x.toNat % 2 ^ lo + v % 2 ^ w * 2 ^ lo + x.toNat / 2 ^ (lo + w) * 2 ^ (lo + w) =
      x.toNat % 2 ^ lo + 2 ^ lo * (v % 2 ^ w + 2 ^ w * (x.toNat / 2 ^ (lo + w))) := by
    rw [Nat.pow_add]; grind
  rw [e, Nat.add_mul_div_left _ _ (Nat.two_pow_pos _), Nat.div_eq_of_lt (Nat.mod_lt _ (Nat.two_pow_pos _)), Nat.zero_add,
    Nat.add_mul_mod_self_left, Nat.mod_mod]

/-- A field below or above the replaced one is as before. -/
theorem bitsOf_putBits_ne {x : Word} {lo w v lo' w' : Nat} (h : lo + w ≤ 32) (hd : lo' + w' ≤ lo ∨ lo + w ≤ lo') :
    bitsOf (putBits x lo w v) lo' w' = bitsOf x lo' w' := by
  have hs := split_field x.toNat lo w
  unfold bitsOf
  rw [putBits_toNat h]
  rcases hd with hd | hd
  · obtain ⟨k, rfl⟩ : ∃ k, lo = lo' + w' + k := ⟨lo - (lo' + w'), by omega⟩
    have key : ∀ c : Nat, (x.toNat % 2 ^ (lo' + w' + k) + c * 2 ^ (lo' + w' + k)) / 2 ^ lo' % 2 ^ w' =
        x.toNat % 2 ^ (lo' + w' + k) / 2 ^ lo' % 2 ^ w' := by
      intro c
      have e : c * 2 ^ (lo' + w' + k) = 2 ^ lo' * (2 ^ w' * (c * 2 ^ k)) := by rw [Nat.pow_add, Nat.pow_add]; grind
      rw [e, Nat.add_mul_div_left _ _ (Nat.two_pow_pos _), Nat.add_mul_mod_self_left]
    have e1 : x.toNat % 2 ^ (lo' + w' + k) + v % 2 ^ w * 2 ^ (lo' + w' + k) +
        x.toNat / 2 ^ (lo' + w' + k + w) * 2 ^ (lo' + w' + k + w) = x.toNat % 2 ^ (lo' + w' + k) +
        (v % 2 ^ w + x.toNat / 2 ^ (lo' + w' + k + w) * 2 ^ w) * 2 ^ (lo' + w' + k) := by
      rw [Nat.pow_add 2 (lo' + w' + k) w]; grind
    have e2 : x.toNat = x.toNat % 2 ^ (lo' + w' + k) +
        (x.toNat / 2 ^ (lo' + w' + k) % 2 ^ w + x.toNat / 2 ^ (lo' + w' + k + w) * 2 ^ w) * 2 ^ (lo' + w' + k) := by
      conv => lhs; rw [hs]
      rw [Nat.pow_add 2 (lo' + w' + k) w]; grind
    rw [e1, key]
    conv => rhs; rw [e2]
    rw [key]
  · obtain ⟨k, rfl⟩ : ∃ k, lo' = lo + w + k := ⟨lo' - (lo + w), by omega⟩
    congr 1
    rw [Nat.pow_add 2 (lo + w) k, ← Nat.div_div_eq_div_mul, ← Nat.div_div_eq_div_mul]
    congr 1
    rw [Nat.add_mul_div_right _ _ (Nat.two_pow_pos _)]
    have h1 : x.toNat % 2 ^ lo < 2 ^ lo := Nat.mod_lt _ (Nat.two_pow_pos _)
    have h2 : v % 2 ^ w + 1 ≤ 2 ^ w := Nat.mod_lt _ (Nat.two_pow_pos _)
    have h3 : (v % 2 ^ w + 1) * 2 ^ lo ≤ 2 ^ w * 2 ^ lo := Nat.mul_le_mul_right _ h2
    have h7 : 2 ^ w * 2 ^ lo = 2 ^ (lo + w) := by rw [← Nat.pow_add, Nat.add_comm]
    rw [Nat.add_mul, Nat.one_mul] at h3
    rw [Nat.div_eq_of_lt (by omega), Nat.zero_add]

/-- A field of 32 bits or fewer. -/
def Loc.ok (l : Loc) : Prop := l.lo + l.width ≤ 32

/-- Two fields that share no bit. -/
def Loc.apart (l k : Loc) : Prop := l.addr ≠ k.addr ∨ k.lo + k.width ≤ l.lo ∨ l.lo + l.width ≤ k.lo

theorem fld_setFld_self {l : Loc} (h : l.lo + l.width ≤ 32) (v : Nat) (s : State) :
    (s.setFld l v).fld l = v % 2 ^ l.width := by
  unfold State.fld State.setFld
  rw [reg_setReg_self, bitsOf_putBits h]

theorem fld_setFld_ne {l k : Loc} (h : l.lo + l.width ≤ 32) (hd : l.apart k) (v : Nat) (s : State) :
    (s.setFld l v).fld k = s.fld k := by
  unfold State.fld State.setFld
  by_cases ha : l.addr = k.addr
  · rw [reg_setReg, if_pos ha, ← ha, bitsOf_putBits_ne h (hd.resolve_left (· ha))]
  · rw [reg_setReg_ne ha]

theorem reg_setFld_ne {l : Loc} {a : Nat} (h : l.addr ≠ a) (v : Nat) (s : State) : (s.setFld l v).reg a = s.reg a :=
  reg_setReg_ne h

theorem flag_setFlag_self {l : Loc} (h : l.lo + 1 ≤ 32) (hw : l.width = 1) (b : Bool) (s : State) :
    (s.setFlag l b).flag l = b := by
  unfold State.flag State.setFlag
  rw [fld_setFld_self (by omega), hw]
  cases b <;> rfl

theorem flag_setFlag_ne {l k : Loc} (h : l.lo + l.width ≤ 32) (hd : l.apart k) (b : Bool) (s : State) :
    (s.setFlag l b).flag k = s.flag k := by
  unfold State.flag State.setFlag
  rw [fld_setFld_ne h hd]

end Sys2Proof.Machine
end

