-- ==== Sys2Proof/Laws/Foot.lean ====
section
/-!
SUPPORT. Footprints. `Foot m z s` says that `s` came from `z` by operations that write only the parts in the mask `m`
(one bit per part), kept memory and registers canonical, lost no fuse, and did not lower the count of drawn free
values. One lemma per shared operation says its mask (the files of this folder named after those of
Machine); a caller combines them and unfolds none.
-/

set_option Elab.async false

set_option linter.all false

namespace Sys2Proof.Machine

/-- The bit of a register block in a mask. -/
def Block.bit : Block → Nat
  | .sys => 40
  | .clk => 41
  | .sec => 42
  | .flt => 43
  | .evl => 44
  | .sched => 45
  | .jnl => 46
  | .time => 47
  | .ilm => 48
  | .cbus => 49
  | .part => 50
  | .safe => 51
  | .recorder => 52
  | .rcp => 53
  | .host => 54
  | .net => 55
  | .pcie => 56
  | .can => 57
  | .sl => 58
  | .le => 59
  | .pp => 60
  | .mot => 61
  | .fd => 62
  | .none => 63

/-- The bit of a part in a mask. -/
def Part.bit : Part → Nat
  | .pending => 0
  | .tbc => 1
  | .mem => 3
  | .free => 4
  | .rdata => 5
  | .time => 6
  | .flt => 7
  | .evl => 8
  | .vault => 9
  | .sched => 10
  | .scan => 11
  | .boot => 12
  | .jnl => 13
  | .sys => 14
  | .part => 15
  | .fw => 16
  | .safe => 17
  | .cores => 18
  | .out => 19
  | .lgs => 20
  | .chans => 21
  | .clusters => 22
  | .dies => 23
  | .regions => 24
  | .ilm => 25
  | .axes => 26
  | .engines => 27
  | .slots => 28
  | .seqs => 29
  | .recu => 30
  | .cans => 31
  | .cbus => 32
  | .sessions => 33
  | .secu => 34
  | .links => 35
  | .copies => 36
  | .outbox => 37
  | .regs b => b.bit

/-- The state without its registers and without the components that the mask names. -/
def blank (m : Nat) (s : State) : State where
  pending := if m.testBit 0 then [] else s.pending
  tbc := if m.testBit 1 then 0 else s.tbc
  mem := if m.testBit 3 then [] else s.mem
  free := if m.testBit 4 then 0 else s.free
  rdata := if m.testBit 5 then [] else s.rdata
  time := if m.testBit 6 then {} else s.time
  flt := if m.testBit 7 then {} else s.flt
  evl := if m.testBit 8 then {} else s.evl
  vault := if m.testBit 9 then {} else s.vault
  sched := if m.testBit 10 then {} else s.sched
  scan := if m.testBit 11 then {} else s.scan
  boot := if m.testBit 12 then {} else s.boot
  jnl := if m.testBit 13 then {} else s.jnl
  sys := if m.testBit 14 then {} else s.sys
  part := if m.testBit 15 then {} else s.part
  fw := if m.testBit 16 then {} else s.fw
  safe := if m.testBit 17 then {} else s.safe
  cores := if m.testBit 18 then [] else s.cores
  out := if m.testBit 19 then {} else s.out
  lgs := if m.testBit 20 then [] else s.lgs
  chans := if m.testBit 21 then [] else s.chans
  clusters := if m.testBit 22 then [] else s.clusters
  dies := if m.testBit 23 then [] else s.dies
  regions := if m.testBit 24 then [] else s.regions
  ilm := if m.testBit 25 then {} else s.ilm
  axes := if m.testBit 26 then [] else s.axes
  engines := if m.testBit 27 then [] else s.engines
  slots := if m.testBit 28 then [] else s.slots
  seqs := if m.testBit 29 then [] else s.seqs
  recu := if m.testBit 30 then {} else s.recu
  cans := if m.testBit 31 then [] else s.cans
  cbus := if m.testBit 32 then {} else s.cbus
  sessions := if m.testBit 33 then [] else s.sessions
  secu := if m.testBit 34 then {} else s.secu
  links := if m.testBit 35 then [] else s.links
  copies := if m.testBit 36 then [] else s.copies
  outbox := if m.testBit 37 then [] else s.outbox

/-- What an operation with mask `m` may do. -/
structure Foot (m : Nat) (z s : State) : Prop where
  hidden : blank m s = blank m z
  regs : ∀ a, m.testBit (blockOf a).bit = false → s.reg a = z.reg a
  memWf : Memory.wf z.mem = true → Memory.wf s.mem = true
  regsWf : Canon regReset z.regs → Canon regReset s.regs
  fuses : FusesKept z s
  free : z.free ≤ s.free

theorem FusesKept.refl (s : State) : FusesKept s s :=
  ⟨fun _ h => h, fun _ h => h, fun _ => Nat.le_refl _, fun h => h⟩

theorem FusesKept.trans {a b c : State} (h : FusesKept a b) (k : FusesKept b c) : FusesKept a c :=
  ⟨fun n x => k.1 n (h.1 n x), fun n x => k.2.1 n (h.2.1 n x), fun n => Nat.le_trans (h.2.2.1 n) (k.2.2.1 n),
    fun x => k.2.2.2 (h.2.2.2 x)⟩

theorem FusesKept.of_eq {s t : State} (hp : t.secu.programmed = s.secu.programmed) (hr : t.secu.revoked = s.secu.revoked)
    (ha : t.secu.arb = s.secu.arb) (hi : t.secu.identity = s.secu.identity) : FusesKept s t :=
  ⟨fun _ h => by rw [hp]; exact h, fun _ h => by rw [hr]; exact h, fun _ => by exact Nat.le_of_eq (by rw [ha]),
    fun h => by rw [hi]; exact h⟩

theorem Foot.refl (m : Nat) (s : State) : Foot m s s :=
  ⟨rfl, fun _ _ => rfl, fun h => h, fun h => h, FusesKept.refl s, Nat.le_refl _⟩

theorem ite_or (a b : Bool) {α : Type} (d x : α) :
    (if (a || b) = true then d else x) = if (a || b) = true then d else if a = true then d else x := by
  cases a <;> cases b <;> rfl

theorem blank_or (m n : Nat) (s : State) : blank (m ||| n) s = blank (m ||| n) (blank m s) := by
  simp only [blank, Nat.testBit_or]
  congr 1 <;> exact ite_or _ _ _ _

theorem blank_sub {m n : Nat} (h : m ||| n = n) {s t : State} (e : blank m s = blank m t) : blank n s = blank n t := by
  rw [← h, blank_or m n s, blank_or m n t, e]

/-- After an operation with mask `m`, in a computation whose mask `n` holds `m`. -/
theorem Foot.step {m n : Nat} {z t s : State} (h : Foot m t s) (hs : m ||| n = n) (hz : Foot n z t) : Foot n z s where
  hidden := (blank_sub hs h.hidden).trans hz.hidden
  regs a ha := by
    have : m.testBit (blockOf a).bit = false := by
      rw [← hs, Nat.testBit_or] at ha
      exact (Bool.or_eq_false_iff.1 ha).1
    exact (h.regs a this).trans (hz.regs a ha)
  memWf x := h.memWf (hz.memWf x)
  regsWf x := h.regsWf (hz.regsWf x)
  fuses := hz.fuses.trans h.fuses
  free := Nat.le_trans hz.free h.free

/-- A component that is the same or in the mask. -/
def Kept {α : Type} (m i : Nat) (a b : α) : Prop := b = a ∨ m.testBit i = true

theorem Kept.same {α : Type} {m i : Nat} {a : α} : Kept m i a a := .inl rfl
theorem Kept.masked {α : Type} {m i : Nat} {a b : α} (h : m.testBit i = true) : Kept m i a b := .inr h

theorem Kept.blank {α : Type} {m i : Nat} {a b d : α} (h : Kept m i a b) :
    (if m.testBit i then d else b) = if m.testBit i then d else a := by
  cases h with
  | inl e => rw [e]
  | inr e => rw [if_pos e, if_pos e]

/-- The components of a state beside `t`: each the same or in the mask. -/
structure KeptAll (m : Nat) (t : State) (a0 : List Instr) (a1 : Nat) (a4 : Nat) (a5 : List Word) (a6 : TimeU) (a7 : FltU) (a8 : EvlU) (a9 : VaultU) (a10 : SchedU) (a11 : ScanU) (a12 : BootU) (a13 : JnlU) (a14 : SysU) (a15 : PartU) (a16 : FwU) (a17 : SafeU) (a18 : Tbl Core) (a19 : OutU) (a20 : Tbl LockGrp) (a21 : Tbl Chan) (a22 : Tbl Cluster) (a23 : Tbl Die) (a24 : Tbl RegionU) (a25 : IlmU) (a26 : Tbl Axis) (a27 : Tbl Engine) (a28 : Tbl Slot) (a29 : Tbl Seq) (a30 : RecU) (a31 : Tbl CanU) (a32 : CbusU) (a33 : Tbl Session) (a34 : SecU) (a35 : Tbl Link) (a36 : Tbl (Option Word)) (a37 : List OutMsg) : Prop where
  k0 : Kept m 0 t.pending a0
  k1 : Kept m 1 t.tbc a1
  k4 : Kept m 4 t.free a4
  k5 : Kept m 5 t.rdata a5
  k6 : Kept m 6 t.time a6
  k7 : Kept m 7 t.flt a7
  k8 : Kept m 8 t.evl a8
  k9 : Kept m 9 t.vault a9
  k10 : Kept m 10 t.sched a10
  k11 : Kept m 11 t.scan a11
  k12 : Kept m 12 t.boot a12
  k13 : Kept m 13 t.jnl a13
  k14 : Kept m 14 t.sys a14
  k15 : Kept m 15 t.part a15
  k16 : Kept m 16 t.fw a16
  k17 : Kept m 17 t.safe a17
  k18 : Kept m 18 t.cores a18
  k19 : Kept m 19 t.out a19
  k20 : Kept m 20 t.lgs a20
  k21 : Kept m 21 t.chans a21
  k22 : Kept m 22 t.clusters a22
  k23 : Kept m 23 t.dies a23
  k24 : Kept m 24 t.regions a24
  k25 : Kept m 25 t.ilm a25
  k26 : Kept m 26 t.axes a26
  k27 : Kept m 27 t.engines a27
  k28 : Kept m 28 t.slots a28
  k29 : Kept m 29 t.seqs a29
  k30 : Kept m 30 t.recu a30
  k31 : Kept m 31 t.cans a31
  k32 : Kept m 32 t.cbus a32
  k33 : Kept m 33 t.sessions a33
  k34 : Kept m 34 t.secu a34
  k35 : Kept m 35 t.links a35
  k36 : Kept m 36 t.copies a36
  k37 : Kept m 37 t.outbox a37

/-- A record update of components in the mask that leaves memory, registers, fuses and the count of free values. -/
theorem Foot.lit {m : Nat} {z t : State} {a0 a1 a2 a3 a4 a5 a6 a7 a8 a9 a10 a11 a12 a13 a14 a15 a16 a17 a18 a19 a20 a21 a22 a23 a24 a25 a26 a27 a28 a29 a30 a31 a32 a33 a34 a35 a36 a37} (h : Foot m z t) (hr : a2 = t.regs) (hm : a3 = t.mem)
    (hf1 : a34.programmed = t.secu.programmed) (hf2 : a34.revoked = t.secu.revoked)
    (hf3 : a34.arb = t.secu.arb) (hf4 : a34.identity = t.secu.identity)
    (hd : t.free ≤ a4) (hb : KeptAll m t a0 a1 a4 a5 a6 a7 a8 a9 a10 a11 a12 a13 a14 a15 a16 a17 a18 a19 a20 a21 a22 a23 a24 a25 a26 a27 a28 a29 a30 a31 a32 a33 a34 a35 a36 a37) : Foot m z ⟨a0, a1, a2, a3, a4, a5, a6, a7, a8, a9, a10, a11, a12, a13, a14, a15, a16, a17, a18, a19, a20, a21, a22, a23, a24, a25, a26, a27, a28, a29, a30, a31, a32, a33, a34, a35, a36, a37⟩ where
  hidden := by
    refine Eq.trans ?_ h.hidden
    unfold Machine.blank
    congr 1
    · exact hb.k0.blank
    · exact hb.k1.blank
    · rw [hm]
    · exact hb.k4.blank
    · exact hb.k5.blank
    · exact hb.k6.blank
    · exact hb.k7.blank
    · exact hb.k8.blank
    · exact hb.k9.blank
    · exact hb.k10.blank
    · exact hb.k11.blank
    · exact hb.k12.blank
    · exact hb.k13.blank
    · exact hb.k14.blank
    · exact hb.k15.blank
    · exact hb.k16.blank
    · exact hb.k17.blank
    · exact hb.k18.blank
    · exact hb.k19.blank
    · exact hb.k20.blank
    · exact hb.k21.blank
    · exact hb.k22.blank
    · exact hb.k23.blank
    · exact hb.k24.blank
    · exact hb.k25.blank
    · exact hb.k26.blank
    · exact hb.k27.blank
    · exact hb.k28.blank
    · exact hb.k29.blank
    · exact hb.k30.blank
    · exact hb.k31.blank
    · exact hb.k32.blank
    · exact hb.k33.blank
    · exact hb.k34.blank
    · exact hb.k35.blank
    · exact hb.k36.blank
    · exact hb.k37.blank
  regs a ha := by
    have : State.reg ⟨a0, a1, a2, a3, a4, a5, a6, a7, a8, a9, a10, a11, a12, a13, a14, a15, a16, a17, a18, a19, a20, a21, a22, a23, a24, a25, a26, a27, a28, a29, a30, a31, a32, a33, a34, a35, a36, a37⟩ a = t.reg a := by unfold State.reg; simp only [hr]
    exact this.trans (h.regs a ha)
  memWf x := by simp only [hm]; exact h.memWf x
  regsWf x := by simp only [hr]; exact h.regsWf x
  fuses := h.fuses.trans (.of_eq hf1 hf2 hf3 hf4)
  free := Nat.le_trans h.free hd

/-- Weakening of the mask. -/
theorem Foot.mono {m n : Nat} {z s : State} (h : Foot m z s) (hs : m ||| n = n) : Foot n z s := h.step hs (Foot.refl n z)

/-! ### Pairs, options and outcomes -/

def PairFoot {α : Type} (m : Nat) (z : State) (p : α × State) : Prop := Foot m z p.2
structure OptFoot (m : Nat) (z : State) (o : Option State) : Prop where
  of : ∀ s, o = some s → Foot m z s
structure OutFoot (m : Nat) (z : State) (o : Host.Outcome State Fault Refusal) : Prop where
  of : ∀ s, o = .next s → Foot m z s

structure ExFoot {α : Type} (m : Nat) (z : State) (o : Except Nat (α × State)) : Prop where
  of : ∀ p, o = .ok p → Foot m z p.2
theorem ExFoot.step {α : Type} {m n : Nat} {z t : State} {o : Except Nat (α × State)} (h : ExFoot m t o) (hs : m ||| n = n)
    (hz : Foot n z t) : ExFoot n z o := ⟨fun s e => Foot.step (h.of s e) hs hz⟩
theorem ExFoot.error {α : Type} {m : Nat} {z : State} {c : Nat} : ExFoot (α := α) m z (.error c) := ⟨by intro p e; cases e⟩
theorem ExFoot.ok {α : Type} {m : Nat} {z s : State} {a : α} (h : Foot m z s) : ExFoot m z (.ok (a, s)) := ⟨by intro p e; cases e; exact h⟩
theorem ExFoot.eq {α : Type} {m : Nat} {z s : State} {a : α} {o : Except Nat (α × State)} (e : o = .ok (a, s)) (h : ExFoot m z o) :
    Foot m z s := h.of _ e
theorem ExFoot.ite {α : Type} {m : Nat} {z : State} {x y : Except Nat (α × State)} {c : Prop} [Decidable c] (hx : ExFoot m z x)
    (hy : ExFoot m z y) : ExFoot m z (if c then x else y) := by split <;> assumption
theorem PairFoot.forL {α β : Type} {m : Nat} {z : State} {p : β × State} {l : List α} {f : α → β × State → β × State}
    (hf : ∀ a q, PairFoot m z q → PairFoot m z (f a q)) (h : PairFoot m z p) : PairFoot m z (Sys2Proof.Machine.forL l f p) :=
  forL_ind hf l p h

theorem PairFoot.forN {β : Type} {m n : Nat} {z : State} {p : β × State} {f : Nat → β × State → β × State}
    (hf : ∀ a q, PairFoot m z q → PairFoot m z (f a q)) (h : PairFoot m z p) : PairFoot m z (Sys2Proof.Machine.forN n f p) :=
  forN_ind n hf p h

theorem Foot.cut {P Q : Prop} (h : P → Q) (p : P) : Q := h p
theorem Foot.ite {m : Nat} {z x y : State} {c : Prop} [Decidable c] (hx : Foot m z x) (hy : Foot m z y) :
    Foot m z (if c then x else y) := by split <;> assumption
theorem PairFoot.ite {α : Type} {m : Nat} {z : State} {x y : α × State} {c : Prop} [Decidable c] (hx : PairFoot m z x)
    (hy : PairFoot m z y) : PairFoot m z (if c then x else y) := by split <;> assumption
theorem OptFoot.ite {m : Nat} {z : State} {x y : Option State} {c : Prop} [Decidable c] (hx : OptFoot m z x)
    (hy : OptFoot m z y) : OptFoot m z (if c then x else y) := by split <;> assumption
theorem OutFoot.ite {m : Nat} {z : State} {x y : Host.Outcome State Fault Refusal} {c : Prop} [Decidable c]
    (hx : OutFoot m z x) (hy : OutFoot m z y) : OutFoot m z (if c then x else y) := by split <;> assumption
theorem PairFoot.mk {α : Type} {m : Nat} {z s : State} {a : α} (h : Foot m z s) : PairFoot m z (a, s) := h
theorem PairFoot.eq {α : Type} {m : Nat} {z s : State} {a : α} {p : α × State} (e : p = (a, s)) (h : PairFoot m z p) :
    Foot m z s := by subst e; exact h
theorem PairFoot.out {α : Type} {m : Nat} {z s : State} {a : α} (h : PairFoot m z (a, s)) : Foot m z s := h
theorem PairFoot.snd {α : Type} {m : Nat} {z : State} {p : α × State} (h : PairFoot m z p) : Foot m z p.2 := h
theorem OptFoot.some {m : Nat} {z s : State} (h : Foot m z s) : OptFoot m z (some s) := ⟨by intro t e; cases e; exact h⟩
theorem OptFoot.none {m : Nat} {z : State} : OptFoot m z none := ⟨by intro t e; cases e⟩
theorem OptFoot.eq {m : Nat} {z s : State} {o : Option State} (e : o = Option.some s) (h : OptFoot m z o) : Foot m z s := h.of s e
theorem OptFoot.getD {m : Nat} {z s : State} {o : Option State} (h : OptFoot m z o) (k : Foot m z s) :
    Foot m z (o.getD s) := by
  cases o with
  | none => exact k
  | some t => exact h.of t rfl
theorem OutFoot.next {m : Nat} {z s : State} (h : Foot m z s) : OutFoot m z (.next s) := ⟨by intro t e; cases e; exact h⟩

theorem PairFoot.step {α : Type} {m n : Nat} {z t : State} {p : α × State} (h : PairFoot m t p) (hs : m ||| n = n)
    (hz : Foot n z t) : PairFoot n z p := Foot.step h hs hz
theorem OptFoot.step {m n : Nat} {z t : State} {o : Option State} (h : OptFoot m t o) (hs : m ||| n = n)
    (hz : Foot n z t) : OptFoot n z o := ⟨fun s e => Foot.step (h.of s e) hs hz⟩
theorem OutFoot.step {m n : Nat} {z t : State} {o : Host.Outcome State Fault Refusal} (h : OutFoot m t o)
    (hs : m ||| n = n) (hz : Foot n z t) : OutFoot n z o := ⟨fun s e => Foot.step (h.of s e) hs hz⟩
theorem mask_sub {a b c : Nat} (h : a ||| b = b) (k : b ||| c = c) : a ||| c = c := by
  rw [← k, ← Nat.or_assoc, h]

/-! ### Loops -/

theorem Foot.forL {α : Type} {m : Nat} {z s : State} {l : List α} {f : α → State → State}
    (hf : ∀ a t, Foot m z t → Foot m z (f a t)) (h : Foot m z s) : Foot m z (forL l f s) := forL_ind hf l s h
theorem Foot.forN {m n : Nat} {z s : State} {f : Nat → State → State}
    (hf : ∀ a t, Foot m z t → Foot m z (f a t)) (h : Foot m z s) : Foot m z (forN n f s) := forN_ind n hf s h
theorem Foot.when {m : Nat} {z s : State} {c : Bool} {f : State → State}
    (hf : ∀ t, Foot m z t → Foot m z (f t)) (h : Foot m z s) : Foot m z (when c f s) := by
  unfold Sys2Proof.Machine.when; split
  · exact hf s h
  · exact h
theorem PairFoot.foldl {α β : Type} {m : Nat} {z : State} {p : β × State} {l : List α} {f : β × State → α → β × State}
    (hf : ∀ q a, PairFoot m z q → PairFoot m z (f q a)) (h : PairFoot m z p) : PairFoot m z (l.foldl f p) := by
  induction l generalizing p with
  | nil => exact h
  | cons a l ih => exact ih (hf p a h)
theorem Foot.foldl {α : Type} {m : Nat} {z s : State} {l : List α} {f : State → α → State}
    (hf : ∀ t a, Foot m z t → Foot m z (f t a)) (h : Foot m z s) : Foot m z (l.foldl f s) := by
  induction l generalizing s with
  | nil => exact h
  | cons a l ih => exact ih (hf s a h)

/-! ### The primitives -/

theorem foot_setReg {m : Nat} {z t : State} {a : Nat} (hb : m.testBit (blockOf a).bit = true) (h : Foot m z t) (v : Word) :
    Foot m z (t.setReg a v) where
  hidden := h.hidden
  regs b hb' := by
    rw [reg_setReg_ne (fun e => by subst e; rw [hb] at hb'; cases hb')]
    exact h.regs b hb'
  memWf := h.memWf
  regsWf x := (h.regsWf x).tset a v
  fuses := h.fuses
  free := h.free

theorem bit_of {m a k : Nat} (hb : (blockOf a).bit = k) (hm : 2 ^ k ||| m = m) : m.testBit (blockOf a).bit = true := by
  rw [hb, ← hm, Nat.testBit_or, Nat.testBit_two_pow_self, Bool.true_or]

theorem foot_setFld {m k : Nat} {z t : State} {l : Loc} (hb : (blockOf l.addr).bit = k) (hm : 2 ^ k ||| m = m)
    (h : Foot m z t) (v : Nat) : Foot m z (t.setFld l v) := foot_setReg (bit_of hb hm) h _
theorem foot_setFlag {m k : Nat} {z t : State} {l : Loc} (hb : (blockOf l.addr).bit = k) (hm : 2 ^ k ||| m = m)
    (h : Foot m z t) (b : Bool) : Foot m z (t.setFlag l b) := foot_setReg (bit_of hb hm) h _
theorem foot_setSFld {m k : Nat} {z t : State} {l : Loc} (hb : (blockOf l.addr).bit = k) (hm : 2 ^ k ||| m = m)
    (h : Foot m z t) (v : Int) : Foot m z (t.setSFld l v) := foot_setReg (bit_of hb hm) h _
theorem foot_addSat {m k : Nat} {z t : State} {l : Loc} (hb : (blockOf l.addr).bit = k) (hm : 2 ^ k ||| m = m)
    (h : Foot m z t) (n : Nat) : Foot m z (t.addSat l n) := foot_setReg (bit_of hb hm) h _
theorem foot_incSat {m k : Nat} {z t : State} {l : Loc} (hb : (blockOf l.addr).bit = k) (hm : 2 ^ k ||| m = m)
    (h : Foot m z t)  : Foot m z (t.incSat l ) := foot_setReg (bit_of hb hm) h _
theorem foot_incMod {m k : Nat} {z t : State} {l : Loc} (hb : (blockOf l.addr).bit = k) (hm : 2 ^ k ||| m = m)
    (h : Foot m z t)  : Foot m z (t.incMod l ) := foot_setReg (bit_of hb hm) h _
theorem foot_setFbit {m k : Nat} {z t : State} {l : Loc} (hb : (blockOf l.addr).bit = k) (hm : 2 ^ k ||| m = m)
    (h : Foot m z t) (i : Nat) (b : Bool) : Foot m z (t.setFbit l i b) := foot_setReg (bit_of hb hm) h _
theorem foot_setFld2 {m k k' : Nat} {z t : State} {l l' : Loc} (hb : (blockOf l.addr).bit = k) (hm : 2 ^ k ||| m = m)
    (hb' : (blockOf l'.addr).bit = k') (hm' : 2 ^ k' ||| m = m) (h : Foot m z t) (v : Nat) : Foot m z (t.setFld2 l l' v) :=
  foot_setFld hb' hm' (foot_setFld hb hm h _) _
theorem foot_plain {m : Nat} {z t : State} {a : Nat} (hb : m.testBit (blockOf a).bit = true) (h : Foot m z t)
    (v : Word) : Foot m z (t.plainWrite a v) := by
  unfold State.plainWrite
  split
  · exact h
  · exact foot_setReg hb h _
theorem foot_plainWrite {m k : Nat} {z t : State} {a : Nat} (hb : (blockOf a).bit = k) (hm : 2 ^ k ||| m = m)
    (h : Foot m z t) (v : Word) : Foot m z (t.plainWrite a v) := foot_plain (bit_of hb hm) h v
theorem foot_setRegB {m k : Nat} {z t : State} {a : Nat} (hb : (blockOf a).bit = k) (hm : 2 ^ k ||| m = m)
    (h : Foot m z t) (v : Word) : Foot m z (t.setReg a v) := foot_setReg (bit_of hb hm) h v

/-- The mask of every register block. -/
abbrev regMask : Nat := 0xffffff0000000000

theorem block_in {m : Nat} (h : regMask ||| m = m) (b : Block) : m.testBit b.bit = true := by
  rw [← h, Nat.testBit_or]
  cases b <;> rfl

theorem bit_in {m b : Nat} (hb : b ||| b = b) (hs : b ||| m = m) {k : Nat} (h : b.testBit k = true) : m.testBit k = true := by
  rw [← hs, Nat.testBit_or, h, Bool.true_or]

theorem foot_plainAll {m : Nat} {z t : State} {a : Nat} (hm : regMask ||| m = m) (h : Foot m z t) (v : Word) :
    Foot m z (t.plainWrite a v) := foot_plain (block_in hm _) h v
theorem foot_setRegAll {m : Nat} {z t : State} {a : Nat} (hm : regMask ||| m = m) (h : Foot m z t) (v : Word) :
    Foot m z (t.setReg a v) := foot_setReg (block_in hm _) h v
theorem foot_setFldAll {m : Nat} {z t : State} {l : Loc} (hm : regMask ||| m = m) (h : Foot m z t) (v : Nat) :
    Foot m z (t.setFld l v) := foot_setReg (block_in hm _) h _
theorem foot_setFlagAll {m : Nat} {z t : State} {l : Loc} (hm : regMask ||| m = m) (h : Foot m z t) (v : Bool) :
    Foot m z (t.setFlag l v) := foot_setReg (block_in hm _) h _
theorem foot_setFbitAll {m : Nat} {z t : State} {l : Loc} (hm : regMask ||| m = m) (h : Foot m z t) (i : Nat) (v : Bool) :
    Foot m z (t.setFbit l i v) := foot_setReg (block_in hm _) h _

theorem foot_setByte {m : Nat} {z t : State} (hm : 8 ||| m = m) (h : Foot m z t) (a : Nat) (v : Byte) :
    Foot m z (t.setByte a v) where
  hidden := by
    have hb : m.testBit 3 = true := by rw [← hm, Nat.testBit_or]; rfl
    have : blank m (t.setByte a v) = blank m t := by simp only [blank, State.setByte, hb, if_true]
    exact this.trans h.hidden
  regs := h.regs
  memWf x := setByte_wf a v t (h.memWf x)
  regsWf := h.regsWf
  fuses := h.fuses
  free := h.free
theorem foot_setBytes {m : Nat} {z : State} (hb : 8 ||| m = m) (n : Nat) : ∀ (a v : Nat) (t : State), Foot m z t →
    Foot m z (t.setBytes a n v) := by
  induction n with
  | zero => intro a v t h; exact h
  | succ n ih => intro a v t h; exact ih _ _ _ (foot_setByte hb h _ _)

/-! ### What a footprint says -/

theorem Foot.pending_eq {m : Nat} {z s : State} (h : Foot m z s) (hm : m.testBit 0 = false) : s.pending = z.pending := by
  have e := congrArg State.pending h.hidden
  simpa only [blank, hm, Bool.false_eq_true, if_false] using e
theorem Foot.tbc_eq {m : Nat} {z s : State} (h : Foot m z s) (hm : m.testBit 1 = false) : s.tbc = z.tbc := by
  have e := congrArg State.tbc h.hidden
  simpa only [blank, hm, Bool.false_eq_true, if_false] using e
theorem Foot.free_eq {m : Nat} {z s : State} (h : Foot m z s) (hm : m.testBit 4 = false) : s.free = z.free := by
  have e := congrArg State.free h.hidden
  simpa only [blank, hm, Bool.false_eq_true, if_false] using e
theorem Foot.rdata_eq {m : Nat} {z s : State} (h : Foot m z s) (hm : m.testBit 5 = false) : s.rdata = z.rdata := by
  have e := congrArg State.rdata h.hidden
  simpa only [blank, hm, Bool.false_eq_true, if_false] using e
theorem Foot.time_eq {m : Nat} {z s : State} (h : Foot m z s) (hm : m.testBit 6 = false) : s.time = z.time := by
  have e := congrArg State.time h.hidden
  simpa only [blank, hm, Bool.false_eq_true, if_false] using e
theorem Foot.flt_eq {m : Nat} {z s : State} (h : Foot m z s) (hm : m.testBit 7 = false) : s.flt = z.flt := by
  have e := congrArg State.flt h.hidden
  simpa only [blank, hm, Bool.false_eq_true, if_false] using e
theorem Foot.evl_eq {m : Nat} {z s : State} (h : Foot m z s) (hm : m.testBit 8 = false) : s.evl = z.evl := by
  have e := congrArg State.evl h.hidden
  simpa only [blank, hm, Bool.false_eq_true, if_false] using e
theorem Foot.vault_eq {m : Nat} {z s : State} (h : Foot m z s) (hm : m.testBit 9 = false) : s.vault = z.vault := by
  have e := congrArg State.vault h.hidden
  simpa only [blank, hm, Bool.false_eq_true, if_false] using e
theorem Foot.sched_eq {m : Nat} {z s : State} (h : Foot m z s) (hm : m.testBit 10 = false) : s.sched = z.sched := by
  have e := congrArg State.sched h.hidden
  simpa only [blank, hm, Bool.false_eq_true, if_false] using e
theorem Foot.scan_eq {m : Nat} {z s : State} (h : Foot m z s) (hm : m.testBit 11 = false) : s.scan = z.scan := by
  have e := congrArg State.scan h.hidden
  simpa only [blank, hm, Bool.false_eq_true, if_false] using e
theorem Foot.boot_eq {m : Nat} {z s : State} (h : Foot m z s) (hm : m.testBit 12 = false) : s.boot = z.boot := by
  have e := congrArg State.boot h.hidden
  simpa only [blank, hm, Bool.false_eq_true, if_false] using e
theorem Foot.jnl_eq {m : Nat} {z s : State} (h : Foot m z s) (hm : m.testBit 13 = false) : s.jnl = z.jnl := by
  have e := congrArg State.jnl h.hidden
  simpa only [blank, hm, Bool.false_eq_true, if_false] using e
theorem Foot.sys_eq {m : Nat} {z s : State} (h : Foot m z s) (hm : m.testBit 14 = false) : s.sys = z.sys := by
  have e := congrArg State.sys h.hidden
  simpa only [blank, hm, Bool.false_eq_true, if_false] using e
theorem Foot.part_eq {m : Nat} {z s : State} (h : Foot m z s) (hm : m.testBit 15 = false) : s.part = z.part := by
  have e := congrArg State.part h.hidden
  simpa only [blank, hm, Bool.false_eq_true, if_false] using e
theorem Foot.fw_eq {m : Nat} {z s : State} (h : Foot m z s) (hm : m.testBit 16 = false) : s.fw = z.fw := by
  have e := congrArg State.fw h.hidden
  simpa only [blank, hm, Bool.false_eq_true, if_false] using e
theorem Foot.safe_eq {m : Nat} {z s : State} (h : Foot m z s) (hm : m.testBit 17 = false) : s.safe = z.safe := by
  have e := congrArg State.safe h.hidden
  simpa only [blank, hm, Bool.false_eq_true, if_false] using e
theorem Foot.cores_eq {m : Nat} {z s : State} (h : Foot m z s) (hm : m.testBit 18 = false) : s.cores = z.cores := by
  have e := congrArg State.cores h.hidden
  simpa only [blank, hm, Bool.false_eq_true, if_false] using e
theorem Foot.out_eq {m : Nat} {z s : State} (h : Foot m z s) (hm : m.testBit 19 = false) : s.out = z.out := by
  have e := congrArg State.out h.hidden
  simpa only [blank, hm, Bool.false_eq_true, if_false] using e
theorem Foot.lgs_eq {m : Nat} {z s : State} (h : Foot m z s) (hm : m.testBit 20 = false) : s.lgs = z.lgs := by
  have e := congrArg State.lgs h.hidden
  simpa only [blank, hm, Bool.false_eq_true, if_false] using e
theorem Foot.chans_eq {m : Nat} {z s : State} (h : Foot m z s) (hm : m.testBit 21 = false) : s.chans = z.chans := by
  have e := congrArg State.chans h.hidden
  simpa only [blank, hm, Bool.false_eq_true, if_false] using e
theorem Foot.clusters_eq {m : Nat} {z s : State} (h : Foot m z s) (hm : m.testBit 22 = false) : s.clusters = z.clusters := by
  have e := congrArg State.clusters h.hidden
  simpa only [blank, hm, Bool.false_eq_true, if_false] using e
theorem Foot.dies_eq {m : Nat} {z s : State} (h : Foot m z s) (hm : m.testBit 23 = false) : s.dies = z.dies := by
  have e := congrArg State.dies h.hidden
  simpa only [blank, hm, Bool.false_eq_true, if_false] using e
theorem Foot.regions_eq {m : Nat} {z s : State} (h : Foot m z s) (hm : m.testBit 24 = false) : s.regions = z.regions := by
  have e := congrArg State.regions h.hidden
  simpa only [blank, hm, Bool.false_eq_true, if_false] using e
theorem Foot.ilm_eq {m : Nat} {z s : State} (h : Foot m z s) (hm : m.testBit 25 = false) : s.ilm = z.ilm := by
  have e := congrArg State.ilm h.hidden
  simpa only [blank, hm, Bool.false_eq_true, if_false] using e
theorem Foot.axes_eq {m : Nat} {z s : State} (h : Foot m z s) (hm : m.testBit 26 = false) : s.axes = z.axes := by
  have e := congrArg State.axes h.hidden
  simpa only [blank, hm, Bool.false_eq_true, if_false] using e
theorem Foot.engines_eq {m : Nat} {z s : State} (h : Foot m z s) (hm : m.testBit 27 = false) : s.engines = z.engines := by
  have e := congrArg State.engines h.hidden
  simpa only [blank, hm, Bool.false_eq_true, if_false] using e
theorem Foot.slots_eq {m : Nat} {z s : State} (h : Foot m z s) (hm : m.testBit 28 = false) : s.slots = z.slots := by
  have e := congrArg State.slots h.hidden
  simpa only [blank, hm, Bool.false_eq_true, if_false] using e
theorem Foot.seqs_eq {m : Nat} {z s : State} (h : Foot m z s) (hm : m.testBit 29 = false) : s.seqs = z.seqs := by
  have e := congrArg State.seqs h.hidden
  simpa only [blank, hm, Bool.false_eq_true, if_false] using e
theorem Foot.recu_eq {m : Nat} {z s : State} (h : Foot m z s) (hm : m.testBit 30 = false) : s.recu = z.recu := by
  have e := congrArg State.recu h.hidden
  simpa only [blank, hm, Bool.false_eq_true, if_false] using e
theorem Foot.cans_eq {m : Nat} {z s : State} (h : Foot m z s) (hm : m.testBit 31 = false) : s.cans = z.cans := by
  have e := congrArg State.cans h.hidden
  simpa only [blank, hm, Bool.false_eq_true, if_false] using e
theorem Foot.cbus_eq {m : Nat} {z s : State} (h : Foot m z s) (hm : m.testBit 32 = false) : s.cbus = z.cbus := by
  have e := congrArg State.cbus h.hidden
  simpa only [blank, hm, Bool.false_eq_true, if_false] using e
theorem Foot.sessions_eq {m : Nat} {z s : State} (h : Foot m z s) (hm : m.testBit 33 = false) : s.sessions = z.sessions := by
  have e := congrArg State.sessions h.hidden
  simpa only [blank, hm, Bool.false_eq_true, if_false] using e
theorem Foot.secu_eq {m : Nat} {z s : State} (h : Foot m z s) (hm : m.testBit 34 = false) : s.secu = z.secu := by
  have e := congrArg State.secu h.hidden
  simpa only [blank, hm, Bool.false_eq_true, if_false] using e
theorem Foot.links_eq {m : Nat} {z s : State} (h : Foot m z s) (hm : m.testBit 35 = false) : s.links = z.links := by
  have e := congrArg State.links h.hidden
  simpa only [blank, hm, Bool.false_eq_true, if_false] using e
theorem Foot.copies_eq {m : Nat} {z s : State} (h : Foot m z s) (hm : m.testBit 36 = false) : s.copies = z.copies := by
  have e := congrArg State.copies h.hidden
  simpa only [blank, hm, Bool.false_eq_true, if_false] using e
theorem Foot.outbox_eq {m : Nat} {z s : State} (h : Foot m z s) (hm : m.testBit 37 = false) : s.outbox = z.outbox := by
  have e := congrArg State.outbox h.hidden
  simpa only [blank, hm, Bool.false_eq_true, if_false] using e
theorem Foot.mem_eq {m : Nat} {z s : State} (h : Foot m z s) (hm : m.testBit 3 = false) : s.mem = z.mem := by
  have e := congrArg State.mem h.hidden
  simpa only [blank, hm, Bool.false_eq_true, if_false] using e

/-- A part whose bit is not in the mask is the same. -/
theorem Foot.same {m : Nat} {z s : State} (h : Foot m z s) (p : Part) (hp : m.testBit p.bit = false) : p.same z s := by
  cases p with
  | mem => intro a; unfold State.byte; rw [h.mem_eq hp]
  | regs b => intro a ha; exact h.regs a (by rw [ha]; exact hp)
  | pending => exact h.pending_eq hp
  | tbc => exact h.tbc_eq hp
  | free => exact h.free_eq hp
  | rdata => exact h.rdata_eq hp
  | time => exact h.time_eq hp
  | flt => exact h.flt_eq hp
  | evl => exact h.evl_eq hp
  | vault => exact h.vault_eq hp
  | sched => exact h.sched_eq hp
  | scan => exact h.scan_eq hp
  | boot => exact h.boot_eq hp
  | jnl => exact h.jnl_eq hp
  | sys => exact h.sys_eq hp
  | part => exact h.part_eq hp
  | fw => exact h.fw_eq hp
  | safe => exact h.safe_eq hp
  | cores => exact h.cores_eq hp
  | out => exact h.out_eq hp
  | lgs => exact h.lgs_eq hp
  | chans => exact h.chans_eq hp
  | clusters => exact h.clusters_eq hp
  | dies => exact h.dies_eq hp
  | regions => exact h.regions_eq hp
  | ilm => exact h.ilm_eq hp
  | axes => exact h.axes_eq hp
  | engines => exact h.engines_eq hp
  | slots => exact h.slots_eq hp
  | seqs => exact h.seqs_eq hp
  | recu => exact h.recu_eq hp
  | cans => exact h.cans_eq hp
  | cbus => exact h.cbus_eq hp
  | sessions => exact h.sessions_eq hp
  | secu => exact h.secu_eq hp
  | links => exact h.links_eq hp
  | copies => exact h.copies_eq hp
  | outbox => exact h.outbox_eq hp

/-- The statement form of a footprint: a list of parts that covers the mask. -/
theorem Foot.sameBut {m : Nat} {z s : State} (h : Foot m z s) {l : List Part}
    (hl : ∀ p : Part, m.testBit p.bit = true → p ∈ l) : SameBut l z s := by
  intro p hp
  apply h.same p
  cases e : m.testBit p.bit
  · rfl
  · exact absurd (hl p e) hp

theorem registersWf_iff (t : Tbl Word) : Registers.wf t = true ↔ Canon regReset t := by
  induction t with
  | nil => simp [Registers.wf, Canon]
  | cons p t ih =>
    obtain ⟨a, v⟩ := p
    cases t with
    | nil => simp [Registers.wf, Canon]
    | cons q t =>
      obtain ⟨b, w⟩ := q
      simp only [Registers.wf, Bool.and_eq_true, bne_iff_ne, ne_eq, decide_eq_true_eq, ih, Canon, List.pairwise_cons,
        List.mem_cons, forall_eq_or_imp]
      constructor
      · rintro ⟨⟨h1, h2⟩, ⟨h3, h4⟩, h5, h6⟩
        exact ⟨⟨⟨h2, fun p hp => Nat.lt_trans h2 (h3 p hp)⟩, h3, h4⟩, h1, h5, h6⟩
      · rintro ⟨⟨⟨h2, _⟩, h3, h4⟩, h1, h5, h6⟩
        exact ⟨⟨h1, h2⟩, ⟨h3, h4⟩, h5, h6⟩

theorem Foot.canonical {m : Nat} {z s : State} (h : Foot m z s) (hz : z.Canonical) : s.Canonical :=
  ⟨h.memWf hz.1, (registersWf_iff _).2 (h.regsWf ((registersWf_iff _).1 hz.2))⟩

end Sys2Proof.Machine
end

