-- ==== Sys2Proof/Laws/Blocks.lean ====
section
/-!
SUPPORT. The block of every register that an operation writes.
-/

set_option Elab.async false

namespace Sys2Proof.Machine

theorem blockOf_sys {a : Nat} (h : 0xF0000000 ≤ a) (k : a < 0xF0010000) : blockOf a = .sys := by
  unfold blockOf
  repeat (first | rw [if_neg (by omega)] | rw [if_pos (by omega)])
theorem blockOf_clk {a : Nat} (h : 0xF0010000 ≤ a) (k : a < 0xF0020000) : blockOf a = .clk := by
  unfold blockOf
  repeat (first | rw [if_neg (by omega)] | rw [if_pos (by omega)])
theorem blockOf_sec {a : Nat} (h : 0xF0020000 ≤ a) (k : a < 0xF0030000) : blockOf a = .sec := by
  unfold blockOf
  repeat (first | rw [if_neg (by omega)] | rw [if_pos (by omega)])
theorem blockOf_flt {a : Nat} (h : 0xF0030000 ≤ a) (k : a < 0xF0040000) : blockOf a = .flt := by
  unfold blockOf
  repeat (first | rw [if_neg (by omega)] | rw [if_pos (by omega)])
theorem blockOf_evl {a : Nat} (h : 0xF0040000 ≤ a) (k : a < 0xF0050000) : blockOf a = .evl := by
  unfold blockOf
  repeat (first | rw [if_neg (by omega)] | rw [if_pos (by omega)])
theorem blockOf_sched {a : Nat} (h : 0xF0050000 ≤ a) (k : a < 0xF0060000) : blockOf a = .sched := by
  unfold blockOf
  repeat (first | rw [if_neg (by omega)] | rw [if_pos (by omega)])
theorem blockOf_jnl {a : Nat} (h : 0xF0060000 ≤ a) (k : a < 0xF0070000) : blockOf a = .jnl := by
  unfold blockOf
  repeat (first | rw [if_neg (by omega)] | rw [if_pos (by omega)])
theorem blockOf_time {a : Nat} (h : 0xF0070000 ≤ a) (k : a < 0xF0080000) : blockOf a = .time := by
  unfold blockOf
  repeat (first | rw [if_neg (by omega)] | rw [if_pos (by omega)])
theorem blockOf_ilm {a : Nat} (h : 0xF0080000 ≤ a) (k : a < 0xF0090000) : blockOf a = .ilm := by
  unfold blockOf
  repeat (first | rw [if_neg (by omega)] | rw [if_pos (by omega)])
theorem blockOf_cbus {a : Nat} (h : 0xF0090000 ≤ a) (k : a < 0xF00A0000) : blockOf a = .cbus := by
  unfold blockOf
  repeat (first | rw [if_neg (by omega)] | rw [if_pos (by omega)])
theorem blockOf_part {a : Nat} (h : 0xF00A0000 ≤ a) (k : a < 0xF00B0000) : blockOf a = .part := by
  unfold blockOf
  repeat (first | rw [if_neg (by omega)] | rw [if_pos (by omega)])
theorem blockOf_safe {a : Nat} (h : 0xF00B0000 ≤ a) (k : a < 0xF00C0000) : blockOf a = .safe := by
  unfold blockOf
  repeat (first | rw [if_neg (by omega)] | rw [if_pos (by omega)])
theorem blockOf_recorder {a : Nat} (h : 0xF00C0000 ≤ a) (k : a < 0xF00D0000) : blockOf a = .recorder := by
  unfold blockOf
  repeat (first | rw [if_neg (by omega)] | rw [if_pos (by omega)])
theorem blockOf_rcp {a : Nat} (h : 0xF00D0000 ≤ a) (k : a < 0xF00E0000) : blockOf a = .rcp := by
  unfold blockOf
  repeat (first | rw [if_neg (by omega)] | rw [if_pos (by omega)])
theorem blockOf_host {a : Nat} (h : 0xF00E0000 ≤ a) (k : a < 0xF0100000) : blockOf a = .host := by
  unfold blockOf
  repeat (first | rw [if_neg (by omega)] | rw [if_pos (by omega)])
theorem blockOf_net {a : Nat} (h : 0xF0100000 ≤ a) (k : a < 0xF0120000) : blockOf a = .net := by
  unfold blockOf
  repeat (first | rw [if_neg (by omega)] | rw [if_pos (by omega)])
theorem blockOf_pcie {a : Nat} (h : 0xF0120000 ≤ a) (k : a < 0xF0200000) : blockOf a = .pcie := by
  unfold blockOf
  repeat (first | rw [if_neg (by omega)] | rw [if_pos (by omega)])
theorem blockOf_can {a : Nat} (h : 0xF0200000 ≤ a) (k : a < 0xF0300000) : blockOf a = .can := by
  unfold blockOf
  repeat (first | rw [if_neg (by omega)] | rw [if_pos (by omega)])
theorem blockOf_sl {a : Nat} (h : 0xF0300000 ≤ a) (k : a < 0xF0400000) : blockOf a = .sl := by
  unfold blockOf
  repeat (first | rw [if_neg (by omega)] | rw [if_pos (by omega)])
theorem blockOf_le {a : Nat} (h : 0xF0400000 ≤ a) (k : a < 0xF0500000) : blockOf a = .le := by
  unfold blockOf
  repeat (first | rw [if_neg (by omega)] | rw [if_pos (by omega)])
theorem blockOf_pp {a : Nat} (h : 0xF0500000 ≤ a) (k : a < 0xF0510000) : blockOf a = .pp := by
  unfold blockOf
  repeat (first | rw [if_neg (by omega)] | rw [if_pos (by omega)])
theorem blockOf_mot {a : Nat} (h : 0xF0510000 ≤ a) (k : a < 0xF0600000) : blockOf a = .mot := by
  unfold blockOf
  repeat (first | rw [if_neg (by omega)] | rw [if_pos (by omega)])
theorem blockOf_fd {a : Nat} (h : 0xF0600000 ≤ a) (k : a < 0xF0700000) : blockOf a = .fd := by
  unfold blockOf
  repeat (first | rw [if_neg (by omega)] | rw [if_pos (by omega)])
theorem blk_ABD_STAT_CAND (n : Nat) : (blockOf (F.ABD_STAT_CAND n).addr).bit = 57 :=
  congrArg Block.bit (blockOf_can (by simp only [F.ABD_STAT_CAND]; omega) (by simp only [F.ABD_STAT_CAND]; omega))
theorem blk_ABD_STAT_DONE (n : Nat) : (blockOf (F.ABD_STAT_DONE n).addr).bit = 57 :=
  congrArg Block.bit (blockOf_can (by simp only [F.ABD_STAT_DONE]; omega) (by simp only [F.ABD_STAT_DONE]; omega))
theorem blk_ACT_H (n : Nat) : (blockOf (F.ACT_H n).addr).bit = 61 :=
  congrArg Block.bit (blockOf_mot (by simp only [F.ACT_H]; omega) (by simp only [F.ACT_H]; omega))
theorem blk_ACT_L (n : Nat) : (blockOf (F.ACT_L n).addr).bit = 61 :=
  congrArg Block.bit (blockOf_mot (by simp only [F.ACT_L]; omega) (by simp only [F.ACT_L]; omega))
theorem blk_AOUT_CFG_RANGE (n : Nat) : (blockOf (F.AOUT_CFG_RANGE n).addr).bit = 62 :=
  congrArg Block.bit (blockOf_fd (by simp only [F.AOUT_CFG_RANGE]; omega) (by simp only [F.AOUT_CFG_RANGE]; omega))
theorem blk_AOUT_STAT_OPEN (n : Nat) : (blockOf (F.AOUT_STAT_OPEN n).addr).bit = 62 :=
  congrArg Block.bit (blockOf_fd (by simp only [F.AOUT_STAT_OPEN]; omega) (by simp only [F.AOUT_STAT_OPEN]; omega))
theorem blk_AOUT_STAT_OVC (n : Nat) : (blockOf (F.AOUT_STAT_OVC n).addr).bit = 62 :=
  congrArg Block.bit (blockOf_fd (by simp only [F.AOUT_STAT_OVC]; omega) (by simp only [F.AOUT_STAT_OVC]; omega))
theorem blk_AX_CFG_EN (n : Nat) : (blockOf (F.AX_CFG_EN n).addr).bit = 61 :=
  congrArg Block.bit (blockOf_mot (by simp only [F.AX_CFG_EN]; omega) (by simp only [F.AX_CFG_EN]; omega))
theorem blk_AX_CFG_QENC_EN (n : Nat) : (blockOf (F.AX_CFG_QENC_EN n).addr).bit = 61 :=
  congrArg Block.bit (blockOf_mot (by simp only [F.AX_CFG_QENC_EN]; omega) (by simp only [F.AX_CFG_QENC_EN]; omega))
theorem blk_AX_CFG_STALL_EN (n : Nat) : (blockOf (F.AX_CFG_STALL_EN n).addr).bit = 61 :=
  congrArg Block.bit (blockOf_mot (by simp only [F.AX_CFG_STALL_EN]; omega) (by simp only [F.AX_CFG_STALL_EN]; omega))
theorem blk_AX_STAT_CODE (n : Nat) : (blockOf (F.AX_STAT_CODE n).addr).bit = 61 :=
  congrArg Block.bit (blockOf_mot (by simp only [F.AX_STAT_CODE]; omega) (by simp only [F.AX_STAT_CODE]; omega))
theorem blk_AX_STAT_FB_LOST (n : Nat) : (blockOf (F.AX_STAT_FB_LOST n).addr).bit = 61 :=
  congrArg Block.bit (blockOf_mot (by simp only [F.AX_STAT_FB_LOST]; omega) (by simp only [F.AX_STAT_FB_LOST]; omega))
theorem blk_AX_STAT_FERR (n : Nat) : (blockOf (F.AX_STAT_FERR n).addr).bit = 61 :=
  congrArg Block.bit (blockOf_mot (by simp only [F.AX_STAT_FERR]; omega) (by simp only [F.AX_STAT_FERR]; omega))
theorem blk_AX_STAT_IN_POS (n : Nat) : (blockOf (F.AX_STAT_IN_POS n).addr).bit = 61 :=
  congrArg Block.bit (blockOf_mot (by simp only [F.AX_STAT_IN_POS]; omega) (by simp only [F.AX_STAT_IN_POS]; omega))
theorem blk_AX_STAT_LIMIT_DECEL (n : Nat) : (blockOf (F.AX_STAT_LIMIT_DECEL n).addr).bit = 61 :=
  congrArg Block.bit (blockOf_mot (by simp only [F.AX_STAT_LIMIT_DECEL]; omega) (by simp only [F.AX_STAT_LIMIT_DECEL]; omega))
theorem blk_AX_STAT_LIMIT_FAULT (n : Nat) : (blockOf (F.AX_STAT_LIMIT_FAULT n).addr).bit = 61 :=
  congrArg Block.bit (blockOf_mot (by simp only [F.AX_STAT_LIMIT_FAULT]; omega) (by simp only [F.AX_STAT_LIMIT_FAULT]; omega))
theorem blk_AX_STAT_POS_LOST (n : Nat) : (blockOf (F.AX_STAT_POS_LOST n).addr).bit = 61 :=
  congrArg Block.bit (blockOf_mot (by simp only [F.AX_STAT_POS_LOST]; omega) (by simp only [F.AX_STAT_POS_LOST]; omega))
theorem blk_AX_STAT_QERR (n : Nat) : (blockOf (F.AX_STAT_QERR n).addr).bit = 61 :=
  congrArg Block.bit (blockOf_mot (by simp only [F.AX_STAT_QERR]; omega) (by simp only [F.AX_STAT_QERR]; omega))
theorem blk_AX_STAT_RATE_CLAMP (n : Nat) : (blockOf (F.AX_STAT_RATE_CLAMP n).addr).bit = 61 :=
  congrArg Block.bit (blockOf_mot (by simp only [F.AX_STAT_RATE_CLAMP]; omega) (by simp only [F.AX_STAT_RATE_CLAMP]; omega))
theorem blk_AX_STAT_RESULT (n : Nat) : (blockOf (F.AX_STAT_RESULT n).addr).bit = 61 :=
  congrArg Block.bit (blockOf_mot (by simp only [F.AX_STAT_RESULT]; omega) (by simp only [F.AX_STAT_RESULT]; omega))
theorem blk_AX_STAT_STALL (n : Nat) : (blockOf (F.AX_STAT_STALL n).addr).bit = 61 :=
  congrArg Block.bit (blockOf_mot (by simp only [F.AX_STAT_STALL]; omega) (by simp only [F.AX_STAT_STALL]; omega))
theorem blk_AX_STAT_STATE (n : Nat) : (blockOf (F.AX_STAT_STATE n).addr).bit = 61 :=
  congrArg Block.bit (blockOf_mot (by simp only [F.AX_STAT_STATE]; omega) (by simp only [F.AX_STAT_STATE]; omega))
theorem blk_AX_STAT_STEP_MM (n : Nat) : (blockOf (F.AX_STAT_STEP_MM n).addr).bit = 61 :=
  congrArg Block.bit (blockOf_mot (by simp only [F.AX_STAT_STEP_MM]; omega) (by simp only [F.AX_STAT_STEP_MM]; omega))
theorem blk_AX_STAT_STOP_CAUSE (n : Nat) : (blockOf (F.AX_STAT_STOP_CAUSE n).addr).bit = 61 :=
  congrArg Block.bit (blockOf_mot (by simp only [F.AX_STAT_STOP_CAUSE]; omega) (by simp only [F.AX_STAT_STOP_CAUSE]; omega))
theorem blk_AX_STAT_TGT_REFUSED (n : Nat) : (blockOf (F.AX_STAT_TGT_REFUSED n).addr).bit = 61 :=
  congrArg Block.bit (blockOf_mot (by simp only [F.AX_STAT_TGT_REFUSED]; omega) (by simp only [F.AX_STAT_TGT_REFUSED]; omega))
theorem blk_CAL_GAIN_GAIN (n r : Nat) : (blockOf (F.CAL_GAIN_GAIN n r).addr).bit = 62 :=
  congrArg Block.bit (blockOf_fd (by simp only [F.CAL_GAIN_GAIN]; omega) (by simp only [F.CAL_GAIN_GAIN]; omega))
theorem blk_CAL_OFS_OFS (n r : Nat) : (blockOf (F.CAL_OFS_OFS n r).addr).bit = 62 :=
  congrArg Block.bit (blockOf_fd (by simp only [F.CAL_OFS_OFS]; omega) (by simp only [F.CAL_OFS_OFS]; omega))
theorem blk_CANSUP_CNT_COUNT (c : Nat) : (blockOf (F.CANSUP_CNT_COUNT c).addr).bit = 57 :=
  congrArg Block.bit (blockOf_can (by simp only [F.CANSUP_CNT_COUNT]; omega) (by simp only [F.CANSUP_CNT_COUNT]; omega))
theorem blk_CANSUP_STAT_BUDGET_OUT : (blockOf F.CANSUP_STAT_BUDGET_OUT.addr).bit = 57 := rfl
theorem blk_CAN_CNT_BUSOFF_CNT (n : Nat) : (blockOf (F.CAN_CNT_BUSOFF_CNT n).addr).bit = 57 :=
  congrArg Block.bit (blockOf_can (by simp only [F.CAN_CNT_BUSOFF_CNT]; omega) (by simp only [F.CAN_CNT_BUSOFF_CNT]; omega))
theorem blk_CAN_CNT_NOMATCH (n : Nat) : (blockOf (F.CAN_CNT_NOMATCH n).addr).bit = 57 :=
  congrArg Block.bit (blockOf_can (by simp only [F.CAN_CNT_NOMATCH]; omega) (by simp only [F.CAN_CNT_NOMATCH]; omega))
theorem blk_CAN_CTRL_OPMODE (n : Nat) : (blockOf (F.CAN_CTRL_OPMODE n).addr).bit = 57 :=
  congrArg Block.bit (blockOf_can (by simp only [F.CAN_CTRL_OPMODE]; omega) (by simp only [F.CAN_CTRL_OPMODE]; omega))
theorem blk_CAN_DBT_BRP (n : Nat) : (blockOf (F.CAN_DBT_BRP n).addr).bit = 57 :=
  congrArg Block.bit (blockOf_can (by simp only [F.CAN_DBT_BRP]; omega) (by simp only [F.CAN_DBT_BRP]; omega))
theorem blk_CAN_FIFOPTR_FIFO_OVF (n : Nat) : (blockOf (F.CAN_FIFOPTR_FIFO_OVF n).addr).bit = 57 :=
  congrArg Block.bit (blockOf_can (by simp only [F.CAN_FIFOPTR_FIFO_OVF]; omega) (by simp only [F.CAN_FIFOPTR_FIFO_OVF]; omega))
theorem blk_CAN_FIFOPTR_FULL (n : Nat) : (blockOf (F.CAN_FIFOPTR_FULL n).addr).bit = 57 :=
  congrArg Block.bit (blockOf_can (by simp only [F.CAN_FIFOPTR_FULL]; omega) (by simp only [F.CAN_FIFOPTR_FULL]; omega))
theorem blk_CAN_FIFOPTR_RD (n : Nat) : (blockOf (F.CAN_FIFOPTR_RD n).addr).bit = 57 :=
  congrArg Block.bit (blockOf_can (by simp only [F.CAN_FIFOPTR_RD]; omega) (by simp only [F.CAN_FIFOPTR_RD]; omega))
theorem blk_CAN_FIFOPTR_WR (n : Nat) : (blockOf (F.CAN_FIFOPTR_WR n).addr).bit = 57 :=
  congrArg Block.bit (blockOf_can (by simp only [F.CAN_FIFOPTR_WR]; omega) (by simp only [F.CAN_FIFOPTR_WR]; omega))
theorem blk_CAN_HPSTAT_COUNT (n : Nat) : (blockOf (F.CAN_HPSTAT_COUNT n).addr).bit = 57 :=
  congrArg Block.bit (blockOf_can (by simp only [F.CAN_HPSTAT_COUNT]; omega) (by simp only [F.CAN_HPSTAT_COUNT]; omega))
theorem blk_CAN_HPSTAT_EN (n : Nat) : (blockOf (F.CAN_HPSTAT_EN n).addr).bit = 57 :=
  congrArg Block.bit (blockOf_can (by simp only [F.CAN_HPSTAT_EN]; omega) (by simp only [F.CAN_HPSTAT_EN]; omega))
theorem blk_CAN_HPSTAT_HP_OVF (n : Nat) : (blockOf (F.CAN_HPSTAT_HP_OVF n).addr).bit = 57 :=
  congrArg Block.bit (blockOf_can (by simp only [F.CAN_HPSTAT_HP_OVF]; omega) (by simp only [F.CAN_HPSTAT_HP_OVF]; omega))
theorem blk_CAN_HPSTAT_RESULT (n : Nat) : (blockOf (F.CAN_HPSTAT_RESULT n).addr).bit = 57 :=
  congrArg Block.bit (blockOf_can (by simp only [F.CAN_HPSTAT_RESULT]; omega) (by simp only [F.CAN_HPSTAT_RESULT]; omega))
theorem blk_CAN_NBT_BRP (n : Nat) : (blockOf (F.CAN_NBT_BRP n).addr).bit = 57 :=
  congrArg Block.bit (blockOf_can (by simp only [F.CAN_NBT_BRP]; omega) (by simp only [F.CAN_NBT_BRP]; omega))
theorem blk_CAN_STAT_LEC (n : Nat) : (blockOf (F.CAN_STAT_LEC n).addr).bit = 57 :=
  congrArg Block.bit (blockOf_can (by simp only [F.CAN_STAT_LEC]; omega) (by simp only [F.CAN_STAT_LEC]; omega))
theorem blk_CAN_STAT_REC (n : Nat) : (blockOf (F.CAN_STAT_REC n).addr).bit = 57 :=
  congrArg Block.bit (blockOf_can (by simp only [F.CAN_STAT_REC]; omega) (by simp only [F.CAN_STAT_REC]; omega))
theorem blk_CAN_STAT_STATE (n : Nat) : (blockOf (F.CAN_STAT_STATE n).addr).bit = 57 :=
  congrArg Block.bit (blockOf_can (by simp only [F.CAN_STAT_STATE]; omega) (by simp only [F.CAN_STAT_STATE]; omega))
theorem blk_CAN_STAT_TEC (n : Nat) : (blockOf (F.CAN_STAT_TEC n).addr).bit = 57 :=
  congrArg Block.bit (blockOf_can (by simp only [F.CAN_STAT_TEC]; omega) (by simp only [F.CAN_STAT_TEC]; omega))
theorem blk_CB_CNT_DROP : (blockOf F.CB_CNT_DROP.addr).bit = 49 := rfl
theorem blk_CB_CNT_IGNORED : (blockOf F.CB_CNT_IGNORED.addr).bit = 49 := rfl
theorem blk_CB_FAST_VALUE (k : Nat) : (blockOf (F.CB_FAST_VALUE k).addr).bit = 49 :=
  congrArg Block.bit (blockOf_cbus (by simp only [F.CB_FAST_VALUE]; omega) (by simp only [F.CB_FAST_VALUE]; omega))
theorem blk_CB_STAT_CB_OVF : (blockOf F.CB_STAT_CB_OVF.addr).bit = 49 := rfl
theorem blk_CB_STAT_CB_TURN : (blockOf F.CB_STAT_CB_TURN.addr).bit = 49 := rfl
theorem blk_CB_STAT_CB_UNMAPPED : (blockOf F.CB_STAT_CB_UNMAPPED.addr).bit = 49 := rfl
theorem blk_CERT_STAT_POINTS (d : Nat) : (blockOf (F.CERT_STAT_POINTS d).addr).bit = 62 :=
  congrArg Block.bit (blockOf_fd (by simp only [F.CERT_STAT_POINTS]; omega) (by simp only [F.CERT_STAT_POINTS]; omega))
theorem blk_CH_CFG_RANGE (n : Nat) : (blockOf (F.CH_CFG_RANGE n).addr).bit = 62 :=
  congrArg Block.bit (blockOf_fd (by simp only [F.CH_CFG_RANGE]; omega) (by simp only [F.CH_CFG_RANGE]; omega))
theorem blk_CH_LG_MEMB (n : Nat) : (blockOf (F.CH_LG_MEMB n).addr).bit = 41 :=
  congrArg Block.bit (blockOf_clk (by simp only [F.CH_LG_MEMB]; omega) (by simp only [F.CH_LG_MEMB]; omega))
theorem blk_CH_STAT_AVAIL (n : Nat) : (blockOf (F.CH_STAT_AVAIL n).addr).bit = 62 :=
  congrArg Block.bit (blockOf_fd (by simp only [F.CH_STAT_AVAIL]; omega) (by simp only [F.CH_STAT_AVAIL]; omega))
theorem blk_CH_STAT_OVR_SEEN (n : Nat) : (blockOf (F.CH_STAT_OVR_SEEN n).addr).bit = 62 :=
  congrArg Block.bit (blockOf_fd (by simp only [F.CH_STAT_OVR_SEEN]; omega) (by simp only [F.CH_STAT_OVR_SEEN]; omega))
theorem blk_CH_STAT_REF_UNSETTLED (n : Nat) : (blockOf (F.CH_STAT_REF_UNSETTLED n).addr).bit = 62 :=
  congrArg Block.bit (blockOf_fd (by simp only [F.CH_STAT_REF_UNSETTLED]; omega) (by simp only [F.CH_STAT_REF_UNSETTLED]; omega))
theorem blk_CH_STAT_TAG (n : Nat) : (blockOf (F.CH_STAT_TAG n).addr).bit = 62 :=
  congrArg Block.bit (blockOf_fd (by simp only [F.CH_STAT_TAG]; omega) (by simp only [F.CH_STAT_TAG]; omega))
theorem blk_CH_STAT_UNAV_REASON (n : Nat) : (blockOf (F.CH_STAT_UNAV_REASON n).addr).bit = 62 :=
  congrArg Block.bit (blockOf_fd (by simp only [F.CH_STAT_UNAV_REASON]; omega) (by simp only [F.CH_STAT_UNAV_REASON]; omega))
theorem blk_CH_STAT_WIN_OUT (n : Nat) : (blockOf (F.CH_STAT_WIN_OUT n).addr).bit = 62 :=
  congrArg Block.bit (blockOf_fd (by simp only [F.CH_STAT_WIN_OUT]; omega) (by simp only [F.CH_STAT_WIN_OUT]; omega))
theorem blk_CLK_CTRL_REF_SRC : (blockOf F.CLK_CTRL_REF_SRC.addr).bit = 41 := rfl
theorem blk_CLK_FDDLY_DLY (d : Nat) : (blockOf (F.CLK_FDDLY_DLY d).addr).bit = 41 :=
  congrArg Block.bit (blockOf_clk (by simp only [F.CLK_FDDLY_DLY]; omega) (by simp only [F.CLK_FDDLY_DLY]; omega))
theorem blk_CLK_FLT_FD_CLK_LOSS : (blockOf F.CLK_FLT_FD_CLK_LOSS.addr).bit = 41 := rfl
theorem blk_CLK_FLT_MAIN_UNLOCK : (blockOf F.CLK_FLT_MAIN_UNLOCK.addr).bit = 41 := rfl
theorem blk_CLK_FLT_SER_UNLOCK : (blockOf F.CLK_FLT_SER_UNLOCK.addr).bit = 41 := rfl
theorem blk_CLK_FLT_XCHK_FAIL : (blockOf F.CLK_FLT_XCHK_FAIL.addr).bit = 41 := rfl
theorem blk_CLK_STAT_FD_CLK_OK : (blockOf F.CLK_STAT_FD_CLK_OK.addr).bit = 41 := rfl
theorem blk_CLK_STAT_MAIN_LOCK : (blockOf F.CLK_STAT_MAIN_LOCK.addr).bit = 41 := rfl
theorem blk_CLK_STAT_SER_LOCK_NET : (blockOf F.CLK_STAT_SER_LOCK_NET.addr).bit = 41 := rfl
theorem blk_CLK_STAT_SER_LOCK_PCIE : (blockOf F.CLK_STAT_SER_LOCK_PCIE.addr).bit = 41 := rfl
theorem blk_CLK_STAT_SER_LOCK_PLNK : (blockOf F.CLK_STAT_SER_LOCK_PLNK.addr).bit = 41 := rfl
theorem blk_CLK_STAT_SER_LOCK_SL : (blockOf F.CLK_STAT_SER_LOCK_SL.addr).bit = 41 := rfl
theorem blk_CLK_STAT_XCHK_OK : (blockOf F.CLK_STAT_XCHK_OK.addr).bit = 41 := rfl
theorem blk_CLK_XCHK_FAB_COUNT : (blockOf F.CLK_XCHK_FAB_COUNT.addr).bit = 41 := rfl
theorem blk_CL_CTRL_CAL (k : Nat) : (blockOf (F.CL_CTRL_CAL k).addr).bit = 62 :=
  congrArg Block.bit (blockOf_fd (by simp only [F.CL_CTRL_CAL]; omega) (by simp only [F.CL_CTRL_CAL]; omega))
theorem blk_CL_CTRL_INT_ON (k : Nat) : (blockOf (F.CL_CTRL_INT_ON k).addr).bit = 62 :=
  congrArg Block.bit (blockOf_fd (by simp only [F.CL_CTRL_INT_ON]; omega) (by simp only [F.CL_CTRL_INT_ON]; omega))
theorem blk_CL_CTRL_REFSEL (k : Nat) : (blockOf (F.CL_CTRL_REFSEL k).addr).bit = 62 :=
  congrArg Block.bit (blockOf_fd (by simp only [F.CL_CTRL_REFSEL]; omega) (by simp only [F.CL_CTRL_REFSEL]; omega))
theorem blk_CL_CTRL_ROLL (k : Nat) : (blockOf (F.CL_CTRL_ROLL k).addr).bit = 62 :=
  congrArg Block.bit (blockOf_fd (by simp only [F.CL_CTRL_ROLL]; omega) (by simp only [F.CL_CTRL_ROLL]; omega))
theorem blk_CL_STAT_CAL_BUSY (k : Nat) : (blockOf (F.CL_STAT_CAL_BUSY k).addr).bit = 62 :=
  congrArg Block.bit (blockOf_fd (by simp only [F.CL_STAT_CAL_BUSY]; omega) (by simp only [F.CL_STAT_CAL_BUSY]; omega))
theorem blk_CL_STAT_CAL_LIMIT (k : Nat) : (blockOf (F.CL_STAT_CAL_LIMIT k).addr).bit = 62 :=
  congrArg Block.bit (blockOf_fd (by simp only [F.CL_STAT_CAL_LIMIT]; omega) (by simp only [F.CL_STAT_CAL_LIMIT]; omega))
theorem blk_CL_STAT_CAL_REF (k : Nat) : (blockOf (F.CL_STAT_CAL_REF k).addr).bit = 62 :=
  congrArg Block.bit (blockOf_fd (by simp only [F.CL_STAT_CAL_REF]; omega) (by simp only [F.CL_STAT_CAL_REF]; omega))
theorem blk_CL_STAT_CAL_TEMP (k : Nat) : (blockOf (F.CL_STAT_CAL_TEMP k).addr).bit = 62 :=
  congrArg Block.bit (blockOf_fd (by simp only [F.CL_STAT_CAL_TEMP]; omega) (by simp only [F.CL_STAT_CAL_TEMP]; omega))
theorem blk_CL_STAT_REF_FAULT (k : Nat) : (blockOf (F.CL_STAT_REF_FAULT k).addr).bit = 62 :=
  congrArg Block.bit (blockOf_fd (by simp only [F.CL_STAT_REF_FAULT]; omega) (by simp only [F.CL_STAT_REF_FAULT]; omega))
theorem blk_CL_STAT_REF_SETTLED (k : Nat) : (blockOf (F.CL_STAT_REF_SETTLED k).addr).bit = 62 :=
  congrArg Block.bit (blockOf_fd (by simp only [F.CL_STAT_REF_SETTLED]; omega) (by simp only [F.CL_STAT_REF_SETTLED]; omega))
theorem blk_CL_STAT_STALE (k : Nat) : (blockOf (F.CL_STAT_STALE k).addr).bit = 62 :=
  congrArg Block.bit (blockOf_fd (by simp only [F.CL_STAT_STALE]; omega) (by simp only [F.CL_STAT_STALE]; omega))
theorem blk_DIE_CMDSTAT_CODE (d : Nat) : (blockOf (F.DIE_CMDSTAT_CODE d).addr).bit = 62 :=
  congrArg Block.bit (blockOf_fd (by simp only [F.DIE_CMDSTAT_CODE]; omega) (by simp only [F.DIE_CMDSTAT_CODE]; omega))
theorem blk_DIE_CMDSTAT_RESULT (d : Nat) : (blockOf (F.DIE_CMDSTAT_RESULT d).addr).bit = 62 :=
  congrArg Block.bit (blockOf_fd (by simp only [F.DIE_CMDSTAT_RESULT]; omega) (by simp only [F.DIE_CMDSTAT_RESULT]; omega))
theorem blk_DIE_STAT_CALIMG_OK (d : Nat) : (blockOf (F.DIE_STAT_CALIMG_OK d).addr).bit = 62 :=
  congrArg Block.bit (blockOf_fd (by simp only [F.DIE_STAT_CALIMG_OK]; omega) (by simp only [F.DIE_STAT_CALIMG_OK]; omega))
theorem blk_DIE_STAT_ISOLATED (d : Nat) : (blockOf (F.DIE_STAT_ISOLATED d).addr).bit = 62 :=
  congrArg Block.bit (blockOf_fd (by simp only [F.DIE_STAT_ISOLATED]; omega) (by simp only [F.DIE_STAT_ISOLATED]; omega))
theorem blk_DIE_STAT_SEAL_OK (d : Nat) : (blockOf (F.DIE_STAT_SEAL_OK d).addr).bit = 62 :=
  congrArg Block.bit (blockOf_fd (by simp only [F.DIE_STAT_SEAL_OK]; omega) (by simp only [F.DIE_STAT_SEAL_OK]; omega))
theorem blk_DIE_STAT_TEMP (d : Nat) : (blockOf (F.DIE_STAT_TEMP d).addr).bit = 62 :=
  congrArg Block.bit (blockOf_fd (by simp only [F.DIE_STAT_TEMP]; omega) (by simp only [F.DIE_STAT_TEMP]; omega))
theorem blk_DIE_STAT_THERM_SD (d : Nat) : (blockOf (F.DIE_STAT_THERM_SD d).addr).bit = 62 :=
  congrArg Block.bit (blockOf_fd (by simp only [F.DIE_STAT_THERM_SD]; omega) (by simp only [F.DIE_STAT_THERM_SD]; omega))
theorem blk_DOM_CFG_SRC (d : Nat) : (blockOf (F.DOM_CFG_SRC d).addr).bit = 47 :=
  congrArg Block.bit (blockOf_time (by simp only [F.DOM_CFG_SRC]; omega) (by simp only [F.DOM_CFG_SRC]; omega))
theorem blk_DOM_JSTEP_H_VALUE (d : Nat) : (blockOf (F.DOM_JSTEP_H_VALUE d).addr).bit = 47 :=
  congrArg Block.bit (blockOf_time (by simp only [F.DOM_JSTEP_H_VALUE]; omega) (by simp only [F.DOM_JSTEP_H_VALUE]; omega))
theorem blk_DOM_JSTEP_L_VALUE (d : Nat) : (blockOf (F.DOM_JSTEP_L_VALUE d).addr).bit = 47 :=
  congrArg Block.bit (blockOf_time (by simp only [F.DOM_JSTEP_L_VALUE]; omega) (by simp only [F.DOM_JSTEP_L_VALUE]; omega))
theorem blk_DOM_K_H_VALUE (d : Nat) : (blockOf (F.DOM_K_H_VALUE d).addr).bit = 47 :=
  congrArg Block.bit (blockOf_time (by simp only [F.DOM_K_H_VALUE]; omega) (by simp only [F.DOM_K_H_VALUE]; omega))
theorem blk_DOM_K_L_VALUE (d : Nat) : (blockOf (F.DOM_K_L_VALUE d).addr).bit = 47 :=
  congrArg Block.bit (blockOf_time (by simp only [F.DOM_K_L_VALUE]; omega) (by simp only [F.DOM_K_L_VALUE]; omega))
theorem blk_DOM_STAT_IGN (d : Nat) : (blockOf (F.DOM_STAT_IGN d).addr).bit = 47 :=
  congrArg Block.bit (blockOf_time (by simp only [F.DOM_STAT_IGN]; omega) (by simp only [F.DOM_STAT_IGN]; omega))
theorem blk_DOM_STAT_STATE (d : Nat) : (blockOf (F.DOM_STAT_STATE d).addr).bit = 47 :=
  congrArg Block.bit (blockOf_time (by simp only [F.DOM_STAT_STATE]; omega) (by simp only [F.DOM_STAT_STATE]; omega))
theorem blk_DOM_STAT_STEPS (d : Nat) : (blockOf (F.DOM_STAT_STEPS d).addr).bit = 47 :=
  congrArg Block.bit (blockOf_time (by simp only [F.DOM_STAT_STEPS]; omega) (by simp only [F.DOM_STAT_STEPS]; omega))
theorem blk_DOM_STAT_UTC_OFS (d : Nat) : (blockOf (F.DOM_STAT_UTC_OFS d).addr).bit = 47 :=
  congrArg Block.bit (blockOf_time (by simp only [F.DOM_STAT_UTC_OFS]; omega) (by simp only [F.DOM_STAT_UTC_OFS]; omega))
theorem blk_DOM_STAT_VALID (d : Nat) : (blockOf (F.DOM_STAT_VALID d).addr).bit = 47 :=
  congrArg Block.bit (blockOf_time (by simp only [F.DOM_STAT_VALID]; omega) (by simp only [F.DOM_STAT_VALID]; omega))
theorem blk_EVL_CMDSTAT_CODE : (blockOf F.EVL_CMDSTAT_CODE.addr).bit = 44 := rfl
theorem blk_EVL_CMDSTAT_RESULT : (blockOf F.EVL_CMDSTAT_RESULT.addr).bit = 44 := rfl
theorem blk_EVL_CODE_RL_EN (c : Nat) : (blockOf (F.EVL_CODE_RL_EN c).addr).bit = 44 :=
  congrArg Block.bit (blockOf_evl (by simp only [F.EVL_CODE_RL_EN]; omega) (by simp only [F.EVL_CODE_RL_EN]; omega))
theorem blk_EVL_RDSEL_SLOT : (blockOf F.EVL_RDSEL_SLOT.addr).bit = 44 := rfl
theorem blk_EVL_REC_WORD (k : Nat) : (blockOf (F.EVL_REC_WORD k).addr).bit = 44 :=
  congrArg Block.bit (blockOf_evl (by simp only [F.EVL_REC_WORD]; omega) (by simp only [F.EVL_REC_WORD]; omega))
theorem blk_EXCH_STAT_AFFECTED : (blockOf F.EXCH_STAT_AFFECTED.addr).bit = 40 := rfl
theorem blk_EXCH_STAT_CODE : (blockOf F.EXCH_STAT_CODE.addr).bit = 40 := rfl
theorem blk_EXCH_STAT_RESULT : (blockOf F.EXCH_STAT_RESULT.addr).bit = 40 := rfl
theorem blk_EXCH_STAT_STATE : (blockOf F.EXCH_STAT_STATE.addr).bit = 40 := rfl
theorem blk_FERR (n : Nat) : (blockOf (F.FERR n).addr).bit = 61 :=
  congrArg Block.bit (blockOf_mot (by simp only [F.FERR]; omega) (by simp only [F.FERR]; omega))
theorem blk_FIO_STAT_IN (n : Nat) : (blockOf (F.FIO_STAT_IN n).addr).bit = 62 :=
  congrArg Block.bit (blockOf_fd (by simp only [F.FIO_STAT_IN]; omega) (by simp only [F.FIO_STAT_IN]; omega))
theorem blk_FIO_STAT_RAW (n : Nat) : (blockOf (F.FIO_STAT_RAW n).addr).bit = 62 :=
  congrArg Block.bit (blockOf_fd (by simp only [F.FIO_STAT_RAW]; omega) (by simp only [F.FIO_STAT_RAW]; omega))
theorem blk_FLT_CFG0_SEV (s : Nat) : (blockOf (F.FLT_CFG0_SEV s).addr).bit = 43 :=
  congrArg Block.bit (blockOf_flt (by simp only [F.FLT_CFG0_SEV]; omega) (by simp only [F.FLT_CFG0_SEV]; omega))
theorem blk_FLT_CMDSTAT_CODE : (blockOf F.FLT_CMDSTAT_CODE.addr).bit = 43 := rfl
theorem blk_FLT_CMDSTAT_INJ_PEND : (blockOf F.FLT_CMDSTAT_INJ_PEND.addr).bit = 43 := rfl
theorem blk_FLT_CMDSTAT_RESULT : (blockOf F.FLT_CMDSTAT_RESULT.addr).bit = 43 := rfl
theorem blk_FLT_UNDO_OVERFLOWS : (blockOf F.FLT_UNDO_OVERFLOWS.addr).bit = 43 := rfl
theorem blk_FLT_UNDO_UNDO_SKIP : (blockOf F.FLT_UNDO_UNDO_SKIP.addr).bit = 43 := rfl
theorem blk_FORCE_STAT_CODE : (blockOf F.FORCE_STAT_CODE.addr).bit = 40 := rfl
theorem blk_FORCE_STAT_INDEX : (blockOf F.FORCE_STAT_INDEX.addr).bit = 40 := rfl
theorem blk_FORCE_STAT_RESULT : (blockOf F.FORCE_STAT_RESULT.addr).bit = 40 := rfl
theorem blk_HOST_CNT0_BADTAG : (blockOf F.HOST_CNT0_BADTAG.addr).bit = 54 := rfl
theorem blk_HOST_CNT0_IGNORED : (blockOf F.HOST_CNT0_IGNORED.addr).bit = 54 := rfl
theorem blk_HOST_CNT1_GAPCLOSE : (blockOf F.HOST_CNT1_GAPCLOSE.addr).bit = 54 := rfl
theorem blk_HOST_CNT1_SEQREF : (blockOf F.HOST_CNT1_SEQREF.addr).bit = 54 := rfl
theorem blk_HOST_STAT_SESSIONS : (blockOf F.HOST_STAT_SESSIONS.addr).bit = 54 := rfl
theorem blk_HP_ENTRY_WORD (n w : Nat) : (blockOf (F.HP_ENTRY_WORD n w).addr).bit = 57 :=
  congrArg Block.bit (blockOf_can (by simp only [F.HP_ENTRY_WORD]; omega) (by simp only [F.HP_ENTRY_WORD]; omega))
theorem blk_ILM_ERR_ERR : (blockOf F.ILM_ERR_ERR.addr).bit = 48 := rfl
theorem blk_ILM_ERR_TERM : (blockOf F.ILM_ERR_TERM.addr).bit = 48 := rfl
theorem blk_ILM_HELD_BITS (k : Nat) : (blockOf (F.ILM_HELD_BITS k).addr).bit = 48 :=
  congrArg Block.bit (blockOf_ilm (by simp only [F.ILM_HELD_BITS]; omega) (by simp only [F.ILM_HELD_BITS]; omega))
theorem blk_ILM_LATA_BITS (k : Nat) : (blockOf (F.ILM_LATA_BITS k).addr).bit = 48 :=
  congrArg Block.bit (blockOf_ilm (by simp only [F.ILM_LATA_BITS]; omega) (by simp only [F.ILM_LATA_BITS]; omega))
theorem blk_ILM_LATB_BITS (k : Nat) : (blockOf (F.ILM_LATB_BITS k).addr).bit = 48 :=
  congrArg Block.bit (blockOf_ilm (by simp only [F.ILM_LATB_BITS]; omega) (by simp only [F.ILM_LATB_BITS]; omega))
theorem blk_ILM_LDSTAT_DEMOTED : (blockOf F.ILM_LDSTAT_DEMOTED.addr).bit = 48 := rfl
theorem blk_ILM_LDSTAT_GLOBAL : (blockOf F.ILM_LDSTAT_GLOBAL.addr).bit = 48 := rfl
theorem blk_ILM_LDSTAT_SET : (blockOf F.ILM_LDSTAT_SET.addr).bit = 48 := rfl
theorem blk_ILM_STAT_ACTIVE : (blockOf F.ILM_STAT_ACTIVE.addr).bit = 48 := rfl
theorem blk_ILM_STAT_DEMOTED : (blockOf F.ILM_STAT_DEMOTED.addr).bit = 48 := rfl
theorem blk_ILM_STAT_GLOBAL : (blockOf F.ILM_STAT_GLOBAL.addr).bit = 48 := rfl
theorem blk_ILM_STAT_LOADED : (blockOf F.ILM_STAT_LOADED.addr).bit = 48 := rfl
theorem blk_ILM_STAT_RESULT : (blockOf F.ILM_STAT_RESULT.addr).bit = 48 := rfl
theorem blk_ILM_STAT_SWAP_PEND : (blockOf F.ILM_STAT_SWAP_PEND.addr).bit = 48 := rfl
theorem blk_ILM_TERM_WORD (set t w : Nat) : (blockOf (F.ILM_TERM_WORD set t w).addr).bit = 48 :=
  congrArg Block.bit (blockOf_ilm (by simp only [F.ILM_TERM_WORD]; omega) (by simp only [F.ILM_TERM_WORD]; omega))
theorem blk_ILM_TRUE_BITS (k : Nat) : (blockOf (F.ILM_TRUE_BITS k).addr).bit = 48 :=
  congrArg Block.bit (blockOf_ilm (by simp only [F.ILM_TRUE_BITS]; omega) (by simp only [F.ILM_TRUE_BITS]; omega))
theorem blk_JNL_CTRL_EN : (blockOf F.JNL_CTRL_EN.addr).bit = 46 := rfl
theorem blk_JNL_CYCLE_CYCLE (k : Nat) : (blockOf (F.JNL_CYCLE_CYCLE k).addr).bit = 46 :=
  congrArg Block.bit (blockOf_jnl (by simp only [F.JNL_CYCLE_CYCLE]; omega) (by simp only [F.JNL_CYCLE_CYCLE]; omega))
theorem blk_JNL_DEVSIZE_SIZE0 : (blockOf F.JNL_DEVSIZE_SIZE0.addr).bit = 46 := rfl
theorem blk_JNL_DEVSIZE_SIZE1 : (blockOf F.JNL_DEVSIZE_SIZE1.addr).bit = 46 := rfl
theorem blk_JNL_DSIZE_BYTES : (blockOf F.JNL_DSIZE_BYTES.addr).bit = 46 := rfl
theorem blk_JNL_MERGE_COUNT : (blockOf F.JNL_MERGE_COUNT.addr).bit = 46 := rfl
theorem blk_JNL_RETAIN_BYTES : (blockOf F.JNL_RETAIN_BYTES.addr).bit = 46 := rfl
theorem blk_JNL_STAT_CHAIN_OK : (blockOf F.JNL_STAT_CHAIN_OK.addr).bit = 46 := rfl
theorem blk_JNL_STAT_CKPT_OK : (blockOf F.JNL_STAT_CKPT_OK.addr).bit = 46 := rfl
theorem blk_JNL_STAT_DEGRADED : (blockOf F.JNL_STAT_DEGRADED.addr).bit = 46 := rfl
theorem blk_JNL_STAT_DEV_OK : (blockOf F.JNL_STAT_DEV_OK.addr).bit = 46 := rfl
theorem blk_LE_ECC_CORR (n : Nat) : (blockOf (F.LE_ECC_CORR n).addr).bit = 59 :=
  congrArg Block.bit (blockOf_le (by simp only [F.LE_ECC_CORR]; omega) (by simp only [F.LE_ECC_CORR]; omega))
theorem blk_LE_ECC_UNCORR (n : Nat) : (blockOf (F.LE_ECC_UNCORR n).addr).bit = 59 :=
  congrArg Block.bit (blockOf_le (by simp only [F.LE_ECC_UNCORR]; omega) (by simp only [F.LE_ECC_UNCORR]; omega))
theorem blk_LE_EXC_CODE (n : Nat) : (blockOf (F.LE_EXC_CODE n).addr).bit = 59 :=
  congrArg Block.bit (blockOf_le (by simp only [F.LE_EXC_CODE]; omega) (by simp only [F.LE_EXC_CODE]; omega))
theorem blk_LE_EXC_PC (n : Nat) : (blockOf (F.LE_EXC_PC n).addr).bit = 59 :=
  congrArg Block.bit (blockOf_le (by simp only [F.LE_EXC_PC]; omega) (by simp only [F.LE_EXC_PC]; omega))
theorem blk_LE_EXC_SET (n : Nat) : (blockOf (F.LE_EXC_SET n).addr).bit = 59 :=
  congrArg Block.bit (blockOf_le (by simp only [F.LE_EXC_SET]; omega) (by simp only [F.LE_EXC_SET]; omega))
theorem blk_LE_EXC_SLOT (n : Nat) : (blockOf (F.LE_EXC_SLOT n).addr).bit = 59 :=
  congrArg Block.bit (blockOf_le (by simp only [F.LE_EXC_SLOT]; omega) (by simp only [F.LE_EXC_SLOT]; omega))
theorem blk_LE_IMPCFG_EN (n k : Nat) : (blockOf (F.LE_IMPCFG_EN n k).addr).bit = 59 :=
  congrArg Block.bit (blockOf_le (by simp only [F.LE_IMPCFG_EN]; omega) (by simp only [F.LE_IMPCFG_EN]; omega))
theorem blk_LE_PALACT_ACT (n m : Nat) : (blockOf (F.LE_PALACT_ACT n m).addr).bit = 59 :=
  congrArg Block.bit (blockOf_le (by simp only [F.LE_PALACT_ACT]; omega) (by simp only [F.LE_PALACT_ACT]; omega))
theorem blk_LE_PALREQ_REQ (n m : Nat) : (blockOf (F.LE_PALREQ_REQ n m).addr).bit = 59 :=
  congrArg Block.bit (blockOf_le (by simp only [F.LE_PALREQ_REQ]; omega) (by simp only [F.LE_PALREQ_REQ]; omega))
theorem blk_LE_SLOTCFG_EN (s : Nat) : (blockOf (F.LE_SLOTCFG_EN s).addr).bit = 59 :=
  congrArg Block.bit (blockOf_le (by simp only [F.LE_SLOTCFG_EN]; omega) (by simp only [F.LE_SLOTCFG_EN]; omega))
theorem blk_LE_SLOTFLG_SEQ (s : Nat) : (blockOf (F.LE_SLOTFLG_SEQ s).addr).bit = 59 :=
  congrArg Block.bit (blockOf_le (by simp only [F.LE_SLOTFLG_SEQ]; omega) (by simp only [F.LE_SLOTFLG_SEQ]; omega))
theorem blk_LE_SLOTSTAT_DLMISS (s : Nat) : (blockOf (F.LE_SLOTSTAT_DLMISS s).addr).bit = 59 :=
  congrArg Block.bit (blockOf_le (by simp only [F.LE_SLOTSTAT_DLMISS]; omega) (by simp only [F.LE_SLOTSTAT_DLMISS]; omega))
theorem blk_LE_SLOTSTAT_EXC (s : Nat) : (blockOf (F.LE_SLOTSTAT_EXC s).addr).bit = 59 :=
  congrArg Block.bit (blockOf_le (by simp only [F.LE_SLOTSTAT_EXC]; omega) (by simp only [F.LE_SLOTSTAT_EXC]; omega))
theorem blk_LE_SLOTSTAT_OV (s : Nat) : (blockOf (F.LE_SLOTSTAT_OV s).addr).bit = 59 :=
  congrArg Block.bit (blockOf_le (by simp only [F.LE_SLOTSTAT_OV]; omega) (by simp only [F.LE_SLOTSTAT_OV]; omega))
theorem blk_LE_SLOTSTAT_OVERRUNS (s : Nat) : (blockOf (F.LE_SLOTSTAT_OVERRUNS s).addr).bit = 59 :=
  congrArg Block.bit (blockOf_le (by simp only [F.LE_SLOTSTAT_OVERRUNS]; omega) (by simp only [F.LE_SLOTSTAT_OVERRUNS]; omega))
theorem blk_LE_SLOTSTAT_OWNV (s : Nat) : (blockOf (F.LE_SLOTSTAT_OWNV s).addr).bit = 59 :=
  congrArg Block.bit (blockOf_le (by simp only [F.LE_SLOTSTAT_OWNV]; omega) (by simp only [F.LE_SLOTSTAT_OWNV]; omega))
theorem blk_LE_SLOTSTAT_PENDING (s : Nat) : (blockOf (F.LE_SLOTSTAT_PENDING s).addr).bit = 59 :=
  congrArg Block.bit (blockOf_le (by simp only [F.LE_SLOTSTAT_PENDING]; omega) (by simp only [F.LE_SLOTSTAT_PENDING]; omega))
theorem blk_LE_SLOTSTAT_RUNAWAY (s : Nat) : (blockOf (F.LE_SLOTSTAT_RUNAWAY s).addr).bit = 59 :=
  congrArg Block.bit (blockOf_le (by simp only [F.LE_SLOTSTAT_RUNAWAY]; omega) (by simp only [F.LE_SLOTSTAT_RUNAWAY]; omega))
theorem blk_LE_SLOTSTAT_SV (s : Nat) : (blockOf (F.LE_SLOTSTAT_SV s).addr).bit = 59 :=
  congrArg Block.bit (blockOf_le (by simp only [F.LE_SLOTSTAT_SV]; omega) (by simp only [F.LE_SLOTSTAT_SV]; omega))
theorem blk_LE_SLOTTIME_LAST (s : Nat) : (blockOf (F.LE_SLOTTIME_LAST s).addr).bit = 59 :=
  congrArg Block.bit (blockOf_le (by simp only [F.LE_SLOTTIME_LAST]; omega) (by simp only [F.LE_SLOTTIME_LAST]; omega))
theorem blk_LE_SLOTTIME_MAX (s : Nat) : (blockOf (F.LE_SLOTTIME_MAX s).addr).bit = 59 :=
  congrArg Block.bit (blockOf_le (by simp only [F.LE_SLOTTIME_MAX]; omega) (by simp only [F.LE_SLOTTIME_MAX]; omega))
theorem blk_LG_CTRL_EN (n : Nat) : (blockOf (F.LG_CTRL_EN n).addr).bit = 41 :=
  congrArg Block.bit (blockOf_clk (by simp only [F.LG_CTRL_EN]; omega) (by simp only [F.LG_CTRL_EN]; omega))
theorem blk_LG_STAT_ACTIVE (n : Nat) : (blockOf (F.LG_STAT_ACTIVE n).addr).bit = 41 :=
  congrArg Block.bit (blockOf_clk (by simp only [F.LG_STAT_ACTIVE]; omega) (by simp only [F.LG_STAT_ACTIVE]; omega))
theorem blk_LG_STAT_MEMBERS (n : Nat) : (blockOf (F.LG_STAT_MEMBERS n).addr).bit = 41 :=
  congrArg Block.bit (blockOf_clk (by simp only [F.LG_STAT_MEMBERS]; omega) (by simp only [F.LG_STAT_MEMBERS]; omega))
theorem blk_LG_STAT_RETRIG_DROP (n : Nat) : (blockOf (F.LG_STAT_RETRIG_DROP n).addr).bit = 41 :=
  congrArg Block.bit (blockOf_clk (by simp only [F.LG_STAT_RETRIG_DROP]; omega) (by simp only [F.LG_STAT_RETRIG_DROP]; omega))
theorem blk_MISSED_TRIG_COUNT (u : Nat) : (blockOf (F.MISSED_TRIG_COUNT u).addr).bit = 52 :=
  congrArg Block.bit (blockOf_recorder (by simp only [F.MISSED_TRIG_COUNT]; omega) (by simp only [F.MISSED_TRIG_COUNT]; omega))
theorem blk_NET_STAT_LINK_UP (p : Nat) : (blockOf (F.NET_STAT_LINK_UP p).addr).bit = 55 :=
  congrArg Block.bit (blockOf_net (by simp only [F.NET_STAT_LINK_UP]; omega) (by simp only [F.NET_STAT_LINK_UP]; omega))
theorem blk_NET_STAT_SPEED10G (p : Nat) : (blockOf (F.NET_STAT_SPEED10G p).addr).bit = 55 :=
  congrArg Block.bit (blockOf_net (by simp only [F.NET_STAT_SPEED10G]; omega) (by simp only [F.NET_STAT_SPEED10G]; omega))
theorem blk_NVME_CNT_NVME_FAIL : (blockOf F.NVME_CNT_NVME_FAIL.addr).bit = 56 := rfl
theorem blk_NVME_CNT_RETRY : (blockOf F.NVME_CNT_RETRY.addr).bit = 56 := rfl
theorem blk_OBJ_STAT_COLL (n m : Nat) : (blockOf (F.OBJ_STAT_COLL n m).addr).bit = 57 :=
  congrArg Block.bit (blockOf_can (by simp only [F.OBJ_STAT_COLL]; omega) (by simp only [F.OBJ_STAT_COLL]; omega))
theorem blk_OBJ_STAT_COLLISION (n m : Nat) : (blockOf (F.OBJ_STAT_COLLISION n m).addr).bit = 57 :=
  congrArg Block.bit (blockOf_can (by simp only [F.OBJ_STAT_COLLISION]; omega) (by simp only [F.OBJ_STAT_COLLISION]; omega))
theorem blk_OBJ_STAT_TXCODE (n m : Nat) : (blockOf (F.OBJ_STAT_TXCODE n m).addr).bit = 57 :=
  congrArg Block.bit (blockOf_can (by simp only [F.OBJ_STAT_TXCODE]; omega) (by simp only [F.OBJ_STAT_TXCODE]; omega))
theorem blk_OBJ_STAT_TXREQ (n m : Nat) : (blockOf (F.OBJ_STAT_TXREQ n m).addr).bit = 57 :=
  congrArg Block.bit (blockOf_can (by simp only [F.OBJ_STAT_TXREQ]; omega) (by simp only [F.OBJ_STAT_TXREQ]; omega))
theorem blk_PART_HBMISS_COUNT : (blockOf F.PART_HBMISS_COUNT.addr).bit = 50 := rfl
theorem blk_PART_STAT_EPOCH : (blockOf F.PART_STAT_EPOCH.addr).bit = 50 := rfl
theorem blk_PART_STAT_LAG : (blockOf F.PART_STAT_LAG.addr).bit = 50 := rfl
theorem blk_PART_STAT_LINK_UP : (blockOf F.PART_STAT_LINK_UP.addr).bit = 50 := rfl
theorem blk_PART_STAT_PARTNER : (blockOf F.PART_STAT_PARTNER.addr).bit = 50 := rfl
theorem blk_PART_STAT_SYNC : (blockOf F.PART_STAT_SYNC.addr).bit = 50 := rfl
theorem blk_PART_STAT_TOOK_OVER : (blockOf F.PART_STAT_TOOK_OVER.addr).bit = 50 := rfl
theorem blk_PART_STAT_YIELDED : (blockOf F.PART_STAT_YIELDED.addr).bit = 50 := rfl
theorem blk_PCIE_STAT_GEN : (blockOf F.PCIE_STAT_GEN.addr).bit = 56 := rfl
theorem blk_PCIE_STAT_LINK_UP : (blockOf F.PCIE_STAT_LINK_UP.addr).bit = 56 := rfl
theorem blk_PCIE_STAT_NVME_READY : (blockOf F.PCIE_STAT_NVME_READY.addr).bit = 56 := rfl
theorem blk_PCIE_STAT_PAUSED : (blockOf F.PCIE_STAT_PAUSED.addr).bit = 56 := rfl
theorem blk_PCIE_STAT_WIDTH : (blockOf F.PCIE_STAT_WIDTH.addr).bit = 56 := rfl
theorem blk_POS_H (n : Nat) : (blockOf (F.POS_H n).addr).bit = 61 :=
  congrArg Block.bit (blockOf_mot (by simp only [F.POS_H]; omega) (by simp only [F.POS_H]; omega))
theorem blk_POS_L (n : Nat) : (blockOf (F.POS_L n).addr).bit = 61 :=
  congrArg Block.bit (blockOf_mot (by simp only [F.POS_L]; omega) (by simp only [F.POS_L]; omega))
theorem blk_PP_MOVING_MOVING (m : Nat) : (blockOf (F.PP_MOVING_MOVING m).addr).bit = 60 :=
  congrArg Block.bit (blockOf_pp (by simp only [F.PP_MOVING_MOVING]; omega) (by simp only [F.PP_MOVING_MOVING]; omega))
theorem blk_PP_STAT_REPLANS : (blockOf F.PP_STAT_REPLANS.addr).bit = 60 := rfl
theorem blk_RCP_ACTIVE_ACTIVE : (blockOf F.RCP_ACTIVE_ACTIVE.addr).bit = 53 := rfl
theorem blk_RCP_SUSP_SUSP : (blockOf F.RCP_SUSP_SUSP.addr).bit = 53 := rfl
theorem blk_RECORDS_COUNT (u : Nat) : (blockOf (F.RECORDS_COUNT u).addr).bit = 52 :=
  congrArg Block.bit (blockOf_recorder (by simp only [F.RECORDS_COUNT]; omega) (by simp only [F.RECORDS_COUNT]; omega))
theorem blk_REC_CFGGEN_GEN : (blockOf F.REC_CFGGEN_GEN.addr).bit = 52 := rfl
theorem blk_REC_LADDER_DEC_PRI : (blockOf F.REC_LADDER_DEC_PRI.addr).bit = 52 := rfl
theorem blk_REC_LADDER_STEPS : (blockOf F.REC_LADDER_STEPS.addr).bit = 52 := rfl
theorem blk_REC_LADDER_SUSP_PRI : (blockOf F.REC_LADDER_SUSP_PRI.addr).bit = 52 := rfl
theorem blk_REC_RATE_MBPS : (blockOf F.REC_RATE_MBPS.addr).bit = 52 := rfl
theorem blk_REC_SCFG_EFF_EXP (m : Nat) : (blockOf (F.REC_SCFG_EFF_EXP m).addr).bit = 52 :=
  congrArg Block.bit (blockOf_recorder (by simp only [F.REC_SCFG_EFF_EXP]; omega) (by simp only [F.REC_SCFG_EFF_EXP]; omega))
theorem blk_REC_SCFG_EN (m : Nat) : (blockOf (F.REC_SCFG_EN m).addr).bit = 52 :=
  congrArg Block.bit (blockOf_recorder (by simp only [F.REC_SCFG_EN]; omega) (by simp only [F.REC_SCFG_EN]; omega))
theorem blk_REC_SCFG_SUSP (m : Nat) : (blockOf (F.REC_SCFG_SUSP m).addr).bit = 52 :=
  congrArg Block.bit (blockOf_recorder (by simp only [F.REC_SCFG_SUSP]; omega) (by simp only [F.REC_SCFG_SUSP]; omega))
theorem blk_REC_SSRC_HANDLE (m : Nat) : (blockOf (F.REC_SSRC_HANDLE m).addr).bit = 52 :=
  congrArg Block.bit (blockOf_recorder (by simp only [F.REC_SSRC_HANDLE]; omega) (by simp only [F.REC_SSRC_HANDLE]; omega))
theorem blk_REM_H (n : Nat) : (blockOf (F.REM_H n).addr).bit = 61 :=
  congrArg Block.bit (blockOf_mot (by simp only [F.REM_H]; omega) (by simp only [F.REM_H]; omega))
theorem blk_REM_L (n : Nat) : (blockOf (F.REM_L n).addr).bit = 61 :=
  congrArg Block.bit (blockOf_mot (by simp only [F.REM_L]; omega) (by simp only [F.REM_L]; omega))
theorem blk_RG_STAT_FAULT (r : Nat) : (blockOf (F.RG_STAT_FAULT r).addr).bit = 62 :=
  congrArg Block.bit (blockOf_fd (by simp only [F.RG_STAT_FAULT]; omega) (by simp only [F.RG_STAT_FAULT]; omega))
theorem blk_RG_STAT_FAULT_SEEN (r : Nat) : (blockOf (F.RG_STAT_FAULT_SEEN r).addr).bit = 62 :=
  congrArg Block.bit (blockOf_fd (by simp only [F.RG_STAT_FAULT_SEEN]; omega) (by simp only [F.RG_STAT_FAULT_SEEN]; omega))
theorem blk_RG_STAT_ISUM (r : Nat) : (blockOf (F.RG_STAT_ISUM r).addr).bit = 62 :=
  congrArg Block.bit (blockOf_fd (by simp only [F.RG_STAT_ISUM]; omega) (by simp only [F.RG_STAT_ISUM]; omega))
theorem blk_RG_STAT_TRIPPED (r : Nat) : (blockOf (F.RG_STAT_TRIPPED r).addr).bit = 62 :=
  congrArg Block.bit (blockOf_fd (by simp only [F.RG_STAT_TRIPPED]; omega) (by simp only [F.RG_STAT_TRIPPED]; omega))
theorem blk_RG_STAT_TRIPS (r : Nat) : (blockOf (F.RG_STAT_TRIPS r).addr).bit = 62 :=
  congrArg Block.bit (blockOf_fd (by simp only [F.RG_STAT_TRIPS]; omega) (by simp only [F.RG_STAT_TRIPS]; omega))
theorem blk_RS_CFG_TBL (n : Nat) : (blockOf (F.RS_CFG_TBL n).addr).bit = 53 :=
  congrArg Block.bit (blockOf_rcp (by simp only [F.RS_CFG_TBL]; omega) (by simp only [F.RS_CFG_TBL]; omega))
theorem blk_RS_ERR_ERR (n : Nat) : (blockOf (F.RS_ERR_ERR n).addr).bit = 53 :=
  congrArg Block.bit (blockOf_rcp (by simp only [F.RS_ERR_ERR]; omega) (by simp only [F.RS_ERR_ERR]; omega))
theorem blk_RS_ERR_STEP (n : Nat) : (blockOf (F.RS_ERR_STEP n).addr).bit = 53 :=
  congrArg Block.bit (blockOf_rcp (by simp only [F.RS_ERR_STEP]; omega) (by simp only [F.RS_ERR_STEP]; omega))
theorem blk_RS_STAT_CODE (n : Nat) : (blockOf (F.RS_STAT_CODE n).addr).bit = 53 :=
  congrArg Block.bit (blockOf_rcp (by simp only [F.RS_STAT_CODE]; omega) (by simp only [F.RS_STAT_CODE]; omega))
theorem blk_RS_STAT_RAMP_ACT (n : Nat) : (blockOf (F.RS_STAT_RAMP_ACT n).addr).bit = 53 :=
  congrArg Block.bit (blockOf_rcp (by simp only [F.RS_STAT_RAMP_ACT]; omega) (by simp only [F.RS_STAT_RAMP_ACT]; omega))
theorem blk_RS_STAT_RESULT (n : Nat) : (blockOf (F.RS_STAT_RESULT n).addr).bit = 53 :=
  congrArg Block.bit (blockOf_rcp (by simp only [F.RS_STAT_RESULT]; omega) (by simp only [F.RS_STAT_RESULT]; omega))
theorem blk_RS_STAT_STATE (n : Nat) : (blockOf (F.RS_STAT_STATE n).addr).bit = 53 :=
  congrArg Block.bit (blockOf_rcp (by simp only [F.RS_STAT_STATE]; omega) (by simp only [F.RS_STAT_STATE]; omega))
theorem blk_RS_STEP_ACT (n : Nat) : (blockOf (F.RS_STEP_ACT n).addr).bit = 53 :=
  congrArg Block.bit (blockOf_rcp (by simp only [F.RS_STEP_ACT]; omega) (by simp only [F.RS_STEP_ACT]; omega))
theorem blk_RS_STEP_PREV (n : Nat) : (blockOf (F.RS_STEP_PREV n).addr).bit = 53 :=
  congrArg Block.bit (blockOf_rcp (by simp only [F.RS_STEP_PREV]; omega) (by simp only [F.RS_STEP_PREV]; omega))
theorem blk_RS_STEP_STEP (n : Nat) : (blockOf (F.RS_STEP_STEP n).addr).bit = 53 :=
  congrArg Block.bit (blockOf_rcp (by simp only [F.RS_STEP_STEP]; omega) (by simp only [F.RS_STEP_STEP]; omega))
theorem blk_SAFE_ACTIVE_CRC : (blockOf F.SAFE_ACTIVE_CRC.addr).bit = 51 := rfl
theorem blk_SAFE_BHTDEV_COUNTS : (blockOf F.SAFE_BHTDEV_COUNTS.addr).bit = 51 := rfl
theorem blk_SAFE_BHT_BHT_DUE : (blockOf F.SAFE_BHT_BHT_DUE.addr).bit = 51 := rfl
theorem blk_SAFE_BHT_BRK_FAIL : (blockOf F.SAFE_BHT_BRK_FAIL.addr).bit = 51 := rfl
theorem blk_SAFE_BHT_RESULT : (blockOf F.SAFE_BHT_RESULT.addr).bit = 51 := rfl
theorem blk_SAFE_BHT_RUNNING : (blockOf F.SAFE_BHT_RUNNING.addr).bit = 51 := rfl
theorem blk_SAFE_BHT_SBC : (blockOf F.SAFE_BHT_SBC.addr).bit = 51 := rfl
theorem blk_SAFE_BLOCK_WORD (w : Nat) : (blockOf (F.SAFE_BLOCK_WORD w).addr).bit = 51 :=
  congrArg Block.bit (blockOf_safe (by simp only [F.SAFE_BLOCK_WORD]; omega) (by simp only [F.SAFE_BLOCK_WORD]; omega))
theorem blk_SAFE_CHECK_CRC : (blockOf F.SAFE_CHECK_CRC.addr).bit = 51 := rfl
theorem blk_SAFE_CMDSTAT_BADOFS : (blockOf F.SAFE_CMDSTAT_BADOFS.addr).bit = 51 := rfl
theorem blk_SAFE_CMDSTAT_CODE : (blockOf F.SAFE_CMDSTAT_CODE.addr).bit = 51 := rfl
theorem blk_SAFE_CMDSTAT_RESULT : (blockOf F.SAFE_CMDSTAT_RESULT.addr).bit = 51 := rfl
theorem blk_SAFE_OUT_ENERG : (blockOf F.SAFE_OUT_ENERG.addr).bit = 51 := rfl
theorem blk_SAFE_OUT_HELD : (blockOf F.SAFE_OUT_HELD.addr).bit = 51 := rfl
theorem blk_SAFE_OUT_N_LO : (blockOf F.SAFE_OUT_N_LO.addr).bit = 51 := rfl
theorem blk_SAFE_OUT_P_HI : (blockOf F.SAFE_OUT_P_HI.addr).bit = 51 := rfl
theorem blk_SAFE_PEND_WORD (w : Nat) : (blockOf (F.SAFE_PEND_WORD w).addr).bit = 51 :=
  congrArg Block.bit (blockOf_safe (by simp only [F.SAFE_PEND_WORD]; omega) (by simp only [F.SAFE_PEND_WORD]; omega))
theorem blk_SAFE_REQ_REQ : (blockOf F.SAFE_REQ_REQ.addr).bit = 51 := rfl
theorem blk_SAFE_RST_ACCEPTED : (blockOf F.SAFE_RST_ACCEPTED.addr).bit = 51 := rfl
theorem blk_SAFE_RST_LAST_REJ : (blockOf F.SAFE_RST_LAST_REJ.addr).bit = 51 := rfl
theorem blk_SAFE_RST_REJECTS : (blockOf F.SAFE_RST_REJECTS.addr).bit = 51 := rfl
theorem blk_SAFE_STAT_ARG : (blockOf F.SAFE_STAT_ARG.addr).bit = 51 := rfl
theorem blk_SAFE_STAT_CONF_OPEN : (blockOf F.SAFE_STAT_CONF_OPEN.addr).bit = 51 := rfl
theorem blk_SAFE_STAT_PAIR_CLOSED : (blockOf F.SAFE_STAT_PAIR_CLOSED.addr).bit = 51 := rfl
theorem blk_SAFE_STAT_PAIR_DISC : (blockOf F.SAFE_STAT_PAIR_DISC.addr).bit = 51 := rfl
theorem blk_SAFE_STAT_REASON : (blockOf F.SAFE_STAT_REASON.addr).bit = 51 := rfl
theorem blk_SAFE_STAT_SOFF : (blockOf F.SAFE_STAT_SOFF.addr).bit = 51 := rfl
theorem blk_SAFE_STAT_STATE : (blockOf F.SAFE_STAT_STATE.addr).bit = 51 := rfl
theorem blk_SAFE_TEST_INCONCL : (blockOf F.SAFE_TEST_INCONCL.addr).bit = 51 := rfl
theorem blk_SAFE_TEST_PULSES : (blockOf F.SAFE_TEST_PULSES.addr).bit = 51 := rfl
theorem blk_SCAN_STAT_FORCE_ACT : (blockOf F.SCAN_STAT_FORCE_ACT.addr).bit = 40 := rfl
theorem blk_SCAN_STAT_FORCE_COUNT : (blockOf F.SCAN_STAT_FORCE_COUNT.addr).bit = 40 := rfl
theorem blk_SCAN_STAT_TCMD_RESULT : (blockOf F.SCAN_STAT_TCMD_RESULT.addr).bit = 40 := rfl
theorem blk_SEAL_STAT_FAIL (d : Nat) : (blockOf (F.SEAL_STAT_FAIL d).addr).bit = 62 :=
  congrArg Block.bit (blockOf_fd (by simp only [F.SEAL_STAT_FAIL]; omega) (by simp only [F.SEAL_STAT_FAIL]; omega))
theorem blk_SEAL_STAT_FUSE_CNT (d : Nat) : (blockOf (F.SEAL_STAT_FUSE_CNT d).addr).bit = 62 :=
  congrArg Block.bit (blockOf_fd (by simp only [F.SEAL_STAT_FUSE_CNT]; omega) (by simp only [F.SEAL_STAT_FUSE_CNT]; omega))
theorem blk_SEAL_STAT_SEAL_CNT (d : Nat) : (blockOf (F.SEAL_STAT_SEAL_CNT d).addr).bit = 62 :=
  congrArg Block.bit (blockOf_fd (by simp only [F.SEAL_STAT_SEAL_CNT]; omega) (by simp only [F.SEAL_STAT_SEAL_CNT]; omega))
theorem blk_SEAL_STAT_SIGNER (d : Nat) : (blockOf (F.SEAL_STAT_SIGNER d).addr).bit = 62 :=
  congrArg Block.bit (blockOf_fd (by simp only [F.SEAL_STAT_SIGNER]; omega) (by simp only [F.SEAL_STAT_SIGNER]; omega))
theorem blk_SEC_ARB_VALUE (k : Nat) : (blockOf (F.SEC_ARB_VALUE k).addr).bit = 42 :=
  congrArg Block.bit (blockOf_sec (by simp only [F.SEC_ARB_VALUE]; omega) (by simp only [F.SEC_ARB_VALUE]; omega))
theorem blk_SEC_CMDSTAT_CODE : (blockOf F.SEC_CMDSTAT_CODE.addr).bit = 42 := rfl
theorem blk_SEC_CMDSTAT_RESULT : (blockOf F.SEC_CMDSTAT_RESULT.addr).bit = 42 := rfl
theorem blk_SEC_REPORT_WORD (w : Nat) : (blockOf (F.SEC_REPORT_WORD w).addr).bit = 42 :=
  congrArg Block.bit (blockOf_sec (by simp only [F.SEC_REPORT_WORD]; omega) (by simp only [F.SEC_REPORT_WORD]; omega))
theorem blk_SEC_STAT_PROGRAMMED : (blockOf F.SEC_STAT_PROGRAMMED.addr).bit = 42 := rfl
theorem blk_SEC_STAT_REVOKED : (blockOf F.SEC_STAT_REVOKED.addr).bit = 42 := rfl
theorem blk_SEC_STAT_VRES : (blockOf F.SEC_STAT_VRES.addr).bit = 42 := rfl
theorem blk_SEQ_H_SEQ (u : Nat) : (blockOf (F.SEQ_H_SEQ u).addr).bit = 52 :=
  congrArg Block.bit (blockOf_recorder (by simp only [F.SEQ_H_SEQ]; omega) (by simp only [F.SEQ_H_SEQ]; omega))
theorem blk_SEQ_L_SEQ (u : Nat) : (blockOf (F.SEQ_L_SEQ u).addr).bit = 52 :=
  congrArg Block.bit (blockOf_recorder (by simp only [F.SEQ_L_SEQ]; omega) (by simp only [F.SEQ_L_SEQ]; omega))
theorem blk_SL_CNT_BADFRM (n : Nat) : (blockOf (F.SL_CNT_BADFRM n).addr).bit = 58 :=
  congrArg Block.bit (blockOf_sl (by simp only [F.SL_CNT_BADFRM]; omega) (by simp only [F.SL_CNT_BADFRM]; omega))
theorem blk_SL_CNT_LOSTCYC (n : Nat) : (blockOf (F.SL_CNT_LOSTCYC n).addr).bit = 58 :=
  congrArg Block.bit (blockOf_sl (by simp only [F.SL_CNT_LOSTCYC]; omega) (by simp only [F.SL_CNT_LOSTCYC]; omega))
theorem blk_SL_CTRL_EN (n : Nat) : (blockOf (F.SL_CTRL_EN n).addr).bit = 58 :=
  congrArg Block.bit (blockOf_sl (by simp only [F.SL_CTRL_EN]; omega) (by simp only [F.SL_CTRL_EN]; omega))
theorem blk_SL_MBXSTAT_OVF (n : Nat) : (blockOf (F.SL_MBXSTAT_OVF n).addr).bit = 58 :=
  congrArg Block.bit (blockOf_sl (by simp only [F.SL_MBXSTAT_OVF]; omega) (by simp only [F.SL_MBXSTAT_OVF]; omega))
theorem blk_SL_MBXSTAT_TAG (n : Nat) : (blockOf (F.SL_MBXSTAT_TAG n).addr).bit = 58 :=
  congrArg Block.bit (blockOf_sl (by simp only [F.SL_MBXSTAT_TAG]; omega) (by simp only [F.SL_MBXSTAT_TAG]; omega))
theorem blk_SL_ONLINE_ONLINE (n k : Nat) : (blockOf (F.SL_ONLINE_ONLINE n k).addr).bit = 58 :=
  congrArg Block.bit (blockOf_sl (by simp only [F.SL_ONLINE_ONLINE]; omega) (by simp only [F.SL_ONLINE_ONLINE]; omega))
theorem blk_SL_RX_RX_CLOSE (n : Nat) : (blockOf (F.SL_RX_RX_CLOSE n).addr).bit = 58 :=
  congrArg Block.bit (blockOf_sl (by simp only [F.SL_RX_RX_CLOSE]; omega) (by simp only [F.SL_RX_RX_CLOSE]; omega))
theorem blk_SL_STAT_ERR (n : Nat) : (blockOf (F.SL_STAT_ERR n).addr).bit = 58 :=
  congrArg Block.bit (blockOf_sl (by simp only [F.SL_STAT_ERR]; omega) (by simp only [F.SL_STAT_ERR]; omega))
theorem blk_SL_STAT_FOUND (n : Nat) : (blockOf (F.SL_STAT_FOUND n).addr).bit = 58 :=
  congrArg Block.bit (blockOf_sl (by simp only [F.SL_STAT_FOUND]; omega) (by simp only [F.SL_STAT_FOUND]; omega))
theorem blk_SL_STAT_PROV (n : Nat) : (blockOf (F.SL_STAT_PROV n).addr).bit = 58 :=
  congrArg Block.bit (blockOf_sl (by simp only [F.SL_STAT_PROV]; omega) (by simp only [F.SL_STAT_PROV]; omega))
theorem blk_SL_STAT_RING_BROKEN (n : Nat) : (blockOf (F.SL_STAT_RING_BROKEN n).addr).bit = 58 :=
  congrArg Block.bit (blockOf_sl (by simp only [F.SL_STAT_RING_BROKEN]; omega) (by simp only [F.SL_STAT_RING_BROKEN]; omega))
theorem blk_SL_STAT_STATE (n : Nat) : (blockOf (F.SL_STAT_STATE n).addr).bit = 58 :=
  congrArg Block.bit (blockOf_sl (by simp only [F.SL_STAT_STATE]; omega) (by simp only [F.SL_STAT_STATE]; omega))
theorem blk_SNAP_D0_H_VALUE : (blockOf F.SNAP_D0_H_VALUE.addr).bit = 47 := rfl
theorem blk_SNAP_D0_L_VALUE : (blockOf F.SNAP_D0_L_VALUE.addr).bit = 47 := rfl
theorem blk_SNAP_D1_H_VALUE : (blockOf F.SNAP_D1_H_VALUE.addr).bit = 47 := rfl
theorem blk_SNAP_D1_L_VALUE : (blockOf F.SNAP_D1_L_VALUE.addr).bit = 47 := rfl
theorem blk_SNAP_DL_H_VALUE : (blockOf F.SNAP_DL_H_VALUE.addr).bit = 47 := rfl
theorem blk_SNAP_DL_L_VALUE : (blockOf F.SNAP_DL_L_VALUE.addr).bit = 47 := rfl
theorem blk_SNAP_OT_H_VALUE : (blockOf F.SNAP_OT_H_VALUE.addr).bit = 47 := rfl
theorem blk_SNAP_OT_L_VALUE : (blockOf F.SNAP_OT_L_VALUE.addr).bit = 47 := rfl
theorem blk_SNAP_TBC_H_VALUE : (blockOf F.SNAP_TBC_H_VALUE.addr).bit = 47 := rfl
theorem blk_SNAP_TBC_L_VALUE : (blockOf F.SNAP_TBC_L_VALUE.addr).bit = 47 := rfl
theorem blk_STALL_STAT_ANGLE (n : Nat) : (blockOf (F.STALL_STAT_ANGLE n).addr).bit = 61 :=
  congrArg Block.bit (blockOf_mot (by simp only [F.STALL_STAT_ANGLE]; omega) (by simp only [F.STALL_STAT_ANGLE]; omega))
theorem blk_STALL_STAT_COUNT (n : Nat) : (blockOf (F.STALL_STAT_COUNT n).addr).bit = 61 :=
  congrArg Block.bit (blockOf_mot (by simp only [F.STALL_STAT_COUNT]; omega) (by simp only [F.STALL_STAT_COUNT]; omega))
theorem blk_STALL_STAT_E (n : Nat) : (blockOf (F.STALL_STAT_E n).addr).bit = 61 :=
  congrArg Block.bit (blockOf_mot (by simp only [F.STALL_STAT_E]; omega) (by simp only [F.STALL_STAT_E]; omega))
theorem blk_SYS_CFGSTAT_BITS (k : Nat) : (blockOf (F.SYS_CFGSTAT_BITS k).addr).bit = 40 :=
  congrArg Block.bit (blockOf_sys (by simp only [F.SYS_CFGSTAT_BITS]; omega) (by simp only [F.SYS_CFGSTAT_BITS]; omega))
theorem blk_SYS_CFGWARN_BITS (k : Nat) : (blockOf (F.SYS_CFGWARN_BITS k).addr).bit = 40 :=
  congrArg Block.bit (blockOf_sys (by simp only [F.SYS_CFGWARN_BITS]; omega) (by simp only [F.SYS_CFGWARN_BITS]; omega))
theorem blk_SYS_CMDSTAT_CODE : (blockOf F.SYS_CMDSTAT_CODE.addr).bit = 40 := rfl
theorem blk_SYS_CMDSTAT_RESULT : (blockOf F.SYS_CMDSTAT_RESULT.addr).bit = 40 := rfl
theorem blk_SYS_DAWN_TIME_DAWN_US : (blockOf F.SYS_DAWN_TIME_DAWN_US.addr).bit = 40 := rfl
theorem blk_SYS_FWSTAT_BANKS : (blockOf F.SYS_FWSTAT_BANKS.addr).bit = 40 := rfl
theorem blk_SYS_FWSTAT_BOOT : (blockOf F.SYS_FWSTAT_BOOT.addr).bit = 40 := rfl
theorem blk_SYS_FWSTAT_STATE : (blockOf F.SYS_FWSTAT_STATE.addr).bit = 40 := rfl
theorem blk_SYS_MODE_MODE : (blockOf F.SYS_MODE_MODE.addr).bit = 40 := rfl
theorem blk_SYS_OUTAGE_HI_TICKS_HI : (blockOf F.SYS_OUTAGE_HI_TICKS_HI.addr).bit = 40 := rfl
theorem blk_SYS_OUTAGE_LO_TICKS_LO : (blockOf F.SYS_OUTAGE_LO_TICKS_LO.addr).bit = 40 := rfl
theorem blk_SYS_RESTART_COLD_REASON : (blockOf F.SYS_RESTART_COLD_REASON.addr).bit = 40 := rfl
theorem blk_SYS_RESTART_DISCARDED : (blockOf F.SYS_RESTART_DISCARDED.addr).bit = 40 := rfl
theorem blk_SYS_RESTART_KIND : (blockOf F.SYS_RESTART_KIND.addr).bit = 40 := rfl
theorem blk_TASK_STAT_OVERRUNS (n : Nat) : (blockOf (F.TASK_STAT_OVERRUNS n).addr).bit = 40 :=
  congrArg Block.bit (blockOf_sys (by simp only [F.TASK_STAT_OVERRUNS]; omega) (by simp only [F.TASK_STAT_OVERRUNS]; omega))
theorem blk_TASK_STAT_OWNV (n : Nat) : (blockOf (F.TASK_STAT_OWNV n).addr).bit = 40 :=
  congrArg Block.bit (blockOf_sys (by simp only [F.TASK_STAT_OWNV]; omega) (by simp only [F.TASK_STAT_OWNV]; omega))
theorem blk_TASK_STAT_SKIPS (n : Nat) : (blockOf (F.TASK_STAT_SKIPS n).addr).bit = 40 :=
  congrArg Block.bit (blockOf_sys (by simp only [F.TASK_STAT_SKIPS]; omega) (by simp only [F.TASK_STAT_SKIPS]; omega))
theorem blk_TASK_TIME_LAST (n : Nat) : (blockOf (F.TASK_TIME_LAST n).addr).bit = 40 :=
  congrArg Block.bit (blockOf_sys (by simp only [F.TASK_TIME_LAST]; omega) (by simp only [F.TASK_TIME_LAST]; omega))
theorem blk_TASK_TIME_MAX (n : Nat) : (blockOf (F.TASK_TIME_MAX n).addr).bit = 40 :=
  congrArg Block.bit (blockOf_sys (by simp only [F.TASK_TIME_MAX]; omega) (by simp only [F.TASK_TIME_MAX]; omega))
theorem blk_TIME_CTRL_SLEW : (blockOf F.TIME_CTRL_SLEW.addr).bit = 47 := rfl
theorem blk_TIME_SEL_PREF : (blockOf F.TIME_SEL_PREF.addr).bit = 47 := rfl
theorem blk_TIME_STAT_CODE : (blockOf F.TIME_STAT_CODE.addr).bit = 47 := rfl
theorem blk_TIME_STAT_JEXCL : (blockOf F.TIME_STAT_JEXCL.addr).bit = 47 := rfl
theorem blk_TIME_STAT_OT_DOM : (blockOf F.TIME_STAT_OT_DOM.addr).bit = 47 := rfl
theorem blk_TIME_STAT_OT_VALID : (blockOf F.TIME_STAT_OT_VALID.addr).bit = 47 := rfl
theorem blk_TIME_STAT_RESULT : (blockOf F.TIME_STAT_RESULT.addr).bit = 47 := rfl
theorem blk_TIME_STAT_SW_REFUSED : (blockOf F.TIME_STAT_SW_REFUSED.addr).bit = 47 := rfl
theorem blk_TSO_CFG_EN (t : Nat) : (blockOf (F.TSO_CFG_EN t).addr).bit = 47 :=
  congrArg Block.bit (blockOf_time (by simp only [F.TSO_CFG_EN]; omega) (by simp only [F.TSO_CFG_EN]; omega))
theorem blk_TSO_IDX_COUNT (t : Nat) : (blockOf (F.TSO_IDX_COUNT t).addr).bit = 47 :=
  congrArg Block.bit (blockOf_time (by simp only [F.TSO_IDX_COUNT]; omega) (by simp only [F.TSO_IDX_COUNT]; omega))
theorem blk_TSO_MISS_COUNT (t : Nat) : (blockOf (F.TSO_MISS_COUNT t).addr).bit = 47 :=
  congrArg Block.bit (blockOf_time (by simp only [F.TSO_MISS_COUNT]; omega) (by simp only [F.TSO_MISS_COUNT]; omega))
theorem blk_UNIT_CFG_EN (u : Nat) : (blockOf (F.UNIT_CFG_EN u).addr).bit = 52 :=
  congrArg Block.bit (blockOf_recorder (by simp only [F.UNIT_CFG_EN]; omega) (by simp only [F.UNIT_CFG_EN]; omega))
theorem blk_UNIT_STAT_CODE (u : Nat) : (blockOf (F.UNIT_STAT_CODE u).addr).bit = 52 :=
  congrArg Block.bit (blockOf_recorder (by simp only [F.UNIT_STAT_CODE]; omega) (by simp only [F.UNIT_STAT_CODE]; omega))
theorem blk_UNIT_STAT_RESULT (u : Nat) : (blockOf (F.UNIT_STAT_RESULT u).addr).bit = 52 :=
  congrArg Block.bit (blockOf_recorder (by simp only [F.UNIT_STAT_RESULT]; omega) (by simp only [F.UNIT_STAT_RESULT]; omega))
theorem blk_UNIT_STAT_STATE (u : Nat) : (blockOf (F.UNIT_STAT_STATE u).addr).bit = 52 :=
  congrArg Block.bit (blockOf_recorder (by simp only [F.UNIT_STAT_STATE]; omega) (by simp only [F.UNIT_STAT_STATE]; omega))
theorem blk_USR_GAIN_GAIN (n r : Nat) : (blockOf (F.USR_GAIN_GAIN n r).addr).bit = 62 :=
  congrArg Block.bit (blockOf_fd (by simp only [F.USR_GAIN_GAIN]; omega) (by simp only [F.USR_GAIN_GAIN]; omega))
theorem blk_USR_OFS_OFS (n r : Nat) : (blockOf (F.USR_OFS_OFS n r).addr).bit = 62 :=
  congrArg Block.bit (blockOf_fd (by simp only [F.USR_OFS_OFS]; omega) (by simp only [F.USR_OFS_OFS]; omega))
theorem blk_VEL (n : Nat) : (blockOf (F.VEL n).addr).bit = 61 :=
  congrArg Block.bit (blockOf_mot (by simp only [F.VEL]; omega) (by simp only [F.VEL]; omega))
theorem blk_WIN_CFG_EN (n : Nat) : (blockOf (F.WIN_CFG_EN n).addr).bit = 62 :=
  congrArg Block.bit (blockOf_fd (by simp only [F.WIN_CFG_EN]; omega) (by simp only [F.WIN_CFG_EN]; omega))
theorem blk_ILATLOC (set k : Nat) : (blockOf (ilmLatLoc set k).addr).bit = 48 := by
  unfold ilmLatLoc; split
  · exact blk_ILM_LATA_BITS k
  · exact blk_ILM_LATB_BITS k

end Sys2Proof.Machine
end

