-- ==== Sys2Proof/Laws/FootEvl.lean ====
section
/-!
SUPPORT. Footprints of the operations of Machine/Evl.lean.
-/

set_option Elab.async false

set_option linter.all false

set_option maxRecDepth 4000

namespace Sys2Proof.Machine

theorem foot_evlWrite {m : Nat} {z t : State} (hs : 0x300 ||| m = m) (h : Foot m z t) (a0 : _) :
    Foot m z (State.evlWrite a0 t) := by
  refine Foot.step (m := 0x300) ?_ hs h
  clear h hs
  have h := Foot.refl 0x300 t
  unfold State.evlWrite
  repeat' first
    | with_reducible assumption
    | (intro x; first | clear_value x | skip)
    | lift_lets
    | with_reducible apply Foot.ite
    | ((with_reducible refine Foot.lit ?_ rfl rfl ?_ ?_ ?_ ?_ ?_ ?_); rotate_left; rfl; rfl; rfl; rfl; (first | exact Nat.le_refl _ | exact Nat.le_succ _); (constructor <;> first | with_reducible exact Kept.same | exact Kept.masked rfl); (first | with_reducible assumption | with_reducible apply Foot.ite))
    | split
    | dsimp only

theorem foot_evlCode {m : Nat} {z t : State} (hs : 0x300 ||| m = m) (h : Foot m z t) (a0 : _) (a1 : _) (a2 : _) (a3 : _) :
    Foot m z (State.evlCode a0 a1 a2 a3 t) := by
  refine Foot.step (m := 0x300) ?_ hs h
  clear h hs
  have h := Foot.refl 0x300 t
  unfold State.evlCode
  repeat' first
    | with_reducible assumption
    | (intro x; first | clear_value x | skip)
    | lift_lets
    | with_reducible refine foot_evlWrite rfl ?_ ..
    | with_reducible apply Foot.ite
    | ((with_reducible refine Foot.lit ?_ rfl rfl ?_ ?_ ?_ ?_ ?_ ?_); rotate_left; rfl; rfl; rfl; rfl; (first | exact Nat.le_refl _ | exact Nat.le_succ _); (constructor <;> first | with_reducible exact Kept.same | exact Kept.masked rfl); (first | with_reducible assumption | with_reducible refine foot_evlWrite rfl ?_ .. | with_reducible apply Foot.ite))
    | split
    | dsimp only

theorem foot_log {m : Nat} {z t : State} (hs : 0x300 ||| m = m) (h : Foot m z t) (a0 : _) (a1 : _) (a2 : _) :
    Foot m z (State.log a0 a1 a2 t) := by
  refine Foot.step (m := 0x300) ?_ hs h
  clear h hs
  have h := Foot.refl 0x300 t
  unfold State.log
  repeat' first
    | with_reducible assumption
    | (intro x; first | clear_value x | skip)
    | lift_lets
    | with_reducible refine foot_evlCode rfl ?_ ..
    | split
    | dsimp only

end Sys2Proof.Machine
end

