-- ==== Sys2Proof/Laws/FootSafeBase.lean ====
section
/-!
SUPPORT. Footprints of the operations of Machine/SafeBase.lean.
-/

set_option Elab.async false

set_option linter.all false

set_option maxRecDepth 4000

namespace Sys2Proof.Machine

theorem foot_modSbc {m : Nat} {z t : State} (hs : 0x20000 ||| m = m) (h : Foot m z t) (a0 : _) (a1 : _) :
    Foot m z (State.modSbc a0 a1 t) := by
  refine Foot.step (m := 0x20000) ?_ hs h
  clear h hs
  have h := Foot.refl 0x20000 t
  unfold State.modSbc
  repeat' first
    | with_reducible assumption
    | (intro x; first | clear_value x | skip)
    | lift_lets
    | ((with_reducible refine Foot.lit ?_ rfl rfl ?_ ?_ ?_ ?_ ?_ ?_); rotate_left; rfl; rfl; rfl; rfl; (first | exact Nat.le_refl _ | exact Nat.le_succ _); (constructor <;> first | with_reducible exact Kept.same | exact Kept.masked rfl); (first | with_reducible assumption))
    | split
    | dsimp only

theorem foot_sbcShow {m : Nat} {z t : State} (hs : 0x8000000000000 ||| m = m) (h : Foot m z t) (a0 : _) :
    Foot m z (State.sbcShow a0 t) := by
  refine Foot.step (m := 0x8000000000000) ?_ hs h
  clear h hs
  have h := Foot.refl 0x8000000000000 t
  unfold State.sbcShow
  repeat' first
    | with_reducible assumption
    | (intro x; first | clear_value x | skip)
    | lift_lets
    | with_reducible refine foot_setFbit (blk_SAFE_OUT_ENERG ..) rfl ?_ ..
    | with_reducible refine foot_setFbit (blk_SAFE_OUT_N_LO ..) rfl ?_ ..
    | with_reducible refine foot_setFbit (blk_SAFE_OUT_P_HI ..) rfl ?_ ..
    | split
    | dsimp only

theorem foot_sbcSet {m : Nat} {z t : State} (hs : 0x8000000020000 ||| m = m) (h : Foot m z t) (a0 : _) (a1 : _) (a2 : _) :
    Foot m z (State.sbcSet a0 a1 a2 t) := by
  refine Foot.step (m := 0x8000000020000) ?_ hs h
  clear h hs
  have h := Foot.refl 0x8000000020000 t
  unfold State.sbcSet
  repeat' first
    | with_reducible assumption
    | (intro x; first | (refine Foot.cut (P := Foot 0x8000000020000 t x) ?_ ?_; rotate_left; subst x; rotate_left; intro hx; clear_value x) | clear_value x | skip)
    | lift_lets
    | with_reducible refine foot_sbcShow rfl ?_ ..
    | with_reducible refine foot_modSbc rfl ?_ ..
    | with_reducible apply Foot.ite
    | split
    | dsimp only

theorem foot_sbcEngage {m : Nat} {z t : State} (hs : 0x8000000020000 ||| m = m) (h : Foot m z t) (a0 : _) (a1 : _) :
    Foot m z (State.sbcEngage a0 a1 t) := by
  refine Foot.step (m := 0x8000000020000) ?_ hs h
  clear h hs
  have h := Foot.refl 0x8000000020000 t
  unfold State.sbcEngage
  repeat' first
    | with_reducible assumption
    | (intro x; first | (refine Foot.cut (P := Foot 0x8000000020000 t x) ?_ ?_; rotate_left; subst x; rotate_left; intro hx; clear_value x) | clear_value x | skip)
    | lift_lets
    | with_reducible refine foot_modSbc rfl ?_ ..
    | with_reducible refine foot_sbcSet rfl ?_ ..
    | with_reducible refine foot_setFbit (blk_SAFE_TEST_INCONCL ..) rfl ?_ ..
    | with_reducible apply Foot.ite
    | ((with_reducible refine Foot.lit ?_ rfl rfl ?_ ?_ ?_ ?_ ?_ ?_); rotate_left; rfl; rfl; rfl; rfl; (first | exact Nat.le_refl _ | exact Nat.le_succ _); (constructor <;> first | with_reducible exact Kept.same | exact Kept.masked rfl); (first | with_reducible assumption | with_reducible refine foot_modSbc rfl ?_ .. | with_reducible refine foot_sbcSet rfl ?_ .. | with_reducible refine foot_setFbit (blk_SAFE_TEST_INCONCL ..) rfl ?_ .. | with_reducible apply Foot.ite))
    | split
    | dsimp only

theorem foot_bhtZero {m : Nat} {z t : State} (hs : 0x80000 ||| m = m) (h : Foot m z t) (a0 : _) :
    Foot m z (State.bhtZero a0 t) := by
  refine Foot.step (m := 0x80000) ?_ hs h
  clear h hs
  have h := Foot.refl 0x80000 t
  unfold State.bhtZero
  repeat' first
    | with_reducible assumption
    | (intro x; first | clear_value x | skip)
    | lift_lets
    | with_reducible refine Foot.forL (fun _ _ _ => ?_) ?_
    | ((with_reducible refine Foot.lit ?_ rfl rfl ?_ ?_ ?_ ?_ ?_ ?_); rotate_left; rfl; rfl; rfl; rfl; (first | exact Nat.le_refl _ | exact Nat.le_succ _); (constructor <;> first | with_reducible exact Kept.same | exact Kept.masked rfl); (first | with_reducible assumption | with_reducible refine Foot.forL (fun _ _ _ => ?_) ?_))
    | split
    | dsimp only

theorem foot_bhtEnd {m : Nat} {z t : State} (hs : 0x80000000a0000 ||| m = m) (h : Foot m z t) (a0 : _) :
    Foot m z (State.bhtEnd a0 t) := by
  refine Foot.step (m := 0x80000000a0000) ?_ hs h
  clear h hs
  have h := Foot.refl 0x80000000a0000 t
  unfold State.bhtEnd
  repeat' first
    | with_reducible assumption
    | (intro x; first | (refine Foot.cut (P := Foot 0x80000000a0000 t x) ?_ ?_; rotate_left; subst x; rotate_left; intro hx; clear_value x) | clear_value x | skip)
    | lift_lets
    | with_reducible refine foot_bhtZero rfl ?_ ..
    | with_reducible refine foot_setFld (blk_SAFE_BHT_RESULT ..) rfl ?_ ..
    | with_reducible refine foot_setFld (blk_SAFE_BHT_RUNNING ..) rfl ?_ ..
    | with_reducible refine foot_setFld (blk_SAFE_CMDSTAT_RESULT ..) rfl ?_ ..
    | with_reducible refine foot_setFlag (blk_SAFE_BHT_RESULT ..) rfl ?_ ..
    | with_reducible refine foot_setFlag (blk_SAFE_BHT_RUNNING ..) rfl ?_ ..
    | with_reducible refine foot_setFlag (blk_SAFE_CMDSTAT_RESULT ..) rfl ?_ ..
    | with_reducible apply Foot.ite
    | ((with_reducible refine Foot.lit ?_ rfl rfl ?_ ?_ ?_ ?_ ?_ ?_); rotate_left; rfl; rfl; rfl; rfl; (first | exact Nat.le_refl _ | exact Nat.le_succ _); (constructor <;> first | with_reducible exact Kept.same | exact Kept.masked rfl); (first | with_reducible assumption | with_reducible refine foot_bhtZero rfl ?_ .. | with_reducible refine foot_setFld (blk_SAFE_BHT_RESULT ..) rfl ?_ .. | with_reducible refine foot_setFld (blk_SAFE_BHT_RUNNING ..) rfl ?_ .. | with_reducible refine foot_setFld (blk_SAFE_CMDSTAT_RESULT ..) rfl ?_ .. | with_reducible refine foot_setFlag (blk_SAFE_BHT_RESULT ..) rfl ?_ .. | with_reducible refine foot_setFlag (blk_SAFE_BHT_RUNNING ..) rfl ?_ .. | with_reducible refine foot_setFlag (blk_SAFE_CMDSTAT_RESULT ..) rfl ?_ .. | with_reducible apply Foot.ite))
    | split
    | dsimp only

theorem foot_bhtInconclusive {m : Nat} {z t : State} (hs : 0x80000000a0000 ||| m = m) (h : Foot m z t) :
    Foot m z (State.bhtInconclusive t) := by
  refine Foot.step (m := 0x80000000a0000) ?_ hs h
  clear h hs
  have h := Foot.refl 0x80000000a0000 t
  unfold State.bhtInconclusive
  repeat' first
    | with_reducible assumption
    | (intro x; first | clear_value x | skip)
    | lift_lets
    | with_reducible refine foot_bhtEnd rfl ?_ ..
    | split
    | dsimp only

theorem foot_bhtLost {m : Nat} {z t : State} (hs : 0x80000000a0000 ||| m = m) (h : Foot m z t) (a0 : _) :
    Foot m z (State.bhtLost a0 t) := by
  refine Foot.step (m := 0x80000000a0000) ?_ hs h
  clear h hs
  have h := Foot.refl 0x80000000a0000 t
  unfold State.bhtLost
  repeat' first
    | with_reducible assumption
    | (intro x; first | clear_value x | skip)
    | lift_lets
    | with_reducible refine foot_bhtInconclusive rfl ?_ ..
    | with_reducible apply Foot.ite
    | split
    | dsimp only

theorem foot_bhtCommitted {m : Nat} {z t : State} (hs : 0x20000 ||| m = m) (h : Foot m z t) (a0 : _) (a1 : _) (a2 : _) :
    Foot m z (State.bhtCommitted a0 a1 a2 t) := by
  refine Foot.step (m := 0x20000) ?_ hs h
  clear h hs
  have h := Foot.refl 0x20000 t
  unfold State.bhtCommitted
  repeat' first
    | with_reducible assumption
    | (intro x; first | clear_value x | skip)
    | lift_lets
    | with_reducible apply Foot.ite
    | ((with_reducible refine Foot.lit ?_ rfl rfl ?_ ?_ ?_ ?_ ?_ ?_); rotate_left; rfl; rfl; rfl; rfl; (first | exact Nat.le_refl _ | exact Nat.le_succ _); (constructor <;> first | with_reducible exact Kept.same | exact Kept.masked rfl); (first | with_reducible assumption | with_reducible apply Foot.ite))
    | split
    | dsimp only

end Sys2Proof.Machine
end

