-- ==== Sys2Proof/Laws/FootMotionBase.lean ====
section
/-!
SUPPORT. Footprints of the operations of Machine/MotionBase.lean.
-/

set_option Elab.async false

set_option linter.all false

set_option maxRecDepth 4000

namespace Sys2Proof.Machine

theorem foot_setFld48 {m k k' : Nat} {z t : State} {l l' : Loc} (hb : (blockOf l.addr).bit = k) (hm : 2 ^ k ||| m = m)
    (hb' : (blockOf l'.addr).bit = k') (hm' : 2 ^ k' ||| m = m) (h : Foot m z t) (v : Int) : Foot m z (t.setFld48 l l' v) :=
  foot_setFld hb' hm' (foot_setFld hb hm h _) _

theorem foot_modChan {m : Nat} {z t : State} (hs : 0x200000 ||| m = m) (h : Foot m z t) (a0 : _) (a1 : _) :
    Foot m z (State.modChan a0 a1 t) := by
  refine Foot.step (m := 0x200000) ?_ hs h
  clear h hs
  have h := Foot.refl 0x200000 t
  unfold State.modChan
  repeat' first
    | with_reducible assumption
    | (intro x; first | clear_value x | skip)
    | lift_lets
    | ((with_reducible refine Foot.lit ?_ rfl rfl ?_ ?_ ?_ ?_ ?_ ?_); rotate_left; rfl; rfl; rfl; rfl; (first | exact Nat.le_refl _ | exact Nat.le_succ _); (constructor <;> first | with_reducible exact Kept.same | exact Kept.masked rfl); (first | with_reducible assumption))
    | split
    | dsimp only

theorem foot_modCluster {m : Nat} {z t : State} (hs : 0x400000 ||| m = m) (h : Foot m z t) (a0 : _) (a1 : _) :
    Foot m z (State.modCluster a0 a1 t) := by
  refine Foot.step (m := 0x400000) ?_ hs h
  clear h hs
  have h := Foot.refl 0x400000 t
  unfold State.modCluster
  repeat' first
    | with_reducible assumption
    | (intro x; first | clear_value x | skip)
    | lift_lets
    | ((with_reducible refine Foot.lit ?_ rfl rfl ?_ ?_ ?_ ?_ ?_ ?_); rotate_left; rfl; rfl; rfl; rfl; (first | exact Nat.le_refl _ | exact Nat.le_succ _); (constructor <;> first | with_reducible exact Kept.same | exact Kept.masked rfl); (first | with_reducible assumption))
    | split
    | dsimp only

theorem foot_modDie {m : Nat} {z t : State} (hs : 0x800000 ||| m = m) (h : Foot m z t) (a0 : _) (a1 : _) :
    Foot m z (State.modDie a0 a1 t) := by
  refine Foot.step (m := 0x800000) ?_ hs h
  clear h hs
  have h := Foot.refl 0x800000 t
  unfold State.modDie
  repeat' first
    | with_reducible assumption
    | (intro x; first | clear_value x | skip)
    | lift_lets
    | ((with_reducible refine Foot.lit ?_ rfl rfl ?_ ?_ ?_ ?_ ?_ ?_); rotate_left; rfl; rfl; rfl; rfl; (first | exact Nat.le_refl _ | exact Nat.le_succ _); (constructor <;> first | with_reducible exact Kept.same | exact Kept.masked rfl); (first | with_reducible assumption))
    | split
    | dsimp only

theorem foot_modRegion {m : Nat} {z t : State} (hs : 0x1000000 ||| m = m) (h : Foot m z t) (a0 : _) (a1 : _) :
    Foot m z (State.modRegion a0 a1 t) := by
  refine Foot.step (m := 0x1000000) ?_ hs h
  clear h hs
  have h := Foot.refl 0x1000000 t
  unfold State.modRegion
  repeat' first
    | with_reducible assumption
    | (intro x; first | clear_value x | skip)
    | lift_lets
    | ((with_reducible refine Foot.lit ?_ rfl rfl ?_ ?_ ?_ ?_ ?_ ?_); rotate_left; rfl; rfl; rfl; rfl; (first | exact Nat.le_refl _ | exact Nat.le_succ _); (constructor <;> first | with_reducible exact Kept.same | exact Kept.masked rfl); (first | with_reducible assumption))
    | split
    | dsimp only

theorem foot_modLg {m : Nat} {z t : State} (hs : 0x100000 ||| m = m) (h : Foot m z t) (a0 : _) (a1 : _) :
    Foot m z (State.modLg a0 a1 t) := by
  refine Foot.step (m := 0x100000) ?_ hs h
  clear h hs
  have h := Foot.refl 0x100000 t
  unfold State.modLg
  repeat' first
    | with_reducible assumption
    | (intro x; first | clear_value x | skip)
    | lift_lets
    | ((with_reducible refine Foot.lit ?_ rfl rfl ?_ ?_ ?_ ?_ ?_ ?_); rotate_left; rfl; rfl; rfl; rfl; (first | exact Nat.le_refl _ | exact Nat.le_succ _); (constructor <;> first | with_reducible exact Kept.same | exact Kept.masked rfl); (first | with_reducible assumption))
    | split
    | dsimp only

theorem foot_modAxis {m : Nat} {z t : State} (hs : 0x4000000 ||| m = m) (h : Foot m z t) (a0 : _) (a1 : _) :
    Foot m z (State.modAxis a0 a1 t) := by
  refine Foot.step (m := 0x4000000) ?_ hs h
  clear h hs
  have h := Foot.refl 0x4000000 t
  unfold State.modAxis
  repeat' first
    | with_reducible assumption
    | (intro x; first | clear_value x | skip)
    | lift_lets
    | ((with_reducible refine Foot.lit ?_ rfl rfl ?_ ?_ ?_ ?_ ?_ ?_); rotate_left; rfl; rfl; rfl; rfl; (first | exact Nat.le_refl _ | exact Nat.le_succ _); (constructor <;> first | with_reducible exact Kept.same | exact Kept.masked rfl); (first | with_reducible assumption))
    | split
    | dsimp only

theorem foot_setAct {m : Nat} {z t : State} (hs : 0x2000000000000000 ||| m = m) (h : Foot m z t) (a0 : _) (a1 : _) :
    Foot m z (State.setAct a0 a1 t) := by
  refine Foot.step (m := 0x2000000000000000) ?_ hs h
  clear h hs
  have h := Foot.refl 0x2000000000000000 t
  unfold State.setAct
  repeat' first
    | with_reducible assumption
    | (intro x; first | clear_value x | skip)
    | lift_lets
    | with_reducible refine foot_setFld48 (blk_ACT_L ..) rfl (blk_ACT_L ..) rfl ?_ ..
    | with_reducible refine foot_setFld48 (blk_ACT_L ..) rfl (blk_ACT_H ..) rfl ?_ ..
    | with_reducible refine foot_setFld48 (blk_ACT_H ..) rfl (blk_ACT_L ..) rfl ?_ ..
    | with_reducible refine foot_setFld48 (blk_ACT_H ..) rfl (blk_ACT_H ..) rfl ?_ ..
    | split
    | dsimp only

theorem foot_setAxState {m : Nat} {z t : State} (hs : 0x3000000000000000 ||| m = m) (h : Foot m z t) (a0 : _) (a1 : _) :
    Foot m z (State.setAxState a0 a1 t) := by
  refine Foot.step (m := 0x3000000000000000) ?_ hs h
  clear h hs
  have h := Foot.refl 0x3000000000000000 t
  unfold State.setAxState
  repeat' first
    | with_reducible assumption
    | (intro x; first | clear_value x | skip)
    | lift_lets
    | with_reducible refine foot_setFld (blk_PP_MOVING_MOVING ..) rfl ?_ ..
    | with_reducible refine foot_setFld (blk_AX_STAT_STATE ..) rfl ?_ ..
    | with_reducible refine foot_setFbit (blk_PP_MOVING_MOVING ..) rfl ?_ ..
    | with_reducible refine foot_setFbit (blk_AX_STAT_STATE ..) rfl ?_ ..
    | split
    | dsimp only

theorem foot_genRun {m : Nat} {z t : State} (hs : 0x2000000004200000 ||| m = m) (h : Foot m z t) (a0 : _) (a1 : _) :
    Foot m z (State.genRun a0 a1 t) := by
  refine Foot.step (m := 0x2000000004200000) ?_ hs h
  clear h hs
  have h := Foot.refl 0x2000000004200000 t
  unfold State.genRun
  repeat' first
    | with_reducible assumption
    | (intro x; first
        | (refine Foot.cut (P := Foot 0x2000000004200000 t x) ?_ ?_; rotate_left; subst x; rotate_left; intro hx; clear_value x)
        | (refine Foot.cut (P := PairFoot 0x2000000004200000 t x) ?_ ?_; rotate_left; subst x; rotate_left; intro hx; clear_value x)
        | (refine Foot.cut (P := OptFoot 0x2000000004200000 t x) ?_ ?_; rotate_left; subst x; rotate_left; intro hx; clear_value x)
        | (have hf := x.programmed; clear hf)
        | clear_value x
        | skip)
    | lift_lets
    | with_reducible refine foot_modChan rfl ?_ ..
    | with_reducible refine foot_modAxis rfl ?_ ..
    | with_reducible refine foot_setAct rfl ?_ ..
    | with_reducible refine foot_setFlag (blk_AX_STAT_RATE_CLAMP ..) rfl ?_ ..
    | with_reducible refine Foot.foldl (fun _ _ _ => ?_) ?_
    | with_reducible refine PairFoot.foldl (fun _ _ _ => ?_) ?_
    | with_reducible apply Foot.ite
    | with_reducible apply PairFoot.ite
    | with_reducible apply OptFoot.ite
    | with_reducible apply OutFoot.ite
    | with_reducible apply ExFoot.ite
    | with_reducible exact ExFoot.error
    | with_reducible refine ExFoot.ok ?_
    | with_reducible refine PairFoot.forL (fun _ _ _ => ?_) ?_
    | with_reducible refine PairFoot.forN (fun _ _ _ => ?_) ?_
    | with_reducible refine OptFoot.some ?_
    | with_reducible exact OptFoot.none
    | with_reducible refine OutFoot.next ?_
    | with_reducible refine OptFoot.getD ?_ ?_
    | with_reducible refine PairFoot.snd ?_
    | with_reducible exact PairFoot.out (by assumption)
    | with_reducible refine PairFoot.eq (by assumption) ?_
    | with_reducible refine OptFoot.eq (by assumption) ?_
    | with_reducible refine ExFoot.eq (by assumption) ?_
    | ((with_reducible refine Foot.lit ?_ rfl rfl ?_ ?_ ?_ ?_ ?_ ?_); rotate_left; rfl; rfl; rfl; rfl; (first | exact Nat.le_refl _ | exact Nat.le_succ _); (constructor <;> first | with_reducible exact Kept.same | exact Kept.masked rfl); (first | with_reducible assumption | with_reducible refine foot_modChan rfl ?_ .. | with_reducible refine foot_modAxis rfl ?_ .. | with_reducible refine foot_setAct rfl ?_ .. | with_reducible refine foot_setFlag (blk_AX_STAT_RATE_CLAMP ..) rfl ?_ .. | with_reducible refine Foot.foldl (fun _ _ _ => ?_) ?_ | with_reducible refine PairFoot.foldl (fun _ _ _ => ?_) ?_ | with_reducible apply Foot.ite | with_reducible apply PairFoot.ite | with_reducible apply OptFoot.ite | with_reducible apply OutFoot.ite | with_reducible apply ExFoot.ite | with_reducible exact ExFoot.error | with_reducible refine ExFoot.ok ?_ | with_reducible refine PairFoot.forL (fun _ _ _ => ?_) ?_ | with_reducible refine PairFoot.forN (fun _ _ _ => ?_) ?_ | with_reducible refine OptFoot.some ?_ | with_reducible exact OptFoot.none | with_reducible refine OutFoot.next ?_ | with_reducible refine OptFoot.getD ?_ ?_ | with_reducible refine PairFoot.snd ?_))
    | split
    | with_reducible refine PairFoot.mk ?_
    | dsimp only

theorem foot_genAdvance {m : Nat} {z t : State} (hs : 0x2000000004200000 ||| m = m) (h : Foot m z t) (a0 : _) :
    Foot m z (State.genAdvance a0 t) := by
  refine Foot.step (m := 0x2000000004200000) ?_ hs h
  clear h hs
  have h := Foot.refl 0x2000000004200000 t
  unfold State.genAdvance
  repeat' first
    | with_reducible assumption
    | (intro x; first | (refine Foot.cut (P := Foot 0x2000000004200000 t x) ?_ ?_; rotate_left; subst x; rotate_left; intro hx; clear_value x) | clear_value x | skip)
    | lift_lets
    | with_reducible refine foot_genRun rfl ?_ ..
    | with_reducible refine foot_modAxis rfl ?_ ..
    | with_reducible refine Foot.forL (fun _ _ _ => ?_) ?_
    | with_reducible apply Foot.ite
    | split
    | dsimp only

theorem foot_setV {m : Nat} {z t : State} (hs : 0x2000000004200000 ||| m = m) (h : Foot m z t) (a0 : _) (a1 : _) :
    Foot m z (State.setV a0 a1 t) := by
  refine Foot.step (m := 0x2000000004200000) ?_ hs h
  clear h hs
  have h := Foot.refl 0x2000000004200000 t
  unfold State.setV
  repeat' first
    | with_reducible assumption
    | (intro x; first | (refine Foot.cut (P := Foot 0x2000000004200000 t x) ?_ ?_; rotate_left; subst x; rotate_left; intro hx; clear_value x) | clear_value x | skip)
    | lift_lets
    | with_reducible refine foot_genAdvance rfl ?_ ..
    | with_reducible refine foot_modAxis rfl ?_ ..
    | with_reducible refine foot_setFld (blk_STALL_STAT_COUNT ..) rfl ?_ ..
    | with_reducible apply Foot.ite
    | split
    | dsimp only

theorem foot_tickV {m : Nat} {z t : State} (hs : 0x2000000004200000 ||| m = m) (h : Foot m z t) (a0 : _) :
    Foot m z (State.tickV a0 t) := by
  refine Foot.step (m := 0x2000000004200000) ?_ hs h
  clear h hs
  have h := Foot.refl 0x2000000004200000 t
  unfold State.tickV
  repeat' first
    | with_reducible assumption
    | (intro x; first | clear_value x | skip)
    | lift_lets
    | with_reducible refine foot_setV rfl ?_ ..
    | with_reducible refine foot_modAxis rfl ?_ ..
    | split
    | dsimp only

theorem foot_axShow {m : Nat} {z t : State} (hs : 0x2000000000000000 ||| m = m) (h : Foot m z t) (a0 : _) :
    Foot m z (State.axShow a0 t) := by
  refine Foot.step (m := 0x2000000000000000) ?_ hs h
  clear h hs
  have h := Foot.refl 0x2000000000000000 t
  unfold State.axShow
  repeat' first
    | with_reducible assumption
    | (intro x; first | (refine Foot.cut (P := Foot 0x2000000000000000 t x) ?_ ?_; rotate_left; subst x; rotate_left; intro hx; clear_value x) | clear_value x | skip)
    | lift_lets
    | with_reducible refine foot_setSFld (blk_POS_L ..) rfl ?_ ..
    | with_reducible refine foot_setSFld (blk_POS_H ..) rfl ?_ ..
    | with_reducible refine foot_setSFld (blk_VEL ..) rfl ?_ ..
    | with_reducible refine foot_setFld48 (blk_POS_L ..) rfl (blk_POS_L ..) rfl ?_ ..
    | with_reducible refine foot_setFld48 (blk_POS_L ..) rfl (blk_POS_H ..) rfl ?_ ..
    | with_reducible refine foot_setFld48 (blk_POS_L ..) rfl (blk_VEL ..) rfl ?_ ..
    | with_reducible refine foot_setFld48 (blk_POS_H ..) rfl (blk_POS_L ..) rfl ?_ ..
    | with_reducible refine foot_setFld48 (blk_POS_H ..) rfl (blk_POS_H ..) rfl ?_ ..
    | with_reducible refine foot_setFld48 (blk_POS_H ..) rfl (blk_VEL ..) rfl ?_ ..
    | with_reducible refine foot_setFld48 (blk_VEL ..) rfl (blk_POS_L ..) rfl ?_ ..
    | with_reducible refine foot_setFld48 (blk_VEL ..) rfl (blk_POS_H ..) rfl ?_ ..
    | with_reducible refine foot_setFld48 (blk_VEL ..) rfl (blk_VEL ..) rfl ?_ ..
    | split
    | dsimp only

theorem foot_axRem {m : Nat} {z t : State} (hs : 0x2000000000000000 ||| m = m) (h : Foot m z t) (a0 : _) :
    Foot m z (State.axRem a0 t) := by
  refine Foot.step (m := 0x2000000000000000) ?_ hs h
  clear h hs
  have h := Foot.refl 0x2000000000000000 t
  unfold State.axRem
  repeat' first
    | with_reducible assumption
    | (intro x; first | clear_value x | skip)
    | lift_lets
    | with_reducible refine foot_setFld48 (blk_REM_L ..) rfl (blk_REM_L ..) rfl ?_ ..
    | with_reducible refine foot_setFld48 (blk_REM_L ..) rfl (blk_REM_H ..) rfl ?_ ..
    | with_reducible refine foot_setFld48 (blk_REM_H ..) rfl (blk_REM_L ..) rfl ?_ ..
    | with_reducible refine foot_setFld48 (blk_REM_H ..) rfl (blk_REM_H ..) rfl ?_ ..
    | split
    | dsimp only

theorem foot_axInhibit {m : Nat} {z t : State} (hs : 0x30080000042a0000 ||| m = m) (h : Foot m z t) (a0 : _) (a1 : _) (a2 : _) :
    Foot m z (State.axInhibit a0 a1 a2 t) := by
  refine Foot.step (m := 0x30080000042a0000) ?_ hs h
  clear h hs
  have h := Foot.refl 0x30080000042a0000 t
  unfold State.axInhibit
  repeat' first
    | with_reducible assumption
    | (intro x; first
        | (refine Foot.cut (P := Foot 0x30080000042a0000 t x) ?_ ?_; rotate_left; subst x; rotate_left; intro hx; clear_value x)
        | (refine Foot.cut (P := PairFoot 0x30080000042a0000 t x) ?_ ?_; rotate_left; subst x; rotate_left; intro hx; clear_value x)
        | (refine Foot.cut (P := OptFoot 0x30080000042a0000 t x) ?_ ?_; rotate_left; subst x; rotate_left; intro hx; clear_value x)
        | (have hf := x.programmed; clear hf)
        | clear_value x
        | skip)
    | lift_lets
    | with_reducible refine foot_axShow rfl ?_ ..
    | with_reducible refine foot_axRem rfl ?_ ..
    | with_reducible refine foot_bhtLost rfl ?_ ..
    | with_reducible refine foot_setV rfl ?_ ..
    | with_reducible refine foot_modAxis rfl ?_ ..
    | with_reducible refine foot_setAxState rfl ?_ ..
    | with_reducible refine foot_setFld (blk_AX_STAT_STOP_CAUSE ..) rfl ?_ ..
    | with_reducible refine foot_setFld (blk_AX_STAT_POS_LOST ..) rfl ?_ ..
    | with_reducible refine foot_setFld (blk_AX_STAT_IN_POS ..) rfl ?_ ..
    | with_reducible refine foot_setFlag (blk_AX_STAT_STOP_CAUSE ..) rfl ?_ ..
    | with_reducible refine foot_setFlag (blk_AX_STAT_POS_LOST ..) rfl ?_ ..
    | with_reducible refine foot_setFlag (blk_AX_STAT_IN_POS ..) rfl ?_ ..
    | with_reducible refine Foot.foldl (fun _ _ _ => ?_) ?_
    | with_reducible refine PairFoot.foldl (fun _ _ _ => ?_) ?_
    | with_reducible apply Foot.ite
    | with_reducible apply PairFoot.ite
    | with_reducible apply OptFoot.ite
    | with_reducible apply OutFoot.ite
    | with_reducible apply ExFoot.ite
    | with_reducible exact ExFoot.error
    | with_reducible refine ExFoot.ok ?_
    | with_reducible refine PairFoot.forL (fun _ _ _ => ?_) ?_
    | with_reducible refine PairFoot.forN (fun _ _ _ => ?_) ?_
    | with_reducible refine OptFoot.some ?_
    | with_reducible exact OptFoot.none
    | with_reducible refine OutFoot.next ?_
    | with_reducible refine OptFoot.getD ?_ ?_
    | with_reducible refine PairFoot.snd ?_
    | with_reducible exact PairFoot.out (by assumption)
    | with_reducible refine PairFoot.eq (by assumption) ?_
    | with_reducible refine OptFoot.eq (by assumption) ?_
    | with_reducible refine ExFoot.eq (by assumption) ?_
    | ((with_reducible refine Foot.lit ?_ rfl rfl ?_ ?_ ?_ ?_ ?_ ?_); rotate_left; rfl; rfl; rfl; rfl; (first | exact Nat.le_refl _ | exact Nat.le_succ _); (constructor <;> first | with_reducible exact Kept.same | exact Kept.masked rfl); (first | with_reducible assumption | with_reducible refine foot_axShow rfl ?_ .. | with_reducible refine foot_axRem rfl ?_ .. | with_reducible refine foot_bhtLost rfl ?_ .. | with_reducible refine foot_setV rfl ?_ .. | with_reducible refine foot_modAxis rfl ?_ .. | with_reducible refine foot_setAxState rfl ?_ .. | with_reducible refine foot_setFld (blk_AX_STAT_STOP_CAUSE ..) rfl ?_ .. | with_reducible refine foot_setFld (blk_AX_STAT_POS_LOST ..) rfl ?_ .. | with_reducible refine foot_setFld (blk_AX_STAT_IN_POS ..) rfl ?_ .. | with_reducible refine foot_setFlag (blk_AX_STAT_STOP_CAUSE ..) rfl ?_ .. | with_reducible refine foot_setFlag (blk_AX_STAT_POS_LOST ..) rfl ?_ .. | with_reducible refine foot_setFlag (blk_AX_STAT_IN_POS ..) rfl ?_ .. | with_reducible refine Foot.foldl (fun _ _ _ => ?_) ?_ | with_reducible refine PairFoot.foldl (fun _ _ _ => ?_) ?_ | with_reducible apply Foot.ite | with_reducible apply PairFoot.ite | with_reducible apply OptFoot.ite | with_reducible apply OutFoot.ite | with_reducible apply ExFoot.ite | with_reducible exact ExFoot.error | with_reducible refine ExFoot.ok ?_ | with_reducible refine PairFoot.forL (fun _ _ _ => ?_) ?_ | with_reducible refine PairFoot.forN (fun _ _ _ => ?_) ?_ | with_reducible refine OptFoot.some ?_ | with_reducible exact OptFoot.none | with_reducible refine OutFoot.next ?_ | with_reducible refine OptFoot.getD ?_ ?_ | with_reducible refine PairFoot.snd ?_))
    | split
    | with_reducible refine PairFoot.mk ?_
    | dsimp only

theorem foot_axRelease {m : Nat} {z t : State} (hs : 0x3000000004000000 ||| m = m) (h : Foot m z t) (a0 : _) (a1 : _) :
    Foot m z (State.axRelease a0 a1 t) := by
  refine Foot.step (m := 0x3000000004000000) ?_ hs h
  clear h hs
  have h := Foot.refl 0x3000000004000000 t
  unfold State.axRelease
  repeat' first
    | with_reducible assumption
    | (intro x; first | (refine Foot.cut (P := Foot 0x3000000004000000 t x) ?_ ?_; rotate_left; subst x; rotate_left; intro hx; clear_value x) | clear_value x | skip)
    | lift_lets
    | with_reducible refine foot_modAxis rfl ?_ ..
    | with_reducible refine foot_setAxState rfl ?_ ..
    | with_reducible apply Foot.ite
    | split
    | dsimp only

theorem foot_axQueue {m : Nat} {z t : State} (hs : 0x4000000 ||| m = m) (h : Foot m z t) (a0 : _) (a1 : _) (a2 : _) :
    Foot m z (State.axQueue a0 a1 a2 t) := by
  refine Foot.step (m := 0x4000000) ?_ hs h
  clear h hs
  have h := Foot.refl 0x4000000 t
  unfold State.axQueue
  repeat' first
    | with_reducible assumption
    | (intro x; first | clear_value x | skip)
    | lift_lets
    | with_reducible refine foot_modAxis rfl ?_ ..
    | split
    | dsimp only

theorem foot_axSafe {m : Nat} {z t : State} (hs : 0x30080000042a0000 ||| m = m) (h : Foot m z t) (a0 : _) (a1 : _) :
    Foot m z (State.axSafe a0 a1 t) := by
  refine Foot.step (m := 0x30080000042a0000) ?_ hs h
  clear h hs
  have h := Foot.refl 0x30080000042a0000 t
  unfold State.axSafe
  repeat' first
    | with_reducible assumption
    | (intro x; first | clear_value x | skip)
    | lift_lets
    | with_reducible refine foot_axInhibit rfl ?_ ..
    | with_reducible refine foot_axQueue rfl ?_ ..
    | with_reducible refine foot_modAxis rfl ?_ ..
    | with_reducible apply Foot.ite
    | split
    | dsimp only

theorem foot_axHold {m : Nat} {z t : State} (hs : 0x4000000 ||| m = m) (h : Foot m z t) (a0 : _) :
    Foot m z (State.axHold a0 t) := by
  refine Foot.step (m := 0x4000000) ?_ hs h
  clear h hs
  have h := Foot.refl 0x4000000 t
  unfold State.axHold
  repeat' first
    | with_reducible assumption
    | (intro x; first | clear_value x | skip)
    | lift_lets
    | with_reducible refine foot_axQueue rfl ?_ ..
    | with_reducible refine foot_modAxis rfl ?_ ..
    | with_reducible apply Foot.ite
    | split
    | dsimp only

theorem foot_axUnhold {m : Nat} {z t : State} (hs : 0x4000000 ||| m = m) (h : Foot m z t) (a0 : _) :
    Foot m z (State.axUnhold a0 t) := by
  refine Foot.step (m := 0x4000000) ?_ hs h
  clear h hs
  have h := Foot.refl 0x4000000 t
  unfold State.axUnhold
  repeat' first
    | with_reducible assumption
    | (intro x; first | clear_value x | skip)
    | lift_lets
    | with_reducible refine foot_axQueue rfl ?_ ..
    | with_reducible refine foot_modAxis rfl ?_ ..
    | with_reducible apply Foot.ite
    | split
    | dsimp only

theorem foot_motMode {m : Nat} {z t : State} (hs : 0x30080000042a0000 ||| m = m) (h : Foot m z t) (a0 : _) (a1 : _) :
    Foot m z (State.motMode a0 a1 t) := by
  refine Foot.step (m := 0x30080000042a0000) ?_ hs h
  clear h hs
  have h := Foot.refl 0x30080000042a0000 t
  unfold State.motMode
  repeat' first
    | with_reducible assumption
    | (intro x; first | (refine Foot.cut (P := Foot 0x30080000042a0000 t x) ?_ ?_; rotate_left; subst x; rotate_left; intro hx; clear_value x) | clear_value x | skip)
    | lift_lets
    | with_reducible refine foot_axSafe rfl ?_ ..
    | with_reducible refine foot_axRelease rfl ?_ ..
    | with_reducible refine foot_axUnhold rfl ?_ ..
    | with_reducible refine foot_axHold rfl ?_ ..
    | with_reducible refine Foot.forN (fun _ _ _ => ?_) ?_
    | with_reducible apply Foot.ite
    | split
    | dsimp only

end Sys2Proof.Machine
end

