-- ==== Sys2Proof/Laws/FootSched.lean ====
section
/-!
SUPPORT. Footprints of the operations of Machine/Sched.lean.
-/

set_option Elab.async false

set_option linter.all false

set_option maxRecDepth 4000

namespace Sys2Proof.Machine

theorem foot_modSched {m : Nat} {z t : State} (hs : 0x400 ||| m = m) (h : Foot m z t) (a0 : _) :
    Foot m z (State.modSched a0 t) := by
  refine Foot.step (m := 0x400) ?_ hs h
  clear h hs
  have h := Foot.refl 0x400 t
  unfold State.modSched
  repeat' first
    | with_reducible assumption
    | (intro x; first | clear_value x | skip)
    | lift_lets
    | ((with_reducible refine Foot.lit ?_ rfl rfl ?_ ?_ ?_ ?_ ?_ ?_); rotate_left; rfl; rfl; rfl; rfl; (first | exact Nat.le_refl _ | exact Nat.le_succ _); (constructor <;> first | with_reducible exact Kept.same | exact Kept.masked rfl); (first | with_reducible assumption))
    | split
    | dsimp only

theorem foot_submit {m : Nat} {z t : State} (hs : 0x400 ||| m = m) (h : Foot m z t) (a0 : _) (a1 : _) (a2 : _) :
    OptFoot m z (State.submit a0 a1 a2 t) := by
  refine OptFoot.step (m := 0x400) ?_ hs h
  clear h hs
  have h := Foot.refl 0x400 t
  unfold State.submit
  repeat' first
    | with_reducible assumption
    | (intro x; first | clear_value x | skip)
    | lift_lets
    | with_reducible refine foot_modSched rfl ?_ ..
    | with_reducible apply OptFoot.ite
    | with_reducible refine OptFoot.some ?_
    | with_reducible exact OptFoot.none
    | split
    | dsimp only

theorem foot_loseEntry {m : Nat} {z t : State} (hs : 0x400 ||| m = m) (h : Foot m z t) (a0 : _) (a1 : _) :
    Foot m z (State.loseEntry a0 a1 t) := by
  refine Foot.step (m := 0x400) ?_ hs h
  clear h hs
  have h := Foot.refl 0x400 t
  unfold State.loseEntry
  repeat' first
    | with_reducible assumption
    | (intro x; first | clear_value x | skip)
    | lift_lets
    | with_reducible refine foot_modSched rfl ?_ ..
    | split
    | dsimp only

theorem foot_hwSubmit {m : Nat} {z t : State} (hs : 0x400 ||| m = m) (h : Foot m z t) (a0 : _) (a1 : _) :
    Foot m z ((State.hwSubmit a0 a1 t).1) := by
  refine Foot.step (m := 0x400) ?_ hs h
  clear h hs
  have h := Foot.refl 0x400 t
  unfold State.hwSubmit
  repeat' first
    | with_reducible assumption
    | (intro x; first | (refine Foot.cut (P := Foot 0x400 t x) ?_ ?_; rotate_left; subst x; rotate_left; intro hx; clear_value x) | clear_value x | skip)
    | lift_lets
    | with_reducible refine foot_modSched rfl ?_ ..
    | with_reducible refine foot_submit rfl ?_ ..
    | with_reducible refine foot_loseEntry rfl ?_ ..
    | with_reducible refine OptFoot.eq (by assumption) ?_
    | split
    | dsimp only

theorem foot_reasonTo {m : Nat} {z t : State} (hs : 0x400 ||| m = m) (h : Foot m z t) (a0 : _) (a1 : _) (a2 : _) (a3 : _) (a4 : _) :
    Foot m z (State.reasonTo a0 a1 a2 a3 a4 t) := by
  refine Foot.step (m := 0x400) ?_ hs h
  clear h hs
  have h := Foot.refl 0x400 t
  unfold State.reasonTo
  repeat' first
    | with_reducible assumption
    | (intro x; first | clear_value x | skip)
    | lift_lets
    | with_reducible refine foot_modSched rfl ?_ ..
    | split
    | dsimp only

theorem foot_schedFlush {m : Nat} {z t : State} (hs : 0x400 ||| m = m) (h : Foot m z t) :
    Foot m z (State.schedFlush t) := by
  refine Foot.step (m := 0x400) ?_ hs h
  clear h hs
  have h := Foot.refl 0x400 t
  unfold State.schedFlush
  repeat' first
    | with_reducible assumption
    | (intro x; first | clear_value x | skip)
    | lift_lets
    | with_reducible refine foot_modSched rfl ?_ ..
    | split
    | dsimp only

end Sys2Proof.Machine
end

