-- ==== Sys2Proof/Laws/FootUnitMode.lean ====
section
/-!
SUPPORT. Footprints of the operations of Machine/UnitMode.lean.
-/

set_option Elab.async false

set_option linter.all false

set_option maxRecDepth 4000

namespace Sys2Proof.Machine

theorem foot_modSeq {m : Nat} {z t : State} (hs : 0x20000000 ||| m = m) (h : Foot m z t) (a0 : _) (a1 : _) :
    Foot m z (State.modSeq a0 a1 t) := by
  refine Foot.step (m := 0x20000000) ?_ hs h
  clear h hs
  have h := Foot.refl 0x20000000 t
  unfold State.modSeq
  repeat' first
    | with_reducible assumption
    | (intro x; first | clear_value x | skip)
    | lift_lets
    | ((with_reducible refine Foot.lit ?_ rfl rfl ?_ ?_ ?_ ?_ ?_ ?_); rotate_left; rfl; rfl; rfl; rfl; (first | exact Nat.le_refl _ | exact Nat.le_succ _); (constructor <;> first | with_reducible exact Kept.same | exact Kept.masked rfl); (first | with_reducible assumption))
    | split
    | dsimp only

theorem foot_modPos {m : Nat} {z t : State} (hs : 0x20000000 ||| m = m) (h : Foot m z t) (a0 : _) (a1 : _) :
    Foot m z (State.modPos a0 a1 t) := by
  refine Foot.step (m := 0x20000000) ?_ hs h
  clear h hs
  have h := Foot.refl 0x20000000 t
  unfold State.modPos
  repeat' first
    | with_reducible assumption
    | (intro x; first | clear_value x | skip)
    | lift_lets
    | with_reducible refine foot_modSeq rfl ?_ ..
    | split
    | dsimp only

theorem foot_seqShow {m : Nat} {z t : State} (hs : 0x20000000000000 ||| m = m) (h : Foot m z t) (a0 : _) :
    Foot m z (State.seqShow a0 t) := by
  refine Foot.step (m := 0x20000000000000) ?_ hs h
  clear h hs
  have h := Foot.refl 0x20000000000000 t
  unfold State.seqShow
  repeat' first
    | with_reducible assumption
    | (intro x; first | (refine Foot.cut (P := Foot 0x20000000000000 t x) ?_ ?_; rotate_left; subst x; rotate_left; intro hx; clear_value x) | clear_value x | skip)
    | lift_lets
    | with_reducible refine foot_setFld (blk_RS_STAT_RAMP_ACT ..) rfl ?_ ..
    | with_reducible refine foot_setFld (blk_RS_STAT_STATE ..) rfl ?_ ..
    | with_reducible refine foot_setFld (blk_RS_STEP_ACT ..) rfl ?_ ..
    | with_reducible refine foot_setFld (blk_RS_STEP_PREV ..) rfl ?_ ..
    | with_reducible refine foot_setFld (blk_RS_STEP_STEP ..) rfl ?_ ..
    | with_reducible refine foot_setFld (blk_RCP_SUSP_SUSP ..) rfl ?_ ..
    | with_reducible refine foot_setFld (blk_RCP_ACTIVE_ACTIVE ..) rfl ?_ ..
    | with_reducible refine foot_setFlag (blk_RS_STAT_RAMP_ACT ..) rfl ?_ ..
    | with_reducible refine foot_setFlag (blk_RS_STAT_STATE ..) rfl ?_ ..
    | with_reducible refine foot_setFlag (blk_RS_STEP_ACT ..) rfl ?_ ..
    | with_reducible refine foot_setFlag (blk_RS_STEP_PREV ..) rfl ?_ ..
    | with_reducible refine foot_setFlag (blk_RS_STEP_STEP ..) rfl ?_ ..
    | with_reducible refine foot_setFlag (blk_RCP_SUSP_SUSP ..) rfl ?_ ..
    | with_reducible refine foot_setFlag (blk_RCP_ACTIVE_ACTIVE ..) rfl ?_ ..
    | with_reducible refine foot_setFbit (blk_RS_STAT_RAMP_ACT ..) rfl ?_ ..
    | with_reducible refine foot_setFbit (blk_RS_STAT_STATE ..) rfl ?_ ..
    | with_reducible refine foot_setFbit (blk_RS_STEP_ACT ..) rfl ?_ ..
    | with_reducible refine foot_setFbit (blk_RS_STEP_PREV ..) rfl ?_ ..
    | with_reducible refine foot_setFbit (blk_RS_STEP_STEP ..) rfl ?_ ..
    | with_reducible refine foot_setFbit (blk_RCP_SUSP_SUSP ..) rfl ?_ ..
    | with_reducible refine foot_setFbit (blk_RCP_ACTIVE_ACTIVE ..) rfl ?_ ..
    | split
    | dsimp only

theorem foot_rcpModeOf {m : Nat} {z t : State} (hs : 0x20000020000000 ||| m = m) (h : Foot m z t) (a0 : _) (a1 : _) :
    Foot m z (State.rcpModeOf a0 a1 t) := by
  refine Foot.step (m := 0x20000020000000) ?_ hs h
  clear h hs
  have h := Foot.refl 0x20000020000000 t
  unfold State.rcpModeOf
  repeat' first
    | with_reducible assumption
    | (intro x; first | (refine Foot.cut (P := Foot 0x20000020000000 t x) ?_ ?_; rotate_left; subst x; rotate_left; intro hx; clear_value x) | clear_value x | skip)
    | lift_lets
    | with_reducible refine foot_seqShow rfl ?_ ..
    | with_reducible refine foot_modPos rfl ?_ ..
    | with_reducible refine foot_modSeq rfl ?_ ..
    | with_reducible apply Foot.ite
    | split
    | dsimp only

theorem foot_rcpMode {m : Nat} {z t : State} (hs : 0x20000020000000 ||| m = m) (h : Foot m z t) (a0 : _) (a1 : _) :
    Foot m z (State.rcpMode a0 a1 t) := by
  refine Foot.step (m := 0x20000020000000) ?_ hs h
  clear h hs
  have h := Foot.refl 0x20000020000000 t
  unfold State.rcpMode
  repeat' first
    | with_reducible assumption
    | (intro x; first | clear_value x | skip)
    | lift_lets
    | with_reducible refine foot_rcpModeOf rfl ?_ ..
    | with_reducible refine Foot.forL (fun _ _ _ => ?_) ?_
    | split
    | dsimp only

theorem foot_modCan {m : Nat} {z t : State} (hs : 0x80000000 ||| m = m) (h : Foot m z t) (a0 : _) (a1 : _) :
    Foot m z (State.modCan a0 a1 t) := by
  refine Foot.step (m := 0x80000000) ?_ hs h
  clear h hs
  have h := Foot.refl 0x80000000 t
  unfold State.modCan
  repeat' first
    | with_reducible assumption
    | (intro x; first | clear_value x | skip)
    | lift_lets
    | ((with_reducible refine Foot.lit ?_ rfl rfl ?_ ?_ ?_ ?_ ?_ ?_); rotate_left; rfl; rfl; rfl; rfl; (first | exact Nat.le_refl _ | exact Nat.le_succ _); (constructor <;> first | with_reducible exact Kept.same | exact Kept.masked rfl); (first | with_reducible assumption))
    | split
    | dsimp only

theorem foot_canDiscard {m : Nat} {z t : State} (hs : 0x200000080000000 ||| m = m) (h : Foot m z t) (a0 : _) (a1 : _) (a2 : _) :
    Foot m z (State.canDiscard a0 a1 a2 t) := by
  refine Foot.step (m := 0x200000080000000) ?_ hs h
  clear h hs
  have h := Foot.refl 0x200000080000000 t
  unfold State.canDiscard
  repeat' first
    | with_reducible assumption
    | (intro x; first | (refine Foot.cut (P := Foot 0x200000080000000 t x) ?_ ?_; rotate_left; subst x; rotate_left; intro hx; clear_value x) | clear_value x | skip)
    | lift_lets
    | with_reducible refine foot_modCan rfl ?_ ..
    | with_reducible refine foot_setFld (blk_OBJ_STAT_TXREQ ..) rfl ?_ ..
    | with_reducible refine foot_setFld (blk_OBJ_STAT_TXCODE ..) rfl ?_ ..
    | with_reducible refine foot_setFlag (blk_OBJ_STAT_TXREQ ..) rfl ?_ ..
    | with_reducible refine foot_setFlag (blk_OBJ_STAT_TXCODE ..) rfl ?_ ..
    | with_reducible refine Foot.forL (fun _ _ _ => ?_) ?_
    | split
    | dsimp only

theorem foot_canOff {m : Nat} {z t : State} (hs : 0x200000080000000 ||| m = m) (h : Foot m z t) (a0 : _) :
    Foot m z (State.canOff a0 t) := by
  refine Foot.step (m := 0x200000080000000) ?_ hs h
  clear h hs
  have h := Foot.refl 0x200000080000000 t
  unfold State.canOff
  repeat' first
    | with_reducible assumption
    | (intro x; first | (refine Foot.cut (P := Foot 0x200000080000000 t x) ?_ ?_; rotate_left; subst x; rotate_left; intro hx; clear_value x) | clear_value x | skip)
    | lift_lets
    | with_reducible refine foot_modCan rfl ?_ ..
    | with_reducible refine foot_canDiscard rfl ?_ ..
    | with_reducible refine foot_setFld (blk_CAN_STAT_REC ..) rfl ?_ ..
    | with_reducible refine foot_setFld (blk_CAN_STAT_TEC ..) rfl ?_ ..
    | with_reducible refine foot_setFld (blk_CAN_STAT_STATE ..) rfl ?_ ..
    | with_reducible refine foot_setFld (blk_CAN_CTRL_OPMODE ..) rfl ?_ ..
    | split
    | dsimp only

theorem foot_canMode {m : Nat} {z t : State} (hs : 0x200000080000000 ||| m = m) (h : Foot m z t) (a0 : _) (a1 : _) :
    Foot m z (State.canMode a0 a1 t) := by
  refine Foot.step (m := 0x200000080000000) ?_ hs h
  clear h hs
  have h := Foot.refl 0x200000080000000 t
  unfold State.canMode
  repeat' first
    | with_reducible assumption
    | (intro x; first | clear_value x | skip)
    | lift_lets
    | with_reducible refine foot_canOff rfl ?_ ..
    | with_reducible refine foot_canDiscard rfl ?_ ..
    | with_reducible refine Foot.forL (fun _ _ _ => ?_) ?_
    | with_reducible apply Foot.ite
    | split
    | dsimp only

theorem foot_calRequest {m : Nat} {z t : State} (hs : 0x4000000000400000 ||| m = m) (h : Foot m z t) (a0 : _) :
    Foot m z (State.calRequest a0 t) := by
  refine Foot.step (m := 0x4000000000400000) ?_ hs h
  clear h hs
  have h := Foot.refl 0x4000000000400000 t
  unfold State.calRequest
  repeat' first
    | with_reducible assumption
    | (intro x; first | (refine Foot.cut (P := Foot 0x4000000000400000 t x) ?_ ?_; rotate_left; subst x; rotate_left; intro hx; clear_value x) | clear_value x | skip)
    | lift_lets
    | with_reducible refine foot_modCluster rfl ?_ ..
    | with_reducible refine foot_setFlag (blk_CL_CTRL_CAL ..) rfl ?_ ..
    | with_reducible refine foot_setFlag (blk_CL_STAT_CAL_BUSY ..) rfl ?_ ..
    | with_reducible apply Foot.ite
    | split
    | dsimp only

theorem foot_certDrop {m : Nat} {z t : State} (hs : 0x4000000000c00000 ||| m = m) (h : Foot m z t) (a0 : _) :
    Foot m z (State.certDrop a0 t) := by
  refine Foot.step (m := 0x4000000000c00000) ?_ hs h
  clear h hs
  have h := Foot.refl 0x4000000000c00000 t
  unfold State.certDrop
  repeat' first
    | with_reducible assumption
    | (intro x; first | (refine Foot.cut (P := Foot 0x4000000000c00000 t x) ?_ ?_; rotate_left; subst x; rotate_left; intro hx; clear_value x) | clear_value x | skip)
    | lift_lets
    | with_reducible refine foot_calRequest rfl ?_ ..
    | with_reducible refine foot_modDie rfl ?_ ..
    | with_reducible refine foot_setFld (blk_CERT_STAT_POINTS ..) rfl ?_ ..
    | with_reducible refine Foot.forN (fun _ _ _ => ?_) ?_
    | with_reducible apply Foot.ite
    | split
    | dsimp only

theorem foot_certForget {m : Nat} {z t : State} (hs : 0x4000000000800000 ||| m = m) (h : Foot m z t) (a0 : _) :
    Foot m z (State.certForget a0 t) := by
  refine Foot.step (m := 0x4000000000800000) ?_ hs h
  clear h hs
  have h := Foot.refl 0x4000000000800000 t
  unfold State.certForget
  repeat' first
    | with_reducible assumption
    | (intro x; first | clear_value x | skip)
    | lift_lets
    | with_reducible refine foot_modDie rfl ?_ ..
    | with_reducible refine foot_setFld (blk_CERT_STAT_POINTS ..) rfl ?_ ..
    | with_reducible apply Foot.ite
    | split
    | dsimp only

theorem foot_anaMode {m : Nat} {z t : State} (hs : 0x4000000000c00000 ||| m = m) (h : Foot m z t) (a0 : _) (a1 : _) :
    Foot m z (State.anaMode a0 a1 t) := by
  refine Foot.step (m := 0x4000000000c00000) ?_ hs h
  clear h hs
  have h := Foot.refl 0x4000000000c00000 t
  unfold State.anaMode
  repeat' first
    | with_reducible assumption
    | (intro x; first | clear_value x | skip)
    | lift_lets
    | with_reducible refine foot_certDrop rfl ?_ ..
    | with_reducible refine Foot.forN (fun _ _ _ => ?_) ?_
    | with_reducible apply Foot.ite
    | split
    | dsimp only

end Sys2Proof.Machine
end

