-- ==== Sys2Proof/Laws/FootModes.lean ====
section
/-!
SUPPORT. Footprints of the operations of Machine/Modes.lean.
-/

set_option Elab.async false

set_option linter.all false

set_option maxRecDepth 4000

namespace Sys2Proof.Machine

theorem foot_startCyclic {m : Nat} {z t : State} (hs : 0x400 ||| m = m) (h : Foot m z t) :
    Foot m z (State.startCyclic t) := by
  refine Foot.step (m := 0x400) ?_ hs h
  clear h hs
  have h := Foot.refl 0x400 t
  unfold State.startCyclic
  repeat' first
    | with_reducible assumption
    | (intro x; first | clear_value x | skip)
    | lift_lets
    | with_reducible refine foot_modSched rfl ?_ ..
    | split
    | dsimp only

theorem foot_schedMode {m : Nat} {z t : State} (hs : 0xc00 ||| m = m) (h : Foot m z t) (a0 : _) (a1 : _) :
    Foot m z (State.schedMode a0 a1 t) := by
  refine Foot.step (m := 0xc00) ?_ hs h
  clear h hs
  have h := Foot.refl 0xc00 t
  unfold State.schedMode
  repeat' first
    | with_reducible assumption
    | (intro x; first | (refine Foot.cut (P := Foot 0xc00 t x) ?_ ?_; rotate_left; subst x; rotate_left; intro hx; clear_value x) | clear_value x | skip)
    | lift_lets
    | with_reducible refine foot_modSched rfl ?_ ..
    | with_reducible refine foot_startCyclic rfl ?_ ..
    | with_reducible refine foot_schedFlush rfl ?_ ..
    | with_reducible apply Foot.ite
    | ((with_reducible refine Foot.lit ?_ rfl rfl ?_ ?_ ?_ ?_ ?_ ?_); rotate_left; rfl; rfl; rfl; rfl; (first | exact Nat.le_refl _ | exact Nat.le_succ _); (constructor <;> first | with_reducible exact Kept.same | exact Kept.masked rfl); (first | with_reducible assumption | with_reducible refine foot_modSched rfl ?_ .. | with_reducible refine foot_startCyclic rfl ?_ .. | with_reducible refine foot_schedFlush rfl ?_ .. | with_reducible apply Foot.ite))
    | split
    | dsimp only

theorem foot_releaseBreakpoints {m : Nat} {z t : State} (hs : 0x800 ||| m = m) (h : Foot m z t) :
    Foot m z (State.releaseBreakpoints t) := by
  refine Foot.step (m := 0x800) ?_ hs h
  clear h hs
  have h := Foot.refl 0x800 t
  unfold State.releaseBreakpoints
  repeat' first
    | with_reducible assumption
    | (intro x; first | clear_value x | skip)
    | lift_lets
    | ((with_reducible refine Foot.lit ?_ rfl rfl ?_ ?_ ?_ ?_ ?_ ?_); rotate_left; rfl; rfl; rfl; rfl; (first | exact Nat.le_refl _ | exact Nat.le_succ _); (constructor <;> first | with_reducible exact Kept.same | exact Kept.masked rfl); (first | with_reducible assumption))
    | split
    | dsimp only

theorem foot_safeMode {m : Nat} {z t : State} (hs : 0x80000000a0000 ||| m = m) (h : Foot m z t) (a0 : _) (a1 : _) :
    Foot m z (State.safeMode a0 a1 t) := by
  refine Foot.step (m := 0x80000000a0000) ?_ hs h
  clear h hs
  have h := Foot.refl 0x80000000a0000 t
  unfold State.safeMode
  repeat' first
    | with_reducible assumption
    | (intro x; first | (refine Foot.cut (P := Foot 0x80000000a0000 t x) ?_ ?_; rotate_left; subst x; rotate_left; intro hx; clear_value x) | clear_value x | skip)
    | lift_lets
    | with_reducible refine foot_sbcEngage rfl ?_ ..
    | with_reducible refine foot_bhtInconclusive rfl ?_ ..
    | with_reducible refine foot_setFld (blk_SAFE_REQ_REQ ..) rfl ?_ ..
    | with_reducible refine foot_setFld (blk_SAFE_STAT_CONF_OPEN ..) rfl ?_ ..
    | with_reducible refine foot_setFlag (blk_SAFE_REQ_REQ ..) rfl ?_ ..
    | with_reducible refine foot_setFlag (blk_SAFE_STAT_CONF_OPEN ..) rfl ?_ ..
    | with_reducible refine Foot.forL (fun _ _ _ => ?_) ?_
    | with_reducible apply Foot.ite
    | ((with_reducible refine Foot.lit ?_ rfl rfl ?_ ?_ ?_ ?_ ?_ ?_); rotate_left; rfl; rfl; rfl; rfl; (first | exact Nat.le_refl _ | exact Nat.le_succ _); (constructor <;> first | with_reducible exact Kept.same | exact Kept.masked rfl); (first | with_reducible assumption | with_reducible refine foot_sbcEngage rfl ?_ .. | with_reducible refine foot_bhtInconclusive rfl ?_ .. | with_reducible refine foot_setFld (blk_SAFE_REQ_REQ ..) rfl ?_ .. | with_reducible refine foot_setFld (blk_SAFE_STAT_CONF_OPEN ..) rfl ?_ .. | with_reducible refine foot_setFlag (blk_SAFE_REQ_REQ ..) rfl ?_ .. | with_reducible refine foot_setFlag (blk_SAFE_STAT_CONF_OPEN ..) rfl ?_ .. | with_reducible refine Foot.forL (fun _ _ _ => ?_) ?_ | with_reducible apply Foot.ite))
    | split
    | dsimp only

theorem foot_schedAgain {m : Nat} {z t : State} (hs : 0x400 ||| m = m) (h : Foot m z t) (a0 : _) (a1 : _) :
    Foot m z (State.schedAgain a0 a1 t) := by
  refine Foot.step (m := 0x400) ?_ hs h
  clear h hs
  have h := Foot.refl 0x400 t
  unfold State.schedAgain
  repeat' first
    | with_reducible assumption
    | (intro x; first | clear_value x | skip)
    | lift_lets
    | with_reducible refine foot_startCyclic rfl ?_ ..
    | with_reducible apply Foot.ite
    | split
    | dsimp only

theorem foot_setModeFrom {m : Nat} {z t : State} (hs : 0x72280100a4ea0f80 ||| m = m) (h : Foot m z t) (a0 : _) (a1 : _) :
    Foot m z (State.setModeFrom a0 a1 t) := by
  refine Foot.step (m := 0x72280100a4ea0f80) ?_ hs h
  clear h hs
  have h := Foot.refl 0x72280100a4ea0f80 t
  unfold State.setModeFrom
  repeat' first
    | with_reducible assumption
    | (intro x; first | (refine Foot.cut (P := Foot 0x72280100a4ea0f80 t x) ?_ ?_; rotate_left; subst x; rotate_left; intro hx; clear_value x) | clear_value x | skip)
    | lift_lets
    | with_reducible refine foot_canMode rfl ?_ ..
    | with_reducible refine foot_schedMode rfl ?_ ..
    | with_reducible refine foot_releaseBreakpoints rfl ?_ ..
    | with_reducible refine foot_anaMode rfl ?_ ..
    | with_reducible refine foot_log rfl ?_ ..
    | with_reducible refine foot_rcpMode rfl ?_ ..
    | with_reducible refine foot_safeMode rfl ?_ ..
    | with_reducible refine foot_schedAgain rfl ?_ ..
    | with_reducible refine foot_motMode rfl ?_ ..
    | with_reducible refine foot_setRegB (blk_SYS_MODE_MODE ..) rfl ?_ ..
    | with_reducible apply Foot.ite
    | ((with_reducible refine Foot.lit ?_ rfl rfl ?_ ?_ ?_ ?_ ?_ ?_); rotate_left; rfl; rfl; rfl; rfl; (first | exact Nat.le_refl _ | exact Nat.le_succ _); (constructor <;> first | with_reducible exact Kept.same | exact Kept.masked rfl); (first | with_reducible assumption | with_reducible refine foot_canMode rfl ?_ .. | with_reducible refine foot_schedMode rfl ?_ .. | with_reducible refine foot_releaseBreakpoints rfl ?_ .. | with_reducible refine foot_anaMode rfl ?_ .. | with_reducible refine foot_log rfl ?_ .. | with_reducible refine foot_rcpMode rfl ?_ .. | with_reducible refine foot_safeMode rfl ?_ .. | with_reducible refine foot_schedAgain rfl ?_ .. | with_reducible refine foot_motMode rfl ?_ .. | with_reducible refine foot_setRegB (blk_SYS_MODE_MODE ..) rfl ?_ .. | with_reducible apply Foot.ite))
    | split
    | dsimp only

theorem foot_setMode {m : Nat} {z t : State} (hs : 0x72280100a4ea0f80 ||| m = m) (h : Foot m z t) (a0 : _) :
    Foot m z (State.setMode a0 t) := by
  refine Foot.step (m := 0x72280100a4ea0f80) ?_ hs h
  clear h hs
  have h := Foot.refl 0x72280100a4ea0f80 t
  unfold State.setMode
  repeat' first
    | with_reducible assumption
    | (intro x; first | clear_value x | skip)
    | lift_lets
    | with_reducible refine foot_setModeFrom rfl ?_ ..
    | split
    | dsimp only

theorem foot_changeMode {m : Nat} {z t : State} (hs : 0x72280100a4ea0f80 ||| m = m) (h : Foot m z t) (a0 : _) :
    Foot m z (State.changeMode a0 t) := by
  refine Foot.step (m := 0x72280100a4ea0f80) ?_ hs h
  clear h hs
  have h := Foot.refl 0x72280100a4ea0f80 t
  unfold State.changeMode
  repeat' first
    | with_reducible assumption
    | (intro x; first | clear_value x | skip)
    | lift_lets
    | with_reducible refine foot_setMode rfl ?_ ..
    | with_reducible apply Foot.ite
    | split
    | dsimp only

theorem foot_cause {m : Nat} {z t : State} (hs : 0x8010000004000 ||| m = m) (h : Foot m z t) (a0 : _) :
    Foot m z (State.cause a0 t) := by
  refine Foot.step (m := 0x8010000004000) ?_ hs h
  clear h hs
  have h := Foot.refl 0x8010000004000 t
  unfold State.cause
  repeat' first
    | with_reducible assumption
    | (intro x; first | (refine Foot.cut (P := Foot 0x8010000004000 t x) ?_ ?_; rotate_left; subst x; rotate_left; intro hx; clear_value x) | clear_value x | skip)
    | lift_lets
    | with_reducible refine foot_setFld (blk_SYS_CMDSTAT_RESULT ..) rfl ?_ ..
    | with_reducible refine foot_setFld (blk_SAFE_RST_LAST_REJ ..) rfl ?_ ..
    | with_reducible refine foot_setFld (blk_SAFE_RST_REJECTS ..) rfl ?_ ..
    | with_reducible refine foot_setFld (blk_SAFE_RST_ACCEPTED ..) rfl ?_ ..
    | with_reducible refine foot_incSat (blk_SYS_CMDSTAT_RESULT ..) rfl ?_ ..
    | with_reducible refine foot_incSat (blk_SAFE_RST_LAST_REJ ..) rfl ?_ ..
    | with_reducible refine foot_incSat (blk_SAFE_RST_REJECTS ..) rfl ?_ ..
    | with_reducible refine foot_incSat (blk_SAFE_RST_ACCEPTED ..) rfl ?_ ..
    | ((with_reducible refine Foot.lit ?_ rfl rfl ?_ ?_ ?_ ?_ ?_ ?_); rotate_left; rfl; rfl; rfl; rfl; (first | exact Nat.le_refl _ | exact Nat.le_succ _); (constructor <;> first | with_reducible exact Kept.same | exact Kept.masked rfl); (first | with_reducible assumption | with_reducible refine foot_setFld (blk_SYS_CMDSTAT_RESULT ..) rfl ?_ .. | with_reducible refine foot_setFld (blk_SAFE_RST_LAST_REJ ..) rfl ?_ .. | with_reducible refine foot_setFld (blk_SAFE_RST_REJECTS ..) rfl ?_ .. | with_reducible refine foot_setFld (blk_SAFE_RST_ACCEPTED ..) rfl ?_ .. | with_reducible refine foot_incSat (blk_SYS_CMDSTAT_RESULT ..) rfl ?_ .. | with_reducible refine foot_incSat (blk_SAFE_RST_LAST_REJ ..) rfl ?_ .. | with_reducible refine foot_incSat (blk_SAFE_RST_REJECTS ..) rfl ?_ .. | with_reducible refine foot_incSat (blk_SAFE_RST_ACCEPTED ..) rfl ?_ ..))
    | split
    | dsimp only

theorem foot_causeMode {m : Nat} {z t : State} (hs : 0x72280100a4ea4f80 ||| m = m) (h : Foot m z t) (a0 : _) (a1 : _) (a2 : _) :
    Foot m z (State.causeMode a0 a1 a2 t) := by
  refine Foot.step (m := 0x72280100a4ea4f80) ?_ hs h
  clear h hs
  have h := Foot.refl 0x72280100a4ea4f80 t
  unfold State.causeMode
  repeat' first
    | with_reducible assumption
    | (intro x; first | clear_value x | skip)
    | lift_lets
    | with_reducible refine foot_setModeFrom rfl ?_ ..
    | with_reducible refine foot_cause rfl ?_ ..
    | with_reducible apply Foot.ite
    | split
    | dsimp only

theorem foot_soffAxes {m : Nat} {z t : State} (hs : 0x30080000042a0000 ||| m = m) (h : Foot m z t) :
    Foot m z (State.soffAxes t) := by
  refine Foot.step (m := 0x30080000042a0000) ?_ hs h
  clear h hs
  have h := Foot.refl 0x30080000042a0000 t
  unfold State.soffAxes
  repeat' first
    | with_reducible assumption
    | (intro x; first | clear_value x | skip)
    | lift_lets
    | with_reducible refine foot_axInhibit rfl ?_ ..
    | with_reducible refine foot_axRelease rfl ?_ ..
    | with_reducible refine Foot.forL (fun _ _ _ => ?_) ?_
    | with_reducible apply Foot.ite
    | split
    | dsimp only

theorem foot_lockout {m : Nat} {z t : State} (hs : 0x72280100a4ea4f80 ||| m = m) (h : Foot m z t) (a0 : _) (a1 : _) :
    Foot m z (State.lockout a0 a1 t) := by
  refine Foot.step (m := 0x72280100a4ea4f80) ?_ hs h
  clear h hs
  have h := Foot.refl 0x72280100a4ea4f80 t
  unfold State.lockout
  repeat' first
    | with_reducible assumption
    | (intro x; first | (refine Foot.cut (P := Foot 0x72280100a4ea4f80 t x) ?_ ?_; rotate_left; subst x; rotate_left; intro hx; clear_value x) | clear_value x | skip)
    | lift_lets
    | with_reducible refine foot_sbcEngage rfl ?_ ..
    | with_reducible refine foot_bhtInconclusive rfl ?_ ..
    | with_reducible refine foot_soffAxes rfl ?_ ..
    | with_reducible refine foot_causeMode rfl ?_ ..
    | with_reducible refine foot_setFld (blk_SAFE_STAT_STATE ..) rfl ?_ ..
    | with_reducible refine foot_setFld (blk_SAFE_STAT_REASON ..) rfl ?_ ..
    | with_reducible refine foot_setFld (blk_SAFE_STAT_ARG ..) rfl ?_ ..
    | with_reducible refine foot_setFld (blk_SAFE_STAT_SOFF ..) rfl ?_ ..
    | with_reducible refine foot_setFlag (blk_SAFE_STAT_STATE ..) rfl ?_ ..
    | with_reducible refine foot_setFlag (blk_SAFE_STAT_REASON ..) rfl ?_ ..
    | with_reducible refine foot_setFlag (blk_SAFE_STAT_ARG ..) rfl ?_ ..
    | with_reducible refine foot_setFlag (blk_SAFE_STAT_SOFF ..) rfl ?_ ..
    | with_reducible refine Foot.forL (fun _ _ _ => ?_) ?_
    | with_reducible apply Foot.ite
    | ((with_reducible refine Foot.lit ?_ rfl rfl ?_ ?_ ?_ ?_ ?_ ?_); rotate_left; rfl; rfl; rfl; rfl; (first | exact Nat.le_refl _ | exact Nat.le_succ _); (constructor <;> first | with_reducible exact Kept.same | exact Kept.masked rfl); (first | with_reducible assumption | with_reducible refine foot_sbcEngage rfl ?_ .. | with_reducible refine foot_bhtInconclusive rfl ?_ .. | with_reducible refine foot_soffAxes rfl ?_ .. | with_reducible refine foot_causeMode rfl ?_ .. | with_reducible refine foot_setFld (blk_SAFE_STAT_STATE ..) rfl ?_ .. | with_reducible refine foot_setFld (blk_SAFE_STAT_REASON ..) rfl ?_ .. | with_reducible refine foot_setFld (blk_SAFE_STAT_ARG ..) rfl ?_ .. | with_reducible refine foot_setFld (blk_SAFE_STAT_SOFF ..) rfl ?_ .. | with_reducible refine foot_setFlag (blk_SAFE_STAT_STATE ..) rfl ?_ .. | with_reducible refine foot_setFlag (blk_SAFE_STAT_REASON ..) rfl ?_ .. | with_reducible refine foot_setFlag (blk_SAFE_STAT_ARG ..) rfl ?_ .. | with_reducible refine foot_setFlag (blk_SAFE_STAT_SOFF ..) rfl ?_ .. | with_reducible refine Foot.forL (fun _ _ _ => ?_) ?_ | with_reducible apply Foot.ite))
    | split
    | dsimp only

theorem foot_modSrc {m : Nat} {z t : State} (hs : 0x80 ||| m = m) (h : Foot m z t) (a0 : _) (a1 : _) :
    Foot m z (State.modSrc a0 a1 t) := by
  refine Foot.step (m := 0x80) ?_ hs h
  clear h hs
  have h := Foot.refl 0x80 t
  unfold State.modSrc
  repeat' first
    | with_reducible assumption
    | (intro x; first | clear_value x | skip)
    | lift_lets
    | ((with_reducible refine Foot.lit ?_ rfl rfl ?_ ?_ ?_ ?_ ?_ ?_); rotate_left; rfl; rfl; rfl; rfl; (first | exact Nat.le_refl _ | exact Nat.le_succ _); (constructor <;> first | with_reducible exact Kept.same | exact Kept.masked rfl); (first | with_reducible assumption))
    | split
    | dsimp only

theorem foot_faultReason {m : Nat} {z t : State} (hs : 0x400 ||| m = m) (h : Foot m z t) (a0 : _) (a1 : _) :
    Foot m z (State.faultReason a0 a1 t) := by
  refine Foot.step (m := 0x400) ?_ hs h
  clear h hs
  have h := Foot.refl 0x400 t
  unfold State.faultReason
  repeat' first
    | with_reducible assumption
    | (intro x; first | clear_value x | skip)
    | lift_lets
    | with_reducible refine foot_reasonTo rfl ?_ ..
    | with_reducible apply Foot.ite
    | split
    | dsimp only

theorem foot_react {m : Nat} {z t : State} (hs : 0x72280100a4ea4f80 ||| m = m) (h : Foot m z t) (a0 : _) (a1 : _) :
    Foot m z (State.react a0 a1 t) := by
  refine Foot.step (m := 0x72280100a4ea4f80) ?_ hs h
  clear h hs
  have h := Foot.refl 0x72280100a4ea4f80 t
  unfold State.react
  repeat' first
    | with_reducible assumption
    | (intro x; first | (refine Foot.cut (P := Foot 0x72280100a4ea4f80 t x) ?_ ?_; rotate_left; subst x; rotate_left; intro hx; clear_value x) | clear_value x | skip)
    | lift_lets
    | with_reducible refine foot_lockout rfl ?_ ..
    | with_reducible refine foot_faultReason rfl ?_ ..
    | with_reducible refine foot_causeMode rfl ?_ ..
    | with_reducible apply Foot.ite
    | ((with_reducible refine Foot.lit ?_ rfl rfl ?_ ?_ ?_ ?_ ?_ ?_); rotate_left; rfl; rfl; rfl; rfl; (first | exact Nat.le_refl _ | exact Nat.le_succ _); (constructor <;> first | with_reducible exact Kept.same | exact Kept.masked rfl); (first | with_reducible assumption | with_reducible refine foot_lockout rfl ?_ .. | with_reducible refine foot_faultReason rfl ?_ .. | with_reducible refine foot_causeMode rfl ?_ .. | with_reducible apply Foot.ite))
    | split
    | dsimp only

theorem foot_raise {m : Nat} {z t : State} (hs : 0x72280100a4ea4f80 ||| m = m) (h : Foot m z t) (a0 : _) (a1 : _) (a2 : _) (a3 : _) :
    Foot m z (State.raise a0 a1 a2 a3 t) := by
  refine Foot.step (m := 0x72280100a4ea4f80) ?_ hs h
  clear h hs
  have h := Foot.refl 0x72280100a4ea4f80 t
  unfold State.raise
  repeat' first
    | with_reducible assumption
    | (intro x; first | (refine Foot.cut (P := Foot 0x72280100a4ea4f80 t x) ?_ ?_; rotate_left; subst x; rotate_left; intro hx; clear_value x) | clear_value x | skip)
    | lift_lets
    | with_reducible refine foot_react rfl ?_ ..
    | with_reducible refine foot_evlCode rfl ?_ ..
    | with_reducible refine foot_modSrc rfl ?_ ..
    | with_reducible apply Foot.ite
    | split
    | dsimp only

theorem foot_raiseCond {m : Nat} {z t : State} (hs : 0x72280100a4ea4f80 ||| m = m) (h : Foot m z t) (a0 : _) (a1 : _) (a2 : _) :
    Foot m z (State.raiseCond a0 a1 a2 t) := by
  refine Foot.step (m := 0x72280100a4ea4f80) ?_ hs h
  clear h hs
  have h := Foot.refl 0x72280100a4ea4f80 t
  unfold State.raiseCond
  repeat' first
    | with_reducible assumption
    | (intro x; first | (refine Foot.cut (P := Foot 0x72280100a4ea4f80 t x) ?_ ?_; rotate_left; subst x; rotate_left; intro hx; clear_value x) | clear_value x | skip)
    | lift_lets
    | with_reducible refine foot_raise rfl ?_ ..
    | with_reducible refine foot_modSrc rfl ?_ ..
    | split
    | dsimp only

theorem foot_endCond {m : Nat} {z t : State} (hs : 0x80 ||| m = m) (h : Foot m z t) (a0 : _) (a1 : _) :
    Foot m z (State.endCond a0 a1 t) := by
  refine Foot.step (m := 0x80) ?_ hs h
  clear h hs
  have h := Foot.refl 0x80 t
  unfold State.endCond
  repeat' first
    | with_reducible assumption
    | (intro x; first | clear_value x | skip)
    | lift_lets
    | with_reducible refine foot_modSrc rfl ?_ ..
    | split
    | dsimp only

theorem foot_hwEvent {m : Nat} {z t : State} (hs : 0x72280100a4ea4f80 ||| m = m) (h : Foot m z t) (a0 : _) (a1 : _) :
    Foot m z (State.hwEvent a0 a1 t) := by
  refine Foot.step (m := 0x72280100a4ea4f80) ?_ hs h
  clear h hs
  have h := Foot.refl 0x72280100a4ea4f80 t
  unfold State.hwEvent
  repeat' first
    | with_reducible assumption
    | (intro x; first | clear_value x | skip)
    | lift_lets
    | with_reducible refine foot_raise rfl ?_ ..
    | with_reducible refine foot_hwSubmit rfl ?_ ..
    | with_reducible apply Foot.ite
    | split
    | dsimp only

theorem foot_ifFitted {m : Nat} {z t : State} (hs : 0x72280100a4ea4f80 ||| m = m) {a2 : _} (hf : ∀ t, Foot m z t → Foot m z (a2 t)) (h : Foot m z t) (a0 : _) (a1 : _) :
    Foot m z (State.ifFitted a0 a1 a2 t) := by
  unfold State.ifFitted
  repeat' first
    | with_reducible refine hf _ ?_
    | with_reducible assumption
    | with_reducible refine foot_raise (mask_sub (b := 0x72280100a4ea4f80) rfl hs) ?_ ..
    | with_reducible apply Foot.ite
    | dsimp only

end Sys2Proof.Machine
end

