-- ==== Sys2Proof/Laws/FootRegisters.lean ====
section
/-!
SUPPORT. Footprints of the operations of Machine/Registers.lean.
-/

set_option Elab.async false

set_option linter.all false

set_option maxRecDepth 4000

namespace Sys2Proof.Machine

theorem foot_draw {m : Nat} {z t : State} (hs : 0x10 ||| m = m) (h : Foot m z t) (a0 : _) :
    PairFoot m z (State.draw a0 t) := by
  refine PairFoot.step (m := 0x10) ?_ hs h
  clear h hs
  have h := Foot.refl 0x10 t
  unfold State.draw
  repeat' first
    | with_reducible assumption
    | (intro x; first | clear_value x | skip)
    | lift_lets
    | ((with_reducible refine Foot.lit ?_ rfl rfl ?_ ?_ ?_ ?_ ?_ ?_); rotate_left; rfl; rfl; rfl; rfl; (first | exact Nat.le_refl _ | exact Nat.le_succ _); (constructor <;> first | with_reducible exact Kept.same | exact Kept.masked rfl); (first | with_reducible assumption))
    | split
    | with_reducible refine PairFoot.mk ?_
    | dsimp only

theorem foot_expertToReset {m : Nat} {z t : State} (hs : 0xffffff0000000000 ||| m = m) (h : Foot m z t) (a0 : _) :
    Foot m z (State.expertToReset a0 t) := by
  refine Foot.step (m := 0xffffff0000000000) ?_ hs h
  clear h hs
  have h := Foot.refl 0xffffff0000000000 t
  unfold State.expertToReset
  repeat' first
    | with_reducible assumption
    | (intro x; first | clear_value x | skip)
    | lift_lets
    | with_reducible refine foot_setRegAll rfl ?_ ..
    | with_reducible refine Foot.forL (fun _ _ _ => ?_) ?_
    | with_reducible apply Foot.ite
    | split
    | dsimp only

theorem foot_clearExpert {m : Nat} {z t : State} (hs : 0xffffff0000000000 ||| m = m) (h : Foot m z t) (a0 : _) :
    Foot m z (State.clearExpert a0 t) := by
  refine Foot.step (m := 0xffffff0000000000) ?_ hs h
  clear h hs
  have h := Foot.refl 0xffffff0000000000 t
  unfold State.clearExpert
  repeat' first
    | with_reducible assumption
    | (intro x; first | clear_value x | skip)
    | lift_lets
    | with_reducible refine foot_expertToReset rfl ?_ ..
    | with_reducible refine foot_setFld (blk_CLK_FDDLY_DLY ..) rfl ?_ ..
    | with_reducible refine Foot.forN (fun _ _ _ => ?_) ?_
    | with_reducible apply Foot.ite
    | split
    | dsimp only

end Sys2Proof.Machine
end

