-- ==== Sys2Proof/Laws/FootFaults.lean ====
section
/-!
SUPPORT. Footprints of the operations of Machine/Faults.lean.
-/

set_option Elab.async false

set_option linter.all false

set_option maxRecDepth 4000

namespace Sys2Proof.Machine

theorem foot_fltResult {m : Nat} {z t : State} (hs : 0x80000000000 ||| m = m) (h : Foot m z t) (a0 : _) (a1 : _) :
    Foot m z (State.fltResult a0 a1 t) := by
  refine Foot.step (m := 0x80000000000) ?_ hs h
  clear h hs
  have h := Foot.refl 0x80000000000 t
  unfold State.fltResult
  repeat' first
    | with_reducible assumption
    | (intro x; first | clear_value x | skip)
    | lift_lets
    | with_reducible refine foot_setFld (blk_FLT_CMDSTAT_RESULT ..) rfl ?_ ..
    | with_reducible refine foot_setFld (blk_FLT_CMDSTAT_CODE ..) rfl ?_ ..
    | split
    | dsimp only

theorem foot_clearSrc {m : Nat} {z t : State} (hs : 0x80 ||| m = m) (h : Foot m z t) (a0 : _) :
    Foot m z (State.clearSrc a0 t) := by
  refine Foot.step (m := 0x80) ?_ hs h
  clear h hs
  have h := Foot.refl 0x80 t
  unfold State.clearSrc
  repeat' first
    | with_reducible assumption
    | (intro x; first | clear_value x | skip)
    | lift_lets
    | with_reducible refine foot_modSrc rfl ?_ ..
    | split
    | dsimp only

theorem foot_inject {m : Nat} {z t : State} (hs : 0x80000000080 ||| m = m) (h : Foot m z t) :
    Foot m z (State.inject t) := by
  refine Foot.step (m := 0x80000000080) ?_ hs h
  clear h hs
  have h := Foot.refl 0x80000000080 t
  unfold State.inject
  repeat' first
    | with_reducible assumption
    | (intro x; first | clear_value x | skip)
    | lift_lets
    | with_reducible refine foot_fltResult rfl ?_ ..
    | with_reducible refine foot_setFlag (blk_FLT_CMDSTAT_INJ_PEND ..) rfl ?_ ..
    | with_reducible apply Foot.ite
    | ((with_reducible refine Foot.lit ?_ rfl rfl ?_ ?_ ?_ ?_ ?_ ?_); rotate_left; rfl; rfl; rfl; rfl; (first | exact Nat.le_refl _ | exact Nat.le_succ _); (constructor <;> first | with_reducible exact Kept.same | exact Kept.masked rfl); (first | with_reducible assumption | with_reducible refine foot_fltResult rfl ?_ .. | with_reducible refine foot_setFlag (blk_FLT_CMDSTAT_INJ_PEND ..) rfl ?_ .. | with_reducible apply Foot.ite))
    | split
    | dsimp only

theorem foot_injDone {m : Nat} {z t : State} (hs : 0x80000000080 ||| m = m) (h : Foot m z t) :
    Foot m z (State.injDone t) := by
  refine Foot.step (m := 0x80000000080) ?_ hs h
  clear h hs
  have h := Foot.refl 0x80000000080 t
  unfold State.injDone
  repeat' first
    | with_reducible assumption
    | (intro x; first | clear_value x | skip)
    | lift_lets
    | with_reducible refine foot_setFld (blk_FLT_CMDSTAT_RESULT ..) rfl ?_ ..
    | with_reducible refine foot_setFld (blk_FLT_CMDSTAT_INJ_PEND ..) rfl ?_ ..
    | with_reducible refine foot_setFlag (blk_FLT_CMDSTAT_RESULT ..) rfl ?_ ..
    | with_reducible refine foot_setFlag (blk_FLT_CMDSTAT_INJ_PEND ..) rfl ?_ ..
    | ((with_reducible refine Foot.lit ?_ rfl rfl ?_ ?_ ?_ ?_ ?_ ?_); rotate_left; rfl; rfl; rfl; rfl; (first | exact Nat.le_refl _ | exact Nat.le_succ _); (constructor <;> first | with_reducible exact Kept.same | exact Kept.masked rfl); (first | with_reducible assumption | with_reducible refine foot_setFld (blk_FLT_CMDSTAT_RESULT ..) rfl ?_ .. | with_reducible refine foot_setFld (blk_FLT_CMDSTAT_INJ_PEND ..) rfl ?_ .. | with_reducible refine foot_setFlag (blk_FLT_CMDSTAT_RESULT ..) rfl ?_ .. | with_reducible refine foot_setFlag (blk_FLT_CMDSTAT_INJ_PEND ..) rfl ?_ ..))
    | split
    | dsimp only

theorem foot_fltCmd {m : Nat} {z t : State} (hs : 0x72280900a4ea4f80 ||| m = m) (h : Foot m z t) (a0 : _) (a1 : _) :
    Foot m z (State.fltCmd a0 a1 t) := by
  refine Foot.step (m := 0x72280900a4ea4f80) ?_ hs h
  clear h hs
  have h := Foot.refl 0x72280900a4ea4f80 t
  unfold State.fltCmd
  repeat' first
    | with_reducible assumption
    | (intro x; first | clear_value x | skip)
    | lift_lets
    | with_reducible refine foot_inject rfl ?_ ..
    | with_reducible refine foot_raise rfl ?_ ..
    | with_reducible refine foot_fltResult rfl ?_ ..
    | with_reducible refine foot_clearSrc rfl ?_ ..
    | with_reducible refine Foot.forL (fun _ _ _ => ?_) ?_
    | with_reducible apply Foot.ite
    | split
    | dsimp only

theorem foot_execFltClear {m : Nat} {z t : State} (hs : 0x72280900a4ea4f80 ||| m = m) (h : Foot m z t) (a0 : _) (a1 : _) :
    OutFoot m z (execFltClear a0 a1 t) := by
  refine OutFoot.step (m := 0x72280900a4ea4f80) ?_ hs h
  clear h hs
  have h := Foot.refl 0x72280900a4ea4f80 t
  unfold execFltClear
  repeat' first
    | with_reducible assumption
    | (intro x; first | clear_value x | skip)
    | lift_lets
    | with_reducible refine foot_fltCmd rfl ?_ ..
    | with_reducible refine OutFoot.next ?_
    | split
    | dsimp only

theorem foot_execFltClearAll {m : Nat} {z t : State} (hs : 0x72280900a4ea4f80 ||| m = m) (h : Foot m z t) (a0 : _) (a1 : _) :
    OutFoot m z (execFltClearAll a0 a1 t) := by
  refine OutFoot.step (m := 0x72280900a4ea4f80) ?_ hs h
  clear h hs
  have h := Foot.refl 0x72280900a4ea4f80 t
  unfold execFltClearAll
  repeat' first
    | with_reducible assumption
    | (intro x; first | clear_value x | skip)
    | lift_lets
    | with_reducible refine foot_fltCmd rfl ?_ ..
    | with_reducible refine OutFoot.next ?_
    | split
    | dsimp only

theorem foot_execRaise {m : Nat} {z t : State} (hs : 0x72280900a4ea4f80 ||| m = m) (h : Foot m z t) (a0 : _) (a1 : _) :
    OutFoot m z (execRaise a0 a1 t) := by
  refine OutFoot.step (m := 0x72280900a4ea4f80) ?_ hs h
  clear h hs
  have h := Foot.refl 0x72280900a4ea4f80 t
  unfold execRaise
  repeat' first
    | with_reducible assumption
    | (intro x; first | clear_value x | skip)
    | lift_lets
    | with_reducible refine foot_fltCmd rfl ?_ ..
    | with_reducible refine OutFoot.next ?_
    | split
    | dsimp only

theorem foot_execInject {m : Nat} {z t : State} (hs : 0x72280900a4ea4f80 ||| m = m) (h : Foot m z t) (a0 : _) (a1 : _) :
    OutFoot m z (execInject a0 a1 t) := by
  refine OutFoot.step (m := 0x72280900a4ea4f80) ?_ hs h
  clear h hs
  have h := Foot.refl 0x72280900a4ea4f80 t
  unfold execInject
  repeat' first
    | with_reducible assumption
    | (intro x; first | clear_value x | skip)
    | lift_lets
    | with_reducible refine foot_fltCmd rfl ?_ ..
    | with_reducible refine OutFoot.next ?_
    | split
    | dsimp only

theorem foot_execInjectionLapse {m : Nat} {z t : State} (hs : 0x80000000080 ||| m = m) (h : Foot m z t) :
    OutFoot m z (execInjectionLapse t) := by
  refine OutFoot.step (m := 0x80000000080) ?_ hs h
  clear h hs
  have h := Foot.refl 0x80000000080 t
  unfold execInjectionLapse
  repeat' first
    | with_reducible assumption
    | (intro x; first | clear_value x | skip)
    | lift_lets
    | with_reducible refine foot_injDone rfl ?_ ..
    | with_reducible refine foot_setFld (blk_FLT_CMDSTAT_RESULT ..) rfl ?_ ..
    | with_reducible apply Foot.ite
    | with_reducible refine OutFoot.next ?_
    | split
    | dsimp only

theorem foot_execFaultRaise {m : Nat} {z t : State} (hs : 0x72280100a4ea4f80 ||| m = m) (h : Foot m z t) (a0 : _) (a1 : _) (a2 : _) (a3 : _) :
    OutFoot m z (execFaultRaise a0 a1 a2 a3 t) := by
  refine OutFoot.step (m := 0x72280100a4ea4f80) ?_ hs h
  clear h hs
  have h := Foot.refl 0x72280100a4ea4f80 t
  unfold execFaultRaise
  repeat' first
    | with_reducible assumption
    | (intro x; first | clear_value x | skip)
    | lift_lets
    | with_reducible refine foot_raise rfl ?_ ..
    | with_reducible refine foot_raiseCond rfl ?_ ..
    | with_reducible apply Foot.ite
    | with_reducible refine OutFoot.next ?_
    | split
    | dsimp only

theorem foot_execQuietExpiry {m : Nat} {z t : State} (hs : 0x72280100a4ea4f80 ||| m = m) (h : Foot m z t) (a0 : _) :
    OutFoot m z (execQuietExpiry a0 t) := by
  refine OutFoot.step (m := 0x72280100a4ea4f80) ?_ hs h
  clear h hs
  have h := Foot.refl 0x72280100a4ea4f80 t
  unfold execQuietExpiry
  repeat' first
    | with_reducible assumption
    | (intro x; first | (refine Foot.cut (P := Foot 0x72280100a4ea4f80 t x) ?_ ?_; rotate_left; subst x; rotate_left; intro hx; clear_value x) | clear_value x | skip)
    | lift_lets
    | with_reducible refine foot_react rfl ?_ ..
    | with_reducible refine foot_evlCode rfl ?_ ..
    | with_reducible refine foot_modSrc rfl ?_ ..
    | with_reducible apply OutFoot.ite
    | with_reducible refine OutFoot.next ?_
    | split
    | dsimp only

theorem foot_fltCfg0Write {m : Nat} {z t : State} (hs : 0x72280900a4ea4f80 ||| m = m) (h : Foot m z t) (a0 : _) (a1 : _) :
    Foot m z (State.fltCfg0Write a0 a1 t) := by
  refine Foot.step (m := 0x72280900a4ea4f80) ?_ hs h
  clear h hs
  have h := Foot.refl 0x72280900a4ea4f80 t
  unfold State.fltCfg0Write
  repeat' first
    | with_reducible assumption
    | (intro x; first | (refine Foot.cut (P := Foot 0x72280900a4ea4f80 t x) ?_ ?_; rotate_left; subst x; rotate_left; intro hx; clear_value x) | clear_value x | skip)
    | lift_lets
    | with_reducible refine foot_react rfl ?_ ..
    | with_reducible refine foot_modSrc rfl ?_ ..
    | with_reducible refine foot_setFld (blk_FLT_CFG0_SEV ..) rfl ?_ ..
    | with_reducible refine foot_plainWrite (blk_FLT_CFG0_SEV ..) rfl ?_ ..
    | with_reducible apply Foot.ite
    | split
    | dsimp only

theorem foot_execSevWrite {m : Nat} {z t : State} (hs : 0x72280900a4ea4f80 ||| m = m) (h : Foot m z t) (a0 : _) (a1 : _) (a2 : _) :
    OutFoot m z (execSevWrite a0 a1 a2 t) := by
  refine OutFoot.step (m := 0x72280900a4ea4f80) ?_ hs h
  clear h hs
  have h := Foot.refl 0x72280900a4ea4f80 t
  unfold execSevWrite
  repeat' first
    | with_reducible assumption
    | (intro x; first | clear_value x | skip)
    | lift_lets
    | with_reducible refine foot_fltCfg0Write rfl ?_ ..
    | with_reducible refine OutFoot.next ?_
    | split
    | dsimp only

theorem foot_fltCntWrite {m : Nat} {z t : State} (hs : 0x80 ||| m = m) (h : Foot m z t) (a0 : _) (a1 : _) :
    Foot m z (State.fltCntWrite a0 a1 t) := by
  refine Foot.step (m := 0x80) ?_ hs h
  clear h hs
  have h := Foot.refl 0x80 t
  unfold State.fltCntWrite
  repeat' first
    | with_reducible assumption
    | (intro x; first | clear_value x | skip)
    | lift_lets
    | with_reducible refine foot_modSrc rfl ?_ ..
    | split
    | dsimp only

theorem foot_evlResult {m : Nat} {z t : State} (hs : 0x100000000000 ||| m = m) (h : Foot m z t) (a0 : _) (a1 : _) :
    Foot m z (State.evlResult a0 a1 t) := by
  refine Foot.step (m := 0x100000000000) ?_ hs h
  clear h hs
  have h := Foot.refl 0x100000000000 t
  unfold State.evlResult
  repeat' first
    | with_reducible assumption
    | (intro x; first | clear_value x | skip)
    | lift_lets
    | with_reducible refine foot_setFld (blk_EVL_CMDSTAT_RESULT ..) rfl ?_ ..
    | with_reducible refine foot_setFld (blk_EVL_CMDSTAT_CODE ..) rfl ?_ ..
    | split
    | dsimp only

theorem foot_evlCmd {m : Nat} {z t : State} (hs : 0x100000000300 ||| m = m) (h : Foot m z t) (a0 : _) (a1 : _) (a2 : _) :
    Foot m z (State.evlCmd a0 a1 a2 t) := by
  refine Foot.step (m := 0x100000000300) ?_ hs h
  clear h hs
  have h := Foot.refl 0x100000000300 t
  unfold State.evlCmd
  repeat' first
    | with_reducible assumption
    | (intro x; first | clear_value x | skip)
    | lift_lets
    | with_reducible refine foot_evlResult rfl ?_ ..
    | with_reducible refine foot_evlCode rfl ?_ ..
    | with_reducible refine foot_log rfl ?_ ..
    | with_reducible apply Foot.ite
    | ((with_reducible refine Foot.lit ?_ rfl rfl ?_ ?_ ?_ ?_ ?_ ?_); rotate_left; rfl; rfl; rfl; rfl; (first | exact Nat.le_refl _ | exact Nat.le_succ _); (constructor <;> first | with_reducible exact Kept.same | exact Kept.masked rfl); (first | with_reducible assumption | with_reducible refine foot_evlResult rfl ?_ .. | with_reducible refine foot_evlCode rfl ?_ .. | with_reducible refine foot_log rfl ?_ .. | with_reducible apply Foot.ite))
    | split
    | dsimp only

theorem foot_execEvlWrite {m : Nat} {z t : State} (hs : 0x100000000300 ||| m = m) (h : Foot m z t) (a0 : _) (a1 : _) (a2 : _) :
    OutFoot m z (execEvlWrite a0 a1 a2 t) := by
  refine OutFoot.step (m := 0x100000000300) ?_ hs h
  clear h hs
  have h := Foot.refl 0x100000000300 t
  unfold execEvlWrite
  repeat' first
    | with_reducible assumption
    | (intro x; first | clear_value x | skip)
    | lift_lets
    | with_reducible refine foot_evlCmd rfl ?_ ..
    | with_reducible refine OutFoot.next ?_
    | split
    | dsimp only

theorem foot_execClearLog {m : Nat} {z t : State} (hs : 0x100000000300 ||| m = m) (h : Foot m z t) (a0 : _) (a1 : _) :
    OutFoot m z (execClearLog a0 a1 t) := by
  refine OutFoot.step (m := 0x100000000300) ?_ hs h
  clear h hs
  have h := Foot.refl 0x100000000300 t
  unfold execClearLog
  repeat' first
    | with_reducible assumption
    | (intro x; first | clear_value x | skip)
    | lift_lets
    | with_reducible refine foot_evlCmd rfl ?_ ..
    | with_reducible refine OutFoot.next ?_
    | split
    | dsimp only

theorem foot_evlSelect {m : Nat} {z t : State} (hs : 0x100000000000 ||| m = m) (h : Foot m z t) (a0 : _) :
    Foot m z (State.evlSelect a0 t) := by
  refine Foot.step (m := 0x100000000000) ?_ hs h
  clear h hs
  have h := Foot.refl 0x100000000000 t
  unfold State.evlSelect
  repeat' first
    | with_reducible assumption
    | (intro x; first | (refine Foot.cut (P := Foot 0x100000000000 t x) ?_ ?_; rotate_left; subst x; rotate_left; intro hx; clear_value x) | clear_value x | skip)
    | lift_lets
    | with_reducible refine foot_setFld (blk_EVL_RDSEL_SLOT ..) rfl ?_ ..
    | with_reducible refine foot_setFld (blk_EVL_REC_WORD ..) rfl ?_ ..
    | with_reducible refine foot_plainWrite (blk_EVL_RDSEL_SLOT ..) rfl ?_ ..
    | with_reducible refine foot_plainWrite (blk_EVL_REC_WORD ..) rfl ?_ ..
    | with_reducible refine Foot.forN (fun _ _ _ => ?_) ?_
    | split
    | dsimp only

theorem foot_execEvlRdselWrite {m : Nat} {z t : State} (hs : 0x100000000000 ||| m = m) (h : Foot m z t) (a0 : _) (a1 : _) :
    OutFoot m z (execEvlRdselWrite a0 a1 t) := by
  refine OutFoot.step (m := 0x100000000000) ?_ hs h
  clear h hs
  have h := Foot.refl 0x100000000000 t
  unfold execEvlRdselWrite
  repeat' first
    | with_reducible assumption
    | (intro x; first | clear_value x | skip)
    | lift_lets
    | with_reducible refine foot_evlSelect rfl ?_ ..
    | with_reducible refine OutFoot.next ?_
    | split
    | dsimp only

theorem foot_evlCodeWrite {m : Nat} {z t : State} (hs : 0xffffff0000000100 ||| m = m) (h : Foot m z t) (a0 : _) (a1 : _) :
    Foot m z (State.evlCodeWrite a0 a1 t) := by
  refine Foot.step (m := 0xffffff0000000100) ?_ hs h
  clear h hs
  have h := Foot.refl 0xffffff0000000100 t
  unfold State.evlCodeWrite
  repeat' first
    | with_reducible assumption
    | (intro x; first | (refine Foot.cut (P := Foot 0xffffff0000000100 t x) ?_ ?_; rotate_left; subst x; rotate_left; intro hx; clear_value x) | clear_value x | skip)
    | lift_lets
    | with_reducible refine foot_setFlagAll rfl ?_ ..
    | with_reducible refine foot_plainAll rfl ?_ ..
    | with_reducible apply Foot.ite
    | ((with_reducible refine Foot.lit ?_ rfl rfl ?_ ?_ ?_ ?_ ?_ ?_); rotate_left; rfl; rfl; rfl; rfl; (first | exact Nat.le_refl _ | exact Nat.le_succ _); (constructor <;> first | with_reducible exact Kept.same | exact Kept.masked rfl); (first | with_reducible assumption | with_reducible refine foot_setFlagAll rfl ?_ .. | with_reducible refine foot_plainAll rfl ?_ .. | with_reducible apply Foot.ite))
    | split
    | dsimp only

theorem foot_execEvlCodeWrite {m : Nat} {z t : State} (hs : 0xffffff0000000100 ||| m = m) (h : Foot m z t) (a0 : _) (a1 : _) (a2 : _) :
    OutFoot m z (execEvlCodeWrite a0 a1 a2 t) := by
  refine OutFoot.step (m := 0xffffff0000000100) ?_ hs h
  clear h hs
  have h := Foot.refl 0xffffff0000000100 t
  unfold execEvlCodeWrite
  repeat' first
    | with_reducible assumption
    | (intro x; first | clear_value x | skip)
    | lift_lets
    | with_reducible refine foot_evlCodeWrite rfl ?_ ..
    | with_reducible refine OutFoot.next ?_
    | split
    | dsimp only

theorem foot_execTokenRefill {m : Nat} {z t : State} (hs : 0x100 ||| m = m) (h : Foot m z t) (a0 : _) :
    OutFoot m z (execTokenRefill a0 t) := by
  refine OutFoot.step (m := 0x100) ?_ hs h
  clear h hs
  have h := Foot.refl 0x100 t
  unfold execTokenRefill
  repeat' first
    | with_reducible assumption
    | (intro x; first | clear_value x | skip)
    | lift_lets
    | with_reducible apply Foot.ite
    | with_reducible refine OutFoot.next ?_
    | ((with_reducible refine Foot.lit ?_ rfl rfl ?_ ?_ ?_ ?_ ?_ ?_); rotate_left; rfl; rfl; rfl; rfl; (first | exact Nat.le_refl _ | exact Nat.le_succ _); (constructor <;> first | with_reducible exact Kept.same | exact Kept.masked rfl); (first | with_reducible assumption | with_reducible apply Foot.ite | with_reducible refine OutFoot.next ?_))
    | split
    | dsimp only

theorem foot_evlDropWrite {m : Nat} {z t : State} (hs : 0x100 ||| m = m) (h : Foot m z t) (a0 : _) (a1 : _) :
    Foot m z (State.evlDropWrite a0 a1 t) := by
  refine Foot.step (m := 0x100) ?_ hs h
  clear h hs
  have h := Foot.refl 0x100 t
  unfold State.evlDropWrite
  repeat' first
    | with_reducible assumption
    | (intro x; first | clear_value x | skip)
    | lift_lets
    | ((with_reducible refine Foot.lit ?_ rfl rfl ?_ ?_ ?_ ?_ ?_ ?_); rotate_left; rfl; rfl; rfl; rfl; (first | exact Nat.le_refl _ | exact Nat.le_succ _); (constructor <;> first | with_reducible exact Kept.same | exact Kept.masked rfl); (first | with_reducible assumption))
    | split
    | dsimp only

theorem foot_vaultCmd {m : Nat} {z t : State} (hs : 0x100000000200 ||| m = m) (h : Foot m z t) (a0 : _) (a1 : _) :
    Foot m z (State.vaultCmd a0 a1 t) := by
  refine Foot.step (m := 0x100000000200) ?_ hs h
  clear h hs
  have h := Foot.refl 0x100000000200 t
  unfold State.vaultCmd
  repeat' first
    | with_reducible assumption
    | (intro x; first | clear_value x | skip)
    | lift_lets
    | with_reducible refine foot_evlResult rfl ?_ ..
    | with_reducible apply Foot.ite
    | ((with_reducible refine Foot.lit ?_ rfl rfl ?_ ?_ ?_ ?_ ?_ ?_); rotate_left; rfl; rfl; rfl; rfl; (first | exact Nat.le_refl _ | exact Nat.le_succ _); (constructor <;> first | with_reducible exact Kept.same | exact Kept.masked rfl); (first | with_reducible assumption | with_reducible refine foot_evlResult rfl ?_ .. | with_reducible apply Foot.ite))
    | split
    | dsimp only

theorem foot_execClearTamp {m : Nat} {z t : State} (hs : 0x100000000200 ||| m = m) (h : Foot m z t) (a0 : _) (a1 : _) :
    OutFoot m z (execClearTamp a0 a1 t) := by
  refine OutFoot.step (m := 0x100000000200) ?_ hs h
  clear h hs
  have h := Foot.refl 0x100000000200 t
  unfold execClearTamp
  repeat' first
    | with_reducible assumption
    | (intro x; first | clear_value x | skip)
    | lift_lets
    | with_reducible refine foot_vaultCmd rfl ?_ ..
    | with_reducible refine OutFoot.next ?_
    | split
    | dsimp only

theorem foot_execVbatLost {m : Nat} {z t : State} (hs : 0x210 ||| m = m) (h : Foot m z t) :
    OutFoot m z (execVbatLost t) := by
  refine OutFoot.step (m := 0x210) ?_ hs h
  clear h hs
  have h := Foot.refl 0x210 t
  unfold execVbatLost
  repeat' first
    | with_reducible assumption
    | (intro x; first | clear_value x | skip)
    | lift_lets
    | with_reducible refine foot_draw rfl ?_ ..
    | with_reducible apply OutFoot.ite
    | with_reducible refine OutFoot.next ?_
    | with_reducible refine PairFoot.snd ?_
    | ((with_reducible refine Foot.lit ?_ rfl rfl ?_ ?_ ?_ ?_ ?_ ?_); rotate_left; rfl; rfl; rfl; rfl; (first | exact Nat.le_refl _ | exact Nat.le_succ _); (constructor <;> first | with_reducible exact Kept.same | exact Kept.masked rfl); (first | with_reducible assumption | with_reducible refine foot_draw rfl ?_ .. | with_reducible apply OutFoot.ite | with_reducible refine OutFoot.next ?_ | with_reducible refine PairFoot.snd ?_))
    | split
    | dsimp only

theorem foot_execXtalStop {m : Nat} {z t : State} (hs : 0x200 ||| m = m) (h : Foot m z t) :
    OutFoot m z (execXtalStop t) := by
  refine OutFoot.step (m := 0x200) ?_ hs h
  clear h hs
  have h := Foot.refl 0x200 t
  unfold execXtalStop
  repeat' first
    | with_reducible assumption
    | (intro x; first | clear_value x | skip)
    | lift_lets
    | with_reducible refine OutFoot.next ?_
    | ((with_reducible refine Foot.lit ?_ rfl rfl ?_ ?_ ?_ ?_ ?_ ?_); rotate_left; rfl; rfl; rfl; rfl; (first | exact Nat.le_refl _ | exact Nat.le_succ _); (constructor <;> first | with_reducible exact Kept.same | exact Kept.masked rfl); (first | with_reducible assumption | with_reducible refine OutFoot.next ?_))
    | split
    | dsimp only

theorem foot_execCaseOpen {m : Nat} {z t : State} (hs : 0x200 ||| m = m) (h : Foot m z t) (a0 : _) :
    OutFoot m z (execCaseOpen a0 t) := by
  refine OutFoot.step (m := 0x200) ?_ hs h
  clear h hs
  have h := Foot.refl 0x200 t
  unfold execCaseOpen
  repeat' first
    | with_reducible assumption
    | (intro x; first | clear_value x | skip)
    | lift_lets
    | with_reducible refine OutFoot.next ?_
    | ((with_reducible refine Foot.lit ?_ rfl rfl ?_ ?_ ?_ ?_ ?_ ?_); rotate_left; rfl; rfl; rfl; rfl; (first | exact Nat.le_refl _ | exact Nat.le_succ _); (constructor <;> first | with_reducible exact Kept.same | exact Kept.masked rfl); (first | with_reducible assumption | with_reducible refine OutFoot.next ?_))
    | split
    | dsimp only

end Sys2Proof.Machine
end

