-- ==== Sys2Proof/Laws/FootOps.lean ====
section
/-!
SUPPORT. Footprints of the operations of Machine/Ops.lean.
-/

set_option Elab.async false

set_option linter.all false

set_option maxRecDepth 4000

namespace Sys2Proof.Machine

theorem foot_setWord {m : Nat} {z t : State} (hs : 0x8 ||| m = m) (h : Foot m z t) (a0 : _) (a1 : _) :
    Foot m z (State.setWord a0 a1 t) := by
  refine Foot.step (m := 0x8) ?_ hs h
  clear h hs
  have h := Foot.refl 0x8 t
  unfold State.setWord
  repeat' first
    | with_reducible assumption
    | (intro x; first | clear_value x | skip)
    | lift_lets
    | with_reducible refine foot_setBytes rfl _ _ _ _ ?_
    | split
    | dsimp only

theorem foot_setQuad {m : Nat} {z t : State} (hs : 0x8 ||| m = m) (h : Foot m z t) (a0 : _) (a1 : _) :
    Foot m z (State.setQuad a0 a1 t) := by
  refine Foot.step (m := 0x8) ?_ hs h
  clear h hs
  have h := Foot.refl 0x8 t
  unfold State.setQuad
  repeat' first
    | with_reducible assumption
    | (intro x; first | clear_value x | skip)
    | lift_lets
    | with_reducible refine foot_setBytes rfl _ _ _ _ ?_
    | split
    | dsimp only

theorem foot_setWords {m : Nat} {z t : State} (hs : 0x8 ||| m = m) (h : Foot m z t) (a0 : _) (a1 : _) :
    Foot m z (State.setWords a0 a1 t) := by
  induction a1 generalizing t a0 with
  | nil =>
    unfold State.setWords
    repeat' first
      | with_reducible assumption
      | with_reducible refine foot_setWord (mask_sub (b := 0x8) rfl hs) ?_ ..
      | with_reducible refine foot_setWord (mask_sub (b := 0x8) rfl hs) ?_ ..
      | with_reducible refine foot_setWord (mask_sub (b := 0x8) rfl hs) ?_ ..
      | dsimp only
  | cons x xs ih =>
    unfold State.setWords
    repeat' first
      | with_reducible apply ih
      | with_reducible assumption
      | with_reducible refine foot_setWord (mask_sub (b := 0x8) rfl hs) ?_ ..
      | with_reducible refine foot_setWord (mask_sub (b := 0x8) rfl hs) ?_ ..
      | with_reducible refine foot_setWord (mask_sub (b := 0x8) rfl hs) ?_ ..
      | dsimp only

theorem foot_setBit {m : Nat} {z t : State} (hs : 0x8 ||| m = m) (h : Foot m z t) (a0 : _) (a1 : _) :
    Foot m z (State.setBit a0 a1 t) := by
  refine Foot.step (m := 0x8) ?_ hs h
  clear h hs
  have h := Foot.refl 0x8 t
  unfold State.setBit
  repeat' first
    | with_reducible assumption
    | (intro x; first | clear_value x | skip)
    | lift_lets
    | with_reducible refine foot_setByte rfl ?_ ..
    | split
    | dsimp only

theorem foot_maskWord {m : Nat} {z t : State} (hs : 0x8 ||| m = m) (h : Foot m z t) (a0 : _) (a1 : _) (a2 : _) :
    Foot m z (State.maskWord a0 a1 a2 t) := by
  refine Foot.step (m := 0x8) ?_ hs h
  clear h hs
  have h := Foot.refl 0x8 t
  unfold State.maskWord
  repeat' first
    | with_reducible assumption
    | (intro x; first | clear_value x | skip)
    | lift_lets
    | with_reducible refine foot_setWord rfl ?_ ..
    | split
    | dsimp only

end Sys2Proof.Machine
end

