-- ==== Sys2Proof/Laws/FootImage.lean ====
section
/-!
SUPPORT. Footprints of the operations of Machine/Image.lean.
-/

set_option Elab.async false

set_option linter.all false

set_option maxRecDepth 4000

namespace Sys2Proof.Machine

theorem foot_modLink {m : Nat} {z t : State} (hs : 0x800000000 ||| m = m) (h : Foot m z t) (a0 : _) (a1 : _) :
    Foot m z (State.modLink a0 a1 t) := by
  refine Foot.step (m := 0x800000000) ?_ hs h
  clear h hs
  have h := Foot.refl 0x800000000 t
  unfold State.modLink
  repeat' first
    | with_reducible assumption
    | (intro x; first | clear_value x | skip)
    | lift_lets
    | ((with_reducible refine Foot.lit ?_ rfl rfl ?_ ?_ ?_ ?_ ?_ ?_); rotate_left; rfl; rfl; rfl; rfl; (first | exact Nat.le_refl _ | exact Nat.le_succ _); (constructor <;> first | with_reducible exact Kept.same | exact Kept.masked rfl); (first | with_reducible assumption))
    | split
    | dsimp only

theorem foot_putTyped {m : Nat} {z t : State} (hs : 0x8 ||| m = m) (h : Foot m z t) (a0 : _) (a1 : _) (a2 : _) (a3 : _) :
    Foot m z (State.putTyped a0 a1 a2 a3 t) := by
  refine Foot.step (m := 0x8) ?_ hs h
  clear h hs
  have h := Foot.refl 0x8 t
  unfold State.putTyped
  repeat' first
    | with_reducible assumption
    | (intro x; first | clear_value x | skip)
    | lift_lets
    | with_reducible refine foot_setByte rfl ?_ ..
    | with_reducible refine foot_setBytes rfl _ _ _ _ ?_
    | with_reducible apply Foot.ite
    | split
    | dsimp only

theorem foot_releaseLevel5 {m : Nat} {z t : State} (hs : 0x80000 ||| m = m) (h : Foot m z t) (a0 : _) (a1 : _) :
    Foot m z (State.releaseLevel5 a0 a1 t) := by
  refine Foot.step (m := 0x80000) ?_ hs h
  clear h hs
  have h := Foot.refl 0x80000 t
  unfold State.releaseLevel5
  repeat' first
    | with_reducible assumption
    | (intro x; first | clear_value x | skip)
    | lift_lets
    | with_reducible apply Foot.ite
    | ((with_reducible refine Foot.lit ?_ rfl rfl ?_ ?_ ?_ ?_ ?_ ?_); rotate_left; rfl; rfl; rfl; rfl; (first | exact Nat.le_refl _ | exact Nat.le_succ _); (constructor <;> first | with_reducible exact Kept.same | exact Kept.masked rfl); (first | with_reducible assumption | with_reducible apply Foot.ite))
    | split
    | dsimp only

theorem foot_releaseEp {m : Nat} {z t : State} (hs : 0x80000 ||| m = m) (h : Foot m z t) (a0 : _) :
    Foot m z (State.releaseEp a0 t) := by
  refine Foot.step (m := 0x80000) ?_ hs h
  clear h hs
  have h := Foot.refl 0x80000 t
  unfold State.releaseEp
  repeat' first
    | with_reducible assumption
    | (intro x; first | clear_value x | skip)
    | lift_lets
    | ((with_reducible refine Foot.lit ?_ rfl rfl ?_ ?_ ?_ ?_ ?_ ?_); rotate_left; rfl; rfl; rfl; rfl; (first | exact Nat.le_refl _ | exact Nat.le_succ _); (constructor <;> first | with_reducible exact Kept.same | exact Kept.masked rfl); (first | with_reducible assumption))
    | split
    | dsimp only

theorem foot_keepPrior {m : Nat} {z t : State} (hs : 0x80000 ||| m = m) (h : Foot m z t) (a0 : _) (a1 : _) :
    Foot m z (State.keepPrior a0 a1 t) := by
  refine Foot.step (m := 0x80000) ?_ hs h
  clear h hs
  have h := Foot.refl 0x80000 t
  unfold State.keepPrior
  repeat' first
    | with_reducible assumption
    | (intro x; first | clear_value x | skip)
    | lift_lets
    | with_reducible apply Foot.ite
    | ((with_reducible refine Foot.lit ?_ rfl rfl ?_ ?_ ?_ ?_ ?_ ?_); rotate_left; rfl; rfl; rfl; rfl; (first | exact Nat.le_refl _ | exact Nat.le_succ _); (constructor <;> first | with_reducible exact Kept.same | exact Kept.masked rfl); (first | with_reducible assumption | with_reducible apply Foot.ite))
    | split
    | dsimp only

theorem foot_ownWrite {m : Nat} {z t : State} (hs : 0x80008 ||| m = m) (h : Foot m z t) (a0 : _) (a1 : _) (a2 : _) :
    Foot m z (State.ownWrite a0 a1 a2 t) := by
  refine Foot.step (m := 0x80008) ?_ hs h
  clear h hs
  have h := Foot.refl 0x80008 t
  unfold State.ownWrite
  repeat' first
    | with_reducible assumption
    | (intro x; first | (refine Foot.cut (P := Foot 0x80008 t x) ?_ ?_; rotate_left; subst x; rotate_left; intro hx; clear_value x) | clear_value x | skip)
    | lift_lets
    | with_reducible refine foot_keepPrior rfl ?_ ..
    | with_reducible refine foot_maskWord rfl ?_ ..
    | with_reducible refine foot_releaseLevel5 rfl ?_ ..
    | with_reducible refine foot_releaseEp rfl ?_ ..
    | with_reducible refine Foot.forL (fun _ _ _ => ?_) ?_
    | split
    | dsimp only

theorem foot_safeOwn {m : Nat} {z t : State} (hs : 0x80008 ||| m = m) (h : Foot m z t) (a0 : _) :
    Foot m z (State.safeOwn a0 t) := by
  refine Foot.step (m := 0x80008) ?_ hs h
  clear h hs
  have h := Foot.refl 0x80008 t
  unfold State.safeOwn
  repeat' first
    | with_reducible assumption
    | (intro x; first | clear_value x | skip)
    | lift_lets
    | with_reducible refine foot_putTyped rfl ?_ ..
    | with_reducible refine foot_ownWrite rfl ?_ ..
    | with_reducible refine foot_releaseEp rfl ?_ ..
    | with_reducible refine Foot.forL (fun _ _ _ => ?_) ?_
    | with_reducible apply Foot.ite
    | split
    | dsimp only

theorem foot_safeTransfer {m : Nat} {z t : State} (hs : 0x80808 ||| m = m) (h : Foot m z t) (a0 : _) :
    Foot m z (State.safeTransfer a0 t) := by
  refine Foot.step (m := 0x80808) ?_ hs h
  clear h hs
  have h := Foot.refl 0x80808 t
  unfold State.safeTransfer
  repeat' first
    | with_reducible assumption
    | (intro x; first | (refine Foot.cut (P := Foot 0x80808 t x) ?_ ?_; rotate_left; subst x; rotate_left; intro hx; clear_value x) | clear_value x | skip)
    | lift_lets
    | with_reducible refine foot_safeOwn rfl ?_ ..
    | with_reducible refine Foot.forL (fun _ _ _ => ?_) ?_
    | ((with_reducible refine Foot.lit ?_ rfl rfl ?_ ?_ ?_ ?_ ?_ ?_); rotate_left; rfl; rfl; rfl; rfl; (first | exact Nat.le_refl _ | exact Nat.le_succ _); (constructor <;> first | with_reducible exact Kept.same | exact Kept.masked rfl); (first | with_reducible assumption | with_reducible refine foot_safeOwn rfl ?_ .. | with_reducible refine Foot.forL (fun _ _ _ => ?_) ?_))
    | split
    | dsimp only

end Sys2Proof.Machine
end

