-- ==== Sys2Proof/Laws/FootLinks.lean ====
section
/-!
SUPPORT. Footprints of the operations of Machine/Links.lean.
-/

set_option Elab.async false

set_option linter.all false

set_option maxRecDepth 4000

namespace Sys2Proof.Machine

theorem foot_emit {m : Nat} {z t : State} (hs : 0x2000000000 ||| m = m) (h : Foot m z t) (a0 : _) :
    Foot m z (State.emit a0 t) := by
  refine Foot.step (m := 0x2000000000) ?_ hs h
  clear h hs
  have h := Foot.refl 0x2000000000 t
  unfold State.emit
  repeat' first
    | with_reducible assumption
    | (intro x; first | clear_value x | skip)
    | lift_lets
    | ((with_reducible refine Foot.lit ?_ rfl rfl ?_ ?_ ?_ ?_ ?_ ?_); rotate_left; rfl; rfl; rfl; rfl; (first | exact Nat.le_refl _ | exact Nat.le_succ _); (constructor <;> first | with_reducible exact Kept.same | exact Kept.masked rfl); (first | with_reducible assumption))
    | split
    | dsimp only

theorem foot_putBytes {m : Nat} {z t : State} (hs : 0x8 ||| m = m) (h : Foot m z t) (a0 : _) (a1 : _) :
    Foot m z (State.putBytes a0 a1 t) := by
  induction a1 generalizing t a0 with
  | nil =>
    unfold State.putBytes
    repeat' first
      | with_reducible assumption
      | with_reducible refine foot_setByte (mask_sub (b := 0x8) rfl hs) ?_ ..
      | dsimp only
  | cons x xs ih =>
    unfold State.putBytes
    repeat' first
      | with_reducible apply ih
      | with_reducible assumption
      | with_reducible refine foot_setByte (mask_sub (b := 0x8) rfl hs) ?_ ..
      | dsimp only

theorem foot_slSubst {m : Nat} {z t : State} (hs : 0x8 ||| m = m) (h : Foot m z t) (a0 : _) (a1 : _) :
    Foot m z (State.slSubst a0 a1 t) := by
  refine Foot.step (m := 0x8) ?_ hs h
  clear h hs
  have h := Foot.refl 0x8 t
  unfold State.slSubst
  repeat' first
    | with_reducible assumption
    | (intro x; first
        | (refine Foot.cut (P := Foot 0x8 t x) ?_ ?_; rotate_left; subst x; rotate_left; intro hx; clear_value x)
        | (refine Foot.cut (P := PairFoot 0x8 t x) ?_ ?_; rotate_left; subst x; rotate_left; intro hx; clear_value x)
        | (refine Foot.cut (P := OptFoot 0x8 t x) ?_ ?_; rotate_left; subst x; rotate_left; intro hx; clear_value x)
        | (have hf := x.programmed; clear hf)
        | clear_value x
        | skip)
    | lift_lets
    | with_reducible refine foot_putTyped rfl ?_ ..
    | with_reducible refine Foot.forL (fun _ _ _ => ?_) ?_
    | with_reducible refine Foot.foldl (fun _ _ _ => ?_) ?_
    | with_reducible refine PairFoot.foldl (fun _ _ _ => ?_) ?_
    | with_reducible apply Foot.ite
    | with_reducible apply PairFoot.ite
    | with_reducible apply OptFoot.ite
    | with_reducible apply OutFoot.ite
    | with_reducible apply ExFoot.ite
    | with_reducible exact ExFoot.error
    | with_reducible refine ExFoot.ok ?_
    | with_reducible refine PairFoot.forL (fun _ _ _ => ?_) ?_
    | with_reducible refine PairFoot.forN (fun _ _ _ => ?_) ?_
    | with_reducible refine OptFoot.some ?_
    | with_reducible exact OptFoot.none
    | with_reducible refine OutFoot.next ?_
    | with_reducible refine OptFoot.getD ?_ ?_
    | with_reducible refine PairFoot.snd ?_
    | with_reducible exact PairFoot.out (by assumption)
    | with_reducible refine PairFoot.eq (by assumption) ?_
    | with_reducible refine OptFoot.eq (by assumption) ?_
    | with_reducible refine ExFoot.eq (by assumption) ?_
    | ((with_reducible refine Foot.lit ?_ rfl rfl ?_ ?_ ?_ ?_ ?_ ?_); rotate_left; rfl; rfl; rfl; rfl; (first | exact Nat.le_refl _ | exact Nat.le_succ _); (constructor <;> first | with_reducible exact Kept.same | exact Kept.masked rfl); (first | with_reducible assumption | with_reducible refine foot_putTyped rfl ?_ .. | with_reducible refine Foot.forL (fun _ _ _ => ?_) ?_ | with_reducible refine Foot.foldl (fun _ _ _ => ?_) ?_ | with_reducible refine PairFoot.foldl (fun _ _ _ => ?_) ?_ | with_reducible apply Foot.ite | with_reducible apply PairFoot.ite | with_reducible apply OptFoot.ite | with_reducible apply OutFoot.ite | with_reducible apply ExFoot.ite | with_reducible exact ExFoot.error | with_reducible refine ExFoot.ok ?_ | with_reducible refine PairFoot.forL (fun _ _ _ => ?_) ?_ | with_reducible refine PairFoot.forN (fun _ _ _ => ?_) ?_ | with_reducible refine OptFoot.some ?_ | with_reducible exact OptFoot.none | with_reducible refine OutFoot.next ?_ | with_reducible refine OptFoot.getD ?_ ?_ | with_reducible refine PairFoot.snd ?_))
    | split
    | with_reducible refine PairFoot.mk ?_
    | dsimp only

theorem foot_mbxPush {m : Nat} {z t : State} (hs : 0x800000000 ||| m = m) (h : Foot m z t) (a0 : _) (a1 : _) :
    Foot m z (State.mbxPush a0 a1 t) := by
  refine Foot.step (m := 0x800000000) ?_ hs h
  clear h hs
  have h := Foot.refl 0x800000000 t
  unfold State.mbxPush
  repeat' first
    | with_reducible assumption
    | (intro x; first
        | (refine Foot.cut (P := Foot 0x800000000 t x) ?_ ?_; rotate_left; subst x; rotate_left; intro hx; clear_value x)
        | (refine Foot.cut (P := PairFoot 0x800000000 t x) ?_ ?_; rotate_left; subst x; rotate_left; intro hx; clear_value x)
        | (refine Foot.cut (P := OptFoot 0x800000000 t x) ?_ ?_; rotate_left; subst x; rotate_left; intro hx; clear_value x)
        | (have hf := x.programmed; clear hf)
        | clear_value x
        | skip)
    | lift_lets
    | with_reducible refine foot_modLink rfl ?_ ..
    | with_reducible refine Foot.foldl (fun _ _ _ => ?_) ?_
    | with_reducible refine PairFoot.foldl (fun _ _ _ => ?_) ?_
    | with_reducible apply Foot.ite
    | with_reducible apply PairFoot.ite
    | with_reducible apply OptFoot.ite
    | with_reducible apply OutFoot.ite
    | with_reducible apply ExFoot.ite
    | with_reducible exact ExFoot.error
    | with_reducible refine ExFoot.ok ?_
    | with_reducible refine PairFoot.forL (fun _ _ _ => ?_) ?_
    | with_reducible refine PairFoot.forN (fun _ _ _ => ?_) ?_
    | with_reducible refine OptFoot.some ?_
    | with_reducible exact OptFoot.none
    | with_reducible refine OutFoot.next ?_
    | with_reducible refine OptFoot.getD ?_ ?_
    | with_reducible refine PairFoot.snd ?_
    | with_reducible exact PairFoot.out (by assumption)
    | with_reducible refine PairFoot.eq (by assumption) ?_
    | with_reducible refine OptFoot.eq (by assumption) ?_
    | with_reducible refine ExFoot.eq (by assumption) ?_
    | ((with_reducible refine Foot.lit ?_ rfl rfl ?_ ?_ ?_ ?_ ?_ ?_); rotate_left; rfl; rfl; rfl; rfl; (first | exact Nat.le_refl _ | exact Nat.le_succ _); (constructor <;> first | with_reducible exact Kept.same | exact Kept.masked rfl); (first | with_reducible assumption | with_reducible refine foot_modLink rfl ?_ .. | with_reducible refine Foot.foldl (fun _ _ _ => ?_) ?_ | with_reducible refine PairFoot.foldl (fun _ _ _ => ?_) ?_ | with_reducible apply Foot.ite | with_reducible apply PairFoot.ite | with_reducible apply OptFoot.ite | with_reducible apply OutFoot.ite | with_reducible apply ExFoot.ite | with_reducible exact ExFoot.error | with_reducible refine ExFoot.ok ?_ | with_reducible refine PairFoot.forL (fun _ _ _ => ?_) ?_ | with_reducible refine PairFoot.forN (fun _ _ _ => ?_) ?_ | with_reducible refine OptFoot.some ?_ | with_reducible exact OptFoot.none | with_reducible refine OutFoot.next ?_ | with_reducible refine OptFoot.getD ?_ ?_ | with_reducible refine PairFoot.snd ?_))
    | split
    | with_reducible refine PairFoot.mk ?_
    | dsimp only

theorem foot_slConfigure {m : Nat} {z t : State} (hs : 0x800000000 ||| m = m) (h : Foot m z t) (a0 : _) (a1 : _) :
    Foot m z (State.slConfigure a0 a1 t) := by
  refine Foot.step (m := 0x800000000) ?_ hs h
  clear h hs
  have h := Foot.refl 0x800000000 t
  unfold State.slConfigure
  repeat' first
    | with_reducible assumption
    | (intro x; first
        | (refine Foot.cut (P := Foot 0x800000000 t x) ?_ ?_; rotate_left; subst x; rotate_left; intro hx; clear_value x)
        | (refine Foot.cut (P := PairFoot 0x800000000 t x) ?_ ?_; rotate_left; subst x; rotate_left; intro hx; clear_value x)
        | (refine Foot.cut (P := OptFoot 0x800000000 t x) ?_ ?_; rotate_left; subst x; rotate_left; intro hx; clear_value x)
        | (have hf := x.programmed; clear hf)
        | clear_value x
        | skip)
    | lift_lets
    | with_reducible refine foot_modLink rfl ?_ ..
    | with_reducible refine foot_mbxPush rfl ?_ ..
    | with_reducible refine Foot.forL (fun _ _ _ => ?_) ?_
    | with_reducible refine Foot.foldl (fun _ _ _ => ?_) ?_
    | with_reducible refine PairFoot.foldl (fun _ _ _ => ?_) ?_
    | with_reducible apply Foot.ite
    | with_reducible apply PairFoot.ite
    | with_reducible apply OptFoot.ite
    | with_reducible apply OutFoot.ite
    | with_reducible apply ExFoot.ite
    | with_reducible exact ExFoot.error
    | with_reducible refine ExFoot.ok ?_
    | with_reducible refine PairFoot.forL (fun _ _ _ => ?_) ?_
    | with_reducible refine PairFoot.forN (fun _ _ _ => ?_) ?_
    | with_reducible refine OptFoot.some ?_
    | with_reducible exact OptFoot.none
    | with_reducible refine OutFoot.next ?_
    | with_reducible refine OptFoot.getD ?_ ?_
    | with_reducible refine PairFoot.snd ?_
    | with_reducible exact PairFoot.out (by assumption)
    | with_reducible refine PairFoot.eq (by assumption) ?_
    | with_reducible refine OptFoot.eq (by assumption) ?_
    | with_reducible refine ExFoot.eq (by assumption) ?_
    | ((with_reducible refine Foot.lit ?_ rfl rfl ?_ ?_ ?_ ?_ ?_ ?_); rotate_left; rfl; rfl; rfl; rfl; (first | exact Nat.le_refl _ | exact Nat.le_succ _); (constructor <;> first | with_reducible exact Kept.same | exact Kept.masked rfl); (first | with_reducible assumption | with_reducible refine foot_modLink rfl ?_ .. | with_reducible refine foot_mbxPush rfl ?_ .. | with_reducible refine Foot.forL (fun _ _ _ => ?_) ?_ | with_reducible refine Foot.foldl (fun _ _ _ => ?_) ?_ | with_reducible refine PairFoot.foldl (fun _ _ _ => ?_) ?_ | with_reducible apply Foot.ite | with_reducible apply PairFoot.ite | with_reducible apply OptFoot.ite | with_reducible apply OutFoot.ite | with_reducible apply ExFoot.ite | with_reducible exact ExFoot.error | with_reducible refine ExFoot.ok ?_ | with_reducible refine PairFoot.forL (fun _ _ _ => ?_) ?_ | with_reducible refine PairFoot.forN (fun _ _ _ => ?_) ?_ | with_reducible refine OptFoot.some ?_ | with_reducible exact OptFoot.none | with_reducible refine OutFoot.next ?_ | with_reducible refine OptFoot.getD ?_ ?_ | with_reducible refine PairFoot.snd ?_))
    | split
    | with_reducible refine PairFoot.mk ?_
    | dsimp only

theorem foot_slPut {m : Nat} {z t : State} (hs : 0x2000000000 ||| m = m) (h : Foot m z t) (a0 : _) (a1 : _) (a2 : _) :
    Foot m z (State.slPut a0 a1 a2 t) := by
  refine Foot.step (m := 0x2000000000) ?_ hs h
  clear h hs
  have h := Foot.refl 0x2000000000 t
  unfold State.slPut
  repeat' first
    | with_reducible assumption
    | (intro x; first
        | (refine Foot.cut (P := Foot 0x2000000000 t x) ?_ ?_; rotate_left; subst x; rotate_left; intro hx; clear_value x)
        | (refine Foot.cut (P := PairFoot 0x2000000000 t x) ?_ ?_; rotate_left; subst x; rotate_left; intro hx; clear_value x)
        | (refine Foot.cut (P := OptFoot 0x2000000000 t x) ?_ ?_; rotate_left; subst x; rotate_left; intro hx; clear_value x)
        | (have hf := x.programmed; clear hf)
        | clear_value x
        | skip)
    | lift_lets
    | with_reducible refine foot_emit rfl ?_ ..
    | with_reducible refine Foot.foldl (fun _ _ _ => ?_) ?_
    | with_reducible refine PairFoot.foldl (fun _ _ _ => ?_) ?_
    | with_reducible apply Foot.ite
    | with_reducible apply PairFoot.ite
    | with_reducible apply OptFoot.ite
    | with_reducible apply OutFoot.ite
    | with_reducible apply ExFoot.ite
    | with_reducible exact ExFoot.error
    | with_reducible refine ExFoot.ok ?_
    | with_reducible refine PairFoot.forL (fun _ _ _ => ?_) ?_
    | with_reducible refine PairFoot.forN (fun _ _ _ => ?_) ?_
    | with_reducible refine OptFoot.some ?_
    | with_reducible exact OptFoot.none
    | with_reducible refine OutFoot.next ?_
    | with_reducible refine OptFoot.getD ?_ ?_
    | with_reducible refine PairFoot.snd ?_
    | with_reducible exact PairFoot.out (by assumption)
    | with_reducible refine PairFoot.eq (by assumption) ?_
    | with_reducible refine OptFoot.eq (by assumption) ?_
    | with_reducible refine ExFoot.eq (by assumption) ?_
    | ((with_reducible refine Foot.lit ?_ rfl rfl ?_ ?_ ?_ ?_ ?_ ?_); rotate_left; rfl; rfl; rfl; rfl; (first | exact Nat.le_refl _ | exact Nat.le_succ _); (constructor <;> first | with_reducible exact Kept.same | exact Kept.masked rfl); (first | with_reducible assumption | with_reducible refine foot_emit rfl ?_ .. | with_reducible refine Foot.foldl (fun _ _ _ => ?_) ?_ | with_reducible refine PairFoot.foldl (fun _ _ _ => ?_) ?_ | with_reducible apply Foot.ite | with_reducible apply PairFoot.ite | with_reducible apply OptFoot.ite | with_reducible apply OutFoot.ite | with_reducible apply ExFoot.ite | with_reducible exact ExFoot.error | with_reducible refine ExFoot.ok ?_ | with_reducible refine PairFoot.forL (fun _ _ _ => ?_) ?_ | with_reducible refine PairFoot.forN (fun _ _ _ => ?_) ?_ | with_reducible refine OptFoot.some ?_ | with_reducible exact OptFoot.none | with_reducible refine OutFoot.next ?_ | with_reducible refine OptFoot.getD ?_ ?_ | with_reducible refine PairFoot.snd ?_))
    | split
    | with_reducible refine PairFoot.mk ?_
    | dsimp only

theorem foot_slSend {m : Nat} {z t : State} (hs : 0x82000000080 ||| m = m) (h : Foot m z t) (a0 : _) (a1 : _) (a2 : _) :
    Foot m z (State.slSend a0 a1 a2 t) := by
  refine Foot.step (m := 0x82000000080) ?_ hs h
  clear h hs
  have h := Foot.refl 0x82000000080 t
  unfold State.slSend
  repeat' first
    | with_reducible assumption
    | (intro x; first
        | (refine Foot.cut (P := Foot 0x82000000080 t x) ?_ ?_; rotate_left; subst x; rotate_left; intro hx; clear_value x)
        | (refine Foot.cut (P := PairFoot 0x82000000080 t x) ?_ ?_; rotate_left; subst x; rotate_left; intro hx; clear_value x)
        | (refine Foot.cut (P := OptFoot 0x82000000080 t x) ?_ ?_; rotate_left; subst x; rotate_left; intro hx; clear_value x)
        | (have hf := x.programmed; clear hf)
        | clear_value x
        | skip)
    | lift_lets
    | with_reducible refine foot_injDone rfl ?_ ..
    | with_reducible refine foot_slPut rfl ?_ ..
    | with_reducible refine Foot.foldl (fun _ _ _ => ?_) ?_
    | with_reducible refine PairFoot.foldl (fun _ _ _ => ?_) ?_
    | with_reducible apply Foot.ite
    | with_reducible apply PairFoot.ite
    | with_reducible apply OptFoot.ite
    | with_reducible apply OutFoot.ite
    | with_reducible apply ExFoot.ite
    | with_reducible exact ExFoot.error
    | with_reducible refine ExFoot.ok ?_
    | with_reducible refine PairFoot.forL (fun _ _ _ => ?_) ?_
    | with_reducible refine PairFoot.forN (fun _ _ _ => ?_) ?_
    | with_reducible refine OptFoot.some ?_
    | with_reducible exact OptFoot.none
    | with_reducible refine OutFoot.next ?_
    | with_reducible refine OptFoot.getD ?_ ?_
    | with_reducible refine PairFoot.snd ?_
    | with_reducible exact PairFoot.out (by assumption)
    | with_reducible refine PairFoot.eq (by assumption) ?_
    | with_reducible refine OptFoot.eq (by assumption) ?_
    | with_reducible refine ExFoot.eq (by assumption) ?_
    | ((with_reducible refine Foot.lit ?_ rfl rfl ?_ ?_ ?_ ?_ ?_ ?_); rotate_left; rfl; rfl; rfl; rfl; (first | exact Nat.le_refl _ | exact Nat.le_succ _); (constructor <;> first | with_reducible exact Kept.same | exact Kept.masked rfl); (first | with_reducible assumption | with_reducible refine foot_injDone rfl ?_ .. | with_reducible refine foot_slPut rfl ?_ .. | with_reducible refine Foot.foldl (fun _ _ _ => ?_) ?_ | with_reducible refine PairFoot.foldl (fun _ _ _ => ?_) ?_ | with_reducible apply Foot.ite | with_reducible apply PairFoot.ite | with_reducible apply OptFoot.ite | with_reducible apply OutFoot.ite | with_reducible apply ExFoot.ite | with_reducible exact ExFoot.error | with_reducible refine ExFoot.ok ?_ | with_reducible refine PairFoot.forL (fun _ _ _ => ?_) ?_ | with_reducible refine PairFoot.forN (fun _ _ _ => ?_) ?_ | with_reducible refine OptFoot.some ?_ | with_reducible exact OptFoot.none | with_reducible refine OutFoot.next ?_ | with_reducible refine OptFoot.getD ?_ ?_ | with_reducible refine PairFoot.snd ?_))
    | split
    | with_reducible refine PairFoot.mk ?_
    | dsimp only

theorem foot_slCtrlWrite {m : Nat} {z t : State} (hs : 0x76280928a4ea4f80 ||| m = m) (h : Foot m z t) (a0 : _) (a1 : _) :
    Foot m z (State.slCtrlWrite a0 a1 t) := by
  refine Foot.step (m := 0x76280928a4ea4f80) ?_ hs h
  clear h hs
  have h := Foot.refl 0x76280928a4ea4f80 t
  unfold State.slCtrlWrite
  repeat' first
    | with_reducible assumption
    | (intro x; first
        | (refine Foot.cut (P := Foot 0x76280928a4ea4f80 t x) ?_ ?_; rotate_left; subst x; rotate_left; intro hx; clear_value x)
        | (refine Foot.cut (P := PairFoot 0x76280928a4ea4f80 t x) ?_ ?_; rotate_left; subst x; rotate_left; intro hx; clear_value x)
        | (refine Foot.cut (P := OptFoot 0x76280928a4ea4f80 t x) ?_ ?_; rotate_left; subst x; rotate_left; intro hx; clear_value x)
        | (have hf := x.programmed; clear hf)
        | clear_value x
        | skip)
    | lift_lets
    | with_reducible refine foot_modLink rfl ?_ ..
    | with_reducible refine foot_raise rfl ?_ ..
    | with_reducible refine foot_slSend rfl ?_ ..
    | with_reducible refine foot_setFld (blk_SL_CTRL_EN ..) rfl ?_ ..
    | with_reducible refine foot_setFld (blk_SL_STAT_ERR ..) rfl ?_ ..
    | with_reducible refine foot_setFld (blk_SL_STAT_PROV ..) rfl ?_ ..
    | with_reducible refine foot_setFld (blk_SL_STAT_STATE ..) rfl ?_ ..
    | with_reducible refine foot_setFld (blk_SL_ONLINE_ONLINE ..) rfl ?_ ..
    | with_reducible refine foot_setFld (blk_SL_STAT_RING_BROKEN ..) rfl ?_ ..
    | with_reducible refine foot_setFlag (blk_SL_CTRL_EN ..) rfl ?_ ..
    | with_reducible refine foot_setFlag (blk_SL_STAT_ERR ..) rfl ?_ ..
    | with_reducible refine foot_setFlag (blk_SL_STAT_PROV ..) rfl ?_ ..
    | with_reducible refine foot_setFlag (blk_SL_STAT_STATE ..) rfl ?_ ..
    | with_reducible refine foot_setFlag (blk_SL_ONLINE_ONLINE ..) rfl ?_ ..
    | with_reducible refine foot_setFlag (blk_SL_STAT_RING_BROKEN ..) rfl ?_ ..
    | with_reducible refine foot_plainWrite (blk_SL_CTRL_EN ..) rfl ?_ ..
    | with_reducible refine foot_plainWrite (blk_SL_STAT_ERR ..) rfl ?_ ..
    | with_reducible refine foot_plainWrite (blk_SL_STAT_PROV ..) rfl ?_ ..
    | with_reducible refine foot_plainWrite (blk_SL_STAT_STATE ..) rfl ?_ ..
    | with_reducible refine foot_plainWrite (blk_SL_ONLINE_ONLINE ..) rfl ?_ ..
    | with_reducible refine foot_plainWrite (blk_SL_STAT_RING_BROKEN ..) rfl ?_ ..
    | with_reducible refine Foot.forN (fun _ _ _ => ?_) ?_
    | with_reducible refine Foot.foldl (fun _ _ _ => ?_) ?_
    | with_reducible refine PairFoot.foldl (fun _ _ _ => ?_) ?_
    | with_reducible apply Foot.ite
    | with_reducible apply PairFoot.ite
    | with_reducible apply OptFoot.ite
    | with_reducible apply OutFoot.ite
    | with_reducible apply ExFoot.ite
    | with_reducible exact ExFoot.error
    | with_reducible refine ExFoot.ok ?_
    | with_reducible refine PairFoot.forL (fun _ _ _ => ?_) ?_
    | with_reducible refine PairFoot.forN (fun _ _ _ => ?_) ?_
    | with_reducible refine OptFoot.some ?_
    | with_reducible exact OptFoot.none
    | with_reducible refine OutFoot.next ?_
    | with_reducible refine OptFoot.getD ?_ ?_
    | with_reducible refine PairFoot.snd ?_
    | with_reducible exact PairFoot.out (by assumption)
    | with_reducible refine PairFoot.eq (by assumption) ?_
    | with_reducible refine OptFoot.eq (by assumption) ?_
    | with_reducible refine ExFoot.eq (by assumption) ?_
    | ((with_reducible refine Foot.lit ?_ rfl rfl ?_ ?_ ?_ ?_ ?_ ?_); rotate_left; rfl; rfl; rfl; rfl; (first | exact Nat.le_refl _ | exact Nat.le_succ _); (constructor <;> first | with_reducible exact Kept.same | exact Kept.masked rfl); (first | with_reducible assumption | with_reducible refine foot_modLink rfl ?_ .. | with_reducible refine foot_raise rfl ?_ .. | with_reducible refine foot_slSend rfl ?_ .. | with_reducible refine foot_setFld (blk_SL_CTRL_EN ..) rfl ?_ .. | with_reducible refine foot_setFld (blk_SL_STAT_ERR ..) rfl ?_ .. | with_reducible refine foot_setFld (blk_SL_STAT_PROV ..) rfl ?_ .. | with_reducible refine foot_setFld (blk_SL_STAT_STATE ..) rfl ?_ .. | with_reducible refine foot_setFld (blk_SL_ONLINE_ONLINE ..) rfl ?_ .. | with_reducible refine foot_setFld (blk_SL_STAT_RING_BROKEN ..) rfl ?_ .. | with_reducible refine foot_setFlag (blk_SL_CTRL_EN ..) rfl ?_ .. | with_reducible refine foot_setFlag (blk_SL_STAT_ERR ..) rfl ?_ .. | with_reducible refine foot_setFlag (blk_SL_STAT_PROV ..) rfl ?_ .. | with_reducible refine foot_setFlag (blk_SL_STAT_STATE ..) rfl ?_ .. | with_reducible refine foot_setFlag (blk_SL_ONLINE_ONLINE ..) rfl ?_ .. | with_reducible refine foot_setFlag (blk_SL_STAT_RING_BROKEN ..) rfl ?_ .. | with_reducible refine foot_plainWrite (blk_SL_CTRL_EN ..) rfl ?_ .. | with_reducible refine foot_plainWrite (blk_SL_STAT_ERR ..) rfl ?_ .. | with_reducible refine foot_plainWrite (blk_SL_STAT_PROV ..) rfl ?_ .. | with_reducible refine foot_plainWrite (blk_SL_STAT_STATE ..) rfl ?_ .. | with_reducible refine foot_plainWrite (blk_SL_ONLINE_ONLINE ..) rfl ?_ .. | with_reducible refine foot_plainWrite (blk_SL_STAT_RING_BROKEN ..) rfl ?_ .. | with_reducible refine Foot.forN (fun _ _ _ => ?_) ?_ | with_reducible refine Foot.foldl (fun _ _ _ => ?_) ?_ | with_reducible refine PairFoot.foldl (fun _ _ _ => ?_) ?_ | with_reducible apply Foot.ite | with_reducible apply PairFoot.ite | with_reducible apply OptFoot.ite | with_reducible apply OutFoot.ite | with_reducible apply ExFoot.ite | with_reducible exact ExFoot.error | with_reducible refine ExFoot.ok ?_ | with_reducible refine PairFoot.forL (fun _ _ _ => ?_) ?_ | with_reducible refine PairFoot.forN (fun _ _ _ => ?_) ?_ | with_reducible refine OptFoot.some ?_ | with_reducible exact OptFoot.none | with_reducible refine OutFoot.next ?_ | with_reducible refine OptFoot.getD ?_ ?_ | with_reducible refine PairFoot.snd ?_))
    | split
    | with_reducible refine PairFoot.mk ?_
    | dsimp only

theorem foot_execMeasureComplete {m : Nat} {z t : State} (hs : 0x76280108a4ea4f80 ||| m = m) (h : Foot m z t) (a0 : _) (a1 : _) (a2 : _) (a3 : _) :
    OutFoot m z (execMeasureComplete a0 a1 a2 a3 t) := by
  refine OutFoot.step (m := 0x76280108a4ea4f80) ?_ hs h
  clear h hs
  have h := Foot.refl 0x76280108a4ea4f80 t
  unfold execMeasureComplete
  repeat' first
    | with_reducible assumption
    | (intro x; first
        | (refine Foot.cut (P := Foot 0x76280108a4ea4f80 t x) ?_ ?_; rotate_left; subst x; rotate_left; intro hx; clear_value x)
        | (refine Foot.cut (P := PairFoot 0x76280108a4ea4f80 t x) ?_ ?_; rotate_left; subst x; rotate_left; intro hx; clear_value x)
        | (refine Foot.cut (P := OptFoot 0x76280108a4ea4f80 t x) ?_ ?_; rotate_left; subst x; rotate_left; intro hx; clear_value x)
        | (have hf := x.programmed; clear hf)
        | clear_value x
        | skip)
    | lift_lets
    | with_reducible refine foot_modLink rfl ?_ ..
    | with_reducible refine foot_slConfigure rfl ?_ ..
    | with_reducible refine foot_raise rfl ?_ ..
    | with_reducible refine foot_setFld (blk_SL_RX_RX_CLOSE ..) rfl ?_ ..
    | with_reducible refine foot_setFld (blk_SL_STAT_STATE ..) rfl ?_ ..
    | with_reducible refine foot_setFld (blk_SL_STAT_ERR ..) rfl ?_ ..
    | with_reducible refine Foot.forN (fun _ _ _ => ?_) ?_
    | with_reducible refine Foot.foldl (fun _ _ _ => ?_) ?_
    | with_reducible refine PairFoot.foldl (fun _ _ _ => ?_) ?_
    | with_reducible apply Foot.ite
    | with_reducible apply PairFoot.ite
    | with_reducible apply OptFoot.ite
    | with_reducible apply OutFoot.ite
    | with_reducible apply ExFoot.ite
    | with_reducible exact ExFoot.error
    | with_reducible refine ExFoot.ok ?_
    | with_reducible refine PairFoot.forL (fun _ _ _ => ?_) ?_
    | with_reducible refine PairFoot.forN (fun _ _ _ => ?_) ?_
    | with_reducible refine OptFoot.some ?_
    | with_reducible exact OptFoot.none
    | with_reducible refine OutFoot.next ?_
    | with_reducible refine OptFoot.getD ?_ ?_
    | with_reducible refine PairFoot.snd ?_
    | with_reducible exact PairFoot.out (by assumption)
    | with_reducible refine PairFoot.eq (by assumption) ?_
    | with_reducible refine OptFoot.eq (by assumption) ?_
    | with_reducible refine ExFoot.eq (by assumption) ?_
    | ((with_reducible refine Foot.lit ?_ rfl rfl ?_ ?_ ?_ ?_ ?_ ?_); rotate_left; rfl; rfl; rfl; rfl; (first | exact Nat.le_refl _ | exact Nat.le_succ _); (constructor <;> first | with_reducible exact Kept.same | exact Kept.masked rfl); (first | with_reducible assumption | with_reducible refine foot_modLink rfl ?_ .. | with_reducible refine foot_slConfigure rfl ?_ .. | with_reducible refine foot_raise rfl ?_ .. | with_reducible refine foot_setFld (blk_SL_RX_RX_CLOSE ..) rfl ?_ .. | with_reducible refine foot_setFld (blk_SL_STAT_STATE ..) rfl ?_ .. | with_reducible refine foot_setFld (blk_SL_STAT_ERR ..) rfl ?_ .. | with_reducible refine Foot.forN (fun _ _ _ => ?_) ?_ | with_reducible refine Foot.foldl (fun _ _ _ => ?_) ?_ | with_reducible refine PairFoot.foldl (fun _ _ _ => ?_) ?_ | with_reducible apply Foot.ite | with_reducible apply PairFoot.ite | with_reducible apply OptFoot.ite | with_reducible apply OutFoot.ite | with_reducible apply ExFoot.ite | with_reducible exact ExFoot.error | with_reducible refine ExFoot.ok ?_ | with_reducible refine PairFoot.forL (fun _ _ _ => ?_) ?_ | with_reducible refine PairFoot.forN (fun _ _ _ => ?_) ?_ | with_reducible refine OptFoot.some ?_ | with_reducible exact OptFoot.none | with_reducible refine OutFoot.next ?_ | with_reducible refine OptFoot.getD ?_ ?_ | with_reducible refine PairFoot.snd ?_))
    | split
    | with_reducible refine PairFoot.mk ?_
    | dsimp only

theorem foot_execOutputImageTake {m : Nat} {z t : State} (hs : 0x800000008 ||| m = m) (h : Foot m z t) (a0 : _) :
    OutFoot m z (execOutputImageTake a0 t) := by
  refine OutFoot.step (m := 0x800000008) ?_ hs h
  clear h hs
  have h := Foot.refl 0x800000008 t
  unfold execOutputImageTake
  repeat' first
    | with_reducible assumption
    | (intro x; first
        | (refine Foot.cut (P := Foot 0x800000008 t x) ?_ ?_; rotate_left; subst x; rotate_left; intro hx; clear_value x)
        | (refine Foot.cut (P := PairFoot 0x800000008 t x) ?_ ?_; rotate_left; subst x; rotate_left; intro hx; clear_value x)
        | (refine Foot.cut (P := OptFoot 0x800000008 t x) ?_ ?_; rotate_left; subst x; rotate_left; intro hx; clear_value x)
        | (have hf := x.programmed; clear hf)
        | clear_value x
        | skip)
    | lift_lets
    | with_reducible refine foot_modLink rfl ?_ ..
    | with_reducible refine foot_maskWord rfl ?_ ..
    | with_reducible refine foot_putTyped rfl ?_ ..
    | with_reducible refine Foot.forL (fun _ _ _ => ?_) ?_
    | with_reducible refine Foot.foldl (fun _ _ _ => ?_) ?_
    | with_reducible refine PairFoot.foldl (fun _ _ _ => ?_) ?_
    | with_reducible apply Foot.ite
    | with_reducible apply PairFoot.ite
    | with_reducible apply OptFoot.ite
    | with_reducible apply OutFoot.ite
    | with_reducible apply ExFoot.ite
    | with_reducible exact ExFoot.error
    | with_reducible refine ExFoot.ok ?_
    | with_reducible refine PairFoot.forL (fun _ _ _ => ?_) ?_
    | with_reducible refine PairFoot.forN (fun _ _ _ => ?_) ?_
    | with_reducible refine OptFoot.some ?_
    | with_reducible exact OptFoot.none
    | with_reducible refine OutFoot.next ?_
    | with_reducible refine OptFoot.getD ?_ ?_
    | with_reducible refine PairFoot.snd ?_
    | with_reducible exact PairFoot.out (by assumption)
    | with_reducible refine PairFoot.eq (by assumption) ?_
    | with_reducible refine OptFoot.eq (by assumption) ?_
    | with_reducible refine ExFoot.eq (by assumption) ?_
    | ((with_reducible refine Foot.lit ?_ rfl rfl ?_ ?_ ?_ ?_ ?_ ?_); rotate_left; rfl; rfl; rfl; rfl; (first | exact Nat.le_refl _ | exact Nat.le_succ _); (constructor <;> first | with_reducible exact Kept.same | exact Kept.masked rfl); (first | with_reducible assumption | with_reducible refine foot_modLink rfl ?_ .. | with_reducible refine foot_maskWord rfl ?_ .. | with_reducible refine foot_putTyped rfl ?_ .. | with_reducible refine Foot.forL (fun _ _ _ => ?_) ?_ | with_reducible refine Foot.foldl (fun _ _ _ => ?_) ?_ | with_reducible refine PairFoot.foldl (fun _ _ _ => ?_) ?_ | with_reducible apply Foot.ite | with_reducible apply PairFoot.ite | with_reducible apply OptFoot.ite | with_reducible apply OutFoot.ite | with_reducible apply ExFoot.ite | with_reducible exact ExFoot.error | with_reducible refine ExFoot.ok ?_ | with_reducible refine PairFoot.forL (fun _ _ _ => ?_) ?_ | with_reducible refine PairFoot.forN (fun _ _ _ => ?_) ?_ | with_reducible refine OptFoot.some ?_ | with_reducible exact OptFoot.none | with_reducible refine OutFoot.next ?_ | with_reducible refine OptFoot.getD ?_ ?_ | with_reducible refine PairFoot.snd ?_))
    | split
    | with_reducible refine PairFoot.mk ?_
    | dsimp only

theorem foot_execFrameTransmit {m : Nat} {z t : State} (hs : 0x82800000080 ||| m = m) (h : Foot m z t) (a0 : _) :
    OutFoot m z (execFrameTransmit a0 t) := by
  refine OutFoot.step (m := 0x82800000080) ?_ hs h
  clear h hs
  have h := Foot.refl 0x82800000080 t
  unfold execFrameTransmit
  repeat' first
    | with_reducible assumption
    | (intro x; first
        | (refine Foot.cut (P := Foot 0x82800000080 t x) ?_ ?_; rotate_left; subst x; rotate_left; intro hx; clear_value x)
        | (refine Foot.cut (P := PairFoot 0x82800000080 t x) ?_ ?_; rotate_left; subst x; rotate_left; intro hx; clear_value x)
        | (refine Foot.cut (P := OptFoot 0x82800000080 t x) ?_ ?_; rotate_left; subst x; rotate_left; intro hx; clear_value x)
        | (have hf := x.programmed; clear hf)
        | clear_value x
        | skip)
    | lift_lets
    | with_reducible refine foot_modLink rfl ?_ ..
    | with_reducible refine foot_slSend rfl ?_ ..
    | with_reducible refine Foot.forL (fun _ _ _ => ?_) ?_
    | with_reducible refine Foot.foldl (fun _ _ _ => ?_) ?_
    | with_reducible refine PairFoot.foldl (fun _ _ _ => ?_) ?_
    | with_reducible apply Foot.ite
    | with_reducible apply PairFoot.ite
    | with_reducible apply OptFoot.ite
    | with_reducible apply OutFoot.ite
    | with_reducible apply ExFoot.ite
    | with_reducible exact ExFoot.error
    | with_reducible refine ExFoot.ok ?_
    | with_reducible refine PairFoot.forL (fun _ _ _ => ?_) ?_
    | with_reducible refine PairFoot.forN (fun _ _ _ => ?_) ?_
    | with_reducible refine OptFoot.some ?_
    | with_reducible exact OptFoot.none
    | with_reducible refine OutFoot.next ?_
    | with_reducible refine OptFoot.getD ?_ ?_
    | with_reducible refine PairFoot.snd ?_
    | with_reducible exact PairFoot.out (by assumption)
    | with_reducible refine PairFoot.eq (by assumption) ?_
    | with_reducible refine OptFoot.eq (by assumption) ?_
    | with_reducible refine ExFoot.eq (by assumption) ?_
    | ((with_reducible refine Foot.lit ?_ rfl rfl ?_ ?_ ?_ ?_ ?_ ?_); rotate_left; rfl; rfl; rfl; rfl; (first | exact Nat.le_refl _ | exact Nat.le_succ _); (constructor <;> first | with_reducible exact Kept.same | exact Kept.masked rfl); (first | with_reducible assumption | with_reducible refine foot_modLink rfl ?_ .. | with_reducible refine foot_slSend rfl ?_ .. | with_reducible refine Foot.forL (fun _ _ _ => ?_) ?_ | with_reducible refine Foot.foldl (fun _ _ _ => ?_) ?_ | with_reducible refine PairFoot.foldl (fun _ _ _ => ?_) ?_ | with_reducible apply Foot.ite | with_reducible apply PairFoot.ite | with_reducible apply OptFoot.ite | with_reducible apply OutFoot.ite | with_reducible apply ExFoot.ite | with_reducible exact ExFoot.error | with_reducible refine ExFoot.ok ?_ | with_reducible refine PairFoot.forL (fun _ _ _ => ?_) ?_ | with_reducible refine PairFoot.forN (fun _ _ _ => ?_) ?_ | with_reducible refine OptFoot.some ?_ | with_reducible exact OptFoot.none | with_reducible refine OutFoot.next ?_ | with_reducible refine OptFoot.getD ?_ ?_ | with_reducible refine PairFoot.snd ?_))
    | split
    | with_reducible refine PairFoot.mk ?_
    | dsimp only

theorem foot_execFrameReceive {m : Nat} {z t : State} (hs : 0x400082800000080 ||| m = m) (h : Foot m z t) (a0 : _) (a1 : _) (a2 : _) :
    OutFoot m z (execFrameReceive a0 a1 a2 t) := by
  refine OutFoot.step (m := 0x400082800000080) ?_ hs h
  clear h hs
  have h := Foot.refl 0x400082800000080 t
  unfold execFrameReceive
  repeat' first
    | with_reducible assumption
    | (intro x; first
        | (refine Foot.cut (P := Foot 0x400082800000080 t x) ?_ ?_; rotate_left; subst x; rotate_left; intro hx; clear_value x)
        | (refine Foot.cut (P := PairFoot 0x400082800000080 t x) ?_ ?_; rotate_left; subst x; rotate_left; intro hx; clear_value x)
        | (refine Foot.cut (P := OptFoot 0x400082800000080 t x) ?_ ?_; rotate_left; subst x; rotate_left; intro hx; clear_value x)
        | (have hf := x.programmed; clear hf)
        | clear_value x
        | skip)
    | lift_lets
    | with_reducible refine foot_modLink rfl ?_ ..
    | with_reducible refine foot_slPut rfl ?_ ..
    | with_reducible refine foot_slSend rfl ?_ ..
    | with_reducible refine foot_setFld (blk_SL_CNT_BADFRM ..) rfl ?_ ..
    | with_reducible refine foot_setFld (blk_SL_STAT_FOUND ..) rfl ?_ ..
    | with_reducible refine foot_setFld (blk_SL_STAT_STATE ..) rfl ?_ ..
    | with_reducible refine foot_incSat (blk_SL_CNT_BADFRM ..) rfl ?_ ..
    | with_reducible refine foot_incSat (blk_SL_STAT_FOUND ..) rfl ?_ ..
    | with_reducible refine foot_incSat (blk_SL_STAT_STATE ..) rfl ?_ ..
    | with_reducible refine Foot.foldl (fun _ _ _ => ?_) ?_
    | with_reducible refine PairFoot.foldl (fun _ _ _ => ?_) ?_
    | with_reducible apply Foot.ite
    | with_reducible apply PairFoot.ite
    | with_reducible apply OptFoot.ite
    | with_reducible apply OutFoot.ite
    | with_reducible apply ExFoot.ite
    | with_reducible exact ExFoot.error
    | with_reducible refine ExFoot.ok ?_
    | with_reducible refine PairFoot.forL (fun _ _ _ => ?_) ?_
    | with_reducible refine PairFoot.forN (fun _ _ _ => ?_) ?_
    | with_reducible refine OptFoot.some ?_
    | with_reducible exact OptFoot.none
    | with_reducible refine OutFoot.next ?_
    | with_reducible refine OptFoot.getD ?_ ?_
    | with_reducible refine PairFoot.snd ?_
    | with_reducible exact PairFoot.out (by assumption)
    | with_reducible refine PairFoot.eq (by assumption) ?_
    | with_reducible refine OptFoot.eq (by assumption) ?_
    | with_reducible refine ExFoot.eq (by assumption) ?_
    | ((with_reducible refine Foot.lit ?_ rfl rfl ?_ ?_ ?_ ?_ ?_ ?_); rotate_left; rfl; rfl; rfl; rfl; (first | exact Nat.le_refl _ | exact Nat.le_succ _); (constructor <;> first | with_reducible exact Kept.same | exact Kept.masked rfl); (first | with_reducible assumption | with_reducible refine foot_modLink rfl ?_ .. | with_reducible refine foot_slPut rfl ?_ .. | with_reducible refine foot_slSend rfl ?_ .. | with_reducible refine foot_setFld (blk_SL_CNT_BADFRM ..) rfl ?_ .. | with_reducible refine foot_setFld (blk_SL_STAT_FOUND ..) rfl ?_ .. | with_reducible refine foot_setFld (blk_SL_STAT_STATE ..) rfl ?_ .. | with_reducible refine foot_incSat (blk_SL_CNT_BADFRM ..) rfl ?_ .. | with_reducible refine foot_incSat (blk_SL_STAT_FOUND ..) rfl ?_ .. | with_reducible refine foot_incSat (blk_SL_STAT_STATE ..) rfl ?_ .. | with_reducible refine Foot.foldl (fun _ _ _ => ?_) ?_ | with_reducible refine PairFoot.foldl (fun _ _ _ => ?_) ?_ | with_reducible apply Foot.ite | with_reducible apply PairFoot.ite | with_reducible apply OptFoot.ite | with_reducible apply OutFoot.ite | with_reducible apply ExFoot.ite | with_reducible exact ExFoot.error | with_reducible refine ExFoot.ok ?_ | with_reducible refine PairFoot.forL (fun _ _ _ => ?_) ?_ | with_reducible refine PairFoot.forN (fun _ _ _ => ?_) ?_ | with_reducible refine OptFoot.some ?_ | with_reducible exact OptFoot.none | with_reducible refine OutFoot.next ?_ | with_reducible refine OptFoot.getD ?_ ?_ | with_reducible refine PairFoot.snd ?_))
    | split
    | with_reducible refine PairFoot.mk ?_
    | dsimp only

theorem foot_slMissed {m : Nat} {z t : State} (hs : 0x76280108a4ea4f88 ||| m = m) (h : Foot m z t) (a0 : _) (a1 : _) (a2 : _) :
    Foot m z (State.slMissed a0 a1 a2 t) := by
  refine Foot.step (m := 0x76280108a4ea4f88) ?_ hs h
  clear h hs
  have h := Foot.refl 0x76280108a4ea4f88 t
  unfold State.slMissed
  repeat' first
    | with_reducible assumption
    | (intro x; first
        | (refine Foot.cut (P := Foot 0x76280108a4ea4f88 t x) ?_ ?_; rotate_left; subst x; rotate_left; intro hx; clear_value x)
        | (refine Foot.cut (P := PairFoot 0x76280108a4ea4f88 t x) ?_ ?_; rotate_left; subst x; rotate_left; intro hx; clear_value x)
        | (refine Foot.cut (P := OptFoot 0x76280108a4ea4f88 t x) ?_ ?_; rotate_left; subst x; rotate_left; intro hx; clear_value x)
        | (have hf := x.programmed; clear hf)
        | clear_value x
        | skip)
    | lift_lets
    | with_reducible refine foot_modLink rfl ?_ ..
    | with_reducible refine foot_slSubst rfl ?_ ..
    | with_reducible refine foot_slConfigure rfl ?_ ..
    | with_reducible refine foot_log rfl ?_ ..
    | with_reducible refine foot_raise rfl ?_ ..
    | with_reducible refine foot_reasonTo rfl ?_ ..
    | with_reducible refine foot_setFbit (blk_SL_ONLINE_ONLINE ..) rfl ?_ ..
    | with_reducible refine Foot.foldl (fun _ _ _ => ?_) ?_
    | with_reducible refine PairFoot.foldl (fun _ _ _ => ?_) ?_
    | with_reducible apply Foot.ite
    | with_reducible apply PairFoot.ite
    | with_reducible apply OptFoot.ite
    | with_reducible apply OutFoot.ite
    | with_reducible apply ExFoot.ite
    | with_reducible exact ExFoot.error
    | with_reducible refine ExFoot.ok ?_
    | with_reducible refine PairFoot.forL (fun _ _ _ => ?_) ?_
    | with_reducible refine PairFoot.forN (fun _ _ _ => ?_) ?_
    | with_reducible refine OptFoot.some ?_
    | with_reducible exact OptFoot.none
    | with_reducible refine OutFoot.next ?_
    | with_reducible refine OptFoot.getD ?_ ?_
    | with_reducible refine PairFoot.snd ?_
    | with_reducible exact PairFoot.out (by assumption)
    | with_reducible refine PairFoot.eq (by assumption) ?_
    | with_reducible refine OptFoot.eq (by assumption) ?_
    | with_reducible refine ExFoot.eq (by assumption) ?_
    | ((with_reducible refine Foot.lit ?_ rfl rfl ?_ ?_ ?_ ?_ ?_ ?_); rotate_left; rfl; rfl; rfl; rfl; (first | exact Nat.le_refl _ | exact Nat.le_succ _); (constructor <;> first | with_reducible exact Kept.same | exact Kept.masked rfl); (first | with_reducible assumption | with_reducible refine foot_modLink rfl ?_ .. | with_reducible refine foot_slSubst rfl ?_ .. | with_reducible refine foot_slConfigure rfl ?_ .. | with_reducible refine foot_log rfl ?_ .. | with_reducible refine foot_raise rfl ?_ .. | with_reducible refine foot_reasonTo rfl ?_ .. | with_reducible refine foot_setFbit (blk_SL_ONLINE_ONLINE ..) rfl ?_ .. | with_reducible refine Foot.foldl (fun _ _ _ => ?_) ?_ | with_reducible refine PairFoot.foldl (fun _ _ _ => ?_) ?_ | with_reducible apply Foot.ite | with_reducible apply PairFoot.ite | with_reducible apply OptFoot.ite | with_reducible apply OutFoot.ite | with_reducible apply ExFoot.ite | with_reducible exact ExFoot.error | with_reducible refine ExFoot.ok ?_ | with_reducible refine PairFoot.forL (fun _ _ _ => ?_) ?_ | with_reducible refine PairFoot.forN (fun _ _ _ => ?_) ?_ | with_reducible refine OptFoot.some ?_ | with_reducible exact OptFoot.none | with_reducible refine OutFoot.next ?_ | with_reducible refine OptFoot.getD ?_ ?_ | with_reducible refine PairFoot.snd ?_))
    | split
    | with_reducible refine PairFoot.mk ?_
    | dsimp only

theorem foot_slStation {m : Nat} {z t : State} (hs : 0x76280108a4ea4f88 ||| m = m) (h : Foot m z t) (a0 : _) (a1 : _) (a2 : _) :
    Foot m z (State.slStation a0 a1 a2 t) := by
  refine Foot.step (m := 0x76280108a4ea4f88) ?_ hs h
  clear h hs
  have h := Foot.refl 0x76280108a4ea4f88 t
  unfold State.slStation
  repeat' first
    | with_reducible assumption
    | (intro x; first
        | (refine Foot.cut (P := Foot 0x76280108a4ea4f88 t x) ?_ ?_; rotate_left; subst x; rotate_left; intro hx; clear_value x)
        | (refine Foot.cut (P := PairFoot 0x76280108a4ea4f88 t x) ?_ ?_; rotate_left; subst x; rotate_left; intro hx; clear_value x)
        | (refine Foot.cut (P := OptFoot 0x76280108a4ea4f88 t x) ?_ ?_; rotate_left; subst x; rotate_left; intro hx; clear_value x)
        | (have hf := fun a => x a; clear hf; subst x)
        | (have hf := x.programmed; clear hf)
        | clear_value x
        | skip)
    | lift_lets
    | with_reducible refine foot_modLink rfl ?_ ..
    | with_reducible refine foot_log rfl ?_ ..
    | with_reducible refine foot_putBytes rfl ?_ ..
    | with_reducible refine foot_reasonTo rfl ?_ ..
    | with_reducible refine foot_slMissed rfl ?_ ..
    | with_reducible refine foot_setFbit (blk_SL_ONLINE_ONLINE ..) rfl ?_ ..
    | with_reducible refine Foot.foldl (fun _ _ _ => ?_) ?_
    | with_reducible refine PairFoot.foldl (fun _ _ _ => ?_) ?_
    | with_reducible apply Foot.ite
    | with_reducible apply PairFoot.ite
    | with_reducible apply OptFoot.ite
    | with_reducible apply OutFoot.ite
    | with_reducible apply ExFoot.ite
    | with_reducible exact ExFoot.error
    | with_reducible refine ExFoot.ok ?_
    | with_reducible refine PairFoot.forL (fun _ _ _ => ?_) ?_
    | with_reducible refine PairFoot.forN (fun _ _ _ => ?_) ?_
    | with_reducible refine OptFoot.some ?_
    | with_reducible exact OptFoot.none
    | with_reducible refine OutFoot.next ?_
    | with_reducible refine OptFoot.getD ?_ ?_
    | with_reducible refine PairFoot.snd ?_
    | with_reducible exact PairFoot.out (by assumption)
    | with_reducible refine PairFoot.eq (by assumption) ?_
    | with_reducible refine OptFoot.eq (by assumption) ?_
    | with_reducible refine ExFoot.eq (by assumption) ?_
    | ((with_reducible refine Foot.lit ?_ rfl rfl ?_ ?_ ?_ ?_ ?_ ?_); rotate_left; rfl; rfl; rfl; rfl; (first | exact Nat.le_refl _ | exact Nat.le_succ _); (constructor <;> first | with_reducible exact Kept.same | exact Kept.masked rfl); (first | with_reducible assumption | with_reducible refine foot_modLink rfl ?_ .. | with_reducible refine foot_log rfl ?_ .. | with_reducible refine foot_putBytes rfl ?_ .. | with_reducible refine foot_reasonTo rfl ?_ .. | with_reducible refine foot_slMissed rfl ?_ .. | with_reducible refine foot_setFbit (blk_SL_ONLINE_ONLINE ..) rfl ?_ .. | with_reducible refine Foot.foldl (fun _ _ _ => ?_) ?_ | with_reducible refine PairFoot.foldl (fun _ _ _ => ?_) ?_ | with_reducible apply Foot.ite | with_reducible apply PairFoot.ite | with_reducible apply OptFoot.ite | with_reducible apply OutFoot.ite | with_reducible apply ExFoot.ite | with_reducible exact ExFoot.error | with_reducible refine ExFoot.ok ?_ | with_reducible refine PairFoot.forL (fun _ _ _ => ?_) ?_ | with_reducible refine PairFoot.forN (fun _ _ _ => ?_) ?_ | with_reducible refine OptFoot.some ?_ | with_reducible exact OptFoot.none | with_reducible refine OutFoot.next ?_ | with_reducible refine OptFoot.getD ?_ ?_ | with_reducible refine PairFoot.snd ?_))
    | split
    | with_reducible refine PairFoot.mk ?_
    | dsimp only

theorem foot_slRing {m : Nat} {z t : State} (hs : 0x76280108a4ea4f80 ||| m = m) (h : Foot m z t) (a0 : _) :
    Foot m z (State.slRing a0 t) := by
  refine Foot.step (m := 0x76280108a4ea4f80) ?_ hs h
  clear h hs
  have h := Foot.refl 0x76280108a4ea4f80 t
  unfold State.slRing
  repeat' first
    | with_reducible assumption
    | (intro x; first
        | (refine Foot.cut (P := Foot 0x76280108a4ea4f80 t x) ?_ ?_; rotate_left; subst x; rotate_left; intro hx; clear_value x)
        | (refine Foot.cut (P := PairFoot 0x76280108a4ea4f80 t x) ?_ ?_; rotate_left; subst x; rotate_left; intro hx; clear_value x)
        | (refine Foot.cut (P := OptFoot 0x76280108a4ea4f80 t x) ?_ ?_; rotate_left; subst x; rotate_left; intro hx; clear_value x)
        | (have hf := x.programmed; clear hf)
        | clear_value x
        | skip)
    | lift_lets
    | with_reducible refine foot_modLink rfl ?_ ..
    | with_reducible refine foot_raise rfl ?_ ..
    | with_reducible refine foot_setFlag (blk_SL_STAT_RING_BROKEN ..) rfl ?_ ..
    | with_reducible refine Foot.foldl (fun _ _ _ => ?_) ?_
    | with_reducible refine PairFoot.foldl (fun _ _ _ => ?_) ?_
    | with_reducible apply Foot.ite
    | with_reducible apply PairFoot.ite
    | with_reducible apply OptFoot.ite
    | with_reducible apply OutFoot.ite
    | with_reducible apply ExFoot.ite
    | with_reducible exact ExFoot.error
    | with_reducible refine ExFoot.ok ?_
    | with_reducible refine PairFoot.forL (fun _ _ _ => ?_) ?_
    | with_reducible refine PairFoot.forN (fun _ _ _ => ?_) ?_
    | with_reducible refine OptFoot.some ?_
    | with_reducible exact OptFoot.none
    | with_reducible refine OutFoot.next ?_
    | with_reducible refine OptFoot.getD ?_ ?_
    | with_reducible refine PairFoot.snd ?_
    | with_reducible exact PairFoot.out (by assumption)
    | with_reducible refine PairFoot.eq (by assumption) ?_
    | with_reducible refine OptFoot.eq (by assumption) ?_
    | with_reducible refine ExFoot.eq (by assumption) ?_
    | ((with_reducible refine Foot.lit ?_ rfl rfl ?_ ?_ ?_ ?_ ?_ ?_); rotate_left; rfl; rfl; rfl; rfl; (first | exact Nat.le_refl _ | exact Nat.le_succ _); (constructor <;> first | with_reducible exact Kept.same | exact Kept.masked rfl); (first | with_reducible assumption | with_reducible refine foot_modLink rfl ?_ .. | with_reducible refine foot_raise rfl ?_ .. | with_reducible refine foot_setFlag (blk_SL_STAT_RING_BROKEN ..) rfl ?_ .. | with_reducible refine Foot.foldl (fun _ _ _ => ?_) ?_ | with_reducible refine PairFoot.foldl (fun _ _ _ => ?_) ?_ | with_reducible apply Foot.ite | with_reducible apply PairFoot.ite | with_reducible apply OptFoot.ite | with_reducible apply OutFoot.ite | with_reducible apply ExFoot.ite | with_reducible exact ExFoot.error | with_reducible refine ExFoot.ok ?_ | with_reducible refine PairFoot.forL (fun _ _ _ => ?_) ?_ | with_reducible refine PairFoot.forN (fun _ _ _ => ?_) ?_ | with_reducible refine OptFoot.some ?_ | with_reducible exact OptFoot.none | with_reducible refine OutFoot.next ?_ | with_reducible refine OptFoot.getD ?_ ?_ | with_reducible refine PairFoot.snd ?_))
    | split
    | with_reducible refine PairFoot.mk ?_
    | dsimp only

theorem foot_slPublish {m : Nat} {z t : State} (hs : 0x76280108a4ea4f88 ||| m = m) (h : Foot m z t) (a0 : _) :
    Foot m z (State.slPublish a0 t) := by
  refine Foot.step (m := 0x76280108a4ea4f88) ?_ hs h
  clear h hs
  have h := Foot.refl 0x76280108a4ea4f88 t
  unfold State.slPublish
  repeat' first
    | with_reducible assumption
    | (intro x; first
        | (refine Foot.cut (P := Foot 0x76280108a4ea4f88 t x) ?_ ?_; rotate_left; subst x; rotate_left; intro hx; clear_value x)
        | (refine Foot.cut (P := PairFoot 0x76280108a4ea4f88 t x) ?_ ?_; rotate_left; subst x; rotate_left; intro hx; clear_value x)
        | (refine Foot.cut (P := OptFoot 0x76280108a4ea4f88 t x) ?_ ?_; rotate_left; subst x; rotate_left; intro hx; clear_value x)
        | (have hf := x.programmed; clear hf)
        | clear_value x
        | skip)
    | lift_lets
    | with_reducible refine foot_modLink rfl ?_ ..
    | with_reducible refine foot_slStation rfl ?_ ..
    | with_reducible refine foot_slRing rfl ?_ ..
    | with_reducible refine foot_incSat (blk_SL_CNT_LOSTCYC ..) rfl ?_ ..
    | with_reducible refine Foot.forN (fun _ _ _ => ?_) ?_
    | with_reducible refine Foot.foldl (fun _ _ _ => ?_) ?_
    | with_reducible refine PairFoot.foldl (fun _ _ _ => ?_) ?_
    | with_reducible apply Foot.ite
    | with_reducible apply PairFoot.ite
    | with_reducible apply OptFoot.ite
    | with_reducible apply OutFoot.ite
    | with_reducible apply ExFoot.ite
    | with_reducible exact ExFoot.error
    | with_reducible refine ExFoot.ok ?_
    | with_reducible refine PairFoot.forL (fun _ _ _ => ?_) ?_
    | with_reducible refine PairFoot.forN (fun _ _ _ => ?_) ?_
    | with_reducible refine OptFoot.some ?_
    | with_reducible exact OptFoot.none
    | with_reducible refine OutFoot.next ?_
    | with_reducible refine OptFoot.getD ?_ ?_
    | with_reducible refine PairFoot.snd ?_
    | with_reducible exact PairFoot.out (by assumption)
    | with_reducible refine PairFoot.eq (by assumption) ?_
    | with_reducible refine OptFoot.eq (by assumption) ?_
    | with_reducible refine ExFoot.eq (by assumption) ?_
    | ((with_reducible refine Foot.lit ?_ rfl rfl ?_ ?_ ?_ ?_ ?_ ?_); rotate_left; rfl; rfl; rfl; rfl; (first | exact Nat.le_refl _ | exact Nat.le_succ _); (constructor <;> first | with_reducible exact Kept.same | exact Kept.masked rfl); (first | with_reducible assumption | with_reducible refine foot_modLink rfl ?_ .. | with_reducible refine foot_slStation rfl ?_ .. | with_reducible refine foot_slRing rfl ?_ .. | with_reducible refine foot_incSat (blk_SL_CNT_LOSTCYC ..) rfl ?_ .. | with_reducible refine Foot.forN (fun _ _ _ => ?_) ?_ | with_reducible refine Foot.foldl (fun _ _ _ => ?_) ?_ | with_reducible refine PairFoot.foldl (fun _ _ _ => ?_) ?_ | with_reducible apply Foot.ite | with_reducible apply PairFoot.ite | with_reducible apply OptFoot.ite | with_reducible apply OutFoot.ite | with_reducible apply ExFoot.ite | with_reducible exact ExFoot.error | with_reducible refine ExFoot.ok ?_ | with_reducible refine PairFoot.forL (fun _ _ _ => ?_) ?_ | with_reducible refine PairFoot.forN (fun _ _ _ => ?_) ?_ | with_reducible refine OptFoot.some ?_ | with_reducible exact OptFoot.none | with_reducible refine OutFoot.next ?_ | with_reducible refine OptFoot.getD ?_ ?_ | with_reducible refine PairFoot.snd ?_))
    | split
    | with_reducible refine PairFoot.mk ?_
    | dsimp only

theorem foot_mbxRequest {m : Nat} {z t : State} (hs : 0x76280108a4ea4f80 ||| m = m) (h : Foot m z t) (a0 : _) (a1 : _) :
    Foot m z (State.mbxRequest a0 a1 t) := by
  refine Foot.step (m := 0x76280108a4ea4f80) ?_ hs h
  clear h hs
  have h := Foot.refl 0x76280108a4ea4f80 t
  unfold State.mbxRequest
  repeat' first
    | with_reducible assumption
    | (intro x; first | (refine Foot.cut (P := Foot 0x76280108a4ea4f80 t x) ?_ ?_; rotate_left; subst x; rotate_left; intro hx; clear_value x) | clear_value x | skip)
    | lift_lets
    | with_reducible refine foot_ifFitted rfl (fun _ _ => ?_) ?_ ..
    | with_reducible refine foot_mbxPush rfl ?_ ..
    | with_reducible refine foot_setFld (blk_SL_MBXSTAT_OVF ..) rfl ?_ ..
    | with_reducible refine foot_setFld (blk_SL_MBXSTAT_TAG ..) rfl ?_ ..
    | with_reducible refine foot_setFlag (blk_SL_MBXSTAT_OVF ..) rfl ?_ ..
    | with_reducible refine foot_setFlag (blk_SL_MBXSTAT_TAG ..) rfl ?_ ..
    | with_reducible apply Foot.ite
    | split
    | dsimp only

theorem foot_execMailboxRequest {m : Nat} {z t : State} (hs : 0x76280108a4ea4f80 ||| m = m) (h : Foot m z t) (a0 : _) (a1 : _) (a2 : _) :
    OutFoot m z (execMailboxRequest a0 a1 a2 t) := by
  refine OutFoot.step (m := 0x76280108a4ea4f80) ?_ hs h
  clear h hs
  have h := Foot.refl 0x76280108a4ea4f80 t
  unfold execMailboxRequest
  repeat' first
    | with_reducible assumption
    | (intro x; first | clear_value x | skip)
    | lift_lets
    | with_reducible refine foot_mbxRequest rfl ?_ ..
    | with_reducible refine OutFoot.next ?_
    | split
    | dsimp only

theorem foot_mbxFinish {m : Nat} {z t : State} (hs : 0x76280108a4ea4f88 ||| m = m) (h : Foot m z t) (a0 : _) (a1 : _) (a2 : _) (a3 : _) :
    Foot m z (State.mbxFinish a0 a1 a2 a3 t) := by
  refine Foot.step (m := 0x76280108a4ea4f88) ?_ hs h
  clear h hs
  have h := Foot.refl 0x76280108a4ea4f88 t
  unfold State.mbxFinish
  repeat' first
    | with_reducible assumption
    | (intro x; first
        | (refine Foot.cut (P := Foot 0x76280108a4ea4f88 t x) ?_ ?_; rotate_left; subst x; rotate_left; intro hx; clear_value x)
        | (refine Foot.cut (P := PairFoot 0x76280108a4ea4f88 t x) ?_ ?_; rotate_left; subst x; rotate_left; intro hx; clear_value x)
        | (refine Foot.cut (P := OptFoot 0x76280108a4ea4f88 t x) ?_ ?_; rotate_left; subst x; rotate_left; intro hx; clear_value x)
        | (have hf := x.programmed; clear hf)
        | clear_value x
        | skip)
    | lift_lets
    | with_reducible refine foot_modLink rfl ?_ ..
    | with_reducible refine foot_ifFitted rfl (fun _ _ => ?_) ?_ ..
    | with_reducible refine foot_hwEvent rfl ?_ ..
    | with_reducible refine foot_putBytes rfl ?_ ..
    | with_reducible refine foot_setFld (blk_SL_STAT_STATE ..) rfl ?_ ..
    | with_reducible refine Foot.foldl (fun _ _ _ => ?_) ?_
    | with_reducible refine PairFoot.foldl (fun _ _ _ => ?_) ?_
    | with_reducible apply Foot.ite
    | with_reducible apply PairFoot.ite
    | with_reducible apply OptFoot.ite
    | with_reducible apply OutFoot.ite
    | with_reducible apply ExFoot.ite
    | with_reducible exact ExFoot.error
    | with_reducible refine ExFoot.ok ?_
    | with_reducible refine PairFoot.forL (fun _ _ _ => ?_) ?_
    | with_reducible refine PairFoot.forN (fun _ _ _ => ?_) ?_
    | with_reducible refine OptFoot.some ?_
    | with_reducible exact OptFoot.none
    | with_reducible refine OutFoot.next ?_
    | with_reducible refine OptFoot.getD ?_ ?_
    | with_reducible refine PairFoot.snd ?_
    | with_reducible exact PairFoot.out (by assumption)
    | with_reducible refine PairFoot.eq (by assumption) ?_
    | with_reducible refine OptFoot.eq (by assumption) ?_
    | with_reducible refine ExFoot.eq (by assumption) ?_
    | ((with_reducible refine Foot.lit ?_ rfl rfl ?_ ?_ ?_ ?_ ?_ ?_); rotate_left; rfl; rfl; rfl; rfl; (first | exact Nat.le_refl _ | exact Nat.le_succ _); (constructor <;> first | with_reducible exact Kept.same | exact Kept.masked rfl); (first | with_reducible assumption | with_reducible refine foot_modLink rfl ?_ .. | with_reducible refine foot_ifFitted rfl (fun _ _ => ?_) ?_ .. | with_reducible refine foot_hwEvent rfl ?_ .. | with_reducible refine foot_putBytes rfl ?_ .. | with_reducible refine foot_setFld (blk_SL_STAT_STATE ..) rfl ?_ .. | with_reducible refine Foot.foldl (fun _ _ _ => ?_) ?_ | with_reducible refine PairFoot.foldl (fun _ _ _ => ?_) ?_ | with_reducible apply Foot.ite | with_reducible apply PairFoot.ite | with_reducible apply OptFoot.ite | with_reducible apply OutFoot.ite | with_reducible apply ExFoot.ite | with_reducible exact ExFoot.error | with_reducible refine ExFoot.ok ?_ | with_reducible refine PairFoot.forL (fun _ _ _ => ?_) ?_ | with_reducible refine PairFoot.forN (fun _ _ _ => ?_) ?_ | with_reducible refine OptFoot.some ?_ | with_reducible exact OptFoot.none | with_reducible refine OutFoot.next ?_ | with_reducible refine OptFoot.getD ?_ ?_ | with_reducible refine PairFoot.snd ?_))
    | split
    | with_reducible refine PairFoot.mk ?_
    | dsimp only

end Sys2Proof.Machine
end

