-- ==== Sys2Proof/Laws/FootCan.lean ====
section
/-!
SUPPORT. Footprints of the operations of Machine/Can.lean.
-/

set_option Elab.async false

set_option linter.all false

set_option maxRecDepth 4000

namespace Sys2Proof.Machine

theorem foot_canDrop {m : Nat} {z t : State} (hs : 0x200000080000000 ||| m = m) (h : Foot m z t) (a0 : _) (a1 : _) (a2 : _) :
    Foot m z (State.canDrop a0 a1 a2 t) := by
  refine Foot.step (m := 0x200000080000000) ?_ hs h
  clear h hs
  have h := Foot.refl 0x200000080000000 t
  unfold State.canDrop
  repeat' first
    | with_reducible assumption
    | (intro x; first | clear_value x | skip)
    | lift_lets
    | with_reducible refine foot_modCan rfl ?_ ..
    | with_reducible refine foot_setFld (blk_OBJ_STAT_TXREQ ..) rfl ?_ ..
    | with_reducible refine foot_setFld (blk_OBJ_STAT_TXCODE ..) rfl ?_ ..
    | with_reducible refine foot_setFlag (blk_OBJ_STAT_TXREQ ..) rfl ?_ ..
    | with_reducible refine foot_setFlag (blk_OBJ_STAT_TXCODE ..) rfl ?_ ..
    | split
    | dsimp only

theorem foot_canOffer {m : Nat} {z t : State} (hs : 0x200002080000000 ||| m = m) (h : Foot m z t) (a0 : _) :
    Foot m z (State.canOffer a0 t) := by
  refine Foot.step (m := 0x200002080000000) ?_ hs h
  clear h hs
  have h := Foot.refl 0x200002080000000 t
  unfold State.canOffer
  repeat' first
    | with_reducible assumption
    | (intro x; first | (refine Foot.cut (P := Foot 0x200002080000000 t x) ?_ ?_; rotate_left; subst x; rotate_left; intro hx; clear_value x) | clear_value x | skip)
    | lift_lets
    | with_reducible refine foot_modCan rfl ?_ ..
    | with_reducible refine foot_canDrop rfl ?_ ..
    | with_reducible refine foot_emit rfl ?_ ..
    | with_reducible refine Foot.forL (fun _ _ _ => ?_) ?_
    | with_reducible apply Foot.ite
    | split
    | dsimp only

theorem foot_canTrigger {m : Nat} {z t : State} (hs : 0x200002080000000 ||| m = m) (h : Foot m z t) (a0 : _) (a1 : _) :
    Foot m z (State.canTrigger a0 a1 t) := by
  refine Foot.step (m := 0x200002080000000) ?_ hs h
  clear h hs
  have h := Foot.refl 0x200002080000000 t
  unfold State.canTrigger
  repeat' first
    | with_reducible assumption
    | (intro x; first | (refine Foot.cut (P := Foot 0x200002080000000 t x) ?_ ?_; rotate_left; subst x; rotate_left; intro hx; clear_value x) | clear_value x | skip)
    | lift_lets
    | with_reducible refine foot_modCan rfl ?_ ..
    | with_reducible refine foot_canOffer rfl ?_ ..
    | with_reducible refine foot_canDrop rfl ?_ ..
    | with_reducible refine foot_setFlag (blk_OBJ_STAT_TXREQ ..) rfl ?_ ..
    | with_reducible apply Foot.ite
    | split
    | dsimp only

theorem foot_canTransfer {m : Nat} {z t : State} (hs : 0x200002080000000 ||| m = m) (h : Foot m z t) (a0 : _) :
    Foot m z (State.canTransfer a0 t) := by
  refine Foot.step (m := 0x200002080000000) ?_ hs h
  clear h hs
  have h := Foot.refl 0x200002080000000 t
  unfold State.canTransfer
  repeat' first
    | with_reducible assumption
    | (intro x; first | clear_value x | skip)
    | lift_lets
    | with_reducible refine foot_canTrigger rfl ?_ ..
    | with_reducible refine Foot.forL (fun _ _ _ => ?_) ?_
    | split
    | dsimp only

theorem foot_execCanPeriodic {m : Nat} {z t : State} (hs : 0x200002080000000 ||| m = m) (h : Foot m z t) (a0 : _) (a1 : _) :
    OutFoot m z (execCanPeriodic a0 a1 t) := by
  refine OutFoot.step (m := 0x200002080000000) ?_ hs h
  clear h hs
  have h := Foot.refl 0x200002080000000 t
  unfold execCanPeriodic
  repeat' first
    | with_reducible assumption
    | (intro x; first | clear_value x | skip)
    | lift_lets
    | with_reducible refine foot_canTrigger rfl ?_ ..
    | with_reducible apply Foot.ite
    | with_reducible refine OutFoot.next ?_
    | split
    | dsimp only

theorem foot_objStatWrite {m : Nat} {z t : State} (hs : 0x200002080000000 ||| m = m) (h : Foot m z t) (a0 : _) (a1 : _) (a2 : _) :
    Foot m z (State.objStatWrite a0 a1 a2 t) := by
  refine Foot.step (m := 0x200002080000000) ?_ hs h
  clear h hs
  have h := Foot.refl 0x200002080000000 t
  unfold State.objStatWrite
  repeat' first
    | with_reducible assumption
    | (intro x; first | (refine Foot.cut (P := Foot 0x200002080000000 t x) ?_ ?_; rotate_left; subst x; rotate_left; intro hx; clear_value x) | clear_value x | skip)
    | lift_lets
    | with_reducible refine foot_canTrigger rfl ?_ ..
    | with_reducible refine foot_setFlag (blk_OBJ_STAT_COLLISION ..) rfl ?_ ..
    | with_reducible apply Foot.ite
    | split
    | dsimp only

theorem foot_execTxreq {m : Nat} {z t : State} (hs : 0x200002080000000 ||| m = m) (h : Foot m z t) (a0 : _) (a1 : _) (a2 : _) (a3 : _) :
    OutFoot m z (execTxreq a0 a1 a2 a3 t) := by
  refine OutFoot.step (m := 0x200002080000000) ?_ hs h
  clear h hs
  have h := Foot.refl 0x200002080000000 t
  unfold execTxreq
  repeat' first
    | with_reducible assumption
    | (intro x; first | clear_value x | skip)
    | lift_lets
    | with_reducible refine foot_objStatWrite rfl ?_ ..
    | with_reducible refine OutFoot.next ?_
    | split
    | dsimp only

theorem foot_abdFrom {m : Nat} {z t : State} (hs : 0x200000080000000 ||| m = m) (h : Foot m z t) (a0 : _) (a1 : _) :
    Foot m z (State.abdFrom a0 a1 t) := by
  refine Foot.step (m := 0x200000080000000) ?_ hs h
  clear h hs
  have h := Foot.refl 0x200000080000000 t
  unfold State.abdFrom
  repeat' first
    | with_reducible assumption
    | (intro x; first | clear_value x | skip)
    | lift_lets
    | with_reducible refine foot_modCan rfl ?_ ..
    | with_reducible refine foot_setFld (blk_ABD_STAT_CAND ..) rfl ?_ ..
    | split
    | dsimp only

theorem foot_canEnter {m : Nat} {z t : State} (hs : 0x200000080000000 ||| m = m) (h : Foot m z t) (a0 : _) (a1 : _) :
    Foot m z (State.canEnter a0 a1 t) := by
  refine Foot.step (m := 0x200000080000000) ?_ hs h
  clear h hs
  have h := Foot.refl 0x200000080000000 t
  unfold State.canEnter
  repeat' first
    | with_reducible assumption
    | (intro x; first | (refine Foot.cut (P := Foot 0x200000080000000 t x) ?_ ?_; rotate_left; subst x; rotate_left; intro hx; clear_value x) | clear_value x | skip)
    | lift_lets
    | with_reducible refine foot_modCan rfl ?_ ..
    | with_reducible refine foot_canOff rfl ?_ ..
    | with_reducible refine foot_canDiscard rfl ?_ ..
    | with_reducible refine foot_abdFrom rfl ?_ ..
    | with_reducible refine foot_setFld (blk_CAN_STAT_STATE ..) rfl ?_ ..
    | with_reducible refine foot_setFld (blk_ABD_STAT_DONE ..) rfl ?_ ..
    | with_reducible refine foot_setFlag (blk_CAN_STAT_STATE ..) rfl ?_ ..
    | with_reducible refine foot_setFlag (blk_ABD_STAT_DONE ..) rfl ?_ ..
    | with_reducible apply Foot.ite
    | split
    | dsimp only

theorem foot_canWant {m : Nat} {z t : State} (hs : 0x200000080000000 ||| m = m) (h : Foot m z t) (a0 : _) :
    Foot m z (State.canWant a0 t) := by
  refine Foot.step (m := 0x200000080000000) ?_ hs h
  clear h hs
  have h := Foot.refl 0x200000080000000 t
  unfold State.canWant
  repeat' first
    | with_reducible assumption
    | (intro x; first | clear_value x | skip)
    | lift_lets
    | with_reducible refine foot_canEnter rfl ?_ ..
    | with_reducible apply Foot.ite
    | split
    | dsimp only

theorem foot_canWantMode {m : Nat} {z t : State} (hs : 0x200000080000000 ||| m = m) (h : Foot m z t) (a0 : _) (a1 : _) :
    Foot m z (State.canWantMode a0 a1 t) := by
  refine Foot.step (m := 0x200000080000000) ?_ hs h
  clear h hs
  have h := Foot.refl 0x200000080000000 t
  unfold State.canWantMode
  repeat' first
    | with_reducible assumption
    | (intro x; first
        | (refine Foot.cut (P := Foot 0x200000080000000 t x) ?_ ?_; rotate_left; subst x; rotate_left; intro hx; clear_value x)
        | (refine Foot.cut (P := PairFoot 0x200000080000000 t x) ?_ ?_; rotate_left; subst x; rotate_left; intro hx; clear_value x)
        | (refine Foot.cut (P := OptFoot 0x200000080000000 t x) ?_ ?_; rotate_left; subst x; rotate_left; intro hx; clear_value x)
        | (have hf := x.programmed; clear hf)
        | clear_value x
        | skip)
    | lift_lets
    | with_reducible refine foot_canWant rfl ?_ ..
    | with_reducible refine foot_modCan rfl ?_ ..
    | with_reducible refine foot_setFld (blk_CAN_CTRL_OPMODE ..) rfl ?_ ..
    | with_reducible refine Foot.foldl (fun _ _ _ => ?_) ?_
    | with_reducible refine PairFoot.foldl (fun _ _ _ => ?_) ?_
    | with_reducible apply Foot.ite
    | with_reducible apply PairFoot.ite
    | with_reducible apply OptFoot.ite
    | with_reducible apply OutFoot.ite
    | with_reducible apply ExFoot.ite
    | with_reducible exact ExFoot.error
    | with_reducible refine ExFoot.ok ?_
    | with_reducible refine PairFoot.forL (fun _ _ _ => ?_) ?_
    | with_reducible refine PairFoot.forN (fun _ _ _ => ?_) ?_
    | with_reducible refine OptFoot.some ?_
    | with_reducible exact OptFoot.none
    | with_reducible refine OutFoot.next ?_
    | with_reducible refine OptFoot.getD ?_ ?_
    | with_reducible refine PairFoot.snd ?_
    | with_reducible exact PairFoot.out (by assumption)
    | with_reducible refine PairFoot.eq (by assumption) ?_
    | with_reducible refine OptFoot.eq (by assumption) ?_
    | with_reducible refine ExFoot.eq (by assumption) ?_
    | ((with_reducible refine Foot.lit ?_ rfl rfl ?_ ?_ ?_ ?_ ?_ ?_); rotate_left; rfl; rfl; rfl; rfl; (first | exact Nat.le_refl _ | exact Nat.le_succ _); (constructor <;> first | with_reducible exact Kept.same | exact Kept.masked rfl); (first | with_reducible assumption | with_reducible refine foot_canWant rfl ?_ .. | with_reducible refine foot_modCan rfl ?_ .. | with_reducible refine foot_setFld (blk_CAN_CTRL_OPMODE ..) rfl ?_ .. | with_reducible refine Foot.foldl (fun _ _ _ => ?_) ?_ | with_reducible refine PairFoot.foldl (fun _ _ _ => ?_) ?_ | with_reducible apply Foot.ite | with_reducible apply PairFoot.ite | with_reducible apply OptFoot.ite | with_reducible apply OutFoot.ite | with_reducible apply ExFoot.ite | with_reducible exact ExFoot.error | with_reducible refine ExFoot.ok ?_ | with_reducible refine PairFoot.forL (fun _ _ _ => ?_) ?_ | with_reducible refine PairFoot.forN (fun _ _ _ => ?_) ?_ | with_reducible refine OptFoot.some ?_ | with_reducible exact OptFoot.none | with_reducible refine OutFoot.next ?_ | with_reducible refine OptFoot.getD ?_ ?_ | with_reducible refine PairFoot.snd ?_))
    | split
    | with_reducible refine PairFoot.mk ?_
    | dsimp only

theorem foot_canSetMode {m : Nat} {z t : State} (hs : 0x72280100a4ea4f80 ||| m = m) (h : Foot m z t) (a0 : _) (a1 : _) :
    Foot m z (State.canSetMode a0 a1 t) := by
  refine Foot.step (m := 0x72280100a4ea4f80) ?_ hs h
  clear h hs
  have h := Foot.refl 0x72280100a4ea4f80 t
  unfold State.canSetMode
  repeat' first
    | with_reducible assumption
    | (intro x; first
        | (refine Foot.cut (P := Foot 0x72280100a4ea4f80 t x) ?_ ?_; rotate_left; subst x; rotate_left; intro hx; clear_value x)
        | (refine Foot.cut (P := PairFoot 0x72280100a4ea4f80 t x) ?_ ?_; rotate_left; subst x; rotate_left; intro hx; clear_value x)
        | (refine Foot.cut (P := OptFoot 0x72280100a4ea4f80 t x) ?_ ?_; rotate_left; subst x; rotate_left; intro hx; clear_value x)
        | (have hf := x.programmed; clear hf)
        | clear_value x
        | skip)
    | lift_lets
    | with_reducible refine foot_canWantMode rfl ?_ ..
    | with_reducible refine foot_raise rfl ?_ ..
    | with_reducible refine foot_setFld (blk_CAN_HPSTAT_RESULT ..) rfl ?_ ..
    | with_reducible refine Foot.foldl (fun _ _ _ => ?_) ?_
    | with_reducible refine PairFoot.foldl (fun _ _ _ => ?_) ?_
    | with_reducible apply Foot.ite
    | with_reducible apply PairFoot.ite
    | with_reducible apply OptFoot.ite
    | with_reducible apply OutFoot.ite
    | with_reducible apply ExFoot.ite
    | with_reducible exact ExFoot.error
    | with_reducible refine ExFoot.ok ?_
    | with_reducible refine PairFoot.forL (fun _ _ _ => ?_) ?_
    | with_reducible refine PairFoot.forN (fun _ _ _ => ?_) ?_
    | with_reducible refine OptFoot.some ?_
    | with_reducible exact OptFoot.none
    | with_reducible refine OutFoot.next ?_
    | with_reducible refine OptFoot.getD ?_ ?_
    | with_reducible refine PairFoot.snd ?_
    | with_reducible exact PairFoot.out (by assumption)
    | with_reducible refine PairFoot.eq (by assumption) ?_
    | with_reducible refine OptFoot.eq (by assumption) ?_
    | with_reducible refine ExFoot.eq (by assumption) ?_
    | ((with_reducible refine Foot.lit ?_ rfl rfl ?_ ?_ ?_ ?_ ?_ ?_); rotate_left; rfl; rfl; rfl; rfl; (first | exact Nat.le_refl _ | exact Nat.le_succ _); (constructor <;> first | with_reducible exact Kept.same | exact Kept.masked rfl); (first | with_reducible assumption | with_reducible refine foot_canWantMode rfl ?_ .. | with_reducible refine foot_raise rfl ?_ .. | with_reducible refine foot_setFld (blk_CAN_HPSTAT_RESULT ..) rfl ?_ .. | with_reducible refine Foot.foldl (fun _ _ _ => ?_) ?_ | with_reducible refine PairFoot.foldl (fun _ _ _ => ?_) ?_ | with_reducible apply Foot.ite | with_reducible apply PairFoot.ite | with_reducible apply OptFoot.ite | with_reducible apply OutFoot.ite | with_reducible apply ExFoot.ite | with_reducible exact ExFoot.error | with_reducible refine ExFoot.ok ?_ | with_reducible refine PairFoot.forL (fun _ _ _ => ?_) ?_ | with_reducible refine PairFoot.forN (fun _ _ _ => ?_) ?_ | with_reducible refine OptFoot.some ?_ | with_reducible exact OptFoot.none | with_reducible refine OutFoot.next ?_ | with_reducible refine OptFoot.getD ?_ ?_ | with_reducible refine PairFoot.snd ?_))
    | split
    | with_reducible refine PairFoot.mk ?_
    | dsimp only

theorem foot_canCtrlWrite {m : Nat} {z t : State} (hs : 0x72280100a4ea4f80 ||| m = m) (h : Foot m z t) (a0 : _) (a1 : _) :
    Foot m z (State.canCtrlWrite a0 a1 t) := by
  refine Foot.step (m := 0x72280100a4ea4f80) ?_ hs h
  clear h hs
  have h := Foot.refl 0x72280100a4ea4f80 t
  unfold State.canCtrlWrite
  repeat' first
    | with_reducible assumption
    | (intro x; first | clear_value x | skip)
    | lift_lets
    | with_reducible refine foot_canSetMode rfl ?_ ..
    | with_reducible refine foot_plainWrite (blk_CAN_CTRL_OPMODE ..) rfl ?_ ..
    | split
    | dsimp only

theorem foot_execCanBusIntegration {m : Nat} {z t : State} (hs : 0x200002080000000 ||| m = m) (h : Foot m z t) (a0 : _) :
    OutFoot m z (execCanBusIntegration a0 t) := by
  refine OutFoot.step (m := 0x200002080000000) ?_ hs h
  clear h hs
  have h := Foot.refl 0x200002080000000 t
  unfold execCanBusIntegration
  repeat' first
    | with_reducible assumption
    | (intro x; first | clear_value x | skip)
    | lift_lets
    | with_reducible refine foot_canOffer rfl ?_ ..
    | with_reducible refine foot_setFld (blk_CAN_STAT_STATE ..) rfl ?_ ..
    | with_reducible apply Foot.ite
    | with_reducible refine OutFoot.next ?_
    | split
    | dsimp only

theorem foot_hpShow {m : Nat} {z t : State} (hs : 0x200000000000000 ||| m = m) (h : Foot m z t) (a0 : _) :
    Foot m z (State.hpShow a0 t) := by
  refine Foot.step (m := 0x200000000000000) ?_ hs h
  clear h hs
  have h := Foot.refl 0x200000000000000 t
  unfold State.hpShow
  repeat' first
    | with_reducible assumption
    | (intro x; first | (refine Foot.cut (P := Foot 0x200000000000000 t x) ?_ ?_; rotate_left; subst x; rotate_left; intro hx; clear_value x) | clear_value x | skip)
    | lift_lets
    | with_reducible refine foot_setFld (blk_HP_ENTRY_WORD ..) rfl ?_ ..
    | with_reducible refine foot_setFld (blk_CAN_HPSTAT_COUNT ..) rfl ?_ ..
    | with_reducible refine foot_setRegB (blk_HP_ENTRY_WORD ..) rfl ?_ ..
    | with_reducible refine foot_setRegB (blk_CAN_HPSTAT_COUNT ..) rfl ?_ ..
    | with_reducible refine Foot.forN (fun _ _ _ => ?_) ?_
    | split
    | dsimp only

theorem foot_canRxEvent {m : Nat} {z t : State} (hs : 0x72280100a4ea4f80 ||| m = m) (h : Foot m z t) (a0 : _) (a1 : _) (a2 : _) :
    Foot m z (State.canRxEvent a0 a1 a2 t) := by
  refine Foot.step (m := 0x72280100a4ea4f80) ?_ hs h
  clear h hs
  have h := Foot.refl 0x72280100a4ea4f80 t
  unfold State.canRxEvent
  repeat' first
    | with_reducible assumption
    | (intro x; first | clear_value x | skip)
    | lift_lets
    | with_reducible refine foot_hwEvent rfl ?_ ..
    | with_reducible apply Foot.ite
    | split
    | dsimp only

theorem foot_canTakeSet {m : Nat} {z t : State} (hs : 0x72280100a4ea4f88 ||| m = m) (h : Foot m z t) (a0 : _) (a1 : _) (a2 : _) :
    Foot m z (State.canTakeSet a0 a1 a2 t) := by
  refine Foot.step (m := 0x72280100a4ea4f88) ?_ hs h
  clear h hs
  have h := Foot.refl 0x72280100a4ea4f88 t
  unfold State.canTakeSet
  repeat' first
    | with_reducible assumption
    | (intro x; first | (refine Foot.cut (P := Foot 0x72280100a4ea4f88 t x) ?_ ?_; rotate_left; subst x; rotate_left; intro hx; clear_value x) | clear_value x | skip)
    | lift_lets
    | with_reducible refine foot_modCan rfl ?_ ..
    | with_reducible refine foot_canRxEvent rfl ?_ ..
    | with_reducible refine foot_setWords rfl ?_ ..
    | with_reducible apply Foot.ite
    | split
    | dsimp only

theorem foot_canTakeFifo {m : Nat} {z t : State} (hs : 0x72280100a4ea4f88 ||| m = m) (h : Foot m z t) (a0 : _) (a1 : _) (a2 : _) :
    Foot m z (State.canTakeFifo a0 a1 a2 t) := by
  refine Foot.step (m := 0x72280100a4ea4f88) ?_ hs h
  clear h hs
  have h := Foot.refl 0x72280100a4ea4f88 t
  unfold State.canTakeFifo
  repeat' first
    | with_reducible assumption
    | (intro x; first | (refine Foot.cut (P := Foot 0x72280100a4ea4f88 t x) ?_ ?_; rotate_left; subst x; rotate_left; intro hx; clear_value x) | clear_value x | skip)
    | lift_lets
    | with_reducible refine foot_modCan rfl ?_ ..
    | with_reducible refine foot_ifFitted rfl (fun _ _ => ?_) ?_ ..
    | with_reducible refine foot_canRxEvent rfl ?_ ..
    | with_reducible refine foot_setWords rfl ?_ ..
    | with_reducible refine foot_hwEvent rfl ?_ ..
    | with_reducible refine foot_setFld (blk_CAN_FIFOPTR_FIFO_OVF ..) rfl ?_ ..
    | with_reducible refine foot_setFld (blk_CAN_FIFOPTR_WR ..) rfl ?_ ..
    | with_reducible refine foot_setFld (blk_CAN_FIFOPTR_FULL ..) rfl ?_ ..
    | with_reducible refine foot_setFlag (blk_CAN_FIFOPTR_FIFO_OVF ..) rfl ?_ ..
    | with_reducible refine foot_setFlag (blk_CAN_FIFOPTR_WR ..) rfl ?_ ..
    | with_reducible refine foot_setFlag (blk_CAN_FIFOPTR_FULL ..) rfl ?_ ..
    | with_reducible apply Foot.ite
    | split
    | dsimp only

theorem foot_canTakeHp {m : Nat} {z t : State} (hs : 0x72280100a4ea4f80 ||| m = m) (h : Foot m z t) (a0 : _) (a1 : _) (a2 : _) :
    Foot m z (State.canTakeHp a0 a1 a2 t) := by
  refine Foot.step (m := 0x72280100a4ea4f80) ?_ hs h
  clear h hs
  have h := Foot.refl 0x72280100a4ea4f80 t
  unfold State.canTakeHp
  repeat' first
    | with_reducible assumption
    | (intro x; first | (refine Foot.cut (P := Foot 0x72280100a4ea4f80 t x) ?_ ?_; rotate_left; subst x; rotate_left; intro hx; clear_value x) | clear_value x | skip)
    | lift_lets
    | with_reducible refine foot_modCan rfl ?_ ..
    | with_reducible refine foot_hpShow rfl ?_ ..
    | with_reducible refine foot_canRxEvent rfl ?_ ..
    | with_reducible refine foot_hwEvent rfl ?_ ..
    | with_reducible refine foot_setFlag (blk_CAN_HPSTAT_HP_OVF ..) rfl ?_ ..
    | with_reducible apply Foot.ite
    | split
    | dsimp only

theorem foot_abdFrame {m : Nat} {z t : State} (hs : 0x72280100a4ea4f80 ||| m = m) (h : Foot m z t) (a0 : _) :
    Foot m z (State.abdFrame a0 t) := by
  refine Foot.step (m := 0x72280100a4ea4f80) ?_ hs h
  clear h hs
  have h := Foot.refl 0x72280100a4ea4f80 t
  unfold State.abdFrame
  repeat' first
    | with_reducible assumption
    | (intro x; first | (refine Foot.cut (P := Foot 0x72280100a4ea4f80 t x) ?_ ?_; rotate_left; subst x; rotate_left; intro hx; clear_value x) | clear_value x | skip)
    | lift_lets
    | with_reducible refine foot_modCan rfl ?_ ..
    | with_reducible refine foot_hwEvent rfl ?_ ..
    | with_reducible refine foot_setFld (blk_CAN_NBT_BRP ..) rfl ?_ ..
    | with_reducible refine foot_setFld (blk_CAN_DBT_BRP ..) rfl ?_ ..
    | with_reducible refine foot_setFld (blk_ABD_STAT_DONE ..) rfl ?_ ..
    | with_reducible refine foot_setFld (blk_CAN_CTRL_OPMODE ..) rfl ?_ ..
    | with_reducible refine foot_setFlag (blk_CAN_NBT_BRP ..) rfl ?_ ..
    | with_reducible refine foot_setFlag (blk_CAN_DBT_BRP ..) rfl ?_ ..
    | with_reducible refine foot_setFlag (blk_ABD_STAT_DONE ..) rfl ?_ ..
    | with_reducible refine foot_setFlag (blk_CAN_CTRL_OPMODE ..) rfl ?_ ..
    | with_reducible refine foot_setRegB (blk_CAN_NBT_BRP ..) rfl ?_ ..
    | with_reducible refine foot_setRegB (blk_CAN_DBT_BRP ..) rfl ?_ ..
    | with_reducible refine foot_setRegB (blk_ABD_STAT_DONE ..) rfl ?_ ..
    | with_reducible refine foot_setRegB (blk_CAN_CTRL_OPMODE ..) rfl ?_ ..
    | with_reducible apply Foot.ite
    | split
    | dsimp only

theorem foot_execCanFrameReceive {m : Nat} {z t : State} (hs : 0x72280100a4ea4f88 ||| m = m) (h : Foot m z t) (a0 : _) (a1 : _) :
    OutFoot m z (execCanFrameReceive a0 a1 t) := by
  refine OutFoot.step (m := 0x72280100a4ea4f88) ?_ hs h
  clear h hs
  have h := Foot.refl 0x72280100a4ea4f88 t
  unfold execCanFrameReceive
  repeat' first
    | with_reducible assumption
    | (intro x; first | (refine Foot.cut (P := Foot 0x72280100a4ea4f88 t x) ?_ ?_; rotate_left; subst x; rotate_left; intro hx; clear_value x) | clear_value x | skip)
    | lift_lets
    | with_reducible refine foot_canTakeHp rfl ?_ ..
    | with_reducible refine foot_canTakeFifo rfl ?_ ..
    | with_reducible refine foot_abdFrame rfl ?_ ..
    | with_reducible refine foot_canTakeSet rfl ?_ ..
    | with_reducible refine foot_setFld (blk_CAN_STAT_REC ..) rfl ?_ ..
    | with_reducible refine foot_setFld (blk_CAN_STAT_STATE ..) rfl ?_ ..
    | with_reducible refine foot_setFld (blk_CAN_CNT_NOMATCH ..) rfl ?_ ..
    | with_reducible refine foot_incSat (blk_CAN_STAT_REC ..) rfl ?_ ..
    | with_reducible refine foot_incSat (blk_CAN_STAT_STATE ..) rfl ?_ ..
    | with_reducible refine foot_incSat (blk_CAN_CNT_NOMATCH ..) rfl ?_ ..
    | with_reducible apply Foot.ite
    | with_reducible apply OutFoot.ite
    | with_reducible refine OutFoot.next ?_
    | split
    | dsimp only

theorem foot_hpstatWrite {m : Nat} {z t : State} (hs : 0x200000080000000 ||| m = m) (h : Foot m z t) (a0 : _) (a1 : _) :
    Foot m z (State.hpstatWrite a0 a1 t) := by
  refine Foot.step (m := 0x200000080000000) ?_ hs h
  clear h hs
  have h := Foot.refl 0x200000080000000 t
  unfold State.hpstatWrite
  repeat' first
    | with_reducible assumption
    | (intro x; first | (refine Foot.cut (P := Foot 0x200000080000000 t x) ?_ ?_; rotate_left; subst x; rotate_left; intro hx; clear_value x) | clear_value x | skip)
    | lift_lets
    | with_reducible refine foot_modCan rfl ?_ ..
    | with_reducible refine foot_hpShow rfl ?_ ..
    | with_reducible refine foot_plainWrite (blk_CAN_HPSTAT_EN ..) rfl ?_ ..
    | with_reducible apply Foot.ite
    | split
    | dsimp only

theorem foot_execPop {m : Nat} {z t : State} (hs : 0x200000080000000 ||| m = m) (h : Foot m z t) (a0 : _) (a1 : _) (a2 : _) :
    OutFoot m z (execPop a0 a1 a2 t) := by
  refine OutFoot.step (m := 0x200000080000000) ?_ hs h
  clear h hs
  have h := Foot.refl 0x200000080000000 t
  unfold execPop
  repeat' first
    | with_reducible assumption
    | (intro x; first | clear_value x | skip)
    | lift_lets
    | with_reducible refine foot_hpstatWrite rfl ?_ ..
    | with_reducible refine OutFoot.next ?_
    | split
    | dsimp only

theorem foot_fifoPtrWrite {m : Nat} {z t : State} (hs : 0x200000000000000 ||| m = m) (h : Foot m z t) (a0 : _) (a1 : _) :
    Foot m z (State.fifoPtrWrite a0 a1 t) := by
  refine Foot.step (m := 0x200000000000000) ?_ hs h
  clear h hs
  have h := Foot.refl 0x200000000000000 t
  unfold State.fifoPtrWrite
  repeat' first
    | with_reducible assumption
    | (intro x; first | (refine Foot.cut (P := Foot 0x200000000000000 t x) ?_ ?_; rotate_left; subst x; rotate_left; intro hx; clear_value x) | clear_value x | skip)
    | lift_lets
    | with_reducible refine foot_setFlag (blk_CAN_FIFOPTR_RD ..) rfl ?_ ..
    | with_reducible refine foot_setFlag (blk_CAN_FIFOPTR_FULL ..) rfl ?_ ..
    | with_reducible refine foot_plainWrite (blk_CAN_FIFOPTR_RD ..) rfl ?_ ..
    | with_reducible refine foot_plainWrite (blk_CAN_FIFOPTR_FULL ..) rfl ?_ ..
    | with_reducible apply Foot.ite
    | split
    | dsimp only

theorem foot_execFifoRdWrite {m : Nat} {z t : State} (hs : 0x200000000000000 ||| m = m) (h : Foot m z t) (a0 : _) (a1 : _) (a2 : _) :
    OutFoot m z (execFifoRdWrite a0 a1 a2 t) := by
  refine OutFoot.step (m := 0x200000000000000) ?_ hs h
  clear h hs
  have h := Foot.refl 0x200000000000000 t
  unfold execFifoRdWrite
  repeat' first
    | with_reducible assumption
    | (intro x; first | clear_value x | skip)
    | lift_lets
    | with_reducible refine foot_fifoPtrWrite rfl ?_ ..
    | with_reducible refine OutFoot.next ?_
    | split
    | dsimp only

theorem foot_canErrState {m : Nat} {z t : State} (hs : 0x72280100a4ea4f80 ||| m = m) (h : Foot m z t) (a0 : _) :
    Foot m z (State.canErrState a0 t) := by
  refine Foot.step (m := 0x72280100a4ea4f80) ?_ hs h
  clear h hs
  have h := Foot.refl 0x72280100a4ea4f80 t
  unfold State.canErrState
  repeat' first
    | with_reducible assumption
    | (intro x; first | (refine Foot.cut (P := Foot 0x72280100a4ea4f80 t x) ?_ ?_; rotate_left; subst x; rotate_left; intro hx; clear_value x) | clear_value x | skip)
    | lift_lets
    | with_reducible refine foot_modCan rfl ?_ ..
    | with_reducible refine foot_canDiscard rfl ?_ ..
    | with_reducible refine foot_raise rfl ?_ ..
    | with_reducible refine foot_setFld (blk_CAN_STAT_STATE ..) rfl ?_ ..
    | with_reducible refine foot_setFld (blk_CAN_CNT_BUSOFF_CNT ..) rfl ?_ ..
    | with_reducible refine foot_incSat (blk_CAN_STAT_STATE ..) rfl ?_ ..
    | with_reducible refine foot_incSat (blk_CAN_CNT_BUSOFF_CNT ..) rfl ?_ ..
    | with_reducible apply Foot.ite
    | split
    | dsimp only

theorem foot_canDone {m : Nat} {z t : State} (hs : 0x200000080000000 ||| m = m) (h : Foot m z t) (a0 : _) (a1 : _) :
    Foot m z (State.canDone a0 a1 t) := by
  refine Foot.step (m := 0x200000080000000) ?_ hs h
  clear h hs
  have h := Foot.refl 0x200000080000000 t
  unfold State.canDone
  repeat' first
    | with_reducible assumption
    | (intro x; first | clear_value x | skip)
    | lift_lets
    | with_reducible refine foot_modCan rfl ?_ ..
    | with_reducible refine foot_setFlag (blk_OBJ_STAT_TXREQ ..) rfl ?_ ..
    | split
    | dsimp only

theorem foot_canTxErr {m : Nat} {z t : State} (hs : 0x200000000000000 ||| m = m) (h : Foot m z t) (a0 : _) (a1 : _) :
    Foot m z (State.canTxErr a0 a1 t) := by
  refine Foot.step (m := 0x200000000000000) ?_ hs h
  clear h hs
  have h := Foot.refl 0x200000000000000 t
  unfold State.canTxErr
  repeat' first
    | with_reducible assumption
    | (intro x; first | (refine Foot.cut (P := Foot 0x200000000000000 t x) ?_ ?_; rotate_left; subst x; rotate_left; intro hx; clear_value x) | clear_value x | skip)
    | lift_lets
    | with_reducible refine foot_setFld (blk_CAN_STAT_LEC ..) rfl ?_ ..
    | with_reducible refine foot_setFld (blk_CAN_STAT_TEC ..) rfl ?_ ..
    | with_reducible apply Foot.ite
    | split
    | dsimp only

theorem foot_canColl {m : Nat} {z t : State} (hs : 0x72280100a4ea4f80 ||| m = m) (h : Foot m z t) (a0 : _) (a1 : _) :
    Foot m z (State.canColl a0 a1 t) := by
  refine Foot.step (m := 0x72280100a4ea4f80) ?_ hs h
  clear h hs
  have h := Foot.refl 0x72280100a4ea4f80 t
  unfold State.canColl
  repeat' first
    | with_reducible assumption
    | (intro x; first | (refine Foot.cut (P := Foot 0x72280100a4ea4f80 t x) ?_ ?_; rotate_left; subst x; rotate_left; intro hx; clear_value x) | clear_value x | skip)
    | lift_lets
    | with_reducible refine foot_modCan rfl ?_ ..
    | with_reducible refine foot_canDone rfl ?_ ..
    | with_reducible refine foot_raise rfl ?_ ..
    | with_reducible refine foot_setFlag (blk_OBJ_STAT_COLL ..) rfl ?_ ..
    | with_reducible refine foot_setFlag (blk_OBJ_STAT_COLLISION ..) rfl ?_ ..
    | with_reducible refine foot_incSat (blk_OBJ_STAT_COLL ..) rfl ?_ ..
    | with_reducible refine foot_incSat (blk_OBJ_STAT_COLLISION ..) rfl ?_ ..
    | with_reducible apply Foot.ite
    | split
    | dsimp only

theorem foot_execCanTxComplete {m : Nat} {z t : State} (hs : 0x72280120a4ea4f80 ||| m = m) (h : Foot m z t) (a0 : _) (a1 : _) :
    OutFoot m z (execCanTxComplete a0 a1 t) := by
  refine OutFoot.step (m := 0x72280120a4ea4f80) ?_ hs h
  clear h hs
  have h := Foot.refl 0x72280120a4ea4f80 t
  unfold execCanTxComplete
  repeat' first
    | with_reducible assumption
    | (intro x; first | clear_value x | skip)
    | lift_lets
    | with_reducible refine foot_canErrState rfl ?_ ..
    | with_reducible refine foot_canWant rfl ?_ ..
    | with_reducible refine foot_modCan rfl ?_ ..
    | with_reducible refine foot_canOffer rfl ?_ ..
    | with_reducible refine foot_canTxErr rfl ?_ ..
    | with_reducible refine foot_canDone rfl ?_ ..
    | with_reducible refine foot_canColl rfl ?_ ..
    | with_reducible refine foot_setFld (blk_OBJ_STAT_TXCODE ..) rfl ?_ ..
    | with_reducible refine foot_setFld (blk_OBJ_STAT_COLL ..) rfl ?_ ..
    | with_reducible refine foot_setFld (blk_CAN_STAT_TEC ..) rfl ?_ ..
    | with_reducible apply Foot.ite
    | with_reducible refine OutFoot.next ?_
    | split
    | dsimp only

theorem foot_execCanBusError {m : Nat} {z t : State} (hs : 0x72280100a4ea4f80 ||| m = m) (h : Foot m z t) (a0 : _) (a1 : _) (a2 : _) :
    OutFoot m z (execCanBusError a0 a1 a2 t) := by
  refine OutFoot.step (m := 0x72280100a4ea4f80) ?_ hs h
  clear h hs
  have h := Foot.refl 0x72280100a4ea4f80 t
  unfold execCanBusError
  repeat' first
    | with_reducible assumption
    | (intro x; first | (refine Foot.cut (P := Foot 0x72280100a4ea4f80 t x) ?_ ?_; rotate_left; subst x; rotate_left; intro hx; clear_value x) | clear_value x | skip)
    | lift_lets
    | with_reducible refine foot_canErrState rfl ?_ ..
    | with_reducible refine foot_abdFrom rfl ?_ ..
    | with_reducible refine foot_setFld (blk_CAN_STAT_STATE ..) rfl ?_ ..
    | with_reducible refine foot_setFld (blk_CAN_STAT_LEC ..) rfl ?_ ..
    | with_reducible refine foot_setFld (blk_CAN_STAT_REC ..) rfl ?_ ..
    | with_reducible apply Foot.ite
    | with_reducible refine OutFoot.next ?_
    | split
    | dsimp only

theorem foot_canCmd {m : Nat} {z t : State} (hs : 0x200000080000000 ||| m = m) (h : Foot m z t) (a0 : _) (a1 : _) (a2 : _) :
    Foot m z (State.canCmd a0 a1 a2 t) := by
  refine Foot.step (m := 0x200000080000000) ?_ hs h
  clear h hs
  have h := Foot.refl 0x200000080000000 t
  unfold State.canCmd
  repeat' first
    | with_reducible assumption
    | (intro x; first
        | (refine Foot.cut (P := Foot 0x200000080000000 t x) ?_ ?_; rotate_left; subst x; rotate_left; intro hx; clear_value x)
        | (refine Foot.cut (P := PairFoot 0x200000080000000 t x) ?_ ?_; rotate_left; subst x; rotate_left; intro hx; clear_value x)
        | (refine Foot.cut (P := OptFoot 0x200000080000000 t x) ?_ ?_; rotate_left; subst x; rotate_left; intro hx; clear_value x)
        | (have hf := fun a => x a; clear hf; subst x)
        | (have hf := x.programmed; clear hf)
        | clear_value x
        | skip)
    | lift_lets
    | with_reducible refine foot_canWantMode rfl ?_ ..
    | with_reducible refine foot_modCan rfl ?_ ..
    | with_reducible refine foot_abdFrom rfl ?_ ..
    | with_reducible refine foot_setFld (blk_CAN_HPSTAT_RESULT ..) rfl ?_ ..
    | with_reducible refine foot_setFld (blk_CAN_STAT_STATE ..) rfl ?_ ..
    | with_reducible refine foot_setFld (blk_CANSUP_CNT_COUNT ..) rfl ?_ ..
    | with_reducible refine foot_setFld (blk_ABD_STAT_DONE ..) rfl ?_ ..
    | with_reducible refine foot_setFlag (blk_CAN_HPSTAT_RESULT ..) rfl ?_ ..
    | with_reducible refine foot_setFlag (blk_CAN_STAT_STATE ..) rfl ?_ ..
    | with_reducible refine foot_setFlag (blk_CANSUP_CNT_COUNT ..) rfl ?_ ..
    | with_reducible refine foot_setFlag (blk_ABD_STAT_DONE ..) rfl ?_ ..
    | with_reducible refine Foot.foldl (fun _ _ _ => ?_) ?_
    | with_reducible refine PairFoot.foldl (fun _ _ _ => ?_) ?_
    | with_reducible apply Foot.ite
    | with_reducible apply PairFoot.ite
    | with_reducible apply OptFoot.ite
    | with_reducible apply OutFoot.ite
    | with_reducible apply ExFoot.ite
    | with_reducible exact ExFoot.error
    | with_reducible refine ExFoot.ok ?_
    | with_reducible refine PairFoot.forL (fun _ _ _ => ?_) ?_
    | with_reducible refine PairFoot.forN (fun _ _ _ => ?_) ?_
    | with_reducible refine OptFoot.some ?_
    | with_reducible exact OptFoot.none
    | with_reducible refine OutFoot.next ?_
    | with_reducible refine OptFoot.getD ?_ ?_
    | with_reducible refine PairFoot.snd ?_
    | with_reducible exact PairFoot.out (by assumption)
    | with_reducible refine PairFoot.eq (by assumption) ?_
    | with_reducible refine OptFoot.eq (by assumption) ?_
    | with_reducible refine ExFoot.eq (by assumption) ?_
    | ((with_reducible refine Foot.lit ?_ rfl rfl ?_ ?_ ?_ ?_ ?_ ?_); rotate_left; rfl; rfl; rfl; rfl; (first | exact Nat.le_refl _ | exact Nat.le_succ _); (constructor <;> first | with_reducible exact Kept.same | exact Kept.masked rfl); (first | with_reducible assumption | with_reducible refine foot_canWantMode rfl ?_ .. | with_reducible refine foot_modCan rfl ?_ .. | with_reducible refine foot_abdFrom rfl ?_ .. | with_reducible refine foot_setFld (blk_CAN_HPSTAT_RESULT ..) rfl ?_ .. | with_reducible refine foot_setFld (blk_CAN_STAT_STATE ..) rfl ?_ .. | with_reducible refine foot_setFld (blk_CANSUP_CNT_COUNT ..) rfl ?_ .. | with_reducible refine foot_setFld (blk_ABD_STAT_DONE ..) rfl ?_ .. | with_reducible refine foot_setFlag (blk_CAN_HPSTAT_RESULT ..) rfl ?_ .. | with_reducible refine foot_setFlag (blk_CAN_STAT_STATE ..) rfl ?_ .. | with_reducible refine foot_setFlag (blk_CANSUP_CNT_COUNT ..) rfl ?_ .. | with_reducible refine foot_setFlag (blk_ABD_STAT_DONE ..) rfl ?_ .. | with_reducible refine Foot.foldl (fun _ _ _ => ?_) ?_ | with_reducible refine PairFoot.foldl (fun _ _ _ => ?_) ?_ | with_reducible apply Foot.ite | with_reducible apply PairFoot.ite | with_reducible apply OptFoot.ite | with_reducible apply OutFoot.ite | with_reducible apply ExFoot.ite | with_reducible exact ExFoot.error | with_reducible refine ExFoot.ok ?_ | with_reducible refine PairFoot.forL (fun _ _ _ => ?_) ?_ | with_reducible refine PairFoot.forN (fun _ _ _ => ?_) ?_ | with_reducible refine OptFoot.some ?_ | with_reducible exact OptFoot.none | with_reducible refine OutFoot.next ?_ | with_reducible refine OptFoot.getD ?_ ?_ | with_reducible refine PairFoot.snd ?_))
    | split
    | with_reducible refine PairFoot.mk ?_
    | dsimp only

theorem foot_execBor {m : Nat} {z t : State} (hs : 0x200000080000000 ||| m = m) (h : Foot m z t) (a0 : _) (a1 : _) (a2 : _) :
    OutFoot m z (execBor a0 a1 a2 t) := by
  refine OutFoot.step (m := 0x200000080000000) ?_ hs h
  clear h hs
  have h := Foot.refl 0x200000080000000 t
  unfold execBor
  repeat' first
    | with_reducible assumption
    | (intro x; first | clear_value x | skip)
    | lift_lets
    | with_reducible refine foot_canCmd rfl ?_ ..
    | with_reducible refine OutFoot.next ?_
    | split
    | dsimp only

theorem foot_execAbdStart {m : Nat} {z t : State} (hs : 0x200000080000000 ||| m = m) (h : Foot m z t) (a0 : _) (a1 : _) (a2 : _) :
    OutFoot m z (execAbdStart a0 a1 a2 t) := by
  refine OutFoot.step (m := 0x200000080000000) ?_ hs h
  clear h hs
  have h := Foot.refl 0x200000080000000 t
  unfold execAbdStart
  repeat' first
    | with_reducible assumption
    | (intro x; first | clear_value x | skip)
    | lift_lets
    | with_reducible refine foot_canCmd rfl ?_ ..
    | with_reducible refine OutFoot.next ?_
    | split
    | dsimp only

theorem foot_execAbdStop {m : Nat} {z t : State} (hs : 0x200000080000000 ||| m = m) (h : Foot m z t) (a0 : _) (a1 : _) (a2 : _) :
    OutFoot m z (execAbdStop a0 a1 a2 t) := by
  refine OutFoot.step (m := 0x200000080000000) ?_ hs h
  clear h hs
  have h := Foot.refl 0x200000080000000 t
  unfold execAbdStop
  repeat' first
    | with_reducible assumption
    | (intro x; first | clear_value x | skip)
    | lift_lets
    | with_reducible refine foot_canCmd rfl ?_ ..
    | with_reducible refine OutFoot.next ?_
    | split
    | dsimp only

theorem foot_execAbdTimeout {m : Nat} {z t : State} (hs : 0x200000080000000 ||| m = m) (h : Foot m z t) (a0 : _) :
    OutFoot m z (execAbdTimeout a0 t) := by
  refine OutFoot.step (m := 0x200000080000000) ?_ hs h
  clear h hs
  have h := Foot.refl 0x200000080000000 t
  unfold execAbdTimeout
  repeat' first
    | with_reducible assumption
    | (intro x; first | clear_value x | skip)
    | lift_lets
    | with_reducible refine foot_abdFrom rfl ?_ ..
    | with_reducible apply Foot.ite
    | with_reducible refine OutFoot.next ?_
    | split
    | dsimp only

theorem foot_execBorComplete {m : Nat} {z t : State} (hs : 0x200002080000000 ||| m = m) (h : Foot m z t) (a0 : _) :
    OutFoot m z (execBorComplete a0 t) := by
  refine OutFoot.step (m := 0x200002080000000) ?_ hs h
  clear h hs
  have h := Foot.refl 0x200002080000000 t
  unfold execBorComplete
  repeat' first
    | with_reducible assumption
    | (intro x; first | clear_value x | skip)
    | lift_lets
    | with_reducible refine foot_canWant rfl ?_ ..
    | with_reducible refine foot_canOffer rfl ?_ ..
    | with_reducible refine foot_setFld (blk_CAN_STAT_REC ..) rfl ?_ ..
    | with_reducible refine foot_setFld (blk_CAN_STAT_TEC ..) rfl ?_ ..
    | with_reducible refine foot_setFld (blk_CAN_STAT_STATE ..) rfl ?_ ..
    | with_reducible apply Foot.ite
    | with_reducible refine OutFoot.next ?_
    | split
    | dsimp only

theorem foot_execCansupRecovery {m : Nat} {z t : State} (hs : 0x72280100a4ea4f80 ||| m = m) (h : Foot m z t) (a0 : _) :
    OutFoot m z (execCansupRecovery a0 t) := by
  refine OutFoot.step (m := 0x72280100a4ea4f80) ?_ hs h
  clear h hs
  have h := Foot.refl 0x72280100a4ea4f80 t
  unfold execCansupRecovery
  repeat' first
    | with_reducible assumption
    | (intro x; first | clear_value x | skip)
    | lift_lets
    | with_reducible refine foot_modCan rfl ?_ ..
    | with_reducible refine foot_raise rfl ?_ ..
    | with_reducible refine foot_setFld (blk_CANSUP_CNT_COUNT ..) rfl ?_ ..
    | with_reducible refine foot_setFld (blk_CAN_STAT_STATE ..) rfl ?_ ..
    | with_reducible refine foot_setFld (blk_CANSUP_STAT_BUDGET_OUT ..) rfl ?_ ..
    | with_reducible refine foot_incSat (blk_CANSUP_CNT_COUNT ..) rfl ?_ ..
    | with_reducible refine foot_incSat (blk_CAN_STAT_STATE ..) rfl ?_ ..
    | with_reducible refine foot_incSat (blk_CANSUP_STAT_BUDGET_OUT ..) rfl ?_ ..
    | with_reducible refine foot_setFbit (blk_CANSUP_CNT_COUNT ..) rfl ?_ ..
    | with_reducible refine foot_setFbit (blk_CAN_STAT_STATE ..) rfl ?_ ..
    | with_reducible refine foot_setFbit (blk_CANSUP_STAT_BUDGET_OUT ..) rfl ?_ ..
    | with_reducible apply Foot.ite
    | with_reducible refine OutFoot.next ?_
    | split
    | dsimp only

end Sys2Proof.Machine
end

