-- ==== Sys2Proof/Laws/FootIlm.lean ====
section
/-!
SUPPORT. Footprints of the operations of Machine/Ilm.lean.
-/

set_option Elab.async false

set_option linter.all false

set_option maxRecDepth 4000

namespace Sys2Proof.Machine

theorem foot_onDie {m : Nat} {z t : State} (hs : 0x0 ||| m = m) {a1 : _} (hf : ∀ t, Foot m z t → Foot m z (a1 t)) (h : Foot m z t) (a0 : _) :
    Foot m z (State.onDie a0 a1 t) := by
  unfold State.onDie
  repeat' first
    | with_reducible refine hf _ ?_
    | with_reducible assumption
    | with_reducible apply Foot.ite
    | dsimp only

theorem foot_padTake {m : Nat} {z t : State} (hs : 0x2000000004200000 ||| m = m) (h : Foot m z t) (a0 : _) :
    Foot m z (State.padTake a0 t) := by
  refine Foot.step (m := 0x2000000004200000) ?_ hs h
  clear h hs
  have h := Foot.refl 0x2000000004200000 t
  unfold State.padTake
  repeat' first
    | with_reducible assumption
    | (intro x; first
        | (refine Foot.cut (P := Foot 0x2000000004200000 t x) ?_ ?_; rotate_left; subst x; rotate_left; intro hx; clear_value x)
        | (refine Foot.cut (P := PairFoot 0x2000000004200000 t x) ?_ ?_; rotate_left; subst x; rotate_left; intro hx; clear_value x)
        | (refine Foot.cut (P := OptFoot 0x2000000004200000 t x) ?_ ?_; rotate_left; subst x; rotate_left; intro hx; clear_value x)
        | (have hf := x.programmed; clear hf)
        | clear_value x
        | skip)
    | lift_lets
    | with_reducible refine foot_modChan rfl ?_ ..
    | with_reducible refine foot_genAdvance rfl ?_ ..
    | with_reducible refine foot_setAct rfl ?_ ..
    | with_reducible refine Foot.foldl (fun _ _ _ => ?_) ?_
    | with_reducible refine PairFoot.foldl (fun _ _ _ => ?_) ?_
    | with_reducible apply Foot.ite
    | with_reducible apply PairFoot.ite
    | with_reducible apply OptFoot.ite
    | with_reducible apply OutFoot.ite
    | with_reducible apply ExFoot.ite
    | with_reducible exact ExFoot.error
    | with_reducible refine ExFoot.ok ?_
    | with_reducible refine PairFoot.forL (fun _ _ _ => ?_) ?_
    | with_reducible refine PairFoot.forN (fun _ _ _ => ?_) ?_
    | with_reducible refine OptFoot.some ?_
    | with_reducible exact OptFoot.none
    | with_reducible refine OutFoot.next ?_
    | with_reducible refine OptFoot.getD ?_ ?_
    | with_reducible refine PairFoot.snd ?_
    | with_reducible exact PairFoot.out (by assumption)
    | with_reducible refine PairFoot.eq (by assumption) ?_
    | with_reducible refine OptFoot.eq (by assumption) ?_
    | with_reducible refine ExFoot.eq (by assumption) ?_
    | ((with_reducible refine Foot.lit ?_ rfl rfl ?_ ?_ ?_ ?_ ?_ ?_); rotate_left; rfl; rfl; rfl; rfl; (first | exact Nat.le_refl _ | exact Nat.le_succ _); (constructor <;> first | with_reducible exact Kept.same | exact Kept.masked rfl); (first | with_reducible assumption | with_reducible refine foot_modChan rfl ?_ .. | with_reducible refine foot_genAdvance rfl ?_ .. | with_reducible refine foot_setAct rfl ?_ .. | with_reducible refine Foot.foldl (fun _ _ _ => ?_) ?_ | with_reducible refine PairFoot.foldl (fun _ _ _ => ?_) ?_ | with_reducible apply Foot.ite | with_reducible apply PairFoot.ite | with_reducible apply OptFoot.ite | with_reducible apply OutFoot.ite | with_reducible apply ExFoot.ite | with_reducible exact ExFoot.error | with_reducible refine ExFoot.ok ?_ | with_reducible refine PairFoot.forL (fun _ _ _ => ?_) ?_ | with_reducible refine PairFoot.forN (fun _ _ _ => ?_) ?_ | with_reducible refine OptFoot.some ?_ | with_reducible exact OptFoot.none | with_reducible refine OutFoot.next ?_ | with_reducible refine OptFoot.getD ?_ ?_ | with_reducible refine PairFoot.snd ?_))
    | split
    | with_reducible refine PairFoot.mk ?_
    | dsimp only

theorem foot_motIlm {m : Nat} {z t : State} (hs : 0x30080000042a0000 ||| m = m) (h : Foot m z t) (a0 : _) :
    Foot m z (State.motIlm a0 t) := by
  refine Foot.step (m := 0x30080000042a0000) ?_ hs h
  clear h hs
  have h := Foot.refl 0x30080000042a0000 t
  unfold State.motIlm
  repeat' first
    | with_reducible assumption
    | (intro x; first | clear_value x | skip)
    | lift_lets
    | with_reducible refine foot_padTake rfl ?_ ..
    | with_reducible refine foot_axInhibit rfl ?_ ..
    | with_reducible refine foot_axRelease rfl ?_ ..
    | with_reducible apply Foot.ite
    | split
    | dsimp only

theorem foot_ilmRefresh {m : Nat} {z t : State} (hs : 0x1000002000000 ||| m = m) (h : Foot m z t) :
    Foot m z (State.ilmRefresh t) := by
  refine Foot.step (m := 0x1000002000000) ?_ hs h
  clear h hs
  have h := Foot.refl 0x1000002000000 t
  unfold State.ilmRefresh
  repeat' first
    | with_reducible assumption
    | (intro x; first | (refine Foot.cut (P := Foot 0x1000002000000 t x) ?_ ?_; rotate_left; subst x; rotate_left; intro hx; clear_value x) | clear_value x | skip)
    | lift_lets
    | with_reducible refine foot_setFld (blk_ILM_HELD_BITS ..) rfl ?_ ..
    | with_reducible refine Foot.forN (fun _ _ _ => ?_) ?_
    | ((with_reducible refine Foot.lit ?_ rfl rfl ?_ ?_ ?_ ?_ ?_ ?_); rotate_left; rfl; rfl; rfl; rfl; (first | exact Nat.le_refl _ | exact Nat.le_succ _); (constructor <;> first | with_reducible exact Kept.same | exact Kept.masked rfl); (first | with_reducible assumption | with_reducible refine foot_setFld (blk_ILM_HELD_BITS ..) rfl ?_ .. | with_reducible refine Foot.forN (fun _ _ _ => ?_) ?_))
    | split
    | dsimp only

theorem foot_ilmLatch {m : Nat} {z t : State} (hs : 0x1000002000000 ||| m = m) (h : Foot m z t) (a0 : _) (a1 : _) :
    Foot m z (State.ilmLatch a0 a1 t) := by
  refine Foot.step (m := 0x1000002000000) ?_ hs h
  clear h hs
  have h := Foot.refl 0x1000002000000 t
  unfold State.ilmLatch
  repeat' first
    | with_reducible assumption
    | (intro x; first | clear_value x | skip)
    | lift_lets
    | with_reducible refine foot_setFbit (blk_ILATLOC ..) rfl ?_ ..
    | ((with_reducible refine Foot.lit ?_ rfl rfl ?_ ?_ ?_ ?_ ?_ ?_); rotate_left; rfl; rfl; rfl; rfl; (first | exact Nat.le_refl _ | exact Nat.le_succ _); (constructor <;> first | with_reducible exact Kept.same | exact Kept.masked rfl); (first | with_reducible assumption | with_reducible refine foot_setFbit (blk_ILATLOC ..) rfl ?_ ..))
    | split
    | dsimp only

theorem foot_ilmEval {m : Nat} {z t : State} (hs : 0x72290100a6ea4f80 ||| m = m) (h : Foot m z t) :
    Foot m z (State.ilmEval t) := by
  refine Foot.step (m := 0x72290100a6ea4f80) ?_ hs h
  clear h hs
  have h := Foot.refl 0x72290100a6ea4f80 t
  unfold State.ilmEval
  repeat' first
    | with_reducible assumption
    | (intro x; first | (refine Foot.cut (P := Foot 0x72290100a6ea4f80 t x) ?_ ?_; rotate_left; subst x; rotate_left; intro hx; clear_value x) | clear_value x | skip)
    | lift_lets
    | with_reducible refine foot_ilmLatch rfl ?_ ..
    | with_reducible refine foot_hwEvent rfl ?_ ..
    | with_reducible refine foot_ilmRefresh rfl ?_ ..
    | with_reducible refine foot_setFbit (blk_ILM_TRUE_BITS ..) rfl ?_ ..
    | with_reducible refine Foot.forL (fun _ _ _ => ?_) ?_
    | with_reducible apply Foot.ite
    | split
    | dsimp only

theorem foot_trip {m : Nat} {z t : State} (hs : 0x72290100a6ea4f80 ||| m = m) (h : Foot m z t) (a0 : _) (a1 : _) :
    Foot m z (State.trip a0 a1 t) := by
  refine Foot.step (m := 0x72290100a6ea4f80) ?_ hs h
  clear h hs
  have h := Foot.refl 0x72290100a6ea4f80 t
  unfold State.trip
  repeat' first
    | with_reducible assumption
    | (intro x; first
        | (refine Foot.cut (P := Foot 0x72290100a6ea4f80 t x) ?_ ?_; rotate_left; subst x; rotate_left; intro hx; clear_value x)
        | (refine Foot.cut (P := PairFoot 0x72290100a6ea4f80 t x) ?_ ?_; rotate_left; subst x; rotate_left; intro hx; clear_value x)
        | (refine Foot.cut (P := OptFoot 0x72290100a6ea4f80 t x) ?_ ?_; rotate_left; subst x; rotate_left; intro hx; clear_value x)
        | (have hf := x.programmed; clear hf)
        | clear_value x
        | skip)
    | lift_lets
    | with_reducible refine foot_ilmEval rfl ?_ ..
    | with_reducible refine foot_lockout rfl ?_ ..
    | with_reducible refine Foot.foldl (fun _ _ _ => ?_) ?_
    | with_reducible refine PairFoot.foldl (fun _ _ _ => ?_) ?_
    | with_reducible apply Foot.ite
    | with_reducible apply PairFoot.ite
    | with_reducible apply OptFoot.ite
    | with_reducible apply OutFoot.ite
    | with_reducible apply ExFoot.ite
    | with_reducible exact ExFoot.error
    | with_reducible refine ExFoot.ok ?_
    | with_reducible refine PairFoot.forL (fun _ _ _ => ?_) ?_
    | with_reducible refine PairFoot.forN (fun _ _ _ => ?_) ?_
    | with_reducible refine OptFoot.some ?_
    | with_reducible exact OptFoot.none
    | with_reducible refine OutFoot.next ?_
    | with_reducible refine OptFoot.getD ?_ ?_
    | with_reducible refine PairFoot.snd ?_
    | with_reducible exact PairFoot.out (by assumption)
    | with_reducible refine PairFoot.eq (by assumption) ?_
    | with_reducible refine OptFoot.eq (by assumption) ?_
    | with_reducible refine ExFoot.eq (by assumption) ?_
    | ((with_reducible refine Foot.lit ?_ rfl rfl ?_ ?_ ?_ ?_ ?_ ?_); rotate_left; rfl; rfl; rfl; rfl; (first | exact Nat.le_refl _ | exact Nat.le_succ _); (constructor <;> first | with_reducible exact Kept.same | exact Kept.masked rfl); (first | with_reducible assumption | with_reducible refine foot_ilmEval rfl ?_ .. | with_reducible refine foot_lockout rfl ?_ .. | with_reducible refine Foot.foldl (fun _ _ _ => ?_) ?_ | with_reducible refine PairFoot.foldl (fun _ _ _ => ?_) ?_ | with_reducible apply Foot.ite | with_reducible apply PairFoot.ite | with_reducible apply OptFoot.ite | with_reducible apply OutFoot.ite | with_reducible apply ExFoot.ite | with_reducible exact ExFoot.error | with_reducible refine ExFoot.ok ?_ | with_reducible refine PairFoot.forL (fun _ _ _ => ?_) ?_ | with_reducible refine PairFoot.forN (fun _ _ _ => ?_) ?_ | with_reducible refine OptFoot.some ?_ | with_reducible exact OptFoot.none | with_reducible refine OutFoot.next ?_ | with_reducible refine OptFoot.getD ?_ ?_ | with_reducible refine PairFoot.snd ?_))
    | split
    | with_reducible refine PairFoot.mk ?_
    | dsimp only

theorem foot_ilmResult {m : Nat} {z t : State} (hs : 0x1000000000000 ||| m = m) (h : Foot m z t) (a0 : _) :
    Foot m z (State.ilmResult a0 t) := by
  refine Foot.step (m := 0x1000000000000) ?_ hs h
  clear h hs
  have h := Foot.refl 0x1000000000000 t
  unfold State.ilmResult
  repeat' first
    | with_reducible assumption
    | (intro x; first | clear_value x | skip)
    | lift_lets
    | with_reducible refine foot_setFld (blk_ILM_STAT_RESULT ..) rfl ?_ ..
    | split
    | dsimp only

theorem foot_ilmPlaced {m : Nat} {z t : State} (hs : 0x1000000000000 ||| m = m) (h : Foot m z t) (a0 : _) (a1 : _) (a2 : _) :
    Foot m z (State.ilmPlaced a0 a1 a2 t) := by
  refine Foot.step (m := 0x1000000000000) ?_ hs h
  clear h hs
  have h := Foot.refl 0x1000000000000 t
  unfold State.ilmPlaced
  repeat' first
    | with_reducible assumption
    | (intro x; first | clear_value x | skip)
    | lift_lets
    | with_reducible refine foot_setFld (blk_ILM_LDSTAT_DEMOTED ..) rfl ?_ ..
    | with_reducible refine foot_setFld (blk_ILM_LDSTAT_GLOBAL ..) rfl ?_ ..
    | with_reducible refine foot_setFld (blk_ILM_LDSTAT_SET ..) rfl ?_ ..
    | split
    | dsimp only

theorem foot_ilmLoad {m : Nat} {z t : State} (hs : 0x1000002000000 ||| m = m) (h : Foot m z t) (a0 : _) :
    Foot m z (State.ilmLoad a0 t) := by
  refine Foot.step (m := 0x1000002000000) ?_ hs h
  clear h hs
  have h := Foot.refl 0x1000002000000 t
  unfold State.ilmLoad
  repeat' first
    | with_reducible assumption
    | (intro x; first | (refine Foot.cut (P := Foot 0x1000002000000 t x) ?_ ?_; rotate_left; subst x; rotate_left; intro hx; clear_value x) | clear_value x | skip)
    | lift_lets
    | with_reducible refine foot_ilmPlaced rfl ?_ ..
    | with_reducible refine foot_ilmResult rfl ?_ ..
    | with_reducible refine foot_setFld (blk_ILM_STAT_LOADED ..) rfl ?_ ..
    | with_reducible refine foot_setFld (blk_ILM_LDSTAT_SET ..) rfl ?_ ..
    | with_reducible refine foot_setFld (blk_ILM_ERR_TERM ..) rfl ?_ ..
    | with_reducible refine foot_setFld (blk_ILM_ERR_ERR ..) rfl ?_ ..
    | with_reducible refine foot_setFlag (blk_ILM_STAT_LOADED ..) rfl ?_ ..
    | with_reducible refine foot_setFlag (blk_ILM_LDSTAT_SET ..) rfl ?_ ..
    | with_reducible refine foot_setFlag (blk_ILM_ERR_TERM ..) rfl ?_ ..
    | with_reducible refine foot_setFlag (blk_ILM_ERR_ERR ..) rfl ?_ ..
    | with_reducible refine foot_setRegB (blk_ILM_STAT_LOADED ..) rfl ?_ ..
    | with_reducible refine foot_setRegB (blk_ILM_LDSTAT_SET ..) rfl ?_ ..
    | with_reducible refine foot_setRegB (blk_ILM_ERR_TERM ..) rfl ?_ ..
    | with_reducible refine foot_setRegB (blk_ILM_ERR_ERR ..) rfl ?_ ..
    | ((with_reducible refine Foot.lit ?_ rfl rfl ?_ ?_ ?_ ?_ ?_ ?_); rotate_left; rfl; rfl; rfl; rfl; (first | exact Nat.le_refl _ | exact Nat.le_succ _); (constructor <;> first | with_reducible exact Kept.same | exact Kept.masked rfl); (first | with_reducible assumption | with_reducible refine foot_ilmPlaced rfl ?_ .. | with_reducible refine foot_ilmResult rfl ?_ .. | with_reducible refine foot_setFld (blk_ILM_STAT_LOADED ..) rfl ?_ .. | with_reducible refine foot_setFld (blk_ILM_LDSTAT_SET ..) rfl ?_ .. | with_reducible refine foot_setFld (blk_ILM_ERR_TERM ..) rfl ?_ .. | with_reducible refine foot_setFld (blk_ILM_ERR_ERR ..) rfl ?_ .. | with_reducible refine foot_setFlag (blk_ILM_STAT_LOADED ..) rfl ?_ .. | with_reducible refine foot_setFlag (blk_ILM_LDSTAT_SET ..) rfl ?_ .. | with_reducible refine foot_setFlag (blk_ILM_ERR_TERM ..) rfl ?_ .. | with_reducible refine foot_setFlag (blk_ILM_ERR_ERR ..) rfl ?_ .. | with_reducible refine foot_setRegB (blk_ILM_STAT_LOADED ..) rfl ?_ .. | with_reducible refine foot_setRegB (blk_ILM_LDSTAT_SET ..) rfl ?_ .. | with_reducible refine foot_setRegB (blk_ILM_ERR_TERM ..) rfl ?_ .. | with_reducible refine foot_setRegB (blk_ILM_ERR_ERR ..) rfl ?_ ..))
    | split
    | dsimp only

theorem foot_ilmClear {m : Nat} {z t : State} (hs : 0x1000000000000 ||| m = m) (h : Foot m z t) (a0 : _) (a1 : _) :
    Foot m z (State.ilmClear a0 a1 t) := by
  refine Foot.step (m := 0x1000000000000) ?_ hs h
  clear h hs
  have h := Foot.refl 0x1000000000000 t
  unfold State.ilmClear
  repeat' first
    | with_reducible assumption
    | (intro x; first | clear_value x | skip)
    | lift_lets
    | with_reducible refine foot_setFbit (blk_ILATLOC ..) rfl ?_ ..
    | with_reducible apply Foot.ite
    | split
    | dsimp only

theorem foot_ilmCmd {m : Nat} {z t : State} (hs : 0x1000002000000 ||| m = m) (h : Foot m z t) (a0 : _) (a1 : _) :
    Foot m z (State.ilmCmd a0 a1 t) := by
  refine Foot.step (m := 0x1000002000000) ?_ hs h
  clear h hs
  have h := Foot.refl 0x1000002000000 t
  unfold State.ilmCmd
  repeat' first
    | with_reducible assumption
    | (intro x; first | clear_value x | skip)
    | lift_lets
    | with_reducible refine foot_ilmResult rfl ?_ ..
    | with_reducible refine foot_ilmClear rfl ?_ ..
    | with_reducible refine foot_ilmLoad rfl ?_ ..
    | with_reducible refine foot_ilmRefresh rfl ?_ ..
    | with_reducible refine foot_setFlag (blk_ILM_STAT_SWAP_PEND ..) rfl ?_ ..
    | with_reducible refine Foot.forN (fun _ _ _ => ?_) ?_
    | with_reducible apply Foot.ite
    | ((with_reducible refine Foot.lit ?_ rfl rfl ?_ ?_ ?_ ?_ ?_ ?_); rotate_left; rfl; rfl; rfl; rfl; (first | exact Nat.le_refl _ | exact Nat.le_succ _); (constructor <;> first | with_reducible exact Kept.same | exact Kept.masked rfl); (first | with_reducible assumption | with_reducible refine foot_ilmResult rfl ?_ .. | with_reducible refine foot_ilmClear rfl ?_ .. | with_reducible refine foot_ilmLoad rfl ?_ .. | with_reducible refine foot_ilmRefresh rfl ?_ .. | with_reducible refine foot_setFlag (blk_ILM_STAT_SWAP_PEND ..) rfl ?_ .. | with_reducible refine Foot.forN (fun _ _ _ => ?_) ?_ | with_reducible apply Foot.ite))
    | split
    | dsimp only

theorem foot_execLoad {m : Nat} {z t : State} (hs : 0x1000002000000 ||| m = m) (h : Foot m z t) (a0 : _) (a1 : _) :
    OutFoot m z (execLoad a0 a1 t) := by
  refine OutFoot.step (m := 0x1000002000000) ?_ hs h
  clear h hs
  have h := Foot.refl 0x1000002000000 t
  unfold execLoad
  repeat' first
    | with_reducible assumption
    | (intro x; first | clear_value x | skip)
    | lift_lets
    | with_reducible refine foot_ilmCmd rfl ?_ ..
    | with_reducible refine OutFoot.next ?_
    | split
    | dsimp only

theorem foot_execSwap {m : Nat} {z t : State} (hs : 0x1000002000000 ||| m = m) (h : Foot m z t) (a0 : _) (a1 : _) :
    OutFoot m z (execSwap a0 a1 t) := by
  refine OutFoot.step (m := 0x1000002000000) ?_ hs h
  clear h hs
  have h := Foot.refl 0x1000002000000 t
  unfold execSwap
  repeat' first
    | with_reducible assumption
    | (intro x; first | clear_value x | skip)
    | lift_lets
    | with_reducible refine foot_ilmCmd rfl ?_ ..
    | with_reducible refine OutFoot.next ?_
    | split
    | dsimp only

theorem foot_execClearLatch {m : Nat} {z t : State} (hs : 0x1000002000000 ||| m = m) (h : Foot m z t) (a0 : _) (a1 : _) :
    OutFoot m z (execClearLatch a0 a1 t) := by
  refine OutFoot.step (m := 0x1000002000000) ?_ hs h
  clear h hs
  have h := Foot.refl 0x1000002000000 t
  unfold execClearLatch
  repeat' first
    | with_reducible assumption
    | (intro x; first | clear_value x | skip)
    | lift_lets
    | with_reducible refine foot_ilmCmd rfl ?_ ..
    | with_reducible refine OutFoot.next ?_
    | split
    | dsimp only

theorem foot_execIlmClearAll {m : Nat} {z t : State} (hs : 0x1000002000000 ||| m = m) (h : Foot m z t) (a0 : _) (a1 : _) :
    OutFoot m z (execIlmClearAll a0 a1 t) := by
  refine OutFoot.step (m := 0x1000002000000) ?_ hs h
  clear h hs
  have h := Foot.refl 0x1000002000000 t
  unfold execIlmClearAll
  repeat' first
    | with_reducible assumption
    | (intro x; first | clear_value x | skip)
    | lift_lets
    | with_reducible refine foot_ilmCmd rfl ?_ ..
    | with_reducible refine OutFoot.next ?_
    | split
    | dsimp only

theorem foot_execSwapApply {m : Nat} {z t : State} (hs : 0x72290100a6ea4f80 ||| m = m) (h : Foot m z t) :
    OutFoot m z (execSwapApply t) := by
  refine OutFoot.step (m := 0x72290100a6ea4f80) ?_ hs h
  clear h hs
  have h := Foot.refl 0x72290100a6ea4f80 t
  unfold execSwapApply
  repeat' first
    | with_reducible assumption
    | (intro x; first | (refine Foot.cut (P := Foot 0x72290100a6ea4f80 t x) ?_ ?_; rotate_left; subst x; rotate_left; intro hx; clear_value x) | clear_value x | skip)
    | lift_lets
    | with_reducible refine foot_ilmEval rfl ?_ ..
    | with_reducible refine foot_ilmResult rfl ?_ ..
    | with_reducible refine foot_setFld (blk_ILM_STAT_ACTIVE ..) rfl ?_ ..
    | with_reducible refine foot_setFld (blk_ILM_STAT_LOADED ..) rfl ?_ ..
    | with_reducible refine foot_setFld (blk_ILM_STAT_SWAP_PEND ..) rfl ?_ ..
    | with_reducible refine foot_setFld (blk_ILM_STAT_DEMOTED ..) rfl ?_ ..
    | with_reducible refine foot_setFld (blk_ILM_STAT_GLOBAL ..) rfl ?_ ..
    | with_reducible refine foot_setFld (blk_ILM_TRUE_BITS ..) rfl ?_ ..
    | with_reducible refine foot_setFlag (blk_ILM_STAT_ACTIVE ..) rfl ?_ ..
    | with_reducible refine foot_setFlag (blk_ILM_STAT_LOADED ..) rfl ?_ ..
    | with_reducible refine foot_setFlag (blk_ILM_STAT_SWAP_PEND ..) rfl ?_ ..
    | with_reducible refine foot_setFlag (blk_ILM_STAT_DEMOTED ..) rfl ?_ ..
    | with_reducible refine foot_setFlag (blk_ILM_STAT_GLOBAL ..) rfl ?_ ..
    | with_reducible refine foot_setFlag (blk_ILM_TRUE_BITS ..) rfl ?_ ..
    | with_reducible refine Foot.forN (fun _ _ _ => ?_) ?_
    | with_reducible apply Foot.ite
    | with_reducible apply OutFoot.ite
    | with_reducible refine OutFoot.next ?_
    | ((with_reducible refine Foot.lit ?_ rfl rfl ?_ ?_ ?_ ?_ ?_ ?_); rotate_left; rfl; rfl; rfl; rfl; (first | exact Nat.le_refl _ | exact Nat.le_succ _); (constructor <;> first | with_reducible exact Kept.same | exact Kept.masked rfl); (first | with_reducible assumption | with_reducible refine foot_ilmEval rfl ?_ .. | with_reducible refine foot_ilmResult rfl ?_ .. | with_reducible refine foot_setFld (blk_ILM_STAT_ACTIVE ..) rfl ?_ .. | with_reducible refine foot_setFld (blk_ILM_STAT_LOADED ..) rfl ?_ .. | with_reducible refine foot_setFld (blk_ILM_STAT_SWAP_PEND ..) rfl ?_ .. | with_reducible refine foot_setFld (blk_ILM_STAT_DEMOTED ..) rfl ?_ .. | with_reducible refine foot_setFld (blk_ILM_STAT_GLOBAL ..) rfl ?_ .. | with_reducible refine foot_setFld (blk_ILM_TRUE_BITS ..) rfl ?_ .. | with_reducible refine foot_setFlag (blk_ILM_STAT_ACTIVE ..) rfl ?_ .. | with_reducible refine foot_setFlag (blk_ILM_STAT_LOADED ..) rfl ?_ .. | with_reducible refine foot_setFlag (blk_ILM_STAT_SWAP_PEND ..) rfl ?_ .. | with_reducible refine foot_setFlag (blk_ILM_STAT_DEMOTED ..) rfl ?_ .. | with_reducible refine foot_setFlag (blk_ILM_STAT_GLOBAL ..) rfl ?_ .. | with_reducible refine foot_setFlag (blk_ILM_TRUE_BITS ..) rfl ?_ .. | with_reducible refine Foot.forN (fun _ _ _ => ?_) ?_ | with_reducible apply Foot.ite | with_reducible apply OutFoot.ite | with_reducible refine OutFoot.next ?_))
    | split
    | dsimp only

theorem foot_execSwapOverlapEnd {m : Nat} {z t : State} (hs : 0x1000002000000 ||| m = m) (h : Foot m z t) :
    OutFoot m z (execSwapOverlapEnd t) := by
  refine OutFoot.step (m := 0x1000002000000) ?_ hs h
  clear h hs
  have h := Foot.refl 0x1000002000000 t
  unfold execSwapOverlapEnd
  repeat' first
    | with_reducible assumption
    | (intro x; first | clear_value x | skip)
    | lift_lets
    | with_reducible refine foot_ilmRefresh rfl ?_ ..
    | with_reducible apply OutFoot.ite
    | with_reducible refine OutFoot.next ?_
    | ((with_reducible refine Foot.lit ?_ rfl rfl ?_ ?_ ?_ ?_ ?_ ?_); rotate_left; rfl; rfl; rfl; rfl; (first | exact Nat.le_refl _ | exact Nat.le_succ _); (constructor <;> first | with_reducible exact Kept.same | exact Kept.masked rfl); (first | with_reducible assumption | with_reducible refine foot_ilmRefresh rfl ?_ .. | with_reducible apply OutFoot.ite | with_reducible refine OutFoot.next ?_))
    | split
    | dsimp only

theorem foot_ilmTermWrite {m : Nat} {z t : State} (hs : 0x72290100a4ea4f80 ||| m = m) (h : Foot m z t) (a0 : _) (a1 : _) (a2 : _) (a3 : _) :
    Foot m z (State.ilmTermWrite a0 a1 a2 a3 t) := by
  refine Foot.step (m := 0x72290100a4ea4f80) ?_ hs h
  clear h hs
  have h := Foot.refl 0x72290100a4ea4f80 t
  unfold State.ilmTermWrite
  repeat' first
    | with_reducible assumption
    | (intro x; first | clear_value x | skip)
    | lift_lets
    | with_reducible refine foot_raise rfl ?_ ..
    | with_reducible refine foot_setFlag (blk_ILM_STAT_LOADED ..) rfl ?_ ..
    | with_reducible refine foot_setFlag (blk_ILM_TERM_WORD ..) rfl ?_ ..
    | with_reducible refine foot_setRegB (blk_ILM_STAT_LOADED ..) rfl ?_ ..
    | with_reducible refine foot_setRegB (blk_ILM_TERM_WORD ..) rfl ?_ ..
    | with_reducible apply Foot.ite
    | split
    | dsimp only

theorem foot_execIlmTermWrite {m : Nat} {z t : State} (hs : 0x72290100a4ea4f80 ||| m = m) (h : Foot m z t) (a0 : _) (a1 : _) (a2 : _) (a3 : _) (a4 : _) :
    OutFoot m z (execIlmTermWrite a0 a1 a2 a3 a4 t) := by
  refine OutFoot.step (m := 0x72290100a4ea4f80) ?_ hs h
  clear h hs
  have h := Foot.refl 0x72290100a4ea4f80 t
  unfold execIlmTermWrite
  repeat' first
    | with_reducible assumption
    | (intro x; first | clear_value x | skip)
    | lift_lets
    | with_reducible refine foot_ilmTermWrite rfl ?_ ..
    | with_reducible refine OutFoot.next ?_
    | split
    | dsimp only

end Sys2Proof.Machine
end

