-- ==== Sys2Proof/Laws/FootFieldBase.lean ====
section
/-!
SUPPORT. Footprints of the operations of Machine/FieldBase.lean.
-/

set_option Elab.async false

set_option linter.all false

set_option maxRecDepth 4000

namespace Sys2Proof.Machine

theorem foot_winChange {m : Nat} {z t : State} (hs : 0x72290100a6ea4f80 ||| m = m) (h : Foot m z t) (a0 : _) (a1 : _) (a2 : _) :
    Foot m z (State.winChange a0 a1 a2 t) := by
  refine Foot.step (m := 0x72290100a6ea4f80) ?_ hs h
  clear h hs
  have h := Foot.refl 0x72290100a6ea4f80 t
  unfold State.winChange
  repeat' first
    | with_reducible assumption
    | (intro x; first
        | (refine Foot.cut (P := Foot 0x72290100a6ea4f80 t x) ?_ ?_; rotate_left; subst x; rotate_left; intro hx; clear_value x)
        | (refine Foot.cut (P := PairFoot 0x72290100a6ea4f80 t x) ?_ ?_; rotate_left; subst x; rotate_left; intro hx; clear_value x)
        | (refine Foot.cut (P := OptFoot 0x72290100a6ea4f80 t x) ?_ ?_; rotate_left; subst x; rotate_left; intro hx; clear_value x)
        | (have hf := x.programmed; clear hf)
        | clear_value x
        | skip)
    | lift_lets
    | with_reducible refine foot_ilmEval rfl ?_ ..
    | with_reducible refine foot_modChan rfl ?_ ..
    | with_reducible refine foot_hwEvent rfl ?_ ..
    | with_reducible refine foot_raise rfl ?_ ..
    | with_reducible refine foot_setFlag (blk_CH_STAT_WIN_OUT ..) rfl ?_ ..
    | with_reducible refine Foot.foldl (fun _ _ _ => ?_) ?_
    | with_reducible refine PairFoot.foldl (fun _ _ _ => ?_) ?_
    | with_reducible apply Foot.ite
    | with_reducible apply PairFoot.ite
    | with_reducible apply OptFoot.ite
    | with_reducible apply OutFoot.ite
    | with_reducible apply ExFoot.ite
    | with_reducible exact ExFoot.error
    | with_reducible refine ExFoot.ok ?_
    | with_reducible refine PairFoot.forL (fun _ _ _ => ?_) ?_
    | with_reducible refine PairFoot.forN (fun _ _ _ => ?_) ?_
    | with_reducible refine OptFoot.some ?_
    | with_reducible exact OptFoot.none
    | with_reducible refine OutFoot.next ?_
    | with_reducible refine OptFoot.getD ?_ ?_
    | with_reducible refine PairFoot.snd ?_
    | with_reducible exact PairFoot.out (by assumption)
    | with_reducible refine PairFoot.eq (by assumption) ?_
    | with_reducible refine OptFoot.eq (by assumption) ?_
    | with_reducible refine ExFoot.eq (by assumption) ?_
    | ((with_reducible refine Foot.lit ?_ rfl rfl ?_ ?_ ?_ ?_ ?_ ?_); rotate_left; rfl; rfl; rfl; rfl; (first | exact Nat.le_refl _ | exact Nat.le_succ _); (constructor <;> first | with_reducible exact Kept.same | exact Kept.masked rfl); (first | with_reducible assumption | with_reducible refine foot_ilmEval rfl ?_ .. | with_reducible refine foot_modChan rfl ?_ .. | with_reducible refine foot_hwEvent rfl ?_ .. | with_reducible refine foot_raise rfl ?_ .. | with_reducible refine foot_setFlag (blk_CH_STAT_WIN_OUT ..) rfl ?_ .. | with_reducible refine Foot.foldl (fun _ _ _ => ?_) ?_ | with_reducible refine PairFoot.foldl (fun _ _ _ => ?_) ?_ | with_reducible apply Foot.ite | with_reducible apply PairFoot.ite | with_reducible apply OptFoot.ite | with_reducible apply OutFoot.ite | with_reducible apply ExFoot.ite | with_reducible exact ExFoot.error | with_reducible refine ExFoot.ok ?_ | with_reducible refine PairFoot.forL (fun _ _ _ => ?_) ?_ | with_reducible refine PairFoot.forN (fun _ _ _ => ?_) ?_ | with_reducible refine OptFoot.some ?_ | with_reducible exact OptFoot.none | with_reducible refine OutFoot.next ?_ | with_reducible refine OptFoot.getD ?_ ?_ | with_reducible refine PairFoot.snd ?_))
    | split
    | with_reducible refine PairFoot.mk ?_
    | dsimp only

theorem foot_chRefresh {m : Nat} {z t : State} (hs : 0x72290100a6ea4f80 ||| m = m) (h : Foot m z t) (a0 : _) :
    Foot m z (State.chRefresh a0 t) := by
  refine Foot.step (m := 0x72290100a6ea4f80) ?_ hs h
  clear h hs
  have h := Foot.refl 0x72290100a6ea4f80 t
  unfold State.chRefresh
  repeat' first
    | with_reducible assumption
    | (intro x; first
        | (refine Foot.cut (P := Foot 0x72290100a6ea4f80 t x) ?_ ?_; rotate_left; subst x; rotate_left; intro hx; clear_value x)
        | (refine Foot.cut (P := PairFoot 0x72290100a6ea4f80 t x) ?_ ?_; rotate_left; subst x; rotate_left; intro hx; clear_value x)
        | (refine Foot.cut (P := OptFoot 0x72290100a6ea4f80 t x) ?_ ?_; rotate_left; subst x; rotate_left; intro hx; clear_value x)
        | (have hf := x.programmed; clear hf)
        | clear_value x
        | skip)
    | lift_lets
    | with_reducible refine foot_modChan rfl ?_ ..
    | with_reducible refine foot_winChange rfl ?_ ..
    | with_reducible refine foot_setFld (blk_CH_STAT_AVAIL ..) rfl ?_ ..
    | with_reducible refine foot_setFld (blk_CH_STAT_UNAV_REASON ..) rfl ?_ ..
    | with_reducible refine foot_setFld (blk_STALL_STAT_COUNT ..) rfl ?_ ..
    | with_reducible refine foot_setFlag (blk_CH_STAT_AVAIL ..) rfl ?_ ..
    | with_reducible refine foot_setFlag (blk_CH_STAT_UNAV_REASON ..) rfl ?_ ..
    | with_reducible refine foot_setFlag (blk_STALL_STAT_COUNT ..) rfl ?_ ..
    | with_reducible refine Foot.foldl (fun _ _ _ => ?_) ?_
    | with_reducible refine PairFoot.foldl (fun _ _ _ => ?_) ?_
    | with_reducible apply Foot.ite
    | with_reducible apply PairFoot.ite
    | with_reducible apply OptFoot.ite
    | with_reducible apply OutFoot.ite
    | with_reducible apply ExFoot.ite
    | with_reducible exact ExFoot.error
    | with_reducible refine ExFoot.ok ?_
    | with_reducible refine PairFoot.forL (fun _ _ _ => ?_) ?_
    | with_reducible refine PairFoot.forN (fun _ _ _ => ?_) ?_
    | with_reducible refine OptFoot.some ?_
    | with_reducible exact OptFoot.none
    | with_reducible refine OutFoot.next ?_
    | with_reducible refine OptFoot.getD ?_ ?_
    | with_reducible refine PairFoot.snd ?_
    | with_reducible exact PairFoot.out (by assumption)
    | with_reducible refine PairFoot.eq (by assumption) ?_
    | with_reducible refine OptFoot.eq (by assumption) ?_
    | with_reducible refine ExFoot.eq (by assumption) ?_
    | ((with_reducible refine Foot.lit ?_ rfl rfl ?_ ?_ ?_ ?_ ?_ ?_); rotate_left; rfl; rfl; rfl; rfl; (first | exact Nat.le_refl _ | exact Nat.le_succ _); (constructor <;> first | with_reducible exact Kept.same | exact Kept.masked rfl); (first | with_reducible assumption | with_reducible refine foot_modChan rfl ?_ .. | with_reducible refine foot_winChange rfl ?_ .. | with_reducible refine foot_setFld (blk_CH_STAT_AVAIL ..) rfl ?_ .. | with_reducible refine foot_setFld (blk_CH_STAT_UNAV_REASON ..) rfl ?_ .. | with_reducible refine foot_setFld (blk_STALL_STAT_COUNT ..) rfl ?_ .. | with_reducible refine foot_setFlag (blk_CH_STAT_AVAIL ..) rfl ?_ .. | with_reducible refine foot_setFlag (blk_CH_STAT_UNAV_REASON ..) rfl ?_ .. | with_reducible refine foot_setFlag (blk_STALL_STAT_COUNT ..) rfl ?_ .. | with_reducible refine Foot.foldl (fun _ _ _ => ?_) ?_ | with_reducible refine PairFoot.foldl (fun _ _ _ => ?_) ?_ | with_reducible apply Foot.ite | with_reducible apply PairFoot.ite | with_reducible apply OptFoot.ite | with_reducible apply OutFoot.ite | with_reducible apply ExFoot.ite | with_reducible exact ExFoot.error | with_reducible refine ExFoot.ok ?_ | with_reducible refine PairFoot.forL (fun _ _ _ => ?_) ?_ | with_reducible refine PairFoot.forN (fun _ _ _ => ?_) ?_ | with_reducible refine OptFoot.some ?_ | with_reducible exact OptFoot.none | with_reducible refine OutFoot.next ?_ | with_reducible refine OptFoot.getD ?_ ?_ | with_reducible refine PairFoot.snd ?_))
    | split
    | with_reducible refine PairFoot.mk ?_
    | dsimp only

theorem foot_dieRefresh {m : Nat} {z t : State} (hs : 0x72290100a6ea4f80 ||| m = m) (h : Foot m z t) (a0 : _) :
    Foot m z (State.dieRefresh a0 t) := by
  refine Foot.step (m := 0x72290100a6ea4f80) ?_ hs h
  clear h hs
  have h := Foot.refl 0x72290100a6ea4f80 t
  unfold State.dieRefresh
  repeat' first
    | with_reducible assumption
    | (intro x; first | clear_value x | skip)
    | lift_lets
    | with_reducible refine foot_chRefresh rfl ?_ ..
    | with_reducible refine Foot.forN (fun _ _ _ => ?_) ?_
    | split
    | dsimp only

theorem foot_clRefresh {m : Nat} {z t : State} (hs : 0x72290100a6ea4f80 ||| m = m) (h : Foot m z t) (a0 : _) :
    Foot m z (State.clRefresh a0 t) := by
  refine Foot.step (m := 0x72290100a6ea4f80) ?_ hs h
  clear h hs
  have h := Foot.refl 0x72290100a6ea4f80 t
  unfold State.clRefresh
  repeat' first
    | with_reducible assumption
    | (intro x; first | clear_value x | skip)
    | lift_lets
    | with_reducible refine foot_chRefresh rfl ?_ ..
    | with_reducible refine Foot.forN (fun _ _ _ => ?_) ?_
    | split
    | dsimp only

theorem foot_deliverFio {m : Nat} {z t : State} (hs : 0x72280100a4ea4f88 ||| m = m) (h : Foot m z t) (a0 : _) :
    Foot m z (State.deliverFio a0 t) := by
  refine Foot.step (m := 0x72280100a4ea4f88) ?_ hs h
  clear h hs
  have h := Foot.refl 0x72280100a4ea4f88 t
  unfold State.deliverFio
  repeat' first
    | with_reducible assumption
    | (intro x; first | (refine Foot.cut (P := Foot 0x72280100a4ea4f88 t x) ?_ ?_; rotate_left; subst x; rotate_left; intro hx; clear_value x) | clear_value x | skip)
    | lift_lets
    | with_reducible refine foot_setBit rfl ?_ ..
    | with_reducible refine foot_hwEvent rfl ?_ ..
    | with_reducible refine foot_setFlag (blk_FIO_STAT_RAW ..) rfl ?_ ..
    | with_reducible refine foot_setFlag (blk_FIO_STAT_IN ..) rfl ?_ ..
    | with_reducible apply Foot.ite
    | split
    | dsimp only

theorem foot_regionRefresh {m : Nat} {z t : State} (hs : 0x72280100a4ea4f80 ||| m = m) (h : Foot m z t) (a0 : _) :
    Foot m z (State.regionRefresh a0 t) := by
  refine Foot.step (m := 0x72280100a4ea4f80) ?_ hs h
  clear h hs
  have h := Foot.refl 0x72280100a4ea4f80 t
  unfold State.regionRefresh
  repeat' first
    | with_reducible assumption
    | (intro x; first | clear_value x | skip)
    | lift_lets
    | with_reducible refine foot_endCond rfl ?_ ..
    | with_reducible refine foot_raiseCond rfl ?_ ..
    | with_reducible refine foot_setFlag (blk_RG_STAT_FAULT_SEEN ..) rfl ?_ ..
    | with_reducible refine foot_setFlag (blk_RG_STAT_FAULT ..) rfl ?_ ..
    | with_reducible apply Foot.ite
    | split
    | dsimp only

theorem foot_lgEdge {m : Nat} {z t : State} (hs : 0x100000 ||| m = m) (h : Foot m z t) (a0 : _) (a1 : _) (a2 : _) :
    Foot m z (State.lgEdge a0 a1 a2 t) := by
  refine Foot.step (m := 0x100000) ?_ hs h
  clear h hs
  have h := Foot.refl 0x100000 t
  unfold State.lgEdge
  repeat' first
    | with_reducible assumption
    | (intro x; first | clear_value x | skip)
    | lift_lets
    | with_reducible refine foot_modLg rfl ?_ ..
    | with_reducible refine Foot.forL (fun _ _ _ => ?_) ?_
    | with_reducible apply Foot.ite
    | split
    | dsimp only

theorem foot_setIn {m : Nat} {z t : State} (hs : 0x72280100a4fa4f88 ||| m = m) (h : Foot m z t) (a0 : _) (a1 : _) :
    Foot m z (State.setIn a0 a1 t) := by
  refine Foot.step (m := 0x72280100a4fa4f88) ?_ hs h
  clear h hs
  have h := Foot.refl 0x72280100a4fa4f88 t
  unfold State.setIn
  repeat' first
    | with_reducible assumption
    | (intro x; first
        | (refine Foot.cut (P := Foot 0x72280100a4fa4f88 t x) ?_ ?_; rotate_left; subst x; rotate_left; intro hx; clear_value x)
        | (refine Foot.cut (P := PairFoot 0x72280100a4fa4f88 t x) ?_ ?_; rotate_left; subst x; rotate_left; intro hx; clear_value x)
        | (refine Foot.cut (P := OptFoot 0x72280100a4fa4f88 t x) ?_ ?_; rotate_left; subst x; rotate_left; intro hx; clear_value x)
        | (have hf := x.programmed; clear hf)
        | clear_value x
        | skip)
    | lift_lets
    | with_reducible refine foot_modChan rfl ?_ ..
    | with_reducible refine foot_regionRefresh rfl ?_ ..
    | with_reducible refine foot_lgEdge rfl ?_ ..
    | with_reducible refine foot_deliverFio rfl ?_ ..
    | with_reducible refine Foot.foldl (fun _ _ _ => ?_) ?_
    | with_reducible refine PairFoot.foldl (fun _ _ _ => ?_) ?_
    | with_reducible apply Foot.ite
    | with_reducible apply PairFoot.ite
    | with_reducible apply OptFoot.ite
    | with_reducible apply OutFoot.ite
    | with_reducible apply ExFoot.ite
    | with_reducible exact ExFoot.error
    | with_reducible refine ExFoot.ok ?_
    | with_reducible refine PairFoot.forL (fun _ _ _ => ?_) ?_
    | with_reducible refine PairFoot.forN (fun _ _ _ => ?_) ?_
    | with_reducible refine OptFoot.some ?_
    | with_reducible exact OptFoot.none
    | with_reducible refine OutFoot.next ?_
    | with_reducible refine OptFoot.getD ?_ ?_
    | with_reducible refine PairFoot.snd ?_
    | with_reducible exact PairFoot.out (by assumption)
    | with_reducible refine PairFoot.eq (by assumption) ?_
    | with_reducible refine OptFoot.eq (by assumption) ?_
    | with_reducible refine ExFoot.eq (by assumption) ?_
    | ((with_reducible refine Foot.lit ?_ rfl rfl ?_ ?_ ?_ ?_ ?_ ?_); rotate_left; rfl; rfl; rfl; rfl; (first | exact Nat.le_refl _ | exact Nat.le_succ _); (constructor <;> first | with_reducible exact Kept.same | exact Kept.masked rfl); (first | with_reducible assumption | with_reducible refine foot_modChan rfl ?_ .. | with_reducible refine foot_regionRefresh rfl ?_ .. | with_reducible refine foot_lgEdge rfl ?_ .. | with_reducible refine foot_deliverFio rfl ?_ .. | with_reducible refine Foot.foldl (fun _ _ _ => ?_) ?_ | with_reducible refine PairFoot.foldl (fun _ _ _ => ?_) ?_ | with_reducible apply Foot.ite | with_reducible apply PairFoot.ite | with_reducible apply OptFoot.ite | with_reducible apply OutFoot.ite | with_reducible apply ExFoot.ite | with_reducible exact ExFoot.error | with_reducible refine ExFoot.ok ?_ | with_reducible refine PairFoot.forL (fun _ _ _ => ?_) ?_ | with_reducible refine PairFoot.forN (fun _ _ _ => ?_) ?_ | with_reducible refine OptFoot.some ?_ | with_reducible exact OptFoot.none | with_reducible refine OutFoot.next ?_ | with_reducible refine OptFoot.getD ?_ ?_ | with_reducible refine PairFoot.snd ?_))
    | split
    | with_reducible refine PairFoot.mk ?_
    | dsimp only

theorem foot_debounce {m : Nat} {z t : State} (hs : 0x72280100a4fa4f88 ||| m = m) (h : Foot m z t) (a0 : _) :
    Foot m z (State.debounce a0 t) := by
  refine Foot.step (m := 0x72280100a4fa4f88) ?_ hs h
  clear h hs
  have h := Foot.refl 0x72280100a4fa4f88 t
  unfold State.debounce
  repeat' first
    | with_reducible assumption
    | (intro x; first
        | (refine Foot.cut (P := Foot 0x72280100a4fa4f88 t x) ?_ ?_; rotate_left; subst x; rotate_left; intro hx; clear_value x)
        | (refine Foot.cut (P := PairFoot 0x72280100a4fa4f88 t x) ?_ ?_; rotate_left; subst x; rotate_left; intro hx; clear_value x)
        | (refine Foot.cut (P := OptFoot 0x72280100a4fa4f88 t x) ?_ ?_; rotate_left; subst x; rotate_left; intro hx; clear_value x)
        | (have hf := x.programmed; clear hf)
        | clear_value x
        | skip)
    | lift_lets
    | with_reducible refine foot_setIn rfl ?_ ..
    | with_reducible refine foot_modChan rfl ?_ ..
    | with_reducible refine Foot.foldl (fun _ _ _ => ?_) ?_
    | with_reducible refine PairFoot.foldl (fun _ _ _ => ?_) ?_
    | with_reducible apply Foot.ite
    | with_reducible apply PairFoot.ite
    | with_reducible apply OptFoot.ite
    | with_reducible apply OutFoot.ite
    | with_reducible apply ExFoot.ite
    | with_reducible exact ExFoot.error
    | with_reducible refine ExFoot.ok ?_
    | with_reducible refine PairFoot.forL (fun _ _ _ => ?_) ?_
    | with_reducible refine PairFoot.forN (fun _ _ _ => ?_) ?_
    | with_reducible refine OptFoot.some ?_
    | with_reducible exact OptFoot.none
    | with_reducible refine OutFoot.next ?_
    | with_reducible refine OptFoot.getD ?_ ?_
    | with_reducible refine PairFoot.snd ?_
    | with_reducible exact PairFoot.out (by assumption)
    | with_reducible refine PairFoot.eq (by assumption) ?_
    | with_reducible refine OptFoot.eq (by assumption) ?_
    | with_reducible refine ExFoot.eq (by assumption) ?_
    | ((with_reducible refine Foot.lit ?_ rfl rfl ?_ ?_ ?_ ?_ ?_ ?_); rotate_left; rfl; rfl; rfl; rfl; (first | exact Nat.le_refl _ | exact Nat.le_succ _); (constructor <;> first | with_reducible exact Kept.same | exact Kept.masked rfl); (first | with_reducible assumption | with_reducible refine foot_setIn rfl ?_ .. | with_reducible refine foot_modChan rfl ?_ .. | with_reducible refine Foot.foldl (fun _ _ _ => ?_) ?_ | with_reducible refine PairFoot.foldl (fun _ _ _ => ?_) ?_ | with_reducible apply Foot.ite | with_reducible apply PairFoot.ite | with_reducible apply OptFoot.ite | with_reducible apply OutFoot.ite | with_reducible apply ExFoot.ite | with_reducible exact ExFoot.error | with_reducible refine ExFoot.ok ?_ | with_reducible refine PairFoot.forL (fun _ _ _ => ?_) ?_ | with_reducible refine PairFoot.forN (fun _ _ _ => ?_) ?_ | with_reducible refine OptFoot.some ?_ | with_reducible exact OptFoot.none | with_reducible refine OutFoot.next ?_ | with_reducible refine OptFoot.getD ?_ ?_ | with_reducible refine PairFoot.snd ?_))
    | split
    | with_reducible refine PairFoot.mk ?_
    | dsimp only

end Sys2Proof.Machine
end

