-- ==== Sys2Proof/Laws/FootChannels.lean ====
section
/-!
SUPPORT. Footprints of the operations of Machine/Channels.lean.
-/

set_option Elab.async false

set_option linter.all false

set_option maxRecDepth 4000

namespace Sys2Proof.Machine

theorem foot_execConversion {m : Nat} {z t : State} (hs : 0x72290100a6ea4f80 ||| m = m) (h : Foot m z t) (a0 : _) (a1 : _) (a2 : _) (a3 : _) :
    OutFoot m z (execConversion a0 a1 a2 a3 t) := by
  refine OutFoot.step (m := 0x72290100a6ea4f80) ?_ hs h
  clear h hs
  have h := Foot.refl 0x72290100a6ea4f80 t
  unfold execConversion
  repeat' first
    | with_reducible assumption
    | (intro x; first
        | (refine Foot.cut (P := Foot 0x72290100a6ea4f80 t x) ?_ ?_; rotate_left; subst x; rotate_left; intro hx; clear_value x)
        | (refine Foot.cut (P := PairFoot 0x72290100a6ea4f80 t x) ?_ ?_; rotate_left; subst x; rotate_left; intro hx; clear_value x)
        | (refine Foot.cut (P := OptFoot 0x72290100a6ea4f80 t x) ?_ ?_; rotate_left; subst x; rotate_left; intro hx; clear_value x)
        | (have hf := x.programmed; clear hf)
        | clear_value x
        | skip)
    | lift_lets
    | with_reducible refine foot_modChan rfl ?_ ..
    | with_reducible refine foot_winChange rfl ?_ ..
    | with_reducible refine foot_setFlag (blk_CH_STAT_REF_UNSETTLED ..) rfl ?_ ..
    | with_reducible refine foot_setFlag (blk_CH_STAT_OVR_SEEN ..) rfl ?_ ..
    | with_reducible refine Foot.foldl (fun _ _ _ => ?_) ?_
    | with_reducible refine PairFoot.foldl (fun _ _ _ => ?_) ?_
    | with_reducible apply Foot.ite
    | with_reducible apply PairFoot.ite
    | with_reducible apply OptFoot.ite
    | with_reducible apply OutFoot.ite
    | with_reducible apply ExFoot.ite
    | with_reducible exact ExFoot.error
    | with_reducible refine ExFoot.ok ?_
    | with_reducible refine PairFoot.forL (fun _ _ _ => ?_) ?_
    | with_reducible refine PairFoot.forN (fun _ _ _ => ?_) ?_
    | with_reducible refine OptFoot.some ?_
    | with_reducible exact OptFoot.none
    | with_reducible refine OutFoot.next ?_
    | with_reducible refine OptFoot.getD ?_ ?_
    | with_reducible refine PairFoot.snd ?_
    | with_reducible exact PairFoot.out (by assumption)
    | with_reducible refine PairFoot.eq (by assumption) ?_
    | with_reducible refine OptFoot.eq (by assumption) ?_
    | with_reducible refine ExFoot.eq (by assumption) ?_
    | ((with_reducible refine Foot.lit ?_ rfl rfl ?_ ?_ ?_ ?_ ?_ ?_); rotate_left; rfl; rfl; rfl; rfl; (first | exact Nat.le_refl _ | exact Nat.le_succ _); (constructor <;> first | with_reducible exact Kept.same | exact Kept.masked rfl); (first | with_reducible assumption | with_reducible refine foot_modChan rfl ?_ .. | with_reducible refine foot_winChange rfl ?_ .. | with_reducible refine foot_setFlag (blk_CH_STAT_REF_UNSETTLED ..) rfl ?_ .. | with_reducible refine foot_setFlag (blk_CH_STAT_OVR_SEEN ..) rfl ?_ .. | with_reducible refine Foot.foldl (fun _ _ _ => ?_) ?_ | with_reducible refine PairFoot.foldl (fun _ _ _ => ?_) ?_ | with_reducible apply Foot.ite | with_reducible apply PairFoot.ite | with_reducible apply OptFoot.ite | with_reducible apply OutFoot.ite | with_reducible apply ExFoot.ite | with_reducible exact ExFoot.error | with_reducible refine ExFoot.ok ?_ | with_reducible refine PairFoot.forL (fun _ _ _ => ?_) ?_ | with_reducible refine PairFoot.forN (fun _ _ _ => ?_) ?_ | with_reducible refine OptFoot.some ?_ | with_reducible exact OptFoot.none | with_reducible refine OutFoot.next ?_ | with_reducible refine OptFoot.getD ?_ ?_ | with_reducible refine PairFoot.snd ?_))
    | split
    | with_reducible refine PairFoot.mk ?_
    | dsimp only

theorem foot_blockCrc {m : Nat} {z t : State} (hs : 0x80000200080 ||| m = m) (h : Foot m z t) (a0 : _) (a1 : _) (a2 : _) :
    PairFoot m z (State.blockCrc a0 a1 a2 t) := by
  refine PairFoot.step (m := 0x80000200080) ?_ hs h
  clear h hs
  have h := Foot.refl 0x80000200080 t
  unfold State.blockCrc
  repeat' first
    | with_reducible assumption
    | (intro x; first
        | (refine Foot.cut (P := Foot 0x80000200080 t x) ?_ ?_; rotate_left; subst x; rotate_left; intro hx; clear_value x)
        | (refine Foot.cut (P := PairFoot 0x80000200080 t x) ?_ ?_; rotate_left; subst x; rotate_left; intro hx; clear_value x)
        | (refine Foot.cut (P := OptFoot 0x80000200080 t x) ?_ ?_; rotate_left; subst x; rotate_left; intro hx; clear_value x)
        | (have hf := x.programmed; clear hf)
        | clear_value x
        | skip)
    | lift_lets
    | with_reducible refine foot_modChan rfl ?_ ..
    | with_reducible refine foot_injDone rfl ?_ ..
    | with_reducible refine Foot.foldl (fun _ _ _ => ?_) ?_
    | with_reducible refine PairFoot.foldl (fun _ _ _ => ?_) ?_
    | with_reducible apply Foot.ite
    | with_reducible apply PairFoot.ite
    | with_reducible apply OptFoot.ite
    | with_reducible apply OutFoot.ite
    | with_reducible apply ExFoot.ite
    | with_reducible exact ExFoot.error
    | with_reducible refine ExFoot.ok ?_
    | with_reducible refine PairFoot.forL (fun _ _ _ => ?_) ?_
    | with_reducible refine PairFoot.forN (fun _ _ _ => ?_) ?_
    | with_reducible refine OptFoot.some ?_
    | with_reducible exact OptFoot.none
    | with_reducible refine OutFoot.next ?_
    | with_reducible refine OptFoot.getD ?_ ?_
    | with_reducible refine PairFoot.snd ?_
    | with_reducible exact PairFoot.out (by assumption)
    | with_reducible refine PairFoot.eq (by assumption) ?_
    | with_reducible refine OptFoot.eq (by assumption) ?_
    | with_reducible refine ExFoot.eq (by assumption) ?_
    | ((with_reducible refine Foot.lit ?_ rfl rfl ?_ ?_ ?_ ?_ ?_ ?_); rotate_left; rfl; rfl; rfl; rfl; (first | exact Nat.le_refl _ | exact Nat.le_succ _); (constructor <;> first | with_reducible exact Kept.same | exact Kept.masked rfl); (first | with_reducible assumption | with_reducible refine foot_modChan rfl ?_ .. | with_reducible refine foot_injDone rfl ?_ .. | with_reducible refine Foot.foldl (fun _ _ _ => ?_) ?_ | with_reducible refine PairFoot.foldl (fun _ _ _ => ?_) ?_ | with_reducible apply Foot.ite | with_reducible apply PairFoot.ite | with_reducible apply OptFoot.ite | with_reducible apply OutFoot.ite | with_reducible apply ExFoot.ite | with_reducible exact ExFoot.error | with_reducible refine ExFoot.ok ?_ | with_reducible refine PairFoot.forL (fun _ _ _ => ?_) ?_ | with_reducible refine PairFoot.forN (fun _ _ _ => ?_) ?_ | with_reducible refine OptFoot.some ?_ | with_reducible exact OptFoot.none | with_reducible refine OutFoot.next ?_ | with_reducible refine OptFoot.getD ?_ ?_ | with_reducible refine PairFoot.snd ?_))
    | split
    | with_reducible refine PairFoot.mk ?_
    | dsimp only

theorem foot_execUpstreamSampleBlock {m : Nat} {z t : State} (hs : 0x72290900a6ea4f80 ||| m = m) (h : Foot m z t) (a0 : _) (a1 : _) :
    OutFoot m z (execUpstreamSampleBlock a0 a1 t) := by
  refine OutFoot.step (m := 0x72290900a6ea4f80) ?_ hs h
  clear h hs
  have h := Foot.refl 0x72290900a6ea4f80 t
  unfold execUpstreamSampleBlock
  repeat' first
    | with_reducible assumption
    | (intro x; first
        | (refine Foot.cut (P := Foot 0x72290900a6ea4f80 t x) ?_ ?_; rotate_left; subst x; rotate_left; intro hx; clear_value x)
        | (refine Foot.cut (P := PairFoot 0x72290900a6ea4f80 t x) ?_ ?_; rotate_left; subst x; rotate_left; intro hx; clear_value x)
        | (refine Foot.cut (P := OptFoot 0x72290900a6ea4f80 t x) ?_ ?_; rotate_left; subst x; rotate_left; intro hx; clear_value x)
        | (have hf := x.programmed; clear hf)
        | clear_value x
        | skip)
    | lift_lets
    | with_reducible refine foot_ilmEval rfl ?_ ..
    | with_reducible refine foot_modChan rfl ?_ ..
    | with_reducible refine foot_chRefresh rfl ?_ ..
    | with_reducible refine foot_raise rfl ?_ ..
    | with_reducible refine foot_blockCrc rfl ?_ ..
    | with_reducible refine foot_setFld (blk_CH_STAT_TAG ..) rfl ?_ ..
    | with_reducible refine Foot.foldl (fun _ _ _ => ?_) ?_
    | with_reducible refine PairFoot.foldl (fun _ _ _ => ?_) ?_
    | with_reducible apply Foot.ite
    | with_reducible apply PairFoot.ite
    | with_reducible apply OptFoot.ite
    | with_reducible apply OutFoot.ite
    | with_reducible apply ExFoot.ite
    | with_reducible exact ExFoot.error
    | with_reducible refine ExFoot.ok ?_
    | with_reducible refine PairFoot.forL (fun _ _ _ => ?_) ?_
    | with_reducible refine PairFoot.forN (fun _ _ _ => ?_) ?_
    | with_reducible refine OptFoot.some ?_
    | with_reducible exact OptFoot.none
    | with_reducible refine OutFoot.next ?_
    | with_reducible refine OptFoot.getD ?_ ?_
    | with_reducible refine PairFoot.snd ?_
    | with_reducible exact PairFoot.out (by assumption)
    | with_reducible refine PairFoot.eq (by assumption) ?_
    | with_reducible refine OptFoot.eq (by assumption) ?_
    | with_reducible refine ExFoot.eq (by assumption) ?_
    | ((with_reducible refine Foot.lit ?_ rfl rfl ?_ ?_ ?_ ?_ ?_ ?_); rotate_left; rfl; rfl; rfl; rfl; (first | exact Nat.le_refl _ | exact Nat.le_succ _); (constructor <;> first | with_reducible exact Kept.same | exact Kept.masked rfl); (first | with_reducible assumption | with_reducible refine foot_ilmEval rfl ?_ .. | with_reducible refine foot_modChan rfl ?_ .. | with_reducible refine foot_chRefresh rfl ?_ .. | with_reducible refine foot_raise rfl ?_ .. | with_reducible refine foot_blockCrc rfl ?_ .. | with_reducible refine foot_setFld (blk_CH_STAT_TAG ..) rfl ?_ .. | with_reducible refine Foot.foldl (fun _ _ _ => ?_) ?_ | with_reducible refine PairFoot.foldl (fun _ _ _ => ?_) ?_ | with_reducible apply Foot.ite | with_reducible apply PairFoot.ite | with_reducible apply OptFoot.ite | with_reducible apply OutFoot.ite | with_reducible apply ExFoot.ite | with_reducible exact ExFoot.error | with_reducible refine ExFoot.ok ?_ | with_reducible refine PairFoot.forL (fun _ _ _ => ?_) ?_ | with_reducible refine PairFoot.forN (fun _ _ _ => ?_) ?_ | with_reducible refine OptFoot.some ?_ | with_reducible exact OptFoot.none | with_reducible refine OutFoot.next ?_ | with_reducible refine OptFoot.getD ?_ ?_ | with_reducible refine PairFoot.snd ?_))
    | split
    | with_reducible refine PairFoot.mk ?_
    | dsimp only

theorem foot_execUpstreamStatusBlock {m : Nat} {z t : State} (hs : 0x72290900a6ea4f88 ||| m = m) (h : Foot m z t) (a0 : _) (a1 : _) :
    OutFoot m z (execUpstreamStatusBlock a0 a1 t) := by
  refine OutFoot.step (m := 0x72290900a6ea4f88) ?_ hs h
  clear h hs
  have h := Foot.refl 0x72290900a6ea4f88 t
  unfold execUpstreamStatusBlock
  repeat' first
    | with_reducible assumption
    | (intro x; first
        | (refine Foot.cut (P := Foot 0x72290900a6ea4f88 t x) ?_ ?_; rotate_left; subst x; rotate_left; intro hx; clear_value x)
        | (refine Foot.cut (P := PairFoot 0x72290900a6ea4f88 t x) ?_ ?_; rotate_left; subst x; rotate_left; intro hx; clear_value x)
        | (refine Foot.cut (P := OptFoot 0x72290900a6ea4f88 t x) ?_ ?_; rotate_left; subst x; rotate_left; intro hx; clear_value x)
        | (have hf := x.programmed; clear hf)
        | clear_value x
        | skip)
    | lift_lets
    | with_reducible refine foot_motIlm rfl ?_ ..
    | with_reducible refine foot_ilmEval rfl ?_ ..
    | with_reducible refine foot_modChan rfl ?_ ..
    | with_reducible refine foot_raise rfl ?_ ..
    | with_reducible refine foot_blockCrc rfl ?_ ..
    | with_reducible refine foot_deliverFio rfl ?_ ..
    | with_reducible refine Foot.foldl (fun _ _ _ => ?_) ?_
    | with_reducible refine PairFoot.foldl (fun _ _ _ => ?_) ?_
    | with_reducible apply Foot.ite
    | with_reducible apply PairFoot.ite
    | with_reducible apply OptFoot.ite
    | with_reducible apply OutFoot.ite
    | with_reducible apply ExFoot.ite
    | with_reducible exact ExFoot.error
    | with_reducible refine ExFoot.ok ?_
    | with_reducible refine PairFoot.forL (fun _ _ _ => ?_) ?_
    | with_reducible refine PairFoot.forN (fun _ _ _ => ?_) ?_
    | with_reducible refine OptFoot.some ?_
    | with_reducible exact OptFoot.none
    | with_reducible refine OutFoot.next ?_
    | with_reducible refine OptFoot.getD ?_ ?_
    | with_reducible refine PairFoot.snd ?_
    | with_reducible exact PairFoot.out (by assumption)
    | with_reducible refine PairFoot.eq (by assumption) ?_
    | with_reducible refine OptFoot.eq (by assumption) ?_
    | with_reducible refine ExFoot.eq (by assumption) ?_
    | ((with_reducible refine Foot.lit ?_ rfl rfl ?_ ?_ ?_ ?_ ?_ ?_); rotate_left; rfl; rfl; rfl; rfl; (first | exact Nat.le_refl _ | exact Nat.le_succ _); (constructor <;> first | with_reducible exact Kept.same | exact Kept.masked rfl); (first | with_reducible assumption | with_reducible refine foot_motIlm rfl ?_ .. | with_reducible refine foot_ilmEval rfl ?_ .. | with_reducible refine foot_modChan rfl ?_ .. | with_reducible refine foot_raise rfl ?_ .. | with_reducible refine foot_blockCrc rfl ?_ .. | with_reducible refine foot_deliverFio rfl ?_ .. | with_reducible refine Foot.foldl (fun _ _ _ => ?_) ?_ | with_reducible refine PairFoot.foldl (fun _ _ _ => ?_) ?_ | with_reducible apply Foot.ite | with_reducible apply PairFoot.ite | with_reducible apply OptFoot.ite | with_reducible apply OutFoot.ite | with_reducible apply ExFoot.ite | with_reducible exact ExFoot.error | with_reducible refine ExFoot.ok ?_ | with_reducible refine PairFoot.forL (fun _ _ _ => ?_) ?_ | with_reducible refine PairFoot.forN (fun _ _ _ => ?_) ?_ | with_reducible refine OptFoot.some ?_ | with_reducible exact OptFoot.none | with_reducible refine OutFoot.next ?_ | with_reducible refine OptFoot.getD ?_ ?_ | with_reducible refine PairFoot.snd ?_))
    | split
    | with_reducible refine PairFoot.mk ?_
    | dsimp only

theorem foot_execUpstreamEscape {m : Nat} {z t : State} (hs : 0x72290100a6ea4f80 ||| m = m) (h : Foot m z t) (a0 : _) (a1 : _) :
    OutFoot m z (execUpstreamEscape a0 a1 t) := by
  refine OutFoot.step (m := 0x72290100a6ea4f80) ?_ hs h
  clear h hs
  have h := Foot.refl 0x72290100a6ea4f80 t
  unfold execUpstreamEscape
  repeat' first
    | with_reducible assumption
    | (intro x; first
        | (refine Foot.cut (P := Foot 0x72290100a6ea4f80 t x) ?_ ?_; rotate_left; subst x; rotate_left; intro hx; clear_value x)
        | (refine Foot.cut (P := PairFoot 0x72290100a6ea4f80 t x) ?_ ?_; rotate_left; subst x; rotate_left; intro hx; clear_value x)
        | (refine Foot.cut (P := OptFoot 0x72290100a6ea4f80 t x) ?_ ?_; rotate_left; subst x; rotate_left; intro hx; clear_value x)
        | (have hf := x.programmed; clear hf)
        | clear_value x
        | skip)
    | lift_lets
    | with_reducible refine foot_ilmEval rfl ?_ ..
    | with_reducible refine foot_modChan rfl ?_ ..
    | with_reducible refine Foot.foldl (fun _ _ _ => ?_) ?_
    | with_reducible refine PairFoot.foldl (fun _ _ _ => ?_) ?_
    | with_reducible apply Foot.ite
    | with_reducible apply PairFoot.ite
    | with_reducible apply OptFoot.ite
    | with_reducible apply OutFoot.ite
    | with_reducible apply ExFoot.ite
    | with_reducible exact ExFoot.error
    | with_reducible refine ExFoot.ok ?_
    | with_reducible refine PairFoot.forL (fun _ _ _ => ?_) ?_
    | with_reducible refine PairFoot.forN (fun _ _ _ => ?_) ?_
    | with_reducible refine OptFoot.some ?_
    | with_reducible exact OptFoot.none
    | with_reducible refine OutFoot.next ?_
    | with_reducible refine OptFoot.getD ?_ ?_
    | with_reducible refine PairFoot.snd ?_
    | with_reducible exact PairFoot.out (by assumption)
    | with_reducible refine PairFoot.eq (by assumption) ?_
    | with_reducible refine OptFoot.eq (by assumption) ?_
    | with_reducible refine ExFoot.eq (by assumption) ?_
    | ((with_reducible refine Foot.lit ?_ rfl rfl ?_ ?_ ?_ ?_ ?_ ?_); rotate_left; rfl; rfl; rfl; rfl; (first | exact Nat.le_refl _ | exact Nat.le_succ _); (constructor <;> first | with_reducible exact Kept.same | exact Kept.masked rfl); (first | with_reducible assumption | with_reducible refine foot_ilmEval rfl ?_ .. | with_reducible refine foot_modChan rfl ?_ .. | with_reducible refine Foot.foldl (fun _ _ _ => ?_) ?_ | with_reducible refine PairFoot.foldl (fun _ _ _ => ?_) ?_ | with_reducible apply Foot.ite | with_reducible apply PairFoot.ite | with_reducible apply OptFoot.ite | with_reducible apply OutFoot.ite | with_reducible apply ExFoot.ite | with_reducible exact ExFoot.error | with_reducible refine ExFoot.ok ?_ | with_reducible refine PairFoot.forL (fun _ _ _ => ?_) ?_ | with_reducible refine PairFoot.forN (fun _ _ _ => ?_) ?_ | with_reducible refine OptFoot.some ?_ | with_reducible exact OptFoot.none | with_reducible refine OutFoot.next ?_ | with_reducible refine OptFoot.getD ?_ ?_ | with_reducible refine PairFoot.snd ?_))
    | split
    | with_reducible refine PairFoot.mk ?_
    | dsimp only

theorem foot_dacUpdate {m : Nat} {z t : State} (hs : 0x200000 ||| m = m) (h : Foot m z t) (a0 : _) :
    Foot m z (State.dacUpdate a0 t) := by
  refine Foot.step (m := 0x200000) ?_ hs h
  clear h hs
  have h := Foot.refl 0x200000 t
  unfold State.dacUpdate
  repeat' first
    | with_reducible assumption
    | (intro x; first
        | (refine Foot.cut (P := Foot 0x200000 t x) ?_ ?_; rotate_left; subst x; rotate_left; intro hx; clear_value x)
        | (refine Foot.cut (P := PairFoot 0x200000 t x) ?_ ?_; rotate_left; subst x; rotate_left; intro hx; clear_value x)
        | (refine Foot.cut (P := OptFoot 0x200000 t x) ?_ ?_; rotate_left; subst x; rotate_left; intro hx; clear_value x)
        | (have hf := x.programmed; clear hf)
        | clear_value x
        | skip)
    | lift_lets
    | with_reducible refine foot_modChan rfl ?_ ..
    | with_reducible refine Foot.foldl (fun _ _ _ => ?_) ?_
    | with_reducible refine PairFoot.foldl (fun _ _ _ => ?_) ?_
    | with_reducible apply Foot.ite
    | with_reducible apply PairFoot.ite
    | with_reducible apply OptFoot.ite
    | with_reducible apply OutFoot.ite
    | with_reducible apply ExFoot.ite
    | with_reducible exact ExFoot.error
    | with_reducible refine ExFoot.ok ?_
    | with_reducible refine PairFoot.forL (fun _ _ _ => ?_) ?_
    | with_reducible refine PairFoot.forN (fun _ _ _ => ?_) ?_
    | with_reducible refine OptFoot.some ?_
    | with_reducible exact OptFoot.none
    | with_reducible refine OutFoot.next ?_
    | with_reducible refine OptFoot.getD ?_ ?_
    | with_reducible refine PairFoot.snd ?_
    | with_reducible exact PairFoot.out (by assumption)
    | with_reducible refine PairFoot.eq (by assumption) ?_
    | with_reducible refine OptFoot.eq (by assumption) ?_
    | with_reducible refine ExFoot.eq (by assumption) ?_
    | ((with_reducible refine Foot.lit ?_ rfl rfl ?_ ?_ ?_ ?_ ?_ ?_); rotate_left; rfl; rfl; rfl; rfl; (first | exact Nat.le_refl _ | exact Nat.le_succ _); (constructor <;> first | with_reducible exact Kept.same | exact Kept.masked rfl); (first | with_reducible assumption | with_reducible refine foot_modChan rfl ?_ .. | with_reducible refine Foot.foldl (fun _ _ _ => ?_) ?_ | with_reducible refine PairFoot.foldl (fun _ _ _ => ?_) ?_ | with_reducible apply Foot.ite | with_reducible apply PairFoot.ite | with_reducible apply OptFoot.ite | with_reducible apply OutFoot.ite | with_reducible apply ExFoot.ite | with_reducible exact ExFoot.error | with_reducible refine ExFoot.ok ?_ | with_reducible refine PairFoot.forL (fun _ _ _ => ?_) ?_ | with_reducible refine PairFoot.forN (fun _ _ _ => ?_) ?_ | with_reducible refine OptFoot.some ?_ | with_reducible exact OptFoot.none | with_reducible refine OutFoot.next ?_ | with_reducible refine OptFoot.getD ?_ ?_ | with_reducible refine PairFoot.snd ?_))
    | split
    | with_reducible refine PairFoot.mk ?_
    | dsimp only

theorem foot_takeGlobal {m : Nat} {z t : State} (hs : 0x200000 ||| m = m) (h : Foot m z t) (a0 : _) :
    Foot m z (State.takeGlobal a0 t) := by
  refine Foot.step (m := 0x200000) ?_ hs h
  clear h hs
  have h := Foot.refl 0x200000 t
  unfold State.takeGlobal
  repeat' first
    | with_reducible assumption
    | (intro x; first
        | (refine Foot.cut (P := Foot 0x200000 t x) ?_ ?_; rotate_left; subst x; rotate_left; intro hx; clear_value x)
        | (refine Foot.cut (P := PairFoot 0x200000 t x) ?_ ?_; rotate_left; subst x; rotate_left; intro hx; clear_value x)
        | (refine Foot.cut (P := OptFoot 0x200000 t x) ?_ ?_; rotate_left; subst x; rotate_left; intro hx; clear_value x)
        | (have hf := x.programmed; clear hf)
        | clear_value x
        | skip)
    | lift_lets
    | with_reducible refine foot_modChan rfl ?_ ..
    | with_reducible refine Foot.foldl (fun _ _ _ => ?_) ?_
    | with_reducible refine PairFoot.foldl (fun _ _ _ => ?_) ?_
    | with_reducible apply Foot.ite
    | with_reducible apply PairFoot.ite
    | with_reducible apply OptFoot.ite
    | with_reducible apply OutFoot.ite
    | with_reducible apply ExFoot.ite
    | with_reducible exact ExFoot.error
    | with_reducible refine ExFoot.ok ?_
    | with_reducible refine PairFoot.forL (fun _ _ _ => ?_) ?_
    | with_reducible refine PairFoot.forN (fun _ _ _ => ?_) ?_
    | with_reducible refine OptFoot.some ?_
    | with_reducible exact OptFoot.none
    | with_reducible refine OutFoot.next ?_
    | with_reducible refine OptFoot.getD ?_ ?_
    | with_reducible refine PairFoot.snd ?_
    | with_reducible exact PairFoot.out (by assumption)
    | with_reducible refine PairFoot.eq (by assumption) ?_
    | with_reducible refine OptFoot.eq (by assumption) ?_
    | with_reducible refine ExFoot.eq (by assumption) ?_
    | ((with_reducible refine Foot.lit ?_ rfl rfl ?_ ?_ ?_ ?_ ?_ ?_); rotate_left; rfl; rfl; rfl; rfl; (first | exact Nat.le_refl _ | exact Nat.le_succ _); (constructor <;> first | with_reducible exact Kept.same | exact Kept.masked rfl); (first | with_reducible assumption | with_reducible refine foot_modChan rfl ?_ .. | with_reducible refine Foot.foldl (fun _ _ _ => ?_) ?_ | with_reducible refine PairFoot.foldl (fun _ _ _ => ?_) ?_ | with_reducible apply Foot.ite | with_reducible apply PairFoot.ite | with_reducible apply OptFoot.ite | with_reducible apply OutFoot.ite | with_reducible apply ExFoot.ite | with_reducible exact ExFoot.error | with_reducible refine ExFoot.ok ?_ | with_reducible refine PairFoot.forL (fun _ _ _ => ?_) ?_ | with_reducible refine PairFoot.forN (fun _ _ _ => ?_) ?_ | with_reducible refine OptFoot.some ?_ | with_reducible exact OptFoot.none | with_reducible refine OutFoot.next ?_ | with_reducible refine OptFoot.getD ?_ ?_ | with_reducible refine PairFoot.snd ?_))
    | split
    | with_reducible refine PairFoot.mk ?_
    | dsimp only

theorem foot_promoteAout {m : Nat} {z t : State} (hs : 0x80000 ||| m = m) (h : Foot m z t) (a0 : _) :
    Foot m z (State.promoteAout a0 t) := by
  refine Foot.step (m := 0x80000) ?_ hs h
  clear h hs
  have h := Foot.refl 0x80000 t
  unfold State.promoteAout
  repeat' first
    | with_reducible assumption
    | (intro x; first | clear_value x | skip)
    | lift_lets
    | ((with_reducible refine Foot.lit ?_ rfl rfl ?_ ?_ ?_ ?_ ?_ ?_); rotate_left; rfl; rfl; rfl; rfl; (first | exact Nat.le_refl _ | exact Nat.le_succ _); (constructor <;> first | with_reducible exact Kept.same | exact Kept.masked rfl); (first | with_reducible assumption))
    | split
    | dsimp only

theorem foot_tickMisses {m : Nat} {z t : State} (hs : 0x800000000080000 ||| m = m) (h : Foot m z t) (a0 : _) :
    Foot m z (State.tickMisses a0 t) := by
  refine Foot.step (m := 0x800000000080000) ?_ hs h
  clear h hs
  have h := Foot.refl 0x800000000080000 t
  unfold State.tickMisses
  repeat' first
    | with_reducible assumption
    | (intro x; first | (refine Foot.cut (P := Foot 0x800000000080000 t x) ?_ ?_; rotate_left; subst x; rotate_left; intro hx; clear_value x) | clear_value x | skip)
    | lift_lets
    | with_reducible refine foot_incSat (blk_LE_SLOTSTAT_DLMISS ..) rfl ?_ ..
    | with_reducible apply Foot.ite
    | ((with_reducible refine Foot.lit ?_ rfl rfl ?_ ?_ ?_ ?_ ?_ ?_); rotate_left; rfl; rfl; rfl; rfl; (first | exact Nat.le_refl _ | exact Nat.le_succ _); (constructor <;> first | with_reducible exact Kept.same | exact Kept.masked rfl); (first | with_reducible assumption | with_reducible refine foot_incSat (blk_LE_SLOTSTAT_DLMISS ..) rfl ?_ .. | with_reducible apply Foot.ite))
    | split
    | dsimp only

theorem foot_tickOutputs {m : Nat} {z t : State} (hs : 0x800000000280000 ||| m = m) (h : Foot m z t) (a0 : _) :
    Foot m z (State.tickOutputs a0 t) := by
  refine Foot.step (m := 0x800000000280000) ?_ hs h
  clear h hs
  have h := Foot.refl 0x800000000280000 t
  unfold State.tickOutputs
  repeat' first
    | with_reducible assumption
    | (intro x; first
        | (refine Foot.cut (P := Foot 0x800000000280000 t x) ?_ ?_; rotate_left; subst x; rotate_left; intro hx; clear_value x)
        | (refine Foot.cut (P := PairFoot 0x800000000280000 t x) ?_ ?_; rotate_left; subst x; rotate_left; intro hx; clear_value x)
        | (refine Foot.cut (P := OptFoot 0x800000000280000 t x) ?_ ?_; rotate_left; subst x; rotate_left; intro hx; clear_value x)
        | (have hf := x.programmed; clear hf)
        | clear_value x
        | skip)
    | lift_lets
    | with_reducible refine foot_modChan rfl ?_ ..
    | with_reducible refine foot_promoteAout rfl ?_ ..
    | with_reducible refine foot_tickMisses rfl ?_ ..
    | with_reducible refine Foot.foldl (fun _ _ _ => ?_) ?_
    | with_reducible refine PairFoot.foldl (fun _ _ _ => ?_) ?_
    | with_reducible apply Foot.ite
    | with_reducible apply PairFoot.ite
    | with_reducible apply OptFoot.ite
    | with_reducible apply OutFoot.ite
    | with_reducible apply ExFoot.ite
    | with_reducible exact ExFoot.error
    | with_reducible refine ExFoot.ok ?_
    | with_reducible refine PairFoot.forL (fun _ _ _ => ?_) ?_
    | with_reducible refine PairFoot.forN (fun _ _ _ => ?_) ?_
    | with_reducible refine OptFoot.some ?_
    | with_reducible exact OptFoot.none
    | with_reducible refine OutFoot.next ?_
    | with_reducible refine OptFoot.getD ?_ ?_
    | with_reducible refine PairFoot.snd ?_
    | with_reducible exact PairFoot.out (by assumption)
    | with_reducible refine PairFoot.eq (by assumption) ?_
    | with_reducible refine OptFoot.eq (by assumption) ?_
    | with_reducible refine ExFoot.eq (by assumption) ?_
    | ((with_reducible refine Foot.lit ?_ rfl rfl ?_ ?_ ?_ ?_ ?_ ?_); rotate_left; rfl; rfl; rfl; rfl; (first | exact Nat.le_refl _ | exact Nat.le_succ _); (constructor <;> first | with_reducible exact Kept.same | exact Kept.masked rfl); (first | with_reducible assumption | with_reducible refine foot_modChan rfl ?_ .. | with_reducible refine foot_promoteAout rfl ?_ .. | with_reducible refine foot_tickMisses rfl ?_ .. | with_reducible refine Foot.foldl (fun _ _ _ => ?_) ?_ | with_reducible refine PairFoot.foldl (fun _ _ _ => ?_) ?_ | with_reducible apply Foot.ite | with_reducible apply PairFoot.ite | with_reducible apply OptFoot.ite | with_reducible apply OutFoot.ite | with_reducible apply ExFoot.ite | with_reducible exact ExFoot.error | with_reducible refine ExFoot.ok ?_ | with_reducible refine PairFoot.forL (fun _ _ _ => ?_) ?_ | with_reducible refine PairFoot.forN (fun _ _ _ => ?_) ?_ | with_reducible refine OptFoot.some ?_ | with_reducible exact OptFoot.none | with_reducible refine OutFoot.next ?_ | with_reducible refine OptFoot.getD ?_ ?_ | with_reducible refine PairFoot.snd ?_))
    | split
    | with_reducible refine PairFoot.mk ?_
    | dsimp only

theorem foot_execDownstreamOutputBlock {m : Nat} {z t : State} (hs : 0x7a280900a4ea4f80 ||| m = m) (h : Foot m z t) (a0 : _) (a1 : _) :
    OutFoot m z (execDownstreamOutputBlock a0 a1 t) := by
  refine OutFoot.step (m := 0x7a280900a4ea4f80) ?_ hs h
  clear h hs
  have h := Foot.refl 0x7a280900a4ea4f80 t
  unfold execDownstreamOutputBlock
  repeat' first
    | with_reducible assumption
    | (intro x; first
        | (refine Foot.cut (P := Foot 0x7a280900a4ea4f80 t x) ?_ ?_; rotate_left; subst x; rotate_left; intro hx; clear_value x)
        | (refine Foot.cut (P := PairFoot 0x7a280900a4ea4f80 t x) ?_ ?_; rotate_left; subst x; rotate_left; intro hx; clear_value x)
        | (refine Foot.cut (P := OptFoot 0x7a280900a4ea4f80 t x) ?_ ?_; rotate_left; subst x; rotate_left; intro hx; clear_value x)
        | (have hf := x.programmed; clear hf)
        | clear_value x
        | skip)
    | lift_lets
    | with_reducible refine foot_tickOutputs rfl ?_ ..
    | with_reducible refine foot_modChan rfl ?_ ..
    | with_reducible refine foot_dacUpdate rfl ?_ ..
    | with_reducible refine foot_promoteAout rfl ?_ ..
    | with_reducible refine foot_raise rfl ?_ ..
    | with_reducible refine foot_blockCrc rfl ?_ ..
    | with_reducible refine foot_takeGlobal rfl ?_ ..
    | with_reducible refine Foot.foldl (fun _ _ _ => ?_) ?_
    | with_reducible refine PairFoot.foldl (fun _ _ _ => ?_) ?_
    | with_reducible apply Foot.ite
    | with_reducible apply PairFoot.ite
    | with_reducible apply OptFoot.ite
    | with_reducible apply OutFoot.ite
    | with_reducible apply ExFoot.ite
    | with_reducible exact ExFoot.error
    | with_reducible refine ExFoot.ok ?_
    | with_reducible refine PairFoot.forL (fun _ _ _ => ?_) ?_
    | with_reducible refine PairFoot.forN (fun _ _ _ => ?_) ?_
    | with_reducible refine OptFoot.some ?_
    | with_reducible exact OptFoot.none
    | with_reducible refine OutFoot.next ?_
    | with_reducible refine OptFoot.getD ?_ ?_
    | with_reducible refine PairFoot.snd ?_
    | with_reducible exact PairFoot.out (by assumption)
    | with_reducible refine PairFoot.eq (by assumption) ?_
    | with_reducible refine OptFoot.eq (by assumption) ?_
    | with_reducible refine ExFoot.eq (by assumption) ?_
    | ((with_reducible refine Foot.lit ?_ rfl rfl ?_ ?_ ?_ ?_ ?_ ?_); rotate_left; rfl; rfl; rfl; rfl; (first | exact Nat.le_refl _ | exact Nat.le_succ _); (constructor <;> first | with_reducible exact Kept.same | exact Kept.masked rfl); (first | with_reducible assumption | with_reducible refine foot_tickOutputs rfl ?_ .. | with_reducible refine foot_modChan rfl ?_ .. | with_reducible refine foot_dacUpdate rfl ?_ .. | with_reducible refine foot_promoteAout rfl ?_ .. | with_reducible refine foot_raise rfl ?_ .. | with_reducible refine foot_blockCrc rfl ?_ .. | with_reducible refine foot_takeGlobal rfl ?_ .. | with_reducible refine Foot.foldl (fun _ _ _ => ?_) ?_ | with_reducible refine PairFoot.foldl (fun _ _ _ => ?_) ?_ | with_reducible apply Foot.ite | with_reducible apply PairFoot.ite | with_reducible apply OptFoot.ite | with_reducible apply OutFoot.ite | with_reducible apply ExFoot.ite | with_reducible exact ExFoot.error | with_reducible refine ExFoot.ok ?_ | with_reducible refine PairFoot.forL (fun _ _ _ => ?_) ?_ | with_reducible refine PairFoot.forN (fun _ _ _ => ?_) ?_ | with_reducible refine OptFoot.some ?_ | with_reducible exact OptFoot.none | with_reducible refine OutFoot.next ?_ | with_reducible refine OptFoot.getD ?_ ?_ | with_reducible refine PairFoot.snd ?_))
    | split
    | with_reducible refine PairFoot.mk ?_
    | dsimp only

theorem foot_execDownstreamStepBlock {m : Nat} {z t : State} (hs : 0x72280900a4ea4f80 ||| m = m) (h : Foot m z t) (a0 : _) (a1 : _) :
    OutFoot m z (execDownstreamStepBlock a0 a1 t) := by
  refine OutFoot.step (m := 0x72280900a4ea4f80) ?_ hs h
  clear h hs
  have h := Foot.refl 0x72280900a4ea4f80 t
  unfold execDownstreamStepBlock
  repeat' first
    | with_reducible assumption
    | (intro x; first
        | (refine Foot.cut (P := Foot 0x72280900a4ea4f80 t x) ?_ ?_; rotate_left; subst x; rotate_left; intro hx; clear_value x)
        | (refine Foot.cut (P := PairFoot 0x72280900a4ea4f80 t x) ?_ ?_; rotate_left; subst x; rotate_left; intro hx; clear_value x)
        | (refine Foot.cut (P := OptFoot 0x72280900a4ea4f80 t x) ?_ ?_; rotate_left; subst x; rotate_left; intro hx; clear_value x)
        | (have hf := x.programmed; clear hf)
        | clear_value x
        | skip)
    | lift_lets
    | with_reducible refine foot_modChan rfl ?_ ..
    | with_reducible refine foot_raise rfl ?_ ..
    | with_reducible refine foot_blockCrc rfl ?_ ..
    | with_reducible refine Foot.foldl (fun _ _ _ => ?_) ?_
    | with_reducible refine PairFoot.foldl (fun _ _ _ => ?_) ?_
    | with_reducible apply Foot.ite
    | with_reducible apply PairFoot.ite
    | with_reducible apply OptFoot.ite
    | with_reducible apply OutFoot.ite
    | with_reducible apply ExFoot.ite
    | with_reducible exact ExFoot.error
    | with_reducible refine ExFoot.ok ?_
    | with_reducible refine PairFoot.forL (fun _ _ _ => ?_) ?_
    | with_reducible refine PairFoot.forN (fun _ _ _ => ?_) ?_
    | with_reducible refine OptFoot.some ?_
    | with_reducible exact OptFoot.none
    | with_reducible refine OutFoot.next ?_
    | with_reducible refine OptFoot.getD ?_ ?_
    | with_reducible refine PairFoot.snd ?_
    | with_reducible exact PairFoot.out (by assumption)
    | with_reducible refine PairFoot.eq (by assumption) ?_
    | with_reducible refine OptFoot.eq (by assumption) ?_
    | with_reducible refine ExFoot.eq (by assumption) ?_
    | ((with_reducible refine Foot.lit ?_ rfl rfl ?_ ?_ ?_ ?_ ?_ ?_); rotate_left; rfl; rfl; rfl; rfl; (first | exact Nat.le_refl _ | exact Nat.le_succ _); (constructor <;> first | with_reducible exact Kept.same | exact Kept.masked rfl); (first | with_reducible assumption | with_reducible refine foot_modChan rfl ?_ .. | with_reducible refine foot_raise rfl ?_ .. | with_reducible refine foot_blockCrc rfl ?_ .. | with_reducible refine Foot.foldl (fun _ _ _ => ?_) ?_ | with_reducible refine PairFoot.foldl (fun _ _ _ => ?_) ?_ | with_reducible apply Foot.ite | with_reducible apply PairFoot.ite | with_reducible apply OptFoot.ite | with_reducible apply OutFoot.ite | with_reducible apply ExFoot.ite | with_reducible exact ExFoot.error | with_reducible refine ExFoot.ok ?_ | with_reducible refine PairFoot.forL (fun _ _ _ => ?_) ?_ | with_reducible refine PairFoot.forN (fun _ _ _ => ?_) ?_ | with_reducible refine OptFoot.some ?_ | with_reducible exact OptFoot.none | with_reducible refine OutFoot.next ?_ | with_reducible refine OptFoot.getD ?_ ?_ | with_reducible refine PairFoot.snd ?_))
    | split
    | with_reducible refine PairFoot.mk ?_
    | dsimp only

theorem foot_execDownstreamEscape {m : Nat} {z t : State} (hs : 0x200000 ||| m = m) (h : Foot m z t) (a0 : _) (a1 : _) :
    OutFoot m z (execDownstreamEscape a0 a1 t) := by
  refine OutFoot.step (m := 0x200000) ?_ hs h
  clear h hs
  have h := Foot.refl 0x200000 t
  unfold execDownstreamEscape
  repeat' first
    | with_reducible assumption
    | (intro x; first
        | (refine Foot.cut (P := Foot 0x200000 t x) ?_ ?_; rotate_left; subst x; rotate_left; intro hx; clear_value x)
        | (refine Foot.cut (P := PairFoot 0x200000 t x) ?_ ?_; rotate_left; subst x; rotate_left; intro hx; clear_value x)
        | (refine Foot.cut (P := OptFoot 0x200000 t x) ?_ ?_; rotate_left; subst x; rotate_left; intro hx; clear_value x)
        | (have hf := x.programmed; clear hf)
        | clear_value x
        | skip)
    | lift_lets
    | with_reducible refine foot_modChan rfl ?_ ..
    | with_reducible refine foot_takeGlobal rfl ?_ ..
    | with_reducible refine Foot.foldl (fun _ _ _ => ?_) ?_
    | with_reducible refine PairFoot.foldl (fun _ _ _ => ?_) ?_
    | with_reducible apply Foot.ite
    | with_reducible apply PairFoot.ite
    | with_reducible apply OptFoot.ite
    | with_reducible apply OutFoot.ite
    | with_reducible apply ExFoot.ite
    | with_reducible exact ExFoot.error
    | with_reducible refine ExFoot.ok ?_
    | with_reducible refine PairFoot.forL (fun _ _ _ => ?_) ?_
    | with_reducible refine PairFoot.forN (fun _ _ _ => ?_) ?_
    | with_reducible refine OptFoot.some ?_
    | with_reducible exact OptFoot.none
    | with_reducible refine OutFoot.next ?_
    | with_reducible refine OptFoot.getD ?_ ?_
    | with_reducible refine PairFoot.snd ?_
    | with_reducible exact PairFoot.out (by assumption)
    | with_reducible refine PairFoot.eq (by assumption) ?_
    | with_reducible refine OptFoot.eq (by assumption) ?_
    | with_reducible refine ExFoot.eq (by assumption) ?_
    | ((with_reducible refine Foot.lit ?_ rfl rfl ?_ ?_ ?_ ?_ ?_ ?_); rotate_left; rfl; rfl; rfl; rfl; (first | exact Nat.le_refl _ | exact Nat.le_succ _); (constructor <;> first | with_reducible exact Kept.same | exact Kept.masked rfl); (first | with_reducible assumption | with_reducible refine foot_modChan rfl ?_ .. | with_reducible refine foot_takeGlobal rfl ?_ .. | with_reducible refine Foot.foldl (fun _ _ _ => ?_) ?_ | with_reducible refine PairFoot.foldl (fun _ _ _ => ?_) ?_ | with_reducible apply Foot.ite | with_reducible apply PairFoot.ite | with_reducible apply OptFoot.ite | with_reducible apply OutFoot.ite | with_reducible apply ExFoot.ite | with_reducible exact ExFoot.error | with_reducible refine ExFoot.ok ?_ | with_reducible refine PairFoot.forL (fun _ _ _ => ?_) ?_ | with_reducible refine PairFoot.forN (fun _ _ _ => ?_) ?_ | with_reducible refine OptFoot.some ?_ | with_reducible exact OptFoot.none | with_reducible refine OutFoot.next ?_ | with_reducible refine OptFoot.getD ?_ ?_ | with_reducible refine PairFoot.snd ?_))
    | split
    | with_reducible refine PairFoot.mk ?_
    | dsimp only

theorem foot_execAoutUpdate {m : Nat} {z t : State} (hs : 0x200000 ||| m = m) (h : Foot m z t) (a0 : _) :
    OutFoot m z (execAoutUpdate a0 t) := by
  refine OutFoot.step (m := 0x200000) ?_ hs h
  clear h hs
  have h := Foot.refl 0x200000 t
  unfold execAoutUpdate
  repeat' first
    | with_reducible assumption
    | (intro x; first | clear_value x | skip)
    | lift_lets
    | with_reducible refine foot_dacUpdate rfl ?_ ..
    | with_reducible refine OutFoot.next ?_
    | split
    | dsimp only

theorem foot_average {m : Nat} {z t : State} (hs : 0x200008 ||| m = m) (h : Foot m z t) (a0 : _) (a1 : _) (a2 : _) (a3 : _) :
    Foot m z (State.average a0 a1 a2 a3 t) := by
  refine Foot.step (m := 0x200008) ?_ hs h
  clear h hs
  have h := Foot.refl 0x200008 t
  unfold State.average
  repeat' first
    | with_reducible assumption
    | (intro x; first
        | (refine Foot.cut (P := Foot 0x200008 t x) ?_ ?_; rotate_left; subst x; rotate_left; intro hx; clear_value x)
        | (refine Foot.cut (P := PairFoot 0x200008 t x) ?_ ?_; rotate_left; subst x; rotate_left; intro hx; clear_value x)
        | (refine Foot.cut (P := OptFoot 0x200008 t x) ?_ ?_; rotate_left; subst x; rotate_left; intro hx; clear_value x)
        | (have hf := x.programmed; clear hf)
        | clear_value x
        | skip)
    | lift_lets
    | with_reducible refine foot_modChan rfl ?_ ..
    | with_reducible refine foot_setWord rfl ?_ ..
    | with_reducible refine Foot.foldl (fun _ _ _ => ?_) ?_
    | with_reducible refine PairFoot.foldl (fun _ _ _ => ?_) ?_
    | with_reducible apply Foot.ite
    | with_reducible apply PairFoot.ite
    | with_reducible apply OptFoot.ite
    | with_reducible apply OutFoot.ite
    | with_reducible apply ExFoot.ite
    | with_reducible exact ExFoot.error
    | with_reducible refine ExFoot.ok ?_
    | with_reducible refine PairFoot.forL (fun _ _ _ => ?_) ?_
    | with_reducible refine PairFoot.forN (fun _ _ _ => ?_) ?_
    | with_reducible refine OptFoot.some ?_
    | with_reducible exact OptFoot.none
    | with_reducible refine OutFoot.next ?_
    | with_reducible refine OptFoot.getD ?_ ?_
    | with_reducible refine PairFoot.snd ?_
    | with_reducible exact PairFoot.out (by assumption)
    | with_reducible refine PairFoot.eq (by assumption) ?_
    | with_reducible refine OptFoot.eq (by assumption) ?_
    | with_reducible refine ExFoot.eq (by assumption) ?_
    | ((with_reducible refine Foot.lit ?_ rfl rfl ?_ ?_ ?_ ?_ ?_ ?_); rotate_left; rfl; rfl; rfl; rfl; (first | exact Nat.le_refl _ | exact Nat.le_succ _); (constructor <;> first | with_reducible exact Kept.same | exact Kept.masked rfl); (first | with_reducible assumption | with_reducible refine foot_modChan rfl ?_ .. | with_reducible refine foot_setWord rfl ?_ .. | with_reducible refine Foot.foldl (fun _ _ _ => ?_) ?_ | with_reducible refine PairFoot.foldl (fun _ _ _ => ?_) ?_ | with_reducible apply Foot.ite | with_reducible apply PairFoot.ite | with_reducible apply OptFoot.ite | with_reducible apply OutFoot.ite | with_reducible apply ExFoot.ite | with_reducible exact ExFoot.error | with_reducible refine ExFoot.ok ?_ | with_reducible refine PairFoot.forL (fun _ _ _ => ?_) ?_ | with_reducible refine PairFoot.forN (fun _ _ _ => ?_) ?_ | with_reducible refine OptFoot.some ?_ | with_reducible exact OptFoot.none | with_reducible refine OutFoot.next ?_ | with_reducible refine OptFoot.getD ?_ ?_ | with_reducible refine PairFoot.snd ?_))
    | split
    | with_reducible refine PairFoot.mk ?_
    | dsimp only

theorem foot_publish {m : Nat} {z t : State} (hs : 0x200008 ||| m = m) (h : Foot m z t) (a0 : _) :
    PairFoot m z (State.publish a0 t) := by
  refine PairFoot.step (m := 0x200008) ?_ hs h
  clear h hs
  have h := Foot.refl 0x200008 t
  unfold State.publish
  repeat' first
    | with_reducible assumption
    | (intro x; first
        | (refine Foot.cut (P := Foot 0x200008 t x) ?_ ?_; rotate_left; subst x; rotate_left; intro hx; clear_value x)
        | (refine Foot.cut (P := PairFoot 0x200008 t x) ?_ ?_; rotate_left; subst x; rotate_left; intro hx; clear_value x)
        | (refine Foot.cut (P := OptFoot 0x200008 t x) ?_ ?_; rotate_left; subst x; rotate_left; intro hx; clear_value x)
        | (have hf := x.programmed; clear hf)
        | clear_value x
        | skip)
    | lift_lets
    | with_reducible refine foot_average rfl ?_ ..
    | with_reducible refine foot_modChan rfl ?_ ..
    | with_reducible refine foot_setWord rfl ?_ ..
    | with_reducible refine Foot.foldl (fun _ _ _ => ?_) ?_
    | with_reducible refine PairFoot.foldl (fun _ _ _ => ?_) ?_
    | with_reducible apply Foot.ite
    | with_reducible apply PairFoot.ite
    | with_reducible apply OptFoot.ite
    | with_reducible apply OutFoot.ite
    | with_reducible apply ExFoot.ite
    | with_reducible exact ExFoot.error
    | with_reducible refine ExFoot.ok ?_
    | with_reducible refine PairFoot.forL (fun _ _ _ => ?_) ?_
    | with_reducible refine PairFoot.forN (fun _ _ _ => ?_) ?_
    | with_reducible refine OptFoot.some ?_
    | with_reducible exact OptFoot.none
    | with_reducible refine OutFoot.next ?_
    | with_reducible refine OptFoot.getD ?_ ?_
    | with_reducible refine PairFoot.snd ?_
    | with_reducible exact PairFoot.out (by assumption)
    | with_reducible refine PairFoot.eq (by assumption) ?_
    | with_reducible refine OptFoot.eq (by assumption) ?_
    | with_reducible refine ExFoot.eq (by assumption) ?_
    | ((with_reducible refine Foot.lit ?_ rfl rfl ?_ ?_ ?_ ?_ ?_ ?_); rotate_left; rfl; rfl; rfl; rfl; (first | exact Nat.le_refl _ | exact Nat.le_succ _); (constructor <;> first | with_reducible exact Kept.same | exact Kept.masked rfl); (first | with_reducible assumption | with_reducible refine foot_average rfl ?_ .. | with_reducible refine foot_modChan rfl ?_ .. | with_reducible refine foot_setWord rfl ?_ .. | with_reducible refine Foot.foldl (fun _ _ _ => ?_) ?_ | with_reducible refine PairFoot.foldl (fun _ _ _ => ?_) ?_ | with_reducible apply Foot.ite | with_reducible apply PairFoot.ite | with_reducible apply OptFoot.ite | with_reducible apply OutFoot.ite | with_reducible apply ExFoot.ite | with_reducible exact ExFoot.error | with_reducible refine ExFoot.ok ?_ | with_reducible refine PairFoot.forL (fun _ _ _ => ?_) ?_ | with_reducible refine PairFoot.forN (fun _ _ _ => ?_) ?_ | with_reducible refine OptFoot.some ?_ | with_reducible exact OptFoot.none | with_reducible refine OutFoot.next ?_ | with_reducible refine OptFoot.getD ?_ ?_ | with_reducible refine PairFoot.snd ?_))
    | split
    | with_reducible refine PairFoot.mk ?_
    | dsimp only

theorem foot_rangeStart {m : Nat} {z t : State} (hs : 0x72290100a6ea4f80 ||| m = m) (h : Foot m z t) (a0 : _) :
    Foot m z (State.rangeStart a0 t) := by
  refine Foot.step (m := 0x72290100a6ea4f80) ?_ hs h
  clear h hs
  have h := Foot.refl 0x72290100a6ea4f80 t
  unfold State.rangeStart
  repeat' first
    | with_reducible assumption
    | (intro x; first
        | (refine Foot.cut (P := Foot 0x72290100a6ea4f80 t x) ?_ ?_; rotate_left; subst x; rotate_left; intro hx; clear_value x)
        | (refine Foot.cut (P := PairFoot 0x72290100a6ea4f80 t x) ?_ ?_; rotate_left; subst x; rotate_left; intro hx; clear_value x)
        | (refine Foot.cut (P := OptFoot 0x72290100a6ea4f80 t x) ?_ ?_; rotate_left; subst x; rotate_left; intro hx; clear_value x)
        | (have hf := x.programmed; clear hf)
        | clear_value x
        | skip)
    | lift_lets
    | with_reducible refine foot_modChan rfl ?_ ..
    | with_reducible refine foot_chRefresh rfl ?_ ..
    | with_reducible refine Foot.foldl (fun _ _ _ => ?_) ?_
    | with_reducible refine PairFoot.foldl (fun _ _ _ => ?_) ?_
    | with_reducible apply Foot.ite
    | with_reducible apply PairFoot.ite
    | with_reducible apply OptFoot.ite
    | with_reducible apply OutFoot.ite
    | with_reducible apply ExFoot.ite
    | with_reducible exact ExFoot.error
    | with_reducible refine ExFoot.ok ?_
    | with_reducible refine PairFoot.forL (fun _ _ _ => ?_) ?_
    | with_reducible refine PairFoot.forN (fun _ _ _ => ?_) ?_
    | with_reducible refine OptFoot.some ?_
    | with_reducible exact OptFoot.none
    | with_reducible refine OutFoot.next ?_
    | with_reducible refine OptFoot.getD ?_ ?_
    | with_reducible refine PairFoot.snd ?_
    | with_reducible exact PairFoot.out (by assumption)
    | with_reducible refine PairFoot.eq (by assumption) ?_
    | with_reducible refine OptFoot.eq (by assumption) ?_
    | with_reducible refine ExFoot.eq (by assumption) ?_
    | ((with_reducible refine Foot.lit ?_ rfl rfl ?_ ?_ ?_ ?_ ?_ ?_); rotate_left; rfl; rfl; rfl; rfl; (first | exact Nat.le_refl _ | exact Nat.le_succ _); (constructor <;> first | with_reducible exact Kept.same | exact Kept.masked rfl); (first | with_reducible assumption | with_reducible refine foot_modChan rfl ?_ .. | with_reducible refine foot_chRefresh rfl ?_ .. | with_reducible refine Foot.foldl (fun _ _ _ => ?_) ?_ | with_reducible refine PairFoot.foldl (fun _ _ _ => ?_) ?_ | with_reducible apply Foot.ite | with_reducible apply PairFoot.ite | with_reducible apply OptFoot.ite | with_reducible apply OutFoot.ite | with_reducible apply ExFoot.ite | with_reducible exact ExFoot.error | with_reducible refine ExFoot.ok ?_ | with_reducible refine PairFoot.forL (fun _ _ _ => ?_) ?_ | with_reducible refine PairFoot.forN (fun _ _ _ => ?_) ?_ | with_reducible refine OptFoot.some ?_ | with_reducible exact OptFoot.none | with_reducible refine OutFoot.next ?_ | with_reducible refine OptFoot.getD ?_ ?_ | with_reducible refine PairFoot.snd ?_))
    | split
    | with_reducible refine PairFoot.mk ?_
    | dsimp only

theorem foot_chCfgWrite {m : Nat} {z t : State} (hs : 0x72290100a6ea4f80 ||| m = m) (h : Foot m z t) (a0 : _) (a1 : _) :
    Foot m z (State.chCfgWrite a0 a1 t) := by
  refine Foot.step (m := 0x72290100a6ea4f80) ?_ hs h
  clear h hs
  have h := Foot.refl 0x72290100a6ea4f80 t
  unfold State.chCfgWrite
  repeat' first
    | with_reducible assumption
    | (intro x; first
        | (refine Foot.cut (P := Foot 0x72290100a6ea4f80 t x) ?_ ?_; rotate_left; subst x; rotate_left; intro hx; clear_value x)
        | (refine Foot.cut (P := PairFoot 0x72290100a6ea4f80 t x) ?_ ?_; rotate_left; subst x; rotate_left; intro hx; clear_value x)
        | (refine Foot.cut (P := OptFoot 0x72290100a6ea4f80 t x) ?_ ?_; rotate_left; subst x; rotate_left; intro hx; clear_value x)
        | (have hf := x.programmed; clear hf)
        | clear_value x
        | skip)
    | lift_lets
    | with_reducible refine foot_modChan rfl ?_ ..
    | with_reducible refine foot_chRefresh rfl ?_ ..
    | with_reducible refine foot_rangeStart rfl ?_ ..
    | with_reducible refine foot_plainWrite (blk_CH_CFG_RANGE ..) rfl ?_ ..
    | with_reducible refine Foot.foldl (fun _ _ _ => ?_) ?_
    | with_reducible refine PairFoot.foldl (fun _ _ _ => ?_) ?_
    | with_reducible apply Foot.ite
    | with_reducible apply PairFoot.ite
    | with_reducible apply OptFoot.ite
    | with_reducible apply OutFoot.ite
    | with_reducible apply ExFoot.ite
    | with_reducible exact ExFoot.error
    | with_reducible refine ExFoot.ok ?_
    | with_reducible refine PairFoot.forL (fun _ _ _ => ?_) ?_
    | with_reducible refine PairFoot.forN (fun _ _ _ => ?_) ?_
    | with_reducible refine OptFoot.some ?_
    | with_reducible exact OptFoot.none
    | with_reducible refine OutFoot.next ?_
    | with_reducible refine OptFoot.getD ?_ ?_
    | with_reducible refine PairFoot.snd ?_
    | with_reducible exact PairFoot.out (by assumption)
    | with_reducible refine PairFoot.eq (by assumption) ?_
    | with_reducible refine OptFoot.eq (by assumption) ?_
    | with_reducible refine ExFoot.eq (by assumption) ?_
    | ((with_reducible refine Foot.lit ?_ rfl rfl ?_ ?_ ?_ ?_ ?_ ?_); rotate_left; rfl; rfl; rfl; rfl; (first | exact Nat.le_refl _ | exact Nat.le_succ _); (constructor <;> first | with_reducible exact Kept.same | exact Kept.masked rfl); (first | with_reducible assumption | with_reducible refine foot_modChan rfl ?_ .. | with_reducible refine foot_chRefresh rfl ?_ .. | with_reducible refine foot_rangeStart rfl ?_ .. | with_reducible refine foot_plainWrite (blk_CH_CFG_RANGE ..) rfl ?_ .. | with_reducible refine Foot.foldl (fun _ _ _ => ?_) ?_ | with_reducible refine PairFoot.foldl (fun _ _ _ => ?_) ?_ | with_reducible apply Foot.ite | with_reducible apply PairFoot.ite | with_reducible apply OptFoot.ite | with_reducible apply OutFoot.ite | with_reducible apply ExFoot.ite | with_reducible exact ExFoot.error | with_reducible refine ExFoot.ok ?_ | with_reducible refine PairFoot.forL (fun _ _ _ => ?_) ?_ | with_reducible refine PairFoot.forN (fun _ _ _ => ?_) ?_ | with_reducible refine OptFoot.some ?_ | with_reducible exact OptFoot.none | with_reducible refine OutFoot.next ?_ | with_reducible refine OptFoot.getD ?_ ?_ | with_reducible refine PairFoot.snd ?_))
    | split
    | with_reducible refine PairFoot.mk ?_
    | dsimp only

theorem foot_execRangeChange {m : Nat} {z t : State} (hs : 0x72290100a6ea4f80 ||| m = m) (h : Foot m z t) (a0 : _) (a1 : _) (a2 : _) :
    OutFoot m z (execRangeChange a0 a1 a2 t) := by
  refine OutFoot.step (m := 0x72290100a6ea4f80) ?_ hs h
  clear h hs
  have h := Foot.refl 0x72290100a6ea4f80 t
  unfold execRangeChange
  repeat' first
    | with_reducible assumption
    | (intro x; first | clear_value x | skip)
    | lift_lets
    | with_reducible refine foot_chCfgWrite rfl ?_ ..
    | with_reducible refine foot_onDie rfl (fun _ _ => ?_) ?_ ..
    | with_reducible refine OutFoot.next ?_
    | split
    | dsimp only

theorem foot_execRangeSettled {m : Nat} {z t : State} (hs : 0x72290100a6ea4f80 ||| m = m) (h : Foot m z t) (a0 : _) :
    OutFoot m z (execRangeSettled a0 t) := by
  refine OutFoot.step (m := 0x72290100a6ea4f80) ?_ hs h
  clear h hs
  have h := Foot.refl 0x72290100a6ea4f80 t
  unfold execRangeSettled
  repeat' first
    | with_reducible assumption
    | (intro x; first
        | (refine Foot.cut (P := Foot 0x72290100a6ea4f80 t x) ?_ ?_; rotate_left; subst x; rotate_left; intro hx; clear_value x)
        | (refine Foot.cut (P := PairFoot 0x72290100a6ea4f80 t x) ?_ ?_; rotate_left; subst x; rotate_left; intro hx; clear_value x)
        | (refine Foot.cut (P := OptFoot 0x72290100a6ea4f80 t x) ?_ ?_; rotate_left; subst x; rotate_left; intro hx; clear_value x)
        | (have hf := x.programmed; clear hf)
        | clear_value x
        | skip)
    | lift_lets
    | with_reducible refine foot_modChan rfl ?_ ..
    | with_reducible refine foot_chRefresh rfl ?_ ..
    | with_reducible refine Foot.foldl (fun _ _ _ => ?_) ?_
    | with_reducible refine PairFoot.foldl (fun _ _ _ => ?_) ?_
    | with_reducible apply Foot.ite
    | with_reducible apply PairFoot.ite
    | with_reducible apply OptFoot.ite
    | with_reducible apply OutFoot.ite
    | with_reducible apply ExFoot.ite
    | with_reducible exact ExFoot.error
    | with_reducible refine ExFoot.ok ?_
    | with_reducible refine PairFoot.forL (fun _ _ _ => ?_) ?_
    | with_reducible refine PairFoot.forN (fun _ _ _ => ?_) ?_
    | with_reducible refine OptFoot.some ?_
    | with_reducible exact OptFoot.none
    | with_reducible refine OutFoot.next ?_
    | with_reducible refine OptFoot.getD ?_ ?_
    | with_reducible refine PairFoot.snd ?_
    | with_reducible exact PairFoot.out (by assumption)
    | with_reducible refine PairFoot.eq (by assumption) ?_
    | with_reducible refine OptFoot.eq (by assumption) ?_
    | with_reducible refine ExFoot.eq (by assumption) ?_
    | ((with_reducible refine Foot.lit ?_ rfl rfl ?_ ?_ ?_ ?_ ?_ ?_); rotate_left; rfl; rfl; rfl; rfl; (first | exact Nat.le_refl _ | exact Nat.le_succ _); (constructor <;> first | with_reducible exact Kept.same | exact Kept.masked rfl); (first | with_reducible assumption | with_reducible refine foot_modChan rfl ?_ .. | with_reducible refine foot_chRefresh rfl ?_ .. | with_reducible refine Foot.foldl (fun _ _ _ => ?_) ?_ | with_reducible refine PairFoot.foldl (fun _ _ _ => ?_) ?_ | with_reducible apply Foot.ite | with_reducible apply PairFoot.ite | with_reducible apply OptFoot.ite | with_reducible apply OutFoot.ite | with_reducible apply ExFoot.ite | with_reducible exact ExFoot.error | with_reducible refine ExFoot.ok ?_ | with_reducible refine PairFoot.forL (fun _ _ _ => ?_) ?_ | with_reducible refine PairFoot.forN (fun _ _ _ => ?_) ?_ | with_reducible refine OptFoot.some ?_ | with_reducible exact OptFoot.none | with_reducible refine OutFoot.next ?_ | with_reducible refine OptFoot.getD ?_ ?_ | with_reducible refine PairFoot.snd ?_))
    | split
    | with_reducible refine PairFoot.mk ?_
    | dsimp only

theorem foot_winCfgWrite {m : Nat} {z t : State} (hs : 0x72290100a6ea4f80 ||| m = m) (h : Foot m z t) (a0 : _) (a1 : _) :
    Foot m z (State.winCfgWrite a0 a1 t) := by
  refine Foot.step (m := 0x72290100a6ea4f80) ?_ hs h
  clear h hs
  have h := Foot.refl 0x72290100a6ea4f80 t
  unfold State.winCfgWrite
  repeat' first
    | with_reducible assumption
    | (intro x; first
        | (refine Foot.cut (P := Foot 0x72290100a6ea4f80 t x) ?_ ?_; rotate_left; subst x; rotate_left; intro hx; clear_value x)
        | (refine Foot.cut (P := PairFoot 0x72290100a6ea4f80 t x) ?_ ?_; rotate_left; subst x; rotate_left; intro hx; clear_value x)
        | (refine Foot.cut (P := OptFoot 0x72290100a6ea4f80 t x) ?_ ?_; rotate_left; subst x; rotate_left; intro hx; clear_value x)
        | (have hf := x.programmed; clear hf)
        | clear_value x
        | skip)
    | lift_lets
    | with_reducible refine foot_ilmEval rfl ?_ ..
    | with_reducible refine foot_modChan rfl ?_ ..
    | with_reducible refine foot_raise rfl ?_ ..
    | with_reducible refine foot_winChange rfl ?_ ..
    | with_reducible refine foot_setFlag (blk_WIN_CFG_EN ..) rfl ?_ ..
    | with_reducible refine foot_setFlag (blk_CH_STAT_WIN_OUT ..) rfl ?_ ..
    | with_reducible refine foot_plainWrite (blk_WIN_CFG_EN ..) rfl ?_ ..
    | with_reducible refine foot_plainWrite (blk_CH_STAT_WIN_OUT ..) rfl ?_ ..
    | with_reducible refine Foot.foldl (fun _ _ _ => ?_) ?_
    | with_reducible refine PairFoot.foldl (fun _ _ _ => ?_) ?_
    | with_reducible apply Foot.ite
    | with_reducible apply PairFoot.ite
    | with_reducible apply OptFoot.ite
    | with_reducible apply OutFoot.ite
    | with_reducible apply ExFoot.ite
    | with_reducible exact ExFoot.error
    | with_reducible refine ExFoot.ok ?_
    | with_reducible refine PairFoot.forL (fun _ _ _ => ?_) ?_
    | with_reducible refine PairFoot.forN (fun _ _ _ => ?_) ?_
    | with_reducible refine OptFoot.some ?_
    | with_reducible exact OptFoot.none
    | with_reducible refine OutFoot.next ?_
    | with_reducible refine OptFoot.getD ?_ ?_
    | with_reducible refine PairFoot.snd ?_
    | with_reducible exact PairFoot.out (by assumption)
    | with_reducible refine PairFoot.eq (by assumption) ?_
    | with_reducible refine OptFoot.eq (by assumption) ?_
    | with_reducible refine ExFoot.eq (by assumption) ?_
    | ((with_reducible refine Foot.lit ?_ rfl rfl ?_ ?_ ?_ ?_ ?_ ?_); rotate_left; rfl; rfl; rfl; rfl; (first | exact Nat.le_refl _ | exact Nat.le_succ _); (constructor <;> first | with_reducible exact Kept.same | exact Kept.masked rfl); (first | with_reducible assumption | with_reducible refine foot_ilmEval rfl ?_ .. | with_reducible refine foot_modChan rfl ?_ .. | with_reducible refine foot_raise rfl ?_ .. | with_reducible refine foot_winChange rfl ?_ .. | with_reducible refine foot_setFlag (blk_WIN_CFG_EN ..) rfl ?_ .. | with_reducible refine foot_setFlag (blk_CH_STAT_WIN_OUT ..) rfl ?_ .. | with_reducible refine foot_plainWrite (blk_WIN_CFG_EN ..) rfl ?_ .. | with_reducible refine foot_plainWrite (blk_CH_STAT_WIN_OUT ..) rfl ?_ .. | with_reducible refine Foot.foldl (fun _ _ _ => ?_) ?_ | with_reducible refine PairFoot.foldl (fun _ _ _ => ?_) ?_ | with_reducible apply Foot.ite | with_reducible apply PairFoot.ite | with_reducible apply OptFoot.ite | with_reducible apply OutFoot.ite | with_reducible apply ExFoot.ite | with_reducible exact ExFoot.error | with_reducible refine ExFoot.ok ?_ | with_reducible refine PairFoot.forL (fun _ _ _ => ?_) ?_ | with_reducible refine PairFoot.forN (fun _ _ _ => ?_) ?_ | with_reducible refine OptFoot.some ?_ | with_reducible exact OptFoot.none | with_reducible refine OutFoot.next ?_ | with_reducible refine OptFoot.getD ?_ ?_ | with_reducible refine PairFoot.snd ?_))
    | split
    | with_reducible refine PairFoot.mk ?_
    | dsimp only

theorem foot_aoutCfgWrite {m : Nat} {z t : State} (hs : 0x72280100a4ea4f80 ||| m = m) (h : Foot m z t) (a0 : _) (a1 : _) :
    Foot m z (State.aoutCfgWrite a0 a1 t) := by
  refine Foot.step (m := 0x72280100a4ea4f80) ?_ hs h
  clear h hs
  have h := Foot.refl 0x72280100a4ea4f80 t
  unfold State.aoutCfgWrite
  repeat' first
    | with_reducible assumption
    | (intro x; first
        | (refine Foot.cut (P := Foot 0x72280100a4ea4f80 t x) ?_ ?_; rotate_left; subst x; rotate_left; intro hx; clear_value x)
        | (refine Foot.cut (P := PairFoot 0x72280100a4ea4f80 t x) ?_ ?_; rotate_left; subst x; rotate_left; intro hx; clear_value x)
        | (refine Foot.cut (P := OptFoot 0x72280100a4ea4f80 t x) ?_ ?_; rotate_left; subst x; rotate_left; intro hx; clear_value x)
        | (have hf := x.programmed; clear hf)
        | clear_value x
        | skip)
    | lift_lets
    | with_reducible refine foot_modChan rfl ?_ ..
    | with_reducible refine foot_raise rfl ?_ ..
    | with_reducible refine foot_plainWrite (blk_AOUT_CFG_RANGE ..) rfl ?_ ..
    | with_reducible refine Foot.foldl (fun _ _ _ => ?_) ?_
    | with_reducible refine PairFoot.foldl (fun _ _ _ => ?_) ?_
    | with_reducible apply Foot.ite
    | with_reducible apply PairFoot.ite
    | with_reducible apply OptFoot.ite
    | with_reducible apply OutFoot.ite
    | with_reducible apply ExFoot.ite
    | with_reducible exact ExFoot.error
    | with_reducible refine ExFoot.ok ?_
    | with_reducible refine PairFoot.forL (fun _ _ _ => ?_) ?_
    | with_reducible refine PairFoot.forN (fun _ _ _ => ?_) ?_
    | with_reducible refine OptFoot.some ?_
    | with_reducible exact OptFoot.none
    | with_reducible refine OutFoot.next ?_
    | with_reducible refine OptFoot.getD ?_ ?_
    | with_reducible refine PairFoot.snd ?_
    | with_reducible exact PairFoot.out (by assumption)
    | with_reducible refine PairFoot.eq (by assumption) ?_
    | with_reducible refine OptFoot.eq (by assumption) ?_
    | with_reducible refine ExFoot.eq (by assumption) ?_
    | ((with_reducible refine Foot.lit ?_ rfl rfl ?_ ?_ ?_ ?_ ?_ ?_); rotate_left; rfl; rfl; rfl; rfl; (first | exact Nat.le_refl _ | exact Nat.le_succ _); (constructor <;> first | with_reducible exact Kept.same | exact Kept.masked rfl); (first | with_reducible assumption | with_reducible refine foot_modChan rfl ?_ .. | with_reducible refine foot_raise rfl ?_ .. | with_reducible refine foot_plainWrite (blk_AOUT_CFG_RANGE ..) rfl ?_ .. | with_reducible refine Foot.foldl (fun _ _ _ => ?_) ?_ | with_reducible refine PairFoot.foldl (fun _ _ _ => ?_) ?_ | with_reducible apply Foot.ite | with_reducible apply PairFoot.ite | with_reducible apply OptFoot.ite | with_reducible apply OutFoot.ite | with_reducible apply ExFoot.ite | with_reducible exact ExFoot.error | with_reducible refine ExFoot.ok ?_ | with_reducible refine PairFoot.forL (fun _ _ _ => ?_) ?_ | with_reducible refine PairFoot.forN (fun _ _ _ => ?_) ?_ | with_reducible refine OptFoot.some ?_ | with_reducible exact OptFoot.none | with_reducible refine OutFoot.next ?_ | with_reducible refine OptFoot.getD ?_ ?_ | with_reducible refine PairFoot.snd ?_))
    | split
    | with_reducible refine PairFoot.mk ?_
    | dsimp only

theorem foot_execAoutRangeChange {m : Nat} {z t : State} (hs : 0x72280100a4ea4f80 ||| m = m) (h : Foot m z t) (a0 : _) (a1 : _) (a2 : _) :
    OutFoot m z (execAoutRangeChange a0 a1 a2 t) := by
  refine OutFoot.step (m := 0x72280100a4ea4f80) ?_ hs h
  clear h hs
  have h := Foot.refl 0x72280100a4ea4f80 t
  unfold execAoutRangeChange
  repeat' first
    | with_reducible assumption
    | (intro x; first | clear_value x | skip)
    | lift_lets
    | with_reducible refine foot_onDie rfl (fun _ _ => ?_) ?_ ..
    | with_reducible refine foot_aoutCfgWrite rfl ?_ ..
    | with_reducible refine OutFoot.next ?_
    | split
    | dsimp only

theorem foot_execAoutRangeSettled {m : Nat} {z t : State} (hs : 0x200000 ||| m = m) (h : Foot m z t) (a0 : _) :
    OutFoot m z (execAoutRangeSettled a0 t) := by
  refine OutFoot.step (m := 0x200000) ?_ hs h
  clear h hs
  have h := Foot.refl 0x200000 t
  unfold execAoutRangeSettled
  repeat' first
    | with_reducible assumption
    | (intro x; first
        | (refine Foot.cut (P := Foot 0x200000 t x) ?_ ?_; rotate_left; subst x; rotate_left; intro hx; clear_value x)
        | (refine Foot.cut (P := PairFoot 0x200000 t x) ?_ ?_; rotate_left; subst x; rotate_left; intro hx; clear_value x)
        | (refine Foot.cut (P := OptFoot 0x200000 t x) ?_ ?_; rotate_left; subst x; rotate_left; intro hx; clear_value x)
        | (have hf := x.programmed; clear hf)
        | clear_value x
        | skip)
    | lift_lets
    | with_reducible refine foot_modChan rfl ?_ ..
    | with_reducible refine foot_dacUpdate rfl ?_ ..
    | with_reducible refine Foot.foldl (fun _ _ _ => ?_) ?_
    | with_reducible refine PairFoot.foldl (fun _ _ _ => ?_) ?_
    | with_reducible apply Foot.ite
    | with_reducible apply PairFoot.ite
    | with_reducible apply OptFoot.ite
    | with_reducible apply OutFoot.ite
    | with_reducible apply ExFoot.ite
    | with_reducible exact ExFoot.error
    | with_reducible refine ExFoot.ok ?_
    | with_reducible refine PairFoot.forL (fun _ _ _ => ?_) ?_
    | with_reducible refine PairFoot.forN (fun _ _ _ => ?_) ?_
    | with_reducible refine OptFoot.some ?_
    | with_reducible exact OptFoot.none
    | with_reducible refine OutFoot.next ?_
    | with_reducible refine OptFoot.getD ?_ ?_
    | with_reducible refine PairFoot.snd ?_
    | with_reducible exact PairFoot.out (by assumption)
    | with_reducible refine PairFoot.eq (by assumption) ?_
    | with_reducible refine OptFoot.eq (by assumption) ?_
    | with_reducible refine ExFoot.eq (by assumption) ?_
    | ((with_reducible refine Foot.lit ?_ rfl rfl ?_ ?_ ?_ ?_ ?_ ?_); rotate_left; rfl; rfl; rfl; rfl; (first | exact Nat.le_refl _ | exact Nat.le_succ _); (constructor <;> first | with_reducible exact Kept.same | exact Kept.masked rfl); (first | with_reducible assumption | with_reducible refine foot_modChan rfl ?_ .. | with_reducible refine foot_dacUpdate rfl ?_ .. | with_reducible refine Foot.foldl (fun _ _ _ => ?_) ?_ | with_reducible refine PairFoot.foldl (fun _ _ _ => ?_) ?_ | with_reducible apply Foot.ite | with_reducible apply PairFoot.ite | with_reducible apply OptFoot.ite | with_reducible apply OutFoot.ite | with_reducible apply ExFoot.ite | with_reducible exact ExFoot.error | with_reducible refine ExFoot.ok ?_ | with_reducible refine PairFoot.forL (fun _ _ _ => ?_) ?_ | with_reducible refine PairFoot.forN (fun _ _ _ => ?_) ?_ | with_reducible refine OptFoot.some ?_ | with_reducible exact OptFoot.none | with_reducible refine OutFoot.next ?_ | with_reducible refine OptFoot.getD ?_ ?_ | with_reducible refine PairFoot.snd ?_))
    | split
    | with_reducible refine PairFoot.mk ?_
    | dsimp only

theorem foot_execAoutDiagnosis {m : Nat} {z t : State} (hs : 0x72280100a4ea4f80 ||| m = m) (h : Foot m z t) (a0 : _) (a1 : _) :
    OutFoot m z (execAoutDiagnosis a0 a1 t) := by
  refine OutFoot.step (m := 0x72280100a4ea4f80) ?_ hs h
  clear h hs
  have h := Foot.refl 0x72280100a4ea4f80 t
  unfold execAoutDiagnosis
  repeat' first
    | with_reducible assumption
    | (intro x; first | clear_value x | skip)
    | lift_lets
    | with_reducible refine foot_raise rfl ?_ ..
    | with_reducible refine foot_setFlag (blk_AOUT_STAT_OPEN ..) rfl ?_ ..
    | with_reducible refine foot_setFlag (blk_AOUT_STAT_OVC ..) rfl ?_ ..
    | with_reducible refine OutFoot.next ?_
    | split
    | dsimp only

theorem foot_settle {m : Nat} {z t : State} (hs : 0x4000000000400000 ||| m = m) (h : Foot m z t) (a0 : _) :
    Foot m z (State.settle a0 t) := by
  refine Foot.step (m := 0x4000000000400000) ?_ hs h
  clear h hs
  have h := Foot.refl 0x4000000000400000 t
  unfold State.settle
  repeat' first
    | with_reducible assumption
    | (intro x; first | clear_value x | skip)
    | lift_lets
    | with_reducible refine foot_modCluster rfl ?_ ..
    | with_reducible refine foot_setFlag (blk_CL_STAT_REF_SETTLED ..) rfl ?_ ..
    | split
    | dsimp only

theorem foot_staleEval {m : Nat} {z t : State} (hs : 0x72280100a4ea4f80 ||| m = m) (h : Foot m z t) (a0 : _) :
    Foot m z (State.staleEval a0 t) := by
  refine Foot.step (m := 0x72280100a4ea4f80) ?_ hs h
  clear h hs
  have h := Foot.refl 0x72280100a4ea4f80 t
  unfold State.staleEval
  repeat' first
    | with_reducible assumption
    | (intro x; first | clear_value x | skip)
    | lift_lets
    | with_reducible refine foot_endCond rfl ?_ ..
    | with_reducible refine foot_raiseCond rfl ?_ ..
    | with_reducible refine foot_setFlag (blk_CL_STAT_STALE ..) rfl ?_ ..
    | with_reducible apply Foot.ite
    | split
    | dsimp only

theorem foot_staleDie {m : Nat} {z t : State} (hs : 0x72280100a4ea4f80 ||| m = m) (h : Foot m z t) (a0 : _) :
    Foot m z (State.staleDie a0 t) := by
  refine Foot.step (m := 0x72280100a4ea4f80) ?_ hs h
  clear h hs
  have h := Foot.refl 0x72280100a4ea4f80 t
  unfold State.staleDie
  repeat' first
    | with_reducible assumption
    | (intro x; first | clear_value x | skip)
    | lift_lets
    | with_reducible refine foot_staleEval rfl ?_ ..
    | with_reducible refine Foot.forN (fun _ _ _ => ?_) ?_
    | split
    | dsimp only

theorem foot_refStart {m : Nat} {z t : State} (hs : 0x72280100a4ea4f80 ||| m = m) (h : Foot m z t) (a0 : _) :
    Foot m z (State.refStart a0 t) := by
  refine Foot.step (m := 0x72280100a4ea4f80) ?_ hs h
  clear h hs
  have h := Foot.refl 0x72280100a4ea4f80 t
  unfold State.refStart
  repeat' first
    | with_reducible assumption
    | (intro x; first | (refine Foot.cut (P := Foot 0x72280100a4ea4f80 t x) ?_ ?_; rotate_left; subst x; rotate_left; intro hx; clear_value x) | clear_value x | skip)
    | lift_lets
    | with_reducible refine foot_modCluster rfl ?_ ..
    | with_reducible refine foot_staleEval rfl ?_ ..
    | with_reducible refine foot_settle rfl ?_ ..
    | with_reducible apply Foot.ite
    | split
    | dsimp only

theorem foot_refApply {m : Nat} {z t : State} (hs : 0x72280100a4ea4f80 ||| m = m) (h : Foot m z t) (a0 : _) (a1 : _) :
    Foot m z (State.refApply a0 a1 t) := by
  refine Foot.step (m := 0x72280100a4ea4f80) ?_ hs h
  clear h hs
  have h := Foot.refl 0x72280100a4ea4f80 t
  unfold State.refApply
  repeat' first
    | with_reducible assumption
    | (intro x; first | (refine Foot.cut (P := Foot 0x72280100a4ea4f80 t x) ?_ ?_; rotate_left; subst x; rotate_left; intro hx; clear_value x) | clear_value x | skip)
    | lift_lets
    | with_reducible refine foot_refStart rfl ?_ ..
    | with_reducible refine foot_modCluster rfl ?_ ..
    | with_reducible refine foot_raise rfl ?_ ..
    | with_reducible refine foot_setFld (blk_CL_CTRL_INT_ON ..) rfl ?_ ..
    | with_reducible refine foot_setFld (blk_CL_CTRL_REFSEL ..) rfl ?_ ..
    | with_reducible refine foot_setFlag (blk_CL_CTRL_INT_ON ..) rfl ?_ ..
    | with_reducible refine foot_setFlag (blk_CL_CTRL_REFSEL ..) rfl ?_ ..
    | with_reducible apply Foot.ite
    | split
    | dsimp only

theorem foot_calBegin {m : Nat} {z t : State} (hs : 0x72290100a6ea4f80 ||| m = m) (h : Foot m z t) (a0 : _) :
    Foot m z (State.calBegin a0 t) := by
  refine Foot.step (m := 0x72290100a6ea4f80) ?_ hs h
  clear h hs
  have h := Foot.refl 0x72290100a6ea4f80 t
  unfold State.calBegin
  repeat' first
    | with_reducible assumption
    | (intro x; first | clear_value x | skip)
    | lift_lets
    | with_reducible refine foot_modCluster rfl ?_ ..
    | with_reducible refine foot_clRefresh rfl ?_ ..
    | with_reducible refine foot_setFlag (blk_CL_STAT_CAL_BUSY ..) rfl ?_ ..
    | split
    | dsimp only

theorem foot_clCtrlWrite {m : Nat} {z t : State} (hs : 0x72290100a6ea4f80 ||| m = m) (h : Foot m z t) (a0 : _) (a1 : _) :
    Foot m z (State.clCtrlWrite a0 a1 t) := by
  refine Foot.step (m := 0x72290100a6ea4f80) ?_ hs h
  clear h hs
  have h := Foot.refl 0x72290100a6ea4f80 t
  unfold State.clCtrlWrite
  repeat' first
    | with_reducible assumption
    | (intro x; first | (refine Foot.cut (P := Foot 0x72290100a6ea4f80 t x) ?_ ?_; rotate_left; subst x; rotate_left; intro hx; clear_value x) | clear_value x | skip)
    | lift_lets
    | with_reducible refine foot_calRequest rfl ?_ ..
    | with_reducible refine foot_modCluster rfl ?_ ..
    | with_reducible refine foot_clRefresh rfl ?_ ..
    | with_reducible refine foot_refApply rfl ?_ ..
    | with_reducible refine foot_setFlag (blk_CL_CTRL_ROLL ..) rfl ?_ ..
    | with_reducible apply Foot.ite
    | split
    | dsimp only

theorem foot_execCal {m : Nat} {z t : State} (hs : 0x72290100a6ea4f80 ||| m = m) (h : Foot m z t) (a0 : _) (a1 : _) (a2 : _) :
    OutFoot m z (execCal a0 a1 a2 t) := by
  refine OutFoot.step (m := 0x72290100a6ea4f80) ?_ hs h
  clear h hs
  have h := Foot.refl 0x72290100a6ea4f80 t
  unfold execCal
  repeat' first
    | with_reducible assumption
    | (intro x; first | clear_value x | skip)
    | lift_lets
    | with_reducible refine foot_clCtrlWrite rfl ?_ ..
    | with_reducible refine foot_onDie rfl (fun _ _ => ?_) ?_ ..
    | with_reducible refine OutFoot.next ?_
    | split
    | dsimp only

theorem foot_execRefselWrite {m : Nat} {z t : State} (hs : 0x72290100a6ea4f80 ||| m = m) (h : Foot m z t) (a0 : _) (a1 : _) (a2 : _) :
    OutFoot m z (execRefselWrite a0 a1 a2 t) := by
  refine OutFoot.step (m := 0x72290100a6ea4f80) ?_ hs h
  clear h hs
  have h := Foot.refl 0x72290100a6ea4f80 t
  unfold execRefselWrite
  repeat' first
    | with_reducible assumption
    | (intro x; first | clear_value x | skip)
    | lift_lets
    | with_reducible refine foot_clCtrlWrite rfl ?_ ..
    | with_reducible refine foot_onDie rfl (fun _ _ => ?_) ?_ ..
    | with_reducible refine OutFoot.next ?_
    | split
    | dsimp only

theorem foot_execRefSettled {m : Nat} {z t : State} (hs : 0x4000000000400000 ||| m = m) (h : Foot m z t) (a0 : _) :
    OutFoot m z (execRefSettled a0 t) := by
  refine OutFoot.step (m := 0x4000000000400000) ?_ hs h
  clear h hs
  have h := Foot.refl 0x4000000000400000 t
  unfold execRefSettled
  repeat' first
    | with_reducible assumption
    | (intro x; first | clear_value x | skip)
    | lift_lets
    | with_reducible refine foot_modCluster rfl ?_ ..
    | with_reducible refine foot_setFlag (blk_CL_STAT_REF_SETTLED ..) rfl ?_ ..
    | with_reducible apply Foot.ite
    | with_reducible refine OutFoot.next ?_
    | split
    | dsimp only

theorem foot_execRefMonitor {m : Nat} {z t : State} (hs : 0x72280100a4ea4f80 ||| m = m) (h : Foot m z t) (a0 : _) (a1 : _) :
    OutFoot m z (execRefMonitor a0 a1 t) := by
  refine OutFoot.step (m := 0x72280100a4ea4f80) ?_ hs h
  clear h hs
  have h := Foot.refl 0x72280100a4ea4f80 t
  unfold execRefMonitor
  repeat' first
    | with_reducible assumption
    | (intro x; first | (refine Foot.cut (P := Foot 0x72280100a4ea4f80 t x) ?_ ?_; rotate_left; subst x; rotate_left; intro hx; clear_value x) | clear_value x | skip)
    | lift_lets
    | with_reducible refine foot_modCluster rfl ?_ ..
    | with_reducible refine foot_settle rfl ?_ ..
    | with_reducible refine foot_endCond rfl ?_ ..
    | with_reducible refine foot_raiseCond rfl ?_ ..
    | with_reducible refine foot_setFlag (blk_CL_STAT_REF_FAULT ..) rfl ?_ ..
    | with_reducible refine foot_setFlag (blk_CL_STAT_REF_SETTLED ..) rfl ?_ ..
    | with_reducible apply OutFoot.ite
    | with_reducible refine OutFoot.next ?_
    | split
    | dsimp only

theorem foot_sealFactors {m : Nat} {z t : State} (hs : 0x4000000000000000 ||| m = m) (h : Foot m z t) (a0 : _) :
    Foot m z (State.sealFactors a0 t) := by
  refine Foot.step (m := 0x4000000000000000) ?_ hs h
  clear h hs
  have h := Foot.refl 0x4000000000000000 t
  unfold State.sealFactors
  repeat' first
    | with_reducible assumption
    | (intro x; first | (refine Foot.cut (P := Foot 0x4000000000000000 t x) ?_ ?_; rotate_left; subst x; rotate_left; intro hx; clear_value x) | clear_value x | skip)
    | lift_lets
    | with_reducible refine foot_setFld (blk_CAL_OFS_OFS ..) rfl ?_ ..
    | with_reducible refine foot_setFld (blk_CAL_GAIN_GAIN ..) rfl ?_ ..
    | with_reducible refine foot_setFld (blk_CL_STAT_CAL_REF ..) rfl ?_ ..
    | with_reducible refine foot_setFld (blk_CL_STAT_CAL_TEMP ..) rfl ?_ ..
    | with_reducible refine foot_setRegB (blk_CAL_OFS_OFS ..) rfl ?_ ..
    | with_reducible refine foot_setRegB (blk_CAL_GAIN_GAIN ..) rfl ?_ ..
    | with_reducible refine foot_setRegB (blk_CL_STAT_CAL_REF ..) rfl ?_ ..
    | with_reducible refine foot_setRegB (blk_CL_STAT_CAL_TEMP ..) rfl ?_ ..
    | with_reducible refine Foot.forN (fun _ _ _ => ?_) ?_
    | split
    | dsimp only

theorem foot_execCalibrationStart {m : Nat} {z t : State} (hs : 0x72290100a6ea4f80 ||| m = m) (h : Foot m z t) (a0 : _) :
    OutFoot m z (execCalibrationStart a0 t) := by
  refine OutFoot.step (m := 0x72290100a6ea4f80) ?_ hs h
  clear h hs
  have h := Foot.refl 0x72290100a6ea4f80 t
  unfold execCalibrationStart
  repeat' first
    | with_reducible assumption
    | (intro x; first | clear_value x | skip)
    | lift_lets
    | with_reducible refine foot_calBegin rfl ?_ ..
    | with_reducible apply OutFoot.ite
    | with_reducible refine OutFoot.next ?_
    | split
    | dsimp only

theorem foot_execRollCalibrationStart {m : Nat} {z t : State} (hs : 0x72290100a6ea4f80 ||| m = m) (h : Foot m z t) (a0 : _) :
    OutFoot m z (execRollCalibrationStart a0 t) := by
  refine OutFoot.step (m := 0x72290100a6ea4f80) ?_ hs h
  clear h hs
  have h := Foot.refl 0x72290100a6ea4f80 t
  unfold execRollCalibrationStart
  repeat' first
    | with_reducible assumption
    | (intro x; first | (refine Foot.cut (P := Foot 0x72290100a6ea4f80 t x) ?_ ?_; rotate_left; subst x; rotate_left; intro hx; clear_value x) | clear_value x | skip)
    | lift_lets
    | with_reducible refine foot_calRequest rfl ?_ ..
    | with_reducible refine foot_modCluster rfl ?_ ..
    | with_reducible refine foot_clRefresh rfl ?_ ..
    | with_reducible apply OutFoot.ite
    | with_reducible refine OutFoot.next ?_
    | split
    | dsimp only

theorem foot_calTake {m : Nat} {z t : State} (hs : 0x72280100a4ea4f80 ||| m = m) (h : Foot m z t) (a0 : _) (a1 : _) :
    Foot m z (State.calTake a0 a1 t) := by
  refine Foot.step (m := 0x72280100a4ea4f80) ?_ hs h
  clear h hs
  have h := Foot.refl 0x72280100a4ea4f80 t
  unfold State.calTake
  repeat' first
    | with_reducible assumption
    | (intro x; first | (refine Foot.cut (P := Foot 0x72280100a4ea4f80 t x) ?_ ?_; rotate_left; subst x; rotate_left; intro hx; clear_value x) | clear_value x | skip)
    | lift_lets
    | with_reducible refine foot_modCluster rfl ?_ ..
    | with_reducible refine foot_staleEval rfl ?_ ..
    | with_reducible refine foot_raise rfl ?_ ..
    | with_reducible refine foot_setFld (blk_CAL_OFS_OFS ..) rfl ?_ ..
    | with_reducible refine foot_setFld (blk_CAL_GAIN_GAIN ..) rfl ?_ ..
    | with_reducible refine foot_setFld (blk_CL_STAT_CAL_REF ..) rfl ?_ ..
    | with_reducible refine foot_setFld (blk_CL_STAT_CAL_TEMP ..) rfl ?_ ..
    | with_reducible refine foot_setFld (blk_CL_STAT_CAL_LIMIT ..) rfl ?_ ..
    | with_reducible refine foot_setFlag (blk_CAL_OFS_OFS ..) rfl ?_ ..
    | with_reducible refine foot_setFlag (blk_CAL_GAIN_GAIN ..) rfl ?_ ..
    | with_reducible refine foot_setFlag (blk_CL_STAT_CAL_REF ..) rfl ?_ ..
    | with_reducible refine foot_setFlag (blk_CL_STAT_CAL_TEMP ..) rfl ?_ ..
    | with_reducible refine foot_setFlag (blk_CL_STAT_CAL_LIMIT ..) rfl ?_ ..
    | with_reducible refine foot_setRegB (blk_CAL_OFS_OFS ..) rfl ?_ ..
    | with_reducible refine foot_setRegB (blk_CAL_GAIN_GAIN ..) rfl ?_ ..
    | with_reducible refine foot_setRegB (blk_CL_STAT_CAL_REF ..) rfl ?_ ..
    | with_reducible refine foot_setRegB (blk_CL_STAT_CAL_TEMP ..) rfl ?_ ..
    | with_reducible refine foot_setRegB (blk_CL_STAT_CAL_LIMIT ..) rfl ?_ ..
    | with_reducible refine Foot.forL (fun _ _ _ => ?_) ?_
    | with_reducible apply Foot.ite
    | split
    | dsimp only

theorem foot_certEnded {m : Nat} {z t : State} (hs : 0x4000000000800000 ||| m = m) (h : Foot m z t) (a0 : _) :
    Foot m z (State.certEnded a0 t) := by
  refine Foot.step (m := 0x4000000000800000) ?_ hs h
  clear h hs
  have h := Foot.refl 0x4000000000800000 t
  unfold State.certEnded
  repeat' first
    | with_reducible assumption
    | (intro x; first | clear_value x | skip)
    | lift_lets
    | with_reducible refine foot_modDie rfl ?_ ..
    | with_reducible refine foot_setFld (blk_DIE_CMDSTAT_RESULT ..) rfl ?_ ..
    | with_reducible apply Foot.ite
    | split
    | dsimp only

theorem foot_calEnd {m : Nat} {z t : State} (hs : 0x72290100a6ea4f80 ||| m = m) (h : Foot m z t) (a0 : _) :
    Foot m z (State.calEnd a0 t) := by
  refine Foot.step (m := 0x72290100a6ea4f80) ?_ hs h
  clear h hs
  have h := Foot.refl 0x72290100a6ea4f80 t
  unfold State.calEnd
  repeat' first
    | with_reducible assumption
    | (intro x; first | (refine Foot.cut (P := Foot 0x72290100a6ea4f80 t x) ?_ ?_; rotate_left; subst x; rotate_left; intro hx; clear_value x) | clear_value x | skip)
    | lift_lets
    | with_reducible refine foot_modCluster rfl ?_ ..
    | with_reducible refine foot_clRefresh rfl ?_ ..
    | with_reducible refine foot_certEnded rfl ?_ ..
    | with_reducible refine foot_refApply rfl ?_ ..
    | with_reducible refine foot_setFlag (blk_CL_STAT_CAL_BUSY ..) rfl ?_ ..
    | with_reducible refine foot_setFlag (blk_CL_CTRL_CAL ..) rfl ?_ ..
    | split
    | dsimp only

theorem foot_execCalibrationComplete {m : Nat} {z t : State} (hs : 0x72290100a6ea4f80 ||| m = m) (h : Foot m z t) (a0 : _) (a1 : _) :
    OutFoot m z (execCalibrationComplete a0 a1 t) := by
  refine OutFoot.step (m := 0x72290100a6ea4f80) ?_ hs h
  clear h hs
  have h := Foot.refl 0x72290100a6ea4f80 t
  unfold execCalibrationComplete
  repeat' first
    | with_reducible assumption
    | (intro x; first | (refine Foot.cut (P := Foot 0x72290100a6ea4f80 t x) ?_ ?_; rotate_left; subst x; rotate_left; intro hx; clear_value x) | clear_value x | skip)
    | lift_lets
    | with_reducible refine foot_calTake rfl ?_ ..
    | with_reducible refine foot_calEnd rfl ?_ ..
    | with_reducible apply Foot.ite
    | with_reducible apply OutFoot.ite
    | with_reducible refine OutFoot.next ?_
    | split
    | dsimp only

theorem foot_dieResult {m : Nat} {z t : State} (hs : 0x4000000000000000 ||| m = m) (h : Foot m z t) (a0 : _) (a1 : _) (a2 : _) :
    Foot m z (State.dieResult a0 a1 a2 t) := by
  refine Foot.step (m := 0x4000000000000000) ?_ hs h
  clear h hs
  have h := Foot.refl 0x4000000000000000 t
  unfold State.dieResult
  repeat' first
    | with_reducible assumption
    | (intro x; first | clear_value x | skip)
    | lift_lets
    | with_reducible refine foot_setFld (blk_DIE_CMDSTAT_RESULT ..) rfl ?_ ..
    | with_reducible refine foot_setFld (blk_DIE_CMDSTAT_CODE ..) rfl ?_ ..
    | split
    | dsimp only

theorem foot_dieRestart {m : Nat} {z t : State} (hs : 0x72290100a6ea4f80 ||| m = m) (h : Foot m z t) (a0 : _) :
    Foot m z (State.dieRestart a0 t) := by
  refine Foot.step (m := 0x72290100a6ea4f80) ?_ hs h
  clear h hs
  have h := Foot.refl 0x72290100a6ea4f80 t
  unfold State.dieRestart
  repeat' first
    | with_reducible assumption
    | (intro x; first | (refine Foot.cut (P := Foot 0x72290100a6ea4f80 t x) ?_ ?_; rotate_left; subst x; rotate_left; intro hx; clear_value x) | clear_value x | skip)
    | lift_lets
    | with_reducible refine foot_ilmEval rfl ?_ ..
    | with_reducible refine foot_dieRefresh rfl ?_ ..
    | with_reducible refine foot_axRelease rfl ?_ ..
    | with_reducible refine foot_endCond rfl ?_ ..
    | with_reducible refine foot_dieResult rfl ?_ ..
    | with_reducible refine foot_setFlag (blk_DIE_STAT_THERM_SD ..) rfl ?_ ..
    | with_reducible refine foot_setFlag (blk_DIE_STAT_ISOLATED ..) rfl ?_ ..
    | with_reducible refine Foot.forN (fun _ _ _ => ?_) ?_
    | with_reducible apply Foot.ite
    | split
    | dsimp only

theorem foot_certCapture {m : Nat} {z t : State} (hs : 0x4000000000800000 ||| m = m) (h : Foot m z t) (a0 : _) (a1 : _) :
    Foot m z (State.certCapture a0 a1 t) := by
  refine Foot.step (m := 0x4000000000800000) ?_ hs h
  clear h hs
  have h := Foot.refl 0x4000000000800000 t
  unfold State.certCapture
  repeat' first
    | with_reducible assumption
    | (intro x; first | (refine Foot.cut (P := Foot 0x4000000000800000 t x) ?_ ?_; rotate_left; subst x; rotate_left; intro hx; clear_value x) | clear_value x | skip)
    | lift_lets
    | with_reducible refine foot_modDie rfl ?_ ..
    | with_reducible refine foot_setFld (blk_CERT_STAT_POINTS ..) rfl ?_ ..
    | split
    | dsimp only

theorem foot_certRecord {m : Nat} {z t : State} (hs : 0x72290100a6ea4f90 ||| m = m) (h : Foot m z t) (a0 : _) :
    Foot m z (State.certRecord a0 t) := by
  refine Foot.step (m := 0x72290100a6ea4f90) ?_ hs h
  clear h hs
  have h := Foot.refl 0x72290100a6ea4f90 t
  unfold State.certRecord
  repeat' first
    | with_reducible assumption
    | (intro x; first | clear_value x | skip)
    | lift_lets
    | with_reducible refine foot_calRequest rfl ?_ ..
    | with_reducible refine foot_draw rfl ?_ ..
    | with_reducible refine foot_dieRefresh rfl ?_ ..
    | with_reducible refine foot_modDie rfl ?_ ..
    | with_reducible refine foot_log rfl ?_ ..
    | with_reducible refine foot_dieResult rfl ?_ ..
    | with_reducible refine foot_certEnded rfl ?_ ..
    | with_reducible refine foot_setFld (blk_SEAL_STAT_SIGNER ..) rfl ?_ ..
    | with_reducible refine foot_setFld (blk_SEAL_STAT_FUSE_CNT ..) rfl ?_ ..
    | with_reducible refine foot_setFld (blk_SEAL_STAT_SEAL_CNT ..) rfl ?_ ..
    | with_reducible refine foot_setFld (blk_CERT_STAT_POINTS ..) rfl ?_ ..
    | with_reducible refine Foot.forN (fun _ _ _ => ?_) ?_
    | with_reducible refine PairFoot.forN (fun _ _ _ => ?_) ?_
    | with_reducible refine PairFoot.snd ?_
    | with_reducible refine PairFoot.eq (by assumption) ?_
    | split
    | with_reducible refine PairFoot.mk ?_
    | dsimp only

theorem foot_dieCmd {m : Nat} {z t : State} (hs : 0x72290100a6ea4f90 ||| m = m) (h : Foot m z t) (a0 : _) (a1 : _) (a2 : _) (a3 : _) :
    Foot m z (State.dieCmd a0 a1 a2 a3 t) := by
  refine Foot.step (m := 0x72290100a6ea4f90) ?_ hs h
  clear h hs
  have h := Foot.refl 0x72290100a6ea4f90 t
  unfold State.dieCmd
  repeat' first
    | with_reducible assumption
    | (intro x; first
        | (refine Foot.cut (P := Foot 0x72290100a6ea4f90 t x) ?_ ?_; rotate_left; subst x; rotate_left; intro hx; clear_value x)
        | (refine Foot.cut (P := PairFoot 0x72290100a6ea4f90 t x) ?_ ?_; rotate_left; subst x; rotate_left; intro hx; clear_value x)
        | (refine Foot.cut (P := OptFoot 0x72290100a6ea4f90 t x) ?_ ?_; rotate_left; subst x; rotate_left; intro hx; clear_value x)
        | (have hf := x.programmed; clear hf)
        | clear_value x
        | skip)
    | lift_lets
    | with_reducible refine foot_certRecord rfl ?_ ..
    | with_reducible refine foot_dieRefresh rfl ?_ ..
    | with_reducible refine foot_dieRestart rfl ?_ ..
    | with_reducible refine foot_modDie rfl ?_ ..
    | with_reducible refine foot_dieResult rfl ?_ ..
    | with_reducible refine foot_certDrop rfl ?_ ..
    | with_reducible refine foot_certCapture rfl ?_ ..
    | with_reducible refine Foot.foldl (fun _ _ _ => ?_) ?_
    | with_reducible refine PairFoot.foldl (fun _ _ _ => ?_) ?_
    | with_reducible apply Foot.ite
    | with_reducible apply PairFoot.ite
    | with_reducible apply OptFoot.ite
    | with_reducible apply OutFoot.ite
    | with_reducible apply ExFoot.ite
    | with_reducible exact ExFoot.error
    | with_reducible refine ExFoot.ok ?_
    | with_reducible refine PairFoot.forL (fun _ _ _ => ?_) ?_
    | with_reducible refine PairFoot.forN (fun _ _ _ => ?_) ?_
    | with_reducible refine OptFoot.some ?_
    | with_reducible exact OptFoot.none
    | with_reducible refine OutFoot.next ?_
    | with_reducible refine OptFoot.getD ?_ ?_
    | with_reducible refine PairFoot.snd ?_
    | with_reducible exact PairFoot.out (by assumption)
    | with_reducible refine PairFoot.eq (by assumption) ?_
    | with_reducible refine OptFoot.eq (by assumption) ?_
    | with_reducible refine ExFoot.eq (by assumption) ?_
    | ((with_reducible refine Foot.lit ?_ rfl rfl ?_ ?_ ?_ ?_ ?_ ?_); rotate_left; rfl; rfl; rfl; rfl; (first | exact Nat.le_refl _ | exact Nat.le_succ _); (constructor <;> first | with_reducible exact Kept.same | exact Kept.masked rfl); (first | with_reducible assumption | with_reducible refine foot_certRecord rfl ?_ .. | with_reducible refine foot_dieRefresh rfl ?_ .. | with_reducible refine foot_dieRestart rfl ?_ .. | with_reducible refine foot_modDie rfl ?_ .. | with_reducible refine foot_dieResult rfl ?_ .. | with_reducible refine foot_certDrop rfl ?_ .. | with_reducible refine foot_certCapture rfl ?_ .. | with_reducible refine Foot.foldl (fun _ _ _ => ?_) ?_ | with_reducible refine PairFoot.foldl (fun _ _ _ => ?_) ?_ | with_reducible apply Foot.ite | with_reducible apply PairFoot.ite | with_reducible apply OptFoot.ite | with_reducible apply OutFoot.ite | with_reducible apply ExFoot.ite | with_reducible exact ExFoot.error | with_reducible refine ExFoot.ok ?_ | with_reducible refine PairFoot.forL (fun _ _ _ => ?_) ?_ | with_reducible refine PairFoot.forN (fun _ _ _ => ?_) ?_ | with_reducible refine OptFoot.some ?_ | with_reducible exact OptFoot.none | with_reducible refine OutFoot.next ?_ | with_reducible refine OptFoot.getD ?_ ?_ | with_reducible refine PairFoot.snd ?_))
    | split
    | with_reducible refine PairFoot.mk ?_
    | dsimp only

theorem foot_execDieRestart {m : Nat} {z t : State} (hs : 0x72290100a6ea4f90 ||| m = m) (h : Foot m z t) (a0 : _) (a1 : _) (a2 : _) :
    OutFoot m z (execDieRestart a0 a1 a2 t) := by
  refine OutFoot.step (m := 0x72290100a6ea4f90) ?_ hs h
  clear h hs
  have h := Foot.refl 0x72290100a6ea4f90 t
  unfold execDieRestart
  repeat' first
    | with_reducible assumption
    | (intro x; first | clear_value x | skip)
    | lift_lets
    | with_reducible refine foot_dieCmd rfl ?_ ..
    | with_reducible refine OutFoot.next ?_
    | split
    | dsimp only

theorem foot_execCertBegin {m : Nat} {z t : State} (hs : 0x72290100a6ea4f90 ||| m = m) (h : Foot m z t) (a0 : _) (a1 : _) (a2 : _) :
    OutFoot m z (execCertBegin a0 a1 a2 t) := by
  refine OutFoot.step (m := 0x72290100a6ea4f90) ?_ hs h
  clear h hs
  have h := Foot.refl 0x72290100a6ea4f90 t
  unfold execCertBegin
  repeat' first
    | with_reducible assumption
    | (intro x; first | clear_value x | skip)
    | lift_lets
    | with_reducible refine foot_dieCmd rfl ?_ ..
    | with_reducible refine OutFoot.next ?_
    | split
    | dsimp only

theorem foot_execCertPoint {m : Nat} {z t : State} (hs : 0x72290100a6ea4f90 ||| m = m) (h : Foot m z t) (a0 : _) (a1 : _) (a2 : _) :
    OutFoot m z (execCertPoint a0 a1 a2 t) := by
  refine OutFoot.step (m := 0x72290100a6ea4f90) ?_ hs h
  clear h hs
  have h := Foot.refl 0x72290100a6ea4f90 t
  unfold execCertPoint
  repeat' first
    | with_reducible assumption
    | (intro x; first | clear_value x | skip)
    | lift_lets
    | with_reducible refine foot_dieCmd rfl ?_ ..
    | with_reducible refine OutFoot.next ?_
    | split
    | dsimp only

theorem foot_execCertPointComplete {m : Nat} {z t : State} (hs : 0x4000000000800000 ||| m = m) (h : Foot m z t) (a0 : _) (a1 : _) :
    OutFoot m z (execCertPointComplete a0 a1 t) := by
  refine OutFoot.step (m := 0x4000000000800000) ?_ hs h
  clear h hs
  have h := Foot.refl 0x4000000000800000 t
  unfold execCertPointComplete
  repeat' first
    | with_reducible assumption
    | (intro x; first | clear_value x | skip)
    | lift_lets
    | with_reducible refine foot_certCapture rfl ?_ ..
    | with_reducible refine foot_setFld (blk_DIE_CMDSTAT_RESULT ..) rfl ?_ ..
    | with_reducible refine OutFoot.next ?_
    | split
    | dsimp only

theorem foot_execCertEnd {m : Nat} {z t : State} (hs : 0x72290100a6ea4f90 ||| m = m) (h : Foot m z t) (a0 : _) (a1 : _) (a2 : _) :
    OutFoot m z (execCertEnd a0 a1 a2 t) := by
  refine OutFoot.step (m := 0x72290100a6ea4f90) ?_ hs h
  clear h hs
  have h := Foot.refl 0x72290100a6ea4f90 t
  unfold execCertEnd
  repeat' first
    | with_reducible assumption
    | (intro x; first | clear_value x | skip)
    | lift_lets
    | with_reducible refine foot_dieCmd rfl ?_ ..
    | with_reducible refine OutFoot.next ?_
    | split
    | dsimp only

theorem foot_execCertAbort {m : Nat} {z t : State} (hs : 0x72290100a6ea4f90 ||| m = m) (h : Foot m z t) (a0 : _) (a1 : _) (a2 : _) :
    OutFoot m z (execCertAbort a0 a1 a2 t) := by
  refine OutFoot.step (m := 0x72290100a6ea4f90) ?_ hs h
  clear h hs
  have h := Foot.refl 0x72290100a6ea4f90 t
  unfold execCertAbort
  repeat' first
    | with_reducible assumption
    | (intro x; first | clear_value x | skip)
    | lift_lets
    | with_reducible refine foot_dieCmd rfl ?_ ..
    | with_reducible refine OutFoot.next ?_
    | split
    | dsimp only

end Sys2Proof.Machine
end

