-- ==== Sys2Proof/Laws/FootCbus.lean ====
section
/-!
SUPPORT. Footprints of the operations of Machine/Cbus.lean.
-/

set_option Elab.async false

set_option linter.all false

set_option maxRecDepth 4000

namespace Sys2Proof.Machine

theorem foot_modCbus {m : Nat} {z t : State} (hs : 0x100000000 ||| m = m) (h : Foot m z t) (a0 : _) :
    Foot m z (State.modCbus a0 t) := by
  refine Foot.step (m := 0x100000000) ?_ hs h
  clear h hs
  have h := Foot.refl 0x100000000 t
  unfold State.modCbus
  repeat' first
    | with_reducible assumption
    | (intro x; first | clear_value x | skip)
    | lift_lets
    | ((with_reducible refine Foot.lit ?_ rfl rfl ?_ ?_ ?_ ?_ ?_ ?_); rotate_left; rfl; rfl; rfl; rfl; (first | exact Nat.le_refl _ | exact Nat.le_succ _); (constructor <;> first | with_reducible exact Kept.same | exact Kept.masked rfl); (first | with_reducible assumption))
    | split
    | dsimp only

theorem foot_mirrorUpdate {m : Nat} {z t : State} (hs : 0x2000000104200000 ||| m = m) (h : Foot m z t) (a0 : _) :
    Foot m z (State.mirrorUpdate a0 t) := by
  refine Foot.step (m := 0x2000000104200000) ?_ hs h
  clear h hs
  have h := Foot.refl 0x2000000104200000 t
  unfold State.mirrorUpdate
  repeat' first
    | with_reducible assumption
    | (intro x; first | clear_value x | skip)
    | lift_lets
    | with_reducible refine foot_modCbus rfl ?_ ..
    | with_reducible apply Foot.ite
    | split
    | dsimp only

theorem foot_execCbRead {m : Nat} {z t : State} (hs : 0x2000100000020 ||| m = m) (h : Foot m z t) (a0 : _) :
    OutFoot m z (execCbRead a0 t) := by
  refine OutFoot.step (m := 0x2000100000020) ?_ hs h
  clear h hs
  have h := Foot.refl 0x2000100000020 t
  unfold execCbRead
  repeat' first
    | with_reducible assumption
    | (intro x; first | (refine Foot.cut (P := Foot 0x2000100000020 t x) ?_ ?_; rotate_left; subst x; rotate_left; intro hx; clear_value x) | clear_value x | skip)
    | lift_lets
    | with_reducible refine foot_modCbus rfl ?_ ..
    | with_reducible refine foot_setFlag (blk_CB_STAT_CB_UNMAPPED ..) rfl ?_ ..
    | with_reducible apply Foot.ite
    | with_reducible apply OutFoot.ite
    | with_reducible refine OutFoot.next ?_
    | ((with_reducible refine Foot.lit ?_ rfl rfl ?_ ?_ ?_ ?_ ?_ ?_); rotate_left; rfl; rfl; rfl; rfl; (first | exact Nat.le_refl _ | exact Nat.le_succ _); (constructor <;> first | with_reducible exact Kept.same | exact Kept.masked rfl); (first | with_reducible assumption | with_reducible refine foot_modCbus rfl ?_ .. | with_reducible refine foot_setFlag (blk_CB_STAT_CB_UNMAPPED ..) rfl ?_ .. | with_reducible apply Foot.ite | with_reducible apply OutFoot.ite | with_reducible refine OutFoot.next ?_))
    | split
    | dsimp only

theorem foot_execCbWrite {m : Nat} {z t : State} (hs : 0x722a0101a4ea4f80 ||| m = m) (h : Foot m z t) (a0 : _) (a1 : _) (a2 : _) :
    OutFoot m z (execCbWrite a0 a1 a2 t) := by
  refine OutFoot.step (m := 0x722a0101a4ea4f80) ?_ hs h
  clear h hs
  have h := Foot.refl 0x722a0101a4ea4f80 t
  unfold execCbWrite
  repeat' first
    | with_reducible assumption
    | (intro x; first | (refine Foot.cut (P := Foot 0x722a0101a4ea4f80 t x) ?_ ?_; rotate_left; subst x; rotate_left; intro hx; clear_value x) | clear_value x | skip)
    | lift_lets
    | with_reducible refine foot_modCbus rfl ?_ ..
    | with_reducible refine foot_raise rfl ?_ ..
    | with_reducible refine foot_setFlag (blk_CB_CNT_IGNORED ..) rfl ?_ ..
    | with_reducible refine foot_setFlag (blk_CB_STAT_CB_TURN ..) rfl ?_ ..
    | with_reducible refine foot_setFlag (blk_CB_STAT_CB_OVF ..) rfl ?_ ..
    | with_reducible refine foot_setFlag (blk_CB_CNT_DROP ..) rfl ?_ ..
    | with_reducible refine foot_incSat (blk_CB_CNT_IGNORED ..) rfl ?_ ..
    | with_reducible refine foot_incSat (blk_CB_STAT_CB_TURN ..) rfl ?_ ..
    | with_reducible refine foot_incSat (blk_CB_STAT_CB_OVF ..) rfl ?_ ..
    | with_reducible refine foot_incSat (blk_CB_CNT_DROP ..) rfl ?_ ..
    | with_reducible apply Foot.ite
    | with_reducible apply OutFoot.ite
    | with_reducible refine OutFoot.next ?_
    | split
    | dsimp only

theorem foot_execCbFifoApply {m : Nat} {z t : State} (hs : 0x2000100000008 ||| m = m) (h : Foot m z t) :
    OutFoot m z (execCbFifoApply t) := by
  refine OutFoot.step (m := 0x2000100000008) ?_ hs h
  clear h hs
  have h := Foot.refl 0x2000100000008 t
  unfold execCbFifoApply
  repeat' first
    | with_reducible assumption
    | (intro x; first | clear_value x | skip)
    | lift_lets
    | with_reducible refine foot_setWord rfl ?_ ..
    | with_reducible refine foot_modCbus rfl ?_ ..
    | with_reducible refine foot_incSat (blk_CB_FAST_VALUE ..) rfl ?_ ..
    | with_reducible refine foot_incSat (blk_CB_CNT_IGNORED ..) rfl ?_ ..
    | with_reducible refine foot_setRegB (blk_CB_FAST_VALUE ..) rfl ?_ ..
    | with_reducible refine foot_setRegB (blk_CB_CNT_IGNORED ..) rfl ?_ ..
    | with_reducible apply Foot.ite
    | with_reducible refine OutFoot.next ?_
    | split
    | dsimp only

end Sys2Proof.Machine
end

