-- ==== Sys2Proof/Laws/FootOperands.lean ====
section
/-!
SUPPORT. Footprints of the operations of Machine/Operands.lean.
-/

set_option Elab.async false

set_option linter.all false

set_option maxRecDepth 4000

namespace Sys2Proof.Machine

theorem foot_modCore {m : Nat} {z t : State} (hs : 0x40000 ||| m = m) (h : Foot m z t) (a0 : _) (a1 : _) :
    Foot m z (State.modCore a0 a1 t) := by
  refine Foot.step (m := 0x40000) ?_ hs h
  clear h hs
  have h := Foot.refl 0x40000 t
  unfold State.modCore
  repeat' first
    | with_reducible assumption
    | (intro x; first | clear_value x | skip)
    | lift_lets
    | ((with_reducible refine Foot.lit ?_ rfl rfl ?_ ?_ ?_ ?_ ?_ ?_); rotate_left; rfl; rfl; rfl; rfl; (first | exact Nat.le_refl _ | exact Nat.le_succ _); (constructor <;> first | with_reducible exact Kept.same | exact Kept.masked rfl); (first | with_reducible assumption))
    | split
    | dsimp only

theorem foot_eccWrite {m : Nat} {z t : State} (hs : 0x80000000080 ||| m = m) (h : Foot m z t) (a0 : _) (a1 : _) :
    Foot m z (State.eccWrite a0 a1 t) := by
  refine Foot.step (m := 0x80000000080) ?_ hs h
  clear h hs
  have h := Foot.refl 0x80000000080 t
  unfold State.eccWrite
  repeat' first
    | with_reducible assumption
    | (intro x; first | (refine Foot.cut (P := Foot 0x80000000080 t x) ?_ ?_; rotate_left; subst x; rotate_left; intro hx; clear_value x) | clear_value x | skip)
    | lift_lets
    | with_reducible refine foot_injDone rfl ?_ ..
    | with_reducible apply Foot.ite
    | ((with_reducible refine Foot.lit ?_ rfl rfl ?_ ?_ ?_ ?_ ?_ ?_); rotate_left; rfl; rfl; rfl; rfl; (first | exact Nat.le_refl _ | exact Nat.le_succ _); (constructor <;> first | with_reducible exact Kept.same | exact Kept.masked rfl); (first | with_reducible assumption | with_reducible refine foot_injDone rfl ?_ .. | with_reducible apply Foot.ite))
    | split
    | dsimp only

theorem foot_store {m : Nat} {z t : State} (hs : 0x80000000088 ||| m = m) (h : Foot m z t) (a0 : _) (a1 : _) (a2 : _) :
    Foot m z (State.store a0 a1 a2 t) := by
  refine Foot.step (m := 0x80000000088) ?_ hs h
  clear h hs
  have h := Foot.refl 0x80000000088 t
  unfold State.store
  repeat' first
    | with_reducible assumption
    | (intro x; first | clear_value x | skip)
    | lift_lets
    | with_reducible refine foot_eccWrite rfl ?_ ..
    | with_reducible refine foot_setBytes rfl _ _ _ _ ?_
    | split
    | dsimp only

theorem foot_clearRange {m : Nat} {z t : State} (hs : 0x88 ||| m = m) (h : Foot m z t) (a n : Nat) :
    Foot m z (State.clearRange a n t) := by
  refine ⟨?_, h.regs, fun x => clearRange_wf a n t (h.memWf x), h.regsWf, h.fuses, h.free⟩
  have hb : m.testBit 3 = true := bit_in (b := 0x88) rfl hs rfl
  have hc : m.testBit 7 = true := bit_in (b := 0x88) rfl hs rfl
  refine Eq.trans ?_ h.hidden
  simp only [blank, State.clearRange, hb, hc, if_true]

theorem foot_endExec {m : Nat} {z t : State} (hs : 0x10000050c00 ||| m = m) (h : Foot m z t) (a0 : _) :
    Foot m z (State.endExec a0 t) := by
  refine Foot.step (m := 0x10000050c00) ?_ hs h
  clear h hs
  have h := Foot.refl 0x10000050c00 t
  unfold State.endExec
  repeat' first
    | with_reducible assumption
    | (intro x; first | (refine Foot.cut (P := Foot 0x10000050c00 t x) ?_ ?_; rotate_left; subst x; rotate_left; intro hx; clear_value x) | clear_value x | skip)
    | lift_lets
    | with_reducible refine foot_modCore rfl ?_ ..
    | with_reducible refine foot_modSched rfl ?_ ..
    | with_reducible refine foot_startCyclic rfl ?_ ..
    | with_reducible refine foot_setFld (blk_TASK_TIME_LAST ..) rfl ?_ ..
    | with_reducible refine foot_setFld (blk_TASK_TIME_MAX ..) rfl ?_ ..
    | with_reducible apply Foot.ite
    | ((with_reducible refine Foot.lit ?_ rfl rfl ?_ ?_ ?_ ?_ ?_ ?_); rotate_left; rfl; rfl; rfl; rfl; (first | exact Nat.le_refl _ | exact Nat.le_succ _); (constructor <;> first | with_reducible exact Kept.same | exact Kept.masked rfl); (first | with_reducible assumption | with_reducible refine foot_modCore rfl ?_ .. | with_reducible refine foot_modSched rfl ?_ .. | with_reducible refine foot_startCyclic rfl ?_ .. | with_reducible refine foot_setFld (blk_TASK_TIME_LAST ..) rfl ?_ .. | with_reducible refine foot_setFld (blk_TASK_TIME_MAX ..) rfl ?_ .. | with_reducible apply Foot.ite))
    | split
    | dsimp only

theorem foot_abnormalEnd {m : Nat} {z t : State} (hs : 0x72280100a4ef4f88 ||| m = m) (h : Foot m z t) (a0 : _) (a1 : _) (a2 : _) (a3 : _) :
    Foot m z (State.abnormalEnd a0 a1 a2 a3 t) := by
  refine Foot.step (m := 0x72280100a4ef4f88) ?_ hs h
  clear h hs
  have h := Foot.refl 0x72280100a4ef4f88 t
  unfold State.abnormalEnd
  repeat' first
    | with_reducible assumption
    | (intro x; first
        | (refine Foot.cut (P := Foot 0x72280100a4ef4f88 t x) ?_ ?_; rotate_left; subst x; rotate_left; intro hx; clear_value x)
        | (refine Foot.cut (P := PairFoot 0x72280100a4ef4f88 t x) ?_ ?_; rotate_left; subst x; rotate_left; intro hx; clear_value x)
        | (refine Foot.cut (P := OptFoot 0x72280100a4ef4f88 t x) ?_ ?_; rotate_left; subst x; rotate_left; intro hx; clear_value x)
        | (have hf := x.programmed; clear hf)
        | clear_value x
        | skip)
    | lift_lets
    | with_reducible refine foot_safeTransfer rfl ?_ ..
    | with_reducible refine foot_log rfl ?_ ..
    | with_reducible refine foot_raise rfl ?_ ..
    | with_reducible refine foot_endExec rfl ?_ ..
    | with_reducible refine foot_reasonTo rfl ?_ ..
    | with_reducible refine Foot.foldl (fun _ _ _ => ?_) ?_
    | with_reducible refine PairFoot.foldl (fun _ _ _ => ?_) ?_
    | with_reducible apply Foot.ite
    | with_reducible apply PairFoot.ite
    | with_reducible apply OptFoot.ite
    | with_reducible apply OutFoot.ite
    | with_reducible apply ExFoot.ite
    | with_reducible exact ExFoot.error
    | with_reducible refine ExFoot.ok ?_
    | with_reducible refine PairFoot.forL (fun _ _ _ => ?_) ?_
    | with_reducible refine PairFoot.forN (fun _ _ _ => ?_) ?_
    | with_reducible refine OptFoot.some ?_
    | with_reducible exact OptFoot.none
    | with_reducible refine OutFoot.next ?_
    | with_reducible refine OptFoot.getD ?_ ?_
    | with_reducible refine PairFoot.snd ?_
    | with_reducible exact PairFoot.out (by assumption)
    | with_reducible refine PairFoot.eq (by assumption) ?_
    | with_reducible refine OptFoot.eq (by assumption) ?_
    | with_reducible refine ExFoot.eq (by assumption) ?_
    | ((with_reducible refine Foot.lit ?_ rfl rfl ?_ ?_ ?_ ?_ ?_ ?_); rotate_left; rfl; rfl; rfl; rfl; (first | exact Nat.le_refl _ | exact Nat.le_succ _); (constructor <;> first | with_reducible exact Kept.same | exact Kept.masked rfl); (first | with_reducible assumption | with_reducible refine foot_safeTransfer rfl ?_ .. | with_reducible refine foot_log rfl ?_ .. | with_reducible refine foot_raise rfl ?_ .. | with_reducible refine foot_endExec rfl ?_ .. | with_reducible refine foot_reasonTo rfl ?_ .. | with_reducible refine Foot.foldl (fun _ _ _ => ?_) ?_ | with_reducible refine PairFoot.foldl (fun _ _ _ => ?_) ?_ | with_reducible apply Foot.ite | with_reducible apply PairFoot.ite | with_reducible apply OptFoot.ite | with_reducible apply OutFoot.ite | with_reducible apply ExFoot.ite | with_reducible exact ExFoot.error | with_reducible refine ExFoot.ok ?_ | with_reducible refine PairFoot.forL (fun _ _ _ => ?_) ?_ | with_reducible refine PairFoot.forN (fun _ _ _ => ?_) ?_ | with_reducible refine OptFoot.some ?_ | with_reducible exact OptFoot.none | with_reducible refine OutFoot.next ?_ | with_reducible refine OptFoot.getD ?_ ?_ | with_reducible refine PairFoot.snd ?_))
    | split
    | with_reducible refine PairFoot.mk ?_
    | dsimp only

theorem foot_exception {m : Nat} {z t : State} (hs : 0x72280100a4ef4f88 ||| m = m) (h : Foot m z t) (a0 : _) (a1 : _) (a2 : _) (a3 : _) :
    Foot m z (State.exception a0 a1 a2 a3 t) := by
  refine Foot.step (m := 0x72280100a4ef4f88) ?_ hs h
  clear h hs
  have h := Foot.refl 0x72280100a4ef4f88 t
  unfold State.exception
  repeat' first
    | with_reducible assumption
    | (intro x; first | (refine Foot.cut (P := Foot 0x72280100a4ef4f88 t x) ?_ ?_; rotate_left; subst x; rotate_left; intro hx; clear_value x) | clear_value x | skip)
    | lift_lets
    | with_reducible refine foot_modCore rfl ?_ ..
    | with_reducible refine foot_log rfl ?_ ..
    | with_reducible refine foot_abnormalEnd rfl ?_ ..
    | with_reducible apply Foot.ite
    | split
    | dsimp only

theorem foot_instr {m : Nat} {z t : State} (hs : 0x72280100a4ef4f88 ||| m = m) {a1 : _} (hf : ∀ x0 t, Foot m z t → Foot m z (a1 x0 t)) (h : Foot m z t) (a0 : _) :
    Foot m z (State.instr a0 a1 t) := by
  unfold State.instr
  repeat' first
    | with_reducible refine hf _ _ ?_
    | with_reducible assumption
    | (intro x; first | clear_value x | skip)
    | lift_lets
    | with_reducible refine foot_exception (mask_sub (b := 0x72280100a4ef4f88) rfl hs) ?_ ..
    | with_reducible apply Foot.ite
    | split
    | dsimp only

theorem foot_simple {m : Nat} {z t : State} (hs : 0x72280100a4ef4f88 ||| m = m) (h : Foot m z t) (a0 : _) (a1 : _) :
    Foot m z (State.simple a0 a1 t) := by
  refine Foot.step (m := 0x72280100a4ef4f88) ?_ hs h
  clear h hs
  have h := Foot.refl 0x72280100a4ef4f88 t
  unfold State.simple
  repeat' first
    | with_reducible assumption
    | (intro x; first | clear_value x | skip)
    | lift_lets
    | with_reducible refine foot_modCore rfl ?_ ..
    | with_reducible refine foot_instr rfl (fun _ _ _ => ?_) ?_ ..
    | split
    | dsimp only

theorem foot_pairInstr {m : Nat} {z t : State} (hs : 0x72280100a4ef4f88 ||| m = m) (h : Foot m z t) (a0 : _) (a1 : _) (a2 : _) (a3 : _) :
    Foot m z (State.pairInstr a0 a1 a2 a3 t) := by
  refine Foot.step (m := 0x72280100a4ef4f88) ?_ hs h
  clear h hs
  have h := Foot.refl 0x72280100a4ef4f88 t
  unfold State.pairInstr
  repeat' first
    | with_reducible assumption
    | (intro x; first | clear_value x | skip)
    | lift_lets
    | with_reducible refine foot_modCore rfl ?_ ..
    | with_reducible refine foot_exception rfl ?_ ..
    | with_reducible refine foot_instr rfl (fun _ _ _ => ?_) ?_ ..
    | with_reducible apply Foot.ite
    | split
    | dsimp only

end Sys2Proof.Machine
end

