-- ==== Sys2Proof/Laws/FootLoopBase.lean ====
section
/-!
SUPPORT. Footprints of the operations of Machine/LoopBase.lean.
-/

set_option Elab.async false

set_option linter.all false

set_option maxRecDepth 4000

namespace Sys2Proof.Machine

theorem foot_modEngine {m : Nat} {z t : State} (hs : 0x8000000 ||| m = m) (h : Foot m z t) (a0 : _) (a1 : _) :
    Foot m z (State.modEngine a0 a1 t) := by
  refine Foot.step (m := 0x8000000) ?_ hs h
  clear h hs
  have h := Foot.refl 0x8000000 t
  unfold State.modEngine
  repeat' first
    | with_reducible assumption
    | (intro x; first | clear_value x | skip)
    | lift_lets
    | ((with_reducible refine Foot.lit ?_ rfl rfl ?_ ?_ ?_ ?_ ?_ ?_); rotate_left; rfl; rfl; rfl; rfl; (first | exact Nat.le_refl _ | exact Nat.le_succ _); (constructor <;> first | with_reducible exact Kept.same | exact Kept.masked rfl); (first | with_reducible assumption))
    | split
    | dsimp only

theorem foot_modSlot {m : Nat} {z t : State} (hs : 0x10000000 ||| m = m) (h : Foot m z t) (a0 : _) (a1 : _) :
    Foot m z (State.modSlot a0 a1 t) := by
  refine Foot.step (m := 0x10000000) ?_ hs h
  clear h hs
  have h := Foot.refl 0x10000000 t
  unfold State.modSlot
  repeat' first
    | with_reducible assumption
    | (intro x; first | clear_value x | skip)
    | lift_lets
    | ((with_reducible refine Foot.lit ?_ rfl rfl ?_ ?_ ?_ ?_ ?_ ?_); rotate_left; rfl; rfl; rfl; rfl; (first | exact Nat.le_refl _ | exact Nat.le_succ _); (constructor <;> first | with_reducible exact Kept.same | exact Kept.masked rfl); (first | with_reducible assumption))
    | split
    | dsimp only

theorem foot_setHalf {m : Nat} {z t : State} (hs : 0x80000000088 ||| m = m) (h : Foot m z t) (a0 : _) (a1 : _) :
    Foot m z (State.setHalf a0 a1 t) := by
  refine Foot.step (m := 0x80000000088) ?_ hs h
  clear h hs
  have h := Foot.refl 0x80000000088 t
  unfold State.setHalf
  repeat' first
    | with_reducible assumption
    | (intro x; first | clear_value x | skip)
    | lift_lets
    | with_reducible refine foot_store rfl ?_ ..
    | split
    | dsimp only

theorem foot_setDsc {m : Nat} {z t : State} (hs : 0x80000000088 ||| m = m) (h : Foot m z t) (a0 : _) (a1 : _) (a2 : _) :
    Foot m z (State.setDsc a0 a1 a2 t) := by
  refine Foot.step (m := 0x80000000088) ?_ hs h
  clear h hs
  have h := Foot.refl 0x80000000088 t
  unfold State.setDsc
  repeat' first
    | with_reducible assumption
    | (intro x; first | clear_value x | skip)
    | lift_lets
    | with_reducible refine foot_setHalf rfl ?_ ..
    | split
    | dsimp only

theorem foot_setDsc2 {m : Nat} {z t : State} (hs : 0x80000000088 ||| m = m) (h : Foot m z t) (a0 : _) (a1 : _) (a2 : _) :
    Foot m z (State.setDsc2 a0 a1 a2 t) := by
  refine Foot.step (m := 0x80000000088) ?_ hs h
  clear h hs
  have h := Foot.refl 0x80000000088 t
  unfold State.setDsc2
  repeat' first
    | with_reducible assumption
    | (intro x; first | clear_value x | skip)
    | lift_lets
    | with_reducible refine foot_setDsc rfl ?_ ..
    | split
    | dsimp only

theorem foot_leCorrect {m : Nat} {z t : State} (hs : 0x800000000000080 ||| m = m) (h : Foot m z t) (a0 : _) (a1 : _) (a2 : _) :
    Foot m z (State.leCorrect a0 a1 a2 t) := by
  refine Foot.step (m := 0x800000000000080) ?_ hs h
  clear h hs
  have h := Foot.refl 0x800000000000080 t
  unfold State.leCorrect
  repeat' first
    | with_reducible assumption
    | (intro x; first | clear_value x | skip)
    | lift_lets
    | with_reducible refine foot_incSat (blk_LE_ECC_CORR ..) rfl ?_ ..
    | with_reducible apply Foot.ite
    | ((with_reducible refine Foot.lit ?_ rfl rfl ?_ ?_ ?_ ?_ ?_ ?_); rotate_left; rfl; rfl; rfl; rfl; (first | exact Nat.le_refl _ | exact Nat.le_succ _); (constructor <;> first | with_reducible exact Kept.same | exact Kept.masked rfl); (first | with_reducible assumption | with_reducible refine foot_incSat (blk_LE_ECC_CORR ..) rfl ?_ .. | with_reducible apply Foot.ite))
    | split
    | dsimp only

theorem foot_leRead {m : Nat} {z t : State} (hs : 0x800000000000080 ||| m = m) (h : Foot m z t) (a0 : _) (a1 : _) (a2 : _) :
    PairFoot m z (State.leRead a0 a1 a2 t) := by
  refine PairFoot.step (m := 0x800000000000080) ?_ hs h
  clear h hs
  have h := Foot.refl 0x800000000000080 t
  unfold State.leRead
  repeat' first
    | with_reducible assumption
    | (intro x; first | clear_value x | skip)
    | lift_lets
    | with_reducible refine foot_leCorrect rfl ?_ ..
    | with_reducible apply PairFoot.ite
    | split
    | with_reducible refine PairFoot.mk ?_
    | dsimp only

theorem foot_slotOff {m : Nat} {z t : State} (hs : 0x800000000080000 ||| m = m) (h : Foot m z t) (a0 : _) :
    Foot m z (State.slotOff a0 t) := by
  refine Foot.step (m := 0x800000000080000) ?_ hs h
  clear h hs
  have h := Foot.refl 0x800000000080000 t
  unfold State.slotOff
  repeat' first
    | with_reducible assumption
    | (intro x; first | (refine Foot.cut (P := Foot 0x800000000080000 t x) ?_ ?_; rotate_left; subst x; rotate_left; intro hx; clear_value x) | clear_value x | skip)
    | lift_lets
    | with_reducible refine foot_setFlag (blk_LE_SLOTSTAT_PENDING ..) rfl ?_ ..
    | with_reducible refine foot_setFlag (blk_LE_PALACT_ACT ..) rfl ?_ ..
    | with_reducible refine foot_setFbit (blk_LE_SLOTSTAT_PENDING ..) rfl ?_ ..
    | with_reducible refine foot_setFbit (blk_LE_PALACT_ACT ..) rfl ?_ ..
    | ((with_reducible refine Foot.lit ?_ rfl rfl ?_ ?_ ?_ ?_ ?_ ?_); rotate_left; rfl; rfl; rfl; rfl; (first | exact Nat.le_refl _ | exact Nat.le_succ _); (constructor <;> first | with_reducible exact Kept.same | exact Kept.masked rfl); (first | with_reducible assumption | with_reducible refine foot_setFlag (blk_LE_SLOTSTAT_PENDING ..) rfl ?_ .. | with_reducible refine foot_setFlag (blk_LE_PALACT_ACT ..) rfl ?_ .. | with_reducible refine foot_setFbit (blk_LE_SLOTSTAT_PENDING ..) rfl ?_ .. | with_reducible refine foot_setFbit (blk_LE_PALACT_ACT ..) rfl ?_ ..))
    | split
    | dsimp only

theorem foot_dropAct {m : Nat} {z t : State} (hs : 0x8000000 ||| m = m) (h : Foot m z t) (a0 : _) (a1 : _) :
    Foot m z (State.dropAct a0 a1 t) := by
  refine Foot.step (m := 0x8000000) ?_ hs h
  clear h hs
  have h := Foot.refl 0x8000000 t
  unfold State.dropAct
  repeat' first
    | with_reducible assumption
    | (intro x; first | clear_value x | skip)
    | lift_lets
    | with_reducible refine foot_modEngine rfl ?_ ..
    | split
    | dsimp only

theorem foot_stickyFlags {m : Nat} {z t : State} (hs : 0x7a280100a4ea4f80 ||| m = m) (h : Foot m z t) (a0 : _) (a1 : _) :
    Foot m z (State.stickyFlags a0 a1 t) := by
  refine Foot.step (m := 0x7a280100a4ea4f80) ?_ hs h
  clear h hs
  have h := Foot.refl 0x7a280100a4ea4f80 t
  unfold State.stickyFlags
  repeat' first
    | with_reducible assumption
    | (intro x; first | (refine Foot.cut (P := Foot 0x7a280100a4ea4f80 t x) ?_ ?_; rotate_left; subst x; rotate_left; intro hx; clear_value x) | clear_value x | skip)
    | lift_lets
    | with_reducible refine foot_raise rfl ?_ ..
    | with_reducible refine foot_setFlag (blk_LE_SLOTSTAT_OV ..) rfl ?_ ..
    | with_reducible refine foot_setFlag (blk_LE_SLOTSTAT_SV ..) rfl ?_ ..
    | with_reducible apply Foot.ite
    | split
    | dsimp only

theorem foot_leExceptionAt {m : Nat} {z t : State} (hs : 0x7a280100acea4f80 ||| m = m) (h : Foot m z t) (a0 : _) (a1 : _) (a2 : _) (a3 : _) :
    Foot m z (State.leExceptionAt a0 a1 a2 a3 t) := by
  refine Foot.step (m := 0x7a280100acea4f80) ?_ hs h
  clear h hs
  have h := Foot.refl 0x7a280100acea4f80 t
  unfold State.leExceptionAt
  repeat' first
    | with_reducible assumption
    | (intro x; first | (refine Foot.cut (P := Foot 0x7a280100acea4f80 t x) ?_ ?_; rotate_left; subst x; rotate_left; intro hx; clear_value x) | clear_value x | skip)
    | lift_lets
    | with_reducible refine foot_raise rfl ?_ ..
    | with_reducible refine foot_slotOff rfl ?_ ..
    | with_reducible refine foot_dropAct rfl ?_ ..
    | with_reducible refine foot_stickyFlags rfl ?_ ..
    | with_reducible refine foot_setFld (blk_LE_EXC_PC ..) rfl ?_ ..
    | with_reducible refine foot_setFld (blk_LE_EXC_CODE ..) rfl ?_ ..
    | with_reducible refine foot_setFld (blk_LE_EXC_SET ..) rfl ?_ ..
    | with_reducible refine foot_setFld (blk_LE_EXC_SLOT ..) rfl ?_ ..
    | with_reducible refine foot_setFld (blk_LE_ECC_UNCORR ..) rfl ?_ ..
    | with_reducible refine foot_setFld (blk_LE_SLOTSTAT_EXC ..) rfl ?_ ..
    | with_reducible refine foot_setFld (blk_LE_SLOTCFG_EN ..) rfl ?_ ..
    | with_reducible refine foot_setFlag (blk_LE_EXC_PC ..) rfl ?_ ..
    | with_reducible refine foot_setFlag (blk_LE_EXC_CODE ..) rfl ?_ ..
    | with_reducible refine foot_setFlag (blk_LE_EXC_SET ..) rfl ?_ ..
    | with_reducible refine foot_setFlag (blk_LE_EXC_SLOT ..) rfl ?_ ..
    | with_reducible refine foot_setFlag (blk_LE_ECC_UNCORR ..) rfl ?_ ..
    | with_reducible refine foot_setFlag (blk_LE_SLOTSTAT_EXC ..) rfl ?_ ..
    | with_reducible refine foot_setFlag (blk_LE_SLOTCFG_EN ..) rfl ?_ ..
    | with_reducible refine foot_incSat (blk_LE_EXC_PC ..) rfl ?_ ..
    | with_reducible refine foot_incSat (blk_LE_EXC_CODE ..) rfl ?_ ..
    | with_reducible refine foot_incSat (blk_LE_EXC_SET ..) rfl ?_ ..
    | with_reducible refine foot_incSat (blk_LE_EXC_SLOT ..) rfl ?_ ..
    | with_reducible refine foot_incSat (blk_LE_ECC_UNCORR ..) rfl ?_ ..
    | with_reducible refine foot_incSat (blk_LE_SLOTSTAT_EXC ..) rfl ?_ ..
    | with_reducible refine foot_incSat (blk_LE_SLOTCFG_EN ..) rfl ?_ ..
    | with_reducible apply Foot.ite
    | split
    | dsimp only

theorem foot_leException {m : Nat} {z t : State} (hs : 0x7a280100acea4f80 ||| m = m) (h : Foot m z t) (a0 : _) (a1 : _) (a2 : _) :
    Foot m z (State.leException a0 a1 a2 t) := by
  refine Foot.step (m := 0x7a280100acea4f80) ?_ hs h
  clear h hs
  have h := Foot.refl 0x7a280100acea4f80 t
  unfold State.leException
  repeat' first
    | with_reducible assumption
    | (intro x; first | clear_value x | skip)
    | lift_lets
    | with_reducible refine foot_leExceptionAt rfl ?_ ..
    | split
    | dsimp only

theorem foot_leFaults {m : Nat} {z t : State} (hs : 0x7a280100acea4f80 ||| m = m) (h : Foot m z t) :
    Foot m z (State.leFaults t) := by
  refine Foot.step (m := 0x7a280100acea4f80) ?_ hs h
  clear h hs
  have h := Foot.refl 0x7a280100acea4f80 t
  unfold State.leFaults
  repeat' first
    | with_reducible assumption
    | (intro x; first | clear_value x | skip)
    | lift_lets
    | with_reducible refine foot_leExceptionAt rfl ?_ ..
    | with_reducible refine Foot.forL (fun _ _ _ => ?_) ?_
    | with_reducible refine Foot.forN (fun _ _ _ => ?_) ?_
    | split
    | dsimp only

theorem foot_setRunning {m : Nat} {z t : State} (hs : 0x8000000 ||| m = m) (h : Foot m z t) (a0 : _) (a1 : _) :
    Foot m z (State.setRunning a0 a1 t) := by
  refine Foot.step (m := 0x8000000) ?_ hs h
  clear h hs
  have h := Foot.refl 0x8000000 t
  unfold State.setRunning
  repeat' first
    | with_reducible assumption
    | (intro x; first | clear_value x | skip)
    | lift_lets
    | with_reducible refine foot_modEngine rfl ?_ ..
    | split
    | dsimp only

theorem foot_fillCache {m : Nat} {z t : State} (hs : 0x800000008000080 ||| m = m) (h : Foot m z t) (a0 : _) (a1 : _) (a2 : _) :
    Foot m z (State.fillCache a0 a1 a2 t) := by
  refine Foot.step (m := 0x800000008000080) ?_ hs h
  clear h hs
  have h := Foot.refl 0x800000008000080 t
  unfold State.fillCache
  repeat' first
    | with_reducible assumption
    | (intro x; first | (refine Foot.cut (P := Foot 0x800000008000080 t x) ?_ ?_; rotate_left; subst x; rotate_left; intro hx; clear_value x) | clear_value x | skip)
    | lift_lets
    | with_reducible refine foot_leCorrect rfl ?_ ..
    | with_reducible refine foot_modEngine rfl ?_ ..
    | with_reducible refine Foot.forN (fun _ _ _ => ?_) ?_
    | split
    | dsimp only

theorem foot_fetch {m : Nat} {z t : State} (hs : 0x800000008000080 ||| m = m) (h : Foot m z t) (a0 : _) (a1 : _) :
    ExFoot m z (State.fetch a0 a1 t) := by
  refine ExFoot.step (m := 0x800000008000080) ?_ hs h
  clear h hs
  have h := Foot.refl 0x800000008000080 t
  unfold State.fetch
  repeat' first
    | with_reducible assumption
    | (intro x; first | clear_value x | skip)
    | lift_lets
    | with_reducible refine foot_leCorrect rfl ?_ ..
    | with_reducible refine foot_fillCache rfl ?_ ..
    | with_reducible apply ExFoot.ite
    | with_reducible exact ExFoot.error
    | with_reducible refine ExFoot.ok ?_
    | split
    | dsimp only

theorem foot_bundle {m : Nat} {z t : State} (hs : 0x7a280100acea4f80 ||| m = m) {f : Act → State → Except Nat (Act × State)}
    (hf : ∀ a t, Foot m z t → ExFoot m z (f a t)) (h : Foot m z t) (e : Nat) : Foot m z (State.bundle e f t) := by
  unfold State.bundle
  repeat' first
    | with_reducible refine ExFoot.eq (by assumption) (hf _ _ ?_)
    | with_reducible assumption
    | (intro x; first | clear_value x | skip)
    | lift_lets
    | with_reducible refine foot_leException (mask_sub (b := 0x7a280100acea4f80) rfl hs) ?_ ..
    | with_reducible refine foot_modEngine (mask_sub (b := 0x7a280100acea4f80) rfl hs) ?_ ..
    | with_reducible refine foot_setRunning (mask_sub (b := 0x7a280100acea4f80) rfl hs) ?_ ..
    | with_reducible refine foot_fetch (mask_sub (b := 0x7a280100acea4f80) rfl hs) ?_ ..
    | with_reducible apply Foot.ite
    | with_reducible refine ExFoot.eq (by assumption) ?_
    | split
    | dsimp only

theorem foot_storeWindow {m : Nat} {z : State} {p : Act × State} (hs : 0x7a280100a4ea4f80 ||| m = m) (h : PairFoot m z p) (e i : Nat)
    (v : BitVec 16) : PairFoot m z (State.storeWindow e i v p) := by
  obtain ⟨a, t⟩ := p
  have h : Foot m z t := h
  unfold State.storeWindow
  repeat' first
    | with_reducible assumption
    | (intro x; first | clear_value x | skip)
    | lift_lets
    | with_reducible refine foot_raise (mask_sub (b := 0x7a280100a4ea4f80) rfl hs) ?_ ..
    | with_reducible refine foot_setFlag (blk_LE_SLOTSTAT_OWNV ..) (mask_sub (b := 0x7a280100a4ea4f80) rfl hs) ?_ ..
    | with_reducible apply PairFoot.ite
    | split
    | with_reducible refine PairFoot.mk ?_
    | dsimp only

theorem foot_storeS {m : Nat} {z : State} {p : Act × State} (hs : 0x7a280900a4ea4f88 ||| m = m) (h : PairFoot m z p) (e i : Nat)
    (v : BitVec 16) : PairFoot m z (State.storeS e i v p) := by
  obtain ⟨a, t⟩ := p
  have h : Foot m z t := h
  have hp : ∀ a : Act, PairFoot m z (a, t) := fun _ => h
  unfold State.storeS
  repeat' first
    | with_reducible apply hp
    | with_reducible assumption
    | (intro x; first | clear_value x | skip)
    | lift_lets
    | with_reducible refine foot_storeWindow (mask_sub (b := 0x7a280900a4ea4f88) rfl hs) ?_ ..
    | with_reducible refine foot_setHalf (mask_sub (b := 0x7a280900a4ea4f88) rfl hs) ?_ ..
    | with_reducible apply PairFoot.ite
    | split
    | with_reducible refine PairFoot.mk ?_
    | dsimp only

theorem foot_moves {m : Nat} {z t : State} (hs : 0x7a280900a4ea4f88 ||| m = m) (h : Foot m z t) (a0 : _) (a1 : _) (a2 : _) :
    ExFoot m z (State.moves a0 a1 a2 t) := by
  refine ExFoot.step (m := 0x7a280900a4ea4f88) ?_ hs h
  clear h hs
  have h := Foot.refl 0x7a280900a4ea4f88 t
  unfold State.moves
  repeat' first
    | with_reducible assumption
    | (intro x; first | (refine Foot.cut (P := Foot 0x7a280900a4ea4f88 t x) ?_ ?_; rotate_left; subst x; rotate_left; intro hx; clear_value x) | clear_value x | skip)
    | lift_lets
    | with_reducible refine foot_leCorrect rfl ?_ ..
    | with_reducible refine foot_storeS rfl ?_ ..
    | with_reducible refine Foot.forL (fun _ _ _ => ?_) ?_
    | with_reducible apply Foot.ite
    | with_reducible apply PairFoot.ite
    | with_reducible apply ExFoot.ite
    | with_reducible exact ExFoot.error
    | with_reducible refine ExFoot.ok ?_
    | with_reducible refine PairFoot.forL (fun _ _ _ => ?_) ?_
    | with_reducible refine PairFoot.snd ?_
    | split
    | with_reducible refine PairFoot.mk ?_
    | dsimp only

theorem foot_laBundle {m : Nat} {z t : State} (hs : 0x7a280900acea4f88 ||| m = m) (h : Foot m z t) (a0 : _) (a1 : _) (a2 : _) (a3 : _) :
    Foot m z (State.laBundle a0 a1 a2 a3 t) := by
  refine Foot.step (m := 0x7a280900acea4f88) ?_ hs h
  clear h hs
  have h := Foot.refl 0x7a280900acea4f88 t
  unfold State.laBundle
  repeat' first
    | with_reducible assumption
    | (intro x; first | clear_value x | skip)
    | lift_lets
    | with_reducible refine foot_bundle rfl (fun _ _ _ => ?_) ?_ ..
    | with_reducible refine foot_moves rfl ?_ ..
    | with_reducible apply ExFoot.ite
    | with_reducible exact ExFoot.error
    | with_reducible refine ExFoot.ok ?_
    | with_reducible refine ExFoot.eq (by assumption) ?_
    | split
    | dsimp only

theorem foot_lcBundle {m : Nat} {z t : State} (hs : 0x7a280100acea4f80 ||| m = m) (h : Foot m z t) (a0 : _) (a1 : _) :
    Foot m z (State.lcBundle a0 a1 t) := by
  refine Foot.step (m := 0x7a280100acea4f80) ?_ hs h
  clear h hs
  have h := Foot.refl 0x7a280100acea4f80 t
  unfold State.lcBundle
  repeat' first
    | with_reducible assumption
    | (intro x; first | clear_value x | skip)
    | lift_lets
    | with_reducible refine foot_bundle rfl (fun _ _ _ => ?_) ?_ ..
    | with_reducible exact ExFoot.error
    | with_reducible refine ExFoot.ok ?_
    | split
    | dsimp only

theorem foot_lcAlone {m : Nat} {z t : State} (hs : 0x7a280100acea4f80 ||| m = m) {f : Act → State → Except Nat (Act × State)}
    (hf : ∀ a t, Foot m z t → ExFoot m z (f a t)) (h : Foot m z t) (e : Nat) : Foot m z (State.lcAlone e f t) := by
  unfold State.lcAlone
  refine foot_bundle (mask_sub (b := 0x7a280100acea4f80) rfl hs) (fun a t h => ?_) h ..
  exact .ite .error (.ite .error (hf a t h))

end Sys2Proof.Machine
end

