-- ==== Sys2Proof/Laws/FootEndpoints.lean ====
section
/-!
SUPPORT. Footprints of the operations of Machine/Endpoints.lean.
-/

set_option Elab.async false

set_option linter.all false

set_option maxRecDepth 4000

namespace Sys2Proof.Machine

theorem foot_epName {m : Nat} {z t : State} (hs : 0x2000001004200000 ||| m = m) (h : Foot m z t) (a0 : _) :
    Foot m z (State.epName a0 t) := by
  refine Foot.step (m := 0x2000001004200000) ?_ hs h
  clear h hs
  have h := Foot.refl 0x2000001004200000 t
  unfold State.epName
  repeat' first
    | with_reducible assumption
    | (intro x; first | clear_value x | skip)
    | lift_lets
    | with_reducible apply Foot.ite
    | ((with_reducible refine Foot.lit ?_ rfl rfl ?_ ?_ ?_ ?_ ?_ ?_); rotate_left; rfl; rfl; rfl; rfl; (first | exact Nat.le_refl _ | exact Nat.le_succ _); (constructor <;> first | with_reducible exact Kept.same | exact Kept.masked rfl); (first | with_reducible assumption | with_reducible apply Foot.ite))
    | split
    | dsimp only

theorem foot_refreshCopies {m : Nat} {z t : State} (hs : 0x2000001004200000 ||| m = m) (h : Foot m z t) :
    Foot m z (State.refreshCopies t) := by
  refine Foot.step (m := 0x2000001004200000) ?_ hs h
  clear h hs
  have h := Foot.refl 0x2000001004200000 t
  unfold State.refreshCopies
  repeat' first
    | with_reducible assumption
    | (intro x; first | clear_value x | skip)
    | lift_lets
    | ((with_reducible refine Foot.lit ?_ rfl rfl ?_ ?_ ?_ ?_ ?_ ?_); rotate_left; rfl; rfl; rfl; rfl; (first | exact Nat.le_refl _ | exact Nat.le_succ _); (constructor <;> first | with_reducible exact Kept.same | exact Kept.masked rfl); (first | with_reducible assumption))
    | split
    | dsimp only

theorem foot_impCfgWrite {m : Nat} {z t : State} (hs : 0x7a280110a4ea4f80 ||| m = m) (h : Foot m z t) (a0 : _) (a1 : _) (a2 : _) :
    Foot m z (State.impCfgWrite a0 a1 a2 t) := by
  refine Foot.step (m := 0x7a280110a4ea4f80) ?_ hs h
  clear h hs
  have h := Foot.refl 0x7a280110a4ea4f80 t
  unfold State.impCfgWrite
  repeat' first
    | with_reducible assumption
    | (intro x; first | clear_value x | skip)
    | lift_lets
    | with_reducible refine foot_raise rfl ?_ ..
    | with_reducible refine foot_epName rfl ?_ ..
    | with_reducible refine foot_setFlag (blk_LE_IMPCFG_EN ..) rfl ?_ ..
    | with_reducible apply Foot.ite
    | split
    | dsimp only

theorem foot_execLeImpcfgWrite {m : Nat} {z t : State} (hs : 0x7a280110a4ea4f80 ||| m = m) (h : Foot m z t) (a0 : _) (a1 : _) (a2 : _) (a3 : _) :
    OutFoot m z (execLeImpcfgWrite a0 a1 a2 a3 t) := by
  refine OutFoot.step (m := 0x7a280110a4ea4f80) ?_ hs h
  clear h hs
  have h := Foot.refl 0x7a280110a4ea4f80 t
  unfold execLeImpcfgWrite
  repeat' first
    | with_reducible assumption
    | (intro x; first | clear_value x | skip)
    | lift_lets
    | with_reducible refine foot_impCfgWrite rfl ?_ ..
    | with_reducible refine OutFoot.next ?_
    | split
    | dsimp only

theorem foot_mbxUpdate {m : Nat} {z t : State} (hs : 0x200000000c200000 ||| m = m) (h : Foot m z t) (a0 : _) (a1 : _) :
    Foot m z (State.mbxUpdate a0 a1 t) := by
  refine Foot.step (m := 0x200000000c200000) ?_ hs h
  clear h hs
  have h := Foot.refl 0x200000000c200000 t
  unfold State.mbxUpdate
  repeat' first
    | with_reducible assumption
    | (intro x; first | clear_value x | skip)
    | lift_lets
    | with_reducible refine foot_modEngine rfl ?_ ..
    | with_reducible apply Foot.ite
    | split
    | dsimp only

end Sys2Proof.Machine
end

