-- ==== Sys2Proof/Laws/FootOutputs.lean ====
section
/-!
SUPPORT. Footprints of the operations of Machine/Outputs.lean.
-/

set_option Elab.async false

set_option linter.all false

set_option maxRecDepth 4000

namespace Sys2Proof.Machine

theorem foot_forceStat {m : Nat} {z t : State} (hs : 0x10000000000 ||| m = m) (h : Foot m z t) :
    Foot m z (State.forceStat t) := by
  refine Foot.step (m := 0x10000000000) ?_ hs h
  clear h hs
  have h := Foot.refl 0x10000000000 t
  unfold State.forceStat
  repeat' first
    | with_reducible assumption
    | (intro x; first | clear_value x | skip)
    | lift_lets
    | with_reducible refine foot_setFld (blk_SCAN_STAT_FORCE_ACT ..) rfl ?_ ..
    | with_reducible refine foot_setFld (blk_SCAN_STAT_FORCE_COUNT ..) rfl ?_ ..
    | with_reducible refine foot_setFlag (blk_SCAN_STAT_FORCE_ACT ..) rfl ?_ ..
    | with_reducible refine foot_setFlag (blk_SCAN_STAT_FORCE_COUNT ..) rfl ?_ ..
    | split
    | dsimp only

end Sys2Proof.Machine
end

