-- ==== Sys2Proof/Laws/FootTimeBase.lean ====
section
/-!
SUPPORT. Footprints of the operations of Machine/TimeBase.lean.
-/

set_option Elab.async false

set_option linter.all false

set_option maxRecDepth 4000

namespace Sys2Proof.Machine

theorem foot_modDom {m : Nat} {z t : State} (hs : 0x40 ||| m = m) (h : Foot m z t) (a0 : _) (a1 : _) :
    Foot m z (State.modDom a0 a1 t) := by
  refine Foot.step (m := 0x40) ?_ hs h
  clear h hs
  have h := Foot.refl 0x40 t
  unfold State.modDom
  repeat' first
    | with_reducible assumption
    | (intro x; first | clear_value x | skip)
    | lift_lets
    | ((with_reducible refine Foot.lit ?_ rfl rfl ?_ ?_ ?_ ?_ ?_ ?_); rotate_left; rfl; rfl; rfl; rfl; (first | exact Nat.le_refl _ | exact Nat.le_succ _); (constructor <;> first | with_reducible exact Kept.same | exact Kept.masked rfl); (first | with_reducible assumption))
    | split
    | dsimp only

theorem foot_setDomK {m : Nat} {z t : State} (hs : 0x800000000000 ||| m = m) (h : Foot m z t) (a0 : _) (a1 : _) :
    Foot m z (State.setDomK a0 a1 t) := by
  refine Foot.step (m := 0x800000000000) ?_ hs h
  clear h hs
  have h := Foot.refl 0x800000000000 t
  unfold State.setDomK
  repeat' first
    | with_reducible assumption
    | (intro x; first | clear_value x | skip)
    | lift_lets
    | with_reducible refine foot_setFld2 (blk_DOM_K_L_VALUE ..) rfl (blk_DOM_K_L_VALUE ..) rfl ?_ ..
    | with_reducible refine foot_setFld2 (blk_DOM_K_L_VALUE ..) rfl (blk_DOM_K_H_VALUE ..) rfl ?_ ..
    | with_reducible refine foot_setFld2 (blk_DOM_K_H_VALUE ..) rfl (blk_DOM_K_L_VALUE ..) rfl ?_ ..
    | with_reducible refine foot_setFld2 (blk_DOM_K_H_VALUE ..) rfl (blk_DOM_K_H_VALUE ..) rfl ?_ ..
    | split
    | dsimp only

theorem foot_setRes {m : Nat} {z t : State} (hs : 0x40 ||| m = m) (h : Foot m z t) (a0 : _) :
    Foot m z (State.setRes a0 t) := by
  refine Foot.step (m := 0x40) ?_ hs h
  clear h hs
  have h := Foot.refl 0x40 t
  unfold State.setRes
  repeat' first
    | with_reducible assumption
    | (intro x; first | clear_value x | skip)
    | lift_lets
    | ((with_reducible refine Foot.lit ?_ rfl rfl ?_ ?_ ?_ ?_ ?_ ?_); rotate_left; rfl; rfl; rfl; rfl; (first | exact Nat.le_refl _ | exact Nat.le_succ _); (constructor <;> first | with_reducible exact Kept.same | exact Kept.masked rfl); (first | with_reducible assumption))
    | split
    | dsimp only

end Sys2Proof.Machine
end

