-- ==== Sys2Proof/Laws/FootTime.lean ====
section
/-!
SUPPORT. Footprints of the operations of Machine/Time.lean.
-/

set_option Elab.async false

set_option linter.all false

set_option maxRecDepth 4000

namespace Sys2Proof.Machine

theorem foot_modTime {m : Nat} {z t : State} (hs : 0x40 ||| m = m) (h : Foot m z t) (a0 : _) :
    Foot m z (State.modTime a0 t) := by
  refine Foot.step (m := 0x40) ?_ hs h
  clear h hs
  have h := Foot.refl 0x40 t
  unfold State.modTime
  repeat' first
    | with_reducible assumption
    | (intro x; first | clear_value x | skip)
    | lift_lets
    | ((with_reducible refine Foot.lit ?_ rfl rfl ?_ ?_ ?_ ?_ ?_ ?_); rotate_left; rfl; rfl; rfl; rfl; (first | exact Nat.le_refl _ | exact Nat.le_succ _); (constructor <;> first | with_reducible exact Kept.same | exact Kept.masked rfl); (first | with_reducible assumption))
    | split
    | dsimp only

theorem foot_modTso {m : Nat} {z t : State} (hs : 0x40 ||| m = m) (h : Foot m z t) (a0 : _) (a1 : _) :
    Foot m z (State.modTso a0 a1 t) := by
  refine Foot.step (m := 0x40) ?_ hs h
  clear h hs
  have h := Foot.refl 0x40 t
  unfold State.modTso
  repeat' first
    | with_reducible assumption
    | (intro x; first | clear_value x | skip)
    | lift_lets
    | with_reducible refine foot_modTime rfl ?_ ..
    | split
    | dsimp only

theorem foot_tsoArm {m : Nat} {z t : State} (hs : 0x800000000040 ||| m = m) (h : Foot m z t) (a0 : _) :
    Foot m z (State.tsoArm a0 t) := by
  refine Foot.step (m := 0x800000000040) ?_ hs h
  clear h hs
  have h := Foot.refl 0x800000000040 t
  unfold State.tsoArm
  repeat' first
    | with_reducible assumption
    | (intro x; first | clear_value x | skip)
    | lift_lets
    | with_reducible refine foot_modTso rfl ?_ ..
    | with_reducible refine foot_setFld (blk_TSO_CFG_EN ..) rfl ?_ ..
    | with_reducible refine foot_setFld (blk_TSO_MISS_COUNT ..) rfl ?_ ..
    | with_reducible refine foot_setFlag (blk_TSO_CFG_EN ..) rfl ?_ ..
    | with_reducible refine foot_setFlag (blk_TSO_MISS_COUNT ..) rfl ?_ ..
    | with_reducible apply Foot.ite
    | split
    | dsimp only

theorem foot_tsoStep {m : Nat} {z t : State} (hs : 0x800000000040 ||| m = m) (h : Foot m z t) (a0 : _) :
    Foot m z (State.tsoStep a0 t) := by
  refine Foot.step (m := 0x800000000040) ?_ hs h
  clear h hs
  have h := Foot.refl 0x800000000040 t
  unfold State.tsoStep
  repeat' first
    | with_reducible assumption
    | (intro x; first | clear_value x | skip)
    | lift_lets
    | with_reducible refine foot_modTso rfl ?_ ..
    | with_reducible refine foot_setFlag (blk_TSO_MISS_COUNT ..) rfl ?_ ..
    | with_reducible refine foot_setFlag (blk_TSO_CFG_EN ..) rfl ?_ ..
    | with_reducible refine foot_addSat (blk_TSO_MISS_COUNT ..) rfl ?_ ..
    | with_reducible refine foot_addSat (blk_TSO_CFG_EN ..) rfl ?_ ..
    | with_reducible refine foot_incSat (blk_TSO_MISS_COUNT ..) rfl ?_ ..
    | with_reducible refine foot_incSat (blk_TSO_CFG_EN ..) rfl ?_ ..
    | with_reducible apply Foot.ite
    | split
    | dsimp only

theorem foot_tsoCfgWrite {m : Nat} {z t : State} (hs : 0x72288120a4ea4fc0 ||| m = m) (h : Foot m z t) (a0 : _) (a1 : _) :
    Foot m z (State.tsoCfgWrite a0 a1 t) := by
  refine Foot.step (m := 0x72288120a4ea4fc0) ?_ hs h
  clear h hs
  have h := Foot.refl 0x72288120a4ea4fc0 t
  unfold State.tsoCfgWrite
  repeat' first
    | with_reducible assumption
    | (intro x; first
        | (refine Foot.cut (P := Foot 0x72288120a4ea4fc0 t x) ?_ ?_; rotate_left; subst x; rotate_left; intro hx; clear_value x)
        | (refine Foot.cut (P := PairFoot 0x72288120a4ea4fc0 t x) ?_ ?_; rotate_left; subst x; rotate_left; intro hx; clear_value x)
        | (refine Foot.cut (P := OptFoot 0x72288120a4ea4fc0 t x) ?_ ?_; rotate_left; subst x; rotate_left; intro hx; clear_value x)
        | (have hf := x.programmed; clear hf)
        | clear_value x
        | skip)
    | lift_lets
    | with_reducible refine foot_tsoArm rfl ?_ ..
    | with_reducible refine foot_raise rfl ?_ ..
    | with_reducible refine foot_modTso rfl ?_ ..
    | with_reducible refine foot_emit rfl ?_ ..
    | with_reducible refine foot_setFlag (blk_TSO_CFG_EN ..) rfl ?_ ..
    | with_reducible refine foot_plainWrite (blk_TSO_CFG_EN ..) rfl ?_ ..
    | with_reducible refine Foot.foldl (fun _ _ _ => ?_) ?_
    | with_reducible refine PairFoot.foldl (fun _ _ _ => ?_) ?_
    | with_reducible apply Foot.ite
    | with_reducible apply PairFoot.ite
    | with_reducible apply OptFoot.ite
    | with_reducible apply OutFoot.ite
    | with_reducible apply ExFoot.ite
    | with_reducible exact ExFoot.error
    | with_reducible refine ExFoot.ok ?_
    | with_reducible refine PairFoot.forL (fun _ _ _ => ?_) ?_
    | with_reducible refine PairFoot.forN (fun _ _ _ => ?_) ?_
    | with_reducible refine OptFoot.some ?_
    | with_reducible exact OptFoot.none
    | with_reducible refine OutFoot.next ?_
    | with_reducible refine OptFoot.getD ?_ ?_
    | with_reducible refine PairFoot.snd ?_
    | with_reducible exact PairFoot.out (by assumption)
    | with_reducible refine PairFoot.eq (by assumption) ?_
    | with_reducible refine OptFoot.eq (by assumption) ?_
    | with_reducible refine ExFoot.eq (by assumption) ?_
    | ((with_reducible refine Foot.lit ?_ rfl rfl ?_ ?_ ?_ ?_ ?_ ?_); rotate_left; rfl; rfl; rfl; rfl; (first | exact Nat.le_refl _ | exact Nat.le_succ _); (constructor <;> first | with_reducible exact Kept.same | exact Kept.masked rfl); (first | with_reducible assumption | with_reducible refine foot_tsoArm rfl ?_ .. | with_reducible refine foot_raise rfl ?_ .. | with_reducible refine foot_modTso rfl ?_ .. | with_reducible refine foot_emit rfl ?_ .. | with_reducible refine foot_setFlag (blk_TSO_CFG_EN ..) rfl ?_ .. | with_reducible refine foot_plainWrite (blk_TSO_CFG_EN ..) rfl ?_ .. | with_reducible refine Foot.foldl (fun _ _ _ => ?_) ?_ | with_reducible refine PairFoot.foldl (fun _ _ _ => ?_) ?_ | with_reducible apply Foot.ite | with_reducible apply PairFoot.ite | with_reducible apply OptFoot.ite | with_reducible apply OutFoot.ite | with_reducible apply ExFoot.ite | with_reducible exact ExFoot.error | with_reducible refine ExFoot.ok ?_ | with_reducible refine PairFoot.forL (fun _ _ _ => ?_) ?_ | with_reducible refine PairFoot.forN (fun _ _ _ => ?_) ?_ | with_reducible refine OptFoot.some ?_ | with_reducible exact OptFoot.none | with_reducible refine OutFoot.next ?_ | with_reducible refine OptFoot.getD ?_ ?_ | with_reducible refine PairFoot.snd ?_))
    | split
    | with_reducible refine PairFoot.mk ?_
    | dsimp only

theorem foot_execTsoEnable {m : Nat} {z t : State} (hs : 0x72288120a4ea4fc0 ||| m = m) (h : Foot m z t) (a0 : _) (a1 : _) (a2 : _) :
    OutFoot m z (execTsoEnable a0 a1 a2 t) := by
  refine OutFoot.step (m := 0x72288120a4ea4fc0) ?_ hs h
  clear h hs
  have h := Foot.refl 0x72288120a4ea4fc0 t
  unfold execTsoEnable
  repeat' first
    | with_reducible assumption
    | (intro x; first | clear_value x | skip)
    | lift_lets
    | with_reducible refine foot_tsoCfgWrite rfl ?_ ..
    | with_reducible refine OutFoot.next ?_
    | split
    | dsimp only

theorem foot_execTsoPulse {m : Nat} {z t : State} (hs : 0x802000000040 ||| m = m) (h : Foot m z t) (a0 : _) :
    OutFoot m z (execTsoPulse a0 t) := by
  refine OutFoot.step (m := 0x802000000040) ?_ hs h
  clear h hs
  have h := Foot.refl 0x802000000040 t
  unfold execTsoPulse
  repeat' first
    | with_reducible assumption
    | (intro x; first | (refine Foot.cut (P := Foot 0x802000000040 t x) ?_ ?_; rotate_left; subst x; rotate_left; intro hx; clear_value x) | clear_value x | skip)
    | lift_lets
    | with_reducible refine foot_modTso rfl ?_ ..
    | with_reducible refine foot_emit rfl ?_ ..
    | with_reducible refine foot_setFld (blk_TSO_IDX_COUNT ..) rfl ?_ ..
    | with_reducible apply Foot.ite
    | with_reducible refine OutFoot.next ?_
    | split
    | dsimp only

theorem foot_execTsoPulseEnd {m : Nat} {z t : State} (hs : 0x802000000040 ||| m = m) (h : Foot m z t) (a0 : _) :
    OutFoot m z (execTsoPulseEnd a0 t) := by
  refine OutFoot.step (m := 0x802000000040) ?_ hs h
  clear h hs
  have h := Foot.refl 0x802000000040 t
  unfold execTsoPulseEnd
  repeat' first
    | with_reducible assumption
    | (intro x; first | (refine Foot.cut (P := Foot 0x802000000040 t x) ?_ ?_; rotate_left; subst x; rotate_left; intro hx; clear_value x) | clear_value x | skip)
    | lift_lets
    | with_reducible refine foot_modTso rfl ?_ ..
    | with_reducible refine foot_emit rfl ?_ ..
    | with_reducible refine foot_setFlag (blk_TSO_CFG_EN ..) rfl ?_ ..
    | with_reducible apply Foot.ite
    | with_reducible refine OutFoot.next ?_
    | split
    | dsimp only

theorem foot_otStart {m : Nat} {z t : State} (hs : 0x72288100a4ea4fc0 ||| m = m) (h : Foot m z t) (a0 : _) :
    Foot m z (State.otStart a0 t) := by
  refine Foot.step (m := 0x72288100a4ea4fc0) ?_ hs h
  clear h hs
  have h := Foot.refl 0x72288100a4ea4fc0 t
  unfold State.otStart
  repeat' first
    | with_reducible assumption
    | (intro x; first | (refine Foot.cut (P := Foot 0x72288100a4ea4fc0 t x) ?_ ?_; rotate_left; subst x; rotate_left; intro hx; clear_value x) | clear_value x | skip)
    | lift_lets
    | with_reducible refine foot_tsoArm rfl ?_ ..
    | with_reducible refine foot_setRes rfl ?_ ..
    | with_reducible refine foot_raise rfl ?_ ..
    | with_reducible refine foot_setFld (blk_TIME_STAT_OT_VALID ..) rfl ?_ ..
    | with_reducible refine foot_setFld (blk_TIME_STAT_OT_DOM ..) rfl ?_ ..
    | with_reducible refine foot_setFld (blk_DOM_STAT_VALID ..) rfl ?_ ..
    | with_reducible refine foot_setFld (blk_DOM_STAT_STATE ..) rfl ?_ ..
    | with_reducible refine foot_setFlag (blk_TIME_STAT_OT_VALID ..) rfl ?_ ..
    | with_reducible refine foot_setFlag (blk_TIME_STAT_OT_DOM ..) rfl ?_ ..
    | with_reducible refine foot_setFlag (blk_DOM_STAT_VALID ..) rfl ?_ ..
    | with_reducible refine foot_setFlag (blk_DOM_STAT_STATE ..) rfl ?_ ..
    | with_reducible refine Foot.forN (fun _ _ _ => ?_) ?_
    | with_reducible apply Foot.ite
    | split
    | dsimp only

theorem foot_domSet {m : Nat} {z t : State} (hs : 0x72288100a4ea4fc0 ||| m = m) (h : Foot m z t) (a0 : _) (a1 : _) :
    Foot m z (State.domSet a0 a1 t) := by
  refine Foot.step (m := 0x72288100a4ea4fc0) ?_ hs h
  clear h hs
  have h := Foot.refl 0x72288100a4ea4fc0 t
  unfold State.domSet
  repeat' first
    | with_reducible assumption
    | (intro x; first | (refine Foot.cut (P := Foot 0x72288100a4ea4fc0 t x) ?_ ?_; rotate_left; subst x; rotate_left; intro hx; clear_value x) | clear_value x | skip)
    | lift_lets
    | with_reducible refine foot_otStart rfl ?_ ..
    | with_reducible refine foot_modDom rfl ?_ ..
    | with_reducible refine foot_raise rfl ?_ ..
    | with_reducible refine foot_setFld (blk_DOM_STAT_VALID ..) rfl ?_ ..
    | with_reducible refine foot_setFld (blk_DOM_STAT_STATE ..) rfl ?_ ..
    | with_reducible refine foot_setFlag (blk_DOM_STAT_VALID ..) rfl ?_ ..
    | with_reducible refine foot_setFlag (blk_DOM_STAT_STATE ..) rfl ?_ ..
    | with_reducible apply Foot.ite
    | split
    | dsimp only

theorem foot_dlReanchor {m : Nat} {z t : State} (hs : 0x40 ||| m = m) (h : Foot m z t) (a0 : _) :
    Foot m z (State.dlReanchor a0 t) := by
  refine Foot.step (m := 0x40) ?_ hs h
  clear h hs
  have h := Foot.refl 0x40 t
  unfold State.dlReanchor
  repeat' first
    | with_reducible assumption
    | (intro x; first | clear_value x | skip)
    | lift_lets
    | with_reducible refine foot_modDom rfl ?_ ..
    | with_reducible apply Foot.ite
    | split
    | dsimp only

theorem foot_otSwitch {m : Nat} {z t : State} (hs : 0x800000000040 ||| m = m) (h : Foot m z t) (a0 : _) (a1 : _) :
    OptFoot m z (State.otSwitch a0 a1 t) := by
  refine OptFoot.step (m := 0x800000000040) ?_ hs h
  clear h hs
  have h := Foot.refl 0x800000000040 t
  unfold State.otSwitch
  repeat' first
    | with_reducible assumption
    | (intro x; first | (refine Foot.cut (P := Foot 0x800000000040 t x) ?_ ?_; rotate_left; subst x; rotate_left; intro hx; clear_value x) | clear_value x | skip)
    | lift_lets
    | with_reducible refine foot_setRes rfl ?_ ..
    | with_reducible refine foot_dlReanchor rfl ?_ ..
    | with_reducible refine foot_modTime rfl ?_ ..
    | with_reducible refine foot_setFld (blk_TIME_STAT_OT_DOM ..) rfl ?_ ..
    | with_reducible apply Foot.ite
    | with_reducible apply OptFoot.ite
    | with_reducible refine OptFoot.some ?_
    | with_reducible exact OptFoot.none
    | split
    | dsimp only

theorem foot_otTry {m : Nat} {z t : State} (hs : 0x800000000040 ||| m = m) (h : Foot m z t) (a0 : _) (a2 : _) :
    Foot m z (State.otTry a0 t a2) := by
  induction a2 generalizing t a0 with
  | nil =>
    unfold State.otTry
    repeat' first
      | with_reducible assumption
      | with_reducible refine foot_otSwitch (mask_sub (b := 0x800000000040) rfl hs) ?_ ..
      | with_reducible refine foot_otSwitch (mask_sub (b := 0x800000000040) rfl hs) ?_ ..
      | with_reducible refine foot_otSwitch (mask_sub (b := 0x800000000040) rfl hs) ?_ ..
      | with_reducible refine foot_setFlag (blk_TIME_STAT_SW_REFUSED ..) (mask_sub (b := 0x800000000040) rfl hs) ?_ ..
      | with_reducible refine foot_setFlag (blk_TIME_STAT_SW_REFUSED ..) (mask_sub (b := 0x800000000040) rfl hs) ?_ ..
      | with_reducible refine foot_setFlag (blk_TIME_STAT_SW_REFUSED ..) (mask_sub (b := 0x800000000040) rfl hs) ?_ ..
      | with_reducible apply Foot.ite
      | with_reducible refine OptFoot.eq (by assumption) ?_
      | split
      | dsimp only
  | cons x xs ih =>
    unfold State.otTry
    repeat' first
      | with_reducible apply ih
      | with_reducible assumption
      | with_reducible refine foot_otSwitch (mask_sub (b := 0x800000000040) rfl hs) ?_ ..
      | with_reducible refine foot_otSwitch (mask_sub (b := 0x800000000040) rfl hs) ?_ ..
      | with_reducible refine foot_otSwitch (mask_sub (b := 0x800000000040) rfl hs) ?_ ..
      | with_reducible refine foot_setFlag (blk_TIME_STAT_SW_REFUSED ..) (mask_sub (b := 0x800000000040) rfl hs) ?_ ..
      | with_reducible refine foot_setFlag (blk_TIME_STAT_SW_REFUSED ..) (mask_sub (b := 0x800000000040) rfl hs) ?_ ..
      | with_reducible refine foot_setFlag (blk_TIME_STAT_SW_REFUSED ..) (mask_sub (b := 0x800000000040) rfl hs) ?_ ..
      | with_reducible apply Foot.ite
      | with_reducible refine OptFoot.eq (by assumption) ?_
      | split
      | dsimp only

theorem foot_otSelect {m : Nat} {z t : State} (hs : 0x800000000040 ||| m = m) (h : Foot m z t) (a0 : _) :
    Foot m z (State.otSelect a0 t) := by
  refine Foot.step (m := 0x800000000040) ?_ hs h
  clear h hs
  have h := Foot.refl 0x800000000040 t
  unfold State.otSelect
  repeat' first
    | with_reducible assumption
    | (intro x; first | (refine Foot.cut (P := Foot 0x800000000040 t x) ?_ ?_; rotate_left; subst x; rotate_left; intro hx; clear_value x) | clear_value x | skip)
    | lift_lets
    | with_reducible refine foot_otTry rfl ?_ ..
    | with_reducible refine foot_modTime rfl ?_ ..
    | with_reducible apply Foot.ite
    | split
    | dsimp only

theorem foot_addJstep {m : Nat} {z t : State} (hs : 0x800000000000 ||| m = m) (h : Foot m z t) (a0 : _) (a1 : _) :
    Foot m z (State.addJstep a0 a1 t) := by
  refine Foot.step (m := 0x800000000000) ?_ hs h
  clear h hs
  have h := Foot.refl 0x800000000000 t
  unfold State.addJstep
  repeat' first
    | with_reducible assumption
    | (intro x; first | clear_value x | skip)
    | lift_lets
    | with_reducible refine foot_setFld2 (blk_DOM_JSTEP_L_VALUE ..) rfl (blk_DOM_JSTEP_L_VALUE ..) rfl ?_ ..
    | with_reducible refine foot_setFld2 (blk_DOM_JSTEP_L_VALUE ..) rfl (blk_DOM_JSTEP_H_VALUE ..) rfl ?_ ..
    | with_reducible refine foot_setFld2 (blk_DOM_JSTEP_H_VALUE ..) rfl (blk_DOM_JSTEP_L_VALUE ..) rfl ?_ ..
    | with_reducible refine foot_setFld2 (blk_DOM_JSTEP_H_VALUE ..) rfl (blk_DOM_JSTEP_H_VALUE ..) rfl ?_ ..
    | split
    | dsimp only

theorem foot_domStep {m : Nat} {z t : State} (hs : 0x72288100a4ea4fc0 ||| m = m) (h : Foot m z t) (a0 : _) (a1 : _) (a2 : _) :
    Foot m z (State.domStep a0 a1 a2 t) := by
  refine Foot.step (m := 0x72288100a4ea4fc0) ?_ hs h
  clear h hs
  have h := Foot.refl 0x72288100a4ea4fc0 t
  unfold State.domStep
  repeat' first
    | with_reducible assumption
    | (intro x; first | (refine Foot.cut (P := Foot 0x72288100a4ea4fc0 t x) ?_ ?_; rotate_left; subst x; rotate_left; intro hx; clear_value x) | clear_value x | skip)
    | lift_lets
    | with_reducible refine foot_setDomK rfl ?_ ..
    | with_reducible refine foot_addJstep rfl ?_ ..
    | with_reducible refine foot_setRes rfl ?_ ..
    | with_reducible refine foot_otSelect rfl ?_ ..
    | with_reducible refine foot_log rfl ?_ ..
    | with_reducible refine foot_modDom rfl ?_ ..
    | with_reducible refine foot_raise rfl ?_ ..
    | with_reducible refine foot_setFbit (blk_TIME_STAT_JEXCL ..) rfl ?_ ..
    | with_reducible apply Foot.ite
    | split
    | dsimp only

theorem foot_domCommit {m : Nat} {z t : State} (hs : 0x72288100a4ea4fc0 ||| m = m) (h : Foot m z t) (a0 : _) :
    Foot m z (State.domCommit a0 t) := by
  refine Foot.step (m := 0x72288100a4ea4fc0) ?_ hs h
  clear h hs
  have h := Foot.refl 0x72288100a4ea4fc0 t
  unfold State.domCommit
  repeat' first
    | with_reducible assumption
    | (intro x; first | clear_value x | skip)
    | lift_lets
    | with_reducible refine foot_domSet rfl ?_ ..
    | with_reducible refine foot_modDom rfl ?_ ..
    | with_reducible refine foot_domStep rfl ?_ ..
    | with_reducible refine foot_addSat (blk_DOM_STAT_STEPS ..) rfl ?_ ..
    | with_reducible apply Foot.ite
    | split
    | dsimp only

theorem foot_domQueue {m : Nat} {z t : State} (hs : 0x40 ||| m = m) (h : Foot m z t) (a0 : _) (a1 : _) :
    Foot m z (State.domQueue a0 a1 t) := by
  refine Foot.step (m := 0x40) ?_ hs h
  clear h hs
  have h := Foot.refl 0x40 t
  unfold State.domQueue
  repeat' first
    | with_reducible assumption
    | (intro x; first | clear_value x | skip)
    | lift_lets
    | with_reducible refine foot_modDom rfl ?_ ..
    | split
    | dsimp only

theorem foot_domUpdWrite {m : Nat} {z t : State} (hs : 0x800000000040 ||| m = m) (h : Foot m z t) (a0 : _) (a1 : _) :
    Foot m z (State.domUpdWrite a0 a1 t) := by
  refine Foot.step (m := 0x800000000040) ?_ hs h
  clear h hs
  have h := Foot.refl 0x800000000040 t
  unfold State.domUpdWrite
  repeat' first
    | with_reducible assumption
    | (intro x; first | clear_value x | skip)
    | lift_lets
    | with_reducible refine foot_domQueue rfl ?_ ..
    | with_reducible refine foot_incSat (blk_DOM_STAT_IGN ..) rfl ?_ ..
    | with_reducible apply Foot.ite
    | split
    | dsimp only

theorem foot_execDomainUpdate {m : Nat} {z t : State} (hs : 0x800000000040 ||| m = m) (h : Foot m z t) (a0 : _) (a1 : _) (a2 : _) :
    OutFoot m z (execDomainUpdate a0 a1 a2 t) := by
  refine OutFoot.step (m := 0x800000000040) ?_ hs h
  clear h hs
  have h := Foot.refl 0x800000000040 t
  unfold execDomainUpdate
  repeat' first
    | with_reducible assumption
    | (intro x; first | clear_value x | skip)
    | lift_lets
    | with_reducible refine foot_domUpdWrite rfl ?_ ..
    | with_reducible refine OutFoot.next ?_
    | split
    | dsimp only

theorem foot_execDomainUpdateCommit {m : Nat} {z t : State} (hs : 0x72288100a4ea4fc0 ||| m = m) (h : Foot m z t) (a0 : _) :
    OutFoot m z (execDomainUpdateCommit a0 t) := by
  refine OutFoot.step (m := 0x72288100a4ea4fc0) ?_ hs h
  clear h hs
  have h := Foot.refl 0x72288100a4ea4fc0 t
  unfold execDomainUpdateCommit
  repeat' first
    | with_reducible assumption
    | (intro x; first | clear_value x | skip)
    | lift_lets
    | with_reducible refine foot_domCommit rfl ?_ ..
    | with_reducible apply Foot.ite
    | with_reducible refine OutFoot.next ?_
    | split
    | dsimp only

theorem foot_domStage {m : Nat} {z t : State} (hs : 0xffffff0000000040 ||| m = m) (h : Foot m z t) (a0 : _) (a1 : _) (a2 : _) :
    Foot m z (State.domStage a0 a1 a2 t) := by
  refine Foot.step (m := 0xffffff0000000040) ?_ hs h
  clear h hs
  have h := Foot.refl 0xffffff0000000040 t
  unfold State.domStage
  repeat' first
    | with_reducible assumption
    | (intro x; first | (refine Foot.cut (P := Foot 0xffffff0000000040 t x) ?_ ?_; rotate_left; subst x; rotate_left; intro hx; clear_value x) | clear_value x | skip)
    | lift_lets
    | with_reducible refine foot_setRes rfl ?_ ..
    | with_reducible refine foot_incSat (blk_DOM_STAT_IGN ..) rfl ?_ ..
    | with_reducible refine foot_plainAll rfl ?_ ..
    | with_reducible apply Foot.ite
    | split
    | dsimp only

theorem foot_domCfgWrite {m : Nat} {z t : State} (hs : 0x72288100a4ea4fc0 ||| m = m) (h : Foot m z t) (a0 : _) (a1 : _) :
    Foot m z (State.domCfgWrite a0 a1 t) := by
  refine Foot.step (m := 0x72288100a4ea4fc0) ?_ hs h
  clear h hs
  have h := Foot.refl 0x72288100a4ea4fc0 t
  unfold State.domCfgWrite
  repeat' first
    | with_reducible assumption
    | (intro x; first | (refine Foot.cut (P := Foot 0x72288100a4ea4fc0 t x) ?_ ?_; rotate_left; subst x; rotate_left; intro hx; clear_value x) | clear_value x | skip)
    | lift_lets
    | with_reducible refine foot_domSet rfl ?_ ..
    | with_reducible refine foot_modDom rfl ?_ ..
    | with_reducible refine foot_setFld (blk_DOM_CFG_SRC ..) rfl ?_ ..
    | with_reducible refine foot_plainWrite (blk_DOM_CFG_SRC ..) rfl ?_ ..
    | with_reducible apply Foot.ite
    | split
    | dsimp only

theorem foot_timeCtrlWrite {m : Nat} {z t : State} (hs : 0x800000000040 ||| m = m) (h : Foot m z t) (a0 : _) :
    Foot m z (State.timeCtrlWrite a0 t) := by
  refine Foot.step (m := 0x800000000040) ?_ hs h
  clear h hs
  have h := Foot.refl 0x800000000040 t
  unfold State.timeCtrlWrite
  repeat' first
    | with_reducible assumption
    | (intro x; first | clear_value x | skip)
    | lift_lets
    | with_reducible refine foot_setRes rfl ?_ ..
    | with_reducible refine foot_plainWrite (blk_TIME_CTRL_SLEW ..) rfl ?_ ..
    | split
    | dsimp only

theorem foot_timeSelWrite {m : Nat} {z t : State} (hs : 0x800000000040 ||| m = m) (h : Foot m z t) (a0 : _) :
    Foot m z (State.timeSelWrite a0 t) := by
  refine Foot.step (m := 0x800000000040) ?_ hs h
  clear h hs
  have h := Foot.refl 0x800000000040 t
  unfold State.timeSelWrite
  repeat' first
    | with_reducible assumption
    | (intro x; first | (refine Foot.cut (P := Foot 0x800000000040 t x) ?_ ?_; rotate_left; subst x; rotate_left; intro hx; clear_value x) | clear_value x | skip)
    | lift_lets
    | with_reducible refine foot_modTime rfl ?_ ..
    | with_reducible refine foot_plainWrite (blk_TIME_SEL_PREF ..) rfl ?_ ..
    | with_reducible apply Foot.ite
    | split
    | dsimp only

theorem foot_timeResult {m : Nat} {z t : State} (hs : 0x800000000000 ||| m = m) (h : Foot m z t) (a0 : _) (a1 : _) :
    Foot m z (State.timeResult a0 a1 t) := by
  refine Foot.step (m := 0x800000000000) ?_ hs h
  clear h hs
  have h := Foot.refl 0x800000000000 t
  unfold State.timeResult
  repeat' first
    | with_reducible assumption
    | (intro x; first | clear_value x | skip)
    | lift_lets
    | with_reducible refine foot_setFld (blk_TIME_STAT_RESULT ..) rfl ?_ ..
    | with_reducible refine foot_setFld (blk_TIME_STAT_CODE ..) rfl ?_ ..
    | split
    | dsimp only

theorem foot_snapTake {m : Nat} {z t : State} (hs : 0x800000000000 ||| m = m) (h : Foot m z t) :
    Foot m z (State.snapTake t) := by
  refine Foot.step (m := 0x800000000000) ?_ hs h
  clear h hs
  have h := Foot.refl 0x800000000000 t
  unfold State.snapTake
  repeat' first
    | with_reducible assumption
    | (intro x; first | clear_value x | skip)
    | lift_lets
    | with_reducible refine foot_setFld2 (blk_SNAP_DL_L_VALUE ..) rfl (blk_SNAP_DL_H_VALUE ..) rfl ?_ ..
    | with_reducible refine foot_setFld2 (blk_SNAP_DL_L_VALUE ..) rfl (blk_SNAP_D1_L_VALUE ..) rfl ?_ ..
    | with_reducible refine foot_setFld2 (blk_SNAP_DL_L_VALUE ..) rfl (blk_SNAP_D1_H_VALUE ..) rfl ?_ ..
    | with_reducible refine foot_setFld2 (blk_SNAP_DL_L_VALUE ..) rfl (blk_SNAP_D0_L_VALUE ..) rfl ?_ ..
    | with_reducible refine foot_setFld2 (blk_SNAP_DL_L_VALUE ..) rfl (blk_SNAP_D0_H_VALUE ..) rfl ?_ ..
    | with_reducible refine foot_setFld2 (blk_SNAP_DL_L_VALUE ..) rfl (blk_SNAP_OT_L_VALUE ..) rfl ?_ ..
    | with_reducible refine foot_setFld2 (blk_SNAP_DL_L_VALUE ..) rfl (blk_SNAP_OT_H_VALUE ..) rfl ?_ ..
    | with_reducible refine foot_setFld2 (blk_SNAP_DL_L_VALUE ..) rfl (blk_SNAP_TBC_L_VALUE ..) rfl ?_ ..
    | with_reducible refine foot_setFld2 (blk_SNAP_DL_L_VALUE ..) rfl (blk_SNAP_TBC_H_VALUE ..) rfl ?_ ..
    | with_reducible refine foot_setFld2 (blk_SNAP_DL_H_VALUE ..) rfl (blk_SNAP_DL_L_VALUE ..) rfl ?_ ..
    | with_reducible refine foot_setFld2 (blk_SNAP_DL_H_VALUE ..) rfl (blk_SNAP_D1_L_VALUE ..) rfl ?_ ..
    | with_reducible refine foot_setFld2 (blk_SNAP_DL_H_VALUE ..) rfl (blk_SNAP_D1_H_VALUE ..) rfl ?_ ..
    | with_reducible refine foot_setFld2 (blk_SNAP_DL_H_VALUE ..) rfl (blk_SNAP_D0_L_VALUE ..) rfl ?_ ..
    | with_reducible refine foot_setFld2 (blk_SNAP_DL_H_VALUE ..) rfl (blk_SNAP_D0_H_VALUE ..) rfl ?_ ..
    | with_reducible refine foot_setFld2 (blk_SNAP_DL_H_VALUE ..) rfl (blk_SNAP_OT_L_VALUE ..) rfl ?_ ..
    | with_reducible refine foot_setFld2 (blk_SNAP_DL_H_VALUE ..) rfl (blk_SNAP_OT_H_VALUE ..) rfl ?_ ..
    | with_reducible refine foot_setFld2 (blk_SNAP_DL_H_VALUE ..) rfl (blk_SNAP_TBC_L_VALUE ..) rfl ?_ ..
    | with_reducible refine foot_setFld2 (blk_SNAP_DL_H_VALUE ..) rfl (blk_SNAP_TBC_H_VALUE ..) rfl ?_ ..
    | with_reducible refine foot_setFld2 (blk_SNAP_D1_L_VALUE ..) rfl (blk_SNAP_DL_L_VALUE ..) rfl ?_ ..
    | with_reducible refine foot_setFld2 (blk_SNAP_D1_L_VALUE ..) rfl (blk_SNAP_DL_H_VALUE ..) rfl ?_ ..
    | with_reducible refine foot_setFld2 (blk_SNAP_D1_L_VALUE ..) rfl (blk_SNAP_D1_H_VALUE ..) rfl ?_ ..
    | with_reducible refine foot_setFld2 (blk_SNAP_D1_L_VALUE ..) rfl (blk_SNAP_D0_L_VALUE ..) rfl ?_ ..
    | with_reducible refine foot_setFld2 (blk_SNAP_D1_L_VALUE ..) rfl (blk_SNAP_D0_H_VALUE ..) rfl ?_ ..
    | with_reducible refine foot_setFld2 (blk_SNAP_D1_L_VALUE ..) rfl (blk_SNAP_OT_L_VALUE ..) rfl ?_ ..
    | with_reducible refine foot_setFld2 (blk_SNAP_D1_L_VALUE ..) rfl (blk_SNAP_OT_H_VALUE ..) rfl ?_ ..
    | with_reducible refine foot_setFld2 (blk_SNAP_D1_L_VALUE ..) rfl (blk_SNAP_TBC_L_VALUE ..) rfl ?_ ..
    | with_reducible refine foot_setFld2 (blk_SNAP_D1_L_VALUE ..) rfl (blk_SNAP_TBC_H_VALUE ..) rfl ?_ ..
    | with_reducible refine foot_setFld2 (blk_SNAP_D1_H_VALUE ..) rfl (blk_SNAP_DL_L_VALUE ..) rfl ?_ ..
    | with_reducible refine foot_setFld2 (blk_SNAP_D1_H_VALUE ..) rfl (blk_SNAP_DL_H_VALUE ..) rfl ?_ ..
    | with_reducible refine foot_setFld2 (blk_SNAP_D1_H_VALUE ..) rfl (blk_SNAP_D1_L_VALUE ..) rfl ?_ ..
    | with_reducible refine foot_setFld2 (blk_SNAP_D1_H_VALUE ..) rfl (blk_SNAP_D0_L_VALUE ..) rfl ?_ ..
    | with_reducible refine foot_setFld2 (blk_SNAP_D1_H_VALUE ..) rfl (blk_SNAP_D0_H_VALUE ..) rfl ?_ ..
    | with_reducible refine foot_setFld2 (blk_SNAP_D1_H_VALUE ..) rfl (blk_SNAP_OT_L_VALUE ..) rfl ?_ ..
    | with_reducible refine foot_setFld2 (blk_SNAP_D1_H_VALUE ..) rfl (blk_SNAP_OT_H_VALUE ..) rfl ?_ ..
    | with_reducible refine foot_setFld2 (blk_SNAP_D1_H_VALUE ..) rfl (blk_SNAP_TBC_L_VALUE ..) rfl ?_ ..
    | with_reducible refine foot_setFld2 (blk_SNAP_D1_H_VALUE ..) rfl (blk_SNAP_TBC_H_VALUE ..) rfl ?_ ..
    | with_reducible refine foot_setFld2 (blk_SNAP_D0_L_VALUE ..) rfl (blk_SNAP_DL_L_VALUE ..) rfl ?_ ..
    | with_reducible refine foot_setFld2 (blk_SNAP_D0_L_VALUE ..) rfl (blk_SNAP_DL_H_VALUE ..) rfl ?_ ..
    | with_reducible refine foot_setFld2 (blk_SNAP_D0_L_VALUE ..) rfl (blk_SNAP_D1_L_VALUE ..) rfl ?_ ..
    | with_reducible refine foot_setFld2 (blk_SNAP_D0_L_VALUE ..) rfl (blk_SNAP_D1_H_VALUE ..) rfl ?_ ..
    | with_reducible refine foot_setFld2 (blk_SNAP_D0_L_VALUE ..) rfl (blk_SNAP_D0_H_VALUE ..) rfl ?_ ..
    | with_reducible refine foot_setFld2 (blk_SNAP_D0_L_VALUE ..) rfl (blk_SNAP_OT_L_VALUE ..) rfl ?_ ..
    | with_reducible refine foot_setFld2 (blk_SNAP_D0_L_VALUE ..) rfl (blk_SNAP_OT_H_VALUE ..) rfl ?_ ..
    | with_reducible refine foot_setFld2 (blk_SNAP_D0_L_VALUE ..) rfl (blk_SNAP_TBC_L_VALUE ..) rfl ?_ ..
    | with_reducible refine foot_setFld2 (blk_SNAP_D0_L_VALUE ..) rfl (blk_SNAP_TBC_H_VALUE ..) rfl ?_ ..
    | with_reducible refine foot_setFld2 (blk_SNAP_D0_H_VALUE ..) rfl (blk_SNAP_DL_L_VALUE ..) rfl ?_ ..
    | with_reducible refine foot_setFld2 (blk_SNAP_D0_H_VALUE ..) rfl (blk_SNAP_DL_H_VALUE ..) rfl ?_ ..
    | with_reducible refine foot_setFld2 (blk_SNAP_D0_H_VALUE ..) rfl (blk_SNAP_D1_L_VALUE ..) rfl ?_ ..
    | with_reducible refine foot_setFld2 (blk_SNAP_D0_H_VALUE ..) rfl (blk_SNAP_D1_H_VALUE ..) rfl ?_ ..
    | with_reducible refine foot_setFld2 (blk_SNAP_D0_H_VALUE ..) rfl (blk_SNAP_D0_L_VALUE ..) rfl ?_ ..
    | with_reducible refine foot_setFld2 (blk_SNAP_D0_H_VALUE ..) rfl (blk_SNAP_OT_L_VALUE ..) rfl ?_ ..
    | with_reducible refine foot_setFld2 (blk_SNAP_D0_H_VALUE ..) rfl (blk_SNAP_OT_H_VALUE ..) rfl ?_ ..
    | with_reducible refine foot_setFld2 (blk_SNAP_D0_H_VALUE ..) rfl (blk_SNAP_TBC_L_VALUE ..) rfl ?_ ..
    | with_reducible refine foot_setFld2 (blk_SNAP_D0_H_VALUE ..) rfl (blk_SNAP_TBC_H_VALUE ..) rfl ?_ ..
    | with_reducible refine foot_setFld2 (blk_SNAP_OT_L_VALUE ..) rfl (blk_SNAP_DL_L_VALUE ..) rfl ?_ ..
    | with_reducible refine foot_setFld2 (blk_SNAP_OT_L_VALUE ..) rfl (blk_SNAP_DL_H_VALUE ..) rfl ?_ ..
    | with_reducible refine foot_setFld2 (blk_SNAP_OT_L_VALUE ..) rfl (blk_SNAP_D1_L_VALUE ..) rfl ?_ ..
    | with_reducible refine foot_setFld2 (blk_SNAP_OT_L_VALUE ..) rfl (blk_SNAP_D1_H_VALUE ..) rfl ?_ ..
    | with_reducible refine foot_setFld2 (blk_SNAP_OT_L_VALUE ..) rfl (blk_SNAP_D0_L_VALUE ..) rfl ?_ ..
    | with_reducible refine foot_setFld2 (blk_SNAP_OT_L_VALUE ..) rfl (blk_SNAP_D0_H_VALUE ..) rfl ?_ ..
    | with_reducible refine foot_setFld2 (blk_SNAP_OT_L_VALUE ..) rfl (blk_SNAP_OT_H_VALUE ..) rfl ?_ ..
    | with_reducible refine foot_setFld2 (blk_SNAP_OT_L_VALUE ..) rfl (blk_SNAP_TBC_L_VALUE ..) rfl ?_ ..
    | with_reducible refine foot_setFld2 (blk_SNAP_OT_L_VALUE ..) rfl (blk_SNAP_TBC_H_VALUE ..) rfl ?_ ..
    | with_reducible refine foot_setFld2 (blk_SNAP_OT_H_VALUE ..) rfl (blk_SNAP_DL_L_VALUE ..) rfl ?_ ..
    | with_reducible refine foot_setFld2 (blk_SNAP_OT_H_VALUE ..) rfl (blk_SNAP_DL_H_VALUE ..) rfl ?_ ..
    | with_reducible refine foot_setFld2 (blk_SNAP_OT_H_VALUE ..) rfl (blk_SNAP_D1_L_VALUE ..) rfl ?_ ..
    | with_reducible refine foot_setFld2 (blk_SNAP_OT_H_VALUE ..) rfl (blk_SNAP_D1_H_VALUE ..) rfl ?_ ..
    | with_reducible refine foot_setFld2 (blk_SNAP_OT_H_VALUE ..) rfl (blk_SNAP_D0_L_VALUE ..) rfl ?_ ..
    | with_reducible refine foot_setFld2 (blk_SNAP_OT_H_VALUE ..) rfl (blk_SNAP_D0_H_VALUE ..) rfl ?_ ..
    | with_reducible refine foot_setFld2 (blk_SNAP_OT_H_VALUE ..) rfl (blk_SNAP_OT_L_VALUE ..) rfl ?_ ..
    | with_reducible refine foot_setFld2 (blk_SNAP_OT_H_VALUE ..) rfl (blk_SNAP_TBC_L_VALUE ..) rfl ?_ ..
    | with_reducible refine foot_setFld2 (blk_SNAP_OT_H_VALUE ..) rfl (blk_SNAP_TBC_H_VALUE ..) rfl ?_ ..
    | with_reducible refine foot_setFld2 (blk_SNAP_TBC_L_VALUE ..) rfl (blk_SNAP_DL_L_VALUE ..) rfl ?_ ..
    | with_reducible refine foot_setFld2 (blk_SNAP_TBC_L_VALUE ..) rfl (blk_SNAP_DL_H_VALUE ..) rfl ?_ ..
    | with_reducible refine foot_setFld2 (blk_SNAP_TBC_L_VALUE ..) rfl (blk_SNAP_D1_L_VALUE ..) rfl ?_ ..
    | with_reducible refine foot_setFld2 (blk_SNAP_TBC_L_VALUE ..) rfl (blk_SNAP_D1_H_VALUE ..) rfl ?_ ..
    | with_reducible refine foot_setFld2 (blk_SNAP_TBC_L_VALUE ..) rfl (blk_SNAP_D0_L_VALUE ..) rfl ?_ ..
    | with_reducible refine foot_setFld2 (blk_SNAP_TBC_L_VALUE ..) rfl (blk_SNAP_D0_H_VALUE ..) rfl ?_ ..
    | with_reducible refine foot_setFld2 (blk_SNAP_TBC_L_VALUE ..) rfl (blk_SNAP_OT_L_VALUE ..) rfl ?_ ..
    | with_reducible refine foot_setFld2 (blk_SNAP_TBC_L_VALUE ..) rfl (blk_SNAP_OT_H_VALUE ..) rfl ?_ ..
    | with_reducible refine foot_setFld2 (blk_SNAP_TBC_L_VALUE ..) rfl (blk_SNAP_TBC_H_VALUE ..) rfl ?_ ..
    | with_reducible refine foot_setFld2 (blk_SNAP_TBC_H_VALUE ..) rfl (blk_SNAP_DL_L_VALUE ..) rfl ?_ ..
    | with_reducible refine foot_setFld2 (blk_SNAP_TBC_H_VALUE ..) rfl (blk_SNAP_DL_H_VALUE ..) rfl ?_ ..
    | with_reducible refine foot_setFld2 (blk_SNAP_TBC_H_VALUE ..) rfl (blk_SNAP_D1_L_VALUE ..) rfl ?_ ..
    | with_reducible refine foot_setFld2 (blk_SNAP_TBC_H_VALUE ..) rfl (blk_SNAP_D1_H_VALUE ..) rfl ?_ ..
    | with_reducible refine foot_setFld2 (blk_SNAP_TBC_H_VALUE ..) rfl (blk_SNAP_D0_L_VALUE ..) rfl ?_ ..
    | with_reducible refine foot_setFld2 (blk_SNAP_TBC_H_VALUE ..) rfl (blk_SNAP_D0_H_VALUE ..) rfl ?_ ..
    | with_reducible refine foot_setFld2 (blk_SNAP_TBC_H_VALUE ..) rfl (blk_SNAP_OT_L_VALUE ..) rfl ?_ ..
    | with_reducible refine foot_setFld2 (blk_SNAP_TBC_H_VALUE ..) rfl (blk_SNAP_OT_H_VALUE ..) rfl ?_ ..
    | with_reducible refine foot_setFld2 (blk_SNAP_TBC_H_VALUE ..) rfl (blk_SNAP_TBC_L_VALUE ..) rfl ?_ ..
    | split
    | dsimp only

theorem foot_exclEnd {m : Nat} {z t : State} (hs : 0x800000000040 ||| m = m) (h : Foot m z t) (a0 : _) :
    Foot m z (State.exclEnd a0 t) := by
  refine Foot.step (m := 0x800000000040) ?_ hs h
  clear h hs
  have h := Foot.refl 0x800000000040 t
  unfold State.exclEnd
  repeat' first
    | with_reducible assumption
    | (intro x; first | clear_value x | skip)
    | lift_lets
    | with_reducible refine foot_modDom rfl ?_ ..
    | with_reducible refine foot_setFbit (blk_DOM_JSTEP_L_VALUE ..) rfl ?_ ..
    | with_reducible refine foot_setFbit (blk_DOM_JSTEP_H_VALUE ..) rfl ?_ ..
    | with_reducible refine foot_setFbit (blk_TIME_STAT_JEXCL ..) rfl ?_ ..
    | with_reducible refine foot_setFld2 (blk_DOM_JSTEP_L_VALUE ..) rfl (blk_DOM_JSTEP_L_VALUE ..) rfl ?_ ..
    | with_reducible refine foot_setFld2 (blk_DOM_JSTEP_L_VALUE ..) rfl (blk_DOM_JSTEP_H_VALUE ..) rfl ?_ ..
    | with_reducible refine foot_setFld2 (blk_DOM_JSTEP_L_VALUE ..) rfl (blk_TIME_STAT_JEXCL ..) rfl ?_ ..
    | with_reducible refine foot_setFld2 (blk_DOM_JSTEP_H_VALUE ..) rfl (blk_DOM_JSTEP_L_VALUE ..) rfl ?_ ..
    | with_reducible refine foot_setFld2 (blk_DOM_JSTEP_H_VALUE ..) rfl (blk_DOM_JSTEP_H_VALUE ..) rfl ?_ ..
    | with_reducible refine foot_setFld2 (blk_DOM_JSTEP_H_VALUE ..) rfl (blk_TIME_STAT_JEXCL ..) rfl ?_ ..
    | with_reducible refine foot_setFld2 (blk_TIME_STAT_JEXCL ..) rfl (blk_DOM_JSTEP_L_VALUE ..) rfl ?_ ..
    | with_reducible refine foot_setFld2 (blk_TIME_STAT_JEXCL ..) rfl (blk_DOM_JSTEP_H_VALUE ..) rfl ?_ ..
    | split
    | dsimp only

theorem foot_timeCmd {m : Nat} {z t : State} (hs : 0x800000000040 ||| m = m) (h : Foot m z t) (a0 : _) (a1 : _) (a2 : _) :
    Foot m z (State.timeCmd a0 a1 a2 t) := by
  refine Foot.step (m := 0x800000000040) ?_ hs h
  clear h hs
  have h := Foot.refl 0x800000000040 t
  unfold State.timeCmd
  repeat' first
    | with_reducible assumption
    | (intro x; first | (have hf := fun a => x a; clear hf; subst x) | clear_value x | skip)
    | lift_lets
    | with_reducible refine foot_snapTake rfl ?_ ..
    | with_reducible refine foot_timeResult rfl ?_ ..
    | with_reducible refine foot_exclEnd rfl ?_ ..
    | with_reducible refine foot_modTime rfl ?_ ..
    | with_reducible refine foot_setFld (blk_TIME_SEL_PREF ..) rfl ?_ ..
    | with_reducible apply Foot.ite
    | split
    | dsimp only

theorem foot_accept {m : Nat} {z t : State} (hs : 0x72388122e4ea4fc0 ||| m = m) (h : Foot m z t) (a0 : _) :
    Foot m z (State.accept a0 t) := by
  refine Foot.step (m := 0x72388122e4ea4fc0) ?_ hs h
  clear h hs
  have h := Foot.refl 0x72388122e4ea4fc0 t
  unfold State.accept
  repeat' first
    | with_reducible assumption
    | (intro x; first | (refine Foot.cut (P := Foot 0x72388122e4ea4fc0 t x) ?_ ?_; rotate_left; subst x; rotate_left; intro hx; clear_value x) | clear_value x | skip)
    | lift_lets
    | with_reducible refine foot_setDomK rfl ?_ ..
    | with_reducible refine foot_recDiscontinuity rfl ?_ ..
    | with_reducible refine foot_setRes rfl ?_ ..
    | with_reducible refine foot_log rfl ?_ ..
    | with_reducible refine foot_tsoStep rfl ?_ ..
    | with_reducible refine foot_exclEnd rfl ?_ ..
    | with_reducible refine foot_modTime rfl ?_ ..
    | with_reducible refine foot_setFld (blk_TIME_STAT_RESULT ..) rfl ?_ ..
    | with_reducible refine foot_setFld (blk_TIME_STAT_OT_DOM ..) rfl ?_ ..
    | with_reducible refine Foot.forN (fun _ _ _ => ?_) ?_
    | with_reducible apply Foot.ite
    | split
    | dsimp only

theorem foot_timeTick {m : Nat} {z t : State} (hs : 0x72388122e4ea4fc0 ||| m = m) (h : Foot m z t) :
    Foot m z (State.timeTick t) := by
  refine Foot.step (m := 0x72388122e4ea4fc0) ?_ hs h
  clear h hs
  have h := Foot.refl 0x72388122e4ea4fc0 t
  unfold State.timeTick
  repeat' first
    | with_reducible assumption
    | (intro x; first | (refine Foot.cut (P := Foot 0x72388122e4ea4fc0 t x) ?_ ?_; rotate_left; subst x; rotate_left; intro hx; clear_value x) | clear_value x | skip)
    | lift_lets
    | with_reducible refine foot_otSelect rfl ?_ ..
    | with_reducible refine foot_domCommit rfl ?_ ..
    | with_reducible refine foot_dlReanchor rfl ?_ ..
    | with_reducible refine foot_accept rfl ?_ ..
    | with_reducible refine foot_modTime rfl ?_ ..
    | with_reducible refine foot_setFld (blk_TIME_STAT_RESULT ..) rfl ?_ ..
    | with_reducible refine Foot.forL (fun _ _ _ => ?_) ?_
    | with_reducible refine Foot.forN (fun _ _ _ => ?_) ?_
    | with_reducible apply Foot.ite
    | split
    | dsimp only

theorem foot_execSnap {m : Nat} {z t : State} (hs : 0x800000000040 ||| m = m) (h : Foot m z t) (a0 : _) (a1 : _) :
    OutFoot m z (execSnap a0 a1 t) := by
  refine OutFoot.step (m := 0x800000000040) ?_ hs h
  clear h hs
  have h := Foot.refl 0x800000000040 t
  unfold execSnap
  repeat' first
    | with_reducible assumption
    | (intro x; first | clear_value x | skip)
    | lift_lets
    | with_reducible refine foot_timeCmd rfl ?_ ..
    | with_reducible refine OutFoot.next ?_
    | split
    | dsimp only

theorem foot_execSelect {m : Nat} {z t : State} (hs : 0x800000000040 ||| m = m) (h : Foot m z t) (a0 : _) (a1 : _) (a2 : _) :
    OutFoot m z (execSelect a0 a1 a2 t) := by
  refine OutFoot.step (m := 0x800000000040) ?_ hs h
  clear h hs
  have h := Foot.refl 0x800000000040 t
  unfold execSelect
  repeat' first
    | with_reducible assumption
    | (intro x; first | clear_value x | skip)
    | lift_lets
    | with_reducible refine foot_timeCmd rfl ?_ ..
    | with_reducible refine OutFoot.next ?_
    | split
    | dsimp only

theorem foot_execAccept {m : Nat} {z t : State} (hs : 0x800000000040 ||| m = m) (h : Foot m z t) (a0 : _) (a1 : _) (a2 : _) :
    OutFoot m z (execAccept a0 a1 a2 t) := by
  refine OutFoot.step (m := 0x800000000040) ?_ hs h
  clear h hs
  have h := Foot.refl 0x800000000040 t
  unfold execAccept
  repeat' first
    | with_reducible assumption
    | (intro x; first | clear_value x | skip)
    | lift_lets
    | with_reducible refine foot_timeCmd rfl ?_ ..
    | with_reducible refine OutFoot.next ?_
    | split
    | dsimp only

theorem foot_execDismiss {m : Nat} {z t : State} (hs : 0x800000000040 ||| m = m) (h : Foot m z t) (a0 : _) (a1 : _) (a2 : _) :
    OutFoot m z (execDismiss a0 a1 a2 t) := by
  refine OutFoot.step (m := 0x800000000040) ?_ hs h
  clear h hs
  have h := Foot.refl 0x800000000040 t
  unfold execDismiss
  repeat' first
    | with_reducible assumption
    | (intro x; first | clear_value x | skip)
    | lift_lets
    | with_reducible refine foot_timeCmd rfl ?_ ..
    | with_reducible refine OutFoot.next ?_
    | split
    | dsimp only

theorem foot_execRevertExpiry {m : Nat} {z t : State} (hs : 0x40 ||| m = m) (h : Foot m z t) :
    OutFoot m z (execRevertExpiry t) := by
  refine OutFoot.step (m := 0x40) ?_ hs h
  clear h hs
  have h := Foot.refl 0x40 t
  unfold execRevertExpiry
  repeat' first
    | with_reducible assumption
    | (intro x; first | clear_value x | skip)
    | lift_lets
    | with_reducible refine foot_modTime rfl ?_ ..
    | with_reducible apply Foot.ite
    | with_reducible refine OutFoot.next ?_
    | split
    | dsimp only

theorem foot_execTdcCalibration {m : Nat} {z t : State} (hs : 0x40 ||| m = m) (h : Foot m z t) :
    OutFoot m z (execTdcCalibration t) := by
  refine OutFoot.step (m := 0x40) ?_ hs h
  clear h hs
  have h := Foot.refl 0x40 t
  unfold execTdcCalibration
  repeat' first
    | with_reducible assumption
    | (intro x; first | clear_value x | skip)
    | lift_lets
    | with_reducible refine foot_modTime rfl ?_ ..
    | with_reducible apply Foot.ite
    | with_reducible refine OutFoot.next ?_
    | split
    | dsimp only

theorem foot_domMeasure {m : Nat} {z t : State} (hs : 0x72288100a4ea4fd0 ||| m = m) (h : Foot m z t) (a0 : _) (a1 : _) :
    Foot m z (State.domMeasure a0 a1 t) := by
  refine Foot.step (m := 0x72288100a4ea4fd0) ?_ hs h
  clear h hs
  have h := Foot.refl 0x72288100a4ea4fd0 t
  unfold State.domMeasure
  repeat' first
    | with_reducible assumption
    | (intro x; first | (refine Foot.cut (P := Foot 0x72288100a4ea4fd0 t x) ?_ ?_; rotate_left; subst x; rotate_left; intro hx; clear_value x) | clear_value x | skip)
    | lift_lets
    | with_reducible refine foot_draw rfl ?_ ..
    | with_reducible refine foot_domQueue rfl ?_ ..
    | with_reducible refine foot_domSet rfl ?_ ..
    | with_reducible refine foot_modDom rfl ?_ ..
    | with_reducible apply Foot.ite
    | with_reducible refine PairFoot.snd ?_
    | split
    | dsimp only

theorem foot_syncDone {m : Nat} {z t : State} (hs : 0x72288100a4ea4fd0 ||| m = m) (h : Foot m z t) (a0 : _) (a1 : _) :
    Foot m z (State.syncDone a0 a1 t) := by
  refine Foot.step (m := 0x72288100a4ea4fd0) ?_ hs h
  clear h hs
  have h := Foot.refl 0x72288100a4ea4fd0 t
  unfold State.syncDone
  repeat' first
    | with_reducible assumption
    | (intro x; first | (refine Foot.cut (P := Foot 0x72288100a4ea4fd0 t x) ?_ ?_; rotate_left; subst x; rotate_left; intro hx; clear_value x) | clear_value x | skip)
    | lift_lets
    | with_reducible refine foot_domMeasure rfl ?_ ..
    | with_reducible refine foot_modDom rfl ?_ ..
    | split
    | dsimp only

theorem foot_execSync {m : Nat} {z t : State} (hs : 0x72288100a4ea4fd0 ||| m = m) (h : Foot m z t) (a0 : _) (a1 : _) (a2 : _) (a3 : _) (a4 : _) (a5 : _) (a6 : _) (a7 : _) :
    OutFoot m z (execSync a0 a1 a2 a3 a4 a5 a6 a7 t) := by
  refine OutFoot.step (m := 0x72288100a4ea4fd0) ?_ hs h
  clear h hs
  have h := Foot.refl 0x72288100a4ea4fd0 t
  unfold execSync
  repeat' first
    | with_reducible assumption
    | (intro x; first | (refine Foot.cut (P := Foot 0x72288100a4ea4fd0 t x) ?_ ?_; rotate_left; subst x; rotate_left; intro hx; clear_value x) | clear_value x | skip)
    | lift_lets
    | with_reducible refine foot_syncDone rfl ?_ ..
    | with_reducible refine foot_modDom rfl ?_ ..
    | with_reducible apply Foot.ite
    | with_reducible refine OutFoot.next ?_
    | split
    | dsimp only

theorem foot_execFollowUp {m : Nat} {z t : State} (hs : 0x72288100a4ea4fd0 ||| m = m) (h : Foot m z t) (a0 : _) (a1 : _) (a2 : _) (a3 : _) (a4 : _) :
    OutFoot m z (execFollowUp a0 a1 a2 a3 a4 t) := by
  refine OutFoot.step (m := 0x72288100a4ea4fd0) ?_ hs h
  clear h hs
  have h := Foot.refl 0x72288100a4ea4fd0 t
  unfold execFollowUp
  repeat' first
    | with_reducible assumption
    | (intro x; first | clear_value x | skip)
    | lift_lets
    | with_reducible refine foot_syncDone rfl ?_ ..
    | with_reducible apply Foot.ite
    | with_reducible refine OutFoot.next ?_
    | split
    | dsimp only

theorem foot_execAnnounce {m : Nat} {z t : State} (hs : 0x72288100a4ea4fc0 ||| m = m) (h : Foot m z t) (a0 : _) (a1 : _) (a2 : _) (a3 : _) (a4 : _) :
    OutFoot m z (execAnnounce a0 a1 a2 a3 a4 t) := by
  refine OutFoot.step (m := 0x72288100a4ea4fc0) ?_ hs h
  clear h hs
  have h := Foot.refl 0x72288100a4ea4fc0 t
  unfold execAnnounce
  repeat' first
    | with_reducible assumption
    | (intro x; first | (refine Foot.cut (P := Foot 0x72288100a4ea4fc0 t x) ?_ ?_; rotate_left; subst x; rotate_left; intro hx; clear_value x) | clear_value x | skip)
    | lift_lets
    | with_reducible refine foot_domSet rfl ?_ ..
    | with_reducible refine foot_modDom rfl ?_ ..
    | with_reducible refine foot_setFld (blk_DOM_STAT_UTC_OFS ..) rfl ?_ ..
    | with_reducible apply Foot.ite
    | with_reducible apply OutFoot.ite
    | with_reducible refine OutFoot.next ?_
    | split
    | dsimp only

theorem foot_execPdelayReq {m : Nat} {z t : State} (hs : 0x2000000000 ||| m = m) (h : Foot m z t) (a0 : _) (a1 : _) :
    OutFoot m z (execPdelayReq a0 a1 t) := by
  refine OutFoot.step (m := 0x2000000000) ?_ hs h
  clear h hs
  have h := Foot.refl 0x2000000000 t
  unfold execPdelayReq
  repeat' first
    | with_reducible assumption
    | (intro x; first | clear_value x | skip)
    | lift_lets
    | with_reducible refine foot_emit rfl ?_ ..
    | with_reducible apply Foot.ite
    | with_reducible refine OutFoot.next ?_
    | split
    | dsimp only

theorem foot_execDelayReqSend {m : Nat} {z t : State} (hs : 0x2000000040 ||| m = m) (h : Foot m z t) (a0 : _) :
    OutFoot m z (execDelayReqSend a0 t) := by
  refine OutFoot.step (m := 0x2000000040) ?_ hs h
  clear h hs
  have h := Foot.refl 0x2000000040 t
  unfold execDelayReqSend
  repeat' first
    | with_reducible assumption
    | (intro x; first | clear_value x | skip)
    | lift_lets
    | with_reducible refine foot_modDom rfl ?_ ..
    | with_reducible refine foot_emit rfl ?_ ..
    | with_reducible apply Foot.ite
    | with_reducible refine OutFoot.next ?_
    | split
    | dsimp only

theorem foot_execDelayResp {m : Nat} {z t : State} (hs : 0x40 ||| m = m) (h : Foot m z t) (a0 : _) (a1 : _) (a2 : _) (a3 : _) (a4 : _) :
    OutFoot m z (execDelayResp a0 a1 a2 a3 a4 t) := by
  refine OutFoot.step (m := 0x40) ?_ hs h
  clear h hs
  have h := Foot.refl 0x40 t
  unfold execDelayResp
  repeat' first
    | with_reducible assumption
    | (intro x; first | clear_value x | skip)
    | lift_lets
    | with_reducible refine foot_modDom rfl ?_ ..
    | with_reducible apply Foot.ite
    | with_reducible refine OutFoot.next ?_
    | split
    | dsimp only

theorem foot_execPdelayResp {m : Nat} {z t : State} (hs : 0x40 ||| m = m) (h : Foot m z t) (a0 : _) (a1 : _) (a2 : _) (a3 : _) :
    OutFoot m z (execPdelayResp a0 a1 a2 a3 t) := by
  refine OutFoot.step (m := 0x40) ?_ hs h
  clear h hs
  have h := Foot.refl 0x40 t
  unfold execPdelayResp
  repeat' first
    | with_reducible assumption
    | (intro x; first | clear_value x | skip)
    | lift_lets
    | with_reducible refine foot_modDom rfl ?_ ..
    | with_reducible apply Foot.ite
    | with_reducible refine OutFoot.next ?_
    | split
    | dsimp only

theorem foot_execSyncTimeout {m : Nat} {z t : State} (hs : 0x72288100a4ea4fc0 ||| m = m) (h : Foot m z t) (a0 : _) :
    OutFoot m z (execSyncTimeout a0 t) := by
  refine OutFoot.step (m := 0x72288100a4ea4fc0) ?_ hs h
  clear h hs
  have h := Foot.refl 0x72288100a4ea4fc0 t
  unfold execSyncTimeout
  repeat' first
    | with_reducible assumption
    | (intro x; first | clear_value x | skip)
    | lift_lets
    | with_reducible refine foot_domSet rfl ?_ ..
    | with_reducible refine foot_modDom rfl ?_ ..
    | with_reducible apply Foot.ite
    | with_reducible refine OutFoot.next ?_
    | split
    | dsimp only

theorem foot_execHoldoverExpiry {m : Nat} {z t : State} (hs : 0x72288100a4ea4fc0 ||| m = m) (h : Foot m z t) (a0 : _) :
    OutFoot m z (execHoldoverExpiry a0 t) := by
  refine OutFoot.step (m := 0x72288100a4ea4fc0) ?_ hs h
  clear h hs
  have h := Foot.refl 0x72288100a4ea4fc0 t
  unfold execHoldoverExpiry
  repeat' first
    | with_reducible assumption
    | (intro x; first | clear_value x | skip)
    | lift_lets
    | with_reducible refine foot_domSet rfl ?_ ..
    | with_reducible apply Foot.ite
    | with_reducible refine OutFoot.next ?_
    | split
    | dsimp only

end Sys2Proof.Machine
end

