-- ==== Sys2Proof/Laws/FootDispatcher.lean ====
section
/-!
SUPPORT. Footprints of the operations of Machine/Dispatcher.lean.
-/

set_option Elab.async false

set_option linter.all false

set_option maxRecDepth 4000

namespace Sys2Proof.Machine

theorem foot_beginWaits {m : Nat} {z t : State} (hs : 0x400 ||| m = m) (h : Foot m z t) :
    Foot m z (State.beginWaits t) := by
  refine Foot.step (m := 0x400) ?_ hs h
  clear h hs
  have h := Foot.refl 0x400 t
  unfold State.beginWaits
  repeat' first
    | with_reducible assumption
    | (intro x; first | clear_value x | skip)
    | lift_lets
    | with_reducible refine foot_modSched rfl ?_ ..
    | with_reducible refine Foot.forL (fun _ _ _ => ?_) ?_
    | with_reducible apply Foot.ite
    | split
    | dsimp only

theorem foot_execAffinityWaitExpiry {m : Nat} {z t : State} (hs : 0x400 ||| m = m) (h : Foot m z t) :
    OutFoot m z (execAffinityWaitExpiry t) := by
  refine OutFoot.step (m := 0x400) ?_ hs h
  clear h hs
  have h := Foot.refl 0x400 t
  unfold execAffinityWaitExpiry
  repeat' first
    | with_reducible assumption
    | (intro x; first | (refine Foot.cut (P := Foot 0x400 t x) ?_ ?_; rotate_left; subst x; rotate_left; intro hx; clear_value x) | clear_value x | skip)
    | lift_lets
    | with_reducible refine foot_modSched rfl ?_ ..
    | with_reducible refine foot_beginWaits rfl ?_ ..
    | with_reducible refine OutFoot.next ?_
    | split
    | dsimp only

theorem foot_startRecord {m : Nat} {z t : State} (hs : 0x408 ||| m = m) (h : Foot m z t) (a0 : _) (a1 : _) :
    Foot m z (State.startRecord a0 a1 t) := by
  refine Foot.step (m := 0x408) ?_ hs h
  clear h hs
  have h := Foot.refl 0x408 t
  unfold State.startRecord
  repeat' first
    | with_reducible assumption
    | (intro x; first | (have hf := fun a => x a; clear hf; subst x) | clear_value x | skip)
    | lift_lets
    | with_reducible refine foot_modSched rfl ?_ ..
    | with_reducible refine foot_setWords rfl ?_ ..
    | split
    | dsimp only

theorem foot_startExec {m : Nat} {z t : State} (hs : 0x48c08 ||| m = m) (h : Foot m z t) (a0 : _) (a1 : _) (a2 : _) (a3 : _) :
    Foot m z (State.startExec a0 a1 a2 a3 t) := by
  refine Foot.step (m := 0x48c08) ?_ hs h
  clear h hs
  have h := Foot.refl 0x48c08 t
  unfold State.startExec
  repeat' first
    | with_reducible assumption
    | (intro x; first | (refine Foot.cut (P := Foot 0x48c08 t x) ?_ ?_; rotate_left; subst x; rotate_left; intro hx; clear_value x) | clear_value x | skip)
    | lift_lets
    | with_reducible refine foot_startRecord rfl ?_ ..
    | with_reducible refine foot_modCore rfl ?_ ..
    | ((with_reducible refine Foot.lit ?_ rfl rfl ?_ ?_ ?_ ?_ ?_ ?_); rotate_left; rfl; rfl; rfl; rfl; (first | exact Nat.le_refl _ | exact Nat.le_succ _); (constructor <;> first | with_reducible exact Kept.same | exact Kept.masked rfl); (first | with_reducible assumption | with_reducible refine foot_startRecord rfl ?_ .. | with_reducible refine foot_modCore rfl ?_ ..))
    | split
    | dsimp only

theorem foot_takeCand {m : Nat} {z t : State} (hs : 0x400 ||| m = m) (h : Foot m z t) (a0 : _) :
    Foot m z (State.takeCand a0 t) := by
  refine Foot.step (m := 0x400) ?_ hs h
  clear h hs
  have h := Foot.refl 0x400 t
  unfold State.takeCand
  repeat' first
    | with_reducible assumption
    | (intro x; first | (refine Foot.cut (P := Foot 0x400 t x) ?_ ?_; rotate_left; subst x; rotate_left; intro hx; clear_value x) | clear_value x | skip)
    | lift_lets
    | with_reducible refine foot_modSched rfl ?_ ..
    | with_reducible apply Foot.ite
    | split
    | dsimp only

theorem foot_claim {m : Nat} {z t : State} (hs : 0x2000048c08 ||| m = m) (h : Foot m z t) (a0 : _) (a1 : _) :
    Foot m z (State.claim a0 a1 t) := by
  refine Foot.step (m := 0x2000048c08) ?_ hs h
  clear h hs
  have h := Foot.refl 0x2000048c08 t
  unfold State.claim
  repeat' first
    | with_reducible assumption
    | (intro x; first | (refine Foot.cut (P := Foot 0x2000048c08 t x) ?_ ?_; rotate_left; subst x; rotate_left; intro hx; clear_value x) | clear_value x | skip)
    | lift_lets
    | with_reducible refine foot_takeCand rfl ?_ ..
    | with_reducible refine foot_modSched rfl ?_ ..
    | with_reducible refine foot_startExec rfl ?_ ..
    | with_reducible refine foot_emit rfl ?_ ..
    | with_reducible apply Foot.ite
    | split
    | dsimp only

theorem foot_entryErrors {m : Nat} {z t : State} (hs : 0x72280100a4ea4f80 ||| m = m) (h : Foot m z t) :
    Foot m z (State.entryErrors t) := by
  refine Foot.step (m := 0x72280100a4ea4f80) ?_ hs h
  clear h hs
  have h := Foot.refl 0x72280100a4ea4f80 t
  unfold State.entryErrors
  repeat' first
    | with_reducible assumption
    | (intro x; first | clear_value x | skip)
    | lift_lets
    | with_reducible refine foot_modSched rfl ?_ ..
    | with_reducible refine foot_raise rfl ?_ ..
    | with_reducible refine Foot.forL (fun _ _ _ => ?_) ?_
    | split
    | dsimp only

theorem foot_execCoreClaim {m : Nat} {z t : State} (hs : 0x72280120a4eecf88 ||| m = m) (h : Foot m z t) :
    OutFoot m z (execCoreClaim t) := by
  refine OutFoot.step (m := 0x72280120a4eecf88) ?_ hs h
  clear h hs
  have h := Foot.refl 0x72280120a4eecf88 t
  unfold execCoreClaim
  repeat' first
    | with_reducible assumption
    | (intro x; first | (refine Foot.cut (P := Foot 0x72280120a4eecf88 t x) ?_ ?_; rotate_left; subst x; rotate_left; intro hx; clear_value x) | clear_value x | skip)
    | lift_lets
    | with_reducible refine foot_entryErrors rfl ?_ ..
    | with_reducible refine foot_claim rfl ?_ ..
    | with_reducible refine foot_beginWaits rfl ?_ ..
    | with_reducible refine PairFoot.foldl (fun _ _ _ => ?_) ?_
    | with_reducible apply PairFoot.ite
    | with_reducible refine OutFoot.next ?_
    | with_reducible refine PairFoot.snd ?_
    | split
    | with_reducible refine PairFoot.mk ?_
    | dsimp only

theorem foot_transferred {m : Nat} {z t : State} (hs : 0x2200002184200000 ||| m = m) (h : Foot m z t) (a0 : _) :
    Foot m z (State.transferred a0 t) := by
  refine Foot.step (m := 0x2200002184200000) ?_ hs h
  clear h hs
  have h := Foot.refl 0x2200002184200000 t
  unfold State.transferred
  repeat' first
    | with_reducible assumption
    | (intro x; first | clear_value x | skip)
    | lift_lets
    | with_reducible refine foot_canTransfer rfl ?_ ..
    | with_reducible refine foot_mirrorUpdate rfl ?_ ..
    | with_reducible apply Foot.ite
    | split
    | dsimp only

theorem foot_transfer {m : Nat} {z t : State} (hs : 0x2200002184280008 ||| m = m) (h : Foot m z t) (a0 : _) :
    Foot m z (State.transfer a0 t) := by
  refine Foot.step (m := 0x2200002184280008) ?_ hs h
  clear h hs
  have h := Foot.refl 0x2200002184280008 t
  unfold State.transfer
  repeat' first
    | with_reducible assumption
    | (intro x; first | clear_value x | skip)
    | lift_lets
    | with_reducible refine foot_transferred rfl ?_ ..
    | with_reducible refine foot_ownWrite rfl ?_ ..
    | with_reducible refine Foot.forL (fun _ _ _ => ?_) ?_
    | split
    | dsimp only

theorem foot_safeFollow {m : Nat} {z t : State} (hs : 0x2200002184200800 ||| m = m) (h : Foot m z t) :
    Foot m z (State.safeFollow t) := by
  refine Foot.step (m := 0x2200002184200800) ?_ hs h
  clear h hs
  have h := Foot.refl 0x2200002184200800 t
  unfold State.safeFollow
  repeat' first
    | with_reducible assumption
    | (intro x; first | clear_value x | skip)
    | lift_lets
    | with_reducible refine foot_transferred rfl ?_ ..
    | ((with_reducible refine Foot.lit ?_ rfl rfl ?_ ?_ ?_ ?_ ?_ ?_); rotate_left; rfl; rfl; rfl; rfl; (first | exact Nat.le_refl _ | exact Nat.le_succ _); (constructor <;> first | with_reducible exact Kept.same | exact Kept.masked rfl); (first | with_reducible assumption | with_reducible refine foot_transferred rfl ?_ ..))
    | split
    | dsimp only

theorem foot_countSkip {m : Nat} {z t : State} (hs : 0x10000000000 ||| m = m) (h : Foot m z t) (a0 : _) :
    Foot m z (State.countSkip a0 t) := by
  refine Foot.step (m := 0x10000000000) ?_ hs h
  clear h hs
  have h := Foot.refl 0x10000000000 t
  unfold State.countSkip
  repeat' first
    | with_reducible assumption
    | (intro x; first | clear_value x | skip)
    | lift_lets
    | with_reducible refine foot_incSat (blk_TASK_STAT_SKIPS ..) rfl ?_ ..
    | split
    | dsimp only

theorem foot_cyclicDue {m : Nat} {z t : State} (hs : 0x72280100a4ea4f80 ||| m = m) (h : Foot m z t) (a0 : _) (a1 : _) :
    Foot m z (State.cyclicDue a0 a1 t) := by
  refine Foot.step (m := 0x72280100a4ea4f80) ?_ hs h
  clear h hs
  have h := Foot.refl 0x72280100a4ea4f80 t
  unfold State.cyclicDue
  repeat' first
    | with_reducible assumption
    | (intro x; first | (refine Foot.cut (P := Foot 0x72280100a4ea4f80 t x) ?_ ?_; rotate_left; subst x; rotate_left; intro hx; clear_value x) | clear_value x | skip)
    | lift_lets
    | with_reducible refine foot_countSkip rfl ?_ ..
    | with_reducible refine foot_modSched rfl ?_ ..
    | with_reducible refine foot_raise rfl ?_ ..
    | with_reducible refine foot_reasonTo rfl ?_ ..
    | with_reducible refine foot_incSat (blk_TASK_STAT_OVERRUNS ..) rfl ?_ ..
    | with_reducible apply Foot.ite
    | split
    | dsimp only

theorem foot_schedTick {m : Nat} {z t : State} (hs : 0x72280100a4ea4f80 ||| m = m) (h : Foot m z t) (a0 : _) :
    Foot m z (State.schedTick a0 t) := by
  refine Foot.step (m := 0x72280100a4ea4f80) ?_ hs h
  clear h hs
  have h := Foot.refl 0x72280100a4ea4f80 t
  unfold State.schedTick
  repeat' first
    | with_reducible assumption
    | (intro x; first | (refine Foot.cut (P := Foot 0x72280100a4ea4f80 t x) ?_ ?_; rotate_left; subst x; rotate_left; intro hx; clear_value x) | clear_value x | skip)
    | lift_lets
    | with_reducible refine foot_modSched rfl ?_ ..
    | with_reducible refine foot_cyclicDue rfl ?_ ..
    | with_reducible refine Foot.forL (fun _ _ _ => ?_) ?_
    | with_reducible apply Foot.ite
    | split
    | dsimp only

theorem foot_programStreams {m : Nat} {z t : State} (hs : 0x72380123e4ea4f80 ||| m = m) (h : Foot m z t) (a0 : _) :
    Foot m z (State.programStreams a0 t) := by
  refine Foot.step (m := 0x72380123e4ea4f80) ?_ hs h
  clear h hs
  have h := Foot.refl 0x72380123e4ea4f80 t
  unfold State.programStreams
  repeat' first
    | with_reducible assumption
    | (intro x; first | clear_value x | skip)
    | lift_lets
    | with_reducible refine foot_ingest rfl ?_ ..
    | with_reducible refine Foot.forL (fun _ _ _ => ?_) ?_
    | split
    | dsimp only

theorem foot_execDispatcherTick {m : Nat} {z t : State} (hs : 0x72388133e4ea4fc0 ||| m = m) (h : Foot m z t) :
    OutFoot m z (execDispatcherTick t) := by
  refine OutFoot.step (m := 0x72388133e4ea4fc0) ?_ hs h
  clear h hs
  have h := Foot.refl 0x72388133e4ea4fc0 t
  unfold execDispatcherTick
  repeat' first
    | with_reducible assumption
    | (intro x; first | (refine Foot.cut (P := Foot 0x72388133e4ea4fc0 t x) ?_ ?_; rotate_left; subst x; rotate_left; intro hx; clear_value x) | clear_value x | skip)
    | lift_lets
    | with_reducible refine foot_timeTick rfl ?_ ..
    | with_reducible refine foot_safeFollow rfl ?_ ..
    | with_reducible refine foot_refreshCopies rfl ?_ ..
    | with_reducible refine foot_mirrorUpdate rfl ?_ ..
    | with_reducible refine foot_schedTick rfl ?_ ..
    | with_reducible refine foot_programStreams rfl ?_ ..
    | with_reducible refine foot_ingestAll rfl ?_ ..
    | with_reducible apply Foot.ite
    | with_reducible apply OutFoot.ite
    | with_reducible refine OutFoot.next ?_
    | split
    | dsimp only

theorem foot_execTaskEnd {m : Nat} {z t : State} (hs : 0x22000121842d0c08 ||| m = m) (h : Foot m z t) (a0 : _) :
    OutFoot m z (execTaskEnd a0 t) := by
  refine OutFoot.step (m := 0x22000121842d0c08) ?_ hs h
  clear h hs
  have h := Foot.refl 0x22000121842d0c08 t
  unfold execTaskEnd
  repeat' first
    | with_reducible assumption
    | (intro x; first | clear_value x | skip)
    | lift_lets
    | with_reducible refine foot_transfer rfl ?_ ..
    | with_reducible refine foot_endExec rfl ?_ ..
    | with_reducible refine foot_beginWaits rfl ?_ ..
    | with_reducible apply Foot.ite
    | with_reducible refine OutFoot.next ?_
    | split
    | dsimp only

theorem foot_execWatchdog {m : Nat} {z t : State} (hs : 0x72280100a4ef4f88 ||| m = m) (h : Foot m z t) (a0 : _) :
    OutFoot m z (execWatchdog a0 t) := by
  refine OutFoot.step (m := 0x72280100a4ef4f88) ?_ hs h
  clear h hs
  have h := Foot.refl 0x72280100a4ef4f88 t
  unfold execWatchdog
  repeat' first
    | with_reducible assumption
    | (intro x; first | clear_value x | skip)
    | lift_lets
    | with_reducible refine foot_abnormalEnd rfl ?_ ..
    | with_reducible apply Foot.ite
    | with_reducible refine OutFoot.next ?_
    | split
    | dsimp only

theorem foot_grpAck {m : Nat} {z t : State} (hs : 0x400 ||| m = m) (h : Foot m z t) (a0 : _) :
    Foot m z (State.grpAck a0 t) := by
  refine Foot.step (m := 0x400) ?_ hs h
  clear h hs
  have h := Foot.refl 0x400 t
  unfold State.grpAck
  repeat' first
    | with_reducible assumption
    | (intro x; first | clear_value x | skip)
    | lift_lets
    | with_reducible refine foot_modSched rfl ?_ ..
    | with_reducible apply Foot.ite
    | split
    | dsimp only

theorem foot_execSchedGrpack {m : Nat} {z t : State} (hs : 0x400 ||| m = m) (h : Foot m z t) (a0 : _) (a1 : _) :
    OutFoot m z (execSchedGrpack a0 a1 t) := by
  refine OutFoot.step (m := 0x400) ?_ hs h
  clear h hs
  have h := Foot.refl 0x400 t
  unfold execSchedGrpack
  repeat' first
    | with_reducible assumption
    | (intro x; first | clear_value x | skip)
    | lift_lets
    | with_reducible refine foot_grpAck rfl ?_ ..
    | with_reducible refine OutFoot.next ?_
    | split
    | dsimp only

theorem foot_forcePut {m : Nat} {z t : State} (hs : 0x10000000008 ||| m = m) (h : Foot m z t) (a0 : _) (a1 : _) (a2 : _) (a3 : _) (a4 : _) :
    Foot m z (State.forcePut a0 a1 a2 a3 a4 t) := by
  refine Foot.step (m := 0x10000000008) ?_ hs h
  clear h hs
  have h := Foot.refl 0x10000000008 t
  unfold State.forcePut
  repeat' first
    | with_reducible assumption
    | (intro x; first | clear_value x | skip)
    | lift_lets
    | with_reducible refine foot_setWords rfl ?_ ..
    | with_reducible refine foot_forceStat rfl ?_ ..
    | split
    | dsimp only

theorem foot_forceResult {m : Nat} {z t : State} (hs : 0x10000000000 ||| m = m) (h : Foot m z t) (a0 : _) (a1 : _) (a2 : _) :
    Foot m z (State.forceResult a0 a1 a2 t) := by
  refine Foot.step (m := 0x10000000000) ?_ hs h
  clear h hs
  have h := Foot.refl 0x10000000000 t
  unfold State.forceResult
  repeat' first
    | with_reducible assumption
    | (intro x; first | clear_value x | skip)
    | lift_lets
    | with_reducible refine foot_setFld (blk_FORCE_STAT_INDEX ..) rfl ?_ ..
    | with_reducible refine foot_setFld (blk_FORCE_STAT_RESULT ..) rfl ?_ ..
    | with_reducible refine foot_setFld (blk_FORCE_STAT_CODE ..) rfl ?_ ..
    | split
    | dsimp only

theorem foot_forceSetCmd {m : Nat} {z t : State} (hs : 0x10000000b08 ||| m = m) (h : Foot m z t) (a0 : _) (a1 : _) (a2 : _) :
    Foot m z (State.forceSetCmd a0 a1 a2 t) := by
  refine Foot.step (m := 0x10000000b08) ?_ hs h
  clear h hs
  have h := Foot.refl 0x10000000b08 t
  unfold State.forceSetCmd
  repeat' first
    | with_reducible assumption
    | (intro x; first | (refine Foot.cut (P := Foot 0x10000000b08 t x) ?_ ?_; rotate_left; subst x; rotate_left; intro hx; clear_value x) | clear_value x | skip)
    | lift_lets
    | with_reducible refine foot_log rfl ?_ ..
    | with_reducible refine foot_forceResult rfl ?_ ..
    | with_reducible refine foot_forcePut rfl ?_ ..
    | with_reducible apply Foot.ite
    | ((with_reducible refine Foot.lit ?_ rfl rfl ?_ ?_ ?_ ?_ ?_ ?_); rotate_left; rfl; rfl; rfl; rfl; (first | exact Nat.le_refl _ | exact Nat.le_succ _); (constructor <;> first | with_reducible exact Kept.same | exact Kept.masked rfl); (first | with_reducible assumption | with_reducible refine foot_log rfl ?_ .. | with_reducible refine foot_forceResult rfl ?_ .. | with_reducible refine foot_forcePut rfl ?_ .. | with_reducible apply Foot.ite))
    | split
    | dsimp only

theorem foot_forceClear {m : Nat} {z t : State} (hs : 0x10000000b08 ||| m = m) (h : Foot m z t) (a0 : _) (a1 : _) :
    Foot m z (State.forceClear a0 a1 t) := by
  refine Foot.step (m := 0x10000000b08) ?_ hs h
  clear h hs
  have h := Foot.refl 0x10000000b08 t
  unfold State.forceClear
  repeat' first
    | with_reducible assumption
    | (intro x; first | (refine Foot.cut (P := Foot 0x10000000b08 t x) ?_ ?_; rotate_left; subst x; rotate_left; intro hx; clear_value x) | clear_value x | skip)
    | lift_lets
    | with_reducible refine foot_log rfl ?_ ..
    | with_reducible refine foot_forcePut rfl ?_ ..
    | ((with_reducible refine Foot.lit ?_ rfl rfl ?_ ?_ ?_ ?_ ?_ ?_); rotate_left; rfl; rfl; rfl; rfl; (first | exact Nat.le_refl _ | exact Nat.le_succ _); (constructor <;> first | with_reducible exact Kept.same | exact Kept.masked rfl); (first | with_reducible assumption | with_reducible refine foot_log rfl ?_ .. | with_reducible refine foot_forcePut rfl ?_ ..))
    | split
    | dsimp only

theorem foot_forceCmd {m : Nat} {z t : State} (hs : 0x10000000b08 ||| m = m) (h : Foot m z t) (a0 : _) (a1 : _) (a2 : _) :
    Foot m z (State.forceCmd a0 a1 a2 t) := by
  refine Foot.step (m := 0x10000000b08) ?_ hs h
  clear h hs
  have h := Foot.refl 0x10000000b08 t
  unfold State.forceCmd
  repeat' first
    | with_reducible assumption
    | (intro x; first | (have hf := fun a => x a; clear hf; subst x) | clear_value x | skip)
    | lift_lets
    | with_reducible refine foot_forceClear rfl ?_ ..
    | with_reducible refine foot_forceSetCmd rfl ?_ ..
    | with_reducible refine foot_forceResult rfl ?_ ..
    | with_reducible refine Foot.forL (fun _ _ _ => ?_) ?_
    | with_reducible apply Foot.ite
    | split
    | dsimp only

theorem foot_execSetIn {m : Nat} {z t : State} (hs : 0x10000000b08 ||| m = m) (h : Foot m z t) (a0 : _) (a1 : _) (a2 : _) :
    OutFoot m z (execSetIn a0 a1 a2 t) := by
  refine OutFoot.step (m := 0x10000000b08) ?_ hs h
  clear h hs
  have h := Foot.refl 0x10000000b08 t
  unfold execSetIn
  repeat' first
    | with_reducible assumption
    | (intro x; first | clear_value x | skip)
    | lift_lets
    | with_reducible refine foot_forceCmd rfl ?_ ..
    | with_reducible refine OutFoot.next ?_
    | split
    | dsimp only

theorem foot_execSetOut {m : Nat} {z t : State} (hs : 0x10000000b08 ||| m = m) (h : Foot m z t) (a0 : _) (a1 : _) (a2 : _) :
    OutFoot m z (execSetOut a0 a1 a2 t) := by
  refine OutFoot.step (m := 0x10000000b08) ?_ hs h
  clear h hs
  have h := Foot.refl 0x10000000b08 t
  unfold execSetOut
  repeat' first
    | with_reducible assumption
    | (intro x; first | clear_value x | skip)
    | lift_lets
    | with_reducible refine foot_forceCmd rfl ?_ ..
    | with_reducible refine OutFoot.next ?_
    | split
    | dsimp only

theorem foot_execClearIn {m : Nat} {z t : State} (hs : 0x10000000b08 ||| m = m) (h : Foot m z t) (a0 : _) (a1 : _) (a2 : _) :
    OutFoot m z (execClearIn a0 a1 a2 t) := by
  refine OutFoot.step (m := 0x10000000b08) ?_ hs h
  clear h hs
  have h := Foot.refl 0x10000000b08 t
  unfold execClearIn
  repeat' first
    | with_reducible assumption
    | (intro x; first | clear_value x | skip)
    | lift_lets
    | with_reducible refine foot_forceCmd rfl ?_ ..
    | with_reducible refine OutFoot.next ?_
    | split
    | dsimp only

theorem foot_execClearOut {m : Nat} {z t : State} (hs : 0x10000000b08 ||| m = m) (h : Foot m z t) (a0 : _) (a1 : _) (a2 : _) :
    OutFoot m z (execClearOut a0 a1 a2 t) := by
  refine OutFoot.step (m := 0x10000000b08) ?_ hs h
  clear h hs
  have h := Foot.refl 0x10000000b08 t
  unfold execClearOut
  repeat' first
    | with_reducible assumption
    | (intro x; first | clear_value x | skip)
    | lift_lets
    | with_reducible refine foot_forceCmd rfl ?_ ..
    | with_reducible refine OutFoot.next ?_
    | split
    | dsimp only

theorem foot_execClearAll {m : Nat} {z t : State} (hs : 0x10000000b08 ||| m = m) (h : Foot m z t) (a0 : _) (a1 : _) :
    OutFoot m z (execClearAll a0 a1 t) := by
  refine OutFoot.step (m := 0x10000000b08) ?_ hs h
  clear h hs
  have h := Foot.refl 0x10000000b08 t
  unfold execClearAll
  repeat' first
    | with_reducible assumption
    | (intro x; first | clear_value x | skip)
    | lift_lets
    | with_reducible refine foot_forceCmd rfl ?_ ..
    | with_reducible refine OutFoot.next ?_
    | split
    | dsimp only

theorem foot_taskCmd {m : Nat} {z t : State} (hs : 0x10000000c00 ||| m = m) (h : Foot m z t) (a0 : _) (a1 : _) (a2 : _) :
    Foot m z (State.taskCmd a0 a1 a2 t) := by
  refine Foot.step (m := 0x10000000c00) ?_ hs h
  clear h hs
  have h := Foot.refl 0x10000000c00 t
  unfold State.taskCmd
  repeat' first
    | with_reducible assumption
    | (intro x; first | (have hf := fun a => x a; clear hf; subst x) | clear_value x | skip)
    | lift_lets
    | with_reducible refine foot_modSched rfl ?_ ..
    | with_reducible refine foot_setFld (blk_SCAN_STAT_TCMD_RESULT ..) rfl ?_ ..
    | with_reducible apply Foot.ite
    | ((with_reducible refine Foot.lit ?_ rfl rfl ?_ ?_ ?_ ?_ ?_ ?_); rotate_left; rfl; rfl; rfl; rfl; (first | exact Nat.le_refl _ | exact Nat.le_succ _); (constructor <;> first | with_reducible exact Kept.same | exact Kept.masked rfl); (first | with_reducible assumption | with_reducible refine foot_modSched rfl ?_ .. | with_reducible refine foot_setFld (blk_SCAN_STAT_TCMD_RESULT ..) rfl ?_ .. | with_reducible apply Foot.ite))
    | split
    | dsimp only

theorem foot_execTaskResume {m : Nat} {z t : State} (hs : 0x10000000c00 ||| m = m) (h : Foot m z t) (a0 : _) (a1 : _) (a2 : _) :
    OutFoot m z (execTaskResume a0 a1 a2 t) := by
  refine OutFoot.step (m := 0x10000000c00) ?_ hs h
  clear h hs
  have h := Foot.refl 0x10000000c00 t
  unfold execTaskResume
  repeat' first
    | with_reducible assumption
    | (intro x; first | clear_value x | skip)
    | lift_lets
    | with_reducible refine foot_taskCmd rfl ?_ ..
    | with_reducible refine OutFoot.next ?_
    | split
    | dsimp only

theorem foot_execTaskDisable {m : Nat} {z t : State} (hs : 0x10000000c00 ||| m = m) (h : Foot m z t) (a0 : _) (a1 : _) (a2 : _) :
    OutFoot m z (execTaskDisable a0 a1 a2 t) := by
  refine OutFoot.step (m := 0x10000000c00) ?_ hs h
  clear h hs
  have h := Foot.refl 0x10000000c00 t
  unfold execTaskDisable
  repeat' first
    | with_reducible assumption
    | (intro x; first | clear_value x | skip)
    | lift_lets
    | with_reducible refine foot_taskCmd rfl ?_ ..
    | with_reducible refine OutFoot.next ?_
    | split
    | dsimp only

theorem foot_execTaskEnable {m : Nat} {z t : State} (hs : 0x10000000c00 ||| m = m) (h : Foot m z t) (a0 : _) (a1 : _) (a2 : _) :
    OutFoot m z (execTaskEnable a0 a1 a2 t) := by
  refine OutFoot.step (m := 0x10000000c00) ?_ hs h
  clear h hs
  have h := Foot.refl 0x10000000c00 t
  unfold execTaskEnable
  repeat' first
    | with_reducible assumption
    | (intro x; first | clear_value x | skip)
    | lift_lets
    | with_reducible refine foot_taskCmd rfl ?_ ..
    | with_reducible refine OutFoot.next ?_
    | split
    | dsimp only

end Sys2Proof.Machine
end

