-- ==== Sys2Proof/Laws/FootJournal.lean ====
section
/-!
SUPPORT. Footprints of the operations of Machine/Journal.lean.
-/

set_option Elab.async false

set_option linter.all false

set_option maxRecDepth 4000

namespace Sys2Proof.Machine

theorem foot_setLag {m : Nat} {z t : State} (hs : 0x722c0100a4eacf80 ||| m = m) (h : Foot m z t) (a0 : _) :
    Foot m z (State.setLag a0 t) := by
  refine Foot.step (m := 0x722c0100a4eacf80) ?_ hs h
  clear h hs
  have h := Foot.refl 0x722c0100a4eacf80 t
  unfold State.setLag
  repeat' first
    | with_reducible assumption
    | (intro x; first | (refine Foot.cut (P := Foot 0x722c0100a4eacf80 t x) ?_ ?_; rotate_left; subst x; rotate_left; intro hx; clear_value x) | clear_value x | skip)
    | lift_lets
    | with_reducible refine foot_raise rfl ?_ ..
    | with_reducible refine foot_setFld (blk_PART_STAT_SYNC ..) rfl ?_ ..
    | with_reducible refine foot_setFld (blk_PART_STAT_LAG ..) rfl ?_ ..
    | with_reducible refine foot_setFlag (blk_PART_STAT_SYNC ..) rfl ?_ ..
    | with_reducible refine foot_setFlag (blk_PART_STAT_LAG ..) rfl ?_ ..
    | with_reducible apply Foot.ite
    | ((with_reducible refine Foot.lit ?_ rfl rfl ?_ ?_ ?_ ?_ ?_ ?_); rotate_left; rfl; rfl; rfl; rfl; (first | exact Nat.le_refl _ | exact Nat.le_succ _); (constructor <;> first | with_reducible exact Kept.same | exact Kept.masked rfl); (first | with_reducible assumption | with_reducible refine foot_raise rfl ?_ .. | with_reducible refine foot_setFld (blk_PART_STAT_SYNC ..) rfl ?_ .. | with_reducible refine foot_setFld (blk_PART_STAT_LAG ..) rfl ?_ .. | with_reducible refine foot_setFlag (blk_PART_STAT_SYNC ..) rfl ?_ .. | with_reducible refine foot_setFlag (blk_PART_STAT_LAG ..) rfl ?_ .. | with_reducible apply Foot.ite))
    | split
    | dsimp only

theorem foot_setChain {m : Nat} {z t : State} (hs : 0x400000002000 ||| m = m) (h : Foot m z t) (a0 : _) :
    Foot m z (State.setChain a0 t) := by
  refine Foot.step (m := 0x400000002000) ?_ hs h
  clear h hs
  have h := Foot.refl 0x400000002000 t
  unfold State.setChain
  repeat' first
    | with_reducible assumption
    | (intro x; first | clear_value x | skip)
    | lift_lets
    | with_reducible refine foot_setFlag (blk_JNL_STAT_CHAIN_OK ..) rfl ?_ ..
    | with_reducible refine foot_setFlag (blk_JNL_STAT_CKPT_OK ..) rfl ?_ ..
    | ((with_reducible refine Foot.lit ?_ rfl rfl ?_ ?_ ?_ ?_ ?_ ?_); rotate_left; rfl; rfl; rfl; rfl; (first | exact Nat.le_refl _ | exact Nat.le_succ _); (constructor <;> first | with_reducible exact Kept.same | exact Kept.masked rfl); (first | with_reducible assumption | with_reducible refine foot_setFlag (blk_JNL_STAT_CHAIN_OK ..) rfl ?_ .. | with_reducible refine foot_setFlag (blk_JNL_STAT_CKPT_OK ..) rfl ?_ ..))
    | split
    | dsimp only

theorem foot_headerCopies {m : Nat} {z t : State} (hs : 0x2000 ||| m = m) (h : Foot m z t) :
    Foot m z (State.headerCopies t) := by
  refine Foot.step (m := 0x2000) ?_ hs h
  clear h hs
  have h := Foot.refl 0x2000 t
  unfold State.headerCopies
  repeat' first
    | with_reducible assumption
    | (intro x; first | clear_value x | skip)
    | lift_lets
    | ((with_reducible refine Foot.lit ?_ rfl rfl ?_ ?_ ?_ ?_ ?_ ?_); rotate_left; rfl; rfl; rfl; rfl; (first | exact Nat.le_refl _ | exact Nat.le_succ _); (constructor <;> first | with_reducible exact Kept.same | exact Kept.masked rfl); (first | with_reducible assumption))
    | split
    | dsimp only

theorem foot_generation {m : Nat} {z t : State} (hs : 0x400000002200 ||| m = m) (h : Foot m z t) (a0 : _) (a1 : _) :
    Foot m z (State.generation a0 a1 t) := by
  refine Foot.step (m := 0x400000002200) ?_ hs h
  clear h hs
  have h := Foot.refl 0x400000002200 t
  unfold State.generation
  repeat' first
    | with_reducible assumption
    | (intro x; first | (refine Foot.cut (P := Foot 0x400000002200 t x) ?_ ?_; rotate_left; subst x; rotate_left; intro hx; clear_value x) | clear_value x | skip)
    | lift_lets
    | with_reducible refine foot_setChain rfl ?_ ..
    | with_reducible refine foot_headerCopies rfl ?_ ..
    | ((with_reducible refine Foot.lit ?_ rfl rfl ?_ ?_ ?_ ?_ ?_ ?_); rotate_left; rfl; rfl; rfl; rfl; (first | exact Nat.le_refl _ | exact Nat.le_succ _); (constructor <;> first | with_reducible exact Kept.same | exact Kept.masked rfl); (first | with_reducible assumption | with_reducible refine foot_setChain rfl ?_ .. | with_reducible refine foot_headerCopies rfl ?_ ..))
    | split
    | dsimp only

theorem foot_slice {m : Nat} {z t : State} (hs : 0x400000002200 ||| m = m) (h : Foot m z t) :
    Foot m z (State.slice t) := by
  refine Foot.step (m := 0x400000002200) ?_ hs h
  clear h hs
  have h := Foot.refl 0x400000002200 t
  unfold State.slice
  repeat' first
    | with_reducible assumption
    | (intro x; first | (refine Foot.cut (P := Foot 0x400000002200 t x) ?_ ?_; rotate_left; subst x; rotate_left; intro hx; clear_value x) | clear_value x | skip)
    | lift_lets
    | with_reducible refine foot_generation rfl ?_ ..
    | with_reducible apply Foot.ite
    | ((with_reducible refine Foot.lit ?_ rfl rfl ?_ ?_ ?_ ?_ ?_ ?_); rotate_left; rfl; rfl; rfl; rfl; (first | exact Nat.le_refl _ | exact Nat.le_succ _); (constructor <;> first | with_reducible exact Kept.same | exact Kept.masked rfl); (first | with_reducible assumption | with_reducible refine foot_generation rfl ?_ .. | with_reducible apply Foot.ite))
    | split
    | dsimp only

theorem foot_checkpoint {m : Nat} {z t : State} (hs : 0x400000002200 ||| m = m) (h : Foot m z t) :
    Foot m z (State.checkpoint t) := by
  refine Foot.step (m := 0x400000002200) ?_ hs h
  clear h hs
  have h := Foot.refl 0x400000002200 t
  unfold State.checkpoint
  repeat' first
    | with_reducible assumption
    | (intro x; first | clear_value x | skip)
    | lift_lets
    | with_reducible refine foot_generation rfl ?_ ..
    | ((with_reducible refine Foot.lit ?_ rfl rfl ?_ ?_ ?_ ?_ ?_ ?_); rotate_left; rfl; rfl; rfl; rfl; (first | exact Nat.le_refl _ | exact Nat.le_succ _); (constructor <;> first | with_reducible exact Kept.same | exact Kept.masked rfl); (first | with_reducible assumption | with_reducible refine foot_generation rfl ?_ ..))
    | split
    | dsimp only

theorem foot_imageTake {m : Nat} {z t : State} (hs : 0x2200 ||| m = m) (h : Foot m z t) (a0 : _) :
    Foot m z (State.imageTake a0 t) := by
  refine Foot.step (m := 0x2200) ?_ hs h
  clear h hs
  have h := Foot.refl 0x2200 t
  unfold State.imageTake
  repeat' first
    | with_reducible assumption
    | (intro x; first | clear_value x | skip)
    | lift_lets
    | ((with_reducible refine Foot.lit ?_ rfl rfl ?_ ?_ ?_ ?_ ?_ ?_); rotate_left; rfl; rfl; rfl; rfl; (first | exact Nat.le_refl _ | exact Nat.le_succ _); (constructor <;> first | with_reducible exact Kept.same | exact Kept.masked rfl); (first | with_reducible assumption))
    | split
    | dsimp only

theorem foot_deltaPut {m : Nat} {z t : State} (hs : 0x2200 ||| m = m) (h : Foot m z t) (a0 : _) (a1 : _) :
    Foot m z (State.deltaPut a0 a1 t) := by
  refine Foot.step (m := 0x2200) ?_ hs h
  clear h hs
  have h := Foot.refl 0x2200 t
  unfold State.deltaPut
  repeat' first
    | with_reducible assumption
    | (intro x; first | (refine Foot.cut (P := Foot 0x2200 t x) ?_ ?_; rotate_left; subst x; rotate_left; intro hx; clear_value x) | clear_value x | skip)
    | lift_lets
    | with_reducible refine foot_imageTake rfl ?_ ..
    | ((with_reducible refine Foot.lit ?_ rfl rfl ?_ ?_ ?_ ?_ ?_ ?_); rotate_left; rfl; rfl; rfl; rfl; (first | exact Nat.le_refl _ | exact Nat.le_succ _); (constructor <;> first | with_reducible exact Kept.same | exact Kept.masked rfl); (first | with_reducible assumption | with_reducible refine foot_imageTake rfl ?_ ..))
    | split
    | dsimp only

theorem foot_deltaCommit {m : Nat} {z t : State} (hs : 0x40200000a200 ||| m = m) (h : Foot m z t) (a0 : _) :
    Foot m z (State.deltaCommit a0 t) := by
  refine Foot.step (m := 0x40200000a200) ?_ hs h
  clear h hs
  have h := Foot.refl 0x40200000a200 t
  unfold State.deltaCommit
  repeat' first
    | with_reducible assumption
    | (intro x; first | (refine Foot.cut (P := Foot 0x40200000a200 t x) ?_ ?_; rotate_left; subst x; rotate_left; intro hx; clear_value x) | clear_value x | skip)
    | lift_lets
    | with_reducible refine foot_deltaPut rfl ?_ ..
    | with_reducible refine foot_emit rfl ?_ ..
    | with_reducible refine foot_setFld (blk_JNL_DSIZE_BYTES ..) rfl ?_ ..
    | with_reducible refine foot_setFld (blk_JNL_CYCLE_CYCLE ..) rfl ?_ ..
    | with_reducible refine foot_setFld2 (blk_JNL_DSIZE_BYTES ..) rfl (blk_JNL_CYCLE_CYCLE ..) rfl ?_ ..
    | with_reducible refine foot_setFld2 (blk_JNL_CYCLE_CYCLE ..) rfl (blk_JNL_DSIZE_BYTES ..) rfl ?_ ..
    | with_reducible refine foot_setFld2 (blk_JNL_CYCLE_CYCLE ..) rfl (blk_JNL_CYCLE_CYCLE ..) rfl ?_ ..
    | with_reducible apply Foot.ite
    | ((with_reducible refine Foot.lit ?_ rfl rfl ?_ ?_ ?_ ?_ ?_ ?_); rotate_left; rfl; rfl; rfl; rfl; (first | exact Nat.le_refl _ | exact Nat.le_succ _); (constructor <;> first | with_reducible exact Kept.same | exact Kept.masked rfl); (first | with_reducible assumption | with_reducible refine foot_deltaPut rfl ?_ .. | with_reducible refine foot_emit rfl ?_ .. | with_reducible refine foot_setFld (blk_JNL_DSIZE_BYTES ..) rfl ?_ .. | with_reducible refine foot_setFld (blk_JNL_CYCLE_CYCLE ..) rfl ?_ .. | with_reducible refine foot_setFld2 (blk_JNL_DSIZE_BYTES ..) rfl (blk_JNL_CYCLE_CYCLE ..) rfl ?_ .. | with_reducible refine foot_setFld2 (blk_JNL_CYCLE_CYCLE ..) rfl (blk_JNL_DSIZE_BYTES ..) rfl ?_ .. | with_reducible refine foot_setFld2 (blk_JNL_CYCLE_CYCLE ..) rfl (blk_JNL_CYCLE_CYCLE ..) rfl ?_ .. | with_reducible apply Foot.ite))
    | split
    | dsimp only

theorem foot_execJournalCycle {m : Nat} {z t : State} (hs : 0x722c4120a4eaef80 ||| m = m) (h : Foot m z t) :
    OutFoot m z (execJournalCycle t) := by
  refine OutFoot.step (m := 0x722c4120a4eaef80) ?_ hs h
  clear h hs
  have h := Foot.refl 0x722c4120a4eaef80 t
  unfold execJournalCycle
  repeat' first
    | with_reducible assumption
    | (intro x; first | (refine Foot.cut (P := Foot 0x722c4120a4eaef80 t x) ?_ ?_; rotate_left; subst x; rotate_left; intro hx; clear_value x) | clear_value x | skip)
    | lift_lets
    | with_reducible refine foot_deltaCommit rfl ?_ ..
    | with_reducible refine foot_setLag rfl ?_ ..
    | with_reducible refine foot_raise rfl ?_ ..
    | with_reducible refine foot_slice rfl ?_ ..
    | with_reducible refine foot_incSat (blk_JNL_MERGE_COUNT ..) rfl ?_ ..
    | with_reducible apply Foot.ite
    | with_reducible refine OutFoot.next ?_
    | ((with_reducible refine Foot.lit ?_ rfl rfl ?_ ?_ ?_ ?_ ?_ ?_); rotate_left; rfl; rfl; rfl; rfl; (first | exact Nat.le_refl _ | exact Nat.le_succ _); (constructor <;> first | with_reducible exact Kept.same | exact Kept.masked rfl); (first | with_reducible assumption | with_reducible refine foot_deltaCommit rfl ?_ .. | with_reducible refine foot_setLag rfl ?_ .. | with_reducible refine foot_raise rfl ?_ .. | with_reducible refine foot_slice rfl ?_ .. | with_reducible refine foot_incSat (blk_JNL_MERGE_COUNT ..) rfl ?_ .. | with_reducible apply Foot.ite | with_reducible refine OutFoot.next ?_))
    | split
    | dsimp only

theorem foot_execDuskFinalDelta {m : Nat} {z t : State} (hs : 0x200040200420e300 ||| m = m) (h : Foot m z t) (a0 : _) :
    OutFoot m z (execDuskFinalDelta a0 t) := by
  refine OutFoot.step (m := 0x200040200420e300) ?_ hs h
  clear h hs
  have h := Foot.refl 0x200040200420e300 t
  unfold execDuskFinalDelta
  repeat' first
    | with_reducible assumption
    | (intro x; first | (refine Foot.cut (P := Foot 0x200040200420e300 t x) ?_ ?_; rotate_left; subst x; rotate_left; intro hx; clear_value x) | clear_value x | skip)
    | lift_lets
    | with_reducible refine foot_deltaCommit rfl ?_ ..
    | with_reducible refine foot_headerCopies rfl ?_ ..
    | with_reducible refine foot_incSat (blk_JNL_MERGE_COUNT ..) rfl ?_ ..
    | with_reducible apply Foot.ite
    | with_reducible refine OutFoot.next ?_
    | ((with_reducible refine Foot.lit ?_ rfl rfl ?_ ?_ ?_ ?_ ?_ ?_); rotate_left; rfl; rfl; rfl; rfl; (first | exact Nat.le_refl _ | exact Nat.le_succ _); (constructor <;> first | with_reducible exact Kept.same | exact Kept.masked rfl); (first | with_reducible assumption | with_reducible refine foot_deltaCommit rfl ?_ .. | with_reducible refine foot_headerCopies rfl ?_ .. | with_reducible refine foot_incSat (blk_JNL_MERGE_COUNT ..) rfl ?_ .. | with_reducible apply Foot.ite | with_reducible refine OutFoot.next ?_))
    | split
    | dsimp only

theorem foot_execJournalDeviceFail {m : Nat} {z t : State} (hs : 0x72284100a4ea6f80 ||| m = m) (h : Foot m z t) (a0 : _) :
    OutFoot m z (execJournalDeviceFail a0 t) := by
  refine OutFoot.step (m := 0x72284100a4ea6f80) ?_ hs h
  clear h hs
  have h := Foot.refl 0x72284100a4ea6f80 t
  unfold execJournalDeviceFail
  repeat' first
    | with_reducible assumption
    | (intro x; first | (refine Foot.cut (P := Foot 0x72284100a4ea6f80 t x) ?_ ?_; rotate_left; subst x; rotate_left; intro hx; clear_value x) | clear_value x | skip)
    | lift_lets
    | with_reducible refine foot_raise rfl ?_ ..
    | with_reducible refine foot_setChain rfl ?_ ..
    | with_reducible refine foot_setFlag (blk_JNL_STAT_DEV_OK ..) rfl ?_ ..
    | with_reducible refine foot_setFlag (blk_JNL_STAT_DEGRADED ..) rfl ?_ ..
    | with_reducible refine foot_setFbit (blk_JNL_STAT_DEV_OK ..) rfl ?_ ..
    | with_reducible refine foot_setFbit (blk_JNL_STAT_DEGRADED ..) rfl ?_ ..
    | with_reducible apply Foot.ite
    | with_reducible refine OutFoot.next ?_
    | ((with_reducible refine Foot.lit ?_ rfl rfl ?_ ?_ ?_ ?_ ?_ ?_); rotate_left; rfl; rfl; rfl; rfl; (first | exact Nat.le_refl _ | exact Nat.le_succ _); (constructor <;> first | with_reducible exact Kept.same | exact Kept.masked rfl); (first | with_reducible assumption | with_reducible refine foot_raise rfl ?_ .. | with_reducible refine foot_setChain rfl ?_ .. | with_reducible refine foot_setFlag (blk_JNL_STAT_DEV_OK ..) rfl ?_ .. | with_reducible refine foot_setFlag (blk_JNL_STAT_DEGRADED ..) rfl ?_ .. | with_reducible refine foot_setFbit (blk_JNL_STAT_DEV_OK ..) rfl ?_ .. | with_reducible refine foot_setFbit (blk_JNL_STAT_DEGRADED ..) rfl ?_ .. | with_reducible apply Foot.ite | with_reducible refine OutFoot.next ?_))
    | split
    | dsimp only

theorem foot_newChain {m : Nat} {z t : State} (hs : 0x400000002200 ||| m = m) (h : Foot m z t) :
    Foot m z (State.newChain t) := by
  refine Foot.step (m := 0x400000002200) ?_ hs h
  clear h hs
  have h := Foot.refl 0x400000002200 t
  unfold State.newChain
  repeat' first
    | with_reducible assumption
    | (intro x; first | clear_value x | skip)
    | lift_lets
    | with_reducible refine foot_setChain rfl ?_ ..
    | ((with_reducible refine Foot.lit ?_ rfl rfl ?_ ?_ ?_ ?_ ?_ ?_); rotate_left; rfl; rfl; rfl; rfl; (first | exact Nat.le_refl _ | exact Nat.le_succ _); (constructor <;> first | with_reducible exact Kept.same | exact Kept.masked rfl); (first | with_reducible assumption | with_reducible refine foot_setChain rfl ?_ ..))
    | split
    | dsimp only

theorem foot_execJournalDeviceReturn {m : Nat} {z t : State} (hs : 0x400000002200 ||| m = m) (h : Foot m z t) (a0 : _) :
    OutFoot m z (execJournalDeviceReturn a0 t) := by
  refine OutFoot.step (m := 0x400000002200) ?_ hs h
  clear h hs
  have h := Foot.refl 0x400000002200 t
  unfold execJournalDeviceReturn
  repeat' first
    | with_reducible assumption
    | (intro x; first | (refine Foot.cut (P := Foot 0x400000002200 t x) ?_ ?_; rotate_left; subst x; rotate_left; intro hx; clear_value x) | clear_value x | skip)
    | lift_lets
    | with_reducible refine foot_newChain rfl ?_ ..
    | with_reducible refine foot_setFlag (blk_JNL_STAT_DEGRADED ..) rfl ?_ ..
    | with_reducible refine foot_setFlag (blk_JNL_STAT_DEV_OK ..) rfl ?_ ..
    | with_reducible refine foot_setFbit (blk_JNL_STAT_DEGRADED ..) rfl ?_ ..
    | with_reducible refine foot_setFbit (blk_JNL_STAT_DEV_OK ..) rfl ?_ ..
    | with_reducible apply Foot.ite
    | with_reducible refine OutFoot.next ?_
    | ((with_reducible refine Foot.lit ?_ rfl rfl ?_ ?_ ?_ ?_ ?_ ?_); rotate_left; rfl; rfl; rfl; rfl; (first | exact Nat.le_refl _ | exact Nat.le_succ _); (constructor <;> first | with_reducible exact Kept.same | exact Kept.masked rfl); (first | with_reducible assumption | with_reducible refine foot_newChain rfl ?_ .. | with_reducible refine foot_setFlag (blk_JNL_STAT_DEGRADED ..) rfl ?_ .. | with_reducible refine foot_setFlag (blk_JNL_STAT_DEV_OK ..) rfl ?_ .. | with_reducible refine foot_setFbit (blk_JNL_STAT_DEGRADED ..) rfl ?_ .. | with_reducible refine foot_setFbit (blk_JNL_STAT_DEV_OK ..) rfl ?_ .. | with_reducible apply Foot.ite | with_reducible refine OutFoot.next ?_))
    | split
    | dsimp only

theorem foot_execJournalRebuildComplete {m : Nat} {z t : State} (hs : 0x400000002000 ||| m = m) (h : Foot m z t) :
    OutFoot m z (execJournalRebuildComplete t) := by
  refine OutFoot.step (m := 0x400000002000) ?_ hs h
  clear h hs
  have h := Foot.refl 0x400000002000 t
  unfold execJournalRebuildComplete
  repeat' first
    | with_reducible assumption
    | (intro x; first | clear_value x | skip)
    | lift_lets
    | with_reducible refine foot_setFlag (blk_JNL_STAT_DEGRADED ..) rfl ?_ ..
    | with_reducible apply Foot.ite
    | with_reducible refine OutFoot.next ?_
    | ((with_reducible refine Foot.lit ?_ rfl rfl ?_ ?_ ?_ ?_ ?_ ?_); rotate_left; rfl; rfl; rfl; rfl; (first | exact Nat.le_refl _ | exact Nat.le_succ _); (constructor <;> first | with_reducible exact Kept.same | exact Kept.masked rfl); (first | with_reducible assumption | with_reducible refine foot_setFlag (blk_JNL_STAT_DEGRADED ..) rfl ?_ .. | with_reducible apply Foot.ite | with_reducible refine OutFoot.next ?_))
    | split
    | dsimp only

theorem foot_jnlCtrlWrite {m : Nat} {z t : State} (hs : 0x400000002200 ||| m = m) (h : Foot m z t) (a0 : _) :
    Foot m z (State.jnlCtrlWrite a0 t) := by
  refine Foot.step (m := 0x400000002200) ?_ hs h
  clear h hs
  have h := Foot.refl 0x400000002200 t
  unfold State.jnlCtrlWrite
  repeat' first
    | with_reducible assumption
    | (intro x; first | (refine Foot.cut (P := Foot 0x400000002200 t x) ?_ ?_; rotate_left; subst x; rotate_left; intro hx; clear_value x) | clear_value x | skip)
    | lift_lets
    | with_reducible refine foot_setChain rfl ?_ ..
    | with_reducible refine foot_newChain rfl ?_ ..
    | with_reducible refine foot_plainWrite (blk_JNL_CTRL_EN ..) rfl ?_ ..
    | with_reducible apply Foot.ite
    | ((with_reducible refine Foot.lit ?_ rfl rfl ?_ ?_ ?_ ?_ ?_ ?_); rotate_left; rfl; rfl; rfl; rfl; (first | exact Nat.le_refl _ | exact Nat.le_succ _); (constructor <;> first | with_reducible exact Kept.same | exact Kept.masked rfl); (first | with_reducible assumption | with_reducible refine foot_setChain rfl ?_ .. | with_reducible refine foot_newChain rfl ?_ .. | with_reducible refine foot_plainWrite (blk_JNL_CTRL_EN ..) rfl ?_ .. | with_reducible apply Foot.ite))
    | split
    | dsimp only

end Sys2Proof.Machine
end

