-- ==== Sys2Proof/Laws/FootExchange.lean ====
section
/-!
SUPPORT. Footprints of the operations of Machine/Exchange.lean.
-/

set_option Elab.async false

set_option linter.all false

set_option maxRecDepth 4000

namespace Sys2Proof.Machine

theorem foot_programCheck {m : Nat} {z t : State} (hs : 0x72280100a4ea4f80 ||| m = m) (h : Foot m z t) (a0 : _) :
    PairFoot m z (State.programCheck a0 t) := by
  refine PairFoot.step (m := 0x72280100a4ea4f80) ?_ hs h
  clear h hs
  have h := Foot.refl 0x72280100a4ea4f80 t
  unfold State.programCheck
  repeat' first
    | with_reducible assumption
    | (intro x; first | clear_value x | skip)
    | lift_lets
    | with_reducible refine foot_raise rfl ?_ ..
    | split
    | with_reducible refine PairFoot.mk ?_
    | dsimp only

theorem foot_putTables {m : Nat} {z t : State} (hs : 0x72280100a4ea4f88 ||| m = m) (h : Foot m z t) (a0 : _) :
    Foot m z (State.putTables a0 t) := by
  refine Foot.step (m := 0x72280100a4ea4f88) ?_ hs h
  clear h hs
  have h := Foot.refl 0x72280100a4ea4f88 t
  unfold State.putTables
  repeat' first
    | with_reducible assumption
    | (intro x; first | (refine Foot.cut (P := Foot 0x72280100a4ea4f88 t x) ?_ ?_; rotate_left; subst x; rotate_left; intro hx; clear_value x) | clear_value x | skip)
    | lift_lets
    | with_reducible refine foot_ifFitted rfl (fun _ _ => ?_) ?_ ..
    | with_reducible refine foot_setWord rfl ?_ ..
    | with_reducible refine foot_clearRange rfl ?_ ..
    | with_reducible refine Foot.forL (fun _ _ _ => ?_) ?_
    | split
    | dsimp only

theorem foot_putWords {m : Nat} {z t : State} (hs : 0x8 ||| m = m) (h : Foot m z t) (a0 : _) (a1 : _) :
    Foot m z (State.putWords a0 a1 t) := by
  refine Foot.step (m := 0x8) ?_ hs h
  clear h hs
  have h := Foot.refl 0x8 t
  unfold State.putWords
  repeat' first
    | with_reducible assumption
    | (intro x; first | clear_value x | skip)
    | lift_lets
    | with_reducible refine foot_setWord rfl ?_ ..
    | with_reducible refine Foot.forL (fun _ _ _ => ?_) ?_
    | split
    | dsimp only

theorem foot_putImage {m : Nat} {z t : State} (hs : 0x72280100a4ea4f88 ||| m = m) (h : Foot m z t) (a0 : _) :
    Foot m z (State.putImage a0 t) := by
  refine Foot.step (m := 0x72280100a4ea4f88) ?_ hs h
  clear h hs
  have h := Foot.refl 0x72280100a4ea4f88 t
  unfold State.putImage
  repeat' first
    | with_reducible assumption
    | (intro x; first | clear_value x | skip)
    | lift_lets
    | with_reducible refine foot_putTables rfl ?_ ..
    | with_reducible refine foot_putWords rfl ?_ ..
    | split
    | dsimp only

theorem foot_initData {m : Nat} {z t : State} (hs : 0x8 ||| m = m) (h : Foot m z t) (a0 : _) :
    Foot m z (State.initData a0 t) := by
  refine Foot.step (m := 0x8) ?_ hs h
  clear h hs
  have h := Foot.refl 0x8 t
  unfold State.initData
  repeat' first
    | with_reducible assumption
    | (intro x; first | (refine Foot.cut (P := Foot 0x8 t x) ?_ ?_; rotate_left; subst x; rotate_left; intro hx; clear_value x) | clear_value x | skip)
    | lift_lets
    | with_reducible refine foot_setWords rfl ?_ ..
    | with_reducible refine Foot.forL (fun _ _ _ => ?_) ?_
    | split
    | dsimp only

theorem foot_migrate {m : Nat} {z t : State} (hs : 0x72280100a4ea4f88 ||| m = m) (h : Foot m z t) (a0 : _) (a1 : _) :
    Foot m z (State.migrate a0 a1 t) := by
  refine Foot.step (m := 0x72280100a4ea4f88) ?_ hs h
  clear h hs
  have h := Foot.refl 0x72280100a4ea4f88 t
  unfold State.migrate
  repeat' first
    | with_reducible assumption
    | (intro x; first | (refine Foot.cut (P := Foot 0x72280100a4ea4f88 t x) ?_ ?_; rotate_left; subst x; rotate_left; intro hx; clear_value x) | clear_value x | skip)
    | lift_lets
    | with_reducible refine foot_forceClear rfl ?_ ..
    | with_reducible refine foot_putTables rfl ?_ ..
    | with_reducible refine foot_setWords rfl ?_ ..
    | with_reducible refine foot_putWords rfl ?_ ..
    | with_reducible refine foot_log rfl ?_ ..
    | with_reducible refine Foot.forL (fun _ _ _ => ?_) ?_
    | ((with_reducible refine Foot.lit ?_ rfl rfl ?_ ?_ ?_ ?_ ?_ ?_); rotate_left; rfl; rfl; rfl; rfl; (first | exact Nat.le_refl _ | exact Nat.le_succ _); (constructor <;> first | with_reducible exact Kept.same | exact Kept.masked rfl); (first | with_reducible assumption | with_reducible refine foot_forceClear rfl ?_ .. | with_reducible refine foot_putTables rfl ?_ .. | with_reducible refine foot_setWords rfl ?_ .. | with_reducible refine foot_putWords rfl ?_ .. | with_reducible refine foot_log rfl ?_ .. | with_reducible refine Foot.forL (fun _ _ _ => ?_) ?_))
    | split
    | dsimp only

theorem foot_exchResult {m : Nat} {z t : State} (hs : 0x10000000000 ||| m = m) (h : Foot m z t) (a0 : _) (a1 : _) :
    Foot m z (State.exchResult a0 a1 t) := by
  refine Foot.step (m := 0x10000000000) ?_ hs h
  clear h hs
  have h := Foot.refl 0x10000000000 t
  unfold State.exchResult
  repeat' first
    | with_reducible assumption
    | (intro x; first | clear_value x | skip)
    | lift_lets
    | with_reducible refine foot_setFld (blk_EXCH_STAT_RESULT ..) rfl ?_ ..
    | with_reducible refine foot_setFld (blk_EXCH_STAT_CODE ..) rfl ?_ ..
    | split
    | dsimp only

theorem foot_exchArm {m : Nat} {z t : State} (hs : 0x10000000c00 ||| m = m) (h : Foot m z t) (a0 : _) (a1 : _) :
    Foot m z (State.exchArm a0 a1 t) := by
  refine Foot.step (m := 0x10000000c00) ?_ hs h
  clear h hs
  have h := Foot.refl 0x10000000c00 t
  unfold State.exchArm
  repeat' first
    | with_reducible assumption
    | (intro x; first | (refine Foot.cut (P := Foot 0x10000000c00 t x) ?_ ?_; rotate_left; subst x; rotate_left; intro hx; clear_value x) | clear_value x | skip)
    | lift_lets
    | with_reducible refine foot_countSkip rfl ?_ ..
    | with_reducible refine foot_modSched rfl ?_ ..
    | with_reducible refine foot_exchResult rfl ?_ ..
    | with_reducible refine foot_setFld (blk_EXCH_STAT_AFFECTED ..) rfl ?_ ..
    | with_reducible refine foot_setFld (blk_EXCH_STAT_STATE ..) rfl ?_ ..
    | with_reducible refine Foot.forL (fun _ _ _ => ?_) ?_
    | with_reducible apply Foot.ite
    | ((with_reducible refine Foot.lit ?_ rfl rfl ?_ ?_ ?_ ?_ ?_ ?_); rotate_left; rfl; rfl; rfl; rfl; (first | exact Nat.le_refl _ | exact Nat.le_succ _); (constructor <;> first | with_reducible exact Kept.same | exact Kept.masked rfl); (first | with_reducible assumption | with_reducible refine foot_countSkip rfl ?_ .. | with_reducible refine foot_modSched rfl ?_ .. | with_reducible refine foot_exchResult rfl ?_ .. | with_reducible refine foot_setFld (blk_EXCH_STAT_AFFECTED ..) rfl ?_ .. | with_reducible refine foot_setFld (blk_EXCH_STAT_STATE ..) rfl ?_ .. | with_reducible refine Foot.forL (fun _ _ _ => ?_) ?_ | with_reducible apply Foot.ite))
    | split
    | dsimp only

theorem foot_burn {m : Nat} {z t : State} (hs : 0x40400000000 ||| m = m) (h : Foot m z t) (c v : Nat) :
    Foot m z (State.burn c v t) := by
  unfold State.burn
  refine foot_setFld (t := { t with secu := { t.secu with arb := tset 0 c (t.burnt c v) t.secu.arb } }) (blk_SEC_ARB_VALUE ..) (mask_sub (b := 0x40400000000) rfl hs) ⟨?_, h.regs, h.memWf, h.regsWf, h.fuses.trans ⟨fun _ x => x, fun _ x => x, fun k => ?_, fun x => x⟩, h.free⟩ _
  · have hb : m.testBit 34 = true := bit_in (b := 0x40400000000) rfl hs rfl
    refine Eq.trans ?_ h.hidden
    simp only [blank, hb, if_true]
  · show tget 0 t.secu.arb k ≤ tget 0 (tset 0 c (t.burnt c v) t.secu.arb) k
    rw [tget_tset]
    split
    · next e => subst e; exact Nat.le_max_left _ _
    · exact Nat.le_refl _

theorem foot_exchCmd {m : Nat} {z t : State} (hs : 0x50400001c00 ||| m = m) (h : Foot m z t) (a0 : _) (a1 : _) :
    Foot m z (State.exchCmd a0 a1 t) := by
  refine Foot.step (m := 0x50400001c00) ?_ hs h
  clear h hs
  have h := Foot.refl 0x50400001c00 t
  unfold State.exchCmd
  repeat' first
    | with_reducible assumption
    | (intro x; first | (refine Foot.cut (P := Foot 0x50400001c00 t x) ?_ ?_; rotate_left; subst x; rotate_left; intro hx; clear_value x) | (have hf := fun a => x a; clear hf; subst x) | clear_value x | skip)
    | lift_lets
    | with_reducible refine foot_exchArm rfl ?_ ..
    | with_reducible refine foot_exchResult rfl ?_ ..
    | with_reducible refine foot_burn rfl ?_ ..
    | with_reducible refine foot_setFld (blk_EXCH_STAT_STATE ..) rfl ?_ ..
    | with_reducible apply Foot.ite
    | ((with_reducible refine Foot.lit ?_ rfl rfl ?_ ?_ ?_ ?_ ?_ ?_); rotate_left; rfl; rfl; rfl; rfl; (first | exact Nat.le_refl _ | exact Nat.le_succ _); (constructor <;> first | with_reducible exact Kept.same | exact Kept.masked rfl); (first | with_reducible assumption | with_reducible refine foot_exchArm rfl ?_ .. | with_reducible refine foot_exchResult rfl ?_ .. | with_reducible refine foot_burn rfl ?_ .. | with_reducible refine foot_setFld (blk_EXCH_STAT_STATE ..) rfl ?_ .. | with_reducible apply Foot.ite))
    | split
    | dsimp only

theorem foot_execArm {m : Nat} {z t : State} (hs : 0x50400001c00 ||| m = m) (h : Foot m z t) (a0 : _) (a1 : _) :
    OutFoot m z (execArm a0 a1 t) := by
  refine OutFoot.step (m := 0x50400001c00) ?_ hs h
  clear h hs
  have h := Foot.refl 0x50400001c00 t
  unfold execArm
  repeat' first
    | with_reducible assumption
    | (intro x; first | clear_value x | skip)
    | lift_lets
    | with_reducible refine foot_exchCmd rfl ?_ ..
    | with_reducible refine OutFoot.next ?_
    | split
    | dsimp only

theorem foot_execCommit {m : Nat} {z t : State} (hs : 0x50400001c00 ||| m = m) (h : Foot m z t) (a0 : _) (a1 : _) :
    OutFoot m z (execCommit a0 a1 t) := by
  refine OutFoot.step (m := 0x50400001c00) ?_ hs h
  clear h hs
  have h := Foot.refl 0x50400001c00 t
  unfold execCommit
  repeat' first
    | with_reducible assumption
    | (intro x; first | clear_value x | skip)
    | lift_lets
    | with_reducible refine foot_exchCmd rfl ?_ ..
    | with_reducible refine OutFoot.next ?_
    | split
    | dsimp only

theorem foot_execRevert {m : Nat} {z t : State} (hs : 0x50400001c00 ||| m = m) (h : Foot m z t) (a0 : _) (a1 : _) :
    OutFoot m z (execRevert a0 a1 t) := by
  refine OutFoot.step (m := 0x50400001c00) ?_ hs h
  clear h hs
  have h := Foot.refl 0x50400001c00 t
  unfold execRevert
  repeat' first
    | with_reducible assumption
    | (intro x; first | clear_value x | skip)
    | lift_lets
    | with_reducible refine foot_exchCmd rfl ?_ ..
    | with_reducible refine OutFoot.next ?_
    | split
    | dsimp only

theorem foot_execDiscard {m : Nat} {z t : State} (hs : 0x50400001c00 ||| m = m) (h : Foot m z t) (a0 : _) (a1 : _) :
    OutFoot m z (execDiscard a0 a1 t) := by
  refine OutFoot.step (m := 0x50400001c00) ?_ hs h
  clear h hs
  have h := Foot.refl 0x50400001c00 t
  unfold execDiscard
  repeat' first
    | with_reducible assumption
    | (intro x; first | clear_value x | skip)
    | lift_lets
    | with_reducible refine foot_exchCmd rfl ?_ ..
    | with_reducible refine OutFoot.next ?_
    | split
    | dsimp only

theorem foot_exchSwitch {m : Nat} {z t : State} (hs : 0x72280100a4ea4f88 ||| m = m) (h : Foot m z t) (a0 : _) :
    Foot m z (State.exchSwitch a0 t) := by
  refine Foot.step (m := 0x72280100a4ea4f88) ?_ hs h
  clear h hs
  have h := Foot.refl 0x72280100a4ea4f88 t
  unfold State.exchSwitch
  repeat' first
    | with_reducible assumption
    | (intro x; first | (refine Foot.cut (P := Foot 0x72280100a4ea4f88 t x) ?_ ?_; rotate_left; subst x; rotate_left; intro hx; clear_value x) | clear_value x | skip)
    | lift_lets
    | with_reducible refine foot_migrate rfl ?_ ..
    | with_reducible refine foot_reasonTo rfl ?_ ..
    | with_reducible refine foot_setFld (blk_EXCH_STAT_RESULT ..) rfl ?_ ..
    | with_reducible refine foot_setFld (blk_EXCH_STAT_STATE ..) rfl ?_ ..
    | ((with_reducible refine Foot.lit ?_ rfl rfl ?_ ?_ ?_ ?_ ?_ ?_); rotate_left; rfl; rfl; rfl; rfl; (first | exact Nat.le_refl _ | exact Nat.le_succ _); (constructor <;> first | with_reducible exact Kept.same | exact Kept.masked rfl); (first | with_reducible assumption | with_reducible refine foot_migrate rfl ?_ .. | with_reducible refine foot_reasonTo rfl ?_ .. | with_reducible refine foot_setFld (blk_EXCH_STAT_RESULT ..) rfl ?_ .. | with_reducible refine foot_setFld (blk_EXCH_STAT_STATE ..) rfl ?_ ..))
    | split
    | dsimp only

theorem foot_exchRelease {m : Nat} {z t : State} (hs : 0x10000000c00 ||| m = m) (h : Foot m z t) :
    Foot m z (State.exchRelease t) := by
  refine Foot.step (m := 0x10000000c00) ?_ hs h
  clear h hs
  have h := Foot.refl 0x10000000c00 t
  unfold State.exchRelease
  repeat' first
    | with_reducible assumption
    | (intro x; first | (refine Foot.cut (P := Foot 0x10000000c00 t x) ?_ ?_; rotate_left; subst x; rotate_left; intro hx; clear_value x) | clear_value x | skip)
    | lift_lets
    | with_reducible refine foot_modSched rfl ?_ ..
    | with_reducible refine foot_beginWaits rfl ?_ ..
    | with_reducible refine foot_setFld (blk_TASK_TIME_LAST ..) rfl ?_ ..
    | with_reducible refine foot_setFld (blk_TASK_TIME_MAX ..) rfl ?_ ..
    | with_reducible refine foot_setFld (blk_TASK_STAT_SKIPS ..) rfl ?_ ..
    | with_reducible refine foot_setFld (blk_TASK_STAT_OVERRUNS ..) rfl ?_ ..
    | with_reducible refine Foot.forL (fun _ _ _ => ?_) ?_
    | ((with_reducible refine Foot.lit ?_ rfl rfl ?_ ?_ ?_ ?_ ?_ ?_); rotate_left; rfl; rfl; rfl; rfl; (first | exact Nat.le_refl _ | exact Nat.le_succ _); (constructor <;> first | with_reducible exact Kept.same | exact Kept.masked rfl); (first | with_reducible assumption | with_reducible refine foot_modSched rfl ?_ .. | with_reducible refine foot_beginWaits rfl ?_ .. | with_reducible refine foot_setFld (blk_TASK_TIME_LAST ..) rfl ?_ .. | with_reducible refine foot_setFld (blk_TASK_TIME_MAX ..) rfl ?_ .. | with_reducible refine foot_setFld (blk_TASK_STAT_SKIPS ..) rfl ?_ .. | with_reducible refine foot_setFld (blk_TASK_STAT_OVERRUNS ..) rfl ?_ .. | with_reducible refine Foot.forL (fun _ _ _ => ?_) ?_))
    | split
    | dsimp only

theorem foot_exchTell {m : Nat} {z t : State} (hs : 0x2000000000 ||| m = m) (h : Foot m z t) (a0 : _) :
    Foot m z (State.exchTell a0 t) := by
  refine Foot.step (m := 0x2000000000) ?_ hs h
  clear h hs
  have h := Foot.refl 0x2000000000 t
  unfold State.exchTell
  repeat' first
    | with_reducible assumption
    | (intro x; first | clear_value x | skip)
    | lift_lets
    | with_reducible refine foot_emit rfl ?_ ..
    | with_reducible apply Foot.ite
    | split
    | dsimp only

theorem foot_execExchangeSwitch {m : Nat} {z t : State} (hs : 0x72280120a4ea4f88 ||| m = m) (h : Foot m z t) :
    OutFoot m z (execExchangeSwitch t) := by
  refine OutFoot.step (m := 0x72280120a4ea4f88) ?_ hs h
  clear h hs
  have h := Foot.refl 0x72280120a4ea4f88 t
  unfold execExchangeSwitch
  repeat' first
    | with_reducible assumption
    | (intro x; first | (refine Foot.cut (P := Foot 0x72280120a4ea4f88 t x) ?_ ?_; rotate_left; subst x; rotate_left; intro hx; clear_value x) | clear_value x | skip)
    | lift_lets
    | with_reducible refine foot_exchSwitch rfl ?_ ..
    | with_reducible refine foot_exchTell rfl ?_ ..
    | with_reducible apply Foot.ite
    | with_reducible refine OutFoot.next ?_
    | ((with_reducible refine Foot.lit ?_ rfl rfl ?_ ?_ ?_ ?_ ?_ ?_); rotate_left; rfl; rfl; rfl; rfl; (first | exact Nat.le_refl _ | exact Nat.le_succ _); (constructor <;> first | with_reducible exact Kept.same | exact Kept.masked rfl); (first | with_reducible assumption | with_reducible refine foot_exchSwitch rfl ?_ .. | with_reducible refine foot_exchTell rfl ?_ .. | with_reducible apply Foot.ite | with_reducible refine OutFoot.next ?_))
    | split
    | dsimp only

theorem foot_execExchangeRelease {m : Nat} {z t : State} (hs : 0x2000410004202e00 ||| m = m) (h : Foot m z t) :
    OutFoot m z (execExchangeRelease t) := by
  refine OutFoot.step (m := 0x2000410004202e00) ?_ hs h
  clear h hs
  have h := Foot.refl 0x2000410004202e00 t
  unfold execExchangeRelease
  repeat' first
    | with_reducible assumption
    | (intro x; first | clear_value x | skip)
    | lift_lets
    | with_reducible refine foot_exchRelease rfl ?_ ..
    | with_reducible refine foot_imageTake rfl ?_ ..
    | with_reducible refine foot_checkpoint rfl ?_ ..
    | with_reducible apply Foot.ite
    | with_reducible refine OutFoot.next ?_
    | split
    | dsimp only

theorem foot_followSwitch {m : Nat} {z t : State} (hs : 0x72284100a4ea6f88 ||| m = m) (h : Foot m z t) (a0 : _) :
    Foot m z (State.followSwitch a0 t) := by
  refine Foot.step (m := 0x72284100a4ea6f88) ?_ hs h
  clear h hs
  have h := Foot.refl 0x72284100a4ea6f88 t
  unfold State.followSwitch
  repeat' first
    | with_reducible assumption
    | (intro x; first | (refine Foot.cut (P := Foot 0x72284100a4ea6f88 t x) ?_ ?_; rotate_left; subst x; rotate_left; intro hx; clear_value x) | clear_value x | skip)
    | lift_lets
    | with_reducible refine foot_exchSwitch rfl ?_ ..
    | with_reducible refine foot_exchRelease rfl ?_ ..
    | with_reducible refine foot_imageTake rfl ?_ ..
    | with_reducible refine foot_checkpoint rfl ?_ ..
    | with_reducible refine foot_setFld (blk_EXCH_STAT_AFFECTED ..) rfl ?_ ..
    | with_reducible apply Foot.ite
    | ((with_reducible refine Foot.lit ?_ rfl rfl ?_ ?_ ?_ ?_ ?_ ?_); rotate_left; rfl; rfl; rfl; rfl; (first | exact Nat.le_refl _ | exact Nat.le_succ _); (constructor <;> first | with_reducible exact Kept.same | exact Kept.masked rfl); (first | with_reducible assumption | with_reducible refine foot_exchSwitch rfl ?_ .. | with_reducible refine foot_exchRelease rfl ?_ .. | with_reducible refine foot_imageTake rfl ?_ .. | with_reducible refine foot_checkpoint rfl ?_ .. | with_reducible refine foot_setFld (blk_EXCH_STAT_AFFECTED ..) rfl ?_ .. | with_reducible apply Foot.ite))
    | split
    | dsimp only

theorem foot_execExchangeTimeout {m : Nat} {z t : State} (hs : 0x10000000c00 ||| m = m) (h : Foot m z t) :
    OutFoot m z (execExchangeTimeout t) := by
  refine OutFoot.step (m := 0x10000000c00) ?_ hs h
  clear h hs
  have h := Foot.refl 0x10000000c00 t
  unfold execExchangeTimeout
  repeat' first
    | with_reducible assumption
    | (intro x; first
        | (refine Foot.cut (P := Foot 0x10000000c00 t x) ?_ ?_; rotate_left; subst x; rotate_left; intro hx; clear_value x)
        | (refine Foot.cut (P := PairFoot 0x10000000c00 t x) ?_ ?_; rotate_left; subst x; rotate_left; intro hx; clear_value x)
        | (refine Foot.cut (P := OptFoot 0x10000000c00 t x) ?_ ?_; rotate_left; subst x; rotate_left; intro hx; clear_value x)
        | (have hf := x.programmed; clear hf)
        | clear_value x
        | skip)
    | lift_lets
    | with_reducible refine foot_modSched rfl ?_ ..
    | with_reducible refine foot_setFld (blk_EXCH_STAT_RESULT ..) rfl ?_ ..
    | with_reducible refine foot_setFld (blk_EXCH_STAT_STATE ..) rfl ?_ ..
    | with_reducible refine Foot.foldl (fun _ _ _ => ?_) ?_
    | with_reducible refine PairFoot.foldl (fun _ _ _ => ?_) ?_
    | with_reducible apply Foot.ite
    | with_reducible apply PairFoot.ite
    | with_reducible apply OptFoot.ite
    | with_reducible apply OutFoot.ite
    | with_reducible apply ExFoot.ite
    | with_reducible exact ExFoot.error
    | with_reducible refine ExFoot.ok ?_
    | with_reducible refine PairFoot.forL (fun _ _ _ => ?_) ?_
    | with_reducible refine PairFoot.forN (fun _ _ _ => ?_) ?_
    | with_reducible refine OptFoot.some ?_
    | with_reducible exact OptFoot.none
    | with_reducible refine OutFoot.next ?_
    | with_reducible refine OptFoot.getD ?_ ?_
    | with_reducible refine PairFoot.snd ?_
    | with_reducible exact PairFoot.out (by assumption)
    | with_reducible refine PairFoot.eq (by assumption) ?_
    | with_reducible refine OptFoot.eq (by assumption) ?_
    | with_reducible refine ExFoot.eq (by assumption) ?_
    | ((with_reducible refine Foot.lit ?_ rfl rfl ?_ ?_ ?_ ?_ ?_ ?_); rotate_left; rfl; rfl; rfl; rfl; (first | exact Nat.le_refl _ | exact Nat.le_succ _); (constructor <;> first | with_reducible exact Kept.same | exact Kept.masked rfl); (first | with_reducible assumption | with_reducible refine foot_modSched rfl ?_ .. | with_reducible refine foot_setFld (blk_EXCH_STAT_RESULT ..) rfl ?_ .. | with_reducible refine foot_setFld (blk_EXCH_STAT_STATE ..) rfl ?_ .. | with_reducible refine Foot.foldl (fun _ _ _ => ?_) ?_ | with_reducible refine PairFoot.foldl (fun _ _ _ => ?_) ?_ | with_reducible apply Foot.ite | with_reducible apply PairFoot.ite | with_reducible apply OptFoot.ite | with_reducible apply OutFoot.ite | with_reducible apply ExFoot.ite | with_reducible exact ExFoot.error | with_reducible refine ExFoot.ok ?_ | with_reducible refine PairFoot.forL (fun _ _ _ => ?_) ?_ | with_reducible refine PairFoot.forN (fun _ _ _ => ?_) ?_ | with_reducible refine OptFoot.some ?_ | with_reducible exact OptFoot.none | with_reducible refine OutFoot.next ?_ | with_reducible refine OptFoot.getD ?_ ?_ | with_reducible refine PairFoot.snd ?_))
    | split
    | with_reducible refine PairFoot.mk ?_
    | dsimp only

end Sys2Proof.Machine
end

