-- ==== Sys2Proof/Laws/FootFieldPins.lean ====
section
/-!
SUPPORT. Footprints of the operations of Machine/FieldPins.lean.
-/

set_option Elab.async false

set_option linter.all false

set_option maxRecDepth 4000

namespace Sys2Proof.Machine

theorem foot_dirStart {m : Nat} {z t : State} (hs : 0x72280100a4fa4f88 ||| m = m) (h : Foot m z t) (a0 : _) :
    Foot m z (State.dirStart a0 t) := by
  refine Foot.step (m := 0x72280100a4fa4f88) ?_ hs h
  clear h hs
  have h := Foot.refl 0x72280100a4fa4f88 t
  unfold State.dirStart
  repeat' first
    | with_reducible assumption
    | (intro x; first
        | (refine Foot.cut (P := Foot 0x72280100a4fa4f88 t x) ?_ ?_; rotate_left; subst x; rotate_left; intro hx; clear_value x)
        | (refine Foot.cut (P := PairFoot 0x72280100a4fa4f88 t x) ?_ ?_; rotate_left; subst x; rotate_left; intro hx; clear_value x)
        | (refine Foot.cut (P := OptFoot 0x72280100a4fa4f88 t x) ?_ ?_; rotate_left; subst x; rotate_left; intro hx; clear_value x)
        | (have hf := x.programmed; clear hf)
        | clear_value x
        | skip)
    | lift_lets
    | with_reducible refine foot_modChan rfl ?_ ..
    | with_reducible refine foot_regionRefresh rfl ?_ ..
    | with_reducible refine foot_debounce rfl ?_ ..
    | with_reducible refine Foot.foldl (fun _ _ _ => ?_) ?_
    | with_reducible refine PairFoot.foldl (fun _ _ _ => ?_) ?_
    | with_reducible apply Foot.ite
    | with_reducible apply PairFoot.ite
    | with_reducible apply OptFoot.ite
    | with_reducible apply OutFoot.ite
    | with_reducible apply ExFoot.ite
    | with_reducible exact ExFoot.error
    | with_reducible refine ExFoot.ok ?_
    | with_reducible refine PairFoot.forL (fun _ _ _ => ?_) ?_
    | with_reducible refine PairFoot.forN (fun _ _ _ => ?_) ?_
    | with_reducible refine OptFoot.some ?_
    | with_reducible exact OptFoot.none
    | with_reducible refine OutFoot.next ?_
    | with_reducible refine OptFoot.getD ?_ ?_
    | with_reducible refine PairFoot.snd ?_
    | with_reducible exact PairFoot.out (by assumption)
    | with_reducible refine PairFoot.eq (by assumption) ?_
    | with_reducible refine OptFoot.eq (by assumption) ?_
    | with_reducible refine ExFoot.eq (by assumption) ?_
    | ((with_reducible refine Foot.lit ?_ rfl rfl ?_ ?_ ?_ ?_ ?_ ?_); rotate_left; rfl; rfl; rfl; rfl; (first | exact Nat.le_refl _ | exact Nat.le_succ _); (constructor <;> first | with_reducible exact Kept.same | exact Kept.masked rfl); (first | with_reducible assumption | with_reducible refine foot_modChan rfl ?_ .. | with_reducible refine foot_regionRefresh rfl ?_ .. | with_reducible refine foot_debounce rfl ?_ .. | with_reducible refine Foot.foldl (fun _ _ _ => ?_) ?_ | with_reducible refine PairFoot.foldl (fun _ _ _ => ?_) ?_ | with_reducible apply Foot.ite | with_reducible apply PairFoot.ite | with_reducible apply OptFoot.ite | with_reducible apply OutFoot.ite | with_reducible apply ExFoot.ite | with_reducible exact ExFoot.error | with_reducible refine ExFoot.ok ?_ | with_reducible refine PairFoot.forL (fun _ _ _ => ?_) ?_ | with_reducible refine PairFoot.forN (fun _ _ _ => ?_) ?_ | with_reducible refine OptFoot.some ?_ | with_reducible exact OptFoot.none | with_reducible refine OutFoot.next ?_ | with_reducible refine OptFoot.getD ?_ ?_ | with_reducible refine PairFoot.snd ?_))
    | split
    | with_reducible refine PairFoot.mk ?_
    | dsimp only

theorem foot_fioCfgWrite {m : Nat} {z t : State} (hs : 0xffffff00a4fa4f88 ||| m = m) (h : Foot m z t) (a0 : _) (a1 : _) :
    Foot m z (State.fioCfgWrite a0 a1 t) := by
  refine Foot.step (m := 0xffffff00a4fa4f88) ?_ hs h
  clear h hs
  have h := Foot.refl 0xffffff00a4fa4f88 t
  unfold State.fioCfgWrite
  repeat' first
    | with_reducible assumption
    | (intro x; first
        | (refine Foot.cut (P := Foot 0xffffff00a4fa4f88 t x) ?_ ?_; rotate_left; subst x; rotate_left; intro hx; clear_value x)
        | (refine Foot.cut (P := PairFoot 0xffffff00a4fa4f88 t x) ?_ ?_; rotate_left; subst x; rotate_left; intro hx; clear_value x)
        | (refine Foot.cut (P := OptFoot 0xffffff00a4fa4f88 t x) ?_ ?_; rotate_left; subst x; rotate_left; intro hx; clear_value x)
        | (have hf := x.programmed; clear hf)
        | clear_value x
        | skip)
    | lift_lets
    | with_reducible refine foot_dirStart rfl ?_ ..
    | with_reducible refine foot_modChan rfl ?_ ..
    | with_reducible refine foot_raise rfl ?_ ..
    | with_reducible refine foot_debounce rfl ?_ ..
    | with_reducible refine foot_plainAll rfl ?_ ..
    | with_reducible refine Foot.foldl (fun _ _ _ => ?_) ?_
    | with_reducible refine PairFoot.foldl (fun _ _ _ => ?_) ?_
    | with_reducible apply Foot.ite
    | with_reducible apply PairFoot.ite
    | with_reducible apply OptFoot.ite
    | with_reducible apply OutFoot.ite
    | with_reducible apply ExFoot.ite
    | with_reducible exact ExFoot.error
    | with_reducible refine ExFoot.ok ?_
    | with_reducible refine PairFoot.forL (fun _ _ _ => ?_) ?_
    | with_reducible refine PairFoot.forN (fun _ _ _ => ?_) ?_
    | with_reducible refine OptFoot.some ?_
    | with_reducible exact OptFoot.none
    | with_reducible refine OutFoot.next ?_
    | with_reducible refine OptFoot.getD ?_ ?_
    | with_reducible refine PairFoot.snd ?_
    | with_reducible exact PairFoot.out (by assumption)
    | with_reducible refine PairFoot.eq (by assumption) ?_
    | with_reducible refine OptFoot.eq (by assumption) ?_
    | with_reducible refine ExFoot.eq (by assumption) ?_
    | ((with_reducible refine Foot.lit ?_ rfl rfl ?_ ?_ ?_ ?_ ?_ ?_); rotate_left; rfl; rfl; rfl; rfl; (first | exact Nat.le_refl _ | exact Nat.le_succ _); (constructor <;> first | with_reducible exact Kept.same | exact Kept.masked rfl); (first | with_reducible assumption | with_reducible refine foot_dirStart rfl ?_ .. | with_reducible refine foot_modChan rfl ?_ .. | with_reducible refine foot_raise rfl ?_ .. | with_reducible refine foot_debounce rfl ?_ .. | with_reducible refine foot_plainAll rfl ?_ .. | with_reducible refine Foot.foldl (fun _ _ _ => ?_) ?_ | with_reducible refine PairFoot.foldl (fun _ _ _ => ?_) ?_ | with_reducible apply Foot.ite | with_reducible apply PairFoot.ite | with_reducible apply OptFoot.ite | with_reducible apply OutFoot.ite | with_reducible apply ExFoot.ite | with_reducible exact ExFoot.error | with_reducible refine ExFoot.ok ?_ | with_reducible refine PairFoot.forL (fun _ _ _ => ?_) ?_ | with_reducible refine PairFoot.forN (fun _ _ _ => ?_) ?_ | with_reducible refine OptFoot.some ?_ | with_reducible exact OptFoot.none | with_reducible refine OutFoot.next ?_ | with_reducible refine OptFoot.getD ?_ ?_ | with_reducible refine PairFoot.snd ?_))
    | split
    | with_reducible refine PairFoot.mk ?_
    | dsimp only

theorem foot_execFioDirWrite {m : Nat} {z t : State} (hs : 0xffffff00a4fa4f88 ||| m = m) (h : Foot m z t) (a0 : _) (a1 : _) (a2 : _) :
    OutFoot m z (execFioDirWrite a0 a1 a2 t) := by
  refine OutFoot.step (m := 0xffffff00a4fa4f88) ?_ hs h
  clear h hs
  have h := Foot.refl 0xffffff00a4fa4f88 t
  unfold execFioDirWrite
  repeat' first
    | with_reducible assumption
    | (intro x; first | clear_value x | skip)
    | lift_lets
    | with_reducible refine foot_fioCfgWrite rfl ?_ ..
    | with_reducible refine foot_onDie rfl (fun _ _ => ?_) ?_ ..
    | with_reducible refine OutFoot.next ?_
    | split
    | dsimp only

theorem foot_execDebWrite {m : Nat} {z t : State} (hs : 0xffffff00a4fa4f88 ||| m = m) (h : Foot m z t) (a0 : _) (a1 : _) (a2 : _) :
    OutFoot m z (execDebWrite a0 a1 a2 t) := by
  refine OutFoot.step (m := 0xffffff00a4fa4f88) ?_ hs h
  clear h hs
  have h := Foot.refl 0xffffff00a4fa4f88 t
  unfold execDebWrite
  repeat' first
    | with_reducible assumption
    | (intro x; first | clear_value x | skip)
    | lift_lets
    | with_reducible refine foot_fioCfgWrite rfl ?_ ..
    | with_reducible refine foot_onDie rfl (fun _ _ => ?_) ?_ ..
    | with_reducible refine OutFoot.next ?_
    | split
    | dsimp only

theorem foot_execDebounceExpiry {m : Nat} {z t : State} (hs : 0x72280100a4fa4f88 ||| m = m) (h : Foot m z t) (a0 : _) :
    OutFoot m z (execDebounceExpiry a0 t) := by
  refine OutFoot.step (m := 0x72280100a4fa4f88) ?_ hs h
  clear h hs
  have h := Foot.refl 0x72280100a4fa4f88 t
  unfold execDebounceExpiry
  repeat' first
    | with_reducible assumption
    | (intro x; first | clear_value x | skip)
    | lift_lets
    | with_reducible refine foot_setIn rfl ?_ ..
    | with_reducible apply Foot.ite
    | with_reducible refine OutFoot.next ?_
    | split
    | dsimp only

theorem foot_maxactWrite {m : Nat} {z t : State} (hs : 0xffffff00a4ea4f80 ||| m = m) (h : Foot m z t) (a0 : _) (a1 : _) :
    Foot m z (State.maxactWrite a0 a1 t) := by
  refine Foot.step (m := 0xffffff00a4ea4f80) ?_ hs h
  clear h hs
  have h := Foot.refl 0xffffff00a4ea4f80 t
  unfold State.maxactWrite
  repeat' first
    | with_reducible assumption
    | (intro x; first
        | (refine Foot.cut (P := Foot 0xffffff00a4ea4f80 t x) ?_ ?_; rotate_left; subst x; rotate_left; intro hx; clear_value x)
        | (refine Foot.cut (P := PairFoot 0xffffff00a4ea4f80 t x) ?_ ?_; rotate_left; subst x; rotate_left; intro hx; clear_value x)
        | (refine Foot.cut (P := OptFoot 0xffffff00a4ea4f80 t x) ?_ ?_; rotate_left; subst x; rotate_left; intro hx; clear_value x)
        | (have hf := x.programmed; clear hf)
        | clear_value x
        | skip)
    | lift_lets
    | with_reducible refine foot_modChan rfl ?_ ..
    | with_reducible refine foot_regionRefresh rfl ?_ ..
    | with_reducible refine foot_plainAll rfl ?_ ..
    | with_reducible refine Foot.foldl (fun _ _ _ => ?_) ?_
    | with_reducible refine PairFoot.foldl (fun _ _ _ => ?_) ?_
    | with_reducible apply Foot.ite
    | with_reducible apply PairFoot.ite
    | with_reducible apply OptFoot.ite
    | with_reducible apply OutFoot.ite
    | with_reducible apply ExFoot.ite
    | with_reducible exact ExFoot.error
    | with_reducible refine ExFoot.ok ?_
    | with_reducible refine PairFoot.forL (fun _ _ _ => ?_) ?_
    | with_reducible refine PairFoot.forN (fun _ _ _ => ?_) ?_
    | with_reducible refine OptFoot.some ?_
    | with_reducible exact OptFoot.none
    | with_reducible refine OutFoot.next ?_
    | with_reducible refine OptFoot.getD ?_ ?_
    | with_reducible refine PairFoot.snd ?_
    | with_reducible exact PairFoot.out (by assumption)
    | with_reducible refine PairFoot.eq (by assumption) ?_
    | with_reducible refine OptFoot.eq (by assumption) ?_
    | with_reducible refine ExFoot.eq (by assumption) ?_
    | ((with_reducible refine Foot.lit ?_ rfl rfl ?_ ?_ ?_ ?_ ?_ ?_); rotate_left; rfl; rfl; rfl; rfl; (first | exact Nat.le_refl _ | exact Nat.le_succ _); (constructor <;> first | with_reducible exact Kept.same | exact Kept.masked rfl); (first | with_reducible assumption | with_reducible refine foot_modChan rfl ?_ .. | with_reducible refine foot_regionRefresh rfl ?_ .. | with_reducible refine foot_plainAll rfl ?_ .. | with_reducible refine Foot.foldl (fun _ _ _ => ?_) ?_ | with_reducible refine PairFoot.foldl (fun _ _ _ => ?_) ?_ | with_reducible apply Foot.ite | with_reducible apply PairFoot.ite | with_reducible apply OptFoot.ite | with_reducible apply OutFoot.ite | with_reducible apply ExFoot.ite | with_reducible exact ExFoot.error | with_reducible refine ExFoot.ok ?_ | with_reducible refine PairFoot.forL (fun _ _ _ => ?_) ?_ | with_reducible refine PairFoot.forN (fun _ _ _ => ?_) ?_ | with_reducible refine OptFoot.some ?_ | with_reducible exact OptFoot.none | with_reducible refine OutFoot.next ?_ | with_reducible refine OptFoot.getD ?_ ?_ | with_reducible refine PairFoot.snd ?_))
    | split
    | with_reducible refine PairFoot.mk ?_
    | dsimp only

theorem foot_execMaxactWrite {m : Nat} {z t : State} (hs : 0xffffff00a4ea4f80 ||| m = m) (h : Foot m z t) (a0 : _) (a1 : _) (a2 : _) :
    OutFoot m z (execMaxactWrite a0 a1 a2 t) := by
  refine OutFoot.step (m := 0xffffff00a4ea4f80) ?_ hs h
  clear h hs
  have h := Foot.refl 0xffffff00a4ea4f80 t
  unfold execMaxactWrite
  repeat' first
    | with_reducible assumption
    | (intro x; first | clear_value x | skip)
    | lift_lets
    | with_reducible refine foot_onDie rfl (fun _ _ => ?_) ?_ ..
    | with_reducible refine foot_maxactWrite rfl ?_ ..
    | with_reducible refine OutFoot.next ?_
    | split
    | dsimp only

theorem foot_execMaxactExpiry {m : Nat} {z t : State} (hs : 0x72280100a4ea4f80 ||| m = m) (h : Foot m z t) (a0 : _) :
    OutFoot m z (execMaxactExpiry a0 t) := by
  refine OutFoot.step (m := 0x72280100a4ea4f80) ?_ hs h
  clear h hs
  have h := Foot.refl 0x72280100a4ea4f80 t
  unfold execMaxactExpiry
  repeat' first
    | with_reducible assumption
    | (intro x; first
        | (refine Foot.cut (P := Foot 0x72280100a4ea4f80 t x) ?_ ?_; rotate_left; subst x; rotate_left; intro hx; clear_value x)
        | (refine Foot.cut (P := PairFoot 0x72280100a4ea4f80 t x) ?_ ?_; rotate_left; subst x; rotate_left; intro hx; clear_value x)
        | (refine Foot.cut (P := OptFoot 0x72280100a4ea4f80 t x) ?_ ?_; rotate_left; subst x; rotate_left; intro hx; clear_value x)
        | (have hf := x.programmed; clear hf)
        | clear_value x
        | skip)
    | lift_lets
    | with_reducible refine foot_modChan rfl ?_ ..
    | with_reducible refine foot_regionRefresh rfl ?_ ..
    | with_reducible refine Foot.foldl (fun _ _ _ => ?_) ?_
    | with_reducible refine PairFoot.foldl (fun _ _ _ => ?_) ?_
    | with_reducible apply Foot.ite
    | with_reducible apply PairFoot.ite
    | with_reducible apply OptFoot.ite
    | with_reducible apply OutFoot.ite
    | with_reducible apply ExFoot.ite
    | with_reducible exact ExFoot.error
    | with_reducible refine ExFoot.ok ?_
    | with_reducible refine PairFoot.forL (fun _ _ _ => ?_) ?_
    | with_reducible refine PairFoot.forN (fun _ _ _ => ?_) ?_
    | with_reducible refine OptFoot.some ?_
    | with_reducible exact OptFoot.none
    | with_reducible refine OutFoot.next ?_
    | with_reducible refine OptFoot.getD ?_ ?_
    | with_reducible refine PairFoot.snd ?_
    | with_reducible exact PairFoot.out (by assumption)
    | with_reducible refine PairFoot.eq (by assumption) ?_
    | with_reducible refine OptFoot.eq (by assumption) ?_
    | with_reducible refine ExFoot.eq (by assumption) ?_
    | ((with_reducible refine Foot.lit ?_ rfl rfl ?_ ?_ ?_ ?_ ?_ ?_); rotate_left; rfl; rfl; rfl; rfl; (first | exact Nat.le_refl _ | exact Nat.le_succ _); (constructor <;> first | with_reducible exact Kept.same | exact Kept.masked rfl); (first | with_reducible assumption | with_reducible refine foot_modChan rfl ?_ .. | with_reducible refine foot_regionRefresh rfl ?_ .. | with_reducible refine Foot.foldl (fun _ _ _ => ?_) ?_ | with_reducible refine PairFoot.foldl (fun _ _ _ => ?_) ?_ | with_reducible apply Foot.ite | with_reducible apply PairFoot.ite | with_reducible apply OptFoot.ite | with_reducible apply OutFoot.ite | with_reducible apply ExFoot.ite | with_reducible exact ExFoot.error | with_reducible refine ExFoot.ok ?_ | with_reducible refine PairFoot.forL (fun _ _ _ => ?_) ?_ | with_reducible refine PairFoot.forN (fun _ _ _ => ?_) ?_ | with_reducible refine OptFoot.some ?_ | with_reducible exact OptFoot.none | with_reducible refine OutFoot.next ?_ | with_reducible refine OptFoot.getD ?_ ?_ | with_reducible refine PairFoot.snd ?_))
    | split
    | with_reducible refine PairFoot.mk ?_
    | dsimp only

theorem foot_execSwitchThermalTrip {m : Nat} {z t : State} (hs : 0x72280100a5ea4f80 ||| m = m) (h : Foot m z t) (a0 : _) :
    OutFoot m z (execSwitchThermalTrip a0 t) := by
  refine OutFoot.step (m := 0x72280100a5ea4f80) ?_ hs h
  clear h hs
  have h := Foot.refl 0x72280100a5ea4f80 t
  unfold execSwitchThermalTrip
  repeat' first
    | with_reducible assumption
    | (intro x; first | clear_value x | skip)
    | lift_lets
    | with_reducible refine foot_regionRefresh rfl ?_ ..
    | with_reducible refine foot_modRegion rfl ?_ ..
    | with_reducible refine OutFoot.next ?_
    | split
    | dsimp only

theorem foot_execSwitchCooled {m : Nat} {z t : State} (hs : 0x72280100a5ea4f80 ||| m = m) (h : Foot m z t) (a0 : _) :
    OutFoot m z (execSwitchCooled a0 t) := by
  refine OutFoot.step (m := 0x72280100a5ea4f80) ?_ hs h
  clear h hs
  have h := Foot.refl 0x72280100a5ea4f80 t
  unfold execSwitchCooled
  repeat' first
    | with_reducible assumption
    | (intro x; first | clear_value x | skip)
    | lift_lets
    | with_reducible refine foot_regionRefresh rfl ?_ ..
    | with_reducible refine foot_modRegion rfl ?_ ..
    | with_reducible refine OutFoot.next ?_
    | split
    | dsimp only

theorem foot_execOvercurrentQualified {m : Nat} {z t : State} (hs : 0x72280100a5ea4f80 ||| m = m) (h : Foot m z t) (a0 : _) (a1 : _) :
    OutFoot m z (execOvercurrentQualified a0 a1 t) := by
  refine OutFoot.step (m := 0x72280100a5ea4f80) ?_ hs h
  clear h hs
  have h := Foot.refl 0x72280100a5ea4f80 t
  unfold execOvercurrentQualified
  repeat' first
    | with_reducible assumption
    | (intro x; first | clear_value x | skip)
    | lift_lets
    | with_reducible refine foot_regionRefresh rfl ?_ ..
    | with_reducible refine foot_modRegion rfl ?_ ..
    | with_reducible refine OutFoot.next ?_
    | split
    | dsimp only

theorem foot_execVfldMissing {m : Nat} {z t : State} (hs : 0x72280100a5ea4f80 ||| m = m) (h : Foot m z t) (a0 : _) :
    OutFoot m z (execVfldMissing a0 t) := by
  refine OutFoot.step (m := 0x72280100a5ea4f80) ?_ hs h
  clear h hs
  have h := Foot.refl 0x72280100a5ea4f80 t
  unfold execVfldMissing
  repeat' first
    | with_reducible assumption
    | (intro x; first | clear_value x | skip)
    | lift_lets
    | with_reducible refine foot_regionRefresh rfl ?_ ..
    | with_reducible refine foot_modRegion rfl ?_ ..
    | with_reducible refine OutFoot.next ?_
    | split
    | dsimp only

theorem foot_execVfldPresent {m : Nat} {z t : State} (hs : 0x72280100a5ea4f80 ||| m = m) (h : Foot m z t) (a0 : _) :
    OutFoot m z (execVfldPresent a0 t) := by
  refine OutFoot.step (m := 0x72280100a5ea4f80) ?_ hs h
  clear h hs
  have h := Foot.refl 0x72280100a5ea4f80 t
  unfold execVfldPresent
  repeat' first
    | with_reducible assumption
    | (intro x; first | clear_value x | skip)
    | lift_lets
    | with_reducible refine foot_regionRefresh rfl ?_ ..
    | with_reducible refine foot_modRegion rfl ?_ ..
    | with_reducible refine OutFoot.next ?_
    | split
    | dsimp only

theorem foot_execIsumMeasure {m : Nat} {z t : State} (hs : 0x72280100a5ea4f80 ||| m = m) (h : Foot m z t) (a0 : _) (a1 : _) :
    OutFoot m z (execIsumMeasure a0 a1 t) := by
  refine OutFoot.step (m := 0x72280100a5ea4f80) ?_ hs h
  clear h hs
  have h := Foot.refl 0x72280100a5ea4f80 t
  unfold execIsumMeasure
  repeat' first
    | with_reducible assumption
    | (intro x; first | (refine Foot.cut (P := Foot 0x72280100a5ea4f80 t x) ?_ ?_; rotate_left; subst x; rotate_left; intro hx; clear_value x) | clear_value x | skip)
    | lift_lets
    | with_reducible refine foot_regionRefresh rfl ?_ ..
    | with_reducible refine foot_modRegion rfl ?_ ..
    | with_reducible refine foot_setFld (blk_RG_STAT_ISUM ..) rfl ?_ ..
    | with_reducible refine foot_setFld (blk_RG_STAT_TRIPS ..) rfl ?_ ..
    | with_reducible refine foot_setFld (blk_RG_STAT_TRIPPED ..) rfl ?_ ..
    | with_reducible refine foot_setFlag (blk_RG_STAT_ISUM ..) rfl ?_ ..
    | with_reducible refine foot_setFlag (blk_RG_STAT_TRIPS ..) rfl ?_ ..
    | with_reducible refine foot_setFlag (blk_RG_STAT_TRIPPED ..) rfl ?_ ..
    | with_reducible refine foot_incSat (blk_RG_STAT_ISUM ..) rfl ?_ ..
    | with_reducible refine foot_incSat (blk_RG_STAT_TRIPS ..) rfl ?_ ..
    | with_reducible refine foot_incSat (blk_RG_STAT_TRIPPED ..) rfl ?_ ..
    | with_reducible apply OutFoot.ite
    | with_reducible refine OutFoot.next ?_
    | split
    | dsimp only

theorem foot_rgStart {m : Nat} {z t : State} (hs : 0x72280100a5ea4f80 ||| m = m) (h : Foot m z t) (a0 : _) :
    Foot m z (State.rgStart a0 t) := by
  refine Foot.step (m := 0x72280100a5ea4f80) ?_ hs h
  clear h hs
  have h := Foot.refl 0x72280100a5ea4f80 t
  unfold State.rgStart
  repeat' first
    | with_reducible assumption
    | (intro x; first | (refine Foot.cut (P := Foot 0x72280100a5ea4f80 t x) ?_ ?_; rotate_left; subst x; rotate_left; intro hx; clear_value x) | clear_value x | skip)
    | lift_lets
    | with_reducible refine foot_regionRefresh rfl ?_ ..
    | with_reducible refine foot_modRegion rfl ?_ ..
    | with_reducible refine foot_setFlag (blk_RG_STAT_TRIPPED ..) rfl ?_ ..
    | with_reducible apply Foot.ite
    | split
    | dsimp only

theorem foot_rgCtrlWrite {m : Nat} {z t : State} (hs : 0x72280100a5ea4f80 ||| m = m) (h : Foot m z t) (a0 : _) (a1 : _) :
    Foot m z (State.rgCtrlWrite a0 a1 t) := by
  refine Foot.step (m := 0x72280100a5ea4f80) ?_ hs h
  clear h hs
  have h := Foot.refl 0x72280100a5ea4f80 t
  unfold State.rgCtrlWrite
  repeat' first
    | with_reducible assumption
    | (intro x; first | (refine Foot.cut (P := Foot 0x72280100a5ea4f80 t x) ?_ ?_; rotate_left; subst x; rotate_left; intro hx; clear_value x) | clear_value x | skip)
    | lift_lets
    | with_reducible refine foot_rgStart rfl ?_ ..
    | with_reducible refine foot_modRegion rfl ?_ ..
    | with_reducible apply Foot.ite
    | split
    | dsimp only

theorem foot_execRegionRestart {m : Nat} {z t : State} (hs : 0x72280100a5ea4f80 ||| m = m) (h : Foot m z t) (a0 : _) (a1 : _) (a2 : _) :
    OutFoot m z (execRegionRestart a0 a1 a2 t) := by
  refine OutFoot.step (m := 0x72280100a5ea4f80) ?_ hs h
  clear h hs
  have h := Foot.refl 0x72280100a5ea4f80 t
  unfold execRegionRestart
  repeat' first
    | with_reducible assumption
    | (intro x; first | clear_value x | skip)
    | lift_lets
    | with_reducible refine foot_onDie rfl (fun _ _ => ?_) ?_ ..
    | with_reducible refine foot_rgCtrlWrite rfl ?_ ..
    | with_reducible refine OutFoot.next ?_
    | split
    | dsimp only

theorem foot_quadEdge {m : Nat} {z t : State} (hs : 0x200000 ||| m = m) (h : Foot m z t) (a0 : _) :
    Foot m z (State.quadEdge a0 t) := by
  refine Foot.step (m := 0x200000) ?_ hs h
  clear h hs
  have h := Foot.refl 0x200000 t
  unfold State.quadEdge
  repeat' first
    | with_reducible assumption
    | (intro x; first
        | (refine Foot.cut (P := Foot 0x200000 t x) ?_ ?_; rotate_left; subst x; rotate_left; intro hx; clear_value x)
        | (refine Foot.cut (P := PairFoot 0x200000 t x) ?_ ?_; rotate_left; subst x; rotate_left; intro hx; clear_value x)
        | (refine Foot.cut (P := OptFoot 0x200000 t x) ?_ ?_; rotate_left; subst x; rotate_left; intro hx; clear_value x)
        | (have hf := x.programmed; clear hf)
        | clear_value x
        | skip)
    | lift_lets
    | with_reducible refine foot_modChan rfl ?_ ..
    | with_reducible refine Foot.foldl (fun _ _ _ => ?_) ?_
    | with_reducible refine PairFoot.foldl (fun _ _ _ => ?_) ?_
    | with_reducible apply Foot.ite
    | with_reducible apply PairFoot.ite
    | with_reducible apply OptFoot.ite
    | with_reducible apply OutFoot.ite
    | with_reducible apply ExFoot.ite
    | with_reducible exact ExFoot.error
    | with_reducible refine ExFoot.ok ?_
    | with_reducible refine PairFoot.forL (fun _ _ _ => ?_) ?_
    | with_reducible refine PairFoot.forN (fun _ _ _ => ?_) ?_
    | with_reducible refine OptFoot.some ?_
    | with_reducible exact OptFoot.none
    | with_reducible refine OutFoot.next ?_
    | with_reducible refine OptFoot.getD ?_ ?_
    | with_reducible refine PairFoot.snd ?_
    | with_reducible exact PairFoot.out (by assumption)
    | with_reducible refine PairFoot.eq (by assumption) ?_
    | with_reducible refine OptFoot.eq (by assumption) ?_
    | with_reducible refine ExFoot.eq (by assumption) ?_
    | ((with_reducible refine Foot.lit ?_ rfl rfl ?_ ?_ ?_ ?_ ?_ ?_); rotate_left; rfl; rfl; rfl; rfl; (first | exact Nat.le_refl _ | exact Nat.le_succ _); (constructor <;> first | with_reducible exact Kept.same | exact Kept.masked rfl); (first | with_reducible assumption | with_reducible refine foot_modChan rfl ?_ .. | with_reducible refine Foot.foldl (fun _ _ _ => ?_) ?_ | with_reducible refine PairFoot.foldl (fun _ _ _ => ?_) ?_ | with_reducible apply Foot.ite | with_reducible apply PairFoot.ite | with_reducible apply OptFoot.ite | with_reducible apply OutFoot.ite | with_reducible apply ExFoot.ite | with_reducible exact ExFoot.error | with_reducible refine ExFoot.ok ?_ | with_reducible refine PairFoot.forL (fun _ _ _ => ?_) ?_ | with_reducible refine PairFoot.forN (fun _ _ _ => ?_) ?_ | with_reducible refine OptFoot.some ?_ | with_reducible exact OptFoot.none | with_reducible refine OutFoot.next ?_ | with_reducible refine OptFoot.getD ?_ ?_ | with_reducible refine PairFoot.snd ?_))
    | split
    | with_reducible refine PairFoot.mk ?_
    | dsimp only

theorem foot_chanPin {m : Nat} {z t : State} (hs : 0x72290100a6fa4f88 ||| m = m) (h : Foot m z t) (a0 : _) (a1 : _) :
    Foot m z (State.chanPin a0 a1 t) := by
  refine Foot.step (m := 0x72290100a6fa4f88) ?_ hs h
  clear h hs
  have h := Foot.refl 0x72290100a6fa4f88 t
  unfold State.chanPin
  repeat' first
    | with_reducible assumption
    | (intro x; first
        | (refine Foot.cut (P := Foot 0x72290100a6fa4f88 t x) ?_ ?_; rotate_left; subst x; rotate_left; intro hx; clear_value x)
        | (refine Foot.cut (P := PairFoot 0x72290100a6fa4f88 t x) ?_ ?_; rotate_left; subst x; rotate_left; intro hx; clear_value x)
        | (refine Foot.cut (P := OptFoot 0x72290100a6fa4f88 t x) ?_ ?_; rotate_left; subst x; rotate_left; intro hx; clear_value x)
        | (have hf := x.programmed; clear hf)
        | clear_value x
        | skip)
    | lift_lets
    | with_reducible refine foot_ilmEval rfl ?_ ..
    | with_reducible refine foot_modChan rfl ?_ ..
    | with_reducible refine foot_debounce rfl ?_ ..
    | with_reducible refine foot_quadEdge rfl ?_ ..
    | with_reducible refine Foot.foldl (fun _ _ _ => ?_) ?_
    | with_reducible refine PairFoot.foldl (fun _ _ _ => ?_) ?_
    | with_reducible apply Foot.ite
    | with_reducible apply PairFoot.ite
    | with_reducible apply OptFoot.ite
    | with_reducible apply OutFoot.ite
    | with_reducible apply ExFoot.ite
    | with_reducible exact ExFoot.error
    | with_reducible refine ExFoot.ok ?_
    | with_reducible refine PairFoot.forL (fun _ _ _ => ?_) ?_
    | with_reducible refine PairFoot.forN (fun _ _ _ => ?_) ?_
    | with_reducible refine OptFoot.some ?_
    | with_reducible exact OptFoot.none
    | with_reducible refine OutFoot.next ?_
    | with_reducible refine OptFoot.getD ?_ ?_
    | with_reducible refine PairFoot.snd ?_
    | with_reducible exact PairFoot.out (by assumption)
    | with_reducible refine PairFoot.eq (by assumption) ?_
    | with_reducible refine OptFoot.eq (by assumption) ?_
    | with_reducible refine ExFoot.eq (by assumption) ?_
    | ((with_reducible refine Foot.lit ?_ rfl rfl ?_ ?_ ?_ ?_ ?_ ?_); rotate_left; rfl; rfl; rfl; rfl; (first | exact Nat.le_refl _ | exact Nat.le_succ _); (constructor <;> first | with_reducible exact Kept.same | exact Kept.masked rfl); (first | with_reducible assumption | with_reducible refine foot_ilmEval rfl ?_ .. | with_reducible refine foot_modChan rfl ?_ .. | with_reducible refine foot_debounce rfl ?_ .. | with_reducible refine foot_quadEdge rfl ?_ .. | with_reducible refine Foot.foldl (fun _ _ _ => ?_) ?_ | with_reducible refine PairFoot.foldl (fun _ _ _ => ?_) ?_ | with_reducible apply Foot.ite | with_reducible apply PairFoot.ite | with_reducible apply OptFoot.ite | with_reducible apply OutFoot.ite | with_reducible apply ExFoot.ite | with_reducible exact ExFoot.error | with_reducible refine ExFoot.ok ?_ | with_reducible refine PairFoot.forL (fun _ _ _ => ?_) ?_ | with_reducible refine PairFoot.forN (fun _ _ _ => ?_) ?_ | with_reducible refine OptFoot.some ?_ | with_reducible exact OptFoot.none | with_reducible refine OutFoot.next ?_ | with_reducible refine OptFoot.getD ?_ ?_ | with_reducible refine PairFoot.snd ?_))
    | split
    | with_reducible refine PairFoot.mk ?_
    | dsimp only

theorem foot_ilkFilter {m : Nat} {z t : State} (hs : 0x72290100a6ea4f80 ||| m = m) (h : Foot m z t) (a0 : _) (a1 : _) :
    Foot m z (State.ilkFilter a0 a1 t) := by
  refine Foot.step (m := 0x72290100a6ea4f80) ?_ hs h
  clear h hs
  have h := Foot.refl 0x72290100a6ea4f80 t
  unfold State.ilkFilter
  repeat' first
    | with_reducible assumption
    | (intro x; first | clear_value x | skip)
    | lift_lets
    | with_reducible refine foot_ilmEval rfl ?_ ..
    | with_reducible apply Foot.ite
    | ((with_reducible refine Foot.lit ?_ rfl rfl ?_ ?_ ?_ ?_ ?_ ?_); rotate_left; rfl; rfl; rfl; rfl; (first | exact Nat.le_refl _ | exact Nat.le_succ _); (constructor <;> first | with_reducible exact Kept.same | exact Kept.masked rfl); (first | with_reducible assumption | with_reducible refine foot_ilmEval rfl ?_ .. | with_reducible apply Foot.ite))
    | split
    | dsimp only

theorem foot_ilkPin {m : Nat} {z t : State} (hs : 0x72290100a6ea4f88 ||| m = m) (h : Foot m z t) (a0 : _) (a1 : _) :
    Foot m z (State.ilkPin a0 a1 t) := by
  refine Foot.step (m := 0x72290100a6ea4f88) ?_ hs h
  clear h hs
  have h := Foot.refl 0x72290100a6ea4f88 t
  unfold State.ilkPin
  repeat' first
    | with_reducible assumption
    | (intro x; first | clear_value x | skip)
    | lift_lets
    | with_reducible refine foot_setBit rfl ?_ ..
    | with_reducible refine foot_ilkFilter rfl ?_ ..
    | ((with_reducible refine Foot.lit ?_ rfl rfl ?_ ?_ ?_ ?_ ?_ ?_); rotate_left; rfl; rfl; rfl; rfl; (first | exact Nat.le_refl _ | exact Nat.le_succ _); (constructor <;> first | with_reducible exact Kept.same | exact Kept.masked rfl); (first | with_reducible assumption | with_reducible refine foot_setBit rfl ?_ .. | with_reducible refine foot_ilkFilter rfl ?_ ..))
    | split
    | dsimp only

theorem foot_execIlmInputChange {m : Nat} {z t : State} (hs : 0x72290100a6fa4f88 ||| m = m) (h : Foot m z t) (a0 : _) (a1 : _) :
    OutFoot m z (execIlmInputChange a0 a1 t) := by
  refine OutFoot.step (m := 0x72290100a6fa4f88) ?_ hs h
  clear h hs
  have h := Foot.refl 0x72290100a6fa4f88 t
  unfold execIlmInputChange
  repeat' first
    | with_reducible assumption
    | (intro x; first | (refine Foot.cut (P := Foot 0x72290100a6fa4f88 t x) ?_ ?_; rotate_left; subst x; rotate_left; intro hx; clear_value x) | clear_value x | skip)
    | lift_lets
    | with_reducible refine foot_ilmEval rfl ?_ ..
    | with_reducible refine foot_setBit rfl ?_ ..
    | with_reducible refine foot_lgEdge rfl ?_ ..
    | with_reducible refine foot_ilkPin rfl ?_ ..
    | with_reducible refine foot_chanPin rfl ?_ ..
    | with_reducible apply Foot.ite
    | with_reducible refine OutFoot.next ?_
    | ((with_reducible refine Foot.lit ?_ rfl rfl ?_ ?_ ?_ ?_ ?_ ?_); rotate_left; rfl; rfl; rfl; rfl; (first | exact Nat.le_refl _ | exact Nat.le_succ _); (constructor <;> first | with_reducible exact Kept.same | exact Kept.masked rfl); (first | with_reducible assumption | with_reducible refine foot_ilmEval rfl ?_ .. | with_reducible refine foot_setBit rfl ?_ .. | with_reducible refine foot_lgEdge rfl ?_ .. | with_reducible refine foot_ilkPin rfl ?_ .. | with_reducible refine foot_chanPin rfl ?_ .. | with_reducible apply Foot.ite | with_reducible refine OutFoot.next ?_))
    | split
    | dsimp only

theorem foot_execIlmFilterExpiry {m : Nat} {z t : State} (hs : 0x72290100a6ea4f80 ||| m = m) (h : Foot m z t) (a0 : _) :
    OutFoot m z (execIlmFilterExpiry a0 t) := by
  refine OutFoot.step (m := 0x72290100a6ea4f80) ?_ hs h
  clear h hs
  have h := Foot.refl 0x72290100a6ea4f80 t
  unfold execIlmFilterExpiry
  repeat' first
    | with_reducible assumption
    | (intro x; first
        | (refine Foot.cut (P := Foot 0x72290100a6ea4f80 t x) ?_ ?_; rotate_left; subst x; rotate_left; intro hx; clear_value x)
        | (refine Foot.cut (P := PairFoot 0x72290100a6ea4f80 t x) ?_ ?_; rotate_left; subst x; rotate_left; intro hx; clear_value x)
        | (refine Foot.cut (P := OptFoot 0x72290100a6ea4f80 t x) ?_ ?_; rotate_left; subst x; rotate_left; intro hx; clear_value x)
        | (have hf := x.programmed; clear hf)
        | clear_value x
        | skip)
    | lift_lets
    | with_reducible refine foot_ilmEval rfl ?_ ..
    | with_reducible refine foot_modChan rfl ?_ ..
    | with_reducible refine Foot.foldl (fun _ _ _ => ?_) ?_
    | with_reducible refine PairFoot.foldl (fun _ _ _ => ?_) ?_
    | with_reducible apply Foot.ite
    | with_reducible apply PairFoot.ite
    | with_reducible apply OptFoot.ite
    | with_reducible apply OutFoot.ite
    | with_reducible apply ExFoot.ite
    | with_reducible exact ExFoot.error
    | with_reducible refine ExFoot.ok ?_
    | with_reducible refine PairFoot.forL (fun _ _ _ => ?_) ?_
    | with_reducible refine PairFoot.forN (fun _ _ _ => ?_) ?_
    | with_reducible refine OptFoot.some ?_
    | with_reducible exact OptFoot.none
    | with_reducible refine OutFoot.next ?_
    | with_reducible refine OptFoot.getD ?_ ?_
    | with_reducible refine PairFoot.snd ?_
    | with_reducible exact PairFoot.out (by assumption)
    | with_reducible refine PairFoot.eq (by assumption) ?_
    | with_reducible refine OptFoot.eq (by assumption) ?_
    | with_reducible refine ExFoot.eq (by assumption) ?_
    | ((with_reducible refine Foot.lit ?_ rfl rfl ?_ ?_ ?_ ?_ ?_ ?_); rotate_left; rfl; rfl; rfl; rfl; (first | exact Nat.le_refl _ | exact Nat.le_succ _); (constructor <;> first | with_reducible exact Kept.same | exact Kept.masked rfl); (first | with_reducible assumption | with_reducible refine foot_ilmEval rfl ?_ .. | with_reducible refine foot_modChan rfl ?_ .. | with_reducible refine Foot.foldl (fun _ _ _ => ?_) ?_ | with_reducible refine PairFoot.foldl (fun _ _ _ => ?_) ?_ | with_reducible apply Foot.ite | with_reducible apply PairFoot.ite | with_reducible apply OptFoot.ite | with_reducible apply OutFoot.ite | with_reducible apply ExFoot.ite | with_reducible exact ExFoot.error | with_reducible refine ExFoot.ok ?_ | with_reducible refine PairFoot.forL (fun _ _ _ => ?_) ?_ | with_reducible refine PairFoot.forN (fun _ _ _ => ?_) ?_ | with_reducible refine OptFoot.some ?_ | with_reducible exact OptFoot.none | with_reducible refine OutFoot.next ?_ | with_reducible refine OptFoot.getD ?_ ?_ | with_reducible refine PairFoot.snd ?_))
    | split
    | with_reducible refine PairFoot.mk ?_
    | dsimp only

theorem foot_execQerr {m : Nat} {z t : State} (hs : 0x72280100a4ea4f80 ||| m = m) (h : Foot m z t) (a0 : _) :
    OutFoot m z (execQerr a0 t) := by
  refine OutFoot.step (m := 0x72280100a4ea4f80) ?_ hs h
  clear h hs
  have h := Foot.refl 0x72280100a4ea4f80 t
  unfold execQerr
  repeat' first
    | with_reducible assumption
    | (intro x; first | clear_value x | skip)
    | lift_lets
    | with_reducible refine foot_raise rfl ?_ ..
    | with_reducible refine foot_setFlag (blk_AX_STAT_QERR ..) rfl ?_ ..
    | with_reducible apply OutFoot.ite
    | with_reducible refine OutFoot.next ?_
    | split
    | dsimp only

theorem foot_dieIsolate {m : Nat} {z t : State} (hs : 0x72290100a6ea4f80 ||| m = m) (h : Foot m z t) (a0 : _) :
    Foot m z (State.dieIsolate a0 t) := by
  refine Foot.step (m := 0x72290100a6ea4f80) ?_ hs h
  clear h hs
  have h := Foot.refl 0x72290100a6ea4f80 t
  unfold State.dieIsolate
  repeat' first
    | with_reducible assumption
    | (intro x; first | (refine Foot.cut (P := Foot 0x72290100a6ea4f80 t x) ?_ ?_; rotate_left; subst x; rotate_left; intro hx; clear_value x) | clear_value x | skip)
    | lift_lets
    | with_reducible refine foot_axInhibit rfl ?_ ..
    | with_reducible refine foot_ilmEval rfl ?_ ..
    | with_reducible refine foot_dieRefresh rfl ?_ ..
    | with_reducible refine foot_raiseCond rfl ?_ ..
    | with_reducible refine foot_setFlag (blk_DIE_STAT_ISOLATED ..) rfl ?_ ..
    | with_reducible refine Foot.forN (fun _ _ _ => ?_) ?_
    | split
    | dsimp only

theorem foot_execCouplerClockLoss {m : Nat} {z t : State} (hs : 0x72290300a6ea4f80 ||| m = m) (h : Foot m z t) (a0 : _) :
    OutFoot m z (execCouplerClockLoss a0 t) := by
  refine OutFoot.step (m := 0x72290300a6ea4f80) ?_ hs h
  clear h hs
  have h := Foot.refl 0x72290300a6ea4f80 t
  unfold execCouplerClockLoss
  repeat' first
    | with_reducible assumption
    | (intro x; first | (refine Foot.cut (P := Foot 0x72290300a6ea4f80 t x) ?_ ?_; rotate_left; subst x; rotate_left; intro hx; clear_value x) | clear_value x | skip)
    | lift_lets
    | with_reducible refine foot_dieIsolate rfl ?_ ..
    | with_reducible refine foot_setFbit (blk_CLK_FLT_FD_CLK_LOSS ..) rfl ?_ ..
    | with_reducible refine foot_setFbit (blk_CLK_STAT_FD_CLK_OK ..) rfl ?_ ..
    | with_reducible refine OutFoot.next ?_
    | split
    | dsimp only

theorem foot_execCouplerClockReturn {m : Nat} {z t : State} (hs : 0x20000000000 ||| m = m) (h : Foot m z t) (a0 : _) :
    OutFoot m z (execCouplerClockReturn a0 t) := by
  refine OutFoot.step (m := 0x20000000000) ?_ hs h
  clear h hs
  have h := Foot.refl 0x20000000000 t
  unfold execCouplerClockReturn
  repeat' first
    | with_reducible assumption
    | (intro x; first | clear_value x | skip)
    | lift_lets
    | with_reducible refine foot_setFbit (blk_CLK_STAT_FD_CLK_OK ..) rfl ?_ ..
    | with_reducible refine OutFoot.next ?_
    | split
    | dsimp only

theorem foot_execViso5Fail {m : Nat} {z t : State} (hs : 0x72290100a6ea4f80 ||| m = m) (h : Foot m z t) (a0 : _) :
    OutFoot m z (execViso5Fail a0 t) := by
  refine OutFoot.step (m := 0x72290100a6ea4f80) ?_ hs h
  clear h hs
  have h := Foot.refl 0x72290100a6ea4f80 t
  unfold execViso5Fail
  repeat' first
    | with_reducible assumption
    | (intro x; first | clear_value x | skip)
    | lift_lets
    | with_reducible refine foot_modDie rfl ?_ ..
    | with_reducible refine foot_dieIsolate rfl ?_ ..
    | with_reducible refine OutFoot.next ?_
    | split
    | dsimp only

theorem foot_execViso5Return {m : Nat} {z t : State} (hs : 0x72280100a5ea4f80 ||| m = m) (h : Foot m z t) (a0 : _) (a1 : _) (a2 : _) :
    OutFoot m z (execViso5Return a0 a1 a2 t) := by
  refine OutFoot.step (m := 0x72280100a5ea4f80) ?_ hs h
  clear h hs
  have h := Foot.refl 0x72280100a5ea4f80 t
  unfold execViso5Return
  repeat' first
    | with_reducible assumption
    | (intro x; first | (refine Foot.cut (P := Foot 0x72280100a5ea4f80 t x) ?_ ?_; rotate_left; subst x; rotate_left; intro hx; clear_value x) | clear_value x | skip)
    | lift_lets
    | with_reducible refine foot_modDie rfl ?_ ..
    | with_reducible refine foot_regionRefresh rfl ?_ ..
    | with_reducible refine foot_modRegion rfl ?_ ..
    | with_reducible refine OutFoot.next ?_
    | split
    | dsimp only

theorem foot_execDieTempMeasure {m : Nat} {z t : State} (hs : 0x72290100a6ea4f80 ||| m = m) (h : Foot m z t) (a0 : _) (a1 : _) :
    OutFoot m z (execDieTempMeasure a0 a1 t) := by
  refine OutFoot.step (m := 0x72290100a6ea4f80) ?_ hs h
  clear h hs
  have h := Foot.refl 0x72290100a6ea4f80 t
  unfold execDieTempMeasure
  repeat' first
    | with_reducible assumption
    | (intro x; first | (refine Foot.cut (P := Foot 0x72290100a6ea4f80 t x) ?_ ?_; rotate_left; subst x; rotate_left; intro hx; clear_value x) | clear_value x | skip)
    | lift_lets
    | with_reducible refine foot_axInhibit rfl ?_ ..
    | with_reducible refine foot_dieRefresh rfl ?_ ..
    | with_reducible refine foot_modDie rfl ?_ ..
    | with_reducible refine foot_staleDie rfl ?_ ..
    | with_reducible refine foot_raiseCond rfl ?_ ..
    | with_reducible refine foot_setFlag (blk_DIE_STAT_TEMP ..) rfl ?_ ..
    | with_reducible refine foot_setFlag (blk_DIE_STAT_THERM_SD ..) rfl ?_ ..
    | with_reducible refine foot_setSFld (blk_DIE_STAT_TEMP ..) rfl ?_ ..
    | with_reducible refine foot_setSFld (blk_DIE_STAT_THERM_SD ..) rfl ?_ ..
    | with_reducible refine Foot.forN (fun _ _ _ => ?_) ?_
    | with_reducible apply OutFoot.ite
    | with_reducible refine OutFoot.next ?_
    | split
    | dsimp only

theorem foot_execMainPllUnlock {m : Nat} {z t : State} (hs : 0x72280300a4ea4f80 ||| m = m) (h : Foot m z t) :
    OutFoot m z (execMainPllUnlock t) := by
  refine OutFoot.step (m := 0x72280300a4ea4f80) ?_ hs h
  clear h hs
  have h := Foot.refl 0x72280300a4ea4f80 t
  unfold execMainPllUnlock
  repeat' first
    | with_reducible assumption
    | (intro x; first | clear_value x | skip)
    | lift_lets
    | with_reducible refine foot_raise rfl ?_ ..
    | with_reducible refine foot_setFlag (blk_CLK_STAT_MAIN_LOCK ..) rfl ?_ ..
    | with_reducible refine foot_setFlag (blk_CLK_FLT_MAIN_UNLOCK ..) rfl ?_ ..
    | with_reducible refine OutFoot.next ?_
    | split
    | dsimp only

theorem foot_execSerdesPllUnlock {m : Nat} {z t : State} (hs : 0x72280300a4ea4f80 ||| m = m) (h : Foot m z t) (a0 : _) :
    OutFoot m z (execSerdesPllUnlock a0 t) := by
  refine OutFoot.step (m := 0x72280300a4ea4f80) ?_ hs h
  clear h hs
  have h := Foot.refl 0x72280300a4ea4f80 t
  unfold execSerdesPllUnlock
  repeat' first
    | with_reducible assumption
    | (intro x; first | (refine Foot.cut (P := Foot 0x72280300a4ea4f80 t x) ?_ ?_; rotate_left; subst x; rotate_left; intro hx; clear_value x) | clear_value x | skip)
    | lift_lets
    | with_reducible refine foot_raise rfl ?_ ..
    | with_reducible refine foot_setFlag (blk_CLK_FLT_SER_UNLOCK ..) rfl ?_ ..
    | with_reducible refine foot_setFlag (blk_CLK_STAT_SER_LOCK_NET ..) rfl ?_ ..
    | with_reducible refine foot_setFlag (blk_CLK_STAT_SER_LOCK_SL ..) rfl ?_ ..
    | with_reducible refine foot_setFlag (blk_CLK_STAT_SER_LOCK_PLNK ..) rfl ?_ ..
    | with_reducible refine foot_setFlag (blk_CLK_STAT_SER_LOCK_PCIE ..) rfl ?_ ..
    | with_reducible refine Foot.forN (fun _ _ _ => ?_) ?_
    | with_reducible refine OutFoot.next ?_
    | split
    | dsimp only

theorem foot_execClockCrosscheck {m : Nat} {z t : State} (hs : 0x72290300a6ea4f80 ||| m = m) (h : Foot m z t) (a0 : _) :
    OutFoot m z (execClockCrosscheck a0 t) := by
  refine OutFoot.step (m := 0x72290300a6ea4f80) ?_ hs h
  clear h hs
  have h := Foot.refl 0x72290300a6ea4f80 t
  unfold execClockCrosscheck
  repeat' first
    | with_reducible assumption
    | (intro x; first
        | (refine Foot.cut (P := Foot 0x72290300a6ea4f80 t x) ?_ ?_; rotate_left; subst x; rotate_left; intro hx; clear_value x)
        | (refine Foot.cut (P := PairFoot 0x72290300a6ea4f80 t x) ?_ ?_; rotate_left; subst x; rotate_left; intro hx; clear_value x)
        | (refine Foot.cut (P := OptFoot 0x72290300a6ea4f80 t x) ?_ ?_; rotate_left; subst x; rotate_left; intro hx; clear_value x)
        | (have hf := x.programmed; clear hf)
        | clear_value x
        | skip)
    | lift_lets
    | with_reducible refine foot_trip rfl ?_ ..
    | with_reducible refine foot_setFld (blk_CLK_STAT_XCHK_OK ..) rfl ?_ ..
    | with_reducible refine foot_setFld (blk_CLK_XCHK_FAB_COUNT ..) rfl ?_ ..
    | with_reducible refine foot_setFld (blk_CLK_FLT_XCHK_FAIL ..) rfl ?_ ..
    | with_reducible refine foot_setFlag (blk_CLK_STAT_XCHK_OK ..) rfl ?_ ..
    | with_reducible refine foot_setFlag (blk_CLK_XCHK_FAB_COUNT ..) rfl ?_ ..
    | with_reducible refine foot_setFlag (blk_CLK_FLT_XCHK_FAIL ..) rfl ?_ ..
    | with_reducible refine Foot.foldl (fun _ _ _ => ?_) ?_
    | with_reducible refine PairFoot.foldl (fun _ _ _ => ?_) ?_
    | with_reducible apply Foot.ite
    | with_reducible apply PairFoot.ite
    | with_reducible apply OptFoot.ite
    | with_reducible apply OutFoot.ite
    | with_reducible apply ExFoot.ite
    | with_reducible exact ExFoot.error
    | with_reducible refine ExFoot.ok ?_
    | with_reducible refine PairFoot.forL (fun _ _ _ => ?_) ?_
    | with_reducible refine PairFoot.forN (fun _ _ _ => ?_) ?_
    | with_reducible refine OptFoot.some ?_
    | with_reducible exact OptFoot.none
    | with_reducible refine OutFoot.next ?_
    | with_reducible refine OptFoot.getD ?_ ?_
    | with_reducible refine PairFoot.snd ?_
    | with_reducible exact PairFoot.out (by assumption)
    | with_reducible refine PairFoot.eq (by assumption) ?_
    | with_reducible refine OptFoot.eq (by assumption) ?_
    | with_reducible refine ExFoot.eq (by assumption) ?_
    | ((with_reducible refine Foot.lit ?_ rfl rfl ?_ ?_ ?_ ?_ ?_ ?_); rotate_left; rfl; rfl; rfl; rfl; (first | exact Nat.le_refl _ | exact Nat.le_succ _); (constructor <;> first | with_reducible exact Kept.same | exact Kept.masked rfl); (first | with_reducible assumption | with_reducible refine foot_trip rfl ?_ .. | with_reducible refine foot_setFld (blk_CLK_STAT_XCHK_OK ..) rfl ?_ .. | with_reducible refine foot_setFld (blk_CLK_XCHK_FAB_COUNT ..) rfl ?_ .. | with_reducible refine foot_setFld (blk_CLK_FLT_XCHK_FAIL ..) rfl ?_ .. | with_reducible refine foot_setFlag (blk_CLK_STAT_XCHK_OK ..) rfl ?_ .. | with_reducible refine foot_setFlag (blk_CLK_XCHK_FAB_COUNT ..) rfl ?_ .. | with_reducible refine foot_setFlag (blk_CLK_FLT_XCHK_FAIL ..) rfl ?_ .. | with_reducible refine Foot.foldl (fun _ _ _ => ?_) ?_ | with_reducible refine PairFoot.foldl (fun _ _ _ => ?_) ?_ | with_reducible apply Foot.ite | with_reducible apply PairFoot.ite | with_reducible apply OptFoot.ite | with_reducible apply OutFoot.ite | with_reducible apply ExFoot.ite | with_reducible exact ExFoot.error | with_reducible refine ExFoot.ok ?_ | with_reducible refine PairFoot.forL (fun _ _ _ => ?_) ?_ | with_reducible refine PairFoot.forN (fun _ _ _ => ?_) ?_ | with_reducible refine OptFoot.some ?_ | with_reducible exact OptFoot.none | with_reducible refine OutFoot.next ?_ | with_reducible refine OptFoot.getD ?_ ?_ | with_reducible refine PairFoot.snd ?_))
    | split
    | with_reducible refine PairFoot.mk ?_
    | dsimp only

theorem foot_lgCount {m : Nat} {z t : State} (hs : 0x20000000000 ||| m = m) (h : Foot m z t) (a0 : _) :
    Foot m z (State.lgCount a0 t) := by
  refine Foot.step (m := 0x20000000000) ?_ hs h
  clear h hs
  have h := Foot.refl 0x20000000000 t
  unfold State.lgCount
  repeat' first
    | with_reducible assumption
    | (intro x; first | clear_value x | skip)
    | lift_lets
    | with_reducible refine foot_setFld (blk_LG_STAT_MEMBERS ..) rfl ?_ ..
    | split
    | dsimp only

theorem foot_lgLeave {m : Nat} {z t : State} (hs : 0x20000200000 ||| m = m) (h : Foot m z t) (a0 : _) :
    Foot m z (State.lgLeave a0 t) := by
  refine Foot.step (m := 0x20000200000) ?_ hs h
  clear h hs
  have h := Foot.refl 0x20000200000 t
  unfold State.lgLeave
  repeat' first
    | with_reducible assumption
    | (intro x; first
        | (refine Foot.cut (P := Foot 0x20000200000 t x) ?_ ?_; rotate_left; subst x; rotate_left; intro hx; clear_value x)
        | (refine Foot.cut (P := PairFoot 0x20000200000 t x) ?_ ?_; rotate_left; subst x; rotate_left; intro hx; clear_value x)
        | (refine Foot.cut (P := OptFoot 0x20000200000 t x) ?_ ?_; rotate_left; subst x; rotate_left; intro hx; clear_value x)
        | (have hf := x.programmed; clear hf)
        | clear_value x
        | skip)
    | lift_lets
    | with_reducible refine foot_modChan rfl ?_ ..
    | with_reducible refine foot_lgCount rfl ?_ ..
    | with_reducible refine Foot.foldl (fun _ _ _ => ?_) ?_
    | with_reducible refine PairFoot.foldl (fun _ _ _ => ?_) ?_
    | with_reducible apply Foot.ite
    | with_reducible apply PairFoot.ite
    | with_reducible apply OptFoot.ite
    | with_reducible apply OutFoot.ite
    | with_reducible apply ExFoot.ite
    | with_reducible exact ExFoot.error
    | with_reducible refine ExFoot.ok ?_
    | with_reducible refine PairFoot.forL (fun _ _ _ => ?_) ?_
    | with_reducible refine PairFoot.forN (fun _ _ _ => ?_) ?_
    | with_reducible refine OptFoot.some ?_
    | with_reducible exact OptFoot.none
    | with_reducible refine OutFoot.next ?_
    | with_reducible refine OptFoot.getD ?_ ?_
    | with_reducible refine PairFoot.snd ?_
    | with_reducible exact PairFoot.out (by assumption)
    | with_reducible refine PairFoot.eq (by assumption) ?_
    | with_reducible refine OptFoot.eq (by assumption) ?_
    | with_reducible refine ExFoot.eq (by assumption) ?_
    | ((with_reducible refine Foot.lit ?_ rfl rfl ?_ ?_ ?_ ?_ ?_ ?_); rotate_left; rfl; rfl; rfl; rfl; (first | exact Nat.le_refl _ | exact Nat.le_succ _); (constructor <;> first | with_reducible exact Kept.same | exact Kept.masked rfl); (first | with_reducible assumption | with_reducible refine foot_modChan rfl ?_ .. | with_reducible refine foot_lgCount rfl ?_ .. | with_reducible refine Foot.foldl (fun _ _ _ => ?_) ?_ | with_reducible refine PairFoot.foldl (fun _ _ _ => ?_) ?_ | with_reducible apply Foot.ite | with_reducible apply PairFoot.ite | with_reducible apply OptFoot.ite | with_reducible apply OutFoot.ite | with_reducible apply ExFoot.ite | with_reducible exact ExFoot.error | with_reducible refine ExFoot.ok ?_ | with_reducible refine PairFoot.forL (fun _ _ _ => ?_) ?_ | with_reducible refine PairFoot.forN (fun _ _ _ => ?_) ?_ | with_reducible refine OptFoot.some ?_ | with_reducible exact OptFoot.none | with_reducible refine OutFoot.next ?_ | with_reducible refine OptFoot.getD ?_ ?_ | with_reducible refine PairFoot.snd ?_))
    | split
    | with_reducible refine PairFoot.mk ?_
    | dsimp only

theorem foot_chLgWrite {m : Nat} {z t : State} (hs : 0x20000200000 ||| m = m) (h : Foot m z t) (a0 : _) (a1 : _) :
    Foot m z (State.chLgWrite a0 a1 t) := by
  refine Foot.step (m := 0x20000200000) ?_ hs h
  clear h hs
  have h := Foot.refl 0x20000200000 t
  unfold State.chLgWrite
  repeat' first
    | with_reducible assumption
    | (intro x; first
        | (refine Foot.cut (P := Foot 0x20000200000 t x) ?_ ?_; rotate_left; subst x; rotate_left; intro hx; clear_value x)
        | (refine Foot.cut (P := PairFoot 0x20000200000 t x) ?_ ?_; rotate_left; subst x; rotate_left; intro hx; clear_value x)
        | (refine Foot.cut (P := OptFoot 0x20000200000 t x) ?_ ?_; rotate_left; subst x; rotate_left; intro hx; clear_value x)
        | (have hf := x.programmed; clear hf)
        | clear_value x
        | skip)
    | lift_lets
    | with_reducible refine foot_modChan rfl ?_ ..
    | with_reducible refine foot_lgLeave rfl ?_ ..
    | with_reducible refine foot_lgCount rfl ?_ ..
    | with_reducible refine foot_plainWrite (blk_CH_LG_MEMB ..) rfl ?_ ..
    | with_reducible refine Foot.foldl (fun _ _ _ => ?_) ?_
    | with_reducible refine PairFoot.foldl (fun _ _ _ => ?_) ?_
    | with_reducible apply Foot.ite
    | with_reducible apply PairFoot.ite
    | with_reducible apply OptFoot.ite
    | with_reducible apply OutFoot.ite
    | with_reducible apply ExFoot.ite
    | with_reducible exact ExFoot.error
    | with_reducible refine ExFoot.ok ?_
    | with_reducible refine PairFoot.forL (fun _ _ _ => ?_) ?_
    | with_reducible refine PairFoot.forN (fun _ _ _ => ?_) ?_
    | with_reducible refine OptFoot.some ?_
    | with_reducible exact OptFoot.none
    | with_reducible refine OutFoot.next ?_
    | with_reducible refine OptFoot.getD ?_ ?_
    | with_reducible refine PairFoot.snd ?_
    | with_reducible exact PairFoot.out (by assumption)
    | with_reducible refine PairFoot.eq (by assumption) ?_
    | with_reducible refine OptFoot.eq (by assumption) ?_
    | with_reducible refine ExFoot.eq (by assumption) ?_
    | ((with_reducible refine Foot.lit ?_ rfl rfl ?_ ?_ ?_ ?_ ?_ ?_); rotate_left; rfl; rfl; rfl; rfl; (first | exact Nat.le_refl _ | exact Nat.le_succ _); (constructor <;> first | with_reducible exact Kept.same | exact Kept.masked rfl); (first | with_reducible assumption | with_reducible refine foot_modChan rfl ?_ .. | with_reducible refine foot_lgLeave rfl ?_ .. | with_reducible refine foot_lgCount rfl ?_ .. | with_reducible refine foot_plainWrite (blk_CH_LG_MEMB ..) rfl ?_ .. | with_reducible refine Foot.foldl (fun _ _ _ => ?_) ?_ | with_reducible refine PairFoot.foldl (fun _ _ _ => ?_) ?_ | with_reducible apply Foot.ite | with_reducible apply PairFoot.ite | with_reducible apply OptFoot.ite | with_reducible apply OutFoot.ite | with_reducible apply ExFoot.ite | with_reducible exact ExFoot.error | with_reducible refine ExFoot.ok ?_ | with_reducible refine PairFoot.forL (fun _ _ _ => ?_) ?_ | with_reducible refine PairFoot.forN (fun _ _ _ => ?_) ?_ | with_reducible refine OptFoot.some ?_ | with_reducible exact OptFoot.none | with_reducible refine OutFoot.next ?_ | with_reducible refine OptFoot.getD ?_ ?_ | with_reducible refine PairFoot.snd ?_))
    | split
    | with_reducible refine PairFoot.mk ?_
    | dsimp only

theorem foot_execChLgWrite {m : Nat} {z t : State} (hs : 0x20000200000 ||| m = m) (h : Foot m z t) (a0 : _) (a1 : _) (a2 : _) :
    OutFoot m z (execChLgWrite a0 a1 a2 t) := by
  refine OutFoot.step (m := 0x20000200000) ?_ hs h
  clear h hs
  have h := Foot.refl 0x20000200000 t
  unfold execChLgWrite
  repeat' first
    | with_reducible assumption
    | (intro x; first | clear_value x | skip)
    | lift_lets
    | with_reducible refine foot_chLgWrite rfl ?_ ..
    | with_reducible refine OutFoot.next ?_
    | split
    | dsimp only

theorem foot_lgCtrlWrite {m : Nat} {z t : State} (hs : 0xffffff00a4fa4f80 ||| m = m) (h : Foot m z t) (a0 : _) (a1 : _) :
    Foot m z (State.lgCtrlWrite a0 a1 t) := by
  refine Foot.step (m := 0xffffff00a4fa4f80) ?_ hs h
  clear h hs
  have h := Foot.refl 0xffffff00a4fa4f80 t
  unfold State.lgCtrlWrite
  repeat' first
    | with_reducible assumption
    | (intro x; first
        | (refine Foot.cut (P := Foot 0xffffff00a4fa4f80 t x) ?_ ?_; rotate_left; subst x; rotate_left; intro hx; clear_value x)
        | (refine Foot.cut (P := PairFoot 0xffffff00a4fa4f80 t x) ?_ ?_; rotate_left; subst x; rotate_left; intro hx; clear_value x)
        | (refine Foot.cut (P := OptFoot 0xffffff00a4fa4f80 t x) ?_ ?_; rotate_left; subst x; rotate_left; intro hx; clear_value x)
        | (have hf := x.programmed; clear hf)
        | clear_value x
        | skip)
    | lift_lets
    | with_reducible refine foot_modChan rfl ?_ ..
    | with_reducible refine foot_lgLeave rfl ?_ ..
    | with_reducible refine foot_lgCount rfl ?_ ..
    | with_reducible refine foot_raise rfl ?_ ..
    | with_reducible refine foot_modLg rfl ?_ ..
    | with_reducible refine foot_setFldAll rfl ?_ ..
    | with_reducible refine foot_setFld (blk_LG_STAT_ACTIVE ..) rfl ?_ ..
    | with_reducible refine foot_setFld (blk_LG_STAT_RETRIG_DROP ..) rfl ?_ ..
    | with_reducible refine foot_setFld (blk_LG_CTRL_EN ..) rfl ?_ ..
    | with_reducible refine foot_setFlagAll rfl ?_ ..
    | with_reducible refine foot_setFlag (blk_LG_STAT_ACTIVE ..) rfl ?_ ..
    | with_reducible refine foot_setFlag (blk_LG_STAT_RETRIG_DROP ..) rfl ?_ ..
    | with_reducible refine foot_setFlag (blk_LG_CTRL_EN ..) rfl ?_ ..
    | with_reducible refine foot_plainAll rfl ?_ ..
    | with_reducible refine foot_plainWrite (blk_LG_STAT_ACTIVE ..) rfl ?_ ..
    | with_reducible refine foot_plainWrite (blk_LG_STAT_RETRIG_DROP ..) rfl ?_ ..
    | with_reducible refine foot_plainWrite (blk_LG_CTRL_EN ..) rfl ?_ ..
    | with_reducible refine Foot.forN (fun _ _ _ => ?_) ?_
    | with_reducible refine Foot.foldl (fun _ _ _ => ?_) ?_
    | with_reducible refine PairFoot.foldl (fun _ _ _ => ?_) ?_
    | with_reducible apply Foot.ite
    | with_reducible apply PairFoot.ite
    | with_reducible apply OptFoot.ite
    | with_reducible apply OutFoot.ite
    | with_reducible apply ExFoot.ite
    | with_reducible exact ExFoot.error
    | with_reducible refine ExFoot.ok ?_
    | with_reducible refine PairFoot.forL (fun _ _ _ => ?_) ?_
    | with_reducible refine PairFoot.forN (fun _ _ _ => ?_) ?_
    | with_reducible refine OptFoot.some ?_
    | with_reducible exact OptFoot.none
    | with_reducible refine OutFoot.next ?_
    | with_reducible refine OptFoot.getD ?_ ?_
    | with_reducible refine PairFoot.snd ?_
    | with_reducible exact PairFoot.out (by assumption)
    | with_reducible refine PairFoot.eq (by assumption) ?_
    | with_reducible refine OptFoot.eq (by assumption) ?_
    | with_reducible refine ExFoot.eq (by assumption) ?_
    | ((with_reducible refine Foot.lit ?_ rfl rfl ?_ ?_ ?_ ?_ ?_ ?_); rotate_left; rfl; rfl; rfl; rfl; (first | exact Nat.le_refl _ | exact Nat.le_succ _); (constructor <;> first | with_reducible exact Kept.same | exact Kept.masked rfl); (first | with_reducible assumption | with_reducible refine foot_modChan rfl ?_ .. | with_reducible refine foot_lgLeave rfl ?_ .. | with_reducible refine foot_lgCount rfl ?_ .. | with_reducible refine foot_raise rfl ?_ .. | with_reducible refine foot_modLg rfl ?_ .. | with_reducible refine foot_setFldAll rfl ?_ .. | with_reducible refine foot_setFld (blk_LG_STAT_ACTIVE ..) rfl ?_ .. | with_reducible refine foot_setFld (blk_LG_STAT_RETRIG_DROP ..) rfl ?_ .. | with_reducible refine foot_setFld (blk_LG_CTRL_EN ..) rfl ?_ .. | with_reducible refine foot_setFlagAll rfl ?_ .. | with_reducible refine foot_setFlag (blk_LG_STAT_ACTIVE ..) rfl ?_ .. | with_reducible refine foot_setFlag (blk_LG_STAT_RETRIG_DROP ..) rfl ?_ .. | with_reducible refine foot_setFlag (blk_LG_CTRL_EN ..) rfl ?_ .. | with_reducible refine foot_plainAll rfl ?_ .. | with_reducible refine foot_plainWrite (blk_LG_STAT_ACTIVE ..) rfl ?_ .. | with_reducible refine foot_plainWrite (blk_LG_STAT_RETRIG_DROP ..) rfl ?_ .. | with_reducible refine foot_plainWrite (blk_LG_CTRL_EN ..) rfl ?_ .. | with_reducible refine Foot.forN (fun _ _ _ => ?_) ?_ | with_reducible refine Foot.foldl (fun _ _ _ => ?_) ?_ | with_reducible refine PairFoot.foldl (fun _ _ _ => ?_) ?_ | with_reducible apply Foot.ite | with_reducible apply PairFoot.ite | with_reducible apply OptFoot.ite | with_reducible apply OutFoot.ite | with_reducible apply ExFoot.ite | with_reducible exact ExFoot.error | with_reducible refine ExFoot.ok ?_ | with_reducible refine PairFoot.forL (fun _ _ _ => ?_) ?_ | with_reducible refine PairFoot.forN (fun _ _ _ => ?_) ?_ | with_reducible refine OptFoot.some ?_ | with_reducible exact OptFoot.none | with_reducible refine OutFoot.next ?_ | with_reducible refine OptFoot.getD ?_ ?_ | with_reducible refine PairFoot.snd ?_))
    | split
    | with_reducible refine PairFoot.mk ?_
    | dsimp only

theorem foot_execLgCtrlWrite {m : Nat} {z t : State} (hs : 0xffffff00a4fa4f80 ||| m = m) (h : Foot m z t) (a0 : _) (a1 : _) (a2 : _) :
    OutFoot m z (execLgCtrlWrite a0 a1 a2 t) := by
  refine OutFoot.step (m := 0xffffff00a4fa4f80) ?_ hs h
  clear h hs
  have h := Foot.refl 0xffffff00a4fa4f80 t
  unfold execLgCtrlWrite
  repeat' first
    | with_reducible assumption
    | (intro x; first | clear_value x | skip)
    | lift_lets
    | with_reducible refine foot_lgCtrlWrite rfl ?_ ..
    | with_reducible refine OutFoot.next ?_
    | split
    | dsimp only

theorem foot_execLockGroupTick {m : Nat} {z t : State} (hs : 0x2800020004380000 ||| m = m) (h : Foot m z t) (a0 : _) :
    OutFoot m z (execLockGroupTick a0 t) := by
  refine OutFoot.step (m := 0x2800020004380000) ?_ hs h
  clear h hs
  have h := Foot.refl 0x2800020004380000 t
  unfold execLockGroupTick
  repeat' first
    | with_reducible assumption
    | (intro x; first
        | (refine Foot.cut (P := Foot 0x2800020004380000 t x) ?_ ?_; rotate_left; subst x; rotate_left; intro hx; clear_value x)
        | (refine Foot.cut (P := PairFoot 0x2800020004380000 t x) ?_ ?_; rotate_left; subst x; rotate_left; intro hx; clear_value x)
        | (refine Foot.cut (P := OptFoot 0x2800020004380000 t x) ?_ ?_; rotate_left; subst x; rotate_left; intro hx; clear_value x)
        | (have hf := x.programmed; clear hf)
        | clear_value x
        | skip)
    | lift_lets
    | with_reducible refine foot_tickOutputs rfl ?_ ..
    | with_reducible refine foot_modChan rfl ?_ ..
    | with_reducible refine foot_lgLeave rfl ?_ ..
    | with_reducible refine foot_lgCount rfl ?_ ..
    | with_reducible refine foot_tickV rfl ?_ ..
    | with_reducible refine foot_modLg rfl ?_ ..
    | with_reducible refine Foot.forN (fun _ _ _ => ?_) ?_
    | with_reducible refine Foot.foldl (fun _ _ _ => ?_) ?_
    | with_reducible refine PairFoot.foldl (fun _ _ _ => ?_) ?_
    | with_reducible apply Foot.ite
    | with_reducible apply PairFoot.ite
    | with_reducible apply OptFoot.ite
    | with_reducible apply OutFoot.ite
    | with_reducible apply ExFoot.ite
    | with_reducible exact ExFoot.error
    | with_reducible refine ExFoot.ok ?_
    | with_reducible refine PairFoot.forL (fun _ _ _ => ?_) ?_
    | with_reducible refine PairFoot.forN (fun _ _ _ => ?_) ?_
    | with_reducible refine OptFoot.some ?_
    | with_reducible exact OptFoot.none
    | with_reducible refine OutFoot.next ?_
    | with_reducible refine OptFoot.getD ?_ ?_
    | with_reducible refine PairFoot.snd ?_
    | with_reducible exact PairFoot.out (by assumption)
    | with_reducible refine PairFoot.eq (by assumption) ?_
    | with_reducible refine OptFoot.eq (by assumption) ?_
    | with_reducible refine ExFoot.eq (by assumption) ?_
    | ((with_reducible refine Foot.lit ?_ rfl rfl ?_ ?_ ?_ ?_ ?_ ?_); rotate_left; rfl; rfl; rfl; rfl; (first | exact Nat.le_refl _ | exact Nat.le_succ _); (constructor <;> first | with_reducible exact Kept.same | exact Kept.masked rfl); (first | with_reducible assumption | with_reducible refine foot_tickOutputs rfl ?_ .. | with_reducible refine foot_modChan rfl ?_ .. | with_reducible refine foot_lgLeave rfl ?_ .. | with_reducible refine foot_lgCount rfl ?_ .. | with_reducible refine foot_tickV rfl ?_ .. | with_reducible refine foot_modLg rfl ?_ .. | with_reducible refine Foot.forN (fun _ _ _ => ?_) ?_ | with_reducible refine Foot.foldl (fun _ _ _ => ?_) ?_ | with_reducible refine PairFoot.foldl (fun _ _ _ => ?_) ?_ | with_reducible apply Foot.ite | with_reducible apply PairFoot.ite | with_reducible apply OptFoot.ite | with_reducible apply OutFoot.ite | with_reducible apply ExFoot.ite | with_reducible exact ExFoot.error | with_reducible refine ExFoot.ok ?_ | with_reducible refine PairFoot.forL (fun _ _ _ => ?_) ?_ | with_reducible refine PairFoot.forN (fun _ _ _ => ?_) ?_ | with_reducible refine OptFoot.some ?_ | with_reducible exact OptFoot.none | with_reducible refine OutFoot.next ?_ | with_reducible refine OptFoot.getD ?_ ?_ | with_reducible refine PairFoot.snd ?_))
    | split
    | with_reducible refine PairFoot.mk ?_
    | dsimp only

theorem foot_gridDue {m : Nat} {z t : State} (hs : 0x72290100a7fa4f88 ||| m = m) (h : Foot m z t) :
    Foot m z (State.gridDue t) := by
  refine Foot.step (m := 0x72290100a7fa4f88) ?_ hs h
  clear h hs
  have h := Foot.refl 0x72290100a7fa4f88 t
  unfold State.gridDue
  repeat' first
    | with_reducible assumption
    | (intro x; first | (refine Foot.cut (P := Foot 0x72290100a7fa4f88 t x) ?_ ?_; rotate_left; subst x; rotate_left; intro hx; clear_value x) | clear_value x | skip)
    | lift_lets
    | with_reducible refine foot_refStart rfl ?_ ..
    | with_reducible refine foot_dirStart rfl ?_ ..
    | with_reducible refine foot_rangeStart rfl ?_ ..
    | with_reducible refine foot_rgStart rfl ?_ ..
    | with_reducible refine Foot.forL (fun _ _ _ => ?_) ?_
    | with_reducible apply Foot.ite
    | split
    | dsimp only

end Sys2Proof.Machine
end

