-- ==== Sys2Proof/Laws/FootRcpBase.lean ====
section
/-!
SUPPORT. Footprints of the operations of Machine/RcpBase.lean.
-/

set_option Elab.async false

set_option linter.all false

set_option maxRecDepth 4000

namespace Sys2Proof.Machine

theorem foot_rampWrite {m : Nat} {z t : State} (hs : 0x20080020000088 ||| m = m) (h : Foot m z t) (a0 : _) (a1 : _) (a2 : _) :
    Foot m z (State.rampWrite a0 a1 a2 t) := by
  refine Foot.step (m := 0x20080020000088) ?_ hs h
  clear h hs
  have h := Foot.refl 0x20080020000088 t
  unfold State.rampWrite
  repeat' first
    | with_reducible assumption
    | (intro x; first | (refine Foot.cut (P := Foot 0x20080020000088 t x) ?_ ?_; rotate_left; subst x; rotate_left; intro hx; clear_value x) | clear_value x | skip)
    | lift_lets
    | with_reducible refine foot_setDsc rfl ?_ ..
    | with_reducible refine foot_seqShow rfl ?_ ..
    | with_reducible refine foot_modPos rfl ?_ ..
    | with_reducible refine Foot.forL (fun _ _ _ => ?_) ?_
    | with_reducible apply Foot.ite
    | split
    | dsimp only

theorem foot_rampWrites {m : Nat} {z t : State} (hs : 0x20080020000088 ||| m = m) (h : Foot m z t) (a0 : _) (a1 : _) (a2 : _) :
    Foot m z (State.rampWrites a0 a1 a2 t) := by
  refine Foot.step (m := 0x20080020000088) ?_ hs h
  clear h hs
  have h := Foot.refl 0x20080020000088 t
  unfold State.rampWrites
  repeat' first
    | with_reducible assumption
    | (intro x; first | clear_value x | skip)
    | lift_lets
    | with_reducible refine foot_rampWrite rfl ?_ ..
    | with_reducible refine Foot.forL (fun _ _ _ => ?_) ?_
    | with_reducible apply Foot.ite
    | split
    | dsimp only

end Sys2Proof.Machine
end

