-- ==== Sys2Proof/Laws/FootStdForm.lean ====
section
/-!
SUPPORT. Footprints of the operations of Machine/StdForm.lean.
-/

set_option Elab.async false

set_option linter.all false

set_option maxRecDepth 4000

namespace Sys2Proof.Machine

theorem foot_setInteg {m : Nat} {z t : State} (hs : 0x80000000088 ||| m = m) (h : Foot m z t) (a0 : _) (a1 : _) :
    Foot m z (State.setInteg a0 a1 t) := by
  refine Foot.step (m := 0x80000000088) ?_ hs h
  clear h hs
  have h := Foot.refl 0x80000000088 t
  unfold State.setInteg
  repeat' first
    | with_reducible assumption
    | (intro x; first | clear_value x | skip)
    | lift_lets
    | with_reducible refine foot_setDsc2 rfl ?_ ..
    | split
    | dsimp only

theorem foot_setStat {m : Nat} {z t : State} (hs : 0x80000000088 ||| m = m) (h : Foot m z t) (a0 : _) (a1 : _) (a2 : _) :
    Foot m z (State.setStat a0 a1 a2 t) := by
  refine Foot.step (m := 0x80000000088) ?_ hs h
  clear h hs
  have h := Foot.refl 0x80000000088 t
  unfold State.setStat
  repeat' first
    | with_reducible assumption
    | (intro x; first | clear_value x | skip)
    | lift_lets
    | with_reducible refine foot_setDsc rfl ?_ ..
    | split
    | dsimp only

theorem foot_biquad {m : Nat} {z t : State} (hs : 0x80000000088 ||| m = m) (h : Foot m z t) (a0 : _) (a1 : _) (a2 : _) (a3 : _) :
    PairFoot m z (State.biquad a0 a1 a2 a3 t) := by
  refine PairFoot.step (m := 0x80000000088) ?_ hs h
  clear h hs
  have h := Foot.refl 0x80000000088 t
  unfold State.biquad
  repeat' first
    | with_reducible assumption
    | (intro x; first | clear_value x | skip)
    | lift_lets
    | with_reducible refine foot_setHalf rfl ?_ ..
    | split
    | with_reducible refine PairFoot.mk ?_
    | dsimp only

theorem foot_outerPi {m : Nat} {z t : State} (hs : 0x80000000088 ||| m = m) (h : Foot m z t) (a0 : _) (a1 : _) (a2 : _) (a3 : _) (a4 : _) :
    PairFoot m z (State.outerPi a0 a1 a2 a3 a4 t) := by
  refine PairFoot.step (m := 0x80000000088) ?_ hs h
  clear h hs
  have h := Foot.refl 0x80000000088 t
  unfold State.outerPi
  repeat' first
    | with_reducible assumption
    | (intro x; first | clear_value x | skip)
    | lift_lets
    | with_reducible refine foot_setHalf rfl ?_ ..
    | split
    | with_reducible refine PairFoot.mk ?_
    | dsimp only

theorem foot_sections {m : Nat} {z t : State} (hs : 0x72280900b4ea4f88 ||| m = m) (h : Foot m z t) (a0 : _) (a1 : _) (a2 : _) (a3 : _) :
    PairFoot m z (State.sections a0 a1 a2 a3 t) := by
  refine PairFoot.step (m := 0x72280900b4ea4f88) ?_ hs h
  clear h hs
  have h := Foot.refl 0x72280900b4ea4f88 t
  unfold State.sections
  repeat' first
    | with_reducible assumption
    | (intro x; first | clear_value x | skip)
    | lift_lets
    | with_reducible refine foot_biquad rfl ?_ ..
    | with_reducible refine foot_modSlot rfl ?_ ..
    | with_reducible refine foot_outerPi rfl ?_ ..
    | with_reducible refine foot_raise rfl ?_ ..
    | with_reducible refine PairFoot.foldl (fun _ _ _ => ?_) ?_
    | with_reducible apply PairFoot.ite
    | with_reducible exact PairFoot.out (by assumption)
    | with_reducible refine PairFoot.eq (by assumption) ?_
    | split
    | with_reducible refine PairFoot.mk ?_
    | dsimp only

theorem foot_learnStop {m : Nat} {z t : State} (hs : 0x80010000088 ||| m = m) (h : Foot m z t) (a0 : _) (a1 : _) :
    Foot m z (State.learnStop a0 a1 t) := by
  refine Foot.step (m := 0x80010000088) ?_ hs h
  clear h hs
  have h := Foot.refl 0x80010000088 t
  unfold State.learnStop
  repeat' first
    | with_reducible assumption
    | (intro x; first | (refine Foot.cut (P := Foot 0x80010000088 t x) ?_ ?_; rotate_left; subst x; rotate_left; intro hx; clear_value x) | clear_value x | skip)
    | lift_lets
    | with_reducible refine foot_modSlot rfl ?_ ..
    | with_reducible refine foot_setDsc rfl ?_ ..
    | with_reducible refine foot_setStat rfl ?_ ..
    | with_reducible apply Foot.ite
    | split
    | dsimp only

theorem foot_learnCmd {m : Nat} {z t : State} (hs : 0x80010000088 ||| m = m) (h : Foot m z t) (a0 : _) :
    Foot m z (State.learnCmd a0 t) := by
  refine Foot.step (m := 0x80010000088) ?_ hs h
  clear h hs
  have h := Foot.refl 0x80010000088 t
  unfold State.learnCmd
  repeat' first
    | with_reducible assumption
    | (intro x; first
        | (refine Foot.cut (P := Foot 0x80010000088 t x) ?_ ?_; rotate_left; subst x; rotate_left; intro hx; clear_value x)
        | (refine Foot.cut (P := PairFoot 0x80010000088 t x) ?_ ?_; rotate_left; subst x; rotate_left; intro hx; clear_value x)
        | (refine Foot.cut (P := OptFoot 0x80010000088 t x) ?_ ?_; rotate_left; subst x; rotate_left; intro hx; clear_value x)
        | (have hf := x.programmed; clear hf)
        | clear_value x
        | skip)
    | lift_lets
    | with_reducible refine foot_learnStop rfl ?_ ..
    | with_reducible refine foot_modSlot rfl ?_ ..
    | with_reducible refine foot_setDsc rfl ?_ ..
    | with_reducible refine foot_setStat rfl ?_ ..
    | with_reducible refine Foot.foldl (fun _ _ _ => ?_) ?_
    | with_reducible refine PairFoot.foldl (fun _ _ _ => ?_) ?_
    | with_reducible apply Foot.ite
    | with_reducible apply PairFoot.ite
    | with_reducible apply OptFoot.ite
    | with_reducible apply OutFoot.ite
    | with_reducible apply ExFoot.ite
    | with_reducible exact ExFoot.error
    | with_reducible refine ExFoot.ok ?_
    | with_reducible refine PairFoot.forL (fun _ _ _ => ?_) ?_
    | with_reducible refine PairFoot.forN (fun _ _ _ => ?_) ?_
    | with_reducible refine OptFoot.some ?_
    | with_reducible exact OptFoot.none
    | with_reducible refine OutFoot.next ?_
    | with_reducible refine OptFoot.getD ?_ ?_
    | with_reducible refine PairFoot.snd ?_
    | with_reducible exact PairFoot.out (by assumption)
    | with_reducible refine PairFoot.eq (by assumption) ?_
    | with_reducible refine OptFoot.eq (by assumption) ?_
    | with_reducible refine ExFoot.eq (by assumption) ?_
    | ((with_reducible refine Foot.lit ?_ rfl rfl ?_ ?_ ?_ ?_ ?_ ?_); rotate_left; rfl; rfl; rfl; rfl; (first | exact Nat.le_refl _ | exact Nat.le_succ _); (constructor <;> first | with_reducible exact Kept.same | exact Kept.masked rfl); (first | with_reducible assumption | with_reducible refine foot_learnStop rfl ?_ .. | with_reducible refine foot_modSlot rfl ?_ .. | with_reducible refine foot_setDsc rfl ?_ .. | with_reducible refine foot_setStat rfl ?_ .. | with_reducible refine Foot.foldl (fun _ _ _ => ?_) ?_ | with_reducible refine PairFoot.foldl (fun _ _ _ => ?_) ?_ | with_reducible apply Foot.ite | with_reducible apply PairFoot.ite | with_reducible apply OptFoot.ite | with_reducible apply OutFoot.ite | with_reducible apply ExFoot.ite | with_reducible exact ExFoot.error | with_reducible refine ExFoot.ok ?_ | with_reducible refine PairFoot.forL (fun _ _ _ => ?_) ?_ | with_reducible refine PairFoot.forN (fun _ _ _ => ?_) ?_ | with_reducible refine OptFoot.some ?_ | with_reducible exact OptFoot.none | with_reducible refine OutFoot.next ?_ | with_reducible refine OptFoot.getD ?_ ?_ | with_reducible refine PairFoot.snd ?_))
    | split
    | with_reducible refine PairFoot.mk ?_
    | dsimp only

theorem foot_learnClear {m : Nat} {z t : State} (hs : 0x80010000088 ||| m = m) (h : Foot m z t) (a0 : _) (a1 : _) :
    Foot m z (State.learnClear a0 a1 t) := by
  refine Foot.step (m := 0x80010000088) ?_ hs h
  clear h hs
  have h := Foot.refl 0x80010000088 t
  unfold State.learnClear
  repeat' first
    | with_reducible assumption
    | (intro x; first
        | (refine Foot.cut (P := Foot 0x80010000088 t x) ?_ ?_; rotate_left; subst x; rotate_left; intro hx; clear_value x)
        | (refine Foot.cut (P := PairFoot 0x80010000088 t x) ?_ ?_; rotate_left; subst x; rotate_left; intro hx; clear_value x)
        | (refine Foot.cut (P := OptFoot 0x80010000088 t x) ?_ ?_; rotate_left; subst x; rotate_left; intro hx; clear_value x)
        | (have hf := x.programmed; clear hf)
        | clear_value x
        | skip)
    | lift_lets
    | with_reducible refine foot_modSlot rfl ?_ ..
    | with_reducible refine foot_setStat rfl ?_ ..
    | with_reducible refine foot_setHalf rfl ?_ ..
    | with_reducible refine Foot.forN (fun _ _ _ => ?_) ?_
    | with_reducible refine Foot.foldl (fun _ _ _ => ?_) ?_
    | with_reducible refine PairFoot.foldl (fun _ _ _ => ?_) ?_
    | with_reducible apply Foot.ite
    | with_reducible apply PairFoot.ite
    | with_reducible apply OptFoot.ite
    | with_reducible apply OutFoot.ite
    | with_reducible apply ExFoot.ite
    | with_reducible exact ExFoot.error
    | with_reducible refine ExFoot.ok ?_
    | with_reducible refine PairFoot.forL (fun _ _ _ => ?_) ?_
    | with_reducible refine PairFoot.forN (fun _ _ _ => ?_) ?_
    | with_reducible refine OptFoot.some ?_
    | with_reducible exact OptFoot.none
    | with_reducible refine OutFoot.next ?_
    | with_reducible refine OptFoot.getD ?_ ?_
    | with_reducible refine PairFoot.snd ?_
    | with_reducible exact PairFoot.out (by assumption)
    | with_reducible refine PairFoot.eq (by assumption) ?_
    | with_reducible refine OptFoot.eq (by assumption) ?_
    | with_reducible refine ExFoot.eq (by assumption) ?_
    | ((with_reducible refine Foot.lit ?_ rfl rfl ?_ ?_ ?_ ?_ ?_ ?_); rotate_left; rfl; rfl; rfl; rfl; (first | exact Nat.le_refl _ | exact Nat.le_succ _); (constructor <;> first | with_reducible exact Kept.same | exact Kept.masked rfl); (first | with_reducible assumption | with_reducible refine foot_modSlot rfl ?_ .. | with_reducible refine foot_setStat rfl ?_ .. | with_reducible refine foot_setHalf rfl ?_ .. | with_reducible refine Foot.forN (fun _ _ _ => ?_) ?_ | with_reducible refine Foot.foldl (fun _ _ _ => ?_) ?_ | with_reducible refine PairFoot.foldl (fun _ _ _ => ?_) ?_ | with_reducible apply Foot.ite | with_reducible apply PairFoot.ite | with_reducible apply OptFoot.ite | with_reducible apply OutFoot.ite | with_reducible apply ExFoot.ite | with_reducible exact ExFoot.error | with_reducible refine ExFoot.ok ?_ | with_reducible refine PairFoot.forL (fun _ _ _ => ?_) ?_ | with_reducible refine PairFoot.forN (fun _ _ _ => ?_) ?_ | with_reducible refine OptFoot.some ?_ | with_reducible exact OptFoot.none | with_reducible refine OutFoot.next ?_ | with_reducible refine OptFoot.getD ?_ ?_ | with_reducible refine PairFoot.snd ?_))
    | split
    | with_reducible refine PairFoot.mk ?_
    | dsimp only

theorem foot_learnAdd {m : Nat} {z t : State} (hs : 0x80000000088 ||| m = m) (h : Foot m z t) (a0 : _) (a1 : _) (a2 : _) (a3 : _) :
    Foot m z (State.learnAdd a0 a1 a2 a3 t) := by
  refine Foot.step (m := 0x80000000088) ?_ hs h
  clear h hs
  have h := Foot.refl 0x80000000088 t
  unfold State.learnAdd
  repeat' first
    | with_reducible assumption
    | (intro x; first
        | (refine Foot.cut (P := Foot 0x80000000088 t x) ?_ ?_; rotate_left; subst x; rotate_left; intro hx; clear_value x)
        | (refine Foot.cut (P := PairFoot 0x80000000088 t x) ?_ ?_; rotate_left; subst x; rotate_left; intro hx; clear_value x)
        | (refine Foot.cut (P := OptFoot 0x80000000088 t x) ?_ ?_; rotate_left; subst x; rotate_left; intro hx; clear_value x)
        | (have hf := x.programmed; clear hf)
        | clear_value x
        | skip)
    | lift_lets
    | with_reducible refine foot_setDsc rfl ?_ ..
    | with_reducible refine foot_setHalf rfl ?_ ..
    | with_reducible refine Foot.foldl (fun _ _ _ => ?_) ?_
    | with_reducible refine PairFoot.foldl (fun _ _ _ => ?_) ?_
    | with_reducible apply Foot.ite
    | with_reducible apply PairFoot.ite
    | with_reducible apply OptFoot.ite
    | with_reducible apply OutFoot.ite
    | with_reducible apply ExFoot.ite
    | with_reducible exact ExFoot.error
    | with_reducible refine ExFoot.ok ?_
    | with_reducible refine PairFoot.forL (fun _ _ _ => ?_) ?_
    | with_reducible refine PairFoot.forN (fun _ _ _ => ?_) ?_
    | with_reducible refine OptFoot.some ?_
    | with_reducible exact OptFoot.none
    | with_reducible refine OutFoot.next ?_
    | with_reducible refine OptFoot.getD ?_ ?_
    | with_reducible refine PairFoot.snd ?_
    | with_reducible exact PairFoot.out (by assumption)
    | with_reducible refine PairFoot.eq (by assumption) ?_
    | with_reducible refine OptFoot.eq (by assumption) ?_
    | with_reducible refine ExFoot.eq (by assumption) ?_
    | ((with_reducible refine Foot.lit ?_ rfl rfl ?_ ?_ ?_ ?_ ?_ ?_); rotate_left; rfl; rfl; rfl; rfl; (first | exact Nat.le_refl _ | exact Nat.le_succ _); (constructor <;> first | with_reducible exact Kept.same | exact Kept.masked rfl); (first | with_reducible assumption | with_reducible refine foot_setDsc rfl ?_ .. | with_reducible refine foot_setHalf rfl ?_ .. | with_reducible refine Foot.foldl (fun _ _ _ => ?_) ?_ | with_reducible refine PairFoot.foldl (fun _ _ _ => ?_) ?_ | with_reducible apply Foot.ite | with_reducible apply PairFoot.ite | with_reducible apply OptFoot.ite | with_reducible apply OutFoot.ite | with_reducible apply ExFoot.ite | with_reducible exact ExFoot.error | with_reducible refine ExFoot.ok ?_ | with_reducible refine PairFoot.forL (fun _ _ _ => ?_) ?_ | with_reducible refine PairFoot.forN (fun _ _ _ => ?_) ?_ | with_reducible refine OptFoot.some ?_ | with_reducible exact OptFoot.none | with_reducible refine OutFoot.next ?_ | with_reducible refine OptFoot.getD ?_ ?_ | with_reducible refine PairFoot.snd ?_))
    | split
    | with_reducible refine PairFoot.mk ?_
    | dsimp only

theorem foot_learnFinish {m : Nat} {z t : State} (hs : 0x80010000088 ||| m = m) (h : Foot m z t) (a0 : _) (a1 : _) :
    Foot m z (State.learnFinish a0 a1 t) := by
  refine Foot.step (m := 0x80010000088) ?_ hs h
  clear h hs
  have h := Foot.refl 0x80010000088 t
  unfold State.learnFinish
  repeat' first
    | with_reducible assumption
    | (intro x; first
        | (refine Foot.cut (P := Foot 0x80010000088 t x) ?_ ?_; rotate_left; subst x; rotate_left; intro hx; clear_value x)
        | (refine Foot.cut (P := PairFoot 0x80010000088 t x) ?_ ?_; rotate_left; subst x; rotate_left; intro hx; clear_value x)
        | (refine Foot.cut (P := OptFoot 0x80010000088 t x) ?_ ?_; rotate_left; subst x; rotate_left; intro hx; clear_value x)
        | (have hf := x.programmed; clear hf)
        | clear_value x
        | skip)
    | lift_lets
    | with_reducible refine foot_learnStop rfl ?_ ..
    | with_reducible refine foot_modSlot rfl ?_ ..
    | with_reducible refine foot_setDsc rfl ?_ ..
    | with_reducible refine foot_setStat rfl ?_ ..
    | with_reducible refine foot_setHalf rfl ?_ ..
    | with_reducible refine Foot.forN (fun _ _ _ => ?_) ?_
    | with_reducible refine Foot.foldl (fun _ _ _ => ?_) ?_
    | with_reducible refine PairFoot.foldl (fun _ _ _ => ?_) ?_
    | with_reducible apply Foot.ite
    | with_reducible apply PairFoot.ite
    | with_reducible apply OptFoot.ite
    | with_reducible apply OutFoot.ite
    | with_reducible apply ExFoot.ite
    | with_reducible exact ExFoot.error
    | with_reducible refine ExFoot.ok ?_
    | with_reducible refine PairFoot.forL (fun _ _ _ => ?_) ?_
    | with_reducible refine PairFoot.forN (fun _ _ _ => ?_) ?_
    | with_reducible refine OptFoot.some ?_
    | with_reducible exact OptFoot.none
    | with_reducible refine OutFoot.next ?_
    | with_reducible refine OptFoot.getD ?_ ?_
    | with_reducible refine PairFoot.snd ?_
    | with_reducible exact PairFoot.out (by assumption)
    | with_reducible refine PairFoot.eq (by assumption) ?_
    | with_reducible refine OptFoot.eq (by assumption) ?_
    | with_reducible refine ExFoot.eq (by assumption) ?_
    | ((with_reducible refine Foot.lit ?_ rfl rfl ?_ ?_ ?_ ?_ ?_ ?_); rotate_left; rfl; rfl; rfl; rfl; (first | exact Nat.le_refl _ | exact Nat.le_succ _); (constructor <;> first | with_reducible exact Kept.same | exact Kept.masked rfl); (first | with_reducible assumption | with_reducible refine foot_learnStop rfl ?_ .. | with_reducible refine foot_modSlot rfl ?_ .. | with_reducible refine foot_setDsc rfl ?_ .. | with_reducible refine foot_setStat rfl ?_ .. | with_reducible refine foot_setHalf rfl ?_ .. | with_reducible refine Foot.forN (fun _ _ _ => ?_) ?_ | with_reducible refine Foot.foldl (fun _ _ _ => ?_) ?_ | with_reducible refine PairFoot.foldl (fun _ _ _ => ?_) ?_ | with_reducible apply Foot.ite | with_reducible apply PairFoot.ite | with_reducible apply OptFoot.ite | with_reducible apply OutFoot.ite | with_reducible apply ExFoot.ite | with_reducible exact ExFoot.error | with_reducible refine ExFoot.ok ?_ | with_reducible refine PairFoot.forL (fun _ _ _ => ?_) ?_ | with_reducible refine PairFoot.forN (fun _ _ _ => ?_) ?_ | with_reducible refine OptFoot.some ?_ | with_reducible exact OptFoot.none | with_reducible refine OutFoot.next ?_ | with_reducible refine OptFoot.getD ?_ ?_ | with_reducible refine PairFoot.snd ?_))
    | split
    | with_reducible refine PairFoot.mk ?_
    | dsimp only

theorem foot_loadCheck {m : Nat} {z t : State} (hs : 0x80010000088 ||| m = m) (h : Foot m z t) (a0 : _) (a1 : _) :
    Foot m z (State.loadCheck a0 a1 t) := by
  refine Foot.step (m := 0x80010000088) ?_ hs h
  clear h hs
  have h := Foot.refl 0x80010000088 t
  unfold State.loadCheck
  repeat' first
    | with_reducible assumption
    | (intro x; first | (refine Foot.cut (P := Foot 0x80010000088 t x) ?_ ?_; rotate_left; subst x; rotate_left; intro hx; clear_value x) | clear_value x | skip)
    | lift_lets
    | with_reducible refine foot_modSlot rfl ?_ ..
    | with_reducible refine foot_setDsc rfl ?_ ..
    | with_reducible refine foot_setStat rfl ?_ ..
    | with_reducible apply Foot.ite
    | split
    | dsimp only

theorem foot_stdHeld {m : Nat} {z t : State} (hs : 0x80010000088 ||| m = m) (h : Foot m z t) (a0 : _) (a1 : _) (a2 : _) (a3 : _) :
    PairFoot m z (State.stdHeld a0 a1 a2 a3 t) := by
  refine PairFoot.step (m := 0x80010000088) ?_ hs h
  clear h hs
  have h := Foot.refl 0x80010000088 t
  unfold State.stdHeld
  repeat' first
    | with_reducible assumption
    | (intro x; first | (refine Foot.cut (P := Foot 0x80010000088 t x) ?_ ?_; rotate_left; subst x; rotate_left; intro hx; clear_value x) | clear_value x | skip)
    | lift_lets
    | with_reducible refine foot_modSlot rfl ?_ ..
    | with_reducible refine foot_setDsc rfl ?_ ..
    | with_reducible refine foot_setStat rfl ?_ ..
    | with_reducible refine foot_setInteg rfl ?_ ..
    | with_reducible apply Foot.ite
    | split
    | with_reducible refine PairFoot.mk ?_
    | dsimp only

theorem foot_lawTerms {m : Nat} {z t : State} (hs : 0x72280900b4ea4f88 ||| m = m) (h : Foot m z t) (a0 : _) (a1 : _) (a2 : _) (a3 : _) :
    PairFoot m z (State.lawTerms a0 a1 a2 a3 t) := by
  refine PairFoot.step (m := 0x72280900b4ea4f88) ?_ hs h
  clear h hs
  have h := Foot.refl 0x72280900b4ea4f88 t
  unfold State.lawTerms
  repeat' first
    | with_reducible assumption
    | (intro x; first | clear_value x | skip)
    | lift_lets
    | with_reducible refine foot_setDsc rfl ?_ ..
    | with_reducible refine foot_sections rfl ?_ ..
    | with_reducible refine PairFoot.eq (by assumption) ?_
    | split
    | with_reducible refine PairFoot.mk ?_
    | dsimp only

theorem foot_lawInteg {m : Nat} {z t : State} (hs : 0x80000000088 ||| m = m) (h : Foot m z t) (a0 : _) (a1 : _) (a2 : _) (a3 : _) (a4 : _) (a5 : _) :
    PairFoot m z (State.lawInteg a0 a1 a2 a3 a4 a5 t) := by
  refine PairFoot.step (m := 0x80000000088) ?_ hs h
  clear h hs
  have h := Foot.refl 0x80000000088 t
  unfold State.lawInteg
  repeat' first
    | with_reducible assumption
    | (intro x; first | (refine Foot.cut (P := Foot 0x80000000088 t x) ?_ ?_; rotate_left; subst x; rotate_left; intro hx; clear_value x) | clear_value x | skip)
    | lift_lets
    | with_reducible refine foot_setStat rfl ?_ ..
    | with_reducible refine foot_setInteg rfl ?_ ..
    | with_reducible apply Foot.ite
    | split
    | with_reducible refine PairFoot.mk ?_
    | dsimp only

theorem foot_lawOutput {m : Nat} {z t : State} (hs : 0x72280900b4ea4f88 ||| m = m) (h : Foot m z t) (a0 : _) (a1 : _) (a2 : _) (a3 : _) (a4 : _) :
    PairFoot m z (State.lawOutput a0 a1 a2 a3 a4 t) := by
  refine PairFoot.step (m := 0x72280900b4ea4f88) ?_ hs h
  clear h hs
  have h := Foot.refl 0x72280900b4ea4f88 t
  unfold State.lawOutput
  repeat' first
    | with_reducible assumption
    | (intro x; first | (refine Foot.cut (P := Foot 0x72280900b4ea4f88 t x) ?_ ?_; rotate_left; subst x; rotate_left; intro hx; clear_value x) | clear_value x | skip)
    | lift_lets
    | with_reducible refine foot_modSlot rfl ?_ ..
    | with_reducible refine foot_setDsc rfl ?_ ..
    | with_reducible refine foot_sections rfl ?_ ..
    | with_reducible refine foot_setStat rfl ?_ ..
    | with_reducible refine foot_setDsc2 rfl ?_ ..
    | with_reducible refine PairFoot.eq (by assumption) ?_
    | split
    | with_reducible refine PairFoot.mk ?_
    | dsimp only

theorem foot_stdLaw {m : Nat} {z t : State} (hs : 0x72280900b4ea4f88 ||| m = m) (h : Foot m z t) (a0 : _) (a1 : _) (a2 : _) (a3 : _) (a4 : _) (a5 : _) :
    PairFoot m z (State.stdLaw a0 a1 a2 a3 a4 a5 t) := by
  refine PairFoot.step (m := 0x72280900b4ea4f88) ?_ hs h
  clear h hs
  have h := Foot.refl 0x72280900b4ea4f88 t
  unfold State.stdLaw
  repeat' first
    | with_reducible assumption
    | (intro x; first | (refine Foot.cut (P := Foot 0x72280900b4ea4f88 t x) ?_ ?_; rotate_left; subst x; rotate_left; intro hx; clear_value x) | clear_value x | skip)
    | lift_lets
    | with_reducible refine foot_lawTerms rfl ?_ ..
    | with_reducible refine foot_learnAdd rfl ?_ ..
    | with_reducible refine foot_lawOutput rfl ?_ ..
    | with_reducible refine foot_lawInteg rfl ?_ ..
    | with_reducible apply Foot.ite
    | with_reducible refine PairFoot.eq (by assumption) ?_
    | split
    | with_reducible refine PairFoot.mk ?_
    | dsimp only

theorem foot_stdSample {m : Nat} {z t : State} (hs : 0x72280900b4ea4f88 ||| m = m) (h : Foot m z t) (a0 : _) (a1 : _) :
    PairFoot m z (State.stdSample a0 a1 t) := by
  refine PairFoot.step (m := 0x72280900b4ea4f88) ?_ hs h
  clear h hs
  have h := Foot.refl 0x72280900b4ea4f88 t
  unfold State.stdSample
  repeat' first
    | with_reducible assumption
    | (intro x; first | (refine Foot.cut (P := Foot 0x72280900b4ea4f88 t x) ?_ ?_; rotate_left; subst x; rotate_left; intro hx; clear_value x) | clear_value x | skip)
    | lift_lets
    | with_reducible refine foot_learnStop rfl ?_ ..
    | with_reducible refine foot_stdLaw rfl ?_ ..
    | with_reducible refine foot_learnClear rfl ?_ ..
    | with_reducible refine foot_modSlot rfl ?_ ..
    | with_reducible refine foot_setDsc rfl ?_ ..
    | with_reducible refine foot_loadCheck rfl ?_ ..
    | with_reducible refine foot_setStat rfl ?_ ..
    | with_reducible refine foot_learnFinish rfl ?_ ..
    | with_reducible refine foot_learnCmd rfl ?_ ..
    | with_reducible refine foot_stdHeld rfl ?_ ..
    | with_reducible refine Foot.forN (fun _ _ _ => ?_) ?_
    | with_reducible apply Foot.ite
    | with_reducible apply PairFoot.ite
    | with_reducible refine PairFoot.eq (by assumption) ?_
    | split
    | with_reducible refine PairFoot.mk ?_
    | dsimp only

end Sys2Proof.Machine
end

