-- ==== Sys2Proof/Laws/FootLoopSlots.lean ====
section
/-!
SUPPORT. Footprints of the operations of Machine/LoopSlots.lean.
-/

set_option Elab.async false

set_option linter.all false

set_option maxRecDepth 4000

namespace Sys2Proof.Machine

theorem foot_slotCfgWrite {m : Nat} {z t : State} (hs : 0x7a280900b4ea4f88 ||| m = m) (h : Foot m z t) (a0 : _) (a1 : _) :
    Foot m z (State.slotCfgWrite a0 a1 t) := by
  refine Foot.step (m := 0x7a280900b4ea4f88) ?_ hs h
  clear h hs
  have h := Foot.refl 0x7a280900b4ea4f88 t
  unfold State.slotCfgWrite
  repeat' first
    | with_reducible assumption
    | (intro x; first | (refine Foot.cut (P := Foot 0x7a280900b4ea4f88 t x) ?_ ?_; rotate_left; subst x; rotate_left; intro hx; clear_value x) | clear_value x | skip)
    | lift_lets
    | with_reducible refine foot_learnStop rfl ?_ ..
    | with_reducible refine foot_modSlot rfl ?_ ..
    | with_reducible refine foot_raise rfl ?_ ..
    | with_reducible refine foot_slotOff rfl ?_ ..
    | with_reducible refine foot_setFld (blk_LE_SLOTCFG_EN ..) rfl ?_ ..
    | with_reducible refine foot_setFld (blk_LE_SLOTTIME_LAST ..) rfl ?_ ..
    | with_reducible refine foot_setFld (blk_LE_SLOTSTAT_OVERRUNS ..) rfl ?_ ..
    | with_reducible refine foot_setFld (blk_LE_SLOTSTAT_DLMISS ..) rfl ?_ ..
    | with_reducible refine foot_setFlag (blk_LE_SLOTCFG_EN ..) rfl ?_ ..
    | with_reducible refine foot_setFlag (blk_LE_SLOTTIME_LAST ..) rfl ?_ ..
    | with_reducible refine foot_setFlag (blk_LE_SLOTSTAT_OVERRUNS ..) rfl ?_ ..
    | with_reducible refine foot_setFlag (blk_LE_SLOTSTAT_DLMISS ..) rfl ?_ ..
    | with_reducible refine foot_setRegB (blk_LE_SLOTCFG_EN ..) rfl ?_ ..
    | with_reducible refine foot_setRegB (blk_LE_SLOTTIME_LAST ..) rfl ?_ ..
    | with_reducible refine foot_setRegB (blk_LE_SLOTSTAT_OVERRUNS ..) rfl ?_ ..
    | with_reducible refine foot_setRegB (blk_LE_SLOTSTAT_DLMISS ..) rfl ?_ ..
    | with_reducible refine foot_plainWrite (blk_LE_SLOTCFG_EN ..) rfl ?_ ..
    | with_reducible refine foot_plainWrite (blk_LE_SLOTTIME_LAST ..) rfl ?_ ..
    | with_reducible refine foot_plainWrite (blk_LE_SLOTSTAT_OVERRUNS ..) rfl ?_ ..
    | with_reducible refine foot_plainWrite (blk_LE_SLOTSTAT_DLMISS ..) rfl ?_ ..
    | with_reducible refine Foot.forL (fun _ _ _ => ?_) ?_
    | with_reducible apply Foot.ite
    | ((with_reducible refine Foot.lit ?_ rfl rfl ?_ ?_ ?_ ?_ ?_ ?_); rotate_left; rfl; rfl; rfl; rfl; (first | exact Nat.le_refl _ | exact Nat.le_succ _); (constructor <;> first | with_reducible exact Kept.same | exact Kept.masked rfl); (first | with_reducible assumption | with_reducible refine foot_learnStop rfl ?_ .. | with_reducible refine foot_modSlot rfl ?_ .. | with_reducible refine foot_raise rfl ?_ .. | with_reducible refine foot_slotOff rfl ?_ .. | with_reducible refine foot_setFld (blk_LE_SLOTCFG_EN ..) rfl ?_ .. | with_reducible refine foot_setFld (blk_LE_SLOTTIME_LAST ..) rfl ?_ .. | with_reducible refine foot_setFld (blk_LE_SLOTSTAT_OVERRUNS ..) rfl ?_ .. | with_reducible refine foot_setFld (blk_LE_SLOTSTAT_DLMISS ..) rfl ?_ .. | with_reducible refine foot_setFlag (blk_LE_SLOTCFG_EN ..) rfl ?_ .. | with_reducible refine foot_setFlag (blk_LE_SLOTTIME_LAST ..) rfl ?_ .. | with_reducible refine foot_setFlag (blk_LE_SLOTSTAT_OVERRUNS ..) rfl ?_ .. | with_reducible refine foot_setFlag (blk_LE_SLOTSTAT_DLMISS ..) rfl ?_ .. | with_reducible refine foot_setRegB (blk_LE_SLOTCFG_EN ..) rfl ?_ .. | with_reducible refine foot_setRegB (blk_LE_SLOTTIME_LAST ..) rfl ?_ .. | with_reducible refine foot_setRegB (blk_LE_SLOTSTAT_OVERRUNS ..) rfl ?_ .. | with_reducible refine foot_setRegB (blk_LE_SLOTSTAT_DLMISS ..) rfl ?_ .. | with_reducible refine foot_plainWrite (blk_LE_SLOTCFG_EN ..) rfl ?_ .. | with_reducible refine foot_plainWrite (blk_LE_SLOTTIME_LAST ..) rfl ?_ .. | with_reducible refine foot_plainWrite (blk_LE_SLOTSTAT_OVERRUNS ..) rfl ?_ .. | with_reducible refine foot_plainWrite (blk_LE_SLOTSTAT_DLMISS ..) rfl ?_ .. | with_reducible refine Foot.forL (fun _ _ _ => ?_) ?_ | with_reducible apply Foot.ite))
    | split
    | dsimp only

theorem foot_execSlotEnable {m : Nat} {z t : State} (hs : 0x7a280900b4ea4f88 ||| m = m) (h : Foot m z t) (a0 : _) (a1 : _) (a2 : _) :
    OutFoot m z (execSlotEnable a0 a1 a2 t) := by
  refine OutFoot.step (m := 0x7a280900b4ea4f88) ?_ hs h
  clear h hs
  have h := Foot.refl 0x7a280900b4ea4f88 t
  unfold execSlotEnable
  repeat' first
    | with_reducible assumption
    | (intro x; first | clear_value x | skip)
    | lift_lets
    | with_reducible refine foot_slotCfgWrite rfl ?_ ..
    | with_reducible refine OutFoot.next ?_
    | split
    | dsimp only

theorem foot_execSlotDisable {m : Nat} {z t : State} (hs : 0x7a280900b4ea4f88 ||| m = m) (h : Foot m z t) (a0 : _) (a1 : _) (a2 : _) :
    OutFoot m z (execSlotDisable a0 a1 a2 t) := by
  refine OutFoot.step (m := 0x7a280900b4ea4f88) ?_ hs h
  clear h hs
  have h := Foot.refl 0x7a280900b4ea4f88 t
  unfold execSlotDisable
  repeat' first
    | with_reducible assumption
    | (intro x; first | clear_value x | skip)
    | lift_lets
    | with_reducible refine foot_slotCfgWrite rfl ?_ ..
    | with_reducible refine OutFoot.next ?_
    | split
    | dsimp only

theorem foot_makeReady {m : Nat} {z t : State} (hs : 0x800000008000000 ||| m = m) (h : Foot m z t) (a0 : _) :
    Foot m z (State.makeReady a0 t) := by
  refine Foot.step (m := 0x800000008000000) ?_ hs h
  clear h hs
  have h := Foot.refl 0x800000008000000 t
  unfold State.makeReady
  repeat' first
    | with_reducible assumption
    | (intro x; first | (refine Foot.cut (P := Foot 0x800000008000000 t x) ?_ ?_; rotate_left; subst x; rotate_left; intro hx; clear_value x) | clear_value x | skip)
    | lift_lets
    | with_reducible refine foot_modEngine rfl ?_ ..
    | with_reducible refine foot_setFbit (blk_LE_PALACT_ACT ..) rfl ?_ ..
    | with_reducible apply Foot.ite
    | split
    | dsimp only

theorem foot_overrun {m : Nat} {z t : State} (hs : 0x7a280100acea4f80 ||| m = m) (h : Foot m z t) (a0 : _) :
    Foot m z (State.overrun a0 t) := by
  refine Foot.step (m := 0x7a280100acea4f80) ?_ hs h
  clear h hs
  have h := Foot.refl 0x7a280100acea4f80 t
  unfold State.overrun
  repeat' first
    | with_reducible assumption
    | (intro x; first
        | (refine Foot.cut (P := Foot 0x7a280100acea4f80 t x) ?_ ?_; rotate_left; subst x; rotate_left; intro hx; clear_value x)
        | (refine Foot.cut (P := PairFoot 0x7a280100acea4f80 t x) ?_ ?_; rotate_left; subst x; rotate_left; intro hx; clear_value x)
        | (refine Foot.cut (P := OptFoot 0x7a280100acea4f80 t x) ?_ ?_; rotate_left; subst x; rotate_left; intro hx; clear_value x)
        | (have hf := fun a => x a; clear hf; subst x)
        | (have hf := x.programmed; clear hf)
        | clear_value x
        | skip)
    | lift_lets
    | with_reducible refine foot_makeReady rfl ?_ ..
    | with_reducible refine foot_modEngine rfl ?_ ..
    | with_reducible refine foot_raise rfl ?_ ..
    | with_reducible refine foot_dropAct rfl ?_ ..
    | with_reducible refine foot_setFlag (blk_LE_SLOTSTAT_OVERRUNS ..) rfl ?_ ..
    | with_reducible refine foot_setFlag (blk_LE_SLOTSTAT_PENDING ..) rfl ?_ ..
    | with_reducible refine foot_setFlag (blk_LE_SLOTSTAT_RUNAWAY ..) rfl ?_ ..
    | with_reducible refine foot_incSat (blk_LE_SLOTSTAT_OVERRUNS ..) rfl ?_ ..
    | with_reducible refine foot_incSat (blk_LE_SLOTSTAT_PENDING ..) rfl ?_ ..
    | with_reducible refine foot_incSat (blk_LE_SLOTSTAT_RUNAWAY ..) rfl ?_ ..
    | with_reducible refine Foot.foldl (fun _ _ _ => ?_) ?_
    | with_reducible refine PairFoot.foldl (fun _ _ _ => ?_) ?_
    | with_reducible apply Foot.ite
    | with_reducible apply PairFoot.ite
    | with_reducible apply OptFoot.ite
    | with_reducible apply OutFoot.ite
    | with_reducible apply ExFoot.ite
    | with_reducible exact ExFoot.error
    | with_reducible refine ExFoot.ok ?_
    | with_reducible refine PairFoot.forL (fun _ _ _ => ?_) ?_
    | with_reducible refine PairFoot.forN (fun _ _ _ => ?_) ?_
    | with_reducible refine OptFoot.some ?_
    | with_reducible exact OptFoot.none
    | with_reducible refine OutFoot.next ?_
    | with_reducible refine OptFoot.getD ?_ ?_
    | with_reducible refine PairFoot.snd ?_
    | with_reducible exact PairFoot.out (by assumption)
    | with_reducible refine PairFoot.eq (by assumption) ?_
    | with_reducible refine OptFoot.eq (by assumption) ?_
    | with_reducible refine ExFoot.eq (by assumption) ?_
    | ((with_reducible refine Foot.lit ?_ rfl rfl ?_ ?_ ?_ ?_ ?_ ?_); rotate_left; rfl; rfl; rfl; rfl; (first | exact Nat.le_refl _ | exact Nat.le_succ _); (constructor <;> first | with_reducible exact Kept.same | exact Kept.masked rfl); (first | with_reducible assumption | with_reducible refine foot_makeReady rfl ?_ .. | with_reducible refine foot_modEngine rfl ?_ .. | with_reducible refine foot_raise rfl ?_ .. | with_reducible refine foot_dropAct rfl ?_ .. | with_reducible refine foot_setFlag (blk_LE_SLOTSTAT_OVERRUNS ..) rfl ?_ .. | with_reducible refine foot_setFlag (blk_LE_SLOTSTAT_PENDING ..) rfl ?_ .. | with_reducible refine foot_setFlag (blk_LE_SLOTSTAT_RUNAWAY ..) rfl ?_ .. | with_reducible refine foot_incSat (blk_LE_SLOTSTAT_OVERRUNS ..) rfl ?_ .. | with_reducible refine foot_incSat (blk_LE_SLOTSTAT_PENDING ..) rfl ?_ .. | with_reducible refine foot_incSat (blk_LE_SLOTSTAT_RUNAWAY ..) rfl ?_ .. | with_reducible refine Foot.foldl (fun _ _ _ => ?_) ?_ | with_reducible refine PairFoot.foldl (fun _ _ _ => ?_) ?_ | with_reducible apply Foot.ite | with_reducible apply PairFoot.ite | with_reducible apply OptFoot.ite | with_reducible apply OutFoot.ite | with_reducible apply ExFoot.ite | with_reducible exact ExFoot.error | with_reducible refine ExFoot.ok ?_ | with_reducible refine PairFoot.forL (fun _ _ _ => ?_) ?_ | with_reducible refine PairFoot.forN (fun _ _ _ => ?_) ?_ | with_reducible refine OptFoot.some ?_ | with_reducible exact OptFoot.none | with_reducible refine OutFoot.next ?_ | with_reducible refine OptFoot.getD ?_ ?_ | with_reducible refine PairFoot.snd ?_))
    | split
    | with_reducible refine PairFoot.mk ?_
    | dsimp only

theorem foot_execActivationReady {m : Nat} {z t : State} (hs : 0x7a280900bcea4f88 ||| m = m) (h : Foot m z t) (a0 : _) :
    OutFoot m z (execActivationReady a0 t) := by
  refine OutFoot.step (m := 0x7a280900bcea4f88) ?_ hs h
  clear h hs
  have h := Foot.refl 0x7a280900bcea4f88 t
  unfold execActivationReady
  repeat' first
    | with_reducible assumption
    | (intro x; first | (refine Foot.cut (P := Foot 0x7a280900bcea4f88 t x) ?_ ?_; rotate_left; subst x; rotate_left; intro hx; clear_value x) | clear_value x | skip)
    | lift_lets
    | with_reducible refine foot_overrun rfl ?_ ..
    | with_reducible refine foot_makeReady rfl ?_ ..
    | with_reducible refine foot_modSlot rfl ?_ ..
    | with_reducible refine foot_rampWrites rfl ?_ ..
    | with_reducible apply Foot.ite
    | with_reducible refine OutFoot.next ?_
    | split
    | dsimp only

theorem foot_stdRun {m : Nat} {z t : State} (hs : 0x7a280900bcea4f88 ||| m = m) (h : Foot m z t) (a0 : _) (a1 : _) :
    Foot m z (State.stdRun a0 a1 t) := by
  refine Foot.step (m := 0x7a280900bcea4f88) ?_ hs h
  clear h hs
  have h := Foot.refl 0x7a280900bcea4f88 t
  unfold State.stdRun
  repeat' first
    | with_reducible assumption
    | (intro x; first | clear_value x | skip)
    | lift_lets
    | with_reducible refine foot_leCorrect rfl ?_ ..
    | with_reducible refine foot_leException rfl ?_ ..
    | with_reducible refine foot_stdSample rfl ?_ ..
    | with_reducible refine foot_setRunning rfl ?_ ..
    | with_reducible refine Foot.forL (fun _ _ _ => ?_) ?_
    | with_reducible apply Foot.ite
    | with_reducible refine PairFoot.snd ?_
    | split
    | dsimp only

theorem foot_execActivationStart {m : Nat} {z t : State} (hs : 0x7a280900bcea4f88 ||| m = m) (h : Foot m z t) (a0 : _) :
    OutFoot m z (execActivationStart a0 t) := by
  refine OutFoot.step (m := 0x7a280900bcea4f88) ?_ hs h
  clear h hs
  have h := Foot.refl 0x7a280900bcea4f88 t
  unfold execActivationStart
  repeat' first
    | with_reducible assumption
    | (intro x; first | (refine Foot.cut (P := Foot 0x7a280900bcea4f88 t x) ?_ ?_; rotate_left; subst x; rotate_left; intro hx; clear_value x) | clear_value x | skip)
    | lift_lets
    | with_reducible refine foot_modEngine rfl ?_ ..
    | with_reducible refine foot_stdRun rfl ?_ ..
    | with_reducible apply Foot.ite
    | with_reducible refine OutFoot.next ?_
    | split
    | dsimp only

theorem foot_commitWindow {m : Nat} {z t : State} (hs : 0x200000000c280000 ||| m = m) (h : Foot m z t) (a0 : _) (a1 : _) (a2 : _) (a3 : _) :
    Foot m z (State.commitWindow a0 a1 a2 a3 t) := by
  refine Foot.step (m := 0x200000000c280000) ?_ hs h
  clear h hs
  have h := Foot.refl 0x200000000c280000 t
  unfold State.commitWindow
  repeat' first
    | with_reducible assumption
    | (intro x; first | (refine Foot.cut (P := Foot 0x200000000c280000 t x) ?_ ?_; rotate_left; subst x; rotate_left; intro hx; clear_value x) | clear_value x | skip)
    | lift_lets
    | with_reducible refine foot_modEngine rfl ?_ ..
    | with_reducible refine foot_genAdvance rfl ?_ ..
    | with_reducible refine foot_modAxis rfl ?_ ..
    | with_reducible refine Foot.forN (fun _ _ _ => ?_) ?_
    | with_reducible apply Foot.ite
    | ((with_reducible refine Foot.lit ?_ rfl rfl ?_ ?_ ?_ ?_ ?_ ?_); rotate_left; rfl; rfl; rfl; rfl; (first | exact Nat.le_refl _ | exact Nat.le_succ _); (constructor <;> first | with_reducible exact Kept.same | exact Kept.masked rfl); (first | with_reducible assumption | with_reducible refine foot_modEngine rfl ?_ .. | with_reducible refine foot_genAdvance rfl ?_ .. | with_reducible refine foot_modAxis rfl ?_ .. | with_reducible refine Foot.forN (fun _ _ _ => ?_) ?_ | with_reducible apply Foot.ite))
    | split
    | dsimp only

theorem foot_copyFlags {m : Nat} {z t : State} (hs : 0x7a280100a4ea4f80 ||| m = m) (h : Foot m z t) (a0 : _) :
    Foot m z (State.copyFlags a0 t) := by
  refine Foot.step (m := 0x7a280100a4ea4f80) ?_ hs h
  clear h hs
  have h := Foot.refl 0x7a280100a4ea4f80 t
  unfold State.copyFlags
  repeat' first
    | with_reducible assumption
    | (intro x; first | (refine Foot.cut (P := Foot 0x7a280100a4ea4f80 t x) ?_ ?_; rotate_left; subst x; rotate_left; intro hx; clear_value x) | clear_value x | skip)
    | lift_lets
    | with_reducible refine foot_raise rfl ?_ ..
    | with_reducible refine foot_setRegB (blk_LE_SLOTFLG_SEQ ..) rfl ?_ ..
    | with_reducible apply Foot.ite
    | split
    | dsimp only

theorem foot_finishAct {m : Nat} {z t : State} (hs : 0x7a280900acea4f88 ||| m = m) (h : Foot m z t) (a0 : _) (a1 : _) :
    Foot m z (State.finishAct a0 a1 t) := by
  refine Foot.step (m := 0x7a280900acea4f88) ?_ hs h
  clear h hs
  have h := Foot.refl 0x7a280900acea4f88 t
  unfold State.finishAct
  repeat' first
    | with_reducible assumption
    | (intro x; first | (refine Foot.cut (P := Foot 0x7a280900acea4f88 t x) ?_ ?_; rotate_left; subst x; rotate_left; intro hx; clear_value x) | clear_value x | skip)
    | lift_lets
    | with_reducible refine foot_commitWindow rfl ?_ ..
    | with_reducible refine foot_setDsc rfl ?_ ..
    | with_reducible refine foot_bhtCommitted rfl ?_ ..
    | with_reducible refine foot_copyFlags rfl ?_ ..
    | with_reducible refine foot_stickyFlags rfl ?_ ..
    | with_reducible refine foot_setFld (blk_LE_SLOTSTAT_DLMISS ..) rfl ?_ ..
    | with_reducible refine foot_setFld (blk_LE_SLOTTIME_MAX ..) rfl ?_ ..
    | with_reducible refine foot_setFld (blk_LE_SLOTTIME_LAST ..) rfl ?_ ..
    | with_reducible refine foot_incSat (blk_LE_SLOTSTAT_DLMISS ..) rfl ?_ ..
    | with_reducible refine foot_incSat (blk_LE_SLOTTIME_MAX ..) rfl ?_ ..
    | with_reducible refine foot_incSat (blk_LE_SLOTTIME_LAST ..) rfl ?_ ..
    | with_reducible apply Foot.ite
    | split
    | dsimp only

theorem foot_leWrite {m : Nat} {z t : State} (hs : 0x80000000088 ||| m = m) (h : Foot m z t) (a0 : _) (a1 : _) (a2 : _) :
    Foot m z (State.leWrite a0 a1 a2 t) := by
  refine Foot.step (m := 0x80000000088) ?_ hs h
  clear h hs
  have h := Foot.refl 0x80000000088 t
  unfold State.leWrite
  repeat' first
    | with_reducible assumption
    | (intro x; first | clear_value x | skip)
    | lift_lets
    | with_reducible refine foot_store rfl ?_ ..
    | with_reducible apply Foot.ite
    | split
    | dsimp only

theorem foot_execLeFabricWrite {m : Nat} {z t : State} (hs : 0x80000000088 ||| m = m) (h : Foot m z t) (a0 : _) (a1 : _) (a2 : _) (a3 : _) (a4 : _) :
    OutFoot m z (execLeFabricWrite a0 a1 a2 a3 a4 t) := by
  refine OutFoot.step (m := 0x80000000088) ?_ hs h
  clear h hs
  have h := Foot.refl 0x80000000088 t
  unfold execLeFabricWrite
  repeat' first
    | with_reducible assumption
    | (intro x; first | clear_value x | skip)
    | lift_lets
    | with_reducible refine foot_leWrite rfl ?_ ..
    | with_reducible refine OutFoot.next ?_
    | split
    | dsimp only

theorem foot_execScrubRead {m : Nat} {z t : State} (hs : 0x7a280100a4ea4f80 ||| m = m) (h : Foot m z t) (a0 : _) (a1 : _) :
    OutFoot m z (execScrubRead a0 a1 t) := by
  refine OutFoot.step (m := 0x7a280100a4ea4f80) ?_ hs h
  clear h hs
  have h := Foot.refl 0x7a280100a4ea4f80 t
  unfold execScrubRead
  repeat' first
    | with_reducible assumption
    | (intro x; first | clear_value x | skip)
    | lift_lets
    | with_reducible refine foot_leCorrect rfl ?_ ..
    | with_reducible refine foot_raise rfl ?_ ..
    | with_reducible refine foot_incSat (blk_LE_ECC_UNCORR ..) rfl ?_ ..
    | with_reducible apply Foot.ite
    | with_reducible refine OutFoot.next ?_
    | split
    | dsimp only

theorem foot_palReqWrite {m : Nat} {z t : State} (hs : 0x800000010000000 ||| m = m) (h : Foot m z t) (a0 : _) (a1 : _) (a2 : _) :
    Foot m z (State.palReqWrite a0 a1 a2 t) := by
  refine Foot.step (m := 0x800000010000000) ?_ hs h
  clear h hs
  have h := Foot.refl 0x800000010000000 t
  unfold State.palReqWrite
  repeat' first
    | with_reducible assumption
    | (intro x; first | (refine Foot.cut (P := Foot 0x800000010000000 t x) ?_ ?_; rotate_left; subst x; rotate_left; intro hx; clear_value x) | clear_value x | skip)
    | lift_lets
    | with_reducible refine foot_modSlot rfl ?_ ..
    | with_reducible refine foot_setFbit (blk_LE_PALREQ_REQ ..) rfl ?_ ..
    | with_reducible refine foot_setFbit (blk_LE_PALACT_ACT ..) rfl ?_ ..
    | with_reducible refine foot_setRegB (blk_LE_PALREQ_REQ ..) rfl ?_ ..
    | with_reducible refine foot_setRegB (blk_LE_PALACT_ACT ..) rfl ?_ ..
    | with_reducible refine Foot.forN (fun _ _ _ => ?_) ?_
    | with_reducible apply Foot.ite
    | split
    | dsimp only

theorem foot_execLePalreqWrite {m : Nat} {z t : State} (hs : 0x800000010000000 ||| m = m) (h : Foot m z t) (a0 : _) (a1 : _) (a2 : _) (a3 : _) :
    OutFoot m z (execLePalreqWrite a0 a1 a2 a3 t) := by
  refine OutFoot.step (m := 0x800000010000000) ?_ hs h
  clear h hs
  have h := Foot.refl 0x800000010000000 t
  unfold execLePalreqWrite
  repeat' first
    | with_reducible assumption
    | (intro x; first | clear_value x | skip)
    | lift_lets
    | with_reducible refine foot_palReqWrite rfl ?_ ..
    | with_reducible refine OutFoot.next ?_
    | split
    | dsimp only

theorem foot_palGrpWrite {m : Nat} {z t : State} (hs : 0x800000010000000 ||| m = m) (h : Foot m z t) (a0 : _) :
    Foot m z (State.palGrpWrite a0 t) := by
  refine Foot.step (m := 0x800000010000000) ?_ hs h
  clear h hs
  have h := Foot.refl 0x800000010000000 t
  unfold State.palGrpWrite
  repeat' first
    | with_reducible assumption
    | (intro x; first | clear_value x | skip)
    | lift_lets
    | with_reducible refine foot_modSlot rfl ?_ ..
    | with_reducible refine foot_setFbit (blk_LE_PALREQ_REQ ..) rfl ?_ ..
    | with_reducible refine Foot.forN (fun _ _ _ => ?_) ?_
    | with_reducible apply Foot.ite
    | split
    | dsimp only

theorem foot_execLePalgrpWrite {m : Nat} {z t : State} (hs : 0x800000010000000 ||| m = m) (h : Foot m z t) (a0 : _) (a1 : _) (a2 : _) :
    OutFoot m z (execLePalgrpWrite a0 a1 a2 t) := by
  refine OutFoot.step (m := 0x800000010000000) ?_ hs h
  clear h hs
  have h := Foot.refl 0x800000010000000 t
  unfold execLePalgrpWrite
  repeat' first
    | with_reducible assumption
    | (intro x; first | clear_value x | skip)
    | lift_lets
    | with_reducible refine foot_palGrpWrite rfl ?_ ..
    | with_reducible refine OutFoot.next ?_
    | split
    | dsimp only

theorem foot_lcmd {m : Nat} {z t : State} (hs : 0x80000000088 ||| m = m) (h : Foot m z t) (a0 : _) (a1 : _) :
    Foot m z (State.lcmd a0 a1 t) := by
  refine Foot.step (m := 0x80000000088) ?_ hs h
  clear h hs
  have h := Foot.refl 0x80000000088 t
  unfold State.lcmd
  repeat' first
    | with_reducible assumption
    | (intro x; first | clear_value x | skip)
    | lift_lets
    | with_reducible refine foot_leWrite rfl ?_ ..
    | split
    | dsimp only

theorem foot_execLearnStart {m : Nat} {z t : State} (hs : 0x80000000088 ||| m = m) (h : Foot m z t) (a0 : _) (a1 : _) (a2 : _) :
    OutFoot m z (execLearnStart a0 a1 a2 t) := by
  refine OutFoot.step (m := 0x80000000088) ?_ hs h
  clear h hs
  have h := Foot.refl 0x80000000088 t
  unfold execLearnStart
  repeat' first
    | with_reducible assumption
    | (intro x; first | clear_value x | skip)
    | lift_lets
    | with_reducible refine foot_lcmd rfl ?_ ..
    | with_reducible refine OutFoot.next ?_
    | split
    | dsimp only

theorem foot_execLearnEnd {m : Nat} {z t : State} (hs : 0x80000000088 ||| m = m) (h : Foot m z t) (a0 : _) (a1 : _) :
    OutFoot m z (execLearnEnd a0 a1 t) := by
  refine OutFoot.step (m := 0x80000000088) ?_ hs h
  clear h hs
  have h := Foot.refl 0x80000000088 t
  unfold execLearnEnd
  repeat' first
    | with_reducible assumption
    | (intro x; first | clear_value x | skip)
    | lift_lets
    | with_reducible refine foot_lcmd rfl ?_ ..
    | with_reducible refine OutFoot.next ?_
    | split
    | dsimp only

theorem foot_execLearnAbort {m : Nat} {z t : State} (hs : 0x80000000088 ||| m = m) (h : Foot m z t) (a0 : _) (a1 : _) :
    OutFoot m z (execLearnAbort a0 a1 t) := by
  refine OutFoot.step (m := 0x80000000088) ?_ hs h
  clear h hs
  have h := Foot.refl 0x80000000088 t
  unfold execLearnAbort
  repeat' first
    | with_reducible assumption
    | (intro x; first | clear_value x | skip)
    | lift_lets
    | with_reducible refine foot_lcmd rfl ?_ ..
    | with_reducible refine OutFoot.next ?_
    | split
    | dsimp only

theorem foot_execRestore {m : Nat} {z t : State} (hs : 0x80000000088 ||| m = m) (h : Foot m z t) (a0 : _) (a1 : _) :
    OutFoot m z (execRestore a0 a1 t) := by
  refine OutFoot.step (m := 0x80000000088) ?_ hs h
  clear h hs
  have h := Foot.refl 0x80000000088 t
  unfold execRestore
  repeat' first
    | with_reducible assumption
    | (intro x; first | clear_value x | skip)
    | lift_lets
    | with_reducible refine foot_lcmd rfl ?_ ..
    | with_reducible refine OutFoot.next ?_
    | split
    | dsimp only

theorem foot_execClrSticky {m : Nat} {z t : State} (hs : 0x80000000088 ||| m = m) (h : Foot m z t) (a0 : _) (a1 : _) :
    OutFoot m z (execClrSticky a0 a1 t) := by
  refine OutFoot.step (m := 0x80000000088) ?_ hs h
  clear h hs
  have h := Foot.refl 0x80000000088 t
  unfold execClrSticky
  repeat' first
    | with_reducible assumption
    | (intro x; first | clear_value x | skip)
    | lift_lets
    | with_reducible refine foot_lcmd rfl ?_ ..
    | with_reducible refine OutFoot.next ?_
    | split
    | dsimp only

end Sys2Proof.Machine
end

