-- ==== Sys2Proof/Laws/FootMotion.lean ====
section
/-!
SUPPORT. Footprints of the operations of Machine/Motion.lean.
-/

set_option Elab.async false

set_option linter.all false

set_option maxRecDepth 4000

namespace Sys2Proof.Machine

theorem foot_axParamWrite {m : Nat} {z t : State} (hs : 0xffffff0004000000 ||| m = m) (h : Foot m z t) (a0 : _) (a1 : _) (a2 : _) :
    Foot m z (State.axParamWrite a0 a1 a2 t) := by
  refine Foot.step (m := 0xffffff0004000000) ?_ hs h
  clear h hs
  have h := Foot.refl 0xffffff0004000000 t
  unfold State.axParamWrite
  repeat' first
    | with_reducible assumption
    | (intro x; first | (refine Foot.cut (P := Foot 0xffffff0004000000 t x) ?_ ?_; rotate_left; subst x; rotate_left; intro hx; clear_value x) | clear_value x | skip)
    | lift_lets
    | with_reducible refine foot_axQueue rfl ?_ ..
    | with_reducible refine foot_plainAll rfl ?_ ..
    | with_reducible apply Foot.ite
    | split
    | dsimp only

theorem foot_axRefuse {m : Nat} {z t : State} (hs : 0x2000000000000000 ||| m = m) (h : Foot m z t) (a0 : _) :
    Foot m z (State.axRefuse a0 t) := by
  refine Foot.step (m := 0x2000000000000000) ?_ hs h
  clear h hs
  have h := Foot.refl 0x2000000000000000 t
  unfold State.axRefuse
  repeat' first
    | with_reducible assumption
    | (intro x; first | clear_value x | skip)
    | lift_lets
    | with_reducible refine foot_setFlag (blk_AX_STAT_TGT_REFUSED ..) rfl ?_ ..
    | split
    | dsimp only

theorem foot_axMove {m : Nat} {z t : State} (hs : 0x2000000004000000 ||| m = m) (h : Foot m z t) (a0 : _) (a1 : _) (a2 : _) :
    Foot m z (State.axMove a0 a1 a2 t) := by
  refine Foot.step (m := 0x2000000004000000) ?_ hs h
  clear h hs
  have h := Foot.refl 0x2000000004000000 t
  unfold State.axMove
  repeat' first
    | with_reducible assumption
    | (intro x; first
        | (refine Foot.cut (P := Foot 0x2000000004000000 t x) ?_ ?_; rotate_left; subst x; rotate_left; intro hx; clear_value x)
        | (refine Foot.cut (P := PairFoot 0x2000000004000000 t x) ?_ ?_; rotate_left; subst x; rotate_left; intro hx; clear_value x)
        | (refine Foot.cut (P := OptFoot 0x2000000004000000 t x) ?_ ?_; rotate_left; subst x; rotate_left; intro hx; clear_value x)
        | (have hf := x.programmed; clear hf)
        | clear_value x
        | skip)
    | lift_lets
    | with_reducible refine foot_axRefuse rfl ?_ ..
    | with_reducible refine foot_axQueue rfl ?_ ..
    | with_reducible refine foot_setFld (blk_AX_STAT_RESULT ..) rfl ?_ ..
    | with_reducible refine Foot.foldl (fun _ _ _ => ?_) ?_
    | with_reducible refine PairFoot.foldl (fun _ _ _ => ?_) ?_
    | with_reducible apply Foot.ite
    | with_reducible apply PairFoot.ite
    | with_reducible apply OptFoot.ite
    | with_reducible apply OutFoot.ite
    | with_reducible apply ExFoot.ite
    | with_reducible exact ExFoot.error
    | with_reducible refine ExFoot.ok ?_
    | with_reducible refine PairFoot.forL (fun _ _ _ => ?_) ?_
    | with_reducible refine PairFoot.forN (fun _ _ _ => ?_) ?_
    | with_reducible refine OptFoot.some ?_
    | with_reducible exact OptFoot.none
    | with_reducible refine OutFoot.next ?_
    | with_reducible refine OptFoot.getD ?_ ?_
    | with_reducible refine PairFoot.snd ?_
    | with_reducible exact PairFoot.out (by assumption)
    | with_reducible refine PairFoot.eq (by assumption) ?_
    | with_reducible refine OptFoot.eq (by assumption) ?_
    | with_reducible refine ExFoot.eq (by assumption) ?_
    | ((with_reducible refine Foot.lit ?_ rfl rfl ?_ ?_ ?_ ?_ ?_ ?_); rotate_left; rfl; rfl; rfl; rfl; (first | exact Nat.le_refl _ | exact Nat.le_succ _); (constructor <;> first | with_reducible exact Kept.same | exact Kept.masked rfl); (first | with_reducible assumption | with_reducible refine foot_axRefuse rfl ?_ .. | with_reducible refine foot_axQueue rfl ?_ .. | with_reducible refine foot_setFld (blk_AX_STAT_RESULT ..) rfl ?_ .. | with_reducible refine Foot.foldl (fun _ _ _ => ?_) ?_ | with_reducible refine PairFoot.foldl (fun _ _ _ => ?_) ?_ | with_reducible apply Foot.ite | with_reducible apply PairFoot.ite | with_reducible apply OptFoot.ite | with_reducible apply OutFoot.ite | with_reducible apply ExFoot.ite | with_reducible exact ExFoot.error | with_reducible refine ExFoot.ok ?_ | with_reducible refine PairFoot.forL (fun _ _ _ => ?_) ?_ | with_reducible refine PairFoot.forN (fun _ _ _ => ?_) ?_ | with_reducible refine OptFoot.some ?_ | with_reducible exact OptFoot.none | with_reducible refine OutFoot.next ?_ | with_reducible refine OptFoot.getD ?_ ?_ | with_reducible refine PairFoot.snd ?_))
    | split
    | with_reducible refine PairFoot.mk ?_
    | dsimp only

theorem foot_axLimitFault {m : Nat} {z t : State} (hs : 0x72280100a4ea4f80 ||| m = m) (h : Foot m z t) (a0 : _) :
    Foot m z (State.axLimitFault a0 t) := by
  refine Foot.step (m := 0x72280100a4ea4f80) ?_ hs h
  clear h hs
  have h := Foot.refl 0x72280100a4ea4f80 t
  unfold State.axLimitFault
  repeat' first
    | with_reducible assumption
    | (intro x; first | (refine Foot.cut (P := Foot 0x72280100a4ea4f80 t x) ?_ ?_; rotate_left; subst x; rotate_left; intro hx; clear_value x) | clear_value x | skip)
    | lift_lets
    | with_reducible refine foot_axRem rfl ?_ ..
    | with_reducible refine foot_raise rfl ?_ ..
    | with_reducible refine foot_setAxState rfl ?_ ..
    | with_reducible refine foot_setFld (blk_AX_STAT_LIMIT_FAULT ..) rfl ?_ ..
    | with_reducible refine foot_setFld (blk_AX_STAT_STOP_CAUSE ..) rfl ?_ ..
    | with_reducible refine foot_setFlag (blk_AX_STAT_LIMIT_FAULT ..) rfl ?_ ..
    | with_reducible refine foot_setFlag (blk_AX_STAT_STOP_CAUSE ..) rfl ?_ ..
    | split
    | dsimp only

theorem foot_axTake {m : Nat} {z t : State} (hs : 0x1000000004000000 ||| m = m) (h : Foot m z t) (a0 : _) (a1 : _) :
    Foot m z (State.axTake a0 a1 t) := by
  refine Foot.step (m := 0x1000000004000000) ?_ hs h
  clear h hs
  have h := Foot.refl 0x1000000004000000 t
  unfold State.axTake
  repeat' first
    | with_reducible assumption
    | (intro x; first | clear_value x | skip)
    | lift_lets
    | with_reducible refine foot_modAxis rfl ?_ ..
    | with_reducible refine foot_incSat (blk_PP_STAT_REPLANS ..) rfl ?_ ..
    | split
    | dsimp only

theorem foot_axReplan {m : Nat} {z t : State} (hs : 0x72280100a4ea4f80 ||| m = m) (h : Foot m z t) (a0 : _) :
    Foot m z (State.axReplan a0 t) := by
  refine Foot.step (m := 0x72280100a4ea4f80) ?_ hs h
  clear h hs
  have h := Foot.refl 0x72280100a4ea4f80 t
  unfold State.axReplan
  repeat' first
    | with_reducible assumption
    | (intro x; first | clear_value x | skip)
    | lift_lets
    | with_reducible refine foot_axLimitFault rfl ?_ ..
    | with_reducible refine foot_axTake rfl ?_ ..
    | with_reducible refine foot_setFlag (blk_AX_STAT_LIMIT_DECEL ..) rfl ?_ ..
    | with_reducible apply Foot.ite
    | split
    | dsimp only

theorem foot_axGo {m : Nat} {z t : State} (hs : 0x72280100a4ea4f80 ||| m = m) (h : Foot m z t) (a0 : _) :
    Foot m z (State.axGo a0 t) := by
  refine Foot.step (m := 0x72280100a4ea4f80) ?_ hs h
  clear h hs
  have h := Foot.refl 0x72280100a4ea4f80 t
  unfold State.axGo
  repeat' first
    | with_reducible assumption
    | (intro x; first | (refine Foot.cut (P := Foot 0x72280100a4ea4f80 t x) ?_ ?_; rotate_left; subst x; rotate_left; intro hx; clear_value x) | clear_value x | skip)
    | lift_lets
    | with_reducible refine foot_modAxis rfl ?_ ..
    | with_reducible refine foot_setAxState rfl ?_ ..
    | with_reducible refine foot_axReplan rfl ?_ ..
    | with_reducible refine foot_setFld (blk_STALL_STAT_COUNT ..) rfl ?_ ..
    | with_reducible refine foot_setFld (blk_AX_STAT_STOP_CAUSE ..) rfl ?_ ..
    | with_reducible apply Foot.ite
    | split
    | dsimp only

theorem foot_axBrake {m : Nat} {z t : State} (hs : 0x72280100a4ea4f80 ||| m = m) (h : Foot m z t) (a0 : _) (a1 : _) (a2 : _) :
    Foot m z (State.axBrake a0 a1 a2 t) := by
  refine Foot.step (m := 0x72280100a4ea4f80) ?_ hs h
  clear h hs
  have h := Foot.refl 0x72280100a4ea4f80 t
  unfold State.axBrake
  repeat' first
    | with_reducible assumption
    | (intro x; first | (refine Foot.cut (P := Foot 0x72280100a4ea4f80 t x) ?_ ?_; rotate_left; subst x; rotate_left; intro hx; clear_value x) | clear_value x | skip)
    | lift_lets
    | with_reducible refine foot_axLimitFault rfl ?_ ..
    | with_reducible refine foot_axTake rfl ?_ ..
    | with_reducible refine foot_setAxState rfl ?_ ..
    | with_reducible refine foot_setFld (blk_AX_STAT_STOP_CAUSE ..) rfl ?_ ..
    | with_reducible refine foot_setFld (blk_AX_STAT_LIMIT_DECEL ..) rfl ?_ ..
    | with_reducible refine foot_setFlag (blk_AX_STAT_STOP_CAUSE ..) rfl ?_ ..
    | with_reducible refine foot_setFlag (blk_AX_STAT_LIMIT_DECEL ..) rfl ?_ ..
    | with_reducible apply Foot.ite
    | split
    | dsimp only

theorem foot_axArrive {m : Nat} {z t : State} (hs : 0x30080000042a0000 ||| m = m) (h : Foot m z t) (a0 : _) :
    Foot m z (State.axArrive a0 t) := by
  refine Foot.step (m := 0x30080000042a0000) ?_ hs h
  clear h hs
  have h := Foot.refl 0x30080000042a0000 t
  unfold State.axArrive
  repeat' first
    | with_reducible assumption
    | (intro x; first | (refine Foot.cut (P := Foot 0x30080000042a0000 t x) ?_ ?_; rotate_left; subst x; rotate_left; intro hx; clear_value x) | clear_value x | skip)
    | lift_lets
    | with_reducible refine foot_axInhibit rfl ?_ ..
    | with_reducible refine foot_axRem rfl ?_ ..
    | with_reducible refine foot_modAxis rfl ?_ ..
    | with_reducible refine foot_setAxState rfl ?_ ..
    | with_reducible refine foot_setFld (blk_AX_STAT_STOP_CAUSE ..) rfl ?_ ..
    | with_reducible apply Foot.ite
    | split
    | dsimp only

theorem foot_axFollow {m : Nat} {z t : State} (hs : 0x30080000042a0000 ||| m = m) (h : Foot m z t) (a0 : _) :
    Foot m z (State.axFollow a0 t) := by
  refine Foot.step (m := 0x30080000042a0000) ?_ hs h
  clear h hs
  have h := Foot.refl 0x30080000042a0000 t
  unfold State.axFollow
  repeat' first
    | with_reducible assumption
    | (intro x; first
        | (refine Foot.cut (P := Foot 0x30080000042a0000 t x) ?_ ?_; rotate_left; subst x; rotate_left; intro hx; clear_value x)
        | (refine Foot.cut (P := PairFoot 0x30080000042a0000 t x) ?_ ?_; rotate_left; subst x; rotate_left; intro hx; clear_value x)
        | (refine Foot.cut (P := OptFoot 0x30080000042a0000 t x) ?_ ?_; rotate_left; subst x; rotate_left; intro hx; clear_value x)
        | (have hf := x.programmed; clear hf)
        | clear_value x
        | skip)
    | lift_lets
    | with_reducible refine foot_axArrive rfl ?_ ..
    | with_reducible refine foot_modAxis rfl ?_ ..
    | with_reducible refine Foot.foldl (fun _ _ _ => ?_) ?_
    | with_reducible refine PairFoot.foldl (fun _ _ _ => ?_) ?_
    | with_reducible apply Foot.ite
    | with_reducible apply PairFoot.ite
    | with_reducible apply OptFoot.ite
    | with_reducible apply OutFoot.ite
    | with_reducible apply ExFoot.ite
    | with_reducible exact ExFoot.error
    | with_reducible refine ExFoot.ok ?_
    | with_reducible refine PairFoot.forL (fun _ _ _ => ?_) ?_
    | with_reducible refine PairFoot.forN (fun _ _ _ => ?_) ?_
    | with_reducible refine OptFoot.some ?_
    | with_reducible exact OptFoot.none
    | with_reducible refine OutFoot.next ?_
    | with_reducible refine OptFoot.getD ?_ ?_
    | with_reducible refine PairFoot.snd ?_
    | with_reducible exact PairFoot.out (by assumption)
    | with_reducible refine PairFoot.eq (by assumption) ?_
    | with_reducible refine OptFoot.eq (by assumption) ?_
    | with_reducible refine ExFoot.eq (by assumption) ?_
    | ((with_reducible refine Foot.lit ?_ rfl rfl ?_ ?_ ?_ ?_ ?_ ?_); rotate_left; rfl; rfl; rfl; rfl; (first | exact Nat.le_refl _ | exact Nat.le_succ _); (constructor <;> first | with_reducible exact Kept.same | exact Kept.masked rfl); (first | with_reducible assumption | with_reducible refine foot_axArrive rfl ?_ .. | with_reducible refine foot_modAxis rfl ?_ .. | with_reducible refine Foot.foldl (fun _ _ _ => ?_) ?_ | with_reducible refine PairFoot.foldl (fun _ _ _ => ?_) ?_ | with_reducible apply Foot.ite | with_reducible apply PairFoot.ite | with_reducible apply OptFoot.ite | with_reducible apply OutFoot.ite | with_reducible apply ExFoot.ite | with_reducible exact ExFoot.error | with_reducible refine ExFoot.ok ?_ | with_reducible refine PairFoot.forL (fun _ _ _ => ?_) ?_ | with_reducible refine PairFoot.forN (fun _ _ _ => ?_) ?_ | with_reducible refine OptFoot.some ?_ | with_reducible exact OptFoot.none | with_reducible refine OutFoot.next ?_ | with_reducible refine OptFoot.getD ?_ ?_ | with_reducible refine PairFoot.snd ?_))
    | split
    | with_reducible refine PairFoot.mk ?_
    | dsimp only

theorem foot_axVelocity {m : Nat} {z t : State} (hs : 0x2000000004200000 ||| m = m) (h : Foot m z t) (a0 : _) :
    Foot m z (State.axVelocity a0 t) := by
  refine Foot.step (m := 0x2000000004200000) ?_ hs h
  clear h hs
  have h := Foot.refl 0x2000000004200000 t
  unfold State.axVelocity
  repeat' first
    | with_reducible assumption
    | (intro x; first | (refine Foot.cut (P := Foot 0x2000000004200000 t x) ?_ ?_; rotate_left; subst x; rotate_left; intro hx; clear_value x) | clear_value x | skip)
    | lift_lets
    | with_reducible refine foot_setV rfl ?_ ..
    | with_reducible refine foot_genAdvance rfl ?_ ..
    | with_reducible refine foot_modAxis rfl ?_ ..
    | split
    | dsimp only

theorem foot_bhtWatch {m : Nat} {z t : State} (hs : 0x72280100a4ea4f80 ||| m = m) (h : Foot m z t) (a0 : _) :
    Foot m z (State.bhtWatch a0 t) := by
  refine Foot.step (m := 0x72280100a4ea4f80) ?_ hs h
  clear h hs
  have h := Foot.refl 0x72280100a4ea4f80 t
  unfold State.bhtWatch
  repeat' first
    | with_reducible assumption
    | (intro x; first | (refine Foot.cut (P := Foot 0x72280100a4ea4f80 t x) ?_ ?_; rotate_left; subst x; rotate_left; intro hx; clear_value x) | clear_value x | skip)
    | lift_lets
    | with_reducible refine foot_raise rfl ?_ ..
    | with_reducible refine foot_bhtEnd rfl ?_ ..
    | with_reducible refine foot_setFld (blk_SAFE_BHTDEV_COUNTS ..) rfl ?_ ..
    | with_reducible refine foot_setFld (blk_SAFE_BHT_BRK_FAIL ..) rfl ?_ ..
    | with_reducible refine foot_setFbit (blk_SAFE_BHTDEV_COUNTS ..) rfl ?_ ..
    | with_reducible refine foot_setFbit (blk_SAFE_BHT_BRK_FAIL ..) rfl ?_ ..
    | with_reducible apply Foot.ite
    | split
    | dsimp only

theorem foot_axServo {m : Nat} {z t : State} (hs : 0x72280900a4ea4f88 ||| m = m) (h : Foot m z t) (a0 : _) :
    Foot m z (State.axServo a0 t) := by
  refine Foot.step (m := 0x72280900a4ea4f88) ?_ hs h
  clear h hs
  have h := Foot.refl 0x72280900a4ea4f88 t
  unfold State.axServo
  repeat' first
    | with_reducible assumption
    | (intro x; first | (refine Foot.cut (P := Foot 0x72280900a4ea4f88 t x) ?_ ?_; rotate_left; subst x; rotate_left; intro hx; clear_value x) | clear_value x | skip)
    | lift_lets
    | with_reducible refine foot_axSafe rfl ?_ ..
    | with_reducible refine foot_bhtWatch rfl ?_ ..
    | with_reducible refine foot_axRelease rfl ?_ ..
    | with_reducible refine foot_bhtLost rfl ?_ ..
    | with_reducible refine foot_setDsc rfl ?_ ..
    | with_reducible refine foot_raise rfl ?_ ..
    | with_reducible refine foot_modAxis rfl ?_ ..
    | with_reducible refine foot_setFlag (blk_AX_STAT_POS_LOST ..) rfl ?_ ..
    | with_reducible refine foot_setFlag (blk_AX_STAT_FB_LOST ..) rfl ?_ ..
    | with_reducible refine foot_setFlag (blk_FERR ..) rfl ?_ ..
    | with_reducible refine foot_setFlag (blk_AX_STAT_FERR ..) rfl ?_ ..
    | with_reducible refine foot_setSFld (blk_AX_STAT_POS_LOST ..) rfl ?_ ..
    | with_reducible refine foot_setSFld (blk_AX_STAT_FB_LOST ..) rfl ?_ ..
    | with_reducible refine foot_setSFld (blk_FERR ..) rfl ?_ ..
    | with_reducible refine foot_setSFld (blk_AX_STAT_FERR ..) rfl ?_ ..
    | with_reducible apply Foot.ite
    | split
    | dsimp only

theorem foot_axInPos {m : Nat} {z t : State} (hs : 0x2000000000000000 ||| m = m) (h : Foot m z t) (a0 : _) :
    Foot m z (State.axInPos a0 t) := by
  refine Foot.step (m := 0x2000000000000000) ?_ hs h
  clear h hs
  have h := Foot.refl 0x2000000000000000 t
  unfold State.axInPos
  repeat' first
    | with_reducible assumption
    | (intro x; first | clear_value x | skip)
    | lift_lets
    | with_reducible refine foot_setFlag (blk_AX_STAT_IN_POS ..) rfl ?_ ..
    | split
    | dsimp only

theorem foot_axDone {m : Nat} {z t : State} (hs : 0x2000000000000000 ||| m = m) (h : Foot m z t) (a0 : _) :
    Foot m z (State.axDone a0 t) := by
  refine Foot.step (m := 0x2000000000000000) ?_ hs h
  clear h hs
  have h := Foot.refl 0x2000000000000000 t
  unfold State.axDone
  repeat' first
    | with_reducible assumption
    | (intro x; first | clear_value x | skip)
    | lift_lets
    | with_reducible refine foot_setFld (blk_AX_STAT_RESULT ..) rfl ?_ ..
    | with_reducible apply Foot.ite
    | split
    | dsimp only

theorem foot_axSetPos {m : Nat} {z t : State} (hs : 0x2000000004200000 ||| m = m) (h : Foot m z t) (a0 : _) (a1 : _) :
    Foot m z (State.axSetPos a0 a1 t) := by
  refine Foot.step (m := 0x2000000004200000) ?_ hs h
  clear h hs
  have h := Foot.refl 0x2000000004200000 t
  unfold State.axSetPos
  repeat' first
    | with_reducible assumption
    | (intro x; first | (refine Foot.cut (P := Foot 0x2000000004200000 t x) ?_ ?_; rotate_left; subst x; rotate_left; intro hx; clear_value x) | clear_value x | skip)
    | lift_lets
    | with_reducible refine foot_genAdvance rfl ?_ ..
    | with_reducible refine foot_modAxis rfl ?_ ..
    | with_reducible refine foot_setAct rfl ?_ ..
    | with_reducible refine foot_setFlag (blk_AX_STAT_POS_LOST ..) rfl ?_ ..
    | with_reducible refine foot_setFlag (blk_REM_L ..) rfl ?_ ..
    | with_reducible refine foot_setFlag (blk_REM_H ..) rfl ?_ ..
    | with_reducible refine foot_setFld48 (blk_AX_STAT_POS_LOST ..) rfl (blk_AX_STAT_POS_LOST ..) rfl ?_ ..
    | with_reducible refine foot_setFld48 (blk_AX_STAT_POS_LOST ..) rfl (blk_REM_L ..) rfl ?_ ..
    | with_reducible refine foot_setFld48 (blk_AX_STAT_POS_LOST ..) rfl (blk_REM_H ..) rfl ?_ ..
    | with_reducible refine foot_setFld48 (blk_REM_L ..) rfl (blk_AX_STAT_POS_LOST ..) rfl ?_ ..
    | with_reducible refine foot_setFld48 (blk_REM_L ..) rfl (blk_REM_L ..) rfl ?_ ..
    | with_reducible refine foot_setFld48 (blk_REM_L ..) rfl (blk_REM_H ..) rfl ?_ ..
    | with_reducible refine foot_setFld48 (blk_REM_H ..) rfl (blk_AX_STAT_POS_LOST ..) rfl ?_ ..
    | with_reducible refine foot_setFld48 (blk_REM_H ..) rfl (blk_REM_L ..) rfl ?_ ..
    | with_reducible refine foot_setFld48 (blk_REM_H ..) rfl (blk_REM_H ..) rfl ?_ ..
    | split
    | dsimp only

theorem foot_axCommands {m : Nat} {z t : State} (hs : 0x72280100a4ea4f80 ||| m = m) (h : Foot m z t) (a0 : _) :
    Foot m z (State.axCommands a0 t) := by
  refine Foot.step (m := 0x72280100a4ea4f80) ?_ hs h
  clear h hs
  have h := Foot.refl 0x72280100a4ea4f80 t
  unfold State.axCommands
  repeat' first
    | with_reducible assumption
    | (intro x; first
        | (refine Foot.cut (P := Foot 0x72280100a4ea4f80 t x) ?_ ?_; rotate_left; subst x; rotate_left; intro hx; clear_value x)
        | (refine Foot.cut (P := PairFoot 0x72280100a4ea4f80 t x) ?_ ?_; rotate_left; subst x; rotate_left; intro hx; clear_value x)
        | (refine Foot.cut (P := OptFoot 0x72280100a4ea4f80 t x) ?_ ?_; rotate_left; subst x; rotate_left; intro hx; clear_value x)
        | (have hf := fun a => x a; clear hf; subst x)
        | (have hf := x.programmed; clear hf)
        | clear_value x
        | skip)
    | lift_lets
    | with_reducible refine foot_axDone rfl ?_ ..
    | with_reducible refine foot_axRem rfl ?_ ..
    | with_reducible refine foot_axBrake rfl ?_ ..
    | with_reducible refine foot_axGo rfl ?_ ..
    | with_reducible refine foot_modAxis rfl ?_ ..
    | with_reducible refine foot_axSetPos rfl ?_ ..
    | with_reducible refine foot_setAxState rfl ?_ ..
    | with_reducible refine foot_axReplan rfl ?_ ..
    | with_reducible refine foot_setFld (blk_AX_STAT_STOP_CAUSE ..) rfl ?_ ..
    | with_reducible refine foot_setFld (blk_PP_STAT_REPLANS ..) rfl ?_ ..
    | with_reducible refine foot_incSat (blk_AX_STAT_STOP_CAUSE ..) rfl ?_ ..
    | with_reducible refine foot_incSat (blk_PP_STAT_REPLANS ..) rfl ?_ ..
    | with_reducible refine Foot.foldl (fun _ _ _ => ?_) ?_
    | with_reducible refine PairFoot.foldl (fun _ _ _ => ?_) ?_
    | with_reducible apply Foot.ite
    | with_reducible apply PairFoot.ite
    | with_reducible apply OptFoot.ite
    | with_reducible apply OutFoot.ite
    | with_reducible apply ExFoot.ite
    | with_reducible exact ExFoot.error
    | with_reducible refine ExFoot.ok ?_
    | with_reducible refine PairFoot.forL (fun _ _ _ => ?_) ?_
    | with_reducible refine PairFoot.forN (fun _ _ _ => ?_) ?_
    | with_reducible refine OptFoot.some ?_
    | with_reducible exact OptFoot.none
    | with_reducible refine OutFoot.next ?_
    | with_reducible refine OptFoot.getD ?_ ?_
    | with_reducible refine PairFoot.snd ?_
    | with_reducible exact PairFoot.out (by assumption)
    | with_reducible refine PairFoot.eq (by assumption) ?_
    | with_reducible refine OptFoot.eq (by assumption) ?_
    | with_reducible refine ExFoot.eq (by assumption) ?_
    | ((with_reducible refine Foot.lit ?_ rfl rfl ?_ ?_ ?_ ?_ ?_ ?_); rotate_left; rfl; rfl; rfl; rfl; (first | exact Nat.le_refl _ | exact Nat.le_succ _); (constructor <;> first | with_reducible exact Kept.same | exact Kept.masked rfl); (first | with_reducible assumption | with_reducible refine foot_axDone rfl ?_ .. | with_reducible refine foot_axRem rfl ?_ .. | with_reducible refine foot_axBrake rfl ?_ .. | with_reducible refine foot_axGo rfl ?_ .. | with_reducible refine foot_modAxis rfl ?_ .. | with_reducible refine foot_axSetPos rfl ?_ .. | with_reducible refine foot_setAxState rfl ?_ .. | with_reducible refine foot_axReplan rfl ?_ .. | with_reducible refine foot_setFld (blk_AX_STAT_STOP_CAUSE ..) rfl ?_ .. | with_reducible refine foot_setFld (blk_PP_STAT_REPLANS ..) rfl ?_ .. | with_reducible refine foot_incSat (blk_AX_STAT_STOP_CAUSE ..) rfl ?_ .. | with_reducible refine foot_incSat (blk_PP_STAT_REPLANS ..) rfl ?_ .. | with_reducible refine Foot.foldl (fun _ _ _ => ?_) ?_ | with_reducible refine PairFoot.foldl (fun _ _ _ => ?_) ?_ | with_reducible apply Foot.ite | with_reducible apply PairFoot.ite | with_reducible apply OptFoot.ite | with_reducible apply OutFoot.ite | with_reducible apply ExFoot.ite | with_reducible exact ExFoot.error | with_reducible refine ExFoot.ok ?_ | with_reducible refine PairFoot.forL (fun _ _ _ => ?_) ?_ | with_reducible refine PairFoot.forN (fun _ _ _ => ?_) ?_ | with_reducible refine OptFoot.some ?_ | with_reducible exact OptFoot.none | with_reducible refine OutFoot.next ?_ | with_reducible refine OptFoot.getD ?_ ?_ | with_reducible refine PairFoot.snd ?_))
    | split
    | with_reducible refine PairFoot.mk ?_
    | dsimp only

theorem foot_axUpdate {m : Nat} {z t : State} (hs : 0x72280900a4ea4f88 ||| m = m) (h : Foot m z t) (a0 : _) :
    Foot m z (State.axUpdate a0 t) := by
  refine Foot.step (m := 0x72280900a4ea4f88) ?_ hs h
  clear h hs
  have h := Foot.refl 0x72280900a4ea4f88 t
  unfold State.axUpdate
  repeat' first
    | with_reducible assumption
    | (intro x; first | (refine Foot.cut (P := Foot 0x72280900a4ea4f88 t x) ?_ ?_; rotate_left; subst x; rotate_left; intro hx; clear_value x) | clear_value x | skip)
    | lift_lets
    | with_reducible refine foot_axShow rfl ?_ ..
    | with_reducible refine foot_axCommands rfl ?_ ..
    | with_reducible refine foot_genAdvance rfl ?_ ..
    | with_reducible refine foot_axVelocity rfl ?_ ..
    | with_reducible refine foot_axFollow rfl ?_ ..
    | with_reducible refine foot_axServo rfl ?_ ..
    | with_reducible refine foot_axInPos rfl ?_ ..
    | with_reducible apply Foot.ite
    | split
    | dsimp only

theorem foot_execPlannerUpdate {m : Nat} {z t : State} (hs : 0x72280900a4ea4f88 ||| m = m) (h : Foot m z t) :
    OutFoot m z (execPlannerUpdate t) := by
  refine OutFoot.step (m := 0x72280900a4ea4f88) ?_ hs h
  clear h hs
  have h := Foot.refl 0x72280900a4ea4f88 t
  unfold execPlannerUpdate
  repeat' first
    | with_reducible assumption
    | (intro x; first | clear_value x | skip)
    | lift_lets
    | with_reducible refine foot_axUpdate rfl ?_ ..
    | with_reducible refine Foot.forN (fun _ _ _ => ?_) ?_
    | with_reducible apply Foot.ite
    | with_reducible refine OutFoot.next ?_
    | split
    | dsimp only

theorem foot_execStepGeneratorCrossing {m : Nat} {z t : State} (hs : 0x72280100a4ea4f80 ||| m = m) (h : Foot m z t) (a0 : _) :
    OutFoot m z (execStepGeneratorCrossing a0 t) := by
  refine OutFoot.step (m := 0x72280100a4ea4f80) ?_ hs h
  clear h hs
  have h := Foot.refl 0x72280100a4ea4f80 t
  unfold execStepGeneratorCrossing
  repeat' first
    | with_reducible assumption
    | (intro x; first | (refine Foot.cut (P := Foot 0x72280100a4ea4f80 t x) ?_ ?_; rotate_left; subst x; rotate_left; intro hx; clear_value x) | clear_value x | skip)
    | lift_lets
    | with_reducible refine foot_axLimitFault rfl ?_ ..
    | with_reducible refine foot_genAdvance rfl ?_ ..
    | with_reducible refine foot_modAxis rfl ?_ ..
    | with_reducible apply Foot.ite
    | with_reducible refine OutFoot.next ?_
    | split
    | dsimp only

theorem foot_axResult {m : Nat} {z t : State} (hs : 0x2000000000000000 ||| m = m) (h : Foot m z t) (a0 : _) (a1 : _) (a2 : _) :
    Foot m z (State.axResult a0 a1 a2 t) := by
  refine Foot.step (m := 0x2000000000000000) ?_ hs h
  clear h hs
  have h := Foot.refl 0x2000000000000000 t
  unfold State.axResult
  repeat' first
    | with_reducible assumption
    | (intro x; first | clear_value x | skip)
    | lift_lets
    | with_reducible refine foot_setFld (blk_AX_STAT_RESULT ..) rfl ?_ ..
    | with_reducible refine foot_setFld (blk_AX_STAT_CODE ..) rfl ?_ ..
    | split
    | dsimp only

theorem foot_axGoCmd {m : Nat} {z t : State} (hs : 0x2000000004000000 ||| m = m) (h : Foot m z t) (a0 : _) (a1 : _) :
    Foot m z (State.axGoCmd a0 a1 t) := by
  refine Foot.step (m := 0x2000000004000000) ?_ hs h
  clear h hs
  have h := Foot.refl 0x2000000004000000 t
  unfold State.axGoCmd
  repeat' first
    | with_reducible assumption
    | (intro x; first | clear_value x | skip)
    | lift_lets
    | with_reducible refine foot_axRefuse rfl ?_ ..
    | with_reducible refine foot_axQueue rfl ?_ ..
    | with_reducible refine foot_axResult rfl ?_ ..
    | with_reducible apply Foot.ite
    | split
    | dsimp only

theorem foot_axStopCmd {m : Nat} {z t : State} (hs : 0x2000000004000000 ||| m = m) (h : Foot m z t) (a0 : _) (a1 : _) :
    Foot m z (State.axStopCmd a0 a1 t) := by
  refine Foot.step (m := 0x2000000004000000) ?_ hs h
  clear h hs
  have h := Foot.refl 0x2000000004000000 t
  unfold State.axStopCmd
  repeat' first
    | with_reducible assumption
    | (intro x; first | clear_value x | skip)
    | lift_lets
    | with_reducible refine foot_axQueue rfl ?_ ..
    | with_reducible refine foot_axResult rfl ?_ ..
    | with_reducible refine foot_modAxis rfl ?_ ..
    | with_reducible apply Foot.ite
    | split
    | dsimp only

theorem foot_axResumeCmd {m : Nat} {z t : State} (hs : 0x2000000004000000 ||| m = m) (h : Foot m z t) (a0 : _) :
    Foot m z (State.axResumeCmd a0 t) := by
  refine Foot.step (m := 0x2000000004000000) ?_ hs h
  clear h hs
  have h := Foot.refl 0x2000000004000000 t
  unfold State.axResumeCmd
  repeat' first
    | with_reducible assumption
    | (intro x; first | clear_value x | skip)
    | lift_lets
    | with_reducible refine foot_axQueue rfl ?_ ..
    | with_reducible refine foot_axResult rfl ?_ ..
    | with_reducible apply Foot.ite
    | split
    | dsimp only

theorem foot_axSetPosCmd {m : Nat} {z t : State} (hs : 0x2000000004000000 ||| m = m) (h : Foot m z t) (a0 : _) :
    Foot m z (State.axSetPosCmd a0 t) := by
  refine Foot.step (m := 0x2000000004000000) ?_ hs h
  clear h hs
  have h := Foot.refl 0x2000000004000000 t
  unfold State.axSetPosCmd
  repeat' first
    | with_reducible assumption
    | (intro x; first | clear_value x | skip)
    | lift_lets
    | with_reducible refine foot_axQueue rfl ?_ ..
    | with_reducible refine foot_axResult rfl ?_ ..
    | with_reducible apply Foot.ite
    | split
    | dsimp only

theorem foot_axClearCmd {m : Nat} {z t : State} (hs : 0x2000000004000000 ||| m = m) (h : Foot m z t) (a0 : _) :
    Foot m z (State.axClearCmd a0 t) := by
  refine Foot.step (m := 0x2000000004000000) ?_ hs h
  clear h hs
  have h := Foot.refl 0x2000000004000000 t
  unfold State.axClearCmd
  repeat' first
    | with_reducible assumption
    | (intro x; first | clear_value x | skip)
    | lift_lets
    | with_reducible refine foot_axQueue rfl ?_ ..
    | with_reducible refine foot_axResult rfl ?_ ..
    | with_reducible apply Foot.ite
    | split
    | dsimp only

theorem foot_axCmd {m : Nat} {z t : State} (hs : 0x2000000004000000 ||| m = m) (h : Foot m z t) (a0 : _) (a1 : _) (a2 : _) :
    Foot m z (State.axCmd a0 a1 a2 t) := by
  refine Foot.step (m := 0x2000000004000000) ?_ hs h
  clear h hs
  have h := Foot.refl 0x2000000004000000 t
  unfold State.axCmd
  repeat' first
    | with_reducible assumption
    | (intro x; first | clear_value x | skip)
    | lift_lets
    | with_reducible refine foot_axResumeCmd rfl ?_ ..
    | with_reducible refine foot_axSetPosCmd rfl ?_ ..
    | with_reducible refine foot_axGoCmd rfl ?_ ..
    | with_reducible refine foot_axStopCmd rfl ?_ ..
    | with_reducible refine foot_axClearCmd rfl ?_ ..
    | with_reducible refine foot_axResult rfl ?_ ..
    | with_reducible refine foot_setFld (blk_AX_STAT_RESULT ..) rfl ?_ ..
    | with_reducible apply Foot.ite
    | split
    | dsimp only

theorem foot_execGo {m : Nat} {z t : State} (hs : 0x2000000004000000 ||| m = m) (h : Foot m z t) (a0 : _) (a1 : _) (a2 : _) :
    OutFoot m z (execGo a0 a1 a2 t) := by
  refine OutFoot.step (m := 0x2000000004000000) ?_ hs h
  clear h hs
  have h := Foot.refl 0x2000000004000000 t
  unfold execGo
  repeat' first
    | with_reducible assumption
    | (intro x; first | clear_value x | skip)
    | lift_lets
    | with_reducible refine foot_axCmd rfl ?_ ..
    | with_reducible refine OutFoot.next ?_
    | split
    | dsimp only

theorem foot_execGoRel {m : Nat} {z t : State} (hs : 0x2000000004000000 ||| m = m) (h : Foot m z t) (a0 : _) (a1 : _) (a2 : _) :
    OutFoot m z (execGoRel a0 a1 a2 t) := by
  refine OutFoot.step (m := 0x2000000004000000) ?_ hs h
  clear h hs
  have h := Foot.refl 0x2000000004000000 t
  unfold execGoRel
  repeat' first
    | with_reducible assumption
    | (intro x; first | clear_value x | skip)
    | lift_lets
    | with_reducible refine foot_axCmd rfl ?_ ..
    | with_reducible refine OutFoot.next ?_
    | split
    | dsimp only

theorem foot_execAxStop {m : Nat} {z t : State} (hs : 0x2000000004000000 ||| m = m) (h : Foot m z t) (a0 : _) (a1 : _) (a2 : _) :
    OutFoot m z (execAxStop a0 a1 a2 t) := by
  refine OutFoot.step (m := 0x2000000004000000) ?_ hs h
  clear h hs
  have h := Foot.refl 0x2000000004000000 t
  unfold execAxStop
  repeat' first
    | with_reducible assumption
    | (intro x; first | clear_value x | skip)
    | lift_lets
    | with_reducible refine foot_axCmd rfl ?_ ..
    | with_reducible refine OutFoot.next ?_
    | split
    | dsimp only

theorem foot_execEstop {m : Nat} {z t : State} (hs : 0x2000000004000000 ||| m = m) (h : Foot m z t) (a0 : _) (a1 : _) (a2 : _) :
    OutFoot m z (execEstop a0 a1 a2 t) := by
  refine OutFoot.step (m := 0x2000000004000000) ?_ hs h
  clear h hs
  have h := Foot.refl 0x2000000004000000 t
  unfold execEstop
  repeat' first
    | with_reducible assumption
    | (intro x; first | clear_value x | skip)
    | lift_lets
    | with_reducible refine foot_axCmd rfl ?_ ..
    | with_reducible refine OutFoot.next ?_
    | split
    | dsimp only

theorem foot_execAxResume {m : Nat} {z t : State} (hs : 0x2000000004000000 ||| m = m) (h : Foot m z t) (a0 : _) (a1 : _) (a2 : _) :
    OutFoot m z (execAxResume a0 a1 a2 t) := by
  refine OutFoot.step (m := 0x2000000004000000) ?_ hs h
  clear h hs
  have h := Foot.refl 0x2000000004000000 t
  unfold execAxResume
  repeat' first
    | with_reducible assumption
    | (intro x; first | clear_value x | skip)
    | lift_lets
    | with_reducible refine foot_axCmd rfl ?_ ..
    | with_reducible refine OutFoot.next ?_
    | split
    | dsimp only

theorem foot_execSetpos {m : Nat} {z t : State} (hs : 0x2000000004000000 ||| m = m) (h : Foot m z t) (a0 : _) (a1 : _) (a2 : _) :
    OutFoot m z (execSetpos a0 a1 a2 t) := by
  refine OutFoot.step (m := 0x2000000004000000) ?_ hs h
  clear h hs
  have h := Foot.refl 0x2000000004000000 t
  unfold execSetpos
  repeat' first
    | with_reducible assumption
    | (intro x; first | clear_value x | skip)
    | lift_lets
    | with_reducible refine foot_axCmd rfl ?_ ..
    | with_reducible refine OutFoot.next ?_
    | split
    | dsimp only

theorem foot_execAxClear {m : Nat} {z t : State} (hs : 0x2000000004000000 ||| m = m) (h : Foot m z t) (a0 : _) (a1 : _) (a2 : _) :
    OutFoot m z (execAxClear a0 a1 a2 t) := by
  refine OutFoot.step (m := 0x2000000004000000) ?_ hs h
  clear h hs
  have h := Foot.refl 0x2000000004000000 t
  unfold execAxClear
  repeat' first
    | with_reducible assumption
    | (intro x; first | clear_value x | skip)
    | lift_lets
    | with_reducible refine foot_axCmd rfl ?_ ..
    | with_reducible refine OutFoot.next ?_
    | split
    | dsimp only

theorem foot_axStart {m : Nat} {z t : State} (hs : 0x3000000004200000 ||| m = m) (h : Foot m z t) (a0 : _) :
    Foot m z (State.axStart a0 t) := by
  refine Foot.step (m := 0x3000000004200000) ?_ hs h
  clear h hs
  have h := Foot.refl 0x3000000004200000 t
  unfold State.axStart
  repeat' first
    | with_reducible assumption
    | (intro x; first | (refine Foot.cut (P := Foot 0x3000000004200000 t x) ?_ ?_; rotate_left; subst x; rotate_left; intro hx; clear_value x) | clear_value x | skip)
    | lift_lets
    | with_reducible refine foot_axShow rfl ?_ ..
    | with_reducible refine foot_modAxis rfl ?_ ..
    | with_reducible refine foot_setAxState rfl ?_ ..
    | with_reducible refine foot_setFld (blk_AX_STAT_STOP_CAUSE ..) rfl ?_ ..
    | split
    | dsimp only

theorem foot_axEnd {m : Nat} {z t : State} (hs : 0x30080000042a0000 ||| m = m) (h : Foot m z t) (a0 : _) :
    Foot m z (State.axEnd a0 t) := by
  refine Foot.step (m := 0x30080000042a0000) ?_ hs h
  clear h hs
  have h := Foot.refl 0x30080000042a0000 t
  unfold State.axEnd
  repeat' first
    | with_reducible assumption
    | (intro x; first | (refine Foot.cut (P := Foot 0x30080000042a0000 t x) ?_ ?_; rotate_left; subst x; rotate_left; intro hx; clear_value x) | clear_value x | skip)
    | lift_lets
    | with_reducible refine foot_axInhibit rfl ?_ ..
    | with_reducible refine foot_modAxis rfl ?_ ..
    | with_reducible refine foot_setAxState rfl ?_ ..
    | with_reducible refine foot_setFlag (blk_AX_CFG_EN ..) rfl ?_ ..
    | split
    | dsimp only

theorem foot_axCfgWrite {m : Nat} {z t : State} (hs : 0x72280100a4ea4f80 ||| m = m) (h : Foot m z t) (a0 : _) (a1 : _) :
    Foot m z (State.axCfgWrite a0 a1 t) := by
  refine Foot.step (m := 0x72280100a4ea4f80) ?_ hs h
  clear h hs
  have h := Foot.refl 0x72280100a4ea4f80 t
  unfold State.axCfgWrite
  repeat' first
    | with_reducible assumption
    | (intro x; first | (refine Foot.cut (P := Foot 0x72280100a4ea4f80 t x) ?_ ?_; rotate_left; subst x; rotate_left; intro hx; clear_value x) | clear_value x | skip)
    | lift_lets
    | with_reducible refine foot_axEnd rfl ?_ ..
    | with_reducible refine foot_raise rfl ?_ ..
    | with_reducible refine foot_axStart rfl ?_ ..
    | with_reducible refine foot_setFlag (blk_AX_CFG_EN ..) rfl ?_ ..
    | with_reducible refine foot_setFlag (blk_AX_CFG_QENC_EN ..) rfl ?_ ..
    | with_reducible refine foot_setFlag (blk_AX_CFG_STALL_EN ..) rfl ?_ ..
    | with_reducible refine foot_plainWrite (blk_AX_CFG_EN ..) rfl ?_ ..
    | with_reducible refine foot_plainWrite (blk_AX_CFG_QENC_EN ..) rfl ?_ ..
    | with_reducible refine foot_plainWrite (blk_AX_CFG_STALL_EN ..) rfl ?_ ..
    | with_reducible apply Foot.ite
    | split
    | dsimp only

theorem foot_execAxisEnable {m : Nat} {z t : State} (hs : 0x72280100a4ea4f80 ||| m = m) (h : Foot m z t) (a0 : _) (a1 : _) (a2 : _) :
    OutFoot m z (execAxisEnable a0 a1 a2 t) := by
  refine OutFoot.step (m := 0x72280100a4ea4f80) ?_ hs h
  clear h hs
  have h := Foot.refl 0x72280100a4ea4f80 t
  unfold execAxisEnable
  repeat' first
    | with_reducible assumption
    | (intro x; first | clear_value x | skip)
    | lift_lets
    | with_reducible refine foot_axCfgWrite rfl ?_ ..
    | with_reducible refine OutFoot.next ?_
    | split
    | dsimp only

theorem foot_execAxisDisable {m : Nat} {z t : State} (hs : 0x72280100a4ea4f80 ||| m = m) (h : Foot m z t) (a0 : _) (a1 : _) (a2 : _) :
    OutFoot m z (execAxisDisable a0 a1 a2 t) := by
  refine OutFoot.step (m := 0x72280100a4ea4f80) ?_ hs h
  clear h hs
  have h := Foot.refl 0x72280100a4ea4f80 t
  unfold execAxisDisable
  repeat' first
    | with_reducible assumption
    | (intro x; first | clear_value x | skip)
    | lift_lets
    | with_reducible refine foot_axCfgWrite rfl ?_ ..
    | with_reducible refine OutFoot.next ?_
    | split
    | dsimp only

theorem foot_execQencEnWrite {m : Nat} {z t : State} (hs : 0x72280100a4ea4f80 ||| m = m) (h : Foot m z t) (a0 : _) (a1 : _) (a2 : _) :
    OutFoot m z (execQencEnWrite a0 a1 a2 t) := by
  refine OutFoot.step (m := 0x72280100a4ea4f80) ?_ hs h
  clear h hs
  have h := Foot.refl 0x72280100a4ea4f80 t
  unfold execQencEnWrite
  repeat' first
    | with_reducible assumption
    | (intro x; first | clear_value x | skip)
    | lift_lets
    | with_reducible refine foot_axCfgWrite rfl ?_ ..
    | with_reducible refine OutFoot.next ?_
    | split
    | dsimp only

theorem foot_axSrvWrite {m : Nat} {z t : State} (hs : 0xffffff0000000000 ||| m = m) (h : Foot m z t) (a0 : _) (a1 : _) :
    Foot m z (State.axSrvWrite a0 a1 t) := by
  refine Foot.step (m := 0xffffff0000000000) ?_ hs h
  clear h hs
  have h := Foot.refl 0xffffff0000000000 t
  unfold State.axSrvWrite
  repeat' first
    | with_reducible assumption
    | (intro x; first | clear_value x | skip)
    | lift_lets
    | with_reducible refine foot_plainAll rfl ?_ ..
    | split
    | dsimp only

theorem foot_axStatWrite {m : Nat} {z t : State} (hs : 0x3000000004000000 ||| m = m) (h : Foot m z t) (a0 : _) (a1 : _) :
    Foot m z (State.axStatWrite a0 a1 t) := by
  refine Foot.step (m := 0x3000000004000000) ?_ hs h
  clear h hs
  have h := Foot.refl 0x3000000004000000 t
  unfold State.axStatWrite
  repeat' first
    | with_reducible assumption
    | (intro x; first | (refine Foot.cut (P := Foot 0x3000000004000000 t x) ?_ ?_; rotate_left; subst x; rotate_left; intro hx; clear_value x) | clear_value x | skip)
    | lift_lets
    | with_reducible refine foot_axRelease rfl ?_ ..
    | with_reducible refine foot_plainWrite (blk_AX_STAT_STATE ..) rfl ?_ ..
    | with_reducible apply Foot.ite
    | split
    | dsimp only

theorem foot_execStepMismatch {m : Nat} {z t : State} (hs : 0x72280100a4ea4f80 ||| m = m) (h : Foot m z t) (a0 : _) (a1 : _) :
    OutFoot m z (execStepMismatch a0 a1 t) := by
  refine OutFoot.step (m := 0x72280100a4ea4f80) ?_ hs h
  clear h hs
  have h := Foot.refl 0x72280100a4ea4f80 t
  unfold execStepMismatch
  repeat' first
    | with_reducible assumption
    | (intro x; first | (refine Foot.cut (P := Foot 0x72280100a4ea4f80 t x) ?_ ?_; rotate_left; subst x; rotate_left; intro hx; clear_value x) | clear_value x | skip)
    | lift_lets
    | with_reducible refine foot_axInhibit rfl ?_ ..
    | with_reducible refine foot_raise rfl ?_ ..
    | with_reducible refine foot_modAxis rfl ?_ ..
    | with_reducible refine foot_setFlag (blk_AX_STAT_POS_LOST ..) rfl ?_ ..
    | with_reducible refine foot_setFlag (blk_AX_STAT_STEP_MM ..) rfl ?_ ..
    | with_reducible apply Foot.ite
    | with_reducible refine OutFoot.next ?_
    | split
    | dsimp only

theorem foot_axStall {m : Nat} {z t : State} (hs : 0x72280100a4ea4f80 ||| m = m) (h : Foot m z t) (a0 : _) :
    Foot m z (State.axStall a0 t) := by
  refine Foot.step (m := 0x72280100a4ea4f80) ?_ hs h
  clear h hs
  have h := Foot.refl 0x72280100a4ea4f80 t
  unfold State.axStall
  repeat' first
    | with_reducible assumption
    | (intro x; first | (refine Foot.cut (P := Foot 0x72280100a4ea4f80 t x) ?_ ?_; rotate_left; subst x; rotate_left; intro hx; clear_value x) | clear_value x | skip)
    | lift_lets
    | with_reducible refine foot_axInhibit rfl ?_ ..
    | with_reducible refine foot_axRem rfl ?_ ..
    | with_reducible refine foot_axRelease rfl ?_ ..
    | with_reducible refine foot_raise rfl ?_ ..
    | with_reducible refine foot_axQueue rfl ?_ ..
    | with_reducible refine foot_modAxis rfl ?_ ..
    | with_reducible refine foot_setFlag (blk_AX_STAT_POS_LOST ..) rfl ?_ ..
    | with_reducible refine foot_setFlag (blk_AX_STAT_STALL ..) rfl ?_ ..
    | with_reducible apply Foot.ite
    | split
    | dsimp only

theorem foot_stallAngle {m : Nat} {z t : State} (hs : 0x10 ||| m = m) (h : Foot m z t) (a0 : _) :
    PairFoot m z (State.stallAngle a0 t) := by
  refine PairFoot.step (m := 0x10) ?_ hs h
  clear h hs
  have h := Foot.refl 0x10 t
  unfold State.stallAngle
  repeat' first
    | with_reducible assumption
    | (intro x; first | clear_value x | skip)
    | lift_lets
    | with_reducible refine foot_draw rfl ?_ ..
    | with_reducible apply PairFoot.ite
    | with_reducible refine PairFoot.eq (by assumption) ?_
    | split
    | with_reducible refine PairFoot.mk ?_
    | dsimp only

theorem foot_stallTake {m : Nat} {z t : State} (hs : 0x72280100a4ea4f90 ||| m = m) (h : Foot m z t) (a0 : _) (a1 : _) :
    Foot m z (State.stallTake a0 a1 t) := by
  refine Foot.step (m := 0x72280100a4ea4f90) ?_ hs h
  clear h hs
  have h := Foot.refl 0x72280100a4ea4f90 t
  unfold State.stallTake
  repeat' first
    | with_reducible assumption
    | (intro x; first | clear_value x | skip)
    | lift_lets
    | with_reducible refine foot_stallAngle rfl ?_ ..
    | with_reducible refine foot_axStall rfl ?_ ..
    | with_reducible refine foot_setFld (blk_STALL_STAT_COUNT ..) rfl ?_ ..
    | with_reducible refine foot_setFld (blk_STALL_STAT_E ..) rfl ?_ ..
    | with_reducible refine foot_setFld (blk_STALL_STAT_ANGLE ..) rfl ?_ ..
    | with_reducible apply Foot.ite
    | with_reducible refine PairFoot.snd ?_
    | split
    | dsimp only

theorem foot_execStallEstimate {m : Nat} {z t : State} (hs : 0x72280100a4ea4f90 ||| m = m) (h : Foot m z t) (a0 : _) :
    OutFoot m z (execStallEstimate a0 t) := by
  refine OutFoot.step (m := 0x72280100a4ea4f90) ?_ hs h
  clear h hs
  have h := Foot.refl 0x72280100a4ea4f90 t
  unfold execStallEstimate
  repeat' first
    | with_reducible assumption
    | (intro x; first | (refine Foot.cut (P := Foot 0x72280100a4ea4f90 t x) ?_ ?_; rotate_left; subst x; rotate_left; intro hx; clear_value x) | clear_value x | skip)
    | lift_lets
    | with_reducible refine foot_stallTake rfl ?_ ..
    | with_reducible refine foot_genAdvance rfl ?_ ..
    | with_reducible refine foot_setFld (blk_STALL_STAT_COUNT ..) rfl ?_ ..
    | with_reducible apply Foot.ite
    | with_reducible refine OutFoot.next ?_
    | split
    | dsimp only

end Sys2Proof.Machine
end

