-- ==== Sys2Proof/Laws/FootScan.lean ====
section
/-!
SUPPORT. Footprints of the operations of Machine/Scan.lean.
-/

set_option Elab.async false

set_option linter.all false

set_option maxRecDepth 4000

namespace Sys2Proof.Machine

theorem foot_ownViolation {m : Nat} {z t : State} (hs : 0x72280100a4ea4f80 ||| m = m) (h : Foot m z t) (a0 : _) :
    Foot m z (State.ownViolation a0 t) := by
  refine Foot.step (m := 0x72280100a4ea4f80) ?_ hs h
  clear h hs
  have h := Foot.refl 0x72280100a4ea4f80 t
  unfold State.ownViolation
  repeat' first
    | with_reducible assumption
    | (intro x; first | clear_value x | skip)
    | lift_lets
    | with_reducible refine foot_raise rfl ?_ ..
    | with_reducible refine foot_setFlag (blk_TASK_STAT_OWNV ..) rfl ?_ ..
    | split
    | dsimp only

theorem foot_keepOld {m : Nat} {z t : State} (hs : 0x40000 ||| m = m) (h : Foot m z t) (a0 : _) (a1 : _) (a2 : _) :
    Foot m z (State.keepOld a0 a1 a2 t) := by
  refine Foot.step (m := 0x40000) ?_ hs h
  clear h hs
  have h := Foot.refl 0x40000 t
  unfold State.keepOld
  repeat' first
    | with_reducible assumption
    | (intro x; first | clear_value x | skip)
    | lift_lets
    | with_reducible refine foot_modCore rfl ?_ ..
    | with_reducible apply Foot.ite
    | split
    | dsimp only

theorem foot_takeBack {m : Nat} {z t : State} (hs : 0x80000000088 ||| m = m) (h : Foot m z t) (a0 : _) :
    Foot m z (State.takeBack a0 t) := by
  refine Foot.step (m := 0x80000000088) ?_ hs h
  clear h hs
  have h := Foot.refl 0x80000000088 t
  unfold State.takeBack
  repeat' first
    | with_reducible assumption
    | (intro x; first | clear_value x | skip)
    | lift_lets
    | with_reducible refine foot_store rfl ?_ ..
    | with_reducible refine Foot.forL (fun _ _ _ => ?_) ?_
    | split
    | dsimp only

theorem foot_logUndo {m : Nat} {z t : State} (hs : 0x80000040000 ||| m = m) (h : Foot m z t) (a0 : _) (a1 : _) (a2 : _) (a3 : _) :
    Foot m z (State.logUndo a0 a1 a2 a3 t) := by
  refine Foot.step (m := 0x80000040000) ?_ hs h
  clear h hs
  have h := Foot.refl 0x80000040000 t
  unfold State.logUndo
  repeat' first
    | with_reducible assumption
    | (intro x; first | (refine Foot.cut (P := Foot 0x80000040000 t x) ?_ ?_; rotate_left; subst x; rotate_left; intro hx; clear_value x) | clear_value x | skip)
    | lift_lets
    | with_reducible refine foot_modCore rfl ?_ ..
    | with_reducible refine foot_keepOld rfl ?_ ..
    | with_reducible refine foot_incSat (blk_FLT_UNDO_OVERFLOWS ..) rfl ?_ ..
    | with_reducible apply Foot.ite
    | split
    | dsimp only

theorem foot_coreStoreWord {m : Nat} {z t : State} (hs : 0x72280900a4ee4f88 ||| m = m) (h : Foot m z t) (a0 : _) (a1 : _) (a2 : _) (a3 : _) :
    Foot m z (State.coreStoreWord a0 a1 a2 a3 t) := by
  refine Foot.step (m := 0x72280900a4ee4f88) ?_ hs h
  clear h hs
  have h := Foot.refl 0x72280900a4ee4f88 t
  unfold State.coreStoreWord
  repeat' first
    | with_reducible assumption
    | (intro x; first | (refine Foot.cut (P := Foot 0x72280900a4ee4f88 t x) ?_ ?_; rotate_left; subst x; rotate_left; intro hx; clear_value x) | clear_value x | skip)
    | lift_lets
    | with_reducible refine foot_ownViolation rfl ?_ ..
    | with_reducible refine foot_store rfl ?_ ..
    | with_reducible refine foot_logUndo rfl ?_ ..
    | with_reducible apply Foot.ite
    | split
    | dsimp only

theorem foot_undoPlayback {m : Nat} {z t : State} (hs : 0x80000000088 ||| m = m) (h : Foot m z t) (a0 : _) :
    Foot m z (State.undoPlayback a0 t) := by
  refine Foot.step (m := 0x80000000088) ?_ hs h
  clear h hs
  have h := Foot.refl 0x80000000088 t
  unfold State.undoPlayback
  repeat' first
    | with_reducible assumption
    | (intro x; first | clear_value x | skip)
    | lift_lets
    | with_reducible refine foot_store rfl ?_ ..
    | with_reducible refine foot_incSat (blk_FLT_UNDO_UNDO_SKIP ..) rfl ?_ ..
    | with_reducible refine Foot.forL (fun _ _ _ => ?_) ?_
    | with_reducible apply Foot.ite
    | split
    | dsimp only

theorem foot_stage {m : Nat} {z t : State} (hs : 0x72280100a4ef4f88 ||| m = m) (h : Foot m z t) (a0 : _) (a1 : _) (a2 : _) (a3 : _) :
    Foot m z (State.stage a0 a1 a2 a3 t) := by
  refine Foot.step (m := 0x72280100a4ef4f88) ?_ hs h
  clear h hs
  have h := Foot.refl 0x72280100a4ef4f88 t
  unfold State.stage
  repeat' first
    | with_reducible assumption
    | (intro x; first | clear_value x | skip)
    | lift_lets
    | with_reducible refine foot_ownViolation rfl ?_ ..
    | with_reducible refine foot_abnormalEnd rfl ?_ ..
    | with_reducible apply Foot.ite
    | ((with_reducible refine Foot.lit ?_ rfl rfl ?_ ?_ ?_ ?_ ?_ ?_); rotate_left; rfl; rfl; rfl; rfl; (first | exact Nat.le_refl _ | exact Nat.le_succ _); (constructor <;> first | with_reducible exact Kept.same | exact Kept.masked rfl); (first | with_reducible assumption | with_reducible refine foot_ownViolation rfl ?_ .. | with_reducible refine foot_abnormalEnd rfl ?_ .. | with_reducible apply Foot.ite))
    | split
    | dsimp only

theorem foot_execLdi {m : Nat} {z t : State} (hs : 0x72280100a4ef4f88 ||| m = m) (h : Foot m z t) (a0 : _) (a1 : _) (a2 : _) (a3 : _) :
    OutFoot m z (execLdi a0 a1 a2 a3 t) := by
  refine OutFoot.step (m := 0x72280100a4ef4f88) ?_ hs h
  clear h hs
  have h := Foot.refl 0x72280100a4ef4f88 t
  unfold execLdi
  repeat' first
    | with_reducible assumption
    | (intro x; first | clear_value x | skip)
    | lift_lets
    | with_reducible refine foot_modCore rfl ?_ ..
    | with_reducible refine foot_exception rfl ?_ ..
    | with_reducible refine foot_instr rfl (fun _ _ _ => ?_) ?_ ..
    | with_reducible apply Foot.ite
    | with_reducible refine OutFoot.next ?_
    | split
    | dsimp only

theorem foot_execSto {m : Nat} {z t : State} (hs : 0x72280100a4ef4f88 ||| m = m) (h : Foot m z t) (a0 : _) (a1 : _) (a2 : _) (a3 : _) :
    OutFoot m z (execSto a0 a1 a2 a3 t) := by
  refine OutFoot.step (m := 0x72280100a4ef4f88) ?_ hs h
  clear h hs
  have h := Foot.refl 0x72280100a4ef4f88 t
  unfold execSto
  repeat' first
    | with_reducible assumption
    | (intro x; first | (refine Foot.cut (P := Foot 0x72280100a4ef4f88 t x) ?_ ?_; rotate_left; subst x; rotate_left; intro hx; clear_value x) | clear_value x | skip)
    | lift_lets
    | with_reducible refine foot_stage rfl ?_ ..
    | with_reducible refine foot_modCore rfl ?_ ..
    | with_reducible refine foot_instr rfl (fun _ _ _ => ?_) ?_ ..
    | with_reducible apply Foot.ite
    | with_reducible refine OutFoot.next ?_
    | split
    | dsimp only

theorem foot_execSetf {m : Nat} {z t : State} (hs : 0x72280100a4ef4f88 ||| m = m) (h : Foot m z t) (a0 : _) (a1 : _) (a2 : _) :
    OutFoot m z (execSetf a0 a1 a2 t) := by
  refine OutFoot.step (m := 0x72280100a4ef4f88) ?_ hs h
  clear h hs
  have h := Foot.refl 0x72280100a4ef4f88 t
  unfold execSetf
  repeat' first
    | with_reducible assumption
    | (intro x; first | (refine Foot.cut (P := Foot 0x72280100a4ef4f88 t x) ?_ ?_; rotate_left; subst x; rotate_left; intro hx; clear_value x) | clear_value x | skip)
    | lift_lets
    | with_reducible refine foot_stage rfl ?_ ..
    | with_reducible refine foot_modCore rfl ?_ ..
    | with_reducible refine foot_instr rfl (fun _ _ _ => ?_) ?_ ..
    | with_reducible apply Foot.ite
    | with_reducible refine OutFoot.next ?_
    | split
    | dsimp only

theorem foot_execClrf {m : Nat} {z t : State} (hs : 0x72280100a4ef4f88 ||| m = m) (h : Foot m z t) (a0 : _) (a1 : _) (a2 : _) :
    OutFoot m z (execClrf a0 a1 a2 t) := by
  refine OutFoot.step (m := 0x72280100a4ef4f88) ?_ hs h
  clear h hs
  have h := Foot.refl 0x72280100a4ef4f88 t
  unfold execClrf
  repeat' first
    | with_reducible assumption
    | (intro x; first | (refine Foot.cut (P := Foot 0x72280100a4ef4f88 t x) ?_ ?_; rotate_left; subst x; rotate_left; intro hx; clear_value x) | clear_value x | skip)
    | lift_lets
    | with_reducible refine foot_stage rfl ?_ ..
    | with_reducible refine foot_modCore rfl ?_ ..
    | with_reducible refine foot_instr rfl (fun _ _ _ => ?_) ?_ ..
    | with_reducible apply Foot.ite
    | with_reducible refine OutFoot.next ?_
    | split
    | dsimp only

theorem foot_instanceOp {m : Nat} {z t : State} (hs : 0x72280900a4ef4f88 ||| m = m) (h : Foot m z t) (a0 : _) (a1 : _) (a2 : _) (a3 : _) (a4 : _) (a5 : _) (a6 : _) :
    Foot m z (State.instanceOp a0 a1 a2 a3 a4 a5 a6 t) := by
  refine Foot.step (m := 0x72280900a4ef4f88) ?_ hs h
  clear h hs
  have h := Foot.refl 0x72280900a4ef4f88 t
  unfold State.instanceOp
  repeat' first
    | with_reducible assumption
    | (intro x; first | clear_value x | skip)
    | lift_lets
    | with_reducible refine foot_modCore rfl ?_ ..
    | with_reducible refine foot_exception rfl ?_ ..
    | with_reducible refine foot_instr rfl (fun _ _ _ => ?_) ?_ ..
    | with_reducible refine foot_coreStoreWord rfl ?_ ..
    | with_reducible refine Foot.forL (fun _ _ _ => ?_) ?_
    | with_reducible apply Foot.ite
    | ((with_reducible refine Foot.lit ?_ rfl rfl ?_ ?_ ?_ ?_ ?_ ?_); rotate_left; rfl; rfl; rfl; rfl; (first | exact Nat.le_refl _ | exact Nat.le_succ _); (constructor <;> first | with_reducible exact Kept.same | exact Kept.masked rfl); (first | with_reducible assumption | with_reducible refine foot_modCore rfl ?_ .. | with_reducible refine foot_exception rfl ?_ .. | with_reducible refine foot_instr rfl (fun _ _ _ => ?_) ?_ .. | with_reducible refine foot_coreStoreWord rfl ?_ .. | with_reducible refine Foot.forL (fun _ _ _ => ?_) ?_ | with_reducible apply Foot.ite))
    | split
    | dsimp only

theorem foot_edgeOp {m : Nat} {z t : State} (hs : 0x72280900a4ef4f88 ||| m = m) (h : Foot m z t) (a0 : _) (a1 : _) (a2 : _) (a3 : _) (a4 : _) :
    Foot m z (State.edgeOp a0 a1 a2 a3 a4 t) := by
  refine Foot.step (m := 0x72280900a4ef4f88) ?_ hs h
  clear h hs
  have h := Foot.refl 0x72280900a4ef4f88 t
  unfold State.edgeOp
  repeat' first
    | with_reducible assumption
    | (intro x; first | clear_value x | skip)
    | lift_lets
    | with_reducible refine foot_instanceOp rfl ?_ ..
    | split
    | dsimp only

theorem foot_execEdgr {m : Nat} {z t : State} (hs : 0x72280900a4ef4f88 ||| m = m) (h : Foot m z t) (a0 : _) (a1 : _) (a2 : _) (a3 : _) :
    OutFoot m z (execEdgr a0 a1 a2 a3 t) := by
  refine OutFoot.step (m := 0x72280900a4ef4f88) ?_ hs h
  clear h hs
  have h := Foot.refl 0x72280900a4ef4f88 t
  unfold execEdgr
  repeat' first
    | with_reducible assumption
    | (intro x; first | clear_value x | skip)
    | lift_lets
    | with_reducible refine foot_edgeOp rfl ?_ ..
    | with_reducible refine OutFoot.next ?_
    | split
    | dsimp only

theorem foot_execEdgf {m : Nat} {z t : State} (hs : 0x72280900a4ef4f88 ||| m = m) (h : Foot m z t) (a0 : _) (a1 : _) (a2 : _) (a3 : _) :
    OutFoot m z (execEdgf a0 a1 a2 a3 t) := by
  refine OutFoot.step (m := 0x72280900a4ef4f88) ?_ hs h
  clear h hs
  have h := Foot.refl 0x72280900a4ef4f88 t
  unfold execEdgf
  repeat' first
    | with_reducible assumption
    | (intro x; first | clear_value x | skip)
    | lift_lets
    | with_reducible refine foot_edgeOp rfl ?_ ..
    | with_reducible refine OutFoot.next ?_
    | split
    | dsimp only

theorem foot_timerOp {m : Nat} {z t : State} (hs : 0x72280900a4ef4f88 ||| m = m) (h : Foot m z t) (a0 : _) (a1 : _) (a2 : _) (a3 : _) (a4 : _) (a5 : _) :
    Foot m z (State.timerOp a0 a1 a2 a3 a4 a5 t) := by
  refine Foot.step (m := 0x72280900a4ef4f88) ?_ hs h
  clear h hs
  have h := Foot.refl 0x72280900a4ef4f88 t
  unfold State.timerOp
  repeat' first
    | with_reducible assumption
    | (intro x; first | clear_value x | skip)
    | lift_lets
    | with_reducible refine foot_instanceOp rfl ?_ ..
    | split
    | dsimp only

theorem foot_execTon {m : Nat} {z t : State} (hs : 0x72280900a4ef4f88 ||| m = m) (h : Foot m z t) (a0 : _) (a1 : _) (a2 : _) (a3 : _) :
    OutFoot m z (execTon a0 a1 a2 a3 t) := by
  refine OutFoot.step (m := 0x72280900a4ef4f88) ?_ hs h
  clear h hs
  have h := Foot.refl 0x72280900a4ef4f88 t
  unfold execTon
  repeat' first
    | with_reducible assumption
    | (intro x; first | clear_value x | skip)
    | lift_lets
    | with_reducible refine foot_timerOp rfl ?_ ..
    | with_reducible refine OutFoot.next ?_
    | split
    | dsimp only

theorem foot_execTof {m : Nat} {z t : State} (hs : 0x72280900a4ef4f88 ||| m = m) (h : Foot m z t) (a0 : _) (a1 : _) (a2 : _) (a3 : _) :
    OutFoot m z (execTof a0 a1 a2 a3 t) := by
  refine OutFoot.step (m := 0x72280900a4ef4f88) ?_ hs h
  clear h hs
  have h := Foot.refl 0x72280900a4ef4f88 t
  unfold execTof
  repeat' first
    | with_reducible assumption
    | (intro x; first | clear_value x | skip)
    | lift_lets
    | with_reducible refine foot_timerOp rfl ?_ ..
    | with_reducible refine OutFoot.next ?_
    | split
    | dsimp only

theorem foot_execTp {m : Nat} {z t : State} (hs : 0x72280900a4ef4f88 ||| m = m) (h : Foot m z t) (a0 : _) (a1 : _) (a2 : _) (a3 : _) :
    OutFoot m z (execTp a0 a1 a2 a3 t) := by
  refine OutFoot.step (m := 0x72280900a4ef4f88) ?_ hs h
  clear h hs
  have h := Foot.refl 0x72280900a4ef4f88 t
  unfold execTp
  repeat' first
    | with_reducible assumption
    | (intro x; first | clear_value x | skip)
    | lift_lets
    | with_reducible refine foot_timerOp rfl ?_ ..
    | with_reducible refine OutFoot.next ?_
    | split
    | dsimp only

theorem foot_execCtu {m : Nat} {z t : State} (hs : 0x72280900a4ef4f88 ||| m = m) (h : Foot m z t) (a0 : _) (a1 : _) (a2 : _) (a3 : _) :
    OutFoot m z (execCtu a0 a1 a2 a3 t) := by
  refine OutFoot.step (m := 0x72280900a4ef4f88) ?_ hs h
  clear h hs
  have h := Foot.refl 0x72280900a4ef4f88 t
  unfold execCtu
  repeat' first
    | with_reducible assumption
    | (intro x; first | clear_value x | skip)
    | lift_lets
    | with_reducible refine foot_instanceOp rfl ?_ ..
    | with_reducible refine OutFoot.next ?_
    | split
    | dsimp only

theorem foot_execCtd {m : Nat} {z t : State} (hs : 0x72280900a4ef4f88 ||| m = m) (h : Foot m z t) (a0 : _) (a1 : _) (a2 : _) (a3 : _) :
    OutFoot m z (execCtd a0 a1 a2 a3 t) := by
  refine OutFoot.step (m := 0x72280900a4ef4f88) ?_ hs h
  clear h hs
  have h := Foot.refl 0x72280900a4ef4f88 t
  unfold execCtd
  repeat' first
    | with_reducible assumption
    | (intro x; first | clear_value x | skip)
    | lift_lets
    | with_reducible refine foot_instanceOp rfl ?_ ..
    | with_reducible refine OutFoot.next ?_
    | split
    | dsimp only

theorem foot_execEvt {m : Nat} {z t : State} (hs : 0x72280100a4ef4f88 ||| m = m) (h : Foot m z t) (a0 : _) (a1 : _) (a2 : _) (a3 : _) :
    OutFoot m z (execEvt a0 a1 a2 a3 t) := by
  refine OutFoot.step (m := 0x72280100a4ef4f88) ?_ hs h
  clear h hs
  have h := Foot.refl 0x72280100a4ef4f88 t
  unfold execEvt
  repeat' first
    | with_reducible assumption
    | (intro x; first | (have hf := fun a => x a; clear hf; subst x) | clear_value x | skip)
    | lift_lets
    | with_reducible refine foot_modCore rfl ?_ ..
    | with_reducible refine foot_submit rfl ?_ ..
    | with_reducible refine foot_instr rfl (fun _ _ _ => ?_) ?_ ..
    | with_reducible apply Foot.ite
    | with_reducible refine OutFoot.next ?_
    | with_reducible refine OptFoot.eq (by assumption) ?_
    | split
    | dsimp only

theorem foot_execWft {m : Nat} {z t : State} (hs : 0x72280100a4ef4f88 ||| m = m) (h : Foot m z t) (a0 : _) (a1 : _) (a2 : _) (a3 : _) :
    OutFoot m z (execWft a0 a1 a2 a3 t) := by
  refine OutFoot.step (m := 0x72280100a4ef4f88) ?_ hs h
  clear h hs
  have h := Foot.refl 0x72280100a4ef4f88 t
  unfold execWft
  repeat' first
    | with_reducible assumption
    | (intro x; first | (have hf := fun a => x a; clear hf; subst x) | clear_value x | skip)
    | lift_lets
    | with_reducible refine foot_modCore rfl ?_ ..
    | with_reducible refine foot_instr rfl (fun _ _ _ => ?_) ?_ ..
    | with_reducible apply Foot.ite
    | with_reducible refine OutFoot.next ?_
    | split
    | dsimp only

theorem foot_execWftReturn {m : Nat} {z t : State} (hs : 0x40000 ||| m = m) (h : Foot m z t) (a0 : _) :
    OutFoot m z (execWftReturn a0 t) := by
  refine OutFoot.step (m := 0x40000) ?_ hs h
  clear h hs
  have h := Foot.refl 0x40000 t
  unfold execWftReturn
  repeat' first
    | with_reducible assumption
    | (intro x; first | (have hf := fun a => x a; clear hf; subst x) | clear_value x | skip)
    | lift_lets
    | with_reducible refine foot_modCore rfl ?_ ..
    | with_reducible apply Foot.ite
    | with_reducible refine OutFoot.next ?_
    | split
    | dsimp only

end Sys2Proof.Machine
end

