-- ==== Sys2Proof/Laws/FootPower.lean ====
section
/-!
SUPPORT. Footprints of the operations of Machine/Power.lean.
-/

set_option Elab.async false

set_option linter.all false

set_option maxRecDepth 4000

namespace Sys2Proof.Machine

theorem foot_duskStart {m : Nat} {z t : State} (hs : 0x4038012060824200 ||| m = m) (h : Foot m z t) (a0 : _) :
    Foot m z (State.duskStart a0 t) := by
  refine Foot.step (m := 0x4038012060824200) ?_ hs h
  clear h hs
  have h := Foot.refl 0x4038012060824200 t
  unfold State.duskStart
  repeat' first
    | with_reducible assumption
    | (intro x; first | (refine Foot.cut (P := Foot 0x4038012060824200 t x) ?_ ?_; rotate_left; subst x; rotate_left; intro hx; clear_value x) | clear_value x | skip)
    | lift_lets
    | with_reducible refine foot_sbcEngage rfl ?_ ..
    | with_reducible refine foot_recDusk rfl ?_ ..
    | with_reducible refine foot_seqShow rfl ?_ ..
    | with_reducible refine foot_modPos rfl ?_ ..
    | with_reducible refine foot_cause rfl ?_ ..
    | with_reducible refine foot_modSeq rfl ?_ ..
    | with_reducible refine foot_emit rfl ?_ ..
    | with_reducible refine foot_certForget rfl ?_ ..
    | with_reducible refine foot_setFld (blk_SYS_MODE_MODE ..) rfl ?_ ..
    | with_reducible refine foot_setFld (blk_SAFE_REQ_REQ ..) rfl ?_ ..
    | with_reducible refine foot_setRegB (blk_SYS_MODE_MODE ..) rfl ?_ ..
    | with_reducible refine foot_setRegB (blk_SAFE_REQ_REQ ..) rfl ?_ ..
    | with_reducible refine Foot.forL (fun _ _ _ => ?_) ?_
    | with_reducible refine Foot.forN (fun _ _ _ => ?_) ?_
    | with_reducible apply Foot.ite
    | ((with_reducible refine Foot.lit ?_ rfl rfl ?_ ?_ ?_ ?_ ?_ ?_); rotate_left; rfl; rfl; rfl; rfl; (first | exact Nat.le_refl _ | exact Nat.le_succ _); (constructor <;> first | with_reducible exact Kept.same | exact Kept.masked rfl); (first | with_reducible assumption | with_reducible refine foot_sbcEngage rfl ?_ .. | with_reducible refine foot_recDusk rfl ?_ .. | with_reducible refine foot_seqShow rfl ?_ .. | with_reducible refine foot_modPos rfl ?_ .. | with_reducible refine foot_cause rfl ?_ .. | with_reducible refine foot_modSeq rfl ?_ .. | with_reducible refine foot_emit rfl ?_ .. | with_reducible refine foot_certForget rfl ?_ .. | with_reducible refine foot_setFld (blk_SYS_MODE_MODE ..) rfl ?_ .. | with_reducible refine foot_setFld (blk_SAFE_REQ_REQ ..) rfl ?_ .. | with_reducible refine foot_setRegB (blk_SYS_MODE_MODE ..) rfl ?_ .. | with_reducible refine foot_setRegB (blk_SAFE_REQ_REQ ..) rfl ?_ .. | with_reducible refine Foot.forL (fun _ _ _ => ?_) ?_ | with_reducible refine Foot.forN (fun _ _ _ => ?_) ?_ | with_reducible apply Foot.ite))
    | split
    | dsimp only

theorem foot_execPfailAssert {m : Nat} {z t : State} (hs : 0x4038012060824200 ||| m = m) (h : Foot m z t) :
    OutFoot m z (execPfailAssert t) := by
  refine OutFoot.step (m := 0x4038012060824200) ?_ hs h
  clear h hs
  have h := Foot.refl 0x4038012060824200 t
  unfold execPfailAssert
  repeat' first
    | with_reducible assumption
    | (intro x; first | clear_value x | skip)
    | lift_lets
    | with_reducible refine foot_duskStart rfl ?_ ..
    | with_reducible refine OutFoot.next ?_
    | split
    | dsimp only

theorem foot_execSupplyFail {m : Nat} {z t : State} (hs : 0x4038012060824200 ||| m = m) (h : Foot m z t) :
    OutFoot m z (execSupplyFail t) := by
  refine OutFoot.step (m := 0x4038012060824200) ?_ hs h
  clear h hs
  have h := Foot.refl 0x4038012060824200 t
  unfold execSupplyFail
  repeat' first
    | with_reducible assumption
    | (intro x; first | clear_value x | skip)
    | lift_lets
    | with_reducible refine foot_duskStart rfl ?_ ..
    | with_reducible refine OutFoot.next ?_
    | split
    | dsimp only

theorem foot_execCoreOvertemp {m : Nat} {z t : State} (hs : 0x4038012060824300 ||| m = m) (h : Foot m z t) :
    OutFoot m z (execCoreOvertemp t) := by
  refine OutFoot.step (m := 0x4038012060824300) ?_ hs h
  clear h hs
  have h := Foot.refl 0x4038012060824300 t
  unfold execCoreOvertemp
  repeat' first
    | with_reducible assumption
    | (intro x; first | clear_value x | skip)
    | lift_lets
    | with_reducible refine foot_duskStart rfl ?_ ..
    | with_reducible refine foot_log rfl ?_ ..
    | with_reducible apply Foot.ite
    | with_reducible refine OutFoot.next ?_
    | ((with_reducible refine Foot.lit ?_ rfl rfl ?_ ?_ ?_ ?_ ?_ ?_); rotate_left; rfl; rfl; rfl; rfl; (first | exact Nat.le_refl _ | exact Nat.le_succ _); (constructor <;> first | with_reducible exact Kept.same | exact Kept.masked rfl); (first | with_reducible assumption | with_reducible refine foot_duskStart rfl ?_ .. | with_reducible refine foot_log rfl ?_ .. | with_reducible apply Foot.ite | with_reducible refine OutFoot.next ?_))
    | split
    | dsimp only

theorem foot_execDuskTaskDeadline {m : Nat} {z t : State} (hs : 0x80000044888 ||| m = m) (h : Foot m z t) :
    OutFoot m z (execDuskTaskDeadline t) := by
  refine OutFoot.step (m := 0x80000044888) ?_ hs h
  clear h hs
  have h := Foot.refl 0x80000044888 t
  unfold execDuskTaskDeadline
  repeat' first
    | with_reducible assumption
    | (intro x; first | (refine Foot.cut (P := Foot 0x80000044888 t x) ?_ ?_; rotate_left; subst x; rotate_left; intro hx; clear_value x) | clear_value x | skip)
    | lift_lets
    | with_reducible refine foot_modCore rfl ?_ ..
    | with_reducible refine foot_takeBack rfl ?_ ..
    | with_reducible refine Foot.forL (fun _ _ _ => ?_) ?_
    | with_reducible apply Foot.ite
    | with_reducible refine OutFoot.next ?_
    | ((with_reducible refine Foot.lit ?_ rfl rfl ?_ ?_ ?_ ?_ ?_ ?_); rotate_left; rfl; rfl; rfl; rfl; (first | exact Nat.le_refl _ | exact Nat.le_succ _); (constructor <;> first | with_reducible exact Kept.same | exact Kept.masked rfl); (first | with_reducible assumption | with_reducible refine foot_modCore rfl ?_ .. | with_reducible refine foot_takeBack rfl ?_ .. | with_reducible refine Foot.forL (fun _ _ _ => ?_) ?_ | with_reducible apply Foot.ite | with_reducible refine OutFoot.next ?_))
    | split
    | dsimp only

theorem foot_execDuskPowerFailState {m : Nat} {z t : State} (hs : 0x72290100a6ea4f80 ||| m = m) (h : Foot m z t) :
    OutFoot m z (execDuskPowerFailState t) := by
  refine OutFoot.step (m := 0x72290100a6ea4f80) ?_ hs h
  clear h hs
  have h := Foot.refl 0x72290100a6ea4f80 t
  unfold execDuskPowerFailState
  repeat' first
    | with_reducible assumption
    | (intro x; first | (refine Foot.cut (P := Foot 0x72290100a6ea4f80 t x) ?_ ?_; rotate_left; subst x; rotate_left; intro hx; clear_value x) | clear_value x | skip)
    | lift_lets
    | with_reducible refine foot_axInhibit rfl ?_ ..
    | with_reducible refine foot_dieRefresh rfl ?_ ..
    | with_reducible refine foot_sbcEngage rfl ?_ ..
    | with_reducible refine Foot.forL (fun _ _ _ => ?_) ?_
    | with_reducible refine Foot.forN (fun _ _ _ => ?_) ?_
    | with_reducible apply Foot.ite
    | with_reducible refine OutFoot.next ?_
    | ((with_reducible refine Foot.lit ?_ rfl rfl ?_ ?_ ?_ ?_ ?_ ?_); rotate_left; rfl; rfl; rfl; rfl; (first | exact Nat.le_refl _ | exact Nat.le_succ _); (constructor <;> first | with_reducible exact Kept.same | exact Kept.masked rfl); (first | with_reducible assumption | with_reducible refine foot_axInhibit rfl ?_ .. | with_reducible refine foot_dieRefresh rfl ?_ .. | with_reducible refine foot_sbcEngage rfl ?_ .. | with_reducible refine Foot.forL (fun _ _ _ => ?_) ?_ | with_reducible refine Foot.forN (fun _ _ _ => ?_) ?_ | with_reducible apply Foot.ite | with_reducible refine OutFoot.next ?_))
    | split
    | dsimp only

theorem foot_powerless {m : Nat} {z t : State} (hs : 0xffffff1fffffcdca ||| m = m) (h : Foot m z t) :
    Foot m z (State.powerless t) := by
  refine Foot.step (m := 0xffffff1fffffcdca) ?_ hs h
  refine ⟨rfl, fun a ha => ?_, fun _ => rfl, fun _ => Canon.nil _, .of_eq rfl rfl rfl rfl, Nat.le_refl _⟩
  rw [block_in (m := 0xffffff1fffffcdca) rfl (blockOf a)] at ha
  cases ha

theorem foot_keepLockout {m : Nat} {z t : State} (hs : 0x8000000000000 ||| m = m) (h : Foot m z t) (a0 : _) :
    Foot m z (State.keepLockout a0 t) := by
  refine Foot.step (m := 0x8000000000000) ?_ hs h
  clear h hs
  have h := Foot.refl 0x8000000000000 t
  unfold State.keepLockout
  repeat' first
    | with_reducible assumption
    | (intro x; first | clear_value x | skip)
    | lift_lets
    | with_reducible refine foot_setFld (blk_SAFE_STAT_ARG ..) rfl ?_ ..
    | with_reducible refine foot_setFld (blk_SAFE_STAT_REASON ..) rfl ?_ ..
    | with_reducible refine foot_setFld (blk_SAFE_STAT_SOFF ..) rfl ?_ ..
    | with_reducible refine foot_setFld (blk_SAFE_STAT_STATE ..) rfl ?_ ..
    | with_reducible refine foot_setFlag (blk_SAFE_STAT_ARG ..) rfl ?_ ..
    | with_reducible refine foot_setFlag (blk_SAFE_STAT_REASON ..) rfl ?_ ..
    | with_reducible refine foot_setFlag (blk_SAFE_STAT_SOFF ..) rfl ?_ ..
    | with_reducible refine foot_setFlag (blk_SAFE_STAT_STATE ..) rfl ?_ ..
    | with_reducible apply Foot.ite
    | split
    | dsimp only

theorem foot_unpowered {m : Nat} {z t : State} (hs : 0xffffff1fffffcdca ||| m = m) (h : Foot m z t) :
    Foot m z (State.unpowered t) := by
  refine Foot.step (m := 0xffffff1fffffcdca) ?_ hs h
  clear h hs
  have h := Foot.refl 0xffffff1fffffcdca t
  unfold State.unpowered
  repeat' first
    | with_reducible assumption
    | (intro x; first | clear_value x | skip)
    | lift_lets
    | with_reducible refine foot_powerless rfl ?_ ..
    | with_reducible refine foot_keepLockout rfl ?_ ..
    | with_reducible refine foot_setRegB (blk_SEAL_STAT_SIGNER ..) rfl ?_ ..
    | with_reducible refine foot_setRegB (blk_SAFE_BHT_BRK_FAIL ..) rfl ?_ ..
    | with_reducible refine Foot.forN (fun _ _ _ => ?_) ?_
    | split
    | dsimp only

theorem foot_execVaultEntry {m : Nat} {z t : State} (hs : 0xffffff1fffffcfca ||| m = m) (h : Foot m z t) :
    OutFoot m z (execVaultEntry t) := by
  refine OutFoot.step (m := 0xffffff1fffffcfca) ?_ hs h
  clear h hs
  have h := Foot.refl 0xffffff1fffffcfca t
  unfold execVaultEntry
  repeat' first
    | with_reducible assumption
    | (intro x; first | (refine Foot.cut (P := Foot 0xffffff1fffffcfca t x) ?_ ?_; rotate_left; subst x; rotate_left; intro hx; clear_value x) | clear_value x | skip)
    | lift_lets
    | with_reducible refine foot_unpowered rfl ?_ ..
    | with_reducible refine foot_setFld (blk_SYS_MODE_MODE ..) rfl ?_ ..
    | with_reducible apply Foot.ite
    | with_reducible refine OutFoot.next ?_
    | ((with_reducible refine Foot.lit ?_ rfl rfl ?_ ?_ ?_ ?_ ?_ ?_); rotate_left; rfl; rfl; rfl; rfl; (first | exact Nat.le_refl _ | exact Nat.le_succ _); (constructor <;> first | with_reducible exact Kept.same | exact Kept.masked rfl); (first | with_reducible assumption | with_reducible refine foot_unpowered rfl ?_ .. | with_reducible refine foot_setFld (blk_SYS_MODE_MODE ..) rfl ?_ .. | with_reducible apply Foot.ite | with_reducible refine OutFoot.next ?_))
    | split
    | dsimp only

theorem foot_fwReturn {m : Nat} {z t : State} (hs : 0x10400 ||| m = m) (h : Foot m z t) (a0 : _) :
    Foot m z (State.fwReturn a0 t) := by
  refine Foot.step (m := 0x10400) ?_ hs h
  clear h hs
  have h := Foot.refl 0x10400 t
  unfold State.fwReturn
  repeat' first
    | with_reducible assumption
    | (intro x; first | clear_value x | skip)
    | lift_lets
    | ((with_reducible refine Foot.lit ?_ rfl rfl ?_ ?_ ?_ ?_ ?_ ?_); rotate_left; rfl; rfl; rfl; rfl; (first | exact Nat.le_refl _ | exact Nat.le_succ _); (constructor <;> first | with_reducible exact Kept.same | exact Kept.masked rfl); (first | with_reducible assumption))
    | split
    | dsimp only

theorem foot_fwShow {m : Nat} {z t : State} (hs : 0x10000000000 ||| m = m) (h : Foot m z t) :
    Foot m z (State.fwShow t) := by
  refine Foot.step (m := 0x10000000000) ?_ hs h
  clear h hs
  have h := Foot.refl 0x10000000000 t
  unfold State.fwShow
  repeat' first
    | with_reducible assumption
    | (intro x; first | clear_value x | skip)
    | lift_lets
    | with_reducible refine foot_setFld (blk_SYS_FWSTAT_BANKS ..) rfl ?_ ..
    | with_reducible refine foot_setFld (blk_SYS_FWSTAT_STATE ..) rfl ?_ ..
    | with_reducible refine foot_setFld (blk_SYS_FWSTAT_BOOT ..) rfl ?_ ..
    | with_reducible refine foot_setFlag (blk_SYS_FWSTAT_BANKS ..) rfl ?_ ..
    | with_reducible refine foot_setFlag (blk_SYS_FWSTAT_STATE ..) rfl ?_ ..
    | with_reducible refine foot_setFlag (blk_SYS_FWSTAT_BOOT ..) rfl ?_ ..
    | split
    | dsimp only

theorem foot_fwExchange {m : Nat} {z t : State} (hs : 0x14700 ||| m = m) (h : Foot m z t) :
    PairFoot m z (State.fwExchange t) := by
  refine PairFoot.step (m := 0x14700) ?_ hs h
  clear h hs
  have h := Foot.refl 0x14700 t
  unfold State.fwExchange
  repeat' first
    | with_reducible assumption
    | (intro x; first | clear_value x | skip)
    | lift_lets
    | with_reducible refine foot_log rfl ?_ ..
    | with_reducible apply PairFoot.ite
    | ((with_reducible refine Foot.lit ?_ rfl rfl ?_ ?_ ?_ ?_ ?_ ?_); rotate_left; rfl; rfl; rfl; rfl; (first | exact Nat.le_refl _ | exact Nat.le_succ _); (constructor <;> first | with_reducible exact Kept.same | exact Kept.masked rfl); (first | with_reducible assumption | with_reducible refine foot_log rfl ?_ .. | with_reducible apply PairFoot.ite))
    | split
    | with_reducible refine PairFoot.mk ?_
    | dsimp only

theorem foot_fwCommit {m : Nat} {z t : State} (hs : 0x40400017300 ||| m = m) (h : Foot m z t) :
    PairFoot m z (State.fwCommit t) := by
  refine PairFoot.step (m := 0x40400017300) ?_ hs h
  clear h hs
  have h := Foot.refl 0x40400017300 t
  unfold State.fwCommit
  repeat' first
    | with_reducible assumption
    | (intro x; first
        | (refine Foot.cut (P := Foot 0x40400017300 t x) ?_ ?_; rotate_left; subst x; rotate_left; intro hx; clear_value x)
        | (refine Foot.cut (P := PairFoot 0x40400017300 t x) ?_ ?_; rotate_left; subst x; rotate_left; intro hx; clear_value x)
        | (refine Foot.cut (P := OptFoot 0x40400017300 t x) ?_ ?_; rotate_left; subst x; rotate_left; intro hx; clear_value x)
        | (have hf := x.programmed; clear hf)
        | clear_value x
        | skip)
    | lift_lets
    | with_reducible refine foot_log rfl ?_ ..
    | with_reducible refine foot_burn rfl ?_ ..
    | with_reducible refine Foot.foldl (fun _ _ _ => ?_) ?_
    | with_reducible refine PairFoot.foldl (fun _ _ _ => ?_) ?_
    | with_reducible apply Foot.ite
    | with_reducible apply PairFoot.ite
    | with_reducible apply OptFoot.ite
    | with_reducible apply OutFoot.ite
    | with_reducible apply ExFoot.ite
    | with_reducible exact ExFoot.error
    | with_reducible refine ExFoot.ok ?_
    | with_reducible refine PairFoot.forL (fun _ _ _ => ?_) ?_
    | with_reducible refine PairFoot.forN (fun _ _ _ => ?_) ?_
    | with_reducible refine OptFoot.some ?_
    | with_reducible exact OptFoot.none
    | with_reducible refine OutFoot.next ?_
    | with_reducible refine OptFoot.getD ?_ ?_
    | with_reducible refine PairFoot.snd ?_
    | with_reducible exact PairFoot.out (by assumption)
    | with_reducible refine PairFoot.eq (by assumption) ?_
    | with_reducible refine OptFoot.eq (by assumption) ?_
    | with_reducible refine ExFoot.eq (by assumption) ?_
    | ((with_reducible refine Foot.lit ?_ rfl rfl ?_ ?_ ?_ ?_ ?_ ?_); rotate_left; rfl; rfl; rfl; rfl; (first | exact Nat.le_refl _ | exact Nat.le_succ _); (constructor <;> first | with_reducible exact Kept.same | exact Kept.masked rfl); (first | with_reducible assumption | with_reducible refine foot_log rfl ?_ .. | with_reducible refine foot_burn rfl ?_ .. | with_reducible refine Foot.foldl (fun _ _ _ => ?_) ?_ | with_reducible refine PairFoot.foldl (fun _ _ _ => ?_) ?_ | with_reducible apply Foot.ite | with_reducible apply PairFoot.ite | with_reducible apply OptFoot.ite | with_reducible apply OutFoot.ite | with_reducible apply ExFoot.ite | with_reducible exact ExFoot.error | with_reducible refine ExFoot.ok ?_ | with_reducible refine PairFoot.forL (fun _ _ _ => ?_) ?_ | with_reducible refine PairFoot.forN (fun _ _ _ => ?_) ?_ | with_reducible refine OptFoot.some ?_ | with_reducible exact OptFoot.none | with_reducible refine OutFoot.next ?_ | with_reducible refine OptFoot.getD ?_ ?_ | with_reducible refine PairFoot.snd ?_))
    | split
    | with_reducible refine PairFoot.mk ?_
    | dsimp only

theorem foot_fwAbort {m : Nat} {z t : State} (hs : 0x14700 ||| m = m) (h : Foot m z t) :
    PairFoot m z (State.fwAbort t) := by
  refine PairFoot.step (m := 0x14700) ?_ hs h
  clear h hs
  have h := Foot.refl 0x14700 t
  unfold State.fwAbort
  repeat' first
    | with_reducible assumption
    | (intro x; first | clear_value x | skip)
    | lift_lets
    | with_reducible refine foot_fwReturn rfl ?_ ..
    | with_reducible refine foot_modSched rfl ?_ ..
    | with_reducible refine foot_log rfl ?_ ..
    | with_reducible apply PairFoot.ite
    | ((with_reducible refine Foot.lit ?_ rfl rfl ?_ ?_ ?_ ?_ ?_ ?_); rotate_left; rfl; rfl; rfl; rfl; (first | exact Nat.le_refl _ | exact Nat.le_succ _); (constructor <;> first | with_reducible exact Kept.same | exact Kept.masked rfl); (first | with_reducible assumption | with_reducible refine foot_fwReturn rfl ?_ .. | with_reducible refine foot_modSched rfl ?_ .. | with_reducible refine foot_log rfl ?_ .. | with_reducible apply PairFoot.ite))
    | split
    | with_reducible refine PairFoot.mk ?_
    | dsimp only

theorem foot_enterRun {m : Nat} {z t : State} (hs : 0x72280504a4ea4f80 ||| m = m) (h : Foot m z t) :
    Foot m z (State.enterRun t) := by
  refine Foot.step (m := 0x72280504a4ea4f80) ?_ hs h
  clear h hs
  have h := Foot.refl 0x72280504a4ea4f80 t
  unfold State.enterRun
  repeat' first
    | with_reducible assumption
    | (intro x; first
        | (refine Foot.cut (P := Foot 0x72280504a4ea4f80 t x) ?_ ?_; rotate_left; subst x; rotate_left; intro hx; clear_value x)
        | (refine Foot.cut (P := PairFoot 0x72280504a4ea4f80 t x) ?_ ?_; rotate_left; subst x; rotate_left; intro hx; clear_value x)
        | (refine Foot.cut (P := OptFoot 0x72280504a4ea4f80 t x) ?_ ?_; rotate_left; subst x; rotate_left; intro hx; clear_value x)
        | (have hf := x.programmed; clear hf)
        | clear_value x
        | skip)
    | lift_lets
    | with_reducible refine foot_cause rfl ?_ ..
    | with_reducible refine foot_setMode rfl ?_ ..
    | with_reducible refine foot_burn rfl ?_ ..
    | with_reducible refine Foot.foldl (fun _ _ _ => ?_) ?_
    | with_reducible refine PairFoot.foldl (fun _ _ _ => ?_) ?_
    | with_reducible apply Foot.ite
    | with_reducible apply PairFoot.ite
    | with_reducible apply OptFoot.ite
    | with_reducible apply OutFoot.ite
    | with_reducible apply ExFoot.ite
    | with_reducible exact ExFoot.error
    | with_reducible refine ExFoot.ok ?_
    | with_reducible refine PairFoot.forL (fun _ _ _ => ?_) ?_
    | with_reducible refine PairFoot.forN (fun _ _ _ => ?_) ?_
    | with_reducible refine OptFoot.some ?_
    | with_reducible exact OptFoot.none
    | with_reducible refine OutFoot.next ?_
    | with_reducible refine OptFoot.getD ?_ ?_
    | with_reducible refine PairFoot.snd ?_
    | with_reducible exact PairFoot.out (by assumption)
    | with_reducible refine PairFoot.eq (by assumption) ?_
    | with_reducible refine OptFoot.eq (by assumption) ?_
    | with_reducible refine ExFoot.eq (by assumption) ?_
    | ((with_reducible refine Foot.lit ?_ rfl rfl ?_ ?_ ?_ ?_ ?_ ?_); rotate_left; rfl; rfl; rfl; rfl; (first | exact Nat.le_refl _ | exact Nat.le_succ _); (constructor <;> first | with_reducible exact Kept.same | exact Kept.masked rfl); (first | with_reducible assumption | with_reducible refine foot_cause rfl ?_ .. | with_reducible refine foot_setMode rfl ?_ .. | with_reducible refine foot_burn rfl ?_ .. | with_reducible refine Foot.foldl (fun _ _ _ => ?_) ?_ | with_reducible refine PairFoot.foldl (fun _ _ _ => ?_) ?_ | with_reducible apply Foot.ite | with_reducible apply PairFoot.ite | with_reducible apply OptFoot.ite | with_reducible apply OutFoot.ite | with_reducible apply ExFoot.ite | with_reducible exact ExFoot.error | with_reducible refine ExFoot.ok ?_ | with_reducible refine PairFoot.forL (fun _ _ _ => ?_) ?_ | with_reducible refine PairFoot.forN (fun _ _ _ => ?_) ?_ | with_reducible refine OptFoot.some ?_ | with_reducible exact OptFoot.none | with_reducible refine OutFoot.next ?_ | with_reducible refine OptFoot.getD ?_ ?_ | with_reducible refine PairFoot.snd ?_))
    | split
    | with_reducible refine PairFoot.mk ?_
    | dsimp only

theorem foot_modeCommand {m : Nat} {z t : State} (hs : 0x72280504a4ea4f80 ||| m = m) (h : Foot m z t) (a0 : _) (a1 : _) :
    PairFoot m z (State.modeCommand a0 a1 t) := by
  refine PairFoot.step (m := 0x72280504a4ea4f80) ?_ hs h
  clear h hs
  have h := Foot.refl 0x72280504a4ea4f80 t
  unfold State.modeCommand
  repeat' first
    | with_reducible assumption
    | (intro x; first | clear_value x | skip)
    | lift_lets
    | with_reducible refine foot_enterRun rfl ?_ ..
    | with_reducible refine foot_cause rfl ?_ ..
    | with_reducible refine foot_setMode rfl ?_ ..
    | with_reducible apply PairFoot.ite
    | split
    | with_reducible refine PairFoot.mk ?_
    | dsimp only

theorem foot_sysRun {m : Nat} {z t : State} (hs : 0x72380524e4eb7f80 ||| m = m) (h : Foot m z t) (a0 : _) (a1 : _) :
    PairFoot m z (State.sysRun a0 a1 t) := by
  refine PairFoot.step (m := 0x72380524e4eb7f80) ?_ hs h
  clear h hs
  have h := Foot.refl 0x72380524e4eb7f80 t
  unfold State.sysRun
  repeat' first
    | with_reducible assumption
    | (intro x; first | clear_value x | skip)
    | lift_lets
    | with_reducible refine foot_fwCommit rfl ?_ ..
    | with_reducible refine foot_duskStart rfl ?_ ..
    | with_reducible refine foot_modeCommand rfl ?_ ..
    | with_reducible refine foot_fwExchange rfl ?_ ..
    | with_reducible refine foot_fwAbort rfl ?_ ..
    | with_reducible apply PairFoot.ite
    | ((with_reducible refine Foot.lit ?_ rfl rfl ?_ ?_ ?_ ?_ ?_ ?_); rotate_left; rfl; rfl; rfl; rfl; (first | exact Nat.le_refl _ | exact Nat.le_succ _); (constructor <;> first | with_reducible exact Kept.same | exact Kept.masked rfl); (first | with_reducible assumption | with_reducible refine foot_fwCommit rfl ?_ .. | with_reducible refine foot_duskStart rfl ?_ .. | with_reducible refine foot_modeCommand rfl ?_ .. | with_reducible refine foot_fwExchange rfl ?_ .. | with_reducible refine foot_fwAbort rfl ?_ .. | with_reducible apply PairFoot.ite))
    | split
    | with_reducible refine PairFoot.mk ?_
    | dsimp only

theorem foot_sysCmd {m : Nat} {z t : State} (hs : 0x72380524e4eb7f80 ||| m = m) (h : Foot m z t) (a0 : _) (a1 : _) (a2 : _) :
    Foot m z (State.sysCmd a0 a1 a2 t) := by
  refine Foot.step (m := 0x72380524e4eb7f80) ?_ hs h
  clear h hs
  have h := Foot.refl 0x72380524e4eb7f80 t
  unfold State.sysCmd
  repeat' first
    | with_reducible assumption
    | (intro x; first | clear_value x | skip)
    | lift_lets
    | with_reducible refine foot_fwShow rfl ?_ ..
    | with_reducible refine foot_sysRun rfl ?_ ..
    | with_reducible refine foot_setFld (blk_SYS_CMDSTAT_RESULT ..) rfl ?_ ..
    | with_reducible refine foot_setFld (blk_SYS_CMDSTAT_CODE ..) rfl ?_ ..
    | with_reducible apply Foot.ite
    | with_reducible refine PairFoot.snd ?_
    | split
    | dsimp only

theorem foot_execRun {m : Nat} {z t : State} (hs : 0x72380524e4eb7f80 ||| m = m) (h : Foot m z t) (a0 : _) (a1 : _) :
    OutFoot m z (execRun a0 a1 t) := by
  refine OutFoot.step (m := 0x72380524e4eb7f80) ?_ hs h
  clear h hs
  have h := Foot.refl 0x72380524e4eb7f80 t
  unfold execRun
  repeat' first
    | with_reducible assumption
    | (intro x; first | clear_value x | skip)
    | lift_lets
    | with_reducible refine foot_sysCmd rfl ?_ ..
    | with_reducible refine OutFoot.next ?_
    | split
    | dsimp only

theorem foot_execHold {m : Nat} {z t : State} (hs : 0x72380524e4eb7f80 ||| m = m) (h : Foot m z t) (a0 : _) (a1 : _) :
    OutFoot m z (execHold a0 a1 t) := by
  refine OutFoot.step (m := 0x72380524e4eb7f80) ?_ hs h
  clear h hs
  have h := Foot.refl 0x72380524e4eb7f80 t
  unfold execHold
  repeat' first
    | with_reducible assumption
    | (intro x; first | clear_value x | skip)
    | lift_lets
    | with_reducible refine foot_sysCmd rfl ?_ ..
    | with_reducible refine OutFoot.next ?_
    | split
    | dsimp only

theorem foot_execEngineer {m : Nat} {z t : State} (hs : 0x72380524e4eb7f80 ||| m = m) (h : Foot m z t) (a0 : _) (a1 : _) :
    OutFoot m z (execEngineer a0 a1 t) := by
  refine OutFoot.step (m := 0x72380524e4eb7f80) ?_ hs h
  clear h hs
  have h := Foot.refl 0x72380524e4eb7f80 t
  unfold execEngineer
  repeat' first
    | with_reducible assumption
    | (intro x; first | clear_value x | skip)
    | lift_lets
    | with_reducible refine foot_sysCmd rfl ?_ ..
    | with_reducible refine OutFoot.next ?_
    | split
    | dsimp only

theorem foot_execIdle {m : Nat} {z t : State} (hs : 0x72380524e4eb7f80 ||| m = m) (h : Foot m z t) (a0 : _) (a1 : _) :
    OutFoot m z (execIdle a0 a1 t) := by
  refine OutFoot.step (m := 0x72380524e4eb7f80) ?_ hs h
  clear h hs
  have h := Foot.refl 0x72380524e4eb7f80 t
  unfold execIdle
  repeat' first
    | with_reducible assumption
    | (intro x; first | clear_value x | skip)
    | lift_lets
    | with_reducible refine foot_sysCmd rfl ?_ ..
    | with_reducible refine OutFoot.next ?_
    | split
    | dsimp only

theorem foot_execFollow {m : Nat} {z t : State} (hs : 0x72380524e4eb7f80 ||| m = m) (h : Foot m z t) (a0 : _) (a1 : _) :
    OutFoot m z (execFollow a0 a1 t) := by
  refine OutFoot.step (m := 0x72380524e4eb7f80) ?_ hs h
  clear h hs
  have h := Foot.refl 0x72380524e4eb7f80 t
  unfold execFollow
  repeat' first
    | with_reducible assumption
    | (intro x; first | clear_value x | skip)
    | lift_lets
    | with_reducible refine foot_sysCmd rfl ?_ ..
    | with_reducible refine OutFoot.next ?_
    | split
    | dsimp only

theorem foot_execRestartWarm {m : Nat} {z t : State} (hs : 0x72380524e4eb7f80 ||| m = m) (h : Foot m z t) (a0 : _) (a1 : _) :
    OutFoot m z (execRestartWarm a0 a1 t) := by
  refine OutFoot.step (m := 0x72380524e4eb7f80) ?_ hs h
  clear h hs
  have h := Foot.refl 0x72380524e4eb7f80 t
  unfold execRestartWarm
  repeat' first
    | with_reducible assumption
    | (intro x; first | clear_value x | skip)
    | lift_lets
    | with_reducible refine foot_sysCmd rfl ?_ ..
    | with_reducible refine OutFoot.next ?_
    | split
    | dsimp only

theorem foot_execRestartCold {m : Nat} {z t : State} (hs : 0x72380524e4eb7f80 ||| m = m) (h : Foot m z t) (a0 : _) (a1 : _) :
    OutFoot m z (execRestartCold a0 a1 t) := by
  refine OutFoot.step (m := 0x72380524e4eb7f80) ?_ hs h
  clear h hs
  have h := Foot.refl 0x72380524e4eb7f80 t
  unfold execRestartCold
  repeat' first
    | with_reducible assumption
    | (intro x; first | clear_value x | skip)
    | lift_lets
    | with_reducible refine foot_sysCmd rfl ?_ ..
    | with_reducible refine OutFoot.next ?_
    | split
    | dsimp only

theorem foot_execFwExchange {m : Nat} {z t : State} (hs : 0x72380524e4eb7f80 ||| m = m) (h : Foot m z t) (a0 : _) (a1 : _) :
    OutFoot m z (execFwExchange a0 a1 t) := by
  refine OutFoot.step (m := 0x72380524e4eb7f80) ?_ hs h
  clear h hs
  have h := Foot.refl 0x72380524e4eb7f80 t
  unfold execFwExchange
  repeat' first
    | with_reducible assumption
    | (intro x; first | clear_value x | skip)
    | lift_lets
    | with_reducible refine foot_sysCmd rfl ?_ ..
    | with_reducible refine OutFoot.next ?_
    | split
    | dsimp only

theorem foot_execFwCommit {m : Nat} {z t : State} (hs : 0x72380524e4eb7f80 ||| m = m) (h : Foot m z t) (a0 : _) (a1 : _) :
    OutFoot m z (execFwCommit a0 a1 t) := by
  refine OutFoot.step (m := 0x72380524e4eb7f80) ?_ hs h
  clear h hs
  have h := Foot.refl 0x72380524e4eb7f80 t
  unfold execFwCommit
  repeat' first
    | with_reducible assumption
    | (intro x; first | clear_value x | skip)
    | lift_lets
    | with_reducible refine foot_sysCmd rfl ?_ ..
    | with_reducible refine OutFoot.next ?_
    | split
    | dsimp only

theorem foot_execFwAbort {m : Nat} {z t : State} (hs : 0x72380524e4eb7f80 ||| m = m) (h : Foot m z t) (a0 : _) (a1 : _) :
    OutFoot m z (execFwAbort a0 a1 t) := by
  refine OutFoot.step (m := 0x72380524e4eb7f80) ?_ hs h
  clear h hs
  have h := Foot.refl 0x72380524e4eb7f80 t
  unfold execFwAbort
  repeat' first
    | with_reducible assumption
    | (intro x; first | clear_value x | skip)
    | lift_lets
    | with_reducible refine foot_sysCmd rfl ?_ ..
    | with_reducible refine OutFoot.next ?_
    | split
    | dsimp only

theorem foot_execFwCoreRejoin {m : Nat} {z t : State} (hs : 0x10000014700 ||| m = m) (h : Foot m z t) (a0 : _) :
    OutFoot m z (execFwCoreRejoin a0 t) := by
  refine OutFoot.step (m := 0x10000014700) ?_ hs h
  clear h hs
  have h := Foot.refl 0x10000014700 t
  unfold execFwCoreRejoin
  repeat' first
    | with_reducible assumption
    | (intro x; first | (refine Foot.cut (P := Foot 0x10000014700 t x) ?_ ?_; rotate_left; subst x; rotate_left; intro hx; clear_value x) | clear_value x | skip)
    | lift_lets
    | with_reducible refine foot_fwReturn rfl ?_ ..
    | with_reducible refine foot_fwShow rfl ?_ ..
    | with_reducible refine foot_modSched rfl ?_ ..
    | with_reducible refine foot_log rfl ?_ ..
    | with_reducible refine foot_setFld (blk_SYS_CMDSTAT_RESULT ..) rfl ?_ ..
    | with_reducible refine foot_setFld (blk_SYS_CMDSTAT_CODE ..) rfl ?_ ..
    | with_reducible apply Foot.ite
    | with_reducible refine OutFoot.next ?_
    | ((with_reducible refine Foot.lit ?_ rfl rfl ?_ ?_ ?_ ?_ ?_ ?_); rotate_left; rfl; rfl; rfl; rfl; (first | exact Nat.le_refl _ | exact Nat.le_succ _); (constructor <;> first | with_reducible exact Kept.same | exact Kept.masked rfl); (first | with_reducible assumption | with_reducible refine foot_fwReturn rfl ?_ .. | with_reducible refine foot_fwShow rfl ?_ .. | with_reducible refine foot_modSched rfl ?_ .. | with_reducible refine foot_log rfl ?_ .. | with_reducible refine foot_setFld (blk_SYS_CMDSTAT_RESULT ..) rfl ?_ .. | with_reducible refine foot_setFld (blk_SYS_CMDSTAT_CODE ..) rfl ?_ .. | with_reducible apply Foot.ite | with_reducible refine OutFoot.next ?_))
    | split
    | dsimp only

theorem foot_redispatch {m : Nat} {z t : State} (hs : 0x400 ||| m = m) (h : Foot m z t) (a0 : _) (a1 : _) :
    Foot m z (State.redispatch a0 a1 t) := by
  refine Foot.step (m := 0x400) ?_ hs h
  clear h hs
  have h := Foot.refl 0x400 t
  unfold State.redispatch
  repeat' first
    | with_reducible assumption
    | (intro x; first | (have hf := fun a => x a; clear hf; subst x) | clear_value x | skip)
    | lift_lets
    | with_reducible refine foot_modSched rfl ?_ ..
    | with_reducible apply Foot.ite
    | split
    | dsimp only

theorem foot_execLockstepMismatch {m : Nat} {z t : State} (hs : 0x72280900a4ee4f88 ||| m = m) (h : Foot m z t) (a0 : _) :
    OutFoot m z (execLockstepMismatch a0 t) := by
  refine OutFoot.step (m := 0x72280900a4ee4f88) ?_ hs h
  clear h hs
  have h := Foot.refl 0x72280900a4ee4f88 t
  unfold execLockstepMismatch
  repeat' first
    | with_reducible assumption
    | (intro x; first | (refine Foot.cut (P := Foot 0x72280900a4ee4f88 t x) ?_ ?_; rotate_left; subst x; rotate_left; intro hx; clear_value x) | clear_value x | skip)
    | lift_lets
    | with_reducible refine foot_undoPlayback rfl ?_ ..
    | with_reducible refine foot_redispatch rfl ?_ ..
    | with_reducible refine foot_modCore rfl ?_ ..
    | with_reducible refine foot_modSched rfl ?_ ..
    | with_reducible refine foot_raise rfl ?_ ..
    | with_reducible refine foot_injDone rfl ?_ ..
    | with_reducible apply Foot.ite
    | with_reducible refine OutFoot.next ?_
    | ((with_reducible refine Foot.lit ?_ rfl rfl ?_ ?_ ?_ ?_ ?_ ?_); rotate_left; rfl; rfl; rfl; rfl; (first | exact Nat.le_refl _ | exact Nat.le_succ _); (constructor <;> first | with_reducible exact Kept.same | exact Kept.masked rfl); (first | with_reducible assumption | with_reducible refine foot_undoPlayback rfl ?_ .. | with_reducible refine foot_redispatch rfl ?_ .. | with_reducible refine foot_modCore rfl ?_ .. | with_reducible refine foot_modSched rfl ?_ .. | with_reducible refine foot_raise rfl ?_ .. | with_reducible refine foot_injDone rfl ?_ .. | with_reducible apply Foot.ite | with_reducible refine OutFoot.next ?_))
    | split
    | dsimp only

theorem foot_execCoreRejoin {m : Nat} {z t : State} (hs : 0x40400 ||| m = m) (h : Foot m z t) (a0 : _) (a1 : _) :
    OutFoot m z (execCoreRejoin a0 a1 t) := by
  refine OutFoot.step (m := 0x40400) ?_ hs h
  clear h hs
  have h := Foot.refl 0x40400 t
  unfold execCoreRejoin
  repeat' first
    | with_reducible assumption
    | (intro x; first | clear_value x | skip)
    | lift_lets
    | with_reducible refine foot_modCore rfl ?_ ..
    | with_reducible refine foot_modSched rfl ?_ ..
    | with_reducible apply Foot.ite
    | with_reducible refine OutFoot.next ?_
    | split
    | dsimp only

theorem foot_substitute {m : Nat} {z t : State} (hs : 0x8000 ||| m = m) (h : Foot m z t) :
    Foot m z (State.substitute t) := by
  refine Foot.step (m := 0x8000) ?_ hs h
  clear h hs
  have h := Foot.refl 0x8000 t
  unfold State.substitute
  repeat' first
    | with_reducible assumption
    | (intro x; first | clear_value x | skip)
    | lift_lets
    | ((with_reducible refine Foot.lit ?_ rfl rfl ?_ ?_ ?_ ?_ ?_ ?_); rotate_left; rfl; rfl; rfl; rfl; (first | exact Nat.le_refl _ | exact Nat.le_succ _); (constructor <;> first | with_reducible exact Kept.same | exact Kept.masked rfl); (first | with_reducible assumption))
    | split
    | dsimp only

theorem foot_takeover {m : Nat} {z t : State} (hs : 0x722c0100a4eacf80 ||| m = m) (h : Foot m z t) :
    Foot m z (State.takeover t) := by
  refine Foot.step (m := 0x722c0100a4eacf80) ?_ hs h
  clear h hs
  have h := Foot.refl 0x722c0100a4eacf80 t
  unfold State.takeover
  repeat' first
    | with_reducible assumption
    | (intro x; first | (refine Foot.cut (P := Foot 0x722c0100a4eacf80 t x) ?_ ?_; rotate_left; subst x; rotate_left; intro hx; clear_value x) | clear_value x | skip)
    | lift_lets
    | with_reducible refine foot_setModeFrom rfl ?_ ..
    | with_reducible refine foot_substitute rfl ?_ ..
    | with_reducible refine foot_modPos rfl ?_ ..
    | with_reducible refine foot_cause rfl ?_ ..
    | with_reducible refine foot_reasonTo rfl ?_ ..
    | with_reducible refine foot_setFld (blk_PART_STAT_EPOCH ..) rfl ?_ ..
    | with_reducible refine foot_setFld (blk_PART_STAT_TOOK_OVER ..) rfl ?_ ..
    | with_reducible refine foot_setFlag (blk_PART_STAT_EPOCH ..) rfl ?_ ..
    | with_reducible refine foot_setFlag (blk_PART_STAT_TOOK_OVER ..) rfl ?_ ..
    | with_reducible refine Foot.forL (fun _ _ _ => ?_) ?_
    | with_reducible apply Foot.ite
    | ((with_reducible refine Foot.lit ?_ rfl rfl ?_ ?_ ?_ ?_ ?_ ?_); rotate_left; rfl; rfl; rfl; rfl; (first | exact Nat.le_refl _ | exact Nat.le_succ _); (constructor <;> first | with_reducible exact Kept.same | exact Kept.masked rfl); (first | with_reducible assumption | with_reducible refine foot_setModeFrom rfl ?_ .. | with_reducible refine foot_substitute rfl ?_ .. | with_reducible refine foot_modPos rfl ?_ .. | with_reducible refine foot_cause rfl ?_ .. | with_reducible refine foot_reasonTo rfl ?_ .. | with_reducible refine foot_setFld (blk_PART_STAT_EPOCH ..) rfl ?_ .. | with_reducible refine foot_setFld (blk_PART_STAT_TOOK_OVER ..) rfl ?_ .. | with_reducible refine foot_setFlag (blk_PART_STAT_EPOCH ..) rfl ?_ .. | with_reducible refine foot_setFlag (blk_PART_STAT_TOOK_OVER ..) rfl ?_ .. | with_reducible refine Foot.forL (fun _ _ _ => ?_) ?_ | with_reducible apply Foot.ite))
    | split
    | dsimp only

theorem foot_execHeartbeatSend {m : Nat} {z t : State} (hs : 0x2000000000 ||| m = m) (h : Foot m z t) :
    OutFoot m z (execHeartbeatSend t) := by
  refine OutFoot.step (m := 0x2000000000) ?_ hs h
  clear h hs
  have h := Foot.refl 0x2000000000 t
  unfold execHeartbeatSend
  repeat' first
    | with_reducible assumption
    | (intro x; first | clear_value x | skip)
    | lift_lets
    | with_reducible refine foot_emit rfl ?_ ..
    | with_reducible apply Foot.ite
    | with_reducible refine OutFoot.next ?_
    | split
    | dsimp only

theorem foot_heartbeatTaken {m : Nat} {z t : State} (hs : 0x4000000008000 ||| m = m) (h : Foot m z t) (a0 : _) :
    Foot m z (State.heartbeatTaken a0 t) := by
  refine Foot.step (m := 0x4000000008000) ?_ hs h
  clear h hs
  have h := Foot.refl 0x4000000008000 t
  unfold State.heartbeatTaken
  repeat' first
    | with_reducible assumption
    | (intro x; first | clear_value x | skip)
    | lift_lets
    | with_reducible refine foot_setFlag (blk_PART_STAT_LINK_UP ..) rfl ?_ ..
    | with_reducible refine foot_setFlag (blk_PART_STAT_PARTNER ..) rfl ?_ ..
    | ((with_reducible refine Foot.lit ?_ rfl rfl ?_ ?_ ?_ ?_ ?_ ?_); rotate_left; rfl; rfl; rfl; rfl; (first | exact Nat.le_refl _ | exact Nat.le_succ _); (constructor <;> first | with_reducible exact Kept.same | exact Kept.masked rfl); (first | with_reducible assumption | with_reducible refine foot_setFlag (blk_PART_STAT_LINK_UP ..) rfl ?_ .. | with_reducible refine foot_setFlag (blk_PART_STAT_PARTNER ..) rfl ?_ ..))
    | split
    | dsimp only

theorem foot_heartbeatAnswer {m : Nat} {z t : State} (hs : 0x4002000000000 ||| m = m) (h : Foot m z t) (a0 : _) (a1 : _) :
    Foot m z (State.heartbeatAnswer a0 a1 t) := by
  refine Foot.step (m := 0x4002000000000) ?_ hs h
  clear h hs
  have h := Foot.refl 0x4002000000000 t
  unfold State.heartbeatAnswer
  repeat' first
    | with_reducible assumption
    | (intro x; first | clear_value x | skip)
    | lift_lets
    | with_reducible refine foot_emit rfl ?_ ..
    | with_reducible refine foot_setFld (blk_PART_STAT_EPOCH ..) rfl ?_ ..
    | with_reducible apply Foot.ite
    | split
    | dsimp only

theorem foot_execHeartbeatReceive {m : Nat} {z t : State} (hs : 0x4002000008000 ||| m = m) (h : Foot m z t) (a0 : _) (a1 : _) :
    OutFoot m z (execHeartbeatReceive a0 a1 t) := by
  refine OutFoot.step (m := 0x4002000008000) ?_ hs h
  clear h hs
  have h := Foot.refl 0x4002000008000 t
  unfold execHeartbeatReceive
  repeat' first
    | with_reducible assumption
    | (intro x; first | clear_value x | skip)
    | lift_lets
    | with_reducible refine foot_heartbeatAnswer rfl ?_ ..
    | with_reducible refine foot_heartbeatTaken rfl ?_ ..
    | with_reducible apply Foot.ite
    | with_reducible refine OutFoot.next ?_
    | split
    | dsimp only

theorem foot_execHeartbeatTimeout {m : Nat} {z t : State} (hs : 0x722c0100a4eacf80 ||| m = m) (h : Foot m z t) :
    OutFoot m z (execHeartbeatTimeout t) := by
  refine OutFoot.step (m := 0x722c0100a4eacf80) ?_ hs h
  clear h hs
  have h := Foot.refl 0x722c0100a4eacf80 t
  unfold execHeartbeatTimeout
  repeat' first
    | with_reducible assumption
    | (intro x; first | (refine Foot.cut (P := Foot 0x722c0100a4eacf80 t x) ?_ ?_; rotate_left; subst x; rotate_left; intro hx; clear_value x) | clear_value x | skip)
    | lift_lets
    | with_reducible refine foot_takeover rfl ?_ ..
    | with_reducible refine foot_setFlag (blk_PART_HBMISS_COUNT ..) rfl ?_ ..
    | with_reducible refine foot_setFlag (blk_PART_STAT_PARTNER ..) rfl ?_ ..
    | with_reducible refine foot_addSat (blk_PART_HBMISS_COUNT ..) rfl ?_ ..
    | with_reducible refine foot_addSat (blk_PART_STAT_PARTNER ..) rfl ?_ ..
    | with_reducible apply Foot.ite
    | with_reducible refine OutFoot.next ?_
    | ((with_reducible refine Foot.lit ?_ rfl rfl ?_ ?_ ?_ ?_ ?_ ?_); rotate_left; rfl; rfl; rfl; rfl; (first | exact Nat.le_refl _ | exact Nat.le_succ _); (constructor <;> first | with_reducible exact Kept.same | exact Kept.masked rfl); (first | with_reducible assumption | with_reducible refine foot_takeover rfl ?_ .. | with_reducible refine foot_setFlag (blk_PART_HBMISS_COUNT ..) rfl ?_ .. | with_reducible refine foot_setFlag (blk_PART_STAT_PARTNER ..) rfl ?_ .. | with_reducible refine foot_addSat (blk_PART_HBMISS_COUNT ..) rfl ?_ .. | with_reducible refine foot_addSat (blk_PART_STAT_PARTNER ..) rfl ?_ .. | with_reducible apply Foot.ite | with_reducible refine OutFoot.next ?_))
    | split
    | dsimp only

theorem foot_execDusk {m : Nat} {z t : State} (hs : 0x722c0100a4eacf80 ||| m = m) (h : Foot m z t) :
    OutFoot m z (execDusk t) := by
  refine OutFoot.step (m := 0x722c0100a4eacf80) ?_ hs h
  clear h hs
  have h := Foot.refl 0x722c0100a4eacf80 t
  unfold execDusk
  repeat' first
    | with_reducible assumption
    | (intro x; first | clear_value x | skip)
    | lift_lets
    | with_reducible refine foot_takeover rfl ?_ ..
    | with_reducible apply Foot.ite
    | with_reducible refine OutFoot.next ?_
    | split
    | dsimp only

theorem foot_axDelta {m : Nat} {z t : State} (hs : 0x2000000004000000 ||| m = m) (h : Foot m z t) (a0 : _) (a1 : _) :
    Foot m z (State.axDelta a0 a1 t) := by
  refine Foot.step (m := 0x2000000004000000) ?_ hs h
  clear h hs
  have h := Foot.refl 0x2000000004000000 t
  unfold State.axDelta
  repeat' first
    | with_reducible assumption
    | (intro x; first | (refine Foot.cut (P := Foot 0x2000000004000000 t x) ?_ ?_; rotate_left; subst x; rotate_left; intro hx; clear_value x) | clear_value x | skip)
    | lift_lets
    | with_reducible refine foot_modAxis rfl ?_ ..
    | with_reducible refine foot_setAct rfl ?_ ..
    | with_reducible refine foot_setFld (blk_REM_L ..) rfl ?_ ..
    | with_reducible refine foot_setFld (blk_REM_H ..) rfl ?_ ..
    | with_reducible refine foot_setFld (blk_AX_STAT_STOP_CAUSE ..) rfl ?_ ..
    | with_reducible refine foot_setFld (blk_AX_STAT_POS_LOST ..) rfl ?_ ..
    | with_reducible refine foot_setFlag (blk_REM_L ..) rfl ?_ ..
    | with_reducible refine foot_setFlag (blk_REM_H ..) rfl ?_ ..
    | with_reducible refine foot_setFlag (blk_AX_STAT_STOP_CAUSE ..) rfl ?_ ..
    | with_reducible refine foot_setFlag (blk_AX_STAT_POS_LOST ..) rfl ?_ ..
    | with_reducible refine foot_setFld48 (blk_REM_L ..) rfl (blk_REM_L ..) rfl ?_ ..
    | with_reducible refine foot_setFld48 (blk_REM_L ..) rfl (blk_REM_H ..) rfl ?_ ..
    | with_reducible refine foot_setFld48 (blk_REM_L ..) rfl (blk_AX_STAT_STOP_CAUSE ..) rfl ?_ ..
    | with_reducible refine foot_setFld48 (blk_REM_L ..) rfl (blk_AX_STAT_POS_LOST ..) rfl ?_ ..
    | with_reducible refine foot_setFld48 (blk_REM_H ..) rfl (blk_REM_L ..) rfl ?_ ..
    | with_reducible refine foot_setFld48 (blk_REM_H ..) rfl (blk_REM_H ..) rfl ?_ ..
    | with_reducible refine foot_setFld48 (blk_REM_H ..) rfl (blk_AX_STAT_STOP_CAUSE ..) rfl ?_ ..
    | with_reducible refine foot_setFld48 (blk_REM_H ..) rfl (blk_AX_STAT_POS_LOST ..) rfl ?_ ..
    | with_reducible refine foot_setFld48 (blk_AX_STAT_STOP_CAUSE ..) rfl (blk_REM_L ..) rfl ?_ ..
    | with_reducible refine foot_setFld48 (blk_AX_STAT_STOP_CAUSE ..) rfl (blk_REM_H ..) rfl ?_ ..
    | with_reducible refine foot_setFld48 (blk_AX_STAT_STOP_CAUSE ..) rfl (blk_AX_STAT_STOP_CAUSE ..) rfl ?_ ..
    | with_reducible refine foot_setFld48 (blk_AX_STAT_STOP_CAUSE ..) rfl (blk_AX_STAT_POS_LOST ..) rfl ?_ ..
    | with_reducible refine foot_setFld48 (blk_AX_STAT_POS_LOST ..) rfl (blk_REM_L ..) rfl ?_ ..
    | with_reducible refine foot_setFld48 (blk_AX_STAT_POS_LOST ..) rfl (blk_REM_H ..) rfl ?_ ..
    | with_reducible refine foot_setFld48 (blk_AX_STAT_POS_LOST ..) rfl (blk_AX_STAT_STOP_CAUSE ..) rfl ?_ ..
    | with_reducible refine foot_setFld48 (blk_AX_STAT_POS_LOST ..) rfl (blk_AX_STAT_POS_LOST ..) rfl ?_ ..
    | with_reducible apply Foot.ite
    | split
    | dsimp only

theorem foot_deltaMore {m : Nat} {z t : State} (hs : 0x2020080024000188 ||| m = m) (h : Foot m z t) (a0 : _) :
    Foot m z (State.deltaMore a0 t) := by
  refine Foot.step (m := 0x2020080024000188) ?_ hs h
  clear h hs
  have h := Foot.refl 0x2020080024000188 t
  unfold State.deltaMore
  repeat' first
    | with_reducible assumption
    | (intro x; first | (refine Foot.cut (P := Foot 0x2020080024000188 t x) ?_ ?_; rotate_left; subst x; rotate_left; intro hx; clear_value x) | clear_value x | skip)
    | lift_lets
    | with_reducible refine foot_axDelta rfl ?_ ..
    | with_reducible refine foot_seqShow rfl ?_ ..
    | with_reducible refine foot_modSrc rfl ?_ ..
    | with_reducible refine foot_modPos rfl ?_ ..
    | with_reducible refine foot_setHalf rfl ?_ ..
    | with_reducible refine Foot.forL (fun _ _ _ => ?_) ?_
    | ((with_reducible refine Foot.lit ?_ rfl rfl ?_ ?_ ?_ ?_ ?_ ?_); rotate_left; rfl; rfl; rfl; rfl; (first | exact Nat.le_refl _ | exact Nat.le_succ _); (constructor <;> first | with_reducible exact Kept.same | exact Kept.masked rfl); (first | with_reducible assumption | with_reducible refine foot_axDelta rfl ?_ .. | with_reducible refine foot_seqShow rfl ?_ .. | with_reducible refine foot_modSrc rfl ?_ .. | with_reducible refine foot_modPos rfl ?_ .. | with_reducible refine foot_setHalf rfl ?_ .. | with_reducible refine Foot.forL (fun _ _ _ => ?_) ?_))
    | split
    | dsimp only

theorem foot_deltaApply {m : Nat} {z t : State} (hs : 0x20000020000008 ||| m = m) (h : Foot m z t) (a0 : _) (a1 : _) :
    Foot m z (State.deltaApply a0 a1 t) := by
  refine Foot.step (m := 0x20000020000008) ?_ hs h
  clear h hs
  have h := Foot.refl 0x20000020000008 t
  unfold State.deltaApply
  repeat' first
    | with_reducible assumption
    | (intro x; first | (refine Foot.cut (P := Foot 0x20000020000008 t x) ?_ ?_; rotate_left; subst x; rotate_left; intro hx; clear_value x) | clear_value x | skip)
    | lift_lets
    | with_reducible refine foot_setWord rfl ?_ ..
    | with_reducible refine foot_seqShow rfl ?_ ..
    | with_reducible refine foot_modPos rfl ?_ ..
    | with_reducible refine Foot.forL (fun _ _ _ => ?_) ?_
    | split
    | dsimp only

theorem foot_execPlnkDeltaReceive {m : Nat} {z t : State} (hs : 0x722c4900a4eaef88 ||| m = m) (h : Foot m z t) (a0 : _) (a1 : _) (a2 : _) (a3 : _) :
    OutFoot m z (execPlnkDeltaReceive a0 a1 a2 a3 t) := by
  refine OutFoot.step (m := 0x722c4900a4eaef88) ?_ hs h
  clear h hs
  have h := Foot.refl 0x722c4900a4eaef88 t
  unfold execPlnkDeltaReceive
  repeat' first
    | with_reducible assumption
    | (intro x; first
        | (refine Foot.cut (P := Foot 0x722c4900a4eaef88 t x) ?_ ?_; rotate_left; subst x; rotate_left; intro hx; clear_value x)
        | (refine Foot.cut (P := PairFoot 0x722c4900a4eaef88 t x) ?_ ?_; rotate_left; subst x; rotate_left; intro hx; clear_value x)
        | (refine Foot.cut (P := OptFoot 0x722c4900a4eaef88 t x) ?_ ?_; rotate_left; subst x; rotate_left; intro hx; clear_value x)
        | (have hf := x.programmed; clear hf)
        | clear_value x
        | skip)
    | lift_lets
    | with_reducible refine foot_followSwitch rfl ?_ ..
    | with_reducible refine foot_deltaApply rfl ?_ ..
    | with_reducible refine foot_deltaMore rfl ?_ ..
    | with_reducible refine foot_setLag rfl ?_ ..
    | with_reducible refine foot_forceStat rfl ?_ ..
    | with_reducible refine Foot.foldl (fun _ _ _ => ?_) ?_
    | with_reducible refine PairFoot.foldl (fun _ _ _ => ?_) ?_
    | with_reducible apply Foot.ite
    | with_reducible apply PairFoot.ite
    | with_reducible apply OptFoot.ite
    | with_reducible apply OutFoot.ite
    | with_reducible apply ExFoot.ite
    | with_reducible exact ExFoot.error
    | with_reducible refine ExFoot.ok ?_
    | with_reducible refine PairFoot.forL (fun _ _ _ => ?_) ?_
    | with_reducible refine PairFoot.forN (fun _ _ _ => ?_) ?_
    | with_reducible refine OptFoot.some ?_
    | with_reducible exact OptFoot.none
    | with_reducible refine OutFoot.next ?_
    | with_reducible refine OptFoot.getD ?_ ?_
    | with_reducible refine PairFoot.snd ?_
    | with_reducible exact PairFoot.out (by assumption)
    | with_reducible refine PairFoot.eq (by assumption) ?_
    | with_reducible refine OptFoot.eq (by assumption) ?_
    | with_reducible refine ExFoot.eq (by assumption) ?_
    | ((with_reducible refine Foot.lit ?_ rfl rfl ?_ ?_ ?_ ?_ ?_ ?_); rotate_left; rfl; rfl; rfl; rfl; (first | exact Nat.le_refl _ | exact Nat.le_succ _); (constructor <;> first | with_reducible exact Kept.same | exact Kept.masked rfl); (first | with_reducible assumption | with_reducible refine foot_followSwitch rfl ?_ .. | with_reducible refine foot_deltaApply rfl ?_ .. | with_reducible refine foot_deltaMore rfl ?_ .. | with_reducible refine foot_setLag rfl ?_ .. | with_reducible refine foot_forceStat rfl ?_ .. | with_reducible refine Foot.foldl (fun _ _ _ => ?_) ?_ | with_reducible refine PairFoot.foldl (fun _ _ _ => ?_) ?_ | with_reducible apply Foot.ite | with_reducible apply PairFoot.ite | with_reducible apply OptFoot.ite | with_reducible apply OutFoot.ite | with_reducible apply ExFoot.ite | with_reducible exact ExFoot.error | with_reducible refine ExFoot.ok ?_ | with_reducible refine PairFoot.forL (fun _ _ _ => ?_) ?_ | with_reducible refine PairFoot.forN (fun _ _ _ => ?_) ?_ | with_reducible refine OptFoot.some ?_ | with_reducible exact OptFoot.none | with_reducible refine OutFoot.next ?_ | with_reducible refine OptFoot.getD ?_ ?_ | with_reducible refine PairFoot.snd ?_))
    | split
    | with_reducible refine PairFoot.mk ?_
    | dsimp only

theorem foot_execPlnkSnapshotReceive {m : Nat} {z t : State} (hs : 0x8000 ||| m = m) (h : Foot m z t) (a0 : _) (a1 : _) :
    OutFoot m z (execPlnkSnapshotReceive a0 a1 t) := by
  refine OutFoot.step (m := 0x8000) ?_ hs h
  clear h hs
  have h := Foot.refl 0x8000 t
  unfold execPlnkSnapshotReceive
  repeat' first
    | with_reducible assumption
    | (intro x; first | clear_value x | skip)
    | lift_lets
    | with_reducible apply Foot.ite
    | with_reducible refine OutFoot.next ?_
    | ((with_reducible refine Foot.lit ?_ rfl rfl ?_ ?_ ?_ ?_ ?_ ?_); rotate_left; rfl; rfl; rfl; rfl; (first | exact Nat.le_refl _ | exact Nat.le_succ _); (constructor <;> first | with_reducible exact Kept.same | exact Kept.masked rfl); (first | with_reducible assumption | with_reducible apply Foot.ite | with_reducible refine OutFoot.next ?_))
    | split
    | dsimp only

theorem foot_execPlnkLinkLoss {m : Nat} {z t : State} (hs : 0x722c0100a4ea4f80 ||| m = m) (h : Foot m z t) :
    OutFoot m z (execPlnkLinkLoss t) := by
  refine OutFoot.step (m := 0x722c0100a4ea4f80) ?_ hs h
  clear h hs
  have h := Foot.refl 0x722c0100a4ea4f80 t
  unfold execPlnkLinkLoss
  repeat' first
    | with_reducible assumption
    | (intro x; first | clear_value x | skip)
    | lift_lets
    | with_reducible refine foot_raise rfl ?_ ..
    | with_reducible refine foot_setFlag (blk_PART_STAT_PARTNER ..) rfl ?_ ..
    | with_reducible refine foot_setFlag (blk_PART_STAT_LINK_UP ..) rfl ?_ ..
    | with_reducible apply Foot.ite
    | with_reducible refine OutFoot.next ?_
    | split
    | dsimp only

theorem foot_execEpochYield {m : Nat} {z t : State} (hs : 0x722c0100a4eacf80 ||| m = m) (h : Foot m z t) (a0 : _) :
    OutFoot m z (execEpochYield a0 t) := by
  refine OutFoot.step (m := 0x722c0100a4eacf80) ?_ hs h
  clear h hs
  have h := Foot.refl 0x722c0100a4eacf80 t
  unfold execEpochYield
  repeat' first
    | with_reducible assumption
    | (intro x; first | clear_value x | skip)
    | lift_lets
    | with_reducible refine foot_causeMode rfl ?_ ..
    | with_reducible refine foot_setFlag (blk_PART_STAT_YIELDED ..) rfl ?_ ..
    | with_reducible apply Foot.ite
    | with_reducible refine OutFoot.next ?_
    | ((with_reducible refine Foot.lit ?_ rfl rfl ?_ ?_ ?_ ?_ ?_ ?_); rotate_left; rfl; rfl; rfl; rfl; (first | exact Nat.le_refl _ | exact Nat.le_succ _); (constructor <;> first | with_reducible exact Kept.same | exact Kept.masked rfl); (first | with_reducible assumption | with_reducible refine foot_causeMode rfl ?_ .. | with_reducible refine foot_setFlag (blk_PART_STAT_YIELDED ..) rfl ?_ .. | with_reducible apply Foot.ite | with_reducible refine OutFoot.next ?_))
    | split
    | dsimp only

end Sys2Proof.Machine
end

