-- ==== Sys2Proof/Laws/FootRcpTable.lean ====
section
/-!
SUPPORT. Footprints of the operations of Machine/RcpTable.lean.
-/

set_option Elab.async false

set_option linter.all false

set_option maxRecDepth 4000

namespace Sys2Proof.Machine

theorem foot_rcpErr {m : Nat} {z t : State} (hs : 0x20000000000000 ||| m = m) (h : Foot m z t) (a0 : _) (a1 : _) :
    Foot m z (State.rcpErr a0 a1 t) := by
  refine Foot.step (m := 0x20000000000000) ?_ hs h
  clear h hs
  have h := Foot.refl 0x20000000000000 t
  unfold State.rcpErr
  repeat' first
    | with_reducible assumption
    | (intro x; first | clear_value x | skip)
    | lift_lets
    | with_reducible refine foot_setFld (blk_RS_ERR_STEP ..) rfl ?_ ..
    | with_reducible refine foot_setFld (blk_RS_ERR_ERR ..) rfl ?_ ..
    | split
    | dsimp only

end Sys2Proof.Machine
end

