-- ==== Sys2Proof/Laws/FootRecipes.lean ====
section
/-!
SUPPORT. Footprints of the operations of Machine/Recipes.lean.
-/

set_option Elab.async false

set_option linter.all false

set_option maxRecDepth 4000

namespace Sys2Proof.Machine

theorem foot_execRcpPrepare {m : Nat} {z t : State} (hs : 0x2000000024200000 ||| m = m) (h : Foot m z t) (a0 : _) :
    OutFoot m z (execRcpPrepare a0 t) := by
  refine OutFoot.step (m := 0x2000000024200000) ?_ hs h
  clear h hs
  have h := Foot.refl 0x2000000024200000 t
  unfold execRcpPrepare
  repeat' first
    | with_reducible assumption
    | (intro x; first | clear_value x | skip)
    | lift_lets
    | with_reducible refine foot_modSeq rfl ?_ ..
    | with_reducible apply Foot.ite
    | with_reducible refine OutFoot.next ?_
    | split
    | dsimp only

theorem foot_rcpRelease {m : Nat} {z t : State} (hs : 0x20080000 ||| m = m) (h : Foot m z t) (a0 : _) :
    Foot m z (State.rcpRelease a0 t) := by
  refine Foot.step (m := 0x20080000) ?_ hs h
  clear h hs
  have h := Foot.refl 0x20080000 t
  unfold State.rcpRelease
  repeat' first
    | with_reducible assumption
    | (intro x; first | (refine Foot.cut (P := Foot 0x20080000 t x) ?_ ?_; rotate_left; subst x; rotate_left; intro hx; clear_value x) | clear_value x | skip)
    | lift_lets
    | with_reducible refine foot_modSeq rfl ?_ ..
    | ((with_reducible refine Foot.lit ?_ rfl rfl ?_ ?_ ?_ ?_ ?_ ?_); rotate_left; rfl; rfl; rfl; rfl; (first | exact Nat.le_refl _ | exact Nat.le_succ _); (constructor <;> first | with_reducible exact Kept.same | exact Kept.masked rfl); (first | with_reducible assumption | with_reducible refine foot_modSeq rfl ?_ ..))
    | split
    | dsimp only

theorem foot_outBank {m : Nat} {z t : State} (hs : 0x20080000 ||| m = m) (h : Foot m z t) (a0 : _) (a1 : _) (a2 : _) (a3 : _) :
    Foot m z (State.outBank a0 a1 a2 a3 t) := by
  refine Foot.step (m := 0x20080000) ?_ hs h
  clear h hs
  have h := Foot.refl 0x20080000 t
  unfold State.outBank
  repeat' first
    | with_reducible assumption
    | (intro x; first | (refine Foot.cut (P := Foot 0x20080000 t x) ?_ ?_; rotate_left; subst x; rotate_left; intro hx; clear_value x) | clear_value x | skip)
    | lift_lets
    | with_reducible refine foot_modSeq rfl ?_ ..
    | with_reducible refine Foot.forN (fun _ _ _ => ?_) ?_
    | with_reducible apply Foot.ite
    | ((with_reducible refine Foot.lit ?_ rfl rfl ?_ ?_ ?_ ?_ ?_ ?_); rotate_left; rfl; rfl; rfl; rfl; (first | exact Nat.le_refl _ | exact Nat.le_succ _); (constructor <;> first | with_reducible exact Kept.same | exact Kept.masked rfl); (first | with_reducible assumption | with_reducible refine foot_modSeq rfl ?_ .. | with_reducible refine Foot.forN (fun _ _ _ => ?_) ?_ | with_reducible apply Foot.ite))
    | split
    | dsimp only

theorem foot_outAout {m : Nat} {z t : State} (hs : 0x20080000 ||| m = m) (h : Foot m z t) (a0 : _) (a1 : _) (a2 : _) :
    Foot m z (State.outAout a0 a1 a2 t) := by
  refine Foot.step (m := 0x20080000) ?_ hs h
  clear h hs
  have h := Foot.refl 0x20080000 t
  unfold State.outAout
  repeat' first
    | with_reducible assumption
    | (intro x; first | (refine Foot.cut (P := Foot 0x20080000 t x) ?_ ?_; rotate_left; subst x; rotate_left; intro hx; clear_value x) | clear_value x | skip)
    | lift_lets
    | with_reducible refine foot_modSeq rfl ?_ ..
    | ((with_reducible refine Foot.lit ?_ rfl rfl ?_ ?_ ?_ ?_ ?_ ?_); rotate_left; rfl; rfl; rfl; rfl; (first | exact Nat.le_refl _ | exact Nat.le_succ _); (constructor <;> first | with_reducible exact Kept.same | exact Kept.masked rfl); (first | with_reducible assumption | with_reducible refine foot_modSeq rfl ?_ ..))
    | split
    | dsimp only

theorem foot_outEp {m : Nat} {z t : State} (hs : 0x2000000024280000 ||| m = m) (h : Foot m z t) (a0 : _) (a1 : _) (a2 : _) (a3 : _) :
    Foot m z (State.outEp a0 a1 a2 a3 t) := by
  refine Foot.step (m := 0x2000000024280000) ?_ hs h
  clear h hs
  have h := Foot.refl 0x2000000024280000 t
  unfold State.outEp
  repeat' first
    | with_reducible assumption
    | (intro x; first | (refine Foot.cut (P := Foot 0x2000000024280000 t x) ?_ ?_; rotate_left; subst x; rotate_left; intro hx; clear_value x) | clear_value x | skip)
    | lift_lets
    | with_reducible refine foot_modSeq rfl ?_ ..
    | ((with_reducible refine Foot.lit ?_ rfl rfl ?_ ?_ ?_ ?_ ?_ ?_); rotate_left; rfl; rfl; rfl; rfl; (first | exact Nat.le_refl _ | exact Nat.le_succ _); (constructor <;> first | with_reducible exact Kept.same | exact Kept.masked rfl); (first | with_reducible assumption | with_reducible refine foot_modSeq rfl ?_ ..))
    | split
    | dsimp only

theorem foot_outAgain {m : Nat} {z t : State} (hs : 0x2000000024280000 ||| m = m) (h : Foot m z t) (a0 : _) :
    Foot m z (State.outAgain a0 t) := by
  refine Foot.step (m := 0x2000000024280000) ?_ hs h
  clear h hs
  have h := Foot.refl 0x2000000024280000 t
  unfold State.outAgain
  repeat' first
    | with_reducible assumption
    | (intro x; first | (refine Foot.cut (P := Foot 0x2000000024280000 t x) ?_ ?_; rotate_left; subst x; rotate_left; intro hx; clear_value x) | clear_value x | skip)
    | lift_lets
    | with_reducible refine foot_outEp rfl ?_ ..
    | with_reducible refine foot_outAout rfl ?_ ..
    | with_reducible refine foot_outBank rfl ?_ ..
    | with_reducible refine Foot.forL (fun _ _ _ => ?_) ?_
    | split
    | dsimp only

theorem foot_applyEff {m : Nat} {z t : State} (hs : 0xffffff22e4ea4f88 ||| m = m) (h : Foot m z t) (a0 : _) (a1 : _) :
    Foot m z (State.applyEff a0 a1 t) := by
  refine Foot.step (m := 0xffffff22e4ea4f88) ?_ hs h
  clear h hs
  have h := Foot.refl 0xffffff22e4ea4f88 t
  unfold State.applyEff
  repeat' first
    | with_reducible assumption
    | (intro x; first | clear_value x | skip)
    | lift_lets
    | with_reducible refine foot_outEp rfl ?_ ..
    | with_reducible refine foot_recMark rfl ?_ ..
    | with_reducible refine foot_outAout rfl ?_ ..
    | with_reducible refine foot_axMove rfl ?_ ..
    | with_reducible refine foot_setDsc rfl ?_ ..
    | with_reducible refine foot_log rfl ?_ ..
    | with_reducible refine foot_hwEvent rfl ?_ ..
    | with_reducible refine foot_outAgain rfl ?_ ..
    | with_reducible refine foot_raise rfl ?_ ..
    | with_reducible refine foot_rcpRelease rfl ?_ ..
    | with_reducible refine foot_outBank rfl ?_ ..
    | with_reducible refine foot_setFldAll rfl ?_ ..
    | with_reducible refine Foot.forL (fun _ _ _ => ?_) ?_
    | split
    | dsimp only

theorem foot_execRcpTick {m : Nat} {z t : State} (hs : 0xffffff22e4ea4f88 ||| m = m) (h : Foot m z t) (a0 : _) :
    OutFoot m z (execRcpTick a0 t) := by
  refine OutFoot.step (m := 0xffffff22e4ea4f88) ?_ hs h
  clear h hs
  have h := Foot.refl 0xffffff22e4ea4f88 t
  unfold execRcpTick
  repeat' first
    | with_reducible assumption
    | (intro x; first | (refine Foot.cut (P := Foot 0xffffff22e4ea4f88 t x) ?_ ?_; rotate_left; subst x; rotate_left; intro hx; clear_value x) | clear_value x | skip)
    | lift_lets
    | with_reducible refine foot_rampWrite rfl ?_ ..
    | with_reducible refine foot_seqShow rfl ?_ ..
    | with_reducible refine foot_modPos rfl ?_ ..
    | with_reducible refine foot_applyEff rfl ?_ ..
    | with_reducible refine foot_modSeq rfl ?_ ..
    | with_reducible refine foot_setFld (blk_RS_STAT_RESULT ..) rfl ?_ ..
    | with_reducible refine Foot.forL (fun _ _ _ => ?_) ?_
    | with_reducible apply Foot.ite
    | with_reducible refine OutFoot.next ?_
    | split
    | dsimp only

theorem foot_rcpResult {m : Nat} {z t : State} (hs : 0x20000000000000 ||| m = m) (h : Foot m z t) (a0 : _) (a1 : _) (a2 : _) :
    Foot m z (State.rcpResult a0 a1 a2 t) := by
  refine Foot.step (m := 0x20000000000000) ?_ hs h
  clear h hs
  have h := Foot.refl 0x20000000000000 t
  unfold State.rcpResult
  repeat' first
    | with_reducible assumption
    | (intro x; first | clear_value x | skip)
    | lift_lets
    | with_reducible refine foot_setFld (blk_RS_STAT_RESULT ..) rfl ?_ ..
    | with_reducible refine foot_setFld (blk_RS_STAT_CODE ..) rfl ?_ ..
    | split
    | dsimp only

theorem foot_rcpAccept {m : Nat} {z t : State} (hs : 0x20000020000000 ||| m = m) (h : Foot m z t) (a0 : _) (a1 : _) (a2 : _) :
    Foot m z (State.rcpAccept a0 a1 a2 t) := by
  refine Foot.step (m := 0x20000020000000) ?_ hs h
  clear h hs
  have h := Foot.refl 0x20000020000000 t
  unfold State.rcpAccept
  repeat' first
    | with_reducible assumption
    | (intro x; first | clear_value x | skip)
    | lift_lets
    | with_reducible refine foot_rcpResult rfl ?_ ..
    | with_reducible refine foot_modSeq rfl ?_ ..
    | split
    | dsimp only

theorem foot_rcpCmd {m : Nat} {z t : State} (hs : 0x20000020000000 ||| m = m) (h : Foot m z t) (a0 : _) (a1 : _) (a2 : _) :
    Foot m z (State.rcpCmd a0 a1 a2 t) := by
  refine Foot.step (m := 0x20000020000000) ?_ hs h
  clear h hs
  have h := Foot.refl 0x20000020000000 t
  unfold State.rcpCmd
  repeat' first
    | with_reducible assumption
    | (intro x; first | clear_value x | skip)
    | lift_lets
    | with_reducible refine foot_rcpAccept rfl ?_ ..
    | with_reducible refine foot_rcpResult rfl ?_ ..
    | with_reducible refine foot_rcpErr rfl ?_ ..
    | with_reducible refine foot_setFld (blk_RS_STAT_RESULT ..) rfl ?_ ..
    | with_reducible apply Foot.ite
    | split
    | dsimp only

theorem foot_execRcpStart {m : Nat} {z t : State} (hs : 0x20000020000000 ||| m = m) (h : Foot m z t) (a0 : _) (a1 : _) (a2 : _) :
    OutFoot m z (execRcpStart a0 a1 a2 t) := by
  refine OutFoot.step (m := 0x20000020000000) ?_ hs h
  clear h hs
  have h := Foot.refl 0x20000020000000 t
  unfold execRcpStart
  repeat' first
    | with_reducible assumption
    | (intro x; first | clear_value x | skip)
    | lift_lets
    | with_reducible refine foot_rcpCmd rfl ?_ ..
    | with_reducible refine OutFoot.next ?_
    | split
    | dsimp only

theorem foot_execRcpStop {m : Nat} {z t : State} (hs : 0x20000020000000 ||| m = m) (h : Foot m z t) (a0 : _) (a1 : _) (a2 : _) :
    OutFoot m z (execRcpStop a0 a1 a2 t) := by
  refine OutFoot.step (m := 0x20000020000000) ?_ hs h
  clear h hs
  have h := Foot.refl 0x20000020000000 t
  unfold execRcpStop
  repeat' first
    | with_reducible assumption
    | (intro x; first | clear_value x | skip)
    | lift_lets
    | with_reducible refine foot_rcpCmd rfl ?_ ..
    | with_reducible refine OutFoot.next ?_
    | split
    | dsimp only

theorem foot_execPause {m : Nat} {z t : State} (hs : 0x20000020000000 ||| m = m) (h : Foot m z t) (a0 : _) (a1 : _) (a2 : _) :
    OutFoot m z (execPause a0 a1 a2 t) := by
  refine OutFoot.step (m := 0x20000020000000) ?_ hs h
  clear h hs
  have h := Foot.refl 0x20000020000000 t
  unfold execPause
  repeat' first
    | with_reducible assumption
    | (intro x; first | clear_value x | skip)
    | lift_lets
    | with_reducible refine foot_rcpCmd rfl ?_ ..
    | with_reducible refine OutFoot.next ?_
    | split
    | dsimp only

theorem foot_execRelease {m : Nat} {z t : State} (hs : 0x20000020000000 ||| m = m) (h : Foot m z t) (a0 : _) (a1 : _) (a2 : _) :
    OutFoot m z (execRelease a0 a1 a2 t) := by
  refine OutFoot.step (m := 0x20000020000000) ?_ hs h
  clear h hs
  have h := Foot.refl 0x20000020000000 t
  unfold execRelease
  repeat' first
    | with_reducible assumption
    | (intro x; first | clear_value x | skip)
    | lift_lets
    | with_reducible refine foot_rcpCmd rfl ?_ ..
    | with_reducible refine OutFoot.next ?_
    | split
    | dsimp only

theorem foot_execJump {m : Nat} {z t : State} (hs : 0x20000020000000 ||| m = m) (h : Foot m z t) (a0 : _) (a1 : _) (a2 : _) :
    OutFoot m z (execJump a0 a1 a2 t) := by
  refine OutFoot.step (m := 0x20000020000000) ?_ hs h
  clear h hs
  have h := Foot.refl 0x20000020000000 t
  unfold execJump
  repeat' first
    | with_reducible assumption
    | (intro x; first | clear_value x | skip)
    | lift_lets
    | with_reducible refine foot_rcpCmd rfl ?_ ..
    | with_reducible refine OutFoot.next ?_
    | split
    | dsimp only

theorem foot_rsCfgWrite {m : Nat} {z t : State} (hs : 0x20000000000000 ||| m = m) (h : Foot m z t) (a0 : _) (a1 : _) :
    Foot m z (State.rsCfgWrite a0 a1 t) := by
  refine Foot.step (m := 0x20000000000000) ?_ hs h
  clear h hs
  have h := Foot.refl 0x20000000000000 t
  unfold State.rsCfgWrite
  repeat' first
    | with_reducible assumption
    | (intro x; first | clear_value x | skip)
    | lift_lets
    | with_reducible refine foot_plainWrite (blk_RS_CFG_TBL ..) rfl ?_ ..
    | with_reducible apply Foot.ite
    | split
    | dsimp only

theorem foot_execLockGroupTrigger {m : Nat} {z t : State} (hs : 0x20000100000 ||| m = m) (h : Foot m z t) (a0 : _) :
    OutFoot m z (execLockGroupTrigger a0 t) := by
  refine OutFoot.step (m := 0x20000100000) ?_ hs h
  clear h hs
  have h := Foot.refl 0x20000100000 t
  unfold execLockGroupTrigger
  repeat' first
    | with_reducible assumption
    | (intro x; first | (refine Foot.cut (P := Foot 0x20000100000 t x) ?_ ?_; rotate_left; subst x; rotate_left; intro hx; clear_value x) | clear_value x | skip)
    | lift_lets
    | with_reducible refine foot_modLg rfl ?_ ..
    | with_reducible refine foot_incSat (blk_LG_STAT_RETRIG_DROP ..) rfl ?_ ..
    | with_reducible apply Foot.ite
    | with_reducible refine OutFoot.next ?_
    | split
    | dsimp only

end Sys2Proof.Machine
end

