-- ==== Sys2Proof/Laws/FootSec.lean ====
section
/-!
SUPPORT. Footprints of the operations of Machine/Sec.lean.
-/

set_option Elab.async false

set_option linter.all false

set_option maxRecDepth 4000

namespace Sys2Proof.Machine

theorem bitOf_withBit {n k : Nat} (i : Nat) (h : bitOf n k = true) : bitOf (withBit n i true) k = true := by
  unfold withBit
  split
  · exact h
  · next hb =>
    have hb : n / 2 ^ i % 2 = 0 := by
      have : ¬ n / 2 ^ i % 2 = 1 := fun e => hb (by unfold bitOf; exact beq_iff_eq.2 e)
      omega
    have hk : n / 2 ^ k % 2 = 1 := beq_iff_eq.1 h
    refine beq_iff_eq.2 ?_
    have hp : 0 < 2 ^ i := Nat.two_pow_pos i
    rcases Nat.lt_trichotomy k i with c | c | c
    · have e : 2 ^ i = 2 ^ k * (2 * 2 ^ (i - k - 1)) := by
        rw [← Nat.pow_succ', ← Nat.pow_add]; congr 1; omega
      simp only [if_true]
      rw [e, Nat.add_mul_div_left _ _ (Nat.two_pow_pos k), Nat.add_mul_mod_self_left]
      exact hk
    · subst c; omega
    · have e : 2 ^ k = 2 ^ i * (2 * 2 ^ (k - i - 1)) := by
        rw [← Nat.pow_succ', ← Nat.pow_add]; congr 1; omega
      simp only [if_true]
      rw [e, ← Nat.div_div_eq_div_mul, Nat.add_div_right _ hp, ← Nat.div_div_eq_div_mul] 
      rw [e, ← Nat.div_div_eq_div_mul, ← Nat.div_div_eq_div_mul] at hk
      have : (n / 2 ^ i).succ / 2 = n / 2 ^ i / 2 := by omega
      rw [this]; exact hk

theorem foot_fuseShow {m : Nat} {z t : State} (hs : 0x40000000000 ||| m = m) (h : Foot m z t) :
    Foot m z (State.fuseShow t) := by
  refine Foot.step (m := 0x40000000000) ?_ hs h
  clear h hs
  have h := Foot.refl 0x40000000000 t
  unfold State.fuseShow
  repeat' first
    | with_reducible assumption
    | (intro x; first | (refine Foot.cut (P := Foot 0x40000000000 t x) ?_ ?_; rotate_left; subst x; rotate_left; intro hx; clear_value x) | clear_value x | skip)
    | lift_lets
    | with_reducible refine foot_setFld (blk_SEC_STAT_REVOKED ..) rfl ?_ ..
    | with_reducible refine foot_setFld (blk_SEC_STAT_PROGRAMMED ..) rfl ?_ ..
    | with_reducible refine foot_setFld (blk_SEC_ARB_VALUE ..) rfl ?_ ..
    | with_reducible refine Foot.forL (fun _ _ _ => ?_) ?_
    | split
    | dsimp only

theorem foot_attest {m : Nat} {z t : State} (hs : 0x40000000010 ||| m = m) (h : Foot m z t) :
    Foot m z (State.attest t) := by
  refine Foot.step (m := 0x40000000010) ?_ hs h
  clear h hs
  have h := Foot.refl 0x40000000010 t
  unfold State.attest
  repeat' first
    | with_reducible assumption
    | (intro x; first | (refine Foot.cut (P := Foot 0x40000000010 t x) ?_ ?_; rotate_left; subst x; rotate_left; intro hx; clear_value x) | clear_value x | skip)
    | lift_lets
    | with_reducible refine foot_draw rfl ?_ ..
    | with_reducible refine foot_setFld (blk_SEC_REPORT_WORD ..) rfl ?_ ..
    | with_reducible refine Foot.forN (fun _ _ _ => ?_) ?_
    | with_reducible refine PairFoot.snd ?_
    | split
    | dsimp only

theorem foot_secResult {m : Nat} {z t : State} (hs : 0x40000000000 ||| m = m) (h : Foot m z t) (a0 : _) (a1 : _) :
    Foot m z (State.secResult a0 a1 t) := by
  refine Foot.step (m := 0x40000000000) ?_ hs h
  clear h hs
  have h := Foot.refl 0x40000000000 t
  unfold State.secResult
  repeat' first
    | with_reducible assumption
    | (intro x; first | clear_value x | skip)
    | lift_lets
    | with_reducible refine foot_setFld (blk_SEC_CMDSTAT_RESULT ..) rfl ?_ ..
    | with_reducible refine foot_setFld (blk_SEC_CMDSTAT_CODE ..) rfl ?_ ..
    | split
    | dsimp only

theorem foot_fuseRevoke {m : Nat} {z t : State} (hs : 0x400000000 ||| m = m) (h : Foot m z t) (n : Nat) :
    Foot m z (State.fuseRevoke n t) := by
  refine ⟨?_, h.regs, h.memWf, h.regsWf, h.fuses.trans ⟨fun k x => x, fun k x => bitOf_withBit n x, fun _ => Nat.le_refl _, fun x => x⟩, h.free⟩
  have hb : m.testBit 34 = true := bit_in (b := 0x400000000) rfl hs rfl
  refine Eq.trans ?_ h.hidden
  simp only [blank, State.fuseRevoke, hb, if_true]

theorem foot_fuseProgram {m : Nat} {z t : State} (hs : 0x400000000 ||| m = m) (h : Foot m z t) (n : Nat) :
    Foot m z (State.fuseProgram n t) := by
  refine ⟨?_, h.regs, h.memWf, h.regsWf, h.fuses.trans ⟨fun k x => bitOf_withBit n x, fun k x => x, fun _ => Nat.le_refl _, fun x => x⟩, h.free⟩
  have hb : m.testBit 34 = true := bit_in (b := 0x400000000) rfl hs rfl
  refine Eq.trans ?_ h.hidden
  simp only [blank, State.fuseProgram, hb, if_true]

theorem foot_secCmd {m : Nat} {z t : State} (hs : 0x40400000010 ||| m = m) (h : Foot m z t) (a0 : _) (a1 : _) (a2 : _) (a3 : _) :
    Foot m z (State.secCmd a0 a1 a2 a3 t) := by
  refine Foot.step (m := 0x40400000010) ?_ hs h
  clear h hs
  have h := Foot.refl 0x40400000010 t
  unfold State.secCmd
  repeat' first
    | with_reducible assumption
    | (intro x; first
        | (refine Foot.cut (P := Foot 0x40400000010 t x) ?_ ?_; rotate_left; subst x; rotate_left; intro hx; clear_value x)
        | (refine Foot.cut (P := PairFoot 0x40400000010 t x) ?_ ?_; rotate_left; subst x; rotate_left; intro hx; clear_value x)
        | (refine Foot.cut (P := OptFoot 0x40400000010 t x) ?_ ?_; rotate_left; subst x; rotate_left; intro hx; clear_value x)
        | (have hf := x.programmed; clear hf)
        | clear_value x
        | skip)
    | lift_lets
    | with_reducible refine foot_fuseRevoke rfl ?_ ..
    | with_reducible refine foot_fuseShow rfl ?_ ..
    | with_reducible refine foot_secResult rfl ?_ ..
    | with_reducible refine foot_attest rfl ?_ ..
    | with_reducible refine foot_setFld (blk_SEC_CMDSTAT_RESULT ..) rfl ?_ ..
    | with_reducible refine Foot.foldl (fun _ _ _ => ?_) ?_
    | with_reducible refine PairFoot.foldl (fun _ _ _ => ?_) ?_
    | with_reducible apply Foot.ite
    | with_reducible apply PairFoot.ite
    | with_reducible apply OptFoot.ite
    | with_reducible apply OutFoot.ite
    | with_reducible apply ExFoot.ite
    | with_reducible exact ExFoot.error
    | with_reducible refine ExFoot.ok ?_
    | with_reducible refine PairFoot.forL (fun _ _ _ => ?_) ?_
    | with_reducible refine PairFoot.forN (fun _ _ _ => ?_) ?_
    | with_reducible refine OptFoot.some ?_
    | with_reducible exact OptFoot.none
    | with_reducible refine OutFoot.next ?_
    | with_reducible refine OptFoot.getD ?_ ?_
    | with_reducible refine PairFoot.snd ?_
    | with_reducible exact PairFoot.out (by assumption)
    | with_reducible refine PairFoot.eq (by assumption) ?_
    | with_reducible refine OptFoot.eq (by assumption) ?_
    | with_reducible refine ExFoot.eq (by assumption) ?_
    | ((with_reducible refine Foot.lit ?_ rfl rfl ?_ ?_ ?_ ?_ ?_ ?_); rotate_left; rfl; rfl; rfl; rfl; (first | exact Nat.le_refl _ | exact Nat.le_succ _); (constructor <;> first | with_reducible exact Kept.same | exact Kept.masked rfl); (first | with_reducible assumption | with_reducible refine foot_fuseRevoke rfl ?_ .. | with_reducible refine foot_fuseShow rfl ?_ .. | with_reducible refine foot_secResult rfl ?_ .. | with_reducible refine foot_attest rfl ?_ .. | with_reducible refine foot_setFld (blk_SEC_CMDSTAT_RESULT ..) rfl ?_ .. | with_reducible refine Foot.foldl (fun _ _ _ => ?_) ?_ | with_reducible refine PairFoot.foldl (fun _ _ _ => ?_) ?_ | with_reducible apply Foot.ite | with_reducible apply PairFoot.ite | with_reducible apply OptFoot.ite | with_reducible apply OutFoot.ite | with_reducible apply ExFoot.ite | with_reducible exact ExFoot.error | with_reducible refine ExFoot.ok ?_ | with_reducible refine PairFoot.forL (fun _ _ _ => ?_) ?_ | with_reducible refine PairFoot.forN (fun _ _ _ => ?_) ?_ | with_reducible refine OptFoot.some ?_ | with_reducible exact OptFoot.none | with_reducible refine OutFoot.next ?_ | with_reducible refine OptFoot.getD ?_ ?_ | with_reducible refine PairFoot.snd ?_))
    | split
    | with_reducible refine PairFoot.mk ?_
    | dsimp only

theorem foot_execAttest {m : Nat} {z t : State} (hs : 0x40400000010 ||| m = m) (h : Foot m z t) (a0 : _) (a1 : _) :
    OutFoot m z (execAttest a0 a1 t) := by
  refine OutFoot.step (m := 0x40400000010) ?_ hs h
  clear h hs
  have h := Foot.refl 0x40400000010 t
  unfold execAttest
  repeat' first
    | with_reducible assumption
    | (intro x; first | clear_value x | skip)
    | lift_lets
    | with_reducible refine foot_secCmd rfl ?_ ..
    | with_reducible refine OutFoot.next ?_
    | split
    | dsimp only

theorem foot_execRevoke {m : Nat} {z t : State} (hs : 0x40400000010 ||| m = m) (h : Foot m z t) (a0 : _) (a1 : _) (a2 : _) :
    OutFoot m z (execRevoke a0 a1 a2 t) := by
  refine OutFoot.step (m := 0x40400000010) ?_ hs h
  clear h hs
  have h := Foot.refl 0x40400000010 t
  unfold execRevoke
  repeat' first
    | with_reducible assumption
    | (intro x; first | clear_value x | skip)
    | lift_lets
    | with_reducible refine foot_secCmd rfl ?_ ..
    | with_reducible refine OutFoot.next ?_
    | split
    | dsimp only

theorem foot_recordWrite {m : Nat} {z t : State} (hs : 0x1000 ||| m = m) (h : Foot m z t) (a0 : _) (a1 : _) :
    Foot m z (State.recordWrite a0 a1 t) := by
  refine Foot.step (m := 0x1000) ?_ hs h
  clear h hs
  have h := Foot.refl 0x1000 t
  unfold State.recordWrite
  repeat' first
    | with_reducible assumption
    | (intro x; first | clear_value x | skip)
    | lift_lets
    | ((with_reducible refine Foot.lit ?_ rfl rfl ?_ ?_ ?_ ?_ ?_ ?_); rotate_left; rfl; rfl; rfl; rfl; (first | exact Nat.le_refl _ | exact Nat.le_succ _); (constructor <;> first | with_reducible exact Kept.same | exact Kept.masked rfl); (first | with_reducible assumption))
    | split
    | dsimp only

theorem foot_calApply {m : Nat} {z t : State} (hs : 0x4000000000800000 ||| m = m) (h : Foot m z t) (a0 : _) :
    Foot m z (State.calApply a0 t) := by
  refine Foot.step (m := 0x4000000000800000) ?_ hs h
  clear h hs
  have h := Foot.refl 0x4000000000800000 t
  unfold State.calApply
  repeat' first
    | with_reducible assumption
    | (intro x; first | (refine Foot.cut (P := Foot 0x4000000000800000 t x) ?_ ?_; rotate_left; subst x; rotate_left; intro hx; clear_value x) | clear_value x | skip)
    | lift_lets
    | with_reducible refine foot_modDie rfl ?_ ..
    | with_reducible refine foot_setFlag (blk_USR_GAIN_GAIN ..) rfl ?_ ..
    | with_reducible refine foot_setFlag (blk_USR_OFS_OFS ..) rfl ?_ ..
    | with_reducible refine foot_setFlag (blk_DIE_STAT_CALIMG_OK ..) rfl ?_ ..
    | with_reducible refine foot_setRegB (blk_USR_GAIN_GAIN ..) rfl ?_ ..
    | with_reducible refine foot_setRegB (blk_USR_OFS_OFS ..) rfl ?_ ..
    | with_reducible refine foot_setRegB (blk_DIE_STAT_CALIMG_OK ..) rfl ?_ ..
    | with_reducible refine Foot.forL (fun _ _ _ => ?_) ?_
    | with_reducible refine Foot.forN (fun _ _ _ => ?_) ?_
    | with_reducible apply Foot.ite
    | split
    | dsimp only

theorem foot_imageAccept {m : Nat} {z t : State} (hs : 0x72280504a4ea5f80 ||| m = m) (h : Foot m z t) (a0 : _) (a1 : _) :
    PairFoot m z (State.imageAccept a0 a1 t) := by
  refine PairFoot.step (m := 0x72280504a4ea5f80) ?_ hs h
  clear h hs
  have h := Foot.refl 0x72280504a4ea5f80 t
  unfold State.imageAccept
  repeat' first
    | with_reducible assumption
    | (intro x; first
        | (refine Foot.cut (P := Foot 0x72280504a4ea5f80 t x) ?_ ?_; rotate_left; subst x; rotate_left; intro hx; clear_value x)
        | (refine Foot.cut (P := PairFoot 0x72280504a4ea5f80 t x) ?_ ?_; rotate_left; subst x; rotate_left; intro hx; clear_value x)
        | (refine Foot.cut (P := OptFoot 0x72280504a4ea5f80 t x) ?_ ?_; rotate_left; subst x; rotate_left; intro hx; clear_value x)
        | (have hf := x.programmed; clear hf)
        | clear_value x
        | skip)
    | lift_lets
    | with_reducible refine foot_recordWrite rfl ?_ ..
    | with_reducible refine foot_fuseProgram rfl ?_ ..
    | with_reducible refine foot_fuseShow rfl ?_ ..
    | with_reducible refine foot_calApply rfl ?_ ..
    | with_reducible refine foot_programCheck rfl ?_ ..
    | with_reducible refine foot_burn rfl ?_ ..
    | with_reducible refine foot_setFld (blk_EXCH_STAT_RESULT ..) rfl ?_ ..
    | with_reducible refine foot_setFld (blk_EXCH_STAT_STATE ..) rfl ?_ ..
    | with_reducible refine Foot.forL (fun _ _ _ => ?_) ?_
    | with_reducible refine Foot.foldl (fun _ _ _ => ?_) ?_
    | with_reducible refine PairFoot.foldl (fun _ _ _ => ?_) ?_
    | with_reducible apply Foot.ite
    | with_reducible apply PairFoot.ite
    | with_reducible apply OptFoot.ite
    | with_reducible apply OutFoot.ite
    | with_reducible apply ExFoot.ite
    | with_reducible exact ExFoot.error
    | with_reducible refine ExFoot.ok ?_
    | with_reducible refine PairFoot.forL (fun _ _ _ => ?_) ?_
    | with_reducible refine PairFoot.forN (fun _ _ _ => ?_) ?_
    | with_reducible refine OptFoot.some ?_
    | with_reducible exact OptFoot.none
    | with_reducible refine OutFoot.next ?_
    | with_reducible refine OptFoot.getD ?_ ?_
    | with_reducible refine PairFoot.snd ?_
    | with_reducible exact PairFoot.out (by assumption)
    | with_reducible refine PairFoot.eq (by assumption) ?_
    | with_reducible refine OptFoot.eq (by assumption) ?_
    | with_reducible refine ExFoot.eq (by assumption) ?_
    | ((with_reducible refine Foot.lit ?_ rfl rfl ?_ ?_ ?_ ?_ ?_ ?_); rotate_left; rfl; rfl; rfl; rfl; (first | exact Nat.le_refl _ | exact Nat.le_succ _); (constructor <;> first | with_reducible exact Kept.same | exact Kept.masked rfl); (first | with_reducible assumption | with_reducible refine foot_recordWrite rfl ?_ .. | with_reducible refine foot_fuseProgram rfl ?_ .. | with_reducible refine foot_fuseShow rfl ?_ .. | with_reducible refine foot_calApply rfl ?_ .. | with_reducible refine foot_programCheck rfl ?_ .. | with_reducible refine foot_burn rfl ?_ .. | with_reducible refine foot_setFld (blk_EXCH_STAT_RESULT ..) rfl ?_ .. | with_reducible refine foot_setFld (blk_EXCH_STAT_STATE ..) rfl ?_ .. | with_reducible refine Foot.forL (fun _ _ _ => ?_) ?_ | with_reducible refine Foot.foldl (fun _ _ _ => ?_) ?_ | with_reducible refine PairFoot.foldl (fun _ _ _ => ?_) ?_ | with_reducible apply Foot.ite | with_reducible apply PairFoot.ite | with_reducible apply OptFoot.ite | with_reducible apply OutFoot.ite | with_reducible apply ExFoot.ite | with_reducible exact ExFoot.error | with_reducible refine ExFoot.ok ?_ | with_reducible refine PairFoot.forL (fun _ _ _ => ?_) ?_ | with_reducible refine PairFoot.forN (fun _ _ _ => ?_) ?_ | with_reducible refine OptFoot.some ?_ | with_reducible exact OptFoot.none | with_reducible refine OutFoot.next ?_ | with_reducible refine OptFoot.getD ?_ ?_ | with_reducible refine PairFoot.snd ?_))
    | split
    | with_reducible refine PairFoot.mk ?_
    | dsimp only

end Sys2Proof.Machine
end

