-- ==== Sys2Proof/Laws/FootSentinel.lean ====
section
/-!
SUPPORT. Footprints of the operations of Machine/Sentinel.lean.
-/

set_option Elab.async false

set_option linter.all false

set_option maxRecDepth 4000

namespace Sys2Proof.Machine

theorem foot_modPair {m : Nat} {z t : State} (hs : 0x20000 ||| m = m) (h : Foot m z t) (a0 : _) (a1 : _) :
    Foot m z (State.modPair a0 a1 t) := by
  refine Foot.step (m := 0x20000) ?_ hs h
  clear h hs
  have h := Foot.refl 0x20000 t
  unfold State.modPair
  repeat' first
    | with_reducible assumption
    | (intro x; first | clear_value x | skip)
    | lift_lets
    | ((with_reducible refine Foot.lit ?_ rfl rfl ?_ ?_ ?_ ?_ ?_ ?_); rotate_left; rfl; rfl; rfl; rfl; (first | exact Nat.le_refl _ | exact Nat.le_succ _); (constructor <;> first | with_reducible exact Kept.same | exact Kept.masked rfl); (first | with_reducible assumption))
    | split
    | dsimp only

theorem foot_pairEval {m : Nat} {z t : State} (hs : 0x72280100a4ea4f80 ||| m = m) (h : Foot m z t) (a0 : _) (a1 : _) (a2 : _) :
    Foot m z (State.pairEval a0 a1 a2 t) := by
  refine Foot.step (m := 0x72280100a4ea4f80) ?_ hs h
  clear h hs
  have h := Foot.refl 0x72280100a4ea4f80 t
  unfold State.pairEval
  repeat' first
    | with_reducible assumption
    | (intro x; first | clear_value x | skip)
    | lift_lets
    | with_reducible refine foot_lockout rfl ?_ ..
    | with_reducible refine foot_modPair rfl ?_ ..
    | with_reducible refine foot_setFbit (blk_SAFE_STAT_PAIR_DISC ..) rfl ?_ ..
    | with_reducible refine foot_setFbit (blk_SAFE_STAT_PAIR_CLOSED ..) rfl ?_ ..
    | with_reducible apply Foot.ite
    | split
    | dsimp only

theorem foot_sbcEval {m : Nat} {z t : State} (hs : 0x8000000020000 ||| m = m) (h : Foot m z t) (a0 : _) :
    Foot m z (State.sbcEval a0 t) := by
  refine Foot.step (m := 0x8000000020000) ?_ hs h
  clear h hs
  have h := Foot.refl 0x8000000020000 t
  unfold State.sbcEval
  repeat' first
    | with_reducible assumption
    | (intro x; first | (refine Foot.cut (P := Foot 0x8000000020000 t x) ?_ ?_; rotate_left; subst x; rotate_left; intro hx; clear_value x) | clear_value x | skip)
    | lift_lets
    | with_reducible refine foot_sbcEngage rfl ?_ ..
    | with_reducible refine foot_sbcSet rfl ?_ ..
    | with_reducible refine foot_setFbit (blk_SAFE_OUT_HELD ..) rfl ?_ ..
    | with_reducible apply Foot.ite
    | split
    | dsimp only

theorem foot_execSentinelEvaluation {m : Nat} {z t : State} (hs : 0x72290100a6ea4f80 ||| m = m) (h : Foot m z t) (a0 : _) (a1 : _) :
    OutFoot m z (execSentinelEvaluation a0 a1 t) := by
  refine OutFoot.step (m := 0x72290100a6ea4f80) ?_ hs h
  clear h hs
  have h := Foot.refl 0x72290100a6ea4f80 t
  unfold execSentinelEvaluation
  repeat' first
    | with_reducible assumption
    | (intro x; first
        | (refine Foot.cut (P := Foot 0x72290100a6ea4f80 t x) ?_ ?_; rotate_left; subst x; rotate_left; intro hx; clear_value x)
        | (refine Foot.cut (P := PairFoot 0x72290100a6ea4f80 t x) ?_ ?_; rotate_left; subst x; rotate_left; intro hx; clear_value x)
        | (refine Foot.cut (P := OptFoot 0x72290100a6ea4f80 t x) ?_ ?_; rotate_left; subst x; rotate_left; intro hx; clear_value x)
        | (have hf := x.programmed; clear hf)
        | clear_value x
        | skip)
    | lift_lets
    | with_reducible refine foot_pairEval rfl ?_ ..
    | with_reducible refine foot_ilmEval rfl ?_ ..
    | with_reducible refine foot_sbcEval rfl ?_ ..
    | with_reducible refine Foot.forN (fun _ _ _ => ?_) ?_
    | with_reducible refine Foot.foldl (fun _ _ _ => ?_) ?_
    | with_reducible refine PairFoot.foldl (fun _ _ _ => ?_) ?_
    | with_reducible apply Foot.ite
    | with_reducible apply PairFoot.ite
    | with_reducible apply OptFoot.ite
    | with_reducible apply OutFoot.ite
    | with_reducible apply ExFoot.ite
    | with_reducible exact ExFoot.error
    | with_reducible refine ExFoot.ok ?_
    | with_reducible refine PairFoot.forL (fun _ _ _ => ?_) ?_
    | with_reducible refine PairFoot.forN (fun _ _ _ => ?_) ?_
    | with_reducible refine OptFoot.some ?_
    | with_reducible exact OptFoot.none
    | with_reducible refine OutFoot.next ?_
    | with_reducible refine OptFoot.getD ?_ ?_
    | with_reducible refine PairFoot.snd ?_
    | with_reducible exact PairFoot.out (by assumption)
    | with_reducible refine PairFoot.eq (by assumption) ?_
    | with_reducible refine OptFoot.eq (by assumption) ?_
    | with_reducible refine ExFoot.eq (by assumption) ?_
    | ((with_reducible refine Foot.lit ?_ rfl rfl ?_ ?_ ?_ ?_ ?_ ?_); rotate_left; rfl; rfl; rfl; rfl; (first | exact Nat.le_refl _ | exact Nat.le_succ _); (constructor <;> first | with_reducible exact Kept.same | exact Kept.masked rfl); (first | with_reducible assumption | with_reducible refine foot_pairEval rfl ?_ .. | with_reducible refine foot_ilmEval rfl ?_ .. | with_reducible refine foot_sbcEval rfl ?_ .. | with_reducible refine Foot.forN (fun _ _ _ => ?_) ?_ | with_reducible refine Foot.foldl (fun _ _ _ => ?_) ?_ | with_reducible refine PairFoot.foldl (fun _ _ _ => ?_) ?_ | with_reducible apply Foot.ite | with_reducible apply PairFoot.ite | with_reducible apply OptFoot.ite | with_reducible apply OutFoot.ite | with_reducible apply ExFoot.ite | with_reducible exact ExFoot.error | with_reducible refine ExFoot.ok ?_ | with_reducible refine PairFoot.forL (fun _ _ _ => ?_) ?_ | with_reducible refine PairFoot.forN (fun _ _ _ => ?_) ?_ | with_reducible refine OptFoot.some ?_ | with_reducible exact OptFoot.none | with_reducible refine OutFoot.next ?_ | with_reducible refine OptFoot.getD ?_ ?_ | with_reducible refine PairFoot.snd ?_))
    | split
    | with_reducible refine PairFoot.mk ?_
    | dsimp only

theorem foot_execDiscrepancyExpiry {m : Nat} {z t : State} (hs : 0x72290100a6ea4f80 ||| m = m) (h : Foot m z t) (a0 : _) :
    OutFoot m z (execDiscrepancyExpiry a0 t) := by
  refine OutFoot.step (m := 0x72290100a6ea4f80) ?_ hs h
  clear h hs
  have h := Foot.refl 0x72290100a6ea4f80 t
  unfold execDiscrepancyExpiry
  repeat' first
    | with_reducible assumption
    | (intro x; first
        | (refine Foot.cut (P := Foot 0x72290100a6ea4f80 t x) ?_ ?_; rotate_left; subst x; rotate_left; intro hx; clear_value x)
        | (refine Foot.cut (P := PairFoot 0x72290100a6ea4f80 t x) ?_ ?_; rotate_left; subst x; rotate_left; intro hx; clear_value x)
        | (refine Foot.cut (P := OptFoot 0x72290100a6ea4f80 t x) ?_ ?_; rotate_left; subst x; rotate_left; intro hx; clear_value x)
        | (have hf := x.programmed; clear hf)
        | clear_value x
        | skip)
    | lift_lets
    | with_reducible refine foot_trip rfl ?_ ..
    | with_reducible refine foot_modPair rfl ?_ ..
    | with_reducible refine foot_setFbit (blk_SAFE_STAT_PAIR_CLOSED ..) rfl ?_ ..
    | with_reducible refine Foot.foldl (fun _ _ _ => ?_) ?_
    | with_reducible refine PairFoot.foldl (fun _ _ _ => ?_) ?_
    | with_reducible apply Foot.ite
    | with_reducible apply PairFoot.ite
    | with_reducible apply OptFoot.ite
    | with_reducible apply OutFoot.ite
    | with_reducible apply ExFoot.ite
    | with_reducible exact ExFoot.error
    | with_reducible refine ExFoot.ok ?_
    | with_reducible refine PairFoot.forL (fun _ _ _ => ?_) ?_
    | with_reducible refine PairFoot.forN (fun _ _ _ => ?_) ?_
    | with_reducible refine OptFoot.some ?_
    | with_reducible exact OptFoot.none
    | with_reducible refine OutFoot.next ?_
    | with_reducible refine OptFoot.getD ?_ ?_
    | with_reducible refine PairFoot.snd ?_
    | with_reducible exact PairFoot.out (by assumption)
    | with_reducible refine PairFoot.eq (by assumption) ?_
    | with_reducible refine OptFoot.eq (by assumption) ?_
    | with_reducible refine ExFoot.eq (by assumption) ?_
    | ((with_reducible refine Foot.lit ?_ rfl rfl ?_ ?_ ?_ ?_ ?_ ?_); rotate_left; rfl; rfl; rfl; rfl; (first | exact Nat.le_refl _ | exact Nat.le_succ _); (constructor <;> first | with_reducible exact Kept.same | exact Kept.masked rfl); (first | with_reducible assumption | with_reducible refine foot_trip rfl ?_ .. | with_reducible refine foot_modPair rfl ?_ .. | with_reducible refine foot_setFbit (blk_SAFE_STAT_PAIR_CLOSED ..) rfl ?_ .. | with_reducible refine Foot.foldl (fun _ _ _ => ?_) ?_ | with_reducible refine PairFoot.foldl (fun _ _ _ => ?_) ?_ | with_reducible apply Foot.ite | with_reducible apply PairFoot.ite | with_reducible apply OptFoot.ite | with_reducible apply OutFoot.ite | with_reducible apply ExFoot.ite | with_reducible exact ExFoot.error | with_reducible refine ExFoot.ok ?_ | with_reducible refine PairFoot.forL (fun _ _ _ => ?_) ?_ | with_reducible refine PairFoot.forN (fun _ _ _ => ?_) ?_ | with_reducible refine OptFoot.some ?_ | with_reducible exact OptFoot.none | with_reducible refine OutFoot.next ?_ | with_reducible refine OptFoot.getD ?_ ?_ | with_reducible refine PairFoot.snd ?_))
    | split
    | with_reducible refine PairFoot.mk ?_
    | dsimp only

theorem foot_sbcRead {m : Nat} {z t : State} (hs : 0x8000000020000 ||| m = m) (h : Foot m z t) (a0 : _) (a1 : _) (a2 : _) :
    Foot m z (State.sbcRead a0 a1 a2 t) := by
  refine Foot.step (m := 0x8000000020000) ?_ hs h
  clear h hs
  have h := Foot.refl 0x8000000020000 t
  unfold State.sbcRead
  repeat' first
    | with_reducible assumption
    | (intro x; first | (refine Foot.cut (P := Foot 0x8000000020000 t x) ?_ ?_; rotate_left; subst x; rotate_left; intro hx; clear_value x) | clear_value x | skip)
    | lift_lets
    | with_reducible refine foot_sbcShow rfl ?_ ..
    | with_reducible refine foot_modSbc rfl ?_ ..
    | split
    | dsimp only

theorem foot_execCoreReport {m : Nat} {z t : State} (hs : 0x72290100a6ea4f80 ||| m = m) (h : Foot m z t) (a0 : _) (a1 : _) :
    OutFoot m z (execCoreReport a0 a1 t) := by
  refine OutFoot.step (m := 0x72290100a6ea4f80) ?_ hs h
  clear h hs
  have h := Foot.refl 0x72290100a6ea4f80 t
  unfold execCoreReport
  repeat' first
    | with_reducible assumption
    | (intro x; first
        | (refine Foot.cut (P := Foot 0x72290100a6ea4f80 t x) ?_ ?_; rotate_left; subst x; rotate_left; intro hx; clear_value x)
        | (refine Foot.cut (P := PairFoot 0x72290100a6ea4f80 t x) ?_ ?_; rotate_left; subst x; rotate_left; intro hx; clear_value x)
        | (refine Foot.cut (P := OptFoot 0x72290100a6ea4f80 t x) ?_ ?_; rotate_left; subst x; rotate_left; intro hx; clear_value x)
        | (have hf := x.programmed; clear hf)
        | clear_value x
        | skip)
    | lift_lets
    | with_reducible refine foot_ilmEval rfl ?_ ..
    | with_reducible refine foot_sbcRead rfl ?_ ..
    | with_reducible refine Foot.forN (fun _ _ _ => ?_) ?_
    | with_reducible refine Foot.foldl (fun _ _ _ => ?_) ?_
    | with_reducible refine PairFoot.foldl (fun _ _ _ => ?_) ?_
    | with_reducible apply Foot.ite
    | with_reducible apply PairFoot.ite
    | with_reducible apply OptFoot.ite
    | with_reducible apply OutFoot.ite
    | with_reducible apply ExFoot.ite
    | with_reducible exact ExFoot.error
    | with_reducible refine ExFoot.ok ?_
    | with_reducible refine PairFoot.forL (fun _ _ _ => ?_) ?_
    | with_reducible refine PairFoot.forN (fun _ _ _ => ?_) ?_
    | with_reducible refine OptFoot.some ?_
    | with_reducible exact OptFoot.none
    | with_reducible refine OutFoot.next ?_
    | with_reducible refine OptFoot.getD ?_ ?_
    | with_reducible refine PairFoot.snd ?_
    | with_reducible exact PairFoot.out (by assumption)
    | with_reducible refine PairFoot.eq (by assumption) ?_
    | with_reducible refine OptFoot.eq (by assumption) ?_
    | with_reducible refine ExFoot.eq (by assumption) ?_
    | ((with_reducible refine Foot.lit ?_ rfl rfl ?_ ?_ ?_ ?_ ?_ ?_); rotate_left; rfl; rfl; rfl; rfl; (first | exact Nat.le_refl _ | exact Nat.le_succ _); (constructor <;> first | with_reducible exact Kept.same | exact Kept.masked rfl); (first | with_reducible assumption | with_reducible refine foot_ilmEval rfl ?_ .. | with_reducible refine foot_sbcRead rfl ?_ .. | with_reducible refine Foot.forN (fun _ _ _ => ?_) ?_ | with_reducible refine Foot.foldl (fun _ _ _ => ?_) ?_ | with_reducible refine PairFoot.foldl (fun _ _ _ => ?_) ?_ | with_reducible apply Foot.ite | with_reducible apply PairFoot.ite | with_reducible apply OptFoot.ite | with_reducible apply OutFoot.ite | with_reducible apply ExFoot.ite | with_reducible exact ExFoot.error | with_reducible refine ExFoot.ok ?_ | with_reducible refine PairFoot.forL (fun _ _ _ => ?_) ?_ | with_reducible refine PairFoot.forN (fun _ _ _ => ?_) ?_ | with_reducible refine OptFoot.some ?_ | with_reducible exact OptFoot.none | with_reducible refine OutFoot.next ?_ | with_reducible refine OptFoot.getD ?_ ?_ | with_reducible refine PairFoot.snd ?_))
    | split
    | with_reducible refine PairFoot.mk ?_
    | dsimp only

theorem foot_execCoreSilent {m : Nat} {z t : State} (hs : 0x72290100a6ea4f80 ||| m = m) (h : Foot m z t) :
    OutFoot m z (execCoreSilent t) := by
  refine OutFoot.step (m := 0x72290100a6ea4f80) ?_ hs h
  clear h hs
  have h := Foot.refl 0x72290100a6ea4f80 t
  unfold execCoreSilent
  repeat' first
    | with_reducible assumption
    | (intro x; first
        | (refine Foot.cut (P := Foot 0x72290100a6ea4f80 t x) ?_ ?_; rotate_left; subst x; rotate_left; intro hx; clear_value x)
        | (refine Foot.cut (P := PairFoot 0x72290100a6ea4f80 t x) ?_ ?_; rotate_left; subst x; rotate_left; intro hx; clear_value x)
        | (refine Foot.cut (P := OptFoot 0x72290100a6ea4f80 t x) ?_ ?_; rotate_left; subst x; rotate_left; intro hx; clear_value x)
        | (have hf := x.programmed; clear hf)
        | clear_value x
        | skip)
    | lift_lets
    | with_reducible refine foot_trip rfl ?_ ..
    | with_reducible refine Foot.foldl (fun _ _ _ => ?_) ?_
    | with_reducible refine PairFoot.foldl (fun _ _ _ => ?_) ?_
    | with_reducible apply Foot.ite
    | with_reducible apply PairFoot.ite
    | with_reducible apply OptFoot.ite
    | with_reducible apply OutFoot.ite
    | with_reducible apply ExFoot.ite
    | with_reducible exact ExFoot.error
    | with_reducible refine ExFoot.ok ?_
    | with_reducible refine PairFoot.forL (fun _ _ _ => ?_) ?_
    | with_reducible refine PairFoot.forN (fun _ _ _ => ?_) ?_
    | with_reducible refine OptFoot.some ?_
    | with_reducible exact OptFoot.none
    | with_reducible refine OutFoot.next ?_
    | with_reducible refine OptFoot.getD ?_ ?_
    | with_reducible refine PairFoot.snd ?_
    | with_reducible exact PairFoot.out (by assumption)
    | with_reducible refine PairFoot.eq (by assumption) ?_
    | with_reducible refine OptFoot.eq (by assumption) ?_
    | with_reducible refine ExFoot.eq (by assumption) ?_
    | ((with_reducible refine Foot.lit ?_ rfl rfl ?_ ?_ ?_ ?_ ?_ ?_); rotate_left; rfl; rfl; rfl; rfl; (first | exact Nat.le_refl _ | exact Nat.le_succ _); (constructor <;> first | with_reducible exact Kept.same | exact Kept.masked rfl); (first | with_reducible assumption | with_reducible refine foot_trip rfl ?_ .. | with_reducible refine Foot.foldl (fun _ _ _ => ?_) ?_ | with_reducible refine PairFoot.foldl (fun _ _ _ => ?_) ?_ | with_reducible apply Foot.ite | with_reducible apply PairFoot.ite | with_reducible apply OptFoot.ite | with_reducible apply OutFoot.ite | with_reducible apply ExFoot.ite | with_reducible exact ExFoot.error | with_reducible refine ExFoot.ok ?_ | with_reducible refine PairFoot.forL (fun _ _ _ => ?_) ?_ | with_reducible refine PairFoot.forN (fun _ _ _ => ?_) ?_ | with_reducible refine OptFoot.some ?_ | with_reducible exact OptFoot.none | with_reducible refine OutFoot.next ?_ | with_reducible refine OptFoot.getD ?_ ?_ | with_reducible refine PairFoot.snd ?_))
    | split
    | with_reducible refine PairFoot.mk ?_
    | dsimp only

theorem foot_execReadbackMismatch {m : Nat} {z t : State} (hs : 0x72290100a6ea4f80 ||| m = m) (h : Foot m z t) (a0 : _) :
    OutFoot m z (execReadbackMismatch a0 t) := by
  refine OutFoot.step (m := 0x72290100a6ea4f80) ?_ hs h
  clear h hs
  have h := Foot.refl 0x72290100a6ea4f80 t
  unfold execReadbackMismatch
  repeat' first
    | with_reducible assumption
    | (intro x; first
        | (refine Foot.cut (P := Foot 0x72290100a6ea4f80 t x) ?_ ?_; rotate_left; subst x; rotate_left; intro hx; clear_value x)
        | (refine Foot.cut (P := PairFoot 0x72290100a6ea4f80 t x) ?_ ?_; rotate_left; subst x; rotate_left; intro hx; clear_value x)
        | (refine Foot.cut (P := OptFoot 0x72290100a6ea4f80 t x) ?_ ?_; rotate_left; subst x; rotate_left; intro hx; clear_value x)
        | (have hf := x.programmed; clear hf)
        | clear_value x
        | skip)
    | lift_lets
    | with_reducible refine foot_trip rfl ?_ ..
    | with_reducible refine Foot.foldl (fun _ _ _ => ?_) ?_
    | with_reducible refine PairFoot.foldl (fun _ _ _ => ?_) ?_
    | with_reducible apply Foot.ite
    | with_reducible apply PairFoot.ite
    | with_reducible apply OptFoot.ite
    | with_reducible apply OutFoot.ite
    | with_reducible apply ExFoot.ite
    | with_reducible exact ExFoot.error
    | with_reducible refine ExFoot.ok ?_
    | with_reducible refine PairFoot.forL (fun _ _ _ => ?_) ?_
    | with_reducible refine PairFoot.forN (fun _ _ _ => ?_) ?_
    | with_reducible refine OptFoot.some ?_
    | with_reducible exact OptFoot.none
    | with_reducible refine OutFoot.next ?_
    | with_reducible refine OptFoot.getD ?_ ?_
    | with_reducible refine PairFoot.snd ?_
    | with_reducible exact PairFoot.out (by assumption)
    | with_reducible refine PairFoot.eq (by assumption) ?_
    | with_reducible refine OptFoot.eq (by assumption) ?_
    | with_reducible refine ExFoot.eq (by assumption) ?_
    | ((with_reducible refine Foot.lit ?_ rfl rfl ?_ ?_ ?_ ?_ ?_ ?_); rotate_left; rfl; rfl; rfl; rfl; (first | exact Nat.le_refl _ | exact Nat.le_succ _); (constructor <;> first | with_reducible exact Kept.same | exact Kept.masked rfl); (first | with_reducible assumption | with_reducible refine foot_trip rfl ?_ .. | with_reducible refine Foot.foldl (fun _ _ _ => ?_) ?_ | with_reducible refine PairFoot.foldl (fun _ _ _ => ?_) ?_ | with_reducible apply Foot.ite | with_reducible apply PairFoot.ite | with_reducible apply OptFoot.ite | with_reducible apply OutFoot.ite | with_reducible apply ExFoot.ite | with_reducible exact ExFoot.error | with_reducible refine ExFoot.ok ?_ | with_reducible refine PairFoot.forL (fun _ _ _ => ?_) ?_ | with_reducible refine PairFoot.forN (fun _ _ _ => ?_) ?_ | with_reducible refine OptFoot.some ?_ | with_reducible exact OptFoot.none | with_reducible refine OutFoot.next ?_ | with_reducible refine OptFoot.getD ?_ ?_ | with_reducible refine PairFoot.snd ?_))
    | split
    | with_reducible refine PairFoot.mk ?_
    | dsimp only

theorem foot_safeReqWrite {m : Nat} {z t : State} (hs : 0x72290100a6ea4f80 ||| m = m) (h : Foot m z t) (a0 : _) :
    Foot m z (State.safeReqWrite a0 t) := by
  refine Foot.step (m := 0x72290100a6ea4f80) ?_ hs h
  clear h hs
  have h := Foot.refl 0x72290100a6ea4f80 t
  unfold State.safeReqWrite
  repeat' first
    | with_reducible assumption
    | (intro x; first
        | (refine Foot.cut (P := Foot 0x72290100a6ea4f80 t x) ?_ ?_; rotate_left; subst x; rotate_left; intro hx; clear_value x)
        | (refine Foot.cut (P := PairFoot 0x72290100a6ea4f80 t x) ?_ ?_; rotate_left; subst x; rotate_left; intro hx; clear_value x)
        | (refine Foot.cut (P := OptFoot 0x72290100a6ea4f80 t x) ?_ ?_; rotate_left; subst x; rotate_left; intro hx; clear_value x)
        | (have hf := x.programmed; clear hf)
        | clear_value x
        | skip)
    | lift_lets
    | with_reducible refine foot_ilmEval rfl ?_ ..
    | with_reducible refine foot_sbcEngage rfl ?_ ..
    | with_reducible refine foot_sbcSet rfl ?_ ..
    | with_reducible refine foot_setFld (blk_SAFE_REQ_REQ ..) rfl ?_ ..
    | with_reducible refine Foot.forN (fun _ _ _ => ?_) ?_
    | with_reducible refine Foot.foldl (fun _ _ _ => ?_) ?_
    | with_reducible refine PairFoot.foldl (fun _ _ _ => ?_) ?_
    | with_reducible apply Foot.ite
    | with_reducible apply PairFoot.ite
    | with_reducible apply OptFoot.ite
    | with_reducible apply OutFoot.ite
    | with_reducible apply ExFoot.ite
    | with_reducible exact ExFoot.error
    | with_reducible refine ExFoot.ok ?_
    | with_reducible refine PairFoot.forL (fun _ _ _ => ?_) ?_
    | with_reducible refine PairFoot.forN (fun _ _ _ => ?_) ?_
    | with_reducible refine OptFoot.some ?_
    | with_reducible exact OptFoot.none
    | with_reducible refine OutFoot.next ?_
    | with_reducible refine OptFoot.getD ?_ ?_
    | with_reducible refine PairFoot.snd ?_
    | with_reducible exact PairFoot.out (by assumption)
    | with_reducible refine PairFoot.eq (by assumption) ?_
    | with_reducible refine OptFoot.eq (by assumption) ?_
    | with_reducible refine ExFoot.eq (by assumption) ?_
    | ((with_reducible refine Foot.lit ?_ rfl rfl ?_ ?_ ?_ ?_ ?_ ?_); rotate_left; rfl; rfl; rfl; rfl; (first | exact Nat.le_refl _ | exact Nat.le_succ _); (constructor <;> first | with_reducible exact Kept.same | exact Kept.masked rfl); (first | with_reducible assumption | with_reducible refine foot_ilmEval rfl ?_ .. | with_reducible refine foot_sbcEngage rfl ?_ .. | with_reducible refine foot_sbcSet rfl ?_ .. | with_reducible refine foot_setFld (blk_SAFE_REQ_REQ ..) rfl ?_ .. | with_reducible refine Foot.forN (fun _ _ _ => ?_) ?_ | with_reducible refine Foot.foldl (fun _ _ _ => ?_) ?_ | with_reducible refine PairFoot.foldl (fun _ _ _ => ?_) ?_ | with_reducible apply Foot.ite | with_reducible apply PairFoot.ite | with_reducible apply OptFoot.ite | with_reducible apply OutFoot.ite | with_reducible apply ExFoot.ite | with_reducible exact ExFoot.error | with_reducible refine ExFoot.ok ?_ | with_reducible refine PairFoot.forL (fun _ _ _ => ?_) ?_ | with_reducible refine PairFoot.forN (fun _ _ _ => ?_) ?_ | with_reducible refine OptFoot.some ?_ | with_reducible exact OptFoot.none | with_reducible refine OutFoot.next ?_ | with_reducible refine OptFoot.getD ?_ ?_ | with_reducible refine PairFoot.snd ?_))
    | split
    | with_reducible refine PairFoot.mk ?_
    | dsimp only

theorem foot_execSafeReqWrite {m : Nat} {z t : State} (hs : 0x72290100a6ea4f80 ||| m = m) (h : Foot m z t) (a0 : _) (a1 : _) :
    OutFoot m z (execSafeReqWrite a0 a1 t) := by
  refine OutFoot.step (m := 0x72290100a6ea4f80) ?_ hs h
  clear h hs
  have h := Foot.refl 0x72290100a6ea4f80 t
  unfold execSafeReqWrite
  repeat' first
    | with_reducible assumption
    | (intro x; first | clear_value x | skip)
    | lift_lets
    | with_reducible refine foot_safeReqWrite rfl ?_ ..
    | with_reducible refine OutFoot.next ?_
    | split
    | dsimp only

theorem foot_execTestPulse {m : Nat} {z t : State} (hs : 0x72290100a6ea4f80 ||| m = m) (h : Foot m z t) (a0 : _) :
    OutFoot m z (execTestPulse a0 t) := by
  refine OutFoot.step (m := 0x72290100a6ea4f80) ?_ hs h
  clear h hs
  have h := Foot.refl 0x72290100a6ea4f80 t
  unfold execTestPulse
  repeat' first
    | with_reducible assumption
    | (intro x; first
        | (refine Foot.cut (P := Foot 0x72290100a6ea4f80 t x) ?_ ?_; rotate_left; subst x; rotate_left; intro hx; clear_value x)
        | (refine Foot.cut (P := PairFoot 0x72290100a6ea4f80 t x) ?_ ?_; rotate_left; subst x; rotate_left; intro hx; clear_value x)
        | (refine Foot.cut (P := OptFoot 0x72290100a6ea4f80 t x) ?_ ?_; rotate_left; subst x; rotate_left; intro hx; clear_value x)
        | (have hf := x.programmed; clear hf)
        | clear_value x
        | skip)
    | lift_lets
    | with_reducible refine foot_ilmEval rfl ?_ ..
    | with_reducible refine foot_sbcShow rfl ?_ ..
    | with_reducible refine foot_modSbc rfl ?_ ..
    | with_reducible refine foot_incSat (blk_SAFE_TEST_PULSES ..) rfl ?_ ..
    | with_reducible refine Foot.foldl (fun _ _ _ => ?_) ?_
    | with_reducible refine PairFoot.foldl (fun _ _ _ => ?_) ?_
    | with_reducible apply Foot.ite
    | with_reducible apply PairFoot.ite
    | with_reducible apply OptFoot.ite
    | with_reducible apply OutFoot.ite
    | with_reducible apply ExFoot.ite
    | with_reducible exact ExFoot.error
    | with_reducible refine ExFoot.ok ?_
    | with_reducible refine PairFoot.forL (fun _ _ _ => ?_) ?_
    | with_reducible refine PairFoot.forN (fun _ _ _ => ?_) ?_
    | with_reducible refine OptFoot.some ?_
    | with_reducible exact OptFoot.none
    | with_reducible refine OutFoot.next ?_
    | with_reducible refine OptFoot.getD ?_ ?_
    | with_reducible refine PairFoot.snd ?_
    | with_reducible exact PairFoot.out (by assumption)
    | with_reducible refine PairFoot.eq (by assumption) ?_
    | with_reducible refine OptFoot.eq (by assumption) ?_
    | with_reducible refine ExFoot.eq (by assumption) ?_
    | ((with_reducible refine Foot.lit ?_ rfl rfl ?_ ?_ ?_ ?_ ?_ ?_); rotate_left; rfl; rfl; rfl; rfl; (first | exact Nat.le_refl _ | exact Nat.le_succ _); (constructor <;> first | with_reducible exact Kept.same | exact Kept.masked rfl); (first | with_reducible assumption | with_reducible refine foot_ilmEval rfl ?_ .. | with_reducible refine foot_sbcShow rfl ?_ .. | with_reducible refine foot_modSbc rfl ?_ .. | with_reducible refine foot_incSat (blk_SAFE_TEST_PULSES ..) rfl ?_ .. | with_reducible refine Foot.foldl (fun _ _ _ => ?_) ?_ | with_reducible refine PairFoot.foldl (fun _ _ _ => ?_) ?_ | with_reducible apply Foot.ite | with_reducible apply PairFoot.ite | with_reducible apply OptFoot.ite | with_reducible apply OutFoot.ite | with_reducible apply ExFoot.ite | with_reducible exact ExFoot.error | with_reducible refine ExFoot.ok ?_ | with_reducible refine PairFoot.forL (fun _ _ _ => ?_) ?_ | with_reducible refine PairFoot.forN (fun _ _ _ => ?_) ?_ | with_reducible refine OptFoot.some ?_ | with_reducible exact OptFoot.none | with_reducible refine OutFoot.next ?_ | with_reducible refine OptFoot.getD ?_ ?_ | with_reducible refine PairFoot.snd ?_))
    | split
    | with_reducible refine PairFoot.mk ?_
    | dsimp only

theorem foot_execTestPulseEnd {m : Nat} {z t : State} (hs : 0x72290100a6ea4f80 ||| m = m) (h : Foot m z t) (a0 : _) (a1 : _) (a2 : _) :
    OutFoot m z (execTestPulseEnd a0 a1 a2 t) := by
  refine OutFoot.step (m := 0x72290100a6ea4f80) ?_ hs h
  clear h hs
  have h := Foot.refl 0x72290100a6ea4f80 t
  unfold execTestPulseEnd
  repeat' first
    | with_reducible assumption
    | (intro x; first
        | (refine Foot.cut (P := Foot 0x72290100a6ea4f80 t x) ?_ ?_; rotate_left; subst x; rotate_left; intro hx; clear_value x)
        | (refine Foot.cut (P := PairFoot 0x72290100a6ea4f80 t x) ?_ ?_; rotate_left; subst x; rotate_left; intro hx; clear_value x)
        | (refine Foot.cut (P := OptFoot 0x72290100a6ea4f80 t x) ?_ ?_; rotate_left; subst x; rotate_left; intro hx; clear_value x)
        | (have hf := x.programmed; clear hf)
        | clear_value x
        | skip)
    | lift_lets
    | with_reducible refine foot_ilmEval rfl ?_ ..
    | with_reducible refine foot_sbcShow rfl ?_ ..
    | with_reducible refine foot_trip rfl ?_ ..
    | with_reducible refine foot_modSbc rfl ?_ ..
    | with_reducible refine foot_sbcSet rfl ?_ ..
    | with_reducible refine Foot.foldl (fun _ _ _ => ?_) ?_
    | with_reducible refine PairFoot.foldl (fun _ _ _ => ?_) ?_
    | with_reducible apply Foot.ite
    | with_reducible apply PairFoot.ite
    | with_reducible apply OptFoot.ite
    | with_reducible apply OutFoot.ite
    | with_reducible apply ExFoot.ite
    | with_reducible exact ExFoot.error
    | with_reducible refine ExFoot.ok ?_
    | with_reducible refine PairFoot.forL (fun _ _ _ => ?_) ?_
    | with_reducible refine PairFoot.forN (fun _ _ _ => ?_) ?_
    | with_reducible refine OptFoot.some ?_
    | with_reducible exact OptFoot.none
    | with_reducible refine OutFoot.next ?_
    | with_reducible refine OptFoot.getD ?_ ?_
    | with_reducible refine PairFoot.snd ?_
    | with_reducible exact PairFoot.out (by assumption)
    | with_reducible refine PairFoot.eq (by assumption) ?_
    | with_reducible refine OptFoot.eq (by assumption) ?_
    | with_reducible refine ExFoot.eq (by assumption) ?_
    | ((with_reducible refine Foot.lit ?_ rfl rfl ?_ ?_ ?_ ?_ ?_ ?_); rotate_left; rfl; rfl; rfl; rfl; (first | exact Nat.le_refl _ | exact Nat.le_succ _); (constructor <;> first | with_reducible exact Kept.same | exact Kept.masked rfl); (first | with_reducible assumption | with_reducible refine foot_ilmEval rfl ?_ .. | with_reducible refine foot_sbcShow rfl ?_ .. | with_reducible refine foot_trip rfl ?_ .. | with_reducible refine foot_modSbc rfl ?_ .. | with_reducible refine foot_sbcSet rfl ?_ .. | with_reducible refine Foot.foldl (fun _ _ _ => ?_) ?_ | with_reducible refine PairFoot.foldl (fun _ _ _ => ?_) ?_ | with_reducible apply Foot.ite | with_reducible apply PairFoot.ite | with_reducible apply OptFoot.ite | with_reducible apply OutFoot.ite | with_reducible apply ExFoot.ite | with_reducible exact ExFoot.error | with_reducible refine ExFoot.ok ?_ | with_reducible refine PairFoot.forL (fun _ _ _ => ?_) ?_ | with_reducible refine PairFoot.forN (fun _ _ _ => ?_) ?_ | with_reducible refine OptFoot.some ?_ | with_reducible exact OptFoot.none | with_reducible refine OutFoot.next ?_ | with_reducible refine OptFoot.getD ?_ ?_ | with_reducible refine PairFoot.snd ?_))
    | split
    | with_reducible refine PairFoot.mk ?_
    | dsimp only

theorem foot_execVsenFault {m : Nat} {z t : State} (hs : 0x72290100a6ea4f80 ||| m = m) (h : Foot m z t) :
    OutFoot m z (execVsenFault t) := by
  refine OutFoot.step (m := 0x72290100a6ea4f80) ?_ hs h
  clear h hs
  have h := Foot.refl 0x72290100a6ea4f80 t
  unfold execVsenFault
  repeat' first
    | with_reducible assumption
    | (intro x; first
        | (refine Foot.cut (P := Foot 0x72290100a6ea4f80 t x) ?_ ?_; rotate_left; subst x; rotate_left; intro hx; clear_value x)
        | (refine Foot.cut (P := PairFoot 0x72290100a6ea4f80 t x) ?_ ?_; rotate_left; subst x; rotate_left; intro hx; clear_value x)
        | (refine Foot.cut (P := OptFoot 0x72290100a6ea4f80 t x) ?_ ?_; rotate_left; subst x; rotate_left; intro hx; clear_value x)
        | (have hf := x.programmed; clear hf)
        | clear_value x
        | skip)
    | lift_lets
    | with_reducible refine foot_trip rfl ?_ ..
    | with_reducible refine Foot.foldl (fun _ _ _ => ?_) ?_
    | with_reducible refine PairFoot.foldl (fun _ _ _ => ?_) ?_
    | with_reducible apply Foot.ite
    | with_reducible apply PairFoot.ite
    | with_reducible apply OptFoot.ite
    | with_reducible apply OutFoot.ite
    | with_reducible apply ExFoot.ite
    | with_reducible exact ExFoot.error
    | with_reducible refine ExFoot.ok ?_
    | with_reducible refine PairFoot.forL (fun _ _ _ => ?_) ?_
    | with_reducible refine PairFoot.forN (fun _ _ _ => ?_) ?_
    | with_reducible refine OptFoot.some ?_
    | with_reducible exact OptFoot.none
    | with_reducible refine OutFoot.next ?_
    | with_reducible refine OptFoot.getD ?_ ?_
    | with_reducible refine PairFoot.snd ?_
    | with_reducible exact PairFoot.out (by assumption)
    | with_reducible refine PairFoot.eq (by assumption) ?_
    | with_reducible refine OptFoot.eq (by assumption) ?_
    | with_reducible refine ExFoot.eq (by assumption) ?_
    | ((with_reducible refine Foot.lit ?_ rfl rfl ?_ ?_ ?_ ?_ ?_ ?_); rotate_left; rfl; rfl; rfl; rfl; (first | exact Nat.le_refl _ | exact Nat.le_succ _); (constructor <;> first | with_reducible exact Kept.same | exact Kept.masked rfl); (first | with_reducible assumption | with_reducible refine foot_trip rfl ?_ .. | with_reducible refine Foot.foldl (fun _ _ _ => ?_) ?_ | with_reducible refine PairFoot.foldl (fun _ _ _ => ?_) ?_ | with_reducible apply Foot.ite | with_reducible apply PairFoot.ite | with_reducible apply OptFoot.ite | with_reducible apply OutFoot.ite | with_reducible apply ExFoot.ite | with_reducible exact ExFoot.error | with_reducible refine ExFoot.ok ?_ | with_reducible refine PairFoot.forL (fun _ _ _ => ?_) ?_ | with_reducible refine PairFoot.forN (fun _ _ _ => ?_) ?_ | with_reducible refine OptFoot.some ?_ | with_reducible exact OptFoot.none | with_reducible refine OutFoot.next ?_ | with_reducible refine OptFoot.getD ?_ ?_ | with_reducible refine PairFoot.snd ?_))
    | split
    | with_reducible refine PairFoot.mk ?_
    | dsimp only

theorem foot_execDeliberateReset {m : Nat} {z t : State} (hs : 0x72280100a4ea4f80 ||| m = m) (h : Foot m z t) (a0 : _) (a1 : _) (a2 : _) (a3 : _) :
    OutFoot m z (execDeliberateReset a0 a1 a2 a3 t) := by
  refine OutFoot.step (m := 0x72280100a4ea4f80) ?_ hs h
  clear h hs
  have h := Foot.refl 0x72280100a4ea4f80 t
  unfold execDeliberateReset
  repeat' first
    | with_reducible assumption
    | (intro x; first | (refine Foot.cut (P := Foot 0x72280100a4ea4f80 t x) ?_ ?_; rotate_left; subst x; rotate_left; intro hx; clear_value x) | clear_value x | skip)
    | lift_lets
    | with_reducible refine foot_soffAxes rfl ?_ ..
    | with_reducible refine foot_causeMode rfl ?_ ..
    | with_reducible refine foot_setFld (blk_SAFE_RST_LAST_REJ ..) rfl ?_ ..
    | with_reducible refine foot_setFld (blk_SAFE_RST_REJECTS ..) rfl ?_ ..
    | with_reducible refine foot_setFld (blk_SAFE_RST_ACCEPTED ..) rfl ?_ ..
    | with_reducible refine foot_setFld (blk_SAFE_STAT_ARG ..) rfl ?_ ..
    | with_reducible refine foot_setFld (blk_SAFE_STAT_REASON ..) rfl ?_ ..
    | with_reducible refine foot_setFld (blk_SAFE_STAT_SOFF ..) rfl ?_ ..
    | with_reducible refine foot_setFld (blk_SAFE_STAT_STATE ..) rfl ?_ ..
    | with_reducible refine foot_setFlag (blk_SAFE_RST_LAST_REJ ..) rfl ?_ ..
    | with_reducible refine foot_setFlag (blk_SAFE_RST_REJECTS ..) rfl ?_ ..
    | with_reducible refine foot_setFlag (blk_SAFE_RST_ACCEPTED ..) rfl ?_ ..
    | with_reducible refine foot_setFlag (blk_SAFE_STAT_ARG ..) rfl ?_ ..
    | with_reducible refine foot_setFlag (blk_SAFE_STAT_REASON ..) rfl ?_ ..
    | with_reducible refine foot_setFlag (blk_SAFE_STAT_SOFF ..) rfl ?_ ..
    | with_reducible refine foot_setFlag (blk_SAFE_STAT_STATE ..) rfl ?_ ..
    | with_reducible refine foot_incSat (blk_SAFE_RST_LAST_REJ ..) rfl ?_ ..
    | with_reducible refine foot_incSat (blk_SAFE_RST_REJECTS ..) rfl ?_ ..
    | with_reducible refine foot_incSat (blk_SAFE_RST_ACCEPTED ..) rfl ?_ ..
    | with_reducible refine foot_incSat (blk_SAFE_STAT_ARG ..) rfl ?_ ..
    | with_reducible refine foot_incSat (blk_SAFE_STAT_REASON ..) rfl ?_ ..
    | with_reducible refine foot_incSat (blk_SAFE_STAT_SOFF ..) rfl ?_ ..
    | with_reducible refine foot_incSat (blk_SAFE_STAT_STATE ..) rfl ?_ ..
    | with_reducible apply Foot.ite
    | with_reducible refine OutFoot.next ?_
    | ((with_reducible refine Foot.lit ?_ rfl rfl ?_ ?_ ?_ ?_ ?_ ?_); rotate_left; rfl; rfl; rfl; rfl; (first | exact Nat.le_refl _ | exact Nat.le_succ _); (constructor <;> first | with_reducible exact Kept.same | exact Kept.masked rfl); (first | with_reducible assumption | with_reducible refine foot_soffAxes rfl ?_ .. | with_reducible refine foot_causeMode rfl ?_ .. | with_reducible refine foot_setFld (blk_SAFE_RST_LAST_REJ ..) rfl ?_ .. | with_reducible refine foot_setFld (blk_SAFE_RST_REJECTS ..) rfl ?_ .. | with_reducible refine foot_setFld (blk_SAFE_RST_ACCEPTED ..) rfl ?_ .. | with_reducible refine foot_setFld (blk_SAFE_STAT_ARG ..) rfl ?_ .. | with_reducible refine foot_setFld (blk_SAFE_STAT_REASON ..) rfl ?_ .. | with_reducible refine foot_setFld (blk_SAFE_STAT_SOFF ..) rfl ?_ .. | with_reducible refine foot_setFld (blk_SAFE_STAT_STATE ..) rfl ?_ .. | with_reducible refine foot_setFlag (blk_SAFE_RST_LAST_REJ ..) rfl ?_ .. | with_reducible refine foot_setFlag (blk_SAFE_RST_REJECTS ..) rfl ?_ .. | with_reducible refine foot_setFlag (blk_SAFE_RST_ACCEPTED ..) rfl ?_ .. | with_reducible refine foot_setFlag (blk_SAFE_STAT_ARG ..) rfl ?_ .. | with_reducible refine foot_setFlag (blk_SAFE_STAT_REASON ..) rfl ?_ .. | with_reducible refine foot_setFlag (blk_SAFE_STAT_SOFF ..) rfl ?_ .. | with_reducible refine foot_setFlag (blk_SAFE_STAT_STATE ..) rfl ?_ .. | with_reducible refine foot_incSat (blk_SAFE_RST_LAST_REJ ..) rfl ?_ .. | with_reducible refine foot_incSat (blk_SAFE_RST_REJECTS ..) rfl ?_ .. | with_reducible refine foot_incSat (blk_SAFE_RST_ACCEPTED ..) rfl ?_ .. | with_reducible refine foot_incSat (blk_SAFE_STAT_ARG ..) rfl ?_ .. | with_reducible refine foot_incSat (blk_SAFE_STAT_REASON ..) rfl ?_ .. | with_reducible refine foot_incSat (blk_SAFE_STAT_SOFF ..) rfl ?_ .. | with_reducible refine foot_incSat (blk_SAFE_STAT_STATE ..) rfl ?_ .. | with_reducible apply Foot.ite | with_reducible refine OutFoot.next ?_))
    | split
    | dsimp only

theorem foot_confClose {m : Nat} {z t : State} (hs : 0x8000000020000 ||| m = m) (h : Foot m z t) :
    Foot m z (State.confClose t) := by
  refine Foot.step (m := 0x8000000020000) ?_ hs h
  clear h hs
  have h := Foot.refl 0x8000000020000 t
  unfold State.confClose
  repeat' first
    | with_reducible assumption
    | (intro x; first | clear_value x | skip)
    | lift_lets
    | with_reducible refine foot_setFlag (blk_SAFE_STAT_CONF_OPEN ..) rfl ?_ ..
    | ((with_reducible refine Foot.lit ?_ rfl rfl ?_ ?_ ?_ ?_ ?_ ?_); rotate_left; rfl; rfl; rfl; rfl; (first | exact Nat.le_refl _ | exact Nat.le_succ _); (constructor <;> first | with_reducible exact Kept.same | exact Kept.masked rfl); (first | with_reducible assumption | with_reducible refine foot_setFlag (blk_SAFE_STAT_CONF_OPEN ..) rfl ?_ ..))
    | split
    | dsimp only

theorem foot_pendWrite {m : Nat} {z t : State} (hs : 0x8000000020000 ||| m = m) (h : Foot m z t) (a0 : _) (a1 : _) :
    Foot m z (State.pendWrite a0 a1 t) := by
  refine Foot.step (m := 0x8000000020000) ?_ hs h
  clear h hs
  have h := Foot.refl 0x8000000020000 t
  unfold State.pendWrite
  repeat' first
    | with_reducible assumption
    | (intro x; first | (refine Foot.cut (P := Foot 0x8000000020000 t x) ?_ ?_; rotate_left; subst x; rotate_left; intro hx; clear_value x) | clear_value x | skip)
    | lift_lets
    | with_reducible refine foot_confClose rfl ?_ ..
    | with_reducible refine foot_setFld (blk_SAFE_PEND_WORD ..) rfl ?_ ..
    | with_reducible refine foot_setFld (blk_SAFE_CHECK_CRC ..) rfl ?_ ..
    | with_reducible refine foot_setRegB (blk_SAFE_PEND_WORD ..) rfl ?_ ..
    | with_reducible refine foot_setRegB (blk_SAFE_CHECK_CRC ..) rfl ?_ ..
    | with_reducible apply Foot.ite
    | split
    | dsimp only

theorem foot_execPendingAreaWrite {m : Nat} {z t : State} (hs : 0x8000000020000 ||| m = m) (h : Foot m z t) (a0 : _) (a1 : _) (a2 : _) :
    OutFoot m z (execPendingAreaWrite a0 a1 a2 t) := by
  refine OutFoot.step (m := 0x8000000020000) ?_ hs h
  clear h hs
  have h := Foot.refl 0x8000000020000 t
  unfold execPendingAreaWrite
  repeat' first
    | with_reducible assumption
    | (intro x; first | clear_value x | skip)
    | lift_lets
    | with_reducible refine foot_pendWrite rfl ?_ ..
    | with_reducible refine OutFoot.next ?_
    | split
    | dsimp only

theorem foot_blockLoad {m : Nat} {z t : State} (hs : 0x8000000000000 ||| m = m) (h : Foot m z t) (a0 : _) :
    Foot m z (State.blockLoad a0 t) := by
  refine Foot.step (m := 0x8000000000000) ?_ hs h
  clear h hs
  have h := Foot.refl 0x8000000000000 t
  unfold State.blockLoad
  repeat' first
    | with_reducible assumption
    | (intro x; first | clear_value x | skip)
    | lift_lets
    | with_reducible refine foot_setRegB (blk_SAFE_BLOCK_WORD ..) rfl ?_ ..
    | with_reducible refine Foot.forN (fun _ _ _ => ?_) ?_
    | split
    | dsimp only

theorem foot_pendStore {m : Nat} {z t : State} (hs : 0x20000 ||| m = m) (h : Foot m z t) :
    Foot m z (State.pendStore t) := by
  refine Foot.step (m := 0x20000) ?_ hs h
  clear h hs
  have h := Foot.refl 0x20000 t
  unfold State.pendStore
  repeat' first
    | with_reducible assumption
    | (intro x; first | clear_value x | skip)
    | lift_lets
    | ((with_reducible refine Foot.lit ?_ rfl rfl ?_ ?_ ?_ ?_ ?_ ?_); rotate_left; rfl; rfl; rfl; rfl; (first | exact Nat.le_refl _ | exact Nat.le_succ _); (constructor <;> first | with_reducible exact Kept.same | exact Kept.masked rfl); (first | with_reducible assumption))
    | split
    | dsimp only

theorem foot_pendTake {m : Nat} {z t : State} (hs : 0x8000000020000 ||| m = m) (h : Foot m z t) :
    Foot m z (State.pendTake t) := by
  refine Foot.step (m := 0x8000000020000) ?_ hs h
  clear h hs
  have h := Foot.refl 0x8000000020000 t
  unfold State.pendTake
  repeat' first
    | with_reducible assumption
    | (intro x; first | clear_value x | skip)
    | lift_lets
    | with_reducible refine foot_pendStore rfl ?_ ..
    | with_reducible refine foot_blockLoad rfl ?_ ..
    | with_reducible refine foot_setFld (blk_SAFE_ACTIVE_CRC ..) rfl ?_ ..
    | split
    | dsimp only

theorem foot_commitResult {m : Nat} {z t : State} (hs : 0x72290100a6ea4f80 ||| m = m) (h : Foot m z t) (a0 : _) :
    Foot m z (State.commitResult a0 t) := by
  refine Foot.step (m := 0x72290100a6ea4f80) ?_ hs h
  clear h hs
  have h := Foot.refl 0x72290100a6ea4f80 t
  unfold State.commitResult
  repeat' first
    | with_reducible assumption
    | (intro x; first
        | (refine Foot.cut (P := Foot 0x72290100a6ea4f80 t x) ?_ ?_; rotate_left; subst x; rotate_left; intro hx; clear_value x)
        | (refine Foot.cut (P := PairFoot 0x72290100a6ea4f80 t x) ?_ ?_; rotate_left; subst x; rotate_left; intro hx; clear_value x)
        | (refine Foot.cut (P := OptFoot 0x72290100a6ea4f80 t x) ?_ ?_; rotate_left; subst x; rotate_left; intro hx; clear_value x)
        | (have hf := x.programmed; clear hf)
        | clear_value x
        | skip)
    | lift_lets
    | with_reducible refine foot_trip rfl ?_ ..
    | with_reducible refine foot_log rfl ?_ ..
    | with_reducible refine foot_pendTake rfl ?_ ..
    | with_reducible refine foot_setFld (blk_SAFE_CMDSTAT_RESULT ..) rfl ?_ ..
    | with_reducible refine foot_setFld (blk_SAFE_CMDSTAT_BADOFS ..) rfl ?_ ..
    | with_reducible refine foot_setFld (blk_SAFE_CMDSTAT_CODE ..) rfl ?_ ..
    | with_reducible refine Foot.foldl (fun _ _ _ => ?_) ?_
    | with_reducible refine PairFoot.foldl (fun _ _ _ => ?_) ?_
    | with_reducible apply Foot.ite
    | with_reducible apply PairFoot.ite
    | with_reducible apply OptFoot.ite
    | with_reducible apply OutFoot.ite
    | with_reducible apply ExFoot.ite
    | with_reducible exact ExFoot.error
    | with_reducible refine ExFoot.ok ?_
    | with_reducible refine PairFoot.forL (fun _ _ _ => ?_) ?_
    | with_reducible refine PairFoot.forN (fun _ _ _ => ?_) ?_
    | with_reducible refine OptFoot.some ?_
    | with_reducible exact OptFoot.none
    | with_reducible refine OutFoot.next ?_
    | with_reducible refine OptFoot.getD ?_ ?_
    | with_reducible refine PairFoot.snd ?_
    | with_reducible exact PairFoot.out (by assumption)
    | with_reducible refine PairFoot.eq (by assumption) ?_
    | with_reducible refine OptFoot.eq (by assumption) ?_
    | with_reducible refine ExFoot.eq (by assumption) ?_
    | ((with_reducible refine Foot.lit ?_ rfl rfl ?_ ?_ ?_ ?_ ?_ ?_); rotate_left; rfl; rfl; rfl; rfl; (first | exact Nat.le_refl _ | exact Nat.le_succ _); (constructor <;> first | with_reducible exact Kept.same | exact Kept.masked rfl); (first | with_reducible assumption | with_reducible refine foot_trip rfl ?_ .. | with_reducible refine foot_log rfl ?_ .. | with_reducible refine foot_pendTake rfl ?_ .. | with_reducible refine foot_setFld (blk_SAFE_CMDSTAT_RESULT ..) rfl ?_ .. | with_reducible refine foot_setFld (blk_SAFE_CMDSTAT_BADOFS ..) rfl ?_ .. | with_reducible refine foot_setFld (blk_SAFE_CMDSTAT_CODE ..) rfl ?_ .. | with_reducible refine Foot.foldl (fun _ _ _ => ?_) ?_ | with_reducible refine PairFoot.foldl (fun _ _ _ => ?_) ?_ | with_reducible apply Foot.ite | with_reducible apply PairFoot.ite | with_reducible apply OptFoot.ite | with_reducible apply OutFoot.ite | with_reducible apply ExFoot.ite | with_reducible exact ExFoot.error | with_reducible refine ExFoot.ok ?_ | with_reducible refine PairFoot.forL (fun _ _ _ => ?_) ?_ | with_reducible refine PairFoot.forN (fun _ _ _ => ?_) ?_ | with_reducible refine OptFoot.some ?_ | with_reducible exact OptFoot.none | with_reducible refine OutFoot.next ?_ | with_reducible refine OptFoot.getD ?_ ?_ | with_reducible refine PairFoot.snd ?_))
    | split
    | with_reducible refine PairFoot.mk ?_
    | dsimp only

theorem foot_safeCommit {m : Nat} {z t : State} (hs : 0x72290100a6ea4f80 ||| m = m) (h : Foot m z t) :
    Foot m z (State.safeCommit t) := by
  refine Foot.step (m := 0x72290100a6ea4f80) ?_ hs h
  clear h hs
  have h := Foot.refl 0x72290100a6ea4f80 t
  unfold State.safeCommit
  repeat' first
    | with_reducible assumption
    | (intro x; first | clear_value x | skip)
    | lift_lets
    | with_reducible refine foot_confClose rfl ?_ ..
    | with_reducible refine foot_commitResult rfl ?_ ..
    | split
    | dsimp only

theorem foot_safeConfirm {m : Nat} {z t : State} (hs : 0x72290100a6ea4f80 ||| m = m) (h : Foot m z t) (a0 : _) :
    Foot m z (State.safeConfirm a0 t) := by
  refine Foot.step (m := 0x72290100a6ea4f80) ?_ hs h
  clear h hs
  have h := Foot.refl 0x72290100a6ea4f80 t
  unfold State.safeConfirm
  repeat' first
    | with_reducible assumption
    | (intro x; first | clear_value x | skip)
    | lift_lets
    | with_reducible refine foot_confClose rfl ?_ ..
    | with_reducible refine foot_safeCommit rfl ?_ ..
    | with_reducible refine foot_setFlag (blk_SAFE_STAT_CONF_OPEN ..) rfl ?_ ..
    | with_reducible apply Foot.ite
    | ((with_reducible refine Foot.lit ?_ rfl rfl ?_ ?_ ?_ ?_ ?_ ?_); rotate_left; rfl; rfl; rfl; rfl; (first | exact Nat.le_refl _ | exact Nat.le_succ _); (constructor <;> first | with_reducible exact Kept.same | exact Kept.masked rfl); (first | with_reducible assumption | with_reducible refine foot_confClose rfl ?_ .. | with_reducible refine foot_safeCommit rfl ?_ .. | with_reducible refine foot_setFlag (blk_SAFE_STAT_CONF_OPEN ..) rfl ?_ .. | with_reducible apply Foot.ite))
    | split
    | dsimp only

theorem foot_execSafeConfirm {m : Nat} {z t : State} (hs : 0x72290100a6ea4f80 ||| m = m) (h : Foot m z t) (a0 : _) (a1 : _) :
    OutFoot m z (execSafeConfirm a0 a1 t) := by
  refine OutFoot.step (m := 0x72290100a6ea4f80) ?_ hs h
  clear h hs
  have h := Foot.refl 0x72290100a6ea4f80 t
  unfold execSafeConfirm
  repeat' first
    | with_reducible assumption
    | (intro x; first | clear_value x | skip)
    | lift_lets
    | with_reducible refine foot_safeConfirm rfl ?_ ..
    | with_reducible refine OutFoot.next ?_
    | split
    | dsimp only

theorem foot_execConfirmWindowExpiry {m : Nat} {z t : State} (hs : 0x8000000020000 ||| m = m) (h : Foot m z t) :
    OutFoot m z (execConfirmWindowExpiry t) := by
  refine OutFoot.step (m := 0x8000000020000) ?_ hs h
  clear h hs
  have h := Foot.refl 0x8000000020000 t
  unfold execConfirmWindowExpiry
  repeat' first
    | with_reducible assumption
    | (intro x; first | clear_value x | skip)
    | lift_lets
    | with_reducible refine foot_confClose rfl ?_ ..
    | with_reducible apply Foot.ite
    | with_reducible refine OutFoot.next ?_
    | split
    | dsimp only

theorem foot_storedLoad {m : Nat} {z t : State} (hs : 0x8000000000000 ||| m = m) (h : Foot m z t) :
    Foot m z (State.storedLoad t) := by
  refine Foot.step (m := 0x8000000000000) ?_ hs h
  clear h hs
  have h := Foot.refl 0x8000000000000 t
  unfold State.storedLoad
  repeat' first
    | with_reducible assumption
    | (intro x; first | clear_value x | skip)
    | lift_lets
    | with_reducible refine foot_blockLoad rfl ?_ ..
    | with_reducible refine foot_setFld (blk_SAFE_ACTIVE_CRC ..) rfl ?_ ..
    | split
    | dsimp only

theorem foot_sentinelClear {m : Nat} {z t : State} (hs : 0x20000 ||| m = m) (h : Foot m z t) :
    Foot m z (State.sentinelClear t) := by
  refine Foot.step (m := 0x20000) ?_ hs h
  clear h hs
  have h := Foot.refl 0x20000 t
  unfold State.sentinelClear
  repeat' first
    | with_reducible assumption
    | (intro x; first | clear_value x | skip)
    | lift_lets
    | ((with_reducible refine Foot.lit ?_ rfl rfl ?_ ?_ ?_ ?_ ?_ ?_); rotate_left; rfl; rfl; rfl; rfl; (first | exact Nat.le_refl _ | exact Nat.le_succ _); (constructor <;> first | with_reducible exact Kept.same | exact Kept.masked rfl); (first | with_reducible assumption))
    | split
    | dsimp only

theorem foot_sentinelStart {m : Nat} {z t : State} (hs : 0x72280100a4ea4f80 ||| m = m) (h : Foot m z t) (a0 : _) (a1 : _) :
    Foot m z (State.sentinelStart a0 a1 t) := by
  refine Foot.step (m := 0x72280100a4ea4f80) ?_ hs h
  clear h hs
  have h := Foot.refl 0x72280100a4ea4f80 t
  unfold State.sentinelStart
  repeat' first
    | with_reducible assumption
    | (intro x; first | (refine Foot.cut (P := Foot 0x72280100a4ea4f80 t x) ?_ ?_; rotate_left; subst x; rotate_left; intro hx; clear_value x) | clear_value x | skip)
    | lift_lets
    | with_reducible refine foot_lockout rfl ?_ ..
    | with_reducible refine foot_sentinelClear rfl ?_ ..
    | with_reducible refine foot_storedLoad rfl ?_ ..
    | with_reducible refine foot_setFld (blk_SAFE_STAT_STATE ..) rfl ?_ ..
    | with_reducible apply Foot.ite
    | split
    | dsimp only

theorem foot_bhtStart {m : Nat} {z t : State} (hs : 0x8000000020000 ||| m = m) (h : Foot m z t) (a0 : _) :
    Foot m z (State.bhtStart a0 t) := by
  refine Foot.step (m := 0x8000000020000) ?_ hs h
  clear h hs
  have h := Foot.refl 0x8000000020000 t
  unfold State.bhtStart
  repeat' first
    | with_reducible assumption
    | (intro x; first | (refine Foot.cut (P := Foot 0x8000000020000 t x) ?_ ?_; rotate_left; subst x; rotate_left; intro hx; clear_value x) | clear_value x | skip)
    | lift_lets
    | with_reducible refine foot_sbcSet rfl ?_ ..
    | with_reducible refine foot_setFld (blk_SAFE_BHT_RESULT ..) rfl ?_ ..
    | with_reducible refine foot_setFld (blk_SAFE_BHT_SBC ..) rfl ?_ ..
    | with_reducible refine foot_setFld (blk_SAFE_BHT_RUNNING ..) rfl ?_ ..
    | with_reducible refine foot_setFld (blk_SAFE_OUT_HELD ..) rfl ?_ ..
    | with_reducible refine foot_setFld (blk_SAFE_BHTDEV_COUNTS ..) rfl ?_ ..
    | with_reducible refine foot_setFlag (blk_SAFE_BHT_RESULT ..) rfl ?_ ..
    | with_reducible refine foot_setFlag (blk_SAFE_BHT_SBC ..) rfl ?_ ..
    | with_reducible refine foot_setFlag (blk_SAFE_BHT_RUNNING ..) rfl ?_ ..
    | with_reducible refine foot_setFlag (blk_SAFE_OUT_HELD ..) rfl ?_ ..
    | with_reducible refine foot_setFlag (blk_SAFE_BHTDEV_COUNTS ..) rfl ?_ ..
    | with_reducible refine foot_setFbit (blk_SAFE_BHT_RESULT ..) rfl ?_ ..
    | with_reducible refine foot_setFbit (blk_SAFE_BHT_SBC ..) rfl ?_ ..
    | with_reducible refine foot_setFbit (blk_SAFE_BHT_RUNNING ..) rfl ?_ ..
    | with_reducible refine foot_setFbit (blk_SAFE_OUT_HELD ..) rfl ?_ ..
    | with_reducible refine foot_setFbit (blk_SAFE_BHTDEV_COUNTS ..) rfl ?_ ..
    | ((with_reducible refine Foot.lit ?_ rfl rfl ?_ ?_ ?_ ?_ ?_ ?_); rotate_left; rfl; rfl; rfl; rfl; (first | exact Nat.le_refl _ | exact Nat.le_succ _); (constructor <;> first | with_reducible exact Kept.same | exact Kept.masked rfl); (first | with_reducible assumption | with_reducible refine foot_sbcSet rfl ?_ .. | with_reducible refine foot_setFld (blk_SAFE_BHT_RESULT ..) rfl ?_ .. | with_reducible refine foot_setFld (blk_SAFE_BHT_SBC ..) rfl ?_ .. | with_reducible refine foot_setFld (blk_SAFE_BHT_RUNNING ..) rfl ?_ .. | with_reducible refine foot_setFld (blk_SAFE_OUT_HELD ..) rfl ?_ .. | with_reducible refine foot_setFld (blk_SAFE_BHTDEV_COUNTS ..) rfl ?_ .. | with_reducible refine foot_setFlag (blk_SAFE_BHT_RESULT ..) rfl ?_ .. | with_reducible refine foot_setFlag (blk_SAFE_BHT_SBC ..) rfl ?_ .. | with_reducible refine foot_setFlag (blk_SAFE_BHT_RUNNING ..) rfl ?_ .. | with_reducible refine foot_setFlag (blk_SAFE_OUT_HELD ..) rfl ?_ .. | with_reducible refine foot_setFlag (blk_SAFE_BHTDEV_COUNTS ..) rfl ?_ .. | with_reducible refine foot_setFbit (blk_SAFE_BHT_RESULT ..) rfl ?_ .. | with_reducible refine foot_setFbit (blk_SAFE_BHT_SBC ..) rfl ?_ .. | with_reducible refine foot_setFbit (blk_SAFE_BHT_RUNNING ..) rfl ?_ .. | with_reducible refine foot_setFbit (blk_SAFE_OUT_HELD ..) rfl ?_ .. | with_reducible refine foot_setFbit (blk_SAFE_BHTDEV_COUNTS ..) rfl ?_ ..))
    | split
    | dsimp only

theorem foot_pendClear {m : Nat} {z t : State} (hs : 0x8000000020000 ||| m = m) (h : Foot m z t) :
    Foot m z (State.pendClear t) := by
  refine Foot.step (m := 0x8000000020000) ?_ hs h
  clear h hs
  have h := Foot.refl 0x8000000020000 t
  unfold State.pendClear
  repeat' first
    | with_reducible assumption
    | (intro x; first | clear_value x | skip)
    | lift_lets
    | with_reducible refine foot_confClose rfl ?_ ..
    | with_reducible refine foot_setFld (blk_SAFE_CHECK_CRC ..) rfl ?_ ..
    | with_reducible refine foot_setFld (blk_SAFE_PEND_WORD ..) rfl ?_ ..
    | with_reducible refine foot_setRegB (blk_SAFE_CHECK_CRC ..) rfl ?_ ..
    | with_reducible refine foot_setRegB (blk_SAFE_PEND_WORD ..) rfl ?_ ..
    | with_reducible refine Foot.forN (fun _ _ _ => ?_) ?_
    | split
    | dsimp only

theorem foot_safeResult {m : Nat} {z t : State} (hs : 0x8000000000000 ||| m = m) (h : Foot m z t) (a0 : _) (a1 : _) :
    Foot m z (State.safeResult a0 a1 t) := by
  refine Foot.step (m := 0x8000000000000) ?_ hs h
  clear h hs
  have h := Foot.refl 0x8000000000000 t
  unfold State.safeResult
  repeat' first
    | with_reducible assumption
    | (intro x; first | clear_value x | skip)
    | lift_lets
    | with_reducible refine foot_setFld (blk_SAFE_CMDSTAT_RESULT ..) rfl ?_ ..
    | with_reducible refine foot_setFld (blk_SAFE_CMDSTAT_CODE ..) rfl ?_ ..
    | split
    | dsimp only

theorem foot_safeCmd {m : Nat} {z t : State} (hs : 0x80000000a0000 ||| m = m) (h : Foot m z t) (a0 : _) (a1 : _) (a2 : _) :
    Foot m z (State.safeCmd a0 a1 a2 t) := by
  refine Foot.step (m := 0x80000000a0000) ?_ hs h
  clear h hs
  have h := Foot.refl 0x80000000a0000 t
  unfold State.safeCmd
  repeat' first
    | with_reducible assumption
    | (intro x; first | clear_value x | skip)
    | lift_lets
    | with_reducible refine foot_safeResult rfl ?_ ..
    | with_reducible refine foot_bhtInconclusive rfl ?_ ..
    | with_reducible refine foot_bhtStart rfl ?_ ..
    | with_reducible refine foot_pendClear rfl ?_ ..
    | with_reducible refine foot_setFld (blk_SAFE_CMDSTAT_RESULT ..) rfl ?_ ..
    | with_reducible apply Foot.ite
    | split
    | dsimp only

theorem foot_execBhtStart {m : Nat} {z t : State} (hs : 0x80000000a0000 ||| m = m) (h : Foot m z t) (a0 : _) (a1 : _) (a2 : _) :
    OutFoot m z (execBhtStart a0 a1 a2 t) := by
  refine OutFoot.step (m := 0x80000000a0000) ?_ hs h
  clear h hs
  have h := Foot.refl 0x80000000a0000 t
  unfold execBhtStart
  repeat' first
    | with_reducible assumption
    | (intro x; first | clear_value x | skip)
    | lift_lets
    | with_reducible refine foot_safeCmd rfl ?_ ..
    | with_reducible refine OutFoot.next ?_
    | split
    | dsimp only

theorem foot_execBhtAbort {m : Nat} {z t : State} (hs : 0x80000000a0000 ||| m = m) (h : Foot m z t) (a0 : _) (a1 : _) (a2 : _) :
    OutFoot m z (execBhtAbort a0 a1 a2 t) := by
  refine OutFoot.step (m := 0x80000000a0000) ?_ hs h
  clear h hs
  have h := Foot.refl 0x80000000a0000 t
  unfold execBhtAbort
  repeat' first
    | with_reducible assumption
    | (intro x; first | clear_value x | skip)
    | lift_lets
    | with_reducible refine foot_safeCmd rfl ?_ ..
    | with_reducible refine OutFoot.next ?_
    | split
    | dsimp only

theorem foot_execPendClear {m : Nat} {z t : State} (hs : 0x80000000a0000 ||| m = m) (h : Foot m z t) (a0 : _) (a1 : _) (a2 : _) :
    OutFoot m z (execPendClear a0 a1 a2 t) := by
  refine OutFoot.step (m := 0x80000000a0000) ?_ hs h
  clear h hs
  have h := Foot.refl 0x80000000a0000 t
  unfold execPendClear
  repeat' first
    | with_reducible assumption
    | (intro x; first | clear_value x | skip)
    | lift_lets
    | with_reducible refine foot_safeCmd rfl ?_ ..
    | with_reducible refine OutFoot.next ?_
    | split
    | dsimp only

theorem foot_execBhtPhaseEnd {m : Nat} {z t : State} (hs : 0x80000000a0080 ||| m = m) (h : Foot m z t) :
    OutFoot m z (execBhtPhaseEnd t) := by
  refine OutFoot.step (m := 0x80000000a0080) ?_ hs h
  clear h hs
  have h := Foot.refl 0x80000000a0080 t
  unfold execBhtPhaseEnd
  repeat' first
    | with_reducible assumption
    | (intro x; first | (refine Foot.cut (P := Foot 0x80000000a0080 t x) ?_ ?_; rotate_left; subst x; rotate_left; intro hx; clear_value x) | clear_value x | skip)
    | lift_lets
    | with_reducible refine foot_modSbc rfl ?_ ..
    | with_reducible refine foot_endCond rfl ?_ ..
    | with_reducible refine foot_bhtEnd rfl ?_ ..
    | with_reducible refine foot_setFbit (blk_SAFE_BHT_BHT_DUE ..) rfl ?_ ..
    | with_reducible refine foot_setFbit (blk_SAFE_BHT_BRK_FAIL ..) rfl ?_ ..
    | with_reducible apply Foot.ite
    | with_reducible refine OutFoot.next ?_
    | ((with_reducible refine Foot.lit ?_ rfl rfl ?_ ?_ ?_ ?_ ?_ ?_); rotate_left; rfl; rfl; rfl; rfl; (first | exact Nat.le_refl _ | exact Nat.le_succ _); (constructor <;> first | with_reducible exact Kept.same | exact Kept.masked rfl); (first | with_reducible assumption | with_reducible refine foot_modSbc rfl ?_ .. | with_reducible refine foot_endCond rfl ?_ .. | with_reducible refine foot_bhtEnd rfl ?_ .. | with_reducible refine foot_setFbit (blk_SAFE_BHT_BHT_DUE ..) rfl ?_ .. | with_reducible refine foot_setFbit (blk_SAFE_BHT_BRK_FAIL ..) rfl ?_ .. | with_reducible apply Foot.ite | with_reducible refine OutFoot.next ?_))
    | split
    | dsimp only

theorem foot_execBhtDueExpiry {m : Nat} {z t : State} (hs : 0x72280100a4ea4f80 ||| m = m) (h : Foot m z t) (a0 : _) :
    OutFoot m z (execBhtDueExpiry a0 t) := by
  refine OutFoot.step (m := 0x72280100a4ea4f80) ?_ hs h
  clear h hs
  have h := Foot.refl 0x72280100a4ea4f80 t
  unfold execBhtDueExpiry
  repeat' first
    | with_reducible assumption
    | (intro x; first | clear_value x | skip)
    | lift_lets
    | with_reducible refine foot_raiseCond rfl ?_ ..
    | with_reducible refine foot_setFbit (blk_SAFE_BHT_BHT_DUE ..) rfl ?_ ..
    | with_reducible apply Foot.ite
    | with_reducible refine OutFoot.next ?_
    | split
    | dsimp only

theorem foot_execBhtGraceExpiry {m : Nat} {z t : State} (hs : 0x20000 ||| m = m) (h : Foot m z t) (a0 : _) :
    OutFoot m z (execBhtGraceExpiry a0 t) := by
  refine OutFoot.step (m := 0x20000) ?_ hs h
  clear h hs
  have h := Foot.refl 0x20000 t
  unfold execBhtGraceExpiry
  repeat' first
    | with_reducible assumption
    | (intro x; first | clear_value x | skip)
    | lift_lets
    | with_reducible refine foot_modSbc rfl ?_ ..
    | with_reducible apply Foot.ite
    | with_reducible refine OutFoot.next ?_
    | split
    | dsimp only

end Sys2Proof.Machine
end

