-- ==== Sys2Proof/Laws/FootBus.lean ====
section
/-!
SUPPORT. Footprints of the operations of Machine/Bus.lean.
-/

set_option Elab.async false

set_option linter.all false

set_option maxRecDepth 4000

namespace Sys2Proof.Machine

theorem foot_writeSys {m : Nat} {z t : State} (hs : 0xffffff24e4eb7f88 ||| m = m) (h : Foot m z t) (a0 : _) (a1 : _) (a2 : _) :
    Foot m z (State.writeSys a0 a1 a2 t) := by
  refine Foot.step (m := 0xffffff24e4eb7f88) ?_ hs h
  clear h hs
  have h := Foot.refl 0xffffff24e4eb7f88 t
  unfold State.writeSys
  repeat' first
    | with_reducible assumption
    | (intro x; first | clear_value x | skip)
    | lift_lets
    | with_reducible refine foot_forceCmd rfl ?_ ..
    | with_reducible refine foot_taskCmd rfl ?_ ..
    | with_reducible refine foot_exchCmd rfl ?_ ..
    | with_reducible refine foot_sysCmd rfl ?_ ..
    | with_reducible refine foot_plainAll rfl ?_ ..
    | with_reducible apply Foot.ite
    | split
    | dsimp only

theorem foot_writeClk {m : Nat} {z t : State} (hs : 0xffffff00a4fa4f80 ||| m = m) (h : Foot m z t) (a0 : _) (a1 : _) :
    Foot m z (State.writeClk a0 a1 t) := by
  refine Foot.step (m := 0xffffff00a4fa4f80) ?_ hs h
  clear h hs
  have h := Foot.refl 0xffffff00a4fa4f80 t
  unfold State.writeClk
  repeat' first
    | with_reducible assumption
    | (intro x; first | clear_value x | skip)
    | lift_lets
    | with_reducible refine foot_chLgWrite rfl ?_ ..
    | with_reducible refine foot_lgCtrlWrite rfl ?_ ..
    | with_reducible refine foot_plainAll rfl ?_ ..
    | with_reducible apply Foot.ite
    | split
    | dsimp only

theorem foot_writeFlt {m : Nat} {z t : State} (hs : 0xffffff00a4ea4f80 ||| m = m) (h : Foot m z t) (a0 : _) (a1 : _) :
    Foot m z (State.writeFlt a0 a1 t) := by
  refine Foot.step (m := 0xffffff00a4ea4f80) ?_ hs h
  clear h hs
  have h := Foot.refl 0xffffff00a4ea4f80 t
  unfold State.writeFlt
  repeat' first
    | with_reducible assumption
    | (intro x; first | clear_value x | skip)
    | lift_lets
    | with_reducible refine foot_fltCfg0Write rfl ?_ ..
    | with_reducible refine foot_fltCmd rfl ?_ ..
    | with_reducible refine foot_fltCntWrite rfl ?_ ..
    | with_reducible refine foot_plainAll rfl ?_ ..
    | with_reducible apply Foot.ite
    | split
    | dsimp only

theorem foot_writeEvl {m : Nat} {z t : State} (hs : 0xffffff0000000300 ||| m = m) (h : Foot m z t) (a0 : _) (a1 : _) :
    Foot m z (State.writeEvl a0 a1 t) := by
  refine Foot.step (m := 0xffffff0000000300) ?_ hs h
  clear h hs
  have h := Foot.refl 0xffffff0000000300 t
  unfold State.writeEvl
  repeat' first
    | with_reducible assumption
    | (intro x; first | clear_value x | skip)
    | lift_lets
    | with_reducible refine foot_vaultCmd rfl ?_ ..
    | with_reducible refine foot_evlSelect rfl ?_ ..
    | with_reducible refine foot_evlCodeWrite rfl ?_ ..
    | with_reducible refine foot_evlDropWrite rfl ?_ ..
    | with_reducible refine foot_evlCmd rfl ?_ ..
    | with_reducible refine foot_plainAll rfl ?_ ..
    | with_reducible apply Foot.ite
    | ((with_reducible refine Foot.lit ?_ rfl rfl ?_ ?_ ?_ ?_ ?_ ?_); rotate_left; rfl; rfl; rfl; rfl; (first | exact Nat.le_refl _ | exact Nat.le_succ _); (constructor <;> first | with_reducible exact Kept.same | exact Kept.masked rfl); (first | with_reducible assumption | with_reducible refine foot_vaultCmd rfl ?_ .. | with_reducible refine foot_evlSelect rfl ?_ .. | with_reducible refine foot_evlCodeWrite rfl ?_ .. | with_reducible refine foot_evlDropWrite rfl ?_ .. | with_reducible refine foot_evlCmd rfl ?_ .. | with_reducible refine foot_plainAll rfl ?_ .. | with_reducible apply Foot.ite))
    | split
    | dsimp only

theorem foot_writeSched {m : Nat} {z t : State} (hs : 0xffffff0000000400 ||| m = m) (h : Foot m z t) (a0 : _) (a1 : _) :
    Foot m z (State.writeSched a0 a1 t) := by
  refine Foot.step (m := 0xffffff0000000400) ?_ hs h
  clear h hs
  have h := Foot.refl 0xffffff0000000400 t
  unfold State.writeSched
  repeat' first
    | with_reducible assumption
    | (intro x; first | clear_value x | skip)
    | lift_lets
    | with_reducible refine foot_grpAck rfl ?_ ..
    | with_reducible refine foot_plainAll rfl ?_ ..
    | with_reducible apply Foot.ite
    | split
    | dsimp only

theorem foot_writeTime {m : Nat} {z t : State} (hs : 0xffffff20a4ea4fc0 ||| m = m) (h : Foot m z t) (a0 : _) (a1 : _) :
    Foot m z (State.writeTime a0 a1 t) := by
  refine Foot.step (m := 0xffffff20a4ea4fc0) ?_ hs h
  clear h hs
  have h := Foot.refl 0xffffff20a4ea4fc0 t
  unfold State.writeTime
  repeat' first
    | with_reducible assumption
    | (intro x; first | clear_value x | skip)
    | lift_lets
    | with_reducible refine foot_domCfgWrite rfl ?_ ..
    | with_reducible refine foot_timeCmd rfl ?_ ..
    | with_reducible refine foot_tsoCfgWrite rfl ?_ ..
    | with_reducible refine foot_timeCtrlWrite rfl ?_ ..
    | with_reducible refine foot_timeSelWrite rfl ?_ ..
    | with_reducible refine foot_domStage rfl ?_ ..
    | with_reducible refine foot_domUpdWrite rfl ?_ ..
    | with_reducible refine foot_plainAll rfl ?_ ..
    | with_reducible apply Foot.ite
    | split
    | dsimp only

theorem foot_writeIlm {m : Nat} {z t : State} (hs : 0xffffff00a6ea4f80 ||| m = m) (h : Foot m z t) (a0 : _) (a1 : _) :
    Foot m z (State.writeIlm a0 a1 t) := by
  refine Foot.step (m := 0xffffff00a6ea4f80) ?_ hs h
  clear h hs
  have h := Foot.refl 0xffffff00a6ea4f80 t
  unfold State.writeIlm
  repeat' first
    | with_reducible assumption
    | (intro x; first | clear_value x | skip)
    | lift_lets
    | with_reducible refine foot_ilmCmd rfl ?_ ..
    | with_reducible refine foot_ilmTermWrite rfl ?_ ..
    | with_reducible refine foot_plainAll rfl ?_ ..
    | with_reducible apply Foot.ite
    | split
    | dsimp only

theorem foot_writeSafe {m : Nat} {z t : State} (hs : 0xffffff00a6ea4f80 ||| m = m) (h : Foot m z t) (a0 : _) (a1 : _) :
    Foot m z (State.writeSafe a0 a1 t) := by
  refine Foot.step (m := 0xffffff00a6ea4f80) ?_ hs h
  clear h hs
  have h := Foot.refl 0xffffff00a6ea4f80 t
  unfold State.writeSafe
  repeat' first
    | with_reducible assumption
    | (intro x; first | clear_value x | skip)
    | lift_lets
    | with_reducible refine foot_safeConfirm rfl ?_ ..
    | with_reducible refine foot_safeReqWrite rfl ?_ ..
    | with_reducible refine foot_pendWrite rfl ?_ ..
    | with_reducible refine foot_safeCmd rfl ?_ ..
    | with_reducible refine foot_plainAll rfl ?_ ..
    | with_reducible apply Foot.ite
    | split
    | dsimp only

theorem foot_writeRec {m : Nat} {z t : State} (hs : 0xffffff32e4ea4f80 ||| m = m) (h : Foot m z t) (a0 : _) (a1 : _) :
    Foot m z (State.writeRec a0 a1 t) := by
  refine Foot.step (m := 0xffffff32e4ea4f80) ?_ hs h
  clear h hs
  have h := Foot.refl 0xffffff32e4ea4f80 t
  unfold State.writeRec
  repeat' first
    | with_reducible assumption
    | (intro x; first | clear_value x | skip)
    | lift_lets
    | with_reducible refine foot_unitCmd rfl ?_ ..
    | with_reducible refine foot_recWrite rfl ?_ ..
    | with_reducible refine foot_ssrcWrite rfl ?_ ..
    | with_reducible refine foot_scfgWrite rfl ?_ ..
    | with_reducible refine foot_unitCfgWrite rfl ?_ ..
    | with_reducible apply Foot.ite
    | split
    | dsimp only

theorem foot_writeRcp {m : Nat} {z t : State} (hs : 0xffffff0020000000 ||| m = m) (h : Foot m z t) (a0 : _) (a1 : _) :
    Foot m z (State.writeRcp a0 a1 t) := by
  refine Foot.step (m := 0xffffff0020000000) ?_ hs h
  clear h hs
  have h := Foot.refl 0xffffff0020000000 t
  unfold State.writeRcp
  repeat' first
    | with_reducible assumption
    | (intro x; first | clear_value x | skip)
    | lift_lets
    | with_reducible refine foot_rsCfgWrite rfl ?_ ..
    | with_reducible refine foot_rcpCmd rfl ?_ ..
    | with_reducible refine foot_plainAll rfl ?_ ..
    | with_reducible apply Foot.ite
    | split
    | dsimp only

theorem foot_writeCan {m : Nat} {z t : State} (hs : 0xffffff20a4ea4f80 ||| m = m) (h : Foot m z t) (a0 : _) (a1 : _) :
    Foot m z (State.writeCan a0 a1 t) := by
  refine Foot.step (m := 0xffffff20a4ea4f80) ?_ hs h
  clear h hs
  have h := Foot.refl 0xffffff20a4ea4f80 t
  unfold State.writeCan
  repeat' first
    | with_reducible assumption
    | (intro x; first | clear_value x | skip)
    | lift_lets
    | with_reducible refine foot_canCmd rfl ?_ ..
    | with_reducible refine foot_canCtrlWrite rfl ?_ ..
    | with_reducible refine foot_objStatWrite rfl ?_ ..
    | with_reducible refine foot_fifoPtrWrite rfl ?_ ..
    | with_reducible refine foot_hpstatWrite rfl ?_ ..
    | with_reducible refine foot_plainAll rfl ?_ ..
    | with_reducible apply Foot.ite
    | split
    | dsimp only

theorem foot_writeSl {m : Nat} {z t : State} (hs : 0xffffff28a4ea4f80 ||| m = m) (h : Foot m z t) (a0 : _) (a1 : _) :
    Foot m z (State.writeSl a0 a1 t) := by
  refine Foot.step (m := 0xffffff28a4ea4f80) ?_ hs h
  clear h hs
  have h := Foot.refl 0xffffff28a4ea4f80 t
  unfold State.writeSl
  repeat' first
    | with_reducible assumption
    | (intro x; first | clear_value x | skip)
    | lift_lets
    | with_reducible refine foot_slCtrlWrite rfl ?_ ..
    | with_reducible refine foot_mbxRequest rfl ?_ ..
    | with_reducible refine foot_plainAll rfl ?_ ..
    | with_reducible apply Foot.ite
    | split
    | dsimp only

theorem foot_writeLe {m : Nat} {z t : State} (hs : 0xffffff10b4ea4f88 ||| m = m) (h : Foot m z t) (a0 : _) (a1 : _) :
    Foot m z (State.writeLe a0 a1 t) := by
  refine Foot.step (m := 0xffffff10b4ea4f88) ?_ hs h
  clear h hs
  have h := Foot.refl 0xffffff10b4ea4f88 t
  unfold State.writeLe
  repeat' first
    | with_reducible assumption
    | (intro x; first | clear_value x | skip)
    | lift_lets
    | with_reducible refine foot_slotCfgWrite rfl ?_ ..
    | with_reducible refine foot_impCfgWrite rfl ?_ ..
    | with_reducible refine foot_palGrpWrite rfl ?_ ..
    | with_reducible refine foot_palReqWrite rfl ?_ ..
    | with_reducible refine foot_plainAll rfl ?_ ..
    | with_reducible apply Foot.ite
    | split
    | dsimp only

theorem foot_writeMot {m : Nat} {z t : State} (hs : 0xffffff00a4ea4f80 ||| m = m) (h : Foot m z t) (a0 : _) (a1 : _) :
    Foot m z (State.writeMot a0 a1 t) := by
  refine Foot.step (m := 0xffffff00a4ea4f80) ?_ hs h
  clear h hs
  have h := Foot.refl 0xffffff00a4ea4f80 t
  unfold State.writeMot
  repeat' first
    | with_reducible assumption
    | (intro x; first | clear_value x | skip)
    | lift_lets
    | with_reducible refine foot_axCfgWrite rfl ?_ ..
    | with_reducible refine foot_axStatWrite rfl ?_ ..
    | with_reducible refine foot_axParamWrite rfl ?_ ..
    | with_reducible refine foot_axCmd rfl ?_ ..
    | with_reducible refine foot_axSrvWrite rfl ?_ ..
    | with_reducible refine foot_plainAll rfl ?_ ..
    | with_reducible apply Foot.ite
    | split
    | dsimp only

theorem foot_writeDie {m : Nat} {z t : State} (hs : 0xffffff00a7fa4f98 ||| m = m) (h : Foot m z t) (a0 : _) (a1 : _) (a2 : _) :
    Foot m z (State.writeDie a0 a1 a2 t) := by
  refine Foot.step (m := 0xffffff00a7fa4f98) ?_ hs h
  clear h hs
  have h := Foot.refl 0xffffff00a7fa4f98 t
  unfold State.writeDie
  repeat' first
    | with_reducible assumption
    | (intro x; first | clear_value x | skip)
    | lift_lets
    | with_reducible refine foot_chCfgWrite rfl ?_ ..
    | with_reducible refine foot_clCtrlWrite rfl ?_ ..
    | with_reducible refine foot_dieCmd rfl ?_ ..
    | with_reducible refine foot_winCfgWrite rfl ?_ ..
    | with_reducible refine foot_fioCfgWrite rfl ?_ ..
    | with_reducible refine foot_rgCtrlWrite rfl ?_ ..
    | with_reducible refine foot_aoutCfgWrite rfl ?_ ..
    | with_reducible refine foot_staleDie rfl ?_ ..
    | with_reducible refine foot_maxactWrite rfl ?_ ..
    | with_reducible refine foot_plainAll rfl ?_ ..
    | with_reducible apply Foot.ite
    | split
    | dsimp only

theorem foot_writeBlock {m : Nat} {z t : State} (hs : 0xffffff3ef7fb7fd8 ||| m = m) (h : Foot m z t) (a0 : _) (a1 : _) (a2 : _) :
    Foot m z (State.writeBlock a0 a1 a2 t) := by
  refine Foot.step (m := 0xffffff3ef7fb7fd8) ?_ hs h
  clear h hs
  have h := Foot.refl 0xffffff3ef7fb7fd8 t
  unfold State.writeBlock
  repeat' first
    | with_reducible assumption
    | (intro x; first | clear_value x | skip)
    | lift_lets
    | with_reducible refine foot_writeIlm rfl ?_ ..
    | with_reducible refine foot_writeSl rfl ?_ ..
    | with_reducible refine foot_writeSched rfl ?_ ..
    | with_reducible refine foot_jnlCtrlWrite rfl ?_ ..
    | with_reducible refine foot_writeRec rfl ?_ ..
    | with_reducible refine foot_pcieCmd rfl ?_ ..
    | with_reducible refine foot_writeFlt rfl ?_ ..
    | with_reducible refine foot_writeMot rfl ?_ ..
    | with_reducible refine foot_writeDie rfl ?_ ..
    | with_reducible refine foot_writeEvl rfl ?_ ..
    | with_reducible refine foot_writeSafe rfl ?_ ..
    | with_reducible refine foot_writeRcp rfl ?_ ..
    | with_reducible refine foot_writeCan rfl ?_ ..
    | with_reducible refine foot_secCmd rfl ?_ ..
    | with_reducible refine foot_writeLe rfl ?_ ..
    | with_reducible refine foot_writeSys rfl ?_ ..
    | with_reducible refine foot_writeTime rfl ?_ ..
    | with_reducible refine foot_writeClk rfl ?_ ..
    | with_reducible refine foot_plainAll rfl ?_ ..
    | with_reducible apply Foot.ite
    | split
    | dsimp only

theorem foot_dieCleared {m : Nat} {z t : State} (hs : 0x72280100a4ea4f80 ||| m = m) (h : Foot m z t) (a0 : _) :
    Foot m z (State.dieCleared a0 t) := by
  refine Foot.step (m := 0x72280100a4ea4f80) ?_ hs h
  clear h hs
  have h := Foot.refl 0x72280100a4ea4f80 t
  unfold State.dieCleared
  repeat' first
    | with_reducible assumption
    | (intro x; first
        | (refine Foot.cut (P := Foot 0x72280100a4ea4f80 t x) ?_ ?_; rotate_left; subst x; rotate_left; intro hx; clear_value x)
        | (refine Foot.cut (P := PairFoot 0x72280100a4ea4f80 t x) ?_ ?_; rotate_left; subst x; rotate_left; intro hx; clear_value x)
        | (refine Foot.cut (P := OptFoot 0x72280100a4ea4f80 t x) ?_ ?_; rotate_left; subst x; rotate_left; intro hx; clear_value x)
        | (have hf := x.programmed; clear hf)
        | clear_value x
        | skip)
    | lift_lets
    | with_reducible refine foot_modChan rfl ?_ ..
    | with_reducible refine foot_regionRefresh rfl ?_ ..
    | with_reducible refine foot_staleDie rfl ?_ ..
    | with_reducible refine Foot.forN (fun _ _ _ => ?_) ?_
    | with_reducible refine Foot.foldl (fun _ _ _ => ?_) ?_
    | with_reducible refine PairFoot.foldl (fun _ _ _ => ?_) ?_
    | with_reducible apply Foot.ite
    | with_reducible apply PairFoot.ite
    | with_reducible apply OptFoot.ite
    | with_reducible apply OutFoot.ite
    | with_reducible apply ExFoot.ite
    | with_reducible exact ExFoot.error
    | with_reducible refine ExFoot.ok ?_
    | with_reducible refine PairFoot.forL (fun _ _ _ => ?_) ?_
    | with_reducible refine PairFoot.forN (fun _ _ _ => ?_) ?_
    | with_reducible refine OptFoot.some ?_
    | with_reducible exact OptFoot.none
    | with_reducible refine OutFoot.next ?_
    | with_reducible refine OptFoot.getD ?_ ?_
    | with_reducible refine PairFoot.snd ?_
    | with_reducible exact PairFoot.out (by assumption)
    | with_reducible refine PairFoot.eq (by assumption) ?_
    | with_reducible refine OptFoot.eq (by assumption) ?_
    | with_reducible refine ExFoot.eq (by assumption) ?_
    | ((with_reducible refine Foot.lit ?_ rfl rfl ?_ ?_ ?_ ?_ ?_ ?_); rotate_left; rfl; rfl; rfl; rfl; (first | exact Nat.le_refl _ | exact Nat.le_succ _); (constructor <;> first | with_reducible exact Kept.same | exact Kept.masked rfl); (first | with_reducible assumption | with_reducible refine foot_modChan rfl ?_ .. | with_reducible refine foot_regionRefresh rfl ?_ .. | with_reducible refine foot_staleDie rfl ?_ .. | with_reducible refine Foot.forN (fun _ _ _ => ?_) ?_ | with_reducible refine Foot.foldl (fun _ _ _ => ?_) ?_ | with_reducible refine PairFoot.foldl (fun _ _ _ => ?_) ?_ | with_reducible apply Foot.ite | with_reducible apply PairFoot.ite | with_reducible apply OptFoot.ite | with_reducible apply OutFoot.ite | with_reducible apply ExFoot.ite | with_reducible exact ExFoot.error | with_reducible refine ExFoot.ok ?_ | with_reducible refine PairFoot.forL (fun _ _ _ => ?_) ?_ | with_reducible refine PairFoot.forN (fun _ _ _ => ?_) ?_ | with_reducible refine OptFoot.some ?_ | with_reducible exact OptFoot.none | with_reducible refine OutFoot.next ?_ | with_reducible refine OptFoot.getD ?_ ?_ | with_reducible refine PairFoot.snd ?_))
    | split
    | with_reducible refine PairFoot.mk ?_
    | dsimp only

theorem foot_withExpert {m : Nat} {z t : State} (hs : 0xffffff00a4ea4f80 ||| m = m) {a2 : _} (hf : ∀ t, Foot m z t → Foot m z (a2 t)) (h : Foot m z t) (a0 : _) (a1 : _) :
    Foot m z (State.withExpert a0 a1 a2 t) := by
  unfold State.withExpert
  repeat' first
    | with_reducible refine hf _ ?_
    | with_reducible assumption
    | (intro x; first | (refine Foot.cut (P := Foot m z x) ?_ ?_; rotate_left; subst x; rotate_left; intro hx; clear_value x) | clear_value x | skip)
    | lift_lets
    | with_reducible refine foot_clearExpert (mask_sub (b := 0xffffff00a4ea4f80) rfl hs) ?_ ..
    | with_reducible refine foot_dieCleared (mask_sub (b := 0xffffff00a4ea4f80) rfl hs) ?_ ..
    | with_reducible refine foot_setRegAll (mask_sub (b := 0xffffff00a4ea4f80) rfl hs) ?_ ..
    | with_reducible apply Foot.ite
    | split
    | dsimp only

theorem foot_regWrite {m : Nat} {z t : State} (hs : 0xffffff3ef7fb7fd8 ||| m = m) (h : Foot m z t) (a0 : _) (a1 : _) (a2 : _) :
    Foot m z (State.regWrite a0 a1 a2 t) := by
  refine Foot.step (m := 0xffffff3ef7fb7fd8) ?_ hs h
  clear h hs
  have h := Foot.refl 0xffffff3ef7fb7fd8 t
  unfold State.regWrite
  repeat' first
    | with_reducible assumption
    | (intro x; first | clear_value x | skip)
    | lift_lets
    | with_reducible refine foot_writeBlock rfl ?_ ..
    | with_reducible refine foot_withExpert rfl (fun _ _ => ?_) ?_ ..
    | with_reducible refine foot_raise rfl ?_ ..
    | with_reducible apply Foot.ite
    | split
    | dsimp only

theorem foot_busWrite {m : Nat} {z t : State} (hs : 0xffffff3ef7fb7fd8 ||| m = m) (h : Foot m z t) (a0 : _) (a1 : _) (a2 : _) (a3 : _) :
    Foot m z (State.busWrite a0 a1 a2 a3 t) := by
  refine Foot.step (m := 0xffffff3ef7fb7fd8) ?_ hs h
  clear h hs
  have h := Foot.refl 0xffffff3ef7fb7fd8 t
  unfold State.busWrite
  repeat' first
    | with_reducible assumption
    | (intro x; first | clear_value x | skip)
    | lift_lets
    | with_reducible refine foot_regWrite rfl ?_ ..
    | with_reducible refine foot_raise rfl ?_ ..
    | with_reducible refine foot_injDone rfl ?_ ..
    | with_reducible apply Foot.ite
    | split
    | dsimp only

theorem foot_busRead {m : Nat} {z t : State} (hs : 0x7a280100a4ea4f90 ||| m = m) (h : Foot m z t) (a0 : _) :
    PairFoot m z (State.busRead a0 t) := by
  refine PairFoot.step (m := 0x7a280100a4ea4f90) ?_ hs h
  clear h hs
  have h := Foot.refl 0x7a280100a4ea4f90 t
  unfold State.busRead
  repeat' first
    | with_reducible assumption
    | (intro x; first | clear_value x | skip)
    | lift_lets
    | with_reducible refine foot_draw rfl ?_ ..
    | with_reducible refine foot_leRead rfl ?_ ..
    | with_reducible refine foot_raise rfl ?_ ..
    | with_reducible apply PairFoot.ite
    | with_reducible refine PairFoot.eq (by assumption) ?_
    | split
    | with_reducible refine PairFoot.mk ?_
    | dsimp only

theorem foot_execRegisterWrite {m : Nat} {z t : State} (hs : 0xffffff3ef7fb7fd8 ||| m = m) (h : Foot m z t) (a0 : _) (a1 : _) (a2 : _) (a3 : _) (a4 : _) :
    OutFoot m z (execRegisterWrite a0 a1 a2 a3 a4 t) := by
  refine OutFoot.step (m := 0xffffff3ef7fb7fd8) ?_ hs h
  clear h hs
  have h := Foot.refl 0xffffff3ef7fb7fd8 t
  unfold execRegisterWrite
  repeat' first
    | with_reducible assumption
    | (intro x; first | clear_value x | skip)
    | lift_lets
    | with_reducible refine foot_busWrite rfl ?_ ..
    | with_reducible refine foot_raise rfl ?_ ..
    | with_reducible apply Foot.ite
    | with_reducible refine OutFoot.next ?_
    | split
    | dsimp only

theorem foot_execExpertEnWrite {m : Nat} {z t : State} (hs : 0xffffff3ef7fb7fd8 ||| m = m) (h : Foot m z t) (a0 : _) (a1 : _) (a2 : _) :
    OutFoot m z (execExpertEnWrite a0 a1 a2 t) := by
  refine OutFoot.step (m := 0xffffff3ef7fb7fd8) ?_ hs h
  clear h hs
  have h := Foot.refl 0xffffff3ef7fb7fd8 t
  unfold execExpertEnWrite
  repeat' first
    | with_reducible assumption
    | (intro x; first | clear_value x | skip)
    | lift_lets
    | with_reducible refine foot_busWrite rfl ?_ ..
    | with_reducible refine OutFoot.next ?_
    | split
    | dsimp only

theorem foot_execLinkStart {m : Nat} {z t : State} (hs : 0xffffff28a4ea4f80 ||| m = m) (h : Foot m z t) (a0 : _) (a1 : _) (a2 : _) :
    OutFoot m z (execLinkStart a0 a1 a2 t) := by
  refine OutFoot.step (m := 0xffffff28a4ea4f80) ?_ hs h
  clear h hs
  have h := Foot.refl 0xffffff28a4ea4f80 t
  unfold execLinkStart
  repeat' first
    | with_reducible assumption
    | (intro x; first | clear_value x | skip)
    | lift_lets
    | with_reducible refine foot_slCtrlWrite rfl ?_ ..
    | with_reducible refine foot_withExpert rfl (fun _ _ => ?_) ?_ ..
    | with_reducible refine OutFoot.next ?_
    | split
    | dsimp only

theorem foot_execOpmodeWrite {m : Nat} {z t : State} (hs : 0xffffff00a4ea4f80 ||| m = m) (h : Foot m z t) (a0 : _) (a1 : _) (a2 : _) :
    OutFoot m z (execOpmodeWrite a0 a1 a2 t) := by
  refine OutFoot.step (m := 0xffffff00a4ea4f80) ?_ hs h
  clear h hs
  have h := Foot.refl 0xffffff00a4ea4f80 t
  unfold execOpmodeWrite
  repeat' first
    | with_reducible assumption
    | (intro x; first | clear_value x | skip)
    | lift_lets
    | with_reducible refine foot_withExpert rfl (fun _ _ => ?_) ?_ ..
    | with_reducible refine foot_canCtrlWrite rfl ?_ ..
    | with_reducible refine OutFoot.next ?_
    | split
    | dsimp only

theorem foot_execJnlEnWrite {m : Nat} {z t : State} (hs : 0xffffff00a4ea6f80 ||| m = m) (h : Foot m z t) (a0 : _) (a1 : _) :
    OutFoot m z (execJnlEnWrite a0 a1 t) := by
  refine OutFoot.step (m := 0xffffff00a4ea6f80) ?_ hs h
  clear h hs
  have h := Foot.refl 0xffffff00a4ea6f80 t
  unfold execJnlEnWrite
  repeat' first
    | with_reducible assumption
    | (intro x; first | clear_value x | skip)
    | lift_lets
    | with_reducible refine foot_withExpert rfl (fun _ _ => ?_) ?_ ..
    | with_reducible refine foot_jnlCtrlWrite rfl ?_ ..
    | with_reducible refine OutFoot.next ?_
    | split
    | dsimp only

theorem foot_execLpddrRangeAccess {m : Nat} {z t : State} (hs : 0x72280100a4ea4fa0 ||| m = m) (h : Foot m z t) (a0 : _) (a1 : _) :
    OutFoot m z (execLpddrRangeAccess a0 a1 t) := by
  refine OutFoot.step (m := 0x72280100a4ea4fa0) ?_ hs h
  clear h hs
  have h := Foot.refl 0x72280100a4ea4fa0 t
  unfold execLpddrRangeAccess
  repeat' first
    | with_reducible assumption
    | (intro x; first | (refine Foot.cut (P := Foot 0x72280100a4ea4fa0 t x) ?_ ?_; rotate_left; subst x; rotate_left; intro hx; clear_value x) | clear_value x | skip)
    | lift_lets
    | with_reducible refine foot_raise rfl ?_ ..
    | with_reducible apply Foot.ite
    | with_reducible refine OutFoot.next ?_
    | ((with_reducible refine Foot.lit ?_ rfl rfl ?_ ?_ ?_ ?_ ?_ ?_); rotate_left; rfl; rfl; rfl; rfl; (first | exact Nat.le_refl _ | exact Nat.le_succ _); (constructor <;> first | with_reducible exact Kept.same | exact Kept.masked rfl); (first | with_reducible assumption | with_reducible refine foot_raise rfl ?_ .. | with_reducible apply Foot.ite | with_reducible refine OutFoot.next ?_))
    | split
    | dsimp only

theorem foot_execUnmappedAccess {m : Nat} {z t : State} (hs : 0x72280100a4ea4fa0 ||| m = m) (h : Foot m z t) (a0 : _) (a1 : _) :
    OutFoot m z (execUnmappedAccess a0 a1 t) := by
  refine OutFoot.step (m := 0x72280100a4ea4fa0) ?_ hs h
  clear h hs
  have h := Foot.refl 0x72280100a4ea4fa0 t
  unfold execUnmappedAccess
  repeat' first
    | with_reducible assumption
    | (intro x; first | (refine Foot.cut (P := Foot 0x72280100a4ea4fa0 t x) ?_ ?_; rotate_left; subst x; rotate_left; intro hx; clear_value x) | clear_value x | skip)
    | lift_lets
    | with_reducible refine foot_raise rfl ?_ ..
    | with_reducible apply Foot.ite
    | with_reducible refine OutFoot.next ?_
    | ((with_reducible refine Foot.lit ?_ rfl rfl ?_ ?_ ?_ ?_ ?_ ?_); rotate_left; rfl; rfl; rfl; rfl; (first | exact Nat.le_refl _ | exact Nat.le_succ _); (constructor <;> first | with_reducible exact Kept.same | exact Kept.masked rfl); (first | with_reducible assumption | with_reducible refine foot_raise rfl ?_ .. | with_reducible apply Foot.ite | with_reducible refine OutFoot.next ?_))
    | split
    | dsimp only

theorem foot_execFdWindowAccessComplete {m : Nat} {z t : State} (hs : 0xffffff3ef7fb7ff8 ||| m = m) (h : Foot m z t) (a0 : _) (a1 : _) (a2 : _) (a3 : _) (a4 : _) :
    OutFoot m z (execFdWindowAccessComplete a0 a1 a2 a3 a4 t) := by
  refine OutFoot.step (m := 0xffffff3ef7fb7ff8) ?_ hs h
  clear h hs
  have h := Foot.refl 0xffffff3ef7fb7ff8 t
  unfold execFdWindowAccessComplete
  repeat' first
    | with_reducible assumption
    | (intro x; first | clear_value x | skip)
    | lift_lets
    | with_reducible refine foot_busWrite rfl ?_ ..
    | with_reducible refine foot_busRead rfl ?_ ..
    | with_reducible apply Foot.ite
    | with_reducible refine OutFoot.next ?_
    | with_reducible refine PairFoot.snd ?_
    | ((with_reducible refine Foot.lit ?_ rfl rfl ?_ ?_ ?_ ?_ ?_ ?_); rotate_left; rfl; rfl; rfl; rfl; (first | exact Nat.le_refl _ | exact Nat.le_succ _); (constructor <;> first | with_reducible exact Kept.same | exact Kept.masked rfl); (first | with_reducible assumption | with_reducible refine foot_busWrite rfl ?_ .. | with_reducible refine foot_busRead rfl ?_ .. | with_reducible apply Foot.ite | with_reducible refine OutFoot.next ?_ | with_reducible refine PairFoot.snd ?_))
    | split
    | dsimp only

end Sys2Proof.Machine
end

