-- ==== Sys2Proof/Laws/FootCalhorn.lean ====
section
/-!
SUPPORT. Footprints of the operations of Machine/Calhorn.lean.
-/

set_option Elab.async false

set_option linter.all false

set_option maxRecDepth 4000

namespace Sys2Proof.Machine

theorem foot_alu {m : Nat} {z t : State} (hs : 0x72280100a4ef4f88 ||| m = m) (h : Foot m z t) (a0 : _) (a1 : _) (a2 : _) (a3 : _) (a4 : _) :
    Foot m z (State.alu a0 a1 a2 a3 a4 t) := by
  refine Foot.step (m := 0x72280100a4ef4f88) ?_ hs h
  clear h hs
  have h := Foot.refl 0x72280100a4ef4f88 t
  unfold State.alu
  repeat' first
    | with_reducible assumption
    | (intro x; first | clear_value x | skip)
    | lift_lets
    | with_reducible refine foot_simple rfl ?_ ..
    | split
    | dsimp only

theorem foot_aluSat {m : Nat} {z t : State} (hs : 0x72280100a4ef4f88 ||| m = m) (h : Foot m z t) (a0 : _) (a1 : _) (a2 : _) (a3 : _) (a4 : _) :
    Foot m z (State.aluSat a0 a1 a2 a3 a4 t) := by
  refine Foot.step (m := 0x72280100a4ef4f88) ?_ hs h
  clear h hs
  have h := Foot.refl 0x72280100a4ef4f88 t
  unfold State.aluSat
  repeat' first
    | with_reducible assumption
    | (intro x; first | clear_value x | skip)
    | lift_lets
    | with_reducible refine foot_simple rfl ?_ ..
    | split
    | dsimp only

theorem foot_aluDiv {m : Nat} {z t : State} (hs : 0x72280100a4ef4f88 ||| m = m) (h : Foot m z t) (a0 : _) (a1 : _) (a2 : _) (a3 : _) (a4 : _) (a5 : _) :
    Foot m z (State.aluDiv a0 a1 a2 a3 a4 a5 t) := by
  refine Foot.step (m := 0x72280100a4ef4f88) ?_ hs h
  clear h hs
  have h := Foot.refl 0x72280100a4ef4f88 t
  unfold State.aluDiv
  repeat' first
    | with_reducible assumption
    | (intro x; first | clear_value x | skip)
    | lift_lets
    | with_reducible refine foot_modCore rfl ?_ ..
    | with_reducible refine foot_exception rfl ?_ ..
    | with_reducible refine foot_instr rfl (fun _ _ _ => ?_) ?_ ..
    | with_reducible apply Foot.ite
    | split
    | dsimp only

theorem foot_aluMac {m : Nat} {z t : State} (hs : 0x72280100a4ef4f88 ||| m = m) (h : Foot m z t) (a0 : _) (a1 : _) (a2 : _) (a3 : _) (a4 : _) (a5 : _) (a6 : _) :
    Foot m z (State.aluMac a0 a1 a2 a3 a4 a5 a6 t) := by
  refine Foot.step (m := 0x72280100a4ef4f88) ?_ hs h
  clear h hs
  have h := Foot.refl 0x72280100a4ef4f88 t
  unfold State.aluMac
  repeat' first
    | with_reducible assumption
    | (intro x; first | clear_value x | skip)
    | lift_lets
    | with_reducible refine foot_pairInstr rfl ?_ ..
    | split
    | dsimp only

theorem foot_aluRnd {m : Nat} {z t : State} (hs : 0x72280100a4ef4f88 ||| m = m) (h : Foot m z t) (a0 : _) (a1 : _) (a2 : _) (a3 : _) (a4 : _) (a5 : _) :
    Foot m z (State.aluRnd a0 a1 a2 a3 a4 a5 t) := by
  refine Foot.step (m := 0x72280100a4ef4f88) ?_ hs h
  clear h hs
  have h := Foot.refl 0x72280100a4ef4f88 t
  unfold State.aluRnd
  repeat' first
    | with_reducible assumption
    | (intro x; first | clear_value x | skip)
    | lift_lets
    | with_reducible refine foot_pairInstr rfl ?_ ..
    | split
    | dsimp only

theorem foot_execAdd {m : Nat} {z t : State} (hs : 0x72280100a4ef4f88 ||| m = m) (h : Foot m z t) (a0 : _) (a1 : _) (a2 : _) (a3 : _) :
    OutFoot m z (execAdd a0 a1 a2 a3 t) := by
  refine OutFoot.step (m := 0x72280100a4ef4f88) ?_ hs h
  clear h hs
  have h := Foot.refl 0x72280100a4ef4f88 t
  unfold execAdd
  repeat' first
    | with_reducible assumption
    | (intro x; first | clear_value x | skip)
    | lift_lets
    | with_reducible refine foot_alu rfl ?_ ..
    | with_reducible refine OutFoot.next ?_
    | split
    | dsimp only

theorem foot_execSub {m : Nat} {z t : State} (hs : 0x72280100a4ef4f88 ||| m = m) (h : Foot m z t) (a0 : _) (a1 : _) (a2 : _) (a3 : _) :
    OutFoot m z (execSub a0 a1 a2 a3 t) := by
  refine OutFoot.step (m := 0x72280100a4ef4f88) ?_ hs h
  clear h hs
  have h := Foot.refl 0x72280100a4ef4f88 t
  unfold execSub
  repeat' first
    | with_reducible assumption
    | (intro x; first | clear_value x | skip)
    | lift_lets
    | with_reducible refine foot_alu rfl ?_ ..
    | with_reducible refine OutFoot.next ?_
    | split
    | dsimp only

theorem foot_execAnd {m : Nat} {z t : State} (hs : 0x72280100a4ef4f88 ||| m = m) (h : Foot m z t) (a0 : _) (a1 : _) (a2 : _) (a3 : _) :
    OutFoot m z (execAnd a0 a1 a2 a3 t) := by
  refine OutFoot.step (m := 0x72280100a4ef4f88) ?_ hs h
  clear h hs
  have h := Foot.refl 0x72280100a4ef4f88 t
  unfold execAnd
  repeat' first
    | with_reducible assumption
    | (intro x; first | clear_value x | skip)
    | lift_lets
    | with_reducible refine foot_alu rfl ?_ ..
    | with_reducible refine OutFoot.next ?_
    | split
    | dsimp only

theorem foot_execOr {m : Nat} {z t : State} (hs : 0x72280100a4ef4f88 ||| m = m) (h : Foot m z t) (a0 : _) (a1 : _) (a2 : _) (a3 : _) :
    OutFoot m z (execOr a0 a1 a2 a3 t) := by
  refine OutFoot.step (m := 0x72280100a4ef4f88) ?_ hs h
  clear h hs
  have h := Foot.refl 0x72280100a4ef4f88 t
  unfold execOr
  repeat' first
    | with_reducible assumption
    | (intro x; first | clear_value x | skip)
    | lift_lets
    | with_reducible refine foot_alu rfl ?_ ..
    | with_reducible refine OutFoot.next ?_
    | split
    | dsimp only

theorem foot_execXor {m : Nat} {z t : State} (hs : 0x72280100a4ef4f88 ||| m = m) (h : Foot m z t) (a0 : _) (a1 : _) (a2 : _) (a3 : _) :
    OutFoot m z (execXor a0 a1 a2 a3 t) := by
  refine OutFoot.step (m := 0x72280100a4ef4f88) ?_ hs h
  clear h hs
  have h := Foot.refl 0x72280100a4ef4f88 t
  unfold execXor
  repeat' first
    | with_reducible assumption
    | (intro x; first | clear_value x | skip)
    | lift_lets
    | with_reducible refine foot_alu rfl ?_ ..
    | with_reducible refine OutFoot.next ?_
    | split
    | dsimp only

theorem foot_execShl {m : Nat} {z t : State} (hs : 0x72280100a4ef4f88 ||| m = m) (h : Foot m z t) (a0 : _) (a1 : _) (a2 : _) (a3 : _) :
    OutFoot m z (execShl a0 a1 a2 a3 t) := by
  refine OutFoot.step (m := 0x72280100a4ef4f88) ?_ hs h
  clear h hs
  have h := Foot.refl 0x72280100a4ef4f88 t
  unfold execShl
  repeat' first
    | with_reducible assumption
    | (intro x; first | clear_value x | skip)
    | lift_lets
    | with_reducible refine foot_alu rfl ?_ ..
    | with_reducible refine OutFoot.next ?_
    | split
    | dsimp only

theorem foot_execShr {m : Nat} {z t : State} (hs : 0x72280100a4ef4f88 ||| m = m) (h : Foot m z t) (a0 : _) (a1 : _) (a2 : _) (a3 : _) :
    OutFoot m z (execShr a0 a1 a2 a3 t) := by
  refine OutFoot.step (m := 0x72280100a4ef4f88) ?_ hs h
  clear h hs
  have h := Foot.refl 0x72280100a4ef4f88 t
  unfold execShr
  repeat' first
    | with_reducible assumption
    | (intro x; first | clear_value x | skip)
    | lift_lets
    | with_reducible refine foot_alu rfl ?_ ..
    | with_reducible refine OutFoot.next ?_
    | split
    | dsimp only

theorem foot_execSra {m : Nat} {z t : State} (hs : 0x72280100a4ef4f88 ||| m = m) (h : Foot m z t) (a0 : _) (a1 : _) (a2 : _) (a3 : _) :
    OutFoot m z (execSra a0 a1 a2 a3 t) := by
  refine OutFoot.step (m := 0x72280100a4ef4f88) ?_ hs h
  clear h hs
  have h := Foot.refl 0x72280100a4ef4f88 t
  unfold execSra
  repeat' first
    | with_reducible assumption
    | (intro x; first | clear_value x | skip)
    | lift_lets
    | with_reducible refine foot_alu rfl ?_ ..
    | with_reducible refine OutFoot.next ?_
    | split
    | dsimp only

theorem foot_execSlt {m : Nat} {z t : State} (hs : 0x72280100a4ef4f88 ||| m = m) (h : Foot m z t) (a0 : _) (a1 : _) (a2 : _) (a3 : _) :
    OutFoot m z (execSlt a0 a1 a2 a3 t) := by
  refine OutFoot.step (m := 0x72280100a4ef4f88) ?_ hs h
  clear h hs
  have h := Foot.refl 0x72280100a4ef4f88 t
  unfold execSlt
  repeat' first
    | with_reducible assumption
    | (intro x; first | clear_value x | skip)
    | lift_lets
    | with_reducible refine foot_alu rfl ?_ ..
    | with_reducible refine OutFoot.next ?_
    | split
    | dsimp only

theorem foot_execSltu {m : Nat} {z t : State} (hs : 0x72280100a4ef4f88 ||| m = m) (h : Foot m z t) (a0 : _) (a1 : _) (a2 : _) (a3 : _) :
    OutFoot m z (execSltu a0 a1 a2 a3 t) := by
  refine OutFoot.step (m := 0x72280100a4ef4f88) ?_ hs h
  clear h hs
  have h := Foot.refl 0x72280100a4ef4f88 t
  unfold execSltu
  repeat' first
    | with_reducible assumption
    | (intro x; first | clear_value x | skip)
    | lift_lets
    | with_reducible refine foot_alu rfl ?_ ..
    | with_reducible refine OutFoot.next ?_
    | split
    | dsimp only

theorem foot_execMin {m : Nat} {z t : State} (hs : 0x72280100a4ef4f88 ||| m = m) (h : Foot m z t) (a0 : _) (a1 : _) (a2 : _) (a3 : _) :
    OutFoot m z (execMin a0 a1 a2 a3 t) := by
  refine OutFoot.step (m := 0x72280100a4ef4f88) ?_ hs h
  clear h hs
  have h := Foot.refl 0x72280100a4ef4f88 t
  unfold execMin
  repeat' first
    | with_reducible assumption
    | (intro x; first | clear_value x | skip)
    | lift_lets
    | with_reducible refine foot_alu rfl ?_ ..
    | with_reducible refine OutFoot.next ?_
    | split
    | dsimp only

theorem foot_execMax {m : Nat} {z t : State} (hs : 0x72280100a4ef4f88 ||| m = m) (h : Foot m z t) (a0 : _) (a1 : _) (a2 : _) (a3 : _) :
    OutFoot m z (execMax a0 a1 a2 a3 t) := by
  refine OutFoot.step (m := 0x72280100a4ef4f88) ?_ hs h
  clear h hs
  have h := Foot.refl 0x72280100a4ef4f88 t
  unfold execMax
  repeat' first
    | with_reducible assumption
    | (intro x; first | clear_value x | skip)
    | lift_lets
    | with_reducible refine foot_alu rfl ?_ ..
    | with_reducible refine OutFoot.next ?_
    | split
    | dsimp only

theorem foot_execAdds {m : Nat} {z t : State} (hs : 0x72280100a4ef4f88 ||| m = m) (h : Foot m z t) (a0 : _) (a1 : _) (a2 : _) (a3 : _) :
    OutFoot m z (execAdds a0 a1 a2 a3 t) := by
  refine OutFoot.step (m := 0x72280100a4ef4f88) ?_ hs h
  clear h hs
  have h := Foot.refl 0x72280100a4ef4f88 t
  unfold execAdds
  repeat' first
    | with_reducible assumption
    | (intro x; first | clear_value x | skip)
    | lift_lets
    | with_reducible refine foot_aluSat rfl ?_ ..
    | with_reducible refine OutFoot.next ?_
    | split
    | dsimp only

theorem foot_execSubs {m : Nat} {z t : State} (hs : 0x72280100a4ef4f88 ||| m = m) (h : Foot m z t) (a0 : _) (a1 : _) (a2 : _) (a3 : _) :
    OutFoot m z (execSubs a0 a1 a2 a3 t) := by
  refine OutFoot.step (m := 0x72280100a4ef4f88) ?_ hs h
  clear h hs
  have h := Foot.refl 0x72280100a4ef4f88 t
  unfold execSubs
  repeat' first
    | with_reducible assumption
    | (intro x; first | clear_value x | skip)
    | lift_lets
    | with_reducible refine foot_aluSat rfl ?_ ..
    | with_reducible refine OutFoot.next ?_
    | split
    | dsimp only

theorem foot_execCmp {m : Nat} {z t : State} (hs : 0x72280100a4ef4f88 ||| m = m) (h : Foot m z t) (a0 : _) (a1 : _) (a2 : _) :
    OutFoot m z (execCmp a0 a1 a2 t) := by
  refine OutFoot.step (m := 0x72280100a4ef4f88) ?_ hs h
  clear h hs
  have h := Foot.refl 0x72280100a4ef4f88 t
  unfold execCmp
  repeat' first
    | with_reducible assumption
    | (intro x; first | clear_value x | skip)
    | lift_lets
    | with_reducible refine foot_simple rfl ?_ ..
    | with_reducible refine OutFoot.next ?_
    | split
    | dsimp only

theorem foot_execTst {m : Nat} {z t : State} (hs : 0x72280100a4ef4f88 ||| m = m) (h : Foot m z t) (a0 : _) (a1 : _) (a2 : _) :
    OutFoot m z (execTst a0 a1 a2 t) := by
  refine OutFoot.step (m := 0x72280100a4ef4f88) ?_ hs h
  clear h hs
  have h := Foot.refl 0x72280100a4ef4f88 t
  unfold execTst
  repeat' first
    | with_reducible assumption
    | (intro x; first | clear_value x | skip)
    | lift_lets
    | with_reducible refine foot_simple rfl ?_ ..
    | with_reducible refine OutFoot.next ?_
    | split
    | dsimp only

theorem foot_execMul {m : Nat} {z t : State} (hs : 0x72280100a4ef4f88 ||| m = m) (h : Foot m z t) (a0 : _) (a1 : _) (a2 : _) (a3 : _) :
    OutFoot m z (execMul a0 a1 a2 a3 t) := by
  refine OutFoot.step (m := 0x72280100a4ef4f88) ?_ hs h
  clear h hs
  have h := Foot.refl 0x72280100a4ef4f88 t
  unfold execMul
  repeat' first
    | with_reducible assumption
    | (intro x; first | clear_value x | skip)
    | lift_lets
    | with_reducible refine foot_alu rfl ?_ ..
    | with_reducible refine OutFoot.next ?_
    | split
    | dsimp only

theorem foot_execMulh {m : Nat} {z t : State} (hs : 0x72280100a4ef4f88 ||| m = m) (h : Foot m z t) (a0 : _) (a1 : _) (a2 : _) (a3 : _) :
    OutFoot m z (execMulh a0 a1 a2 a3 t) := by
  refine OutFoot.step (m := 0x72280100a4ef4f88) ?_ hs h
  clear h hs
  have h := Foot.refl 0x72280100a4ef4f88 t
  unfold execMulh
  repeat' first
    | with_reducible assumption
    | (intro x; first | clear_value x | skip)
    | lift_lets
    | with_reducible refine foot_alu rfl ?_ ..
    | with_reducible refine OutFoot.next ?_
    | split
    | dsimp only

theorem foot_execMulhu {m : Nat} {z t : State} (hs : 0x72280100a4ef4f88 ||| m = m) (h : Foot m z t) (a0 : _) (a1 : _) (a2 : _) (a3 : _) :
    OutFoot m z (execMulhu a0 a1 a2 a3 t) := by
  refine OutFoot.step (m := 0x72280100a4ef4f88) ?_ hs h
  clear h hs
  have h := Foot.refl 0x72280100a4ef4f88 t
  unfold execMulhu
  repeat' first
    | with_reducible assumption
    | (intro x; first | clear_value x | skip)
    | lift_lets
    | with_reducible refine foot_alu rfl ?_ ..
    | with_reducible refine OutFoot.next ?_
    | split
    | dsimp only

theorem foot_execDiv {m : Nat} {z t : State} (hs : 0x72280100a4ef4f88 ||| m = m) (h : Foot m z t) (a0 : _) (a1 : _) (a2 : _) (a3 : _) :
    OutFoot m z (execDiv a0 a1 a2 a3 t) := by
  refine OutFoot.step (m := 0x72280100a4ef4f88) ?_ hs h
  clear h hs
  have h := Foot.refl 0x72280100a4ef4f88 t
  unfold execDiv
  repeat' first
    | with_reducible assumption
    | (intro x; first | clear_value x | skip)
    | lift_lets
    | with_reducible refine foot_aluDiv rfl ?_ ..
    | with_reducible refine OutFoot.next ?_
    | split
    | dsimp only

theorem foot_execDivu {m : Nat} {z t : State} (hs : 0x72280100a4ef4f88 ||| m = m) (h : Foot m z t) (a0 : _) (a1 : _) (a2 : _) (a3 : _) :
    OutFoot m z (execDivu a0 a1 a2 a3 t) := by
  refine OutFoot.step (m := 0x72280100a4ef4f88) ?_ hs h
  clear h hs
  have h := Foot.refl 0x72280100a4ef4f88 t
  unfold execDivu
  repeat' first
    | with_reducible assumption
    | (intro x; first | clear_value x | skip)
    | lift_lets
    | with_reducible refine foot_aluDiv rfl ?_ ..
    | with_reducible refine OutFoot.next ?_
    | split
    | dsimp only

theorem foot_execRem {m : Nat} {z t : State} (hs : 0x72280100a4ef4f88 ||| m = m) (h : Foot m z t) (a0 : _) (a1 : _) (a2 : _) (a3 : _) :
    OutFoot m z (execRem a0 a1 a2 a3 t) := by
  refine OutFoot.step (m := 0x72280100a4ef4f88) ?_ hs h
  clear h hs
  have h := Foot.refl 0x72280100a4ef4f88 t
  unfold execRem
  repeat' first
    | with_reducible assumption
    | (intro x; first | clear_value x | skip)
    | lift_lets
    | with_reducible refine foot_aluDiv rfl ?_ ..
    | with_reducible refine OutFoot.next ?_
    | split
    | dsimp only

theorem foot_execRemu {m : Nat} {z t : State} (hs : 0x72280100a4ef4f88 ||| m = m) (h : Foot m z t) (a0 : _) (a1 : _) (a2 : _) (a3 : _) :
    OutFoot m z (execRemu a0 a1 a2 a3 t) := by
  refine OutFoot.step (m := 0x72280100a4ef4f88) ?_ hs h
  clear h hs
  have h := Foot.refl 0x72280100a4ef4f88 t
  unfold execRemu
  repeat' first
    | with_reducible assumption
    | (intro x; first | clear_value x | skip)
    | lift_lets
    | with_reducible refine foot_aluDiv rfl ?_ ..
    | with_reducible refine OutFoot.next ?_
    | split
    | dsimp only

theorem foot_execMac {m : Nat} {z t : State} (hs : 0x72280100a4ef4f88 ||| m = m) (h : Foot m z t) (a0 : _) (a1 : _) (a2 : _) (a3 : _) :
    OutFoot m z (execMac a0 a1 a2 a3 t) := by
  refine OutFoot.step (m := 0x72280100a4ef4f88) ?_ hs h
  clear h hs
  have h := Foot.refl 0x72280100a4ef4f88 t
  unfold execMac
  repeat' first
    | with_reducible assumption
    | (intro x; first | clear_value x | skip)
    | lift_lets
    | with_reducible refine foot_aluMac rfl ?_ ..
    | with_reducible refine OutFoot.next ?_
    | split
    | dsimp only

theorem foot_execMacs {m : Nat} {z t : State} (hs : 0x72280100a4ef4f88 ||| m = m) (h : Foot m z t) (a0 : _) (a1 : _) (a2 : _) (a3 : _) :
    OutFoot m z (execMacs a0 a1 a2 a3 t) := by
  refine OutFoot.step (m := 0x72280100a4ef4f88) ?_ hs h
  clear h hs
  have h := Foot.refl 0x72280100a4ef4f88 t
  unfold execMacs
  repeat' first
    | with_reducible assumption
    | (intro x; first | clear_value x | skip)
    | lift_lets
    | with_reducible refine foot_aluMac rfl ?_ ..
    | with_reducible refine OutFoot.next ?_
    | split
    | dsimp only

theorem foot_execMsu {m : Nat} {z t : State} (hs : 0x72280100a4ef4f88 ||| m = m) (h : Foot m z t) (a0 : _) (a1 : _) (a2 : _) (a3 : _) :
    OutFoot m z (execMsu a0 a1 a2 a3 t) := by
  refine OutFoot.step (m := 0x72280100a4ef4f88) ?_ hs h
  clear h hs
  have h := Foot.refl 0x72280100a4ef4f88 t
  unfold execMsu
  repeat' first
    | with_reducible assumption
    | (intro x; first | clear_value x | skip)
    | lift_lets
    | with_reducible refine foot_aluMac rfl ?_ ..
    | with_reducible refine OutFoot.next ?_
    | split
    | dsimp only

theorem foot_execMsus {m : Nat} {z t : State} (hs : 0x72280100a4ef4f88 ||| m = m) (h : Foot m z t) (a0 : _) (a1 : _) (a2 : _) (a3 : _) :
    OutFoot m z (execMsus a0 a1 a2 a3 t) := by
  refine OutFoot.step (m := 0x72280100a4ef4f88) ?_ hs h
  clear h hs
  have h := Foot.refl 0x72280100a4ef4f88 t
  unfold execMsus
  repeat' first
    | with_reducible assumption
    | (intro x; first | clear_value x | skip)
    | lift_lets
    | with_reducible refine foot_aluMac rfl ?_ ..
    | with_reducible refine OutFoot.next ?_
    | split
    | dsimp only

theorem foot_execRnd {m : Nat} {z t : State} (hs : 0x72280100a4ef4f88 ||| m = m) (h : Foot m z t) (a0 : _) (a1 : _) (a2 : _) (a3 : _) :
    OutFoot m z (execRnd a0 a1 a2 a3 t) := by
  refine OutFoot.step (m := 0x72280100a4ef4f88) ?_ hs h
  clear h hs
  have h := Foot.refl 0x72280100a4ef4f88 t
  unfold execRnd
  repeat' first
    | with_reducible assumption
    | (intro x; first | clear_value x | skip)
    | lift_lets
    | with_reducible refine foot_aluRnd rfl ?_ ..
    | with_reducible refine OutFoot.next ?_
    | split
    | dsimp only

theorem foot_execRnds {m : Nat} {z t : State} (hs : 0x72280100a4ef4f88 ||| m = m) (h : Foot m z t) (a0 : _) (a1 : _) (a2 : _) (a3 : _) :
    OutFoot m z (execRnds a0 a1 a2 a3 t) := by
  refine OutFoot.step (m := 0x72280100a4ef4f88) ?_ hs h
  clear h hs
  have h := Foot.refl 0x72280100a4ef4f88 t
  unfold execRnds
  repeat' first
    | with_reducible assumption
    | (intro x; first | clear_value x | skip)
    | lift_lets
    | with_reducible refine foot_aluRnd rfl ?_ ..
    | with_reducible refine OutFoot.next ?_
    | split
    | dsimp only

theorem foot_execAddD {m : Nat} {z t : State} (hs : 0x72280100a4ef4f88 ||| m = m) (h : Foot m z t) (a0 : _) (a1 : _) (a2 : _) (a3 : _) :
    OutFoot m z (execAddD a0 a1 a2 a3 t) := by
  refine OutFoot.step (m := 0x72280100a4ef4f88) ?_ hs h
  clear h hs
  have h := Foot.refl 0x72280100a4ef4f88 t
  unfold execAddD
  repeat' first
    | with_reducible assumption
    | (intro x; first | clear_value x | skip)
    | lift_lets
    | with_reducible refine foot_pairInstr rfl ?_ ..
    | with_reducible refine OutFoot.next ?_
    | split
    | dsimp only

theorem foot_execSubD {m : Nat} {z t : State} (hs : 0x72280100a4ef4f88 ||| m = m) (h : Foot m z t) (a0 : _) (a1 : _) (a2 : _) (a3 : _) :
    OutFoot m z (execSubD a0 a1 a2 a3 t) := by
  refine OutFoot.step (m := 0x72280100a4ef4f88) ?_ hs h
  clear h hs
  have h := Foot.refl 0x72280100a4ef4f88 t
  unfold execSubD
  repeat' first
    | with_reducible assumption
    | (intro x; first | clear_value x | skip)
    | lift_lets
    | with_reducible refine foot_pairInstr rfl ?_ ..
    | with_reducible refine OutFoot.next ?_
    | split
    | dsimp only

theorem foot_execCmpD {m : Nat} {z t : State} (hs : 0x72280100a4ef4f88 ||| m = m) (h : Foot m z t) (a0 : _) (a1 : _) (a2 : _) :
    OutFoot m z (execCmpD a0 a1 a2 t) := by
  refine OutFoot.step (m := 0x72280100a4ef4f88) ?_ hs h
  clear h hs
  have h := Foot.refl 0x72280100a4ef4f88 t
  unfold execCmpD
  repeat' first
    | with_reducible assumption
    | (intro x; first | clear_value x | skip)
    | lift_lets
    | with_reducible refine foot_pairInstr rfl ?_ ..
    | with_reducible refine OutFoot.next ?_
    | split
    | dsimp only

theorem foot_alui {m : Nat} {z t : State} (hs : 0x72280100a4ef4f88 ||| m = m) (h : Foot m z t) (a0 : _) (a1 : _) (a2 : _) (a3 : _) :
    Foot m z (State.alui a0 a1 a2 a3 t) := by
  refine Foot.step (m := 0x72280100a4ef4f88) ?_ hs h
  clear h hs
  have h := Foot.refl 0x72280100a4ef4f88 t
  unfold State.alui
  repeat' first
    | with_reducible assumption
    | (intro x; first | clear_value x | skip)
    | lift_lets
    | with_reducible refine foot_simple rfl ?_ ..
    | split
    | dsimp only

theorem foot_execAddi {m : Nat} {z t : State} (hs : 0x72280100a4ef4f88 ||| m = m) (h : Foot m z t) (a0 : _) (a1 : _) (a2 : _) (a3 : _) :
    OutFoot m z (execAddi a0 a1 a2 a3 t) := by
  refine OutFoot.step (m := 0x72280100a4ef4f88) ?_ hs h
  clear h hs
  have h := Foot.refl 0x72280100a4ef4f88 t
  unfold execAddi
  repeat' first
    | with_reducible assumption
    | (intro x; first | clear_value x | skip)
    | lift_lets
    | with_reducible refine foot_alui rfl ?_ ..
    | with_reducible refine OutFoot.next ?_
    | split
    | dsimp only

theorem foot_execAndi {m : Nat} {z t : State} (hs : 0x72280100a4ef4f88 ||| m = m) (h : Foot m z t) (a0 : _) (a1 : _) (a2 : _) (a3 : _) :
    OutFoot m z (execAndi a0 a1 a2 a3 t) := by
  refine OutFoot.step (m := 0x72280100a4ef4f88) ?_ hs h
  clear h hs
  have h := Foot.refl 0x72280100a4ef4f88 t
  unfold execAndi
  repeat' first
    | with_reducible assumption
    | (intro x; first | clear_value x | skip)
    | lift_lets
    | with_reducible refine foot_alui rfl ?_ ..
    | with_reducible refine OutFoot.next ?_
    | split
    | dsimp only

theorem foot_execOri {m : Nat} {z t : State} (hs : 0x72280100a4ef4f88 ||| m = m) (h : Foot m z t) (a0 : _) (a1 : _) (a2 : _) (a3 : _) :
    OutFoot m z (execOri a0 a1 a2 a3 t) := by
  refine OutFoot.step (m := 0x72280100a4ef4f88) ?_ hs h
  clear h hs
  have h := Foot.refl 0x72280100a4ef4f88 t
  unfold execOri
  repeat' first
    | with_reducible assumption
    | (intro x; first | clear_value x | skip)
    | lift_lets
    | with_reducible refine foot_alui rfl ?_ ..
    | with_reducible refine OutFoot.next ?_
    | split
    | dsimp only

theorem foot_execXori {m : Nat} {z t : State} (hs : 0x72280100a4ef4f88 ||| m = m) (h : Foot m z t) (a0 : _) (a1 : _) (a2 : _) (a3 : _) :
    OutFoot m z (execXori a0 a1 a2 a3 t) := by
  refine OutFoot.step (m := 0x72280100a4ef4f88) ?_ hs h
  clear h hs
  have h := Foot.refl 0x72280100a4ef4f88 t
  unfold execXori
  repeat' first
    | with_reducible assumption
    | (intro x; first | clear_value x | skip)
    | lift_lets
    | with_reducible refine foot_alui rfl ?_ ..
    | with_reducible refine OutFoot.next ?_
    | split
    | dsimp only

theorem foot_execLui {m : Nat} {z t : State} (hs : 0x72280100a4ef4f88 ||| m = m) (h : Foot m z t) (a0 : _) (a1 : _) (a2 : _) :
    OutFoot m z (execLui a0 a1 a2 t) := by
  refine OutFoot.step (m := 0x72280100a4ef4f88) ?_ hs h
  clear h hs
  have h := Foot.refl 0x72280100a4ef4f88 t
  unfold execLui
  repeat' first
    | with_reducible assumption
    | (intro x; first | clear_value x | skip)
    | lift_lets
    | with_reducible refine foot_alui rfl ?_ ..
    | with_reducible refine OutFoot.next ?_
    | split
    | dsimp only

theorem foot_execCmpi {m : Nat} {z t : State} (hs : 0x72280100a4ef4f88 ||| m = m) (h : Foot m z t) (a0 : _) (a1 : _) (a2 : _) :
    OutFoot m z (execCmpi a0 a1 a2 t) := by
  refine OutFoot.step (m := 0x72280100a4ef4f88) ?_ hs h
  clear h hs
  have h := Foot.refl 0x72280100a4ef4f88 t
  unfold execCmpi
  repeat' first
    | with_reducible assumption
    | (intro x; first | clear_value x | skip)
    | lift_lets
    | with_reducible refine foot_simple rfl ?_ ..
    | with_reducible refine OutFoot.next ?_
    | split
    | dsimp only

theorem foot_execShli {m : Nat} {z t : State} (hs : 0x72280100a4ef4f88 ||| m = m) (h : Foot m z t) (a0 : _) (a1 : _) (a2 : _) (a3 : _) :
    OutFoot m z (execShli a0 a1 a2 a3 t) := by
  refine OutFoot.step (m := 0x72280100a4ef4f88) ?_ hs h
  clear h hs
  have h := Foot.refl 0x72280100a4ef4f88 t
  unfold execShli
  repeat' first
    | with_reducible assumption
    | (intro x; first | clear_value x | skip)
    | lift_lets
    | with_reducible refine foot_alui rfl ?_ ..
    | with_reducible refine OutFoot.next ?_
    | split
    | dsimp only

theorem foot_execShri {m : Nat} {z t : State} (hs : 0x72280100a4ef4f88 ||| m = m) (h : Foot m z t) (a0 : _) (a1 : _) (a2 : _) (a3 : _) :
    OutFoot m z (execShri a0 a1 a2 a3 t) := by
  refine OutFoot.step (m := 0x72280100a4ef4f88) ?_ hs h
  clear h hs
  have h := Foot.refl 0x72280100a4ef4f88 t
  unfold execShri
  repeat' first
    | with_reducible assumption
    | (intro x; first | clear_value x | skip)
    | lift_lets
    | with_reducible refine foot_alui rfl ?_ ..
    | with_reducible refine OutFoot.next ?_
    | split
    | dsimp only

theorem foot_execSrai {m : Nat} {z t : State} (hs : 0x72280100a4ef4f88 ||| m = m) (h : Foot m z t) (a0 : _) (a1 : _) (a2 : _) (a3 : _) :
    OutFoot m z (execSrai a0 a1 a2 a3 t) := by
  refine OutFoot.step (m := 0x72280100a4ef4f88) ?_ hs h
  clear h hs
  have h := Foot.refl 0x72280100a4ef4f88 t
  unfold execSrai
  repeat' first
    | with_reducible assumption
    | (intro x; first | clear_value x | skip)
    | lift_lets
    | with_reducible refine foot_alui rfl ?_ ..
    | with_reducible refine OutFoot.next ?_
    | split
    | dsimp only

theorem foot_execSat {m : Nat} {z t : State} (hs : 0x72280100a4ef4f88 ||| m = m) (h : Foot m z t) (a0 : _) (a1 : _) (a2 : _) (a3 : _) :
    OutFoot m z (execSat a0 a1 a2 a3 t) := by
  refine OutFoot.step (m := 0x72280100a4ef4f88) ?_ hs h
  clear h hs
  have h := Foot.refl 0x72280100a4ef4f88 t
  unfold execSat
  repeat' first
    | with_reducible assumption
    | (intro x; first | clear_value x | skip)
    | lift_lets
    | with_reducible refine foot_pairInstr rfl ?_ ..
    | with_reducible refine OutFoot.next ?_
    | split
    | dsimp only

theorem foot_sysAccess {m : Nat} {z t : State} (hs : 0x72280100a4ef4f88 ||| m = m) {a3 : _} (hf : ∀ x0 t, Foot m z t → Foot m z (a3 x0 t)) (h : Foot m z t) (a0 : _) (a1 : _) (a2 : _) :
    Foot m z (State.sysAccess a0 a1 a2 a3 t) := by
  unfold State.sysAccess
  repeat' first
    | with_reducible refine hf _ _ ?_
    | with_reducible assumption
    | with_reducible refine foot_exception (mask_sub (b := 0x72280100a4ef4f88) rfl hs) ?_ ..
    | with_reducible refine foot_instr (mask_sub (b := 0x72280100a4ef4f88) rfl hs) (fun _ _ _ => ?_) ?_ ..
    | with_reducible apply Foot.ite
    | dsimp only

theorem foot_execMfs {m : Nat} {z t : State} (hs : 0x72280100a4ef4f88 ||| m = m) (h : Foot m z t) (a0 : _) (a1 : _) (a2 : _) :
    OutFoot m z (execMfs a0 a1 a2 t) := by
  refine OutFoot.step (m := 0x72280100a4ef4f88) ?_ hs h
  clear h hs
  have h := Foot.refl 0x72280100a4ef4f88 t
  unfold execMfs
  repeat' first
    | with_reducible assumption
    | (intro x; first | clear_value x | skip)
    | lift_lets
    | with_reducible refine foot_modCore rfl ?_ ..
    | with_reducible refine foot_sysAccess rfl (fun _ _ _ => ?_) ?_ ..
    | with_reducible refine OutFoot.next ?_
    | split
    | dsimp only

theorem foot_execMts {m : Nat} {z t : State} (hs : 0x72280100a4ef4f88 ||| m = m) (h : Foot m z t) (a0 : _) (a1 : _) (a2 : _) :
    OutFoot m z (execMts a0 a1 a2 t) := by
  refine OutFoot.step (m := 0x72280100a4ef4f88) ?_ hs h
  clear h hs
  have h := Foot.refl 0x72280100a4ef4f88 t
  unfold execMts
  repeat' first
    | with_reducible assumption
    | (intro x; first | clear_value x | skip)
    | lift_lets
    | with_reducible refine foot_modCore rfl ?_ ..
    | with_reducible refine foot_sysAccess rfl (fun _ _ _ => ?_) ?_ ..
    | with_reducible refine OutFoot.next ?_
    | split
    | dsimp only

theorem foot_branch {m : Nat} {z t : State} (hs : 0x72280100a4ef4f88 ||| m = m) (h : Foot m z t) (a0 : _) (a1 : _) (a2 : _) :
    Foot m z (State.branch a0 a1 a2 t) := by
  refine Foot.step (m := 0x72280100a4ef4f88) ?_ hs h
  clear h hs
  have h := Foot.refl 0x72280100a4ef4f88 t
  unfold State.branch
  repeat' first
    | with_reducible assumption
    | (intro x; first | clear_value x | skip)
    | lift_lets
    | with_reducible refine foot_modCore rfl ?_ ..
    | with_reducible refine foot_instr rfl (fun _ _ _ => ?_) ?_ ..
    | split
    | dsimp only

theorem foot_execB {m : Nat} {z t : State} (hs : 0x72280100a4ef4f88 ||| m = m) (h : Foot m z t) (a0 : _) (a1 : _) (a2 : _) :
    OutFoot m z (execB a0 a1 a2 t) := by
  refine OutFoot.step (m := 0x72280100a4ef4f88) ?_ hs h
  clear h hs
  have h := Foot.refl 0x72280100a4ef4f88 t
  unfold execB
  repeat' first
    | with_reducible assumption
    | (intro x; first | clear_value x | skip)
    | lift_lets
    | with_reducible refine foot_branch rfl ?_ ..
    | with_reducible refine OutFoot.next ?_
    | split
    | dsimp only

theorem foot_execBl {m : Nat} {z t : State} (hs : 0x72280100a4ef4f88 ||| m = m) (h : Foot m z t) (a0 : _) (a1 : _) :
    OutFoot m z (execBl a0 a1 t) := by
  refine OutFoot.step (m := 0x72280100a4ef4f88) ?_ hs h
  clear h hs
  have h := Foot.refl 0x72280100a4ef4f88 t
  unfold execBl
  repeat' first
    | with_reducible assumption
    | (intro x; first | clear_value x | skip)
    | lift_lets
    | with_reducible refine foot_modCore rfl ?_ ..
    | with_reducible refine foot_instr rfl (fun _ _ _ => ?_) ?_ ..
    | with_reducible refine OutFoot.next ?_
    | split
    | dsimp only

theorem foot_execBz {m : Nat} {z t : State} (hs : 0x72280100a4ef4f88 ||| m = m) (h : Foot m z t) (a0 : _) (a1 : _) (a2 : _) :
    OutFoot m z (execBz a0 a1 a2 t) := by
  refine OutFoot.step (m := 0x72280100a4ef4f88) ?_ hs h
  clear h hs
  have h := Foot.refl 0x72280100a4ef4f88 t
  unfold execBz
  repeat' first
    | with_reducible assumption
    | (intro x; first | clear_value x | skip)
    | lift_lets
    | with_reducible refine foot_branch rfl ?_ ..
    | with_reducible refine OutFoot.next ?_
    | split
    | dsimp only

theorem foot_execBnz {m : Nat} {z t : State} (hs : 0x72280100a4ef4f88 ||| m = m) (h : Foot m z t) (a0 : _) (a1 : _) (a2 : _) :
    OutFoot m z (execBnz a0 a1 a2 t) := by
  refine OutFoot.step (m := 0x72280100a4ef4f88) ?_ hs h
  clear h hs
  have h := Foot.refl 0x72280100a4ef4f88 t
  unfold execBnz
  repeat' first
    | with_reducible assumption
    | (intro x; first | clear_value x | skip)
    | lift_lets
    | with_reducible refine foot_branch rfl ?_ ..
    | with_reducible refine OutFoot.next ?_
    | split
    | dsimp only

theorem foot_execFence {m : Nat} {z t : State} (hs : 0x72280100a4ef4f88 ||| m = m) (h : Foot m z t) (a0 : _) :
    OutFoot m z (execFence a0 t) := by
  refine OutFoot.step (m := 0x72280100a4ef4f88) ?_ hs h
  clear h hs
  have h := Foot.refl 0x72280100a4ef4f88 t
  unfold execFence
  repeat' first
    | with_reducible assumption
    | (intro x; first | clear_value x | skip)
    | lift_lets
    | with_reducible refine foot_simple rfl ?_ ..
    | with_reducible refine OutFoot.next ?_
    | split
    | dsimp only

theorem foot_execFenceI {m : Nat} {z t : State} (hs : 0x72280100a4ef4f88 ||| m = m) (h : Foot m z t) (a0 : _) :
    OutFoot m z (execFenceI a0 t) := by
  refine OutFoot.step (m := 0x72280100a4ef4f88) ?_ hs h
  clear h hs
  have h := Foot.refl 0x72280100a4ef4f88 t
  unfold execFenceI
  repeat' first
    | with_reducible assumption
    | (intro x; first | clear_value x | skip)
    | lift_lets
    | with_reducible refine foot_simple rfl ?_ ..
    | with_reducible refine OutFoot.next ?_
    | split
    | dsimp only

theorem foot_execJr {m : Nat} {z t : State} (hs : 0x72280100a4ef4f88 ||| m = m) (h : Foot m z t) (a0 : _) (a1 : _) :
    OutFoot m z (execJr a0 a1 t) := by
  refine OutFoot.step (m := 0x72280100a4ef4f88) ?_ hs h
  clear h hs
  have h := Foot.refl 0x72280100a4ef4f88 t
  unfold execJr
  repeat' first
    | with_reducible assumption
    | (intro x; first | clear_value x | skip)
    | lift_lets
    | with_reducible refine foot_modCore rfl ?_ ..
    | with_reducible refine foot_instr rfl (fun _ _ _ => ?_) ?_ ..
    | with_reducible refine OutFoot.next ?_
    | split
    | dsimp only

theorem foot_execJalr {m : Nat} {z t : State} (hs : 0x72280100a4ef4f88 ||| m = m) (h : Foot m z t) (a0 : _) (a1 : _) (a2 : _) :
    OutFoot m z (execJalr a0 a1 a2 t) := by
  refine OutFoot.step (m := 0x72280100a4ef4f88) ?_ hs h
  clear h hs
  have h := Foot.refl 0x72280100a4ef4f88 t
  unfold execJalr
  repeat' first
    | with_reducible assumption
    | (intro x; first | clear_value x | skip)
    | lift_lets
    | with_reducible refine foot_modCore rfl ?_ ..
    | with_reducible refine foot_instr rfl (fun _ _ _ => ?_) ?_ ..
    | with_reducible refine OutFoot.next ?_
    | split
    | dsimp only

theorem foot_execTrap {m : Nat} {z t : State} (hs : 0x72280100a4ef4f88 ||| m = m) (h : Foot m z t) (a0 : _) (a1 : _) :
    OutFoot m z (execTrap a0 a1 t) := by
  refine OutFoot.step (m := 0x72280100a4ef4f88) ?_ hs h
  clear h hs
  have h := Foot.refl 0x72280100a4ef4f88 t
  unfold execTrap
  repeat' first
    | with_reducible assumption
    | (intro x; first | clear_value x | skip)
    | lift_lets
    | with_reducible refine foot_exception rfl ?_ ..
    | with_reducible refine foot_instr rfl (fun _ _ _ => ?_) ?_ ..
    | with_reducible refine OutFoot.next ?_
    | split
    | dsimp only

theorem foot_execEret {m : Nat} {z t : State} (hs : 0x72280100a4ef4f88 ||| m = m) (h : Foot m z t) (a0 : _) :
    OutFoot m z (execEret a0 t) := by
  refine OutFoot.step (m := 0x72280100a4ef4f88) ?_ hs h
  clear h hs
  have h := Foot.refl 0x72280100a4ef4f88 t
  unfold execEret
  repeat' first
    | with_reducible assumption
    | (intro x; first | clear_value x | skip)
    | lift_lets
    | with_reducible refine foot_modCore rfl ?_ ..
    | with_reducible refine foot_exception rfl ?_ ..
    | with_reducible refine foot_instr rfl (fun _ _ _ => ?_) ?_ ..
    | with_reducible apply Foot.ite
    | with_reducible refine OutFoot.next ?_
    | split
    | dsimp only

theorem foot_execBkpt {m : Nat} {z t : State} (hs : 0x72280100a4ef4f88 ||| m = m) (h : Foot m z t) (a0 : _) :
    OutFoot m z (execBkpt a0 t) := by
  refine OutFoot.step (m := 0x72280100a4ef4f88) ?_ hs h
  clear h hs
  have h := Foot.refl 0x72280100a4ef4f88 t
  unfold execBkpt
  repeat' first
    | with_reducible assumption
    | (intro x; first | (refine Foot.cut (P := Foot 0x72280100a4ef4f88 t x) ?_ ?_; rotate_left; subst x; rotate_left; intro hx; clear_value x) | clear_value x | skip)
    | lift_lets
    | with_reducible refine foot_modCore rfl ?_ ..
    | with_reducible refine foot_instr rfl (fun _ _ _ => ?_) ?_ ..
    | with_reducible apply Foot.ite
    | with_reducible refine OutFoot.next ?_
    | ((with_reducible refine Foot.lit ?_ rfl rfl ?_ ?_ ?_ ?_ ?_ ?_); rotate_left; rfl; rfl; rfl; rfl; (first | exact Nat.le_refl _ | exact Nat.le_succ _); (constructor <;> first | with_reducible exact Kept.same | exact Kept.masked rfl); (first | with_reducible assumption | with_reducible refine foot_modCore rfl ?_ .. | with_reducible refine foot_instr rfl (fun _ _ _ => ?_) ?_ .. | with_reducible apply Foot.ite | with_reducible refine OutFoot.next ?_))
    | split
    | dsimp only

theorem foot_execIllegalEncoding {m : Nat} {z t : State} (hs : 0x72280100a4ef4f88 ||| m = m) (h : Foot m z t) (a0 : _) (a1 : _) :
    OutFoot m z (execIllegalEncoding a0 a1 t) := by
  refine OutFoot.step (m := 0x72280100a4ef4f88) ?_ hs h
  clear h hs
  have h := Foot.refl 0x72280100a4ef4f88 t
  unfold execIllegalEncoding
  repeat' first
    | with_reducible assumption
    | (intro x; first | clear_value x | skip)
    | lift_lets
    | with_reducible refine foot_exception rfl ?_ ..
    | with_reducible refine foot_instr rfl (fun _ _ _ => ?_) ?_ ..
    | with_reducible apply Foot.ite
    | with_reducible refine OutFoot.next ?_
    | split
    | dsimp only

end Sys2Proof.Machine
end

