-- ==== Sys2Proof/Laws/FootClock.lean ====
section
/-!
SUPPORT. Footprints of the operations of Machine/Clock.lean.
-/

set_option Elab.async false

set_option linter.all false

set_option maxRecDepth 4000

namespace Sys2Proof.Machine

theorem foot_clocks {m : Nat} {z t : State} (hs : 0x202 ||| m = m) (h : Foot m z t) :
    Foot m z (State.clocks t) := by
  refine Foot.step (m := 0x202) ?_ hs h
  clear h hs
  have h := Foot.refl 0x202 t
  unfold State.clocks
  repeat' first
    | with_reducible assumption
    | (intro x; first | (refine Foot.cut (P := Foot 0x202 t x) ?_ ?_; rotate_left; subst x; rotate_left; intro hx; clear_value x) | clear_value x | skip)
    | lift_lets
    | with_reducible apply Foot.ite
    | ((with_reducible refine Foot.lit ?_ rfl rfl ?_ ?_ ?_ ?_ ?_ ?_); rotate_left; rfl; rfl; rfl; rfl; (first | exact Nat.le_refl _ | exact Nat.le_succ _); (constructor <;> first | with_reducible exact Kept.same | exact Kept.masked rfl); (first | with_reducible assumption | with_reducible apply Foot.ite))
    | split
    | dsimp only

theorem foot_tick {m : Nat} {z t : State} (hs : 0x7a290100affa4f8a ||| m = m) (h : Foot m z t) :
    Foot m z (State.tick t) := by
  refine Foot.step (m := 0x7a290100affa4f8a) ?_ hs h
  clear h hs
  have h := Foot.refl 0x7a290100affa4f8a t
  unfold State.tick
  repeat' first
    | with_reducible assumption
    | (intro x; first | (refine Foot.cut (P := Foot 0x7a290100affa4f8a t x) ?_ ?_; rotate_left; subst x; rotate_left; intro hx; clear_value x) | clear_value x | skip)
    | lift_lets
    | with_reducible refine foot_clocks rfl ?_ ..
    | with_reducible refine foot_gridDue rfl ?_ ..
    | with_reducible refine foot_leFaults rfl ?_ ..
    | with_reducible refine foot_beginWaits rfl ?_ ..
    | with_reducible apply Foot.ite
    | split
    | dsimp only

end Sys2Proof.Machine
end

