-- ==== Sys2Proof/Laws/FootCoreMem.lean ====
section
/-!
SUPPORT. Footprints of the operations of Machine/CoreMem.lean.
-/

set_option Elab.async false

set_option linter.all false

set_option maxRecDepth 4000

namespace Sys2Proof.Machine

theorem foot_eccFix {m : Nat} {z t : State} (hs : 0x80 ||| m = m) (h : Foot m z t) (a0 : _) (a1 : _) :
    Foot m z (State.eccFix a0 a1 t) := by
  refine Foot.step (m := 0x80) ?_ hs h
  clear h hs
  have h := Foot.refl 0x80 t
  unfold State.eccFix
  repeat' first
    | with_reducible assumption
    | (intro x; first | clear_value x | skip)
    | lift_lets
    | with_reducible apply Foot.ite
    | ((with_reducible refine Foot.lit ?_ rfl rfl ?_ ?_ ?_ ?_ ?_ ?_); rotate_left; rfl; rfl; rfl; rfl; (first | exact Nat.le_refl _ | exact Nat.le_succ _); (constructor <;> first | with_reducible exact Kept.same | exact Kept.masked rfl); (first | with_reducible assumption | with_reducible apply Foot.ite))
    | split
    | dsimp only

theorem foot_coreRead {m : Nat} {z t : State} (hs : 0x7a280100a4ea4f90 ||| m = m) (h : Foot m z t) (a0 : _) (a1 : _) :
    PairFoot m z (State.coreRead a0 a1 t) := by
  refine PairFoot.step (m := 0x7a280100a4ea4f90) ?_ hs h
  clear h hs
  have h := Foot.refl 0x7a280100a4ea4f90 t
  unfold State.coreRead
  repeat' first
    | with_reducible assumption
    | (intro x; first | clear_value x | skip)
    | lift_lets
    | with_reducible refine foot_leRead rfl ?_ ..
    | with_reducible refine foot_eccFix rfl ?_ ..
    | with_reducible refine foot_busRead rfl ?_ ..
    | with_reducible refine PairFoot.eq (by assumption) ?_
    | split
    | with_reducible refine PairFoot.mk ?_
    | dsimp only

theorem foot_coreWrite {m : Nat} {z t : State} (hs : 0xffffff3ef7ff7fd8 ||| m = m) (h : Foot m z t) (a0 : _) (a1 : _) (a2 : _) (a3 : _) :
    Foot m z (State.coreWrite a0 a1 a2 a3 t) := by
  refine Foot.step (m := 0xffffff3ef7ff7fd8) ?_ hs h
  clear h hs
  have h := Foot.refl 0xffffff3ef7ff7fd8 t
  unfold State.coreWrite
  repeat' first
    | with_reducible assumption
    | (intro x; first | (refine Foot.cut (P := Foot 0xffffff3ef7ff7fd8 t x) ?_ ?_; rotate_left; subst x; rotate_left; intro hx; clear_value x) | clear_value x | skip)
    | lift_lets
    | with_reducible refine foot_busWrite rfl ?_ ..
    | with_reducible refine foot_leWrite rfl ?_ ..
    | with_reducible refine foot_logUndo rfl ?_ ..
    | with_reducible refine foot_raise rfl ?_ ..
    | with_reducible refine foot_coreStoreWord rfl ?_ ..
    | with_reducible apply Foot.ite
    | split
    | dsimp only

theorem foot_memInstr {m : Nat} {z t : State} (hs : 0x72280100a4ef4f88 ||| m = m) {a8 : _} (hf : ∀ x0 x1 t, Foot m z t → Foot m z (a8 x0 x1 t)) (h : Foot m z t) (a0 : _) (a1 : _) (a2 : _) (a3 : _) (a4 : _) (a5 : _) (a6 : _) (a7 : _) :
    Foot m z (State.memInstr a0 a1 a2 a3 a4 a5 a6 a7 a8 t) := by
  unfold State.memInstr
  repeat' first
    | with_reducible refine hf _ _ _ ?_
    | with_reducible assumption
    | (intro x; first | clear_value x | skip)
    | lift_lets
    | with_reducible refine foot_modCore (mask_sub (b := 0x72280100a4ef4f88) rfl hs) ?_ ..
    | with_reducible refine foot_exception (mask_sub (b := 0x72280100a4ef4f88) rfl hs) ?_ ..
    | with_reducible refine foot_instr (mask_sub (b := 0x72280100a4ef4f88) rfl hs) (fun _ _ _ => ?_) ?_ ..
    | with_reducible apply Foot.ite
    | split
    | dsimp only

theorem foot_nextPc {m : Nat} {z t : State} (hs : 0x40000 ||| m = m) (h : Foot m z t) (a0 : _) :
    Foot m z (State.nextPc a0 t) := by
  refine Foot.step (m := 0x40000) ?_ hs h
  clear h hs
  have h := Foot.refl 0x40000 t
  unfold State.nextPc
  repeat' first
    | with_reducible assumption
    | (intro x; first | clear_value x | skip)
    | lift_lets
    | with_reducible refine foot_modCore rfl ?_ ..
    | split
    | dsimp only

theorem foot_execLd {m : Nat} {z t : State} (hs : 0x7a280100a4ef4f98 ||| m = m) (h : Foot m z t) (a0 : _) (a1 : _) (a2 : _) (a3 : _) (a4 : _) (a5 : _) :
    OutFoot m z (execLd a0 a1 a2 a3 a4 a5 t) := by
  refine OutFoot.step (m := 0x7a280100a4ef4f98) ?_ hs h
  clear h hs
  have h := Foot.refl 0x7a280100a4ef4f98 t
  unfold execLd
  repeat' first
    | with_reducible assumption
    | (intro x; first | clear_value x | skip)
    | lift_lets
    | with_reducible refine foot_nextPc rfl ?_ ..
    | with_reducible refine foot_modCore rfl ?_ ..
    | with_reducible refine foot_coreRead rfl ?_ ..
    | with_reducible refine foot_exception rfl ?_ ..
    | with_reducible refine foot_memInstr rfl (fun _ _ _ _ => ?_) ?_ ..
    | with_reducible apply Foot.ite
    | with_reducible refine OutFoot.next ?_
    | with_reducible refine PairFoot.snd ?_
    | split
    | dsimp only

theorem foot_execLdu {m : Nat} {z t : State} (hs : 0x7a280100a4ef4f98 ||| m = m) (h : Foot m z t) (a0 : _) (a1 : _) (a2 : _) (a3 : _) (a4 : _) (a5 : _) :
    OutFoot m z (execLdu a0 a1 a2 a3 a4 a5 t) := by
  refine OutFoot.step (m := 0x7a280100a4ef4f98) ?_ hs h
  clear h hs
  have h := Foot.refl 0x7a280100a4ef4f98 t
  unfold execLdu
  repeat' first
    | with_reducible assumption
    | (intro x; first | clear_value x | skip)
    | lift_lets
    | with_reducible refine foot_nextPc rfl ?_ ..
    | with_reducible refine foot_modCore rfl ?_ ..
    | with_reducible refine foot_coreRead rfl ?_ ..
    | with_reducible refine foot_exception rfl ?_ ..
    | with_reducible refine foot_memInstr rfl (fun _ _ _ _ => ?_) ?_ ..
    | with_reducible apply Foot.ite
    | with_reducible refine OutFoot.next ?_
    | with_reducible refine PairFoot.snd ?_
    | split
    | dsimp only

theorem foot_execSt {m : Nat} {z t : State} (hs : 0xffffff3ef7ff7fd8 ||| m = m) (h : Foot m z t) (a0 : _) (a1 : _) (a2 : _) (a3 : _) (a4 : _) (a5 : _) :
    OutFoot m z (execSt a0 a1 a2 a3 a4 a5 t) := by
  refine OutFoot.step (m := 0xffffff3ef7ff7fd8) ?_ hs h
  clear h hs
  have h := Foot.refl 0xffffff3ef7ff7fd8 t
  unfold execSt
  repeat' first
    | with_reducible assumption
    | (intro x; first | (refine Foot.cut (P := Foot 0xffffff3ef7ff7fd8 t x) ?_ ?_; rotate_left; subst x; rotate_left; intro hx; clear_value x) | clear_value x | skip)
    | lift_lets
    | with_reducible refine foot_nextPc rfl ?_ ..
    | with_reducible refine foot_memInstr rfl (fun _ _ _ _ => ?_) ?_ ..
    | with_reducible refine foot_coreWrite rfl ?_ ..
    | with_reducible apply Foot.ite
    | with_reducible refine OutFoot.next ?_
    | split
    | dsimp only

theorem foot_atomic {m : Nat} {z t : State} (hs : 0x72280900a4ef4f88 ||| m = m) (h : Foot m z t) (a0 : _) (a1 : _) (a2 : _) (a3 : _) (a4 : _) :
    Foot m z (State.atomic a0 a1 a2 a3 a4 t) := by
  refine Foot.step (m := 0x72280900a4ef4f88) ?_ hs h
  clear h hs
  have h := Foot.refl 0x72280900a4ef4f88 t
  unfold State.atomic
  repeat' first
    | with_reducible assumption
    | (intro x; first | (refine Foot.cut (P := Foot 0x72280900a4ef4f88 t x) ?_ ?_; rotate_left; subst x; rotate_left; intro hx; clear_value x) | clear_value x | skip)
    | lift_lets
    | with_reducible refine foot_nextPc rfl ?_ ..
    | with_reducible refine foot_modCore rfl ?_ ..
    | with_reducible refine foot_exception rfl ?_ ..
    | with_reducible refine foot_eccFix rfl ?_ ..
    | with_reducible refine foot_instr rfl (fun _ _ _ => ?_) ?_ ..
    | with_reducible refine foot_coreStoreWord rfl ?_ ..
    | with_reducible apply Foot.ite
    | split
    | dsimp only

theorem foot_execCas {m : Nat} {z t : State} (hs : 0x72280900a4ef4f88 ||| m = m) (h : Foot m z t) (a0 : _) (a1 : _) (a2 : _) (a3 : _) (a4 : _) :
    OutFoot m z (execCas a0 a1 a2 a3 a4 t) := by
  refine OutFoot.step (m := 0x72280900a4ef4f88) ?_ hs h
  clear h hs
  have h := Foot.refl 0x72280900a4ef4f88 t
  unfold execCas
  repeat' first
    | with_reducible assumption
    | (intro x; first | clear_value x | skip)
    | lift_lets
    | with_reducible refine foot_atomic rfl ?_ ..
    | with_reducible refine OutFoot.next ?_
    | split
    | dsimp only

theorem foot_execAmoadd {m : Nat} {z t : State} (hs : 0x72280900a4ef4f88 ||| m = m) (h : Foot m z t) (a0 : _) (a1 : _) (a2 : _) (a3 : _) (a4 : _) :
    OutFoot m z (execAmoadd a0 a1 a2 a3 a4 t) := by
  refine OutFoot.step (m := 0x72280900a4ef4f88) ?_ hs h
  clear h hs
  have h := Foot.refl 0x72280900a4ef4f88 t
  unfold execAmoadd
  repeat' first
    | with_reducible assumption
    | (intro x; first | clear_value x | skip)
    | lift_lets
    | with_reducible refine foot_atomic rfl ?_ ..
    | with_reducible refine OutFoot.next ?_
    | split
    | dsimp only

theorem foot_execMemoryScrubRead {m : Nat} {z t : State} (hs : 0x72280100a4ea4f80 ||| m = m) (h : Foot m z t) (a0 : _) :
    OutFoot m z (execMemoryScrubRead a0 t) := by
  refine OutFoot.step (m := 0x72280100a4ea4f80) ?_ hs h
  clear h hs
  have h := Foot.refl 0x72280100a4ea4f80 t
  unfold execMemoryScrubRead
  repeat' first
    | with_reducible assumption
    | (intro x; first | clear_value x | skip)
    | lift_lets
    | with_reducible refine foot_eccFix rfl ?_ ..
    | with_reducible refine foot_raise rfl ?_ ..
    | with_reducible apply Foot.ite
    | with_reducible refine OutFoot.next ?_
    | split
    | dsimp only

end Sys2Proof.Machine
end

