-- ==== Sys2Proof/Laws/FootDawn.lean ====
section
/-!
SUPPORT. Footprints of the operations of Machine/Dawn.lean.
-/

set_option Elab.async false

set_option linter.all false

set_option maxRecDepth 4000

namespace Sys2Proof.Machine

theorem foot_recordPair {m : Nat} {z t : State} (hs : 0xffffff3ef7fb7fd8 ||| m = m) (h : Foot m z t) (a0 : _) (a1 : _) :
    Foot m z (State.recordPair a0 a1 t) := by
  refine Foot.step (m := 0xffffff3ef7fb7fd8) ?_ hs h
  clear h hs
  have h := Foot.refl 0xffffff3ef7fb7fd8 t
  unfold State.recordPair
  repeat' first
    | with_reducible assumption
    | (intro x; first | clear_value x | skip)
    | lift_lets
    | with_reducible refine foot_regWrite rfl ?_ ..
    | with_reducible refine foot_setRegAll rfl ?_ ..
    | with_reducible apply Foot.ite
    | split
    | dsimp only

theorem foot_recordApply {m : Nat} {z t : State} (hs : 0xffffff3ef7fb7fd8 ||| m = m) (h : Foot m z t) (a0 : _) :
    Foot m z (State.recordApply a0 t) := by
  refine Foot.step (m := 0xffffff3ef7fb7fd8) ?_ hs h
  clear h hs
  have h := Foot.refl 0xffffff3ef7fb7fd8 t
  unfold State.recordApply
  repeat' first
    | with_reducible assumption
    | (intro x; first | (refine Foot.cut (P := Foot 0xffffff3ef7fb7fd8 t x) ?_ ?_; rotate_left; subst x; rotate_left; intro hx; clear_value x) | clear_value x | skip)
    | lift_lets
    | with_reducible refine foot_log rfl ?_ ..
    | with_reducible refine foot_recordPair rfl ?_ ..
    | with_reducible refine foot_setFbit (blk_SYS_CFGWARN_BITS ..) rfl ?_ ..
    | with_reducible refine foot_setFbit (blk_SYS_CFGSTAT_BITS ..) rfl ?_ ..
    | with_reducible refine Foot.forL (fun _ _ _ => ?_) ?_
    | ((with_reducible refine Foot.lit ?_ rfl rfl ?_ ?_ ?_ ?_ ?_ ?_); rotate_left; rfl; rfl; rfl; rfl; (first | exact Nat.le_refl _ | exact Nat.le_succ _); (constructor <;> first | with_reducible exact Kept.same | exact Kept.masked rfl); (first | with_reducible assumption | with_reducible refine foot_log rfl ?_ .. | with_reducible refine foot_recordPair rfl ?_ .. | with_reducible refine foot_setFbit (blk_SYS_CFGWARN_BITS ..) rfl ?_ .. | with_reducible refine foot_setFbit (blk_SYS_CFGSTAT_BITS ..) rfl ?_ .. | with_reducible refine Foot.forL (fun _ _ _ => ?_) ?_))
    | split
    | dsimp only

theorem foot_execSetupRecordRepair {m : Nat} {z t : State} (hs : 0x10000001300 ||| m = m) (h : Foot m z t) (a0 : _) (a1 : _) :
    OutFoot m z (execSetupRecordRepair a0 a1 t) := by
  refine OutFoot.step (m := 0x10000001300) ?_ hs h
  clear h hs
  have h := Foot.refl 0x10000001300 t
  unfold execSetupRecordRepair
  repeat' first
    | with_reducible assumption
    | (intro x; first | clear_value x | skip)
    | lift_lets
    | with_reducible refine foot_log rfl ?_ ..
    | with_reducible refine foot_setFbit (blk_SYS_CFGWARN_BITS ..) rfl ?_ ..
    | with_reducible apply Foot.ite
    | with_reducible refine OutFoot.next ?_
    | ((with_reducible refine Foot.lit ?_ rfl rfl ?_ ?_ ?_ ?_ ?_ ?_); rotate_left; rfl; rfl; rfl; rfl; (first | exact Nat.le_refl _ | exact Nat.le_succ _); (constructor <;> first | with_reducible exact Kept.same | exact Kept.masked rfl); (first | with_reducible assumption | with_reducible refine foot_log rfl ?_ .. | with_reducible refine foot_setFbit (blk_SYS_CFGWARN_BITS ..) rfl ?_ .. | with_reducible apply Foot.ite | with_reducible refine OutFoot.next ?_))
    | split
    | dsimp only

theorem foot_dawnClk {m : Nat} {z t : State} (hs : 0x20000000000 ||| m = m) (h : Foot m z t) (a0 : _) :
    Foot m z (State.dawnClk a0 t) := by
  refine Foot.step (m := 0x20000000000) ?_ hs h
  clear h hs
  have h := Foot.refl 0x20000000000 t
  unfold State.dawnClk
  repeat' first
    | with_reducible assumption
    | (intro x; first | (refine Foot.cut (P := Foot 0x20000000000 t x) ?_ ?_; rotate_left; subst x; rotate_left; intro hx; clear_value x) | clear_value x | skip)
    | lift_lets
    | with_reducible refine foot_setFlag (blk_CLK_STAT_MAIN_LOCK ..) rfl ?_ ..
    | with_reducible refine foot_setFlag (blk_CLK_CTRL_REF_SRC ..) rfl ?_ ..
    | with_reducible refine foot_setFlag (blk_CLK_STAT_SER_LOCK_SL ..) rfl ?_ ..
    | with_reducible refine foot_setFlag (blk_CLK_STAT_SER_LOCK_NET ..) rfl ?_ ..
    | with_reducible refine foot_setFlag (blk_CLK_STAT_SER_LOCK_PCIE ..) rfl ?_ ..
    | with_reducible refine foot_setFlag (blk_CLK_STAT_SER_LOCK_PLNK ..) rfl ?_ ..
    | with_reducible refine foot_setFlag (blk_CLK_STAT_XCHK_OK ..) rfl ?_ ..
    | with_reducible refine foot_setFlag (blk_CLK_FDDLY_DLY ..) rfl ?_ ..
    | with_reducible refine foot_setFlag (blk_CLK_STAT_FD_CLK_OK ..) rfl ?_ ..
    | with_reducible refine foot_setFbit (blk_CLK_STAT_MAIN_LOCK ..) rfl ?_ ..
    | with_reducible refine foot_setFbit (blk_CLK_CTRL_REF_SRC ..) rfl ?_ ..
    | with_reducible refine foot_setFbit (blk_CLK_STAT_SER_LOCK_SL ..) rfl ?_ ..
    | with_reducible refine foot_setFbit (blk_CLK_STAT_SER_LOCK_NET ..) rfl ?_ ..
    | with_reducible refine foot_setFbit (blk_CLK_STAT_SER_LOCK_PCIE ..) rfl ?_ ..
    | with_reducible refine foot_setFbit (blk_CLK_STAT_SER_LOCK_PLNK ..) rfl ?_ ..
    | with_reducible refine foot_setFbit (blk_CLK_STAT_XCHK_OK ..) rfl ?_ ..
    | with_reducible refine foot_setFbit (blk_CLK_FDDLY_DLY ..) rfl ?_ ..
    | with_reducible refine foot_setFbit (blk_CLK_STAT_FD_CLK_OK ..) rfl ?_ ..
    | with_reducible refine foot_setRegB (blk_CLK_STAT_MAIN_LOCK ..) rfl ?_ ..
    | with_reducible refine foot_setRegB (blk_CLK_CTRL_REF_SRC ..) rfl ?_ ..
    | with_reducible refine foot_setRegB (blk_CLK_STAT_SER_LOCK_SL ..) rfl ?_ ..
    | with_reducible refine foot_setRegB (blk_CLK_STAT_SER_LOCK_NET ..) rfl ?_ ..
    | with_reducible refine foot_setRegB (blk_CLK_STAT_SER_LOCK_PCIE ..) rfl ?_ ..
    | with_reducible refine foot_setRegB (blk_CLK_STAT_SER_LOCK_PLNK ..) rfl ?_ ..
    | with_reducible refine foot_setRegB (blk_CLK_STAT_XCHK_OK ..) rfl ?_ ..
    | with_reducible refine foot_setRegB (blk_CLK_FDDLY_DLY ..) rfl ?_ ..
    | with_reducible refine foot_setRegB (blk_CLK_STAT_FD_CLK_OK ..) rfl ?_ ..
    | with_reducible refine Foot.forN (fun _ _ _ => ?_) ?_
    | split
    | dsimp only

theorem foot_identify {m : Nat} {z t : State} (hs : 0x400004000 ||| m = m) (h : Foot m z t) :
    Foot m z (State.identify t) := by
  refine ⟨?_, h.regs, h.memWf, h.regsWf, h.fuses.trans ⟨fun _ x => x, fun _ x => x, fun _ => Nat.le_refl _, fun _ => rfl⟩, h.free⟩
  have hb : m.testBit 34 = true := bit_in (b := 0x400004000) rfl hs rfl
  have hc : m.testBit 14 = true := bit_in (b := 0x400004000) rfl hs rfl
  refine Eq.trans ?_ h.hidden
  simp only [blank, State.identify, hb, hc, if_true]

theorem foot_dawnSec {m : Nat} {z t : State} (hs : 0x72280504a4ea4f80 ||| m = m) (h : Foot m z t) (a0 : _) :
    Foot m z (State.dawnSec a0 t) := by
  refine Foot.step (m := 0x72280504a4ea4f80) ?_ hs h
  clear h hs
  have h := Foot.refl 0x72280504a4ea4f80 t
  unfold State.dawnSec
  repeat' first
    | with_reducible assumption
    | (intro x; first
        | (refine Foot.cut (P := Foot 0x72280504a4ea4f80 t x) ?_ ?_; rotate_left; subst x; rotate_left; intro hx; clear_value x)
        | (refine Foot.cut (P := PairFoot 0x72280504a4ea4f80 t x) ?_ ?_; rotate_left; subst x; rotate_left; intro hx; clear_value x)
        | (refine Foot.cut (P := OptFoot 0x72280504a4ea4f80 t x) ?_ ?_; rotate_left; subst x; rotate_left; intro hx; clear_value x)
        | (have hf := x.programmed; clear hf)
        | clear_value x
        | skip)
    | lift_lets
    | with_reducible refine foot_fuseShow rfl ?_ ..
    | with_reducible refine foot_identify rfl ?_ ..
    | with_reducible refine foot_raise rfl ?_ ..
    | with_reducible refine Foot.foldl (fun _ _ _ => ?_) ?_
    | with_reducible refine PairFoot.foldl (fun _ _ _ => ?_) ?_
    | with_reducible apply Foot.ite
    | with_reducible apply PairFoot.ite
    | with_reducible apply OptFoot.ite
    | with_reducible apply OutFoot.ite
    | with_reducible apply ExFoot.ite
    | with_reducible exact ExFoot.error
    | with_reducible refine ExFoot.ok ?_
    | with_reducible refine PairFoot.forL (fun _ _ _ => ?_) ?_
    | with_reducible refine PairFoot.forN (fun _ _ _ => ?_) ?_
    | with_reducible refine OptFoot.some ?_
    | with_reducible exact OptFoot.none
    | with_reducible refine OutFoot.next ?_
    | with_reducible refine OptFoot.getD ?_ ?_
    | with_reducible refine PairFoot.snd ?_
    | with_reducible exact PairFoot.out (by assumption)
    | with_reducible refine PairFoot.eq (by assumption) ?_
    | with_reducible refine OptFoot.eq (by assumption) ?_
    | with_reducible refine ExFoot.eq (by assumption) ?_
    | ((with_reducible refine Foot.lit ?_ rfl rfl ?_ ?_ ?_ ?_ ?_ ?_); rotate_left; rfl; rfl; rfl; rfl; (first | exact Nat.le_refl _ | exact Nat.le_succ _); (constructor <;> first | with_reducible exact Kept.same | exact Kept.masked rfl); (first | with_reducible assumption | with_reducible refine foot_fuseShow rfl ?_ .. | with_reducible refine foot_identify rfl ?_ .. | with_reducible refine foot_raise rfl ?_ .. | with_reducible refine Foot.foldl (fun _ _ _ => ?_) ?_ | with_reducible refine PairFoot.foldl (fun _ _ _ => ?_) ?_ | with_reducible apply Foot.ite | with_reducible apply PairFoot.ite | with_reducible apply OptFoot.ite | with_reducible apply OutFoot.ite | with_reducible apply ExFoot.ite | with_reducible exact ExFoot.error | with_reducible refine ExFoot.ok ?_ | with_reducible refine PairFoot.forL (fun _ _ _ => ?_) ?_ | with_reducible refine PairFoot.forN (fun _ _ _ => ?_) ?_ | with_reducible refine OptFoot.some ?_ | with_reducible exact OptFoot.none | with_reducible refine OutFoot.next ?_ | with_reducible refine OptFoot.getD ?_ ?_ | with_reducible refine PairFoot.snd ?_))
    | split
    | with_reducible refine PairFoot.mk ?_
    | dsimp only

theorem foot_dawnConfig {m : Nat} {z t : State} (hs : 0x40400000000 ||| m = m) (h : Foot m z t) :
    Foot m z (State.dawnConfig t) := by
  refine Foot.step (m := 0x40400000000) ?_ hs h
  clear h hs
  have h := Foot.refl 0x40400000000 t
  unfold State.dawnConfig
  repeat' first
    | with_reducible assumption
    | (intro x; first
        | (refine Foot.cut (P := Foot 0x40400000000 t x) ?_ ?_; rotate_left; subst x; rotate_left; intro hx; clear_value x)
        | (refine Foot.cut (P := PairFoot 0x40400000000 t x) ?_ ?_; rotate_left; subst x; rotate_left; intro hx; clear_value x)
        | (refine Foot.cut (P := OptFoot 0x40400000000 t x) ?_ ?_; rotate_left; subst x; rotate_left; intro hx; clear_value x)
        | (have hf := x.programmed; clear hf)
        | clear_value x
        | skip)
    | lift_lets
    | with_reducible refine foot_burn rfl ?_ ..
    | with_reducible refine Foot.foldl (fun _ _ _ => ?_) ?_
    | with_reducible refine PairFoot.foldl (fun _ _ _ => ?_) ?_
    | with_reducible apply Foot.ite
    | with_reducible apply PairFoot.ite
    | with_reducible apply OptFoot.ite
    | with_reducible apply OutFoot.ite
    | with_reducible apply ExFoot.ite
    | with_reducible exact ExFoot.error
    | with_reducible refine ExFoot.ok ?_
    | with_reducible refine PairFoot.forL (fun _ _ _ => ?_) ?_
    | with_reducible refine PairFoot.forN (fun _ _ _ => ?_) ?_
    | with_reducible refine OptFoot.some ?_
    | with_reducible exact OptFoot.none
    | with_reducible refine OutFoot.next ?_
    | with_reducible refine OptFoot.getD ?_ ?_
    | with_reducible refine PairFoot.snd ?_
    | with_reducible exact PairFoot.out (by assumption)
    | with_reducible refine PairFoot.eq (by assumption) ?_
    | with_reducible refine OptFoot.eq (by assumption) ?_
    | with_reducible refine ExFoot.eq (by assumption) ?_
    | ((with_reducible refine Foot.lit ?_ rfl rfl ?_ ?_ ?_ ?_ ?_ ?_); rotate_left; rfl; rfl; rfl; rfl; (first | exact Nat.le_refl _ | exact Nat.le_succ _); (constructor <;> first | with_reducible exact Kept.same | exact Kept.masked rfl); (first | with_reducible assumption | with_reducible refine foot_burn rfl ?_ .. | with_reducible refine Foot.foldl (fun _ _ _ => ?_) ?_ | with_reducible refine PairFoot.foldl (fun _ _ _ => ?_) ?_ | with_reducible apply Foot.ite | with_reducible apply PairFoot.ite | with_reducible apply OptFoot.ite | with_reducible apply OutFoot.ite | with_reducible apply ExFoot.ite | with_reducible exact ExFoot.error | with_reducible refine ExFoot.ok ?_ | with_reducible refine PairFoot.forL (fun _ _ _ => ?_) ?_ | with_reducible refine PairFoot.forN (fun _ _ _ => ?_) ?_ | with_reducible refine OptFoot.some ?_ | with_reducible exact OptFoot.none | with_reducible refine OutFoot.next ?_ | with_reducible refine OptFoot.getD ?_ ?_ | with_reducible refine PairFoot.snd ?_))
    | split
    | with_reducible refine PairFoot.mk ?_
    | dsimp only

theorem foot_dawnSeal {m : Nat} {z t : State} (hs : 0x4000000000800000 ||| m = m) (h : Foot m z t) (a0 : _) (a1 : _) :
    Foot m z (State.dawnSeal a0 a1 t) := by
  refine Foot.step (m := 0x4000000000800000) ?_ hs h
  clear h hs
  have h := Foot.refl 0x4000000000800000 t
  unfold State.dawnSeal
  repeat' first
    | with_reducible assumption
    | (intro x; first | (refine Foot.cut (P := Foot 0x4000000000800000 t x) ?_ ?_; rotate_left; subst x; rotate_left; intro hx; clear_value x) | clear_value x | skip)
    | lift_lets
    | with_reducible refine foot_modDie rfl ?_ ..
    | with_reducible refine foot_setFld (blk_DIE_STAT_SEAL_OK ..) rfl ?_ ..
    | with_reducible refine foot_setFld (blk_SEAL_STAT_FAIL ..) rfl ?_ ..
    | with_reducible refine foot_setFld (blk_SEAL_STAT_SIGNER ..) rfl ?_ ..
    | with_reducible refine foot_setFld (blk_SEAL_STAT_SEAL_CNT ..) rfl ?_ ..
    | with_reducible refine foot_setFlag (blk_DIE_STAT_SEAL_OK ..) rfl ?_ ..
    | with_reducible refine foot_setFlag (blk_SEAL_STAT_FAIL ..) rfl ?_ ..
    | with_reducible refine foot_setFlag (blk_SEAL_STAT_SIGNER ..) rfl ?_ ..
    | with_reducible refine foot_setFlag (blk_SEAL_STAT_SEAL_CNT ..) rfl ?_ ..
    | with_reducible apply Foot.ite
    | split
    | dsimp only

theorem foot_dawnDie {m : Nat} {z t : State} (hs : 0x72280100a5ea4f80 ||| m = m) (h : Foot m z t) (a0 : _) (a1 : _) :
    Foot m z (State.dawnDie a0 a1 t) := by
  refine Foot.step (m := 0x72280100a5ea4f80) ?_ hs h
  clear h hs
  have h := Foot.refl 0x72280100a5ea4f80 t
  unfold State.dawnDie
  repeat' first
    | with_reducible assumption
    | (intro x; first | (refine Foot.cut (P := Foot 0x72280100a5ea4f80 t x) ?_ ?_; rotate_left; subst x; rotate_left; intro hx; clear_value x) | clear_value x | skip)
    | lift_lets
    | with_reducible refine foot_dawnSeal rfl ?_ ..
    | with_reducible refine foot_modDie rfl ?_ ..
    | with_reducible refine foot_sealFactors rfl ?_ ..
    | with_reducible refine foot_modRegion rfl ?_ ..
    | with_reducible refine foot_raiseCond rfl ?_ ..
    | with_reducible refine foot_setFlag (blk_DIE_STAT_CALIMG_OK ..) rfl ?_ ..
    | with_reducible refine Foot.forN (fun _ _ _ => ?_) ?_
    | with_reducible apply Foot.ite
    | split
    | dsimp only

theorem foot_dawnFirmware {m : Nat} {z t : State} (hs : 0x10400005000 ||| m = m) (h : Foot m z t) (a0 : _) :
    Foot m z (State.dawnFirmware a0 t) := by
  refine Foot.step (m := 0x10400005000) ?_ hs h
  clear h hs
  have h := Foot.refl 0x10400005000 t
  unfold State.dawnFirmware
  repeat' first
    | with_reducible assumption
    | (intro x; first
        | (refine Foot.cut (P := Foot 0x10400005000 t x) ?_ ?_; rotate_left; subst x; rotate_left; intro hx; clear_value x)
        | (refine Foot.cut (P := PairFoot 0x10400005000 t x) ?_ ?_; rotate_left; subst x; rotate_left; intro hx; clear_value x)
        | (refine Foot.cut (P := OptFoot 0x10400005000 t x) ?_ ?_; rotate_left; subst x; rotate_left; intro hx; clear_value x)
        | (have hf := x.programmed; clear hf)
        | clear_value x
        | skip)
    | lift_lets
    | with_reducible refine foot_fwShow rfl ?_ ..
    | with_reducible refine Foot.foldl (fun _ _ _ => ?_) ?_
    | with_reducible refine PairFoot.foldl (fun _ _ _ => ?_) ?_
    | with_reducible apply Foot.ite
    | with_reducible apply PairFoot.ite
    | with_reducible apply OptFoot.ite
    | with_reducible apply OutFoot.ite
    | with_reducible apply ExFoot.ite
    | with_reducible exact ExFoot.error
    | with_reducible refine ExFoot.ok ?_
    | with_reducible refine PairFoot.forL (fun _ _ _ => ?_) ?_
    | with_reducible refine PairFoot.forN (fun _ _ _ => ?_) ?_
    | with_reducible refine OptFoot.some ?_
    | with_reducible exact OptFoot.none
    | with_reducible refine OutFoot.next ?_
    | with_reducible refine OptFoot.getD ?_ ?_
    | with_reducible refine PairFoot.snd ?_
    | with_reducible exact PairFoot.out (by assumption)
    | with_reducible refine PairFoot.eq (by assumption) ?_
    | with_reducible refine OptFoot.eq (by assumption) ?_
    | with_reducible refine ExFoot.eq (by assumption) ?_
    | ((with_reducible refine Foot.lit ?_ rfl rfl ?_ ?_ ?_ ?_ ?_ ?_); rotate_left; rfl; rfl; rfl; rfl; (first | exact Nat.le_refl _ | exact Nat.le_succ _); (constructor <;> first | with_reducible exact Kept.same | exact Kept.masked rfl); (first | with_reducible assumption | with_reducible refine foot_fwShow rfl ?_ .. | with_reducible refine Foot.foldl (fun _ _ _ => ?_) ?_ | with_reducible refine PairFoot.foldl (fun _ _ _ => ?_) ?_ | with_reducible apply Foot.ite | with_reducible apply PairFoot.ite | with_reducible apply OptFoot.ite | with_reducible apply OutFoot.ite | with_reducible apply ExFoot.ite | with_reducible exact ExFoot.error | with_reducible refine ExFoot.ok ?_ | with_reducible refine PairFoot.forL (fun _ _ _ => ?_) ?_ | with_reducible refine PairFoot.forN (fun _ _ _ => ?_) ?_ | with_reducible refine OptFoot.some ?_ | with_reducible exact OptFoot.none | with_reducible refine OutFoot.next ?_ | with_reducible refine OptFoot.getD ?_ ?_ | with_reducible refine PairFoot.snd ?_))
    | split
    | with_reducible refine PairFoot.mk ?_
    | dsimp only

theorem foot_dawnDevices {m : Nat} {z t : State} (hs : 0x72284100a4ea6f80 ||| m = m) (h : Foot m z t) (a0 : _) :
    Foot m z (State.dawnDevices a0 t) := by
  refine Foot.step (m := 0x72284100a4ea6f80) ?_ hs h
  clear h hs
  have h := Foot.refl 0x72284100a4ea6f80 t
  unfold State.dawnDevices
  repeat' first
    | with_reducible assumption
    | (intro x; first | (refine Foot.cut (P := Foot 0x72284100a4ea6f80 t x) ?_ ?_; rotate_left; subst x; rotate_left; intro hx; clear_value x) | clear_value x | skip)
    | lift_lets
    | with_reducible refine foot_raise rfl ?_ ..
    | with_reducible refine foot_setFlag (blk_JNL_STAT_DEGRADED ..) rfl ?_ ..
    | with_reducible apply Foot.ite
    | ((with_reducible refine Foot.lit ?_ rfl rfl ?_ ?_ ?_ ?_ ?_ ?_); rotate_left; rfl; rfl; rfl; rfl; (first | exact Nat.le_refl _ | exact Nat.le_succ _); (constructor <;> first | with_reducible exact Kept.same | exact Kept.masked rfl); (first | with_reducible assumption | with_reducible refine foot_raise rfl ?_ .. | with_reducible refine foot_setFlag (blk_JNL_STAT_DEGRADED ..) rfl ?_ .. | with_reducible apply Foot.ite))
    | split
    | dsimp only

theorem foot_dawnJournal {m : Nat} {z t : State} (hs : 0x72284100a4ea6f80 ||| m = m) (h : Foot m z t) (a0 : _) :
    Foot m z (State.dawnJournal a0 t) := by
  refine Foot.step (m := 0x72284100a4ea6f80) ?_ hs h
  clear h hs
  have h := Foot.refl 0x72284100a4ea6f80 t
  unfold State.dawnJournal
  repeat' first
    | with_reducible assumption
    | (intro x; first | clear_value x | skip)
    | lift_lets
    | with_reducible refine foot_dawnDevices rfl ?_ ..
    | with_reducible refine foot_raise rfl ?_ ..
    | with_reducible refine foot_setFld (blk_JNL_STAT_DEV_OK ..) rfl ?_ ..
    | with_reducible refine foot_setFld (blk_JNL_DEVSIZE_SIZE1 ..) rfl ?_ ..
    | with_reducible refine foot_setFld (blk_JNL_DEVSIZE_SIZE0 ..) rfl ?_ ..
    | with_reducible refine foot_setFld (blk_JNL_STAT_CHAIN_OK ..) rfl ?_ ..
    | with_reducible refine foot_setFld (blk_JNL_STAT_CKPT_OK ..) rfl ?_ ..
    | with_reducible refine foot_setFlag (blk_JNL_STAT_DEV_OK ..) rfl ?_ ..
    | with_reducible refine foot_setFlag (blk_JNL_DEVSIZE_SIZE1 ..) rfl ?_ ..
    | with_reducible refine foot_setFlag (blk_JNL_DEVSIZE_SIZE0 ..) rfl ?_ ..
    | with_reducible refine foot_setFlag (blk_JNL_STAT_CHAIN_OK ..) rfl ?_ ..
    | with_reducible refine foot_setFlag (blk_JNL_STAT_CKPT_OK ..) rfl ?_ ..
    | with_reducible apply Foot.ite
    | ((with_reducible refine Foot.lit ?_ rfl rfl ?_ ?_ ?_ ?_ ?_ ?_); rotate_left; rfl; rfl; rfl; rfl; (first | exact Nat.le_refl _ | exact Nat.le_succ _); (constructor <;> first | with_reducible exact Kept.same | exact Kept.masked rfl); (first | with_reducible assumption | with_reducible refine foot_dawnDevices rfl ?_ .. | with_reducible refine foot_raise rfl ?_ .. | with_reducible refine foot_setFld (blk_JNL_STAT_DEV_OK ..) rfl ?_ .. | with_reducible refine foot_setFld (blk_JNL_DEVSIZE_SIZE1 ..) rfl ?_ .. | with_reducible refine foot_setFld (blk_JNL_DEVSIZE_SIZE0 ..) rfl ?_ .. | with_reducible refine foot_setFld (blk_JNL_STAT_CHAIN_OK ..) rfl ?_ .. | with_reducible refine foot_setFld (blk_JNL_STAT_CKPT_OK ..) rfl ?_ .. | with_reducible refine foot_setFlag (blk_JNL_STAT_DEV_OK ..) rfl ?_ .. | with_reducible refine foot_setFlag (blk_JNL_DEVSIZE_SIZE1 ..) rfl ?_ .. | with_reducible refine foot_setFlag (blk_JNL_DEVSIZE_SIZE0 ..) rfl ?_ .. | with_reducible refine foot_setFlag (blk_JNL_STAT_CHAIN_OK ..) rfl ?_ .. | with_reducible refine foot_setFlag (blk_JNL_STAT_CKPT_OK ..) rfl ?_ .. | with_reducible apply Foot.ite))
    | split
    | dsimp only

theorem foot_dawnProgram {m : Nat} {z t : State} (hs : 0x72284104a4ea4f88 ||| m = m) (h : Foot m z t) (a0 : _) :
    Foot m z (State.dawnProgram a0 t) := by
  refine Foot.step (m := 0x72284104a4ea4f88) ?_ hs h
  clear h hs
  have h := Foot.refl 0x72284104a4ea4f88 t
  unfold State.dawnProgram
  repeat' first
    | with_reducible assumption
    | (intro x; first
        | (refine Foot.cut (P := Foot 0x72284104a4ea4f88 t x) ?_ ?_; rotate_left; subst x; rotate_left; intro hx; clear_value x)
        | (refine Foot.cut (P := PairFoot 0x72284104a4ea4f88 t x) ?_ ?_; rotate_left; subst x; rotate_left; intro hx; clear_value x)
        | (refine Foot.cut (P := OptFoot 0x72284104a4ea4f88 t x) ?_ ?_; rotate_left; subst x; rotate_left; intro hx; clear_value x)
        | (have hf := x.programmed; clear hf)
        | clear_value x
        | skip)
    | lift_lets
    | with_reducible refine foot_initData rfl ?_ ..
    | with_reducible refine foot_putImage rfl ?_ ..
    | with_reducible refine foot_setFld (blk_JNL_RETAIN_BYTES ..) rfl ?_ ..
    | with_reducible refine Foot.foldl (fun _ _ _ => ?_) ?_
    | with_reducible refine PairFoot.foldl (fun _ _ _ => ?_) ?_
    | with_reducible apply Foot.ite
    | with_reducible apply PairFoot.ite
    | with_reducible apply OptFoot.ite
    | with_reducible apply OutFoot.ite
    | with_reducible apply ExFoot.ite
    | with_reducible exact ExFoot.error
    | with_reducible refine ExFoot.ok ?_
    | with_reducible refine PairFoot.forL (fun _ _ _ => ?_) ?_
    | with_reducible refine PairFoot.forN (fun _ _ _ => ?_) ?_
    | with_reducible refine OptFoot.some ?_
    | with_reducible exact OptFoot.none
    | with_reducible refine OutFoot.next ?_
    | with_reducible refine OptFoot.getD ?_ ?_
    | with_reducible refine PairFoot.snd ?_
    | with_reducible exact PairFoot.out (by assumption)
    | with_reducible refine PairFoot.eq (by assumption) ?_
    | with_reducible refine OptFoot.eq (by assumption) ?_
    | with_reducible refine ExFoot.eq (by assumption) ?_
    | ((with_reducible refine Foot.lit ?_ rfl rfl ?_ ?_ ?_ ?_ ?_ ?_); rotate_left; rfl; rfl; rfl; rfl; (first | exact Nat.le_refl _ | exact Nat.le_succ _); (constructor <;> first | with_reducible exact Kept.same | exact Kept.masked rfl); (first | with_reducible assumption | with_reducible refine foot_initData rfl ?_ .. | with_reducible refine foot_putImage rfl ?_ .. | with_reducible refine foot_setFld (blk_JNL_RETAIN_BYTES ..) rfl ?_ .. | with_reducible refine Foot.foldl (fun _ _ _ => ?_) ?_ | with_reducible refine PairFoot.foldl (fun _ _ _ => ?_) ?_ | with_reducible apply Foot.ite | with_reducible apply PairFoot.ite | with_reducible apply OptFoot.ite | with_reducible apply OutFoot.ite | with_reducible apply ExFoot.ite | with_reducible exact ExFoot.error | with_reducible refine ExFoot.ok ?_ | with_reducible refine PairFoot.forL (fun _ _ _ => ?_) ?_ | with_reducible refine PairFoot.forN (fun _ _ _ => ?_) ?_ | with_reducible refine OptFoot.some ?_ | with_reducible exact OptFoot.none | with_reducible refine OutFoot.next ?_ | with_reducible refine OptFoot.getD ?_ ?_ | with_reducible refine PairFoot.snd ?_))
    | split
    | with_reducible refine PairFoot.mk ?_
    | dsimp only

theorem foot_dawnIlm {m : Nat} {z t : State} (hs : 0xffffff00a6ea4f80 ||| m = m) (h : Foot m z t) :
    Foot m z (State.dawnIlm t) := by
  refine Foot.step (m := 0xffffff00a6ea4f80) ?_ hs h
  clear h hs
  have h := Foot.refl 0xffffff00a6ea4f80 t
  unfold State.dawnIlm
  repeat' first
    | with_reducible assumption
    | (intro x; first | (refine Foot.cut (P := Foot 0xffffff00a6ea4f80 t x) ?_ ?_; rotate_left; subst x; rotate_left; intro hx; clear_value x) | clear_value x | skip)
    | lift_lets
    | with_reducible refine foot_ilmEval rfl ?_ ..
    | with_reducible refine foot_raise rfl ?_ ..
    | with_reducible refine foot_ilmLoad rfl ?_ ..
    | with_reducible refine foot_setFld (blk_ILM_STAT_LOADED ..) rfl ?_ ..
    | with_reducible refine foot_setFld (blk_ILM_STAT_DEMOTED ..) rfl ?_ ..
    | with_reducible refine foot_setFld (blk_ILM_STAT_GLOBAL ..) rfl ?_ ..
    | with_reducible refine foot_setFlag (blk_ILM_STAT_LOADED ..) rfl ?_ ..
    | with_reducible refine foot_setFlag (blk_ILM_STAT_DEMOTED ..) rfl ?_ ..
    | with_reducible refine foot_setFlag (blk_ILM_STAT_GLOBAL ..) rfl ?_ ..
    | with_reducible refine foot_setFbitAll rfl ?_ ..
    | with_reducible refine foot_setRegAll rfl ?_ ..
    | with_reducible refine Foot.forL (fun _ _ _ => ?_) ?_
    | with_reducible apply Foot.ite
    | ((with_reducible refine Foot.lit ?_ rfl rfl ?_ ?_ ?_ ?_ ?_ ?_); rotate_left; rfl; rfl; rfl; rfl; (first | exact Nat.le_refl _ | exact Nat.le_succ _); (constructor <;> first | with_reducible exact Kept.same | exact Kept.masked rfl); (first | with_reducible assumption | with_reducible refine foot_ilmEval rfl ?_ .. | with_reducible refine foot_raise rfl ?_ .. | with_reducible refine foot_ilmLoad rfl ?_ .. | with_reducible refine foot_setFld (blk_ILM_STAT_LOADED ..) rfl ?_ .. | with_reducible refine foot_setFld (blk_ILM_STAT_DEMOTED ..) rfl ?_ .. | with_reducible refine foot_setFld (blk_ILM_STAT_GLOBAL ..) rfl ?_ .. | with_reducible refine foot_setFlag (blk_ILM_STAT_LOADED ..) rfl ?_ .. | with_reducible refine foot_setFlag (blk_ILM_STAT_DEMOTED ..) rfl ?_ .. | with_reducible refine foot_setFlag (blk_ILM_STAT_GLOBAL ..) rfl ?_ .. | with_reducible refine foot_setFbitAll rfl ?_ .. | with_reducible refine foot_setRegAll rfl ?_ .. | with_reducible refine Foot.forL (fun _ _ _ => ?_) ?_ | with_reducible apply Foot.ite))
    | split
    | dsimp only

theorem foot_dawnVault {m : Nat} {z t : State} (hs : 0x10000000300 ||| m = m) (h : Foot m z t) :
    Foot m z (State.dawnVault t) := by
  refine Foot.step (m := 0x10000000300) ?_ hs h
  clear h hs
  have h := Foot.refl 0x10000000300 t
  unfold State.dawnVault
  repeat' first
    | with_reducible assumption
    | (intro x; first | (refine Foot.cut (P := Foot 0x10000000300 t x) ?_ ?_; rotate_left; subst x; rotate_left; intro hx; clear_value x) | clear_value x | skip)
    | lift_lets
    | with_reducible refine foot_evlWrite rfl ?_ ..
    | with_reducible refine foot_setFld2 (blk_SYS_OUTAGE_LO_TICKS_LO ..) rfl (blk_SYS_OUTAGE_HI_TICKS_HI ..) rfl ?_ ..
    | with_reducible refine foot_setFld2 (blk_SYS_OUTAGE_HI_TICKS_HI ..) rfl (blk_SYS_OUTAGE_LO_TICKS_LO ..) rfl ?_ ..
    | ((with_reducible refine Foot.lit ?_ rfl rfl ?_ ?_ ?_ ?_ ?_ ?_); rotate_left; rfl; rfl; rfl; rfl; (first | exact Nat.le_refl _ | exact Nat.le_succ _); (constructor <;> first | with_reducible exact Kept.same | exact Kept.masked rfl); (first | with_reducible assumption | with_reducible refine foot_evlWrite rfl ?_ .. | with_reducible refine foot_setFld2 (blk_SYS_OUTAGE_LO_TICKS_LO ..) rfl (blk_SYS_OUTAGE_HI_TICKS_HI ..) rfl ?_ .. | with_reducible refine foot_setFld2 (blk_SYS_OUTAGE_HI_TICKS_HI ..) rfl (blk_SYS_OUTAGE_LO_TICKS_LO ..) rfl ?_ ..))
    | split
    | dsimp only

theorem foot_spoilRecords {m : Nat} {z t : State} (hs : 0x1000 ||| m = m) (h : Foot m z t) (a0 : _) :
    Foot m z (State.spoilRecords a0 t) := by
  refine Foot.step (m := 0x1000) ?_ hs h
  clear h hs
  have h := Foot.refl 0x1000 t
  unfold State.spoilRecords
  repeat' first
    | with_reducible assumption
    | (intro x; first | clear_value x | skip)
    | lift_lets
    | with_reducible refine Foot.forL (fun _ _ _ => ?_) ?_
    | with_reducible apply Foot.ite
    | ((with_reducible refine Foot.lit ?_ rfl rfl ?_ ?_ ?_ ?_ ?_ ?_); rotate_left; rfl; rfl; rfl; rfl; (first | exact Nat.le_refl _ | exact Nat.le_succ _); (constructor <;> first | with_reducible exact Kept.same | exact Kept.masked rfl); (first | with_reducible assumption | with_reducible refine Foot.forL (fun _ _ _ => ?_) ?_ | with_reducible apply Foot.ite))
    | split
    | dsimp only

theorem foot_dropSlots {m : Nat} {z t : State} (hs : 0x100 ||| m = m) (h : Foot m z t) (a0 : _) :
    Foot m z (State.dropSlots a0 t) := by
  refine Foot.step (m := 0x100) ?_ hs h
  clear h hs
  have h := Foot.refl 0x100 t
  unfold State.dropSlots
  repeat' first
    | with_reducible assumption
    | (intro x; first
        | (refine Foot.cut (P := Foot 0x100 t x) ?_ ?_; rotate_left; subst x; rotate_left; intro hx; clear_value x)
        | (refine Foot.cut (P := PairFoot 0x100 t x) ?_ ?_; rotate_left; subst x; rotate_left; intro hx; clear_value x)
        | (refine Foot.cut (P := OptFoot 0x100 t x) ?_ ?_; rotate_left; subst x; rotate_left; intro hx; clear_value x)
        | (have hf := x.programmed; clear hf)
        | clear_value x
        | skip)
    | lift_lets
    | with_reducible refine Foot.foldl (fun _ _ _ => ?_) ?_
    | with_reducible refine PairFoot.foldl (fun _ _ _ => ?_) ?_
    | with_reducible apply Foot.ite
    | with_reducible apply PairFoot.ite
    | with_reducible apply OptFoot.ite
    | with_reducible apply OutFoot.ite
    | with_reducible apply ExFoot.ite
    | with_reducible exact ExFoot.error
    | with_reducible refine ExFoot.ok ?_
    | with_reducible refine PairFoot.forL (fun _ _ _ => ?_) ?_
    | with_reducible refine PairFoot.forN (fun _ _ _ => ?_) ?_
    | with_reducible refine OptFoot.some ?_
    | with_reducible exact OptFoot.none
    | with_reducible refine OutFoot.next ?_
    | with_reducible refine OptFoot.getD ?_ ?_
    | with_reducible refine PairFoot.snd ?_
    | with_reducible exact PairFoot.out (by assumption)
    | with_reducible refine PairFoot.eq (by assumption) ?_
    | with_reducible refine OptFoot.eq (by assumption) ?_
    | with_reducible refine ExFoot.eq (by assumption) ?_
    | ((with_reducible refine Foot.lit ?_ rfl rfl ?_ ?_ ?_ ?_ ?_ ?_); rotate_left; rfl; rfl; rfl; rfl; (first | exact Nat.le_refl _ | exact Nat.le_succ _); (constructor <;> first | with_reducible exact Kept.same | exact Kept.masked rfl); (first | with_reducible assumption | with_reducible refine Foot.foldl (fun _ _ _ => ?_) ?_ | with_reducible refine PairFoot.foldl (fun _ _ _ => ?_) ?_ | with_reducible apply Foot.ite | with_reducible apply PairFoot.ite | with_reducible apply OptFoot.ite | with_reducible apply OutFoot.ite | with_reducible apply ExFoot.ite | with_reducible exact ExFoot.error | with_reducible refine ExFoot.ok ?_ | with_reducible refine PairFoot.forL (fun _ _ _ => ?_) ?_ | with_reducible refine PairFoot.forN (fun _ _ _ => ?_) ?_ | with_reducible refine OptFoot.some ?_ | with_reducible exact OptFoot.none | with_reducible refine OutFoot.next ?_ | with_reducible refine OptFoot.getD ?_ ?_ | with_reducible refine PairFoot.snd ?_))
    | split
    | with_reducible refine PairFoot.mk ?_
    | dsimp only

theorem foot_dawnBegin {m : Nat} {z t : State} (hs : 0xffffff3fffffffda ||| m = m) (h : Foot m z t) (a0 : _) :
    Foot m z (State.dawnBegin a0 t) := by
  refine Foot.step (m := 0xffffff3fffffffda) ?_ hs h
  clear h hs
  have h := Foot.refl 0xffffff3fffffffda t
  unfold State.dawnBegin
  repeat' first
    | with_reducible assumption
    | (intro x; first
        | (refine Foot.cut (P := Foot 0xffffff3fffffffda t x) ?_ ?_; rotate_left; subst x; rotate_left; intro hx; clear_value x)
        | (refine Foot.cut (P := PairFoot 0xffffff3fffffffda t x) ?_ ?_; rotate_left; subst x; rotate_left; intro hx; clear_value x)
        | (refine Foot.cut (P := OptFoot 0xffffff3fffffffda t x) ?_ ?_; rotate_left; subst x; rotate_left; intro hx; clear_value x)
        | (have hf := x.programmed; clear hf)
        | clear_value x
        | skip)
    | lift_lets
    | with_reducible refine foot_dawnVault rfl ?_ ..
    | with_reducible refine foot_calRequest rfl ?_ ..
    | with_reducible refine foot_modCluster rfl ?_ ..
    | with_reducible refine foot_dawnClk rfl ?_ ..
    | with_reducible refine foot_dieRefresh rfl ?_ ..
    | with_reducible refine foot_unpowered rfl ?_ ..
    | with_reducible refine foot_dawnSec rfl ?_ ..
    | with_reducible refine foot_recordApply rfl ?_ ..
    | with_reducible refine foot_dawnConfig rfl ?_ ..
    | with_reducible refine foot_dropSlots rfl ?_ ..
    | with_reducible refine foot_dawnDie rfl ?_ ..
    | with_reducible refine foot_calApply rfl ?_ ..
    | with_reducible refine foot_dawnFirmware rfl ?_ ..
    | with_reducible refine foot_spoilRecords rfl ?_ ..
    | with_reducible refine foot_raise rfl ?_ ..
    | with_reducible refine foot_dawnProgram rfl ?_ ..
    | with_reducible refine foot_regionRefresh rfl ?_ ..
    | with_reducible refine foot_dawnIlm rfl ?_ ..
    | with_reducible refine foot_dawnJournal rfl ?_ ..
    | with_reducible refine foot_setFlag (blk_NET_STAT_LINK_UP ..) rfl ?_ ..
    | with_reducible refine foot_setFlag (blk_NET_STAT_SPEED10G ..) rfl ?_ ..
    | with_reducible refine foot_setFlag (blk_CL_STAT_REF_SETTLED ..) rfl ?_ ..
    | with_reducible refine Foot.forL (fun _ _ _ => ?_) ?_
    | with_reducible refine Foot.forN (fun _ _ _ => ?_) ?_
    | with_reducible refine Foot.foldl (fun _ _ _ => ?_) ?_
    | with_reducible refine PairFoot.foldl (fun _ _ _ => ?_) ?_
    | with_reducible apply Foot.ite
    | with_reducible apply PairFoot.ite
    | with_reducible apply OptFoot.ite
    | with_reducible apply OutFoot.ite
    | with_reducible apply ExFoot.ite
    | with_reducible exact ExFoot.error
    | with_reducible refine ExFoot.ok ?_
    | with_reducible refine PairFoot.forL (fun _ _ _ => ?_) ?_
    | with_reducible refine PairFoot.forN (fun _ _ _ => ?_) ?_
    | with_reducible refine OptFoot.some ?_
    | with_reducible exact OptFoot.none
    | with_reducible refine OutFoot.next ?_
    | with_reducible refine OptFoot.getD ?_ ?_
    | with_reducible refine PairFoot.snd ?_
    | with_reducible exact PairFoot.out (by assumption)
    | with_reducible refine PairFoot.eq (by assumption) ?_
    | with_reducible refine OptFoot.eq (by assumption) ?_
    | with_reducible refine ExFoot.eq (by assumption) ?_
    | ((with_reducible refine Foot.lit ?_ rfl rfl ?_ ?_ ?_ ?_ ?_ ?_); rotate_left; rfl; rfl; rfl; rfl; (first | exact Nat.le_refl _ | exact Nat.le_succ _); (constructor <;> first | with_reducible exact Kept.same | exact Kept.masked rfl); (first | with_reducible assumption | with_reducible refine foot_dawnVault rfl ?_ .. | with_reducible refine foot_calRequest rfl ?_ .. | with_reducible refine foot_modCluster rfl ?_ .. | with_reducible refine foot_dawnClk rfl ?_ .. | with_reducible refine foot_dieRefresh rfl ?_ .. | with_reducible refine foot_unpowered rfl ?_ .. | with_reducible refine foot_dawnSec rfl ?_ .. | with_reducible refine foot_recordApply rfl ?_ .. | with_reducible refine foot_dawnConfig rfl ?_ .. | with_reducible refine foot_dropSlots rfl ?_ .. | with_reducible refine foot_dawnDie rfl ?_ .. | with_reducible refine foot_calApply rfl ?_ .. | with_reducible refine foot_dawnFirmware rfl ?_ .. | with_reducible refine foot_spoilRecords rfl ?_ .. | with_reducible refine foot_raise rfl ?_ .. | with_reducible refine foot_dawnProgram rfl ?_ .. | with_reducible refine foot_regionRefresh rfl ?_ .. | with_reducible refine foot_dawnIlm rfl ?_ .. | with_reducible refine foot_dawnJournal rfl ?_ .. | with_reducible refine foot_setFlag (blk_NET_STAT_LINK_UP ..) rfl ?_ .. | with_reducible refine foot_setFlag (blk_NET_STAT_SPEED10G ..) rfl ?_ .. | with_reducible refine foot_setFlag (blk_CL_STAT_REF_SETTLED ..) rfl ?_ .. | with_reducible refine Foot.forL (fun _ _ _ => ?_) ?_ | with_reducible refine Foot.forN (fun _ _ _ => ?_) ?_ | with_reducible refine Foot.foldl (fun _ _ _ => ?_) ?_ | with_reducible refine PairFoot.foldl (fun _ _ _ => ?_) ?_ | with_reducible apply Foot.ite | with_reducible apply PairFoot.ite | with_reducible apply OptFoot.ite | with_reducible apply OutFoot.ite | with_reducible apply ExFoot.ite | with_reducible exact ExFoot.error | with_reducible refine ExFoot.ok ?_ | with_reducible refine PairFoot.forL (fun _ _ _ => ?_) ?_ | with_reducible refine PairFoot.forN (fun _ _ _ => ?_) ?_ | with_reducible refine OptFoot.some ?_ | with_reducible exact OptFoot.none | with_reducible refine OutFoot.next ?_ | with_reducible refine OptFoot.getD ?_ ?_ | with_reducible refine PairFoot.snd ?_))
    | split
    | with_reducible refine PairFoot.mk ?_
    | dsimp only

theorem foot_execSuppliesValid {m : Nat} {z t : State} (hs : 0xffffff3fffffffda ||| m = m) (h : Foot m z t) (a0 : _) :
    OutFoot m z (execSuppliesValid a0 t) := by
  refine OutFoot.step (m := 0xffffff3fffffffda) ?_ hs h
  clear h hs
  have h := Foot.refl 0xffffff3fffffffda t
  unfold execSuppliesValid
  repeat' first
    | with_reducible assumption
    | (intro x; first | clear_value x | skip)
    | lift_lets
    | with_reducible refine foot_dawnBegin rfl ?_ ..
    | with_reducible apply Foot.ite
    | with_reducible refine OutFoot.next ?_
    | split
    | dsimp only

theorem foot_execCoreCooled {m : Nat} {z t : State} (hs : 0xffffff3fffffffda ||| m = m) (h : Foot m z t) (a0 : _) :
    OutFoot m z (execCoreCooled a0 t) := by
  refine OutFoot.step (m := 0xffffff3fffffffda) ?_ hs h
  clear h hs
  have h := Foot.refl 0xffffff3fffffffda t
  unfold execCoreCooled
  repeat' first
    | with_reducible assumption
    | (intro x; first | clear_value x | skip)
    | lift_lets
    | with_reducible refine foot_dawnBegin rfl ?_ ..
    | with_reducible apply Foot.ite
    | with_reducible refine OutFoot.next ?_
    | split
    | dsimp only

theorem foot_axRestore {m : Nat} {z t : State} (hs : 0x3000000004000000 ||| m = m) (h : Foot m z t) (a0 : _) (a1 : _) :
    Foot m z (State.axRestore a0 a1 t) := by
  refine Foot.step (m := 0x3000000004000000) ?_ hs h
  clear h hs
  have h := Foot.refl 0x3000000004000000 t
  unfold State.axRestore
  repeat' first
    | with_reducible assumption
    | (intro x; first | (refine Foot.cut (P := Foot 0x3000000004000000 t x) ?_ ?_; rotate_left; subst x; rotate_left; intro hx; clear_value x) | clear_value x | skip)
    | lift_lets
    | with_reducible refine foot_axShow rfl ?_ ..
    | with_reducible refine foot_modAxis rfl ?_ ..
    | with_reducible refine foot_setAxState rfl ?_ ..
    | with_reducible refine foot_setAct rfl ?_ ..
    | with_reducible refine foot_setFld (blk_AX_STAT_POS_LOST ..) rfl ?_ ..
    | with_reducible refine foot_setFld (blk_REM_L ..) rfl ?_ ..
    | with_reducible refine foot_setFld (blk_REM_H ..) rfl ?_ ..
    | with_reducible refine foot_setFld (blk_AX_STAT_STOP_CAUSE ..) rfl ?_ ..
    | with_reducible refine foot_setFlag (blk_AX_STAT_POS_LOST ..) rfl ?_ ..
    | with_reducible refine foot_setFlag (blk_REM_L ..) rfl ?_ ..
    | with_reducible refine foot_setFlag (blk_REM_H ..) rfl ?_ ..
    | with_reducible refine foot_setFlag (blk_AX_STAT_STOP_CAUSE ..) rfl ?_ ..
    | with_reducible refine foot_setFld48 (blk_AX_STAT_POS_LOST ..) rfl (blk_AX_STAT_POS_LOST ..) rfl ?_ ..
    | with_reducible refine foot_setFld48 (blk_AX_STAT_POS_LOST ..) rfl (blk_REM_L ..) rfl ?_ ..
    | with_reducible refine foot_setFld48 (blk_AX_STAT_POS_LOST ..) rfl (blk_REM_H ..) rfl ?_ ..
    | with_reducible refine foot_setFld48 (blk_AX_STAT_POS_LOST ..) rfl (blk_AX_STAT_STOP_CAUSE ..) rfl ?_ ..
    | with_reducible refine foot_setFld48 (blk_REM_L ..) rfl (blk_AX_STAT_POS_LOST ..) rfl ?_ ..
    | with_reducible refine foot_setFld48 (blk_REM_L ..) rfl (blk_REM_L ..) rfl ?_ ..
    | with_reducible refine foot_setFld48 (blk_REM_L ..) rfl (blk_REM_H ..) rfl ?_ ..
    | with_reducible refine foot_setFld48 (blk_REM_L ..) rfl (blk_AX_STAT_STOP_CAUSE ..) rfl ?_ ..
    | with_reducible refine foot_setFld48 (blk_REM_H ..) rfl (blk_AX_STAT_POS_LOST ..) rfl ?_ ..
    | with_reducible refine foot_setFld48 (blk_REM_H ..) rfl (blk_REM_L ..) rfl ?_ ..
    | with_reducible refine foot_setFld48 (blk_REM_H ..) rfl (blk_REM_H ..) rfl ?_ ..
    | with_reducible refine foot_setFld48 (blk_REM_H ..) rfl (blk_AX_STAT_STOP_CAUSE ..) rfl ?_ ..
    | with_reducible refine foot_setFld48 (blk_AX_STAT_STOP_CAUSE ..) rfl (blk_AX_STAT_POS_LOST ..) rfl ?_ ..
    | with_reducible refine foot_setFld48 (blk_AX_STAT_STOP_CAUSE ..) rfl (blk_REM_L ..) rfl ?_ ..
    | with_reducible refine foot_setFld48 (blk_AX_STAT_STOP_CAUSE ..) rfl (blk_REM_H ..) rfl ?_ ..
    | with_reducible refine foot_setFld48 (blk_AX_STAT_STOP_CAUSE ..) rfl (blk_AX_STAT_STOP_CAUSE ..) rfl ?_ ..
    | with_reducible apply Foot.ite
    | split
    | dsimp only

theorem foot_warmApply {m : Nat} {z t : State} (hs : 0x72290900b6ea6f88 ||| m = m) (h : Foot m z t) (a0 : _) :
    Foot m z (State.warmApply a0 t) := by
  refine Foot.step (m := 0x72290900b6ea6f88) ?_ hs h
  clear h hs
  have h := Foot.refl 0x72290900b6ea6f88 t
  unfold State.warmApply
  repeat' first
    | with_reducible assumption
    | (intro x; first
        | (refine Foot.cut (P := Foot 0x72290900b6ea6f88 t x) ?_ ?_; rotate_left; subst x; rotate_left; intro hx; clear_value x)
        | (refine Foot.cut (P := PairFoot 0x72290900b6ea6f88 t x) ?_ ?_; rotate_left; subst x; rotate_left; intro hx; clear_value x)
        | (refine Foot.cut (P := OptFoot 0x72290900b6ea6f88 t x) ?_ ?_; rotate_left; subst x; rotate_left; intro hx; clear_value x)
        | (have hf := x.programmed; clear hf)
        | clear_value x
        | skip)
    | lift_lets
    | with_reducible refine foot_ilmEval rfl ?_ ..
    | with_reducible refine foot_learnStop rfl ?_ ..
    | with_reducible refine foot_setWord rfl ?_ ..
    | with_reducible refine foot_seqShow rfl ?_ ..
    | with_reducible refine foot_modSrc rfl ?_ ..
    | with_reducible refine foot_axRestore rfl ?_ ..
    | with_reducible refine foot_forceStat rfl ?_ ..
    | with_reducible refine foot_setHalf rfl ?_ ..
    | with_reducible refine foot_setFld (blk_ILATLOC ..) rfl ?_ ..
    | with_reducible refine Foot.forL (fun _ _ _ => ?_) ?_
    | with_reducible refine Foot.forN (fun _ _ _ => ?_) ?_
    | with_reducible refine Foot.foldl (fun _ _ _ => ?_) ?_
    | with_reducible refine PairFoot.foldl (fun _ _ _ => ?_) ?_
    | with_reducible apply Foot.ite
    | with_reducible apply PairFoot.ite
    | with_reducible apply OptFoot.ite
    | with_reducible apply OutFoot.ite
    | with_reducible apply ExFoot.ite
    | with_reducible exact ExFoot.error
    | with_reducible refine ExFoot.ok ?_
    | with_reducible refine PairFoot.forL (fun _ _ _ => ?_) ?_
    | with_reducible refine PairFoot.forN (fun _ _ _ => ?_) ?_
    | with_reducible refine OptFoot.some ?_
    | with_reducible exact OptFoot.none
    | with_reducible refine OutFoot.next ?_
    | with_reducible refine OptFoot.getD ?_ ?_
    | with_reducible refine PairFoot.snd ?_
    | with_reducible exact PairFoot.out (by assumption)
    | with_reducible refine PairFoot.eq (by assumption) ?_
    | with_reducible refine OptFoot.eq (by assumption) ?_
    | with_reducible refine ExFoot.eq (by assumption) ?_
    | ((with_reducible refine Foot.lit ?_ rfl rfl ?_ ?_ ?_ ?_ ?_ ?_); rotate_left; rfl; rfl; rfl; rfl; (first | exact Nat.le_refl _ | exact Nat.le_succ _); (constructor <;> first | with_reducible exact Kept.same | exact Kept.masked rfl); (first | with_reducible assumption | with_reducible refine foot_ilmEval rfl ?_ .. | with_reducible refine foot_learnStop rfl ?_ .. | with_reducible refine foot_setWord rfl ?_ .. | with_reducible refine foot_seqShow rfl ?_ .. | with_reducible refine foot_modSrc rfl ?_ .. | with_reducible refine foot_axRestore rfl ?_ .. | with_reducible refine foot_forceStat rfl ?_ .. | with_reducible refine foot_setHalf rfl ?_ .. | with_reducible refine foot_setFld (blk_ILATLOC ..) rfl ?_ .. | with_reducible refine Foot.forL (fun _ _ _ => ?_) ?_ | with_reducible refine Foot.forN (fun _ _ _ => ?_) ?_ | with_reducible refine Foot.foldl (fun _ _ _ => ?_) ?_ | with_reducible refine PairFoot.foldl (fun _ _ _ => ?_) ?_ | with_reducible apply Foot.ite | with_reducible apply PairFoot.ite | with_reducible apply OptFoot.ite | with_reducible apply OutFoot.ite | with_reducible apply ExFoot.ite | with_reducible exact ExFoot.error | with_reducible refine ExFoot.ok ?_ | with_reducible refine PairFoot.forL (fun _ _ _ => ?_) ?_ | with_reducible refine PairFoot.forN (fun _ _ _ => ?_) ?_ | with_reducible refine OptFoot.some ?_ | with_reducible exact OptFoot.none | with_reducible refine OutFoot.next ?_ | with_reducible refine OptFoot.getD ?_ ?_ | with_reducible refine PairFoot.snd ?_))
    | split
    | with_reducible refine PairFoot.mk ?_
    | dsimp only

theorem foot_restartShow {m : Nat} {z t : State} (hs : 0x10000000300 ||| m = m) (h : Foot m z t) (a0 : _) (a1 : _) :
    Foot m z (State.restartShow a0 a1 t) := by
  refine Foot.step (m := 0x10000000300) ?_ hs h
  clear h hs
  have h := Foot.refl 0x10000000300 t
  unfold State.restartShow
  repeat' first
    | with_reducible assumption
    | (intro x; first | (refine Foot.cut (P := Foot 0x10000000300 t x) ?_ ?_; rotate_left; subst x; rotate_left; intro hx; clear_value x) | clear_value x | skip)
    | lift_lets
    | with_reducible refine foot_log rfl ?_ ..
    | with_reducible refine foot_setFld (blk_SYS_RESTART_COLD_REASON ..) rfl ?_ ..
    | with_reducible refine foot_setFld (blk_SYS_RESTART_KIND ..) rfl ?_ ..
    | with_reducible refine foot_setFld (blk_SYS_RESTART_DISCARDED ..) rfl ?_ ..
    | with_reducible apply Foot.ite
    | split
    | dsimp only

theorem foot_restartJournal {m : Nat} {z t : State} (hs : 0x400000006200 ||| m = m) (h : Foot m z t) (a0 : _) :
    Foot m z (State.restartJournal a0 t) := by
  refine Foot.step (m := 0x400000006200) ?_ hs h
  clear h hs
  have h := Foot.refl 0x400000006200 t
  unfold State.restartJournal
  repeat' first
    | with_reducible assumption
    | (intro x; first | (refine Foot.cut (P := Foot 0x400000006200 t x) ?_ ?_; rotate_left; subst x; rotate_left; intro hx; clear_value x) | clear_value x | skip)
    | lift_lets
    | with_reducible refine foot_newChain rfl ?_ ..
    | with_reducible apply Foot.ite
    | ((with_reducible refine Foot.lit ?_ rfl rfl ?_ ?_ ?_ ?_ ?_ ?_); rotate_left; rfl; rfl; rfl; rfl; (first | exact Nat.le_refl _ | exact Nat.le_succ _); (constructor <;> first | with_reducible exact Kept.same | exact Kept.masked rfl); (first | with_reducible assumption | with_reducible refine foot_newChain rfl ?_ .. | with_reducible apply Foot.ite))
    | split
    | dsimp only

theorem foot_dawnDecide {m : Nat} {z t : State} (hs : 0x410000006300 ||| m = m) (h : Foot m z t) (a0 : _) :
    Foot m z (State.dawnDecide a0 t) := by
  refine Foot.step (m := 0x410000006300) ?_ hs h
  clear h hs
  have h := Foot.refl 0x410000006300 t
  unfold State.dawnDecide
  repeat' first
    | with_reducible assumption
    | (intro x; first | clear_value x | skip)
    | lift_lets
    | with_reducible refine foot_restartShow rfl ?_ ..
    | with_reducible refine foot_restartJournal rfl ?_ ..
    | split
    | dsimp only

theorem foot_dawnLeave {m : Nat} {z t : State} (hs : 0x72380122e4ea4f80 ||| m = m) (h : Foot m z t) (a0 : _) (a1 : _) :
    Foot m z (State.dawnLeave a0 a1 t) := by
  refine Foot.step (m := 0x72380122e4ea4f80) ?_ hs h
  clear h hs
  have h := Foot.refl 0x72380122e4ea4f80 t
  unfold State.dawnLeave
  repeat' first
    | with_reducible assumption
    | (intro x; first | (refine Foot.cut (P := Foot 0x72380122e4ea4f80 t x) ?_ ?_; rotate_left; subst x; rotate_left; intro hx; clear_value x) | clear_value x | skip)
    | lift_lets
    | with_reducible refine foot_recRecover rfl ?_ ..
    | with_reducible refine foot_changeMode rfl ?_ ..
    | with_reducible refine foot_log rfl ?_ ..
    | with_reducible refine foot_setFld (blk_SYS_DAWN_TIME_DAWN_US ..) rfl ?_ ..
    | with_reducible refine Foot.forL (fun _ _ _ => ?_) ?_
    | ((with_reducible refine Foot.lit ?_ rfl rfl ?_ ?_ ?_ ?_ ?_ ?_); rotate_left; rfl; rfl; rfl; rfl; (first | exact Nat.le_refl _ | exact Nat.le_succ _); (constructor <;> first | with_reducible exact Kept.same | exact Kept.masked rfl); (first | with_reducible assumption | with_reducible refine foot_recRecover rfl ?_ .. | with_reducible refine foot_changeMode rfl ?_ .. | with_reducible refine foot_log rfl ?_ .. | with_reducible refine foot_setFld (blk_SYS_DAWN_TIME_DAWN_US ..) rfl ?_ .. | with_reducible refine Foot.forL (fun _ _ _ => ?_) ?_))
    | split
    | dsimp only

theorem foot_execDawnComplete {m : Nat} {z t : State} (hs : 0x72394922f6ea6f88 ||| m = m) (h : Foot m z t) (a0 : _) (a1 : _) (a2 : _) :
    OutFoot m z (execDawnComplete a0 a1 a2 t) := by
  refine OutFoot.step (m := 0x72394922f6ea6f88) ?_ hs h
  clear h hs
  have h := Foot.refl 0x72394922f6ea6f88 t
  unfold execDawnComplete
  repeat' first
    | with_reducible assumption
    | (intro x; first | (refine Foot.cut (P := Foot 0x72394922f6ea6f88 t x) ?_ ?_; rotate_left; subst x; rotate_left; intro hx; clear_value x) | clear_value x | skip)
    | lift_lets
    | with_reducible refine foot_sentinelStart rfl ?_ ..
    | with_reducible refine foot_modSched rfl ?_ ..
    | with_reducible refine foot_dawnDecide rfl ?_ ..
    | with_reducible refine foot_dawnLeave rfl ?_ ..
    | with_reducible refine foot_warmApply rfl ?_ ..
    | with_reducible apply Foot.ite
    | with_reducible refine OutFoot.next ?_
    | split
    | dsimp only

end Sys2Proof.Machine
end

