-- ==== Sys2Proof/Laws/FootHost.lean ====
section
/-!
SUPPORT. Footprints of the operations of Machine/Host.lean.
-/

set_option Elab.async false

set_option linter.all false

set_option maxRecDepth 4000

namespace Sys2Proof.Machine

theorem foot_modSession {m : Nat} {z t : State} (hs : 0x200000000 ||| m = m) (h : Foot m z t) (a0 : _) (a1 : _) :
    Foot m z (State.modSession a0 a1 t) := by
  refine Foot.step (m := 0x200000000) ?_ hs h
  clear h hs
  have h := Foot.refl 0x200000000 t
  unfold State.modSession
  repeat' first
    | with_reducible assumption
    | (intro x; first | clear_value x | skip)
    | lift_lets
    | ((with_reducible refine Foot.lit ?_ rfl rfl ?_ ?_ ?_ ?_ ?_ ?_); rotate_left; rfl; rfl; rfl; rfl; (first | exact Nat.le_refl _ | exact Nat.le_succ _); (constructor <;> first | with_reducible exact Kept.same | exact Kept.masked rfl); (first | with_reducible assumption))
    | split
    | dsimp only

theorem foot_sessionsShow {m : Nat} {z t : State} (hs : 0x40000000000000 ||| m = m) (h : Foot m z t) :
    Foot m z (State.sessionsShow t) := by
  refine Foot.step (m := 0x40000000000000) ?_ hs h
  clear h hs
  have h := Foot.refl 0x40000000000000 t
  unfold State.sessionsShow
  repeat' first
    | with_reducible assumption
    | (intro x; first | clear_value x | skip)
    | lift_lets
    | with_reducible refine foot_setFld (blk_HOST_STAT_SESSIONS ..) rfl ?_ ..
    | split
    | dsimp only

theorem foot_answer {m : Nat} {z t : State} (hs : 0x2000000000 ||| m = m) (h : Foot m z t) (a0 : _) (a1 : _) (a2 : _) (a3 : _) (a4 : _) :
    Foot m z (State.answer a0 a1 a2 a3 a4 t) := by
  refine Foot.step (m := 0x2000000000) ?_ hs h
  clear h hs
  have h := Foot.refl 0x2000000000 t
  unfold State.answer
  repeat' first
    | with_reducible assumption
    | (intro x; first | clear_value x | skip)
    | lift_lets
    | ((with_reducible refine Foot.lit ?_ rfl rfl ?_ ?_ ?_ ?_ ?_ ?_); rotate_left; rfl; rfl; rfl; rfl; (first | exact Nat.le_refl _ | exact Nat.le_succ _); (constructor <;> first | with_reducible exact Kept.same | exact Kept.masked rfl); (first | with_reducible assumption))
    | split
    | dsimp only

theorem foot_sessionClose {m : Nat} {z t : State} (hs : 0x40000640000000 ||| m = m) (h : Foot m z t) (a0 : _) :
    Foot m z (State.sessionClose a0 t) := by
  refine Foot.step (m := 0x40000640000000) ?_ hs h
  clear h hs
  have h := Foot.refl 0x40000640000000 t
  unfold State.sessionClose
  repeat' first
    | with_reducible assumption
    | (intro x; first
        | (refine Foot.cut (P := Foot 0x40000640000000 t x) ?_ ?_; rotate_left; subst x; rotate_left; intro hx; clear_value x)
        | (refine Foot.cut (P := PairFoot 0x40000640000000 t x) ?_ ?_; rotate_left; subst x; rotate_left; intro hx; clear_value x)
        | (refine Foot.cut (P := OptFoot 0x40000640000000 t x) ?_ ?_; rotate_left; subst x; rotate_left; intro hx; clear_value x)
        | (have hf := x.programmed; clear hf)
        | clear_value x
        | skip)
    | lift_lets
    | with_reducible refine foot_modUnit rfl ?_ ..
    | with_reducible refine foot_sessionsShow rfl ?_ ..
    | with_reducible refine Foot.forN (fun _ _ _ => ?_) ?_
    | with_reducible refine Foot.foldl (fun _ _ _ => ?_) ?_
    | with_reducible refine PairFoot.foldl (fun _ _ _ => ?_) ?_
    | with_reducible apply Foot.ite
    | with_reducible apply PairFoot.ite
    | with_reducible apply OptFoot.ite
    | with_reducible apply OutFoot.ite
    | with_reducible apply ExFoot.ite
    | with_reducible exact ExFoot.error
    | with_reducible refine ExFoot.ok ?_
    | with_reducible refine PairFoot.forL (fun _ _ _ => ?_) ?_
    | with_reducible refine PairFoot.forN (fun _ _ _ => ?_) ?_
    | with_reducible refine OptFoot.some ?_
    | with_reducible exact OptFoot.none
    | with_reducible refine OutFoot.next ?_
    | with_reducible refine OptFoot.getD ?_ ?_
    | with_reducible refine PairFoot.snd ?_
    | with_reducible exact PairFoot.out (by assumption)
    | with_reducible refine PairFoot.eq (by assumption) ?_
    | with_reducible refine OptFoot.eq (by assumption) ?_
    | with_reducible refine ExFoot.eq (by assumption) ?_
    | ((with_reducible refine Foot.lit ?_ rfl rfl ?_ ?_ ?_ ?_ ?_ ?_); rotate_left; rfl; rfl; rfl; rfl; (first | exact Nat.le_refl _ | exact Nat.le_succ _); (constructor <;> first | with_reducible exact Kept.same | exact Kept.masked rfl); (first | with_reducible assumption | with_reducible refine foot_modUnit rfl ?_ .. | with_reducible refine foot_sessionsShow rfl ?_ .. | with_reducible refine Foot.forN (fun _ _ _ => ?_) ?_ | with_reducible refine Foot.foldl (fun _ _ _ => ?_) ?_ | with_reducible refine PairFoot.foldl (fun _ _ _ => ?_) ?_ | with_reducible apply Foot.ite | with_reducible apply PairFoot.ite | with_reducible apply OptFoot.ite | with_reducible apply OutFoot.ite | with_reducible apply ExFoot.ite | with_reducible exact ExFoot.error | with_reducible refine ExFoot.ok ?_ | with_reducible refine PairFoot.forL (fun _ _ _ => ?_) ?_ | with_reducible refine PairFoot.forN (fun _ _ _ => ?_) ?_ | with_reducible refine OptFoot.some ?_ | with_reducible exact OptFoot.none | with_reducible refine OutFoot.next ?_ | with_reducible refine OptFoot.getD ?_ ?_ | with_reducible refine PairFoot.snd ?_))
    | split
    | with_reducible refine PairFoot.mk ?_
    | dsimp only

theorem foot_hostMbx {m : Nat} {z t : State} (hs : 0x800000000 ||| m = m) (h : Foot m z t) (a0 : _) (a1 : _) (a2 : _) (a3 : _) :
    PairFoot m z (State.hostMbx a0 a1 a2 a3 t) := by
  refine PairFoot.step (m := 0x800000000) ?_ hs h
  clear h hs
  have h := Foot.refl 0x800000000 t
  unfold State.hostMbx
  repeat' first
    | with_reducible assumption
    | (intro x; first | (refine Foot.cut (P := Foot 0x800000000 t x) ?_ ?_; rotate_left; subst x; rotate_left; intro hx; clear_value x) | clear_value x | skip)
    | lift_lets
    | with_reducible refine foot_mbxPush rfl ?_ ..
    | with_reducible apply PairFoot.ite
    | split
    | with_reducible refine PairFoot.mk ?_
    | dsimp only

theorem foot_readItem {m : Nat} {z t : State} (hs : 0x2000000804200000 ||| m = m) (h : Foot m z t) (a0 : _) (a1 : _) :
    PairFoot m z (State.readItem a0 a1 t) := by
  refine PairFoot.step (m := 0x2000000804200000) ?_ hs h
  clear h hs
  have h := Foot.refl 0x2000000804200000 t
  unfold State.readItem
  repeat' first
    | with_reducible assumption
    | (intro x; first | clear_value x | skip)
    | lift_lets
    | with_reducible refine foot_hostMbx rfl ?_ ..
    | with_reducible apply PairFoot.ite
    | split
    | with_reducible refine PairFoot.mk ?_
    | dsimp only

theorem foot_writeItem {m : Nat} {z t : State} (hs : 0x40080800000088 ||| m = m) (h : Foot m z t) (a0 : _) (a1 : _) (a2 : _) :
    PairFoot m z (State.writeItem a0 a1 a2 t) := by
  refine PairFoot.step (m := 0x40080800000088) ?_ hs h
  clear h hs
  have h := Foot.refl 0x40080800000088 t
  unfold State.writeItem
  repeat' first
    | with_reducible assumption
    | (intro x; first | (have hf := fun a => x a; clear hf; subst x) | clear_value x | skip)
    | lift_lets
    | with_reducible refine foot_setWord rfl ?_ ..
    | with_reducible refine foot_setDsc rfl ?_ ..
    | with_reducible refine foot_setDsc2 rfl ?_ ..
    | with_reducible refine foot_hostMbx rfl ?_ ..
    | with_reducible refine foot_incSat (blk_HOST_CNT0_IGNORED ..) rfl ?_ ..
    | with_reducible apply PairFoot.ite
    | split
    | with_reducible refine PairFoot.mk ?_
    | dsimp only

theorem foot_runItems {α : Type} {m : Nat} {z : State} (hs : 0x0 ||| m = m) {f : α → State → HostItem × State}
    (hf : ∀ x t, Foot m z t → PairFoot m z (f x t)) (l : List α) : ∀ {t : State}, Foot m z t → PairFoot m z (runItems f l t) := by
  induction l with
  | nil => intro t h; exact h
  | cons x l ih => intro t h; exact ih (hf x t h)

theorem foot_regReads {m : Nat} {z t : State} (hs : 0x7a280100a4ea4f90 ||| m = m) (h : Foot m z t) (a0 : _) :
    PairFoot m z (State.regReads a0 t) := by
  induction a0 generalizing t with
  | nil =>
    unfold State.regReads
    repeat' first
      | with_reducible assumption
      | (intro x; first | clear_value x | skip)
      | lift_lets
      | with_reducible refine foot_busRead (mask_sub (b := 0x7a280100a4ea4f90) rfl hs) ?_ ..
      | with_reducible refine foot_busRead (mask_sub (b := 0x7a280100a4ea4f90) rfl hs) ?_ ..
      | with_reducible refine foot_busRead (mask_sub (b := 0x7a280100a4ea4f90) rfl hs) ?_ ..
      | with_reducible apply PairFoot.ite
      | with_reducible refine PairFoot.eq (by assumption) ?_
      | split
      | with_reducible refine PairFoot.mk ?_
      | dsimp only
  | cons x xs ih =>
    unfold State.regReads
    repeat' first
      | with_reducible apply ih
      | with_reducible assumption
      | (intro x; first | clear_value x | skip)
      | lift_lets
      | with_reducible refine foot_busRead (mask_sub (b := 0x7a280100a4ea4f90) rfl hs) ?_ ..
      | with_reducible refine foot_busRead (mask_sub (b := 0x7a280100a4ea4f90) rfl hs) ?_ ..
      | with_reducible refine foot_busRead (mask_sub (b := 0x7a280100a4ea4f90) rfl hs) ?_ ..
      | with_reducible apply PairFoot.ite
      | with_reducible refine PairFoot.eq (by assumption) ?_
      | split
      | with_reducible refine PairFoot.mk ?_
      | dsimp only

theorem foot_regWrites {m : Nat} {z t : State} (hs : 0xffffff3ef7fb7fd8 ||| m = m) (h : Foot m z t) (a0 : _) (a1 : _) :
    PairFoot m z (State.regWrites a0 a1 t) := by
  induction a1 generalizing t a0 with
  | nil =>
    unfold State.regWrites
    repeat' first
      | with_reducible assumption
      | (intro x; first | clear_value x | skip)
      | lift_lets
      | with_reducible refine foot_busWrite (mask_sub (b := 0xffffff3ef7fb7fd8) rfl hs) ?_ ..
      | with_reducible refine foot_busWrite (mask_sub (b := 0xffffff3ef7fb7fd8) rfl hs) ?_ ..
      | with_reducible refine foot_busWrite (mask_sub (b := 0xffffff3ef7fb7fd8) rfl hs) ?_ ..
      | with_reducible apply PairFoot.ite
      | with_reducible refine PairFoot.eq (by assumption) ?_
      | split
      | with_reducible refine PairFoot.mk ?_
      | dsimp only
  | cons x xs ih =>
    unfold State.regWrites
    repeat' first
      | with_reducible apply ih
      | with_reducible assumption
      | (intro x; first | clear_value x | skip)
      | lift_lets
      | with_reducible refine foot_busWrite (mask_sub (b := 0xffffff3ef7fb7fd8) rfl hs) ?_ ..
      | with_reducible refine foot_busWrite (mask_sub (b := 0xffffff3ef7fb7fd8) rfl hs) ?_ ..
      | with_reducible refine foot_busWrite (mask_sub (b := 0xffffff3ef7fb7fd8) rfl hs) ?_ ..
      | with_reducible apply PairFoot.ite
      | with_reducible refine PairFoot.eq (by assumption) ?_
      | split
      | with_reducible refine PairFoot.mk ?_
      | dsimp only

theorem foot_traceOp {m : Nat} {z t : State} (hs : 0x2240000000 ||| m = m) (h : Foot m z t) (a0 : _) (a1 : _) (a2 : _) (a3 : _) :
    Foot m z (State.traceOp a0 a1 a2 a3 t) := by
  refine Foot.step (m := 0x2240000000) ?_ hs h
  clear h hs
  have h := Foot.refl 0x2240000000 t
  unfold State.traceOp
  repeat' first
    | with_reducible assumption
    | (intro x; first
        | (refine Foot.cut (P := Foot 0x2240000000 t x) ?_ ?_; rotate_left; subst x; rotate_left; intro hx; clear_value x)
        | (refine Foot.cut (P := PairFoot 0x2240000000 t x) ?_ ?_; rotate_left; subst x; rotate_left; intro hx; clear_value x)
        | (refine Foot.cut (P := OptFoot 0x2240000000 t x) ?_ ?_; rotate_left; subst x; rotate_left; intro hx; clear_value x)
        | (have hf := x.programmed; clear hf)
        | clear_value x
        | skip)
    | lift_lets
    | with_reducible refine foot_modUnit rfl ?_ ..
    | with_reducible refine foot_spillDrop rfl ?_ ..
    | with_reducible refine foot_traceSend rfl ?_ ..
    | with_reducible refine Foot.foldl (fun _ _ _ => ?_) ?_
    | with_reducible refine PairFoot.foldl (fun _ _ _ => ?_) ?_
    | with_reducible apply Foot.ite
    | with_reducible apply PairFoot.ite
    | with_reducible apply OptFoot.ite
    | with_reducible apply OutFoot.ite
    | with_reducible apply ExFoot.ite
    | with_reducible exact ExFoot.error
    | with_reducible refine ExFoot.ok ?_
    | with_reducible refine PairFoot.forL (fun _ _ _ => ?_) ?_
    | with_reducible refine PairFoot.forN (fun _ _ _ => ?_) ?_
    | with_reducible refine OptFoot.some ?_
    | with_reducible exact OptFoot.none
    | with_reducible refine OutFoot.next ?_
    | with_reducible refine OptFoot.getD ?_ ?_
    | with_reducible refine PairFoot.snd ?_
    | with_reducible exact PairFoot.out (by assumption)
    | with_reducible refine PairFoot.eq (by assumption) ?_
    | with_reducible refine OptFoot.eq (by assumption) ?_
    | with_reducible refine ExFoot.eq (by assumption) ?_
    | ((with_reducible refine Foot.lit ?_ rfl rfl ?_ ?_ ?_ ?_ ?_ ?_); rotate_left; rfl; rfl; rfl; rfl; (first | exact Nat.le_refl _ | exact Nat.le_succ _); (constructor <;> first | with_reducible exact Kept.same | exact Kept.masked rfl); (first | with_reducible assumption | with_reducible refine foot_modUnit rfl ?_ .. | with_reducible refine foot_spillDrop rfl ?_ .. | with_reducible refine foot_traceSend rfl ?_ .. | with_reducible refine Foot.foldl (fun _ _ _ => ?_) ?_ | with_reducible refine PairFoot.foldl (fun _ _ _ => ?_) ?_ | with_reducible apply Foot.ite | with_reducible apply PairFoot.ite | with_reducible apply OptFoot.ite | with_reducible apply OutFoot.ite | with_reducible apply ExFoot.ite | with_reducible exact ExFoot.error | with_reducible refine ExFoot.ok ?_ | with_reducible refine PairFoot.forL (fun _ _ _ => ?_) ?_ | with_reducible refine PairFoot.forN (fun _ _ _ => ?_) ?_ | with_reducible refine OptFoot.some ?_ | with_reducible exact OptFoot.none | with_reducible refine OutFoot.next ?_ | with_reducible refine OptFoot.getD ?_ ?_ | with_reducible refine PairFoot.snd ?_))
    | split
    | with_reducible refine PairFoot.mk ?_
    | dsimp only

theorem foot_verifyStart {m : Nat} {z t : State} (hs : 0x400000000 ||| m = m) (h : Foot m z t) (a0 : _) (a1 : _) (a2 : _) :
    Foot m z (State.verifyStart a0 a1 a2 t) := by
  refine Foot.step (m := 0x400000000) ?_ hs h
  clear h hs
  have h := Foot.refl 0x400000000 t
  unfold State.verifyStart
  repeat' first
    | with_reducible assumption
    | (intro x; first
        | (refine Foot.cut (P := Foot 0x400000000 t x) ?_ ?_; rotate_left; subst x; rotate_left; intro hx; clear_value x)
        | (refine Foot.cut (P := PairFoot 0x400000000 t x) ?_ ?_; rotate_left; subst x; rotate_left; intro hx; clear_value x)
        | (refine Foot.cut (P := OptFoot 0x400000000 t x) ?_ ?_; rotate_left; subst x; rotate_left; intro hx; clear_value x)
        | (have hf := x.programmed; clear hf)
        | clear_value x
        | skip)
    | lift_lets
    | with_reducible refine Foot.foldl (fun _ _ _ => ?_) ?_
    | with_reducible refine PairFoot.foldl (fun _ _ _ => ?_) ?_
    | with_reducible apply Foot.ite
    | with_reducible apply PairFoot.ite
    | with_reducible apply OptFoot.ite
    | with_reducible apply OutFoot.ite
    | with_reducible apply ExFoot.ite
    | with_reducible exact ExFoot.error
    | with_reducible refine ExFoot.ok ?_
    | with_reducible refine PairFoot.forL (fun _ _ _ => ?_) ?_
    | with_reducible refine PairFoot.forN (fun _ _ _ => ?_) ?_
    | with_reducible refine OptFoot.some ?_
    | with_reducible exact OptFoot.none
    | with_reducible refine OutFoot.next ?_
    | with_reducible refine OptFoot.getD ?_ ?_
    | with_reducible refine PairFoot.snd ?_
    | with_reducible exact PairFoot.out (by assumption)
    | with_reducible refine PairFoot.eq (by assumption) ?_
    | with_reducible refine OptFoot.eq (by assumption) ?_
    | with_reducible refine ExFoot.eq (by assumption) ?_
    | ((with_reducible refine Foot.lit ?_ rfl rfl ?_ ?_ ?_ ?_ ?_ ?_); rotate_left; rfl; rfl; rfl; rfl; (first | exact Nat.le_refl _ | exact Nat.le_succ _); (constructor <;> first | with_reducible exact Kept.same | exact Kept.masked rfl); (first | with_reducible assumption | with_reducible refine Foot.foldl (fun _ _ _ => ?_) ?_ | with_reducible refine PairFoot.foldl (fun _ _ _ => ?_) ?_ | with_reducible apply Foot.ite | with_reducible apply PairFoot.ite | with_reducible apply OptFoot.ite | with_reducible apply OutFoot.ite | with_reducible apply ExFoot.ite | with_reducible exact ExFoot.error | with_reducible refine ExFoot.ok ?_ | with_reducible refine PairFoot.forL (fun _ _ _ => ?_) ?_ | with_reducible refine PairFoot.forN (fun _ _ _ => ?_) ?_ | with_reducible refine OptFoot.some ?_ | with_reducible exact OptFoot.none | with_reducible refine OutFoot.next ?_ | with_reducible refine OptFoot.getD ?_ ?_ | with_reducible refine PairFoot.snd ?_))
    | split
    | with_reducible refine PairFoot.mk ?_
    | dsimp only

theorem foot_loadOp {m : Nat} {z t : State} (hs : 0x600000000 ||| m = m) (h : Foot m z t) (a0 : _) (a1 : _) (a2 : _) (a3 : _) (a4 : _) (a5 : _) (a6 : _) :
    PairFoot m z (State.loadOp a0 a1 a2 a3 a4 a5 a6 t) := by
  refine PairFoot.step (m := 0x600000000) ?_ hs h
  clear h hs
  have h := Foot.refl 0x600000000 t
  unfold State.loadOp
  repeat' first
    | with_reducible assumption
    | (intro x; first | clear_value x | skip)
    | lift_lets
    | with_reducible refine foot_modSession rfl ?_ ..
    | with_reducible refine foot_verifyStart rfl ?_ ..
    | with_reducible apply PairFoot.ite
    | split
    | with_reducible refine PairFoot.mk ?_
    | dsimp only

theorem foot_hostItems {m : Nat} {z : State} {p : List HostItem × State} (hs : 0x200000000 ||| m = m) (h : PairFoot m z p)
    (i : Fin 8) (n : Nat) (w : Bool) : PairFoot m z (hostItems i n w p) := by
  unfold hostItems
  apply PairFoot.ite
  · exact .mk (foot_modSession (mask_sub (b := 0x200000000) rfl hs) h.snd ..)
  · exact .mk h.snd

theorem foot_hostSubscribe {m : Nat} {z t : State} (hs : 0x2000001204200000 ||| m = m) (h : Foot m z t) (a0 : _) (a1 : _) (a2 : _) (a3 : _) :
    Foot m z (State.hostSubscribe a0 a1 a2 a3 t) := by
  refine Foot.step (m := 0x2000001204200000) ?_ hs h
  clear h hs
  have h := Foot.refl 0x2000001204200000 t
  unfold State.hostSubscribe
  repeat' first
    | with_reducible assumption
    | (intro x; first | clear_value x | skip)
    | lift_lets
    | with_reducible refine foot_modSession rfl ?_ ..
    | with_reducible refine foot_epName rfl ?_ ..
    | with_reducible refine Foot.forL (fun _ _ _ => ?_) ?_
    | split
    | dsimp only

theorem foot_hostExec {m : Nat} {z t : State} (hs : 0xffffff3ef7fb7fd8 ||| m = m) (h : Foot m z t) (i : Fin 8) (n : Nat) (r : HostReq) :
    PairFoot m z (State.hostExec i n r t) := by
  unfold State.hostExec
  apply PairFoot.ite
  · exact .mk h
  cases r <;> dsimp only
  · exact .ite (.mk h) (foot_hostItems (mask_sub (b := 0xffffff3ef7fb7fd8) rfl hs) (foot_runItems (Nat.zero_or m) (fun _ _ k => foot_readItem (mask_sub (b := 0xffffff3ef7fb7fd8) rfl hs) k ..) _ h) ..)
  · exact .ite (.mk h) (foot_hostItems (mask_sub (b := 0xffffff3ef7fb7fd8) rfl hs) (foot_runItems (Nat.zero_or m) (fun _ _ k => foot_writeItem (mask_sub (b := 0xffffff3ef7fb7fd8) rfl hs) k ..) _ h) ..)
  · exact .ite (.mk h) (.mk (foot_hostSubscribe (mask_sub (b := 0xffffff3ef7fb7fd8) rfl hs) h ..))
  · exact foot_loadOp (mask_sub (b := 0xffffff3ef7fb7fd8) rfl hs) h ..
  · exact .mk (foot_sysCmd (mask_sub (b := 0xffffff3ef7fb7fd8) rfl hs) h ..)
  · exact .ite (.mk h) (.mk (foot_traceOp (mask_sub (b := 0xffffff3ef7fb7fd8) rfl hs) h ..))
  · exact .ite (.mk h) (.mk (PairFoot.snd (foot_regReads (mask_sub (b := 0xffffff3ef7fb7fd8) rfl hs) h ..)))
  · exact .ite (.mk h) (.mk (PairFoot.snd (foot_regWrites (mask_sub (b := 0xffffff3ef7fb7fd8) rfl hs) h ..)))

theorem foot_hostDone {m : Nat} {z t : State} (hs : 0x2200000000 ||| m = m) (h : Foot m z t) (a0 : _) (a1 : _) (a2 : _) (a3 : _) (a4 : _) :
    Foot m z (State.hostDone a0 a1 a2 a3 a4 t) := by
  refine Foot.step (m := 0x2200000000) ?_ hs h
  clear h hs
  have h := Foot.refl 0x2200000000 t
  unfold State.hostDone
  repeat' first
    | with_reducible assumption
    | (intro x; first | clear_value x | skip)
    | lift_lets
    | with_reducible refine foot_modSession rfl ?_ ..
    | with_reducible refine foot_answer rfl ?_ ..
    | split
    | dsimp only

theorem foot_hostDrain {m : Nat} {z t : State} (hs : 0xffffff3ef7fb7fd8 ||| m = m) (h : Foot m z t) (a0 : _) (a1 : _) :
    Foot m z (State.hostDrain a0 a1 t) := by
  induction a1 generalizing t a0 with
  | zero =>
    unfold State.hostDrain
    repeat' first
      | with_reducible assumption
      | (intro x; first | clear_value x | skip)
      | lift_lets
      | with_reducible refine foot_modSession (mask_sub (b := 0xffffff3ef7fb7fd8) rfl hs) ?_ ..
      | with_reducible refine foot_hostExec (mask_sub (b := 0xffffff3ef7fb7fd8) rfl hs) ?_ ..
      | with_reducible refine foot_hostDone (mask_sub (b := 0xffffff3ef7fb7fd8) rfl hs) ?_ ..
      | with_reducible refine foot_modSession (mask_sub (b := 0xffffff3ef7fb7fd8) rfl hs) ?_ ..
      | with_reducible refine foot_hostExec (mask_sub (b := 0xffffff3ef7fb7fd8) rfl hs) ?_ ..
      | with_reducible refine foot_hostDone (mask_sub (b := 0xffffff3ef7fb7fd8) rfl hs) ?_ ..
      | with_reducible refine foot_modSession (mask_sub (b := 0xffffff3ef7fb7fd8) rfl hs) ?_ ..
      | with_reducible refine foot_hostExec (mask_sub (b := 0xffffff3ef7fb7fd8) rfl hs) ?_ ..
      | with_reducible refine foot_hostDone (mask_sub (b := 0xffffff3ef7fb7fd8) rfl hs) ?_ ..
      | with_reducible apply Foot.ite
      | with_reducible refine PairFoot.eq (by assumption) ?_
      | split
      | dsimp only
  | succ n ih =>
    unfold State.hostDrain
    repeat' first
      | with_reducible apply ih
      | with_reducible assumption
      | (intro x; first | clear_value x | skip)
      | lift_lets
      | with_reducible refine foot_modSession (mask_sub (b := 0xffffff3ef7fb7fd8) rfl hs) ?_ ..
      | with_reducible refine foot_hostExec (mask_sub (b := 0xffffff3ef7fb7fd8) rfl hs) ?_ ..
      | with_reducible refine foot_hostDone (mask_sub (b := 0xffffff3ef7fb7fd8) rfl hs) ?_ ..
      | with_reducible refine foot_modSession (mask_sub (b := 0xffffff3ef7fb7fd8) rfl hs) ?_ ..
      | with_reducible refine foot_hostExec (mask_sub (b := 0xffffff3ef7fb7fd8) rfl hs) ?_ ..
      | with_reducible refine foot_hostDone (mask_sub (b := 0xffffff3ef7fb7fd8) rfl hs) ?_ ..
      | with_reducible refine foot_modSession (mask_sub (b := 0xffffff3ef7fb7fd8) rfl hs) ?_ ..
      | with_reducible refine foot_hostExec (mask_sub (b := 0xffffff3ef7fb7fd8) rfl hs) ?_ ..
      | with_reducible refine foot_hostDone (mask_sub (b := 0xffffff3ef7fb7fd8) rfl hs) ?_ ..
      | with_reducible apply Foot.ite
      | with_reducible refine PairFoot.eq (by assumption) ?_
      | split
      | dsimp only

theorem foot_hostRequest {m : Nat} {z t : State} (hs : 0xffffff3ef7fb7fd8 ||| m = m) (h : Foot m z t) (a0 : _) (a1 : _) (a2 : _) (a3 : _) :
    Foot m z (State.hostRequest a0 a1 a2 a3 t) := by
  refine Foot.step (m := 0xffffff3ef7fb7fd8) ?_ hs h
  clear h hs
  have h := Foot.refl 0xffffff3ef7fb7fd8 t
  unfold State.hostRequest
  repeat' first
    | with_reducible assumption
    | (intro x; first | clear_value x | skip)
    | lift_lets
    | with_reducible refine foot_modSession rfl ?_ ..
    | with_reducible refine foot_answer rfl ?_ ..
    | with_reducible refine foot_hostDrain rfl ?_ ..
    | with_reducible refine foot_incSat (blk_HOST_CNT0_BADTAG ..) rfl ?_ ..
    | with_reducible refine foot_incSat (blk_HOST_CNT1_SEQREF ..) rfl ?_ ..
    | with_reducible apply Foot.ite
    | split
    | dsimp only

theorem foot_execRead {m : Nat} {z t : State} (hs : 0xffffff3ef7fb7fd8 ||| m = m) (h : Foot m z t) (a0 : _) (a1 : _) (a2 : _) (a3 : _) :
    OutFoot m z (execRead a0 a1 a2 a3 t) := by
  refine OutFoot.step (m := 0xffffff3ef7fb7fd8) ?_ hs h
  clear h hs
  have h := Foot.refl 0xffffff3ef7fb7fd8 t
  unfold execRead
  repeat' first
    | with_reducible assumption
    | (intro x; first | clear_value x | skip)
    | lift_lets
    | with_reducible refine foot_hostRequest rfl ?_ ..
    | with_reducible refine OutFoot.next ?_
    | split
    | dsimp only

theorem foot_execWrite {m : Nat} {z t : State} (hs : 0xffffff3ef7fb7fd8 ||| m = m) (h : Foot m z t) (a0 : _) (a1 : _) (a2 : _) (a3 : _) :
    OutFoot m z (execWrite a0 a1 a2 a3 t) := by
  refine OutFoot.step (m := 0xffffff3ef7fb7fd8) ?_ hs h
  clear h hs
  have h := Foot.refl 0xffffff3ef7fb7fd8 t
  unfold execWrite
  repeat' first
    | with_reducible assumption
    | (intro x; first | clear_value x | skip)
    | lift_lets
    | with_reducible refine foot_hostRequest rfl ?_ ..
    | with_reducible refine OutFoot.next ?_
    | split
    | dsimp only

theorem foot_execSubscribe {m : Nat} {z t : State} (hs : 0xffffff3ef7fb7fd8 ||| m = m) (h : Foot m z t) (a0 : _) (a1 : _) (a2 : _) (a3 : _) (a4 : _) (a5 : _) :
    OutFoot m z (execSubscribe a0 a1 a2 a3 a4 a5 t) := by
  refine OutFoot.step (m := 0xffffff3ef7fb7fd8) ?_ hs h
  clear h hs
  have h := Foot.refl 0xffffff3ef7fb7fd8 t
  unfold execSubscribe
  repeat' first
    | with_reducible assumption
    | (intro x; first | clear_value x | skip)
    | lift_lets
    | with_reducible refine foot_hostRequest rfl ?_ ..
    | with_reducible refine OutFoot.next ?_
    | split
    | dsimp only

theorem foot_execLoadImage {m : Nat} {z t : State} (hs : 0xffffff3ef7fb7fd8 ||| m = m) (h : Foot m z t) (a0 : _) (a1 : _) (a2 : _) (a3 : _) (a4 : _) (a5 : _) (a6 : _) (a7 : _) :
    OutFoot m z (execLoadImage a0 a1 a2 a3 a4 a5 a6 a7 t) := by
  refine OutFoot.step (m := 0xffffff3ef7fb7fd8) ?_ hs h
  clear h hs
  have h := Foot.refl 0xffffff3ef7fb7fd8 t
  unfold execLoadImage
  repeat' first
    | with_reducible assumption
    | (intro x; first | clear_value x | skip)
    | lift_lets
    | with_reducible refine foot_hostRequest rfl ?_ ..
    | with_reducible refine OutFoot.next ?_
    | split
    | dsimp only

theorem foot_execMode {m : Nat} {z t : State} (hs : 0xffffff3ef7fb7fd8 ||| m = m) (h : Foot m z t) (a0 : _) (a1 : _) (a2 : _) (a3 : _) :
    OutFoot m z (execMode a0 a1 a2 a3 t) := by
  refine OutFoot.step (m := 0xffffff3ef7fb7fd8) ?_ hs h
  clear h hs
  have h := Foot.refl 0xffffff3ef7fb7fd8 t
  unfold execMode
  repeat' first
    | with_reducible assumption
    | (intro x; first | clear_value x | skip)
    | lift_lets
    | with_reducible refine foot_hostRequest rfl ?_ ..
    | with_reducible refine OutFoot.next ?_
    | split
    | dsimp only

theorem foot_execTraceStart {m : Nat} {z t : State} (hs : 0xffffff3ef7fb7fd8 ||| m = m) (h : Foot m z t) (a0 : _) (a1 : _) (a2 : _) (a3 : _) :
    OutFoot m z (execTraceStart a0 a1 a2 a3 t) := by
  refine OutFoot.step (m := 0xffffff3ef7fb7fd8) ?_ hs h
  clear h hs
  have h := Foot.refl 0xffffff3ef7fb7fd8 t
  unfold execTraceStart
  repeat' first
    | with_reducible assumption
    | (intro x; first | clear_value x | skip)
    | lift_lets
    | with_reducible refine foot_hostRequest rfl ?_ ..
    | with_reducible refine OutFoot.next ?_
    | split
    | dsimp only

theorem foot_execTraceStop {m : Nat} {z t : State} (hs : 0xffffff3ef7fb7fd8 ||| m = m) (h : Foot m z t) (a0 : _) (a1 : _) (a2 : _) (a3 : _) :
    OutFoot m z (execTraceStop a0 a1 a2 a3 t) := by
  refine OutFoot.step (m := 0xffffff3ef7fb7fd8) ?_ hs h
  clear h hs
  have h := Foot.refl 0xffffff3ef7fb7fd8 t
  unfold execTraceStop
  repeat' first
    | with_reducible assumption
    | (intro x; first | clear_value x | skip)
    | lift_lets
    | with_reducible refine foot_hostRequest rfl ?_ ..
    | with_reducible refine OutFoot.next ?_
    | split
    | dsimp only

theorem foot_execTraceAck {m : Nat} {z t : State} (hs : 0xffffff3ef7fb7fd8 ||| m = m) (h : Foot m z t) (a0 : _) (a1 : _) (a2 : _) (a3 : _) (a4 : _) :
    OutFoot m z (execTraceAck a0 a1 a2 a3 a4 t) := by
  refine OutFoot.step (m := 0xffffff3ef7fb7fd8) ?_ hs h
  clear h hs
  have h := Foot.refl 0xffffff3ef7fb7fd8 t
  unfold execTraceAck
  repeat' first
    | with_reducible assumption
    | (intro x; first | clear_value x | skip)
    | lift_lets
    | with_reducible refine foot_hostRequest rfl ?_ ..
    | with_reducible refine OutFoot.next ?_
    | split
    | dsimp only

theorem foot_execRegRead {m : Nat} {z t : State} (hs : 0xffffff3ef7fb7fd8 ||| m = m) (h : Foot m z t) (a0 : _) (a1 : _) (a2 : _) (a3 : _) :
    OutFoot m z (execRegRead a0 a1 a2 a3 t) := by
  refine OutFoot.step (m := 0xffffff3ef7fb7fd8) ?_ hs h
  clear h hs
  have h := Foot.refl 0xffffff3ef7fb7fd8 t
  unfold execRegRead
  repeat' first
    | with_reducible assumption
    | (intro x; first | clear_value x | skip)
    | lift_lets
    | with_reducible refine foot_hostRequest rfl ?_ ..
    | with_reducible refine OutFoot.next ?_
    | split
    | dsimp only

theorem foot_execRegWrite {m : Nat} {z t : State} (hs : 0xffffff3ef7fb7fd8 ||| m = m) (h : Foot m z t) (a0 : _) (a1 : _) (a2 : _) (a3 : _) :
    OutFoot m z (execRegWrite a0 a1 a2 a3 t) := by
  refine OutFoot.step (m := 0xffffff3ef7fb7fd8) ?_ hs h
  clear h hs
  have h := Foot.refl 0xffffff3ef7fb7fd8 t
  unfold execRegWrite
  repeat' first
    | with_reducible assumption
    | (intro x; first | clear_value x | skip)
    | lift_lets
    | with_reducible refine foot_hostRequest rfl ?_ ..
    | with_reducible refine OutFoot.next ?_
    | split
    | dsimp only

theorem foot_execHello {m : Nat} {z t : State} (hs : 0x2200000000 ||| m = m) (h : Foot m z t) (a0 : _) :
    OutFoot m z (execHello a0 t) := by
  refine OutFoot.step (m := 0x2200000000) ?_ hs h
  clear h hs
  have h := Foot.refl 0x2200000000 t
  unfold execHello
  repeat' first
    | with_reducible assumption
    | (intro x; first
        | (refine Foot.cut (P := Foot 0x2200000000 t x) ?_ ?_; rotate_left; subst x; rotate_left; intro hx; clear_value x)
        | (refine Foot.cut (P := PairFoot 0x2200000000 t x) ?_ ?_; rotate_left; subst x; rotate_left; intro hx; clear_value x)
        | (refine Foot.cut (P := OptFoot 0x2200000000 t x) ?_ ?_; rotate_left; subst x; rotate_left; intro hx; clear_value x)
        | (have hf := x.programmed; clear hf)
        | clear_value x
        | skip)
    | lift_lets
    | with_reducible refine foot_modSession rfl ?_ ..
    | with_reducible refine foot_answer rfl ?_ ..
    | with_reducible refine Foot.foldl (fun _ _ _ => ?_) ?_
    | with_reducible refine PairFoot.foldl (fun _ _ _ => ?_) ?_
    | with_reducible apply Foot.ite
    | with_reducible apply PairFoot.ite
    | with_reducible apply OptFoot.ite
    | with_reducible apply OutFoot.ite
    | with_reducible apply ExFoot.ite
    | with_reducible exact ExFoot.error
    | with_reducible refine ExFoot.ok ?_
    | with_reducible refine PairFoot.forL (fun _ _ _ => ?_) ?_
    | with_reducible refine PairFoot.forN (fun _ _ _ => ?_) ?_
    | with_reducible refine OptFoot.some ?_
    | with_reducible exact OptFoot.none
    | with_reducible refine OutFoot.next ?_
    | with_reducible refine OptFoot.getD ?_ ?_
    | with_reducible refine PairFoot.snd ?_
    | with_reducible exact PairFoot.out (by assumption)
    | with_reducible refine PairFoot.eq (by assumption) ?_
    | with_reducible refine OptFoot.eq (by assumption) ?_
    | with_reducible refine ExFoot.eq (by assumption) ?_
    | ((with_reducible refine Foot.lit ?_ rfl rfl ?_ ?_ ?_ ?_ ?_ ?_); rotate_left; rfl; rfl; rfl; rfl; (first | exact Nat.le_refl _ | exact Nat.le_succ _); (constructor <;> first | with_reducible exact Kept.same | exact Kept.masked rfl); (first | with_reducible assumption | with_reducible refine foot_modSession rfl ?_ .. | with_reducible refine foot_answer rfl ?_ .. | with_reducible refine Foot.foldl (fun _ _ _ => ?_) ?_ | with_reducible refine PairFoot.foldl (fun _ _ _ => ?_) ?_ | with_reducible apply Foot.ite | with_reducible apply PairFoot.ite | with_reducible apply OptFoot.ite | with_reducible apply OutFoot.ite | with_reducible apply ExFoot.ite | with_reducible exact ExFoot.error | with_reducible refine ExFoot.ok ?_ | with_reducible refine PairFoot.forL (fun _ _ _ => ?_) ?_ | with_reducible refine PairFoot.forN (fun _ _ _ => ?_) ?_ | with_reducible refine OptFoot.some ?_ | with_reducible exact OptFoot.none | with_reducible refine OutFoot.next ?_ | with_reducible refine OptFoot.getD ?_ ?_ | with_reducible refine PairFoot.snd ?_))
    | split
    | with_reducible refine PairFoot.mk ?_
    | dsimp only

theorem foot_execFinish {m : Nat} {z t : State} (hs : 0x40002640000000 ||| m = m) (h : Foot m z t) (a0 : _) (a1 : _) (a2 : _) (a3 : _) :
    OutFoot m z (execFinish a0 a1 a2 a3 t) := by
  refine OutFoot.step (m := 0x40002640000000) ?_ hs h
  clear h hs
  have h := Foot.refl 0x40002640000000 t
  unfold execFinish
  repeat' first
    | with_reducible assumption
    | (intro x; first | clear_value x | skip)
    | lift_lets
    | with_reducible refine foot_modSession rfl ?_ ..
    | with_reducible refine foot_answer rfl ?_ ..
    | with_reducible refine foot_sessionClose rfl ?_ ..
    | with_reducible refine foot_sessionsShow rfl ?_ ..
    | with_reducible refine foot_incSat (blk_HOST_CNT0_BADTAG ..) rfl ?_ ..
    | with_reducible apply Foot.ite
    | with_reducible refine OutFoot.next ?_
    | split
    | dsimp only

theorem foot_execHandshakeLapse {m : Nat} {z t : State} (hs : 0x40000640000000 ||| m = m) (h : Foot m z t) (a0 : _) :
    OutFoot m z (execHandshakeLapse a0 t) := by
  refine OutFoot.step (m := 0x40000640000000) ?_ hs h
  clear h hs
  have h := Foot.refl 0x40000640000000 t
  unfold execHandshakeLapse
  repeat' first
    | with_reducible assumption
    | (intro x; first | clear_value x | skip)
    | lift_lets
    | with_reducible refine foot_sessionClose rfl ?_ ..
    | with_reducible apply Foot.ite
    | with_reducible refine OutFoot.next ?_
    | split
    | dsimp only

theorem foot_execSessionIdleClose {m : Nat} {z t : State} (hs : 0x40000640000000 ||| m = m) (h : Foot m z t) (a0 : _) :
    OutFoot m z (execSessionIdleClose a0 t) := by
  refine OutFoot.step (m := 0x40000640000000) ?_ hs h
  clear h hs
  have h := Foot.refl 0x40000640000000 t
  unfold execSessionIdleClose
  repeat' first
    | with_reducible assumption
    | (intro x; first | clear_value x | skip)
    | lift_lets
    | with_reducible refine foot_sessionClose rfl ?_ ..
    | with_reducible apply Foot.ite
    | with_reducible refine OutFoot.next ?_
    | split
    | dsimp only

theorem foot_execGapclose {m : Nat} {z t : State} (hs : 0x40000640000000 ||| m = m) (h : Foot m z t) (a0 : _) :
    OutFoot m z (execGapclose a0 t) := by
  refine OutFoot.step (m := 0x40000640000000) ?_ hs h
  clear h hs
  have h := Foot.refl 0x40000640000000 t
  unfold execGapclose
  repeat' first
    | with_reducible assumption
    | (intro x; first | clear_value x | skip)
    | lift_lets
    | with_reducible refine foot_sessionClose rfl ?_ ..
    | with_reducible refine foot_incSat (blk_HOST_CNT1_GAPCLOSE ..) rfl ?_ ..
    | with_reducible apply Foot.ite
    | with_reducible refine OutFoot.next ?_
    | split
    | dsimp only

theorem foot_execNotify {m : Nat} {z t : State} (hs : 0x2000002204200000 ||| m = m) (h : Foot m z t) (a0 : _) (a1 : _) :
    OutFoot m z (execNotify a0 a1 t) := by
  refine OutFoot.step (m := 0x2000002204200000) ?_ hs h
  clear h hs
  have h := Foot.refl 0x2000002204200000 t
  unfold execNotify
  repeat' first
    | with_reducible assumption
    | (intro x; first | clear_value x | skip)
    | lift_lets
    | with_reducible refine foot_modSession rfl ?_ ..
    | with_reducible refine foot_answer rfl ?_ ..
    | with_reducible apply Foot.ite
    | with_reducible refine OutFoot.next ?_
    | split
    | dsimp only

theorem foot_execTraceRetransmit {m : Nat} {z t : State} (hs : 0x2240000000 ||| m = m) (h : Foot m z t) (a0 : _) :
    OutFoot m z (execTraceRetransmit a0 t) := by
  refine OutFoot.step (m := 0x2240000000) ?_ hs h
  clear h hs
  have h := Foot.refl 0x2240000000 t
  unfold execTraceRetransmit
  repeat' first
    | with_reducible assumption
    | (intro x; first
        | (refine Foot.cut (P := Foot 0x2240000000 t x) ?_ ?_; rotate_left; subst x; rotate_left; intro hx; clear_value x)
        | (refine Foot.cut (P := PairFoot 0x2240000000 t x) ?_ ?_; rotate_left; subst x; rotate_left; intro hx; clear_value x)
        | (refine Foot.cut (P := OptFoot 0x2240000000 t x) ?_ ?_; rotate_left; subst x; rotate_left; intro hx; clear_value x)
        | (have hf := x.programmed; clear hf)
        | clear_value x
        | skip)
    | lift_lets
    | with_reducible refine foot_traceParts rfl ?_ ..
    | with_reducible refine foot_modUnit rfl ?_ ..
    | with_reducible refine Foot.foldl (fun _ _ _ => ?_) ?_
    | with_reducible refine PairFoot.foldl (fun _ _ _ => ?_) ?_
    | with_reducible apply Foot.ite
    | with_reducible apply PairFoot.ite
    | with_reducible apply OptFoot.ite
    | with_reducible apply OutFoot.ite
    | with_reducible apply ExFoot.ite
    | with_reducible exact ExFoot.error
    | with_reducible refine ExFoot.ok ?_
    | with_reducible refine PairFoot.forL (fun _ _ _ => ?_) ?_
    | with_reducible refine PairFoot.forN (fun _ _ _ => ?_) ?_
    | with_reducible refine OptFoot.some ?_
    | with_reducible exact OptFoot.none
    | with_reducible refine OutFoot.next ?_
    | with_reducible refine OptFoot.getD ?_ ?_
    | with_reducible refine PairFoot.snd ?_
    | with_reducible exact PairFoot.out (by assumption)
    | with_reducible refine PairFoot.eq (by assumption) ?_
    | with_reducible refine OptFoot.eq (by assumption) ?_
    | with_reducible refine ExFoot.eq (by assumption) ?_
    | ((with_reducible refine Foot.lit ?_ rfl rfl ?_ ?_ ?_ ?_ ?_ ?_); rotate_left; rfl; rfl; rfl; rfl; (first | exact Nat.le_refl _ | exact Nat.le_succ _); (constructor <;> first | with_reducible exact Kept.same | exact Kept.masked rfl); (first | with_reducible assumption | with_reducible refine foot_traceParts rfl ?_ .. | with_reducible refine foot_modUnit rfl ?_ .. | with_reducible refine Foot.foldl (fun _ _ _ => ?_) ?_ | with_reducible refine PairFoot.foldl (fun _ _ _ => ?_) ?_ | with_reducible apply Foot.ite | with_reducible apply PairFoot.ite | with_reducible apply OptFoot.ite | with_reducible apply OutFoot.ite | with_reducible apply ExFoot.ite | with_reducible exact ExFoot.error | with_reducible refine ExFoot.ok ?_ | with_reducible refine PairFoot.forL (fun _ _ _ => ?_) ?_ | with_reducible refine PairFoot.forN (fun _ _ _ => ?_) ?_ | with_reducible refine OptFoot.some ?_ | with_reducible exact OptFoot.none | with_reducible refine OutFoot.next ?_ | with_reducible refine OptFoot.getD ?_ ?_ | with_reducible refine PairFoot.snd ?_))
    | split
    | with_reducible refine PairFoot.mk ?_
    | dsimp only

theorem foot_bootAccepted {m : Nat} {z t : State} (hs : 0x4000 ||| m = m) (h : Foot m z t) :
    Foot m z (State.bootAccepted t) := by
  refine Foot.step (m := 0x4000) ?_ hs h
  clear h hs
  have h := Foot.refl 0x4000 t
  unfold State.bootAccepted
  repeat' first
    | with_reducible assumption
    | (intro x; first | clear_value x | skip)
    | lift_lets
    | ((with_reducible refine Foot.lit ?_ rfl rfl ?_ ?_ ?_ ?_ ?_ ?_); rotate_left; rfl; rfl; rfl; rfl; (first | exact Nat.le_refl _ | exact Nat.le_succ _); (constructor <;> first | with_reducible exact Kept.same | exact Kept.masked rfl); (first | with_reducible assumption))
    | split
    | dsimp only

theorem foot_verified {m : Nat} {z t : State} (hs : 0x72280504a4ea5f80 ||| m = m) (h : Foot m z t) (a0 : _) (a1 : _) (a2 : _) :
    PairFoot m z (State.verified a0 a1 a2 t) := by
  refine PairFoot.step (m := 0x72280504a4ea5f80) ?_ hs h
  clear h hs
  have h := Foot.refl 0x72280504a4ea5f80 t
  unfold State.verified
  repeat' first
    | with_reducible assumption
    | (intro x; first
        | (refine Foot.cut (P := Foot 0x72280504a4ea5f80 t x) ?_ ?_; rotate_left; subst x; rotate_left; intro hx; clear_value x)
        | (refine Foot.cut (P := PairFoot 0x72280504a4ea5f80 t x) ?_ ?_; rotate_left; subst x; rotate_left; intro hx; clear_value x)
        | (refine Foot.cut (P := OptFoot 0x72280504a4ea5f80 t x) ?_ ?_; rotate_left; subst x; rotate_left; intro hx; clear_value x)
        | (have hf := x.programmed; clear hf)
        | clear_value x
        | skip)
    | lift_lets
    | with_reducible refine foot_bootAccepted rfl ?_ ..
    | with_reducible refine foot_imageAccept rfl ?_ ..
    | with_reducible refine foot_setFld (blk_SEC_STAT_VRES ..) rfl ?_ ..
    | with_reducible refine foot_setFld (blk_EXCH_STAT_RESULT ..) rfl ?_ ..
    | with_reducible refine Foot.foldl (fun _ _ _ => ?_) ?_
    | with_reducible refine PairFoot.foldl (fun _ _ _ => ?_) ?_
    | with_reducible apply Foot.ite
    | with_reducible apply PairFoot.ite
    | with_reducible apply OptFoot.ite
    | with_reducible apply OutFoot.ite
    | with_reducible apply ExFoot.ite
    | with_reducible exact ExFoot.error
    | with_reducible refine ExFoot.ok ?_
    | with_reducible refine PairFoot.forL (fun _ _ _ => ?_) ?_
    | with_reducible refine PairFoot.forN (fun _ _ _ => ?_) ?_
    | with_reducible refine OptFoot.some ?_
    | with_reducible exact OptFoot.none
    | with_reducible refine OutFoot.next ?_
    | with_reducible refine OptFoot.getD ?_ ?_
    | with_reducible refine PairFoot.snd ?_
    | with_reducible exact PairFoot.out (by assumption)
    | with_reducible refine PairFoot.eq (by assumption) ?_
    | with_reducible refine OptFoot.eq (by assumption) ?_
    | with_reducible refine ExFoot.eq (by assumption) ?_
    | ((with_reducible refine Foot.lit ?_ rfl rfl ?_ ?_ ?_ ?_ ?_ ?_); rotate_left; rfl; rfl; rfl; rfl; (first | exact Nat.le_refl _ | exact Nat.le_succ _); (constructor <;> first | with_reducible exact Kept.same | exact Kept.masked rfl); (first | with_reducible assumption | with_reducible refine foot_bootAccepted rfl ?_ .. | with_reducible refine foot_imageAccept rfl ?_ .. | with_reducible refine foot_setFld (blk_SEC_STAT_VRES ..) rfl ?_ .. | with_reducible refine foot_setFld (blk_EXCH_STAT_RESULT ..) rfl ?_ .. | with_reducible refine Foot.foldl (fun _ _ _ => ?_) ?_ | with_reducible refine PairFoot.foldl (fun _ _ _ => ?_) ?_ | with_reducible apply Foot.ite | with_reducible apply PairFoot.ite | with_reducible apply OptFoot.ite | with_reducible apply OutFoot.ite | with_reducible apply ExFoot.ite | with_reducible exact ExFoot.error | with_reducible refine ExFoot.ok ?_ | with_reducible refine PairFoot.forL (fun _ _ _ => ?_) ?_ | with_reducible refine PairFoot.forN (fun _ _ _ => ?_) ?_ | with_reducible refine OptFoot.some ?_ | with_reducible exact OptFoot.none | with_reducible refine OutFoot.next ?_ | with_reducible refine OptFoot.getD ?_ ?_ | with_reducible refine PairFoot.snd ?_))
    | split
    | with_reducible refine PairFoot.mk ?_
    | dsimp only

theorem foot_execVerificationComplete {m : Nat} {z t : State} (hs : 0xffffff3ef7fb7fd8 ||| m = m) (h : Foot m z t) (a0 : _) :
    OutFoot m z (execVerificationComplete a0 t) := by
  refine OutFoot.step (m := 0xffffff3ef7fb7fd8) ?_ hs h
  clear h hs
  have h := Foot.refl 0xffffff3ef7fb7fd8 t
  unfold execVerificationComplete
  repeat' first
    | with_reducible assumption
    | (intro x; first | (refine Foot.cut (P := PairFoot 0xffffff3ef7fb7fd8 t x) ?_ ?_; rotate_left; subst x; rotate_left; intro hx; clear_value x) | clear_value x | skip)
    | lift_lets
    | with_reducible refine foot_hostDrain rfl ?_ ..
    | with_reducible refine foot_verified rfl ?_ ..
    | with_reducible refine foot_hostDone rfl ?_ ..
    | with_reducible apply Foot.ite
    | with_reducible refine OutFoot.next ?_
    | with_reducible refine PairFoot.snd ?_
    | split
    | dsimp only

theorem foot_hostMbxDone {m : Nat} {z t : State} (hs : 0xffffff3ef7fb7fd8 ||| m = m) (h : Foot m z t) (a0 : _) (a1 : _) (a2 : _) (a3 : _) (a4 : _) :
    Foot m z (State.hostMbxDone a0 a1 a2 a3 a4 t) := by
  refine Foot.step (m := 0xffffff3ef7fb7fd8) ?_ hs h
  clear h hs
  have h := Foot.refl 0xffffff3ef7fb7fd8 t
  unfold State.hostMbxDone
  repeat' first
    | with_reducible assumption
    | (intro x; first | (refine Foot.cut (P := Foot 0xffffff3ef7fb7fd8 t x) ?_ ?_; rotate_left; subst x; rotate_left; intro hx; clear_value x) | clear_value x | skip)
    | lift_lets
    | with_reducible refine foot_modSession rfl ?_ ..
    | with_reducible refine foot_hostDrain rfl ?_ ..
    | with_reducible refine foot_hostDone rfl ?_ ..
    | with_reducible apply Foot.ite
    | split
    | dsimp only

theorem foot_execMailboxComplete {m : Nat} {z t : State} (hs : 0xffffff3ef7fb7fd8 ||| m = m) (h : Foot m z t) (a0 : _) :
    OutFoot m z (execMailboxComplete a0 t) := by
  refine OutFoot.step (m := 0xffffff3ef7fb7fd8) ?_ hs h
  clear h hs
  have h := Foot.refl 0xffffff3ef7fb7fd8 t
  unfold execMailboxComplete
  repeat' first
    | with_reducible assumption
    | (intro x; first | (refine Foot.cut (P := Foot 0xffffff3ef7fb7fd8 t x) ?_ ?_; rotate_left; subst x; rotate_left; intro hx; clear_value x) | clear_value x | skip)
    | lift_lets
    | with_reducible refine foot_hostMbxDone rfl ?_ ..
    | with_reducible refine foot_mbxFinish rfl ?_ ..
    | with_reducible apply Foot.ite
    | with_reducible refine OutFoot.next ?_
    | split
    | dsimp only

theorem foot_execNetLinkLoss {m : Nat} {z t : State} (hs : 0x72a80100a4ea4f80 ||| m = m) (h : Foot m z t) (a0 : _) :
    OutFoot m z (execNetLinkLoss a0 t) := by
  refine OutFoot.step (m := 0x72a80100a4ea4f80) ?_ hs h
  clear h hs
  have h := Foot.refl 0x72a80100a4ea4f80 t
  unfold execNetLinkLoss
  repeat' first
    | with_reducible assumption
    | (intro x; first | clear_value x | skip)
    | lift_lets
    | with_reducible refine foot_raise rfl ?_ ..
    | with_reducible refine foot_setFlag (blk_NET_STAT_SPEED10G ..) rfl ?_ ..
    | with_reducible refine foot_setFlag (blk_NET_STAT_LINK_UP ..) rfl ?_ ..
    | with_reducible apply Foot.ite
    | with_reducible refine OutFoot.next ?_
    | split
    | dsimp only

theorem foot_execArpRequest {m : Nat} {z t : State} (hs : 0x2000000000 ||| m = m) (h : Foot m z t) (a0 : _) (a1 : _) :
    OutFoot m z (execArpRequest a0 a1 t) := by
  refine OutFoot.step (m := 0x2000000000) ?_ hs h
  clear h hs
  have h := Foot.refl 0x2000000000 t
  unfold execArpRequest
  repeat' first
    | with_reducible assumption
    | (intro x; first | clear_value x | skip)
    | lift_lets
    | with_reducible apply Foot.ite
    | with_reducible refine OutFoot.next ?_
    | ((with_reducible refine Foot.lit ?_ rfl rfl ?_ ?_ ?_ ?_ ?_ ?_); rotate_left; rfl; rfl; rfl; rfl; (first | exact Nat.le_refl _ | exact Nat.le_succ _); (constructor <;> first | with_reducible exact Kept.same | exact Kept.masked rfl); (first | with_reducible assumption | with_reducible apply Foot.ite | with_reducible refine OutFoot.next ?_))
    | split
    | dsimp only

theorem foot_execIcmpEchoRequest {m : Nat} {z t : State} (hs : 0x2000000000 ||| m = m) (h : Foot m z t) (a0 : _) (a1 : _) :
    OutFoot m z (execIcmpEchoRequest a0 a1 t) := by
  refine OutFoot.step (m := 0x2000000000) ?_ hs h
  clear h hs
  have h := Foot.refl 0x2000000000 t
  unfold execIcmpEchoRequest
  repeat' first
    | with_reducible assumption
    | (intro x; first | clear_value x | skip)
    | lift_lets
    | with_reducible apply Foot.ite
    | with_reducible refine OutFoot.next ?_
    | ((with_reducible refine Foot.lit ?_ rfl rfl ?_ ?_ ?_ ?_ ?_ ?_); rotate_left; rfl; rfl; rfl; rfl; (first | exact Nat.le_refl _ | exact Nat.le_succ _); (constructor <;> first | with_reducible exact Kept.same | exact Kept.masked rfl); (first | with_reducible assumption | with_reducible apply Foot.ite | with_reducible refine OutFoot.next ?_))
    | split
    | dsimp only

end Sys2Proof.Machine
end

