-- ==== Sys2Proof/Laws/FootLoopBundles.lean ====
section
/-!
SUPPORT. Footprints of the operations of Machine/LoopBundles.lean.
-/

set_option Elab.async false

set_option linter.all false

set_option maxRecDepth 4000

namespace Sys2Proof.Machine

theorem foot_execLNop {m : Nat} {z t : State} (hs : 0x7a280900acea4f88 ||| m = m) (h : Foot m z t) (a0 : _) (a1 : _) :
    OutFoot m z (execLNop a0 a1 t) := by
  refine OutFoot.step (m := 0x7a280900acea4f88) ?_ hs h
  clear h hs
  have h := Foot.refl 0x7a280900acea4f88 t
  unfold execLNop
  repeat' first
    | with_reducible assumption
    | (intro x; first | clear_value x | skip)
    | lift_lets
    | with_reducible refine foot_laBundle rfl ?_ ..
    | with_reducible refine OutFoot.next ?_
    | split
    | dsimp only

theorem foot_execLMac {m : Nat} {z t : State} (hs : 0x7a280900acea4f88 ||| m = m) (h : Foot m z t) (a0 : _) (a1 : _) :
    OutFoot m z (execLMac a0 a1 t) := by
  refine OutFoot.step (m := 0x7a280900acea4f88) ?_ hs h
  clear h hs
  have h := Foot.refl 0x7a280900acea4f88 t
  unfold execLMac
  repeat' first
    | with_reducible assumption
    | (intro x; first | clear_value x | skip)
    | lift_lets
    | with_reducible refine foot_laBundle rfl ?_ ..
    | with_reducible refine OutFoot.next ?_
    | split
    | dsimp only

theorem foot_execLMsu {m : Nat} {z t : State} (hs : 0x7a280900acea4f88 ||| m = m) (h : Foot m z t) (a0 : _) (a1 : _) :
    OutFoot m z (execLMsu a0 a1 t) := by
  refine OutFoot.step (m := 0x7a280900acea4f88) ?_ hs h
  clear h hs
  have h := Foot.refl 0x7a280900acea4f88 t
  unfold execLMsu
  repeat' first
    | with_reducible assumption
    | (intro x; first | clear_value x | skip)
    | lift_lets
    | with_reducible refine foot_laBundle rfl ?_ ..
    | with_reducible refine OutFoot.next ?_
    | split
    | dsimp only

theorem foot_execLMpy {m : Nat} {z t : State} (hs : 0x7a280900acea4f88 ||| m = m) (h : Foot m z t) (a0 : _) (a1 : _) :
    OutFoot m z (execLMpy a0 a1 t) := by
  refine OutFoot.step (m := 0x7a280900acea4f88) ?_ hs h
  clear h hs
  have h := Foot.refl 0x7a280900acea4f88 t
  unfold execLMpy
  repeat' first
    | with_reducible assumption
    | (intro x; first | clear_value x | skip)
    | lift_lets
    | with_reducible refine foot_laBundle rfl ?_ ..
    | with_reducible refine OutFoot.next ?_
    | split
    | dsimp only

theorem foot_execLAdd {m : Nat} {z t : State} (hs : 0x7a280900acea4f88 ||| m = m) (h : Foot m z t) (a0 : _) (a1 : _) :
    OutFoot m z (execLAdd a0 a1 t) := by
  refine OutFoot.step (m := 0x7a280900acea4f88) ?_ hs h
  clear h hs
  have h := Foot.refl 0x7a280900acea4f88 t
  unfold execLAdd
  repeat' first
    | with_reducible assumption
    | (intro x; first | clear_value x | skip)
    | lift_lets
    | with_reducible refine foot_laBundle rfl ?_ ..
    | with_reducible refine OutFoot.next ?_
    | split
    | dsimp only

theorem foot_execLSub {m : Nat} {z t : State} (hs : 0x7a280900acea4f88 ||| m = m) (h : Foot m z t) (a0 : _) (a1 : _) :
    OutFoot m z (execLSub a0 a1 t) := by
  refine OutFoot.step (m := 0x7a280900acea4f88) ?_ hs h
  clear h hs
  have h := Foot.refl 0x7a280900acea4f88 t
  unfold execLSub
  repeat' first
    | with_reducible assumption
    | (intro x; first | clear_value x | skip)
    | lift_lets
    | with_reducible refine foot_laBundle rfl ?_ ..
    | with_reducible refine OutFoot.next ?_
    | split
    | dsimp only

theorem foot_execLLda {m : Nat} {z t : State} (hs : 0x7a280900acea4f88 ||| m = m) (h : Foot m z t) (a0 : _) (a1 : _) :
    OutFoot m z (execLLda a0 a1 t) := by
  refine OutFoot.step (m := 0x7a280900acea4f88) ?_ hs h
  clear h hs
  have h := Foot.refl 0x7a280900acea4f88 t
  unfold execLLda
  repeat' first
    | with_reducible assumption
    | (intro x; first | clear_value x | skip)
    | lift_lets
    | with_reducible refine foot_laBundle rfl ?_ ..
    | with_reducible refine OutFoot.next ?_
    | split
    | dsimp only

theorem foot_execLRnd {m : Nat} {z t : State} (hs : 0x7a280900acea4f88 ||| m = m) (h : Foot m z t) (a0 : _) (a1 : _) :
    OutFoot m z (execLRnd a0 a1 t) := by
  refine OutFoot.step (m := 0x7a280900acea4f88) ?_ hs h
  clear h hs
  have h := Foot.refl 0x7a280900acea4f88 t
  unfold execLRnd
  repeat' first
    | with_reducible assumption
    | (intro x; first | clear_value x | skip)
    | lift_lets
    | with_reducible refine foot_laBundle rfl ?_ ..
    | with_reducible refine OutFoot.next ?_
    | split
    | dsimp only

theorem foot_execLShl {m : Nat} {z t : State} (hs : 0x7a280900acea4f88 ||| m = m) (h : Foot m z t) (a0 : _) (a1 : _) :
    OutFoot m z (execLShl a0 a1 t) := by
  refine OutFoot.step (m := 0x7a280900acea4f88) ?_ hs h
  clear h hs
  have h := Foot.refl 0x7a280900acea4f88 t
  unfold execLShl
  repeat' first
    | with_reducible assumption
    | (intro x; first | clear_value x | skip)
    | lift_lets
    | with_reducible refine foot_laBundle rfl ?_ ..
    | with_reducible refine OutFoot.next ?_
    | split
    | dsimp only

theorem foot_execLShr {m : Nat} {z t : State} (hs : 0x7a280900acea4f88 ||| m = m) (h : Foot m z t) (a0 : _) (a1 : _) :
    OutFoot m z (execLShr a0 a1 t) := by
  refine OutFoot.step (m := 0x7a280900acea4f88) ?_ hs h
  clear h hs
  have h := Foot.refl 0x7a280900acea4f88 t
  unfold execLShr
  repeat' first
    | with_reducible assumption
    | (intro x; first | clear_value x | skip)
    | lift_lets
    | with_reducible refine foot_laBundle rfl ?_ ..
    | with_reducible refine OutFoot.next ?_
    | split
    | dsimp only

theorem foot_execLClip {m : Nat} {z t : State} (hs : 0x7a280900acea4f88 ||| m = m) (h : Foot m z t) (a0 : _) (a1 : _) :
    OutFoot m z (execLClip a0 a1 t) := by
  refine OutFoot.step (m := 0x7a280900acea4f88) ?_ hs h
  clear h hs
  have h := Foot.refl 0x7a280900acea4f88 t
  unfold execLClip
  repeat' first
    | with_reducible assumption
    | (intro x; first | clear_value x | skip)
    | lift_lets
    | with_reducible refine foot_laBundle rfl ?_ ..
    | with_reducible refine OutFoot.next ?_
    | split
    | dsimp only

theorem foot_execLAbs {m : Nat} {z t : State} (hs : 0x7a280900acea4f88 ||| m = m) (h : Foot m z t) (a0 : _) (a1 : _) :
    OutFoot m z (execLAbs a0 a1 t) := by
  refine OutFoot.step (m := 0x7a280900acea4f88) ?_ hs h
  clear h hs
  have h := Foot.refl 0x7a280900acea4f88 t
  unfold execLAbs
  repeat' first
    | with_reducible assumption
    | (intro x; first | clear_value x | skip)
    | lift_lets
    | with_reducible refine foot_laBundle rfl ?_ ..
    | with_reducible refine OutFoot.next ?_
    | split
    | dsimp only

theorem foot_execLNeg {m : Nat} {z t : State} (hs : 0x7a280900acea4f88 ||| m = m) (h : Foot m z t) (a0 : _) (a1 : _) :
    OutFoot m z (execLNeg a0 a1 t) := by
  refine OutFoot.step (m := 0x7a280900acea4f88) ?_ hs h
  clear h hs
  have h := Foot.refl 0x7a280900acea4f88 t
  unfold execLNeg
  repeat' first
    | with_reducible assumption
    | (intro x; first | clear_value x | skip)
    | lift_lets
    | with_reducible refine foot_laBundle rfl ?_ ..
    | with_reducible refine OutFoot.next ?_
    | split
    | dsimp only

theorem foot_execLAcc {m : Nat} {z t : State} (hs : 0x7a280900acea4f88 ||| m = m) (h : Foot m z t) (a0 : _) (a1 : _) :
    OutFoot m z (execLAcc a0 a1 t) := by
  refine OutFoot.step (m := 0x7a280900acea4f88) ?_ hs h
  clear h hs
  have h := Foot.refl 0x7a280900acea4f88 t
  unfold execLAcc
  repeat' first
    | with_reducible assumption
    | (intro x; first | clear_value x | skip)
    | lift_lets
    | with_reducible refine foot_bundle rfl (fun _ _ _ => ?_) ?_ ..
    | with_reducible refine foot_laBundle rfl ?_ ..
    | with_reducible apply Foot.ite
    | with_reducible exact ExFoot.error
    | with_reducible refine OutFoot.next ?_
    | split
    | dsimp only

theorem foot_execLSum {m : Nat} {z t : State} (hs : 0x7a280900acea4f88 ||| m = m) (h : Foot m z t) (a0 : _) (a1 : _) :
    OutFoot m z (execLSum a0 a1 t) := by
  refine OutFoot.step (m := 0x7a280900acea4f88) ?_ hs h
  clear h hs
  have h := Foot.refl 0x7a280900acea4f88 t
  unfold execLSum
  repeat' first
    | with_reducible assumption
    | (intro x; first | clear_value x | skip)
    | lift_lets
    | with_reducible refine foot_laBundle rfl ?_ ..
    | with_reducible refine OutFoot.next ?_
    | split
    | dsimp only

theorem foot_execLMovd {m : Nat} {z t : State} (hs : 0x7a280900acea4f88 ||| m = m) (h : Foot m z t) (a0 : _) (a1 : _) :
    OutFoot m z (execLMovd a0 a1 t) := by
  refine OutFoot.step (m := 0x7a280900acea4f88) ?_ hs h
  clear h hs
  have h := Foot.refl 0x7a280900acea4f88 t
  unfold execLMovd
  repeat' first
    | with_reducible assumption
    | (intro x; first | clear_value x | skip)
    | lift_lets
    | with_reducible refine foot_laBundle rfl ?_ ..
    | with_reducible refine OutFoot.next ?_
    | split
    | dsimp only

theorem foot_execLRep {m : Nat} {z t : State} (hs : 0x7a280100acea4f80 ||| m = m) (h : Foot m z t) (a0 : _) (a1 : _) (a2 : _) (a3 : _) :
    OutFoot m z (execLRep a0 a1 a2 a3 t) := by
  refine OutFoot.step (m := 0x7a280100acea4f80) ?_ hs h
  clear h hs
  have h := Foot.refl 0x7a280100acea4f80 t
  unfold execLRep
  repeat' first
    | with_reducible assumption
    | (intro x; first | clear_value x | skip)
    | lift_lets
    | with_reducible refine foot_lcAlone rfl (fun _ _ _ => ?_) ?_ ..
    | with_reducible refine foot_fillCache rfl ?_ ..
    | with_reducible apply ExFoot.ite
    | with_reducible exact ExFoot.error
    | with_reducible refine ExFoot.ok ?_
    | with_reducible refine OutFoot.next ?_
    | split
    | dsimp only

theorem foot_execLBrl {m : Nat} {z t : State} (hs : 0x7a280100acea4f80 ||| m = m) (h : Foot m z t) (a0 : _) (a1 : _) (a2 : _) (a3 : _) :
    OutFoot m z (execLBrl a0 a1 a2 a3 t) := by
  refine OutFoot.step (m := 0x7a280100acea4f80) ?_ hs h
  clear h hs
  have h := Foot.refl 0x7a280100acea4f80 t
  unfold execLBrl
  repeat' first
    | with_reducible assumption
    | (intro x; first | clear_value x | skip)
    | lift_lets
    | with_reducible refine foot_lcAlone rfl (fun _ _ _ => ?_) ?_ ..
    | with_reducible refine foot_bundle rfl (fun _ _ _ => ?_) ?_ ..
    | with_reducible apply Foot.ite
    | with_reducible apply ExFoot.ite
    | with_reducible exact ExFoot.error
    | with_reducible refine ExFoot.ok ?_
    | with_reducible refine OutFoot.next ?_
    | split
    | dsimp only

theorem foot_execLAct {m : Nat} {z t : State} (hs : 0x7a280100acea4f80 ||| m = m) (h : Foot m z t) (a0 : _) :
    OutFoot m z (execLAct a0 t) := by
  refine OutFoot.step (m := 0x7a280100acea4f80) ?_ hs h
  clear h hs
  have h := Foot.refl 0x7a280100acea4f80 t
  unfold execLAct
  repeat' first
    | with_reducible assumption
    | (intro x; first | clear_value x | skip)
    | lift_lets
    | with_reducible refine foot_lcAlone rfl (fun _ _ _ => ?_) ?_ ..
    | with_reducible apply ExFoot.ite
    | with_reducible exact ExFoot.error
    | with_reducible refine ExFoot.ok ?_
    | with_reducible refine OutFoot.next ?_
    | split
    | dsimp only

theorem foot_execLLdx {m : Nat} {z t : State} (hs : 0x7a280100acea4f80 ||| m = m) (h : Foot m z t) (a0 : _) (a1 : _) (a2 : _) :
    OutFoot m z (execLLdx a0 a1 a2 t) := by
  refine OutFoot.step (m := 0x7a280100acea4f80) ?_ hs h
  clear h hs
  have h := Foot.refl 0x7a280100acea4f80 t
  unfold execLLdx
  repeat' first
    | with_reducible assumption
    | (intro x; first | clear_value x | skip)
    | lift_lets
    | with_reducible refine foot_lcBundle rfl ?_ ..
    | with_reducible refine OutFoot.next ?_
    | split
    | dsimp only

theorem foot_execLCfx {m : Nat} {z t : State} (hs : 0x7a280100acea4f80 ||| m = m) (h : Foot m z t) (a0 : _) (a1 : _) (a2 : _) (a3 : _) (a4 : _) (a5 : _) :
    OutFoot m z (execLCfx a0 a1 a2 a3 a4 a5 t) := by
  refine OutFoot.step (m := 0x7a280100acea4f80) ?_ hs h
  clear h hs
  have h := Foot.refl 0x7a280100acea4f80 t
  unfold execLCfx
  repeat' first
    | with_reducible assumption
    | (intro x; first | clear_value x | skip)
    | lift_lets
    | with_reducible refine foot_lcBundle rfl ?_ ..
    | with_reducible refine OutFoot.next ?_
    | split
    | dsimp only

theorem foot_execLLdlc {m : Nat} {z t : State} (hs : 0x7a280100acea4f80 ||| m = m) (h : Foot m z t) (a0 : _) (a1 : _) :
    OutFoot m z (execLLdlc a0 a1 t) := by
  refine OutFoot.step (m := 0x7a280100acea4f80) ?_ hs h
  clear h hs
  have h := Foot.refl 0x7a280100acea4f80 t
  unfold execLLdlc
  repeat' first
    | with_reducible assumption
    | (intro x; first | clear_value x | skip)
    | lift_lets
    | with_reducible refine foot_lcBundle rfl ?_ ..
    | with_reducible refine OutFoot.next ?_
    | split
    | dsimp only

theorem foot_execLSetlm {m : Nat} {z t : State} (hs : 0x7a280100acea4f80 ||| m = m) (h : Foot m z t) (a0 : _) (a1 : _) :
    OutFoot m z (execLSetlm a0 a1 t) := by
  refine OutFoot.step (m := 0x7a280100acea4f80) ?_ hs h
  clear h hs
  have h := Foot.refl 0x7a280100acea4f80 t
  unfold execLSetlm
  repeat' first
    | with_reducible assumption
    | (intro x; first | clear_value x | skip)
    | lift_lets
    | with_reducible refine foot_lcBundle rfl ?_ ..
    | with_reducible refine OutFoot.next ?_
    | split
    | dsimp only

theorem foot_execLLdmp {m : Nat} {z t : State} (hs : 0x7a280100acea4f80 ||| m = m) (h : Foot m z t) (a0 : _) (a1 : _) :
    OutFoot m z (execLLdmp a0 a1 t) := by
  refine OutFoot.step (m := 0x7a280100acea4f80) ?_ hs h
  clear h hs
  have h := Foot.refl 0x7a280100acea4f80 t
  unfold execLLdmp
  repeat' first
    | with_reducible assumption
    | (intro x; first | clear_value x | skip)
    | lift_lets
    | with_reducible refine foot_lcBundle rfl ?_ ..
    | with_reducible refine OutFoot.next ?_
    | split
    | dsimp only

theorem foot_execLMovi {m : Nat} {z t : State} (hs : 0x7a280100acea4f80 ||| m = m) (h : Foot m z t) (a0 : _) (a1 : _) (a2 : _) :
    OutFoot m z (execLMovi a0 a1 a2 t) := by
  refine OutFoot.step (m := 0x7a280100acea4f80) ?_ hs h
  clear h hs
  have h := Foot.refl 0x7a280100acea4f80 t
  unfold execLMovi
  repeat' first
    | with_reducible assumption
    | (intro x; first | clear_value x | skip)
    | lift_lets
    | with_reducible refine foot_lcBundle rfl ?_ ..
    | with_reducible refine OutFoot.next ?_
    | split
    | dsimp only

theorem foot_execLClra {m : Nat} {z t : State} (hs : 0x7a280100acea4f80 ||| m = m) (h : Foot m z t) (a0 : _) (a1 : _) :
    OutFoot m z (execLClra a0 a1 t) := by
  refine OutFoot.step (m := 0x7a280100acea4f80) ?_ hs h
  clear h hs
  have h := Foot.refl 0x7a280100acea4f80 t
  unfold execLClra
  repeat' first
    | with_reducible assumption
    | (intro x; first | clear_value x | skip)
    | lift_lets
    | with_reducible refine foot_lcBundle rfl ?_ ..
    | with_reducible refine OutFoot.next ?_
    | split
    | dsimp only

theorem foot_execLClrs {m : Nat} {z t : State} (hs : 0x7a280100acea4f80 ||| m = m) (h : Foot m z t) (a0 : _) :
    OutFoot m z (execLClrs a0 t) := by
  refine OutFoot.step (m := 0x7a280100acea4f80) ?_ hs h
  clear h hs
  have h := Foot.refl 0x7a280100acea4f80 t
  unfold execLClrs
  repeat' first
    | with_reducible assumption
    | (intro x; first | clear_value x | skip)
    | lift_lets
    | with_reducible refine foot_lcBundle rfl ?_ ..
    | with_reducible refine OutFoot.next ?_
    | split
    | dsimp only

theorem foot_execUndefBundle {m : Nat} {z t : State} (hs : 0x7a280100acea4f80 ||| m = m) (h : Foot m z t) (a0 : _) :
    OutFoot m z (execUndefBundle a0 t) := by
  refine OutFoot.step (m := 0x7a280100acea4f80) ?_ hs h
  clear h hs
  have h := Foot.refl 0x7a280100acea4f80 t
  unfold execUndefBundle
  repeat' first
    | with_reducible assumption
    | (intro x; first
        | (refine Foot.cut (P := Foot 0x7a280100acea4f80 t x) ?_ ?_; rotate_left; subst x; rotate_left; intro hx; clear_value x)
        | (refine Foot.cut (P := PairFoot 0x7a280100acea4f80 t x) ?_ ?_; rotate_left; subst x; rotate_left; intro hx; clear_value x)
        | (refine Foot.cut (P := OptFoot 0x7a280100acea4f80 t x) ?_ ?_; rotate_left; subst x; rotate_left; intro hx; clear_value x)
        | (have hf := x.programmed; clear hf)
        | clear_value x
        | skip)
    | lift_lets
    | with_reducible refine foot_bundle rfl (fun _ _ _ => ?_) ?_ ..
    | with_reducible refine Foot.foldl (fun _ _ _ => ?_) ?_
    | with_reducible refine PairFoot.foldl (fun _ _ _ => ?_) ?_
    | with_reducible apply Foot.ite
    | with_reducible apply PairFoot.ite
    | with_reducible apply OptFoot.ite
    | with_reducible apply OutFoot.ite
    | with_reducible apply ExFoot.ite
    | with_reducible exact ExFoot.error
    | with_reducible refine ExFoot.ok ?_
    | with_reducible refine PairFoot.forL (fun _ _ _ => ?_) ?_
    | with_reducible refine PairFoot.forN (fun _ _ _ => ?_) ?_
    | with_reducible refine OptFoot.some ?_
    | with_reducible exact OptFoot.none
    | with_reducible refine OutFoot.next ?_
    | with_reducible refine OptFoot.getD ?_ ?_
    | with_reducible refine PairFoot.snd ?_
    | with_reducible exact PairFoot.out (by assumption)
    | with_reducible refine PairFoot.eq (by assumption) ?_
    | with_reducible refine OptFoot.eq (by assumption) ?_
    | with_reducible refine ExFoot.eq (by assumption) ?_
    | ((with_reducible refine Foot.lit ?_ rfl rfl ?_ ?_ ?_ ?_ ?_ ?_); rotate_left; rfl; rfl; rfl; rfl; (first | exact Nat.le_refl _ | exact Nat.le_succ _); (constructor <;> first | with_reducible exact Kept.same | exact Kept.masked rfl); (first | with_reducible assumption | with_reducible refine foot_bundle rfl (fun _ _ _ => ?_) ?_ .. | with_reducible refine Foot.foldl (fun _ _ _ => ?_) ?_ | with_reducible refine PairFoot.foldl (fun _ _ _ => ?_) ?_ | with_reducible apply Foot.ite | with_reducible apply PairFoot.ite | with_reducible apply OptFoot.ite | with_reducible apply OutFoot.ite | with_reducible apply ExFoot.ite | with_reducible exact ExFoot.error | with_reducible refine ExFoot.ok ?_ | with_reducible refine PairFoot.forL (fun _ _ _ => ?_) ?_ | with_reducible refine PairFoot.forN (fun _ _ _ => ?_) ?_ | with_reducible refine OptFoot.some ?_ | with_reducible exact OptFoot.none | with_reducible refine OutFoot.next ?_ | with_reducible refine OptFoot.getD ?_ ?_ | with_reducible refine PairFoot.snd ?_))
    | split
    | with_reducible refine PairFoot.mk ?_
    | dsimp only

end Sys2Proof.Machine
end

