-- ==== Sys2Proof/Laws/FootPublish.lean ====
section
/-!
SUPPORT. Footprints of the operations of Machine/Publish.lean.
-/

set_option Elab.async false

set_option linter.all false

set_option maxRecDepth 4000

namespace Sys2Proof.Machine

theorem foot_deliverStreams {m : Nat} {z t : State} (hs : 0x72380123e4ea4f80 ||| m = m) (h : Foot m z t) (a0 : _) (a1 : _) (a2 : _) (a3 : _) (a4 : _) :
    PairFoot m z (State.deliverStreams a0 a1 a2 a3 a4 t) := by
  refine PairFoot.step (m := 0x72380123e4ea4f80) ?_ hs h
  clear h hs
  have h := Foot.refl 0x72380123e4ea4f80 t
  unfold State.deliverStreams
  repeat' first
    | with_reducible assumption
    | (intro x; first | clear_value x | skip)
    | lift_lets
    | with_reducible refine foot_missAll rfl ?_ ..
    | with_reducible refine foot_ingestAll rfl ?_ ..
    | with_reducible apply PairFoot.ite
    | split
    | with_reducible refine PairFoot.mk ?_
    | dsimp only

theorem foot_deliverSense {m : Nat} {z t : State} (hs : 0x72380123e4ea4f88 ||| m = m) (h : Foot m z t) (a0 : _) (a1 : _) :
    Foot m z (State.deliverSense a0 a1 t) := by
  refine Foot.step (m := 0x72380123e4ea4f88) ?_ hs h
  clear h hs
  have h := Foot.refl 0x72380123e4ea4f88 t
  unfold State.deliverSense
  repeat' first
    | with_reducible assumption
    | (intro x; first
        | (refine Foot.cut (P := Foot 0x72380123e4ea4f88 t x) ?_ ?_; rotate_left; subst x; rotate_left; intro hx; clear_value x)
        | (refine Foot.cut (P := PairFoot 0x72380123e4ea4f88 t x) ?_ ?_; rotate_left; subst x; rotate_left; intro hx; clear_value x)
        | (refine Foot.cut (P := OptFoot 0x72380123e4ea4f88 t x) ?_ ?_; rotate_left; subst x; rotate_left; intro hx; clear_value x)
        | (have hf := x.programmed; clear hf)
        | clear_value x
        | skip)
    | lift_lets
    | with_reducible refine foot_modChan rfl ?_ ..
    | with_reducible refine foot_setWord rfl ?_ ..
    | with_reducible refine foot_ingestAll rfl ?_ ..
    | with_reducible refine Foot.foldl (fun _ _ _ => ?_) ?_
    | with_reducible refine PairFoot.foldl (fun _ _ _ => ?_) ?_
    | with_reducible apply Foot.ite
    | with_reducible apply PairFoot.ite
    | with_reducible apply OptFoot.ite
    | with_reducible apply OutFoot.ite
    | with_reducible apply ExFoot.ite
    | with_reducible exact ExFoot.error
    | with_reducible refine ExFoot.ok ?_
    | with_reducible refine PairFoot.forL (fun _ _ _ => ?_) ?_
    | with_reducible refine PairFoot.forN (fun _ _ _ => ?_) ?_
    | with_reducible refine OptFoot.some ?_
    | with_reducible exact OptFoot.none
    | with_reducible refine OutFoot.next ?_
    | with_reducible refine OptFoot.getD ?_ ?_
    | with_reducible refine PairFoot.snd ?_
    | with_reducible exact PairFoot.out (by assumption)
    | with_reducible refine PairFoot.eq (by assumption) ?_
    | with_reducible refine OptFoot.eq (by assumption) ?_
    | with_reducible refine ExFoot.eq (by assumption) ?_
    | ((with_reducible refine Foot.lit ?_ rfl rfl ?_ ?_ ?_ ?_ ?_ ?_); rotate_left; rfl; rfl; rfl; rfl; (first | exact Nat.le_refl _ | exact Nat.le_succ _); (constructor <;> first | with_reducible exact Kept.same | exact Kept.masked rfl); (first | with_reducible assumption | with_reducible refine foot_modChan rfl ?_ .. | with_reducible refine foot_setWord rfl ?_ .. | with_reducible refine foot_ingestAll rfl ?_ .. | with_reducible refine Foot.foldl (fun _ _ _ => ?_) ?_ | with_reducible refine PairFoot.foldl (fun _ _ _ => ?_) ?_ | with_reducible apply Foot.ite | with_reducible apply PairFoot.ite | with_reducible apply OptFoot.ite | with_reducible apply OutFoot.ite | with_reducible apply ExFoot.ite | with_reducible exact ExFoot.error | with_reducible refine ExFoot.ok ?_ | with_reducible refine PairFoot.forL (fun _ _ _ => ?_) ?_ | with_reducible refine PairFoot.forN (fun _ _ _ => ?_) ?_ | with_reducible refine OptFoot.some ?_ | with_reducible exact OptFoot.none | with_reducible refine OutFoot.next ?_ | with_reducible refine OptFoot.getD ?_ ?_ | with_reducible refine PairFoot.snd ?_))
    | split
    | with_reducible refine PairFoot.mk ?_
    | dsimp only

theorem foot_deliver {m : Nat} {z : State} {p : List Nat × State} (hs : 0x72380123e4ea4f88 ||| m = m) (h : PairFoot m z p) (n : Nat) :
    PairFoot m z (State.deliver n p) := by
  unfold State.deliver
  split
  · exact h
  · next g _ =>
    have h1 : Foot m z (p.2.publish n).2 := PairFoot.snd (foot_publish (mask_sub (b := 0x72380123e4ea4f88) rfl hs) h.snd ..)
    exact foot_deliverStreams (mask_sub (b := 0x72380123e4ea4f88) rfl hs)
      (.ite (foot_deliverSense (mask_sub (b := 0x72380123e4ea4f88) rfl hs) h1 ..) h1) ..

theorem foot_pinStreams {m : Nat} {z t : State} (hs : 0x72380123e4ea4f80 ||| m = m) (h : Foot m z t) :
    Foot m z (State.pinStreams t) := by
  refine Foot.step (m := 0x72380123e4ea4f80) ?_ hs h
  clear h hs
  have h := Foot.refl 0x72380123e4ea4f80 t
  unfold State.pinStreams
  repeat' first
    | with_reducible assumption
    | (intro x; first | clear_value x | skip)
    | lift_lets
    | with_reducible refine foot_ingest rfl ?_ ..
    | with_reducible refine Foot.forL (fun _ _ _ => ?_) ?_
    | split
    | dsimp only

theorem foot_delivered {m : Nat} {z t : State} (hs : 0x200000010c200000 ||| m = m) (h : Foot m z t) (a0 : _) :
    Foot m z (State.delivered a0 t) := by
  refine Foot.step (m := 0x200000010c200000) ?_ hs h
  clear h hs
  have h := Foot.refl 0x200000010c200000 t
  unfold State.delivered
  repeat' first
    | with_reducible assumption
    | (intro x; first | (refine Foot.cut (P := Foot 0x200000010c200000 t x) ?_ ?_; rotate_left; subst x; rotate_left; intro hx; clear_value x) | clear_value x | skip)
    | lift_lets
    | with_reducible refine foot_mbxUpdate rfl ?_ ..
    | with_reducible refine foot_mirrorUpdate rfl ?_ ..
    | with_reducible refine Foot.forN (fun _ _ _ => ?_) ?_
    | with_reducible apply Foot.ite
    | split
    | dsimp only

theorem foot_execSampleDelivery {m : Nat} {z t : State} (hs : 0x72380123ecea4f88 ||| m = m) (h : Foot m z t) :
    OutFoot m z (execSampleDelivery t) := by
  unfold execSampleDelivery
  apply OutFoot.ite
  · exact .next h
  · exact .next (foot_pinStreams (mask_sub (b := 0x72380123ecea4f88) rfl hs) (foot_delivered (mask_sub (b := 0x72380123ecea4f88) rfl hs)
      (PairFoot.snd (PairFoot.foldl (fun q a hq => foot_deliver (mask_sub (b := 0x72380123ecea4f88) rfl hs) hq a) (.mk h))) ..) ..)

theorem foot_execUpstreamSenseBlock {m : Nat} {z t : State} (hs : 0x72380922e4ea4f80 ||| m = m) (h : Foot m z t) (a0 : _) (a1 : _) :
    OutFoot m z (execUpstreamSenseBlock a0 a1 t) := by
  refine OutFoot.step (m := 0x72380922e4ea4f80) ?_ hs h
  clear h hs
  have h := Foot.refl 0x72380922e4ea4f80 t
  unfold execUpstreamSenseBlock
  repeat' first
    | with_reducible assumption
    | (intro x; first
        | (refine Foot.cut (P := Foot 0x72380922e4ea4f80 t x) ?_ ?_; rotate_left; subst x; rotate_left; intro hx; clear_value x)
        | (refine Foot.cut (P := PairFoot 0x72380922e4ea4f80 t x) ?_ ?_; rotate_left; subst x; rotate_left; intro hx; clear_value x)
        | (refine Foot.cut (P := OptFoot 0x72380922e4ea4f80 t x) ?_ ?_; rotate_left; subst x; rotate_left; intro hx; clear_value x)
        | (have hf := x.programmed; clear hf)
        | clear_value x
        | skip)
    | lift_lets
    | with_reducible refine foot_modChan rfl ?_ ..
    | with_reducible refine foot_raise rfl ?_ ..
    | with_reducible refine foot_missAll rfl ?_ ..
    | with_reducible refine foot_blockCrc rfl ?_ ..
    | with_reducible refine Foot.foldl (fun _ _ _ => ?_) ?_
    | with_reducible refine PairFoot.foldl (fun _ _ _ => ?_) ?_
    | with_reducible apply Foot.ite
    | with_reducible apply PairFoot.ite
    | with_reducible apply OptFoot.ite
    | with_reducible apply OutFoot.ite
    | with_reducible apply ExFoot.ite
    | with_reducible exact ExFoot.error
    | with_reducible refine ExFoot.ok ?_
    | with_reducible refine PairFoot.forL (fun _ _ _ => ?_) ?_
    | with_reducible refine PairFoot.forN (fun _ _ _ => ?_) ?_
    | with_reducible refine OptFoot.some ?_
    | with_reducible exact OptFoot.none
    | with_reducible refine OutFoot.next ?_
    | with_reducible refine OptFoot.getD ?_ ?_
    | with_reducible refine PairFoot.snd ?_
    | with_reducible exact PairFoot.out (by assumption)
    | with_reducible refine PairFoot.eq (by assumption) ?_
    | with_reducible refine OptFoot.eq (by assumption) ?_
    | with_reducible refine ExFoot.eq (by assumption) ?_
    | ((with_reducible refine Foot.lit ?_ rfl rfl ?_ ?_ ?_ ?_ ?_ ?_); rotate_left; rfl; rfl; rfl; rfl; (first | exact Nat.le_refl _ | exact Nat.le_succ _); (constructor <;> first | with_reducible exact Kept.same | exact Kept.masked rfl); (first | with_reducible assumption | with_reducible refine foot_modChan rfl ?_ .. | with_reducible refine foot_raise rfl ?_ .. | with_reducible refine foot_missAll rfl ?_ .. | with_reducible refine foot_blockCrc rfl ?_ .. | with_reducible refine Foot.foldl (fun _ _ _ => ?_) ?_ | with_reducible refine PairFoot.foldl (fun _ _ _ => ?_) ?_ | with_reducible apply Foot.ite | with_reducible apply PairFoot.ite | with_reducible apply OptFoot.ite | with_reducible apply OutFoot.ite | with_reducible apply ExFoot.ite | with_reducible exact ExFoot.error | with_reducible refine ExFoot.ok ?_ | with_reducible refine PairFoot.forL (fun _ _ _ => ?_) ?_ | with_reducible refine PairFoot.forN (fun _ _ _ => ?_) ?_ | with_reducible refine OptFoot.some ?_ | with_reducible exact OptFoot.none | with_reducible refine OutFoot.next ?_ | with_reducible refine OptFoot.getD ?_ ?_ | with_reducible refine PairFoot.snd ?_))
    | split
    | with_reducible refine PairFoot.mk ?_
    | dsimp only

theorem foot_execInputPublish {m : Nat} {z t : State} (hs : 0x7638012be4ea4f88 ||| m = m) (h : Foot m z t) (a0 : _) :
    OutFoot m z (execInputPublish a0 t) := by
  refine OutFoot.step (m := 0x7638012be4ea4f88) ?_ hs h
  clear h hs
  have h := Foot.refl 0x7638012be4ea4f88 t
  unfold execInputPublish
  repeat' first
    | with_reducible assumption
    | (intro x; first | (refine Foot.cut (P := Foot 0x7638012be4ea4f88 t x) ?_ ?_; rotate_left; subst x; rotate_left; intro hx; clear_value x) | clear_value x | skip)
    | lift_lets
    | with_reducible refine foot_slPublish rfl ?_ ..
    | with_reducible refine foot_mirrorUpdate rfl ?_ ..
    | with_reducible refine foot_ingestAll rfl ?_ ..
    | with_reducible apply OutFoot.ite
    | with_reducible refine OutFoot.next ?_
    | split
    | dsimp only

theorem foot_execActivationEnd {m : Nat} {z t : State} (hs : 0x7a380923ecea4f88 ||| m = m) (h : Foot m z t) (a0 : _) :
    OutFoot m z (execActivationEnd a0 t) := by
  refine OutFoot.step (m := 0x7a380923ecea4f88) ?_ hs h
  clear h hs
  have h := Foot.refl 0x7a380923ecea4f88 t
  unfold execActivationEnd
  repeat' first
    | with_reducible assumption
    | (intro x; first | clear_value x | skip)
    | lift_lets
    | with_reducible refine foot_makeReady rfl ?_ ..
    | with_reducible refine foot_dropAct rfl ?_ ..
    | with_reducible refine foot_finishAct rfl ?_ ..
    | with_reducible refine foot_mirrorUpdate rfl ?_ ..
    | with_reducible refine foot_ingestAll rfl ?_ ..
    | with_reducible refine foot_setFlag (blk_LE_SLOTSTAT_PENDING ..) rfl ?_ ..
    | with_reducible apply Foot.ite
    | with_reducible refine OutFoot.next ?_
    | split
    | dsimp only

end Sys2Proof.Machine
end

