-- ==== Sys2Proof/WellFormed.lean ====
section
/-!
DEFINITION. Which commands the wires can carry: every number of a well-formed command fits the field of the frame,
message or measurement that brings it. `exec` gives every command its effect, well formed or not.
-/

set_option Elab.async false

namespace Sys2Proof

/-- Does the number fit `n` bits? -/
def ubits (n v : Nat) : Bool := decide (v < 2 ^ n)

/-- Does the integer fit `n` bits in two's complement? -/
def sbits (n : Nat) (i : Int) : Bool := decide (-(2 ^ (n - 1) : Nat) ≤ i) && decide (i < (2 ^ (n - 1) : Nat))

/-- Between 1 and `n` entries (R474). -/
def countOk {α : Type} (n : Nat) (l : List α) : Bool := decide (1 ≤ l.length) && decide (l.length ≤ n)

/-- Words at word addresses of the 40-bit space (R2, R88). -/
def wordsOk (l : List (Nat × Word)) : Bool := l.all fun p => ubits 40 p.1 && decide (p.1 % 4 = 0)

/-- What DAWN finds names dies, regions, SerDes groups and drives that exist (R1, R60, R61). -/
def DawnEnv.wf (e : DawnEnv) : Bool :=
  ubits 4 e.serLocks && e.visoAbsent.all (fun d => decide (d < 4)) && e.vfldAbsent.all (fun r => decide (r < 8)) &&
  e.sealFails.all (fun p => decide (p.1 < 4) && ubits 1 p.2) && ubits 2 e.jnlOk && ubits 2 e.netUp &&
  e.jnlBad.all (fun p => decide (p.1 < 2) && ubits 64 p.2) && e.recBad.all (fun p => decide (p.1 < 55) && ubits 1 p.2) &&
  decide (e.delays.length = 4) && e.delays.all (ubits 8)

/-- The parts of a delta name sequencers, axes, fault sources and canvas or engine words that exist (R69, R71). -/
def PlnkDelta.wf (d : PlnkDelta) : Bool :=
  ubits 384 d.hash && d.seqs.all (fun q => decide (q.1 < 32) && ubits 4 q.2.1 && ubits 12 q.2.2.1 && ubits 16 q.2.2.2.1 && ubits 64 q.2.2.2.2) &&
  d.ramps.all (fun r => decide (r.1 < 32)) && d.halves.all (fun h => ubits 40 h.1 && ubits 16 h.2) &&
  d.axes.all (fun a => decide (a.1 < 128) && sbits 48 a.2.act && sbits 48 a.2.rem && ubits 3 a.2.st && ubits 3 a.2.cause) &&
  d.srcs.all (fun r => decide (r.1 < 512)) && d.drops.all (fun p => ubits 32 p.2)

/-- The content of an image's last segment is of the KIND the message names (R474). -/
def bodyOk (kind : Nat) : Option ImageBody → Bool
  | none => true
  | some (.firmware _) => kind == 0
  | some (.program _) => kind == 1
  | some (.config _ _) => kind == 2
  | some (.calibration _ _) => kind == 3
  | some (.keyRequest n) => kind == 4 && decide (1 ≤ n) && decide (n ≤ 8)

/-- The fields of a Galxis record (R459, R460). -/
def GxRecord.wf (r : GxRecord) : Bool :=
  ubits 16 r.station && decide (r.kind < 5) && ubits 16 r.data.length && ubits 16 r.status.epoch && ubits 16 r.status.cyc &&
  ubits 4 r.status.state && ubits 32 r.status.cfgSig

/-- The fields of a Galxis frame (R458). -/
def GxFrame.wf (f : GxFrame) : Bool :=
  decide (f.type < 4) && ubits 16 f.epoch && ubits 32 f.cycle && ubits 8 f.frag && ubits 8 f.nfrag && ubits 8 f.link &&
  ubits 64 f.txot && ubits 64 f.sampleOt && ubits 64 f.commitOt && f.records.all GxRecord.wf

/-- The fields of a CAN frame (R488): an 11-bit or 29-bit identifier, a 4-bit DLC, at most 64 bytes. -/
def CanFrame.wf (f : CanFrame) : Bool :=
  (if f.ide then ubits 29 f.id else ubits 11 f.id) && ubits 4 f.dlc && decide (f.data.length ≤ 64) && ubits 64 f.sof

/-- Is the command one that the wires can carry? -/
def Instr.wf (i : Instr) : Bool :=
  match i with
  | .registerWrite .. => true
  | .expertEnWrite .. => true
  | .lpddrRangeAccess .. => true
  | .unmappedAccess .. => true
  | .fdWindowAccessComplete .. => true
  | .upstreamSampleBlock .. => true
  | .upstreamSenseBlock .. => true
  | .upstreamStatusBlock .. => true
  | .downstreamStepBlock .. => true
  | .downstreamOutputBlock .. => true
  | .upstreamEscape .. => true
  | .downstreamEscape .. => true
  | .couplerClockLoss .. => true
  | .dieRestart .. => true
  | .dieTempMeasure _ temp => sbits 16 temp
  | .mainPllUnlock => true
  | .serdesPllUnlock .. => true
  | .clockCrosscheck .. => true
  | .conversion _ raw sns _ => sbits 20 raw && sbits 20 sns
  | .sampleDelivery => true
  | .lgCtrlWrite .. => true
  | .lockGroupTick .. => true
  | .lockGroupTrigger .. => true
  | .chLgWrite .. => true
  | .suppliesValid env => env.wf
  | .dawnComplete found _ _ => found.all fun p => decide (p.1 < 16) && ubits 32 p.2.1 && ubits 64 p.2.2.1 && ubits 24 p.2.2.2
  | .setupRecordRepair .. => true
  | .run .. => true
  | .hold .. => true
  | .engineer .. => true
  | .idle .. => true
  | .follow .. => true
  | .restartWarm .. => true
  | .restartCold .. => true
  | .fwExchange .. => true
  | .fwCoreRejoin .. => true
  | .fwCommit .. => true
  | .fwAbort .. => true
  | .journalCycle => true
  | .journalDeviceFail .. => true
  | .journalDeviceReturn .. => true
  | .journalRebuildComplete => true
  | .jnlEnWrite .. => true
  | .pfailAssert => true
  | .supplyFail => true
  | .duskTaskDeadline => true
  | .duskFinalDelta .. => true
  | .duskPowerFailState => true
  | .vaultEntry => true
  | .heartbeatSend => true
  | .heartbeatTimeout => true
  | .dusk => true
  | .plnkDeltaReceive cycle leader words more => decide (cycle ≤ leader) && ubits 64 leader && wordsOk words && more.wf
  | .plnkSnapshotReceive _ words => wordsOk words
  | .epochYield .. => true
  | .add .. => true
  | .sub .. => true
  | .and .. => true
  | .or .. => true
  | .xor .. => true
  | .shl .. => true
  | .shr .. => true
  | .sra .. => true
  | .slt .. => true
  | .sltu .. => true
  | .min .. => true
  | .max .. => true
  | .adds .. => true
  | .subs .. => true
  | .cmp .. => true
  | .tst .. => true
  | .mul .. => true
  | .mulh .. => true
  | .mulhu .. => true
  | .div .. => true
  | .divu .. => true
  | .rem .. => true
  | .remu .. => true
  | .mac .. => true
  | .macs .. => true
  | .msu .. => true
  | .msus .. => true
  | .rnd .. => true
  | .rnds .. => true
  | .addD .. => true
  | .subD .. => true
  | .cmpD .. => true
  | .addi .. => true
  | .andi .. => true
  | .ori .. => true
  | .xori .. => true
  | .lui .. => true
  | .cmpi .. => true
  | .shli .. => true
  | .shri .. => true
  | .srai .. => true
  | .sat .. => true
  | .mfs .. => true
  | .mts .. => true
  | .ld .. => true
  | .ldu .. => true
  | .st .. => true
  | .b .. => true
  | .bl .. => true
  | .bz .. => true
  | .bnz .. => true
  | .ldi .. => true
  | .sto .. => true
  | .setf .. => true
  | .clrf .. => true
  | .edgr .. => true
  | .edgf .. => true
  | .ton .. => true
  | .tof .. => true
  | .tp .. => true
  | .ctu .. => true
  | .ctd .. => true
  | .evt .. => true
  | .wft .. => true
  | .wftReturn .. => true
  | .cas .. => true
  | .amoadd .. => true
  | .fence .. => true
  | .fenceI .. => true
  | .jr .. => true
  | .jalr .. => true
  | .trap .. => true
  | .bkpt .. => true
  | .eret .. => true
  | .lNop .. => true
  | .lMac .. => true
  | .lMsu .. => true
  | .lMpy .. => true
  | .lAdd .. => true
  | .lSub .. => true
  | .lLda .. => true
  | .lRnd .. => true
  | .lShl .. => true
  | .lShr .. => true
  | .lClip .. => true
  | .lAbs .. => true
  | .lNeg .. => true
  | .lAcc .. => true
  | .lSum .. => true
  | .lMovd .. => true
  | .lRep .. => true
  | .lBrl .. => true
  | .lAct .. => true
  | .lLdx .. => true
  | .lCfx .. => true
  | .lLdlc .. => true
  | .lSetlm .. => true
  | .lLdmp .. => true
  | .lMovi .. => true
  | .lClra .. => true
  | .lClrs .. => true
  | .dispatcherTick => true
  | .coreClaim => true
  | .affinityWaitExpiry => true
  | .schedGrpack .. => true
  | .taskEnd .. => true
  | .watchdog .. => true
  | .setIn .. => true
  | .setOut .. => true
  | .clearIn .. => true
  | .clearOut .. => true
  | .clearAll .. => true
  | .taskResume .. => true
  | .taskDisable .. => true
  | .taskEnable .. => true
  | .loadImage _ seq _ kind offset total len body => ubits 64 seq && decide (kind < 5) && ubits 32 total && decide (offset + len ≤ total) && decide (len ≤ 1024) && bodyOk kind body
  | .verificationComplete v => ubits 4 v.vres && ubits 8 v.signer && decide (v.ctr ≤ 64) && decide (v.svn ≤ 64)
  | .arm .. => true
  | .exchangeSwitch => true
  | .exchangeRelease => true
  | .exchangeTimeout => true
  | .commit .. => true
  | .revert .. => true
  | .discard .. => true
  | .rangeChange .. => true
  | .rangeSettled .. => true
  | .refselWrite .. => true
  | .refSettled .. => true
  | .refMonitor _ uV => ubits 24 uV
  | .cal .. => true
  | .calibrationStart .. => true
  | .rollCalibrationStart .. => true
  | .calibrationComplete _ factors => factors.all fun f => decide (f.1 < 8) && decide (f.2.1 < 5)
  | .aoutRangeChange .. => true
  | .aoutRangeSettled .. => true
  | .aoutUpdate .. => true
  | .aoutDiagnosis .. => true
  | .certBegin .. => true
  | .certPoint .. => true
  | .certPointComplete _ measured => sbits 20 measured
  | .certEnd .. => true
  | .certAbort .. => true
  | .activationReady .. => true
  | .activationStart .. => true
  | .activationEnd .. => true
  | .scrubRead .. => true
  | .leFabricWrite .. => true
  | .slotEnable .. => true
  | .slotDisable .. => true
  | .leImpcfgWrite .. => true
  | .lePalreqWrite .. => true
  | .lePalgrpWrite .. => true
  | .learnStart .. => true
  | .learnEnd .. => true
  | .learnAbort .. => true
  | .restore .. => true
  | .clrSticky .. => true
  | .rcpPrepare .. => true
  | .rcpTick .. => true
  | .rcpStart .. => true
  | .rcpStop .. => true
  | .pause .. => true
  | .release .. => true
  | .jump .. => true
  | .plannerUpdate => true
  | .go .. => true
  | .goRel .. => true
  | .axStop .. => true
  | .estop .. => true
  | .axResume .. => true
  | .setpos .. => true
  | .axClear .. => true
  | .axisEnable .. => true
  | .axisDisable .. => true
  | .stepMismatch .. => true
  | .stallEstimate .. => true
  | .qencEnWrite .. => true
  | .qerr .. => true
  | .fioDirWrite .. => true
  | .debWrite .. => true
  | .debounceExpiry .. => true
  | .maxactWrite .. => true
  | .maxactExpiry .. => true
  | .switchThermalTrip .. => true
  | .switchCooled .. => true
  | .overcurrentQualified .. => true
  | .vfldMissing .. => true
  | .vfldPresent .. => true
  | .isumMeasure .. => true
  | .regionRestart .. => true
  | .ilmInputChange .. => true
  | .ilmFilterExpiry .. => true
  | .ilmTermWrite .. => true
  | .load .. => true
  | .swap .. => true
  | .swapApply => true
  | .swapOverlapEnd => true
  | .clearLatch .. => true
  | .ilmClearAll .. => true
  | .cbRead .. => true
  | .cbWrite .. => true
  | .cbFifoApply => true
  | .streamEnable .. => true
  | .blockClose .. => true
  | .pageClose .. => true
  | .streamResume => true
  | .decimationStep => true
  | .decimationUndo => true
  | .nvmeBringup .. => true
  | .nvmeWriteComplete .. => true
  | .nvmeFlush .. => true
  | .retry .. => true
  | .unitArm .. => true
  | .unitStop .. => true
  | .force .. => true
  | .unitClear .. => true
  | .triggerEvaluation _ edges => edges.all fun e => decide (e.1 < 16) && decide (e.2.2.1 < 128) && ubits 64 e.2.2.2.1 && ubits 8 e.2.2.2.2
  | .autoTimeout .. => true
  | .recordCopyComplete .. => true
  | .holdoffExpiry .. => true
  | .triggerOutputEnd .. => true
  | .domainUpdate .. => true
  | .domainUpdateCommit .. => true
  | .sync _ master seq log _ t1 corr _ => ubits 64 master && ubits 16 seq && sbits 8 log && sbits 128 t1 && sbits 80 corr
  | .announce _ master rank timeout _ => ubits 64 master && ubits 256 rank && ubits 64 timeout
  | .pdelayReq _ seq => ubits 16 seq
  | .delayReqSend .. => true
  | .syncTimeout .. => true
  | .holdoverExpiry .. => true
  | .revertExpiry => true
  | .snap .. => true
  | .select .. => true
  | .accept .. => true
  | .dismiss .. => true
  | .tdcCalibration => true
  | .tsoEnable .. => true
  | .tsoPulse .. => true
  | .tsoPulseEnd .. => true
  | .linkStart .. => true
  | .measureComplete _ tx rx times => sbits 64 tx && sbits 64 rx && times.all fun t => ubits 32 t.1 && ubits 32 t.2.1 && ubits 32 t.2.2.1 && ubits 32 t.2.2.2
  | .outputImageTake .. => true
  | .frameTransmit .. => true
  | .frameReceive _ _ f => f.wf
  | .inputPublish .. => true
  | .mailboxRequest .. => true
  | .mailboxComplete .. => true
  | .read _ seq _ handles => ubits 64 seq && countOk 64 handles && handles.all (ubits 32)
  | .write _ seq _ pairs => ubits 64 seq && countOk 64 pairs && pairs.all fun p => ubits 32 p.1
  | .subscribe _ seq _ id period handles => ubits 64 seq && decide (id < 4) && decide (1 ≤ period) && decide (period ≤ 10000) && decide (handles.length ≤ 160) && handles.all (ubits 32)
  | .notify .. => true
  | .mode _ seq _ _ => ubits 64 seq
  | .traceStart _ seq _ _ => ubits 64 seq
  | .traceStop _ seq _ _ => ubits 64 seq
  | .traceAck _ seq _ _ page => ubits 64 seq && ubits 32 page
  | .traceRetransmit .. => true
  | .regRead _ seq _ addrs => ubits 64 seq && countOk 64 addrs && addrs.all (ubits 40)
  | .regWrite _ seq _ pairs => ubits 64 seq && countOk 32 pairs && pairs.all fun p => ubits 40 p.1
  | .hello .. => true
  | .finish .. => true
  | .handshakeLapse .. => true
  | .sessionIdleClose .. => true
  | .gapclose .. => true
  | .canFrameReceive _ f => f.wf
  | .canPeriodic .. => true
  | .txreq .. => true
  | .canTxComplete .. => true
  | .bor .. => true
  | .borComplete .. => true
  | .cansupRecovery .. => true
  | .abdStart .. => true
  | .abdStop .. => true
  | .abdTimeout .. => true
  | .opmodeWrite .. => true
  | .pop .. => true
  | .fifoRdWrite .. => true
  | .sentinelEvaluation .. => true
  | .discrepancyExpiry .. => true
  | .readbackMismatch .. => true
  | .testPulse .. => true
  | .testPulseEnd .. => true
  | .safeReqWrite .. => true
  | .coreReport .. => true
  | .coreSilent => true
  | .deliberateReset .. => true
  | .pendingAreaWrite .. => true
  | .safeConfirm .. => true
  | .confirmWindowExpiry => true
  | .bhtStart .. => true
  | .bhtPhaseEnd => true
  | .bhtAbort .. => true
  | .pendClear .. => true
  | .bhtDueExpiry .. => true
  | .bhtGraceExpiry .. => true
  | .vsenFault => true
  | .faultRaise .. => true
  | .quietExpiry .. => true
  | .sevWrite .. => true
  | .fltClear .. => true
  | .fltClearAll .. => true
  | .raise .. => true
  | .inject .. => true
  | .injectionLapse => true
  | .lockstepMismatch .. => true
  | .coreRejoin .. => true
  | .tokenRefill .. => true
  | .evlWrite .. => true
  | .clearLog .. => true
  | .evlRdselWrite .. => true
  | .evlCodeWrite .. => true
  | .clearTamp .. => true
  | .vbatLost => true
  | .xtalStop => true
  | .caseOpen .. => true
  | .attest .. => true
  | .revoke .. => true
  | .viso5Fail .. => true
  | .viso5Return .. => true
  | .coreOvertemp => true
  | .couplerClockReturn .. => true
  | .stepGeneratorCrossing .. => true
  | .canBusError .. => true
  | .canBusIntegration .. => true
  | .netLinkLoss .. => true
  | .plnkLinkLoss => true
  | .heartbeatReceive _ image => ubits 384 (image.getD 0)
  | .followUp _ master seq t1 corr => ubits 64 master && ubits 16 seq && sbits 128 t1 && sbits 80 corr
  | .delayResp _ master seq t4 corr => ubits 64 master && ubits 16 seq && sbits 128 t4 && sbits 80 corr
  | .pdelayResp _ seq turn _ => ubits 16 seq && sbits 80 turn
  | .arpRequest .. => true
  | .icmpEchoRequest .. => true
  | .coreCooled env => env.wf
  | .memoryScrubRead .. => true
  | .illegalEncoding .. => true
  | .undefBundle .. => true

end Sys2Proof
end

