-- ==== Sys2Proof/Laws/PerInstr.lean ====
section
/-!
SUPPORT. A law for every command: the whole numbers a well-formed command carries fit 384 bits, the widest number on
its wires (an image's hash, R474). One lemma per constructor.
-/

set_option Elab.async false

set_option linter.all false

namespace Sys2Proof.Laws.WireNumbers

/-- The operands of the command that are whole numbers without a width of their own. -/
def naturals (i : Instr) : List Nat :=
  match i with
  | .plnkDeltaReceive n0 n1 _ _ => [n0, n1]
  | .loadImage _ n1 _ n3 n4 n5 n6 _ => [n1, n3, n4, n5, n6]
  | .refMonitor _ n1 => [n1]
  | .sync _ n1 n2 _ _ _ _ _ => [n1, n2]
  | .announce _ n1 n2 n3 _ => [n1, n2, n3]
  | .pdelayReq _ n1 => [n1]
  | .read _ n1 _ _ => [n1]
  | .write _ n1 _ _ => [n1]
  | .subscribe _ n1 _ n3 n4 _ => [n1, n3, n4]
  | .mode _ n1 _ _ => [n1]
  | .traceStart _ n1 _ _ => [n1]
  | .traceStop _ n1 _ _ => [n1]
  | .traceAck _ n1 _ _ n4 => [n1, n4]
  | .regRead _ n1 _ _ => [n1]
  | .regWrite _ n1 _ _ => [n1]
  | .followUp _ n1 n2 _ _ => [n1, n2]
  | .delayResp _ n1 n2 _ _ => [n1, n2]
  | .pdelayResp _ n1 _ _ => [n1]
  | _ => []

/-- A well-formed command's whole numbers fit 384 bits. -/
def Statement (i : Instr) : Prop := i.wf = true → ∀ n ∈ naturals i, n < 2 ^ 384

theorem registerWrite (a0 : Origin) (a1 : BitVec 24) (a2 : Width) (a3 : Word) (a4 : Fin 5) : Statement (.registerWrite a0 a1 a2 a3 a4) := fun _ _ h => nomatch h
theorem expertEnWrite (a0 : Origin) (a1 : BitVec 24) (a2 : Word) : Statement (.expertEnWrite a0 a1 a2) := fun _ _ h => nomatch h
theorem lpddrRangeAccess (a0 : Bool) (a1 : BitVec 40) : Statement (.lpddrRangeAccess a0 a1) := fun _ _ h => nomatch h
theorem unmappedAccess (a0 : Bool) (a1 : BitVec 40) : Statement (.unmappedAccess a0 a1) := fun _ _ h => nomatch h
theorem fdWindowAccessComplete (a0 : Origin) (a1 : Fin 4) (a2 : BitVec 18) (a3 : Bool) (a4 : Word) : Statement (.fdWindowAccessComplete a0 a1 a2 a3 a4) := fun _ _ h => nomatch h
theorem upstreamSampleBlock (a0 : Fin 128) (a1 : Bool) : Statement (.upstreamSampleBlock a0 a1) := fun _ _ h => nomatch h
theorem upstreamSenseBlock (a0 : Fin 128) (a1 : Bool) : Statement (.upstreamSenseBlock a0 a1) := fun _ _ h => nomatch h
theorem upstreamStatusBlock (a0 : Fin 128) (a1 : Bool) : Statement (.upstreamStatusBlock a0 a1) := fun _ _ h => nomatch h
theorem downstreamStepBlock (a0 : Fin 128) (a1 : Bool) : Statement (.downstreamStepBlock a0 a1) := fun _ _ h => nomatch h
theorem downstreamOutputBlock (a0 : Fin 128) (a1 : Bool) : Statement (.downstreamOutputBlock a0 a1) := fun _ _ h => nomatch h
theorem upstreamEscape (a0 : Fin 128) (a1 : Bool) : Statement (.upstreamEscape a0 a1) := fun _ _ h => nomatch h
theorem downstreamEscape (a0 : Fin 128) (a1 : Bool) : Statement (.downstreamEscape a0 a1) := fun _ _ h => nomatch h
theorem couplerClockLoss (a0 : Fin 4) : Statement (.couplerClockLoss a0) := fun _ _ h => nomatch h
theorem dieRestart (a0 : Origin) (a1 : Fin 4) (a2 : Byte) : Statement (.dieRestart a0 a1 a2) := fun _ _ h => nomatch h
theorem dieTempMeasure (a0 : Fin 4) (a1 : Int) : Statement (.dieTempMeasure a0 a1) := fun _ _ h => nomatch h
theorem mainPllUnlock : Statement .mainPllUnlock := fun _ _ h => nomatch h
theorem serdesPllUnlock (a0 : Fin 4) : Statement (.serdesPllUnlock a0) := fun _ _ h => nomatch h
theorem clockCrosscheck (a0 : Fin 1048576) : Statement (.clockCrosscheck a0) := fun _ _ h => nomatch h
theorem conversion (a0 : Fin 128) (a1 : Int) (a2 : Int) (a3 : Bool) : Statement (.conversion a0 a1 a2 a3) := fun _ _ h => nomatch h
theorem sampleDelivery : Statement .sampleDelivery := fun _ _ h => nomatch h
theorem lgCtrlWrite (a0 : Origin) (a1 : Fin 32) (a2 : Word) : Statement (.lgCtrlWrite a0 a1 a2) := fun _ _ h => nomatch h
theorem lockGroupTick (a0 : Fin 32) : Statement (.lockGroupTick a0) := fun _ _ h => nomatch h
theorem lockGroupTrigger (a0 : Fin 32) : Statement (.lockGroupTrigger a0) := fun _ _ h => nomatch h
theorem chLgWrite (a0 : Origin) (a1 : Fin 128) (a2 : Word) : Statement (.chLgWrite a0 a1 a2) := fun _ _ h => nomatch h
theorem suppliesValid (a0 : DawnEnv) : Statement (.suppliesValid a0) := fun _ _ h => nomatch h
theorem dawnComplete (a0 : List (Nat × Nat × Nat × Nat)) (a1 : Bool) (a2 : Bool) : Statement (.dawnComplete a0 a1 a2) := fun _ _ h => nomatch h
theorem setupRecordRepair (a0 : Fin 55) (a1 : Bool) : Statement (.setupRecordRepair a0 a1) := fun _ _ h => nomatch h
theorem run (a0 : Origin) (a1 : Byte) : Statement (.run a0 a1) := fun _ _ h => nomatch h
theorem hold (a0 : Origin) (a1 : Byte) : Statement (.hold a0 a1) := fun _ _ h => nomatch h
theorem engineer (a0 : Origin) (a1 : Byte) : Statement (.engineer a0 a1) := fun _ _ h => nomatch h
theorem idle (a0 : Origin) (a1 : Byte) : Statement (.idle a0 a1) := fun _ _ h => nomatch h
theorem follow (a0 : Origin) (a1 : Byte) : Statement (.follow a0 a1) := fun _ _ h => nomatch h
theorem restartWarm (a0 : Origin) (a1 : Byte) : Statement (.restartWarm a0 a1) := fun _ _ h => nomatch h
theorem restartCold (a0 : Origin) (a1 : Byte) : Statement (.restartCold a0 a1) := fun _ _ h => nomatch h
theorem fwExchange (a0 : Origin) (a1 : Byte) : Statement (.fwExchange a0 a1) := fun _ _ h => nomatch h
theorem fwCoreRejoin (a0 : Bool) : Statement (.fwCoreRejoin a0) := fun _ _ h => nomatch h
theorem fwCommit (a0 : Origin) (a1 : Byte) : Statement (.fwCommit a0 a1) := fun _ _ h => nomatch h
theorem fwAbort (a0 : Origin) (a1 : Byte) : Statement (.fwAbort a0 a1) := fun _ _ h => nomatch h
theorem journalCycle : Statement .journalCycle := fun _ _ h => nomatch h
theorem journalDeviceFail (a0 : Fin 2) : Statement (.journalDeviceFail a0) := fun _ _ h => nomatch h
theorem journalDeviceReturn (a0 : Fin 2) : Statement (.journalDeviceReturn a0) := fun _ _ h => nomatch h
theorem journalRebuildComplete : Statement .journalRebuildComplete := fun _ _ h => nomatch h
theorem jnlEnWrite (a0 : Origin) (a1 : Word) : Statement (.jnlEnWrite a0 a1) := fun _ _ h => nomatch h
theorem pfailAssert : Statement .pfailAssert := fun _ _ h => nomatch h
theorem supplyFail : Statement .supplyFail := fun _ _ h => nomatch h
theorem duskTaskDeadline : Statement .duskTaskDeadline := fun _ _ h => nomatch h
theorem duskFinalDelta (a0 : Bool) : Statement (.duskFinalDelta a0) := fun _ _ h => nomatch h
theorem duskPowerFailState : Statement .duskPowerFailState := fun _ _ h => nomatch h
theorem vaultEntry : Statement .vaultEntry := fun _ _ h => nomatch h
theorem heartbeatSend : Statement .heartbeatSend := fun _ _ h => nomatch h
theorem heartbeatTimeout : Statement .heartbeatTimeout := fun _ _ h => nomatch h
theorem dusk : Statement .dusk := fun _ _ h => nomatch h
theorem plnkDeltaReceive (a0 : Nat) (a1 : Nat) (a2 : List (Nat × Word)) (a3 : PlnkDelta) : Statement (.plnkDeltaReceive a0 a1 a2 a3) := by
  simp only [Statement, naturals, Instr.wf, ubits, sbits, Bool.and_eq_true, decide_eq_true_eq, List.mem_cons, List.not_mem_nil, or_false, forall_eq_or_imp, forall_eq]
  omega
theorem plnkSnapshotReceive (a0 : Fin 64) (a1 : List (Nat × Word)) : Statement (.plnkSnapshotReceive a0 a1) := fun _ _ h => nomatch h
theorem epochYield (a0 : BitVec 16) : Statement (.epochYield a0) := fun _ _ h => nomatch h
theorem add (a0 : Fin 8) (a1 : BitVec 5) (a2 : BitVec 5) (a3 : BitVec 5) : Statement (.add a0 a1 a2 a3) := fun _ _ h => nomatch h
theorem sub (a0 : Fin 8) (a1 : BitVec 5) (a2 : BitVec 5) (a3 : BitVec 5) : Statement (.sub a0 a1 a2 a3) := fun _ _ h => nomatch h
theorem and (a0 : Fin 8) (a1 : BitVec 5) (a2 : BitVec 5) (a3 : BitVec 5) : Statement (.and a0 a1 a2 a3) := fun _ _ h => nomatch h
theorem or (a0 : Fin 8) (a1 : BitVec 5) (a2 : BitVec 5) (a3 : BitVec 5) : Statement (.or a0 a1 a2 a3) := fun _ _ h => nomatch h
theorem xor (a0 : Fin 8) (a1 : BitVec 5) (a2 : BitVec 5) (a3 : BitVec 5) : Statement (.xor a0 a1 a2 a3) := fun _ _ h => nomatch h
theorem shl (a0 : Fin 8) (a1 : BitVec 5) (a2 : BitVec 5) (a3 : BitVec 5) : Statement (.shl a0 a1 a2 a3) := fun _ _ h => nomatch h
theorem shr (a0 : Fin 8) (a1 : BitVec 5) (a2 : BitVec 5) (a3 : BitVec 5) : Statement (.shr a0 a1 a2 a3) := fun _ _ h => nomatch h
theorem sra (a0 : Fin 8) (a1 : BitVec 5) (a2 : BitVec 5) (a3 : BitVec 5) : Statement (.sra a0 a1 a2 a3) := fun _ _ h => nomatch h
theorem slt (a0 : Fin 8) (a1 : BitVec 5) (a2 : BitVec 5) (a3 : BitVec 5) : Statement (.slt a0 a1 a2 a3) := fun _ _ h => nomatch h
theorem sltu (a0 : Fin 8) (a1 : BitVec 5) (a2 : BitVec 5) (a3 : BitVec 5) : Statement (.sltu a0 a1 a2 a3) := fun _ _ h => nomatch h
theorem min (a0 : Fin 8) (a1 : BitVec 5) (a2 : BitVec 5) (a3 : BitVec 5) : Statement (.min a0 a1 a2 a3) := fun _ _ h => nomatch h
theorem max (a0 : Fin 8) (a1 : BitVec 5) (a2 : BitVec 5) (a3 : BitVec 5) : Statement (.max a0 a1 a2 a3) := fun _ _ h => nomatch h
theorem adds (a0 : Fin 8) (a1 : BitVec 5) (a2 : BitVec 5) (a3 : BitVec 5) : Statement (.adds a0 a1 a2 a3) := fun _ _ h => nomatch h
theorem subs (a0 : Fin 8) (a1 : BitVec 5) (a2 : BitVec 5) (a3 : BitVec 5) : Statement (.subs a0 a1 a2 a3) := fun _ _ h => nomatch h
theorem cmp (a0 : Fin 8) (a1 : BitVec 5) (a2 : BitVec 5) : Statement (.cmp a0 a1 a2) := fun _ _ h => nomatch h
theorem tst (a0 : Fin 8) (a1 : BitVec 5) (a2 : BitVec 5) : Statement (.tst a0 a1 a2) := fun _ _ h => nomatch h
theorem mul (a0 : Fin 8) (a1 : BitVec 5) (a2 : BitVec 5) (a3 : BitVec 5) : Statement (.mul a0 a1 a2 a3) := fun _ _ h => nomatch h
theorem mulh (a0 : Fin 8) (a1 : BitVec 5) (a2 : BitVec 5) (a3 : BitVec 5) : Statement (.mulh a0 a1 a2 a3) := fun _ _ h => nomatch h
theorem mulhu (a0 : Fin 8) (a1 : BitVec 5) (a2 : BitVec 5) (a3 : BitVec 5) : Statement (.mulhu a0 a1 a2 a3) := fun _ _ h => nomatch h
theorem div (a0 : Fin 8) (a1 : BitVec 5) (a2 : BitVec 5) (a3 : BitVec 5) : Statement (.div a0 a1 a2 a3) := fun _ _ h => nomatch h
theorem divu (a0 : Fin 8) (a1 : BitVec 5) (a2 : BitVec 5) (a3 : BitVec 5) : Statement (.divu a0 a1 a2 a3) := fun _ _ h => nomatch h
theorem rem (a0 : Fin 8) (a1 : BitVec 5) (a2 : BitVec 5) (a3 : BitVec 5) : Statement (.rem a0 a1 a2 a3) := fun _ _ h => nomatch h
theorem remu (a0 : Fin 8) (a1 : BitVec 5) (a2 : BitVec 5) (a3 : BitVec 5) : Statement (.remu a0 a1 a2 a3) := fun _ _ h => nomatch h
theorem mac (a0 : Fin 8) (a1 : BitVec 5) (a2 : BitVec 5) (a3 : BitVec 5) : Statement (.mac a0 a1 a2 a3) := fun _ _ h => nomatch h
theorem macs (a0 : Fin 8) (a1 : BitVec 5) (a2 : BitVec 5) (a3 : BitVec 5) : Statement (.macs a0 a1 a2 a3) := fun _ _ h => nomatch h
theorem msu (a0 : Fin 8) (a1 : BitVec 5) (a2 : BitVec 5) (a3 : BitVec 5) : Statement (.msu a0 a1 a2 a3) := fun _ _ h => nomatch h
theorem msus (a0 : Fin 8) (a1 : BitVec 5) (a2 : BitVec 5) (a3 : BitVec 5) : Statement (.msus a0 a1 a2 a3) := fun _ _ h => nomatch h
theorem rnd (a0 : Fin 8) (a1 : BitVec 5) (a2 : BitVec 5) (a3 : BitVec 5) : Statement (.rnd a0 a1 a2 a3) := fun _ _ h => nomatch h
theorem rnds (a0 : Fin 8) (a1 : BitVec 5) (a2 : BitVec 5) (a3 : BitVec 5) : Statement (.rnds a0 a1 a2 a3) := fun _ _ h => nomatch h
theorem addD (a0 : Fin 8) (a1 : BitVec 5) (a2 : BitVec 5) (a3 : BitVec 5) : Statement (.addD a0 a1 a2 a3) := fun _ _ h => nomatch h
theorem subD (a0 : Fin 8) (a1 : BitVec 5) (a2 : BitVec 5) (a3 : BitVec 5) : Statement (.subD a0 a1 a2 a3) := fun _ _ h => nomatch h
theorem cmpD (a0 : Fin 8) (a1 : BitVec 5) (a2 : BitVec 5) : Statement (.cmpD a0 a1 a2) := fun _ _ h => nomatch h
theorem addi (a0 : Fin 8) (a1 : BitVec 5) (a2 : BitVec 5) (a3 : BitVec 16) : Statement (.addi a0 a1 a2 a3) := fun _ _ h => nomatch h
theorem andi (a0 : Fin 8) (a1 : BitVec 5) (a2 : BitVec 5) (a3 : BitVec 16) : Statement (.andi a0 a1 a2 a3) := fun _ _ h => nomatch h
theorem ori (a0 : Fin 8) (a1 : BitVec 5) (a2 : BitVec 5) (a3 : BitVec 16) : Statement (.ori a0 a1 a2 a3) := fun _ _ h => nomatch h
theorem xori (a0 : Fin 8) (a1 : BitVec 5) (a2 : BitVec 5) (a3 : BitVec 16) : Statement (.xori a0 a1 a2 a3) := fun _ _ h => nomatch h
theorem lui (a0 : Fin 8) (a1 : BitVec 5) (a2 : BitVec 16) : Statement (.lui a0 a1 a2) := fun _ _ h => nomatch h
theorem cmpi (a0 : Fin 8) (a1 : BitVec 5) (a2 : BitVec 16) : Statement (.cmpi a0 a1 a2) := fun _ _ h => nomatch h
theorem shli (a0 : Fin 8) (a1 : BitVec 5) (a2 : BitVec 5) (a3 : BitVec 5) : Statement (.shli a0 a1 a2 a3) := fun _ _ h => nomatch h
theorem shri (a0 : Fin 8) (a1 : BitVec 5) (a2 : BitVec 5) (a3 : BitVec 5) : Statement (.shri a0 a1 a2 a3) := fun _ _ h => nomatch h
theorem srai (a0 : Fin 8) (a1 : BitVec 5) (a2 : BitVec 5) (a3 : BitVec 5) : Statement (.srai a0 a1 a2 a3) := fun _ _ h => nomatch h
theorem sat (a0 : Fin 8) (a1 : BitVec 5) (a2 : BitVec 5) (a3 : BitVec 6) : Statement (.sat a0 a1 a2 a3) := fun _ _ h => nomatch h
theorem mfs (a0 : Fin 8) (a1 : BitVec 5) (a2 : BitVec 16) : Statement (.mfs a0 a1 a2) := fun _ _ h => nomatch h
theorem mts (a0 : Fin 8) (a1 : BitVec 5) (a2 : BitVec 16) : Statement (.mts a0 a1 a2) := fun _ _ h => nomatch h
theorem ld (a0 : Fin 8) (a1 : BitVec 5) (a2 : BitVec 5) (a3 : BitVec 2) (a4 : BitVec 14) (a5 : BitVec 8) : Statement (.ld a0 a1 a2 a3 a4 a5) := fun _ _ h => nomatch h
theorem ldu (a0 : Fin 8) (a1 : BitVec 5) (a2 : BitVec 5) (a3 : BitVec 2) (a4 : BitVec 14) (a5 : BitVec 8) : Statement (.ldu a0 a1 a2 a3 a4 a5) := fun _ _ h => nomatch h
theorem st (a0 : Fin 8) (a1 : BitVec 5) (a2 : BitVec 5) (a3 : BitVec 2) (a4 : BitVec 14) (a5 : BitVec 8) : Statement (.st a0 a1 a2 a3 a4 a5) := fun _ _ h => nomatch h
theorem b (a0 : Fin 8) (a1 : BitVec 4) (a2 : BitVec 21) : Statement (.b a0 a1 a2) := fun _ _ h => nomatch h
theorem bl (a0 : Fin 8) (a1 : BitVec 21) : Statement (.bl a0 a1) := fun _ _ h => nomatch h
theorem bz (a0 : Fin 8) (a1 : BitVec 5) (a2 : BitVec 21) : Statement (.bz a0 a1 a2) := fun _ _ h => nomatch h
theorem bnz (a0 : Fin 8) (a1 : BitVec 5) (a2 : BitVec 21) : Statement (.bnz a0 a1 a2) := fun _ _ h => nomatch h
theorem ldi (a0 : Fin 8) (a1 : BitVec 5) (a2 : Bool) (a3 : BitVec 20) : Statement (.ldi a0 a1 a2 a3) := fun _ _ h => nomatch h
theorem sto (a0 : Fin 8) (a1 : BitVec 5) (a2 : Bool) (a3 : BitVec 20) : Statement (.sto a0 a1 a2 a3) := fun _ _ h => nomatch h
theorem setf (a0 : Fin 8) (a1 : BitVec 5) (a2 : BitVec 20) : Statement (.setf a0 a1 a2) := fun _ _ h => nomatch h
theorem clrf (a0 : Fin 8) (a1 : BitVec 5) (a2 : BitVec 20) : Statement (.clrf a0 a1 a2) := fun _ _ h => nomatch h
theorem edgr (a0 : Fin 8) (a1 : BitVec 5) (a2 : BitVec 5) (a3 : BitVec 5) : Statement (.edgr a0 a1 a2 a3) := fun _ _ h => nomatch h
theorem edgf (a0 : Fin 8) (a1 : BitVec 5) (a2 : BitVec 5) (a3 : BitVec 5) : Statement (.edgf a0 a1 a2 a3) := fun _ _ h => nomatch h
theorem ton (a0 : Fin 8) (a1 : BitVec 5) (a2 : BitVec 5) (a3 : BitVec 5) : Statement (.ton a0 a1 a2 a3) := fun _ _ h => nomatch h
theorem tof (a0 : Fin 8) (a1 : BitVec 5) (a2 : BitVec 5) (a3 : BitVec 5) : Statement (.tof a0 a1 a2 a3) := fun _ _ h => nomatch h
theorem tp (a0 : Fin 8) (a1 : BitVec 5) (a2 : BitVec 5) (a3 : BitVec 5) : Statement (.tp a0 a1 a2 a3) := fun _ _ h => nomatch h
theorem ctu (a0 : Fin 8) (a1 : BitVec 5) (a2 : BitVec 5) (a3 : BitVec 5) : Statement (.ctu a0 a1 a2 a3) := fun _ _ h => nomatch h
theorem ctd (a0 : Fin 8) (a1 : BitVec 5) (a2 : BitVec 5) (a3 : BitVec 5) : Statement (.ctd a0 a1 a2 a3) := fun _ _ h => nomatch h
theorem evt (a0 : Fin 8) (a1 : BitVec 5) (a2 : BitVec 5) (a3 : BitVec 5) : Statement (.evt a0 a1 a2 a3) := fun _ _ h => nomatch h
theorem wft (a0 : Fin 8) (a1 : BitVec 5) (a2 : BitVec 5) (a3 : BitVec 5) : Statement (.wft a0 a1 a2 a3) := fun _ _ h => nomatch h
theorem wftReturn (a0 : Fin 8) : Statement (.wftReturn a0) := fun _ _ h => nomatch h
theorem cas (a0 : Fin 8) (a1 : BitVec 5) (a2 : BitVec 5) (a3 : BitVec 5) (a4 : BitVec 8) : Statement (.cas a0 a1 a2 a3 a4) := fun _ _ h => nomatch h
theorem amoadd (a0 : Fin 8) (a1 : BitVec 5) (a2 : BitVec 5) (a3 : BitVec 5) (a4 : BitVec 8) : Statement (.amoadd a0 a1 a2 a3 a4) := fun _ _ h => nomatch h
theorem fence (a0 : Fin 8) : Statement (.fence a0) := fun _ _ h => nomatch h
theorem fenceI (a0 : Fin 8) : Statement (.fenceI a0) := fun _ _ h => nomatch h
theorem jr (a0 : Fin 8) (a1 : BitVec 5) : Statement (.jr a0 a1) := fun _ _ h => nomatch h
theorem jalr (a0 : Fin 8) (a1 : BitVec 5) (a2 : BitVec 5) : Statement (.jalr a0 a1 a2) := fun _ _ h => nomatch h
theorem trap (a0 : Fin 8) (a1 : BitVec 5) : Statement (.trap a0 a1) := fun _ _ h => nomatch h
theorem bkpt (a0 : Fin 8) : Statement (.bkpt a0) := fun _ _ h => nomatch h
theorem eret (a0 : Fin 8) : Statement (.eret a0) := fun _ _ h => nomatch h
theorem lNop (a0 : Fin 8) (a1 : LaBundle) : Statement (.lNop a0 a1) := fun _ _ h => nomatch h
theorem lMac (a0 : Fin 8) (a1 : LaBundle) : Statement (.lMac a0 a1) := fun _ _ h => nomatch h
theorem lMsu (a0 : Fin 8) (a1 : LaBundle) : Statement (.lMsu a0 a1) := fun _ _ h => nomatch h
theorem lMpy (a0 : Fin 8) (a1 : LaBundle) : Statement (.lMpy a0 a1) := fun _ _ h => nomatch h
theorem lAdd (a0 : Fin 8) (a1 : LaBundle) : Statement (.lAdd a0 a1) := fun _ _ h => nomatch h
theorem lSub (a0 : Fin 8) (a1 : LaBundle) : Statement (.lSub a0 a1) := fun _ _ h => nomatch h
theorem lLda (a0 : Fin 8) (a1 : LaBundle) : Statement (.lLda a0 a1) := fun _ _ h => nomatch h
theorem lRnd (a0 : Fin 8) (a1 : LaBundle) : Statement (.lRnd a0 a1) := fun _ _ h => nomatch h
theorem lShl (a0 : Fin 8) (a1 : LaBundle) : Statement (.lShl a0 a1) := fun _ _ h => nomatch h
theorem lShr (a0 : Fin 8) (a1 : LaBundle) : Statement (.lShr a0 a1) := fun _ _ h => nomatch h
theorem lClip (a0 : Fin 8) (a1 : LaBundle) : Statement (.lClip a0 a1) := fun _ _ h => nomatch h
theorem lAbs (a0 : Fin 8) (a1 : LaBundle) : Statement (.lAbs a0 a1) := fun _ _ h => nomatch h
theorem lNeg (a0 : Fin 8) (a1 : LaBundle) : Statement (.lNeg a0 a1) := fun _ _ h => nomatch h
theorem lAcc (a0 : Fin 8) (a1 : LaBundle) : Statement (.lAcc a0 a1) := fun _ _ h => nomatch h
theorem lSum (a0 : Fin 8) (a1 : LaBundle) : Statement (.lSum a0 a1) := fun _ _ h => nomatch h
theorem lMovd (a0 : Fin 8) (a1 : LaBundle) : Statement (.lMovd a0 a1) := fun _ _ h => nomatch h
theorem lRep (a0 : Fin 8) (a1 : Bool) (a2 : BitVec 10) (a3 : BitVec 5) : Statement (.lRep a0 a1 a2 a3) := fun _ _ h => nomatch h
theorem lBrl (a0 : Fin 8) (a1 : BitVec 3) (a2 : BitVec 2) (a3 : BitVec 14) : Statement (.lBrl a0 a1 a2 a3) := fun _ _ h => nomatch h
theorem lAct (a0 : Fin 8) : Statement (.lAct a0) := fun _ _ h => nomatch h
theorem lLdx (a0 : Fin 8) (a1 : BitVec 3) (a2 : BitVec 16) : Statement (.lLdx a0 a1 a2) := fun _ _ h => nomatch h
theorem lCfx (a0 : Fin 8) (a1 : BitVec 3) (a2 : Bool) (a3 : BitVec 2) (a4 : BitVec 8) (a5 : BitVec 10) : Statement (.lCfx a0 a1 a2 a3 a4 a5) := fun _ _ h => nomatch h
theorem lLdlc (a0 : Fin 8) (a1 : BitVec 16) : Statement (.lLdlc a0 a1) := fun _ _ h => nomatch h
theorem lSetlm (a0 : Fin 8) (a1 : BitVec 4) : Statement (.lSetlm a0 a1) := fun _ _ h => nomatch h
theorem lLdmp (a0 : Fin 8) (a1 : BitVec 8) : Statement (.lLdmp a0 a1) := fun _ _ h => nomatch h
theorem lMovi (a0 : Fin 8) (a1 : BitVec 3) (a2 : BitVec 16) : Statement (.lMovi a0 a1 a2) := fun _ _ h => nomatch h
theorem lClra (a0 : Fin 8) (a1 : BitVec 2) : Statement (.lClra a0 a1) := fun _ _ h => nomatch h
theorem lClrs (a0 : Fin 8) : Statement (.lClrs a0) := fun _ _ h => nomatch h
theorem dispatcherTick : Statement .dispatcherTick := fun _ _ h => nomatch h
theorem coreClaim : Statement .coreClaim := fun _ _ h => nomatch h
theorem affinityWaitExpiry : Statement .affinityWaitExpiry := fun _ _ h => nomatch h
theorem schedGrpack (a0 : Origin) (a1 : Word) : Statement (.schedGrpack a0 a1) := fun _ _ h => nomatch h
theorem taskEnd (a0 : Fin 8) : Statement (.taskEnd a0) := fun _ _ h => nomatch h
theorem watchdog (a0 : Fin 8) : Statement (.watchdog a0) := fun _ _ h => nomatch h
theorem setIn (a0 : Origin) (a1 : Byte) (a2 : BitVec 4) : Statement (.setIn a0 a1 a2) := fun _ _ h => nomatch h
theorem setOut (a0 : Origin) (a1 : Byte) (a2 : BitVec 4) : Statement (.setOut a0 a1 a2) := fun _ _ h => nomatch h
theorem clearIn (a0 : Origin) (a1 : Byte) (a2 : BitVec 4) : Statement (.clearIn a0 a1 a2) := fun _ _ h => nomatch h
theorem clearOut (a0 : Origin) (a1 : Byte) (a2 : BitVec 4) : Statement (.clearOut a0 a1 a2) := fun _ _ h => nomatch h
theorem clearAll (a0 : Origin) (a1 : Byte) : Statement (.clearAll a0 a1) := fun _ _ h => nomatch h
theorem taskResume (a0 : Origin) (a1 : Byte) (a2 : Fin 64) : Statement (.taskResume a0 a1 a2) := fun _ _ h => nomatch h
theorem taskDisable (a0 : Origin) (a1 : Byte) (a2 : Fin 64) : Statement (.taskDisable a0 a1 a2) := fun _ _ h => nomatch h
theorem taskEnable (a0 : Origin) (a1 : Byte) (a2 : Fin 64) : Statement (.taskEnable a0 a1 a2) := fun _ _ h => nomatch h
theorem loadImage (a0 : Fin 8) (a1 : Nat) (a2 : Bool) (a3 : Nat) (a4 : Nat) (a5 : Nat) (a6 : Nat) (a7 : Option ImageBody) : Statement (.loadImage a0 a1 a2 a3 a4 a5 a6 a7) := by
  simp only [Statement, naturals, Instr.wf, ubits, sbits, Bool.and_eq_true, decide_eq_true_eq, List.mem_cons, List.not_mem_nil, or_false, forall_eq_or_imp, forall_eq]
  omega
theorem verificationComplete (a0 : Verdict) : Statement (.verificationComplete a0) := fun _ _ h => nomatch h
theorem arm (a0 : Origin) (a1 : Byte) : Statement (.arm a0 a1) := fun _ _ h => nomatch h
theorem exchangeSwitch : Statement .exchangeSwitch := fun _ _ h => nomatch h
theorem exchangeRelease : Statement .exchangeRelease := fun _ _ h => nomatch h
theorem exchangeTimeout : Statement .exchangeTimeout := fun _ _ h => nomatch h
theorem commit (a0 : Origin) (a1 : Byte) : Statement (.commit a0 a1) := fun _ _ h => nomatch h
theorem revert (a0 : Origin) (a1 : Byte) : Statement (.revert a0 a1) := fun _ _ h => nomatch h
theorem discard (a0 : Origin) (a1 : Byte) : Statement (.discard a0 a1) := fun _ _ h => nomatch h
theorem rangeChange (a0 : Origin) (a1 : Fin 128) (a2 : Word) : Statement (.rangeChange a0 a1 a2) := fun _ _ h => nomatch h
theorem rangeSettled (a0 : Fin 128) : Statement (.rangeSettled a0) := fun _ _ h => nomatch h
theorem refselWrite (a0 : Origin) (a1 : Fin 16) (a2 : Word) : Statement (.refselWrite a0 a1 a2) := fun _ _ h => nomatch h
theorem refSettled (a0 : Fin 16) : Statement (.refSettled a0) := fun _ _ h => nomatch h
theorem refMonitor (a0 : Fin 16) (a1 : Nat) : Statement (.refMonitor a0 a1) := by
  simp only [Statement, naturals, Instr.wf, ubits, sbits, Bool.and_eq_true, decide_eq_true_eq, List.mem_cons, List.not_mem_nil, or_false, forall_eq_or_imp, forall_eq]
  omega
theorem cal (a0 : Origin) (a1 : Fin 16) (a2 : Word) : Statement (.cal a0 a1 a2) := fun _ _ h => nomatch h
theorem calibrationStart (a0 : Fin 16) : Statement (.calibrationStart a0) := fun _ _ h => nomatch h
theorem rollCalibrationStart (a0 : Fin 4) : Statement (.rollCalibrationStart a0) := fun _ _ h => nomatch h
theorem calibrationComplete (a0 : Fin 16) (a1 : List CalFactor) : Statement (.calibrationComplete a0 a1) := fun _ _ h => nomatch h
theorem aoutRangeChange (a0 : Origin) (a1 : Fin 128) (a2 : Word) : Statement (.aoutRangeChange a0 a1 a2) := fun _ _ h => nomatch h
theorem aoutRangeSettled (a0 : Fin 128) : Statement (.aoutRangeSettled a0) := fun _ _ h => nomatch h
theorem aoutUpdate (a0 : Fin 128) : Statement (.aoutUpdate a0) := fun _ _ h => nomatch h
theorem aoutDiagnosis (a0 : Fin 128) (a1 : Bool) : Statement (.aoutDiagnosis a0 a1) := fun _ _ h => nomatch h
theorem certBegin (a0 : Origin) (a1 : Fin 4) (a2 : Byte) : Statement (.certBegin a0 a1 a2) := fun _ _ h => nomatch h
theorem certPoint (a0 : Origin) (a1 : Fin 4) (a2 : Byte) : Statement (.certPoint a0 a1 a2) := fun _ _ h => nomatch h
theorem certPointComplete (a0 : Fin 4) (a1 : Int) : Statement (.certPointComplete a0 a1) := fun _ _ h => nomatch h
theorem certEnd (a0 : Origin) (a1 : Fin 4) (a2 : Byte) : Statement (.certEnd a0 a1 a2) := fun _ _ h => nomatch h
theorem certAbort (a0 : Origin) (a1 : Fin 4) (a2 : Byte) : Statement (.certAbort a0 a1 a2) := fun _ _ h => nomatch h
theorem activationReady (a0 : Fin 512) : Statement (.activationReady a0) := fun _ _ h => nomatch h
theorem activationStart (a0 : Fin 8) : Statement (.activationStart a0) := fun _ _ h => nomatch h
theorem activationEnd (a0 : Fin 8) : Statement (.activationEnd a0) := fun _ _ h => nomatch h
theorem scrubRead (a0 : Fin 8) (a1 : Fin 1048576) : Statement (.scrubRead a0 a1) := fun _ _ h => nomatch h
theorem leFabricWrite (a0 : Origin) (a1 : Fin 8) (a2 : Fin 1048576) (a3 : Fin 3) (a4 : BitVec 64) : Statement (.leFabricWrite a0 a1 a2 a3 a4) := fun _ _ h => nomatch h
theorem slotEnable (a0 : Origin) (a1 : Fin 512) (a2 : Word) : Statement (.slotEnable a0 a1 a2) := fun _ _ h => nomatch h
theorem slotDisable (a0 : Origin) (a1 : Fin 512) (a2 : Word) : Statement (.slotDisable a0 a1 a2) := fun _ _ h => nomatch h
theorem leImpcfgWrite (a0 : Origin) (a1 : Fin 8) (a2 : Fin 64) (a3 : Word) : Statement (.leImpcfgWrite a0 a1 a2 a3) := fun _ _ h => nomatch h
theorem lePalreqWrite (a0 : Origin) (a1 : Fin 8) (a2 : Fin 2) (a3 : Word) : Statement (.lePalreqWrite a0 a1 a2 a3) := fun _ _ h => nomatch h
theorem lePalgrpWrite (a0 : Origin) (a1 : Fin 8) (a2 : Word) : Statement (.lePalgrpWrite a0 a1 a2) := fun _ _ h => nomatch h
theorem learnStart (a0 : Origin) (a1 : Fin 512) (a2 : Bool) : Statement (.learnStart a0 a1 a2) := fun _ _ h => nomatch h
theorem learnEnd (a0 : Origin) (a1 : Fin 512) : Statement (.learnEnd a0 a1) := fun _ _ h => nomatch h
theorem learnAbort (a0 : Origin) (a1 : Fin 512) : Statement (.learnAbort a0 a1) := fun _ _ h => nomatch h
theorem restore (a0 : Origin) (a1 : Fin 512) : Statement (.restore a0 a1) := fun _ _ h => nomatch h
theorem clrSticky (a0 : Origin) (a1 : Fin 512) : Statement (.clrSticky a0 a1) := fun _ _ h => nomatch h
theorem rcpPrepare (a0 : Fin 32) : Statement (.rcpPrepare a0) := fun _ _ h => nomatch h
theorem rcpTick (a0 : Fin 32) : Statement (.rcpTick a0) := fun _ _ h => nomatch h
theorem rcpStart (a0 : Origin) (a1 : Fin 32) (a2 : BitVec 8) : Statement (.rcpStart a0 a1 a2) := fun _ _ h => nomatch h
theorem rcpStop (a0 : Origin) (a1 : Fin 32) (a2 : BitVec 8) : Statement (.rcpStop a0 a1 a2) := fun _ _ h => nomatch h
theorem pause (a0 : Origin) (a1 : Fin 32) (a2 : BitVec 8) : Statement (.pause a0 a1 a2) := fun _ _ h => nomatch h
theorem release (a0 : Origin) (a1 : Fin 32) (a2 : BitVec 8) : Statement (.release a0 a1 a2) := fun _ _ h => nomatch h
theorem jump (a0 : Origin) (a1 : Fin 32) (a2 : BitVec 8) : Statement (.jump a0 a1 a2) := fun _ _ h => nomatch h
theorem plannerUpdate : Statement .plannerUpdate := fun _ _ h => nomatch h
theorem go (a0 : Origin) (a1 : Fin 128) (a2 : BitVec 8) : Statement (.go a0 a1 a2) := fun _ _ h => nomatch h
theorem goRel (a0 : Origin) (a1 : Fin 128) (a2 : BitVec 8) : Statement (.goRel a0 a1 a2) := fun _ _ h => nomatch h
theorem axStop (a0 : Origin) (a1 : Fin 128) (a2 : BitVec 8) : Statement (.axStop a0 a1 a2) := fun _ _ h => nomatch h
theorem estop (a0 : Origin) (a1 : Fin 128) (a2 : BitVec 8) : Statement (.estop a0 a1 a2) := fun _ _ h => nomatch h
theorem axResume (a0 : Origin) (a1 : Fin 128) (a2 : BitVec 8) : Statement (.axResume a0 a1 a2) := fun _ _ h => nomatch h
theorem setpos (a0 : Origin) (a1 : Fin 128) (a2 : BitVec 8) : Statement (.setpos a0 a1 a2) := fun _ _ h => nomatch h
theorem axClear (a0 : Origin) (a1 : Fin 128) (a2 : BitVec 8) : Statement (.axClear a0 a1 a2) := fun _ _ h => nomatch h
theorem axisEnable (a0 : Origin) (a1 : Fin 128) (a2 : Word) : Statement (.axisEnable a0 a1 a2) := fun _ _ h => nomatch h
theorem axisDisable (a0 : Origin) (a1 : Fin 128) (a2 : Word) : Statement (.axisDisable a0 a1 a2) := fun _ _ h => nomatch h
theorem stepMismatch (a0 : Fin 128) (a1 : BitVec 4) : Statement (.stepMismatch a0 a1) := fun _ _ h => nomatch h
theorem stallEstimate (a0 : Fin 128) : Statement (.stallEstimate a0) := fun _ _ h => nomatch h
theorem qencEnWrite (a0 : Origin) (a1 : Fin 128) (a2 : Word) : Statement (.qencEnWrite a0 a1 a2) := fun _ _ h => nomatch h
theorem qerr (a0 : Fin 128) : Statement (.qerr a0) := fun _ _ h => nomatch h
theorem fioDirWrite (a0 : Origin) (a1 : Fin 128) (a2 : Word) : Statement (.fioDirWrite a0 a1 a2) := fun _ _ h => nomatch h
theorem debWrite (a0 : Origin) (a1 : Fin 128) (a2 : Word) : Statement (.debWrite a0 a1 a2) := fun _ _ h => nomatch h
theorem debounceExpiry (a0 : Fin 128) : Statement (.debounceExpiry a0) := fun _ _ h => nomatch h
theorem maxactWrite (a0 : Origin) (a1 : Fin 128) (a2 : Word) : Statement (.maxactWrite a0 a1 a2) := fun _ _ h => nomatch h
theorem maxactExpiry (a0 : Fin 128) : Statement (.maxactExpiry a0) := fun _ _ h => nomatch h
theorem switchThermalTrip (a0 : Fin 128) : Statement (.switchThermalTrip a0) := fun _ _ h => nomatch h
theorem switchCooled (a0 : Fin 128) : Statement (.switchCooled a0) := fun _ _ h => nomatch h
theorem overcurrentQualified (a0 : Fin 128) (a1 : Bool) : Statement (.overcurrentQualified a0 a1) := fun _ _ h => nomatch h
theorem vfldMissing (a0 : Fin 8) : Statement (.vfldMissing a0) := fun _ _ h => nomatch h
theorem vfldPresent (a0 : Fin 8) : Statement (.vfldPresent a0) := fun _ _ h => nomatch h
theorem isumMeasure (a0 : Fin 8) (a1 : Fin 4096) : Statement (.isumMeasure a0 a1) := fun _ _ h => nomatch h
theorem regionRestart (a0 : Origin) (a1 : Fin 8) (a2 : Word) : Statement (.regionRestart a0 a1 a2) := fun _ _ h => nomatch h
theorem ilmInputChange (a0 : Fin 288) (a1 : Bool) : Statement (.ilmInputChange a0 a1) := fun _ _ h => nomatch h
theorem ilmFilterExpiry (a0 : Fin 288) : Statement (.ilmFilterExpiry a0) := fun _ _ h => nomatch h
theorem ilmTermWrite (a0 : Origin) (a1 : Bool) (a2 : Fin 512) (a3 : Fin 4) (a4 : Word) : Statement (.ilmTermWrite a0 a1 a2 a3 a4) := fun _ _ h => nomatch h
theorem load (a0 : Origin) (a1 : Byte) : Statement (.load a0 a1) := fun _ _ h => nomatch h
theorem swap (a0 : Origin) (a1 : Byte) : Statement (.swap a0 a1) := fun _ _ h => nomatch h
theorem swapApply : Statement .swapApply := fun _ _ h => nomatch h
theorem swapOverlapEnd : Statement .swapOverlapEnd := fun _ _ h => nomatch h
theorem clearLatch (a0 : Origin) (a1 : Byte) : Statement (.clearLatch a0 a1) := fun _ _ h => nomatch h
theorem ilmClearAll (a0 : Origin) (a1 : Byte) : Statement (.ilmClearAll a0 a1) := fun _ _ h => nomatch h
theorem cbRead (a0 : BitVec 24) : Statement (.cbRead a0) := fun _ _ h => nomatch h
theorem cbWrite (a0 : BitVec 24) (a1 : Word) (a2 : Bool) : Statement (.cbWrite a0 a1 a2) := fun _ _ h => nomatch h
theorem cbFifoApply : Statement .cbFifoApply := fun _ _ h => nomatch h
theorem streamEnable (a0 : Origin) (a1 : Fin 1024) (a2 : Word) : Statement (.streamEnable a0 a1 a2) := fun _ _ h => nomatch h
theorem blockClose (a0 : Fin 1024) : Statement (.blockClose a0) := fun _ _ h => nomatch h
theorem pageClose (a0 : Fin 16) : Statement (.pageClose a0) := fun _ _ h => nomatch h
theorem streamResume : Statement .streamResume := fun _ _ h => nomatch h
theorem decimationStep : Statement .decimationStep := fun _ _ h => nomatch h
theorem decimationUndo : Statement .decimationUndo := fun _ _ h => nomatch h
theorem nvmeBringup (a0 : Bool) (a1 : Bool) (a2 : Bool) (a3 : Fin 5) (a4 : Option Bool) : Statement (.nvmeBringup a0 a1 a2 a3 a4) := fun _ _ h => nomatch h
theorem nvmeWriteComplete (a0 : Fin 16) (a1 : Bool) : Statement (.nvmeWriteComplete a0 a1) := fun _ _ h => nomatch h
theorem nvmeFlush (a0 : Fin 16) : Statement (.nvmeFlush a0) := fun _ _ h => nomatch h
theorem retry (a0 : Origin) (a1 : BitVec 8) : Statement (.retry a0 a1) := fun _ _ h => nomatch h
theorem unitArm (a0 : Origin) (a1 : Fin 16) (a2 : BitVec 8) : Statement (.unitArm a0 a1 a2) := fun _ _ h => nomatch h
theorem unitStop (a0 : Origin) (a1 : Fin 16) (a2 : BitVec 8) : Statement (.unitStop a0 a1 a2) := fun _ _ h => nomatch h
theorem force (a0 : Origin) (a1 : Fin 16) (a2 : BitVec 8) : Statement (.force a0 a1 a2) := fun _ _ h => nomatch h
theorem unitClear (a0 : Origin) (a1 : Fin 16) (a2 : BitVec 8) : Statement (.unitClear a0 a1 a2) := fun _ _ h => nomatch h
theorem triggerEvaluation (a0 : Fin 16) (a1 : List (Nat × Bool × Nat × Nat × Nat)) : Statement (.triggerEvaluation a0 a1) := fun _ _ h => nomatch h
theorem autoTimeout (a0 : Fin 16) : Statement (.autoTimeout a0) := fun _ _ h => nomatch h
theorem recordCopyComplete (a0 : Fin 16) : Statement (.recordCopyComplete a0) := fun _ _ h => nomatch h
theorem holdoffExpiry (a0 : Fin 16) : Statement (.holdoffExpiry a0) := fun _ _ h => nomatch h
theorem triggerOutputEnd (a0 : Fin 16) : Statement (.triggerOutputEnd a0) := fun _ _ h => nomatch h
theorem domainUpdate (a0 : Origin) (a1 : Fin 3) (a2 : Word) : Statement (.domainUpdate a0 a1 a2) := fun _ _ h => nomatch h
theorem domainUpdateCommit (a0 : Fin 3) : Statement (.domainUpdateCommit a0) := fun _ _ h => nomatch h
theorem sync (a0 : Fin 2) (a1 : Nat) (a2 : Nat) (a3 : Int) (a4 : Bool) (a5 : Int) (a6 : Int) (a7 : Byte) : Statement (.sync a0 a1 a2 a3 a4 a5 a6 a7) := by
  simp only [Statement, naturals, Instr.wf, ubits, sbits, Bool.and_eq_true, decide_eq_true_eq, List.mem_cons, List.not_mem_nil, or_false, forall_eq_or_imp, forall_eq]
  omega
theorem announce (a0 : Fin 2) (a1 : Nat) (a2 : Nat) (a3 : Nat) (a4 : BitVec 11) : Statement (.announce a0 a1 a2 a3 a4) := by
  simp only [Statement, naturals, Instr.wf, ubits, sbits, Bool.and_eq_true, decide_eq_true_eq, List.mem_cons, List.not_mem_nil, or_false, forall_eq_or_imp, forall_eq]
  omega
theorem pdelayReq (a0 : Fin 2) (a1 : Nat) : Statement (.pdelayReq a0 a1) := by
  simp only [Statement, naturals, Instr.wf, ubits, sbits, Bool.and_eq_true, decide_eq_true_eq, List.mem_cons, List.not_mem_nil, or_false, forall_eq_or_imp, forall_eq]
  omega
theorem delayReqSend (a0 : Fin 2) : Statement (.delayReqSend a0) := fun _ _ h => nomatch h
theorem syncTimeout (a0 : Fin 2) : Statement (.syncTimeout a0) := fun _ _ h => nomatch h
theorem holdoverExpiry (a0 : Fin 2) : Statement (.holdoverExpiry a0) := fun _ _ h => nomatch h
theorem revertExpiry : Statement .revertExpiry := fun _ _ h => nomatch h
theorem snap (a0 : Origin) (a1 : Byte) : Statement (.snap a0 a1) := fun _ _ h => nomatch h
theorem select (a0 : Origin) (a1 : Byte) (a2 : Fin 4) : Statement (.select a0 a1 a2) := fun _ _ h => nomatch h
theorem accept (a0 : Origin) (a1 : Byte) (a2 : Fin 4) : Statement (.accept a0 a1 a2) := fun _ _ h => nomatch h
theorem dismiss (a0 : Origin) (a1 : Byte) (a2 : Fin 4) : Statement (.dismiss a0 a1 a2) := fun _ _ h => nomatch h
theorem tdcCalibration : Statement .tdcCalibration := fun _ _ h => nomatch h
theorem tsoEnable (a0 : Origin) (a1 : Fin 8) (a2 : Word) : Statement (.tsoEnable a0 a1 a2) := fun _ _ h => nomatch h
theorem tsoPulse (a0 : Fin 8) : Statement (.tsoPulse a0) := fun _ _ h => nomatch h
theorem tsoPulseEnd (a0 : Fin 8) : Statement (.tsoPulseEnd a0) := fun _ _ h => nomatch h
theorem linkStart (a0 : Origin) (a1 : Fin 16) (a2 : Word) : Statement (.linkStart a0 a1 a2) := fun _ _ h => nomatch h
theorem measureComplete (a0 : Fin 16) (a1 : Int) (a2 : Int) (a3 : List (Nat × Nat × Nat × Nat)) : Statement (.measureComplete a0 a1 a2 a3) := fun _ _ h => nomatch h
theorem outputImageTake (a0 : Fin 16) : Statement (.outputImageTake a0) := fun _ _ h => nomatch h
theorem frameTransmit (a0 : Fin 16) : Statement (.frameTransmit a0) := fun _ _ h => nomatch h
theorem frameReceive (a0 : Fin 16) (a1 : Bool) (a2 : GxFrame) : Statement (.frameReceive a0 a1 a2) := fun _ _ h => nomatch h
theorem inputPublish (a0 : Fin 16) : Statement (.inputPublish a0) := fun _ _ h => nomatch h
theorem mailboxRequest (a0 : Origin) (a1 : Fin 16) (a2 : Word) : Statement (.mailboxRequest a0 a1 a2) := fun _ _ h => nomatch h
theorem mailboxComplete (a0 : Fin 16) : Statement (.mailboxComplete a0) := fun _ _ h => nomatch h
theorem read (a0 : Fin 8) (a1 : Nat) (a2 : Bool) (a3 : List Nat) : Statement (.read a0 a1 a2 a3) := by
  simp only [Statement, naturals, Instr.wf, ubits, sbits, Bool.and_eq_true, decide_eq_true_eq, List.mem_cons, List.not_mem_nil, or_false, forall_eq_or_imp, forall_eq]
  omega
theorem write (a0 : Fin 8) (a1 : Nat) (a2 : Bool) (a3 : List (Nat × Word)) : Statement (.write a0 a1 a2 a3) := by
  simp only [Statement, naturals, Instr.wf, ubits, sbits, Bool.and_eq_true, decide_eq_true_eq, List.mem_cons, List.not_mem_nil, or_false, forall_eq_or_imp, forall_eq]
  omega
theorem subscribe (a0 : Fin 8) (a1 : Nat) (a2 : Bool) (a3 : Nat) (a4 : Nat) (a5 : List Nat) : Statement (.subscribe a0 a1 a2 a3 a4 a5) := by
  simp only [Statement, naturals, Instr.wf, ubits, sbits, Bool.and_eq_true, decide_eq_true_eq, List.mem_cons, List.not_mem_nil, or_false, forall_eq_or_imp, forall_eq]
  omega
theorem notify (a0 : Fin 8) (a1 : Fin 4) : Statement (.notify a0 a1) := fun _ _ h => nomatch h
theorem mode (a0 : Fin 8) (a1 : Nat) (a2 : Bool) (a3 : Byte) : Statement (.mode a0 a1 a2 a3) := by
  simp only [Statement, naturals, Instr.wf, ubits, sbits, Bool.and_eq_true, decide_eq_true_eq, List.mem_cons, List.not_mem_nil, or_false, forall_eq_or_imp, forall_eq]
  omega
theorem traceStart (a0 : Fin 8) (a1 : Nat) (a2 : Bool) (a3 : Fin 16) : Statement (.traceStart a0 a1 a2 a3) := by
  simp only [Statement, naturals, Instr.wf, ubits, sbits, Bool.and_eq_true, decide_eq_true_eq, List.mem_cons, List.not_mem_nil, or_false, forall_eq_or_imp, forall_eq]
  omega
theorem traceStop (a0 : Fin 8) (a1 : Nat) (a2 : Bool) (a3 : Fin 16) : Statement (.traceStop a0 a1 a2 a3) := by
  simp only [Statement, naturals, Instr.wf, ubits, sbits, Bool.and_eq_true, decide_eq_true_eq, List.mem_cons, List.not_mem_nil, or_false, forall_eq_or_imp, forall_eq]
  omega
theorem traceAck (a0 : Fin 8) (a1 : Nat) (a2 : Bool) (a3 : Fin 16) (a4 : Nat) : Statement (.traceAck a0 a1 a2 a3 a4) := by
  simp only [Statement, naturals, Instr.wf, ubits, sbits, Bool.and_eq_true, decide_eq_true_eq, List.mem_cons, List.not_mem_nil, or_false, forall_eq_or_imp, forall_eq]
  omega
theorem traceRetransmit (a0 : Fin 16) : Statement (.traceRetransmit a0) := fun _ _ h => nomatch h
theorem regRead (a0 : Fin 8) (a1 : Nat) (a2 : Bool) (a3 : List Nat) : Statement (.regRead a0 a1 a2 a3) := by
  simp only [Statement, naturals, Instr.wf, ubits, sbits, Bool.and_eq_true, decide_eq_true_eq, List.mem_cons, List.not_mem_nil, or_false, forall_eq_or_imp, forall_eq]
  omega
theorem regWrite (a0 : Fin 8) (a1 : Nat) (a2 : Bool) (a3 : List (Nat × Word)) : Statement (.regWrite a0 a1 a2 a3) := by
  simp only [Statement, naturals, Instr.wf, ubits, sbits, Bool.and_eq_true, decide_eq_true_eq, List.mem_cons, List.not_mem_nil, or_false, forall_eq_or_imp, forall_eq]
  omega
theorem hello (a0 : Fin 3) : Statement (.hello a0) := fun _ _ h => nomatch h
theorem finish (a0 : Fin 8) (a1 : Option (Fin 3)) (a2 : Bool) (a3 : Bool) : Statement (.finish a0 a1 a2 a3) := fun _ _ h => nomatch h
theorem handshakeLapse (a0 : Fin 8) : Statement (.handshakeLapse a0) := fun _ _ h => nomatch h
theorem sessionIdleClose (a0 : Fin 8) : Statement (.sessionIdleClose a0) := fun _ _ h => nomatch h
theorem gapclose (a0 : Fin 8) : Statement (.gapclose a0) := fun _ _ h => nomatch h
theorem canFrameReceive (a0 : Fin 8) (a1 : CanFrame) : Statement (.canFrameReceive a0 a1) := fun _ _ h => nomatch h
theorem canPeriodic (a0 : Fin 8) (a1 : Fin 256) : Statement (.canPeriodic a0 a1) := fun _ _ h => nomatch h
theorem txreq (a0 : Origin) (a1 : Fin 8) (a2 : Fin 256) (a3 : Word) : Statement (.txreq a0 a1 a2 a3) := fun _ _ h => nomatch h
theorem canTxComplete (a0 : Fin 8) (a1 : Fin 9) : Statement (.canTxComplete a0 a1) := fun _ _ h => nomatch h
theorem bor (a0 : Origin) (a1 : Fin 8) (a2 : Byte) : Statement (.bor a0 a1 a2) := fun _ _ h => nomatch h
theorem borComplete (a0 : Fin 8) : Statement (.borComplete a0) := fun _ _ h => nomatch h
theorem cansupRecovery (a0 : Fin 8) : Statement (.cansupRecovery a0) := fun _ _ h => nomatch h
theorem abdStart (a0 : Origin) (a1 : Fin 8) (a2 : Byte) : Statement (.abdStart a0 a1 a2) := fun _ _ h => nomatch h
theorem abdStop (a0 : Origin) (a1 : Fin 8) (a2 : Byte) : Statement (.abdStop a0 a1 a2) := fun _ _ h => nomatch h
theorem abdTimeout (a0 : Fin 8) : Statement (.abdTimeout a0) := fun _ _ h => nomatch h
theorem opmodeWrite (a0 : Origin) (a1 : Fin 8) (a2 : Word) : Statement (.opmodeWrite a0 a1 a2) := fun _ _ h => nomatch h
theorem pop (a0 : Origin) (a1 : Fin 8) (a2 : Word) : Statement (.pop a0 a1 a2) := fun _ _ h => nomatch h
theorem fifoRdWrite (a0 : Origin) (a1 : Fin 8) (a2 : Word) : Statement (.fifoRdWrite a0 a1 a2) := fun _ _ h => nomatch h
theorem sentinelEvaluation (a0 : BitVec 8) (a1 : BitVec 8) : Statement (.sentinelEvaluation a0 a1) := fun _ _ h => nomatch h
theorem discrepancyExpiry (a0 : Fin 8) : Statement (.discrepancyExpiry a0) := fun _ _ h => nomatch h
theorem readbackMismatch (a0 : Fin 8) : Statement (.readbackMismatch a0) := fun _ _ h => nomatch h
theorem testPulse (a0 : Fin 8) : Statement (.testPulse a0) := fun _ _ h => nomatch h
theorem testPulseEnd (a0 : Bool) (a1 : Bool) (a2 : Bool) : Statement (.testPulseEnd a0 a1 a2) := fun _ _ h => nomatch h
theorem safeReqWrite (a0 : Origin) (a1 : Word) : Statement (.safeReqWrite a0 a1) := fun _ _ h => nomatch h
theorem coreReport (a0 : BitVec 8) (a1 : BitVec 8) : Statement (.coreReport a0 a1) := fun _ _ h => nomatch h
theorem coreSilent : Statement .coreSilent := fun _ _ h => nomatch h
theorem deliberateReset (a0 : BitVec 32) (a1 : BitVec 32) (a2 : BitVec 32) (a3 : Bool) : Statement (.deliberateReset a0 a1 a2 a3) := fun _ _ h => nomatch h
theorem pendingAreaWrite (a0 : Origin) (a1 : Fin 512) (a2 : Word) : Statement (.pendingAreaWrite a0 a1 a2) := fun _ _ h => nomatch h
theorem safeConfirm (a0 : Origin) (a1 : Word) : Statement (.safeConfirm a0 a1) := fun _ _ h => nomatch h
theorem confirmWindowExpiry : Statement .confirmWindowExpiry := fun _ _ h => nomatch h
theorem bhtStart (a0 : Origin) (a1 : BitVec 8) (a2 : Fin 8) : Statement (.bhtStart a0 a1 a2) := fun _ _ h => nomatch h
theorem bhtPhaseEnd : Statement .bhtPhaseEnd := fun _ _ h => nomatch h
theorem bhtAbort (a0 : Origin) (a1 : BitVec 8) (a2 : Fin 8) : Statement (.bhtAbort a0 a1 a2) := fun _ _ h => nomatch h
theorem pendClear (a0 : Origin) (a1 : BitVec 8) (a2 : Fin 8) : Statement (.pendClear a0 a1 a2) := fun _ _ h => nomatch h
theorem bhtDueExpiry (a0 : Fin 8) : Statement (.bhtDueExpiry a0) := fun _ _ h => nomatch h
theorem bhtGraceExpiry (a0 : Fin 8) : Statement (.bhtGraceExpiry a0) := fun _ _ h => nomatch h
theorem vsenFault : Statement .vsenFault := fun _ _ h => nomatch h
theorem faultRaise (a0 : Fin 512) (a1 : Fin 4096) (a2 : Fin 6) (a3 : Bool) : Statement (.faultRaise a0 a1 a2 a3) := fun _ _ h => nomatch h
theorem quietExpiry (a0 : Fin 512) : Statement (.quietExpiry a0) := fun _ _ h => nomatch h
theorem sevWrite (a0 : Origin) (a1 : Fin 512) (a2 : Word) : Statement (.sevWrite a0 a1 a2) := fun _ _ h => nomatch h
theorem fltClear (a0 : Origin) (a1 : Byte) : Statement (.fltClear a0 a1) := fun _ _ h => nomatch h
theorem fltClearAll (a0 : Origin) (a1 : Byte) : Statement (.fltClearAll a0 a1) := fun _ _ h => nomatch h
theorem raise (a0 : Origin) (a1 : Byte) : Statement (.raise a0 a1) := fun _ _ h => nomatch h
theorem inject (a0 : Origin) (a1 : Byte) : Statement (.inject a0 a1) := fun _ _ h => nomatch h
theorem injectionLapse : Statement .injectionLapse := fun _ _ h => nomatch h
theorem lockstepMismatch (a0 : Fin 8) : Statement (.lockstepMismatch a0) := fun _ _ h => nomatch h
theorem coreRejoin (a0 : Fin 8) (a1 : Bool) : Statement (.coreRejoin a0 a1) := fun _ _ h => nomatch h
theorem tokenRefill (a0 : Fin 4096) : Statement (.tokenRefill a0) := fun _ _ h => nomatch h
theorem evlWrite (a0 : Origin) (a1 : Byte) (a2 : Fin 4096) : Statement (.evlWrite a0 a1 a2) := fun _ _ h => nomatch h
theorem clearLog (a0 : Origin) (a1 : Byte) : Statement (.clearLog a0 a1) := fun _ _ h => nomatch h
theorem evlRdselWrite (a0 : Origin) (a1 : Word) : Statement (.evlRdselWrite a0 a1) := fun _ _ h => nomatch h
theorem evlCodeWrite (a0 : Origin) (a1 : Fin 4096) (a2 : Word) : Statement (.evlCodeWrite a0 a1 a2) := fun _ _ h => nomatch h
theorem clearTamp (a0 : Origin) (a1 : Byte) : Statement (.clearTamp a0 a1) := fun _ _ h => nomatch h
theorem vbatLost : Statement .vbatLost := fun _ _ h => nomatch h
theorem xtalStop : Statement .xtalStop := fun _ _ h => nomatch h
theorem caseOpen (a0 : Bool) : Statement (.caseOpen a0) := fun _ _ h => nomatch h
theorem attest (a0 : Origin) (a1 : Byte) : Statement (.attest a0 a1) := fun _ _ h => nomatch h
theorem revoke (a0 : Origin) (a1 : Byte) (a2 : Fin 8) : Statement (.revoke a0 a1 a2) := fun _ _ h => nomatch h
theorem viso5Fail (a0 : Fin 4) : Statement (.viso5Fail a0) := fun _ _ h => nomatch h
theorem viso5Return (a0 : Fin 4) (a1 : Bool) (a2 : Bool) : Statement (.viso5Return a0 a1 a2) := fun _ _ h => nomatch h
theorem coreOvertemp : Statement .coreOvertemp := fun _ _ h => nomatch h
theorem couplerClockReturn (a0 : Fin 4) : Statement (.couplerClockReturn a0) := fun _ _ h => nomatch h
theorem stepGeneratorCrossing (a0 : Fin 128) : Statement (.stepGeneratorCrossing a0) := fun _ _ h => nomatch h
theorem canBusError (a0 : Fin 8) (a1 : Fin 7) (a2 : Bool) : Statement (.canBusError a0 a1 a2) := fun _ _ h => nomatch h
theorem canBusIntegration (a0 : Fin 8) : Statement (.canBusIntegration a0) := fun _ _ h => nomatch h
theorem netLinkLoss (a0 : Fin 2) : Statement (.netLinkLoss a0) := fun _ _ h => nomatch h
theorem plnkLinkLoss : Statement .plnkLinkLoss := fun _ _ h => nomatch h
theorem heartbeatReceive (a0 : BitVec 16) (a1 : Option Nat) : Statement (.heartbeatReceive a0 a1) := fun _ _ h => nomatch h
theorem followUp (a0 : Fin 2) (a1 : Nat) (a2 : Nat) (a3 : Int) (a4 : Int) : Statement (.followUp a0 a1 a2 a3 a4) := by
  simp only [Statement, naturals, Instr.wf, ubits, sbits, Bool.and_eq_true, decide_eq_true_eq, List.mem_cons, List.not_mem_nil, or_false, forall_eq_or_imp, forall_eq]
  omega
theorem delayResp (a0 : Fin 2) (a1 : Nat) (a2 : Nat) (a3 : Int) (a4 : Int) : Statement (.delayResp a0 a1 a2 a3 a4) := by
  simp only [Statement, naturals, Instr.wf, ubits, sbits, Bool.and_eq_true, decide_eq_true_eq, List.mem_cons, List.not_mem_nil, or_false, forall_eq_or_imp, forall_eq]
  omega
theorem pdelayResp (a0 : Fin 2) (a1 : Nat) (a2 : Int) (a3 : Byte) : Statement (.pdelayResp a0 a1 a2 a3) := by
  simp only [Statement, naturals, Instr.wf, ubits, sbits, Bool.and_eq_true, decide_eq_true_eq, List.mem_cons, List.not_mem_nil, or_false, forall_eq_or_imp, forall_eq]
  omega
theorem arpRequest (a0 : Fin 2) (a1 : Word) : Statement (.arpRequest a0 a1) := fun _ _ h => nomatch h
theorem icmpEchoRequest (a0 : Fin 2) (a1 : Word) : Statement (.icmpEchoRequest a0 a1) := fun _ _ h => nomatch h
theorem coreCooled (a0 : DawnEnv) : Statement (.coreCooled a0) := fun _ _ h => nomatch h
theorem memoryScrubRead (a0 : BitVec 40) : Statement (.memoryScrubRead a0) := fun _ _ h => nomatch h
theorem illegalEncoding (a0 : Fin 8) (a1 : Word) : Statement (.illegalEncoding a0 a1) := fun _ _ h => nomatch h
theorem undefBundle (a0 : LeFetch) : Statement (.undefBundle a0) := fun _ _ h => nomatch h

end Sys2Proof.Laws.WireNumbers
end

