-- ==== Sys2Proof/Laws/State.lean ====
section
/-!
SUPPORT. What an update leaves: for every field of State and every update that does not write it, the field reads as before.
No proof needs to unfold a record update.
-/

set_option Elab.async false

set_option linter.all false

namespace Sys2Proof.Machine

/-- A store changes memory alone. -/
theorem setBytes_eq (s : State) (a n v : Nat) : s.setBytes a n v = { s with mem := (s.setBytes a n v).mem } := by
  induction n generalizing s a v with
  | zero => rfl
  | succ n ih => show State.setBytes _ _ _ _ = _; unfold State.setBytes; rw [ih]; rfl

/-! ### setReg -/

@[simp] theorem setReg_pending (s : State) (a : Nat) (v : Word) : (s.setReg a v).pending = s.pending := rfl
@[simp] theorem setReg_tbc (s : State) (a : Nat) (v : Word) : (s.setReg a v).tbc = s.tbc := rfl
@[simp] theorem setReg_mem (s : State) (a : Nat) (v : Word) : (s.setReg a v).mem = s.mem := rfl
@[simp] theorem setReg_free (s : State) (a : Nat) (v : Word) : (s.setReg a v).free = s.free := rfl
@[simp] theorem setReg_rdata (s : State) (a : Nat) (v : Word) : (s.setReg a v).rdata = s.rdata := rfl
@[simp] theorem setReg_time (s : State) (a : Nat) (v : Word) : (s.setReg a v).time = s.time := rfl
@[simp] theorem setReg_flt (s : State) (a : Nat) (v : Word) : (s.setReg a v).flt = s.flt := rfl
@[simp] theorem setReg_evl (s : State) (a : Nat) (v : Word) : (s.setReg a v).evl = s.evl := rfl
@[simp] theorem setReg_vault (s : State) (a : Nat) (v : Word) : (s.setReg a v).vault = s.vault := rfl
@[simp] theorem setReg_sched (s : State) (a : Nat) (v : Word) : (s.setReg a v).sched = s.sched := rfl
@[simp] theorem setReg_scan (s : State) (a : Nat) (v : Word) : (s.setReg a v).scan = s.scan := rfl
@[simp] theorem setReg_boot (s : State) (a : Nat) (v : Word) : (s.setReg a v).boot = s.boot := rfl
@[simp] theorem setReg_jnl (s : State) (a : Nat) (v : Word) : (s.setReg a v).jnl = s.jnl := rfl
@[simp] theorem setReg_sys (s : State) (a : Nat) (v : Word) : (s.setReg a v).sys = s.sys := rfl
@[simp] theorem setReg_part (s : State) (a : Nat) (v : Word) : (s.setReg a v).part = s.part := rfl
@[simp] theorem setReg_fw (s : State) (a : Nat) (v : Word) : (s.setReg a v).fw = s.fw := rfl
@[simp] theorem setReg_safe (s : State) (a : Nat) (v : Word) : (s.setReg a v).safe = s.safe := rfl
@[simp] theorem setReg_cores (s : State) (a : Nat) (v : Word) : (s.setReg a v).cores = s.cores := rfl
@[simp] theorem setReg_out (s : State) (a : Nat) (v : Word) : (s.setReg a v).out = s.out := rfl
@[simp] theorem setReg_lgs (s : State) (a : Nat) (v : Word) : (s.setReg a v).lgs = s.lgs := rfl
@[simp] theorem setReg_chans (s : State) (a : Nat) (v : Word) : (s.setReg a v).chans = s.chans := rfl
@[simp] theorem setReg_clusters (s : State) (a : Nat) (v : Word) : (s.setReg a v).clusters = s.clusters := rfl
@[simp] theorem setReg_dies (s : State) (a : Nat) (v : Word) : (s.setReg a v).dies = s.dies := rfl
@[simp] theorem setReg_regions (s : State) (a : Nat) (v : Word) : (s.setReg a v).regions = s.regions := rfl
@[simp] theorem setReg_ilm (s : State) (a : Nat) (v : Word) : (s.setReg a v).ilm = s.ilm := rfl
@[simp] theorem setReg_axes (s : State) (a : Nat) (v : Word) : (s.setReg a v).axes = s.axes := rfl
@[simp] theorem setReg_engines (s : State) (a : Nat) (v : Word) : (s.setReg a v).engines = s.engines := rfl
@[simp] theorem setReg_slots (s : State) (a : Nat) (v : Word) : (s.setReg a v).slots = s.slots := rfl
@[simp] theorem setReg_seqs (s : State) (a : Nat) (v : Word) : (s.setReg a v).seqs = s.seqs := rfl
@[simp] theorem setReg_recu (s : State) (a : Nat) (v : Word) : (s.setReg a v).recu = s.recu := rfl
@[simp] theorem setReg_cans (s : State) (a : Nat) (v : Word) : (s.setReg a v).cans = s.cans := rfl
@[simp] theorem setReg_cbus (s : State) (a : Nat) (v : Word) : (s.setReg a v).cbus = s.cbus := rfl
@[simp] theorem setReg_sessions (s : State) (a : Nat) (v : Word) : (s.setReg a v).sessions = s.sessions := rfl
@[simp] theorem setReg_secu (s : State) (a : Nat) (v : Word) : (s.setReg a v).secu = s.secu := rfl
@[simp] theorem setReg_links (s : State) (a : Nat) (v : Word) : (s.setReg a v).links = s.links := rfl
@[simp] theorem setReg_copies (s : State) (a : Nat) (v : Word) : (s.setReg a v).copies = s.copies := rfl
@[simp] theorem setReg_outbox (s : State) (a : Nat) (v : Word) : (s.setReg a v).outbox = s.outbox := rfl

/-! ### setFld -/

@[simp] theorem setFld_pending (s : State) (l : Loc) (v : Nat) : (s.setFld l v).pending = s.pending := rfl
@[simp] theorem setFld_tbc (s : State) (l : Loc) (v : Nat) : (s.setFld l v).tbc = s.tbc := rfl
@[simp] theorem setFld_mem (s : State) (l : Loc) (v : Nat) : (s.setFld l v).mem = s.mem := rfl
@[simp] theorem setFld_free (s : State) (l : Loc) (v : Nat) : (s.setFld l v).free = s.free := rfl
@[simp] theorem setFld_rdata (s : State) (l : Loc) (v : Nat) : (s.setFld l v).rdata = s.rdata := rfl
@[simp] theorem setFld_time (s : State) (l : Loc) (v : Nat) : (s.setFld l v).time = s.time := rfl
@[simp] theorem setFld_flt (s : State) (l : Loc) (v : Nat) : (s.setFld l v).flt = s.flt := rfl
@[simp] theorem setFld_evl (s : State) (l : Loc) (v : Nat) : (s.setFld l v).evl = s.evl := rfl
@[simp] theorem setFld_vault (s : State) (l : Loc) (v : Nat) : (s.setFld l v).vault = s.vault := rfl
@[simp] theorem setFld_sched (s : State) (l : Loc) (v : Nat) : (s.setFld l v).sched = s.sched := rfl
@[simp] theorem setFld_scan (s : State) (l : Loc) (v : Nat) : (s.setFld l v).scan = s.scan := rfl
@[simp] theorem setFld_boot (s : State) (l : Loc) (v : Nat) : (s.setFld l v).boot = s.boot := rfl
@[simp] theorem setFld_jnl (s : State) (l : Loc) (v : Nat) : (s.setFld l v).jnl = s.jnl := rfl
@[simp] theorem setFld_sys (s : State) (l : Loc) (v : Nat) : (s.setFld l v).sys = s.sys := rfl
@[simp] theorem setFld_part (s : State) (l : Loc) (v : Nat) : (s.setFld l v).part = s.part := rfl
@[simp] theorem setFld_fw (s : State) (l : Loc) (v : Nat) : (s.setFld l v).fw = s.fw := rfl
@[simp] theorem setFld_safe (s : State) (l : Loc) (v : Nat) : (s.setFld l v).safe = s.safe := rfl
@[simp] theorem setFld_cores (s : State) (l : Loc) (v : Nat) : (s.setFld l v).cores = s.cores := rfl
@[simp] theorem setFld_out (s : State) (l : Loc) (v : Nat) : (s.setFld l v).out = s.out := rfl
@[simp] theorem setFld_lgs (s : State) (l : Loc) (v : Nat) : (s.setFld l v).lgs = s.lgs := rfl
@[simp] theorem setFld_chans (s : State) (l : Loc) (v : Nat) : (s.setFld l v).chans = s.chans := rfl
@[simp] theorem setFld_clusters (s : State) (l : Loc) (v : Nat) : (s.setFld l v).clusters = s.clusters := rfl
@[simp] theorem setFld_dies (s : State) (l : Loc) (v : Nat) : (s.setFld l v).dies = s.dies := rfl
@[simp] theorem setFld_regions (s : State) (l : Loc) (v : Nat) : (s.setFld l v).regions = s.regions := rfl
@[simp] theorem setFld_ilm (s : State) (l : Loc) (v : Nat) : (s.setFld l v).ilm = s.ilm := rfl
@[simp] theorem setFld_axes (s : State) (l : Loc) (v : Nat) : (s.setFld l v).axes = s.axes := rfl
@[simp] theorem setFld_engines (s : State) (l : Loc) (v : Nat) : (s.setFld l v).engines = s.engines := rfl
@[simp] theorem setFld_slots (s : State) (l : Loc) (v : Nat) : (s.setFld l v).slots = s.slots := rfl
@[simp] theorem setFld_seqs (s : State) (l : Loc) (v : Nat) : (s.setFld l v).seqs = s.seqs := rfl
@[simp] theorem setFld_recu (s : State) (l : Loc) (v : Nat) : (s.setFld l v).recu = s.recu := rfl
@[simp] theorem setFld_cans (s : State) (l : Loc) (v : Nat) : (s.setFld l v).cans = s.cans := rfl
@[simp] theorem setFld_cbus (s : State) (l : Loc) (v : Nat) : (s.setFld l v).cbus = s.cbus := rfl
@[simp] theorem setFld_sessions (s : State) (l : Loc) (v : Nat) : (s.setFld l v).sessions = s.sessions := rfl
@[simp] theorem setFld_secu (s : State) (l : Loc) (v : Nat) : (s.setFld l v).secu = s.secu := rfl
@[simp] theorem setFld_links (s : State) (l : Loc) (v : Nat) : (s.setFld l v).links = s.links := rfl
@[simp] theorem setFld_copies (s : State) (l : Loc) (v : Nat) : (s.setFld l v).copies = s.copies := rfl
@[simp] theorem setFld_outbox (s : State) (l : Loc) (v : Nat) : (s.setFld l v).outbox = s.outbox := rfl

/-! ### setFlag -/

@[simp] theorem setFlag_pending (s : State) (l : Loc) (v : Bool) : (s.setFlag l v).pending = s.pending := rfl
@[simp] theorem setFlag_tbc (s : State) (l : Loc) (v : Bool) : (s.setFlag l v).tbc = s.tbc := rfl
@[simp] theorem setFlag_mem (s : State) (l : Loc) (v : Bool) : (s.setFlag l v).mem = s.mem := rfl
@[simp] theorem setFlag_free (s : State) (l : Loc) (v : Bool) : (s.setFlag l v).free = s.free := rfl
@[simp] theorem setFlag_rdata (s : State) (l : Loc) (v : Bool) : (s.setFlag l v).rdata = s.rdata := rfl
@[simp] theorem setFlag_time (s : State) (l : Loc) (v : Bool) : (s.setFlag l v).time = s.time := rfl
@[simp] theorem setFlag_flt (s : State) (l : Loc) (v : Bool) : (s.setFlag l v).flt = s.flt := rfl
@[simp] theorem setFlag_evl (s : State) (l : Loc) (v : Bool) : (s.setFlag l v).evl = s.evl := rfl
@[simp] theorem setFlag_vault (s : State) (l : Loc) (v : Bool) : (s.setFlag l v).vault = s.vault := rfl
@[simp] theorem setFlag_sched (s : State) (l : Loc) (v : Bool) : (s.setFlag l v).sched = s.sched := rfl
@[simp] theorem setFlag_scan (s : State) (l : Loc) (v : Bool) : (s.setFlag l v).scan = s.scan := rfl
@[simp] theorem setFlag_boot (s : State) (l : Loc) (v : Bool) : (s.setFlag l v).boot = s.boot := rfl
@[simp] theorem setFlag_jnl (s : State) (l : Loc) (v : Bool) : (s.setFlag l v).jnl = s.jnl := rfl
@[simp] theorem setFlag_sys (s : State) (l : Loc) (v : Bool) : (s.setFlag l v).sys = s.sys := rfl
@[simp] theorem setFlag_part (s : State) (l : Loc) (v : Bool) : (s.setFlag l v).part = s.part := rfl
@[simp] theorem setFlag_fw (s : State) (l : Loc) (v : Bool) : (s.setFlag l v).fw = s.fw := rfl
@[simp] theorem setFlag_safe (s : State) (l : Loc) (v : Bool) : (s.setFlag l v).safe = s.safe := rfl
@[simp] theorem setFlag_cores (s : State) (l : Loc) (v : Bool) : (s.setFlag l v).cores = s.cores := rfl
@[simp] theorem setFlag_out (s : State) (l : Loc) (v : Bool) : (s.setFlag l v).out = s.out := rfl
@[simp] theorem setFlag_lgs (s : State) (l : Loc) (v : Bool) : (s.setFlag l v).lgs = s.lgs := rfl
@[simp] theorem setFlag_chans (s : State) (l : Loc) (v : Bool) : (s.setFlag l v).chans = s.chans := rfl
@[simp] theorem setFlag_clusters (s : State) (l : Loc) (v : Bool) : (s.setFlag l v).clusters = s.clusters := rfl
@[simp] theorem setFlag_dies (s : State) (l : Loc) (v : Bool) : (s.setFlag l v).dies = s.dies := rfl
@[simp] theorem setFlag_regions (s : State) (l : Loc) (v : Bool) : (s.setFlag l v).regions = s.regions := rfl
@[simp] theorem setFlag_ilm (s : State) (l : Loc) (v : Bool) : (s.setFlag l v).ilm = s.ilm := rfl
@[simp] theorem setFlag_axes (s : State) (l : Loc) (v : Bool) : (s.setFlag l v).axes = s.axes := rfl
@[simp] theorem setFlag_engines (s : State) (l : Loc) (v : Bool) : (s.setFlag l v).engines = s.engines := rfl
@[simp] theorem setFlag_slots (s : State) (l : Loc) (v : Bool) : (s.setFlag l v).slots = s.slots := rfl
@[simp] theorem setFlag_seqs (s : State) (l : Loc) (v : Bool) : (s.setFlag l v).seqs = s.seqs := rfl
@[simp] theorem setFlag_recu (s : State) (l : Loc) (v : Bool) : (s.setFlag l v).recu = s.recu := rfl
@[simp] theorem setFlag_cans (s : State) (l : Loc) (v : Bool) : (s.setFlag l v).cans = s.cans := rfl
@[simp] theorem setFlag_cbus (s : State) (l : Loc) (v : Bool) : (s.setFlag l v).cbus = s.cbus := rfl
@[simp] theorem setFlag_sessions (s : State) (l : Loc) (v : Bool) : (s.setFlag l v).sessions = s.sessions := rfl
@[simp] theorem setFlag_secu (s : State) (l : Loc) (v : Bool) : (s.setFlag l v).secu = s.secu := rfl
@[simp] theorem setFlag_links (s : State) (l : Loc) (v : Bool) : (s.setFlag l v).links = s.links := rfl
@[simp] theorem setFlag_copies (s : State) (l : Loc) (v : Bool) : (s.setFlag l v).copies = s.copies := rfl
@[simp] theorem setFlag_outbox (s : State) (l : Loc) (v : Bool) : (s.setFlag l v).outbox = s.outbox := rfl

/-! ### setFbit -/

@[simp] theorem setFbit_pending (s : State) (l : Loc) (i : Nat) (v : Bool) : (s.setFbit l i v).pending = s.pending := rfl
@[simp] theorem setFbit_tbc (s : State) (l : Loc) (i : Nat) (v : Bool) : (s.setFbit l i v).tbc = s.tbc := rfl
@[simp] theorem setFbit_mem (s : State) (l : Loc) (i : Nat) (v : Bool) : (s.setFbit l i v).mem = s.mem := rfl
@[simp] theorem setFbit_free (s : State) (l : Loc) (i : Nat) (v : Bool) : (s.setFbit l i v).free = s.free := rfl
@[simp] theorem setFbit_rdata (s : State) (l : Loc) (i : Nat) (v : Bool) : (s.setFbit l i v).rdata = s.rdata := rfl
@[simp] theorem setFbit_time (s : State) (l : Loc) (i : Nat) (v : Bool) : (s.setFbit l i v).time = s.time := rfl
@[simp] theorem setFbit_flt (s : State) (l : Loc) (i : Nat) (v : Bool) : (s.setFbit l i v).flt = s.flt := rfl
@[simp] theorem setFbit_evl (s : State) (l : Loc) (i : Nat) (v : Bool) : (s.setFbit l i v).evl = s.evl := rfl
@[simp] theorem setFbit_vault (s : State) (l : Loc) (i : Nat) (v : Bool) : (s.setFbit l i v).vault = s.vault := rfl
@[simp] theorem setFbit_sched (s : State) (l : Loc) (i : Nat) (v : Bool) : (s.setFbit l i v).sched = s.sched := rfl
@[simp] theorem setFbit_scan (s : State) (l : Loc) (i : Nat) (v : Bool) : (s.setFbit l i v).scan = s.scan := rfl
@[simp] theorem setFbit_boot (s : State) (l : Loc) (i : Nat) (v : Bool) : (s.setFbit l i v).boot = s.boot := rfl
@[simp] theorem setFbit_jnl (s : State) (l : Loc) (i : Nat) (v : Bool) : (s.setFbit l i v).jnl = s.jnl := rfl
@[simp] theorem setFbit_sys (s : State) (l : Loc) (i : Nat) (v : Bool) : (s.setFbit l i v).sys = s.sys := rfl
@[simp] theorem setFbit_part (s : State) (l : Loc) (i : Nat) (v : Bool) : (s.setFbit l i v).part = s.part := rfl
@[simp] theorem setFbit_fw (s : State) (l : Loc) (i : Nat) (v : Bool) : (s.setFbit l i v).fw = s.fw := rfl
@[simp] theorem setFbit_safe (s : State) (l : Loc) (i : Nat) (v : Bool) : (s.setFbit l i v).safe = s.safe := rfl
@[simp] theorem setFbit_cores (s : State) (l : Loc) (i : Nat) (v : Bool) : (s.setFbit l i v).cores = s.cores := rfl
@[simp] theorem setFbit_out (s : State) (l : Loc) (i : Nat) (v : Bool) : (s.setFbit l i v).out = s.out := rfl
@[simp] theorem setFbit_lgs (s : State) (l : Loc) (i : Nat) (v : Bool) : (s.setFbit l i v).lgs = s.lgs := rfl
@[simp] theorem setFbit_chans (s : State) (l : Loc) (i : Nat) (v : Bool) : (s.setFbit l i v).chans = s.chans := rfl
@[simp] theorem setFbit_clusters (s : State) (l : Loc) (i : Nat) (v : Bool) : (s.setFbit l i v).clusters = s.clusters := rfl
@[simp] theorem setFbit_dies (s : State) (l : Loc) (i : Nat) (v : Bool) : (s.setFbit l i v).dies = s.dies := rfl
@[simp] theorem setFbit_regions (s : State) (l : Loc) (i : Nat) (v : Bool) : (s.setFbit l i v).regions = s.regions := rfl
@[simp] theorem setFbit_ilm (s : State) (l : Loc) (i : Nat) (v : Bool) : (s.setFbit l i v).ilm = s.ilm := rfl
@[simp] theorem setFbit_axes (s : State) (l : Loc) (i : Nat) (v : Bool) : (s.setFbit l i v).axes = s.axes := rfl
@[simp] theorem setFbit_engines (s : State) (l : Loc) (i : Nat) (v : Bool) : (s.setFbit l i v).engines = s.engines := rfl
@[simp] theorem setFbit_slots (s : State) (l : Loc) (i : Nat) (v : Bool) : (s.setFbit l i v).slots = s.slots := rfl
@[simp] theorem setFbit_seqs (s : State) (l : Loc) (i : Nat) (v : Bool) : (s.setFbit l i v).seqs = s.seqs := rfl
@[simp] theorem setFbit_recu (s : State) (l : Loc) (i : Nat) (v : Bool) : (s.setFbit l i v).recu = s.recu := rfl
@[simp] theorem setFbit_cans (s : State) (l : Loc) (i : Nat) (v : Bool) : (s.setFbit l i v).cans = s.cans := rfl
@[simp] theorem setFbit_cbus (s : State) (l : Loc) (i : Nat) (v : Bool) : (s.setFbit l i v).cbus = s.cbus := rfl
@[simp] theorem setFbit_sessions (s : State) (l : Loc) (i : Nat) (v : Bool) : (s.setFbit l i v).sessions = s.sessions := rfl
@[simp] theorem setFbit_secu (s : State) (l : Loc) (i : Nat) (v : Bool) : (s.setFbit l i v).secu = s.secu := rfl
@[simp] theorem setFbit_links (s : State) (l : Loc) (i : Nat) (v : Bool) : (s.setFbit l i v).links = s.links := rfl
@[simp] theorem setFbit_copies (s : State) (l : Loc) (i : Nat) (v : Bool) : (s.setFbit l i v).copies = s.copies := rfl
@[simp] theorem setFbit_outbox (s : State) (l : Loc) (i : Nat) (v : Bool) : (s.setFbit l i v).outbox = s.outbox := rfl

/-! ### setFld2 -/

@[simp] theorem setFld2_pending (s : State) (l h : Loc) (v : Nat) : (s.setFld2 l h v).pending = s.pending := rfl
@[simp] theorem setFld2_tbc (s : State) (l h : Loc) (v : Nat) : (s.setFld2 l h v).tbc = s.tbc := rfl
@[simp] theorem setFld2_mem (s : State) (l h : Loc) (v : Nat) : (s.setFld2 l h v).mem = s.mem := rfl
@[simp] theorem setFld2_free (s : State) (l h : Loc) (v : Nat) : (s.setFld2 l h v).free = s.free := rfl
@[simp] theorem setFld2_rdata (s : State) (l h : Loc) (v : Nat) : (s.setFld2 l h v).rdata = s.rdata := rfl
@[simp] theorem setFld2_time (s : State) (l h : Loc) (v : Nat) : (s.setFld2 l h v).time = s.time := rfl
@[simp] theorem setFld2_flt (s : State) (l h : Loc) (v : Nat) : (s.setFld2 l h v).flt = s.flt := rfl
@[simp] theorem setFld2_evl (s : State) (l h : Loc) (v : Nat) : (s.setFld2 l h v).evl = s.evl := rfl
@[simp] theorem setFld2_vault (s : State) (l h : Loc) (v : Nat) : (s.setFld2 l h v).vault = s.vault := rfl
@[simp] theorem setFld2_sched (s : State) (l h : Loc) (v : Nat) : (s.setFld2 l h v).sched = s.sched := rfl
@[simp] theorem setFld2_scan (s : State) (l h : Loc) (v : Nat) : (s.setFld2 l h v).scan = s.scan := rfl
@[simp] theorem setFld2_boot (s : State) (l h : Loc) (v : Nat) : (s.setFld2 l h v).boot = s.boot := rfl
@[simp] theorem setFld2_jnl (s : State) (l h : Loc) (v : Nat) : (s.setFld2 l h v).jnl = s.jnl := rfl
@[simp] theorem setFld2_sys (s : State) (l h : Loc) (v : Nat) : (s.setFld2 l h v).sys = s.sys := rfl
@[simp] theorem setFld2_part (s : State) (l h : Loc) (v : Nat) : (s.setFld2 l h v).part = s.part := rfl
@[simp] theorem setFld2_fw (s : State) (l h : Loc) (v : Nat) : (s.setFld2 l h v).fw = s.fw := rfl
@[simp] theorem setFld2_safe (s : State) (l h : Loc) (v : Nat) : (s.setFld2 l h v).safe = s.safe := rfl
@[simp] theorem setFld2_cores (s : State) (l h : Loc) (v : Nat) : (s.setFld2 l h v).cores = s.cores := rfl
@[simp] theorem setFld2_out (s : State) (l h : Loc) (v : Nat) : (s.setFld2 l h v).out = s.out := rfl
@[simp] theorem setFld2_lgs (s : State) (l h : Loc) (v : Nat) : (s.setFld2 l h v).lgs = s.lgs := rfl
@[simp] theorem setFld2_chans (s : State) (l h : Loc) (v : Nat) : (s.setFld2 l h v).chans = s.chans := rfl
@[simp] theorem setFld2_clusters (s : State) (l h : Loc) (v : Nat) : (s.setFld2 l h v).clusters = s.clusters := rfl
@[simp] theorem setFld2_dies (s : State) (l h : Loc) (v : Nat) : (s.setFld2 l h v).dies = s.dies := rfl
@[simp] theorem setFld2_regions (s : State) (l h : Loc) (v : Nat) : (s.setFld2 l h v).regions = s.regions := rfl
@[simp] theorem setFld2_ilm (s : State) (l h : Loc) (v : Nat) : (s.setFld2 l h v).ilm = s.ilm := rfl
@[simp] theorem setFld2_axes (s : State) (l h : Loc) (v : Nat) : (s.setFld2 l h v).axes = s.axes := rfl
@[simp] theorem setFld2_engines (s : State) (l h : Loc) (v : Nat) : (s.setFld2 l h v).engines = s.engines := rfl
@[simp] theorem setFld2_slots (s : State) (l h : Loc) (v : Nat) : (s.setFld2 l h v).slots = s.slots := rfl
@[simp] theorem setFld2_seqs (s : State) (l h : Loc) (v : Nat) : (s.setFld2 l h v).seqs = s.seqs := rfl
@[simp] theorem setFld2_recu (s : State) (l h : Loc) (v : Nat) : (s.setFld2 l h v).recu = s.recu := rfl
@[simp] theorem setFld2_cans (s : State) (l h : Loc) (v : Nat) : (s.setFld2 l h v).cans = s.cans := rfl
@[simp] theorem setFld2_cbus (s : State) (l h : Loc) (v : Nat) : (s.setFld2 l h v).cbus = s.cbus := rfl
@[simp] theorem setFld2_sessions (s : State) (l h : Loc) (v : Nat) : (s.setFld2 l h v).sessions = s.sessions := rfl
@[simp] theorem setFld2_secu (s : State) (l h : Loc) (v : Nat) : (s.setFld2 l h v).secu = s.secu := rfl
@[simp] theorem setFld2_links (s : State) (l h : Loc) (v : Nat) : (s.setFld2 l h v).links = s.links := rfl
@[simp] theorem setFld2_copies (s : State) (l h : Loc) (v : Nat) : (s.setFld2 l h v).copies = s.copies := rfl
@[simp] theorem setFld2_outbox (s : State) (l h : Loc) (v : Nat) : (s.setFld2 l h v).outbox = s.outbox := rfl

/-! ### setByte -/

@[simp] theorem setByte_pending (s : State) (a : Nat) (v : Byte) : (s.setByte a v).pending = s.pending := rfl
@[simp] theorem setByte_tbc (s : State) (a : Nat) (v : Byte) : (s.setByte a v).tbc = s.tbc := rfl
@[simp] theorem setByte_regs (s : State) (a : Nat) (v : Byte) : (s.setByte a v).regs = s.regs := rfl
@[simp] theorem setByte_free (s : State) (a : Nat) (v : Byte) : (s.setByte a v).free = s.free := rfl
@[simp] theorem setByte_rdata (s : State) (a : Nat) (v : Byte) : (s.setByte a v).rdata = s.rdata := rfl
@[simp] theorem setByte_time (s : State) (a : Nat) (v : Byte) : (s.setByte a v).time = s.time := rfl
@[simp] theorem setByte_flt (s : State) (a : Nat) (v : Byte) : (s.setByte a v).flt = s.flt := rfl
@[simp] theorem setByte_evl (s : State) (a : Nat) (v : Byte) : (s.setByte a v).evl = s.evl := rfl
@[simp] theorem setByte_vault (s : State) (a : Nat) (v : Byte) : (s.setByte a v).vault = s.vault := rfl
@[simp] theorem setByte_sched (s : State) (a : Nat) (v : Byte) : (s.setByte a v).sched = s.sched := rfl
@[simp] theorem setByte_scan (s : State) (a : Nat) (v : Byte) : (s.setByte a v).scan = s.scan := rfl
@[simp] theorem setByte_boot (s : State) (a : Nat) (v : Byte) : (s.setByte a v).boot = s.boot := rfl
@[simp] theorem setByte_jnl (s : State) (a : Nat) (v : Byte) : (s.setByte a v).jnl = s.jnl := rfl
@[simp] theorem setByte_sys (s : State) (a : Nat) (v : Byte) : (s.setByte a v).sys = s.sys := rfl
@[simp] theorem setByte_part (s : State) (a : Nat) (v : Byte) : (s.setByte a v).part = s.part := rfl
@[simp] theorem setByte_fw (s : State) (a : Nat) (v : Byte) : (s.setByte a v).fw = s.fw := rfl
@[simp] theorem setByte_safe (s : State) (a : Nat) (v : Byte) : (s.setByte a v).safe = s.safe := rfl
@[simp] theorem setByte_cores (s : State) (a : Nat) (v : Byte) : (s.setByte a v).cores = s.cores := rfl
@[simp] theorem setByte_out (s : State) (a : Nat) (v : Byte) : (s.setByte a v).out = s.out := rfl
@[simp] theorem setByte_lgs (s : State) (a : Nat) (v : Byte) : (s.setByte a v).lgs = s.lgs := rfl
@[simp] theorem setByte_chans (s : State) (a : Nat) (v : Byte) : (s.setByte a v).chans = s.chans := rfl
@[simp] theorem setByte_clusters (s : State) (a : Nat) (v : Byte) : (s.setByte a v).clusters = s.clusters := rfl
@[simp] theorem setByte_dies (s : State) (a : Nat) (v : Byte) : (s.setByte a v).dies = s.dies := rfl
@[simp] theorem setByte_regions (s : State) (a : Nat) (v : Byte) : (s.setByte a v).regions = s.regions := rfl
@[simp] theorem setByte_ilm (s : State) (a : Nat) (v : Byte) : (s.setByte a v).ilm = s.ilm := rfl
@[simp] theorem setByte_axes (s : State) (a : Nat) (v : Byte) : (s.setByte a v).axes = s.axes := rfl
@[simp] theorem setByte_engines (s : State) (a : Nat) (v : Byte) : (s.setByte a v).engines = s.engines := rfl
@[simp] theorem setByte_slots (s : State) (a : Nat) (v : Byte) : (s.setByte a v).slots = s.slots := rfl
@[simp] theorem setByte_seqs (s : State) (a : Nat) (v : Byte) : (s.setByte a v).seqs = s.seqs := rfl
@[simp] theorem setByte_recu (s : State) (a : Nat) (v : Byte) : (s.setByte a v).recu = s.recu := rfl
@[simp] theorem setByte_cans (s : State) (a : Nat) (v : Byte) : (s.setByte a v).cans = s.cans := rfl
@[simp] theorem setByte_cbus (s : State) (a : Nat) (v : Byte) : (s.setByte a v).cbus = s.cbus := rfl
@[simp] theorem setByte_sessions (s : State) (a : Nat) (v : Byte) : (s.setByte a v).sessions = s.sessions := rfl
@[simp] theorem setByte_secu (s : State) (a : Nat) (v : Byte) : (s.setByte a v).secu = s.secu := rfl
@[simp] theorem setByte_links (s : State) (a : Nat) (v : Byte) : (s.setByte a v).links = s.links := rfl
@[simp] theorem setByte_copies (s : State) (a : Nat) (v : Byte) : (s.setByte a v).copies = s.copies := rfl
@[simp] theorem setByte_outbox (s : State) (a : Nat) (v : Byte) : (s.setByte a v).outbox = s.outbox := rfl

/-! ### withPending -/

@[simp] theorem withPending_tbc (s : State) (q : List Instr) : (s.withPending q).tbc = s.tbc := rfl
@[simp] theorem withPending_regs (s : State) (q : List Instr) : (s.withPending q).regs = s.regs := rfl
@[simp] theorem withPending_mem (s : State) (q : List Instr) : (s.withPending q).mem = s.mem := rfl
@[simp] theorem withPending_free (s : State) (q : List Instr) : (s.withPending q).free = s.free := rfl
@[simp] theorem withPending_rdata (s : State) (q : List Instr) : (s.withPending q).rdata = s.rdata := rfl
@[simp] theorem withPending_time (s : State) (q : List Instr) : (s.withPending q).time = s.time := rfl
@[simp] theorem withPending_flt (s : State) (q : List Instr) : (s.withPending q).flt = s.flt := rfl
@[simp] theorem withPending_evl (s : State) (q : List Instr) : (s.withPending q).evl = s.evl := rfl
@[simp] theorem withPending_vault (s : State) (q : List Instr) : (s.withPending q).vault = s.vault := rfl
@[simp] theorem withPending_sched (s : State) (q : List Instr) : (s.withPending q).sched = s.sched := rfl
@[simp] theorem withPending_scan (s : State) (q : List Instr) : (s.withPending q).scan = s.scan := rfl
@[simp] theorem withPending_boot (s : State) (q : List Instr) : (s.withPending q).boot = s.boot := rfl
@[simp] theorem withPending_jnl (s : State) (q : List Instr) : (s.withPending q).jnl = s.jnl := rfl
@[simp] theorem withPending_sys (s : State) (q : List Instr) : (s.withPending q).sys = s.sys := rfl
@[simp] theorem withPending_part (s : State) (q : List Instr) : (s.withPending q).part = s.part := rfl
@[simp] theorem withPending_fw (s : State) (q : List Instr) : (s.withPending q).fw = s.fw := rfl
@[simp] theorem withPending_safe (s : State) (q : List Instr) : (s.withPending q).safe = s.safe := rfl
@[simp] theorem withPending_cores (s : State) (q : List Instr) : (s.withPending q).cores = s.cores := rfl
@[simp] theorem withPending_out (s : State) (q : List Instr) : (s.withPending q).out = s.out := rfl
@[simp] theorem withPending_lgs (s : State) (q : List Instr) : (s.withPending q).lgs = s.lgs := rfl
@[simp] theorem withPending_chans (s : State) (q : List Instr) : (s.withPending q).chans = s.chans := rfl
@[simp] theorem withPending_clusters (s : State) (q : List Instr) : (s.withPending q).clusters = s.clusters := rfl
@[simp] theorem withPending_dies (s : State) (q : List Instr) : (s.withPending q).dies = s.dies := rfl
@[simp] theorem withPending_regions (s : State) (q : List Instr) : (s.withPending q).regions = s.regions := rfl
@[simp] theorem withPending_ilm (s : State) (q : List Instr) : (s.withPending q).ilm = s.ilm := rfl
@[simp] theorem withPending_axes (s : State) (q : List Instr) : (s.withPending q).axes = s.axes := rfl
@[simp] theorem withPending_engines (s : State) (q : List Instr) : (s.withPending q).engines = s.engines := rfl
@[simp] theorem withPending_slots (s : State) (q : List Instr) : (s.withPending q).slots = s.slots := rfl
@[simp] theorem withPending_seqs (s : State) (q : List Instr) : (s.withPending q).seqs = s.seqs := rfl
@[simp] theorem withPending_recu (s : State) (q : List Instr) : (s.withPending q).recu = s.recu := rfl
@[simp] theorem withPending_cans (s : State) (q : List Instr) : (s.withPending q).cans = s.cans := rfl
@[simp] theorem withPending_cbus (s : State) (q : List Instr) : (s.withPending q).cbus = s.cbus := rfl
@[simp] theorem withPending_sessions (s : State) (q : List Instr) : (s.withPending q).sessions = s.sessions := rfl
@[simp] theorem withPending_secu (s : State) (q : List Instr) : (s.withPending q).secu = s.secu := rfl
@[simp] theorem withPending_links (s : State) (q : List Instr) : (s.withPending q).links = s.links := rfl
@[simp] theorem withPending_copies (s : State) (q : List Instr) : (s.withPending q).copies = s.copies := rfl
@[simp] theorem withPending_outbox (s : State) (q : List Instr) : (s.withPending q).outbox = s.outbox := rfl

/-! ### emit -/

@[simp] theorem emit_pending (s : State) (m : OutMsg) : (s.emit m).pending = s.pending := rfl
@[simp] theorem emit_tbc (s : State) (m : OutMsg) : (s.emit m).tbc = s.tbc := rfl
@[simp] theorem emit_regs (s : State) (m : OutMsg) : (s.emit m).regs = s.regs := rfl
@[simp] theorem emit_mem (s : State) (m : OutMsg) : (s.emit m).mem = s.mem := rfl
@[simp] theorem emit_free (s : State) (m : OutMsg) : (s.emit m).free = s.free := rfl
@[simp] theorem emit_rdata (s : State) (m : OutMsg) : (s.emit m).rdata = s.rdata := rfl
@[simp] theorem emit_time (s : State) (m : OutMsg) : (s.emit m).time = s.time := rfl
@[simp] theorem emit_flt (s : State) (m : OutMsg) : (s.emit m).flt = s.flt := rfl
@[simp] theorem emit_evl (s : State) (m : OutMsg) : (s.emit m).evl = s.evl := rfl
@[simp] theorem emit_vault (s : State) (m : OutMsg) : (s.emit m).vault = s.vault := rfl
@[simp] theorem emit_sched (s : State) (m : OutMsg) : (s.emit m).sched = s.sched := rfl
@[simp] theorem emit_scan (s : State) (m : OutMsg) : (s.emit m).scan = s.scan := rfl
@[simp] theorem emit_boot (s : State) (m : OutMsg) : (s.emit m).boot = s.boot := rfl
@[simp] theorem emit_jnl (s : State) (m : OutMsg) : (s.emit m).jnl = s.jnl := rfl
@[simp] theorem emit_sys (s : State) (m : OutMsg) : (s.emit m).sys = s.sys := rfl
@[simp] theorem emit_part (s : State) (m : OutMsg) : (s.emit m).part = s.part := rfl
@[simp] theorem emit_fw (s : State) (m : OutMsg) : (s.emit m).fw = s.fw := rfl
@[simp] theorem emit_safe (s : State) (m : OutMsg) : (s.emit m).safe = s.safe := rfl
@[simp] theorem emit_cores (s : State) (m : OutMsg) : (s.emit m).cores = s.cores := rfl
@[simp] theorem emit_out (s : State) (m : OutMsg) : (s.emit m).out = s.out := rfl
@[simp] theorem emit_lgs (s : State) (m : OutMsg) : (s.emit m).lgs = s.lgs := rfl
@[simp] theorem emit_chans (s : State) (m : OutMsg) : (s.emit m).chans = s.chans := rfl
@[simp] theorem emit_clusters (s : State) (m : OutMsg) : (s.emit m).clusters = s.clusters := rfl
@[simp] theorem emit_dies (s : State) (m : OutMsg) : (s.emit m).dies = s.dies := rfl
@[simp] theorem emit_regions (s : State) (m : OutMsg) : (s.emit m).regions = s.regions := rfl
@[simp] theorem emit_ilm (s : State) (m : OutMsg) : (s.emit m).ilm = s.ilm := rfl
@[simp] theorem emit_axes (s : State) (m : OutMsg) : (s.emit m).axes = s.axes := rfl
@[simp] theorem emit_engines (s : State) (m : OutMsg) : (s.emit m).engines = s.engines := rfl
@[simp] theorem emit_slots (s : State) (m : OutMsg) : (s.emit m).slots = s.slots := rfl
@[simp] theorem emit_seqs (s : State) (m : OutMsg) : (s.emit m).seqs = s.seqs := rfl
@[simp] theorem emit_recu (s : State) (m : OutMsg) : (s.emit m).recu = s.recu := rfl
@[simp] theorem emit_cans (s : State) (m : OutMsg) : (s.emit m).cans = s.cans := rfl
@[simp] theorem emit_cbus (s : State) (m : OutMsg) : (s.emit m).cbus = s.cbus := rfl
@[simp] theorem emit_sessions (s : State) (m : OutMsg) : (s.emit m).sessions = s.sessions := rfl
@[simp] theorem emit_secu (s : State) (m : OutMsg) : (s.emit m).secu = s.secu := rfl
@[simp] theorem emit_links (s : State) (m : OutMsg) : (s.emit m).links = s.links := rfl
@[simp] theorem emit_copies (s : State) (m : OutMsg) : (s.emit m).copies = s.copies := rfl

/-! ### clearRange -/

@[simp] theorem clearRange_pending (s : State) (a n : Nat) : (s.clearRange a n).pending = s.pending := rfl
@[simp] theorem clearRange_tbc (s : State) (a n : Nat) : (s.clearRange a n).tbc = s.tbc := rfl
@[simp] theorem clearRange_regs (s : State) (a n : Nat) : (s.clearRange a n).regs = s.regs := rfl
@[simp] theorem clearRange_free (s : State) (a n : Nat) : (s.clearRange a n).free = s.free := rfl
@[simp] theorem clearRange_rdata (s : State) (a n : Nat) : (s.clearRange a n).rdata = s.rdata := rfl
@[simp] theorem clearRange_time (s : State) (a n : Nat) : (s.clearRange a n).time = s.time := rfl
@[simp] theorem clearRange_evl (s : State) (a n : Nat) : (s.clearRange a n).evl = s.evl := rfl
@[simp] theorem clearRange_vault (s : State) (a n : Nat) : (s.clearRange a n).vault = s.vault := rfl
@[simp] theorem clearRange_sched (s : State) (a n : Nat) : (s.clearRange a n).sched = s.sched := rfl
@[simp] theorem clearRange_scan (s : State) (a n : Nat) : (s.clearRange a n).scan = s.scan := rfl
@[simp] theorem clearRange_boot (s : State) (a n : Nat) : (s.clearRange a n).boot = s.boot := rfl
@[simp] theorem clearRange_jnl (s : State) (a n : Nat) : (s.clearRange a n).jnl = s.jnl := rfl
@[simp] theorem clearRange_sys (s : State) (a n : Nat) : (s.clearRange a n).sys = s.sys := rfl
@[simp] theorem clearRange_part (s : State) (a n : Nat) : (s.clearRange a n).part = s.part := rfl
@[simp] theorem clearRange_fw (s : State) (a n : Nat) : (s.clearRange a n).fw = s.fw := rfl
@[simp] theorem clearRange_safe (s : State) (a n : Nat) : (s.clearRange a n).safe = s.safe := rfl
@[simp] theorem clearRange_cores (s : State) (a n : Nat) : (s.clearRange a n).cores = s.cores := rfl
@[simp] theorem clearRange_out (s : State) (a n : Nat) : (s.clearRange a n).out = s.out := rfl
@[simp] theorem clearRange_lgs (s : State) (a n : Nat) : (s.clearRange a n).lgs = s.lgs := rfl
@[simp] theorem clearRange_chans (s : State) (a n : Nat) : (s.clearRange a n).chans = s.chans := rfl
@[simp] theorem clearRange_clusters (s : State) (a n : Nat) : (s.clearRange a n).clusters = s.clusters := rfl
@[simp] theorem clearRange_dies (s : State) (a n : Nat) : (s.clearRange a n).dies = s.dies := rfl
@[simp] theorem clearRange_regions (s : State) (a n : Nat) : (s.clearRange a n).regions = s.regions := rfl
@[simp] theorem clearRange_ilm (s : State) (a n : Nat) : (s.clearRange a n).ilm = s.ilm := rfl
@[simp] theorem clearRange_axes (s : State) (a n : Nat) : (s.clearRange a n).axes = s.axes := rfl
@[simp] theorem clearRange_engines (s : State) (a n : Nat) : (s.clearRange a n).engines = s.engines := rfl
@[simp] theorem clearRange_slots (s : State) (a n : Nat) : (s.clearRange a n).slots = s.slots := rfl
@[simp] theorem clearRange_seqs (s : State) (a n : Nat) : (s.clearRange a n).seqs = s.seqs := rfl
@[simp] theorem clearRange_recu (s : State) (a n : Nat) : (s.clearRange a n).recu = s.recu := rfl
@[simp] theorem clearRange_cans (s : State) (a n : Nat) : (s.clearRange a n).cans = s.cans := rfl
@[simp] theorem clearRange_cbus (s : State) (a n : Nat) : (s.clearRange a n).cbus = s.cbus := rfl
@[simp] theorem clearRange_sessions (s : State) (a n : Nat) : (s.clearRange a n).sessions = s.sessions := rfl
@[simp] theorem clearRange_secu (s : State) (a n : Nat) : (s.clearRange a n).secu = s.secu := rfl
@[simp] theorem clearRange_links (s : State) (a n : Nat) : (s.clearRange a n).links = s.links := rfl
@[simp] theorem clearRange_copies (s : State) (a n : Nat) : (s.clearRange a n).copies = s.copies := rfl
@[simp] theorem clearRange_outbox (s : State) (a n : Nat) : (s.clearRange a n).outbox = s.outbox := rfl

/-! ### setRes -/

@[simp] theorem setRes_pending (s : State) (r : Int) : (s.setRes r).pending = s.pending := rfl
@[simp] theorem setRes_tbc (s : State) (r : Int) : (s.setRes r).tbc = s.tbc := rfl
@[simp] theorem setRes_regs (s : State) (r : Int) : (s.setRes r).regs = s.regs := rfl
@[simp] theorem setRes_mem (s : State) (r : Int) : (s.setRes r).mem = s.mem := rfl
@[simp] theorem setRes_free (s : State) (r : Int) : (s.setRes r).free = s.free := rfl
@[simp] theorem setRes_rdata (s : State) (r : Int) : (s.setRes r).rdata = s.rdata := rfl
@[simp] theorem setRes_flt (s : State) (r : Int) : (s.setRes r).flt = s.flt := rfl
@[simp] theorem setRes_evl (s : State) (r : Int) : (s.setRes r).evl = s.evl := rfl
@[simp] theorem setRes_vault (s : State) (r : Int) : (s.setRes r).vault = s.vault := rfl
@[simp] theorem setRes_sched (s : State) (r : Int) : (s.setRes r).sched = s.sched := rfl
@[simp] theorem setRes_scan (s : State) (r : Int) : (s.setRes r).scan = s.scan := rfl
@[simp] theorem setRes_boot (s : State) (r : Int) : (s.setRes r).boot = s.boot := rfl
@[simp] theorem setRes_jnl (s : State) (r : Int) : (s.setRes r).jnl = s.jnl := rfl
@[simp] theorem setRes_sys (s : State) (r : Int) : (s.setRes r).sys = s.sys := rfl
@[simp] theorem setRes_part (s : State) (r : Int) : (s.setRes r).part = s.part := rfl
@[simp] theorem setRes_fw (s : State) (r : Int) : (s.setRes r).fw = s.fw := rfl
@[simp] theorem setRes_safe (s : State) (r : Int) : (s.setRes r).safe = s.safe := rfl
@[simp] theorem setRes_cores (s : State) (r : Int) : (s.setRes r).cores = s.cores := rfl
@[simp] theorem setRes_out (s : State) (r : Int) : (s.setRes r).out = s.out := rfl
@[simp] theorem setRes_lgs (s : State) (r : Int) : (s.setRes r).lgs = s.lgs := rfl
@[simp] theorem setRes_chans (s : State) (r : Int) : (s.setRes r).chans = s.chans := rfl
@[simp] theorem setRes_clusters (s : State) (r : Int) : (s.setRes r).clusters = s.clusters := rfl
@[simp] theorem setRes_dies (s : State) (r : Int) : (s.setRes r).dies = s.dies := rfl
@[simp] theorem setRes_regions (s : State) (r : Int) : (s.setRes r).regions = s.regions := rfl
@[simp] theorem setRes_ilm (s : State) (r : Int) : (s.setRes r).ilm = s.ilm := rfl
@[simp] theorem setRes_axes (s : State) (r : Int) : (s.setRes r).axes = s.axes := rfl
@[simp] theorem setRes_engines (s : State) (r : Int) : (s.setRes r).engines = s.engines := rfl
@[simp] theorem setRes_slots (s : State) (r : Int) : (s.setRes r).slots = s.slots := rfl
@[simp] theorem setRes_seqs (s : State) (r : Int) : (s.setRes r).seqs = s.seqs := rfl
@[simp] theorem setRes_recu (s : State) (r : Int) : (s.setRes r).recu = s.recu := rfl
@[simp] theorem setRes_cans (s : State) (r : Int) : (s.setRes r).cans = s.cans := rfl
@[simp] theorem setRes_cbus (s : State) (r : Int) : (s.setRes r).cbus = s.cbus := rfl
@[simp] theorem setRes_sessions (s : State) (r : Int) : (s.setRes r).sessions = s.sessions := rfl
@[simp] theorem setRes_secu (s : State) (r : Int) : (s.setRes r).secu = s.secu := rfl
@[simp] theorem setRes_links (s : State) (r : Int) : (s.setRes r).links = s.links := rfl
@[simp] theorem setRes_copies (s : State) (r : Int) : (s.setRes r).copies = s.copies := rfl
@[simp] theorem setRes_outbox (s : State) (r : Int) : (s.setRes r).outbox = s.outbox := rfl

/-! ### modCore -/

@[simp] theorem modCore_pending (s : State) (n : Nat) (f : Core → Core) : (s.modCore n f).pending = s.pending := rfl
@[simp] theorem modCore_tbc (s : State) (n : Nat) (f : Core → Core) : (s.modCore n f).tbc = s.tbc := rfl
@[simp] theorem modCore_regs (s : State) (n : Nat) (f : Core → Core) : (s.modCore n f).regs = s.regs := rfl
@[simp] theorem modCore_mem (s : State) (n : Nat) (f : Core → Core) : (s.modCore n f).mem = s.mem := rfl
@[simp] theorem modCore_free (s : State) (n : Nat) (f : Core → Core) : (s.modCore n f).free = s.free := rfl
@[simp] theorem modCore_rdata (s : State) (n : Nat) (f : Core → Core) : (s.modCore n f).rdata = s.rdata := rfl
@[simp] theorem modCore_time (s : State) (n : Nat) (f : Core → Core) : (s.modCore n f).time = s.time := rfl
@[simp] theorem modCore_flt (s : State) (n : Nat) (f : Core → Core) : (s.modCore n f).flt = s.flt := rfl
@[simp] theorem modCore_evl (s : State) (n : Nat) (f : Core → Core) : (s.modCore n f).evl = s.evl := rfl
@[simp] theorem modCore_vault (s : State) (n : Nat) (f : Core → Core) : (s.modCore n f).vault = s.vault := rfl
@[simp] theorem modCore_sched (s : State) (n : Nat) (f : Core → Core) : (s.modCore n f).sched = s.sched := rfl
@[simp] theorem modCore_scan (s : State) (n : Nat) (f : Core → Core) : (s.modCore n f).scan = s.scan := rfl
@[simp] theorem modCore_boot (s : State) (n : Nat) (f : Core → Core) : (s.modCore n f).boot = s.boot := rfl
@[simp] theorem modCore_jnl (s : State) (n : Nat) (f : Core → Core) : (s.modCore n f).jnl = s.jnl := rfl
@[simp] theorem modCore_sys (s : State) (n : Nat) (f : Core → Core) : (s.modCore n f).sys = s.sys := rfl
@[simp] theorem modCore_part (s : State) (n : Nat) (f : Core → Core) : (s.modCore n f).part = s.part := rfl
@[simp] theorem modCore_fw (s : State) (n : Nat) (f : Core → Core) : (s.modCore n f).fw = s.fw := rfl
@[simp] theorem modCore_safe (s : State) (n : Nat) (f : Core → Core) : (s.modCore n f).safe = s.safe := rfl
@[simp] theorem modCore_out (s : State) (n : Nat) (f : Core → Core) : (s.modCore n f).out = s.out := rfl
@[simp] theorem modCore_lgs (s : State) (n : Nat) (f : Core → Core) : (s.modCore n f).lgs = s.lgs := rfl
@[simp] theorem modCore_chans (s : State) (n : Nat) (f : Core → Core) : (s.modCore n f).chans = s.chans := rfl
@[simp] theorem modCore_clusters (s : State) (n : Nat) (f : Core → Core) : (s.modCore n f).clusters = s.clusters := rfl
@[simp] theorem modCore_dies (s : State) (n : Nat) (f : Core → Core) : (s.modCore n f).dies = s.dies := rfl
@[simp] theorem modCore_regions (s : State) (n : Nat) (f : Core → Core) : (s.modCore n f).regions = s.regions := rfl
@[simp] theorem modCore_ilm (s : State) (n : Nat) (f : Core → Core) : (s.modCore n f).ilm = s.ilm := rfl
@[simp] theorem modCore_axes (s : State) (n : Nat) (f : Core → Core) : (s.modCore n f).axes = s.axes := rfl
@[simp] theorem modCore_engines (s : State) (n : Nat) (f : Core → Core) : (s.modCore n f).engines = s.engines := rfl
@[simp] theorem modCore_slots (s : State) (n : Nat) (f : Core → Core) : (s.modCore n f).slots = s.slots := rfl
@[simp] theorem modCore_seqs (s : State) (n : Nat) (f : Core → Core) : (s.modCore n f).seqs = s.seqs := rfl
@[simp] theorem modCore_recu (s : State) (n : Nat) (f : Core → Core) : (s.modCore n f).recu = s.recu := rfl
@[simp] theorem modCore_cans (s : State) (n : Nat) (f : Core → Core) : (s.modCore n f).cans = s.cans := rfl
@[simp] theorem modCore_cbus (s : State) (n : Nat) (f : Core → Core) : (s.modCore n f).cbus = s.cbus := rfl
@[simp] theorem modCore_sessions (s : State) (n : Nat) (f : Core → Core) : (s.modCore n f).sessions = s.sessions := rfl
@[simp] theorem modCore_secu (s : State) (n : Nat) (f : Core → Core) : (s.modCore n f).secu = s.secu := rfl
@[simp] theorem modCore_links (s : State) (n : Nat) (f : Core → Core) : (s.modCore n f).links = s.links := rfl
@[simp] theorem modCore_copies (s : State) (n : Nat) (f : Core → Core) : (s.modCore n f).copies = s.copies := rfl
@[simp] theorem modCore_outbox (s : State) (n : Nat) (f : Core → Core) : (s.modCore n f).outbox = s.outbox := rfl

/-! ### modSrc -/

@[simp] theorem modSrc_pending (s : State) (n : Nat) (f : FltSrc → FltSrc) : (s.modSrc n f).pending = s.pending := rfl
@[simp] theorem modSrc_tbc (s : State) (n : Nat) (f : FltSrc → FltSrc) : (s.modSrc n f).tbc = s.tbc := rfl
@[simp] theorem modSrc_regs (s : State) (n : Nat) (f : FltSrc → FltSrc) : (s.modSrc n f).regs = s.regs := rfl
@[simp] theorem modSrc_mem (s : State) (n : Nat) (f : FltSrc → FltSrc) : (s.modSrc n f).mem = s.mem := rfl
@[simp] theorem modSrc_free (s : State) (n : Nat) (f : FltSrc → FltSrc) : (s.modSrc n f).free = s.free := rfl
@[simp] theorem modSrc_rdata (s : State) (n : Nat) (f : FltSrc → FltSrc) : (s.modSrc n f).rdata = s.rdata := rfl
@[simp] theorem modSrc_time (s : State) (n : Nat) (f : FltSrc → FltSrc) : (s.modSrc n f).time = s.time := rfl
@[simp] theorem modSrc_evl (s : State) (n : Nat) (f : FltSrc → FltSrc) : (s.modSrc n f).evl = s.evl := rfl
@[simp] theorem modSrc_vault (s : State) (n : Nat) (f : FltSrc → FltSrc) : (s.modSrc n f).vault = s.vault := rfl
@[simp] theorem modSrc_sched (s : State) (n : Nat) (f : FltSrc → FltSrc) : (s.modSrc n f).sched = s.sched := rfl
@[simp] theorem modSrc_scan (s : State) (n : Nat) (f : FltSrc → FltSrc) : (s.modSrc n f).scan = s.scan := rfl
@[simp] theorem modSrc_boot (s : State) (n : Nat) (f : FltSrc → FltSrc) : (s.modSrc n f).boot = s.boot := rfl
@[simp] theorem modSrc_jnl (s : State) (n : Nat) (f : FltSrc → FltSrc) : (s.modSrc n f).jnl = s.jnl := rfl
@[simp] theorem modSrc_sys (s : State) (n : Nat) (f : FltSrc → FltSrc) : (s.modSrc n f).sys = s.sys := rfl
@[simp] theorem modSrc_part (s : State) (n : Nat) (f : FltSrc → FltSrc) : (s.modSrc n f).part = s.part := rfl
@[simp] theorem modSrc_fw (s : State) (n : Nat) (f : FltSrc → FltSrc) : (s.modSrc n f).fw = s.fw := rfl
@[simp] theorem modSrc_safe (s : State) (n : Nat) (f : FltSrc → FltSrc) : (s.modSrc n f).safe = s.safe := rfl
@[simp] theorem modSrc_cores (s : State) (n : Nat) (f : FltSrc → FltSrc) : (s.modSrc n f).cores = s.cores := rfl
@[simp] theorem modSrc_out (s : State) (n : Nat) (f : FltSrc → FltSrc) : (s.modSrc n f).out = s.out := rfl
@[simp] theorem modSrc_lgs (s : State) (n : Nat) (f : FltSrc → FltSrc) : (s.modSrc n f).lgs = s.lgs := rfl
@[simp] theorem modSrc_chans (s : State) (n : Nat) (f : FltSrc → FltSrc) : (s.modSrc n f).chans = s.chans := rfl
@[simp] theorem modSrc_clusters (s : State) (n : Nat) (f : FltSrc → FltSrc) : (s.modSrc n f).clusters = s.clusters := rfl
@[simp] theorem modSrc_dies (s : State) (n : Nat) (f : FltSrc → FltSrc) : (s.modSrc n f).dies = s.dies := rfl
@[simp] theorem modSrc_regions (s : State) (n : Nat) (f : FltSrc → FltSrc) : (s.modSrc n f).regions = s.regions := rfl
@[simp] theorem modSrc_ilm (s : State) (n : Nat) (f : FltSrc → FltSrc) : (s.modSrc n f).ilm = s.ilm := rfl
@[simp] theorem modSrc_axes (s : State) (n : Nat) (f : FltSrc → FltSrc) : (s.modSrc n f).axes = s.axes := rfl
@[simp] theorem modSrc_engines (s : State) (n : Nat) (f : FltSrc → FltSrc) : (s.modSrc n f).engines = s.engines := rfl
@[simp] theorem modSrc_slots (s : State) (n : Nat) (f : FltSrc → FltSrc) : (s.modSrc n f).slots = s.slots := rfl
@[simp] theorem modSrc_seqs (s : State) (n : Nat) (f : FltSrc → FltSrc) : (s.modSrc n f).seqs = s.seqs := rfl
@[simp] theorem modSrc_recu (s : State) (n : Nat) (f : FltSrc → FltSrc) : (s.modSrc n f).recu = s.recu := rfl
@[simp] theorem modSrc_cans (s : State) (n : Nat) (f : FltSrc → FltSrc) : (s.modSrc n f).cans = s.cans := rfl
@[simp] theorem modSrc_cbus (s : State) (n : Nat) (f : FltSrc → FltSrc) : (s.modSrc n f).cbus = s.cbus := rfl
@[simp] theorem modSrc_sessions (s : State) (n : Nat) (f : FltSrc → FltSrc) : (s.modSrc n f).sessions = s.sessions := rfl
@[simp] theorem modSrc_secu (s : State) (n : Nat) (f : FltSrc → FltSrc) : (s.modSrc n f).secu = s.secu := rfl
@[simp] theorem modSrc_links (s : State) (n : Nat) (f : FltSrc → FltSrc) : (s.modSrc n f).links = s.links := rfl
@[simp] theorem modSrc_copies (s : State) (n : Nat) (f : FltSrc → FltSrc) : (s.modSrc n f).copies = s.copies := rfl
@[simp] theorem modSrc_outbox (s : State) (n : Nat) (f : FltSrc → FltSrc) : (s.modSrc n f).outbox = s.outbox := rfl

/-! ### modChan -/

@[simp] theorem modChan_pending (s : State) (n : Nat) (f : Chan → Chan) : (s.modChan n f).pending = s.pending := rfl
@[simp] theorem modChan_tbc (s : State) (n : Nat) (f : Chan → Chan) : (s.modChan n f).tbc = s.tbc := rfl
@[simp] theorem modChan_regs (s : State) (n : Nat) (f : Chan → Chan) : (s.modChan n f).regs = s.regs := rfl
@[simp] theorem modChan_mem (s : State) (n : Nat) (f : Chan → Chan) : (s.modChan n f).mem = s.mem := rfl
@[simp] theorem modChan_free (s : State) (n : Nat) (f : Chan → Chan) : (s.modChan n f).free = s.free := rfl
@[simp] theorem modChan_rdata (s : State) (n : Nat) (f : Chan → Chan) : (s.modChan n f).rdata = s.rdata := rfl
@[simp] theorem modChan_time (s : State) (n : Nat) (f : Chan → Chan) : (s.modChan n f).time = s.time := rfl
@[simp] theorem modChan_flt (s : State) (n : Nat) (f : Chan → Chan) : (s.modChan n f).flt = s.flt := rfl
@[simp] theorem modChan_evl (s : State) (n : Nat) (f : Chan → Chan) : (s.modChan n f).evl = s.evl := rfl
@[simp] theorem modChan_vault (s : State) (n : Nat) (f : Chan → Chan) : (s.modChan n f).vault = s.vault := rfl
@[simp] theorem modChan_sched (s : State) (n : Nat) (f : Chan → Chan) : (s.modChan n f).sched = s.sched := rfl
@[simp] theorem modChan_scan (s : State) (n : Nat) (f : Chan → Chan) : (s.modChan n f).scan = s.scan := rfl
@[simp] theorem modChan_boot (s : State) (n : Nat) (f : Chan → Chan) : (s.modChan n f).boot = s.boot := rfl
@[simp] theorem modChan_jnl (s : State) (n : Nat) (f : Chan → Chan) : (s.modChan n f).jnl = s.jnl := rfl
@[simp] theorem modChan_sys (s : State) (n : Nat) (f : Chan → Chan) : (s.modChan n f).sys = s.sys := rfl
@[simp] theorem modChan_part (s : State) (n : Nat) (f : Chan → Chan) : (s.modChan n f).part = s.part := rfl
@[simp] theorem modChan_fw (s : State) (n : Nat) (f : Chan → Chan) : (s.modChan n f).fw = s.fw := rfl
@[simp] theorem modChan_safe (s : State) (n : Nat) (f : Chan → Chan) : (s.modChan n f).safe = s.safe := rfl
@[simp] theorem modChan_cores (s : State) (n : Nat) (f : Chan → Chan) : (s.modChan n f).cores = s.cores := rfl
@[simp] theorem modChan_out (s : State) (n : Nat) (f : Chan → Chan) : (s.modChan n f).out = s.out := rfl
@[simp] theorem modChan_lgs (s : State) (n : Nat) (f : Chan → Chan) : (s.modChan n f).lgs = s.lgs := rfl
@[simp] theorem modChan_clusters (s : State) (n : Nat) (f : Chan → Chan) : (s.modChan n f).clusters = s.clusters := rfl
@[simp] theorem modChan_dies (s : State) (n : Nat) (f : Chan → Chan) : (s.modChan n f).dies = s.dies := rfl
@[simp] theorem modChan_regions (s : State) (n : Nat) (f : Chan → Chan) : (s.modChan n f).regions = s.regions := rfl
@[simp] theorem modChan_ilm (s : State) (n : Nat) (f : Chan → Chan) : (s.modChan n f).ilm = s.ilm := rfl
@[simp] theorem modChan_axes (s : State) (n : Nat) (f : Chan → Chan) : (s.modChan n f).axes = s.axes := rfl
@[simp] theorem modChan_engines (s : State) (n : Nat) (f : Chan → Chan) : (s.modChan n f).engines = s.engines := rfl
@[simp] theorem modChan_slots (s : State) (n : Nat) (f : Chan → Chan) : (s.modChan n f).slots = s.slots := rfl
@[simp] theorem modChan_seqs (s : State) (n : Nat) (f : Chan → Chan) : (s.modChan n f).seqs = s.seqs := rfl
@[simp] theorem modChan_recu (s : State) (n : Nat) (f : Chan → Chan) : (s.modChan n f).recu = s.recu := rfl
@[simp] theorem modChan_cans (s : State) (n : Nat) (f : Chan → Chan) : (s.modChan n f).cans = s.cans := rfl
@[simp] theorem modChan_cbus (s : State) (n : Nat) (f : Chan → Chan) : (s.modChan n f).cbus = s.cbus := rfl
@[simp] theorem modChan_sessions (s : State) (n : Nat) (f : Chan → Chan) : (s.modChan n f).sessions = s.sessions := rfl
@[simp] theorem modChan_secu (s : State) (n : Nat) (f : Chan → Chan) : (s.modChan n f).secu = s.secu := rfl
@[simp] theorem modChan_links (s : State) (n : Nat) (f : Chan → Chan) : (s.modChan n f).links = s.links := rfl
@[simp] theorem modChan_copies (s : State) (n : Nat) (f : Chan → Chan) : (s.modChan n f).copies = s.copies := rfl
@[simp] theorem modChan_outbox (s : State) (n : Nat) (f : Chan → Chan) : (s.modChan n f).outbox = s.outbox := rfl

/-! ### modCluster -/

@[simp] theorem modCluster_pending (s : State) (n : Nat) (f : Cluster → Cluster) : (s.modCluster n f).pending = s.pending := rfl
@[simp] theorem modCluster_tbc (s : State) (n : Nat) (f : Cluster → Cluster) : (s.modCluster n f).tbc = s.tbc := rfl
@[simp] theorem modCluster_regs (s : State) (n : Nat) (f : Cluster → Cluster) : (s.modCluster n f).regs = s.regs := rfl
@[simp] theorem modCluster_mem (s : State) (n : Nat) (f : Cluster → Cluster) : (s.modCluster n f).mem = s.mem := rfl
@[simp] theorem modCluster_free (s : State) (n : Nat) (f : Cluster → Cluster) : (s.modCluster n f).free = s.free := rfl
@[simp] theorem modCluster_rdata (s : State) (n : Nat) (f : Cluster → Cluster) : (s.modCluster n f).rdata = s.rdata := rfl
@[simp] theorem modCluster_time (s : State) (n : Nat) (f : Cluster → Cluster) : (s.modCluster n f).time = s.time := rfl
@[simp] theorem modCluster_flt (s : State) (n : Nat) (f : Cluster → Cluster) : (s.modCluster n f).flt = s.flt := rfl
@[simp] theorem modCluster_evl (s : State) (n : Nat) (f : Cluster → Cluster) : (s.modCluster n f).evl = s.evl := rfl
@[simp] theorem modCluster_vault (s : State) (n : Nat) (f : Cluster → Cluster) : (s.modCluster n f).vault = s.vault := rfl
@[simp] theorem modCluster_sched (s : State) (n : Nat) (f : Cluster → Cluster) : (s.modCluster n f).sched = s.sched := rfl
@[simp] theorem modCluster_scan (s : State) (n : Nat) (f : Cluster → Cluster) : (s.modCluster n f).scan = s.scan := rfl
@[simp] theorem modCluster_boot (s : State) (n : Nat) (f : Cluster → Cluster) : (s.modCluster n f).boot = s.boot := rfl
@[simp] theorem modCluster_jnl (s : State) (n : Nat) (f : Cluster → Cluster) : (s.modCluster n f).jnl = s.jnl := rfl
@[simp] theorem modCluster_sys (s : State) (n : Nat) (f : Cluster → Cluster) : (s.modCluster n f).sys = s.sys := rfl
@[simp] theorem modCluster_part (s : State) (n : Nat) (f : Cluster → Cluster) : (s.modCluster n f).part = s.part := rfl
@[simp] theorem modCluster_fw (s : State) (n : Nat) (f : Cluster → Cluster) : (s.modCluster n f).fw = s.fw := rfl
@[simp] theorem modCluster_safe (s : State) (n : Nat) (f : Cluster → Cluster) : (s.modCluster n f).safe = s.safe := rfl
@[simp] theorem modCluster_cores (s : State) (n : Nat) (f : Cluster → Cluster) : (s.modCluster n f).cores = s.cores := rfl
@[simp] theorem modCluster_out (s : State) (n : Nat) (f : Cluster → Cluster) : (s.modCluster n f).out = s.out := rfl
@[simp] theorem modCluster_lgs (s : State) (n : Nat) (f : Cluster → Cluster) : (s.modCluster n f).lgs = s.lgs := rfl
@[simp] theorem modCluster_chans (s : State) (n : Nat) (f : Cluster → Cluster) : (s.modCluster n f).chans = s.chans := rfl
@[simp] theorem modCluster_dies (s : State) (n : Nat) (f : Cluster → Cluster) : (s.modCluster n f).dies = s.dies := rfl
@[simp] theorem modCluster_regions (s : State) (n : Nat) (f : Cluster → Cluster) : (s.modCluster n f).regions = s.regions := rfl
@[simp] theorem modCluster_ilm (s : State) (n : Nat) (f : Cluster → Cluster) : (s.modCluster n f).ilm = s.ilm := rfl
@[simp] theorem modCluster_axes (s : State) (n : Nat) (f : Cluster → Cluster) : (s.modCluster n f).axes = s.axes := rfl
@[simp] theorem modCluster_engines (s : State) (n : Nat) (f : Cluster → Cluster) : (s.modCluster n f).engines = s.engines := rfl
@[simp] theorem modCluster_slots (s : State) (n : Nat) (f : Cluster → Cluster) : (s.modCluster n f).slots = s.slots := rfl
@[simp] theorem modCluster_seqs (s : State) (n : Nat) (f : Cluster → Cluster) : (s.modCluster n f).seqs = s.seqs := rfl
@[simp] theorem modCluster_recu (s : State) (n : Nat) (f : Cluster → Cluster) : (s.modCluster n f).recu = s.recu := rfl
@[simp] theorem modCluster_cans (s : State) (n : Nat) (f : Cluster → Cluster) : (s.modCluster n f).cans = s.cans := rfl
@[simp] theorem modCluster_cbus (s : State) (n : Nat) (f : Cluster → Cluster) : (s.modCluster n f).cbus = s.cbus := rfl
@[simp] theorem modCluster_sessions (s : State) (n : Nat) (f : Cluster → Cluster) : (s.modCluster n f).sessions = s.sessions := rfl
@[simp] theorem modCluster_secu (s : State) (n : Nat) (f : Cluster → Cluster) : (s.modCluster n f).secu = s.secu := rfl
@[simp] theorem modCluster_links (s : State) (n : Nat) (f : Cluster → Cluster) : (s.modCluster n f).links = s.links := rfl
@[simp] theorem modCluster_copies (s : State) (n : Nat) (f : Cluster → Cluster) : (s.modCluster n f).copies = s.copies := rfl
@[simp] theorem modCluster_outbox (s : State) (n : Nat) (f : Cluster → Cluster) : (s.modCluster n f).outbox = s.outbox := rfl

/-! ### modDie -/

@[simp] theorem modDie_pending (s : State) (n : Nat) (f : Die → Die) : (s.modDie n f).pending = s.pending := rfl
@[simp] theorem modDie_tbc (s : State) (n : Nat) (f : Die → Die) : (s.modDie n f).tbc = s.tbc := rfl
@[simp] theorem modDie_regs (s : State) (n : Nat) (f : Die → Die) : (s.modDie n f).regs = s.regs := rfl
@[simp] theorem modDie_mem (s : State) (n : Nat) (f : Die → Die) : (s.modDie n f).mem = s.mem := rfl
@[simp] theorem modDie_free (s : State) (n : Nat) (f : Die → Die) : (s.modDie n f).free = s.free := rfl
@[simp] theorem modDie_rdata (s : State) (n : Nat) (f : Die → Die) : (s.modDie n f).rdata = s.rdata := rfl
@[simp] theorem modDie_time (s : State) (n : Nat) (f : Die → Die) : (s.modDie n f).time = s.time := rfl
@[simp] theorem modDie_flt (s : State) (n : Nat) (f : Die → Die) : (s.modDie n f).flt = s.flt := rfl
@[simp] theorem modDie_evl (s : State) (n : Nat) (f : Die → Die) : (s.modDie n f).evl = s.evl := rfl
@[simp] theorem modDie_vault (s : State) (n : Nat) (f : Die → Die) : (s.modDie n f).vault = s.vault := rfl
@[simp] theorem modDie_sched (s : State) (n : Nat) (f : Die → Die) : (s.modDie n f).sched = s.sched := rfl
@[simp] theorem modDie_scan (s : State) (n : Nat) (f : Die → Die) : (s.modDie n f).scan = s.scan := rfl
@[simp] theorem modDie_boot (s : State) (n : Nat) (f : Die → Die) : (s.modDie n f).boot = s.boot := rfl
@[simp] theorem modDie_jnl (s : State) (n : Nat) (f : Die → Die) : (s.modDie n f).jnl = s.jnl := rfl
@[simp] theorem modDie_sys (s : State) (n : Nat) (f : Die → Die) : (s.modDie n f).sys = s.sys := rfl
@[simp] theorem modDie_part (s : State) (n : Nat) (f : Die → Die) : (s.modDie n f).part = s.part := rfl
@[simp] theorem modDie_fw (s : State) (n : Nat) (f : Die → Die) : (s.modDie n f).fw = s.fw := rfl
@[simp] theorem modDie_safe (s : State) (n : Nat) (f : Die → Die) : (s.modDie n f).safe = s.safe := rfl
@[simp] theorem modDie_cores (s : State) (n : Nat) (f : Die → Die) : (s.modDie n f).cores = s.cores := rfl
@[simp] theorem modDie_out (s : State) (n : Nat) (f : Die → Die) : (s.modDie n f).out = s.out := rfl
@[simp] theorem modDie_lgs (s : State) (n : Nat) (f : Die → Die) : (s.modDie n f).lgs = s.lgs := rfl
@[simp] theorem modDie_chans (s : State) (n : Nat) (f : Die → Die) : (s.modDie n f).chans = s.chans := rfl
@[simp] theorem modDie_clusters (s : State) (n : Nat) (f : Die → Die) : (s.modDie n f).clusters = s.clusters := rfl
@[simp] theorem modDie_regions (s : State) (n : Nat) (f : Die → Die) : (s.modDie n f).regions = s.regions := rfl
@[simp] theorem modDie_ilm (s : State) (n : Nat) (f : Die → Die) : (s.modDie n f).ilm = s.ilm := rfl
@[simp] theorem modDie_axes (s : State) (n : Nat) (f : Die → Die) : (s.modDie n f).axes = s.axes := rfl
@[simp] theorem modDie_engines (s : State) (n : Nat) (f : Die → Die) : (s.modDie n f).engines = s.engines := rfl
@[simp] theorem modDie_slots (s : State) (n : Nat) (f : Die → Die) : (s.modDie n f).slots = s.slots := rfl
@[simp] theorem modDie_seqs (s : State) (n : Nat) (f : Die → Die) : (s.modDie n f).seqs = s.seqs := rfl
@[simp] theorem modDie_recu (s : State) (n : Nat) (f : Die → Die) : (s.modDie n f).recu = s.recu := rfl
@[simp] theorem modDie_cans (s : State) (n : Nat) (f : Die → Die) : (s.modDie n f).cans = s.cans := rfl
@[simp] theorem modDie_cbus (s : State) (n : Nat) (f : Die → Die) : (s.modDie n f).cbus = s.cbus := rfl
@[simp] theorem modDie_sessions (s : State) (n : Nat) (f : Die → Die) : (s.modDie n f).sessions = s.sessions := rfl
@[simp] theorem modDie_secu (s : State) (n : Nat) (f : Die → Die) : (s.modDie n f).secu = s.secu := rfl
@[simp] theorem modDie_links (s : State) (n : Nat) (f : Die → Die) : (s.modDie n f).links = s.links := rfl
@[simp] theorem modDie_copies (s : State) (n : Nat) (f : Die → Die) : (s.modDie n f).copies = s.copies := rfl
@[simp] theorem modDie_outbox (s : State) (n : Nat) (f : Die → Die) : (s.modDie n f).outbox = s.outbox := rfl

/-! ### modRegion -/

@[simp] theorem modRegion_pending (s : State) (n : Nat) (f : RegionU → RegionU) : (s.modRegion n f).pending = s.pending := rfl
@[simp] theorem modRegion_tbc (s : State) (n : Nat) (f : RegionU → RegionU) : (s.modRegion n f).tbc = s.tbc := rfl
@[simp] theorem modRegion_regs (s : State) (n : Nat) (f : RegionU → RegionU) : (s.modRegion n f).regs = s.regs := rfl
@[simp] theorem modRegion_mem (s : State) (n : Nat) (f : RegionU → RegionU) : (s.modRegion n f).mem = s.mem := rfl
@[simp] theorem modRegion_free (s : State) (n : Nat) (f : RegionU → RegionU) : (s.modRegion n f).free = s.free := rfl
@[simp] theorem modRegion_rdata (s : State) (n : Nat) (f : RegionU → RegionU) : (s.modRegion n f).rdata = s.rdata := rfl
@[simp] theorem modRegion_time (s : State) (n : Nat) (f : RegionU → RegionU) : (s.modRegion n f).time = s.time := rfl
@[simp] theorem modRegion_flt (s : State) (n : Nat) (f : RegionU → RegionU) : (s.modRegion n f).flt = s.flt := rfl
@[simp] theorem modRegion_evl (s : State) (n : Nat) (f : RegionU → RegionU) : (s.modRegion n f).evl = s.evl := rfl
@[simp] theorem modRegion_vault (s : State) (n : Nat) (f : RegionU → RegionU) : (s.modRegion n f).vault = s.vault := rfl
@[simp] theorem modRegion_sched (s : State) (n : Nat) (f : RegionU → RegionU) : (s.modRegion n f).sched = s.sched := rfl
@[simp] theorem modRegion_scan (s : State) (n : Nat) (f : RegionU → RegionU) : (s.modRegion n f).scan = s.scan := rfl
@[simp] theorem modRegion_boot (s : State) (n : Nat) (f : RegionU → RegionU) : (s.modRegion n f).boot = s.boot := rfl
@[simp] theorem modRegion_jnl (s : State) (n : Nat) (f : RegionU → RegionU) : (s.modRegion n f).jnl = s.jnl := rfl
@[simp] theorem modRegion_sys (s : State) (n : Nat) (f : RegionU → RegionU) : (s.modRegion n f).sys = s.sys := rfl
@[simp] theorem modRegion_part (s : State) (n : Nat) (f : RegionU → RegionU) : (s.modRegion n f).part = s.part := rfl
@[simp] theorem modRegion_fw (s : State) (n : Nat) (f : RegionU → RegionU) : (s.modRegion n f).fw = s.fw := rfl
@[simp] theorem modRegion_safe (s : State) (n : Nat) (f : RegionU → RegionU) : (s.modRegion n f).safe = s.safe := rfl
@[simp] theorem modRegion_cores (s : State) (n : Nat) (f : RegionU → RegionU) : (s.modRegion n f).cores = s.cores := rfl
@[simp] theorem modRegion_out (s : State) (n : Nat) (f : RegionU → RegionU) : (s.modRegion n f).out = s.out := rfl
@[simp] theorem modRegion_lgs (s : State) (n : Nat) (f : RegionU → RegionU) : (s.modRegion n f).lgs = s.lgs := rfl
@[simp] theorem modRegion_chans (s : State) (n : Nat) (f : RegionU → RegionU) : (s.modRegion n f).chans = s.chans := rfl
@[simp] theorem modRegion_clusters (s : State) (n : Nat) (f : RegionU → RegionU) : (s.modRegion n f).clusters = s.clusters := rfl
@[simp] theorem modRegion_dies (s : State) (n : Nat) (f : RegionU → RegionU) : (s.modRegion n f).dies = s.dies := rfl
@[simp] theorem modRegion_ilm (s : State) (n : Nat) (f : RegionU → RegionU) : (s.modRegion n f).ilm = s.ilm := rfl
@[simp] theorem modRegion_axes (s : State) (n : Nat) (f : RegionU → RegionU) : (s.modRegion n f).axes = s.axes := rfl
@[simp] theorem modRegion_engines (s : State) (n : Nat) (f : RegionU → RegionU) : (s.modRegion n f).engines = s.engines := rfl
@[simp] theorem modRegion_slots (s : State) (n : Nat) (f : RegionU → RegionU) : (s.modRegion n f).slots = s.slots := rfl
@[simp] theorem modRegion_seqs (s : State) (n : Nat) (f : RegionU → RegionU) : (s.modRegion n f).seqs = s.seqs := rfl
@[simp] theorem modRegion_recu (s : State) (n : Nat) (f : RegionU → RegionU) : (s.modRegion n f).recu = s.recu := rfl
@[simp] theorem modRegion_cans (s : State) (n : Nat) (f : RegionU → RegionU) : (s.modRegion n f).cans = s.cans := rfl
@[simp] theorem modRegion_cbus (s : State) (n : Nat) (f : RegionU → RegionU) : (s.modRegion n f).cbus = s.cbus := rfl
@[simp] theorem modRegion_sessions (s : State) (n : Nat) (f : RegionU → RegionU) : (s.modRegion n f).sessions = s.sessions := rfl
@[simp] theorem modRegion_secu (s : State) (n : Nat) (f : RegionU → RegionU) : (s.modRegion n f).secu = s.secu := rfl
@[simp] theorem modRegion_links (s : State) (n : Nat) (f : RegionU → RegionU) : (s.modRegion n f).links = s.links := rfl
@[simp] theorem modRegion_copies (s : State) (n : Nat) (f : RegionU → RegionU) : (s.modRegion n f).copies = s.copies := rfl
@[simp] theorem modRegion_outbox (s : State) (n : Nat) (f : RegionU → RegionU) : (s.modRegion n f).outbox = s.outbox := rfl

/-! ### modLg -/

@[simp] theorem modLg_pending (s : State) (n : Nat) (f : LockGrp → LockGrp) : (s.modLg n f).pending = s.pending := rfl
@[simp] theorem modLg_tbc (s : State) (n : Nat) (f : LockGrp → LockGrp) : (s.modLg n f).tbc = s.tbc := rfl
@[simp] theorem modLg_regs (s : State) (n : Nat) (f : LockGrp → LockGrp) : (s.modLg n f).regs = s.regs := rfl
@[simp] theorem modLg_mem (s : State) (n : Nat) (f : LockGrp → LockGrp) : (s.modLg n f).mem = s.mem := rfl
@[simp] theorem modLg_free (s : State) (n : Nat) (f : LockGrp → LockGrp) : (s.modLg n f).free = s.free := rfl
@[simp] theorem modLg_rdata (s : State) (n : Nat) (f : LockGrp → LockGrp) : (s.modLg n f).rdata = s.rdata := rfl
@[simp] theorem modLg_time (s : State) (n : Nat) (f : LockGrp → LockGrp) : (s.modLg n f).time = s.time := rfl
@[simp] theorem modLg_flt (s : State) (n : Nat) (f : LockGrp → LockGrp) : (s.modLg n f).flt = s.flt := rfl
@[simp] theorem modLg_evl (s : State) (n : Nat) (f : LockGrp → LockGrp) : (s.modLg n f).evl = s.evl := rfl
@[simp] theorem modLg_vault (s : State) (n : Nat) (f : LockGrp → LockGrp) : (s.modLg n f).vault = s.vault := rfl
@[simp] theorem modLg_sched (s : State) (n : Nat) (f : LockGrp → LockGrp) : (s.modLg n f).sched = s.sched := rfl
@[simp] theorem modLg_scan (s : State) (n : Nat) (f : LockGrp → LockGrp) : (s.modLg n f).scan = s.scan := rfl
@[simp] theorem modLg_boot (s : State) (n : Nat) (f : LockGrp → LockGrp) : (s.modLg n f).boot = s.boot := rfl
@[simp] theorem modLg_jnl (s : State) (n : Nat) (f : LockGrp → LockGrp) : (s.modLg n f).jnl = s.jnl := rfl
@[simp] theorem modLg_sys (s : State) (n : Nat) (f : LockGrp → LockGrp) : (s.modLg n f).sys = s.sys := rfl
@[simp] theorem modLg_part (s : State) (n : Nat) (f : LockGrp → LockGrp) : (s.modLg n f).part = s.part := rfl
@[simp] theorem modLg_fw (s : State) (n : Nat) (f : LockGrp → LockGrp) : (s.modLg n f).fw = s.fw := rfl
@[simp] theorem modLg_safe (s : State) (n : Nat) (f : LockGrp → LockGrp) : (s.modLg n f).safe = s.safe := rfl
@[simp] theorem modLg_cores (s : State) (n : Nat) (f : LockGrp → LockGrp) : (s.modLg n f).cores = s.cores := rfl
@[simp] theorem modLg_out (s : State) (n : Nat) (f : LockGrp → LockGrp) : (s.modLg n f).out = s.out := rfl
@[simp] theorem modLg_chans (s : State) (n : Nat) (f : LockGrp → LockGrp) : (s.modLg n f).chans = s.chans := rfl
@[simp] theorem modLg_clusters (s : State) (n : Nat) (f : LockGrp → LockGrp) : (s.modLg n f).clusters = s.clusters := rfl
@[simp] theorem modLg_dies (s : State) (n : Nat) (f : LockGrp → LockGrp) : (s.modLg n f).dies = s.dies := rfl
@[simp] theorem modLg_regions (s : State) (n : Nat) (f : LockGrp → LockGrp) : (s.modLg n f).regions = s.regions := rfl
@[simp] theorem modLg_ilm (s : State) (n : Nat) (f : LockGrp → LockGrp) : (s.modLg n f).ilm = s.ilm := rfl
@[simp] theorem modLg_axes (s : State) (n : Nat) (f : LockGrp → LockGrp) : (s.modLg n f).axes = s.axes := rfl
@[simp] theorem modLg_engines (s : State) (n : Nat) (f : LockGrp → LockGrp) : (s.modLg n f).engines = s.engines := rfl
@[simp] theorem modLg_slots (s : State) (n : Nat) (f : LockGrp → LockGrp) : (s.modLg n f).slots = s.slots := rfl
@[simp] theorem modLg_seqs (s : State) (n : Nat) (f : LockGrp → LockGrp) : (s.modLg n f).seqs = s.seqs := rfl
@[simp] theorem modLg_recu (s : State) (n : Nat) (f : LockGrp → LockGrp) : (s.modLg n f).recu = s.recu := rfl
@[simp] theorem modLg_cans (s : State) (n : Nat) (f : LockGrp → LockGrp) : (s.modLg n f).cans = s.cans := rfl
@[simp] theorem modLg_cbus (s : State) (n : Nat) (f : LockGrp → LockGrp) : (s.modLg n f).cbus = s.cbus := rfl
@[simp] theorem modLg_sessions (s : State) (n : Nat) (f : LockGrp → LockGrp) : (s.modLg n f).sessions = s.sessions := rfl
@[simp] theorem modLg_secu (s : State) (n : Nat) (f : LockGrp → LockGrp) : (s.modLg n f).secu = s.secu := rfl
@[simp] theorem modLg_links (s : State) (n : Nat) (f : LockGrp → LockGrp) : (s.modLg n f).links = s.links := rfl
@[simp] theorem modLg_copies (s : State) (n : Nat) (f : LockGrp → LockGrp) : (s.modLg n f).copies = s.copies := rfl
@[simp] theorem modLg_outbox (s : State) (n : Nat) (f : LockGrp → LockGrp) : (s.modLg n f).outbox = s.outbox := rfl

/-! ### modAxis -/

@[simp] theorem modAxis_pending (s : State) (n : Nat) (f : Axis → Axis) : (s.modAxis n f).pending = s.pending := rfl
@[simp] theorem modAxis_tbc (s : State) (n : Nat) (f : Axis → Axis) : (s.modAxis n f).tbc = s.tbc := rfl
@[simp] theorem modAxis_regs (s : State) (n : Nat) (f : Axis → Axis) : (s.modAxis n f).regs = s.regs := rfl
@[simp] theorem modAxis_mem (s : State) (n : Nat) (f : Axis → Axis) : (s.modAxis n f).mem = s.mem := rfl
@[simp] theorem modAxis_free (s : State) (n : Nat) (f : Axis → Axis) : (s.modAxis n f).free = s.free := rfl
@[simp] theorem modAxis_rdata (s : State) (n : Nat) (f : Axis → Axis) : (s.modAxis n f).rdata = s.rdata := rfl
@[simp] theorem modAxis_time (s : State) (n : Nat) (f : Axis → Axis) : (s.modAxis n f).time = s.time := rfl
@[simp] theorem modAxis_flt (s : State) (n : Nat) (f : Axis → Axis) : (s.modAxis n f).flt = s.flt := rfl
@[simp] theorem modAxis_evl (s : State) (n : Nat) (f : Axis → Axis) : (s.modAxis n f).evl = s.evl := rfl
@[simp] theorem modAxis_vault (s : State) (n : Nat) (f : Axis → Axis) : (s.modAxis n f).vault = s.vault := rfl
@[simp] theorem modAxis_sched (s : State) (n : Nat) (f : Axis → Axis) : (s.modAxis n f).sched = s.sched := rfl
@[simp] theorem modAxis_scan (s : State) (n : Nat) (f : Axis → Axis) : (s.modAxis n f).scan = s.scan := rfl
@[simp] theorem modAxis_boot (s : State) (n : Nat) (f : Axis → Axis) : (s.modAxis n f).boot = s.boot := rfl
@[simp] theorem modAxis_jnl (s : State) (n : Nat) (f : Axis → Axis) : (s.modAxis n f).jnl = s.jnl := rfl
@[simp] theorem modAxis_sys (s : State) (n : Nat) (f : Axis → Axis) : (s.modAxis n f).sys = s.sys := rfl
@[simp] theorem modAxis_part (s : State) (n : Nat) (f : Axis → Axis) : (s.modAxis n f).part = s.part := rfl
@[simp] theorem modAxis_fw (s : State) (n : Nat) (f : Axis → Axis) : (s.modAxis n f).fw = s.fw := rfl
@[simp] theorem modAxis_safe (s : State) (n : Nat) (f : Axis → Axis) : (s.modAxis n f).safe = s.safe := rfl
@[simp] theorem modAxis_cores (s : State) (n : Nat) (f : Axis → Axis) : (s.modAxis n f).cores = s.cores := rfl
@[simp] theorem modAxis_out (s : State) (n : Nat) (f : Axis → Axis) : (s.modAxis n f).out = s.out := rfl
@[simp] theorem modAxis_lgs (s : State) (n : Nat) (f : Axis → Axis) : (s.modAxis n f).lgs = s.lgs := rfl
@[simp] theorem modAxis_chans (s : State) (n : Nat) (f : Axis → Axis) : (s.modAxis n f).chans = s.chans := rfl
@[simp] theorem modAxis_clusters (s : State) (n : Nat) (f : Axis → Axis) : (s.modAxis n f).clusters = s.clusters := rfl
@[simp] theorem modAxis_dies (s : State) (n : Nat) (f : Axis → Axis) : (s.modAxis n f).dies = s.dies := rfl
@[simp] theorem modAxis_regions (s : State) (n : Nat) (f : Axis → Axis) : (s.modAxis n f).regions = s.regions := rfl
@[simp] theorem modAxis_ilm (s : State) (n : Nat) (f : Axis → Axis) : (s.modAxis n f).ilm = s.ilm := rfl
@[simp] theorem modAxis_engines (s : State) (n : Nat) (f : Axis → Axis) : (s.modAxis n f).engines = s.engines := rfl
@[simp] theorem modAxis_slots (s : State) (n : Nat) (f : Axis → Axis) : (s.modAxis n f).slots = s.slots := rfl
@[simp] theorem modAxis_seqs (s : State) (n : Nat) (f : Axis → Axis) : (s.modAxis n f).seqs = s.seqs := rfl
@[simp] theorem modAxis_recu (s : State) (n : Nat) (f : Axis → Axis) : (s.modAxis n f).recu = s.recu := rfl
@[simp] theorem modAxis_cans (s : State) (n : Nat) (f : Axis → Axis) : (s.modAxis n f).cans = s.cans := rfl
@[simp] theorem modAxis_cbus (s : State) (n : Nat) (f : Axis → Axis) : (s.modAxis n f).cbus = s.cbus := rfl
@[simp] theorem modAxis_sessions (s : State) (n : Nat) (f : Axis → Axis) : (s.modAxis n f).sessions = s.sessions := rfl
@[simp] theorem modAxis_secu (s : State) (n : Nat) (f : Axis → Axis) : (s.modAxis n f).secu = s.secu := rfl
@[simp] theorem modAxis_links (s : State) (n : Nat) (f : Axis → Axis) : (s.modAxis n f).links = s.links := rfl
@[simp] theorem modAxis_copies (s : State) (n : Nat) (f : Axis → Axis) : (s.modAxis n f).copies = s.copies := rfl
@[simp] theorem modAxis_outbox (s : State) (n : Nat) (f : Axis → Axis) : (s.modAxis n f).outbox = s.outbox := rfl

/-! ### modEngine -/

@[simp] theorem modEngine_pending (s : State) (n : Nat) (f : Engine → Engine) : (s.modEngine n f).pending = s.pending := rfl
@[simp] theorem modEngine_tbc (s : State) (n : Nat) (f : Engine → Engine) : (s.modEngine n f).tbc = s.tbc := rfl
@[simp] theorem modEngine_regs (s : State) (n : Nat) (f : Engine → Engine) : (s.modEngine n f).regs = s.regs := rfl
@[simp] theorem modEngine_mem (s : State) (n : Nat) (f : Engine → Engine) : (s.modEngine n f).mem = s.mem := rfl
@[simp] theorem modEngine_free (s : State) (n : Nat) (f : Engine → Engine) : (s.modEngine n f).free = s.free := rfl
@[simp] theorem modEngine_rdata (s : State) (n : Nat) (f : Engine → Engine) : (s.modEngine n f).rdata = s.rdata := rfl
@[simp] theorem modEngine_time (s : State) (n : Nat) (f : Engine → Engine) : (s.modEngine n f).time = s.time := rfl
@[simp] theorem modEngine_flt (s : State) (n : Nat) (f : Engine → Engine) : (s.modEngine n f).flt = s.flt := rfl
@[simp] theorem modEngine_evl (s : State) (n : Nat) (f : Engine → Engine) : (s.modEngine n f).evl = s.evl := rfl
@[simp] theorem modEngine_vault (s : State) (n : Nat) (f : Engine → Engine) : (s.modEngine n f).vault = s.vault := rfl
@[simp] theorem modEngine_sched (s : State) (n : Nat) (f : Engine → Engine) : (s.modEngine n f).sched = s.sched := rfl
@[simp] theorem modEngine_scan (s : State) (n : Nat) (f : Engine → Engine) : (s.modEngine n f).scan = s.scan := rfl
@[simp] theorem modEngine_boot (s : State) (n : Nat) (f : Engine → Engine) : (s.modEngine n f).boot = s.boot := rfl
@[simp] theorem modEngine_jnl (s : State) (n : Nat) (f : Engine → Engine) : (s.modEngine n f).jnl = s.jnl := rfl
@[simp] theorem modEngine_sys (s : State) (n : Nat) (f : Engine → Engine) : (s.modEngine n f).sys = s.sys := rfl
@[simp] theorem modEngine_part (s : State) (n : Nat) (f : Engine → Engine) : (s.modEngine n f).part = s.part := rfl
@[simp] theorem modEngine_fw (s : State) (n : Nat) (f : Engine → Engine) : (s.modEngine n f).fw = s.fw := rfl
@[simp] theorem modEngine_safe (s : State) (n : Nat) (f : Engine → Engine) : (s.modEngine n f).safe = s.safe := rfl
@[simp] theorem modEngine_cores (s : State) (n : Nat) (f : Engine → Engine) : (s.modEngine n f).cores = s.cores := rfl
@[simp] theorem modEngine_out (s : State) (n : Nat) (f : Engine → Engine) : (s.modEngine n f).out = s.out := rfl
@[simp] theorem modEngine_lgs (s : State) (n : Nat) (f : Engine → Engine) : (s.modEngine n f).lgs = s.lgs := rfl
@[simp] theorem modEngine_chans (s : State) (n : Nat) (f : Engine → Engine) : (s.modEngine n f).chans = s.chans := rfl
@[simp] theorem modEngine_clusters (s : State) (n : Nat) (f : Engine → Engine) : (s.modEngine n f).clusters = s.clusters := rfl
@[simp] theorem modEngine_dies (s : State) (n : Nat) (f : Engine → Engine) : (s.modEngine n f).dies = s.dies := rfl
@[simp] theorem modEngine_regions (s : State) (n : Nat) (f : Engine → Engine) : (s.modEngine n f).regions = s.regions := rfl
@[simp] theorem modEngine_ilm (s : State) (n : Nat) (f : Engine → Engine) : (s.modEngine n f).ilm = s.ilm := rfl
@[simp] theorem modEngine_axes (s : State) (n : Nat) (f : Engine → Engine) : (s.modEngine n f).axes = s.axes := rfl
@[simp] theorem modEngine_slots (s : State) (n : Nat) (f : Engine → Engine) : (s.modEngine n f).slots = s.slots := rfl
@[simp] theorem modEngine_seqs (s : State) (n : Nat) (f : Engine → Engine) : (s.modEngine n f).seqs = s.seqs := rfl
@[simp] theorem modEngine_recu (s : State) (n : Nat) (f : Engine → Engine) : (s.modEngine n f).recu = s.recu := rfl
@[simp] theorem modEngine_cans (s : State) (n : Nat) (f : Engine → Engine) : (s.modEngine n f).cans = s.cans := rfl
@[simp] theorem modEngine_cbus (s : State) (n : Nat) (f : Engine → Engine) : (s.modEngine n f).cbus = s.cbus := rfl
@[simp] theorem modEngine_sessions (s : State) (n : Nat) (f : Engine → Engine) : (s.modEngine n f).sessions = s.sessions := rfl
@[simp] theorem modEngine_secu (s : State) (n : Nat) (f : Engine → Engine) : (s.modEngine n f).secu = s.secu := rfl
@[simp] theorem modEngine_links (s : State) (n : Nat) (f : Engine → Engine) : (s.modEngine n f).links = s.links := rfl
@[simp] theorem modEngine_copies (s : State) (n : Nat) (f : Engine → Engine) : (s.modEngine n f).copies = s.copies := rfl
@[simp] theorem modEngine_outbox (s : State) (n : Nat) (f : Engine → Engine) : (s.modEngine n f).outbox = s.outbox := rfl

/-! ### modSlot -/

@[simp] theorem modSlot_pending (s : State) (n : Nat) (f : Slot → Slot) : (s.modSlot n f).pending = s.pending := rfl
@[simp] theorem modSlot_tbc (s : State) (n : Nat) (f : Slot → Slot) : (s.modSlot n f).tbc = s.tbc := rfl
@[simp] theorem modSlot_regs (s : State) (n : Nat) (f : Slot → Slot) : (s.modSlot n f).regs = s.regs := rfl
@[simp] theorem modSlot_mem (s : State) (n : Nat) (f : Slot → Slot) : (s.modSlot n f).mem = s.mem := rfl
@[simp] theorem modSlot_free (s : State) (n : Nat) (f : Slot → Slot) : (s.modSlot n f).free = s.free := rfl
@[simp] theorem modSlot_rdata (s : State) (n : Nat) (f : Slot → Slot) : (s.modSlot n f).rdata = s.rdata := rfl
@[simp] theorem modSlot_time (s : State) (n : Nat) (f : Slot → Slot) : (s.modSlot n f).time = s.time := rfl
@[simp] theorem modSlot_flt (s : State) (n : Nat) (f : Slot → Slot) : (s.modSlot n f).flt = s.flt := rfl
@[simp] theorem modSlot_evl (s : State) (n : Nat) (f : Slot → Slot) : (s.modSlot n f).evl = s.evl := rfl
@[simp] theorem modSlot_vault (s : State) (n : Nat) (f : Slot → Slot) : (s.modSlot n f).vault = s.vault := rfl
@[simp] theorem modSlot_sched (s : State) (n : Nat) (f : Slot → Slot) : (s.modSlot n f).sched = s.sched := rfl
@[simp] theorem modSlot_scan (s : State) (n : Nat) (f : Slot → Slot) : (s.modSlot n f).scan = s.scan := rfl
@[simp] theorem modSlot_boot (s : State) (n : Nat) (f : Slot → Slot) : (s.modSlot n f).boot = s.boot := rfl
@[simp] theorem modSlot_jnl (s : State) (n : Nat) (f : Slot → Slot) : (s.modSlot n f).jnl = s.jnl := rfl
@[simp] theorem modSlot_sys (s : State) (n : Nat) (f : Slot → Slot) : (s.modSlot n f).sys = s.sys := rfl
@[simp] theorem modSlot_part (s : State) (n : Nat) (f : Slot → Slot) : (s.modSlot n f).part = s.part := rfl
@[simp] theorem modSlot_fw (s : State) (n : Nat) (f : Slot → Slot) : (s.modSlot n f).fw = s.fw := rfl
@[simp] theorem modSlot_safe (s : State) (n : Nat) (f : Slot → Slot) : (s.modSlot n f).safe = s.safe := rfl
@[simp] theorem modSlot_cores (s : State) (n : Nat) (f : Slot → Slot) : (s.modSlot n f).cores = s.cores := rfl
@[simp] theorem modSlot_out (s : State) (n : Nat) (f : Slot → Slot) : (s.modSlot n f).out = s.out := rfl
@[simp] theorem modSlot_lgs (s : State) (n : Nat) (f : Slot → Slot) : (s.modSlot n f).lgs = s.lgs := rfl
@[simp] theorem modSlot_chans (s : State) (n : Nat) (f : Slot → Slot) : (s.modSlot n f).chans = s.chans := rfl
@[simp] theorem modSlot_clusters (s : State) (n : Nat) (f : Slot → Slot) : (s.modSlot n f).clusters = s.clusters := rfl
@[simp] theorem modSlot_dies (s : State) (n : Nat) (f : Slot → Slot) : (s.modSlot n f).dies = s.dies := rfl
@[simp] theorem modSlot_regions (s : State) (n : Nat) (f : Slot → Slot) : (s.modSlot n f).regions = s.regions := rfl
@[simp] theorem modSlot_ilm (s : State) (n : Nat) (f : Slot → Slot) : (s.modSlot n f).ilm = s.ilm := rfl
@[simp] theorem modSlot_axes (s : State) (n : Nat) (f : Slot → Slot) : (s.modSlot n f).axes = s.axes := rfl
@[simp] theorem modSlot_engines (s : State) (n : Nat) (f : Slot → Slot) : (s.modSlot n f).engines = s.engines := rfl
@[simp] theorem modSlot_seqs (s : State) (n : Nat) (f : Slot → Slot) : (s.modSlot n f).seqs = s.seqs := rfl
@[simp] theorem modSlot_recu (s : State) (n : Nat) (f : Slot → Slot) : (s.modSlot n f).recu = s.recu := rfl
@[simp] theorem modSlot_cans (s : State) (n : Nat) (f : Slot → Slot) : (s.modSlot n f).cans = s.cans := rfl
@[simp] theorem modSlot_cbus (s : State) (n : Nat) (f : Slot → Slot) : (s.modSlot n f).cbus = s.cbus := rfl
@[simp] theorem modSlot_sessions (s : State) (n : Nat) (f : Slot → Slot) : (s.modSlot n f).sessions = s.sessions := rfl
@[simp] theorem modSlot_secu (s : State) (n : Nat) (f : Slot → Slot) : (s.modSlot n f).secu = s.secu := rfl
@[simp] theorem modSlot_links (s : State) (n : Nat) (f : Slot → Slot) : (s.modSlot n f).links = s.links := rfl
@[simp] theorem modSlot_copies (s : State) (n : Nat) (f : Slot → Slot) : (s.modSlot n f).copies = s.copies := rfl
@[simp] theorem modSlot_outbox (s : State) (n : Nat) (f : Slot → Slot) : (s.modSlot n f).outbox = s.outbox := rfl

/-! ### modSession -/

@[simp] theorem modSession_pending (s : State) (n : Nat) (f : Session → Session) : (s.modSession n f).pending = s.pending := rfl
@[simp] theorem modSession_tbc (s : State) (n : Nat) (f : Session → Session) : (s.modSession n f).tbc = s.tbc := rfl
@[simp] theorem modSession_regs (s : State) (n : Nat) (f : Session → Session) : (s.modSession n f).regs = s.regs := rfl
@[simp] theorem modSession_mem (s : State) (n : Nat) (f : Session → Session) : (s.modSession n f).mem = s.mem := rfl
@[simp] theorem modSession_free (s : State) (n : Nat) (f : Session → Session) : (s.modSession n f).free = s.free := rfl
@[simp] theorem modSession_rdata (s : State) (n : Nat) (f : Session → Session) : (s.modSession n f).rdata = s.rdata := rfl
@[simp] theorem modSession_time (s : State) (n : Nat) (f : Session → Session) : (s.modSession n f).time = s.time := rfl
@[simp] theorem modSession_flt (s : State) (n : Nat) (f : Session → Session) : (s.modSession n f).flt = s.flt := rfl
@[simp] theorem modSession_evl (s : State) (n : Nat) (f : Session → Session) : (s.modSession n f).evl = s.evl := rfl
@[simp] theorem modSession_vault (s : State) (n : Nat) (f : Session → Session) : (s.modSession n f).vault = s.vault := rfl
@[simp] theorem modSession_sched (s : State) (n : Nat) (f : Session → Session) : (s.modSession n f).sched = s.sched := rfl
@[simp] theorem modSession_scan (s : State) (n : Nat) (f : Session → Session) : (s.modSession n f).scan = s.scan := rfl
@[simp] theorem modSession_boot (s : State) (n : Nat) (f : Session → Session) : (s.modSession n f).boot = s.boot := rfl
@[simp] theorem modSession_jnl (s : State) (n : Nat) (f : Session → Session) : (s.modSession n f).jnl = s.jnl := rfl
@[simp] theorem modSession_sys (s : State) (n : Nat) (f : Session → Session) : (s.modSession n f).sys = s.sys := rfl
@[simp] theorem modSession_part (s : State) (n : Nat) (f : Session → Session) : (s.modSession n f).part = s.part := rfl
@[simp] theorem modSession_fw (s : State) (n : Nat) (f : Session → Session) : (s.modSession n f).fw = s.fw := rfl
@[simp] theorem modSession_safe (s : State) (n : Nat) (f : Session → Session) : (s.modSession n f).safe = s.safe := rfl
@[simp] theorem modSession_cores (s : State) (n : Nat) (f : Session → Session) : (s.modSession n f).cores = s.cores := rfl
@[simp] theorem modSession_out (s : State) (n : Nat) (f : Session → Session) : (s.modSession n f).out = s.out := rfl
@[simp] theorem modSession_lgs (s : State) (n : Nat) (f : Session → Session) : (s.modSession n f).lgs = s.lgs := rfl
@[simp] theorem modSession_chans (s : State) (n : Nat) (f : Session → Session) : (s.modSession n f).chans = s.chans := rfl
@[simp] theorem modSession_clusters (s : State) (n : Nat) (f : Session → Session) : (s.modSession n f).clusters = s.clusters := rfl
@[simp] theorem modSession_dies (s : State) (n : Nat) (f : Session → Session) : (s.modSession n f).dies = s.dies := rfl
@[simp] theorem modSession_regions (s : State) (n : Nat) (f : Session → Session) : (s.modSession n f).regions = s.regions := rfl
@[simp] theorem modSession_ilm (s : State) (n : Nat) (f : Session → Session) : (s.modSession n f).ilm = s.ilm := rfl
@[simp] theorem modSession_axes (s : State) (n : Nat) (f : Session → Session) : (s.modSession n f).axes = s.axes := rfl
@[simp] theorem modSession_engines (s : State) (n : Nat) (f : Session → Session) : (s.modSession n f).engines = s.engines := rfl
@[simp] theorem modSession_slots (s : State) (n : Nat) (f : Session → Session) : (s.modSession n f).slots = s.slots := rfl
@[simp] theorem modSession_seqs (s : State) (n : Nat) (f : Session → Session) : (s.modSession n f).seqs = s.seqs := rfl
@[simp] theorem modSession_recu (s : State) (n : Nat) (f : Session → Session) : (s.modSession n f).recu = s.recu := rfl
@[simp] theorem modSession_cans (s : State) (n : Nat) (f : Session → Session) : (s.modSession n f).cans = s.cans := rfl
@[simp] theorem modSession_cbus (s : State) (n : Nat) (f : Session → Session) : (s.modSession n f).cbus = s.cbus := rfl
@[simp] theorem modSession_secu (s : State) (n : Nat) (f : Session → Session) : (s.modSession n f).secu = s.secu := rfl
@[simp] theorem modSession_links (s : State) (n : Nat) (f : Session → Session) : (s.modSession n f).links = s.links := rfl
@[simp] theorem modSession_copies (s : State) (n : Nat) (f : Session → Session) : (s.modSession n f).copies = s.copies := rfl
@[simp] theorem modSession_outbox (s : State) (n : Nat) (f : Session → Session) : (s.modSession n f).outbox = s.outbox := rfl

/-! ### modLink -/

@[simp] theorem modLink_pending (s : State) (n : Nat) (f : Link → Link) : (s.modLink n f).pending = s.pending := rfl
@[simp] theorem modLink_tbc (s : State) (n : Nat) (f : Link → Link) : (s.modLink n f).tbc = s.tbc := rfl
@[simp] theorem modLink_regs (s : State) (n : Nat) (f : Link → Link) : (s.modLink n f).regs = s.regs := rfl
@[simp] theorem modLink_mem (s : State) (n : Nat) (f : Link → Link) : (s.modLink n f).mem = s.mem := rfl
@[simp] theorem modLink_free (s : State) (n : Nat) (f : Link → Link) : (s.modLink n f).free = s.free := rfl
@[simp] theorem modLink_rdata (s : State) (n : Nat) (f : Link → Link) : (s.modLink n f).rdata = s.rdata := rfl
@[simp] theorem modLink_time (s : State) (n : Nat) (f : Link → Link) : (s.modLink n f).time = s.time := rfl
@[simp] theorem modLink_flt (s : State) (n : Nat) (f : Link → Link) : (s.modLink n f).flt = s.flt := rfl
@[simp] theorem modLink_evl (s : State) (n : Nat) (f : Link → Link) : (s.modLink n f).evl = s.evl := rfl
@[simp] theorem modLink_vault (s : State) (n : Nat) (f : Link → Link) : (s.modLink n f).vault = s.vault := rfl
@[simp] theorem modLink_sched (s : State) (n : Nat) (f : Link → Link) : (s.modLink n f).sched = s.sched := rfl
@[simp] theorem modLink_scan (s : State) (n : Nat) (f : Link → Link) : (s.modLink n f).scan = s.scan := rfl
@[simp] theorem modLink_boot (s : State) (n : Nat) (f : Link → Link) : (s.modLink n f).boot = s.boot := rfl
@[simp] theorem modLink_jnl (s : State) (n : Nat) (f : Link → Link) : (s.modLink n f).jnl = s.jnl := rfl
@[simp] theorem modLink_sys (s : State) (n : Nat) (f : Link → Link) : (s.modLink n f).sys = s.sys := rfl
@[simp] theorem modLink_part (s : State) (n : Nat) (f : Link → Link) : (s.modLink n f).part = s.part := rfl
@[simp] theorem modLink_fw (s : State) (n : Nat) (f : Link → Link) : (s.modLink n f).fw = s.fw := rfl
@[simp] theorem modLink_safe (s : State) (n : Nat) (f : Link → Link) : (s.modLink n f).safe = s.safe := rfl
@[simp] theorem modLink_cores (s : State) (n : Nat) (f : Link → Link) : (s.modLink n f).cores = s.cores := rfl
@[simp] theorem modLink_out (s : State) (n : Nat) (f : Link → Link) : (s.modLink n f).out = s.out := rfl
@[simp] theorem modLink_lgs (s : State) (n : Nat) (f : Link → Link) : (s.modLink n f).lgs = s.lgs := rfl
@[simp] theorem modLink_chans (s : State) (n : Nat) (f : Link → Link) : (s.modLink n f).chans = s.chans := rfl
@[simp] theorem modLink_clusters (s : State) (n : Nat) (f : Link → Link) : (s.modLink n f).clusters = s.clusters := rfl
@[simp] theorem modLink_dies (s : State) (n : Nat) (f : Link → Link) : (s.modLink n f).dies = s.dies := rfl
@[simp] theorem modLink_regions (s : State) (n : Nat) (f : Link → Link) : (s.modLink n f).regions = s.regions := rfl
@[simp] theorem modLink_ilm (s : State) (n : Nat) (f : Link → Link) : (s.modLink n f).ilm = s.ilm := rfl
@[simp] theorem modLink_axes (s : State) (n : Nat) (f : Link → Link) : (s.modLink n f).axes = s.axes := rfl
@[simp] theorem modLink_engines (s : State) (n : Nat) (f : Link → Link) : (s.modLink n f).engines = s.engines := rfl
@[simp] theorem modLink_slots (s : State) (n : Nat) (f : Link → Link) : (s.modLink n f).slots = s.slots := rfl
@[simp] theorem modLink_seqs (s : State) (n : Nat) (f : Link → Link) : (s.modLink n f).seqs = s.seqs := rfl
@[simp] theorem modLink_recu (s : State) (n : Nat) (f : Link → Link) : (s.modLink n f).recu = s.recu := rfl
@[simp] theorem modLink_cans (s : State) (n : Nat) (f : Link → Link) : (s.modLink n f).cans = s.cans := rfl
@[simp] theorem modLink_cbus (s : State) (n : Nat) (f : Link → Link) : (s.modLink n f).cbus = s.cbus := rfl
@[simp] theorem modLink_sessions (s : State) (n : Nat) (f : Link → Link) : (s.modLink n f).sessions = s.sessions := rfl
@[simp] theorem modLink_secu (s : State) (n : Nat) (f : Link → Link) : (s.modLink n f).secu = s.secu := rfl
@[simp] theorem modLink_copies (s : State) (n : Nat) (f : Link → Link) : (s.modLink n f).copies = s.copies := rfl
@[simp] theorem modLink_outbox (s : State) (n : Nat) (f : Link → Link) : (s.modLink n f).outbox = s.outbox := rfl

/-! ### modSbc -/

@[simp] theorem modSbc_pending (s : State) (n : Nat) (f : Sbc → Sbc) : (s.modSbc n f).pending = s.pending := rfl
@[simp] theorem modSbc_tbc (s : State) (n : Nat) (f : Sbc → Sbc) : (s.modSbc n f).tbc = s.tbc := rfl
@[simp] theorem modSbc_regs (s : State) (n : Nat) (f : Sbc → Sbc) : (s.modSbc n f).regs = s.regs := rfl
@[simp] theorem modSbc_mem (s : State) (n : Nat) (f : Sbc → Sbc) : (s.modSbc n f).mem = s.mem := rfl
@[simp] theorem modSbc_free (s : State) (n : Nat) (f : Sbc → Sbc) : (s.modSbc n f).free = s.free := rfl
@[simp] theorem modSbc_rdata (s : State) (n : Nat) (f : Sbc → Sbc) : (s.modSbc n f).rdata = s.rdata := rfl
@[simp] theorem modSbc_time (s : State) (n : Nat) (f : Sbc → Sbc) : (s.modSbc n f).time = s.time := rfl
@[simp] theorem modSbc_flt (s : State) (n : Nat) (f : Sbc → Sbc) : (s.modSbc n f).flt = s.flt := rfl
@[simp] theorem modSbc_evl (s : State) (n : Nat) (f : Sbc → Sbc) : (s.modSbc n f).evl = s.evl := rfl
@[simp] theorem modSbc_vault (s : State) (n : Nat) (f : Sbc → Sbc) : (s.modSbc n f).vault = s.vault := rfl
@[simp] theorem modSbc_sched (s : State) (n : Nat) (f : Sbc → Sbc) : (s.modSbc n f).sched = s.sched := rfl
@[simp] theorem modSbc_scan (s : State) (n : Nat) (f : Sbc → Sbc) : (s.modSbc n f).scan = s.scan := rfl
@[simp] theorem modSbc_boot (s : State) (n : Nat) (f : Sbc → Sbc) : (s.modSbc n f).boot = s.boot := rfl
@[simp] theorem modSbc_jnl (s : State) (n : Nat) (f : Sbc → Sbc) : (s.modSbc n f).jnl = s.jnl := rfl
@[simp] theorem modSbc_sys (s : State) (n : Nat) (f : Sbc → Sbc) : (s.modSbc n f).sys = s.sys := rfl
@[simp] theorem modSbc_part (s : State) (n : Nat) (f : Sbc → Sbc) : (s.modSbc n f).part = s.part := rfl
@[simp] theorem modSbc_fw (s : State) (n : Nat) (f : Sbc → Sbc) : (s.modSbc n f).fw = s.fw := rfl
@[simp] theorem modSbc_cores (s : State) (n : Nat) (f : Sbc → Sbc) : (s.modSbc n f).cores = s.cores := rfl
@[simp] theorem modSbc_out (s : State) (n : Nat) (f : Sbc → Sbc) : (s.modSbc n f).out = s.out := rfl
@[simp] theorem modSbc_lgs (s : State) (n : Nat) (f : Sbc → Sbc) : (s.modSbc n f).lgs = s.lgs := rfl
@[simp] theorem modSbc_chans (s : State) (n : Nat) (f : Sbc → Sbc) : (s.modSbc n f).chans = s.chans := rfl
@[simp] theorem modSbc_clusters (s : State) (n : Nat) (f : Sbc → Sbc) : (s.modSbc n f).clusters = s.clusters := rfl
@[simp] theorem modSbc_dies (s : State) (n : Nat) (f : Sbc → Sbc) : (s.modSbc n f).dies = s.dies := rfl
@[simp] theorem modSbc_regions (s : State) (n : Nat) (f : Sbc → Sbc) : (s.modSbc n f).regions = s.regions := rfl
@[simp] theorem modSbc_ilm (s : State) (n : Nat) (f : Sbc → Sbc) : (s.modSbc n f).ilm = s.ilm := rfl
@[simp] theorem modSbc_axes (s : State) (n : Nat) (f : Sbc → Sbc) : (s.modSbc n f).axes = s.axes := rfl
@[simp] theorem modSbc_engines (s : State) (n : Nat) (f : Sbc → Sbc) : (s.modSbc n f).engines = s.engines := rfl
@[simp] theorem modSbc_slots (s : State) (n : Nat) (f : Sbc → Sbc) : (s.modSbc n f).slots = s.slots := rfl
@[simp] theorem modSbc_seqs (s : State) (n : Nat) (f : Sbc → Sbc) : (s.modSbc n f).seqs = s.seqs := rfl
@[simp] theorem modSbc_recu (s : State) (n : Nat) (f : Sbc → Sbc) : (s.modSbc n f).recu = s.recu := rfl
@[simp] theorem modSbc_cans (s : State) (n : Nat) (f : Sbc → Sbc) : (s.modSbc n f).cans = s.cans := rfl
@[simp] theorem modSbc_cbus (s : State) (n : Nat) (f : Sbc → Sbc) : (s.modSbc n f).cbus = s.cbus := rfl
@[simp] theorem modSbc_sessions (s : State) (n : Nat) (f : Sbc → Sbc) : (s.modSbc n f).sessions = s.sessions := rfl
@[simp] theorem modSbc_secu (s : State) (n : Nat) (f : Sbc → Sbc) : (s.modSbc n f).secu = s.secu := rfl
@[simp] theorem modSbc_links (s : State) (n : Nat) (f : Sbc → Sbc) : (s.modSbc n f).links = s.links := rfl
@[simp] theorem modSbc_copies (s : State) (n : Nat) (f : Sbc → Sbc) : (s.modSbc n f).copies = s.copies := rfl
@[simp] theorem modSbc_outbox (s : State) (n : Nat) (f : Sbc → Sbc) : (s.modSbc n f).outbox = s.outbox := rfl

/-! ### modPair -/

@[simp] theorem modPair_pending (s : State) (n : Nat) (f : Pair → Pair) : (s.modPair n f).pending = s.pending := rfl
@[simp] theorem modPair_tbc (s : State) (n : Nat) (f : Pair → Pair) : (s.modPair n f).tbc = s.tbc := rfl
@[simp] theorem modPair_regs (s : State) (n : Nat) (f : Pair → Pair) : (s.modPair n f).regs = s.regs := rfl
@[simp] theorem modPair_mem (s : State) (n : Nat) (f : Pair → Pair) : (s.modPair n f).mem = s.mem := rfl
@[simp] theorem modPair_free (s : State) (n : Nat) (f : Pair → Pair) : (s.modPair n f).free = s.free := rfl
@[simp] theorem modPair_rdata (s : State) (n : Nat) (f : Pair → Pair) : (s.modPair n f).rdata = s.rdata := rfl
@[simp] theorem modPair_time (s : State) (n : Nat) (f : Pair → Pair) : (s.modPair n f).time = s.time := rfl
@[simp] theorem modPair_flt (s : State) (n : Nat) (f : Pair → Pair) : (s.modPair n f).flt = s.flt := rfl
@[simp] theorem modPair_evl (s : State) (n : Nat) (f : Pair → Pair) : (s.modPair n f).evl = s.evl := rfl
@[simp] theorem modPair_vault (s : State) (n : Nat) (f : Pair → Pair) : (s.modPair n f).vault = s.vault := rfl
@[simp] theorem modPair_sched (s : State) (n : Nat) (f : Pair → Pair) : (s.modPair n f).sched = s.sched := rfl
@[simp] theorem modPair_scan (s : State) (n : Nat) (f : Pair → Pair) : (s.modPair n f).scan = s.scan := rfl
@[simp] theorem modPair_boot (s : State) (n : Nat) (f : Pair → Pair) : (s.modPair n f).boot = s.boot := rfl
@[simp] theorem modPair_jnl (s : State) (n : Nat) (f : Pair → Pair) : (s.modPair n f).jnl = s.jnl := rfl
@[simp] theorem modPair_sys (s : State) (n : Nat) (f : Pair → Pair) : (s.modPair n f).sys = s.sys := rfl
@[simp] theorem modPair_part (s : State) (n : Nat) (f : Pair → Pair) : (s.modPair n f).part = s.part := rfl
@[simp] theorem modPair_fw (s : State) (n : Nat) (f : Pair → Pair) : (s.modPair n f).fw = s.fw := rfl
@[simp] theorem modPair_cores (s : State) (n : Nat) (f : Pair → Pair) : (s.modPair n f).cores = s.cores := rfl
@[simp] theorem modPair_out (s : State) (n : Nat) (f : Pair → Pair) : (s.modPair n f).out = s.out := rfl
@[simp] theorem modPair_lgs (s : State) (n : Nat) (f : Pair → Pair) : (s.modPair n f).lgs = s.lgs := rfl
@[simp] theorem modPair_chans (s : State) (n : Nat) (f : Pair → Pair) : (s.modPair n f).chans = s.chans := rfl
@[simp] theorem modPair_clusters (s : State) (n : Nat) (f : Pair → Pair) : (s.modPair n f).clusters = s.clusters := rfl
@[simp] theorem modPair_dies (s : State) (n : Nat) (f : Pair → Pair) : (s.modPair n f).dies = s.dies := rfl
@[simp] theorem modPair_regions (s : State) (n : Nat) (f : Pair → Pair) : (s.modPair n f).regions = s.regions := rfl
@[simp] theorem modPair_ilm (s : State) (n : Nat) (f : Pair → Pair) : (s.modPair n f).ilm = s.ilm := rfl
@[simp] theorem modPair_axes (s : State) (n : Nat) (f : Pair → Pair) : (s.modPair n f).axes = s.axes := rfl
@[simp] theorem modPair_engines (s : State) (n : Nat) (f : Pair → Pair) : (s.modPair n f).engines = s.engines := rfl
@[simp] theorem modPair_slots (s : State) (n : Nat) (f : Pair → Pair) : (s.modPair n f).slots = s.slots := rfl
@[simp] theorem modPair_seqs (s : State) (n : Nat) (f : Pair → Pair) : (s.modPair n f).seqs = s.seqs := rfl
@[simp] theorem modPair_recu (s : State) (n : Nat) (f : Pair → Pair) : (s.modPair n f).recu = s.recu := rfl
@[simp] theorem modPair_cans (s : State) (n : Nat) (f : Pair → Pair) : (s.modPair n f).cans = s.cans := rfl
@[simp] theorem modPair_cbus (s : State) (n : Nat) (f : Pair → Pair) : (s.modPair n f).cbus = s.cbus := rfl
@[simp] theorem modPair_sessions (s : State) (n : Nat) (f : Pair → Pair) : (s.modPair n f).sessions = s.sessions := rfl
@[simp] theorem modPair_secu (s : State) (n : Nat) (f : Pair → Pair) : (s.modPair n f).secu = s.secu := rfl
@[simp] theorem modPair_links (s : State) (n : Nat) (f : Pair → Pair) : (s.modPair n f).links = s.links := rfl
@[simp] theorem modPair_copies (s : State) (n : Nat) (f : Pair → Pair) : (s.modPair n f).copies = s.copies := rfl
@[simp] theorem modPair_outbox (s : State) (n : Nat) (f : Pair → Pair) : (s.modPair n f).outbox = s.outbox := rfl

/-! ### modDom -/

@[simp] theorem modDom_pending (s : State) (n : Nat) (f : Domain → Domain) : (s.modDom n f).pending = s.pending := rfl
@[simp] theorem modDom_tbc (s : State) (n : Nat) (f : Domain → Domain) : (s.modDom n f).tbc = s.tbc := rfl
@[simp] theorem modDom_regs (s : State) (n : Nat) (f : Domain → Domain) : (s.modDom n f).regs = s.regs := rfl
@[simp] theorem modDom_mem (s : State) (n : Nat) (f : Domain → Domain) : (s.modDom n f).mem = s.mem := rfl
@[simp] theorem modDom_free (s : State) (n : Nat) (f : Domain → Domain) : (s.modDom n f).free = s.free := rfl
@[simp] theorem modDom_rdata (s : State) (n : Nat) (f : Domain → Domain) : (s.modDom n f).rdata = s.rdata := rfl
@[simp] theorem modDom_flt (s : State) (n : Nat) (f : Domain → Domain) : (s.modDom n f).flt = s.flt := rfl
@[simp] theorem modDom_evl (s : State) (n : Nat) (f : Domain → Domain) : (s.modDom n f).evl = s.evl := rfl
@[simp] theorem modDom_vault (s : State) (n : Nat) (f : Domain → Domain) : (s.modDom n f).vault = s.vault := rfl
@[simp] theorem modDom_sched (s : State) (n : Nat) (f : Domain → Domain) : (s.modDom n f).sched = s.sched := rfl
@[simp] theorem modDom_scan (s : State) (n : Nat) (f : Domain → Domain) : (s.modDom n f).scan = s.scan := rfl
@[simp] theorem modDom_boot (s : State) (n : Nat) (f : Domain → Domain) : (s.modDom n f).boot = s.boot := rfl
@[simp] theorem modDom_jnl (s : State) (n : Nat) (f : Domain → Domain) : (s.modDom n f).jnl = s.jnl := rfl
@[simp] theorem modDom_sys (s : State) (n : Nat) (f : Domain → Domain) : (s.modDom n f).sys = s.sys := rfl
@[simp] theorem modDom_part (s : State) (n : Nat) (f : Domain → Domain) : (s.modDom n f).part = s.part := rfl
@[simp] theorem modDom_fw (s : State) (n : Nat) (f : Domain → Domain) : (s.modDom n f).fw = s.fw := rfl
@[simp] theorem modDom_safe (s : State) (n : Nat) (f : Domain → Domain) : (s.modDom n f).safe = s.safe := rfl
@[simp] theorem modDom_cores (s : State) (n : Nat) (f : Domain → Domain) : (s.modDom n f).cores = s.cores := rfl
@[simp] theorem modDom_out (s : State) (n : Nat) (f : Domain → Domain) : (s.modDom n f).out = s.out := rfl
@[simp] theorem modDom_lgs (s : State) (n : Nat) (f : Domain → Domain) : (s.modDom n f).lgs = s.lgs := rfl
@[simp] theorem modDom_chans (s : State) (n : Nat) (f : Domain → Domain) : (s.modDom n f).chans = s.chans := rfl
@[simp] theorem modDom_clusters (s : State) (n : Nat) (f : Domain → Domain) : (s.modDom n f).clusters = s.clusters := rfl
@[simp] theorem modDom_dies (s : State) (n : Nat) (f : Domain → Domain) : (s.modDom n f).dies = s.dies := rfl
@[simp] theorem modDom_regions (s : State) (n : Nat) (f : Domain → Domain) : (s.modDom n f).regions = s.regions := rfl
@[simp] theorem modDom_ilm (s : State) (n : Nat) (f : Domain → Domain) : (s.modDom n f).ilm = s.ilm := rfl
@[simp] theorem modDom_axes (s : State) (n : Nat) (f : Domain → Domain) : (s.modDom n f).axes = s.axes := rfl
@[simp] theorem modDom_engines (s : State) (n : Nat) (f : Domain → Domain) : (s.modDom n f).engines = s.engines := rfl
@[simp] theorem modDom_slots (s : State) (n : Nat) (f : Domain → Domain) : (s.modDom n f).slots = s.slots := rfl
@[simp] theorem modDom_seqs (s : State) (n : Nat) (f : Domain → Domain) : (s.modDom n f).seqs = s.seqs := rfl
@[simp] theorem modDom_recu (s : State) (n : Nat) (f : Domain → Domain) : (s.modDom n f).recu = s.recu := rfl
@[simp] theorem modDom_cans (s : State) (n : Nat) (f : Domain → Domain) : (s.modDom n f).cans = s.cans := rfl
@[simp] theorem modDom_cbus (s : State) (n : Nat) (f : Domain → Domain) : (s.modDom n f).cbus = s.cbus := rfl
@[simp] theorem modDom_sessions (s : State) (n : Nat) (f : Domain → Domain) : (s.modDom n f).sessions = s.sessions := rfl
@[simp] theorem modDom_secu (s : State) (n : Nat) (f : Domain → Domain) : (s.modDom n f).secu = s.secu := rfl
@[simp] theorem modDom_links (s : State) (n : Nat) (f : Domain → Domain) : (s.modDom n f).links = s.links := rfl
@[simp] theorem modDom_copies (s : State) (n : Nat) (f : Domain → Domain) : (s.modDom n f).copies = s.copies := rfl
@[simp] theorem modDom_outbox (s : State) (n : Nat) (f : Domain → Domain) : (s.modDom n f).outbox = s.outbox := rfl

/-! ### modStrm -/

@[simp] theorem modStrm_pending (s : State) (n : Nat) (f : Strm → Strm) : (s.modStrm n f).pending = s.pending := rfl
@[simp] theorem modStrm_tbc (s : State) (n : Nat) (f : Strm → Strm) : (s.modStrm n f).tbc = s.tbc := rfl
@[simp] theorem modStrm_regs (s : State) (n : Nat) (f : Strm → Strm) : (s.modStrm n f).regs = s.regs := rfl
@[simp] theorem modStrm_mem (s : State) (n : Nat) (f : Strm → Strm) : (s.modStrm n f).mem = s.mem := rfl
@[simp] theorem modStrm_free (s : State) (n : Nat) (f : Strm → Strm) : (s.modStrm n f).free = s.free := rfl
@[simp] theorem modStrm_rdata (s : State) (n : Nat) (f : Strm → Strm) : (s.modStrm n f).rdata = s.rdata := rfl
@[simp] theorem modStrm_time (s : State) (n : Nat) (f : Strm → Strm) : (s.modStrm n f).time = s.time := rfl
@[simp] theorem modStrm_flt (s : State) (n : Nat) (f : Strm → Strm) : (s.modStrm n f).flt = s.flt := rfl
@[simp] theorem modStrm_evl (s : State) (n : Nat) (f : Strm → Strm) : (s.modStrm n f).evl = s.evl := rfl
@[simp] theorem modStrm_vault (s : State) (n : Nat) (f : Strm → Strm) : (s.modStrm n f).vault = s.vault := rfl
@[simp] theorem modStrm_sched (s : State) (n : Nat) (f : Strm → Strm) : (s.modStrm n f).sched = s.sched := rfl
@[simp] theorem modStrm_scan (s : State) (n : Nat) (f : Strm → Strm) : (s.modStrm n f).scan = s.scan := rfl
@[simp] theorem modStrm_boot (s : State) (n : Nat) (f : Strm → Strm) : (s.modStrm n f).boot = s.boot := rfl
@[simp] theorem modStrm_jnl (s : State) (n : Nat) (f : Strm → Strm) : (s.modStrm n f).jnl = s.jnl := rfl
@[simp] theorem modStrm_sys (s : State) (n : Nat) (f : Strm → Strm) : (s.modStrm n f).sys = s.sys := rfl
@[simp] theorem modStrm_part (s : State) (n : Nat) (f : Strm → Strm) : (s.modStrm n f).part = s.part := rfl
@[simp] theorem modStrm_fw (s : State) (n : Nat) (f : Strm → Strm) : (s.modStrm n f).fw = s.fw := rfl
@[simp] theorem modStrm_safe (s : State) (n : Nat) (f : Strm → Strm) : (s.modStrm n f).safe = s.safe := rfl
@[simp] theorem modStrm_cores (s : State) (n : Nat) (f : Strm → Strm) : (s.modStrm n f).cores = s.cores := rfl
@[simp] theorem modStrm_out (s : State) (n : Nat) (f : Strm → Strm) : (s.modStrm n f).out = s.out := rfl
@[simp] theorem modStrm_lgs (s : State) (n : Nat) (f : Strm → Strm) : (s.modStrm n f).lgs = s.lgs := rfl
@[simp] theorem modStrm_chans (s : State) (n : Nat) (f : Strm → Strm) : (s.modStrm n f).chans = s.chans := rfl
@[simp] theorem modStrm_clusters (s : State) (n : Nat) (f : Strm → Strm) : (s.modStrm n f).clusters = s.clusters := rfl
@[simp] theorem modStrm_dies (s : State) (n : Nat) (f : Strm → Strm) : (s.modStrm n f).dies = s.dies := rfl
@[simp] theorem modStrm_regions (s : State) (n : Nat) (f : Strm → Strm) : (s.modStrm n f).regions = s.regions := rfl
@[simp] theorem modStrm_ilm (s : State) (n : Nat) (f : Strm → Strm) : (s.modStrm n f).ilm = s.ilm := rfl
@[simp] theorem modStrm_axes (s : State) (n : Nat) (f : Strm → Strm) : (s.modStrm n f).axes = s.axes := rfl
@[simp] theorem modStrm_engines (s : State) (n : Nat) (f : Strm → Strm) : (s.modStrm n f).engines = s.engines := rfl
@[simp] theorem modStrm_slots (s : State) (n : Nat) (f : Strm → Strm) : (s.modStrm n f).slots = s.slots := rfl
@[simp] theorem modStrm_seqs (s : State) (n : Nat) (f : Strm → Strm) : (s.modStrm n f).seqs = s.seqs := rfl
@[simp] theorem modStrm_cans (s : State) (n : Nat) (f : Strm → Strm) : (s.modStrm n f).cans = s.cans := rfl
@[simp] theorem modStrm_cbus (s : State) (n : Nat) (f : Strm → Strm) : (s.modStrm n f).cbus = s.cbus := rfl
@[simp] theorem modStrm_sessions (s : State) (n : Nat) (f : Strm → Strm) : (s.modStrm n f).sessions = s.sessions := rfl
@[simp] theorem modStrm_secu (s : State) (n : Nat) (f : Strm → Strm) : (s.modStrm n f).secu = s.secu := rfl
@[simp] theorem modStrm_links (s : State) (n : Nat) (f : Strm → Strm) : (s.modStrm n f).links = s.links := rfl
@[simp] theorem modStrm_copies (s : State) (n : Nat) (f : Strm → Strm) : (s.modStrm n f).copies = s.copies := rfl
@[simp] theorem modStrm_outbox (s : State) (n : Nat) (f : Strm → Strm) : (s.modStrm n f).outbox = s.outbox := rfl

/-! ### modUnit -/

@[simp] theorem modUnit_pending (s : State) (n : Nat) (f : Unit_ → Unit_) : (s.modUnit n f).pending = s.pending := rfl
@[simp] theorem modUnit_tbc (s : State) (n : Nat) (f : Unit_ → Unit_) : (s.modUnit n f).tbc = s.tbc := rfl
@[simp] theorem modUnit_regs (s : State) (n : Nat) (f : Unit_ → Unit_) : (s.modUnit n f).regs = s.regs := rfl
@[simp] theorem modUnit_mem (s : State) (n : Nat) (f : Unit_ → Unit_) : (s.modUnit n f).mem = s.mem := rfl
@[simp] theorem modUnit_free (s : State) (n : Nat) (f : Unit_ → Unit_) : (s.modUnit n f).free = s.free := rfl
@[simp] theorem modUnit_rdata (s : State) (n : Nat) (f : Unit_ → Unit_) : (s.modUnit n f).rdata = s.rdata := rfl
@[simp] theorem modUnit_time (s : State) (n : Nat) (f : Unit_ → Unit_) : (s.modUnit n f).time = s.time := rfl
@[simp] theorem modUnit_flt (s : State) (n : Nat) (f : Unit_ → Unit_) : (s.modUnit n f).flt = s.flt := rfl
@[simp] theorem modUnit_evl (s : State) (n : Nat) (f : Unit_ → Unit_) : (s.modUnit n f).evl = s.evl := rfl
@[simp] theorem modUnit_vault (s : State) (n : Nat) (f : Unit_ → Unit_) : (s.modUnit n f).vault = s.vault := rfl
@[simp] theorem modUnit_sched (s : State) (n : Nat) (f : Unit_ → Unit_) : (s.modUnit n f).sched = s.sched := rfl
@[simp] theorem modUnit_scan (s : State) (n : Nat) (f : Unit_ → Unit_) : (s.modUnit n f).scan = s.scan := rfl
@[simp] theorem modUnit_boot (s : State) (n : Nat) (f : Unit_ → Unit_) : (s.modUnit n f).boot = s.boot := rfl
@[simp] theorem modUnit_jnl (s : State) (n : Nat) (f : Unit_ → Unit_) : (s.modUnit n f).jnl = s.jnl := rfl
@[simp] theorem modUnit_sys (s : State) (n : Nat) (f : Unit_ → Unit_) : (s.modUnit n f).sys = s.sys := rfl
@[simp] theorem modUnit_part (s : State) (n : Nat) (f : Unit_ → Unit_) : (s.modUnit n f).part = s.part := rfl
@[simp] theorem modUnit_fw (s : State) (n : Nat) (f : Unit_ → Unit_) : (s.modUnit n f).fw = s.fw := rfl
@[simp] theorem modUnit_safe (s : State) (n : Nat) (f : Unit_ → Unit_) : (s.modUnit n f).safe = s.safe := rfl
@[simp] theorem modUnit_cores (s : State) (n : Nat) (f : Unit_ → Unit_) : (s.modUnit n f).cores = s.cores := rfl
@[simp] theorem modUnit_out (s : State) (n : Nat) (f : Unit_ → Unit_) : (s.modUnit n f).out = s.out := rfl
@[simp] theorem modUnit_lgs (s : State) (n : Nat) (f : Unit_ → Unit_) : (s.modUnit n f).lgs = s.lgs := rfl
@[simp] theorem modUnit_chans (s : State) (n : Nat) (f : Unit_ → Unit_) : (s.modUnit n f).chans = s.chans := rfl
@[simp] theorem modUnit_clusters (s : State) (n : Nat) (f : Unit_ → Unit_) : (s.modUnit n f).clusters = s.clusters := rfl
@[simp] theorem modUnit_dies (s : State) (n : Nat) (f : Unit_ → Unit_) : (s.modUnit n f).dies = s.dies := rfl
@[simp] theorem modUnit_regions (s : State) (n : Nat) (f : Unit_ → Unit_) : (s.modUnit n f).regions = s.regions := rfl
@[simp] theorem modUnit_ilm (s : State) (n : Nat) (f : Unit_ → Unit_) : (s.modUnit n f).ilm = s.ilm := rfl
@[simp] theorem modUnit_axes (s : State) (n : Nat) (f : Unit_ → Unit_) : (s.modUnit n f).axes = s.axes := rfl
@[simp] theorem modUnit_engines (s : State) (n : Nat) (f : Unit_ → Unit_) : (s.modUnit n f).engines = s.engines := rfl
@[simp] theorem modUnit_slots (s : State) (n : Nat) (f : Unit_ → Unit_) : (s.modUnit n f).slots = s.slots := rfl
@[simp] theorem modUnit_seqs (s : State) (n : Nat) (f : Unit_ → Unit_) : (s.modUnit n f).seqs = s.seqs := rfl
@[simp] theorem modUnit_cans (s : State) (n : Nat) (f : Unit_ → Unit_) : (s.modUnit n f).cans = s.cans := rfl
@[simp] theorem modUnit_cbus (s : State) (n : Nat) (f : Unit_ → Unit_) : (s.modUnit n f).cbus = s.cbus := rfl
@[simp] theorem modUnit_sessions (s : State) (n : Nat) (f : Unit_ → Unit_) : (s.modUnit n f).sessions = s.sessions := rfl
@[simp] theorem modUnit_secu (s : State) (n : Nat) (f : Unit_ → Unit_) : (s.modUnit n f).secu = s.secu := rfl
@[simp] theorem modUnit_links (s : State) (n : Nat) (f : Unit_ → Unit_) : (s.modUnit n f).links = s.links := rfl
@[simp] theorem modUnit_copies (s : State) (n : Nat) (f : Unit_ → Unit_) : (s.modUnit n f).copies = s.copies := rfl
@[simp] theorem modUnit_outbox (s : State) (n : Nat) (f : Unit_ → Unit_) : (s.modUnit n f).outbox = s.outbox := rfl

/-! ### modSeq -/

@[simp] theorem modSeq_pending (s : State) (n : Nat) (f : Seq → Seq) : (s.modSeq n f).pending = s.pending := rfl
@[simp] theorem modSeq_tbc (s : State) (n : Nat) (f : Seq → Seq) : (s.modSeq n f).tbc = s.tbc := rfl
@[simp] theorem modSeq_regs (s : State) (n : Nat) (f : Seq → Seq) : (s.modSeq n f).regs = s.regs := rfl
@[simp] theorem modSeq_mem (s : State) (n : Nat) (f : Seq → Seq) : (s.modSeq n f).mem = s.mem := rfl
@[simp] theorem modSeq_free (s : State) (n : Nat) (f : Seq → Seq) : (s.modSeq n f).free = s.free := rfl
@[simp] theorem modSeq_rdata (s : State) (n : Nat) (f : Seq → Seq) : (s.modSeq n f).rdata = s.rdata := rfl
@[simp] theorem modSeq_time (s : State) (n : Nat) (f : Seq → Seq) : (s.modSeq n f).time = s.time := rfl
@[simp] theorem modSeq_flt (s : State) (n : Nat) (f : Seq → Seq) : (s.modSeq n f).flt = s.flt := rfl
@[simp] theorem modSeq_evl (s : State) (n : Nat) (f : Seq → Seq) : (s.modSeq n f).evl = s.evl := rfl
@[simp] theorem modSeq_vault (s : State) (n : Nat) (f : Seq → Seq) : (s.modSeq n f).vault = s.vault := rfl
@[simp] theorem modSeq_sched (s : State) (n : Nat) (f : Seq → Seq) : (s.modSeq n f).sched = s.sched := rfl
@[simp] theorem modSeq_scan (s : State) (n : Nat) (f : Seq → Seq) : (s.modSeq n f).scan = s.scan := rfl
@[simp] theorem modSeq_boot (s : State) (n : Nat) (f : Seq → Seq) : (s.modSeq n f).boot = s.boot := rfl
@[simp] theorem modSeq_jnl (s : State) (n : Nat) (f : Seq → Seq) : (s.modSeq n f).jnl = s.jnl := rfl
@[simp] theorem modSeq_sys (s : State) (n : Nat) (f : Seq → Seq) : (s.modSeq n f).sys = s.sys := rfl
@[simp] theorem modSeq_part (s : State) (n : Nat) (f : Seq → Seq) : (s.modSeq n f).part = s.part := rfl
@[simp] theorem modSeq_fw (s : State) (n : Nat) (f : Seq → Seq) : (s.modSeq n f).fw = s.fw := rfl
@[simp] theorem modSeq_safe (s : State) (n : Nat) (f : Seq → Seq) : (s.modSeq n f).safe = s.safe := rfl
@[simp] theorem modSeq_cores (s : State) (n : Nat) (f : Seq → Seq) : (s.modSeq n f).cores = s.cores := rfl
@[simp] theorem modSeq_out (s : State) (n : Nat) (f : Seq → Seq) : (s.modSeq n f).out = s.out := rfl
@[simp] theorem modSeq_lgs (s : State) (n : Nat) (f : Seq → Seq) : (s.modSeq n f).lgs = s.lgs := rfl
@[simp] theorem modSeq_chans (s : State) (n : Nat) (f : Seq → Seq) : (s.modSeq n f).chans = s.chans := rfl
@[simp] theorem modSeq_clusters (s : State) (n : Nat) (f : Seq → Seq) : (s.modSeq n f).clusters = s.clusters := rfl
@[simp] theorem modSeq_dies (s : State) (n : Nat) (f : Seq → Seq) : (s.modSeq n f).dies = s.dies := rfl
@[simp] theorem modSeq_regions (s : State) (n : Nat) (f : Seq → Seq) : (s.modSeq n f).regions = s.regions := rfl
@[simp] theorem modSeq_ilm (s : State) (n : Nat) (f : Seq → Seq) : (s.modSeq n f).ilm = s.ilm := rfl
@[simp] theorem modSeq_axes (s : State) (n : Nat) (f : Seq → Seq) : (s.modSeq n f).axes = s.axes := rfl
@[simp] theorem modSeq_engines (s : State) (n : Nat) (f : Seq → Seq) : (s.modSeq n f).engines = s.engines := rfl
@[simp] theorem modSeq_slots (s : State) (n : Nat) (f : Seq → Seq) : (s.modSeq n f).slots = s.slots := rfl
@[simp] theorem modSeq_recu (s : State) (n : Nat) (f : Seq → Seq) : (s.modSeq n f).recu = s.recu := rfl
@[simp] theorem modSeq_cans (s : State) (n : Nat) (f : Seq → Seq) : (s.modSeq n f).cans = s.cans := rfl
@[simp] theorem modSeq_cbus (s : State) (n : Nat) (f : Seq → Seq) : (s.modSeq n f).cbus = s.cbus := rfl
@[simp] theorem modSeq_sessions (s : State) (n : Nat) (f : Seq → Seq) : (s.modSeq n f).sessions = s.sessions := rfl
@[simp] theorem modSeq_secu (s : State) (n : Nat) (f : Seq → Seq) : (s.modSeq n f).secu = s.secu := rfl
@[simp] theorem modSeq_links (s : State) (n : Nat) (f : Seq → Seq) : (s.modSeq n f).links = s.links := rfl
@[simp] theorem modSeq_copies (s : State) (n : Nat) (f : Seq → Seq) : (s.modSeq n f).copies = s.copies := rfl
@[simp] theorem modSeq_outbox (s : State) (n : Nat) (f : Seq → Seq) : (s.modSeq n f).outbox = s.outbox := rfl

/-! ### modCan -/

@[simp] theorem modCan_pending (s : State) (n : Nat) (f : CanU → CanU) : (s.modCan n f).pending = s.pending := rfl
@[simp] theorem modCan_tbc (s : State) (n : Nat) (f : CanU → CanU) : (s.modCan n f).tbc = s.tbc := rfl
@[simp] theorem modCan_regs (s : State) (n : Nat) (f : CanU → CanU) : (s.modCan n f).regs = s.regs := rfl
@[simp] theorem modCan_mem (s : State) (n : Nat) (f : CanU → CanU) : (s.modCan n f).mem = s.mem := rfl
@[simp] theorem modCan_free (s : State) (n : Nat) (f : CanU → CanU) : (s.modCan n f).free = s.free := rfl
@[simp] theorem modCan_rdata (s : State) (n : Nat) (f : CanU → CanU) : (s.modCan n f).rdata = s.rdata := rfl
@[simp] theorem modCan_time (s : State) (n : Nat) (f : CanU → CanU) : (s.modCan n f).time = s.time := rfl
@[simp] theorem modCan_flt (s : State) (n : Nat) (f : CanU → CanU) : (s.modCan n f).flt = s.flt := rfl
@[simp] theorem modCan_evl (s : State) (n : Nat) (f : CanU → CanU) : (s.modCan n f).evl = s.evl := rfl
@[simp] theorem modCan_vault (s : State) (n : Nat) (f : CanU → CanU) : (s.modCan n f).vault = s.vault := rfl
@[simp] theorem modCan_sched (s : State) (n : Nat) (f : CanU → CanU) : (s.modCan n f).sched = s.sched := rfl
@[simp] theorem modCan_scan (s : State) (n : Nat) (f : CanU → CanU) : (s.modCan n f).scan = s.scan := rfl
@[simp] theorem modCan_boot (s : State) (n : Nat) (f : CanU → CanU) : (s.modCan n f).boot = s.boot := rfl
@[simp] theorem modCan_jnl (s : State) (n : Nat) (f : CanU → CanU) : (s.modCan n f).jnl = s.jnl := rfl
@[simp] theorem modCan_sys (s : State) (n : Nat) (f : CanU → CanU) : (s.modCan n f).sys = s.sys := rfl
@[simp] theorem modCan_part (s : State) (n : Nat) (f : CanU → CanU) : (s.modCan n f).part = s.part := rfl
@[simp] theorem modCan_fw (s : State) (n : Nat) (f : CanU → CanU) : (s.modCan n f).fw = s.fw := rfl
@[simp] theorem modCan_safe (s : State) (n : Nat) (f : CanU → CanU) : (s.modCan n f).safe = s.safe := rfl
@[simp] theorem modCan_cores (s : State) (n : Nat) (f : CanU → CanU) : (s.modCan n f).cores = s.cores := rfl
@[simp] theorem modCan_out (s : State) (n : Nat) (f : CanU → CanU) : (s.modCan n f).out = s.out := rfl
@[simp] theorem modCan_lgs (s : State) (n : Nat) (f : CanU → CanU) : (s.modCan n f).lgs = s.lgs := rfl
@[simp] theorem modCan_chans (s : State) (n : Nat) (f : CanU → CanU) : (s.modCan n f).chans = s.chans := rfl
@[simp] theorem modCan_clusters (s : State) (n : Nat) (f : CanU → CanU) : (s.modCan n f).clusters = s.clusters := rfl
@[simp] theorem modCan_dies (s : State) (n : Nat) (f : CanU → CanU) : (s.modCan n f).dies = s.dies := rfl
@[simp] theorem modCan_regions (s : State) (n : Nat) (f : CanU → CanU) : (s.modCan n f).regions = s.regions := rfl
@[simp] theorem modCan_ilm (s : State) (n : Nat) (f : CanU → CanU) : (s.modCan n f).ilm = s.ilm := rfl
@[simp] theorem modCan_axes (s : State) (n : Nat) (f : CanU → CanU) : (s.modCan n f).axes = s.axes := rfl
@[simp] theorem modCan_engines (s : State) (n : Nat) (f : CanU → CanU) : (s.modCan n f).engines = s.engines := rfl
@[simp] theorem modCan_slots (s : State) (n : Nat) (f : CanU → CanU) : (s.modCan n f).slots = s.slots := rfl
@[simp] theorem modCan_seqs (s : State) (n : Nat) (f : CanU → CanU) : (s.modCan n f).seqs = s.seqs := rfl
@[simp] theorem modCan_recu (s : State) (n : Nat) (f : CanU → CanU) : (s.modCan n f).recu = s.recu := rfl
@[simp] theorem modCan_cbus (s : State) (n : Nat) (f : CanU → CanU) : (s.modCan n f).cbus = s.cbus := rfl
@[simp] theorem modCan_sessions (s : State) (n : Nat) (f : CanU → CanU) : (s.modCan n f).sessions = s.sessions := rfl
@[simp] theorem modCan_secu (s : State) (n : Nat) (f : CanU → CanU) : (s.modCan n f).secu = s.secu := rfl
@[simp] theorem modCan_links (s : State) (n : Nat) (f : CanU → CanU) : (s.modCan n f).links = s.links := rfl
@[simp] theorem modCan_copies (s : State) (n : Nat) (f : CanU → CanU) : (s.modCan n f).copies = s.copies := rfl
@[simp] theorem modCan_outbox (s : State) (n : Nat) (f : CanU → CanU) : (s.modCan n f).outbox = s.outbox := rfl

/-! ### modSched -/

@[simp] theorem modSched_pending (s : State) (f : SchedU → SchedU) : (s.modSched f).pending = s.pending := rfl
@[simp] theorem modSched_tbc (s : State) (f : SchedU → SchedU) : (s.modSched f).tbc = s.tbc := rfl
@[simp] theorem modSched_regs (s : State) (f : SchedU → SchedU) : (s.modSched f).regs = s.regs := rfl
@[simp] theorem modSched_mem (s : State) (f : SchedU → SchedU) : (s.modSched f).mem = s.mem := rfl
@[simp] theorem modSched_free (s : State) (f : SchedU → SchedU) : (s.modSched f).free = s.free := rfl
@[simp] theorem modSched_rdata (s : State) (f : SchedU → SchedU) : (s.modSched f).rdata = s.rdata := rfl
@[simp] theorem modSched_time (s : State) (f : SchedU → SchedU) : (s.modSched f).time = s.time := rfl
@[simp] theorem modSched_flt (s : State) (f : SchedU → SchedU) : (s.modSched f).flt = s.flt := rfl
@[simp] theorem modSched_evl (s : State) (f : SchedU → SchedU) : (s.modSched f).evl = s.evl := rfl
@[simp] theorem modSched_vault (s : State) (f : SchedU → SchedU) : (s.modSched f).vault = s.vault := rfl
@[simp] theorem modSched_scan (s : State) (f : SchedU → SchedU) : (s.modSched f).scan = s.scan := rfl
@[simp] theorem modSched_boot (s : State) (f : SchedU → SchedU) : (s.modSched f).boot = s.boot := rfl
@[simp] theorem modSched_jnl (s : State) (f : SchedU → SchedU) : (s.modSched f).jnl = s.jnl := rfl
@[simp] theorem modSched_sys (s : State) (f : SchedU → SchedU) : (s.modSched f).sys = s.sys := rfl
@[simp] theorem modSched_part (s : State) (f : SchedU → SchedU) : (s.modSched f).part = s.part := rfl
@[simp] theorem modSched_fw (s : State) (f : SchedU → SchedU) : (s.modSched f).fw = s.fw := rfl
@[simp] theorem modSched_safe (s : State) (f : SchedU → SchedU) : (s.modSched f).safe = s.safe := rfl
@[simp] theorem modSched_cores (s : State) (f : SchedU → SchedU) : (s.modSched f).cores = s.cores := rfl
@[simp] theorem modSched_out (s : State) (f : SchedU → SchedU) : (s.modSched f).out = s.out := rfl
@[simp] theorem modSched_lgs (s : State) (f : SchedU → SchedU) : (s.modSched f).lgs = s.lgs := rfl
@[simp] theorem modSched_chans (s : State) (f : SchedU → SchedU) : (s.modSched f).chans = s.chans := rfl
@[simp] theorem modSched_clusters (s : State) (f : SchedU → SchedU) : (s.modSched f).clusters = s.clusters := rfl
@[simp] theorem modSched_dies (s : State) (f : SchedU → SchedU) : (s.modSched f).dies = s.dies := rfl
@[simp] theorem modSched_regions (s : State) (f : SchedU → SchedU) : (s.modSched f).regions = s.regions := rfl
@[simp] theorem modSched_ilm (s : State) (f : SchedU → SchedU) : (s.modSched f).ilm = s.ilm := rfl
@[simp] theorem modSched_axes (s : State) (f : SchedU → SchedU) : (s.modSched f).axes = s.axes := rfl
@[simp] theorem modSched_engines (s : State) (f : SchedU → SchedU) : (s.modSched f).engines = s.engines := rfl
@[simp] theorem modSched_slots (s : State) (f : SchedU → SchedU) : (s.modSched f).slots = s.slots := rfl
@[simp] theorem modSched_seqs (s : State) (f : SchedU → SchedU) : (s.modSched f).seqs = s.seqs := rfl
@[simp] theorem modSched_recu (s : State) (f : SchedU → SchedU) : (s.modSched f).recu = s.recu := rfl
@[simp] theorem modSched_cans (s : State) (f : SchedU → SchedU) : (s.modSched f).cans = s.cans := rfl
@[simp] theorem modSched_cbus (s : State) (f : SchedU → SchedU) : (s.modSched f).cbus = s.cbus := rfl
@[simp] theorem modSched_sessions (s : State) (f : SchedU → SchedU) : (s.modSched f).sessions = s.sessions := rfl
@[simp] theorem modSched_secu (s : State) (f : SchedU → SchedU) : (s.modSched f).secu = s.secu := rfl
@[simp] theorem modSched_links (s : State) (f : SchedU → SchedU) : (s.modSched f).links = s.links := rfl
@[simp] theorem modSched_copies (s : State) (f : SchedU → SchedU) : (s.modSched f).copies = s.copies := rfl
@[simp] theorem modSched_outbox (s : State) (f : SchedU → SchedU) : (s.modSched f).outbox = s.outbox := rfl

/-! ### modTime -/

@[simp] theorem modTime_pending (s : State) (f : TimeU → TimeU) : (s.modTime f).pending = s.pending := rfl
@[simp] theorem modTime_tbc (s : State) (f : TimeU → TimeU) : (s.modTime f).tbc = s.tbc := rfl
@[simp] theorem modTime_regs (s : State) (f : TimeU → TimeU) : (s.modTime f).regs = s.regs := rfl
@[simp] theorem modTime_mem (s : State) (f : TimeU → TimeU) : (s.modTime f).mem = s.mem := rfl
@[simp] theorem modTime_free (s : State) (f : TimeU → TimeU) : (s.modTime f).free = s.free := rfl
@[simp] theorem modTime_rdata (s : State) (f : TimeU → TimeU) : (s.modTime f).rdata = s.rdata := rfl
@[simp] theorem modTime_flt (s : State) (f : TimeU → TimeU) : (s.modTime f).flt = s.flt := rfl
@[simp] theorem modTime_evl (s : State) (f : TimeU → TimeU) : (s.modTime f).evl = s.evl := rfl
@[simp] theorem modTime_vault (s : State) (f : TimeU → TimeU) : (s.modTime f).vault = s.vault := rfl
@[simp] theorem modTime_sched (s : State) (f : TimeU → TimeU) : (s.modTime f).sched = s.sched := rfl
@[simp] theorem modTime_scan (s : State) (f : TimeU → TimeU) : (s.modTime f).scan = s.scan := rfl
@[simp] theorem modTime_boot (s : State) (f : TimeU → TimeU) : (s.modTime f).boot = s.boot := rfl
@[simp] theorem modTime_jnl (s : State) (f : TimeU → TimeU) : (s.modTime f).jnl = s.jnl := rfl
@[simp] theorem modTime_sys (s : State) (f : TimeU → TimeU) : (s.modTime f).sys = s.sys := rfl
@[simp] theorem modTime_part (s : State) (f : TimeU → TimeU) : (s.modTime f).part = s.part := rfl
@[simp] theorem modTime_fw (s : State) (f : TimeU → TimeU) : (s.modTime f).fw = s.fw := rfl
@[simp] theorem modTime_safe (s : State) (f : TimeU → TimeU) : (s.modTime f).safe = s.safe := rfl
@[simp] theorem modTime_cores (s : State) (f : TimeU → TimeU) : (s.modTime f).cores = s.cores := rfl
@[simp] theorem modTime_out (s : State) (f : TimeU → TimeU) : (s.modTime f).out = s.out := rfl
@[simp] theorem modTime_lgs (s : State) (f : TimeU → TimeU) : (s.modTime f).lgs = s.lgs := rfl
@[simp] theorem modTime_chans (s : State) (f : TimeU → TimeU) : (s.modTime f).chans = s.chans := rfl
@[simp] theorem modTime_clusters (s : State) (f : TimeU → TimeU) : (s.modTime f).clusters = s.clusters := rfl
@[simp] theorem modTime_dies (s : State) (f : TimeU → TimeU) : (s.modTime f).dies = s.dies := rfl
@[simp] theorem modTime_regions (s : State) (f : TimeU → TimeU) : (s.modTime f).regions = s.regions := rfl
@[simp] theorem modTime_ilm (s : State) (f : TimeU → TimeU) : (s.modTime f).ilm = s.ilm := rfl
@[simp] theorem modTime_axes (s : State) (f : TimeU → TimeU) : (s.modTime f).axes = s.axes := rfl
@[simp] theorem modTime_engines (s : State) (f : TimeU → TimeU) : (s.modTime f).engines = s.engines := rfl
@[simp] theorem modTime_slots (s : State) (f : TimeU → TimeU) : (s.modTime f).slots = s.slots := rfl
@[simp] theorem modTime_seqs (s : State) (f : TimeU → TimeU) : (s.modTime f).seqs = s.seqs := rfl
@[simp] theorem modTime_recu (s : State) (f : TimeU → TimeU) : (s.modTime f).recu = s.recu := rfl
@[simp] theorem modTime_cans (s : State) (f : TimeU → TimeU) : (s.modTime f).cans = s.cans := rfl
@[simp] theorem modTime_cbus (s : State) (f : TimeU → TimeU) : (s.modTime f).cbus = s.cbus := rfl
@[simp] theorem modTime_sessions (s : State) (f : TimeU → TimeU) : (s.modTime f).sessions = s.sessions := rfl
@[simp] theorem modTime_secu (s : State) (f : TimeU → TimeU) : (s.modTime f).secu = s.secu := rfl
@[simp] theorem modTime_links (s : State) (f : TimeU → TimeU) : (s.modTime f).links = s.links := rfl
@[simp] theorem modTime_copies (s : State) (f : TimeU → TimeU) : (s.modTime f).copies = s.copies := rfl
@[simp] theorem modTime_outbox (s : State) (f : TimeU → TimeU) : (s.modTime f).outbox = s.outbox := rfl

/-! ### modRec -/

@[simp] theorem modRec_pending (s : State) (f : RecU → RecU) : (s.modRec f).pending = s.pending := rfl
@[simp] theorem modRec_tbc (s : State) (f : RecU → RecU) : (s.modRec f).tbc = s.tbc := rfl
@[simp] theorem modRec_regs (s : State) (f : RecU → RecU) : (s.modRec f).regs = s.regs := rfl
@[simp] theorem modRec_mem (s : State) (f : RecU → RecU) : (s.modRec f).mem = s.mem := rfl
@[simp] theorem modRec_free (s : State) (f : RecU → RecU) : (s.modRec f).free = s.free := rfl
@[simp] theorem modRec_rdata (s : State) (f : RecU → RecU) : (s.modRec f).rdata = s.rdata := rfl
@[simp] theorem modRec_time (s : State) (f : RecU → RecU) : (s.modRec f).time = s.time := rfl
@[simp] theorem modRec_flt (s : State) (f : RecU → RecU) : (s.modRec f).flt = s.flt := rfl
@[simp] theorem modRec_evl (s : State) (f : RecU → RecU) : (s.modRec f).evl = s.evl := rfl
@[simp] theorem modRec_vault (s : State) (f : RecU → RecU) : (s.modRec f).vault = s.vault := rfl
@[simp] theorem modRec_sched (s : State) (f : RecU → RecU) : (s.modRec f).sched = s.sched := rfl
@[simp] theorem modRec_scan (s : State) (f : RecU → RecU) : (s.modRec f).scan = s.scan := rfl
@[simp] theorem modRec_boot (s : State) (f : RecU → RecU) : (s.modRec f).boot = s.boot := rfl
@[simp] theorem modRec_jnl (s : State) (f : RecU → RecU) : (s.modRec f).jnl = s.jnl := rfl
@[simp] theorem modRec_sys (s : State) (f : RecU → RecU) : (s.modRec f).sys = s.sys := rfl
@[simp] theorem modRec_part (s : State) (f : RecU → RecU) : (s.modRec f).part = s.part := rfl
@[simp] theorem modRec_fw (s : State) (f : RecU → RecU) : (s.modRec f).fw = s.fw := rfl
@[simp] theorem modRec_safe (s : State) (f : RecU → RecU) : (s.modRec f).safe = s.safe := rfl
@[simp] theorem modRec_cores (s : State) (f : RecU → RecU) : (s.modRec f).cores = s.cores := rfl
@[simp] theorem modRec_out (s : State) (f : RecU → RecU) : (s.modRec f).out = s.out := rfl
@[simp] theorem modRec_lgs (s : State) (f : RecU → RecU) : (s.modRec f).lgs = s.lgs := rfl
@[simp] theorem modRec_chans (s : State) (f : RecU → RecU) : (s.modRec f).chans = s.chans := rfl
@[simp] theorem modRec_clusters (s : State) (f : RecU → RecU) : (s.modRec f).clusters = s.clusters := rfl
@[simp] theorem modRec_dies (s : State) (f : RecU → RecU) : (s.modRec f).dies = s.dies := rfl
@[simp] theorem modRec_regions (s : State) (f : RecU → RecU) : (s.modRec f).regions = s.regions := rfl
@[simp] theorem modRec_ilm (s : State) (f : RecU → RecU) : (s.modRec f).ilm = s.ilm := rfl
@[simp] theorem modRec_axes (s : State) (f : RecU → RecU) : (s.modRec f).axes = s.axes := rfl
@[simp] theorem modRec_engines (s : State) (f : RecU → RecU) : (s.modRec f).engines = s.engines := rfl
@[simp] theorem modRec_slots (s : State) (f : RecU → RecU) : (s.modRec f).slots = s.slots := rfl
@[simp] theorem modRec_seqs (s : State) (f : RecU → RecU) : (s.modRec f).seqs = s.seqs := rfl
@[simp] theorem modRec_cans (s : State) (f : RecU → RecU) : (s.modRec f).cans = s.cans := rfl
@[simp] theorem modRec_cbus (s : State) (f : RecU → RecU) : (s.modRec f).cbus = s.cbus := rfl
@[simp] theorem modRec_sessions (s : State) (f : RecU → RecU) : (s.modRec f).sessions = s.sessions := rfl
@[simp] theorem modRec_secu (s : State) (f : RecU → RecU) : (s.modRec f).secu = s.secu := rfl
@[simp] theorem modRec_links (s : State) (f : RecU → RecU) : (s.modRec f).links = s.links := rfl
@[simp] theorem modRec_copies (s : State) (f : RecU → RecU) : (s.modRec f).copies = s.copies := rfl
@[simp] theorem modRec_outbox (s : State) (f : RecU → RecU) : (s.modRec f).outbox = s.outbox := rfl

/-! ### modCbus -/

@[simp] theorem modCbus_pending (s : State) (f : CbusU → CbusU) : (s.modCbus f).pending = s.pending := rfl
@[simp] theorem modCbus_tbc (s : State) (f : CbusU → CbusU) : (s.modCbus f).tbc = s.tbc := rfl
@[simp] theorem modCbus_regs (s : State) (f : CbusU → CbusU) : (s.modCbus f).regs = s.regs := rfl
@[simp] theorem modCbus_mem (s : State) (f : CbusU → CbusU) : (s.modCbus f).mem = s.mem := rfl
@[simp] theorem modCbus_free (s : State) (f : CbusU → CbusU) : (s.modCbus f).free = s.free := rfl
@[simp] theorem modCbus_rdata (s : State) (f : CbusU → CbusU) : (s.modCbus f).rdata = s.rdata := rfl
@[simp] theorem modCbus_time (s : State) (f : CbusU → CbusU) : (s.modCbus f).time = s.time := rfl
@[simp] theorem modCbus_flt (s : State) (f : CbusU → CbusU) : (s.modCbus f).flt = s.flt := rfl
@[simp] theorem modCbus_evl (s : State) (f : CbusU → CbusU) : (s.modCbus f).evl = s.evl := rfl
@[simp] theorem modCbus_vault (s : State) (f : CbusU → CbusU) : (s.modCbus f).vault = s.vault := rfl
@[simp] theorem modCbus_sched (s : State) (f : CbusU → CbusU) : (s.modCbus f).sched = s.sched := rfl
@[simp] theorem modCbus_scan (s : State) (f : CbusU → CbusU) : (s.modCbus f).scan = s.scan := rfl
@[simp] theorem modCbus_boot (s : State) (f : CbusU → CbusU) : (s.modCbus f).boot = s.boot := rfl
@[simp] theorem modCbus_jnl (s : State) (f : CbusU → CbusU) : (s.modCbus f).jnl = s.jnl := rfl
@[simp] theorem modCbus_sys (s : State) (f : CbusU → CbusU) : (s.modCbus f).sys = s.sys := rfl
@[simp] theorem modCbus_part (s : State) (f : CbusU → CbusU) : (s.modCbus f).part = s.part := rfl
@[simp] theorem modCbus_fw (s : State) (f : CbusU → CbusU) : (s.modCbus f).fw = s.fw := rfl
@[simp] theorem modCbus_safe (s : State) (f : CbusU → CbusU) : (s.modCbus f).safe = s.safe := rfl
@[simp] theorem modCbus_cores (s : State) (f : CbusU → CbusU) : (s.modCbus f).cores = s.cores := rfl
@[simp] theorem modCbus_out (s : State) (f : CbusU → CbusU) : (s.modCbus f).out = s.out := rfl
@[simp] theorem modCbus_lgs (s : State) (f : CbusU → CbusU) : (s.modCbus f).lgs = s.lgs := rfl
@[simp] theorem modCbus_chans (s : State) (f : CbusU → CbusU) : (s.modCbus f).chans = s.chans := rfl
@[simp] theorem modCbus_clusters (s : State) (f : CbusU → CbusU) : (s.modCbus f).clusters = s.clusters := rfl
@[simp] theorem modCbus_dies (s : State) (f : CbusU → CbusU) : (s.modCbus f).dies = s.dies := rfl
@[simp] theorem modCbus_regions (s : State) (f : CbusU → CbusU) : (s.modCbus f).regions = s.regions := rfl
@[simp] theorem modCbus_ilm (s : State) (f : CbusU → CbusU) : (s.modCbus f).ilm = s.ilm := rfl
@[simp] theorem modCbus_axes (s : State) (f : CbusU → CbusU) : (s.modCbus f).axes = s.axes := rfl
@[simp] theorem modCbus_engines (s : State) (f : CbusU → CbusU) : (s.modCbus f).engines = s.engines := rfl
@[simp] theorem modCbus_slots (s : State) (f : CbusU → CbusU) : (s.modCbus f).slots = s.slots := rfl
@[simp] theorem modCbus_seqs (s : State) (f : CbusU → CbusU) : (s.modCbus f).seqs = s.seqs := rfl
@[simp] theorem modCbus_recu (s : State) (f : CbusU → CbusU) : (s.modCbus f).recu = s.recu := rfl
@[simp] theorem modCbus_cans (s : State) (f : CbusU → CbusU) : (s.modCbus f).cans = s.cans := rfl
@[simp] theorem modCbus_sessions (s : State) (f : CbusU → CbusU) : (s.modCbus f).sessions = s.sessions := rfl
@[simp] theorem modCbus_secu (s : State) (f : CbusU → CbusU) : (s.modCbus f).secu = s.secu := rfl
@[simp] theorem modCbus_links (s : State) (f : CbusU → CbusU) : (s.modCbus f).links = s.links := rfl
@[simp] theorem modCbus_copies (s : State) (f : CbusU → CbusU) : (s.modCbus f).copies = s.copies := rfl
@[simp] theorem modCbus_outbox (s : State) (f : CbusU → CbusU) : (s.modCbus f).outbox = s.outbox := rfl

/-! ### setBytes -/

@[simp] theorem setBytes_pending (s : State) (a n v : Nat) : (s.setBytes a n v).pending = s.pending := by rw [setBytes_eq]
@[simp] theorem setBytes_tbc (s : State) (a n v : Nat) : (s.setBytes a n v).tbc = s.tbc := by rw [setBytes_eq]
@[simp] theorem setBytes_regs (s : State) (a n v : Nat) : (s.setBytes a n v).regs = s.regs := by rw [setBytes_eq]
@[simp] theorem setBytes_free (s : State) (a n v : Nat) : (s.setBytes a n v).free = s.free := by rw [setBytes_eq]
@[simp] theorem setBytes_rdata (s : State) (a n v : Nat) : (s.setBytes a n v).rdata = s.rdata := by rw [setBytes_eq]
@[simp] theorem setBytes_time (s : State) (a n v : Nat) : (s.setBytes a n v).time = s.time := by rw [setBytes_eq]
@[simp] theorem setBytes_flt (s : State) (a n v : Nat) : (s.setBytes a n v).flt = s.flt := by rw [setBytes_eq]
@[simp] theorem setBytes_evl (s : State) (a n v : Nat) : (s.setBytes a n v).evl = s.evl := by rw [setBytes_eq]
@[simp] theorem setBytes_vault (s : State) (a n v : Nat) : (s.setBytes a n v).vault = s.vault := by rw [setBytes_eq]
@[simp] theorem setBytes_sched (s : State) (a n v : Nat) : (s.setBytes a n v).sched = s.sched := by rw [setBytes_eq]
@[simp] theorem setBytes_scan (s : State) (a n v : Nat) : (s.setBytes a n v).scan = s.scan := by rw [setBytes_eq]
@[simp] theorem setBytes_boot (s : State) (a n v : Nat) : (s.setBytes a n v).boot = s.boot := by rw [setBytes_eq]
@[simp] theorem setBytes_jnl (s : State) (a n v : Nat) : (s.setBytes a n v).jnl = s.jnl := by rw [setBytes_eq]
@[simp] theorem setBytes_sys (s : State) (a n v : Nat) : (s.setBytes a n v).sys = s.sys := by rw [setBytes_eq]
@[simp] theorem setBytes_part (s : State) (a n v : Nat) : (s.setBytes a n v).part = s.part := by rw [setBytes_eq]
@[simp] theorem setBytes_fw (s : State) (a n v : Nat) : (s.setBytes a n v).fw = s.fw := by rw [setBytes_eq]
@[simp] theorem setBytes_safe (s : State) (a n v : Nat) : (s.setBytes a n v).safe = s.safe := by rw [setBytes_eq]
@[simp] theorem setBytes_cores (s : State) (a n v : Nat) : (s.setBytes a n v).cores = s.cores := by rw [setBytes_eq]
@[simp] theorem setBytes_out (s : State) (a n v : Nat) : (s.setBytes a n v).out = s.out := by rw [setBytes_eq]
@[simp] theorem setBytes_lgs (s : State) (a n v : Nat) : (s.setBytes a n v).lgs = s.lgs := by rw [setBytes_eq]
@[simp] theorem setBytes_chans (s : State) (a n v : Nat) : (s.setBytes a n v).chans = s.chans := by rw [setBytes_eq]
@[simp] theorem setBytes_clusters (s : State) (a n v : Nat) : (s.setBytes a n v).clusters = s.clusters := by rw [setBytes_eq]
@[simp] theorem setBytes_dies (s : State) (a n v : Nat) : (s.setBytes a n v).dies = s.dies := by rw [setBytes_eq]
@[simp] theorem setBytes_regions (s : State) (a n v : Nat) : (s.setBytes a n v).regions = s.regions := by rw [setBytes_eq]
@[simp] theorem setBytes_ilm (s : State) (a n v : Nat) : (s.setBytes a n v).ilm = s.ilm := by rw [setBytes_eq]
@[simp] theorem setBytes_axes (s : State) (a n v : Nat) : (s.setBytes a n v).axes = s.axes := by rw [setBytes_eq]
@[simp] theorem setBytes_engines (s : State) (a n v : Nat) : (s.setBytes a n v).engines = s.engines := by rw [setBytes_eq]
@[simp] theorem setBytes_slots (s : State) (a n v : Nat) : (s.setBytes a n v).slots = s.slots := by rw [setBytes_eq]
@[simp] theorem setBytes_seqs (s : State) (a n v : Nat) : (s.setBytes a n v).seqs = s.seqs := by rw [setBytes_eq]
@[simp] theorem setBytes_recu (s : State) (a n v : Nat) : (s.setBytes a n v).recu = s.recu := by rw [setBytes_eq]
@[simp] theorem setBytes_cans (s : State) (a n v : Nat) : (s.setBytes a n v).cans = s.cans := by rw [setBytes_eq]
@[simp] theorem setBytes_cbus (s : State) (a n v : Nat) : (s.setBytes a n v).cbus = s.cbus := by rw [setBytes_eq]
@[simp] theorem setBytes_sessions (s : State) (a n v : Nat) : (s.setBytes a n v).sessions = s.sessions := by rw [setBytes_eq]
@[simp] theorem setBytes_secu (s : State) (a n v : Nat) : (s.setBytes a n v).secu = s.secu := by rw [setBytes_eq]
@[simp] theorem setBytes_links (s : State) (a n v : Nat) : (s.setBytes a n v).links = s.links := by rw [setBytes_eq]
@[simp] theorem setBytes_copies (s : State) (a n v : Nat) : (s.setBytes a n v).copies = s.copies := by rw [setBytes_eq]
@[simp] theorem setBytes_outbox (s : State) (a n v : Nat) : (s.setBytes a n v).outbox = s.outbox := by rw [setBytes_eq]

/-! ### setWord -/

@[simp] theorem setWord_pending (s : State) (a : Nat) (v : Word) : (s.setWord a v).pending = s.pending := by unfold State.setWord; rw [setBytes_eq]
@[simp] theorem setWord_tbc (s : State) (a : Nat) (v : Word) : (s.setWord a v).tbc = s.tbc := by unfold State.setWord; rw [setBytes_eq]
@[simp] theorem setWord_regs (s : State) (a : Nat) (v : Word) : (s.setWord a v).regs = s.regs := by unfold State.setWord; rw [setBytes_eq]
@[simp] theorem setWord_free (s : State) (a : Nat) (v : Word) : (s.setWord a v).free = s.free := by unfold State.setWord; rw [setBytes_eq]
@[simp] theorem setWord_rdata (s : State) (a : Nat) (v : Word) : (s.setWord a v).rdata = s.rdata := by unfold State.setWord; rw [setBytes_eq]
@[simp] theorem setWord_time (s : State) (a : Nat) (v : Word) : (s.setWord a v).time = s.time := by unfold State.setWord; rw [setBytes_eq]
@[simp] theorem setWord_flt (s : State) (a : Nat) (v : Word) : (s.setWord a v).flt = s.flt := by unfold State.setWord; rw [setBytes_eq]
@[simp] theorem setWord_evl (s : State) (a : Nat) (v : Word) : (s.setWord a v).evl = s.evl := by unfold State.setWord; rw [setBytes_eq]
@[simp] theorem setWord_vault (s : State) (a : Nat) (v : Word) : (s.setWord a v).vault = s.vault := by unfold State.setWord; rw [setBytes_eq]
@[simp] theorem setWord_sched (s : State) (a : Nat) (v : Word) : (s.setWord a v).sched = s.sched := by unfold State.setWord; rw [setBytes_eq]
@[simp] theorem setWord_scan (s : State) (a : Nat) (v : Word) : (s.setWord a v).scan = s.scan := by unfold State.setWord; rw [setBytes_eq]
@[simp] theorem setWord_boot (s : State) (a : Nat) (v : Word) : (s.setWord a v).boot = s.boot := by unfold State.setWord; rw [setBytes_eq]
@[simp] theorem setWord_jnl (s : State) (a : Nat) (v : Word) : (s.setWord a v).jnl = s.jnl := by unfold State.setWord; rw [setBytes_eq]
@[simp] theorem setWord_sys (s : State) (a : Nat) (v : Word) : (s.setWord a v).sys = s.sys := by unfold State.setWord; rw [setBytes_eq]
@[simp] theorem setWord_part (s : State) (a : Nat) (v : Word) : (s.setWord a v).part = s.part := by unfold State.setWord; rw [setBytes_eq]
@[simp] theorem setWord_fw (s : State) (a : Nat) (v : Word) : (s.setWord a v).fw = s.fw := by unfold State.setWord; rw [setBytes_eq]
@[simp] theorem setWord_safe (s : State) (a : Nat) (v : Word) : (s.setWord a v).safe = s.safe := by unfold State.setWord; rw [setBytes_eq]
@[simp] theorem setWord_cores (s : State) (a : Nat) (v : Word) : (s.setWord a v).cores = s.cores := by unfold State.setWord; rw [setBytes_eq]
@[simp] theorem setWord_out (s : State) (a : Nat) (v : Word) : (s.setWord a v).out = s.out := by unfold State.setWord; rw [setBytes_eq]
@[simp] theorem setWord_lgs (s : State) (a : Nat) (v : Word) : (s.setWord a v).lgs = s.lgs := by unfold State.setWord; rw [setBytes_eq]
@[simp] theorem setWord_chans (s : State) (a : Nat) (v : Word) : (s.setWord a v).chans = s.chans := by unfold State.setWord; rw [setBytes_eq]
@[simp] theorem setWord_clusters (s : State) (a : Nat) (v : Word) : (s.setWord a v).clusters = s.clusters := by unfold State.setWord; rw [setBytes_eq]
@[simp] theorem setWord_dies (s : State) (a : Nat) (v : Word) : (s.setWord a v).dies = s.dies := by unfold State.setWord; rw [setBytes_eq]
@[simp] theorem setWord_regions (s : State) (a : Nat) (v : Word) : (s.setWord a v).regions = s.regions := by unfold State.setWord; rw [setBytes_eq]
@[simp] theorem setWord_ilm (s : State) (a : Nat) (v : Word) : (s.setWord a v).ilm = s.ilm := by unfold State.setWord; rw [setBytes_eq]
@[simp] theorem setWord_axes (s : State) (a : Nat) (v : Word) : (s.setWord a v).axes = s.axes := by unfold State.setWord; rw [setBytes_eq]
@[simp] theorem setWord_engines (s : State) (a : Nat) (v : Word) : (s.setWord a v).engines = s.engines := by unfold State.setWord; rw [setBytes_eq]
@[simp] theorem setWord_slots (s : State) (a : Nat) (v : Word) : (s.setWord a v).slots = s.slots := by unfold State.setWord; rw [setBytes_eq]
@[simp] theorem setWord_seqs (s : State) (a : Nat) (v : Word) : (s.setWord a v).seqs = s.seqs := by unfold State.setWord; rw [setBytes_eq]
@[simp] theorem setWord_recu (s : State) (a : Nat) (v : Word) : (s.setWord a v).recu = s.recu := by unfold State.setWord; rw [setBytes_eq]
@[simp] theorem setWord_cans (s : State) (a : Nat) (v : Word) : (s.setWord a v).cans = s.cans := by unfold State.setWord; rw [setBytes_eq]
@[simp] theorem setWord_cbus (s : State) (a : Nat) (v : Word) : (s.setWord a v).cbus = s.cbus := by unfold State.setWord; rw [setBytes_eq]
@[simp] theorem setWord_sessions (s : State) (a : Nat) (v : Word) : (s.setWord a v).sessions = s.sessions := by unfold State.setWord; rw [setBytes_eq]
@[simp] theorem setWord_secu (s : State) (a : Nat) (v : Word) : (s.setWord a v).secu = s.secu := by unfold State.setWord; rw [setBytes_eq]
@[simp] theorem setWord_links (s : State) (a : Nat) (v : Word) : (s.setWord a v).links = s.links := by unfold State.setWord; rw [setBytes_eq]
@[simp] theorem setWord_copies (s : State) (a : Nat) (v : Word) : (s.setWord a v).copies = s.copies := by unfold State.setWord; rw [setBytes_eq]
@[simp] theorem setWord_outbox (s : State) (a : Nat) (v : Word) : (s.setWord a v).outbox = s.outbox := by unfold State.setWord; rw [setBytes_eq]

/-! ### What an entry reads after an update of one -/

@[simp] theorem core_modCore (s : State) (n : Nat) (f : Core → Core) (k : Nat) :
    (s.modCore n f).core k = if n = k then f (s.core n) else s.core k := tget_tmod ..
@[simp] theorem src_modSrc (s : State) (n : Nat) (f : FltSrc → FltSrc) (k : Nat) :
    (s.modSrc n f).src k = if n = k then f (s.src n) else s.src k := tget_tmod ..
@[simp] theorem chan_modChan (s : State) (n : Nat) (f : Chan → Chan) (k : Nat) :
    (s.modChan n f).chan k = if n = k then f (s.chan n) else s.chan k := tget_tmod ..
@[simp] theorem cluster_modCluster (s : State) (n : Nat) (f : Cluster → Cluster) (k : Nat) :
    (s.modCluster n f).cluster k = if n = k then f (s.cluster n) else s.cluster k := tget_tmod ..
@[simp] theorem die_modDie (s : State) (n : Nat) (f : Die → Die) (k : Nat) :
    (s.modDie n f).die k = if n = k then f (s.die n) else s.die k := tget_tmod ..
@[simp] theorem regionU_modRegion (s : State) (n : Nat) (f : RegionU → RegionU) (k : Nat) :
    (s.modRegion n f).regionU k = if n = k then f (s.regionU n) else s.regionU k := tget_tmod ..
@[simp] theorem lg_modLg (s : State) (n : Nat) (f : LockGrp → LockGrp) (k : Nat) :
    (s.modLg n f).lg k = if n = k then f (s.lg n) else s.lg k := tget_tmod ..
@[simp] theorem axis_modAxis (s : State) (n : Nat) (f : Axis → Axis) (k : Nat) :
    (s.modAxis n f).axis k = if n = k then f (s.axis n) else s.axis k := tget_tmod ..
@[simp] theorem engine_modEngine (s : State) (n : Nat) (f : Engine → Engine) (k : Nat) :
    (s.modEngine n f).engine k = if n = k then f (s.engine n) else s.engine k := tget_tmod ..
@[simp] theorem slot_modSlot (s : State) (n : Nat) (f : Slot → Slot) (k : Nat) :
    (s.modSlot n f).slot k = if n = k then f (s.slot n) else s.slot k := tget_tmod ..
@[simp] theorem session_modSession (s : State) (n : Nat) (f : Session → Session) (k : Nat) :
    (s.modSession n f).session k = if n = k then f (s.session n) else s.session k := tget_tmod ..
@[simp] theorem link_modLink (s : State) (n : Nat) (f : Link → Link) (k : Nat) :
    (s.modLink n f).link k = if n = k then f (s.link n) else s.link k := tget_tmod ..
@[simp] theorem sbc_modSbc (s : State) (n : Nat) (f : Sbc → Sbc) (k : Nat) :
    (s.modSbc n f).sbc k = if n = k then f (s.sbc n) else s.sbc k := tget_tmod ..
@[simp] theorem pair_modPair (s : State) (n : Nat) (f : Pair → Pair) (k : Nat) :
    (s.modPair n f).pair k = if n = k then f (s.pair n) else s.pair k := tget_tmod ..
@[simp] theorem dom_modDom (s : State) (n : Nat) (f : Domain → Domain) (k : Nat) :
    (s.modDom n f).dom k = if n = k then f (s.dom n) else s.dom k := tget_tmod ..
@[simp] theorem strm_modStrm (s : State) (n : Nat) (f : Strm → Strm) (k : Nat) :
    (s.modStrm n f).strm k = if n = k then f (s.strm n) else s.strm k := tget_tmod ..
@[simp] theorem unit_modUnit (s : State) (n : Nat) (f : Unit_ → Unit_) (k : Nat) :
    (s.modUnit n f).unit k = if n = k then f (s.unit n) else s.unit k := tget_tmod ..
@[simp] theorem seq_modSeq (s : State) (n : Nat) (f : Seq → Seq) (k : Nat) :
    (s.modSeq n f).seq k = if n = k then f (s.seq n) else s.seq k := tget_tmod ..
@[simp] theorem can_modCan (s : State) (n : Nat) (f : CanU → CanU) (k : Nat) :
    (s.modCan n f).can k = if n = k then f (s.can n) else s.can k := tget_tmod ..

end Sys2Proof.Machine
end

