-- ==== Sys2Proof/Tests/Slice0.lean ====
section
/-!
SUPPORT. Tests: ill-formed commands, single steps with results from the spec's tables and by hand, and for each statement a
witness of its hypotheses.
-/

set_option linter.all false
set_option Elab.async false

open Sys2Proof Sys2Proof.Machine

namespace Sys2Proof.Tests

/-! ### States -/

/-- In mode `m`. -/
def atMode (m : Nat) (s : State) : State := s.setFld F.SYS_MODE_MODE m

/-- A small program: event task 5, cyclic task 6, which owns image word 100. -/
def prog : Program :=
  { hash := 7
    tasks := [{ num := 5, kind := .event, prio := 10, entry := 0x500000 }, { num := 6, period := 1000, entry := 0x500100 }]
    owns := [{ word := 100, task := 6, mask := 0xFFFFFFFF }, { word := 100, task := 5, mask := 0 }] }

/-- In mode `m` with the small program. -/
def loaded (m : Nat) : State :=
  atMode m { State.reset with scan := { State.reset.scan with program := some prog } }

/-- Core 2 with some register values, in system privilege. -/
def core2 : Core :=
  { w := [(1, 0x80000000), (2, 0xFFFFFFFF), (3, 7), (4, 0x12345678), (5, 0x9ABCDEF0), (6, 3), (8, 0x400000), (9, 0x400010), (10, 5), (11, 6)],
    pc := 0x1000, fl := 0x11F, estat := 0x1F3, epc := 0x40, vbase := 0x8000, taskId := 5, taskDt := 7, tbcHi := 9 }

/-- Core 2 in system code. -/
def ready : State := { State.reset with cores := [(2, core2)], tbc := 0x123456789AB }

/-- Core 2 in an execution of task 6. -/
def running (m : Nat) : State :=
  { loaded m with
    cores := [(2, { core2 with fl := 0x003, pc := 0x500100 })], tbc := 5000000,
    scan := { (loaded m).scan with execs := [(2, { task := 6, start := 4900000, dt := 7, snap := [(400, 0x78), (401, 0x56)] })] } }

/-- `ready` with instances at 0x400000 and 0x400010, of the type given. -/
def instances (ty : Nat) : State :=
  (((ready.setWord 0x400000 100).setWord 0x400004 97).setWord 0x400008 (BitVec.ofNat 32 (256 * ty + 5))).setWord 0x400010 1

/-- Engine 1 with a running activation of slot 70 (its slot 6), some registers and two lanes. -/
def act1 : Act :=
  { slot := 70, set := 2, pc := 20, lm := 5, lc := 3, cyc := 9,
    d := [(0, 0x4000), (1, 0x8000), (4, 0x7FFF), (5, 0x8000), (16, 0x1234), (17, 0xFFFF), (20, 0x8000)],
    a := [(0, 0x7FFFFFFFFF), (1, -0x8000), (8, -0x8000000000), (9, 98304)],
    ix := [(4, 300), (1, 9)], ixcfg := [(4, 0x100000 + 0x400), (1, 0x401)] }

def looping : State :=
  { State.reset with engines := [(1, { stack := [act1], busyWin := 0 })], tbc := 700 }

/-- A channel that runs. -/
def an : State := let s := atMode 3 State.reset; {(((s.setFld (F.CH_CFG_AIN_EN 3) 1).setFld (F.CL_STAT_REF_SETTLED 0) 1).setFld (F.CH_STAT_AVAIL 3) 1) with tbc := 5000000, dies := [(0, {viso := true})]}
/-- A channel that runs. -/
def an2 (c : Chan) : State := {an with chans := [(3, c)]}

/-! ### WellFormed: for each check a term that it alone refuses, beside a term it lets pass -/

/-- Every one of the commands is refused. -/
def ill (l : List Instr) : Bool := l.all fun i => !i.wf

theorem test_wf_measurements : ill [.dieTempMeasure 0 32768, .dieTempMeasure 0 (-32769), .conversion 0 524288 0 false,
    .conversion 0 0 (-524289) false, .refMonitor 0 (2 ^ 24), .certPointComplete 0 524288] = true ∧
    ([.dieTempMeasure 0 32767, .conversion 0 524287 (-524288) true, .refMonitor 0 (2 ^ 24 - 1), .certPointComplete 0 (-524288)] : List Instr).all Instr.wf = true := by
  decide +kernel

theorem test_wf_dawn : ill [.suppliesValid {serLocks := 16}, .suppliesValid {visoAbsent := [4]}, .suppliesValid {vfldAbsent := [8]},
    .suppliesValid {sealFails := [(4, 0)]}, .suppliesValid {sealFails := [(0, 2)]}, .suppliesValid {jnlOk := 4}, .suppliesValid {netUp := 4},
    .suppliesValid {delays := [0, 0, 0]}, .suppliesValid {delays := [0, 256, 0, 0]}, .coreCooled {serLocks := 16},
    .suppliesValid {jnlBad := [(2, 0)]}, .suppliesValid {jnlBad := [(0, 2 ^ 64)]}, .suppliesValid {recBad := [(55, 0)]}, .suppliesValid {recBad := [(0, 2)]},
    .dawnComplete [(16, 0, 0, 0)] true true, .dawnComplete [(0, 2 ^ 32, 0, 0)] true true, .dawnComplete [(0, 0, 2 ^ 64, 0)] true true,
    .dawnComplete [(0, 0, 0, 2 ^ 24)] true true] = true ∧
    ([.suppliesValid {}, .coreCooled {}, .dawnComplete [(15, 0, 0, 0)] true true] : List Instr).all Instr.wf = true := by decide +kernel

theorem test_wf_partner : ill [.plnkDeltaReceive 5 4 [] {}, .plnkDeltaReceive 0 (2 ^ 64) [] {}, .plnkDeltaReceive 0 0 [(2, 0)] {},
    .plnkDeltaReceive 0 0 [(2 ^ 40, 0)] {}, .plnkDeltaReceive 0 0 [] {seqs := [(32, 0, 0, 0, 0)]}, .plnkDeltaReceive 0 0 [] {seqs := [(0, 16, 0, 0, 0)]},
    .plnkDeltaReceive 0 0 [] {seqs := [(0, 0, 4096, 0, 0)]}, .plnkDeltaReceive 0 0 [] {seqs := [(0, 0, 0, 65536, 0)]}, .plnkDeltaReceive 0 0 [] {seqs := [(0, 0, 0, 0, 2 ^ 64)]},
    .plnkDeltaReceive 0 0 [] {hash := 2 ^ 384}, .plnkDeltaReceive 0 0 [] {ramps := [(32, [])]}, .plnkDeltaReceive 0 0 [] {halves := [(2 ^ 40, 0)]},
    .plnkDeltaReceive 0 0 [] {halves := [(0, 65536)]}, .plnkDeltaReceive 0 0 [] {axes := [(128, {})]}, .plnkDeltaReceive 0 0 [] {axes := [(0, {act := 2 ^ 47})]},
    .plnkDeltaReceive 0 0 [] {axes := [(0, {rem := -(2 ^ 47) - 1})]}, .plnkDeltaReceive 0 0 [] {axes := [(0, {st := 8})]},
    .plnkDeltaReceive 0 0 [] {axes := [(0, {cause := 8})]}, .plnkDeltaReceive 0 0 [] {srcs := [(512, {})]}, .plnkDeltaReceive 0 0 [] {drops := [(0, 2 ^ 32)]},
    .plnkSnapshotReceive 0 [(1, 0)], .heartbeatReceive 0 (some (2 ^ 384))] = true ∧
    ([.plnkDeltaReceive 4 4 [(8, 1)] {seqs := [(31, 3, 4095, 1, 0)], hash := 7, halves := [(2, 65535)], axes := [(127, {act := -5, st := 7})], srcs := [(511, {})]},
      .plnkSnapshotReceive 0 [(4, 0)], .heartbeatReceive 0 none] : List Instr).all Instr.wf = true := by
  decide +kernel

theorem test_wf_images : ill [.loadImage 0 (2 ^ 64) true 0 0 4 4 none, .loadImage 0 0 true 5 0 4 4 none, .loadImage 0 0 true 0 0 (2 ^ 32) 4 none,
    .loadImage 0 0 true 0 1 4 4 none, .loadImage 0 0 true 0 0 2000 1025 none, .loadImage 0 0 true 1 0 4 4 (some (.firmware {})),
    .loadImage 0 0 true 0 0 4 4 (some (.program {})), .loadImage 0 0 true 0 0 4 4 (some (.config [] 0)), .loadImage 0 0 true 0 0 4 4 (some (.calibration [] 0)),
    .loadImage 0 0 true 4 0 4 4 (some (.keyRequest 0)), .loadImage 0 0 true 4 0 4 4 (some (.keyRequest 9)), .loadImage 0 0 true 0 0 4 4 (some (.keyRequest 1)),
    .verificationComplete {vres := 16}, .verificationComplete {signer := 256}, .verificationComplete {ctr := 65}, .verificationComplete {svn := 65},
    .calibrationComplete 0 [(8, 0, 0, 0)], .calibrationComplete 0 [(0, 5, 0, 0)]] = true ∧
    ([.loadImage 0 0 true 4 0 1024 1024 (some (.keyRequest 8)), .verificationComplete {ctr := 64, svn := 64}, .calibrationComplete 0 [(7, 4, 0, 0)]] :
      List Instr).all Instr.wf = true := by decide +kernel

theorem test_wf_triggers : ill [.triggerEvaluation 0 [(16, true, 0, 0, 0)], .triggerEvaluation 0 [(0, true, 128, 0, 0)],
    .triggerEvaluation 0 [(0, true, 0, 2 ^ 64, 0)], .triggerEvaluation 0 [(0, true, 0, 0, 256)]] = true ∧
    (Instr.triggerEvaluation 0 [(15, true, 127, 5, 255)]).wf = true := by decide +kernel

theorem test_wf_ptp : ill [.sync 0 (2 ^ 64) 0 0 false 0 0 0, .sync 0 0 65536 0 false 0 0 0, .sync 0 0 0 128 false 0 0 0, .sync 0 0 0 0 false (2 ^ 127) 0 0,
    .sync 0 0 0 0 false 0 (2 ^ 79) 0, .announce 0 (2 ^ 64) 0 0 0, .announce 0 0 (2 ^ 256) 0 0, .announce 0 0 0 (2 ^ 64) 0, .pdelayReq 0 65536,
    .followUp 0 (2 ^ 64) 0 0 0, .followUp 0 0 65536 0 0, .followUp 0 0 0 (2 ^ 127) 0, .followUp 0 0 0 0 (2 ^ 79), .delayResp 0 (2 ^ 64) 0 0 0,
    .delayResp 0 0 65536 0 0, .delayResp 0 0 0 (2 ^ 127) 0, .delayResp 0 0 0 0 (2 ^ 79), .pdelayResp 0 65536 0 0, .pdelayResp 0 0 (2 ^ 79) 0] = true ∧
    ([.sync 0 5 65535 (-7) true 0 0 0, .announce 0 5 9 77 37, .pdelayReq 0 1, .followUp 0 0 0 0 0, .delayResp 0 0 0 0 0, .pdelayResp 0 0 0 0] :
      List Instr).all Instr.wf = true := by decide +kernel

theorem test_wf_links : ill [.measureComplete 0 (2 ^ 63) 0 [], .measureComplete 0 0 (2 ^ 63) [], .measureComplete 0 0 0 [(2 ^ 32, 0, 0, 0)],
    .measureComplete 0 0 0 [(0, 2 ^ 32, 0, 0)], .measureComplete 0 0 0 [(0, 0, 2 ^ 32, 0)], .measureComplete 0 0 0 [(0, 0, 0, 2 ^ 32)],
    .frameReceive 0 true {type := 4}, .frameReceive 0 true {epoch := 65536}, .frameReceive 0 true {cycle := 2 ^ 32}, .frameReceive 0 true {frag := 256},
    .frameReceive 0 true {nfrag := 256}, .frameReceive 0 true {link := 256}, .frameReceive 0 true {txot := 2 ^ 64}, .frameReceive 0 true {sampleOt := 2 ^ 64},
    .frameReceive 0 true {commitOt := 2 ^ 64}, .frameReceive 0 true {records := [{station := 65536, kind := 0}]},
    .frameReceive 0 true {records := [{station := 0, kind := 5}]}, .frameReceive 0 true {records := [{station := 0, kind := 1, data := List.replicate 65536 0}]},
    .frameReceive 0 true {records := [{station := 0, kind := 1, status := {epoch := 65536}}]}, .frameReceive 0 true {records := [{station := 0, kind := 1, status := {cyc := 65536}}]},
    .frameReceive 0 true {records := [{station := 0, kind := 1, status := {state := 16}}]}, .frameReceive 0 true {records := [{station := 0, kind := 1, status := {cfgSig := 2 ^ 32}}]}] = true ∧
    ([.measureComplete 0 0 100 [(1, 2, 3, 4)], .frameReceive 0 true {records := [{station := 3, kind := 4}]}] : List Instr).all Instr.wf = true := by decide +kernel

theorem test_wf_host : ill [.read 0 (2 ^ 64) true [1], .read 0 0 true [], .read 0 0 true (List.replicate 65 0), .read 0 0 true [2 ^ 32], .write 0 (2 ^ 64) true [(0, 0)],
    .write 0 0 true [], .write 0 0 true (List.replicate 65 (0, 0)), .write 0 0 true [(2 ^ 32, 0)], .subscribe 0 (2 ^ 64) true 0 1 [], .subscribe 0 0 true 4 1 [], .subscribe 0 0 true 0 0 [],
    .subscribe 0 0 true 0 10001 [], .subscribe 0 0 true 0 1 (List.replicate 161 0), .subscribe 0 0 true 0 1 [2 ^ 32], .mode 0 (2 ^ 64) true 1, .traceStart 0 (2 ^ 64) true 0,
    .traceStop 0 (2 ^ 64) true 0, .traceAck 0 (2 ^ 64) true 0 0, .traceAck 0 0 true 0 (2 ^ 32), .regRead 0 (2 ^ 64) true [0], .regRead 0 0 true [], .regRead 0 0 true (List.replicate 65 0),
    .regRead 0 0 true [2 ^ 40], .regWrite 0 (2 ^ 64) true [(0, 0)], .regWrite 0 0 true [], .regWrite 0 0 true (List.replicate 33 (0, 0)), .regWrite 0 0 true [(2 ^ 40, 0)]] = true ∧
    ([.read 0 1 true (List.replicate 64 7), .write 0 1 true [(7, 0)], .subscribe 0 1 true 3 10000 (List.replicate 160 7), .mode 0 1 true 3, .traceStart 0 1 true 0, .traceStop 0 1 true 0,
      .traceAck 0 1 true 0 5, .regRead 0 1 true [0xF0000000], .regWrite 0 1 true [(0xF0000000, 0)]] : List Instr).all Instr.wf = true := by decide +kernel

theorem test_wf_can : ill [.canFrameReceive 0 {id := 2048}, .canFrameReceive 0 {id := 2 ^ 29, ide := true}, .canFrameReceive 0 {dlc := 16},
    .canFrameReceive 0 {data := List.replicate 65 0}, .canFrameReceive 0 {sof := 2 ^ 64}] = true ∧
    (Instr.canFrameReceive 0 {id := 2 ^ 29 - 1, ide := true, dlc := 15, data := List.replicate 64 0}).wf = true := by decide +kernel

/-! ### Single steps: results from the spec's tables, examples and rules, computed by hand -/

/-- The state after one step with the command in front satisfies `p`. -/
def after (i : Instr) (s : State) (p : State → Bool) : Bool :=
  match step (s.withPending [i]) with
  | .next t => p t
  | _ => false

/-- 0x80000000 + 0xFFFFFFFF wraps to 0x7FFFFFFF (the core's ADD, table of the three-register group). -/
theorem test_add_wraps : after (.add 2 9 1 2) ready (fun t => t.wreg 2 9 == 0x7FFFFFFF) = true := by decide +kernel

/-- The same sum through ADDS is clamped to 0x80000000, and SAT (FL bit 4) is set. -/
theorem test_adds_clamps : after (.adds 2 9 1 2) { ready with cores := [(2, { core2 with fl := 0x100 })] }
    (fun t => t.wreg 2 9 == 0x80000000 && (t.core 2).fl.getLsbD 4) = true := by decide +kernel

/-- 0x80000000 / 0xFFFFFFFF gives 0x80000000 without an exception (R105). -/
theorem test_div_corner : after (.div 2 9 1 2) ready (fun t => t.wreg 2 9 == 0x80000000 && (t.core 2).pc == 0x1004) = true := by
  decide +kernel

/-- A register write of W0 is discarded. -/
theorem test_w0_stays_zero : after (.add 2 0 1 3) ready (fun t => t.wreg 2 0 == 0) = true := by decide +kernel

/-- A timer instance of preset 25,000 at 0x400000 with the elapsed count and flags given, and a core whose TASK_DT is `dt`. -/
def tonState (elapsed flags dt : Nat) (inp : Word) : State :=
  let s : State := { State.reset with cores := [(2, { core2 with w := [(4, inp), (6, 0x400000)], taskDt := BitVec.ofNat 32 dt })] }
  ((s.setWord 0x400000 25000).setWord 0x400004 (BitVec.ofNat 32 elapsed)).setWord 0x400008 (BitVec.ofNat 32 (0x100 + flags))

/-- One TON leaves the elapsed count, the flags and Wd at these values. -/
def tonGives (elapsed flags dt : Nat) (inp : Word) (elapsed' flags' : Nat) (q : Word) : Bool :=
  after (.ton 2 5 4 6) (tonState elapsed flags dt inp) fun t =>
    (t.word 0x400004).toNat == elapsed' && (t.word 0x400008).toNat == 0x100 + flags' && t.wreg 2 5 == q

/-- The start rows of the on-delay example of R164: 10 ms (rising edge), 20 ms, 30 ms, 40 ms (capped, Q), and the 40 ms start after a skipped one. -/
theorem test_ton_example : tonGives 0 0 10000 1 0 5 0 = true ∧ tonGives 0 5 10000 1 10000 5 0 = true ∧ tonGives 10000 5 10000 1 20000 5 0 = true ∧
    tonGives 20000 5 10000 1 25000 3 1 = true ∧ tonGives 10000 5 20000 1 25000 3 1 = true := by decide +kernel

/-- CH41 lies in CL5, RG2 and FD1 (the example beside the channel map). -/
theorem test_map_ch41 : chCluster 41 = 5 ∧ chRegion 41 = 2 ∧ chDie 41 = 1 := by decide +kernel

/-- The log open, with code `n` limited to BURST `burst` at K = 3, `taken` tokens taken and `supp` suppressed, 4096 ms after DAWN. -/
def logState (n burst taken supp : Nat) : State :=
  let s := (((atMode 5 State.reset).setFld (F.EVL_CODE_RL_EN n) 1).setFld (F.EVL_CODE_BURST n) burst).setFld (F.EVL_CODE_K n) 3
  { s with tbc := 4096 * 250000, evl := { s.evl with firstDone := true, seq := 9, buckets := [(n, { taken := taken, supp := supp })] } }

/-- The number of records, the suppressed count and the tokens taken of code 0x0E4 after the step. -/
def logAfter (i : Instr) (s : State) (p : Nat × Nat × Nat) : Bool :=
  after i s fun t => (t.evl.slots.length, (tget {} t.evl.buckets 0x0E4).supp, (tget {} t.evl.buckets 0x0E4).taken) == p

/-- The refill of the event-log example (K = 3, BURST = 3): at a multiple of 8 ms one token comes back, 1 ms later none. -/
theorem test_token_refill : logAfter (.tokenRefill 0x0E4) (logState 0x0E4 3 3 5) (0, 5, 2) = true ∧
    logAfter (.tokenRefill 0x0E4) { logState 0x0E4 3 3 5 with tbc := 4097 * 250000 } (0, 5, 3) = true := by decide +kernel

/-- A unipolar code below -6,553 becomes -131,072 with OVR_LO; -6,553 itself stays (R208). -/
theorem test_unipolar_low : after (.conversion 3 (-6554) 0 true) (an.setFld (F.CH_CFG_RANGE 3) 2) (fun t => (t.chan 3).code == -131072 && (t.chan 3).ovrLo) = true ∧
    after (.conversion 3 (-6553) 0 true) (an.setFld (F.CH_CFG_RANGE 3) 2) (fun t => (t.chan 3).code == -6553 && !(t.chan 3).ovrLo) = true := by decide +kernel

/-- A command with a wrong KEY reports BADKEY (4) and clears nothing. -/
theorem test_clear_log_badkey : after (.clearLog (.core 0) 0x5A) (logState 0x0E4 3 0 0) (fun t => t.fld F.EVL_CMDSTAT_RESULT == 4 && t.evl.seq == 9) = true := by
  decide +kernel

/-- On an empty queue TBC advances by one tick where the supplies hold. -/
theorem test_tick : (match step { State.reset with tbc := 7, sys := { State.reset.sys with supplies := true } } with
    | .next t => t.tbc == 8
    | _ => false) = true := by decide +kernel

/-- The published check value of CRC-32C, that of the nine ASCII digits 1 to 9 (assumption 47 takes its conventions). -/
theorem test_crc32c : crc32c [0x31, 0x32, 0x33, 0x34, 0x35, 0x36, 0x37, 0x38, 0x39] = 0xE3069283 := by decide +kernel

/-- Loop-engine words from R125 and R130: LDLC 5 is listed; with a reserved bit, at operation 0xB and in the other profile none is; bits 22..21
are AD, bit 15 is CEN, bits 7..5 are SD. -/
theorem test_loop_words : listedL 0xF5000005 = true ∧ listedL 0xF5010005 = false ∧ listedL 0xFB000000 = false ∧ listedL 0x10000000 = false ∧
    ((laOf 0xE04080A0).ad, (laOf 0xE04080A0).cen, (laOf 0xE04080A0).sd, (laOf 0xE04080A0).cinc) = (2, true, 5, false) := by decide +kernel

/-! ### Statements of group 01 -/

namespace W01

theorem witness_AluResults :
   (∃ (c : Fin 8) (s : State), (CoreReady s c)) :=
  ⟨(2 : Fin 8), ready, by unfold CoreReady; decide +kernel⟩

theorem witness_ImmediateResults :
   (∃ (c : Fin 8) (s : State), (CoreReady s c)) :=
  ⟨(2 : Fin 8), ready, by unfold CoreReady; decide +kernel⟩

theorem witness_CompareFlags :
   (∃ (c : Fin 8) (ra : BitVec 5) (rb : BitVec 5) (s : State), (CoreReady s c) ∧ (pairOk ra = true) ∧ (pairOk rb = true)) :=
  ⟨(2 : Fin 8), 4, 6, ready, by unfold CoreReady; decide +kernel⟩

theorem witness_SaturatingResults :
   (∃ (c : Fin 8) (rd : BitVec 5) (ra : BitVec 5) (rb : BitVec 5) (n : BitVec 6) (s : State), (CoreReady s c) ∧ (1 ≤ n.toNat) ∧ (n.toNat ≤ 32) ∧
     (pairOk rd = true) ∧ (pairOk ra = true) ∧ (pairOk rb = true)) :=
  ⟨(2 : Fin 8), 4, 6, 6, 0x20, ready, by unfold CoreReady; decide +kernel⟩

theorem witness_DivisionCorners :
   (∃ (c : Fin 8) (rd : BitVec 5) (ra : BitVec 5) (rb : BitVec 5) (s : State), (CoreReady s c) ∧ (s.wreg c rb ≠ 0) ∧ (s.wreg c ra = 0x80000000) ∧
     (s.wreg c rb = 0xFFFFFFFF) ∧ (rd ≠ 0)) :=
  ⟨(2 : Fin 8), 4, 1, 2, ready, by unfold CoreReady; decide +kernel⟩

theorem witness_BranchesAndJumps :
   (∃ (c : Fin 8) (s : State), (CoreReady s c)) :=
  ⟨(2 : Fin 8), ready, by unfold CoreReady; decide +kernel⟩

theorem witness_SystemRegisters :
   (∃ (c : Fin 8) (w : Word) (s : State), let x := s.core c
    (CoreReady s c) ∧ (tlook s.scan.execs c = none) ∧ (∀ q ∈ ([(0x000, x.fl), (0x001, x.taskDt), (0x002, x.taskId), (0x003, BitVec.ofNat 32 c.val), (0x004, BitVec.ofNat 32 s.tbc), (0x005, x.tbcHi), (0x010, x.epc), (0x011, x.ecause), (0x012, x.eval), (0x013, x.estat), (0x014, x.vbase)] : List (BitVec 16 × Word)), (0x010 ≤ q.1 → flP x.fl = true)) ∧ (flP x.fl = true) ∧ (listedC w = false)) ∧
   (∃ (c : Fin 8) (n : BitVec 16) (s : State), let x := s.core c
    (CoreReady s c) ∧ (tlook s.scan.execs c = none) ∧ (flP x.fl = false) ∧ (sysRegOk n.toNat = true) ∧ (0x010 ≤ n.toNat)) :=
  ⟨⟨(2 : Fin 8), 0xFFFFFFFF, ready, by unfold CoreReady; decide +kernel, by decide +kernel, fun _ _ _ => by decide +kernel, by decide +kernel, by decide +kernel⟩,
  ⟨(2 : Fin 8), 0x12, {ready with cores := [(2, {core2 with fl := 0x1F})]}, by unfold CoreReady; decide +kernel⟩⟩

theorem witness_BreakpointHalts :
   (∃ (c : Fin 8) (s : State), (CoreReady s c) ∧ (tlook s.scan.execs c = none)) ∧
   (∃ (c : Fin 8) (e : Exec) (d : TaskDesc) (s : State), (CoreReady s c) ∧ (tlook s.scan.execs c = some e) ∧ (s.task e.task = some d) ∧
     (s.mode = Mode.engineer) ∧ (d.kind ≠ .init) ∧ (d.kind ≠ .error) ∧ (d.recipe = false) ∧ ((s.scan.execs.filter fun p => p.2.halted).length < 4)) ∧
   (∃ (c : Fin 8) (e : Exec) (s : State), (CoreReady s c) ∧ (tlook s.scan.execs c = some e) ∧ (s.mode ≠ Mode.engineer)) :=
  ⟨⟨(2 : Fin 8), ready, by unfold CoreReady; decide +kernel⟩,
  ⟨(2 : Fin 8), (((tlook (running 5).scan.execs 2)).getD {}), (((running 5).task 6).getD {num := 0}), (running 5), by unfold CoreReady; decide +kernel⟩,
  ⟨(2 : Fin 8), (((tlook (running 5).scan.execs 2)).getD {}), (running 3), by unfold CoreReady; decide +kernel⟩⟩

end W01

/-! ### Statements of group 02 -/

namespace W02

theorem witness_CoreLoads :
   (∃ (c : Fin 8) (base : BitVec 5) (size : BitVec 2) (disp : BitVec 14) (seg : BitVec 8) (s : State), let n := 2 ^ size.toNat
    let a := physAddr seg (memAddr (s.core c) base disp n)
    (CoreReady s c) ∧ ((s.region a = .canvas ∨ s.region a = .lpddr)) ∧ (a % n = 0) ∧ (s.eccBad a n = false) ∧ (n ≤ 4) ∧ (n ≤ 2)) ∧
   (∃ (c : Fin 8) (base : BitVec 5) (size : BitVec 2) (disp : BitVec 14) (seg : BitVec 8) (s : State), let n := 2 ^ size.toNat
    let a := physAddr seg (memAddr (s.core c) base disp n)
    (CoreReady s c) ∧ ((s.region a = .canvas ∨ s.region a = .lpddr)) ∧ (a % n ≠ 0) ∧ (n ≤ 4) ∧ (tlook s.scan.execs c = none)) ∧
   (∃ (c : Fin 8) (rd : BitVec 5) (base : BitVec 5) (size : BitVec 2) (disp : BitVec 14) (seg : BitVec 8) (s : State), let n := 2 ^ size.toNat
    let a := physAddr seg (memAddr (s.core c) base disp n)
    (CoreReady s c) ∧ ((s.region a = .canvas ∨ s.region a = .lpddr)) ∧ (a % n = 0) ∧ (s.eccBad a n = false) ∧ (n = 8) ∧ (pairOk rd = true)) :=
  ⟨⟨(2 : Fin 8), 8, 0, 5, 0, (instances 1), by unfold CoreReady; decide +kernel⟩,
  ⟨(2 : Fin 8), 3, 2, 1, 0, (instances 1), by unfold CoreReady; decide +kernel⟩,
  ⟨(2 : Fin 8), 4, 8, 3, 0, 0x10, (instances 1), by unfold CoreReady; decide +kernel⟩⟩

theorem witness_CoreStores :
   (∃ (c : Fin 8) (rb : BitVec 5) (size : BitVec 2) (disp : BitVec 14) (seg : BitVec 8) (s : State), let n := 2 ^ size.toNat
    let a := physAddr seg (memAddr (s.core c) rb disp n)
    (CoreReady s c) ∧ (a % n = 0) ∧ (s.Plain a n) ∧ (n ≤ 4)) ∧
   (∃ (c : Fin 8) (rb : BitVec 5) (seg : BitVec 8) (s : State), let a := physAddr seg (s.wreg c rb)
    (CoreReady s c) ∧ (a % 4 = 0) ∧ (s.Plain a 4) ∧ (s.eccBad a 4 = false)) ∧
   (∃ (c : Fin 8) (rd : BitVec 5) (rb : BitVec 5) (size : BitVec 2) (disp : BitVec 14) (seg : BitVec 8) (s : State), let n := 2 ^ size.toNat
    let a := physAddr seg (memAddr (s.core c) rb disp n)
    (CoreReady s c) ∧ (a % n = 0) ∧ (s.Plain a n) ∧ (n = 8) ∧ (pairOk rd = true)) :=
  ⟨⟨(2 : Fin 8), 8, 0, 1, 0, (running 3), by unfold CoreReady State.Plain; decide +kernel⟩,
  ⟨(2 : Fin 8), 8, 0, (running 3), by unfold CoreReady State.Plain; decide +kernel⟩,
  ⟨(2 : Fin 8), 4, 8, 3, 1, 0x10, (running 3), by unfold CoreReady State.Plain; decide +kernel⟩⟩

theorem witness_EdgesAndCounters :
   (∃ (c : Fin 8) (rb : BitVec 5) (s : State), let a := (s.wreg c rb).toNat
    (InstanceReady s c a 8)) ∧
   (∃ (c : Fin 8) (rb : BitVec 5) (s : State), let a := (s.wreg c rb).toNat
    (InstanceReady s c a 16)) :=
  ⟨⟨(2 : Fin 8), 8, (instances 1), by unfold InstanceReady CoreReady; decide +kernel⟩,
  ⟨(2 : Fin 8), 8, (instances 1), by unfold InstanceReady CoreReady; decide +kernel⟩⟩

theorem witness_Timers :
   (∃ (c : Fin 8) (rb : BitVec 5) (s : State), let a := (s.wreg c rb).toNat
    let f := s.word (a + 8)
    let ty := bitsOf f 8 8
    (InstanceReady s c a 16) ∧ (ty = 1)) ∧
   (∃ (c : Fin 8) (rb : BitVec 5) (s : State), let a := (s.wreg c rb).toNat
    let f := s.word (a + 8)
    let ty := bitsOf f 8 8
    (InstanceReady s c a 16) ∧ (ty = 2)) ∧
   (∃ (c : Fin 8) (rb : BitVec 5) (s : State), let a := (s.wreg c rb).toNat
    let f := s.word (a + 8)
    let ty := bitsOf f 8 8
    (InstanceReady s c a 16) ∧ (ty = 3)) ∧
   (∃ (c : Fin 8) (rb : BitVec 5) (s : State), let a := (s.wreg c rb).toNat
    let f := s.word (a + 8)
    let ty := bitsOf f 8 8
    (InstanceReady s c a 16) ∧ (tlook s.scan.execs c = none) ∧
     (∀ k ∈ ([(1, .ton), (2, .tof), (3, .tp)] : List (Nat × (Fin 8 → BitVec 5 → BitVec 5 → BitVec 5 → Instr))), ty ≠ k.1)) :=
  ⟨⟨(2 : Fin 8), 8, (instances 1), by unfold InstanceReady CoreReady; decide +kernel⟩,
  ⟨(2 : Fin 8), 8, (instances 2), by unfold InstanceReady CoreReady; decide +kernel⟩,
  ⟨(2 : Fin 8), 8, (instances 3), by unfold InstanceReady CoreReady; decide +kernel⟩,
  ⟨(2 : Fin 8), 8, (instances 9), by unfold InstanceReady CoreReady; decide +kernel⟩⟩

theorem witness_ImageAccess :
   (∃ (c : Fin 8) (kind : Bool) (index : BitVec 20) (e : Exec) (s : State), let i := index.toNat
    (CoreReady s c) ∧ (tlook s.scan.execs c = some e) ∧ (s.imageBad c (if kind then i / 32 else i) = false) ∧ (e.staged.length < 8192) ∧
     ((s.ownMask e.task (i / 32)).getLsbD (i % 32) = true) ∧ (s.ownMask e.task i = 0)) ∧
   (∃ (c : Fin 8) (index : BitVec 20) (e : Exec) (s : State), let i := index.toNat
    (CoreReady s c) ∧ (tlook s.scan.execs c = some e) ∧ (e.staged.length < 8192) ∧ (s.ownMask e.task i = 0xFFFFFFFF)) :=
  ⟨⟨(2 : Fin 8), true, 3203, (((tlook (running 5).scan.execs 2)).getD {}), (running 5), by unfold CoreReady; decide +kernel⟩,
  ⟨(2 : Fin 8), 100, (((tlook (running 5).scan.execs 2)).getD {}), (running 5), by unfold CoreReady; decide +kernel⟩⟩

theorem witness_EventsAndWaits :
   (∃ (c : Fin 8) (ra : BitVec 5) (s : State), let n := (s.wreg c ra).toNat % 65536
    let t := (s.wreg c ra).toNat % 64
    (CoreReady s c) ∧ (s.evEnabled n = false) ∧ (s.taskOn c ≠ some t) ∧ (s.taskBusy t = false)) ∧
   (∃ (c : Fin 8) (ra : BitVec 5) (rb : BitVec 5) (s : State), let n := (s.wreg c ra).toNat % 65536
    let t := (s.wreg c ra).toNat % 64
    (CoreReady s c) ∧ (s.evEnabled n = true) ∧ (bitsOf (s.evDesc n).2 0 24 = 0) ∧ (s.schedUsed + s.fld F.SCHED_CTRL_HW_RSV + 1 ≤ 262144) ∧
     (s.taskOn c ≠ some t) ∧ (s.taskBusy t = true) ∧ (s.wreg c rb ≠ 0)) ∧
   (∃ (c : Fin 8) (ra : BitVec 5) (s : State), let t := (s.wreg c ra).toNat % 64
    (CoreReady s c) ∧ (s.taskOn c = some t)) :=
  ⟨⟨(2 : Fin 8), 10, (running 3), by unfold CoreReady; decide +kernel⟩,
  ⟨(2 : Fin 8), 10, 3, (((running 3).setWord 0x1000000028 0x80050000).modSched fun u => { u with inits := [5] }), by unfold CoreReady; decide +kernel⟩,
  ⟨(2 : Fin 8), 11, (running 3), by unfold CoreReady; decide +kernel⟩⟩

theorem witness_WaitReturns :
   (∃ (c : Fin 8) (w : Wait) (s : State), ((s.core c).wait = some w) ∧ (s.endCount w.task ≤ w.ends) ∧ (w.deadline ≤ s.tbc)) ∧
   (∃ (c : Fin 8) (w : Wait) (s : State), ((s.core c).wait = some w) ∧ (s.endCount w.task ≤ w.ends) ∧ (s.tbc < w.deadline)) ∧
   (∃ (c : Fin 8) (w : Wait) (s : State), ((s.core c).wait = some w) ∧ (w.ends < s.endCount w.task)) :=
  ⟨⟨(2 : Fin 8), {task := 6, ends := 0, deadline := 500, rd := 4}, ((running 3).modCore 2 fun k => {k with wait := some {task := 6, ends := 0, deadline := 500, rd := 4} }), by decide +kernel⟩,
  ⟨(2 : Fin 8), {task := 6, ends := 0, deadline := 5000001, rd := 4}, ((running 3).modCore 2 fun k => {k with wait := some {task := 6, ends := 0, deadline := 5000001, rd := 4} }), by decide +kernel⟩,
  ⟨(2 : Fin 8), {task := 6, ends := 0, deadline := 500, rd := 4}, (let s : State := (running 3).modCore 2 fun k => {k with wait := some {task := 6, ends := 0, deadline := 500, rd := 4} }; {s with scan := {s.scan with lastEnd := [(6, 1)]}}), by decide +kernel⟩⟩

end W02

/-! ### Statements of group 03 -/

namespace W03

def bun (s : Bool) (ad : BitVec 2) (xs : BitVec 3) (ys : BitVec 2) : LaBundle := { s := s, ad := ad, xs := xs, ys := ys }
def lq : State := looping.setWord 0x10120000 0x89ABCDEF |>.setWord 0x10140258 0x13572468 |>.setWord 0x10120258 0x11112222|>.setWord 0x10120012 0x33334444

theorem witness_LoopAccumulators :
   (∃ (e : Fin 8) (b : LaBundle) (s : State), let a := s.seen e
    (LoopReady s e) ∧ (stillBundle b) ∧ ((s.run e).rep = none) ∧ ((s.run e).ctl = none) ∧ (b.xs.toNat < 4) ∧ (a.lm % 16 ≠ 0)) ∧
   (∃ (e : Fin 8) (b : LaBundle) (s : State), (LoopReady s e) ∧ (stillBundle b) ∧ ((s.run e).rep = none) ∧ ((s.run e).ctl = none) ∧
     (4 ≤ b.xs.toNat)) :=
  ⟨⟨(1 : Fin 8), (bun true 0 1 1), looping, by unfold LoopReady stillBundle; decide +kernel⟩,
  ⟨(1 : Fin 8), (bun true 1 5 0), looping, by unfold LoopReady stillBundle; decide +kernel⟩⟩

theorem witness_LoopDataResults :
   (∃ (e : Fin 8) (b : LaBundle) (s : State), (LoopReady s e) ∧ ((s.run e).ctl = none) ∧ ((s.run e).rep = none) ∧ (stillBundle b)) ∧
   (∃ (e : Fin 8) (b : LaBundle) (s : State), let a := s.seen e
    (LoopReady s e) ∧ ((s.run e).ctl = none) ∧ ((s.run e).rep = none) ∧ (s.flt.badEcc = []) ∧ (b.cen = false) ∧ (b.cinc = false) ∧ (b.sk = 0) ∧
     (b.sinc = true) ∧ (b.pen = false) ∧ (a.ptrBad (4 + b.six.toNat) = false)) ∧
   (∃ (e : Fin 8) (b : LaBundle) (s : State), (LoopReady s e) ∧ ((s.run e).ctl = none) ∧ (b.cen = false) ∧ (b.sk = 0) ∧ (b.pen = true) ∧
     (b.cinc = false) ∧ (b.sinc = false) ∧ ((s.run e).rep = none)) ∧
   (∃ (e : Fin 8) (b : LaBundle) (s : State), let a := s.seen e
    (LoopReady s e) ∧ ((s.run e).ctl = none) ∧ ((s.run e).rep = none) ∧ (s.flt.badEcc = []) ∧ (b.cen = false) ∧ (b.cinc = false) ∧ (b.sk = 1) ∧
     (b.pen = false) ∧ (a.ptrBad (4 + b.six.toNat) = false)) ∧
   (∃ (e : Fin 8) (b : LaBundle) (s : State), let a := s.seen e
    (LoopReady s e) ∧ ((s.run e).ctl = none) ∧ ((s.run e).rep = none) ∧ (s.flt.badEcc = []) ∧ (b.cen = true) ∧ (b.sk = 0) ∧ (b.pen = false) ∧
     (b.sinc = false) ∧ (a.ptrBad b.cix.toNat = false)) ∧
   (∃ (e : Fin 8) (b : LaBundle) (s : State), let a := s.seen e
    (LoopReady s e) ∧ ((s.run e).ctl = none) ∧ ((s.run e).rep = none) ∧ (s.flt.badEcc = []) ∧ (b.cen = false) ∧ (b.cinc = false) ∧ (b.sk = 2) ∧
     (b.pen = false) ∧ (a.ptrBad (4 + b.six.toNat) = false) ∧ (s.flt.inj = none) ∧ (cfgBc (a.cfg (4 + b.six.toNat)) = true) ∧
     (a.addr (4 + b.six.toNat) 0 % 32768 < 0x7F00) ∧ (a.lm % 16 = 1)) ∧
   (∃ (e : Fin 8) (b : LaBundle) (s : State), let a := s.seen e
    (LoopReady s e) ∧ ((s.run e).ctl = none) ∧ (b.cen = false) ∧ (b.sk = 0) ∧ (b.pen = true) ∧ (b.cinc = false) ∧ (b.sinc = false) ∧
     ((s.run e).rep ≠ none) ∧ (a.pageBad.contains a.mp = false)) :=
  ⟨⟨(1 : Fin 8), (bun true 1 2 0), looping, by unfold LoopReady stillBundle; decide +kernel⟩,
  ⟨(1 : Fin 8), { sinc := true, six := 0 }, lq, by unfold LoopReady; decide +kernel⟩,
  ⟨(1 : Fin 8), { pen := true, pd := true }, lq, by unfold LoopReady; decide +kernel⟩,
  ⟨(1 : Fin 8), { sk := 1, sd := 2, six := 0, sinc := true }, lq, by unfold LoopReady; decide +kernel⟩,
  ⟨(1 : Fin 8), { cen := true, cd := 2, cix := 1, cinc := true }, lq, by unfold LoopReady; decide +kernel⟩,
  ⟨(1 : Fin 8), { sk := 2, sd := 1, six := 0, sinc := true }, (lq.setRunning 1 {act1 with lm := 1}), by unfold LoopReady; decide +kernel⟩,
  ⟨(1 : Fin 8), { pen := true, pd := true }, (lq.setRunning 1 {act1 with rep := some {start := 20, len := 2, left := 3, idx := 0}}), by unfold LoopReady; decide +kernel⟩⟩

theorem witness_LoopControl :
   (∃ (e : Fin 8) (src : Bool) (count : BitVec 10) (len : BitVec 5) (cond : BitVec 3) (ad : BitVec 2) (disp : BitVec 14) (mode : BitVec 2) (m : BitVec 4) (s : State), let a := s.seen e
    let n := if src then a.lc else count.toNat
    let low : Nat := if bitOf a.lm 0 then 0 else if bitOf a.lm 1 then 1 else if bitOf a.lm 2 then 2 else 3
    let w := a.av low ad.toNat
    let holds := [true, a.lc != 0, decide (w < 0), w == 0, bitOf a.clp low, bitOf a.ov low, decide (0 ≤ w)].getD cond.toNat false
    let target : Int := if holds then a.pc + disp.toInt else a.pc + 3
    (LoopReady s e) ∧ ((s.run e).rep = none) ∧ ((s.run e).ctl = none) ∧ (a.pc + len.toNat + 1 ≤ 8191) ∧ (n ≠ 0) ∧
     (s.eccBad (leProg e (a.pc + 1)) (4 * (len.toNat + 1)) = false) ∧ (cond ≠ 7) ∧ (a.lm % 16 ≠ 0) ∧ (0 ≤ target) ∧ (target ≤ 8191) ∧
     (a.pc + 2 ≤ 8191) ∧ (mode ≠ 3) ∧ (m ≠ 0)) ∧
   (∃ (e : Fin 8) (src : Bool) (count : BitVec 10) (len : BitVec 5) (s : State), let a := s.seen e
    let n := if src then a.lc else count.toNat
    (LoopReady s e) ∧ ((s.run e).rep = none) ∧ ((s.run e).ctl = none) ∧ (a.pc + len.toNat + 1 ≤ 8191) ∧ (n = 0)) :=
  ⟨⟨(1 : Fin 8), true, 9, 31, 2, 2, (-3), 1, 3, lq, by unfold LoopReady; decide +kernel⟩,
  ⟨(1 : Fin 8), false, 0, 3, lq, by unfold LoopReady; decide +kernel⟩⟩

theorem witness_LoopExceptions :
   (∃ (e : Fin 8) (w : Word) (s : State), let a := s.seen e
    (LoopReady s e) ∧ (listedL w = false) ∧ (a.rep = none) ∧ (a.ctl ≠ none)) :=
  ⟨(1 : Fin 8), 0xFB000000, (lq.setRunning 1 {act1 with ctl := some (some 3, 2)}), by unfold LoopReady; decide +kernel⟩

end W03

/-! ### Statements of group 04 -/

namespace W04

def expOn := { ((atMode 3 State.reset).setReg 0xF0010000 0x80000000).setReg 0xF0010014 7 with sys := {State.reset.sys with dawnOk := {State.reset.sys.dawnOk with delays := [1,2,3,4]}} }
def lit := (atMode 3 State.reset).modDie 1 fun d => {d with viso := true}

theorem witness_RegisterWrites :
   (∃ (off : BitVec 24) (w : Width) (bad : Fin 5) (s : State), let a := 0xF0000000 + off.toNat / 4 * 4
    (s.mode ≠ 0) ∧ (s.flt.inj = none) ∧ (w ≠ .b4) ∧ (bad < 4) ∧ (isRegister a = true) ∧ (regRow a = none)) ∧
   (∃ (off : BitVec 24) (bad : Fin 5) (s : State), let a := 0xF0000000 + off.toNat / 4 * 4
    (s.mode ≠ 0) ∧ (s.flt.inj = none) ∧ (bad = 4) ∧ (isRegister a = false)) ∧
   (∃ (off : BitVec 24) (bad : Fin 5) (r : RegRow) (s : State), let a := 0xF0000000 + off.toNat / 4 * 4
    (s.mode ≠ 0) ∧ (s.flt.inj = none) ∧ (bad < 4) ∧ (isRegister a = true) ∧ (regRow a = some r) ∧ (quietBlock a = true) ∧ (a ≠ expertReg a)) ∧
   (∃ (s : State), (s.mode = 0)) :=
  ⟨⟨0x0A0034, .b2, 0, (atMode 3 State.reset), by decide +kernel⟩,
  ⟨0xFFFF34, 4, (atMode 3 State.reset), by decide +kernel⟩,
  ⟨0x0A0008, 0, (((regRow 0xF00A0008)).getD ⟨0,[],[]⟩), (atMode 3 State.reset), by decide +kernel⟩,
  ⟨(atMode 0 State.reset), by decide +kernel⟩⟩

theorem witness_ExpertLevel :
   (∃ (off : BitVec 24) (v : Word) (b : Nat) (r : RegRow) (f : FieldDef) (s : State), let a := expertReg (0xF0000000 + off.toNat)
    (s.mode ≠ 0) ∧ (s.flt.inj = none) ∧ (isRegister a = true) ∧ ((regRow a).isSome = true) ∧
     ((0xF0600000 ≤ a → s.dieDark ((a - 0xF0600000) / 0x40000) = false)) ∧ (s.expertOn a = true) ∧ (v.getLsbD 31 = false) ∧ (expertReg b = a) ∧
     (regRow b = some r) ∧ (f ∈ r.fields) ∧ (f.expert = true)) ∧
   (∃ (off : BitVec 24) (s : State), let a := expertReg (0xF0000000 + off.toNat)
    (s.mode ≠ 0) ∧ (s.flt.inj = none) ∧ (isRegister a = true) ∧ ((regRow a).isSome = true) ∧
     ((0xF0600000 ≤ a → s.dieDark ((a - 0xF0600000) / 0x40000) = false)) ∧ (quietBlock a = true)) :=
  ⟨⟨0x010000, 0x0, 0xF0010014, (((regRow 0xF0010014)).getD ⟨0,[],[]⟩), ⟨7,0,.rw,0,true⟩, expOn, by decide +kernel⟩,
  ⟨0x090000, (atMode 3 State.reset), by decide +kernel⟩⟩

theorem witness_OutsideAccesses :
   (∃ (a : BitVec 40), (0x1000000 ≤ a.toNat) ∧ (a.toNat < 0x10000000)) ∧
   (∃ (a : BitVec 40), (0x10800000 ≤ a.toNat) ∧ (a.toNat < 0xF0000000)) ∧
   (∃ (a : BitVec 40) (s : State), (0x1000000000 + s.fld F.SYS_MEMSIZE_MIB * 0x100000 ≤ a.toNat) ∧ (a.toNat < 0x1400000000) ∧
     (0x1000000000 ≤ a.toNat)) ∧
   (∃ (a : BitVec 40), (0x1400000000 ≤ a.toNat) ∧ (a.toNat < 0x4000000000)) ∧
   (∃ (a : BitVec 40), (0x8000000000 ≤ a.toNat)) :=
  ⟨⟨0x1000000, by decide +kernel⟩,
  ⟨0x20000000, by decide +kernel⟩,
  ⟨0x1100000000, (atMode 3 State.reset), by decide +kernel⟩,
  ⟨0x3FFFFFFFFF, by decide +kernel⟩,
  ⟨0x8000000000, by decide +kernel⟩⟩

theorem witness_DieWindow :
   (∃ (d : Fin 4) (off : BitVec 18) (r : RegRow) (s : State), let x := off.toNat / 4 * 4
    let a := 0xF0600000 + 0x40000 * d.val + x
    (s.mode ≠ 0) ∧ (s.flt.inj = none) ∧ (s.dieDark d = false) ∧ ((x < 0x11000 ∨ 0x118E8 ≤ x)) ∧
     ((x < 0x10000 → x % 0x800 ≠ 0xA8 ∧ x % 0x800 ≠ 0x108)) ∧ (regRow a = some r) ∧
     ((if x < 0x10000 then x % 0x800 ∉ [0, 0x10, 0xA0, 0x100, 0x104] else x ∉ [0x10000, 0x10008] ∧ ¬ (0x10020 ≤ x ∧ x < 0x10030) ∧ ¬ (0x100C0 ≤ x ∧ x < 0x100C8)))) ∧
   (∃ (d : Fin 4) (off : BitVec 18) (s : State), let x := off.toNat / 4 * 4
    (s.mode ≠ 0) ∧ (s.flt.inj = none) ∧ (s.dieDark d = true) ∧ (x ≠ 0x10008) ∧ (x ≠ 0x10004) ∧ (x ≠ 0x1000C) ∧ ((x < 0x10000 → x % 0x800 ≠ 4)) ∧
     ((x < 0x11000 ∨ 0x118E8 ≤ x))) :=
  ⟨⟨1, 0x8, (((regRow 0xF0640008)).getD ⟨0,[],[]⟩), lit, by decide +kernel⟩,
  ⟨1, 0x8, (atMode 3 State.reset), by decide +kernel⟩⟩

end W04

/-! ### Statements of group 05 -/

namespace W05

def fl (m : Nat) (n : Nat) (x : FltSrc) : State := ({ (atMode m State.reset) with tbc := 100000000000 }).modSrc n fun _ => x
def s1 := (fl 3 450 {pending := true, effSev := 4, esc := true, multi := true, clears := [3]}).setFld F.FLT_ARG_SOURCE 450
def s2 := (fl 2 4 {pending := true, active:=true, effSev := 4, esc := true, multi := true, clears := [3]}).setFld F.FLT_ARG_SOURCE 4

theorem witness_FaultRaises :
   (∃ (n : Fin 512) (s : State), (fltExists n = true) ∧ ((s.sys.causeAt.all fun c => c.1 != s.tbc) = true)) :=
  ⟨2, (fl 3 2 {}), by decide +kernel⟩

theorem witness_FaultCommands :
   (∃ (i : Injection) (s : State), let n := s.fld F.FLT_ARG_SOURCE
    let m := s.fld F.SYS_MODE_MODE
    (m ≠ 1) ∧ ((s.src n).active = false) ∧ (448 ≤ n) ∧ ((m ≠ 2 ∧ m ≠ 5) ∨ s.flt.inj ≠ none) ∧ (s.flt.inj = some i) ∧ (i.lapse ≤ s.tbc)) ∧
   (∃ (s : State), let n := s.fld F.FLT_ARG_SOURCE
    let m := s.fld F.SYS_MODE_MODE
    (m ≠ 1) ∧ ((s.src n).active = true) ∧ (n < 448) ∧ (m = 2 ∨ m = 5) ∧ (1 ≤ s.fld F.FLT_INJ_CHK) ∧ (s.fld F.FLT_INJ_CHK ≤ 6) ∧ (s.flt.inj = none)) ∧
   (∃ (key : Byte) (s : State), let m := s.fld F.SYS_MODE_MODE
    (key = 0xA5) ∧ (m = 1)) :=
  ⟨⟨⟨1,1,1,1,5⟩, {s1 with flt := {s1.flt with inj := some ⟨1,1,1,1,5⟩}}, by decide +kernel⟩,
  ⟨(s2.setFld F.FLT_INJ_CHK 6), by decide +kernel⟩,
  ⟨0xA5, {(s1.setFld F.SYS_MODE_MODE 1) with flt := {s1.flt with inj := some ⟨1,1,1,1,5⟩}}, by decide +kernel⟩⟩

theorem witness_QuietAndSeverity :
   (∃ (n : Fin 512) (s : State), let x := s.src n
    let lim := s.fld (F.FLT_CFG0_ESC_LIM n)
    let win := max 1 (s.fld (F.FLT_CFG1_ESC_WIN n))
    let full := lim = 1 ∨ (2 ≤ lim ∧ ∃ c, x.clears[lim - 2]? = some c ∧ s.vault.opt - c ≤ win * 1024)
    (x.pending = true) ∧ (x.active = false) ∧ (x.esc = false) ∧ (1 ≤ x.effSev) ∧ (x.effSev ≤ 3) ∧
     (x.lastActive + 250000 * max 1 (s.fld (F.FLT_CFG1_QUIET n)) ≤ s.tbc) ∧ (¬ full)) ∧
   (∃ (n : Fin 512) (s : State), let x := s.src n
    let lim := s.fld (F.FLT_CFG0_ESC_LIM n)
    let win := max 1 (s.fld (F.FLT_CFG1_ESC_WIN n))
    let full := lim = 1 ∨ (2 ≤ lim ∧ ∃ c, x.clears[lim - 2]? = some c ∧ s.vault.opt - c ≤ win * 1024)
    (x.pending = true) ∧ (x.active = false) ∧ (x.esc = false) ∧ (1 ≤ x.effSev) ∧ (x.effSev ≤ 3) ∧
     (x.lastActive + 250000 * max 1 (s.fld (F.FLT_CFG1_QUIET n)) ≤ s.tbc) ∧ (full)) :=
  ⟨⟨450, (fl 3 450 {pending := true, effSev := 3}), by decide +kernel⟩,
  ⟨450, (fl 3 450 {pending := true, effSev := 3, clears := [0,0,0,0,0,0,0,0,0]}), by decide +kernel⟩⟩

end W05

/-! ### Statements of group 06 -/

namespace W06

def e1 (m : Nat) : State := { (atMode m State.reset) with tbc := 250000*64*5, evl := {State.reset.evl with firstDone := true, seq := 9, slots := [(0,{seq := 5, code := 77}),(2,{seq:=9})], buckets := [(0xC05, {taken := 3, supp := 7})]}, vault := {State.reset.vault with tamp := 7, opt := 5, tampLow := true}}

theorem witness_LogCommands :
   (∃ (key : Byte) (c : Fin 4096) (s : State), let b := tget {} s.evl.buckets c
    let limited := s.fld (F.EVL_CODE_RL_EN c) = 1 ∧ c.val ≠ Happening.logCleared.code
    let spent := limited ∧ max 1 (s.fld (F.EVL_CODE_BURST c)) ≤ b.taken
    (key ≠ 0xA5) ∧ (s.evl.closed = false) ∧ (s.evl.firstDone = true) ∧ (0xC00 ≤ c.val) ∧ (¬ spent) ∧ (lowestFree 0 s.evl.slots < 8192) ∧
     (s.fld F.SYS_MODE_MODE = 5)) ∧
   (∃ (c : Fin 4096) (s : State), (c.val < 0xC00) ∧ (s.fld F.SYS_MODE_MODE ≠ 5)) :=
  ⟨⟨0xA4, 0xC05, ((e1 5).setFld (F.EVL_CODE_RL_EN 0xC05) 0), by decide +kernel⟩,
  ⟨0x405, ((e1 3).setFld (F.EVL_CODE_RL_EN 0xC05) 1), by decide +kernel⟩⟩

theorem witness_LogRegisters :
   (∃ (c : Fin 4096) (s : State), (s.tbc % (250000 * 2 ^ s.fld (F.EVL_CODE_K c)) = 0)) :=
  ⟨0xC05, (e1 5), by decide +kernel⟩

theorem witness_VaultEvents :
   (∃ (key : Byte) (s : State), (key ≠ 0xA5) ∧ (s.fld F.SYS_MODE_MODE = 5) ∧ (s.sys.vsen = false)) ∧
   (∃ (s : State), (s.fld F.SYS_MODE_MODE ≠ 5)) :=
  ⟨⟨0xA4, (e1 5), by decide +kernel⟩,
  ⟨(e1 3), by decide +kernel⟩⟩

end W06

/-! ### Statements of group 07 -/

namespace W07

def q (m : Nat) : State := State.modSched (fun u => {u with cyclic := true, delayed := [(0, 20000, {event := 5, task := 5, seq := 3}), (1, 30000, {event := 6, seq := 4, task := 5})]}) {(running m) with tbc := 5000250}
def tdesc : TaskDesc := ((loaded 3).task 6).getD {num := 9}
def idle (m : Nat) : State := { (loaded m) with tbc := 5000000, sched := { (loaded m).sched with cyclic := true, tested := [0,1,2], starts := [{task := 6, prio := 3, tick := 5}], entries := [{event := 5, task := 5, prio := 3, tick := 4, payload := 7, tbc := 999}], affine := [(5, 2)], waits := [(40, some (4999600, false))] } }
def ca := (idle 3).cands.getD 0 ⟨0,0,0,0,none,0,.cyclic⟩
def stg : State := let s := running 3; {s with scan := {s.scan with execs := tset {} 2 {(tget {} s.scan.execs 2) with staged := [(100, 0xF0, 0xFF), (7, 1, 1)]} s.scan.execs}}
def wd : State := let s := stg; {s with tbc := 400000000, scan := {s.scan with program := some {prog with tasks := [{tdesc with execMax := 100}, {num := 9, kind := .error}], defaultErr := some 9}}}
def fr (m : Nat) := (((loaded m).setFld F.FORCE_KEY_KEY 100).setFld F.FORCE_VAL_VALUE 7)
def fr1 (m : Nat) : State := (atMode m (fr 5)).setWords (forceAddr 0) [0x28000000, 100, 7, 0xFFFFFFFF]
def f0 : Force := {index := 0, kind := 2, output := true, key := 100, value := 7, mask := 0xFFFFFFFF}
def hl : State := let s := running 3; {s with scan := {s.scan with execs := tset {} 2 {(tget {} s.scan.execs 2) with halted := true, haltedFrom := 77} s.scan.execs}}

theorem witness_Dispatching :
   (∃ (c : Fin 8) (x : Cand) (key : Nat) (since : Nat) (gone : Bool) (s : State), (s.coreIdle c = true) ∧
     ((∀ b : Fin 8, b < c → s.coreIdle b = false)) ∧ ((∀ y ∈ s.sched.entries, y.bad = false)) ∧ (((∀ b : Fin 8, b ≠ c → s.coreIdle b = false) ∧
     (∀ y ∈ s.cands, s.affineCore y.task = none ∨ s.affineCore y.task = some c.val) ∨ (∀ y ∈ s.cands, s.affineCore y.task = none))) ∧
     (x ∈ s.cands) ∧ ((∀ y ∈ s.cands, y ≠ x → lexLt x.rank y.rank = true)) ∧ (tlook s.sched.waits key = some (some (since, gone)))) ∧
   (∃ (d : TaskDesc) (s : State), let halted := s.scan.execs.any fun p => p.2.task == d.num && p.2.halted
    let busy := s.taskRunning d.num || s.sched.starts.any fun y => y.task == d.num
    (TickReady s) ∧ (s.dueTasks = [d]) ∧ (s.taskHeld d.num = false) ∧ (halted = false) ∧ (busy = true)) ∧
   (∃ (d : TaskDesc) (s : State), let halted := s.scan.execs.any fun p => p.2.task == d.num && p.2.halted
    let busy := s.taskRunning d.num || s.sched.starts.any fun y => y.task == d.num
    (TickReady s) ∧ (s.dueTasks = [d]) ∧ (s.taskHeld d.num = false) ∧ (halted = false) ∧ (busy = false)) ∧
   (∃ (d : TaskDesc) (s : State), let halted := s.scan.execs.any fun p => p.2.task == d.num && p.2.halted
    (TickReady s) ∧ (s.dueTasks = [d]) ∧ (s.taskHeld d.num = true ∨ halted = true)) ∧
   (∃ (s : State), (TickReady s) ∧ (s.dueTasks = [])) :=
  ⟨⟨(0 : Fin 8), ca, 40, 4999600, false, {(idle 3) with sched := {(idle 3).sched with affine := []}}, by decide +kernel⟩,
  ⟨tdesc, (q 3), by unfold TickReady; decide +kernel⟩,
  ⟨tdesc, {(q 3) with scan := {(q 3).scan with execs := []}}, by unfold TickReady; decide +kernel⟩,
  ⟨tdesc, {(q 3) with sched := {(q 3).sched with held := [6]}}, by unfold TickReady; decide +kernel⟩,
  ⟨{(q 3) with sched := {(q 3).sched with next := [(6,30000)]}}, by unfold TickReady; decide +kernel⟩⟩

theorem witness_EndsOfExecutions :
   (∃ (c : Fin 8) (e : Exec) (d : TaskDesc) (n : Nat) (s : State), let ran := (if e.halted then e.haltedFrom else s.tbc) - e.start - e.haltedFor
    (tlook s.scan.execs c = some e) ∧ (s.coreRuns c = true) ∧ ((e.staged.map Prod.fst).Nodup) ∧ (s.task e.task = some d) ∧ (d.execMax ≠ 0) ∧
     (2500 * d.execMax < ran) ∧ ((d.kind = .cyclic ∨ d.kind = .event)) ∧ (s.errTaskOf e.task = some n)) :=
  ⟨2, (tget {} wd.scan.execs 2), {tdesc with execMax := 100}, 9, wd, by decide +kernel⟩

theorem witness_ForceAndTaskCommands :
   (∃ (key : Byte) (kind : BitVec 4) (out : Bool) (n : Fin 64) (i : Nat) (s : State), let m := s.fld F.SYS_MODE_MODE
    let fk := s.fld F.FORCE_KEY_KEY
    (key ≠ 0xA5) ∧ (m = 5) ∧ (s.forceKeyOk kind.toNat fk out = 0) ∧ (((s.findForce kind.toNat fk out).map Force.index).or s.forceFree = some i) ∧
     (m ≠ 6) ∧ (s.findForce kind.toNat fk out = none) ∧ ((s.task n).isSome = true)) ∧
   (∃ (n : Fin 64) (s : State), let m := s.fld F.SYS_MODE_MODE
    (m ≠ 5) ∧ (m = 6) ∧ ((s.task n).isSome = true)) ∧
   (∃ (kind : BitVec 4) (out : Bool) (f : Force) (s : State), let m := s.fld F.SYS_MODE_MODE
    let fk := s.fld F.FORCE_KEY_KEY
    (m ≠ 6) ∧ (s.findForce kind.toNat fk out = some f)) ∧
   (∃ (n : Fin 64) (c : Fin 8) (e : Exec) (s : State), ((s.task n).isSome = true) ∧
     (s.scan.execs.find? (fun p => p.2.task == n.val && p.2.halted) = some (c.val, e))) :=
  ⟨⟨0xA4, 2, true, 6, 0, (fr 5), by decide +kernel⟩,
  ⟨6, (fr1 6), by decide +kernel⟩,
  ⟨2, true, f0, (fr1 5), by decide +kernel⟩,
  ⟨6, 2, (tget {} hl.scan.execs 2), hl, by decide +kernel⟩⟩

end W07

/-! ### Statements of group 08 -/

namespace W08

def cs (m : Nat) : State := loaded m
def bad (m : Nat) : State := {(loaded m) with flt := {(loaded m).flt with srcs := [(3, {pending := true, effSev := 3})]}}
def fwi : FwImage := {verified := true, compat := true}
def fws (x : FwImage) (u : FwU) : State := {(cs 3) with boot := {(cs 3).boot with fwB := some x}, fw := u}
def prv (m p c : Nat) : State := {((loaded m).setFld F.SYS_MODE_PREV p) with sys := {(loaded m).sys with causeAt := some (0, c, BitVec.ofNat 32 p)}}

theorem witness_ModeCommands :
   (∃ (key : Byte) (s : State), let m := s.fld F.SYS_MODE_MODE
    let loaded := s.scan.program.isSome = true
    let faulty := ∃ p ∈ s.flt.srcs, p.2.pending = true ∧ 3 ≤ p.2.effSev
    let free := (s.sys.causeAt.all fun c => c.1 != s.tbc || c.2.1 == 7) = true
    (key ≠ 0xA5) ∧ (s.sys.dusk = none) ∧ (s.sys.pendCmd = none) ∧ (free) ∧ (m = 5 ∨ ((m = 4 ∨ (m = 2 ∧ loaded)) ∧ ¬ faulty))) ∧
   (∃ (q : Nat) (u : Word) (s : State), let loaded := s.scan.program.isSome = true
    let faulty := ∃ p ∈ s.flt.srcs, p.2.pending = true ∧ 3 ≤ p.2.effSev
    let w := bitsOf u 0 3
    let better := s.sys.causeAt = some (s.tbc, q, u) ∧ q < 7
    (s.sys.dusk = none) ∧ (s.sys.pendCmd = none) ∧ (better) ∧ (w = 5 ∨ ((w = 4 ∨ (w = 2 ∧ loaded)) ∧ ¬ faulty))) ∧
   (∃ (s : State), let m := s.fld F.SYS_MODE_MODE
    let loaded := s.scan.program.isSome = true
    let free := (s.sys.causeAt.all fun c => c.1 != s.tbc || c.2.1 == 7) = true
    (s.sys.dusk = none) ∧ (s.sys.pendCmd = none) ∧ (free) ∧ ((m = 2 ∧ ¬ loaded) ∨ m ∉ [2, 4, 5])) ∧
   (∃ (s : State), let m := s.fld F.SYS_MODE_MODE
    let loaded := s.scan.program.isSome = true
    let faulty := ∃ p ∈ s.flt.srcs, p.2.pending = true ∧ 3 ≤ p.2.effSev
    let free := (s.sys.causeAt.all fun c => c.1 != s.tbc || c.2.1 == 7) = true
    (s.sys.dusk = none) ∧ (s.sys.pendCmd = none) ∧ (free) ∧ ((m = 4 ∨ (m = 2 ∧ loaded)) ∧ faulty)) :=
  ⟨⟨0xA4, (cs 2), by decide +kernel⟩,
  ⟨5, 5, (prv 4 5 5), by decide +kernel⟩,
  ⟨(cs 3), by decide +kernel⟩,
  ⟨(bad 4), by decide +kernel⟩⟩

theorem witness_RestartsAndFirmware :
   (∃ (c : Nat) (s : State), (s.sys.dusk = none) ∧ (s.sys.pendCmd = none) ∧ (s.fw.phase ≠ 2) ∧ (s.fw.phase = 1 ∨ s.fw.phase = 2) ∧
     (s.fw.current = some c) ∧ (tlook s.scan.execs c = none) ∧ (s.fw.phase = 1) ∧ (c ≠ 0)) ∧
   (∃ (o : Origin) (f : FwImage) (s : State), let m := s.fld F.SYS_MODE_MODE
    let may := 2 ≤ m ∧ m ≤ 7 ∧ o ≠ .cbus ∧ ((∃ n, o = .core n) ∨ s.engineer o = true)
    (s.sys.dusk = none) ∧ (s.sys.pendCmd = none) ∧ (¬ may) ∧ (3 ≤ m) ∧ (m ≤ 6) ∧ (s.fw.phase = 0) ∧ (s.otherBank = some f) ∧ (f.verified = true) ∧
     (tget 0 s.secu.arb f.ctr ≤ f.svn) ∧ (f.compat = true) ∧ (7 * 250000000 < s.measuredLoad)) ∧
   (∃ (f : FwImage) (s : State), let m := s.fld F.SYS_MODE_MODE
    (s.sys.dusk = none) ∧ (s.sys.pendCmd = none) ∧ (3 ≤ m) ∧ (m ≤ 6) ∧ (s.fw.phase = 0) ∧ (s.otherBank = some f) ∧ (f.verified = true) ∧
     (tget 0 s.secu.arb f.ctr ≤ f.svn) ∧ (f.compat = true) ∧ (s.measuredLoad ≤ 7 * 250000000)) ∧
   (∃ (f : FwImage) (s : State), let m := s.fld F.SYS_MODE_MODE
    (s.sys.dusk = none) ∧ (s.sys.pendCmd = none) ∧ (3 ≤ m) ∧ (m ≤ 6) ∧ (s.fw.phase = 0) ∧ (s.otherBank = some f) ∧ (f.verified = true) ∧
     (tget 0 s.secu.arb f.ctr ≤ f.svn) ∧ (f.compat = false)) ∧
   (∃ (c : Nat) (s : State), (s.fw.current = some c) ∧ (tlook s.scan.execs c = none) ∧ (s.sys.dusk = none) ∧ (s.fw.phase = 1) ∧ (c = 0)) ∧
   (∃ (s : State), (s.sys.dusk = none) ∧ (s.sys.pendCmd = none) ∧ (s.fw.phase = 2)) :=
  ⟨⟨7, (fws fwi {phase := 1, current := some 7}), by decide +kernel⟩,
  ⟨(.cbus), fwi, (fws fwi {spans := List.replicate 8 (0, 250000000)}), by decide +kernel⟩,
  ⟨fwi, (fws fwi {}), by decide +kernel⟩,
  ⟨{fwi with compat := false}, (fws {fwi with compat := false} {}), by decide +kernel⟩,
  ⟨0, (fws fwi {phase := 1, current := some 0, onNew := [7,6,5,4,3,2,1]}), by decide +kernel⟩,
  ⟨(fws fwi {phase := 2, current := none, onNew := [7,6,5,4,3,2,1,0]}), by decide +kernel⟩⟩

end W08

/-! ### Statements of group 09 -/

namespace W09

def d0 (m : Nat) : State := {(running m) with seqs := [(3, {pos := {st := 1}}), (4, {pos := {st := 2}})], vault := {State.reset.vault with opt := 9, outage := 4}}
def j (m : Nat) (u : JnlU) (dev en : Nat) : State := ({(running m) with jnl := u}.setFld F.JNL_STAT_DEV_OK dev).setFld F.JNL_CTRL_EN en

theorem witness_DuskSequence :
   (∃ (s : State), let m := s.fld F.SYS_MODE_MODE
    (s.sys.dusk = none) ∧ (m ≠ 0) ∧ ((m = 1 → s.sys.dawn ≠ none)) ∧ (s.tbc % 250000 = 0)) ∧
   (∃ (t0 : Nat) (s : State), (s.sys.dusk = some t0) ∧ (t0 + 250000 ≤ s.tbc) ∧ (s.sys.duskStep = 0)) ∧
   (∃ (t0 : Nat) (s : State), (s.sys.dusk = some t0) ∧ (s.sys.duskStep = 2)) ∧
   (∃ (t0 : Nat) (s : State), (s.sys.dusk = some t0) ∧ (s.sys.duskStep = 3)) :=
  ⟨⟨(d0 3), by decide +kernel⟩,
  ⟨4000000, {(d0 3) with sys := {(d0 3).sys with dusk := some 4000000, duskStep := 0}}, by decide +kernel⟩,
  ⟨4000000, {(d0 3) with sys := {(d0 3).sys with dusk := some 4000000, duskStep := 2}}, by decide +kernel⟩,
  ⟨4000000, ({(d0 3) with sys := {(d0 3).sys with dusk := some 4000000, duskStep := 3}}.setFld (ilmLatLoc 0 2) 77), by decide +kernel⟩⟩

theorem witness_JournalCycles :
   (∃ (d : Fin 2) (b : Nat) (k : Nat) (s : State), let m := s.fld F.SYS_MODE_MODE
    let up := s.fld F.JNL_STAT_DEV_OK
    let writes := s.jnlOn = true
    (s.sys.dusk.isSome = true) ∧ (s.sys.duskStep = 1) ∧ (m ≠ 1) ∧ (writes) ∧ (s.scan.releaseAt = none) ∧
     (changedBytes (s.jnl.image.getD {}) s.retain ≤ 65536) ∧ (m ≠ 0) ∧ (bitOf up d = false) ∧ (s.jnl.off = false) ∧ (up ≠ 0) ∧
     (s.jnl.rebuild = some (b, k)) ∧ (256 ≤ k)) ∧
   (∃ (d : Fin 2) (s : State), let m := s.fld F.SYS_MODE_MODE
    let up := s.fld F.JNL_STAT_DEV_OK
    let writes := s.jnlOn = true
    (s.tbc % 250000 = 0) ∧ (m ≠ 0) ∧ (m ≠ 1) ∧ (m ≠ 6) ∧ (s.sys.dusk = none) ∧ (writes) ∧ (s.scan.releaseAt = none) ∧
     (changedBytes s.jnl.seen s.retain ≤ 65536) ∧ (bitOf up d = true) ∧ (up ≠ 2 ^ d.val)) ∧
   (∃ (d : Fin 2) (s : State), let m := s.fld F.SYS_MODE_MODE
    let up := s.fld F.JNL_STAT_DEV_OK
    let writes := s.jnlOn = true
    (s.tbc % 250000 = 0) ∧ (m ≠ 0) ∧ (m ≠ 1) ∧ (m ≠ 6) ∧ (s.sys.dusk = none) ∧ (writes) ∧ (s.scan.releaseAt = none) ∧
     (65536 < changedBytes s.jnl.seen s.retain) ∧ (bitOf up d = true) ∧ (up = 2 ^ d.val)) ∧
   (∃ (d : Fin 2) (s : State), let m := s.fld F.SYS_MODE_MODE
    let up := s.fld F.JNL_STAT_DEV_OK
    (m ≠ 0) ∧ (bitOf up d = false) ∧ (s.jnl.off = false) ∧ (up = 0)) ∧
   (∃ (s : State), let m := s.fld F.SYS_MODE_MODE
    (s.sys.dusk.isSome = true) ∧ (s.sys.duskStep = 1) ∧ (m = 1)) :=
  ⟨⟨1, 1, 300, {(j 3 {slices := 3, cycle := 77, rebuild := some (1, 300)} 1 1) with sys := {State.reset.sys with dusk := some 5, duskStep := 1}}, by decide +kernel⟩,
  ⟨0, (j 3 {slices := 255, cycle := 77} 3 1), by decide +kernel⟩,
  ⟨1, {(j 3 {slices := 3, cycle := 77} 2 1) with seqs := (List.range 128).map (fun i => (i, {pos := {st := 1}})), flt := {State.reset.flt with srcs := (List.range 512).map (fun i => (i, {raises := 1}))}}, by decide +kernel⟩,
  ⟨1, (j 3 {slices := 3, cycle := 77, rebuild := some (1, 300)} 0 0), by decide +kernel⟩,
  ⟨{(j 1 {slices := 3, cycle := 77} 1 1) with sys := {State.reset.sys with dusk := some 5, duskStep := 1}}, by decide +kernel⟩⟩

end W09

/-! ### Statements of group 10 -/

namespace W10

def v00 : State := State.reset
def cpy (id g : Nat) : RecCopy := let c : RecCopy := {magic := 0x4B5A5352, recId := id, fmt := v00.recFmt id, gen := g}; {c with check := crc32c c.bytes}
def v0 : State := {(atMode 0 State.reset) with vault := {State.reset.vault with opt := 9, outage := 40, pcyc := 3, outageRun := true}, boot := {State.reset.boot with slotA := some prog, recA := [(5, cpy 5 1)]}}
def wa : State := let s := ((((atMode 1 v0).setFld F.JNL_STAT_CKPT_OK 1).setFld F.JNL_STAT_CHAIN_OK 1)); {s with sys := {s.sys with dawn := some 0}, jnl := {s.jnl with image := some {}, hash := 7, lastMode := 3}, scan := {s.scan with program := some prog}, safe := {s.safe with wasReady := true, stored := some []}}
def rp : State := {(atMode 2 v0).setFbit (F.SYS_CFGWARN_BITS 0) 5 true with boot := {v0.boot with recB := [(5, cpy 5 7)]}}

theorem witness_DawnSteps :
   (∃ (s : State), let m := s.fld F.SYS_MODE_MODE
    let noPairs := (∀ p ∈ s.boot.recA, p.2.data = []) ∧ (∀ p ∈ s.boot.recB, p.2.data = [])
    (m = 0 ∨ (m = 1 ∧ s.sys.dawn = none)) ∧ (s.sys.overtemp = false) ∧ (noPairs)) ∧
   (∃ (s : State), let m := s.fld F.SYS_MODE_MODE
    let quiet := ∀ p ∈ s.flt.srcs, p.2.pending = true → p.2.effSev < 3
    (m = 1) ∧ (s.sys.dawn.isSome = true) ∧ (s.sys.noFirmware = false) ∧ (s.sys.dusk = none) ∧ (quiet)) ∧
   (∃ (id : Fin 55) (c : RecCopy) (s : State), let m := s.fld F.SYS_MODE_MODE
    (m ≠ 0) ∧ (m ≠ 1) ∧ (s.fbit (F.SYS_CFGWARN_BITS (id / 32)) (id % 32) = true) ∧
     ((selectCopy (s.copyOk id) (tget {} s.boot.recA id) (tget {} s.boot.recB id)).1 = some c)) ∧
   (∃ (s : State), let m := s.fld F.SYS_MODE_MODE
    let noPairs := (∀ p ∈ s.boot.recA, p.2.data = []) ∧ (∀ p ∈ s.boot.recB, p.2.data = [])
    (m = 0) ∧ (s.sys.overtemp = true) ∧ (noPairs)) :=
  ⟨⟨v0, by decide +kernel⟩,
  ⟨wa, by decide +kernel⟩,
  ⟨5, (cpy 5 7), rp, by decide +kernel⟩,
  ⟨{v0 with sys := {v0.sys with overtemp := true}}, by decide +kernel⟩⟩

theorem witness_KeysAndAttestation :
   (∃ (o : Origin) (key : Byte) (n : Fin 8) (s : State), let left := ∃ i : Fin 4, i.val + 1 ≠ n.val ∧ bitOf s.secu.programmed i = true ∧ bitOf s.secu.revoked i = false
    let used := s.secu.fwSigner = n.val ∨ s.secu.cfgSigner = n.val ∨ (s.bootProgram.map Program.signer).getD 0 = n.val
    let may := s.fld F.SYS_MODE_MODE = 2 ∧ s.engineer o = true ∧ 1 ≤ n.val ∧ n.val ≤ 4 ∧ ¬ used ∧ (left ∨ s.secu.programmed = 0)
    (key ≠ 0xA5) ∧ (s.secu.identity = true) ∧ (s.secu.keyBad = false) ∧ (may)) ∧
   (∃ (o : Origin) (n : Fin 8) (s : State), let left := ∃ i : Fin 4, i.val + 1 ≠ n.val ∧ bitOf s.secu.programmed i = true ∧ bitOf s.secu.revoked i = false
    let used := s.secu.fwSigner = n.val ∨ s.secu.cfgSigner = n.val ∨ (s.bootProgram.map Program.signer).getD 0 = n.val
    let may := s.fld F.SYS_MODE_MODE = 2 ∧ s.engineer o = true ∧ 1 ≤ n.val ∧ n.val ≤ 4 ∧ ¬ used ∧ (left ∨ s.secu.programmed = 0)
    (s.secu.identity = false ∨ s.secu.keyBad = true) ∧ (¬ may)) :=
  ⟨⟨(.host 1), 0xA4, 2, {rp with secu := {rp.secu with programmed := 3, identity := true}, sessions := [(1,{isOpen := true, role := 2})]}, by decide +kernel⟩,
  ⟨(.host 1), 2, {rp with secu := {rp.secu with programmed := 2, identity := false}, sessions := [(1,{isOpen := true, role := 2})]}, by decide +kernel⟩⟩

end W10

/-! ### Statements of group 11 -/

namespace W11

def q2 : Program := {prog with hash := 9, tasks := prog.tasks ++ [{num := 9, kind := .error}], insts := [{id := 4, ty := .counter, addr := 0x500400, tasks := [6]}], defaultErr := some 9}
def ex (m st : Nat) : State := let s := (loaded m).setFld F.EXCH_STAT_STATE st; {s with scan := {s.scan with other := some q2, armDeadline := some 0, affected := [6]}}
def vf (b : ImageBody) : State := {(ex 2 1) with secu := {(ex 2 1).secu with verifying := some (3, 5, b)}, sessions := [(3, {isOpen := true, executed := 4})]}

theorem witness_ProgramExchange :
   (∃ (key : Byte) (t0 : Nat) (s : State), let st := s.fld F.EXCH_STAT_STATE
    (key ≠ 0xA5) ∧ (st ≠ 1) ∧ (st ≠ 3) ∧ (s.scan.releaseAt = some t0) ∧ (t0 ≤ s.tbc) ∧ (s.scan.armDeadline = some t0) ∧ (st = 2 ∨ st = 4) ∧
     (s.exchQuiet = false)) ∧
   (∃ (q : Program) (s : State), let m := s.fld F.SYS_MODE_MODE
    let st := s.fld F.EXCH_STAT_STATE
    let follows := s.fld F.PART_CTRL_ROLE = 1 → s.part.partnerImage = some q.hash
    (st = 1) ∧ (2 ≤ m) ∧ (m ≤ 5) ∧ (s.scan.other = some q) ∧ (follows)) ∧
   (∃ (q : Program) (s : State), let m := s.fld F.SYS_MODE_MODE
    let st := s.fld F.EXCH_STAT_STATE
    let follows := s.fld F.PART_CTRL_ROLE = 1 → s.part.partnerImage = some q.hash
    (st = 3) ∧ (2 ≤ m) ∧ (m ≤ 5) ∧ (s.scan.other = some q) ∧ (follows)) ∧
   (∃ (q : Program) (s : State), let st := s.fld F.EXCH_STAT_STATE
    (s.scan.other = some q) ∧ (st = 2 ∨ st = 4) ∧ (s.exchQuiet = true) ∧ (s.scan.armDeadline.isSome = true) ∧ (s.scan.releaseAt = none)) ∧
   (∃ (s : State), let m := s.fld F.SYS_MODE_MODE
    let st := s.fld F.EXCH_STAT_STATE
    (st = 3) ∧ (m < 2 ∨ 5 < m)) ∧
   (∃ (q : Program) (s : State), let m := s.fld F.SYS_MODE_MODE
    let st := s.fld F.EXCH_STAT_STATE
    let follows := s.fld F.PART_CTRL_ROLE = 1 → s.part.partnerImage = some q.hash
    (st = 1) ∧ (2 ≤ m) ∧ (m ≤ 5) ∧ (s.scan.other = some q) ∧ (¬ follows)) :=
  ⟨⟨0xA4, 0, {(ex 3 4) with scan := {(ex 3 4).scan with releaseAt := some 0, execs := [(2, {task := 6})]}}, by decide +kernel⟩,
  ⟨q2, (ex 3 1), by decide +kernel⟩,
  ⟨q2, (ex 3 3), by decide +kernel⟩,
  ⟨q2, (ex 3 2), by decide +kernel⟩,
  ⟨(ex 6 3), by decide +kernel⟩,
  ⟨q2, ((ex 3 1).setFld F.PART_CTRL_ROLE 1), by decide +kernel⟩⟩

theorem witness_VerifiedImages :
   (∃ (v : Verdict) (i : Fin 8) (seq : Nat) (body : ImageBody) (s : State), let r := s.vresOf body v
    (s.secu.verifying = some (i.val, seq, body)) ∧ ((s.session i).isOpen = true) ∧ ((s.session i).executed + 1 = seq) ∧ ((s.session i).held = []) ∧
     (s.sys.noFirmware = false) ∧ (r ≠ 0)) ∧
   (∃ (v : Verdict) (i : Fin 8) (seq : Nat) (body : ImageBody) (p : Program) (s : State), let r := s.vresOf body v
    (s.secu.verifying = some (i.val, seq, body)) ∧ ((s.session i).isOpen = true) ∧ ((s.session i).executed + 1 = seq) ∧ ((s.session i).held = []) ∧
     (s.sys.noFirmware = false) ∧ (r = 0) ∧ (body = .program p) ∧ (s.fld F.EXCH_STAT_STATE ≤ 1) ∧ (programPinClash p = none) ∧ (programOk p = true)) ∧
   (∃ (v : Verdict) (i : Fin 8) (seq : Nat) (body : ImageBody) (n : Nat) (s : State), let r := s.vresOf body v
    (s.secu.verifying = some (i.val, seq, body)) ∧ ((s.session i).isOpen = true) ∧ ((s.session i).executed + 1 = seq) ∧ ((s.session i).held = []) ∧
     (s.sys.noFirmware = false) ∧ (r = 0) ∧ (body = .keyRequest n) ∧ (1 ≤ n) ∧ (n ≤ 4) ∧ (s.ownerProgrammed n = false) ∧
     (s.fld F.SYS_MODE_MODE = 2)) ∧
   (∃ (v : Verdict) (i : Fin 8) (seq : Nat) (body : ImageBody) (f : FwImage) (s : State), let r := s.vresOf body v
    (s.secu.verifying = some (i.val, seq, body)) ∧ ((s.session i).isOpen = true) ∧ ((s.session i).executed + 1 = seq) ∧ ((s.session i).held = []) ∧
     (s.sys.noFirmware = false) ∧ (r = 0) ∧ (body = .firmware f) ∧ (s.fw.phase = 0)) ∧
   (∃ (v : Verdict) (i : Fin 8) (seq : Nat) (body : ImageBody) (l : List (Nat × Nat × Word × Word)) (h : Nat) (s : State), let r := s.vresOf body v
    (s.secu.verifying = some (i.val, seq, body)) ∧ ((s.session i).isOpen = true) ∧ ((s.session i).executed + 1 = seq) ∧ ((s.session i).held = []) ∧
     (s.sys.noFirmware = false) ∧ (r = 0) ∧ (body = .calibration l h) ∧ (v.ctr < 64)) ∧
   (∃ (v : Verdict) (i : Fin 8) (seq : Nat) (body : ImageBody) (p : Program) (s : State), let r := s.vresOf body v
    (s.secu.verifying = some (i.val, seq, body)) ∧ ((s.session i).isOpen = true) ∧ ((s.session i).executed + 1 = seq) ∧ ((s.session i).held = []) ∧
     (s.sys.noFirmware = false) ∧ (r = 0) ∧ (body = .program p) ∧ (s.fld F.EXCH_STAT_STATE ≤ 1) ∧ (programPinClash p = none) ∧
     (programOk p = false)) :=
  ⟨⟨{vres := 3}, 3, 5, (.firmware {}), (vf (.firmware {})), by decide +kernel⟩,
  ⟨{svn := 3}, 3, 5, (.program q2), q2, (vf (.program q2)), by decide +kernel⟩,
  ⟨{svn := 3, ctr := 2}, 3, 5, (.keyRequest 1), 1, (vf (.keyRequest 1)), by decide +kernel⟩,
  ⟨{svn := 3}, 3, 5, (.firmware {hash := 2}), {hash := 2}, (vf (.firmware {hash := 2})), by decide +kernel⟩,
  ⟨{svn := 3, ctr := 2}, 3, 5, (.calibration [] 9), [], 9, (vf (.calibration [] 9)), by decide +kernel⟩,
  ⟨{svn := 3}, 3, 5, (.program {q2 with retainBytes := 0x80001}), {q2 with retainBytes := 0x80001}, (vf (.program {q2 with retainBytes := 0x80001})), by decide +kernel⟩⟩

end W11

/-! ### Statements of group 12 -/

namespace W12

end W12

/-! ### Statements of group 13 -/

namespace W13

def q13 : Program := {prog with hash := 9}
def pp (role m : Nat) : State := (({(loaded m) with tbc := 5000000, part := {gotAt := 4990000, lag := 4}, seqs := [(3, {pos := {st := 1}})]}.setFld F.PART_CTRL_ROLE role).setFld F.PART_STAT_EPOCH 9).setFld F.PART_STAT_PARTNER 1
def pd (s : State) : State := {s with scan := {s.scan with program := some {prog with defaultErr := some 9, tasks := prog.tasks ++ [{num := 9, kind := .error}]}}}
def lk (late : Bool) (v : Word) : State := {(running 3) with cores := [(2, {core2 with undo := [(0x500000, 3, 7)], undoOver := late})], scan := {(running 3).scan with execs := [(2, {task := 5, cause := .event {seq := 8, group := 4, task := 5}})]}}.setWord 0x500000 v

theorem witness_PartnerPair :
   (∃ (cy : Nat) (x : PlnkDelta) (s : State), let m := s.fld F.SYS_MODE_MODE
    let alone := (s.sys.causeAt.all fun c => c.1 != s.tbc) = true
    let may := m = 6 ∧ s.fld F.PART_CTRL_TAKEOVER_EN = 1 ∧ s.sys.dusk = none
    let image := (s.scan.program.map Program.hash).getD 0
    let missed := (s.tbc - s.part.gotAt) / 2500
    (s.tbc % 2500 = 0) ∧ (s.sys.dusk = none) ∧ (m ≠ 0) ∧ (s.fld F.PART_STAT_PARTNER = 1 ∨ m = 6) ∧ (s.part.missRun < missed) ∧ (alone) ∧
     (3 ≤ missed) ∧ (may) ∧ (m = 6) ∧ (s.part.applied < cy) ∧ ((∀ p, s.scan.other = some p → x.hash ≠ p.hash)) ∧ (x.hash ≠ image)) ∧
   (∃ (ep : BitVec 16) (s : State), let m := s.fld F.SYS_MODE_MODE
    let alone := (s.sys.causeAt.all fun c => c.1 != s.tbc) = true
    let role := s.fld F.PART_CTRL_ROLE
    let epoch := s.fld F.PART_STAT_EPOCH
    let may := m = 6 ∧ s.fld F.PART_CTRL_TAKEOVER_EN = 1 ∧ s.sys.dusk = none
    let missed := (s.tbc - s.part.gotAt) / 2500
    (s.fld F.PART_STAT_PARTNER = 1 ∨ m = 6) ∧ (s.part.missRun < missed) ∧ (m ≠ 0) ∧ (alone) ∧ (3 ≤ missed) ∧ (¬ may) ∧ (role = 1) ∧
     (s.part.transmitting = true) ∧ (epoch < ep.toNat) ∧ (ep.toNat ≤ epoch + 32767) ∧ (3 ≤ m) ∧ (m ≤ 5)) ∧
   (∃ (ep : BitVec 16) (s : State), let m := s.fld F.SYS_MODE_MODE
    let alone := (s.sys.causeAt.all fun c => c.1 != s.tbc) = true
    let role := s.fld F.PART_CTRL_ROLE
    let epoch := s.fld F.PART_STAT_EPOCH
    let missed := (s.tbc - s.part.gotAt) / 2500
    (s.fld F.PART_STAT_PARTNER = 1 ∨ m = 6) ∧ (s.part.missRun < missed) ∧ (m ≠ 0) ∧ (alone) ∧ (missed < 3) ∧ (role = 1) ∧ (ep.toNat ≤ epoch) ∧
     (epoch < ep.toNat + 32768)) ∧
   (∃ (cy : Nat) (ld : Nat) (a : Nat) (n : Nat) (e : Nat) (x : PlnkDelta) (s : State), let m := s.fld F.SYS_MODE_MODE
    let image := (s.scan.program.map Program.hash).getD 0
    (m = 6) ∧ (s.part.applied < cy) ∧ ((∀ p, s.scan.other = some p → x.hash ≠ p.hash)) ∧ (x.hash = image) ∧ (cy ≤ ld) ∧ (a + 4 ≤ 0xFF0000) ∧
     (n < 128) ∧ (e ≤ s.tbc) ∧ (x.halves = []) ∧ (x.srcs = [])) ∧
   (∃ (cy : Nat) (s : State), let m := s.fld F.SYS_MODE_MODE
    (m = 6) ∧ (cy ≤ s.part.applied)) ∧
   (∃ (cy : Nat) (x : PlnkDelta) (q : Program) (s : State), let m := s.fld F.SYS_MODE_MODE
    (m = 6) ∧ (s.part.applied < cy) ∧ (s.scan.other = some q) ∧ (x.hash = q.hash) ∧ (s.fld F.EXCH_STAT_STATE = 1)) :=
  ⟨⟨5, {hash := 3}, (pp 2 6), by decide +kernel⟩,
  ⟨10, (pp 1 3), by decide +kernel⟩,
  ⟨8, {(pp 1 2) with part := {gotAt := 4995000}}, by decide +kernel⟩,
  ⟨5, 9, 0x400000, 3, 44, {hash := 7}, ((pd (pp 2 6)).setFld F.PART_STAT_SYNC 1), by decide +kernel⟩,
  ⟨5, (({(pp 2 6) with part := {(pp 2 6).part with applied := 5}}).setFld F.PART_STAT_SYNC 1), by decide +kernel⟩,
  ⟨5, {hash := 9}, q13, {((pp 2 6).setFld F.EXCH_STAT_STATE 1) with scan := {(pp 2 6).scan with other := some q13}}, by decide +kernel⟩⟩

theorem witness_LockstepStops :
   (∃ (c : Fin 8) (s : State), (c.val ∈ s.sched.stopped) ∧ ((s.core c).dead = false)) ∧
   (∃ (c : Fin 8) (e : Exec) (s : State), let m := s.fld F.SYS_MODE_MODE
    (2 ≤ m) ∧ (c.val ∉ s.sched.stopped) ∧ (tlook s.scan.execs c = some e) ∧ (e.serial = none)) ∧
   (∃ (c : Fin 8) (s : State), ((s.core c).dead = true)) :=
  ⟨⟨2, {(lk true 7) with sched := {(lk true 7).sched with stopped := [2,3]}}, by decide +kernel⟩,
  ⟨2, {task := 5, cause := .event {seq := 8, group := 4, task := 5}}, (lk true 7), by decide +kernel⟩,
  ⟨2, {(lk true 7) with cores := [(2, {core2 with dead := true})], sched := {(lk true 7).sched with stopped := [2,3]}}, by decide +kernel⟩⟩

end W13

/-! ### Statements of group 14 -/

namespace W14

def hst (m role : Nat) : State := let s := loaded m; {((((s.setFld F.HOST_CTRL_EN 1).setFld (F.NET_CTRL_EN 0) 1).setFld (F.NET_IP4_ADDR 0) 77).setFld F.HOST_CTRL_NETSEL 0) with tbc := 250000 * 61000, scan := {s.scan with program := some {prog with hostInputs := [1048576]}}, sessions := [(3, {isOpen := true, role := role, executed := 4, load := some (1, 1024)})]}

theorem witness_HostRequests :
   (∃ (i : Fin 8) (u : Fin 16) (code : Byte) (seq : Nat) (h : Nat) (a : Nat) (v : Nat) (n : Nat) (hs : List Nat) (s : State), let x := s.session i
    (HostReady i seq 0 s) ∧ (s.epExists h = false) ∧ (hs.length = 0 ∨ 64 < hs.length) ∧ (1 ≤ n) ∧ (n ≤ 10000) ∧ (v ≤ 3) ∧ (hs.length ≤ 160) ∧
     ((∀ g ∈ hs, epCopied g = false)) ∧ ((s.unit u).spill = []) ∧ (regMsgOk (a % 2 ^ 40) = false) ∧ (HostReady i seq 1 s) ∧ (1 ≤ code.toNat) ∧
     (code.toNat ≤ 5) ∧ (code.toNat ≠ 3) ∧ (HostReady i seq 2 s) ∧ (v < n) ∧ (0 < v) ∧ (v ≤ 1024) ∧ (h ≤ 4) ∧ (x.load = some (h, a)) ∧ (n ≤ 1024) ∧
     (s.secu.verifying = none)) ∧
   (∃ (i : Fin 8) (seq : Nat) (h : Nat) (a : Nat) (s : State), let x := s.session i
    (HostReady i seq 0 s) ∧ (s.epMapped h = true) ∧ (s.epQuality h = true) ∧ (regMsgOk a = true) ∧ (a < 2 ^ 40) ∧ (x.role = 0)) ∧
   (∃ (i : Fin 8) (seq : Nat) (a : Nat) (s : State), (HostReady i seq 2 s) ∧ (regMsgOk a = true) ∧ (a < 2 ^ 40)) ∧
   (∃ (i : Fin 8) (seq : Nat) (v : Nat) (n : Nat) (hs : List Nat) (s : State), (HostReady i seq 0 s) ∧
     (n = 0 ∨ 10000 < n ∨ 3 < v ∨ 160 < hs.length)) ∧
   (∃ (i : Fin 8) (seq : Nat) (h : Nat) (s : State), (HostReady i seq 1 s) ∧ (epClass h = 2) ∧ (s.epExists h = true) ∧
     (s.hostInput (h % 2 ^ 22) = true) ∧ (protectedArea (4 * (h % 2 ^ 22)) = false)) ∧
   (∃ (i : Fin 8) (seq : Nat) (h : Nat) (s : State), (HostReady i seq 1 s) ∧ (epClass h = 2) ∧ (s.epExists h = true) ∧
     (s.hostInput (h % 2 ^ 22) = false)) ∧
   (∃ (i : Fin 8) (seq : Nat) (a : Nat) (s : State), let x := s.session i
    (HostReady i seq 2 s) ∧ (x.load = none) ∧ (a ≠ 0)) :=
  ⟨⟨3, 2, 2, 5, 1, 1024, 3, 100, [], (hst 3 2), by unfold HostReady; decide +kernel⟩,
  ⟨3, 5, 0x50000004, 0xF0000004, (hst 3 0), by unfold HostReady; decide +kernel⟩,
  ⟨3, 5, 0xF0000010, (hst 3 2), by unfold HostReady; decide +kernel⟩,
  ⟨3, 5, 3, 0, [0x50000004], (hst 3 0), by unfold HostReady; decide +kernel⟩,
  ⟨3, 5, (0x20000000 + 1048576), (hst 3 1), by unfold HostReady; decide +kernel⟩,
  ⟨3, 5, (0x20000000 + 1048577), (hst 3 1), by unfold HostReady; decide +kernel⟩,
  ⟨3, 5, 1024, {(hst 3 2) with sessions := [(3, {isOpen := true, role := 2, executed := 4})]}, by unfold HostReady; decide +kernel⟩⟩

theorem witness_HostOrder :
   (∃ (i : Fin 8) (seq : Nat) (st : Nat) (t0 : Nat) (body : List Nat) (s : State), let x := s.session i
    (s.hostServed = true) ∧ (x.isOpen = true) ∧ (s.fld F.SYS_MODE_MODE ≠ 1) ∧ (seq ≤ x.executed) ∧ (x.cache = [(seq, st, body)]) ∧
     (x.gapSince = some t0) ∧ (t0 + 250000000 ≤ s.tbc)) ∧
   (∃ (i : Fin 8) (seq : Nat) (s : State), let x := s.session i
    (s.hostServed = true) ∧ (x.isOpen = true) ∧ (s.fld F.SYS_MODE_MODE ≠ 1) ∧ (seq ≤ x.executed ∧ x.cache = [] ∨ x.executed + 64 < seq)) ∧
   (∃ (i : Fin 8) (seq : Nat) (s : State), let x := s.session i
    (s.hostServed = true) ∧ (x.isOpen = true) ∧ (s.fld F.SYS_MODE_MODE ≠ 1) ∧ (x.executed + 1 < seq) ∧ (seq ≤ x.executed + 64) ∧ (x.held = []) ∧
     (s.hostBusy i = false)) ∧
   (∃ (i : Fin 8) (seq : Nat) (s : State), let x := s.session i
    (s.hostServed = true) ∧ (x.isOpen = true) ∧ (s.fld F.SYS_MODE_MODE ≠ 1) ∧ (seq = x.executed + 1) ∧ (x.held = [(seq + 1, .read [])]) ∧
     (s.hostBusy i = false)) :=
  ⟨⟨3, 4, 0, 0, [6], {(hst 3 2) with sessions := [(3, {isOpen := true, role := 2, executed := 4, cache := [(4, 0, [6])], gapSince := some 0})]}, by decide +kernel⟩,
  ⟨3, 4, (hst 3 2), by decide +kernel⟩,
  ⟨3, 68, (hst 3 2), by decide +kernel⟩,
  ⟨3, 5, {(hst 3 2) with sessions := [(3, {isOpen := true, role := 2, executed := 4, held := [(6, .read [])]})]}, by decide +kernel⟩⟩

theorem witness_HostSessions :
   (∃ (i : Fin 8) (u : Fin 16) (p : Fin 2) (ip : Word) (h : Nat) (t0 : Nat) (n : Nat) (rest : List (Nat × Nat)) (s : State), let x := s.session i
    (s.hostServed = true) ∧ (x.half = some t0) ∧ (t0 + 1250000000 ≤ s.tbc) ∧ ((s.unit u).traceTo = some h) ∧ ((s.unit u).flight = (n, t0) :: rest) ∧
     (t0 + 250000 * max 1 (s.fld F.HOST_TRACE_RETX_MS) ≤ s.tbc) ∧ (s.fld (F.NET_IP4_ADDR p) ≠ ip.toNat)) ∧
   (∃ (i : Fin 8) (p : Fin 2) (ip : Word) (s : State), let x := s.session i
    (s.hostServed = true) ∧ (s.secu.keyBad = false) ∧ (x.isOpen = false) ∧ (x.half = none) ∧ ((∀ j : Fin 8, j < i → (s.session j).isOpen = true)) ∧
     (s.fld F.SYS_MODE_MODE ≠ 0) ∧ (s.fld (F.NET_CTRL_EN p) = 1) ∧ (s.fld (F.NET_IP4_ADDR p) = ip.toNat) ∧ (ip ≠ 0)) ∧
   (∃ (i : Fin 8) (p : Fin 2) (s : State), let x := s.session i
    (s.hostServed = true) ∧ (s.secu.keyBad = false) ∧ ((∀ j : Fin 8, (s.session j).isOpen = true)) ∧ (x.isOpen = true) ∧
     (x.lastAt + 15000000000 ≤ s.tbc) ∧ (s.fld (F.NET_STAT_LINK_UP p) = 1)) ∧
   (∃ (s : State), (s.secu.keyBad = true)) ∧
   (∃ (i : Fin 8) (id : Fin 4) (h : Nat) (n : Nat) (s : State), let x := s.session i
    (s.hostServed = true) ∧ (x.isOpen = true) ∧ (tlook x.subs id = some { period := n, handles := [h] }) ∧ (1 ≤ n) ∧ (s.tbc % (250000 * n) = 0) ∧
     (s.epMapped h = true) ∧ (s.epQuality h = true)) :=
  ⟨⟨3, 2, 0, 78, 2, 0, 7, [], {(hst 3 2) with sessions := [(3, {half := some 0})], recu := {units := [(2, {flight := [(7,0)], traceTo := some 2})]}}, by decide +kernel⟩,
  ⟨0, 0, 77, (hst 3 2), by decide +kernel⟩,
  ⟨0, 0, {((hst 3 2).setFld (F.NET_STAT_LINK_UP 0) 1) with sessions := (List.range 8).map fun i => (i, {isOpen := true})}, by decide +kernel⟩,
  ⟨{(hst 3 2) with secu := {keyBad := true}}, by decide +kernel⟩,
  ⟨3, 1, 0x50000004, 1000, {(hst 3 2) with sessions := [(3, {isOpen := true, subs := [(1, {period := 1000, handles := [0x50000004]})]})]}, by decide +kernel⟩⟩

end W14

/-! ### Statements of group 15 -/

namespace W15

theorem witness_AnalogueInputs :
   (∃ (n : Fin 128) (v : Word) (w : Word) (g : Nat) (s : State), let c := s.chan n
    (s.convDue n = true) ∧ (s.convMay n = true) ∧ (s.rangeOf n < 2) ∧ (c.overHi = false) ∧ (c.overLo = false) ∧ (c.win = false) ∧
     (s.fld (F.CL_STAT_REF_SETTLED (chCluster n)) = 1) ∧ (s.fld (F.CH_CFG_SNS_EN n) = 0) ∧ (s.fld (F.WIN_CFG_EN n) = 0) ∧
     (s.dieDark (chDie n) = false) ∧ ((s.blockCrc n true true).1 = none) ∧ (s.escDue c.escUp = true) ∧ (c.senseDue = true) ∧ (s.unavReason n = 0) ∧
     (s.strmsOn = []) ∧ (s.tbc % 125 = 0) ∧ (c.due = some g) ∧ (g + 125 ≤ s.tbc) ∧ (c.rx = some w) ∧ (c.rxSns = some v)) ∧
   (∃ (n : Fin 128) (s : State), (s.convDue n = false ∨ s.convMay n = false) ∧ (s.tbc % 125 ≠ 0)) ∧
   (∃ (n : Fin 128) (i : Injection) (s : State), (s.dieDark (chDie n) = false) ∧ (s.strmsOn = []) ∧ (s.injOf 4 = some i) ∧ (i.target = 128 + n)) ∧
   (∃ (n : Fin 128) (s : State), let c := s.chan n
    (s.dieDark (chDie n) = false) ∧ ((s.blockCrc n true true).1 = none) ∧ (s.escDue c.escUp = false)) ∧
   (∃ (n : Fin 128) (raw : Int) (s : State), let c := s.chan n
    let x := s.correct n (s.rangeOf n) raw
    (s.convDue n = true) ∧ (s.convMay n = true) ∧ (s.rangeOf n < 2) ∧ (c.overHi = false) ∧ (c.overLo = false) ∧ (c.win = false) ∧
     (s.fld (F.CL_STAT_REF_SETTLED (chCluster n)) = 1) ∧ (s.fld (F.CH_CFG_SNS_EN n) = 0) ∧ (s.fld (F.WIN_CFG_EN n) = 1) ∧ (c.couplerOut = false) ∧
     (s.sfld (F.WIN_HI_LIMIT n) < min 131071 x)) :=
  ⟨⟨3, 3, 7, 4999000, (an2 {sampleDue := true, code := 77, badSamples := 2, filt := true, inp := true, senseDue := true, snsCode := -5, snsTag := 511, due := some 4999000, rx := some 7, rxSns := some 3}), by decide +kernel⟩,
  ⟨3, {an with tbc := 5000001}, by decide +kernel⟩,
  ⟨3, ⟨4,1,131,0,9⟩, {an with flt := {an.flt with inj := some ⟨4,1,131,0,9⟩}}, by decide +kernel⟩,
  ⟨3, (an2 {escUp := some 4999990, rangeUntil := some 5}), by decide +kernel⟩,
  ⟨3, 140000, ((an.setFld (F.WIN_CFG_EN 3) 1).setFld (F.WIN_HI_LIMIT 3) 100), by decide +kernel⟩⟩

theorem witness_ReferencesAndCalibration :
   (∃ (n : Fin 128) (k : Fin 16) (d : Fin 4) (v : Word) (uV : Nat) (t0 : Nat) (s : State), let c := s.chan n
    let kc := s.cluster k
    let grid := s.tbc % 125 = 0
    let sel := s.fld (F.CL_CTRL_REFSEL k)
    (s.dieDark (chDie n) = false) ∧ (v.toNat % 4 ≠ s.fld (F.CH_CFG_RANGE n)) ∧ (c.rangeOld = none) ∧ (grid) ∧ (s.dieDark (k.val / 4) = false) ∧
     (s.fld (F.CL_CTRL_CAL k) = 0) ∧ (v.toNat / 256 % 2 = 0) ∧ (kc.selOld = none) ∧ (v.toNat % 4 < 3) ∧ (v.toNat % 4 ≠ sel) ∧
     (kc.settleAt = some t0) ∧ (t0 ≤ s.tbc) ∧ (kc.refOut = false) ∧ (s.fld (F.CL_STAT_REF_SETTLED k) = 1) ∧ (refInside sel uV = true) ∧
     (kc.calWait = true) ∧ (2 ≤ s.mode) ∧ (s.mode ≠ 7) ∧ ((∀ i : Fin 4, (s.cluster (4 * d + i)).rolling = false)) ∧
     (s.fld (F.CL_CTRL_ROLL (4 * d)) = 1) ∧ (s.fld (F.CL_STAT_STALE (4 * d)) = 1) ∧ (s.fld (F.CL_CTRL_CAL (4 * d)) = 0) ∧
     ((s.die d).calFail = false)) ∧
   (∃ (n : Fin 128) (k : Fin 16) (v : Word) (uV : Nat) (s : State), let c := s.chan n
    let kc := s.cluster k
    let grid := s.tbc % 125 = 0
    let sel := s.fld (F.CL_CTRL_REFSEL k)
    (s.dieDark (chDie n) = false) ∧ (v.toNat % 4 ≠ s.fld (F.CH_CFG_RANGE n)) ∧ (c.rangeOld = none) ∧ (¬ grid) ∧ (kc.refOut = false) ∧
     (s.fld (F.CL_STAT_REF_SETTLED k) = 1) ∧ (refInside sel uV = false)) ∧
   (∃ (n : Fin 128) (k : Fin 16) (v : Word) (t0 : Nat) (s : State), let c := s.chan n
    let kc := s.cluster k
    (c.rangeUntil = some t0) ∧ (t0 ≤ s.tbc) ∧ (s.dieDark (k.val / 4) = false) ∧ (s.fld (F.CL_CTRL_CAL k) = 0) ∧ (v.toNat / 256 % 2 = 0) ∧
     (kc.selOld = none) ∧ (v.toNat % 4 = 3)) ∧
   (∃ (k : Fin 16) (v : Word) (s : State), let kc := s.cluster k
    let sel := s.fld (F.CL_CTRL_REFSEL k)
    (s.dieDark (k.val / 4) = false) ∧ (v.toNat / 256 % 2 = 1) ∧ (s.fld (F.CL_CTRL_CAL k) = 0) ∧ ((s.die (k.val / 4)).calFail = false) ∧
     (kc.selOld = none) ∧ (v.toNat % 4 = sel) ∧ (v.toNat / 4 % 2 = s.fld (F.CL_CTRL_INT_ON k)) ∧ (s.fld (F.CL_STAT_REF_SETTLED k) = 1)) ∧
   (∃ (k : Fin 16) (s : State), (s.dieDark (k.val / 4) = false) ∧ (s.fld (F.CL_CTRL_CAL k) = 1)) ∧
   (∃ (k : Fin 16) (v : Word) (s : State), let kc := s.cluster k
    let sel := s.fld (F.CL_CTRL_REFSEL k)
    (s.dieDark (k.val / 4) = false) ∧ (v.toNat / 256 % 2 = 1) ∧ (s.fld (F.CL_CTRL_CAL k) = 0) ∧ ((s.die (k.val / 4)).calFail = false) ∧
     (kc.selOld = none) ∧ (v.toNat % 4 = sel) ∧ (v.toNat / 4 % 2 = s.fld (F.CL_CTRL_INT_ON k)) ∧ (s.fld (F.CL_STAT_REF_SETTLED k) = 0)) ∧
   (∃ (k : Fin 16) (t0 : Nat) (f : CalFactor) (s : State), let kc := s.cluster k
    (kc.calStart = some t0) ∧ (kc.calDone = false) ∧ (f.1 < 8) ∧ (f.2.1 < 5) ∧ (t0 + 2250000 ≤ s.tbc) ∧ ((t0 + 3125000 ≤ s.tbc → kc.held = none))) ∧
   (∃ (k : Fin 16) (t0 : Nat) (f : CalFactor) (s : State), let kc := s.cluster k
    (kc.calStart = some t0) ∧ (kc.calDone = false) ∧ (f.1 < 8) ∧ (f.2.1 < 5) ∧ (s.tbc < t0 + 2250000)) :=
  ⟨⟨3, 0, 0, 2, 4096000, 5, {((an.setFld (F.CL_CTRL_ROLL 0) 1).setFld (F.CL_STAT_STALE 0) 1) with clusters := [(0, {settleAt := some 5, calWait := true})]}, by decide +kernel⟩,
  ⟨3, 0, 1, 5096000, {an with tbc := 5000001}, by decide +kernel⟩,
  ⟨3, 0, 3, 5, (an2 {rangeUntil := some 5}), by decide +kernel⟩,
  ⟨0, 0x104, {an with tbc := 5000001}, by decide +kernel⟩,
  ⟨0, (an.setFld (F.CL_CTRL_CAL 0) 1), by decide +kernel⟩,
  ⟨0, 0x104, (an.setFld (F.CL_STAT_REF_SETTLED 0) 0), by decide +kernel⟩,
  ⟨0, 5, (3, 0, 0x40000000, 0), {an with clusters := [(0, {calStart := some 5})]}, by decide +kernel⟩,
  ⟨0, 3500000, (3, 0, 0x50000000, 0), {an with clusters := [(0, {calStart := some 3500000})]}, by decide +kernel⟩⟩

end W15

/-! ### Statements of group 16 -/

namespace W16

def di (c : Chan) (d : Die) : State := {(an2 c) with dies := [(0, {d with viso := true})], sessions := [(1, {isOpen := true, role := 2})]}
def lgr (c : Chan) (nx : Option Nat) : State := let s := di {c with member := some 2, tkFio := some (true, 5), tkAout := some (9, 5)} {}; {s.setFld (F.LG_CTRL_EN 2) 1 with lgs := [(2, {next := nx})]}

theorem witness_OutputsAndDies :
   (∃ (o : Origin) (n : Fin 128) (d : Fin 4) (v : Word) (key : Byte) (temp : Int) (t0 : Nat) (cnt : Fin 1048576) (s : State), let c := s.chan n
    let up := s.dieDark (chDie n) = false
    let x := s.die d
    let lit := s.dieDark d = false
    let eng := s.engineer o = true
    let grid := s.tbc % 125 = 0
    let sound := (s.blockCrc n false true).1 = none
    (up) ∧ (grid) ∧ (sound) ∧ (tget [] s.out.pend n = []) ∧ (s.runGroup n = none) ∧ (s.padHeld n = false) ∧ (s.escDue c.escDown = true) ∧
     (c.aSettle = none) ∧ (c.aCode ≠ c.dac) ∧ (c.dacAt = some t0) ∧ (t0 + 250 ≤ s.tbc) ∧ (v.toNat % 4 < 3) ∧
     (v.toNat % 4 ≠ s.fld (F.AOUT_CFG_RANGE n)) ∧ (v.toNat / 4 % 2 = 1) ∧ (s.tbc % 250000 = 0) ∧ (lit) ∧ (2320 < temp) ∧ (temp < 32768) ∧
     (s.fld (F.DIE_STAT_THERM_SD d) = 0) ∧ (key ≠ 0xA5) ∧ (s.fbit F.CLK_STAT_FD_CLK_OK d = false ∨ x.viso = false) ∧ (235000 ≤ cnt.val) ∧
     (cnt.val ≤ 265000) ∧ ((0x11 : Nat) ≠ 0x10) ∧ (x.cert = false) ∧ ((0x11 : Nat) ≠ 0x13) ∧ (¬ eng)) ∧
   (∃ (o : Origin) (n : Fin 128) (d : Fin 4) (v : Word) (temp : Int) (cnt : Fin 1048576) (s : State), let up := s.dieDark (chDie n) = false
    let x := s.die d
    let lit := s.dieDark d = false
    let eng := s.engineer o = true
    let grid := s.tbc % 125 = 0
    let sound := (s.blockCrc n false true).1 = none
    (up) ∧ (grid) ∧ (sound) ∧ (s.padHeld n = true) ∧ (v.toNat % 4 = 3) ∧ (s.tbc % 250000 = 0) ∧ (lit) ∧ (-1000 < temp) ∧ (temp ≤ 2320) ∧
     (s.fbit F.CLK_STAT_FD_CLK_OK d = true) ∧ (x.viso = true) ∧ (s.fld (F.DIE_STAT_THERM_SD d) = 0) ∧ (cnt.val < 235000 ∨ 265000 < cnt.val) ∧
     (eng) ∧ (x.cert = true) ∧ (x.acquiring = none) ∧ (5 ≤ s.fld (F.CERT_ARG_RANGE_IDX d)) ∧ (x.driven = none) ∧ (s.secu.keyBad = false) ∧
     (x.points = []) ∧ (x.calFail = false)) ∧
   (∃ (n : Fin 128) (g : Nat) (fv : Bool × Nat) (av : Int × Nat) (s : State), let c := s.chan n
    let up := s.dieDark (chDie n) = false
    let grid := s.tbc % 125 = 0
    let sound := (s.blockCrc n false true).1 = none
    (up) ∧ (grid) ∧ (sound) ∧ (tget [] s.out.pend n = []) ∧ (s.runGroup n = some g) ∧ ((s.lg g).next ≠ some s.tbc) ∧ (c.tkFio = some fv) ∧
     (c.tkAout = some av) ∧ (¬ up ∨ s.escDue c.escDown = false)) ∧
   (∃ (o : Origin) (n : Fin 128) (d : Fin 4) (t0 : Nat) (s : State), let c := s.chan n
    let x := s.die d
    let lit := s.dieDark d = false
    let eng := s.engineer o = true
    (c.aSettle = some t0) ∧ (t0 ≤ s.tbc) ∧ (lit) ∧ (eng) ∧ (s.fld F.SYS_MODE_MODE = 2) ∧ (x.cert = false) ∧ (s.fld (F.SEAL_STAT_FUSE_CNT d) < 255)) ∧
   (∃ (o : Origin) (d : Fin 4) (s : State), let x := s.die d
    let lit := s.dieDark d = false
    let eng := s.engineer o = true
    (lit) ∧ (eng) ∧ (x.cert = true) ∧ (x.acquiring = none) ∧ (s.fld (F.CERT_ARG_RANGE_IDX d) < 5) ∧ (s.secu.keyBad = true)) ∧
   (∃ (n : Fin 128) (g : Nat) (s : State), let up := s.dieDark (chDie n) = false
    let grid := s.tbc % 125 = 0
    let sound := (s.blockCrc n false true).1 = none
    (up) ∧ (grid) ∧ (sound) ∧ (tget [] s.out.pend n = []) ∧ (s.runGroup n = some g) ∧ ((s.lg g).next = some s.tbc)) ∧
   (∃ (n : Fin 128) (s : State), let up := s.dieDark (chDie n) = false
    let grid := s.tbc % 125 = 0
    (¬ up ∨ ¬ grid)) ∧
   (∃ (n : Fin 128) (t0 : Nat) (s : State), let c := s.chan n
    (c.aSettle = none) ∧ (c.aCode ≠ c.dac) ∧ (c.dacAt = some t0) ∧ (s.tbc < t0 + 250)) ∧
   (∃ (n : Fin 128) (i : Injection) (s : State), let up := s.dieDark (chDie n) = false
    let grid := s.tbc % 125 = 0
    (up) ∧ (grid) ∧ (s.injOf 4 = some i) ∧ (i.target = n)) ∧
   (∃ (d : Fin 4) (t0 : Nat) (p : CertPoint) (s : State), let x := s.die d
    (x.acquiring = some (p.ch, p.idx, p.span, t0)) ∧ (x.points = [])) :=
  ⟨⟨(.core 1), 3, 0, 5, 3, 2321, 0, 250000, (di {aCode := 5, dacAt := some 0, stepPend := 4} {}), by decide +kernel⟩,
  ⟨(.host 1), 3, 0, 3, 232, 2500, ((((di {aCode := 5, gInh := true, stepPend := 7, stepNet := 3} {cert := true}).setFld F.SYS_MODE_MODE 2).setFbit F.CLK_STAT_FD_CLK_OK 0 true).setFld (F.CERT_ARG_RANGE_IDX 0) 5), by decide +kernel⟩,
  ⟨3, 2, (true, 5), (9, 5), (lgr {escDown := some 4999990} (some 5000125)), by decide +kernel⟩,
  ⟨(.host 1), 3, 0, 0, {((di {aCode := 5, aSettle := some 0} {}).setFld F.SYS_MODE_MODE 2) with safe := {xchkOut := 1}}, by decide +kernel⟩,
  ⟨(.host 1), 0, {(((di {aCode := 5} {cert := true}).setFld F.SYS_MODE_MODE 2).setFbit F.CLK_STAT_FD_CLK_OK 0 true) with secu := {keyBad := true}}, by decide +kernel⟩,
  ⟨3, 2, (lgr {} (some 5000000)), by decide +kernel⟩,
  ⟨3, {(di {} {}) with tbc := 5000001}, by decide +kernel⟩,
  ⟨3, 4999900, (di {aCode := 5, dacAt := some 4999900, stepPend := 4} {}), by decide +kernel⟩,
  ⟨3, ⟨4,1,3,0,9⟩, {di {aCode := 5, dacAt := some 0, stepPend := 4} {} with flt := {inj := some ⟨4,1,3,0,9⟩}}, by decide +kernel⟩,
  ⟨0, 0, {ch := 0, idx := 1, span := true, measured := 0, value := 0}, (((di {aCode := 5} {cert := true, acquiring := some (0,1,true,0)}).setFld F.SYS_MODE_MODE 2).setFbit F.CLK_STAT_FD_CLK_OK 0 true), by decide +kernel⟩⟩

end W16

/-! ### Statements of group 17 -/

namespace W17

def pin (c : Chan) (m : Nat) : State := {(an2 c).setFld F.SYS_MODE_MODE m with dies := [(0, {viso := true}), (1, {viso := true})]}
def im (u : IlmU) : State := {(pin {} 3) with ilm := u}

theorem witness_PinsGroupsInterlock :
   (∃ (n : Fin 128) (r : Fin 8) (g : Fin 32) (h : Fin 32) (i : Fin 288) (v : Word) (lvl : Bool) (t0 : Nat) (t1 : Nat) (s : State), let c := s.chan n
    let u := s.regionU r
    let l := s.lg g
    let cfg := (s.reg (F.LG_CTRL_EN g).addr).toNat
    (s.tbc % 2500 = 0) ∧ (s.dieDark (r.val / 2) = false) ∧ (v.getLsbD 0 = false ∨ u.vfldMissing = true) ∧ (2 ^ 31 ≤ cfg) ∧ (v.toNat < 2 ^ 31) ∧
     (l.next = some t0) ∧ (t0 ≤ s.tbc) ∧ (0 < cfg % 65536) ∧ ((s.lgTrig g).map Prod.fst = some t1) ∧ (l.rephased = true) ∧ (c.member = some g.val) ∧
     (l.next.isSome = true) ∧ (v = BitVec.ofNat 32 (32 + h)) ∧ (h ≠ g) ∧ (i.val < 128) ∧ ((s.chan i).raw ≠ lvl) ∧
     (s.fld (F.AX_CFG_QENC_EN (n / 2 * 2)) = 0)) ∧
   (∃ (n : Fin 128) (r : Fin 8) (g : Fin 32) (i : Fin 288) (v : Word) (t0 : Nat) (s : State), let c := s.chan n
    let up := s.dieDark (chDie n) = false
    let grid := s.tbc % 125 = 0
    let dir := s.fld (F.FIO_CFG_DIR n)
    let u := s.regionU r
    let cfg := (s.reg (F.LG_CTRL_EN g).addr).toNat
    let period := v.toNat % 65536
    (up) ∧ (c.dirOld = none) ∧ (v.toNat / 2 ^ 29 % 2 = dir) ∧ (v.toNat / 2 ^ 27 % 4 ≠ 3) ∧ (c.raw ≠ c.inp) ∧ (v.toNat % 65536 ≠ 0) ∧ (dir = 0) ∧
     (c.debSince = some t0) ∧ (t0 + 250 * s.fld (F.FIO_CFG_DEB n) ≤ s.tbc) ∧ (s.dieDark (r.val / 2) = false) ∧ (v.getLsbD 0 = true) ∧
     (u.vfldMissing = false) ∧ (grid) ∧ (2 ^ 31 ≤ v.toNat) ∧ (lgValid v = true) ∧ (10 ≤ period ∨ s.lgBoundActive g = false) ∧ (cfg < 2 ^ 31) ∧
     ((s.lgTrig g).map Prod.fst = none) ∧ (256 ≤ i.val) ∧ (i.val < 272)) ∧
   (∃ (n : Fin 128) (r : Fin 8) (g : Fin 32) (i : Fin 288) (v : Word) (s : State), let c := s.chan n
    let u := s.regionU r
    let cfg := (s.reg (F.LG_CTRL_EN g).addr).toNat
    (0 < s.fld (F.FIO_MAXACT_MAXACT n)) ∧ (c.inp = true) ∧ (s.fioOut n = false) ∧ (c.inSince + 250000 * s.fld (F.FIO_MAXACT_MAXACT n) ≤ s.tbc) ∧
     (u = { vfldMissing := true }) ∧ (s.fld (F.RG_STAT_TRIPPED r) = 0) ∧ ((∀ j : Fin 16, (s.chan (16 * r + j)).maxact = false)) ∧ (cfg < 2 ^ 31) ∧
     (2 ^ 31 ≤ v.toNat) ∧ (lgValid v = false) ∧ (280 ≤ i.val)) ∧
   (∃ (n : Fin 128) (r : Fin 8) (v : Word) (t0 : Nat) (s : State), let c := s.chan n
    let m := s.fld F.SYS_MODE_MODE
    let up := s.dieDark (chDie n) = false
    let grid := s.tbc % 125 = 0
    let u := s.regionU r
    (up) ∧ (v.toNat / 2 ^ 27 % 4 ≠ 3) ∧ (m = 2) ∧ (c.debSince = some t0) ∧ (s.tbc < t0 + 250 * s.fld (F.FIO_CFG_DEB n)) ∧
     (s.dieDark (r.val / 2) = false) ∧ (v.getLsbD 0 = true) ∧ (u.vfldMissing = false) ∧ (¬ grid)) ∧
   (∃ (g : Fin 32) (v : Word) (t0 : Nat) (t1 : Nat) (s : State), let l := s.lg g
    let cfg := (s.reg (F.LG_CTRL_EN g).addr).toNat
    let period := v.toNat % 65536
    (2 ^ 31 ≤ v.toNat) ∧ (lgValid v = true) ∧ (10 ≤ period ∨ s.lgBoundActive g = false) ∧ (2 ^ 31 ≤ cfg) ∧ (l.next = some t0) ∧
     ((s.lgTrig g).map Prod.fst = some t1) ∧ (l.rephased = false)) ∧
   (∃ (n : Fin 128) (v : Word) (s : State), let m := s.fld F.SYS_MODE_MODE
    let up := s.dieDark (chDie n) = false
    let dir := s.fld (F.FIO_CFG_DIR n)
    (up) ∧ (v.toNat / 2 ^ 29 % 2 ≠ dir) ∧ (3 ≤ m)) ∧
   (∃ (g : Fin 32) (v : Word) (s : State), let period := v.toNat % 65536
    (2 ^ 31 ≤ v.toNat) ∧ (lgValid v = true) ∧ (period < 10) ∧ (s.lgBoundActive g = true)) ∧
   (∃ (i : Fin 288) (t0 : Nat) (s : State), (i.val < 128) ∧ ((s.chan i).filtSince = some t0) ∧ (t0 + (s.ilmFilt i * 5 + 1) / 2 ≤ s.tbc)) ∧
   (∃ (n : Fin 128) (s : State), let up := s.dieDark (chDie n) = false
    (up) ∧ (s.expertOn (F.FIO_MAXACT_MAXACT n).addr = true)) ∧
   (∃ (n : Fin 128) (h : Fin 32) (v : Word) (s : State), let c := s.chan n
    (c.member = none) ∧ ((s.lg h).next = none) ∧ (v = BitVec.ofNat 32 (32 + h))) ∧
   (∃ (n : Fin 128) (s : State), (s.fld (F.AX_CFG_QENC_EN (n / 2 * 2)) = 1)) :=
  ⟨⟨3, 0, 4, 6, 3, 38, true, 0, 77, {((((pin {member := some 4, leaving := true} 3).setFld (F.LG_CTRL_PERIOD 4) 7).setFld (F.LG_CTRL_TRIG 4) 2).setFld (F.LG_CTRL_EN 4) 1) with lgs := [(4, {next := some 0, rephased := true, trigs := [77, 88]})]}, by decide +kernel⟩,
  ⟨3, 0, 4, 260, 0x80000005, 0, {(pin {raw := true, debSince := some 0} 3) with regions := [(0, {over4 := 999})]}, by decide +kernel⟩,
  ⟨3, 0, 4, 282, 0x80000000, {((pin {inp := true} 3).setFld (F.FIO_MAXACT_MAXACT 3) 2) with regions := [(0, {vfldMissing := true})]}, by decide +kernel⟩,
  ⟨3, 0, 0x20000005, 0, {(((pin {raw := true, debSince := some 0} 2)).setFld (F.FIO_CFG_DEB 3) 3) with tbc := 749}, by decide +kernel⟩,
  ⟨4, 0x80000020, 0, 77, {((((pin {member := some 4} 3).setFld (F.LG_CTRL_PERIOD 4) 7).setFld (F.LG_CTRL_TRIG 4) 2).setFld (F.LG_CTRL_EN 4) 1) with tbc := 5000001, lgs := [(4, {next := some 0, trigs := [77, 88]})]}, by decide +kernel⟩,
  ⟨3, 0x20000005, (pin {raw := true, debSince := some 0} 3), by decide +kernel⟩,
  ⟨4, 0x80000005, ((((pin {} 3).setFld (F.RS_CFG_BIND 2) 1).setFld (F.RS_CFG_GROUP 2) 4).setFld (F.RS_STAT_STATE 2) 3), by decide +kernel⟩,
  ⟨3, 0, {((pin {filtSince := some 0, raw := true} 3).setFld (F.LG_CTRL_PERIOD 4) 7) with lgs := [(4, {next := some 0})]}, by decide +kernel⟩,
  ⟨3, (((pin {raw := true, debSince := some 5000000} 2).setFld (F.DIE_CTRL_EXPERT_EN 0) 1).setFld (F.FIO_CFG_DEB 3) 7), by decide +kernel⟩,
  ⟨3, 6, 38, {((((pin {} 3).setFld (F.LG_CTRL_PERIOD 4) 7).setFld (F.LG_CTRL_TRIG 4) 1).setFld (F.LG_CTRL_EN 4) 1).setReg (F.CH_LG_MEMB 3).addr 0x24 with lgs := [(4, {next := some 0})]}, by decide +kernel⟩,
  ⟨3, {((((pin {member := some 4} 3).setFld (F.LG_CTRL_PERIOD 4) 7).setFld (F.LG_CTRL_TRIG 4) 1).setFld (F.LG_CTRL_EN 4) 1).setFld (F.AX_CFG_QENC_EN 2) 1 with lgs := [(4, {next := some 0, rephased := true})]}, by decide +kernel⟩⟩

theorem witness_InterlockSets :
   (∃ (key : Byte) (set : Bool) (t0 : Nat) (s : State), let active := s.fld F.ILM_STAT_ACTIVE
    let pend := s.fld F.ILM_STAT_SWAP_PEND = 1
    let a := s.fld F.ILM_ARG_SET
    let k := s.fld F.ILM_ARG_TERM
    (b2n set = active ∨ pend) ∧ (key ≠ 0xA5) ∧ (pend ∨ s.ilm.overlap ≠ none) ∧ (s.fld F.ILM_STAT_LOADED = 1) ∧ (¬ pend) ∧
     (s.ilm.overlap = some t0) ∧ (t0 ≤ s.tbc) ∧ (s.ilmTerm a k = none) ∧ (a < 2)) ∧
   (∃ (set : Bool) (s : State), let active := s.fld F.ILM_STAT_ACTIVE
    let pend := s.fld F.ILM_STAT_SWAP_PEND = 1
    let other := 1 - active
    let lit := s.ilmTerms other
    (b2n set ≠ active) ∧ (¬ pend) ∧ (s.ilm.overlap = none) ∧ (s.ilmCheck lit (placeLocal lit) = none) ∧ (s.fld F.ILM_STAT_LOADED = 0 ∨ pend)) ∧
   (∃ (e : Nat) (x : Nat) (s : State), let active := s.fld F.ILM_STAT_ACTIVE
    let pend := s.fld F.ILM_STAT_SWAP_PEND = 1
    let other := 1 - active
    let lit := s.ilmTerms other
    (¬ pend) ∧ (s.ilm.overlap = none) ∧ (s.ilmCheck lit (placeLocal lit) = some (e, x)) ∧ (e < 8) ∧ (x < 512)) ∧
   (∃ (t0 : Nat) (s : State), let active := s.fld F.ILM_STAT_ACTIVE
    (s.ilm.swapAt = some t0) ∧ (t0 ≤ s.tbc) ∧ (active < 2)) :=
  ⟨⟨3, false, 0, (((im {overlap := some 0}).setReg (F.ILM_TERM_WORD 1 5 0).addr 0x80000000).setFld F.ILM_STAT_LOADED 1), by decide +kernel⟩,
  ⟨true, (im {}), by decide +kernel⟩,
  ⟨3, 5, ((((im {}).setReg (F.ILM_TERM_WORD 1 5 0).addr 0x80000000).setFld F.ILM_ARG_TERM 7).setFbit (ilmLatLoc 0 0) 7 true), by decide +kernel⟩,
  ⟨0, ((((im {swapAt := some 0}).setReg (F.ILM_TERM_WORD 1 5 0).addr 0x80000000).setFld F.ILM_STAT_LOADED 1).setFld F.ILM_STAT_SWAP_PEND 1), by decide +kernel⟩⟩

end W17

/-! ### Statements of group 18 -/

namespace W18

def sl : State := let s : State := {(loaded 3) with tbc := 5000125}; ((s.setDsc 70 35 1).setDsc 70 32 6)
def slE : State := sl.setFld (F.LE_SLOTCFG_EN 70) 1
def ac : Act := {slot := 70, set := 0, ended := true, readyAt := 5000000, prio := 4}

theorem witness_LoopSlotsRun :
   (∃ (g : Fin 512) (e : Fin 8) (k : Fin 64) (v : Word) (off : Fin 1048576) (j : Nat) (t0 : Nat) (r : Ready) (a : Act) (rest : List Act) (s : State), let x := s.engine e
    let en := s.fld (F.LE_SLOTCFG_EN g)
    (en = 1) ∧ (x.ready = [r]) ∧ (x.freeing = []) ∧ ((s.newAct e (x.stack.length) r).std = false) ∧ (x.stack = [a]) ∧ (a.set = 0) ∧
     (r.prio < a.prio) ∧ (s.fld (F.LE_CTRL_PREEMPT_EN e) = 1) ∧ (x.endAt = some t0) ∧ (r.at_ ≤ t0) ∧ (x.stack = a :: rest) ∧ (a.ended = true) ∧
     (s.fld (F.LE_SLOTSTAT_PENDING a.slot) = 0) ∧ (s.strmsOn = []) ∧ (leMemOk off = true) ∧ (off.val < 0x4FE00) ∧ (off.val % 2 = 0) ∧
     (off.val % 4 = 2) ∧ (s.fld (F.LE_CTRL_SCRUB_EN e) = 1) ∧ (s.eccBad (0x10000000 + 0x100000 * e.val + off.val / 8 * 8) 8 = false) ∧
     (s.eccSoft (0x10000000 + 0x100000 * e.val + off.val / 8 * 8) 8 = true) ∧ (v.toNat / 2 ^ 24 = 0xA5) ∧ (s.slotPins g = [j]) ∧
     ((s.chan (j % 128)).member = some (v.toNat % 32)) ∧ (v.getLsbD 31 = true) ∧ (s.epMapped (s.fld (F.LE_IMPSRC_HANDLE e k)) = false)) ∧
   (∃ (g : Fin 512) (e : Fin 8) (v : Word) (off : Fin 1048576) (a : Act) (rest : List Act) (s : State), let x := s.engine e
    let en := s.fld (F.LE_SLOTCFG_EN g)
    (en = 0) ∧ (s.slotOk g = true) ∧ (x.stack = a :: rest) ∧ (a.ended = false) ∧ (a.std = false) ∧ (leMemOk off = true) ∧ (off.val < 0x4FE00) ∧
     (off.val % 4 = 0) ∧ (s.fld (F.LE_CTRL_SCRUB_EN e) = 1) ∧ (s.flt.badEcc = []) ∧ (v.toNat / 2 ^ 24 ≠ 0xA5)) ∧
   (∃ (g : Fin 512) (e : Fin 8) (k : Fin 64) (v : Word) (t0 : Nat) (r : Ready) (a : Act) (s : State), let x := s.engine e
    let en := s.fld (F.LE_SLOTCFG_EN g)
    (en = 1) ∧ (s.tasksRun = true) ∧ (s.slotTick g = some t0) ∧ ((s.slot g).enabledAt < t0) ∧ ((s.slot g).lastReady ≠ some t0) ∧ (s.seqs = []) ∧
     (s.slotAct g = some a) ∧ (1 ≤ a.ticks) ∧ (x.ready = [r]) ∧ (x.freeing = []) ∧ ((s.newAct e (x.stack.length) r).std = false) ∧ (x.stack = [a]) ∧
     (a.prio ≤ r.prio ∨ (s.fld (F.LE_CTRL_PREEMPT_EN e) = 0 ∧ x.endAt = none)) ∧ (v.getLsbD 31 = true) ∧
     (s.epMapped (s.fld (F.LE_IMPSRC_HANDLE e k)) = true)) ∧
   (∃ (g : Fin 512) (v : Word) (t0 : Nat) (s : State), let en := s.fld (F.LE_SLOTCFG_EN g)
    (en = 1) ∧ (s.tasksRun = true) ∧ (s.slotTick g = some t0) ∧ ((s.slot g).enabledAt < t0) ∧ ((s.slot g).lastReady ≠ some t0) ∧ (s.seqs = []) ∧
     (s.slotReady g = false) ∧ (s.slotAct g = none) ∧ (v.getLsbD 31 = false)) ∧
   (∃ (g : Fin 512) (e : Fin 8) (r : Ready) (s : State), let x := s.engine e
    let en := s.fld (F.LE_SLOTCFG_EN g)
    (en = 0) ∧ (s.slotOk g = false) ∧ (x.ready = [r]) ∧ (x.freeing = []) ∧ ((s.newAct e (x.stack.length) r).std = false) ∧ (x.stack = [])) ∧
   (∃ (g : Fin 512) (t0 : Nat) (a : Act) (s : State), let en := s.fld (F.LE_SLOTCFG_EN g)
    (en = 1) ∧ (s.tasksRun = true) ∧ (s.slotTick g = some t0) ∧ ((s.slot g).enabledAt < t0) ∧ ((s.slot g).lastReady ≠ some t0) ∧ (s.seqs = []) ∧
     (s.slotAct g = some a) ∧ (a.ticks = 0)) ∧
   (∃ (e : Fin 8) (off : Fin 1048576) (s : State), (s.fld (F.LE_CTRL_SCRUB_EN e) = 1) ∧
     (s.eccBad (0x10000000 + 0x100000 * e.val + off.val / 8 * 8) 8 = true)) :=
  ⟨⟨70, 1, 2, 0xA5000140, 0x40002, 150, 5000000, {slot := 71, at_ := 5, prio := 3, entry := 7, bank := true}, ac, [], {(slE.setFld (F.LE_CTRL_SCRUB_EN 1) 1) with chans := [(22, {member := some 0})], flt := {badEcc := [(0x10140000, 1)]}, engines := [(1, {endAt := some 5000000, stack := [ac], ready := [{slot := 71, at_ := 5, prio := 3, entry := 7, bank := true}]})]}, by decide +kernel⟩,
  ⟨70, 1, 0x9800000A, 0x40004, act1, [], {sl with engines := [(1, {stack := [act1]})]}, by decide +kernel⟩,
  ⟨70, 1, 2, 0xA5000140, 5000000, {slot := 71, at_ := 5, prio := 4, entry := 7, bank := true}, {ac with ticks := 1}, {(slE.setFld (F.LE_IMPSRC_HANDLE 1 2) 0x50000004).setFld (F.LE_CTRL_SCRUB_EN 1) 1 with engines := [(1, {stack := [{ac with ticks := 1}], ready := [{slot := 71, at_ := 5, prio := 4, entry := 7, bank := true}]})]}, by decide +kernel⟩,
  ⟨70, 0x1800000A, 5000000, slE, by decide +kernel⟩,
  ⟨71, 1, {slot := 70, at_ := 5, prio := 3, entry := 7, bank := true}, {sl with engines := [(1, {ready := [{slot := 70, at_ := 5, prio := 3, entry := 7, bank := true}]})]}, by decide +kernel⟩,
  ⟨70, 5000000, ac, {slE with engines := [(1, {stack := [ac], ready := [{slot := 71, at_ := 5, prio := 3, entry := 7, bank := true}]})]}, by decide +kernel⟩,
  ⟨1, 0x40002, {(slE.setFld (F.LE_CTRL_PREEMPT_EN 1) 1).setFld (F.LE_CTRL_SCRUB_EN 1) 1 with chans := [(22, {member := some 0})], flt := {badEcc := [(0x10140000, 2)]}, engines := [(1, {stack := [ac], ready := [{slot := 71, at_ := 5, prio := 3, entry := 7, bank := true}]})]}, by decide +kernel⟩⟩

end W18

/-! ### Statements of group 19 -/

namespace W19

def rq (q : Seq) (m : Nat) : State := let b := 0x500000; let w := fun (i : Nat) (v : Word) (s : State) => s.setWord (b + i) v; {((loaded m) |> w 0 0x52435054 |> w 4 2 |> w 16 64 |> w 20 128 |> w 68 3 |> w 76 0xFFFF0001 |> w 128 1 |> w 132 5 |> w 140 0xFFFFFFFF).setFld (F.RS_CFG_TBL 3) (b/64) with seqs := [(3, q)], tbc := 5000200}

theorem witness_RecipeSequencers :
   (∃ (n : Fin 32) (key : Byte) (p0 : Prep) (s : State), let q := s.seq n
    let p := q.pos
    let m := s.fld F.SYS_MODE_MODE
    let arg := s.fld (F.RS_ARG_STEP n)
    let go := m = 3 ∨ m = 5
    let rest := p.st = 0 ∨ p.st = 5 ∨ p.st = 6
    (key ≠ 0xA5) ∧ (go) ∧ (rest) ∧ (s.tableErr n = none) ∧ (arg < s.rcpSteps n) ∧ (m ≠ 1) ∧ (p.st ≠ 1) ∧ (p.st ≠ 2) ∧ (¬ (p.st = 1 ∨ p.st = 2)) ∧
     (s.fld (F.RS_CFG_BIND n) = 0) ∧ (s.tbc % 2500 < 125) ∧ (q.prep = some p0) ∧ (p0.tick = s.tbc) ∧ (s.tbc % 2500 = 0) ∧ (p0.pos.ramps = []) ∧
     (p0.effects = [])) ∧
   (∃ (n : Fin 32) (s : State), let q := s.seq n
    let p := q.pos
    let m := s.fld F.SYS_MODE_MODE
    let arg := s.fld (F.RS_ARG_STEP n)
    let go := m = 3 ∨ m = 5
    let rest := p.st = 0 ∨ p.st = 5 ∨ p.st = 6
    let tick := s.tbc / 2500 * 2500 + 2500
    let h := s.stepHdr n p.step
    let free := s.fld (F.RS_CFG_BIND n) = 0 ∧ 125 ≤ s.tbc % 2500 ∧ (q.prep.map Prep.tick) ≠ some tick
    (¬ (go ∧ rest)) ∧ (p.st = 1) ∧ (p.st = 1 ∨ p.st = 2) ∧ (arg < s.rcpSteps n) ∧ (free) ∧ (q.cmd = none) ∧ (h.nact ≤ p.act) ∧ (h.endKind = 0) ∧
     (h.maxtime = 0) ∧ ((tick : Int) < p.s + 2500 * (h.duration : Int))) ∧
   (∃ (n : Fin 32) (t0 : Nat) (s : State), let q := s.seq n
    let p := q.pos
    let m := s.fld F.SYS_MODE_MODE
    let go := m = 3 ∨ m = 5
    let tick := s.tbc / 2500 * 2500 + 2500
    let free := s.fld (F.RS_CFG_BIND n) = 0 ∧ 125 ≤ s.tbc % 2500 ∧ (q.prep.map Prep.tick) ≠ some tick
    (go) ∧ (p.st = 2) ∧ (free) ∧ (q.cmd = some (2, 0, t0)) ∧ (t0 ≤ tick - 2375)) ∧
   (∃ (n : Fin 32) (s : State), let q := s.seq n
    let p := q.pos
    let arg := s.fld (F.RS_ARG_STEP n)
    let tick := s.tbc / 2500 * 2500 + 2500
    let h := s.stepHdr n p.step
    let free := s.fld (F.RS_CFG_BIND n) = 0 ∧ 125 ≤ s.tbc % 2500 ∧ (q.prep.map Prep.tick) ≠ some tick
    (p.st = 1 ∨ p.st = 2) ∧ (s.rcpSteps n ≤ arg) ∧ (free) ∧ (p.st = 1) ∧ (q.cmd = none) ∧ (h.nact ≤ p.act) ∧ (h.endKind = 0) ∧ (h.maxtime = 0) ∧
     (p.s + 2500 * (h.duration : Int) ≤ (tick : Int)) ∧ (h.next ≠ 0xFFFF) ∧ (s.stepErr n h.next = 0) ∧ ((s.stepHdr n h.next).nact = 0)) ∧
   (∃ (n : Fin 32) (t0 : Nat) (st : Nat) (s : State), let q := s.seq n
    let p := q.pos
    let m := s.fld F.SYS_MODE_MODE
    let go := m = 3 ∨ m = 5
    let rest := p.st = 0 ∨ p.st = 5 ∨ p.st = 6
    let tick := s.tbc / 2500 * 2500 + 2500
    let free := s.fld (F.RS_CFG_BIND n) = 0 ∧ 125 ≤ s.tbc % 2500 ∧ (q.prep.map Prep.tick) ≠ some tick
    (free) ∧ (go) ∧ (rest) ∧ (q.cmd = some (1, st, t0)) ∧ (t0 ≤ tick - 2375) ∧ (s.stepErr n st = 0) ∧ ((s.stepHdr n st).nact = 0)) ∧
   (∃ (n : Fin 32) (e : Nat) (st : Nat) (s : State), let q := s.seq n
    let p := q.pos
    let m := s.fld F.SYS_MODE_MODE
    let go := m = 3 ∨ m = 5
    let rest := p.st = 0 ∨ p.st = 5 ∨ p.st = 6
    (go) ∧ (rest) ∧ (s.tableErr n = some (e, st)) ∧ (e < 16) ∧ (st < 4096)) ∧
   (∃ (n : Fin 32) (s : State), let q := s.seq n
    let p := q.pos
    let tick := s.tbc / 2500 * 2500 + 2500
    let h := s.stepHdr n p.step
    let free := s.fld (F.RS_CFG_BIND n) = 0 ∧ 125 ≤ s.tbc % 2500 ∧ (q.prep.map Prep.tick) ≠ some tick
    (free) ∧ (p.st = 1) ∧ (q.cmd = none) ∧ (h.nact ≤ p.act) ∧ (h.endKind = 0) ∧ (h.maxtime = 0) ∧ (p.s + 2500 * (h.duration : Int) ≤ (tick : Int)) ∧
     (h.next = 0xFFFF)) ∧
   (∃ (n : Fin 32) (t0 : Nat) (s : State), let q := s.seq n
    let p := q.pos
    let tick := s.tbc / 2500 * 2500 + 2500
    let free := s.fld (F.RS_CFG_BIND n) = 0 ∧ 125 ≤ s.tbc % 2500 ∧ (q.prep.map Prep.tick) ≠ some tick
    (free) ∧ (p.st = 1) ∧ (q.cmd = some (3, 0, t0)) ∧ (t0 ≤ tick - 2375)) ∧
   (∃ (n : Fin 32) (p0 : Prep) (e : Nat) (slot : Nat) (s : State), let q := s.seq n
    (q.prep = some p0) ∧ (p0.tick = s.tbc) ∧ (s.tbc % 2500 = 0) ∧ (s.fld (F.RS_CFG_BIND n) = 0) ∧ (p0.pos.ramps = []) ∧
     (p0.effects = [.aout (slot % 128) e])) ∧
   (∃ (n : Fin 32) (p0 : Prep) (slot : Nat) (w : Word) (s : State), let q := s.seq n
    (q.prep = some p0) ∧ (p0.tick = s.tbc) ∧ (s.tbc % 2500 = 0) ∧ (s.fld (F.RS_CFG_BIND n) = 0) ∧ (p0.pos.ramps = []) ∧
     (p0.effects = [.setp slot [(24, w.toNat % 65536)]]) ∧ (slot < 512)) :=
  ⟨⟨3, 7, {tick := 5000000, pos := {st := 1, step := 1, s := 77}}, {(rq {prep := some {tick := 5000000, pos := {st := 1, step := 1, s := 77}}} 3) with tbc := 5000000}, by decide +kernel⟩,
  ⟨3, (rq {pos := {st := 1, step := 0, s := 5000000}} 3), by decide +kernel⟩,
  ⟨3, 0, (rq {pos := {st := 2, step := 1, s := 4000000}, cmd := some (2,0,0)} 3), by decide +kernel⟩,
  ⟨3, ((rq {pos := {st := 1, step := 0, s := 4990000}} 3).setFld (F.RS_ARG_STEP 3) 2), by decide +kernel⟩,
  ⟨3, 0, 1, (rq {cmd := some (1,1,0)} 3), by decide +kernel⟩,
  ⟨3, 1, 0, ((rq {} 3).setWord 0x500000 0), by decide +kernel⟩,
  ⟨3, (rq {pos := {st := 1, step := 1, s := 4000000}} 3), by decide +kernel⟩,
  ⟨3, 0, (rq {pos := {st := 1, step := 1, s := 4000000}, cmd := some (3,0,0)} 3), by decide +kernel⟩,
  ⟨3, {tick := 5000000, pos := {st := 1, step := 1, s := 77}, effects := [.aout 70 1]}, 1, 70, {(rq {prep := some {tick := 5000000, pos := {st := 1, step := 1, s := 77}, effects := [.aout 70 1]}} 3) with tbc := 5000000}, by decide +kernel⟩,
  ⟨3, {tick := 5000000, pos := {st := 1, step := 1, s := 77}, effects := [.setp 70 [(24,5)]]}, 70, 5, {(rq {prep := some {tick := 5000000, pos := {st := 1, step := 1, s := 77}, effects := [.setp 70 [(24,5)]]}} 3) with tbc := 5000000}, by decide +kernel⟩⟩

end W19

/-! ### Statements of group 20 -/

namespace W20

def mx (st md : Nat) (a : Axis) (c : Chan) : State := {((((((((loaded 3).setFld (F.AX_CFG_EN 4) 1).setFld (F.AX_CFG_MODE 4) md).setFld (F.AX_STAT_STATE 4) st).setFld (F.VMAX 4) 100000).setFld (F.AMAX_LIMIT 4) 1000).setFld (F.DMAX_LIMIT 4) 1000).setFld (F.EDMAX_LIMIT 4) 1000).setFld (F.JMAX 4) 100 with axes := [(4, a)], chans := [(4, c)], tbc := 5000000, dies := [(0, {viso := true})]}

theorem witness_Axes :
   (∃ (n : Fin 128) (key : Byte) (pad : BitVec 4) (t0 : Nat) (s : State), let x := s.axis n
    let st := s.fld (F.AX_STAT_STATE n)
    let md := s.fld (F.AX_CFG_MODE n)
    let on := s.fld (F.AX_CFG_EN n) = 1
    let m := s.fld F.SYS_MODE_MODE
    let go := m = 3 ∨ m = 5 ∨ m = 6
    let tgt := s.axTgt n
    let rel := toSigned 48 (ofSigned 48 (s.axPending n + tgt))
    let free := on ∧ md ≠ 3 ∧ go ∧ 1 ≤ st ∧ st ≤ 4
    let u := s.genAdvance n
    let micro := s.fld (F.STALL_CFG_MICRO n) + 1
    (key ≠ 0xA5) ∧ (free) ∧ (s.axOutside n tgt = false) ∧ (s.axOutside n rel = false) ∧ (on) ∧ (md ≠ 3) ∧
     (st ≠ 4 ∨ s.fld (F.AX_STAT_POS_LOST n) = 1) ∧ (st = 2 ∨ st = 3) ∧ (st ≠ 6) ∧ (s.tbc % 4000 ≠ 0) ∧ (x.inhibits = []) ∧ (x.vNext = []) ∧
     (x.limitHit = false) ∧ (-(s.vlim n) ≤ x.v) ∧ (x.v ≤ s.vlim n) ∧ (x.v ≠ 0) ∧ (m ≠ 6) ∧ (s.fld (F.AX_CFG_SOFT_EN n) = 0) ∧
     (s.fld (F.AX_CFG_QENC_EN n) = 0) ∧ (1 ∉ x.inhibits) ∧ (pad.toNat ≠ (s.chan n).padSteps % 16) ∧ (x.mmSince = some t0) ∧ (t0 + 500 ≤ s.tbc) ∧
     (s.safe.bht = none) ∧ (s.fld (F.AX_CFG_STALL_EN n) = 1) ∧ ((u.act n - u.fld (F.STALL_CFG_PH0 n)) % (4 * micro : Nat) = micro) ∧
     (s.fld (F.CH_STAT_AVAIL n) = 1) ∧ ((s.chan n).snsHi = false) ∧ ((s.chan n).snsLo = false) ∧ ((s.chan n).refUns = false) ∧
     ((u.stallSample n micro).num * 10 < s.fld (F.STALL_LIM_RATED n) * (u.stallSample n micro).den)) ∧
   (∃ (n : Fin 128) (v : Word) (s : State), let st := s.fld (F.AX_STAT_STATE n)
    let md := s.fld (F.AX_CFG_MODE n)
    let on := s.fld (F.AX_CFG_EN n) = 1
    let m := s.fld F.SYS_MODE_MODE
    let go := m = 3 ∨ m = 5 ∨ m = 6
    let free := on ∧ md ≠ 3 ∧ go ∧ 1 ≤ st ∧ st ≤ 4
    let w := s.plainWrite (F.AX_CFG_EN n).addr (putBits v 31 1 0)
    (¬ free) ∧ (¬ on ∨ md = 3) ∧ (st < 2 ∨ 3 < st) ∧ (s.axMoves n = false) ∧ (¬ on) ∧ (v.toNat / 2 ^ 17 % 2 = 0) ∧
     (w.fld (F.AX_CFG_STALL_EN n) = 0) ∧ (w.axOk n = false) ∧ (n.val % 2 = 1) ∧ (v.toNat / 2 ^ 31 = 0)) ∧
   (∃ (n : Fin 128) (pad : BitVec 4) (s : State), let x := s.axis n
    let st := s.fld (F.AX_STAT_STATE n)
    let md := s.fld (F.AX_CFG_MODE n)
    let on := s.fld (F.AX_CFG_EN n) = 1
    let m := s.fld F.SYS_MODE_MODE
    let go := m = 3 ∨ m = 5 ∨ m = 6
    let tgt := s.axTgt n
    let rel := toSigned 48 (ofSigned 48 (s.axPending n + tgt))
    let free := on ∧ md ≠ 3 ∧ go ∧ 1 ≤ st ∧ st ≤ 4
    (free) ∧ (s.axOutside n tgt = true) ∧ (s.axOutside n rel = true) ∧ (on) ∧ (md ≠ 3) ∧ (go) ∧ (st = 4) ∧ (s.fld (F.AX_STAT_POS_LOST n) = 0) ∧
     (s.fld (F.AX_CFG_QENC_EN n) = 0) ∧ (1 ∉ x.inhibits) ∧ (pad.toNat = (s.chan n).padSteps % 16)) ∧
   (∃ (n : Fin 128) (pad : BitVec 4) (t0 : Nat) (tg : Int) (s : State), let x := s.axis n
    let st := s.fld (F.AX_STAT_STATE n)
    let md := s.fld (F.AX_CFG_MODE n)
    let on := s.fld (F.AX_CFG_EN n) = 1
    (s.tbc % 4000 = 0) ∧ (on) ∧ (md = 1) ∧ (x.segs = []) ∧ (s.axes = [(n.val, x)]) ∧ (s.fld (F.AX_CFG_SOFT_EN n) = 0) ∧ (s.safe.bht = none) ∧
     (x.cmds = [(1, tg, t0)]) ∧ (t0 + 1000 ≤ s.tbc) ∧ (st = 1) ∧ (x.thenInhibit = false) ∧ (s.fld (F.AX_CFG_QENC_EN n) = 0) ∧ (1 ∉ x.inhibits) ∧
     (pad.toNat ≠ (s.chan n).padSteps % 16) ∧ (x.mmSince = none)) ∧
   (∃ (n : Fin 128) (v : Word) (s : State), let on := s.fld (F.AX_CFG_EN n) = 1
    let w := s.plainWrite (F.AX_CFG_EN n).addr (putBits v 31 1 0)
    (¬ on) ∧ (v.toNat / 2 ^ 17 % 2 = 0) ∧ (w.fld (F.AX_CFG_STALL_EN n) = 0) ∧ (w.axOk n = true) ∧ (n.val % 2 = 0) ∧ (v.toNat / 2 ^ 31 = 0) ∧
     (v.toNat / 2 ^ 18 % 4 = 0) ∧ (s.fld (F.FIO_CFG_DIR n) = 0) ∧ (s.fld (F.FIO_CFG_DIR (n.val + 1)) = 0)) ∧
   (∃ (n : Fin 128) (s : State), let x := s.axis n
    let st := s.fld (F.AX_STAT_STATE n)
    let md := s.fld (F.AX_CFG_MODE n)
    let m := s.fld F.SYS_MODE_MODE
    let k := (x.acu + x.v * ((s.tbc - x.genAt : Nat) : Int)) / 4294967296 - (x.acu / 4294967296 : Nat)
    (st = 6) ∧ (x.inhibits = []) ∧ (x.vNext = []) ∧ (x.limitHit = false) ∧ (-(s.vlim n) ≤ x.v) ∧ (x.v ≤ s.vlim n) ∧ (x.v ≠ 0) ∧ (m ≠ 6) ∧
     (s.fld (F.AX_CFG_SOFT_EN n) = 1) ∧ (md = 3) ∧ (s.act n = s.fld48 (F.SOFT_HI_L n) (F.SOFT_HI_H n)) ∧
     (s.fld48 (F.SOFT_LO_L n) (F.SOFT_LO_H n) ≤ s.act n) ∧ (0 < k)) ∧
   (∃ (n : Fin 128) (t0 : Nat) (tg : Int) (s : State), let x := s.axis n
    let st := s.fld (F.AX_STAT_STATE n)
    let md := s.fld (F.AX_CFG_MODE n)
    let on := s.fld (F.AX_CFG_EN n) = 1
    (s.tbc % 4000 = 0) ∧ (on) ∧ (md = 1) ∧ (x.segs = []) ∧ (s.axes = [(n.val, x)]) ∧ (s.fld (F.AX_CFG_SOFT_EN n) = 0) ∧ (s.safe.bht = none) ∧
     (x.cmds = [(5, tg, t0)]) ∧ (t0 + 1000 ≤ s.tbc) ∧ (x.vel = 0) ∧ (x.v = 0) ∧ (x.vNext = []) ∧ (-140737488355328 ≤ tg) ∧ (tg < 140737488355328) ∧
     (st = 5) ∧ (x.inhibits ≠ [])) ∧
   (∃ (n : Fin 128) (t0 : Nat) (tg : Int) (s : State), let x := s.axis n
    let md := s.fld (F.AX_CFG_MODE n)
    let on := s.fld (F.AX_CFG_EN n) = 1
    (s.tbc % 4000 = 0) ∧ (on) ∧ (md = 1) ∧ (x.segs = []) ∧ (s.axes = [(n.val, x)]) ∧ (s.fld (F.AX_CFG_SOFT_EN n) = 0) ∧ (s.safe.bht = none) ∧
     (x.cmds = [(1, tg, t0)]) ∧ (s.tbc < t0 + 1000)) ∧
   (∃ (n : Fin 128) (s : State), let on := s.fld (F.AX_CFG_EN n) = 1
    let u := s.genAdvance n
    let micro := s.fld (F.STALL_CFG_MICRO n) + 1
    let y := u.stallSample n micro
    let a := arccosDeg (min y.e y.full) y.full
    (s.fld (F.AX_CFG_STALL_EN n) = 1) ∧ (on) ∧ ((u.act n - u.fld (F.STALL_CFG_PH0 n)) % (4 * micro : Nat) = micro) ∧
     (s.fld (F.CH_STAT_AVAIL n) = 1) ∧ ((s.chan n).snsHi = false) ∧ ((s.chan n).snsLo = false) ∧ ((s.chan n).refUns = false) ∧
     (s.fld (F.STALL_LIM_RATED n) * (u.stallSample n micro).den ≤ (u.stallSample n micro).num * 10) ∧ ((u.stallSample n micro).full ≠ 0) ∧
     (u.stallCount n y a < s.fld (F.STALL_CFG_STALL_N n))) :=
  ⟨⟨4, 7, 0, 4000000, {(mx 2 1 {v := 2, mmSince := some 4000000, genAt := 4990000, acu := 5} {padSteps := 3, snsCode := 500}).setFld (F.AX_CFG_STALL_EN 4) 1 |>.setFld (F.CH_STAT_AVAIL 4) 1 |>.setFld (F.STALL_LIM_RATED 4) 100 |>.setFld (F.STALL_CFG_PH0 4) 3 |>.setFld (F.STALL_K_KE 4) 9 |>.setFld (F.STALL_CFG_STALL_N 4) 4 with tbc := 5000001}, by decide +kernel⟩,
  ⟨5, 0, ((mx 0 0 {} {}).setFld (F.AX_CFG_EN 4) 0), by decide +kernel⟩,
  ⟨4, 0, ((mx 4 1 {cmds := [(1, 77, 5000000)], v := 20000000, genAt := 4990000, acu := 5} {}).setFld (F.AX_CFG_SOFT_EN 4) 1 |>.setFld (F.TGT_L 4) 8), by decide +kernel⟩,
  ⟨4, 3, 0, 77, (mx 1 1 {cmds := [(1, 77, 0)]} {}), by decide +kernel⟩,
  ⟨4, 0x4000000, ((mx 0 0 {} {}).setFld (F.AX_CFG_EN 4) 0), by decide +kernel⟩,
  ⟨4, {(mx 6 3 {v := 20000000, mmSince := some 4000000, genAt := 4990000, acu := 5} {padSteps := 3}).setFld (F.AX_CFG_SOFT_EN 4) 1 with tbc := 5000001}, by decide +kernel⟩,
  ⟨4, 0, 77, (mx 5 1 {cmds := [(5, 77, 0)], inhibits := [1]} {}), by decide +kernel⟩,
  ⟨4, 4999500, 77, ((mx 1 1 {cmds := [(1, 77, 4999500)]} {}).setFld (F.AX_CFG_SOFT_EN 4) 0), by decide +kernel⟩,
  ⟨4, {(mx 2 1 {v := 20000000, mmSince := some 4000000, genAt := 4990000, acu := 5} {padSteps := 3, snsCode := 500}).setFld (F.AX_CFG_STALL_EN 4) 1 |>.setFld (F.CH_STAT_AVAIL 4) 1 |>.setFld (F.STALL_LIM_RATED 4) 100 |>.setFld (F.STALL_CFG_PH0 4) 45 |>.setFld (F.STALL_K_KE 4) 9 |>.setFld (F.STALL_CFG_STALL_N 4) 4 with tbc := 5000001}, by decide +kernel⟩⟩

end W20

/-! ### Statements of group 21 -/

namespace W21

def rk (st : Nat) (x : Unit_) (r : RecU) : State := {((((loaded 3).setFbit (F.TRIG_EN_SRC 2) 14 true).setFld (F.UNIT_STAT_STATE 2) st)).setFld (F.REC_SSRC_HANDLE 9) 0x10000003 with tbc := 50000000, recu := {r with units := [(2, x)]}}
def pg (n : Nat) : Page := {seq := n, nvme := true}
def rd : Record := {num := 1, mask := 0, primary := 0, t := 0, method := 0, actPre := 0, flags := 0, ot := 0, missed := 0, first := 0}

theorem witness_TraceRecorder :
   (∃ (m : Fin 1024) (u : Fin 16) (v : Word) (key : Byte) (lo : Nat) (t0 : Nat) (p : Page) (s : State), let x := s.unit u
    let st := s.fld (F.UNIT_STAT_STATE u)
    let w := s.plainWrite (F.REC_SCFG_EN m).addr (v ||| 0x80000000)
    let full := 3 * s.spillCap < 4 * s.spillUsed
    let low := 2 * s.spillUsed < s.spillCap
    let ready := s.fld F.PCIE_STAT_NVME_READY = 1
    (s.strmOn m = false) ∧ (w.epMapped (w.strmHandle m) = false ∨ 8000 * 2 ^ 40 < w.recRate w.strmsOn) ∧ (s.recu.susp = [] ∨ ¬ low) ∧ (¬ full) ∧
     (s.recu.lowSince = some t0) ∧ (s.recu.steps = [lo]) ∧ (t0 + 25000000 ≤ s.tbc) ∧ (s.recu.undoAt + 25000000 ≤ s.tbc) ∧
     (s.fld F.PCIE_CTRL_EN = 1) ∧ (2 ≤ s.mode) ∧ (ready) ∧ (x.paused = false) ∧ (x.spill = [p]) ∧ (p.nvme = true) ∧ (x.kept = []) ∧
     (p.host = false) ∧ (x.traceTo = none) ∧ (3 ≤ x.retries) ∧ (s.fld (F.UNIT_CFG_OUT u) % 2 = 1) ∧ (1 ≤ s.fld F.REC_CTRL_FLUSH_MS) ∧
     (x.flushAt + 250000 * s.fld F.REC_CTRL_FLUSH_MS ≤ s.tbc) ∧ (key ≠ 0xA5) ∧ (¬ (st = 0 ∨ st = 4 ∨ st = 5)) ∧ (st = 2 ∨ st = 3 ∨ st = 6) ∧
     (st ≠ 1) ∧ (¬ (st = 4 ∨ st = 5)) ∧ (st = 3) ∧ (x.copied = true) ∧ (x.rearmAt + 250 * s.fld (F.UNIT_TMO_HOLDOFF u) ≤ s.tbc) ∧
     (x.toutEnd = some t0) ∧ (t0 ≤ s.tbc)) ∧
   (∃ (m : Fin 1024) (u : Fin 16) (v : Word) (p : Page) (s : State), let x := s.unit u
    let st := s.fld (F.UNIT_STAT_STATE u)
    let y := s.strm m
    let w := s.plainWrite (F.REC_SCFG_EN m).addr (v ||| 0x80000000)
    (s.strmOn m = false) ∧ (w.epMapped (w.strmHandle m) = true) ∧ (w.recRate w.strmsOn ≤ 8000 * 2 ^ 40) ∧ (s.tbc < y.t0 + 250000) ∧
     (x.cur = some p) ∧ (s.tbc < p.openAt + 500000) ∧ (st = 0 ∨ st = 4 ∨ st = 5) ∧ (st = 4 ∨ st = 5)) ∧
   (∃ (m : Fin 1024) (u : Fin 16) (lo : Nat) (s : State), let x := s.unit u
    let st := s.fld (F.UNIT_STAT_STATE u)
    let y := s.strm m
    let yu := s.strmUnit m
    let low := 2 * s.spillUsed < s.spillCap
    (y.samples ≠ []) ∧ (y.t0 + 250000 ≤ s.tbc) ∧ ((s.unit yu).cur = none) ∧ ((s.unit yu).streamsDue = false) ∧ (s.recu.susp = [lo]) ∧ (low) ∧
     (s.recu.resumeAt + 25000000 ≤ s.tbc) ∧ (st = 1) ∧ (s.tbc % 125 = 0) ∧ (125 ≤ s.tbc) ∧ (2 ≤ s.mode) ∧ (x.hits = [(14, 0, 2)]) ∧
     (s.fbit (F.TRIG_EN_SRC u) 14 = false)) ∧
   (∃ (u : Fin 16) (s : State), let x := s.unit u
    let st := s.fld (F.UNIT_STAT_STATE u)
    (s.tbc % 125 = 0) ∧ (125 ≤ s.tbc) ∧ (2 ≤ s.mode) ∧ (st = 1) ∧ (x.hits = []) ∧ (s.fld (F.UNIT_CFG_MODE u) = 1) ∧
     (x.armedAt + 250000 * max 1 (s.fld (F.UNIT_TMO_AUTO_TO u)) ≤ s.tbc)) ∧
   (∃ (u : Fin 16) (p : Page) (s : State), let x := s.unit u
    let st := s.fld (F.UNIT_STAT_STATE u)
    (x.cur = some p) ∧ (p.openAt + 500000 ≤ s.tbc) ∧ (x.kept = []) ∧ (s.fld (F.UNIT_CFG_OUT u) = 0) ∧ (s.tbc % 125 = 0) ∧ (125 ≤ s.tbc) ∧
     (2 ≤ s.mode) ∧ (st = 1) ∧ (x.hits = [(14, 0, 2)]) ∧ (s.fbit (F.TRIG_EN_SRC u) 14 = true) ∧ (s.fld (F.MASK_CFG_EN u) = 0) ∧
     (s.fld (F.UNIT_CFG_TOUT_EN u) = 0) ∧ (s.strmsOn = [])) ∧
   (∃ (u : Fin 16) (p : Page) (r : Record) (s : State), let x := s.unit u
    let st := s.fld (F.UNIT_STAT_STATE u)
    let ready := s.fld F.PCIE_STAT_NVME_READY = 1
    (ready) ∧ (x.paused = false) ∧ (x.spill = [p]) ∧ (p.nvme = true) ∧ (x.kept = []) ∧ (x.retries < 3) ∧ (s.tbc % 125 = 0) ∧ (125 ≤ s.tbc) ∧
     (2 ≤ s.mode) ∧ (st = 2) ∧ (x.rcd = some r) ∧ (x.viol = none) ∧ (x.hits = []) ∧ (r.t + s.postTime u * 256 ≤ (s.tbc - 125) * 256)) ∧
   (∃ (u : Fin 16) (lo : Nat) (s : State), let x := s.unit u
    let st := s.fld (F.UNIT_STAT_STATE u)
    let full := 3 * s.spillCap < 4 * s.spillUsed
    (full) ∧ (s.recu.stepAt + 2500000 ≤ s.tbc) ∧ (((List.range 7).find? fun q => s.strmsOn.any fun n => s.fld (F.REC_SCFG_RPRI n) == q && s.fld (F.REC_SCFG_EFF_EXP n) < 10) = some lo) ∧ (s.tbc % 125 = 0) ∧ (125 ≤ s.tbc) ∧ (2 ≤ s.mode) ∧ (st = 3 ∨ st = 4 ∨ st = 5) ∧ (x.hits = [(14, 0, 2)]) ∧ (s.fbit (F.TRIG_EN_SRC u) 14 = true)) ∧
   (∃ (u : Fin 16) (s : State), let x := s.unit u
    let st := s.fld (F.UNIT_STAT_STATE u)
    let full := 3 * s.spillCap < 4 * s.spillUsed
    (st = 3) ∧ (x.copied = false) ∧ (¬ full) ∧ (s.tbc < x.rearmAt + 250 * s.fld (F.UNIT_TMO_HOLDOFF u))) :=
  ⟨⟨8, 2, 0x20000, 7, 0, 0, (pg 1), ((((rk 3 {copied := true, retries := 3, toutEnd := some 0, rcd := some rd, spill := [pg 1]} {lowSince := some 0, steps := [0]}).setFld F.PCIE_CTRL_EN 1).setFld F.PCIE_STAT_NVME_READY 1).setFld (F.UNIT_CFG_OUT 2) 1), by decide +kernel⟩,
  ⟨9, 2, 0x20000, {(pg 1) with openAt := 49500001}, (rk 4 {cur := some {(pg 1) with openAt := 49500001}} {strms := [(9, {samples := [(4,0)], t0 := 49750001})]}), by decide +kernel⟩,
  ⟨9, 2, 0, ({rk 1 {hits := [(14, 0, 2)], spill := []} {strms := [(9, {samples := [(4,0)], t0 := 3})], susp := [0]} with recu := {units := [(0, {streamsDue := false}), (2, {hits := [(14, 0, 2)], streamsDue := false})], strms := [(9, {samples := [(4,0)], t0 := 3})], susp := [0]}}.setFbit (F.TRIG_EN_SRC 2) 14 false), by decide +kernel⟩,
  ⟨2, ((rk 1 {hits := []} {} ).setFld (F.UNIT_CFG_MODE 2) 1), by decide +kernel⟩,
  ⟨2, {}, ((rk 1 {hits := [(14, 0, 2)], cur := some {}} {}).setFld (F.UNIT_CFG_MODE 2) 1), by decide +kernel⟩,
  ⟨2, (pg 1), rd, ((((rk 2 {rcd := some rd, spill := [pg 1]} {}).setFld F.PCIE_CTRL_EN 1).setFld F.PCIE_STAT_NVME_READY 1).setFld (F.UNIT_CFG_OUT 2) 1 |>.setFld F.REC_CTRL_FLUSH_MS 5), by decide +kernel⟩,
  ⟨2, 3, ((rk 4 {hits := [(14, 0, 2)], spill := (List.range 13000).map pg} {strms := [(9, {samples := [(4,0)], t0 := 3})], susp := [3]}).setReg (F.REC_SCFG_EN 9).addr 0x83000003), by decide +kernel⟩,
  ⟨2, ((rk 3 {rearmAt := 49999999} {} ).setFld (F.UNIT_TMO_HOLDOFF 2) 9), by decide +kernel⟩⟩

end W21

/-! ### Statements of group 22 -/

namespace W22

def sk (m st : Nat) (u : SafeU) : State := {(((((((atMode m State.reset).setFld F.SAFE_STAT_STATE st).setReg (F.SAFE_BLOCK_WORD 4).addr 0x00050001).setReg (F.SAFE_BLOCK_WORD 5).addr 100).setReg (F.SAFE_BLOCK_WORD 36).addr 0x00C80001).setReg (F.SAFE_BLOCK_WORD 37).addr 60).setReg (F.SAFE_BLOCK_WORD 38).addr 0x01000100).setReg (F.SAFE_BLOCK_WORD 40).addr 0x00100008 with tbc := 250000000, safe := u, sys := {State.reset.sys with vsen := true}, vault := {State.reset.vault with opt := 200000000}}
def nopair (s : State) : State := s.setReg (F.SAFE_BLOCK_WORD 4).addr 0
def be : Bht := {out := 0, axis := 0, slot := 1, phase := 0, start := 0, base := 0, torque := 256}

theorem witness_CauseWinsOverReset :
   (∃ (skew : BitVec 32) (held : BitVec 32) (release : BitVec 32) (reason : Fin 16) (arg : Nat) (c : Nat) (s : State), let u := {s.lockout reason arg with tbc := c}
    let accepted (x : State) : Prop := x.pressJudge skew.toNat held.toNat release.toNat true = 0
    (s.fld F.SAFE_STAT_STATE = 1) ∧ (s.mode = 7) ∧ (s.safe.stuckUntil = none) ∧ (c / 62500 = s.tbc / 62500) ∧ (s.tbc ≤ c) ∧ (accepted u) ∧
     (accepted s) ∧ ((s.safe.fresh.all fun f => f.2.2 / 62500 != s.tbc / 62500) = true)) :=
  ⟨10, 500000, 20, 10, 7, 250000009, (sk 7 1 {pairs := [(0, {closed := true})]}), by decide +kernel⟩

theorem witness_SentinelInputsAndReset :
   (∃ (n : Fin 8) (s : State), let st := s.fld F.SAFE_STAT_STATE
    let x := s.pair n
    let quiet := s.ilmTerms s.ilmActive = []
    (s.tbc % 62500 = 0) ∧ (s.mode ≠ 0) ∧ (s.sys.vsen = true) ∧ (s.pairMode n = 0) ∧ (st ≠ 2) ∧ (s.safe.pulse = none) ∧ (x.discSince = none) ∧
     (s.tbc % 25000 = 0) ∧ (quiet) ∧ (s.safe.report + 250000 ≤ s.tbc) ∧ (st ≠ 0) ∧ ((s.sbc n).mismatch = none) ∧
     (s.mode = 0 ∨ s.mode = 1 ∨ s.mode = 2 ∨ s.mode = 6 ∨ s.mode = 7)) ∧
   (∃ (skew : BitVec 32) (held : BitVec 32) (release : BitVec 32) (ok : Bool) (s : State), let st := s.fld F.SAFE_STAT_STATE
    (s.mode = 7) ∧ (st = 1) ∧ (s.safe.stuckUntil = none) ∧ (200000 ≤ held.toNat) ∧ (held.toNat ≤ 3000000) ∧ (skew.toNat ≤ 100000) ∧
     (release.toNat ≤ 100000) ∧ (ok = true) ∧ (s.sys.causeAt = none) ∧ ((∀ k, k < 8 → s.pairMode k = 0)) ∧ (s.sevPending 5 = false) ∧
     (s.safe.fresh = none)) ∧
   (∃ (n : Fin 8) (t0 : Nat) (s : State), let quiet := s.ilmTerms s.ilmActive = []
    (s.tbc % 62500 = 0) ∧ (s.mode ≠ 0) ∧ (s.sys.vsen = true) ∧ (s.pairMode n ≠ 0) ∧ (s.tbc < s.safe.report + 250000) ∧
     ((s.sbc n).mismatch = some t0) ∧ (t0 + 250000 ≤ s.tbc) ∧ (3 ≤ s.mode) ∧ (s.mode ≤ 5) ∧ (s.sys.dusk = none) ∧ (s.safe.pulse = none) ∧ (quiet)) ∧
   (∃ (skew : BitVec 32) (held : BitVec 32) (release : BitVec 32) (s : State), let st := s.fld F.SAFE_STAT_STATE
    (s.mode = 7) ∧ (st = 1) ∧ (s.safe.stuckUntil = none) ∧ (held.toNat < 200000) ∧ (skew.toNat ≤ 100000) ∧ (release.toNat ≤ 100000)) ∧
   (∃ (skew : BitVec 32) (held : BitVec 32) (release : BitVec 32) (ok : Bool) (s : State), let st := s.fld F.SAFE_STAT_STATE
    (s.mode = 7) ∧ (st = 1) ∧ (s.safe.stuckUntil = none) ∧ (200000 ≤ held.toNat) ∧ (held.toNat ≤ 3000000) ∧ (skew.toNat ≤ 100000) ∧
     (release.toNat ≤ 100000) ∧ (ok = false)) ∧
   (∃ (held : BitVec 32) (s : State), let st := s.fld F.SAFE_STAT_STATE
    (s.mode = 7) ∧ (st = 1) ∧ (s.safe.stuckUntil = none) ∧ (3000000 < held.toNat)) ∧
   (∃ (skew : BitVec 32) (held : BitVec 32) (release : BitVec 32) (s : State), let st := s.fld F.SAFE_STAT_STATE
    (s.mode = 7) ∧ (st = 1) ∧ (s.safe.stuckUntil = none) ∧ (held.toNat ≤ 3000000) ∧ (100000 < skew.toNat ∨ 100000 < release.toNat)) ∧
   (∃ (s : State), (s.tbc % 62500 ≠ 0)) ∧
   (∃ (n : Fin 8) (s : State), let st := s.fld F.SAFE_STAT_STATE
    let quiet := s.ilmTerms s.ilmActive = []
    (s.tbc % 62500 = 0) ∧ (s.mode ≠ 0) ∧ (s.sys.vsen = true) ∧ (st = 2) ∧ (quiet) ∧ (s.safe.pulse = none) ∧ (s.safe.bht = none) ∧
     ((∀ k, k < 8 → s.pairMode k = 0)) ∧ (s.sbcParam n 0 1 = 1) ∧ (s.sbcParam n 1 1 = 0) ∧ (s.fbit F.SAFE_BHT_BRK_FAIL n = false) ∧
     ((s.sbc n).graceOver = false)) ∧
   (∃ (skew : BitVec 32) (held : BitVec 32) (release : BitVec 32) (ok : Bool) (s : State), let st := s.fld F.SAFE_STAT_STATE
    (s.mode = 7) ∧ (st = 1) ∧ (s.safe.stuckUntil = none) ∧ (200000 ≤ held.toNat) ∧ (held.toNat ≤ 3000000) ∧ (skew.toNat ≤ 100000) ∧
     (release.toNat ≤ 100000) ∧ (ok = true) ∧ (s.sys.causeAt = none) ∧ ((∀ k, k < 8 → s.pairMode k = 0)) ∧ (s.sevPending 5 = true)) ∧
   (∃ (n : Fin 8) (t0 : Nat) (q : Pair) (s : State), let x := s.pair n
    (x = q) ∧ (q.discSince = some t0) ∧ (q.mustOpen = false) ∧ (t0 + ms (s.safeParam (20 + 16 * n) 2) < s.tbc)) :=
  ⟨⟨0, (nopair (sk 7 1 {})), by decide +kernel⟩,
  ⟨10, 500000, 20, true, (nopair (sk 7 1 {})), by decide +kernel⟩,
  ⟨0, 0, (sk 3 0 {report := 250000000, sbcs := [(0, {mismatch := some 0, low := true})]}), by decide +kernel⟩,
  ⟨10, 50000, 20, (nopair (sk 7 1 {})), by decide +kernel⟩,
  ⟨10, 500000, 20, false, (nopair (sk 7 1 {})), by decide +kernel⟩,
  ⟨5000000, (nopair (sk 7 1 {})), by decide +kernel⟩,
  ⟨10, 500000, 200000, (nopair (sk 7 1 {})), by decide +kernel⟩,
  ⟨{sk 3 2 {} with tbc := 62501}, by decide +kernel⟩,
  ⟨0, (nopair (sk 4 2 {request := 1, sbcs := [(0, {low := true})]})), by decide +kernel⟩,
  ⟨10, 500000, 20, true, ((nopair (sk 7 1 {})) |>.modSrc 32 fun x => {x with pending := true, effSev := 5}), by decide +kernel⟩,
  ⟨0, 0, {discSince := some 0, a := true}, (sk 3 2 {pairs := [(0, {discSince := some 0, a := true})], sbcs := [(0, {mismatch := some 0, low := true})]}), by decide +kernel⟩⟩

theorem witness_SentinelTestsAndParameters :
   (∃ (n : Fin 8) (v : Word) (key : Byte) (s : State), let x := s.sbc n
    let due := s.sbcParam n 16 2
    let crc := s.fld F.SAFE_CHECK_CRC
    (x.testDue = none ∨ s.safe.pulse ≠ none ∨ x.high = false ∨ x.low = false) ∧ (s.safe.pulse = none) ∧ (s.mode = 5) ∧ (v.toNat ≠ crc) ∧
     (s.safe.window = none) ∧ (key ≠ 0xA5) ∧ (s.fld F.SAFE_STAT_STATE ≠ 2) ∧ (s.safe.bht = none) ∧ (due ≠ 0) ∧
     (x.lastPass + due * 3686400 ≤ s.vault.opt) ∧ (s.fbit F.SAFE_BHT_BHT_DUE n = false) ∧ (s.mode ≠ 0)) ∧
   (∃ (n : Fin 8) (d : Nat) (b : Bht) (s : State), let x := s.sbc n
    let due := s.sbcParam n 16 2
    let quiet := s.ilmTerms s.ilmActive = []
    (x.testDue = some d) ∧ (d ≤ s.tbc) ∧ (s.safe.pulseEnd = none) ∧ (s.safe.pulse = none) ∧ (x.high = true) ∧ (x.low = true) ∧ (quiet) ∧
     (s.mode ≠ 5) ∧ (s.safe.bht = some b) ∧ (b.start + ms 500 ≤ s.tbc) ∧ (b.out = n) ∧ (b.phase = 1 ∨ bitOf (s.sbcParam n 9 1) 0 = false) ∧
     (s.fbit F.SAFE_BHT_BHT_DUE n = true) ∧ (x.lastPass + (due + s.sbcParam n 18 2) * 3686400 ≤ s.vault.opt)) ∧
   (∃ (n : Fin 8) (q : Pulse) (b : Bht) (s : State), let quiet := s.ilmTerms s.ilmActive = []
    (s.safe.pulse = some q) ∧ (q.out = n) ∧ (q.start + us (max 100 (min 400 (s.sbcParam n 2 2))) ≤ s.tbc) ∧ (q.demanded = false) ∧ (quiet) ∧
     (s.safe.bht = some b) ∧ (b.start + ms 500 ≤ s.tbc) ∧ (b.phase = 0) ∧ (bitOf (s.sbcParam b.out 9 1) 0 = true)) ∧
   (∃ (n : Fin 8) (b : Bht) (s : State), let x := s.sbc n
    let due := s.sbcParam n 16 2
    (s.safe.bht = some b) ∧ (s.tbc < b.start + ms 500) ∧ (due = 0 ∨ s.vault.opt < x.lastPass + due * 3686400)) ∧
   (∃ (v : Word) (s : State), let crc := s.fld F.SAFE_CHECK_CRC
    (s.mode = 5) ∧ (v.toNat = crc) ∧ (s.safe.window = none)) ∧
   (∃ (v : Word) (d : Nat) (s : State), let crc := s.fld F.SAFE_CHECK_CRC
    (s.mode = 5) ∧ (v.toNat = crc) ∧ (s.safe.window = some d) ∧ (s.tbc ≤ d + sec 10) ∧ (s.confClose.paramBad = none)) ∧
   (∃ (v : Word) (d : Nat) (s : State), let crc := s.fld F.SAFE_CHECK_CRC
    (s.mode = 5) ∧ (v.toNat = crc) ∧ (s.safe.window = some d) ∧ (s.tbc ≤ d + sec 10) ∧ (s.pendWord 0 ≠ 0x53465053)) ∧
   (∃ (n : Fin 8) (s : State), (s.bhtMay n = true)) ∧
   (∃ (d : Nat) (s : State), (s.safe.window = some d) ∧ (d + sec 10 < s.tbc)) :=
  ⟨⟨0, 0, 9, ((sk 5 0 {})), by decide +kernel⟩,
  ⟨0, 0, {be with phase := 1}, ((sk 3 2 {sbcs := [(0, {testDue := some 0, high := true, low := true})], bht := some {be with phase := 1}}).setFbit F.SAFE_BHT_BHT_DUE 0 true), by decide +kernel⟩,
  ⟨0, {out := 0, low := true, start := 0}, be, (sk 5 2 {pulse := some {out := 0, low := true, start := 0}, window := some 250000000, bht := some be}), by decide +kernel⟩,
  ⟨0, {be with start := 125000001}, {(sk 3 2 {window := some 249999999, bht := some {be with start := 125000001}}) with vault := {State.reset.vault with opt := 29491199}}, by decide +kernel⟩,
  ⟨0, ((sk 5 0 {}).setFld F.SAFE_CHECK_CRC 0), by decide +kernel⟩,
  ⟨0, 250000000, (((sk 5 0 {window := some 250000000}).setFld F.SAFE_CHECK_CRC 0)), by decide +kernel⟩,
  ⟨0, 250000000, ((((sk 5 0 {window := some 250000000}).setFld F.SAFE_CHECK_CRC 0)).setReg (F.SAFE_PEND_WORD 0).addr 1), by decide +kernel⟩,
  ⟨0, ((((sk 5 2 {})).setFlag (F.AX_CFG_EN 0) true).setFld (F.AX_CFG_MODE 0) 2 |>.setFld (F.AX_STAT_STATE 0) 1), by decide +kernel⟩,
  ⟨249999999, {(sk 3 2 {window := some 249999999, bht := some {be with start := 250000000}}) with tbc := 2750000000}, by decide +kernel⟩⟩

end W22

/-! ### Statements of group 23 -/

namespace W23

def tk (m : Nat) (t : Nat) (u : TimeU) : State := {((atMode m State.reset).setFlag F.TIME_STAT_OT_VALID true) with tbc := t, time := u}
def vd (d st : Nat) (s : State) : State := (s.setFld (F.DOM_STAT_STATE d) st).setFlag (F.DOM_STAT_VALID d) (st == 3 || st == 4)
def uS : DomUpdate := {kind := 3, delta := 50}
def uB : DomUpdate := {kind := 3, delta := -50000000000}
def uT : DomUpdate := {kind := 1, ofs := 777777777777, anc := 9, rate := -5}
def uR : DomUpdate := {kind := 2, rate := 99}
def pk (d st : Nat) (x : Domain) (z : Tso) : State := (((vd d st (tk 3 4000000000 {doms := [(d, x)], tsos := [(2, z)]})).setFld (F.DOM_CFG_SRC d) 1).setFld (F.TSO_PER_NS 2) 5000).setFld (F.TSO_WIDTH_NS 2) 100

theorem witness_TimeDomains :
   (∃ (d : Fin 3) (d4 : Fin 4) (v : Word) (key : Byte) (u : DomUpdate) (s : State), let x := s.dom d
    let kind := v.toNat % 4
    let y := (u.apply s.tbc x).1
    let delta := domTime y s.tbc - domTime x s.tbc
    let big := s.fld F.TIME_CTRL_JUMP_TH * nsU < delta ∨ delta < -(s.fld F.TIME_CTRL_JUMP_TH * nsU)
    let sum := s.domK d + x.absorbed
    (s.domSrc d ≠ 1) ∧ (kind ≠ 0) ∧ (s.tbc % 250 = 0) ∧ (x.updates = [u]) ∧ (u.due ≤ s.tbc) ∧ (d.val ≠ s.otDom ∨ ¬ big) ∧ (key ≠ 0xA5) ∧
     (d4.val = d.val) ∧ (s.domValid d = false ∨ s.domExcl d = true) ∧ (s.domValid d = true) ∧ (s.domExcl d = true) ∧ (-2 ^ 63 ≤ sum) ∧
     (sum < 2 ^ 63) ∧ (s.time.leftPref = false ∨ s.fld F.TIME_SEL_REVERT_S = 0 ∨ s.domState s.pref ≠ 3) ∧ (s.tbc % 250000 = 0)) ∧
   (∃ (d : Fin 3) (d4 : Fin 4) (v : Word) (s : State), let x := s.dom d
    let kind := v.toNat % 4
    (s.domSrc d ≠ 1) ∧ (kind = 0) ∧ (x.updates = [] ∨ s.tbc % 250 ≠ 0) ∧ (d4.val = d.val) ∧ (s.domValid d = true) ∧ (s.domExcl d = false) ∧
     (s.time.leftPref = true) ∧ (s.fld F.TIME_SEL_REVERT_S ≠ 0) ∧ (s.domState s.pref = 3) ∧
     ((s.dom s.pref).lockedSince + sec (s.fld F.TIME_SEL_REVERT_S) ≤ s.tbc)) ∧
   (∃ (d : Fin 3) (s : State), (s.domSrc d = 1) ∧ (s.tbc % 250000 ≠ 0)) ∧
   (∃ (d : Fin 3) (u : DomUpdate) (s : State), let x := s.dom d
    let y := (u.apply s.tbc x).1
    let delta := domTime y s.tbc - domTime x s.tbc
    let big := s.fld F.TIME_CTRL_JUMP_TH * nsU < delta ∨ delta < -(s.fld F.TIME_CTRL_JUMP_TH * nsU)
    (s.tbc % 250 = 0) ∧ (x.updates = [u]) ∧ (u.due ≤ s.tbc) ∧ (d.val = s.otDom) ∧ (big) ∧ (s.otValid = true) ∧ (s.domValid d = true) ∧
     (s.domSrc d ≠ 2)) :=
  ⟨⟨2, 2, 2, 7, uR, (((vd 2 3 (tk 3 250000 {doms := [(2, {updates := [uR], absorbed := 5, rate := 3})], res := -9999999999, leftPref := true})).setFld F.TIME_STAT_OT_DOM 2).setFbit F.TIME_STAT_JEXCL 2 true), by decide +kernel⟩,
  ⟨0, 0, 4, (vd 0 3 (((tk 3 2500000000 {leftPref := true})).setFld F.TIME_SEL_REVERT_S 1)), by decide +kernel⟩,
  ⟨1, (((tk 3 250001 {})).setFld (F.DOM_CFG_SRC 1) 1), by decide +kernel⟩,
  ⟨1, uB, ((vd 1 3 (tk 3 250000 {doms := [(1, {updates := [uB], absorbed := 5, rate := 3})], res := -9999999999, leftPref := true})).setFld F.TIME_STAT_OT_DOM 1), by decide +kernel⟩⟩

theorem witness_PtpAndPulseOutputs :
   (∃ (d : Fin 2) (n : Fin 8) (master : Nat) (q : Nat) (e : Nat) (log : Int) (t3 : Int) (v : Word) (s : State), let x := s.dom d
    let on := s.ptpOn d
    let st := s.domState d
    let p2p := s.flag (F.DOM_CFG_P2P d)
    let z := s.tso n
    let per := s.tsoPer n
    let wid : Int := s.fld (F.TSO_WIDTH_NS n)
    let ok := 8 ≤ wid ∧ wid ≤ per - 8 ∧ (v.getLsbD 30 = true → 1000 ≤ per)
    (on = true) ∧ (x.master = some master) ∧ (-7 ≤ log) ∧ (log ≤ 4) ∧ (x.syncWait = none) ∧ (p2p = true ∨ x.master = some master) ∧
     (x.delayReq = some (q, t3)) ∧ (p2p = false) ∧ (st = 3) ∧ (x.lastSync + 4 * logInterval x.syncLog ≤ s.tbc ∨ (x.announceTmo ≠ 0 ∧ x.lastAnnounce + x.announceTmo ≤ s.tbc)) ∧ (st ≠ 4) ∧ (s.flag (F.TSO_CFG_EN n) = false) ∧ (v.getLsbD 31 = true) ∧ (ok) ∧ (s.otValid = true) ∧ (v.getLsbD 30 = false) ∧ (z.next = none ∨ s.flag (F.TSO_CFG_EN n) = false ∨ s.otValid = false) ∧ (z.endsAt = some e) ∧ (e ≤ s.tbc)) ∧
   (∃ (d : Fin 2) (n : Fin 8) (master : Nat) (rank : Nat) (v : Word) (s : State), let x := s.dom d
    let on := s.ptpOn d
    let z := s.tso n
    let per := s.tsoPer n
    let wid : Int := s.fld (F.TSO_WIDTH_NS n)
    let ok := 8 ≤ wid ∧ wid ≤ per - 8 ∧ (v.getLsbD 30 = true → 1000 ≤ per)
    (x.master ≠ some master) ∧ (on = true) ∧ (x.master = none ∨ x.lastAnnounce + x.announceTmo ≤ s.tbc ∨ rank < x.rank) ∧ (x.delayReq = none) ∧
     (s.flag (F.TSO_CFG_EN n) = false) ∧ (v.getLsbD 31 = true) ∧ (ok) ∧ (s.otValid = false) ∧ (z.endsAt = none)) ∧
   (∃ (d : Fin 2) (master : Nat) (q : Nat) (log : Int) (t3 : Int) (t2 : Int) (c : Int) (s : State), let x := s.dom d
    let on := s.ptpOn d
    let p2p := s.flag (F.DOM_CFG_P2P d)
    (on = true) ∧ (x.master = some master) ∧ (-7 ≤ log) ∧ (log ≤ 4) ∧ (x.syncWait = some (q, t2, c)) ∧ (p2p = true) ∧ (x.delayReq = some (q, t3))) ∧
   (∃ (d : Fin 2) (n : Fin 8) (v : Word) (s : State), let on := s.ptpOn d
    let per := s.tsoPer n
    let wid : Int := s.fld (F.TSO_WIDTH_NS n)
    let ok := 8 ≤ wid ∧ wid ≤ per - 8 ∧ (v.getLsbD 30 = true → 1000 ≤ per)
    (on = false) ∧ (s.flag (F.TSO_CFG_EN n) = false) ∧ (v.getLsbD 31 = true) ∧ (¬ ok)) ∧
   (∃ (d : Fin 2) (n : Fin 8) (q : Nat) (s : State), let x := s.dom d
    let st := s.domState d
    let z := s.tso n
    let per := s.tsoPer n
    (st = 4) ∧ (x.holdSince + sec (max 1 (s.fld (F.DOM_LIM_HOLD_S d))) ≤ s.tbc) ∧ (z.next = some q) ∧ (s.flag (F.TSO_CFG_EN n) = true) ∧
     (s.otValid = true) ∧ (2 ≤ s.mode) ∧ (z.endsAt = none) ∧ ((s.tsoStart n + q * per) * nsU ≤ s.otAt s.tbc)) ∧
   (∃ (n : Fin 8) (v : Word) (s : State), (s.flag (F.TSO_CFG_EN n) = true) ∧ (v.getLsbD 31 = false)) ∧
   (∃ (n : Fin 8) (v : Word) (s : State), let per := s.tsoPer n
    let wid : Int := s.fld (F.TSO_WIDTH_NS n)
    let ok := 8 ≤ wid ∧ wid ≤ per - 8 ∧ (v.getLsbD 30 = true → 1000 ≤ per)
    (s.flag (F.TSO_CFG_EN n) = false) ∧ (v.getLsbD 31 = true) ∧ (ok) ∧ (s.otValid = true) ∧ (v.getLsbD 30 = true)) ∧
   (∃ (d : Fin 2) (s : State), let x := s.dom d
    let on := s.ptpOn d
    let st := s.domState d
    (on = true) ∧ (st = 2 ∨ st = 5) ∧ (x.announceTmo ≠ 0) ∧ (x.lastAnnounce + x.announceTmo ≤ s.tbc)) :=
  ⟨⟨1, 2, 77, 9, 5, (-2), 7, 0x80000000, (pk 1 3 {master := some 77, locks := 3, delayReq := some (9, 7)} {next := some 3, endsAt := some 5}), by decide +kernel⟩,
  ⟨1, 2, 77, 4, 0x80000000, (((pk 1 1 {} {next := some 3})).setFld F.TIME_STAT_OT_VALID 0), by decide +kernel⟩,
  ⟨1, 77, 9, (-2), 7, 8, 9, ((pk 1 4 {master := some 77, locks := 15, syncWait := some (9, 8, 9), delayReq := some (9, 7), announceTmo := 6} {next := some 3}).setFlag (F.DOM_CFG_P2P 1) true), by decide +kernel⟩,
  ⟨1, 2, 0xC0000000, (((pk 1 1 {} {next := some 3})).setFld (F.TSO_WIDTH_NS 2) 7 |>.setFld (F.DOM_CFG_SRC 1) 0), by decide +kernel⟩,
  ⟨1, 2, 3, ((pk 1 4 {master := some 77, locks := 15, holdSince := 0} {next := some 3}).setFld (F.DOM_LIM_HOLD_S 1) 16 |>.setFlag (F.TSO_CFG_EN 2) true), by decide +kernel⟩,
  ⟨2, 0x00000000, (((pk 1 1 {} {next := some 3}).setFlag (F.TSO_CFG_EN 2) true).setFld F.TIME_STAT_OT_VALID 0), by decide +kernel⟩,
  ⟨2, 0xC0000000, (pk 1 2 {master := some 77, locks := 15, syncWait := some (9, 8, 9), delayReq := some (9, 7)} {next := some 3, endsAt := some 5}), by decide +kernel⟩,
  ⟨1, ((pk 1 5 {master := some 76, rank := 9, syncWait := some (9, 8, 9), announceTmo := 6} {}).setFld (F.TSO_START_H_VALUE 2) 9), by decide +kernel⟩⟩

end W23

/-! ### Statements of group 24 -/

namespace W24

def lk (m st : Nat) (l : Link) : State := {(((((atMode m State.reset).setFld (F.SL_STAT_STATE 2) st).setFld (F.SL_CYC_PERIOD 2) 1000).setFld (F.SL_RX_RX_CLOSE 2) 1500).setFld (F.SL_STBASE_NSTA 2) l.stations.length |>.setFld F.SYS_MEMSIZE_MIB 16384) with tbc := 2500000000, links := [(2, l)], part := {State.reset.part with transmitting := true}}
def gs : GxStatus := {cyc := 19998 % 256, state := 2, sigOk := true, cfgSig := 5}
def fr0 : GxFrame := {type := 0, records := [{station := 0, kind := 1, data := [1,2], status := gs}]}
def fr1 : GxFrame := {type := 1, cycle := 19998, records := [{station := 0, kind := 2, data := [0, 3, 0, 0, 0, 0, 7, 0] ++ [1,2], status := gs}]}
def mq : MbxReq := {station := 0, write := false, object := 7, len := 2, tag := 3}
def onl : Station := {ilen := 2, iofs := 6, sig := 5, online := true, missed := 0, descs := [(0, ⟨true, true, false, 2, 0, 0, 0, 1⟩)]}
def pv (s : State) : State := s.setFlag (F.SL_STAT_PROV 2) true
def cbx (m : Nat) (c : CbusU) : State := {(((atMode m State.reset).setFlag F.CB_CTRL_EN true).setFld (F.CB_MIR_HANDLE 3) 0xF0000000 |>.setFld (F.CB_MIR_HANDLE 4) 0x10000003) with cbus := c, scan := {State.reset.scan with program := some {prog with hostInputs := [80]}}}
def lst (l : List (Nat × Nat)) (ns : Nat) : State := l.foldl (fun s p => s.setByte (lpddrBase + p.1) (BitVec.ofNat 8 p.2)) (((lk 3 0 {}).setFld (F.SL_RX_RX_CLOSE 2) 900).setFld (F.SL_STBASE_NSTA 2) ns |>.setFld F.SL_DIRBASE_BASE 16)
def dsc (l : List (Nat × Nat)) (ns : Nat) : State := let s := lst [(0, 1), (2, 1), (32, 1), (36, 8), (34, 0)] ns; l.foldl (fun s p => s.setByte (s.descAddr (2 * 2 ^ 21) + p.1) (BitVec.ofNat 8 p.2)) s

theorem witness_StationLinks :
   (∃ (n : Fin 16) (v : Word) (a : BitVec 40) (s : State), let l := s.link n
    let st := s.slState n
    let len := v.toNat / 2 ^ 23 % 256 + 1
    let sts := (List.range (s.slStations n)).map (s.slReadEntry n)
    let kB := s.slCycle n (s.slTxOfs n - 2000)
    let kP := s.slCycle n (s.slRxClose n)
    let line := lineOf a.toNat
    let runs := st = 3 ∨ st = 4
    (s.flag (F.SL_CTRL_EN n) = false) ∧ (v.getLsbD 30 = true) ∧ (s.flag (F.SL_CTRL_EN (n - 1)) = false) ∧ (s.dirFits n = true) ∧
     (v.toNat / 2 ^ 28 % 4 = 0) ∧ (s.slTimingOk n (sts.length * 2000) (sts.length * 4000) = true) ∧ (slImagesBad sts = false) ∧
     (s.slTableBad n sts 0 = false) ∧ (s.flt.inj = none) ∧ (st ≠ 2) ∧ (s.slTransmits n = false ∨ kB ≤ l.taken) ∧
     (s.slTransmits n = false ∨ l.taken ≤ l.sent) ∧ (n.val % 2 = 0) ∧ (st = 0) ∧ (¬ runs ∨ kP ≤ l.published) ∧ (l.mbx.length < 16) ∧
     (v.getLsbD 31 = false ∨ s.unfitted (s.mbxBuf n) len = false) ∧ (s.mbxDone n = none) ∧ (s.eccBad line 8 = false)) ∧
   (∃ (n : Fin 16) (f : GxFrame) (g : GxStatus) (data : List Byte) (s : State), let l := s.link n
    let st := s.slState n
    let stn := l.st 0
    let kB := s.slCycle n (s.slTxOfs n - 2000)
    let kP := s.slCycle n (s.slRxClose n)
    let runs := st = 3 ∨ st = 4
    (runs) ∧ (s.slTransmits n = true) ∧ (l.taken < kB) ∧ (n.val % 2 = 0) ∧ (st ≠ 0) ∧ (s.slReflects n = false) ∧ (f.type = 0) ∧
     (f.records = [{station := 0, kind := 1, data := data, status := g}]) ∧ (l.got = []) ∧ (g.state ≠ 15) ∧ (l.published < kP) ∧ (kP ≤ l.sent) ∧
     (s.slStations n = 1) ∧ (s.fld (F.SL_CTRL_TOPO n) = 0) ∧ (stn.online = true) ∧ (max 1 (s.fld (F.SL_MISS_N_MISS n)) ≤ stn.missed + 1) ∧
     (stn.iofs + stn.ilen ≤ 0x6000) ∧ (16 ≤ l.mbx.length)) ∧
   (∃ (n : Fin 16) (v : Word) (tx : Int) (rx : Int) (f : GxFrame) (s : State), let st := s.slState n
    (s.flag (F.SL_CTRL_EN n) = true) ∧ (v.getLsbD 30 = false) ∧ (st = 2) ∧ (s.fld (F.SL_RX_RX_CLOSE n) ≠ 0) ∧ (s.slStations n = 0) ∧
     (s.slTimingOk n 0 (rx - tx) = false) ∧ (n.val % 2 = 0) ∧ (st ≠ 0) ∧ (s.slReflects n = false) ∧ (f.type = 3) ∧
     (st ≠ 1 ∨ s.part.transmitting = false)) ∧
   (∃ (n : Fin 16) (v : Word) (s : State), let l := s.link n
    let sts := (List.range (s.slStations n)).map (s.slReadEntry n)
    (s.flag (F.SL_CTRL_EN n) = false) ∧ (v.getLsbD 30 = true) ∧ (s.flag (F.SL_CTRL_EN (n - 1)) = false) ∧ (s.dirFits n = true) ∧
     (v.toNat / 2 ^ 28 % 4 = 0) ∧ (s.slTimingOk n (sts.length * 2000) (sts.length * 4000) = false) ∧ (s.slTransmits n = true) ∧ (l.sent < l.taken) ∧
     (s.slPhase n + l.taken * s.slPeriod n + s.slTxOfs n ≤ s.slTime n)) ∧
   (∃ (n : Fin 16) (f : GxFrame) (g : GxStatus) (data : List Byte) (q : MbxReq) (s : State), let l := s.link n
    let st := s.slState n
    let stn := l.st 0
    let kP := s.slCycle n (s.slRxClose n)
    let runs := st = 3 ∨ st = 4
    (n.val % 2 = 0) ∧ (st ≠ 0) ∧ (s.slReflects n = false) ∧ (f.type = 1) ∧ (l.mbx = [q]) ∧ (q.station = 0) ∧ (q.answer = none) ∧ (g.state ≠ 15) ∧
     (g.cyc = f.cycle % 256) ∧ (f.records = [{station := 0, kind := 2, data := [0, BitVec.ofNat 8 q.tag, 0, 0, 0, 0, 7, 0] ++ data, status := g}]) ∧
     (q.tag < 256) ∧ (runs) ∧ (l.published < kP) ∧ (kP ≤ l.sent) ∧ (s.slStations n = 1) ∧ (s.fld (F.SL_CTRL_TOPO n) = 0) ∧ (l.got = []) ∧
     (stn.online = true) ∧ (stn.missed + 1 < max 1 (s.fld (F.SL_MISS_N_MISS n)))) ∧
   (∃ (n : Fin 16) (v : Word) (a : BitVec 40) (s : State), let sts := (List.range (s.slStations n)).map (s.slReadEntry n)
    let line := lineOf a.toNat
    (s.flag (F.SL_CTRL_EN n) = false) ∧ (v.getLsbD 30 = true) ∧ (s.flag (F.SL_CTRL_EN (n - 1)) = false) ∧ (s.dirFits n = true) ∧
     (v.toNat / 2 ^ 28 % 4 = 0) ∧ (s.slTimingOk n (sts.length * 2000) (sts.length * 4000) = true) ∧ (slImagesBad sts = false) ∧
     (s.slTableBad n sts 0 = true) ∧ (s.region line = .lpddr) ∧ (s.eccBad line 8 = true)) ∧
   (∃ (n : Fin 16) (g : GxStatus) (data : List Byte) (q : MbxReq) (d : List Byte) (res : Nat) (s : State), let l := s.link n
    let st := s.slState n
    let stn := l.st 0
    let kP := s.slCycle n (s.slRxClose n)
    let runs := st = 3 ∨ st = 4
    (runs) ∧ (l.published < kP) ∧ (kP ≤ l.sent) ∧ (s.slStations n = 1) ∧ (s.fld (F.SL_CTRL_TOPO n) = 0) ∧ (l.got = [(0, g, data)]) ∧
     (slValid stn kP g = true) ∧ (data.length = stn.ilen) ∧ (stn.iofs + stn.ilen ≤ 0x6000) ∧
     (stn.online = true ∨ max 1 (s.fld (F.SL_MISS_N_REJOIN n)) ≤ stn.good + 1) ∧ (s.mbxDone n = some (q, res, d)) ∧ (q.user = 0) ∧ (l.mbx = [q])) ∧
   (∃ (n : Fin 16) (f : GxFrame) (s : State), let st := s.slState n
    (n.val % 2 = 0) ∧ (st ≠ 0) ∧ (s.slReflects n = false) ∧ (f.type = 3) ∧ (st = 1) ∧ (s.part.transmitting = true) ∧ (s.flt.inj = none)) ∧
   (∃ (n : Fin 16) (v : Word) (s : State), (s.flag (F.SL_CTRL_EN n) = false) ∧ (v.getLsbD 30 = true) ∧ (s.flag (F.SL_CTRL_EN (n - 1)) = false) ∧
     (s.dirFits n = false)) ∧
   (∃ (n : Fin 16) (v : Word) (s : State), let sts := (List.range (s.slStations n)).map (s.slReadEntry n)
    (s.flag (F.SL_CTRL_EN n) = false) ∧ (v.getLsbD 30 = true) ∧ (s.flag (F.SL_CTRL_EN (n - 1)) = false) ∧ (s.dirFits n = true) ∧
     (v.toNat / 2 ^ 28 % 4 = 0) ∧ (s.slTimingOk n (sts.length * 2000) (sts.length * 4000) = true) ∧ (slImagesBad sts = true)) ∧
   (∃ (n : Fin 16) (tx : Int) (rx : Int) (s : State), let st := s.slState n
    (st = 2) ∧ (s.fld (F.SL_RX_RX_CLOSE n) ≠ 0) ∧ (s.slStations n = 0) ∧ (s.slTimingOk n (rx - tx) (rx - tx) = true)) ∧
   (∃ (a : BitVec 40) (s : State), let line := lineOf a.toNat
    (s.region line = .canvas) ∧ (s.eccBad line 8 = true)) ∧
   (∃ (n : Fin 16) (v : Word) (s : State), let l := s.link n
    let len := v.toNat / 2 ^ 23 % 256 + 1
    (l.mbx.length < 16) ∧ (v.getLsbD 31 = true) ∧ (s.unfitted (s.mbxBuf n) len = true)) ∧
   (∃ (n : Fin 16) (g : GxStatus) (data : List Byte) (s : State), let l := s.link n
    let st := s.slState n
    let stn := l.st 0
    let kP := s.slCycle n (s.slRxClose n)
    let runs := st = 3 ∨ st = 4
    (runs) ∧ (l.published < kP) ∧ (kP ≤ l.sent) ∧ (s.slStations n = 1) ∧ (s.fld (F.SL_CTRL_TOPO n) = 0) ∧ (l.got = [(0, g, data)]) ∧
     (slValid stn kP g = true) ∧ (data.length = stn.ilen) ∧ (stn.iofs + stn.ilen ≤ 0x6000) ∧ (stn.online = false) ∧
     (stn.good + 1 < max 1 (s.fld (F.SL_MISS_N_REJOIN n)))) :=
  ⟨⟨2, 0x40000000, 0x100, (lst [] 0), by decide +kernel⟩,
  ⟨2, fr0, gs, [1,2], (((pv (lk 3 4 {stations := [(0, {onl with missed := 9})], taken := 19998, sent := 19998, mbx := List.replicate 16 mq})))), by decide +kernel⟩,
  ⟨2, 0x00000000, 5, 500000000, {type := 3}, (((lk 3 2 {})).setFlag (F.SL_CTRL_EN 2) true), by decide +kernel⟩,
  ⟨2, 0x40000000, (pv ((lk 3 2 {stations := [(0, onl)], taken := 5, sent := 4, got := []}))), by decide +kernel⟩,
  ⟨2, fr1, gs, [1,2], mq, (((pv (lk 3 3 {stations := [(0, onl)], taken := 5, sent := 19998, mbx := [mq]})))), by decide +kernel⟩,
  ⟨2, 0x40000000, 0x1000000100, {(dsc [(3, 0xF0), (2, 0xFF), (1, 0xFF), (0, 0xFF)] 2) with flt := {(State.reset).flt with badEcc := [(0x1000000100, 2)]}}, by decide +kernel⟩,
  ⟨2, gs, [1,2], {mq with answer := some (0, [7,7])}, [7,7], 0, (((pv (lk 3 3 {stations := [(0, onl)], taken := 19998, sent := 19998, mbx := [{mq with answer := some (0, [7,7])}], got := [(0, gs, [1,2])]})))), by decide +kernel⟩,
  ⟨2, {type := 3}, (((lk 3 1 {}))), by decide +kernel⟩,
  ⟨2, 0x40000000, ((lk 6 0 {}).setFld F.SYS_MEMSIZE_MIB 0), by decide +kernel⟩,
  ⟨2, 0x40000000, (lst [(0, 8), (2, 4), (32, 9), (36, 6)] 2), by decide +kernel⟩,
  ⟨2, 5, 5000, (((lk 3 2 {}).setFld (F.SL_RX_RX_CLOSE 2) 900)), by decide +kernel⟩,
  ⟨0x100, ({lst [(0, 1), (2, 1), (32, 9), (36, 8), (34,0)] 2 with flt := {(State.reset).flt with badEcc := [(0x100, 2)]}}), by decide +kernel⟩,
  ⟨2, 0x80001007, ((((lk 3 3 {}).setFld (F.SL_MBXBUF_ADDR 2) 0x1000).setFlag (F.SL_MBXBUF_SPACE 2) true).setFld F.SYS_MEMSIZE_MIB 1), by decide +kernel⟩,
  ⟨2, gs, [1,2], (((pv (lk 3 4 {stations := [(0, {onl with online := false})], taken := 19998, sent := 19998, mbx := [{mq with answer := some (3, [7,7])}], got := [(0, gs, [1,2])]})))), by decide +kernel⟩⟩

theorem witness_CompanionBus :
   (∃ (a : BitVec 24) (idle : Bool) (s : State), let c := s.cbus
    let i := a.toNat
    let window := (0x1000 ≤ i ∧ i < 0x1040) ∨ (0x400000 ≤ i ∧ i < 0x800000)
    (s.flag F.CB_CTRL_EN = true) ∧ (2 ≤ s.mode) ∧ (i < 0x1000) ∧ (s.epMapped (s.fld (F.CB_MIR_HANDLE i)) = true) ∧ (c.lastRead = true) ∧
     (c.lastRead = false ∨ idle = true) ∧ (s.mode = 6 ∨ ¬ window) ∧ (c.fifo = [])) ∧
   (∃ (a : BitVec 24) (v : Word) (idle : Bool) (k : Nat) (rest : List (Nat × Word)) (s : State), let c := s.cbus
    let i := a.toNat
    let window := (0x1000 ≤ i ∧ i < 0x1040) ∨ (0x400000 ≤ i ∧ i < 0x800000)
    (s.flag F.CB_CTRL_EN = true) ∧ (2 ≤ s.mode) ∧ (0x1000 ≤ i) ∧ (i < 0x1040) ∧ (c.lastRead = false ∨ idle = true) ∧ (s.mode ≠ 6) ∧ (window) ∧
     (c.fifo.length < 256) ∧ (c.fifo = (k, v) :: rest) ∧ (0x1000 ≤ k) ∧ (k < 0x1040)) ∧
   (∃ (a : BitVec 24) (v : Word) (k : Nat) (rest : List (Nat × Word)) (s : State), let c := s.cbus
    let i := a.toNat
    (s.flag F.CB_CTRL_EN = true) ∧ (2 ≤ s.mode) ∧ (i = 0x1040) ∧ (c.fifo = (k, v) :: rest) ∧ (0x400000 ≤ k) ∧ (k < 0x500000) ∧
     (s.hostInput (k - 0x400000) = true) ∧ (protectedArea (4 * (k - 0x400000)) = false)) ∧
   (∃ (a : BitVec 24) (v : Word) (k : Nat) (rest : List (Nat × Word)) (s : State), let c := s.cbus
    let i := a.toNat
    (s.flag F.CB_CTRL_EN = true) ∧ (2 ≤ s.mode) ∧ (0x1040 < i ∨ (i < 0x1000 ∧ s.epMapped (s.fld (F.CB_MIR_HANDLE i)) = false)) ∧
     (c.fifo = (k, v) :: rest) ∧ (0x400000 ≤ k) ∧ (s.hostInput (k - 0x400000) = false)) ∧
   (∃ (s : State), (s.flag F.CB_CTRL_EN = false ∨ s.mode ≤ 1)) ∧
   (∃ (a : BitVec 24) (idle : Bool) (s : State), let c := s.cbus
    let i := a.toNat
    let window := (0x1000 ≤ i ∧ i < 0x1040) ∨ (0x400000 ≤ i ∧ i < 0x800000)
    (s.flag F.CB_CTRL_EN = true) ∧ (2 ≤ s.mode) ∧ (c.lastRead = false ∨ idle = true) ∧ (s.mode ≠ 6) ∧ (window) ∧ (256 ≤ c.fifo.length)) :=
  ⟨⟨4, true, (cbx 6 {lastRead := true}), by decide +kernel⟩,
  ⟨0x1007, 55, true, 0x1007, [(4,5)], (cbx 3 {lastRead := true, fifo := [(0x1007, 55), (4, 5)]}), by decide +kernel⟩,
  ⟨0x1040, 55, 0x400050, [(4,5)], (cbx 3 {lastRead := true, fifo := [(0x400050, 55), (4, 5)]}), by decide +kernel⟩,
  ⟨0x401040, 55, 0x400051, [(4,5)], (cbx 3 {lastRead := true, fifo := [(0x400051, 55), (4, 5)]}), by decide +kernel⟩,
  ⟨(cbx 1 {}), by decide +kernel⟩,
  ⟨0x401040, true, (cbx 3 {lastRead := false, fifo := List.replicate 256 (0x400051, 55)}), by decide +kernel⟩⟩

end W24

/-! ### Statements of group 25 -/

namespace W25

def ck (m st kind tx : Nat) (c : CanU) : State := {(((((((((atMode m State.reset).setFld (F.CAN_STAT_STATE 2) st).setReg (F.CAN_NBT_BRP 2).addr 0).setFld (F.CAN_NBT_BRP 2) 3).setFld (F.CAN_NBT_TSEG1 2) 13).setFld (F.CAN_NBT_TSEG2 2) 4).setFlag (F.OBJ_CFG_EN 2 7) true).setFld (F.OBJ_CFG_KIND 2 7) kind).setFld (F.OBJ_CFG_TXMODE 2 7) tx |>.setFld (F.CAN_CVBASE_BASE 2) 1000 |>.setFld F.SYS_MEMSIZE_MIB 64 |>.setFld (F.CAN_CTRL_OPMODE 2) c.mode) with tbc := 2500000000, cans := [(2, c)]}
def cf : CanFrame := {id := 5, dlc := 9, data := [1,2,3,4,5,6,7,8,9], sof := 77}
def cfd : CanFrame := {id := 5, dlc := 9, fdf := true, data := [1,2,3,4,5,6,7,8,9], sof := 77}
def mtc (s : State) : State := ((s.setFld (F.OBJ_ID_ID 2 7) 5).setFld (F.OBJ_MASK_MASK 2 7) 0x1FFFFFFF)

theorem witness_CanControllers :
   (∃ (n : Fin 8) (m : Fin 256) (v : Word) (key : Byte) (f : CanFrame) (e : Fin 7) (s : State), let c := s.can n
    let st := s.canState n
    let tec := s.fld (F.CAN_STAT_TEC n)
    let live := st = 2 ∨ st = 3
    let op := s.fld (F.CAN_CTRL_OPMODE n)
    let new := v.toNat / 2 ^ 29 % 4
    let sends := s.flag (F.OBJ_CFG_EN n m) = true ∧ s.fld (F.OBJ_CFG_KIND n m) = 3
    let free := c.cur = none ∧ live ∧ c.mode = 1 ∧ s.mode = 3 ∧ s.sys.dusk = none ∧ c.pend = []
    let set := s.canSet n m
    (new ≠ op) ∧ (new = 1 ∨ new = 2) ∧ (s.canTimingOk n = true) ∧ (s.fld (F.CAN_CTRL_FD_EN n) = v.toNat / 2 ^ (F.CAN_CTRL_FD_EN n).lo % 2) ∧
     (c.cur = none) ∧ (st < 4) ∧ (st ≠ 1) ∧ (live) ∧ (f.fdf = false ∨ s.flag (F.CAN_CTRL_FD_EN n) = true) ∧ (c.mode = 1) ∧ (c.abd = none) ∧
     (s.canMatch n f = none) ∧ (v.getLsbD 30 = true) ∧ (s.canTxMode n m ≠ 1) ∧ (s.canTxMode n m = 2) ∧ (v.getLsbD 7 = true) ∧
     (v.getLsbD 6 = false) ∧ (sends) ∧ (free) ∧ (s.canFormatOk n set = true) ∧ (e.val ≠ 0) ∧ (tec ≤ 255) ∧ (key ≠ 0xA5) ∧ (st ≠ 4) ∧
     (st ≠ 5 ∨ c.recov.head? ≠ some s.tbc) ∧ (st ≠ 5) ∧ (st ≠ 4 ∨ s.fbit F.CANSUP_CTRL_AUTO n = false) ∧ (s.abdAny n = false) ∧ (op ≠ 3)) ∧
   (∃ (n : Fin 8) (m : Fin 256) (v : Word) (f : CanFrame) (e : Fin 7) (s : State), let c := s.can n
    let st := s.canState n
    let live := st = 2 ∨ st = 3
    let op := s.fld (F.CAN_CTRL_OPMODE n)
    let new := v.toNat / 2 ^ 29 % 4
    let kindIs (q : Nat) : Prop := s.canMatch n f = some m.val ∧ s.fld (F.OBJ_CFG_KIND n m) = q
    let quiet := s.flag (F.OBJ_CFG_EVT_EN n m) = false
    let sends := s.flag (F.OBJ_CFG_EN n m) = true ∧ s.fld (F.OBJ_CFG_KIND n m) = 3
    (new ≠ op) ∧ (new = 0) ∧ (c.cur = none) ∧ (st < 4) ∧ (live) ∧ (f.fdf = false ∨ s.flag (F.CAN_CTRL_FD_EN n) = true) ∧ (c.mode = 1) ∧
     (c.abd = none) ∧ (kindIs 1) ∧ (quiet) ∧ (s.flag (F.CAN_FIFOPTR_FULL n) = false) ∧ (s.flag (F.CAN_FIFOEVT_EN n) = false) ∧
     (v.getLsbD 30 = false) ∧ (s.canTxMode n m = 2) ∧ (v.getLsbD 7 = true) ∧ (v.getLsbD 6 = false) ∧ (¬ sends) ∧ (e.val = 0)) ∧
   (∃ (n : Fin 8) (m : Fin 256) (v : Word) (e : Fin 7) (s : State), let c := s.can n
    let st := s.canState n
    let live := st = 2 ∨ st = 3
    let op := s.fld (F.CAN_CTRL_OPMODE n)
    let new := v.toNat / 2 ^ 29 % 4
    let sends := s.flag (F.OBJ_CFG_EN n m) = true ∧ s.fld (F.OBJ_CFG_KIND n m) = 3
    (new ≠ op) ∧ (new ≠ 0) ∧ (s.canTimingOk n = false) ∧ (s.fld (F.CAN_CTRL_FD_EN n) = v.toNat / 2 ^ (F.CAN_CTRL_FD_EN n).lo % 2) ∧
     (s.canTxMode n m = 2) ∧ (v.getLsbD 7 = true) ∧ (v.getLsbD 6 = false) ∧ (sends) ∧ (c.mode ≠ 1 ∨ s.mode = 2) ∧ (live) ∧ (e.val ≠ 0) ∧
     (c.abd = none) ∧ (c.mode ≠ 1) ∧ (s.flag (F.CAN_ABDN_EN n 0) = true) ∧ (c.abd ≠ none ∨ (c.cur = none ∧ st < 4)) ∧ (op = 3) ∧ (c.cur = none) ∧
     (st < 4)) ∧
   (∃ (n : Fin 8) (m : Fin 256) (v : Word) (s : State), let c := s.can n
    let st := s.canState n
    let live := st = 2 ∨ st = 3
    let sends := s.flag (F.OBJ_CFG_EN n m) = true ∧ s.fld (F.OBJ_CFG_KIND n m) = 3
    let used := (c.recov.filter fun t => s.tbc < t + sec (max 1 (s.fld F.CANSUP_CTRL_WIN_S))).length
    (¬ live) ∧ (s.canTxMode n m = 2) ∧ (v.getLsbD 7 = true) ∧ (v.getLsbD 6 = false) ∧ (sends) ∧ (c.mode = 1) ∧ (s.mode = 3) ∧ (s.sys.dusk = none) ∧
     (4 ≤ st) ∧ (st = 4) ∧ (s.fbit F.CANSUP_CTRL_AUTO n = true) ∧ (c.spent = false) ∧ (s.fbit F.CANSUP_STAT_BUDGET_OUT n = false) ∧
     (used < max 1 (s.fld F.CANSUP_CTRL_BUDGET))) ∧
   (∃ (n : Fin 8) (m : Fin 256) (ws : List Word) (s : State), let c := s.can n
    let st := s.canState n
    let tec := s.fld (F.CAN_STAT_TEC n)
    let live := st = 2 ∨ st = 3
    let set := s.canSet n m
    (c.cur = some (m.val, ws)) ∧ (live) ∧ (c.pend = [m.val]) ∧ (c.again = false) ∧ (c.want = none) ∧ (c.mode = 1) ∧ (s.mode = 3) ∧
     (s.flag (F.OBJ_CFG_ONESHOT n m) = false) ∧ (s.sys.dusk = none) ∧ (s.canFormatOk n set = true) ∧ (tec ≤ 255)) ∧
   (∃ (n : Fin 8) (m : Fin 256) (v : Word) (f : CanFrame) (s : State), let c := s.can n
    let st := s.canState n
    let live := st = 2 ∨ st = 3
    let kindIs (q : Nat) : Prop := s.canMatch n f = some m.val ∧ s.fld (F.OBJ_CFG_KIND n m) = q
    let quiet := s.flag (F.OBJ_CFG_EVT_EN n m) = false
    (live) ∧ (f.fdf = false ∨ s.flag (F.CAN_CTRL_FD_EN n) = true) ∧ (c.mode = 1) ∧ (c.abd = none) ∧ (kindIs 2) ∧ (quiet) ∧ (c.hp.length < 4) ∧
     (s.flag (F.CAN_HPSTAT_EN n) = false) ∧ (v.getLsbD 7 = false) ∧ (v.getLsbD 6 = true)) ∧
   (∃ (n : Fin 8) (s : State), let c := s.can n
    let st := s.canState n
    (st = 5) ∧ (c.recov.head? = some s.tbc) ∧ (c.want = none) ∧ (c.pend = [])) ∧
   (∃ (n : Fin 8) (k : Nat) (t0 : Nat) (s : State), let c := s.can n
    let st := s.canState n
    let op := s.fld (F.CAN_CTRL_OPMODE n)
    (op = 3) ∧ (s.canTimingOk n = true) ∧ (c.cur = none) ∧ (st < 4) ∧ (c.abd = some (k, t0)) ∧
     (t0 + ms (max 1 (s.fld (F.ABD_CFG_ABD_TMO n))) ≤ s.tbc) ∧ (s.fld (F.ABD_STAT_CAND n) = 15) ∧ (s.flag (F.CAN_ABDN_EN n 0) = true)) ∧
   (∃ (n : Fin 8) (m : Fin 256) (s : State), let c := s.can n
    let sends := s.flag (F.OBJ_CFG_EN n m) = true ∧ s.fld (F.OBJ_CFG_KIND n m) = 3
    (s.canTxMode n m = 1) ∧ (s.tbc % ms (max 1 (s.fld (F.OBJ_AUX_PERIOD n m))) = 0) ∧ (sends) ∧ (c.mode ≠ 1 ∨ s.mode = 2)) ∧
   (∃ (n : Fin 8) (m : Fin 256) (s : State), let c := s.can n
    let st := s.canState n
    let sends := s.flag (F.OBJ_CFG_EN n m) = true ∧ s.fld (F.OBJ_CFG_KIND n m) = 3
    (s.canTxMode n m = 1) ∧ (s.tbc % ms (max 1 (s.fld (F.OBJ_AUX_PERIOD n m))) = 0) ∧ (sends) ∧ (c.mode = 1) ∧ (s.mode = 3) ∧ (s.sys.dusk = none) ∧
     (4 ≤ st)) ∧
   (∃ (n : Fin 8) (m : Fin 256) (s : State), let sends := s.flag (F.OBJ_CFG_EN n m) = true ∧ s.fld (F.OBJ_CFG_KIND n m) = 3
    (s.canTxMode n m = 1) ∧ (s.tbc % ms (max 1 (s.fld (F.OBJ_AUX_PERIOD n m))) = 0) ∧ (¬ sends)) ∧
   (∃ (n : Fin 8) (m : Fin 256) (s : State), let c := s.can n
    let st := s.canState n
    let live := st = 2 ∨ st = 3
    let sends := s.flag (F.OBJ_CFG_EN n m) = true ∧ s.fld (F.OBJ_CFG_KIND n m) = 3
    let free := c.cur = none ∧ live ∧ c.mode = 1 ∧ s.mode = 3 ∧ s.sys.dusk = none ∧ c.pend = []
    let set := s.canSet n m
    (s.canTxMode n m = 1) ∧ (s.tbc % ms (max 1 (s.fld (F.OBJ_AUX_PERIOD n m))) = 0) ∧ (sends) ∧ (free) ∧ (s.canFormatOk n set = true)) ∧
   (∃ (n : Fin 8) (m : Fin 256) (f : CanFrame) (s : State), let c := s.can n
    let st := s.canState n
    let live := st = 2 ∨ st = 3
    let kindIs (q : Nat) : Prop := s.canMatch n f = some m.val ∧ s.fld (F.OBJ_CFG_KIND n m) = q
    let quiet := s.flag (F.OBJ_CFG_EVT_EN n m) = false
    (live) ∧ (f.fdf = false ∨ s.flag (F.CAN_CTRL_FD_EN n) = true) ∧ (c.mode = 1) ∧ (c.abd = none) ∧ (kindIs 0) ∧ (quiet) ∧ (s.mode ≠ 6)) ∧
   (∃ (n : Fin 8) (m : Fin 256) (s : State), let c := s.can n
    let st := s.canState n
    let live := st = 2 ∨ st = 3
    let sends := s.flag (F.OBJ_CFG_EN n m) = true ∧ s.fld (F.OBJ_CFG_KIND n m) = 3
    let free := c.cur = none ∧ live ∧ c.mode = 1 ∧ s.mode = 3 ∧ s.sys.dusk = none ∧ c.pend = []
    let set := s.canSet n m
    (s.canTxMode n m = 1) ∧ (s.tbc % ms (max 1 (s.fld (F.OBJ_AUX_PERIOD n m))) = 0) ∧ (sends) ∧ (free) ∧ (s.canFormatOk n set = false)) ∧
   (∃ (n : Fin 8) (m : Fin 256) (v : Word) (s : State), let c := s.can n
    let st := s.canState n
    let live := st = 2 ∨ st = 3
    let sends := s.flag (F.OBJ_CFG_EN n m) = true ∧ s.fld (F.OBJ_CFG_KIND n m) = 3
    let free := c.cur = none ∧ live ∧ c.mode = 1 ∧ s.mode = 3 ∧ s.sys.dusk = none ∧ c.pend = []
    let set := s.canSet n m
    (s.canTxMode n m = 2) ∧ (v.getLsbD 7 = true) ∧ (v.getLsbD 6 = false) ∧ (sends) ∧ (free) ∧ (s.canFormatOk n set = false)) ∧
   (∃ (n : Fin 8) (m : Fin 256) (f : CanFrame) (s : State), let c := s.can n
    let st := s.canState n
    let live := st = 2 ∨ st = 3
    let kindIs (q : Nat) : Prop := s.canMatch n f = some m.val ∧ s.fld (F.OBJ_CFG_KIND n m) = q
    (live) ∧ (f.fdf = false ∨ s.flag (F.CAN_CTRL_FD_EN n) = true) ∧ (c.mode = 1) ∧ (c.abd = none) ∧ (kindIs 2) ∧ (4 ≤ c.hp.length)) ∧
   (∃ (n : Fin 8) (m : Fin 256) (f : CanFrame) (s : State), let c := s.can n
    let st := s.canState n
    let live := st = 2 ∨ st = 3
    let kindIs (q : Nat) : Prop := s.canMatch n f = some m.val ∧ s.fld (F.OBJ_CFG_KIND n m) = q
    (live) ∧ (f.fdf = false ∨ s.flag (F.CAN_CTRL_FD_EN n) = true) ∧ (c.mode = 1) ∧ (c.abd = none) ∧ (kindIs 1) ∧
     (s.flag (F.CAN_FIFOPTR_FULL n) = true)) ∧
   (∃ (n : Fin 8) (s : State), let c := s.can n
    let st := s.canState n
    (st = 1) ∧ (c.pend = [])) ∧
   (∃ (n : Fin 8) (m : Fin 256) (ws : List Word) (code : Fin 9) (s : State), let c := s.can n
    let st := s.canState n
    let tec := s.fld (F.CAN_STAT_TEC n)
    let live := st = 2 ∨ st = 3
    (c.cur = some (m.val, ws)) ∧ (live) ∧ (c.pend = [m.val]) ∧ (c.again = false) ∧ (c.want = none) ∧ (c.mode = 1) ∧ (s.mode = 3) ∧ (0 < code.val) ∧
     (code.val < 7) ∧ (tec ≤ 247) ∧ (s.flag (F.OBJ_CFG_ONESHOT n m) = true)) ∧
   (∃ (n : Fin 8) (s : State), let c := s.can n
    let st := s.canState n
    let used := (c.recov.filter fun t => s.tbc < t + sec (max 1 (s.fld F.CANSUP_CTRL_WIN_S))).length
    (st = 4) ∧ (s.fbit F.CANSUP_CTRL_AUTO n = true) ∧ (c.spent = false) ∧ (s.fbit F.CANSUP_STAT_BUDGET_OUT n = false) ∧
     (max 1 (s.fld F.CANSUP_CTRL_BUDGET) ≤ used)) ∧
   (∃ (n : Fin 8) (m : Fin 256) (ws : List Word) (code : Fin 9) (s : State), let c := s.can n
    let st := s.canState n
    let tec := s.fld (F.CAN_STAT_TEC n)
    let live := st = 2 ∨ st = 3
    (c.cur = some (m.val, ws)) ∧ (live) ∧ (c.pend = [m.val]) ∧ (c.again = false) ∧ (c.want = none) ∧ (c.mode = 1) ∧ (s.mode = 3) ∧ (0 < code.val) ∧
     (code.val < 7) ∧ (code.val ≠ 3) ∧ (248 ≤ tec) ∧ (tec ≤ 255) ∧ (s.flag (F.OBJ_CFG_ONESHOT n m) = true)) :=
  ⟨⟨2, 7, 0x40000080, 9, cf, 3, ((ck 3 2 3 2 {mode := 1})), by decide +kernel⟩,
  ⟨2, 7, 0x00000080, cf, 0, (mtc (ck 3 3 1 2 {mode := 1})), by decide +kernel⟩,
  ⟨2, 7, 0x40000080, 3, (ck 3 2 3 2 {mode := 3} |>.setFlag (F.CAN_ABDN_EN 2 0) true |>.setFld (F.CAN_NBT_BRP 2) 0), by decide +kernel⟩,
  ⟨2, 7, 0x40000080, ((ck 3 4 3 2 {mode := 1}).setFbit F.CANSUP_CTRL_AUTO 2 true), by decide +kernel⟩,
  ⟨2, 7, [1], ((ck 3 3 3 0 {mode := 1, pend := [7], cur := some (7, [1])})), by decide +kernel⟩,
  ⟨2, 7, 0x00000040, cfd, (mtc (ck 3 3 2 2 {mode := 1, hp := [[1],[2]]}) |>.setFlag (F.CAN_CTRL_FD_EN 2) true), by decide +kernel⟩,
  ⟨2, (ck 3 5 3 2 {mode := 1, recov := [2500000000, 7]} |>.setFld (F.CANSUP_CNT_COUNT 2) 4), by decide +kernel⟩,
  ⟨2, 0, 0, ((ck 3 2 3 0 {mode := 3, abd := some (0,0)}).setFld (F.ABD_STAT_CAND 2) 15 |>.setFlag (F.CAN_ABDN_EN 2 0) true), by decide +kernel⟩,
  ⟨2, 7, (ck 2 2 3 1 {mode := 1}), by decide +kernel⟩,
  ⟨2, 7, (ck 3 4 3 1 {mode := 1}), by decide +kernel⟩,
  ⟨2, 7, (ck 3 2 2 1 {mode := 1}), by decide +kernel⟩,
  ⟨2, 7, ((ck 3 3 3 1 {mode := 1})), by decide +kernel⟩,
  ⟨2, 7, cf, (mtc (ck 3 2 0 2 {mode := 1})), by decide +kernel⟩,
  ⟨2, 7, ((ck 3 3 3 1 {mode := 1}).setWord 4564 16), by decide +kernel⟩,
  ⟨2, 7, 0x40000080, ((ck 3 2 3 2 {mode := 1}).setWord 4564 16), by decide +kernel⟩,
  ⟨2, 7, cf, (mtc (ck 3 3 2 2 {mode := 1, hp := [[1],[2],[3],[4]]})), by decide +kernel⟩,
  ⟨2, 7, cf, (mtc (ck 3 3 1 2 {mode := 1}) |>.setFlag (F.CAN_FIFOPTR_FULL 2) true), by decide +kernel⟩,
  ⟨2, ((ck 3 1 3 0 {}).setFld (F.CAN_NBT_BRP 2) 0 |>.setFld (F.CAN_NBT_TSEG2 2) 0), by decide +kernel⟩,
  ⟨2, 7, [1], 3, ((ck 3 2 3 0 {mode := 1, pend := [7], cur := some (7, [1])}).setFlag (F.OBJ_CFG_ONESHOT 2 7) true), by decide +kernel⟩,
  ⟨2, (((ck 3 4 3 2 {mode := 1, recov := [2500000000,2500000000]}).setFbit F.CANSUP_CTRL_AUTO 2 true).setFld F.CANSUP_CTRL_BUDGET 2), by decide +kernel⟩,
  ⟨2, 7, [1], 4, ((ck 3 3 3 0 {mode := 1, pend := [7], cur := some (7, [1])}).setFlag (F.OBJ_CFG_ONESHOT 2 7) true |>.setFld (F.CAN_STAT_TEC 2) 250), by decide +kernel⟩⟩

end W25

theorem witness_StepsOfTheQueue : ∃ s : State, s.pending = [] ∧ s.vault.outageRun = false ∧ s.cands = [] ∧
    (∀ e : Fin 8, ∀ a ∈ (s.engine e).stack, a.bad = none) ∧ (s.tbc + 1) % 125 ≠ 0 := ⟨State.reset, by decide +kernel⟩

theorem witness_CommandsLeaveTheQueue : ∃ (c : Instr) (s t : State), exec c s = .next t ∧ (∀ env, c ≠ .suppliesValid env) ∧ c ≠ .vaultEntry ∧
    (∀ env, c ≠ .coreCooled env) :=
  ⟨.xtalStop, State.reset, _, rfl, nofun, nofun, nofun⟩

theorem witness_CanonicalFormKept : ∃ s t : State, s.Canonical ∧ step s = .next t := ⟨State.reset, _, ⟨by decide +kernel, by decide +kernel⟩, rfl⟩

theorem witness_FusesKeptByEveryStep : ∃ s t : State, step s = .next t := ⟨State.reset, _, rfl⟩

/-- Code 0xC05 unless that is the number of 'log cleared', which the model leaves open; then 0xC06. -/
theorem witness_LogCommands_limited : ∃ (c : Fin 4096) (s : State), s.evl.closed = false ∧ s.evl.firstDone = true ∧ 0xC00 ≤ c.val ∧
    (s.fld (F.EVL_CODE_RL_EN c) = 1 ∧ c.val ≠ Happening.logCleared.code) ∧
    max 1 (s.fld (F.EVL_CODE_BURST c)) ≤ (tget {} s.evl.buckets c).taken := by
  by_cases h : 0xC05 = Happening.logCleared.code
  · exact ⟨0xC06, logState 0xC06 1 1 0, by decide +kernel, by decide +kernel, by decide +kernel, ⟨by decide +kernel, by rw [← h]; decide⟩, by decide +kernel⟩
  · exact ⟨0xC05, logState 0xC05 1 1 0, by decide +kernel, by decide +kernel, by decide +kernel, ⟨by decide +kernel, h⟩, by decide +kernel⟩
end Sys2Proof.Tests
end

section
/-!
SUPPORT. Proofs of the statements about the memory map and the registers (spec/00_scope.md). A step's footprint; what a raise
does in every case and what it leaves of the field dies; the register map's rows, their expert fields and what a write of a
register does.
-/

namespace Sys2Proof.Machine

/-! ### The footprint of a step -/

/-- Every part but the queue of waiting commands. -/
abbrev allButQueue : Nat := 0xfffffffffffffffe

/-- Every part. -/
abbrev everyPart : Nat := 0xffffffffffffffff

/-- Each command's footprint lies beside the queue. -/
theorem outFoot_exec (i : Instr) (s : State) : OutFoot allButQueue s (exec i s) := by
  have h := Foot.refl allButQueue s
  cases i with
  | registerWrite o off width v bad => exact foot_execRegisterWrite rfl h o off width v bad
  | expertEnWrite o off v => exact foot_execExpertEnWrite rfl h o off v
  | lpddrRangeAccess write a => exact foot_execLpddrRangeAccess rfl h write a
  | unmappedAccess write a => exact foot_execUnmappedAccess rfl h write a
  | fdWindowAccessComplete o d off write v => exact foot_execFdWindowAccessComplete rfl h o d off write v
  | upstreamSampleBlock n crcOk => exact foot_execUpstreamSampleBlock rfl h n crcOk
  | upstreamSenseBlock n crcOk => exact foot_execUpstreamSenseBlock rfl h n crcOk
  | upstreamStatusBlock n crcOk => exact foot_execUpstreamStatusBlock rfl h n crcOk
  | downstreamStepBlock n crcOk => exact foot_execDownstreamStepBlock rfl h n crcOk
  | downstreamOutputBlock n crcOk => exact foot_execDownstreamOutputBlock rfl h n crcOk
  | upstreamEscape n codeOk => exact foot_execUpstreamEscape rfl h n codeOk
  | downstreamEscape n codeOk => exact foot_execDownstreamEscape rfl h n codeOk
  | couplerClockLoss d => exact foot_execCouplerClockLoss rfl h d
  | dieRestart o d key => exact foot_execDieRestart rfl h o d key
  | dieTempMeasure d temp => exact foot_execDieTempMeasure rfl h d temp
  | mainPllUnlock => exact foot_execMainPllUnlock rfl h
  | serdesPllUnlock pll => exact foot_execSerdesPllUnlock rfl h pll
  | clockCrosscheck n => exact foot_execClockCrosscheck rfl h n
  | conversion n raw sns recovered => exact foot_execConversion rfl h n raw sns recovered
  | sampleDelivery => exact foot_execSampleDelivery rfl h
  | lgCtrlWrite o g v => exact foot_execLgCtrlWrite rfl h o g v
  | lockGroupTick g => exact foot_execLockGroupTick rfl h g
  | lockGroupTrigger g => exact foot_execLockGroupTrigger rfl h g
  | chLgWrite o n v => exact foot_execChLgWrite rfl h o n v
  | suppliesValid env => exact foot_execSuppliesValid rfl h env
  | dawnComplete found copies selftest => exact foot_execDawnComplete rfl h found copies selftest
  | setupRecordRepair id ok => exact foot_execSetupRecordRepair rfl h id ok
  | run o key => exact foot_execRun rfl h o key
  | hold o key => exact foot_execHold rfl h o key
  | engineer o key => exact foot_execEngineer rfl h o key
  | idle o key => exact foot_execIdle rfl h o key
  | follow o key => exact foot_execFollow rfl h o key
  | restartWarm o key => exact foot_execRestartWarm rfl h o key
  | restartCold o key => exact foot_execRestartCold rfl h o key
  | fwExchange o key => exact foot_execFwExchange rfl h o key
  | fwCoreRejoin ok => exact foot_execFwCoreRejoin rfl h ok
  | fwCommit o key => exact foot_execFwCommit rfl h o key
  | fwAbort o key => exact foot_execFwAbort rfl h o key
  | journalCycle => exact foot_execJournalCycle rfl h
  | journalDeviceFail d => exact foot_execJournalDeviceFail rfl h d
  | journalDeviceReturn d => exact foot_execJournalDeviceReturn rfl h d
  | journalRebuildComplete => exact foot_execJournalRebuildComplete rfl h
  | jnlEnWrite o v => exact foot_execJnlEnWrite rfl h o v
  | pfailAssert => exact foot_execPfailAssert rfl h
  | supplyFail => exact foot_execSupplyFail rfl h
  | duskTaskDeadline => exact foot_execDuskTaskDeadline rfl h
  | duskFinalDelta held => exact foot_execDuskFinalDelta rfl h held
  | duskPowerFailState => exact foot_execDuskPowerFailState rfl h
  | vaultEntry => exact foot_execVaultEntry rfl h
  | heartbeatSend => exact foot_execHeartbeatSend rfl h
  | heartbeatTimeout => exact foot_execHeartbeatTimeout rfl h
  | dusk => exact foot_execDusk rfl h
  | plnkDeltaReceive cycle leader words more => exact foot_execPlnkDeltaReceive rfl h cycle leader words more
  | plnkSnapshotReceive task words => exact foot_execPlnkSnapshotReceive rfl h task words
  | epochYield epoch => exact foot_execEpochYield rfl h epoch
  | add c rd ra rb => exact foot_execAdd rfl h c rd ra rb
  | sub c rd ra rb => exact foot_execSub rfl h c rd ra rb
  | and c rd ra rb => exact foot_execAnd rfl h c rd ra rb
  | or c rd ra rb => exact foot_execOr rfl h c rd ra rb
  | xor c rd ra rb => exact foot_execXor rfl h c rd ra rb
  | shl c rd ra rb => exact foot_execShl rfl h c rd ra rb
  | shr c rd ra rb => exact foot_execShr rfl h c rd ra rb
  | sra c rd ra rb => exact foot_execSra rfl h c rd ra rb
  | slt c rd ra rb => exact foot_execSlt rfl h c rd ra rb
  | sltu c rd ra rb => exact foot_execSltu rfl h c rd ra rb
  | min c rd ra rb => exact foot_execMin rfl h c rd ra rb
  | max c rd ra rb => exact foot_execMax rfl h c rd ra rb
  | adds c rd ra rb => exact foot_execAdds rfl h c rd ra rb
  | subs c rd ra rb => exact foot_execSubs rfl h c rd ra rb
  | cmp c ra rb => exact foot_execCmp rfl h c ra rb
  | tst c ra rb => exact foot_execTst rfl h c ra rb
  | mul c rd ra rb => exact foot_execMul rfl h c rd ra rb
  | mulh c rd ra rb => exact foot_execMulh rfl h c rd ra rb
  | mulhu c rd ra rb => exact foot_execMulhu rfl h c rd ra rb
  | div c rd ra rb => exact foot_execDiv rfl h c rd ra rb
  | divu c rd ra rb => exact foot_execDivu rfl h c rd ra rb
  | rem c rd ra rb => exact foot_execRem rfl h c rd ra rb
  | remu c rd ra rb => exact foot_execRemu rfl h c rd ra rb
  | mac c rd ra rb => exact foot_execMac rfl h c rd ra rb
  | macs c rd ra rb => exact foot_execMacs rfl h c rd ra rb
  | msu c rd ra rb => exact foot_execMsu rfl h c rd ra rb
  | msus c rd ra rb => exact foot_execMsus rfl h c rd ra rb
  | rnd c rd ra rb => exact foot_execRnd rfl h c rd ra rb
  | rnds c rd ra rb => exact foot_execRnds rfl h c rd ra rb
  | addD c rd ra rb => exact foot_execAddD rfl h c rd ra rb
  | subD c rd ra rb => exact foot_execSubD rfl h c rd ra rb
  | cmpD c ra rb => exact foot_execCmpD rfl h c ra rb
  | addi c rd ra imm => exact foot_execAddi rfl h c rd ra imm
  | andi c rd ra imm => exact foot_execAndi rfl h c rd ra imm
  | ori c rd ra imm => exact foot_execOri rfl h c rd ra imm
  | xori c rd ra imm => exact foot_execXori rfl h c rd ra imm
  | lui c rd imm => exact foot_execLui rfl h c rd imm
  | cmpi c ra imm => exact foot_execCmpi rfl h c ra imm
  | shli c rd ra n => exact foot_execShli rfl h c rd ra n
  | shri c rd ra n => exact foot_execShri rfl h c rd ra n
  | srai c rd ra n => exact foot_execSrai rfl h c rd ra n
  | sat c rd ra n => exact foot_execSat rfl h c rd ra n
  | mfs c rd n => exact foot_execMfs rfl h c rd n
  | mts c rd n => exact foot_execMts rfl h c rd n
  | ld c rd base size disp seg => exact foot_execLd rfl h c rd base size disp seg
  | ldu c rd base size disp seg => exact foot_execLdu rfl h c rd base size disp seg
  | st c rs base size disp seg => exact foot_execSt rfl h c rs base size disp seg
  | b c cond disp => exact foot_execB rfl h c cond disp
  | bl c disp => exact foot_execBl rfl h c disp
  | bz c r disp => exact foot_execBz rfl h c r disp
  | bnz c r disp => exact foot_execBnz rfl h c r disp
  | ldi c rd kind index => exact foot_execLdi rfl h c rd kind index
  | sto c rs kind index => exact foot_execSto rfl h c rs kind index
  | setf c rs index => exact foot_execSetf rfl h c rs index
  | clrf c rs index => exact foot_execClrf rfl h c rs index
  | edgr c rd ra rb => exact foot_execEdgr rfl h c rd ra rb
  | edgf c rd ra rb => exact foot_execEdgf rfl h c rd ra rb
  | ton c rd ra rb => exact foot_execTon rfl h c rd ra rb
  | tof c rd ra rb => exact foot_execTof rfl h c rd ra rb
  | tp c rd ra rb => exact foot_execTp rfl h c rd ra rb
  | ctu c rd ra rb => exact foot_execCtu rfl h c rd ra rb
  | ctd c rd ra rb => exact foot_execCtd rfl h c rd ra rb
  | evt c rd ra rb => exact foot_execEvt rfl h c rd ra rb
  | wft c rd ra rb => exact foot_execWft rfl h c rd ra rb
  | wftReturn c => exact foot_execWftReturn rfl h c
  | cas c rd ra rb seg => exact foot_execCas rfl h c rd ra rb seg
  | amoadd c rd ra rb seg => exact foot_execAmoadd rfl h c rd ra rb seg
  | fence c => exact foot_execFence rfl h c
  | fenceI c => exact foot_execFenceI rfl h c
  | jr c ra => exact foot_execJr rfl h c ra
  | jalr c rd ra => exact foot_execJalr rfl h c rd ra
  | trap c n => exact foot_execTrap rfl h c n
  | bkpt c => exact foot_execBkpt rfl h c
  | eret c => exact foot_execEret rfl h c
  | lNop e b => exact foot_execLNop rfl h e b
  | lMac e b => exact foot_execLMac rfl h e b
  | lMsu e b => exact foot_execLMsu rfl h e b
  | lMpy e b => exact foot_execLMpy rfl h e b
  | lAdd e b => exact foot_execLAdd rfl h e b
  | lSub e b => exact foot_execLSub rfl h e b
  | lLda e b => exact foot_execLLda rfl h e b
  | lRnd e b => exact foot_execLRnd rfl h e b
  | lShl e b => exact foot_execLShl rfl h e b
  | lShr e b => exact foot_execLShr rfl h e b
  | lClip e b => exact foot_execLClip rfl h e b
  | lAbs e b => exact foot_execLAbs rfl h e b
  | lNeg e b => exact foot_execLNeg rfl h e b
  | lAcc e b => exact foot_execLAcc rfl h e b
  | lSum e b => exact foot_execLSum rfl h e b
  | lMovd e b => exact foot_execLMovd rfl h e b
  | lRep e src count len => exact foot_execLRep rfl h e src count len
  | lBrl e cond ad disp => exact foot_execLBrl rfl h e cond ad disp
  | lAct e => exact foot_execLAct rfl h e
  | lLdx e ix v => exact foot_execLLdx rfl h e ix v
  | lCfx e ix bc mode step len => exact foot_execLCfx rfl h e ix bc mode step len
  | lLdlc e v => exact foot_execLLdlc rfl h e v
  | lSetlm e m => exact foot_execLSetlm rfl h e m
  | lLdmp e v => exact foot_execLLdmp rfl h e v
  | lMovi e d v => exact foot_execLMovi rfl h e d v
  | lClra e ad => exact foot_execLClra rfl h e ad
  | lClrs e => exact foot_execLClrs rfl h e
  | dispatcherTick => exact foot_execDispatcherTick rfl h
  | coreClaim => exact foot_execCoreClaim rfl h
  | affinityWaitExpiry => exact foot_execAffinityWaitExpiry rfl h
  | schedGrpack o v => exact foot_execSchedGrpack rfl h o v
  | taskEnd c => exact foot_execTaskEnd rfl h c
  | watchdog c => exact foot_execWatchdog rfl h c
  | setIn o key kind => exact foot_execSetIn rfl h o key kind
  | setOut o key kind => exact foot_execSetOut rfl h o key kind
  | clearIn o key kind => exact foot_execClearIn rfl h o key kind
  | clearOut o key kind => exact foot_execClearOut rfl h o key kind
  | clearAll o key => exact foot_execClearAll rfl h o key
  | taskResume o key t => exact foot_execTaskResume rfl h o key t
  | taskDisable o key t => exact foot_execTaskDisable rfl h o key t
  | taskEnable o key t => exact foot_execTaskEnable rfl h o key t
  | loadImage i1 seq tagOk kind offset total len body => exact foot_execLoadImage rfl h i1 seq tagOk kind offset total len body
  | verificationComplete v => exact foot_execVerificationComplete rfl h v
  | arm o key => exact foot_execArm rfl h o key
  | exchangeSwitch => exact foot_execExchangeSwitch rfl h
  | exchangeRelease => exact foot_execExchangeRelease rfl h
  | exchangeTimeout => exact foot_execExchangeTimeout rfl h
  | commit o key => exact foot_execCommit rfl h o key
  | revert o key => exact foot_execRevert rfl h o key
  | discard o key => exact foot_execDiscard rfl h o key
  | rangeChange o n v => exact foot_execRangeChange rfl h o n v
  | rangeSettled n => exact foot_execRangeSettled rfl h n
  | refselWrite o k v => exact foot_execRefselWrite rfl h o k v
  | refSettled k => exact foot_execRefSettled rfl h k
  | refMonitor k uV => exact foot_execRefMonitor rfl h k uV
  | cal o k v => exact foot_execCal rfl h o k v
  | calibrationStart k => exact foot_execCalibrationStart rfl h k
  | rollCalibrationStart d => exact foot_execRollCalibrationStart rfl h d
  | calibrationComplete k factors => exact foot_execCalibrationComplete rfl h k factors
  | aoutRangeChange o n v => exact foot_execAoutRangeChange rfl h o n v
  | aoutRangeSettled n => exact foot_execAoutRangeSettled rfl h n
  | aoutUpdate n => exact foot_execAoutUpdate rfl h n
  | aoutDiagnosis n opened => exact foot_execAoutDiagnosis rfl h n opened
  | certBegin o d key => exact foot_execCertBegin rfl h o d key
  | certPoint o d key => exact foot_execCertPoint rfl h o d key
  | certPointComplete d measured => exact foot_execCertPointComplete rfl h d measured
  | certEnd o d key => exact foot_execCertEnd rfl h o d key
  | certAbort o d key => exact foot_execCertAbort rfl h o d key
  | activationReady g => exact foot_execActivationReady rfl h g
  | activationStart e => exact foot_execActivationStart rfl h e
  | activationEnd e => exact foot_execActivationEnd rfl h e
  | scrubRead e off => exact foot_execScrubRead rfl h e off
  | leFabricWrite o e off size v => exact foot_execLeFabricWrite rfl h o e off size v
  | slotEnable o g v => exact foot_execSlotEnable rfl h o g v
  | slotDisable o g v => exact foot_execSlotDisable rfl h o g v
  | leImpcfgWrite o e k v => exact foot_execLeImpcfgWrite rfl h o e k v
  | lePalreqWrite o e m v => exact foot_execLePalreqWrite rfl h o e m v
  | lePalgrpWrite o e v => exact foot_execLePalgrpWrite rfl h o e v
  | learnStart o g cogging => exact foot_execLearnStart rfl h o g cogging
  | learnEnd o g => exact foot_execLearnEnd rfl h o g
  | learnAbort o g => exact foot_execLearnAbort rfl h o g
  | restore o g => exact foot_execRestore rfl h o g
  | clrSticky o g => exact foot_execClrSticky rfl h o g
  | rcpPrepare n => exact foot_execRcpPrepare rfl h n
  | rcpTick n => exact foot_execRcpTick rfl h n
  | rcpStart o n key => exact foot_execRcpStart rfl h o n key
  | rcpStop o n key => exact foot_execRcpStop rfl h o n key
  | pause o n key => exact foot_execPause rfl h o n key
  | release o n key => exact foot_execRelease rfl h o n key
  | jump o n key => exact foot_execJump rfl h o n key
  | plannerUpdate => exact foot_execPlannerUpdate rfl h
  | go o n key => exact foot_execGo rfl h o n key
  | goRel o n key => exact foot_execGoRel rfl h o n key
  | axStop o n key => exact foot_execAxStop rfl h o n key
  | estop o n key => exact foot_execEstop rfl h o n key
  | axResume o n key => exact foot_execAxResume rfl h o n key
  | setpos o n key => exact foot_execSetpos rfl h o n key
  | axClear o n key => exact foot_execAxClear rfl h o n key
  | axisEnable o n v => exact foot_execAxisEnable rfl h o n v
  | axisDisable o n v => exact foot_execAxisDisable rfl h o n v
  | stepMismatch n pad => exact foot_execStepMismatch rfl h n pad
  | stallEstimate n => exact foot_execStallEstimate rfl h n
  | qencEnWrite o n v => exact foot_execQencEnWrite rfl h o n v
  | qerr n => exact foot_execQerr rfl h n
  | fioDirWrite o n v => exact foot_execFioDirWrite rfl h o n v
  | debWrite o n v => exact foot_execDebWrite rfl h o n v
  | debounceExpiry n => exact foot_execDebounceExpiry rfl h n
  | maxactWrite o n v => exact foot_execMaxactWrite rfl h o n v
  | maxactExpiry n => exact foot_execMaxactExpiry rfl h n
  | switchThermalTrip n => exact foot_execSwitchThermalTrip rfl h n
  | switchCooled n => exact foot_execSwitchCooled rfl h n
  | overcurrentQualified n present => exact foot_execOvercurrentQualified rfl h n present
  | vfldMissing r => exact foot_execVfldMissing rfl h r
  | vfldPresent r => exact foot_execVfldPresent rfl h r
  | isumMeasure r sum => exact foot_execIsumMeasure rfl h r sum
  | regionRestart o r v => exact foot_execRegionRestart rfl h o r v
  | ilmInputChange i1 level => exact foot_execIlmInputChange rfl h i1 level
  | ilmFilterExpiry i1 => exact foot_execIlmFilterExpiry rfl h i1
  | ilmTermWrite o set t w v => exact foot_execIlmTermWrite rfl h o set t w v
  | load o key => exact foot_execLoad rfl h o key
  | swap o key => exact foot_execSwap rfl h o key
  | swapApply => exact foot_execSwapApply rfl h
  | swapOverlapEnd => exact foot_execSwapOverlapEnd rfl h
  | clearLatch o key => exact foot_execClearLatch rfl h o key
  | ilmClearAll o key => exact foot_execIlmClearAll rfl h o key
  | cbRead a => exact foot_execCbRead rfl h a
  | cbWrite a v idle => exact foot_execCbWrite rfl h a v idle
  | cbFifoApply => exact foot_execCbFifoApply rfl h
  | streamEnable o m v => exact foot_execStreamEnable rfl h o m v
  | blockClose m => exact foot_execBlockClose rfl h m
  | pageClose u => exact foot_execPageClose rfl h u
  | streamResume => exact foot_execStreamResume rfl h
  | decimationStep => exact foot_execDecimationStep rfl h
  | decimationUndo => exact foot_execDecimationUndo rfl h
  | nvmeBringup linkUp gen4 speedOk lanes drive => exact foot_execNvmeBringup rfl h linkUp gen4 speedOk lanes drive
  | nvmeWriteComplete u ok => exact foot_execNvmeWriteComplete rfl h u ok
  | nvmeFlush u => exact foot_execNvmeFlush rfl h u
  | retry o key => exact foot_execRetry rfl h o key
  | unitArm o u key => exact foot_execUnitArm rfl h o u key
  | unitStop o u key => exact foot_execUnitStop rfl h o u key
  | force o u key => exact foot_execForce rfl h o u key
  | unitClear o u key => exact foot_execUnitClear rfl h o u key
  | triggerEvaluation u edges => exact foot_execTriggerEvaluation rfl h u edges
  | autoTimeout u => exact foot_execAutoTimeout rfl h u
  | recordCopyComplete u => exact foot_execRecordCopyComplete rfl h u
  | holdoffExpiry u => exact foot_execHoldoffExpiry rfl h u
  | triggerOutputEnd u => exact foot_execTriggerOutputEnd rfl h u
  | domainUpdate o d v => exact foot_execDomainUpdate rfl h o d v
  | domainUpdateCommit d => exact foot_execDomainUpdateCommit rfl h d
  | sync d master seq log twoStep t1 corr frac => exact foot_execSync rfl h d master seq log twoStep t1 corr frac
  | announce d master rank timeout utcOfs => exact foot_execAnnounce rfl h d master rank timeout utcOfs
  | pdelayReq d seq => exact foot_execPdelayReq rfl h d seq
  | delayReqSend d => exact foot_execDelayReqSend rfl h d
  | syncTimeout d => exact foot_execSyncTimeout rfl h d
  | holdoverExpiry d => exact foot_execHoldoverExpiry rfl h d
  | revertExpiry => exact foot_execRevertExpiry rfl h
  | snap o key => exact foot_execSnap rfl h o key
  | select o key d => exact foot_execSelect rfl h o key d
  | accept o key d => exact foot_execAccept rfl h o key d
  | dismiss o key d => exact foot_execDismiss rfl h o key d
  | tdcCalibration => exact foot_execTdcCalibration rfl h
  | tsoEnable o t v => exact foot_execTsoEnable rfl h o t v
  | tsoPulse t => exact foot_execTsoPulse rfl h t
  | tsoPulseEnd t => exact foot_execTsoPulseEnd rfl h t
  | linkStart o n v => exact foot_execLinkStart rfl h o n v
  | measureComplete n tx rx times => exact foot_execMeasureComplete rfl h n tx rx times
  | outputImageTake n => exact foot_execOutputImageTake rfl h n
  | frameTransmit n => exact foot_execFrameTransmit rfl h n
  | frameReceive port fcsOk f => exact foot_execFrameReceive rfl h port fcsOk f
  | inputPublish n => exact foot_execInputPublish rfl h n
  | mailboxRequest o n v => exact foot_execMailboxRequest rfl h o n v
  | mailboxComplete n => exact foot_execMailboxComplete rfl h n
  | read i1 seq tagOk handles => exact foot_execRead rfl h i1 seq tagOk handles
  | write i1 seq tagOk pairs => exact foot_execWrite rfl h i1 seq tagOk pairs
  | subscribe i1 seq tagOk id period handles => exact foot_execSubscribe rfl h i1 seq tagOk id period handles
  | notify i1 id => exact foot_execNotify rfl h i1 id
  | mode i1 seq tagOk code => exact foot_execMode rfl h i1 seq tagOk code
  | traceStart i1 seq tagOk u => exact foot_execTraceStart rfl h i1 seq tagOk u
  | traceStop i1 seq tagOk u => exact foot_execTraceStop rfl h i1 seq tagOk u
  | traceAck i1 seq tagOk u page => exact foot_execTraceAck rfl h i1 seq tagOk u page
  | traceRetransmit u => exact foot_execTraceRetransmit rfl h u
  | regRead i1 seq tagOk addrs => exact foot_execRegRead rfl h i1 seq tagOk addrs
  | regWrite i1 seq tagOk pairs => exact foot_execRegWrite rfl h i1 seq tagOk pairs
  | hello role => exact foot_execHello rfl h role
  | finish i1 table sigOk tagOk => exact foot_execFinish rfl h i1 table sigOk tagOk
  | handshakeLapse i1 => exact foot_execHandshakeLapse rfl h i1
  | sessionIdleClose i1 => exact foot_execSessionIdleClose rfl h i1
  | gapclose i1 => exact foot_execGapclose rfl h i1
  | canFrameReceive n f => exact foot_execCanFrameReceive rfl h n f
  | canPeriodic n m => exact foot_execCanPeriodic rfl h n m
  | txreq o n m v => exact foot_execTxreq rfl h o n m v
  | canTxComplete n code => exact foot_execCanTxComplete rfl h n code
  | bor o n key => exact foot_execBor rfl h o n key
  | borComplete n => exact foot_execBorComplete rfl h n
  | cansupRecovery n => exact foot_execCansupRecovery rfl h n
  | abdStart o n key => exact foot_execAbdStart rfl h o n key
  | abdStop o n key => exact foot_execAbdStop rfl h o n key
  | abdTimeout n => exact foot_execAbdTimeout rfl h n
  | opmodeWrite o n v => exact foot_execOpmodeWrite rfl h o n v
  | pop o n v => exact foot_execPop rfl h o n v
  | fifoRdWrite o n v => exact foot_execFifoRdWrite rfl h o n v
  | sentinelEvaluation sinA sinB => exact foot_execSentinelEvaluation rfl h sinA sinB
  | discrepancyExpiry n => exact foot_execDiscrepancyExpiry rfl h n
  | readbackMismatch n => exact foot_execReadbackMismatch rfl h n
  | testPulse n => exact foot_execTestPulse rfl h n
  | testPulseEnd p l back => exact foot_execTestPulseEnd rfl h p l back
  | safeReqWrite o v => exact foot_execSafeReqWrite rfl h o v
  | coreReport padP padN => exact foot_execCoreReport rfl h padP padN
  | coreSilent => exact foot_execCoreSilent rfl h
  | deliberateReset skew held release selftest => exact foot_execDeliberateReset rfl h skew held release selftest
  | pendingAreaWrite o w v => exact foot_execPendingAreaWrite rfl h o w v
  | safeConfirm o v => exact foot_execSafeConfirm rfl h o v
  | confirmWindowExpiry => exact foot_execConfirmWindowExpiry rfl h
  | bhtStart o key n => exact foot_execBhtStart rfl h o key n
  | bhtPhaseEnd => exact foot_execBhtPhaseEnd rfl h
  | bhtAbort o key n => exact foot_execBhtAbort rfl h o key n
  | pendClear o key n => exact foot_execPendClear rfl h o key n
  | bhtDueExpiry n => exact foot_execBhtDueExpiry rfl h n
  | bhtGraceExpiry n => exact foot_execBhtGraceExpiry rfl h n
  | vsenFault => exact foot_execVsenFault rfl h
  | faultRaise src unit named cond => exact foot_execFaultRaise rfl h src unit named cond
  | quietExpiry n => exact foot_execQuietExpiry rfl h n
  | sevWrite o n v => exact foot_execSevWrite rfl h o n v
  | fltClear o key => exact foot_execFltClear rfl h o key
  | fltClearAll o key => exact foot_execFltClearAll rfl h o key
  | raise o key => exact foot_execRaise rfl h o key
  | inject o key => exact foot_execInject rfl h o key
  | injectionLapse => exact foot_execInjectionLapse rfl h
  | lockstepMismatch c => exact foot_execLockstepMismatch rfl h c
  | coreRejoin c ok => exact foot_execCoreRejoin rfl h c ok
  | tokenRefill c => exact foot_execTokenRefill rfl h c
  | evlWrite o key wcode => exact foot_execEvlWrite rfl h o key wcode
  | clearLog o key => exact foot_execClearLog rfl h o key
  | evlRdselWrite o v => exact foot_execEvlRdselWrite rfl h o v
  | evlCodeWrite o c v => exact foot_execEvlCodeWrite rfl h o c v
  | clearTamp o key => exact foot_execClearTamp rfl h o key
  | vbatLost => exact foot_execVbatLost rfl h
  | xtalStop => exact foot_execXtalStop rfl h
  | caseOpen low => exact foot_execCaseOpen rfl h low
  | attest o key => exact foot_execAttest rfl h o key
  | revoke o key n => exact foot_execRevoke rfl h o key n
  | viso5Fail d => exact foot_execViso5Fail rfl h d
  | viso5Return d lo hi => exact foot_execViso5Return rfl h d lo hi
  | coreOvertemp => exact foot_execCoreOvertemp rfl h
  | couplerClockReturn d => exact foot_execCouplerClockReturn rfl h d
  | stepGeneratorCrossing n => exact foot_execStepGeneratorCrossing rfl h n
  | canBusError n code eight => exact foot_execCanBusError rfl h n code eight
  | canBusIntegration n => exact foot_execCanBusIntegration rfl h n
  | netLinkLoss p => exact foot_execNetLinkLoss rfl h p
  | plnkLinkLoss => exact foot_execPlnkLinkLoss rfl h
  | heartbeatReceive epoch image => exact foot_execHeartbeatReceive rfl h epoch image
  | followUp d master seq t1 corr => exact foot_execFollowUp rfl h d master seq t1 corr
  | delayResp d master seq t4 corr => exact foot_execDelayResp rfl h d master seq t4 corr
  | pdelayResp d seq turn frac => exact foot_execPdelayResp rfl h d seq turn frac
  | arpRequest p ip => exact foot_execArpRequest rfl h p ip
  | icmpEchoRequest p ip => exact foot_execIcmpEchoRequest rfl h p ip
  | coreCooled env => exact foot_execCoreCooled rfl h env
  | memoryScrubRead a => exact foot_execMemoryScrubRead rfl h a
  | illegalEncoding c w => exact foot_execIllegalEncoding rfl h c w
  | undefBundle f => exact foot_execUndefBundle rfl h f

theorem foot_withPending (q : List Instr) (s : State) : Foot everyPart s (s.withPending q) where
  hidden := rfl
  regs _ _ := rfl
  memWf h := h
  regsWf h := h
  fuses := .refl s
  free := Nat.le_refl _

theorem foot_step {s t : State} (h : step s = .next t) : Foot everyPart s t := by
  unfold step at h
  split at h
  · cases h
    exact foot_tick rfl (.refl _ s)
  next c q _ => exact ((outFoot_exec c (s.withPending q)).of t h).step rfl (foot_withPending q s)

/-- Settles O38: a step has a footprint, and a footprint keeps the canonical form. -/
theorem canonicalFormKept : Obligations.CanonicalFormKept := by
  unfold Obligations.CanonicalFormKept
  exact fun _ _ hs h => (foot_step h).canonical hs

/-! ### The machine at reset -/

/-- Settles O37: nothing is listed at reset, so every register reads its reset value by definition; the named fields are those
of the table. -/
theorem resetState : Obligations.ResetState := by
  unfold Obligations.ResetState
  refine ⟨⟨rfl, rfl⟩, rfl, rfl, rfl, ?mode, ?err, fun _ => rfl, ?errMin, ?sources, rfl, rfl⟩
  case mode => decide +kernel
  case err => decide +kernel
  case errMin => decide +kernel
  case sources => decide +kernel

/-! ### What a raise does, and what it leaves

The reaction to a raise reaches far: it may change the mode or enter LOCKOUT. Of the fault collector it changes the hold alone,
and of a field die's window the registers from 0x10020 on: cluster, region and certification registers. -/

/-- The registers of a die's channels, and DIE_CTRL (R48, R242). -/
def ChannelReg (b : Nat) : Prop := 0xF0600000 ≤ b ∧ b < 0xF0700000 ∧ (b - 0xF0600000) % 0x40000 ≤ 0x10000

/-- What a reaction leaves: the fault sources, the registers of channels and DIE_CTRL. -/
structure Reaction (z s : State) : Prop where
  srcs : s.flt.srcs = z.flt.srcs
  reg : ∀ b, ChannelReg b → s.reg b = z.reg b

/-- Every part but the fault collector and the field dies' registers. -/
abbrev reactionMask : Nat := 0xbfffffffffffff7f

theorem Reaction.refl (s : State) : Reaction s s := ⟨rfl, fun _ _ => rfl⟩

theorem Reaction.trans {z t s : State} (h : Reaction z t) (k : Reaction t s) : Reaction z s :=
  ⟨k.srcs.trans h.srcs, fun b hb => (k.reg b hb).trans (h.reg b hb)⟩

theorem Foot.reg_channel {m : Nat} {z s : State} (h : Foot m z s) (hm : m.testBit 62 = false) {b : Nat} (hb : ChannelReg b) :
    s.reg b = z.reg b :=
  h.regs b (by rw [blockOf_fd hb.1 hb.2.1]; exact hm)

theorem Foot.reaction {t s : State} (h : Foot reactionMask t s) : Reaction t s :=
  ⟨congrArg FltU.srcs (h.flt_eq rfl), fun _ hb => h.reg_channel rfl hb⟩

theorem Reaction.foot {z t s : State} (h : Reaction z t) (k : Foot reactionMask t s) : Reaction z s := h.trans k.reaction

theorem Reaction.ite {z x y : State} {c : Prop} [Decidable c] (hx : Reaction z x) (hy : Reaction z y) :
    Reaction z (if c then x else y) := by split <;> assumption

theorem reg_setFld_channel {l : Loc} (hl : 0x10000 < (l.addr - 0xF0600000) % 0x40000) {b : Nat} (hb : ChannelReg b) (v : Nat)
    (s : State) : (s.setFld l v).reg b = s.reg b :=
  reg_setFld_ne (fun e => by have := hb.2.2; omega) v s

theorem Reaction.setFld {z t : State} (h : Reaction z t) {l : Loc} (hl : 0x10000 < (l.addr - 0xF0600000) % 0x40000) (v : Nat) :
    Reaction z (t.setFld l v) :=
  ⟨h.srcs, fun b hb => (reg_setFld_channel hl hb v t).trans (h.reg b hb)⟩

theorem Reaction.setFlag {z t : State} (h : Reaction z t) {l : Loc} (hl : 0x10000 < (l.addr - 0xF0600000) % 0x40000) (v : Bool) :
    Reaction z (t.setFlag l v) := h.setFld hl _

theorem clCtrl_apart (k : Nat) : 0x10000 < ((F.CL_CTRL_CAL k).addr - 0xF0600000) % 0x40000 := by
  simp only [F.CL_CTRL_CAL]; omega

theorem clStat_apart (k : Nat) : 0x10000 < ((F.CL_STAT_CAL_BUSY k).addr - 0xF0600000) % 0x40000 := by
  simp only [F.CL_STAT_CAL_BUSY]; omega

theorem certStat_apart (d : Nat) : 0x10000 < ((F.CERT_STAT_POINTS d).addr - 0xF0600000) % 0x40000 := by
  simp only [F.CERT_STAT_POINTS]; omega

theorem reaction_calRequest (k : Nat) (s : State) : Reaction s (s.calRequest k) := by
  have hs := (Reaction.refl s).setFlag (clCtrl_apart k) true
  unfold State.calRequest
  refine .ite (.refl s) (.ite ?_ (hs.foot (foot_modCluster rfl (.refl _ _) _ _)))
  exact (hs.setFlag (clStat_apart k) true).foot (foot_modCluster rfl (.refl _ _) _ _)

theorem reaction_certDrop (d : Nat) (s : State) : Reaction s (s.certDrop d) := by
  unfold State.certDrop
  refine .ite (forN_ind 4 (fun i t ht => ht.trans (reaction_calRequest (4 * d + i) t)) _ ?_) (.refl s)
  exact ((Reaction.refl s).foot (foot_modDie rfl (.refl _ _) _ _)).setFld (certStat_apart d) 0

theorem reaction_anaMode (old new : Nat) (s : State) : Reaction s (s.anaMode old new) := by
  unfold State.anaMode
  exact .ite (forN_ind 4 (fun d t ht => ht.trans (reaction_certDrop d t)) s (.refl s)) (.refl s)

theorem Reaction.hold2 {z t : State} (h : Reaction z t) (b : Bool) :
    Reaction z { t with flt := { t.flt with hold2 := b } } := ⟨h.srcs, h.reg⟩

/-- In the order of the mode change: SYS_MODE, the hold, breakpoints, dispatcher, sequencers and axes, certification, CAN and
sentinel, log. -/
theorem reaction_setModeFrom (was : Word) (new : Nat) (s : State) : Reaction s (s.setModeFrom was new) := by
  have self (t : State) := Foot.refl reactionMask t
  have hmode := (Reaction.refl s).foot (foot_setRegB (a := F.SYS_MODE_MODE.addr) (k := 40) rfl rfl (self s) (modeWord was new))
  have hhold := Reaction.ite (c := bitsOf was 0 3 = Mode.idle ∧
    (s.setReg F.SYS_MODE_MODE.addr (modeWord was new)).flt.srcs.all (fun p => !(p.2.pending && 4 ≤ p.2.effSev)))
    (hmode.hold2 false) hmode
  have hbkpt := Reaction.ite (c := bitsOf was 0 3 = Mode.engineer) (hhold.foot (foot_releaseBreakpoints rfl (self _))) hhold
  have hsched := (hbkpt.foot (foot_schedMode rfl (self _) (bitsOf was 0 3) new)).foot
    (foot_schedAgain rfl (self _) (bitsOf was 0 3) new)
  have hmot := (hsched.foot (foot_rcpMode rfl (self _) (bitsOf was 0 3) new)).foot
    (foot_motMode rfl (self _) (bitsOf was 0 3) new)
  have hana := hmot.trans (reaction_anaMode (bitsOf was 0 3) new _)
  have hsafe := (hana.foot (foot_canMode rfl (self _) (bitsOf was 0 3) new)).foot
    (foot_safeMode rfl (self _) (bitsOf was 0 3) new)
  exact hsafe.foot (foot_log rfl (self _) _ _ _)

theorem reaction_causeMode (r : Nat) (froms : List Nat) (new : Nat) (s : State) : Reaction s (s.causeMode r froms new) := by
  unfold State.causeMode
  exact .ite ((foot_cause rfl (.refl _ s) r).reaction.trans (reaction_setModeFrom ..)) (.refl s)

theorem reaction_lockout (reason arg : Nat) (s : State) : Reaction s (s.lockout reason arg) := by
  have self (t : State) := Foot.refl reactionMask t
  unfold State.lockout
  split
  · exact ⟨rfl, fun _ _ => rfl⟩
  · refine Reaction.trans (Foot.reaction ?_) (reaction_causeMode ..)
    refine Foot.forL (fun n t ht => foot_sbcEngage rfl ht true n) (foot_soffAxes rfl ?_)
    refine foot_setFlag blk_SAFE_STAT_SOFF rfl ?_ true
    refine foot_setFld blk_SAFE_STAT_ARG rfl (foot_setFld blk_SAFE_STAT_REASON rfl (foot_setFld blk_SAFE_STAT_STATE rfl ?_ 1) _) _
    exact foot_bhtInconclusive rfl (self s)

theorem reaction_react (n sev : Nat) (s : State) : Reaction s (s.react n sev) := by
  have h : Reaction s (if 1 ≤ sev then s.faultReason n sev else s) :=
    .ite (foot_faultReason rfl (.refl _ s) n sev).reaction (.refl s)
  unfold State.react
  refine .ite (h.trans (reaction_causeMode ..)) (.ite ?_ (.ite ?_ h))
  · exact (h.hold2 true).trans (reaction_causeMode ..)
  · exact (h.hold2 true).trans (reaction_lockout ..)

theorem src_react (n sev k : Nat) (s : State) : (s.react n sev).src k = s.src k := by
  unfold State.src
  rw [(reaction_react n sev s).srcs]

theorem src_evlCode (code sev a0 a1 k : Nat) (s : State) : (s.evlCode code sev a0 a1).src k = s.src k := by
  unfold State.src
  rw [(foot_evlCode (m := reactionMask) rfl (.refl _ s) code sev a0 a1).reaction.srcs]

theorem effSev_mono_named (s : State) (n nm : Nat) : s.effSev n 0 ≤ s.effSev n nm := by
  unfold State.effSev
  omega

/-- A raise of a source that exists does what `Raised` says, whatever unit and named severity it has. -/
theorem raised_raise {n : Nat} (hn : fltExists n = true) (u nm : Nat) (inj : Bool) (s : State) :
    Raised n s (s.raise n u nm inj) := by
  have hsev := effSev_mono_named s n nm
  unfold Raised State.raise
  rw [if_neg (by simp [hn])]
  dsimp only
  by_cases hp : (s.src n).pending = true
  · rw [if_pos hp, src_modSrc, if_pos rfl]
    exact ⟨rfl, fun _ => hp⟩
  · rw [if_neg hp, src_react, src_evlCode, src_modSrc, if_pos rfl]
    by_cases h0 : s.effSev n nm = 0
    · rw [if_pos h0]
      exact ⟨rfl, fun h => absurd h (by rw [not_or]; exact ⟨hp, by omega⟩)⟩
    · rw [if_neg h0]
      exact ⟨rfl, fun _ => rfl⟩

theorem reg_raise_channel {b : Nat} (hb : ChannelReg b) (n u nm : Nat) (inj : Bool) (s : State) :
    (s.raise n u nm inj).reg b = s.reg b := by
  unfold State.raise
  split
  · rfl
  · dsimp only
    split
    · rfl
    · rw [(reaction_react ..).reg b hb, (foot_evlCode (m := reactionMask) rfl (.refl _ _) ..).reg_channel rfl hb]
      rfl

/-! ### Accesses where nothing is -/

/-- What an access of nothing leaves: source `n` is raised, memory is as before, and a read gives 0. -/
def AccessRaised (n : Nat) (write : Bool) (s t : State) : Prop :=
  Raised n s t ∧ (∀ b, t.byte b = s.byte b) ∧ t.rdata = if write then s.rdata else [0]

theorem accessRaised_raise {n : Nat} (hn : fltExists n = true) (write : Bool) (s : State) :
    AccessRaised n write s (if write then s.raise n 0 else { s.raise n 0 with rdata := [0] }) := by
  have hr := raised_raise hn 0 0 false s
  have hf := foot_raise (m := 0x72280100a4ea4f80) rfl (.refl _ s) n 0 0 false
  have hb : ∀ b, (s.raise n 0).byte b = s.byte b := hf.same .mem rfl
  cases write with
  | true => exact ⟨hr, hb, hf.rdata_eq rfl⟩
  | false => exact ⟨hr, hb, rfl⟩

theorem isRegister_outside {a : Nat} (h : a < 0xF0000000 ∨ 0xF0700000 ≤ a) : isRegister a = false := by
  simp only [isRegister, Bool.or_eq_false_iff, Bool.and_eq_false_iff, decide_eq_false_iff_not]
  omega

theorem region_aboveFitted {s : State} {a : Nat} (hfit : lpddrBase + s.fitted ≤ a) (hlt : a < 0x1400000000) :
    s.region a = .aboveFitted := by
  unfold lpddrBase at hfit
  unfold State.region canvasSize lpddrBase
  rw [if_neg (by omega), if_neg (by omega), if_neg (by simp [isRegister_outside (a := a) (by omega)]), if_neg (by omega),
    if_pos (by omega)]

/-- Does no listed range of R48 hold the address? -/
def Unlisted (a : Nat) : Prop :=
  0x1000000 ≤ a ∧ a < 0x10000000 ∨ 0x10800000 ≤ a ∧ a < 0xF0000000 ∨ 0x1400000000 ≤ a ∧ a < 0x4000000000 ∨
    0x8000000000 ≤ a

theorem region_unmapped {s : State} {a : Nat} (hfit : s.fitted ≤ 0x400000000) (h : Unlisted a) : s.region a = .unmapped := by
  unfold Unlisted at h
  unfold State.region canvasSize lpddrBase
  rw [if_neg (by omega), if_neg (by omega), if_neg (by simp [isRegister_outside (a := a) (by omega)]), if_neg (by omega),
    if_neg (by omega), if_neg (by omega)]

theorem lpddrRangeAccess_raises {s : State} {a : BitVec 40} (hfit : lpddrBase + s.fitted ≤ a.toNat)
    (hlt : a.toNat < 0x1400000000) (write : Bool) : Completes (.lpddrRangeAccess write a) s (AccessRaised 3 write s) :=
  ⟨_, congrArg Host.Outcome.next (if_pos (region_aboveFitted hfit hlt)), accessRaised_raise (by decide) write s⟩

/-- What O18 says of an unlisted address holds where the fitted capacity lies within the LPDDR's range of R48. -/
theorem unmappedAccess_raises {s : State} {a : BitVec 40} (hfit : s.fitted ≤ 0x400000000) (h : Unlisted a.toNat)
    (write : Bool) : Completes (.unmappedAccess write a) s (AccessRaised 2 write s) :=
  ⟨_, congrArg Host.Outcome.next (if_pos (region_unmapped hfit h)), accessRaised_raise (by decide) write s⟩

/-- A block whose SYS_MEMSIZE reads 65,535 MiB: the LPDDR that it says is fitted ends above the LPDDR's range of R48. -/
def oversized : State := State.reset.setReg F.SYS_MEMSIZE_MIB.addr 0xFFFF

theorem region_oversized : oversized.region (0x1400000000#40).toNat = .lpddr := by decide +kernel

theorem unmappedAccess_oversized : exec (.unmappedAccess true 0x1400000000#40) oversized = .next oversized :=
  congrArg Host.Outcome.next (if_neg (by rw [region_oversized]; decide))

/-- Refutes O18: its fourth clause, of every state, says that the first address above the LPDDR's range raises BUS_ACCESS; in a
state whose SYS_MEMSIZE names more than the range holds the model takes that address for fitted LPDDR, and nothing is raised. -/
theorem not_outsideAccesses : ¬ Obligations.OutsideAccesses := by
  unfold Obligations.OutsideAccesses
  intro h
  obtain ⟨-, -, -, habove, -⟩ := h true 0x1400000000#40 oversized
  obtain ⟨t, ht, ⟨hraises, -⟩, -⟩ := habove (by decide) (by decide)
  rw [unmappedAccess_oversized] at ht
  cases ht
  exact absurd hraises (by decide +kernel)

/-! ### What follows the reset of a die's expert fields -/

theorem rgStat_apart (r : Nat) : 0x10000 < ((F.RG_STAT_FAULT r).addr - 0xF0600000) % 0x40000 := by
  simp only [F.RG_STAT_FAULT]; omega

theorem reg_raiseCond_channel {b : Nat} (hb : ChannelReg b) (n u nm : Nat) (s : State) :
    (s.raiseCond n u nm).reg b = s.reg b :=
  reg_raise_channel hb n u nm false _

theorem reg_regionRefresh_channel {b : Nat} (hb : ChannelReg b) (r : Nat) (s : State) :
    (s.regionRefresh r).reg b = s.reg b := by
  have hset (l : Loc) (hl : l.addr = (F.RG_STAT_FAULT r).addr) (v : Bool) (t : State) : (t.setFlag l v).reg b = t.reg b :=
    reg_setFld_channel (hl ▸ rgStat_apart r) hb _ t
  unfold State.regionRefresh
  dsimp only
  split
  · rfl
  · split
    · rw [reg_raiseCond_channel hb, hset (F.RG_STAT_FAULT_SEEN r) rfl, hset _ rfl]
    · exact hset (F.RG_STAT_FAULT r) rfl false s

theorem clStale_apart (k : Nat) : 0x10000 < ((F.CL_STAT_STALE k).addr - 0xF0600000) % 0x40000 := by
  simp only [F.CL_STAT_STALE]; omega

theorem reg_staleEval_channel {b : Nat} (hb : ChannelReg b) (k : Nat) (s : State) : (s.staleEval k).reg b = s.reg b := by
  have hset (v : Bool) (t : State) : (t.setFlag (F.CL_STAT_STALE k) v).reg b = t.reg b :=
    reg_setFld_channel (clStale_apart k) hb _ t
  unfold State.staleEval
  dsimp only
  split
  · rfl
  · split
    · rw [reg_raiseCond_channel hb, hset]
    · exact hset false s

theorem reg_dieCleared_channel {b : Nat} (hb : ChannelReg b) (a : Nat) (s : State) : (s.dieCleared a).reg b = s.reg b := by
  unfold State.dieCleared
  split
  · rfl
  · refine forN_ind (P := fun t => t.reg b = s.reg b) 4 (fun i t ht => (reg_staleEval_channel hb _ t).trans ht) _ ?_
    refine forN_ind (P := fun t => t.reg b = s.reg b) 32 (fun i t ht => ?_) s rfl
    dsimp only
    split
    · exact (reg_regionRefresh_channel hb _ _).trans ht
    · exact ht

/-! ### Writing the fields of a register one after the other -/

/-- Width of a field. -/
abbrev FieldDef.width (f : FieldDef) : Nat := f.hi + 1 - f.lo

/-- What a field reads in a word. -/
def FieldDef.read (f : FieldDef) (w : Word) : Nat := bitsOf w f.lo f.width

/-- The fields lie within a word, and no two of them share a bit. -/
def fieldsApart : List FieldDef → Bool
  | [] => true
  | f :: l => f.lo + f.width ≤ 32 && l.all (fun g => f.lo + f.width ≤ g.lo || g.lo + g.width ≤ f.lo) && fieldsApart l

theorem fieldsApart_cons {f : FieldDef} {l : List FieldDef} (h : fieldsApart (f :: l) = true) :
    f.lo + f.width ≤ 32 ∧ (∀ g ∈ l, f.lo + f.width ≤ g.lo ∨ g.lo + g.width ≤ f.lo) ∧ fieldsApart l = true := by
  simp only [fieldsApart, Bool.and_eq_true, decide_eq_true_eq, List.all_eq_true, Bool.or_eq_true] at h
  obtain ⟨⟨hword, hapart⟩, hl⟩ := h
  exact ⟨hword, hapart, hl⟩

/-- Puts the value `val f` in the field `f` if `take f` says so. -/
def putField (take : FieldDef → Bool) (val : FieldDef → Nat) (acc : Word) (f : FieldDef) : Word :=
  if take f then putBits acc f.lo f.width (val f) else acc

section
variable {take : FieldDef → Bool} {val : FieldDef → Nat} {f g : FieldDef}

theorem read_putField_self (hf : f.lo + f.width ≤ 32) (w : Word) :
    f.read (putField take val w f) = if take f then val f % 2 ^ f.width else f.read w := by
  unfold putField
  split
  · exact bitsOf_putBits hf
  · rfl

theorem read_putField_apart (hf : f.lo + f.width ≤ 32) (hd : f.lo + f.width ≤ g.lo ∨ g.lo + g.width ≤ f.lo) (w : Word) :
    g.read (putField take val w f) = g.read w := by
  unfold putField
  split
  · exact bitsOf_putBits_ne hf hd.symm
  · rfl

theorem read_foldl_apart {l : List FieldDef} (hl : fieldsApart l = true)
    (hd : ∀ g ∈ l, f.lo + f.width ≤ g.lo ∨ g.lo + g.width ≤ f.lo) (w : Word) :
    f.read (l.foldl (putField take val) w) = f.read w := by
  induction l generalizing w with
  | nil => rfl
  | cons g l ih =>
    obtain ⟨hg, -, hl'⟩ := fieldsApart_cons hl
    rw [List.foldl_cons, ih hl' fun x hx => hd x (List.mem_cons_of_mem _ hx),
      read_putField_apart hg (hd g List.mem_cons_self).symm]

/-- Fields that share no bit are written each for itself, whatever the order. -/
theorem read_foldl_putField {l : List FieldDef} (hl : fieldsApart l = true) (hf : f ∈ l) (w : Word) :
    f.read (l.foldl (putField take val) w) = if take f then val f % 2 ^ f.width else f.read w := by
  induction l generalizing w with
  | nil => cases hf
  | cons g l ih =>
    obtain ⟨hg, hd, hl'⟩ := fieldsApart_cons hl
    rw [List.foldl_cons]
    rcases List.mem_cons.1 hf with rfl | hf
    · rw [read_foldl_apart hl' hd, read_putField_self hg]
    · rw [ih hl' hf, read_putField_apart hg (hd f hf)]

end

/-! ### The register map -/

/-- Every row of the register map. -/
def registerMap : List RegRow :=
  regsSYS ++ regsCLK ++ regsSEC ++ regsFLT ++ regsEVL ++ regsSCHED ++ regsJNL ++ regsTIME ++ regsILM ++ regsCBUS ++
  regsPART ++ regsSAFE ++ regsREC ++ regsRCP ++ regsHOST ++ regsNET ++ regsPCIE ++ regsCAN ++ regsSL ++ regsLE ++
  regsPP ++ regsMOT ++ regsFD

theorem ite_subset {α : Type} {c : Prop} [Decidable c] {x y l : List α} (hx : x ⊆ l) (hy : y ⊆ l) :
    (if c then x else y) ⊆ l := by split <;> assumption

theorem blockRows_subset (a : Nat) : blockRows a ⊆ registerMap := by
  unfold blockRows registerMap
  repeat' with_reducible apply ite_subset
  all_goals intro r; simp only [List.mem_append]; grind

theorem mem_blockRows {a : Nat} {r : RegRow} (h : regRow a = some r) : r ∈ blockRows a := List.mem_of_find?_eq_some h

theorem mem_registerMap {a : Nat} {r : RegRow} (h : regRow a = some r) : r ∈ registerMap := blockRows_subset a (mem_blockRows h)

theorem regRow_hit {a : Nat} {r : RegRow} (h : regRow a = some r) : r.hit a = true := by
  have hhit := List.find?_some h
  exact hhit

theorem registerMap_fieldsApart : ∀ r ∈ registerMap, fieldsApart r.fields = true := by decide +kernel

theorem regRow_fieldsApart {a : Nat} {r : RegRow} (hr : regRow a = some r) : fieldsApart r.fields = true :=
  registerMap_fieldsApart r (mem_registerMap hr)

/-- Do the expert fields of the row read their reset values in `w`? -/
def expertAtReset (w : Word) (r : RegRow) : Bool :=
  r.fields.all fun f => !f.expert || f.read w == f.reset % 2 ^ f.width

theorem registerMap_expertAtReset : ∀ r ∈ registerMap, expertAtReset (BitVec.ofNat 32 r.resetValue) r = true := by
  decide +kernel

/-- The single addresses to which `regReset` gives a value of their own: the safety blocks' MAGIC and FMT, the factory block's
CRC-32, and DOM_CFG of DL. -/
def namedResets : List Nat := [0xF00B0800, 0xF00B1000, 0xF00B0804, 0xF00B1004, 0xF00B0010, 0xF00B0014, 0xF0070180]

theorem regReset_eq_row {b : Nat} {r : RegRow} (hr : regRow b = some r)
    (hflt : ¬ (0xF0031000 ≤ b ∧ b < 0xF0033000 ∧ b % 16 = 0))
    (hb : b ∉ namedResets) :
    regReset b = BitVec.ofNat 32 r.resetValue := by
  have hdl : (F.DOM_CFG_SRC 2).addr = 0xF0070180 := rfl
  simp only [namedResets, List.mem_cons, List.not_mem_nil, or_false, not_or] at hb
  obtain ⟨h1, h2, h3, h4, h5, h6, h7⟩ := hb
  unfold regReset
  rw [hr, if_neg hflt, if_neg (by omega), if_neg (by omega), if_neg (by omega), if_neg (by omega)]

/-- Do the expert fields of the register at `b` read their reset values at reset? -/
def expertResetAt (b : Nat) : Bool := (regRow b).all (expertAtReset (regReset b))

theorem expertResetAt_fltCfg0 : ∀ n : Fin 512, expertResetAt (0xF0031000 + 16 * n) = true := by decide +kernel

theorem expertResetAt_named : ∀ b ∈ namedResets, expertResetAt b = true := by decide +kernel

theorem expertResetAt_all (b : Nat) : expertResetAt b = true := by
  by_cases hflt : 0xF0031000 ≤ b ∧ b < 0xF0033000 ∧ b % 16 = 0
  · have h := expertResetAt_fltCfg0 ⟨(b - 0xF0031000) / 16, by omega⟩
    rwa [show 0xF0031000 + 16 * ((b - 0xF0031000) / 16) = b by omega] at h
  · by_cases hb : b ∈ namedResets
    · exact expertResetAt_named b hb
    · unfold expertResetAt
      cases hr : regRow b with
      | none => rfl
      | some r =>
        rw [Option.all_some, regReset_eq_row hr hflt hb]
        exact registerMap_expertAtReset r (mem_registerMap hr)

theorem read_regReset_expert {b : Nat} {r : RegRow} {f : FieldDef} (hr : regRow b = some r) (hf : f ∈ r.fields)
    (he : f.expert = true) : f.read (regReset b) = f.reset % 2 ^ f.width := by
  have h := expertResetAt_all b
  rw [expertResetAt, hr, Option.all_some, expertAtReset, List.all_eq_true] at h
  have hf := h f hf
  rw [he] at hf
  simpa using hf

/-! ### EXPERT_EN cleared: every expert field at its reset value (R7) -/

theorem expertCleared_eq (r : RegRow) (w : Word) :
    expertCleared r w = r.fields.foldl (putField FieldDef.expert FieldDef.reset) w := rfl

theorem read_expertCleared {a : Nat} {r : RegRow} {f : FieldDef} (hr : regRow a = some r) (hf : f ∈ r.fields) (w : Word) :
    f.read (expertCleared r w) = if f.expert then f.reset % 2 ^ f.width else f.read w := by
  rw [expertCleared_eq]
  exact read_foldl_putField (regRow_fieldsApart hr) hf w

/-- The step of `expertToReset` at the listed address `a`. -/
def State.expertStep (ctrl a : Nat) (t : State) : State :=
  if expertReg a = ctrl then
    match regRow a with
    | some r => t.setReg a (expertCleared r (t.reg a))
    | none => t
  else t

theorem expertToReset_eq (ctrl : Nat) (s : State) :
    s.expertToReset ctrl = forL (s.regs.map Prod.fst) (State.expertStep ctrl) s := rfl

theorem reg_expertStep_self {b : Nat} {r : RegRow} (hr : regRow b = some r) (t : State) :
    (t.expertStep (expertReg b) b).reg b = expertCleared r (t.reg b) := by
  unfold State.expertStep
  rw [if_pos rfl, hr]
  exact reg_setReg_self ..

theorem reg_expertStep_ne {ctrl a b : Nat} (h : a ≠ b) (t : State) : (t.expertStep ctrl a).reg b = t.reg b := by
  unfold State.expertStep
  split
  · split
    · exact reg_setReg_ne h
    · rfl
  · rfl

theorem tlook_eq_none_of_not_mem {α : Type} {t : Tbl α} {k : Nat} (h : k ∉ t.map Prod.fst) : tlook t k = none := by
  induction t with
  | nil => rfl
  | cons p t ih =>
    obtain ⟨j, v⟩ := p
    rw [List.map_cons, List.mem_cons, not_or] at h
    rw [tlook, if_neg (Ne.symm h.1), ih h.2]

theorem reg_of_not_listed {s : State} {b : Nat} (h : b ∉ s.regs.map Prod.fst) : s.reg b = regReset b := by
  unfold State.reg
  rw [tlook_eq_none_of_not_mem h]
  rfl

/-- A property that every round of a loop keeps and the round of `b` brings about holds after a loop over `b`. -/
theorem forL_reaches {σ α : Type} {P : σ → Prop} {f : α → σ → σ} {b : α} (hkeep : ∀ a t, P t → P (f a t))
    (hreach : ∀ t, P (f b t)) : ∀ (l : List α) (s : σ), (P s ∨ b ∈ l) → P (forL l f s) := by
  intro l
  induction l with
  | nil => intro s h; exact h.resolve_right List.not_mem_nil
  | cons a l ih =>
    intro s h
    refine ih (f a s) ?_
    rcases h with h | h
    · exact .inl (hkeep a s h)
    · rcases List.mem_cons.1 h with rfl | h
      · exact .inl (hreach s)
      · exact .inr h

theorem read_expertToReset {b : Nat} {r : RegRow} {f : FieldDef} (hr : regRow b = some r) (hf : f ∈ r.fields)
    (he : f.expert = true) (s : State) :
    f.read ((s.expertToReset (expertReg b)).reg b) = f.reset % 2 ^ f.width := by
  have hself (t : State) : f.read ((t.expertStep (expertReg b) b).reg b) = f.reset % 2 ^ f.width := by
    rw [reg_expertStep_self hr, read_expertCleared hr hf, if_pos he]
  rw [expertToReset_eq]
  refine forL_reaches (b := b) (P := fun t => f.read (t.reg b) = f.reset % 2 ^ f.width)
    (fun a t ht => ?_) hself _ s ?_
  · by_cases h : a = b
    · subst h; exact hself t
    · rw [reg_expertStep_ne h]; exact ht
  · by_cases h : b ∈ s.regs.map Prod.fst
    · exact .inr h
    · left
      rw [reg_of_not_listed h]
      exact read_regReset_expert hr hf he

/-- A field that is not of the expert level stays. -/
theorem read_expertToReset_plain {b : Nat} {r : RegRow} {f : FieldDef} (hr : regRow b = some r) (hf : f ∈ r.fields)
    (he : f.expert = false) (ctrl : Nat) (s : State) :
    f.read ((s.expertToReset ctrl).reg b) = f.read (s.reg b) := by
  rw [expertToReset_eq]
  refine forL_ind (P := fun t => f.read (t.reg b) = f.read (s.reg b))
    (fun a t ht => ?_) _ s rfl
  by_cases h : a = b
  · subst h
    by_cases hc : expertReg a = ctrl
    · rw [← hc, reg_expertStep_self hr, read_expertCleared hr hf, he]; exact ht
    · rw [State.expertStep, if_neg hc]; exact ht
  · rw [reg_expertStep_ne h]; exact ht

/-! ### A plain write (R4, R6, R7) -/

/-- Does a write act on the field (R4, R7)? -/
def writeTakes (expert : Bool) (f : FieldDef) : Bool :=
  !(f.expert && !expert) && (f.ty == .rw || f.ty == .rws || f.ty == .w1c || f.ty == .w1s)

/-- What the field takes from a write of `v` over `old`. -/
def writeValue (v old : Word) (f : FieldDef) : Nat :=
  match f.ty with
  | .w1c => f.read (old &&& ~~~v)
  | .w1s => f.read (old ||| v)
  | _ => f.read v

theorem applyField_eq (expert : Bool) (v old : Word) (f : FieldDef) (acc : Word) :
    applyField expert v old f acc = putField (writeTakes expert) (writeValue v old) acc f := by
  obtain ⟨hi, lo, ty, reset, exp⟩ := f
  cases ty <;> cases exp <;> cases expert <;> rfl

theorem reg_plainWrite_self {a : Nat} {r : RegRow} (hr : regRow a = some r) (v : Word) (s : State) :
    (s.plainWrite a v).reg a = r.fields.foldl (putField (writeTakes (s.expertOn a)) (writeValue v (s.reg a))) (s.reg a) := by
  unfold State.plainWrite
  rw [hr]
  dsimp only
  rw [reg_setReg_self]
  congr 1
  funext acc f
  exact applyField_eq ..

theorem reg_plainWrite_ne {a b : Nat} (h : b ≠ a) (v : Word) (s : State) : (s.plainWrite a v).reg b = s.reg b := by
  unfold State.plainWrite
  split
  · rfl
  · exact reg_setReg_ne h.symm

theorem read_plainWrite {a : Nat} {r : RegRow} {f : FieldDef} (hr : regRow a = some r) (hf : f ∈ r.fields) (v : Word)
    (s : State) : f.read ((s.plainWrite a v).reg a) =
      if writeTakes (s.expertOn a) f then writeValue v (s.reg a) f % 2 ^ f.width else f.read (s.reg a) := by
  rw [reg_plainWrite_self hr, read_foldl_putField (regRow_fieldsApart hr) hf]

theorem read_mod (f : FieldDef) (w : Word) : f.read w % 2 ^ f.width = f.read w := Nat.mod_mod ..

theorem written_plainWrite {a : Nat} {r : RegRow} (hr : regRow a = some r) (v : Word) (s : State) :
    Written r (s.expertOn a) v (s.reg a) ((s.plainWrite a v).reg a) := by
  intro f hf hty
  refine (read_plainWrite hr hf v s).trans ?_
  change _ = if f.expert && !s.expertOn a then f.read (s.reg a) else _
  cases hx : f.expert && !s.expertOn a with
  | true => simp [writeTakes, hx]
  | false =>
    cases ht : f.ty with
    | wo => exact absurd ht hty
    | ro => simp [writeTakes, hx, ht, FieldDef.read]
    | _ =>
      rw [if_pos (by simp [writeTakes, hx, ht]), writeValue, ht]
      exact read_mod f _

theorem sameBut_setReg (s : State) (a : Nat) (v : Word) : SameBut [.regs (blockOf a)] s (s.setReg a v) := by
  intro p hp
  cases p with
  | regs b => exact fun c hc => reg_setReg_ne fun e => hp (by rw [e, hc]; exact List.mem_singleton_self _)
  | mem => exact fun _ => rfl
  | _ => rfl

theorem sameBut_self (l : List Part) (s : State) : SameBut l s s := by
  intro p _
  cases p with
  | regs b => exact fun _ _ => rfl
  | mem => exact fun _ => rfl
  | _ => rfl

theorem sameBut_plainWrite (s : State) (a : Nat) (v : Word) : SameBut [.regs (blockOf a)] s (s.plainWrite a v) := by
  unfold State.plainWrite
  split
  · exact sameBut_self _ s
  · exact sameBut_setReg s a _

/-! ### The delays that DAWN measured (R34), and the dies -/

theorem forN_four {σ : Type} (f : Nat → σ → σ) (s : σ) : forN 4 f s = f 3 (f 2 (f 1 (f 0 s))) := rfl

theorem fld_delays {i : Nat} (hi : i < 4) (l : List Nat) (s : State) :
    (forN 4 (fun d t => t.setFld (F.CLK_FDDLY_DLY d) (l.getD d 0)) s).fld (F.CLK_FDDLY_DLY i) = l.getD i 0 % 256 := by
  have hself (d v : Nat) (t : State) : (t.setFld (F.CLK_FDDLY_DLY d) v).fld (F.CLK_FDDLY_DLY d) = v % 256 :=
    fld_setFld_self (by decide : 0 + 8 ≤ 32) v t
  have hne (d e v : Nat) (t : State) (h : d % 4 ≠ e % 4) :
      (t.setFld (F.CLK_FDDLY_DLY d) v).fld (F.CLK_FDDLY_DLY e) = t.fld (F.CLK_FDDLY_DLY e) :=
    fld_setFld_ne (by decide : 0 + 8 ≤ 32) (.inl (by simp only [F.CLK_FDDLY_DLY]; omega)) v t
  rw [forN_four]
  rcases (by omega : i = 0 ∨ i = 1 ∨ i = 2 ∨ i = 3) with rfl | rfl | rfl | rfl
  · rw [hne 3 0 _ _ (by decide), hne 2 0 _ _ (by decide), hne 1 0 _ _ (by decide), hself]
  · rw [hne 3 1 _ _ (by decide), hne 2 1 _ _ (by decide), hself]
  · rw [hne 3 2 _ _ (by decide), hself]
  · exact hself ..

theorem expertRows_clk : ∀ r ∈ regsCLK, r.fields.any FieldDef.expert = true →
    r = ⟨0xF0010010, [(4, 4)], [⟨7, 0, .rw, 0, true⟩]⟩ := by decide +kernel

theorem expertRows_fd : ∀ r ∈ regsFD, r.fields.any FieldDef.expert = true → (r.base, r.dims) ∈
    [(0xF0600100, [(4, 0x40000), (32, 0x800)]), (0xF0600104, [(4, 0x40000), (32, 0x800)]), (0xF0610000, [(4, 0x40000)])] := by
  decide +kernel

theorem blockRows_clk {b : Nat} (h : 0xF0010000 ≤ b) (k : b < 0xF0020000) : blockRows b = regsCLK := by
  unfold blockRows
  rw [if_neg (by omega), if_neg (by omega), if_pos k]

theorem blockRows_fd {b : Nat} (h : 0xF0600000 ≤ b) : blockRows b = if b < 0xF0700000 then regsFD else [] := by
  unfold blockRows
  repeat rw [if_neg (by omega)]

theorem any_expert_of_mem {r : RegRow} {f : FieldDef} (hf : f ∈ r.fields) (he : f.expert = true) :
    r.fields.any FieldDef.expert = true :=
  List.any_eq_true.2 ⟨f, hf, he⟩

theorem expert_clk {b : Nat} {r : RegRow} {f : FieldDef} (hr : regRow b = some r) (hf : f ∈ r.fields) (he : f.expert = true)
    (hb : 0xF0010000 ≤ b) (hb' : b < 0xF0020000) :
    f = ⟨7, 0, .rw, 0, true⟩ ∧ 0xF0010010 ≤ b ∧ b < 0xF0010020 ∧ (b - 0xF0010010) % 4 = 0 := by
  have hm := mem_blockRows hr
  rw [blockRows_clk hb hb'] at hm
  have hhit := regRow_hit hr
  obtain rfl := expertRows_clk r hm (any_expert_of_mem hf he)
  simp only [RegRow.hit, dimsHit, Bool.and_eq_true, decide_eq_true_eq, beq_iff_eq] at hhit
  exact ⟨List.mem_singleton.1 hf, by omega, by omega, by omega⟩

theorem channelReg_of_expert {b : Nat} {r : RegRow} {f : FieldDef} (hr : regRow b = some r) (hf : f ∈ r.fields)
    (he : f.expert = true) (hb : 0xF0600000 ≤ b) : ChannelReg b := by
  have hm := mem_blockRows hr
  rw [blockRows_fd hb] at hm
  have hlt : b < 0xF0700000 := by
    refine Decidable.byContradiction fun h => ?_
    rw [if_neg h] at hm
    cases hm
  rw [if_pos hlt] at hm
  have hrows := expertRows_fd r hm (any_expert_of_mem hf he)
  have hhit := regRow_hit hr
  simp only [List.mem_cons, List.not_mem_nil, or_false, Prod.mk.injEq] at hrows
  refine ⟨hb, hlt, ?_⟩
  rcases hrows with ⟨h1, h2⟩ | ⟨h1, h2⟩ | ⟨h1, h2⟩ <;>
    simp only [RegRow.hit, h1, h2, dimsHit, Bool.and_eq_true, decide_eq_true_eq, beq_iff_eq] at hhit <;> omega

theorem expertReg_clk {b : Nat} : expertReg b = 0xF0010000 ↔ 0xF0010000 ≤ b ∧ b < 0xF0020000 := by
  unfold expertReg
  repeat' split
  all_goals omega

theorem expertReg_core {b : Nat} (hb : b < 0xF0600000) : expertReg b < 0xF0600000 := by
  unfold expertReg
  repeat' split
  all_goals omega

theorem read_clearExpert {b : Nat} {r : RegRow} {f : FieldDef} (hr : regRow b = some r) (hf : f ∈ r.fields)
    (he : f.expert = true) (s : State) :
    f.read ((s.clearExpert (expertReg b)).reg b) =
      if 0xF0010010 ≤ b ∧ b < 0xF0010020 then s.sys.dawnOk.delays.getD ((b - 0xF0010010) / 4) 0 % 256
      else f.reset % 2 ^ f.width := by
  unfold State.clearExpert
  by_cases hclk : 0xF0010000 ≤ b ∧ b < 0xF0020000
  · obtain ⟨rfl, hlo, hhi, halign⟩ := expert_clk hr hf he hclk.1 hclk.2
    have haddr : (F.CLK_FDDLY_DLY ((b - 0xF0010010) / 4)).addr = b := by simp only [F.CLK_FDDLY_DLY]; omega
    have h := fld_delays (i := (b - 0xF0010010) / 4) (by omega) s.sys.dawnOk.delays (s.expertToReset (expertReg b))
    unfold State.fld at h
    rw [haddr] at h
    rw [if_pos (expertReg_clk.2 hclk), if_pos ⟨hlo, hhi⟩]
    exact h
  · rw [if_neg (fun h => hclk (expertReg_clk.1 h)), if_neg (by omega)]
    exact read_expertToReset hr hf he s

/-! ### A write that the fabric delivers -/

theorem injOf_none {s : State} (h : s.flt.inj = none) (chk : Nat) : s.injOf chk = none := by
  unfold State.injOf
  rw [h]

theorem busWrite_eq {s : State} (h : s.flt.inj = none) (o : Origin) (a : Nat) (v : Word) (bad : Nat) :
    s.busWrite o a v bad = if 4 ≤ bad then s.raise 2 0 else s.regWrite o a v := by
  unfold State.busWrite
  rw [injOf_none h]

theorem regWrite_outside {s : State} (hm : s.mode ≠ 0) {a : Nat} (ha : isRegister a = false) (o : Origin) (v : Word) :
    s.regWrite o a v = s.raise 2 0 := by
  unfold State.regWrite
  rw [if_neg (show s.mode ≠ Mode.vault from hm), ha, Bool.not_false, if_pos rfl]

theorem regWrite_noRow {s : State} (hm : s.mode ≠ 0) {a : Nat} (ha : isRegister a = true) (hr : regRow a = none) (o : Origin)
    (v : Word) : s.regWrite o a v = s := by
  unfold State.regWrite
  rw [if_neg (show s.mode ≠ Mode.vault from hm), ha, hr, Bool.not_true, if_neg Bool.false_ne_true, Option.isNone_none, if_pos rfl]

theorem regWrite_register {s : State} (hm : s.mode ≠ 0) {a : Nat} (ha : isRegister a = true) (hr : (regRow a).isSome = true)
    (o : Origin) (v : Word) : s.regWrite o a v = s.withExpert a v (State.writeBlock o a v) := by
  unfold State.regWrite
  rw [if_neg (show s.mode ≠ Mode.vault from hm), ha, Bool.not_true, if_neg Bool.false_ne_true,
    if_neg (by rw [Option.isNone_eq_false_iff.2 hr]; exact Bool.false_ne_true)]

theorem writeBlock_quiet {a : Nat} (h : quietBlock a = true) (o : Origin) (v : Word) (s : State) :
    s.writeBlock o a v = s.plainWrite a v := by
  have hcmd : F.PCIE_CMD_KEY.addr = 0xF0120008 := rfl
  simp only [quietBlock, Bool.or_eq_true, Bool.and_eq_true, decide_eq_true_eq] at h
  unfold State.writeBlock
  rcases h with (h | h) | h
  · repeat rw [if_neg (by omega)]
    rw [if_pos (by omega)]
  · repeat rw [if_neg (by omega)]
    rw [if_pos (by omega), if_neg (by omega)]
  · repeat rw [if_neg (by omega)]
    rw [if_pos (by omega)]

/-! ### EXPERT_EN after a write of its register -/

theorem expertReg_idem (a : Nat) : expertReg (expertReg a) = expertReg a := by
  unfold expertReg
  repeat' split
  all_goals omega

/-- The field EXPERT_EN. -/
def enableField : FieldDef := ⟨31, 31, .rw, 0, false⟩

theorem quiet_expertReg {a : Nat} (hq : quietBlock a = true) (ha : isRegister a = true) (he : expertReg a = a) :
    a ∈ [0xF0090000, 0xF00A0000, 0xF00E0000, 0xF0100000, 0xF0110000, 0xF0500000] := by
  simp only [quietBlock, isRegister, Bool.or_eq_true, Bool.and_eq_true, decide_eq_true_eq] at hq ha
  unfold expertReg at he
  simp only [List.mem_cons, List.not_mem_nil, or_false]
  repeat' split at he
  all_goals omega

theorem quiet_enableField : ∀ a ∈ [0xF0090000, 0xF00A0000, 0xF00E0000, 0xF0100000, 0xF0110000, 0xF0500000],
    (regRow a).all (fun r => r.fields.contains enableField) = true := by decide +kernel

theorem enableField_mem {a : Nat} {r : RegRow} (hq : quietBlock a = true) (ha : isRegister a = true) (he : expertReg a = a)
    (hr : regRow a = some r) : enableField ∈ r.fields := by
  have h := quiet_enableField a (quiet_expertReg hq ha he)
  rw [hr, Option.all_some] at h
  exact List.contains_iff_mem.1 h

theorem bitOf_toNat (w : Word) (i : Nat) : bitOf w.toNat i = w.getLsbD i := by
  rw [BitVec.getLsbD, Nat.testBit_eq_decide_div_mod_eq]
  rfl

theorem bitsOf_one (w : Word) (i : Nat) : bitsOf w i 1 = b2n (w.getLsbD i) := by
  rw [← bitOf_toNat]
  unfold bitsOf bitOf b2n
  split <;> simp_all

theorem getLsbD_eq_of_bitsOf {v w : Word} {i : Nat} (h : bitsOf v i 1 = bitsOf w i 1) : v.getLsbD i = w.getLsbD i := by
  rw [bitsOf_one, bitsOf_one] at h
  cases hv : v.getLsbD i <;> cases hw : w.getLsbD i <;> simp_all [b2n]

theorem expertOn_self {a : Nat} (he : expertReg a = a) (s : State) : s.expertOn a = (s.reg a).getLsbD 31 := by
  rw [State.expertOn, he, bitOf_toNat]

theorem withExpert_other {s : State} {a : Nat} (h : s.expertWrite a = false) (v : Word) (f : State → State) :
    s.withExpert a v f = f s := by
  unfold State.withExpert
  rw [h, Bool.not_false, if_pos rfl]

theorem withExpert_set {s : State} {a : Nat} (h : s.expertWrite a = true) {v : Word} (hv : v.getLsbD 31 = true)
    (f : State → State) : s.withExpert a v f = f (s.setReg a (s.reg a ||| 0x80000000)) := by
  simp only [State.withExpert, h, bitOf_toNat, hv, Bool.not_true, Bool.and_false, Bool.false_eq_true, if_true, if_false]

theorem withExpert_unset {s : State} {a : Nat} (h : s.expertWrite a = true) {v : Word} (hv : v.getLsbD 31 = false)
    (f : State → State) : s.withExpert a v f =
      if (s.reg a).getLsbD 31 then (((f s).setReg a ((f s).reg a &&& 0x7FFFFFFF)).clearExpert a).dieCleared a else f s := by
  simp only [State.withExpert, h, bitOf_toNat, hv, Bool.not_true, Bool.not_false, Bool.and_true, Bool.false_eq_true, if_false]

theorem dieCleared_core {a : Nat} (h : a < 0xF0600000) (s : State) : s.dieCleared a = s := by
  unfold State.dieCleared
  rw [if_pos h]

theorem expertWrite_ne {s : State} {a : Nat} (h : a ≠ expertReg a) : s.expertWrite a = false := by
  unfold State.expertWrite
  rw [beq_false_of_ne h, Bool.false_and]

theorem expertWrite_lit {s : State} {a : Nat} (he : expertReg a = a)
    (hd : 0xF0600000 ≤ a → s.dieDark ((a - 0xF0600000) / 0x40000) = false) : s.expertWrite a = true := by
  unfold State.expertWrite
  rw [he, beq_self_eq_true, Bool.true_and, Bool.not_eq_true', Bool.and_eq_false_iff, decide_eq_false_iff_not]
  exact (Decidable.em (0xF0600000 ≤ a)).symm.imp_right hd

theorem enable_plainWrite {a : Nat} {r : RegRow} (hr : regRow a = some r) (hf : enableField ∈ r.fields) (v : Word) (s : State) :
    ((s.plainWrite a v).reg a).getLsbD 31 = v.getLsbD 31 :=
  getLsbD_eq_of_bitsOf (written_plainWrite hr v s enableField hf nofun)

/-- EXPERT_EN of a quiet block reads what was written: set, it is a bit of the plain write; cleared, the reset of the block's
expert fields leaves it. -/
theorem expertOn_withExpert_quiet {s : State} {a : Nat} {r : RegRow} (hq : quietBlock a = true) (ha : isRegister a = true)
    (he : expertReg a = a) (hr : regRow a = some r) (hw : s.expertWrite a = true) (o : Origin) (v : Word) :
    (s.withExpert a v (State.writeBlock o a v)).expertOn a = v.getLsbD 31 := by
  have hf := enableField_mem hq ha he hr
  have hwrite (t : State) : ((t.writeBlock o a v).reg a).getLsbD 31 = v.getLsbD 31 := by
    rw [writeBlock_quiet hq]; exact enable_plainWrite hr hf v t
  rw [expertOn_self he]
  cases hv : v.getLsbD 31 with
  | true => rw [withExpert_set hw hv, hwrite, hv]
  | false =>
    rw [withExpert_unset hw hv]
    split
    · have hlow : a < 0xF0600000 ∧ a ≠ 0xF0010000 := by
        simp only [quietBlock, Bool.or_eq_true, Bool.and_eq_true, decide_eq_true_eq] at hq
        omega
      have hkeep (t : State) : ((t.expertToReset a).reg a).getLsbD 31 = (t.reg a).getLsbD 31 :=
        getLsbD_eq_of_bitsOf (read_expertToReset_plain hr hf rfl a t)
      rw [dieCleared_core hlow.1, State.clearExpert, if_neg hlow.2, hkeep, reg_setReg_self]
      simp
    · rw [hwrite, hv]

theorem writeBlock_clkCtrl_sys (o : Origin) (v : Word) (s : State) : (s.writeBlock o 0xF0010000 v).sys = s.sys :=
  (sameBut_plainWrite s 0xF0010000 v) .sys (by simp)

/-- After a write that clears EXPERT_EN an expert field of the block reads its reset value, a delay what DAWN measured. -/
theorem read_withExpert_cleared {s : State} {b : Nat} {r : RegRow} {f : FieldDef} (hr : regRow b = some r) (hf : f ∈ r.fields)
    (hx : f.expert = true) (hw : s.expertWrite (expertReg b) = true) (hon : s.expertOn (expertReg b) = true) {v : Word}
    (hv : v.getLsbD 31 = false) (o : Origin) :
    f.read ((s.withExpert (expertReg b) v (State.writeBlock o (expertReg b) v)).reg b) =
      if 0xF0010010 ≤ b ∧ b < 0xF0010020 then s.sys.dawnOk.delays.getD ((b - 0xF0010010) / 4) 0 % 256
      else f.reset % 2 ^ f.width := by
  rw [expertOn_self (expertReg_idem b)] at hon
  rw [withExpert_unset hw hv, if_pos hon]
  have hdie (t : State) : (t.dieCleared (expertReg b)).reg b = t.reg b := by
    by_cases hb : 0xF0600000 ≤ b
    · exact reg_dieCleared_channel (channelReg_of_expert hr hf hx hb) _ t
    · rw [dieCleared_core (expertReg_core (Nat.lt_of_not_le hb))]
  rw [hdie, read_clearExpert hr hf hx]
  split
  · rename_i hb
    rw [expertReg_clk.2 ⟨by omega, by omega⟩, setReg_sys, writeBlock_clkCtrl_sys]
  · rfl

/-! ### The commands -/

theorem regAddr_word (off : BitVec 24) : regAddr off / 4 * 4 = 0xF0000000 + off.toNat / 4 * 4 := by
  unfold regAddr
  omega

theorem registerWrite_vault {s : State} (hm : s.mode = 0) (o : Origin) (off : BitVec 24) (w : Width) (v : Word) (bad : Fin 5) :
    exec (.registerWrite o off w v bad) s = .next s :=
  congrArg Host.Outcome.next (if_pos hm)

theorem registerWrite_narrow {s : State} (hm : s.mode ≠ 0) {w : Width} (hw : w ≠ .b4) (o : Origin) (off : BitVec 24) (v : Word)
    (bad : Fin 5) : exec (.registerWrite o off w v bad) s = .next (s.raise 2 0) := by
  cases w with
  | b4 => exact absurd rfl hw
  | _ => exact congrArg Host.Outcome.next (if_neg hm)

theorem registerWrite_word {s : State} (hm : s.mode ≠ 0) (hi : s.flt.inj = none) (o : Origin) (off : BitVec 24) (v : Word)
    (bad : Fin 5) :
    exec (.registerWrite o off .b4 v bad) s =
      .next (if bad = 4 then s.raise 2 0 else s.regWrite o (0xF0000000 + off.toNat / 4 * 4) v) := by
  refine congrArg Host.Outcome.next ((if_neg hm).trans ?_)
  rw [regAddr_word]
  dsimp only
  rw [busWrite_eq hi]
  exact ite_congr (propext ⟨fun h => by omega, fun h => by omega⟩) (fun _ => rfl) fun _ => rfl

theorem expertEnWrite_eq {s : State} (hm : s.mode ≠ 0) (hi : s.flt.inj = none) (o : Origin) (off : BitVec 24) (v : Word)
    (ha : isRegister (expertReg (0xF0000000 + off.toNat)) = true)
    (hr : (regRow (expertReg (0xF0000000 + off.toNat))).isSome = true) :
    exec (.expertEnWrite o off v) s = .next (s.withExpert (expertReg (0xF0000000 + off.toNat)) v
      (State.writeBlock o (expertReg (0xF0000000 + off.toNat)) v)) := by
  refine congrArg Host.Outcome.next ?_
  rw [busWrite_eq hi, if_neg (by decide)]
  exact regWrite_register hm ha hr o v

theorem registerWrite_raises {s : State} (hm : s.mode ≠ 0) (hi : s.flt.inj = none) (o : Origin) (off : BitVec 24) (w : Width)
    (v : Word) (bad : Fin 5) (h : w ≠ .b4 ∨ bad = 4 ∨ isRegister (0xF0000000 + off.toNat / 4 * 4) = false) :
    Completes (.registerWrite o off w v bad) s (Raised 2 s) := by
  refine ⟨s.raise 2 0, ?_, raised_raise (by decide) 0 0 false s⟩
  by_cases hw : w = .b4
  · subst hw
    rw [registerWrite_word hm hi]
    rcases h with h | h | h
    · exact absurd rfl h
    · rw [if_pos h]
    · rw [regWrite_outside hm h, ite_self]
  · exact registerWrite_narrow hm hw o off v bad

/-- Settles O17: a write that is delivered is a plain write but for EXPERT_EN, and a plain write treats the fields, which share
no bit, each by its type. Clearing EXPERT_EN goes over every listed register of the block, and an unlisted one reads its reset
value; what follows it in a die writes no expert field. -/
theorem registerWrites : Obligations.RegisterWrites := by
  unfold Obligations.RegisterWrites
  refine ⟨fun o off w v bad r s => ⟨fun hm => ?vault, fun hm hi => ?_⟩, fun o off v b r f s hm hi ha hr hd => ?enable⟩
  case vault => exact ⟨s, registerWrite_vault hm o off w v bad, sameBut_self _ s⟩
  case enable =>
    have he := expertReg_idem (0xF0000000 + off.toNat)
    have hw := expertWrite_lit he hd
    have hexec := expertEnWrite_eq hm hi o off v ha hr
    obtain ⟨row, hrow⟩ := Option.isSome_iff_exists.1 hr
    refine ⟨fun hq => ⟨_, hexec, expertOn_withExpert_quiet hq ha he hrow hw o v⟩,
      fun hon hv hb hr' hf hx => ⟨_, hexec, ?_⟩⟩
    rw [← hb] at hw hon ⊢
    exact read_withExpert_cleared hr' hf hx hw hon hv o
  have hraise := registerWrite_raises hm hi o off w v bad
  refine ⟨fun h => hraise (.inl h), fun h => hraise (.inr (.inl h)), fun h => hraise (.inr (.inr h)), fun hb ha => ?_⟩
  have hexec := registerWrite_word hm hi o off v bad
  rw [if_neg (by omega)] at hexec
  refine ⟨fun hr => ?noRow, fun hr hq he => ?quiet⟩
  case noRow =>
    rw [regWrite_noRow hm ha hr] at hexec
    exact ⟨s, hexec, sameBut_self _ s⟩
  case quiet =>
    rw [regWrite_register hm ha (Option.isSome_of_eq_some hr), withExpert_other (expertWrite_ne he), writeBlock_quiet hq] at hexec
    exact ⟨_, hexec, written_plainWrite hr v s, fun c hc => reg_plainWrite_ne hc v s, sameBut_plainWrite s _ v⟩

end Sys2Proof.Machine
end
